-- ==== Sys2Proof/Word.lean ====
section
/-!
DEFINITION. The word types of the module: bytes, 64-bit registers (R55), 48-bit device addresses
(R27), 64-byte payload words (R39, R63).
-/
namespace Sys2Proof

/-- One byte of device memory (R12). -/
abbrev Byte := BitVec 8

/-- One register of a page (R53: every write is atomic over its 64-bit register). -/
abbrev Word := BitVec 64

/-- A device address (R27: one 48-bit address space). -/
abbrev Addr := BitVec 48

/-- A 64-byte payload word of a flit, and one word of a descriptor (R39, R63). -/
abbrev Word512 := BitVec 512

end Sys2Proof
end

