-- ==== Sys2Proof/Syntax.lean ====
section
/-!
DEFINITION. The commands of the block: one constructor of `Instr` for each row of spec/opcode_table.json, with the row's
operands, and the types of those operands. An operand `id` is the number of a descriptor that has been issued (`Flight.id`),
`via` says by which port a register write comes, and an operand that a rule leaves to the world outside the module (a
measured value, what a standard decodes, what a self-test finds) is given with the command.
-/
namespace Sys2Proof

/-- What a stage of cold bring-up finds (R529): whether the PUF's seed could be corrected, and needed more than half the
code's capacity; whether the factory record verifies and is bound to the identity; whether the PLLs lock; the Hedgerow
links that trained (0 to 7 Field–Steading, 8 to 13 Field–Field); the stacks whose training passed; the arrays, Harrow
engines, decoder cores and adder lanes that passed their self-tests; and the Reeve cores that did, core c of place p
(8 the Steading) at bit 8p + c. -/
structure BringUp where
  seedOk : Bool
  manyCorrections : Bool
  factoryOk : Bool
  pllsLocked : Bool
  links : BitVec 14
  stackList : BitVec 24
  arrays : BitVec 8
  engines : BitVec 16
  decoders : BitVec 16
  adders : BitVec 8
  reeve : BitVec 72
  deriving DecidableEq, Repr

/-- A hardware error in one row of an array (R128): changes of column lane values made before the column trees (a weight
held, an operand, a multiplier or a placement) and inside them; in the 16-bit shape the residues that erroneous products
shift by with the sum that both trees then give, and columns whose first tree alone gives another sum; and changes of the
checksum column's own residue, by half of the array. -/
structure CheckFault where
  lanes : List (Fin 1024 × BitVec 80)
  trees : List (Fin 1024 × BitVec 80)
  products : List (Fin 1024 × Fin 65535 × BitVec 32)
  copies : List (Fin 1024 × BitVec 32)
  checksum : List (Fin 2 × Fin 65535)
  deriving DecidableEq, Repr

/-- What a sample's header says, as the standard of its kind gives it (R321, R322): whether its form is
supported in its profile, tier and coding features, whether the input ends inside it or is malformed; dimensions, bit
depth (0 for floats), chroma format (R335's code), channels interleaved in a PNG or components of a JPEG, reference
buffers, the signalled total of pictures or samples, audio channels and rate, whether a JPEG is progressive, ten times
the number of the level, and the bits and the syntax units that the header takes (R325). -/
structure HdrInfo where
  supported : Bool
  short : Bool
  malformed : Bool
  width : Nat
  height : Nat
  depth : Nat
  chroma : Nat
  comps : Nat
  refs : Nat
  total : Option Nat
  channels : Nat
  rate : Nat
  progressive : Bool
  level : Nat
  bits : Nat
  units : Nat
  deriving DecidableEq, Repr

/-- What a syntax unit decodes to, as its standard gives it (R326): its bits; 0 well formed, 1 malformed,
2 the input ends inside it; pictures decoded in it; output it completes: pictures as the sample values of their planes Y,
Cb and Cr row by row (a PNG as one plane with its channels interleaved, AV1 without film grain), blocks as bytes, audio as
the sample codes of each channel; and whether the stream ends with it. -/
structure SynUnit where
  bits : Nat
  state : Nat
  decoded : Nat
  pics : List (List (List Nat))
  blocks : List (List Byte)
  audio : List (List Nat)
  last : Bool
  deriving DecidableEq, Repr

/-- A packet that reaches a live flow's UDP port (R437): the stream, its link, whether its addresses are IPv6, its
destination and source addresses (IPv4 in the low 32 bits) and its UDP destination port. Then the packet as its format's
standard reads it (R355 to R357): the extended sequence number, the RTP timestamp, the marker bit, whether its format is the stream's; the sample codes it
carries, for video by their position in the layout of R320, for audio by channel. -/
structure LivePkt where
  stream : Fin 8
  link : Fin 64
  v6 : Bool
  dest : BitVec 128
  source : BitVec 128
  port : BitVec 16
  seq : Nat
  stamp : BitVec 32
  marker : Bool
  formatOk : Bool
  video : List (Nat × Nat)
  audio : List (List Nat)
  deriving DecidableEq, Repr

/-- A seal (R378): its number, the included and the flagging positions, the outcome, the Almanac time of the
decision cycle, and the time at which this seal was decided. -/
structure SealRec where
  num : Nat
  included : List Nat
  flags : List Nat
  outcome : Nat
  time : Nat
  issued : Nat
  deriving DecidableEq, Repr

/-- A ready token, or its withdrawal (R375, R380, R388): the sender's position, its digest (the list of the
values it covers), its non-finite flag, and the collective's work_id. -/
structure TokenMsg where
  pos : Nat
  digest : List Nat
  nf : Bool
  withdraw : Bool
  work : Nat
  deriving DecidableEq, Repr

/-- A block on the wire (R367, R371, R409): the sender's position, its seal number, tree, block, kind (0 a
contribution or partial sum, 1 a result, 2 a repaired result), residue and element codes; and, of the
receiving side, the adder lanes that mismatch on it (R373). -/
structure BlockMsg where
  sender : Nat
  sealNo : Nat
  tree : Nat
  block : Nat
  kind : Nat
  residue : Nat
  elems : List Nat
  faults : List (Fin 8)
  deriving DecidableEq, Repr

/-- What REPAIR_REQUEST does: this module asks for what it misses (R402); another position asks for a range of a tree
from an offset on (R402); another position asks again for one block, of a kind, whose residue it found wrong (R372). -/
inductive RepairAsk where
  | fetch
  | range (offset bytes : Nat)
  | block (block kind : Nat)
  deriving DecidableEq, Repr

/-- What the message of a DATA packet asks or brings: its layout beyond the Swath header is not stated. For
READ and WRITE (R429) a write to a remote address, a request to read, data for a request by its message
identifier; for recovery (R479, R480, R488) a pairing message (power domain; 0 a request, 1 accepted, 2 refused),
buddy data or a seal record for a slot and an offset in it, a request to read a slot; or anything else. -/
inductive SwathBody where
  | other
  | write (addr : Nat)
  | readReq (addr len : Nat)
  | readData (msg : Nat)
  | pairing (domain answer : Nat)
  | slotWrite (slot off : Nat)
  | slotSeal (slot off : Nat)
  | slotRead (slot off len : Nat)
  deriving DecidableEq, Repr

/-- A received transport packet: the link, whether its frame stays within the features of R416 with its checksums right,
whether the frame carried a CE mark, the Swath header and payload as bytes (R420), and what its message is. -/
structure SwathRx where
  link : Fin 64
  frameOk : Bool
  ce : Bool
  bytes : List Byte
  body : SwathBody
  deriving DecidableEq, Repr

/-- A PTP message as IEEE 1588 reads it (R438): its link, whether it is a Sync, whether its timestamp was captured,
and the port state, offset, path delay and grandmaster after it. -/
structure PtpMsg where
  link : Fin 64
  sync : Bool
  stamped : Bool
  portState : Fin 8
  offset : BitVec 64
  pathDelay : BitVec 64
  grandmaster : BitVec 64
  deriving DecidableEq, Repr

/-- How a register write reaches the module: a Hitch REG_WRITE flit with its sequence number and tag (R39, R41), a
management Ethernet datagram with its sequence and tag (R545), a two-wire block write to the module's own address with a
good PEC (R546), or the test port's private instruction (R547). -/
inductive Via where
  | hitch (seq : BitVec 12) (tag : BitVec 8)
  | ethernet (seq : BitVec 32) (tag : BitVec 8)
  | twoWire
  | jtag
  deriving DecidableEq, Repr

/-- A command of the block. What each does is `Machine.exec`; each constructor names its row and the rule of the row. -/
inductive Instr where
  /-- REGISTER_WRITE (R52). -/
  | registerWrite (seq : BitVec 12) (header : BitVec 64) (payload : Word512)
  /-- PG_EVENT_CLEAR (R58). -/
  | pgEventClear (via : Via) (page : BitVec 16) (bits : Word)
  /-- PG_ERR_CODE_CLEAR (R55). -/
  | pgErrCodeClear (via : Via) (page : BitVec 16) (value : Word)
  /-- BLOCK_RESET (R567). -/
  | blockReset (via : Via) (page : BitVec 16) (enable : Bool) (gate : Bool)
  /-- PG_CTRL_ENABLE_WRITE (R71). -/
  | pgCtrlEnableWrite (via : Via) (page : BitVec 16) (enable : Bool) (gate : Bool)
  /-- HITCH_TRAINING_STEP (R43). -/
  | hitchTrainingStep (lanesOk : BitVec 8)
  /-- HITCH_TRAINING_TIMEOUT (R43). -/
  | hitchTrainingTimeout
  /-- LINK_CTRL_RECEIVED (R569). -/
  | linkCtrlReceived (header : BitVec 64) (payload : Word512)
  /-- FEC_CODEWORD_UNCORRECTABLE (R41). -/
  | fecCodewordUncorrectable
  /-- REPLAY_REQUEST_REPEAT (R569). -/
  | replayRequestRepeat
  /-- STATUS_WORD_SEND (R46). -/
  | statusWordSend
  /-- HITCH_REPLAY_LIMIT (R47). -/
  | hitchReplayLimit
  /-- EVENT_RECORD_SEND (R569). -/
  | eventRecordSend (n : Fin 4)
  /-- HOST_WAIT_LATE (R80). -/
  | hostWaitLate (wait : Nat)
  /-- JOB_PAUSE (R81). -/
  | jobPause (via : Via)
  /-- JOB_RESUME (R81). -/
  | jobResume (via : Via)
  /-- DW_PORT_WRITE (R61). -/
  | dwPortWrite (seq : BitVec 12) (tag : BitVec 8) (window : Fin 4) (data : Word512)
  /-- DW_PORT_READ (R61). -/
  | dwPortRead (seq : BitVec 12) (tag : BitVec 8) (window : Fin 4)
  /-- CMD_PORT_WRITE (R64). -/
  | cmdPortWrite (seq : BitVec 12) (tag : BitVec 8) (window : Fin 16) (data : Word512)
  /-- RESUME_WRITES (R64). -/
  | resumeWrites (via : Via) (window : Fin 16)
  /-- RESUME_ISSUE (R69). -/
  | resumeIssue (via : Via) (window : Fin 16)
  /-- DESCRIPTOR_PARSE (R68). -/
  | descriptorParse (window : Fin 16)
  /-- DESCRIPTOR_ISSUE (R63). -/
  | descriptorIssue (window : Fin 16)
  /-- NOP (R67). -/
  | nop (id : Nat)
  /-- SIGNAL (R67). -/
  | signal (id : Nat)
  /-- REEVE_CORE_ECC (R72). -/
  | reeveCoreEcc (place : Fin 9) (core : Fin 8) (held : List Nat)
  /-- REEVE_WATCHDOG (R72). -/
  | reeveWatchdog (place : Fin 9) (core : Fin 8) (held : List Nat)
  /-- REEVE_FORCE_FAIL (R72). -/
  | reeveForceFail (via : Via) (field : Fin 8) (cores : BitVec 8)
  /-- HEDGE_FLIT_CRC_FAIL (R19). -/
  | hedgeFlitCrcFail (link : Fin 14)
  /-- HEDGE_REROUTED (R20). -/
  | hedgeRerouted (link : Fin 6)
  /-- HEDGE_FIELD_LOST (R21). -/
  | hedgeFieldLost (field : Fin 8)
  /-- PASS (R140). -/
  | pass (id : Nat)
  /-- PASS_SHADOW_LOAD_START (R148). -/
  | passShadowLoadStart (id : Nat)
  /-- PASS_SHADOW_LOAD_DONE (R112). -/
  | passShadowLoadDone (id : Nat)
  /-- PASS_SWAP (R113). -/
  | passSwap (id : Nat) (stalls : Nat)
  /-- PASS_ROW_ENTER (R117). -/
  | passRowEnter (id : Nat) (stalls : Nat)
  /-- PASS_ROW_ADD (R117). -/
  | passRowAdd (id : Nat) (mismatch : Option CheckFault)
  /-- PASS_COMPLETE (R148). -/
  | passComplete (id : Nat)
  /-- ARRAY_FAIL (R130). -/
  | arrayFail (field : Fin 8)
  /-- ARRAY_FORCE_FAIL (R137). -/
  | arrayForceFail (via : Via) (field : Fin 8) (value : Word)
  /-- HELPER_REISSUE (R131). -/
  | helperReissue (field : Fin 8)
  /-- READOUT (R179). -/
  | readout (id : Nat)
  /-- PRELOAD (R182). -/
  | preload (id : Nat)
  /-- CLEAR (R182). -/
  | clear (id : Nat)
  /-- SAVE_RAW (R183). -/
  | saveRaw (id : Nat)
  /-- LOAD_RAW (R183). -/
  | loadRaw (id : Nat)
  /-- REDUCE (R171). -/
  | reduce (id : Nat)
  /-- GLEAN_ECC (R162). -/
  | gleanEcc (field : Fin 8) (row : Fin 2048) (col : Fin 1024) (access : BitVec 8) (workId : BitVec 32) (corrected : Bool)
  /-- MAP (R201). -/
  | map (id : Nat) (unit : Nat)
  /-- ROWREDUCE (R205). -/
  | rowReduce (id : Nat) (unit : Nat)
  /-- SOFTMAX (R206). -/
  | softmax (id : Nat) (unit : Nat)
  /-- NORM (R207). -/
  | norm (id : Nat) (unit : Nat)
  /-- OPTIM (R208). -/
  | optim (id : Nat) (unit : Nat)
  /-- HARROW_UNIT_DEAL (R192). -/
  | harrowUnitDeal (engine : Fin 16) (thread : Fin 16) (starved : Nat)
  /-- HARROW_ENGINE_FAIL (R213). -/
  | harrowEngineFail (engine : Fin 16) (thread : Fin 16) (check : Fin 4)
  /-- HARROW_FORCE_FAIL (R218). -/
  | harrowForceFail (via : Via) (engine : Fin 16) (value : Word)
  /-- CLOSE_STEP (R225). -/
  | closeStep (id : Nat)
  /-- SET_TAGS (R238). -/
  | setTags (id : Nat)
  /-- SAVE_STATE (R238). -/
  | saveState (id : Nat)
  /-- LOAD_STATE (R238). -/
  | loadState (id : Nat)
  /-- PROBE (R238). -/
  | probe (id : Nat)
  /-- WINNOW_ENABLE (R240). -/
  | winnowEnable (via : Via) (field : Fin 8) (gate : Bool)
  /-- WN_CONFIG_WRITE (R241). -/
  | wnConfigWrite (via : Via) (field : Fin 8) (value : Word)
  /-- WN_SILENT_MASK_WRITE (R235). -/
  | wnSilentMaskWrite (via : Via) (field : Fin 8) (value : Word)
  /-- TILTH_LAYOUT_WRITE (R247). -/
  | tilthLayoutWrite (via : Via) (field : Fin 8) (value : Word)
  /-- TILTH_BANK_STATE_WRITE (R252). -/
  | tilthBankStateWrite (via : Via) (field : Fin 8) (set : Fin 3) (value : Word)
  /-- BANK_TRANSITION_START (R252). -/
  | bankTransitionStart (field : Fin 8) (bank : Fin 96)
  /-- BANK_TRANSITION_DONE (R251). -/
  | bankTransitionDone (field : Fin 8) (bank : Fin 96)
  /-- TILTH_ECC_UNCORRECTABLE (R256). -/
  | tilthEccUncorrectable (addr : Addr) (requester : Fin 8) (workId : BitVec 32)
  /-- TILTH_ECC_WRITEBACK (R255). -/
  | tilthEccWriteback (addr : Addr)
  /-- PLOT_TEST_START (R258). -/
  | plotTestStart (field : Fin 8) (bank : Fin 96)
  /-- PLOT_TEST_END (R258). -/
  | plotTestEnd (field : Fin 8) (bank : Fin 96) (passed : Bool) (flashOk : Bool)
  /-- PLOT_TEST_STEAL (R260). -/
  | plotTestSteal (field : Fin 8) (bank : Fin 96)
  /-- TT_CONTROL_WRITE (R263). -/
  | ttControlWrite (via : Via) (field : Fin 8) (value : Word)
  /-- FILL (R290). -/
  | fill (id : Nat)
  /-- DEMOTE (R290). -/
  | demote (id : Nat)
  /-- GRANARY_ECC (R280). -/
  | granaryEcc (addr : Addr) (cls : Fin 5) (workId : BitVec 32)
  /-- GRANARY_SCRUB (R281). -/
  | granaryScrub (addr : Addr) (outcome : Fin 3)
  /-- GRANARY_REFRESH (R282). -/
  | granaryRefresh (stack : Fin 24) (pc : Fin 32)
  /-- GRANARY_TEMP_READ (R283). -/
  | granaryTempRead (stack : Fin 24) (celsius : Int)
  /-- GRANARY_RETRAIN (R285). -/
  | granaryRetrain (stack : Fin 24) (pc : Fin 32) (laneRepaired : Bool)
  /-- FRESH_BLOCK_ZERO (R286). -/
  | freshBlockZero (stack : Fin 24)
  /-- GRANARY_STACK_FAIL (R288). -/
  | granaryStackFail (stack : Fin 24) (cause : Fin 3)
  /-- GRANARY_FORCE_FAIL (R287). -/
  | granaryForceFail (via : Via) (stack : Fin 24) (value : Word)
  /-- COPY (R303). -/
  | copy (id : Nat)
  /-- RING_SETUP (R305). -/
  | ringSetup (id : Nat)
  /-- RING_CREDIT (R307). -/
  | ringCredit (id : Nat)
  /-- DRILL_CANCEL (R311). -/
  | drillCancel (id : Nat) (field : Fin 8)
  /-- DRILL_START (R298). -/
  | drillStart (id : Nat) (gateWait : Nat) (creditWait : Nat) (limitWait : Nat)
  /-- DRILL_COMPLETE (R300). -/
  | drillComplete (id : Nat) (discarded : Nat)
  /-- HEADLAND_GATE_OPEN (R309). -/
  | headlandGateOpen (id : Nat)
  /-- DECODE (R335). -/
  | decode (id : Nat)
  /-- COULTER_CANCEL (R337). -/
  | coulterCancel (id : Nat)
  /-- SAMPLE_START (R318). -/
  | sampleStart (sample : Nat) (hdr : HdrInfo)
  /-- ARENA_ALLOCATE (R324). -/
  | arenaAllocate (sample : Nat) (granules : List Nat)
  /-- DECODE_SYNTAX_UNIT (R326). -/
  | decodeSyntaxUnit (sample : Nat) (unit : SynUnit)
  /-- DEC_CORE_HUNG (R333). -/
  | decCoreHung (core : Fin 16)
  /-- DEC_CORE_ECC (R334). -/
  | decCoreEcc (core : Fin 16)
  /-- DEC_CORE_FORCE_FAIL (R334). -/
  | decCoreForceFail (via : Via) (core : Fin 16) (value : Word)
  /-- BATCH (R343). -/
  | batch (id : Nat) (area : Nat) (granules : List Nat)
  /-- BATCH_START (R345). -/
  | batchStart (id : Nat)
  /-- BATCH_SEAL (R346). -/
  | batchSeal (id : Nat)
  /-- WINDROW_RELEASE (R347). -/
  | windrowRelease (id : Nat)
  /-- CRIB_FLUSH (R354). -/
  | cribFlush (via : Via)
  /-- LIVE_STREAM_ENABLE (R361). -/
  | liveStreamEnable (via : Via) (stream : Fin 8) (value : Word)
  /-- LIVE_PACKET (R356). -/
  | livePacket (packet : LivePkt)
  /-- LIVE_TAKE (R358). -/
  | liveTake (id : Nat)
  /-- LIVE_WAIT_EXPIRY (R358). -/
  | liveWaitExpiry (id : Nat)
  /-- LIVE_STREAM_LOST (R361). -/
  | liveStreamLost (stream : Fin 8)
  /-- ALLREDUCE (R364). -/
  | allReduce (id : Nat)
  /-- REDUCE_SCATTER (R365). -/
  | reduceScatter (id : Nat)
  /-- THR_REDUCE (R364). -/
  | thrReduce (id : Nat)
  /-- VERDICT (R385). -/
  | verdict (id : Nat) (maxima : List (Nat × Int))
  /-- THRESHER_CANCEL (R388). -/
  | thresherCancel (id : Nat)
  /-- BROADCAST (R393). -/
  | broadcast (id : Nat)
  /-- ALLGATHER (R393). -/
  | allGather (id : Nat)
  /-- ALLTOALL (R393). -/
  | allToAll (id : Nat)
  /-- COLLECTIVE_START (R375). -/
  | collectiveStart (id : Nat)
  /-- READY_TOKEN (R376). -/
  | readyToken (channel : Fin 32) (number : Nat) (token : TokenMsg)
  /-- DEADLINE_EXPIRY (R376). -/
  | deadlineExpiry (channel : Fin 32) (number : Nat)
  /-- SEAL (R378). -/
  | sealMade (channel : Fin 32) (number : Nat)
  /-- SEAL_RECEIVED (R378). -/
  | sealReceived (channel : Fin 32) (number : Nat) (record : SealRec)
  /-- SEAL_RESEND_REQUEST (R381). -/
  | sealResendRequest (channel : Fin 32) (number : Nat) (position : Nat)
  /-- THR_NO_SEAL (R381). -/
  | thrNoSeal (id : Nat)
  /-- BLOCK_RECEIVED (R372). -/
  | blockReceived (channel : Fin 32) (number : Nat) (block : BlockMsg)
  /-- SEGMENT_ACK (R400). -/
  | segmentAck (channel : Fin 32) (number : Nat) (tree : Nat) (child : Nat) (bytes : Nat)
  /-- DATA_LIMIT_EXPIRY (R380). -/
  | dataLimitExpiry (channel : Fin 32) (number : Nat) (undelivered : List Nat)
  /-- PEER_REPORT (R410). -/
  | peerReport (channel : Fin 32) (number : Nat) (reporter : Nat) (peer : Nat)
  /-- REPORT_DECISION (R410). -/
  | reportDecision (channel : Fin 32) (number : Nat)
  /-- CHILD_DETACH (R401). -/
  | childDetach (channel : Fin 32) (number : Nat) (tree : Nat) (child : Nat) (offsets : List Nat)
  /-- REPAIR_REQUEST (R402). -/
  | repairRequest (channel : Fin 32) (number : Nat) (tree : Nat) (other : Nat) (ask : RepairAsk)
  /-- COLLECTIVE_COMPLETE (R406). -/
  | collectiveComplete (id : Nat)
  /-- REPAIR_LIMIT_EXPIRY (R407). -/
  | repairLimitExpiry (id : Nat)
  /-- SWATH_LINK_DOWN (R415). -/
  | swathLinkDown (port : Fin 8) (lane : Fin 8)
  /-- SWATH_LINK_RETRAIN (R415). -/
  | swathLinkRetrain (link : Fin 64) (trained : Bool)
  /-- LASER_LOW (R419). -/
  | laserLow (port : Fin 8)
  /-- LASER_RESTORED (R419). -/
  | laserRestored (port : Fin 8)
  /-- PFC_PAUSE (R418). -/
  | pfcPause (port : Fin 8) (priorities : BitVec 8)
  /-- DATA_RECEIVED (R421). -/
  | dataReceived (rx : SwathRx)
  /-- ACK_RECEIVED (R424). -/
  | ackReceived (rx : SwathRx)
  /-- NACK_RECEIVED (R430). -/
  | nackReceived (rx : SwathRx) (msg : BitVec 32)
  /-- ACK_TIMER (R423). -/
  | ackTimer (endpoint : Nat)
  /-- RTO_EXPIRY (R425). -/
  | rtoExpiry (endpoint : Nat) (seq : BitVec 32)
  /-- PROBE_RECEIVED (R422). -/
  | probeReceived (rx : SwathRx)
  /-- PROBE_REPLY_RECEIVED (R422). -/
  | probeReplyReceived (rx : SwathRx)
  /-- PROBE_TIMER (R427). -/
  | probeTimer (endpoint : Nat)
  /-- PEER_UNREACHABLE (R427). -/
  | peerUnreachable (endpoint : Nat)
  /-- SWATH_WRITE (R429). -/
  | swathWrite (id : Nat)
  /-- SWATH_READ (R429). -/
  | swathRead (id : Nat)
  /-- SWATH_CANCEL (R429). -/
  | swathCancel (id : Nat)
  /-- PLAN_LOAD (R433). -/
  | planLoad (via : Via)
  /-- PLAN_UNLOAD (R441). -/
  | planUnload (via : Via)
  /-- LLDP_SEND (R434). -/
  | lldpSend
  /-- LLDP_RECEIVED (R434). -/
  | lldpReceived (link : Fin 64) (chassisType : BitVec 8) (portType : BitVec 8) (chassis : List Byte) (port : List Byte)
  /-- DISCOVERY_LIMIT (R435). -/
  | discoveryLimit
  /-- PTP_MESSAGE (R438). -/
  | ptpMessage (message : PtpMsg)
  /-- ALMANAC_TICK (R444). -/
  | almanacTick
  /-- ALMANAC_MEASUREMENT (R446). -/
  | almanacMeasurement (offset : Int)
  /-- PPS_IN_EDGE (R446). -/
  | ppsInEdge
  /-- ALMANAC_HOLDOVER (R447). -/
  | almanacHoldover
  /-- LAUNCH_GATE_FIRE (R449). -/
  | launchGateFire (id : Nat)
  /-- WAIT_MET (R454). -/
  | waitMet (domain : Fin 9)
  /-- FLAG_SET (R452). -/
  | flagSet (via : Via) (domain : Fin 9) (flag : Fin 1024)
  /-- FLAG_CLEAR (R452). -/
  | flagClear (via : Via) (domain : Fin 9) (flag : Fin 1024)
  /-- FURLONG_RUN (R460). -/
  | furlongRun (id : Nat)
  /-- FURLONG_STOP (R463). -/
  | furlongStop (id : Nat)
  /-- STEP_EXPANSION (R462). -/
  | stepExpansion
  /-- PHASE_COMPLETE (R468). -/
  | phaseComplete (step : Nat) (pre : Bool) (phase : Nat)
  /-- STEP_COMPLETE (R462). -/
  | stepComplete (step : Nat)
  /-- LEDGER_RECORDS_WRITE (R469). -/
  | ledgerRecordsWrite (via : Via) (value : Word)
  /-- REBASE_SUBMIT (R465). -/
  | rebaseSubmit (via : Via) (value : Word)
  /-- REBASE (R465). -/
  | rebase
  /-- COMMIT (R475). -/
  | commit (id : Nat)
  /-- BUDDY_SEND (R480). -/
  | buddySend (id : Nat)
  /-- BUDDY_SEAL_RECEIVED (R480). -/
  | buddySealReceived (slot : Fin 2) (offset : Nat)
  /-- STOOK_TAKE (R482). -/
  | stookTake (id : Nat)
  /-- STOOK_STAGED (R482). -/
  | stookStaged (id : Nat)
  /-- DRAIN_ACK (R484). -/
  | drainAck (via : Via) (value : Word)
  /-- REFILL (R488). -/
  | refill (id : Nat)
  /-- FILL_READY (R488). -/
  | fillReady (via : Via) (value : Word)
  /-- PAIR_REQUEST (R479). -/
  | pairRequest (via : Via) (endpoint : BitVec 16) (override : Bool)
  /-- UNPAIR (R490). -/
  | unpair (via : Via) (endpoint : BitVec 16) (override : Bool)
  /-- PAIRING_MESSAGE (R479). -/
  | pairingMessage (endpoint : Nat) (domain : Fin 64) (answer : Fin 3)
  /-- TARGET_RUN (R495). -/
  | targetRun (via : Via)
  /-- TARGET_REST (R494). -/
  | targetRest (via : Via)
  /-- TARGET_FALLOW (R494). -/
  | targetFallow (via : Via)
  /-- TARGET_WINTER (R494). -/
  | targetWinter (via : Via)
  /-- POWER_STATE_REACHED (R494). -/
  | powerStateReached
  /-- IDLE_ENTRY (R493). -/
  | idleEntry
  /-- FALLOW_HITCH_WAKE (R495). -/
  | fallowHitchWake (lanes : BitVec 8)
  /-- GOVERNOR_WINDOW (R499). -/
  | governorWindow (report : Int) (millivolts : Nat) (estimate : Nat)
  /-- JUNCTION_SENSOR_READ (R502). -/
  | junctionSensorRead (die : Fin 9) (sensor : Fin 8) (celsius : Int)
  /-- THERMAL_STEP (R503). -/
  | thermalStep
  /-- DROOP_TRIP (R505). -/
  | droopTrip (field : Fin 8) (millivolts : Nat)
  /-- DROOP_STRETCH_END (R505). -/
  | droopStretchEnd (field : Fin 8) (acCycles : Nat) (fcCycles : Nat)
  /-- AC_CHANGE_SUBMIT (R508). -/
  | acChangeSubmit (via : Via) (mhz : BitVec 16) (changeAt : Word)
  /-- AC_CHANGE_CANCEL (R508). -/
  | acChangeCancel (via : Via)
  /-- AC_VOLTAGE_RAMP (R508). -/
  | acVoltageRamp
  /-- AC_CHANGE (R508). -/
  | acChange (field : Fin 8)
  /-- TITHE_SAMPLE (R515). -/
  | titheSample (millivolts : Nat) (milliamps : Nat)
  /-- TITHE_SELF_CHECK (R516). -/
  | titheSelfCheck (deviates : Bool)
  /-- TITHE_ROLLOVER (R518). -/
  | titheRollover
  /-- TITHE_POWER_LOSS (R519). -/
  | tithePowerLoss (written : Bool) (tamper : Option (Fin 4)) (mark : Option (BitVec 64 × BitVec 64))
  /-- TITHE_POWER_RETURN (R519). -/
  | tithePowerReturn
  /-- TITHE_CHECKPOINT (R519). -/
  | titheCheckpoint
  /-- TITHE_TAMPER (R523). -/
  | titheTamper (kind : Fin 5) (mark : Option (BitVec 64 × BitVec 64))
  /-- IDENT (R524). -/
  | ident (args : List Byte) (crc : BitVec 16)
  /-- STATUS (R524). -/
  | status (args : List Byte) (crc : BitVec 16)
  /-- READ_RECORD (R524). -/
  | readRecord (args : List Byte) (crc : BitVec 16)
  /-- READ_NOW (R524). -/
  | readNow (args : List Byte) (crc : BitVec 16)
  /-- JOB_MARK (R524). -/
  | jobMark (args : List Byte) (crc : BitVec 16)
  /-- TAMPER_LOG (R524). -/
  | tamperLog (args : List Byte) (crc : BitVec 16)
  /-- UART_FRAME_TIMEOUT (R524). -/
  | uartFrameTimeout
  /-- MIRROR_SNAPSHOT (R525). -/
  | mirrorSnapshot
  /-- MIRROR_RECORD_ARRIVAL (R526). -/
  | mirrorRecordArrival
  /-- TITHE_MIRROR_STALE (R526). -/
  | titheMirrorStale
  /-- STRAP_SAMPLE (R528). -/
  | strapSample (pwrDomain : BitVec 6) (slotId : BitVec 8) (bootSel : BitVec 2)
  /-- BRINGUP_STAGE_COMPLETE (R529). -/
  | bringupStageComplete (found : BringUp)
  /-- STAGE_TIMEOUT (R529). -/
  | stageTimeout (links : BitVec 14)
  /-- WARM_RESET_STAGE (R530). -/
  | warmResetStage
  /-- MAIN_INPUT_APPLIED (R532). -/
  | mainInputApplied
  /-- STANDBY_APPLIED (R556). -/
  | standbyApplied
  /-- RESET_N (R532). -/
  | resetN (lowMicroseconds : Nat)
  /-- WARM_RESET_REQUEST (R533). -/
  | warmResetRequest (via : Via)
  /-- COLD_RESET_REQUEST (R533). -/
  | coldResetRequest (via : Via)
  /-- HITCH_RETRAIN_REQUEST (R548). -/
  | hitchRetrainRequest (via : Via)
  /-- STAGE (R536). -/
  | stage (via : Via)
  /-- STAGE_COMPLETE (R536). -/
  | stageComplete (flashOk : Bool)
  /-- ACTIVATE (R536). -/
  | activate (via : Via)
  /-- CONFIRM (R536). -/
  | confirm (via : Via)
  /-- ABANDON (R536). -/
  | abandon (via : Via)
  /-- QUOTE (R540). -/
  | quote (via : Via)
  /-- CERTS (R540). -/
  | certs (via : Via)
  /-- JOURNAL_PAGE_WRITE (R542). -/
  | journalPageWrite
  /-- MGMT_REQUEST (R545). -/
  | mgmtRequest (datagram : List Byte)
  /-- SMBUS_READ (R546). -/
  | smbusRead (target : BitVec 7) (pecOk : Bool) (address : Word)
  /-- SMBUS_WRITE (R546). -/
  | smbusWrite (target : BitVec 7) (pecOk : Bool) (address : Word) (value : Word)
  /-- WAKE (R546). -/
  | wake (target : BitVec 7) (pecOk : Bool)
  /-- JTAG_REGISTER_ACCESS (R547). -/
  | jtagRegisterAccess (write : Bool) (address : Word) (value : Word)
  /-- IDCODE (R547). -/
  | idcode
  /-- EXTEST (R547). -/
  | extest (tdi : List Bool)
  /-- BYPASS (R547). -/
  | bypass (tdi : List Bool)
  /-- SAMPLE_PRELOAD (R547). -/
  | samplePreload (tdi : List Bool)
  /-- THR_CH_ENABLE (R374). -/
  | thrChEnable (via : Via) (channel : Fin 32) (gate : Bool)
  /-- VIN_LOW (R555). -/
  | vinLow
  /-- VIN_HIGH (R555). -/
  | vinHigh
  /-- VSTBY_LOW (R555). -/
  | vstbyLow
  /-- REFCLK_LOST (R559). -/
  | refclkLost
  /-- MCLK_LOST (R559). -/
  | mclkLost
  /-- MCLK_RETURN (R559). -/
  | mclkReturn
  /-- HARROW_UNIT_COMPLETE (R192). -/
  | harrowUnitComplete (id : Nat) (unit : Nat)
  /-- GLEAN_DESCRIPTOR_COMPLETE (R174). -/
  | gleanDescriptorComplete (id : Nat)
  /-- QUOTE_DONE (R540). -/
  | quoteDone
  /-- PTP_SYNC_SEND (R438). -/
  | ptpSyncSend
  deriving DecidableEq, Repr

end Sys2Proof
end

