-- ==== Sys2Proof/Decode.lean ====
section
/-!
DEFINITION. The commands that a word spells. No row of spec/opcode_table.json gives a command any bits: a command is not
encoded in a word of this hardware (what is encoded, a flit, a descriptor or a datagram, is read by the operations of
Machine/Port.lean, Machine/Window.lean and Machine/Mgmt.lean).
-/
namespace Sys2Proof

/-- The command that a word of `nbits` bits spells by the table's bits: none, since the table gives none. -/
def decodeTableWord (_nbits _w : Nat) : Option Instr := none

end Sys2Proof
end

