-- ==== Sys2Proof/Machine/Bits.lean ====
section
/-!
DEFINITION. Bit fields, two's complement and byte order (R10, R12): the plain helpers that every
register, descriptor and record layout of the spec is read with.
-/
namespace Sys2Proof.Machine

/-- The field [hi:lo] of a number (R10). -/
def bitsOf (w hi lo : Nat) : Nat := (w >>> lo) % 2 ^ (hi + 1 - lo)

/-- Bit n of a number (R10). -/
def bitOf (w n : Nat) : Bool := (w >>> n) % 2 == 1

/-- w with its field [hi:lo] replaced by v (R10). -/
def setBits (w hi lo v : Nat) : Nat :=
  w - (bitsOf w hi lo <<< lo) + ((v % 2 ^ (hi + 1 - lo)) <<< lo)

/-- The field [hi:lo] of a register. -/
def getF (w : Word) (hi lo : Nat) : Nat := bitsOf w.toNat hi lo

/-- A register with its field [hi:lo] replaced. -/
def putF (w : Word) (hi lo v : Nat) : Word := BitVec.ofNat 64 (setBits w.toNat hi lo v)

/-- The field [hi:lo] of a 512-bit descriptor word. -/
def fld (w : Word512) (hi lo : Nat) : Nat := bitsOf w.toNat hi lo

/-- A number of n bits read as two's complement. -/
def signedOf (n v : Nat) : Int := if v < 2 ^ (n - 1) then (v : Int) else (v : Int) - 2 ^ n

/-- An integer as an n-bit two's complement number. -/
def toTwos (n : Nat) (i : Int) : Nat := (i % ((2 : Int) ^ n)).toNat

/-- A number as k bytes, least significant first (R12). -/
def leBytes : Nat → Nat → List Byte
  | 0, _ => []
  | k + 1, v => BitVec.ofNat 8 v :: leBytes k (v / 256)

/-- The number that bytes hold, least significant first (R12). -/
def leNat : List Byte → Nat
  | [] => 0
  | b :: bs => b.toNat + 256 * leNat bs

/-- Ceiling division. -/
def ceilDiv (a b : Nat) : Nat := (a + b - 1) / b

/-- a rounded up to a multiple of b. -/
def roundUp (a b : Nat) : Nat := ceilDiv a b * b

/-- 0 or 1. -/
def b2n (b : Bool) : Nat := if b then 1 else 0

/-- The number of set bits among bits 0 to n - 1. -/
def popCount : Nat → Nat → Nat
  | 0, _ => 0
  | n + 1, w => popCount n w + (w >>> n) % 2

/-- The positions of the set bits among 0 to n - 1, ascending. -/
def setBitsOf : Nat → Nat → List Nat
  | 0, _ => []
  | n + 1, w => setBitsOf n w ++ (if bitOf w n then [n] else [])

/-- Element i of a list, or d. -/
def nth {α : Type} (l : List α) (i : Nat) (d : α) : α := l.getD i d

/-- A list with element i replaced. -/
def setNth {α : Type} (l : List α) (i : Nat) (a : α) : List α := l.set i a

/-- The first index whose element satisfies p. -/
def findIdx? {α : Type} (p : α → Bool) : List α → Option Nat
  | [] => none
  | a :: as => if p a then some 0 else (findIdx? p as).map (· + 1)

/-- 0xFFFF_FFFF_FFFF_FFFE, the value at which every counter stops (R81, R137, ...). -/
def counterStop : Nat := 0xFFFFFFFFFFFFFFFE

end Sys2Proof.Machine
end

