-- ==== Sys2Proof/Machine/Hash.lean ====
section
/-!
DEFINITION. SHA-512 and the checks that the spec names by standard (R534, R541, R546): the hash as
FIPS 180-4 gives it, CRC-32 (IEEE 802.3), CRC-32C, CRC-16/CCITT and the SMBus PEC. The spec names
these functions and does not restate them: PRESUMED, log entry 6.
-/
namespace Sys2Proof.Machine

/-! ### The constants: the first 64 fraction bits of roots of the first primes -/

/-- The primes below 410, of which there are eighty. -/
def shaPrimes : List Nat :=
  (List.range 410).filter (fun n => decide (2 ≤ n) && (List.range 21).all (fun d => decide (d < 2) || decide (n ≤ d) || n % d != 0))

/-- The largest number below 2^bits whose k-th power is at most n, found bit by bit on top of what is already known. -/
def rootBits (k n : Nat) : Nat → Nat → Nat
  | 0, known => known
  | i + 1, known => rootBits k n i (if (known + 2 ^ i) ^ k ≤ n then known + 2 ^ i else known)

/-- The first 64 bits of the fraction of the k-th root of a prime. -/
def rootFraction (k p : Nat) : BitVec 64 := BitVec.ofNat 64 (rootBits k (p <<< (64 * k)) 69 0)

/-- The constant of each of the eighty rounds, from cube roots. -/
def shaRounds : List (BitVec 64) := shaPrimes.map (rootFraction 3)

/-- The chaining value that hashing starts from, from square roots. -/
def shaStart : List (BitVec 64) := (shaPrimes.take 8).map (rootFraction 2)

/-! ### The rounds -/

/-- The sum modulo 2 of a word turned right by each of the amounts. -/
def turns (x : BitVec 64) (amounts : List Nat) : BitVec 64 :=
  amounts.foldl (fun acc n => acc ^^^ x.rotateRight n) 0

/-- The word that follows a window of sixteen words of the message schedule, oldest first. -/
def nextWord (win : List (BitVec 64)) : BitVec 64 :=
  let old := win.getD 1 0
  let new := win.getD 14 0
  win.getD 0 0 + win.getD 9 0 + (turns old [1, 8] ^^^ (old >>> 7)) + (turns new [19, 61] ^^^ (new >>> 6))

/-- One round on a window of the schedule and the eight working words: the window moves on by a word, and the words by
one place. -/
def shaRound (st : List (BitVec 64) × List (BitVec 64)) (k : BitVec 64) : List (BitVec 64) × List (BitVec 64) :=
  let v (i : Nat) : BitVec 64 := st.2.getD i 0
  let picked := (v 4 &&& (v 5 ^^^ v 6)) ^^^ v 6
  let vote := (v 0 &&& (v 1 ||| v 2)) ||| (v 1 &&& v 2)
  let inflow := k + st.1.getD 0 0 + v 7 + picked + turns (v 4) [14, 18, 41]
  (st.1.drop 1 ++ [nextWord st.1],
   (inflow + vote + turns (v 0) [28, 34, 39]) :: ((st.2.take 3) ++ (v 3 + inflow) :: (st.2.drop 4).take 3))

/-- Big-endian 64-bit words of a byte list whose length is a multiple of 8. -/
def beWords : Nat → List Byte → List (BitVec 64)
  | 0, _ => []
  | k + 1, bs => BitVec.ofNat 64 (leNat (bs.take 8).reverse) :: beWords k (bs.drop 8)

/-- The blocks of a padded message, each of 128 bytes, taken into the chaining value in order. -/
def shaChain : Nat → List Byte → List (BitVec 64) → List (BitVec 64)
  | 0, _, chain => chain
  | k + 1, bs, chain =>
    let mixed := (shaRounds.foldl shaRound (beWords 16 bs, chain)).2
    shaChain k (bs.drop 128) (List.zipWith (fun x y => x + y) chain mixed)

/-- SHA-512 of a byte string: 64 bytes. -/
def sha512 (msg : List Byte) : List Byte :=
  let n := msg.length
  let total := roundUp (n + 17) 128
  let padded := msg ++ [0x80#8] ++ List.replicate (total - n - 17) 0#8 ++ (leBytes 16 (8 * n)).reverse
  (shaChain (total / 128) padded shaStart).flatMap (fun w => (leBytes 8 w.toNat).reverse)

/-- One byte folded into a reflected CRC of the given polynomial. -/
def crcReflStep (poly : Nat) : Nat → Nat → Nat
  | 0, r => r
  | k + 1, r => crcReflStep poly k (if r % 2 = 1 then (r >>> 1) ^^^ poly else r >>> 1)

/-- A reflected CRC-32 with all-ones start and final complement. -/
def crc32With (poly : Nat) (bs : List Byte) : Nat :=
  (bs.foldl (fun r b => crcReflStep poly 8 (r ^^^ b.toNat)) 0xFFFFFFFF) ^^^ 0xFFFFFFFF

/-- CRC-32 of IEEE 802.3. -/
def crc32 (bs : List Byte) : Nat := crc32With 0xEDB88320 bs

/-- CRC-32C. -/
def crc32c (bs : List Byte) : Nat := crc32With 0x82F63B78 bs

/-- One bit step of an unreflected CRC of n bits. -/
def crcStep (n poly : Nat) : Nat → Nat → Nat
  | 0, r => r
  | k + 1, r => crcStep n poly k (if bitOf r (n - 1) then ((r <<< 1) ^^^ poly) % 2 ^ n else (r <<< 1) % 2 ^ n)

/-- CRC-16/CCITT (polynomial 0x1021) from a start value. -/
def crc16 (start : Nat) (bs : List Byte) : Nat :=
  bs.foldl (fun r b => crcStep 16 0x1021 8 (r ^^^ (b.toNat <<< 8))) start

/-- The SMBus packet error check: CRC-8, polynomial 0x07. -/
def pec (bs : List Byte) : Nat :=
  bs.foldl (fun r b => crcStep 8 0x07 8 (r ^^^ b.toNat)) 0

end Sys2Proof.Machine
end

