-- ==== Sys2Proof/Config.lean ====
section
/-!
DEFINITION. What the spec leaves open, as constants with no body: nothing in Lean can evaluate one or
prove a value of one (log entries 2 to 4). A free value is one of these applied to the operands it
depends on, or to the counter `State.freeCtr` for a fresh value each time.
-/
namespace Sys2Proof.Config

/-- A fresh free number: a value the spec says is undefined, unpredictable or does not state. -/
opaque freeNat : Nat → Nat

/-- A value that the spec leaves open and R4 makes the same on every run: the point it belongs to, and the operands it
depends on. -/
opaque openValue : Nat → List Nat → Nat

/-- The choice of FP32 bits, within the spec's error bound, that a Harrow operation (R202, R203) gives for an
operand whose result the spec bounds and does not state: the operation's code and the operand's FP32 bits. -/
opaque transcendental : Nat → Nat → Nat

/-- Whether a signature (r, s) over a SHA-512 digest verifies under the firmware authority's key (R534). -/
opaque imageSignatureOk : List Byte → List Byte → Bool

/-- Whether the SHA-512 digests of both parts of a firmware image hold (R534): the spec does not say where the parts of
the image body lie. -/
opaque partDigestsOk : List Byte → Bool

/-- The P-521 signature (r and s, 132 bytes) that the key derived for a digest of the booted image
makes over a message (R539, R540). -/
opaque attestSignature : List Byte → List Byte → List Byte

/-- The DER certificate chain of the module for the booted image's digest (R539, R540). -/
opaque certChain : List Byte → List Byte

/-- The attestation key identifier for the booted image's digest (R540). -/
opaque attestKeyId : List Byte → List Byte

/-- The Tithe's P-521 signature (r and s, 132 bytes) over a message (R521). -/
opaque titheSignature : List Byte → List Byte

/-- The Tithe's certificate in DER, up to 1,024 bytes (R524). -/
opaque titheCert : List Byte

/-- AV1 film grain (R319), which the standard specifies and the spec does not restate: the planes of a picture with grain,
from the bytes of the stream, the picture's number in output order, and the planes without it. -/
opaque filmGrain : List Byte → Nat → List (List Nat) → List (List Nat)

/-- Whether a resize weight that is no multiple of 2^-14 is quantised up: the fraction num / den (R351). -/
opaque weightUp : Nat → Nat → Bool

/-- A coefficient of a colour matrix as FP32 bits (R351): the colour code, the bit depth, the channel that it makes and the
component that it multiplies. -/
opaque colourCoef : Nat → Nat → Nat → Nat → Nat

/-- What a colour matrix takes from a component before it multiplies (R351), as FP32 bits: the colour code, the bit depth and
the component. -/
opaque colourOffset : Nat → Nat → Nat → Nat

end Sys2Proof.Config
end

