-- ==== Sys2Proof/Machine/Num.lean ====
section
/-!
DEFINITION. Number formats, exact values, rounding and conversion: "Number formats, scaling and
rounding" (R82 to R105). Values are exact (sign, magnitude × 2^exponent); every rounding is one call.
-/
namespace Sys2Proof.Machine

/-- The number formats of R82. -/
inductive Fmt where
  | a4 | e4m3 | e5m2 | fp16 | bf16 | fp32 | l96 | l32 | l64 | int8 | uint8 | mask1
  deriving DecidableEq, Repr

/-- The format code table of R82; codes 0x0 and 0xD to 0xF are reserved. -/
def Fmt.ofCode : Nat → Option Fmt
  | 1 => some .a4 | 2 => some .e4m3 | 3 => some .e5m2 | 4 => some .fp16 | 5 => some .bf16
  | 6 => some .fp32 | 7 => some .l96 | 8 => some .l32 | 9 => some .l64 | 10 => some .int8
  | 11 => some .uint8 | 12 => some .mask1 | _ => none

/-- The code of a format (R82). -/
def Fmt.code : Fmt → Nat
  | .a4 => 1 | .e4m3 => 2 | .e5m2 => 3 | .fp16 => 4 | .bf16 => 5 | .fp32 => 6 | .l96 => 7
  | .l32 => 8 | .l64 => 9 | .int8 => 10 | .uint8 => 11 | .mask1 => 12

/-- Bytes of one element in the storage unit of R82 (A4 and MASK1 pack several to a byte: 1). -/
def Fmt.bytes : Fmt → Nat
  | .a4 => 1 | .e4m3 => 1 | .e5m2 => 1 | .fp16 => 2 | .bf16 => 2 | .fp32 => 4 | .l96 => 12
  | .l32 => 4 | .l64 => 8 | .int8 => 1 | .uint8 => 1 | .mask1 => 1

/-- The layout of a floating-point format (R83, R86): exponent bits, mantissa bits, bias. -/
structure FpLayout where
  ebits : Nat
  mbits : Nat
  bias  : Nat
  deriving DecidableEq, Repr

/-- Floating-point layouts of R83 and the A4 element e2m1 of R86. -/
def Fmt.layout : Fmt → Option FpLayout
  | .a4 => some ⟨2, 1, 1⟩
  | .e4m3 => some ⟨4, 3, 7⟩
  | .e5m2 => some ⟨5, 2, 15⟩
  | .fp16 => some ⟨5, 10, 15⟩
  | .bf16 => some ⟨8, 7, 127⟩
  | .fp32 => some ⟨8, 23, 127⟩
  | _ => none

/-- An exact value: NaN, an infinity, or (−1)^neg × mag × 2^e (a zero keeps its sign, R85). -/
inductive FV where
  | nan
  | inf (neg : Bool)
  | fin (neg : Bool) (mag : Nat) (e : Int)
  deriving DecidableEq, Repr

/-- +0. -/
def FV.zero : FV := .fin false 0 0

/-- +1. -/
def FV.one : FV := .fin false 1 0

/-- An integer × 2^e as an exact value. -/
def FV.ofInt (i : Int) (e : Int) : FV := .fin (decide (i < 0)) i.natAbs e

def FV.isNan : FV → Bool
  | .nan => true
  | _ => false

def FV.isFinite : FV → Bool
  | .fin .. => true
  | _ => false

/-- True for ±0. -/
def FV.isZero : FV → Bool
  | .fin _ m _ => m == 0
  | _ => false

def FV.isNeg : FV → Bool
  | .nan => false
  | .inf n => n
  | .fin n _ _ => n

def FV.neg : FV → FV
  | .nan => .nan
  | .inf n => .inf (!n)
  | .fin n m e => .fin (!n) m e

/-- v × 2^k: an exact change of exponent (R96). -/
def FV.scale (v : FV) (k : Int) : FV :=
  match v with
  | .fin n m e => .fin n m (e + k)
  | v => v

/-- n × 2^k for k at least 0, and its floor below. -/
def shiftInt (n : Nat) (k : Int) : Nat := if 0 ≤ k then n <<< k.toNat else n >>> (-k).toNat

/-- floor(log2 (num / den)) of a positive ratio. -/
def floorLog2 (num den : Nat) : Int :=
  let g : Int := (Nat.log2 num : Int) - (Nat.log2 den : Int)
  -- num / den lies in [2^(g-1), 2^(g+1))
  let ge : Bool := if 0 ≤ g then decide (den <<< g.toNat ≤ num) else decide (den ≤ num <<< (-g).toNat)
  if ge then g else g - 1

/-- floor(log2 |v|) of a finite non-zero value (R220: max_exp). -/
def FV.topExp : FV → Int
  | .fin _ m e => (Nat.log2 m : Int) + e
  | _ => 0

/-- The rounding modes of R102. -/
inductive Rnd where
  | rne | rz | sr
  deriving DecidableEq, Repr

/-- The rounding codes of R97; 0b11 is reserved. -/
def Rnd.ofCode : Nat → Option Rnd
  | 0 => some .rne | 1 => some .rz | 2 => some .sr | _ => none

/-- The magnitude (num / den) × 2^e rounded to an integer number of grid steps 2^g (R102, R104).
`draw` is the stochastic draw of R103. -/
def roundSteps (num den : Nat) (e g : Int) (r : Rnd) (draw : BitVec 64) : Nat :=
  let k := e - g
  let num' := if 0 ≤ k then num <<< k.toNat else num
  let den' := if 0 ≤ k then den else den <<< (-k).toNat
  let q := num' / den'
  let rem := num' % den'
  match r with
  | .rz => q
  | .rne => if den' < 2 * rem || (2 * rem == den' && q % 2 == 1) then q + 1 else q
  | .sr =>
    let f := (rem * 2 ^ 32) / den'
    if 2 ^ 32 ≤ f + (draw.toNat >>> 32) then q + 1 else q

/-- True when the magnitude lies on the grid 2^g already. -/
def onGrid (num den : Nat) (e g : Int) : Bool :=
  let k := e - g
  if 0 ≤ k then (num <<< k.toNat) % den == 0 else num % (den <<< (-k).toNat) == 0

/-- Smallest normal exponent of a layout (R83). -/
def FpLayout.emin (l : FpLayout) : Int := 1 - (l.bias : Int)

/-- The grid step exponent of a floating-point layout for a positive magnitude num/den × 2^e:
the binade's step, or the subnormal step below the smallest normal (R98). -/
def FpLayout.gridExp (l : FpLayout) (num den : Nat) (e : Int) : Int :=
  max (floorLog2 num den + e) l.emin - (l.mbits : Int)

/-- The largest finite magnitude (R83, R86), as steps × 2^exponent. -/
def Fmt.maxFinite : Fmt → Nat × Int
  | .a4 => (3, 1)                       -- 6
  | .e4m3 => (14, 5)                    -- 448
  | .e5m2 => (7, 13)                    -- 57,344
  | .fp16 => (2047, 5)                  -- 65,504
  | .bf16 => (255, 120)
  | .fp32 => (16777215, 104)
  | .l96 => (2 ^ 95 - 1, 0)
  | .l32 => (2 ^ 31 - 1, 0)
  | .l64 => (2 ^ 63 - 1, 0)
  | .int8 => (127, 0)
  | .uint8 => (255, 0)
  | .mask1 => (1, 0)

/-- Formats with infinities (R83). -/
def Fmt.hasInf : Fmt → Bool
  | .e5m2 => true | .fp16 => true | .bf16 => true | .fp32 => true | _ => false

/-- Comparison of two non-negative dyadic magnitudes: a × 2^ea < b × 2^eb. -/
def magLt (a : Nat) (ea : Int) (b : Nat) (eb : Int) : Bool :=
  let m := min ea eb
  decide (a <<< (ea - m).toNat < b <<< (eb - m).toNat)

/-- The canonical NaN encoding of a format (R83), 0 where it has none (R99). -/
def Fmt.nanCode : Fmt → Nat
  | .e4m3 => 0x7F | .e5m2 => 0x7E | .fp16 => 0x7E00 | .bf16 => 0x7FC0 | .fp32 => 0x7FC00000
  | _ => 0

/-- The encoding of an infinity (R83, R99). -/
def Fmt.infCode (f : Fmt) (neg : Bool) : Nat :=
  match f with
  | .e5m2 => if neg then 0xFC else 0x7C
  | .fp16 => if neg then 0xFC00 else 0x7C00
  | .bf16 => if neg then 0xFF80 else 0x7F80
  | .fp32 => if neg then 0xFF800000 else 0x7F800000
  | f => f.nanCode

/-- The encoding of a magnitude steps × 2^g that the layout holds exactly (R83). -/
def FpLayout.encodeMag (l : FpLayout) (neg : Bool) (steps : Nat) (g : Int) : Nat :=
  let s := b2n neg <<< (l.ebits + l.mbits)
  if steps == 0 then s
  else
    let top := (Nat.log2 steps : Int) + g
    if top < l.emin then
      s + shiftInt steps (g - (l.emin - (l.mbits : Int)))
    else
      s + ((top + (l.bias : Int)).toNat <<< l.mbits)
        + (shiftInt steps (g - (top - (l.mbits : Int))) - 2 ^ l.mbits)

/-- The outcomes of R98 for one element. -/
structure Outc where
  nf      : Bool := false
  inexact : Bool := false
  sat     : Bool := false
  ufz     : Bool := false
  deriving DecidableEq, Repr

/-- A conversion specifier (R97) after its checks, with the scale exponent s_out and the window
exponent of the fixed-point formats (R90: e_win; R89: e_ref for L96). -/
structure Spec where
  fmt   : Fmt
  rnd   : Rnd
  sat   : Bool
  sOut  : Int := 0
  win   : Int := 0
  deriving DecidableEq, Repr

/-- The specifier of the 16 bits of R97, reserved bits aside. -/
def Spec.ofBits (w : Nat) (sOut win : Int) : Option Spec :=
  match Fmt.ofCode (bitsOf w 3 0), Rnd.ofCode (bitsOf w 5 4) with
  | some f, some r => some ⟨f, r, bitOf w 6, sOut, win⟩
  | _, _ => none

/-- The grid exponent of a fixed-point destination (R89, R90, R95). -/
def Fmt.fixedGrid (f : Fmt) (win : Int) : Int :=
  match f with
  | .l96 => win - 48
  | .l32 => win - 31
  | .l64 => win - 63
  | _ => 0

/-- Width in bits of a fixed-point or integer format's stored number. -/
def Fmt.fixedBits : Fmt → Nat
  | .l96 => 96 | .l32 => 32 | .l64 => 64 | .int8 => 8 | .uint8 => 8 | _ => 1

/-- The conversion of one exact ratio (−1)^neg × (num / den) × 2^e under a specifier: the procedure
of R98 with s_out already removed by the caller's exponent. Answers the stored number and the
outcomes. -/
def convertRatio (neg : Bool) (num den : Nat) (e : Int) (sp : Spec) (draw : BitVec 64) : Nat × Outc :=
  let f := sp.fmt
  match f.layout with
  | some l =>
    if num == 0 then (l.encodeMag neg 0 0, {})
    else
      let g := l.gridExp num den e
      let n := roundSteps num den e g sp.rnd draw
      let inex := !onGrid num den e g
      let (mx, me) := f.maxFinite
      if magLt mx me n g then
        if f.hasInf && sp.rnd == .rne && !sp.sat then (f.infCode neg, { inexact := inex, sat := true })
        else (l.encodeMag neg mx me, { inexact := inex, sat := true })
      else (l.encodeMag neg n g, { inexact := inex, ufz := n == 0 })
  | none =>
    let g := f.fixedGrid sp.win
    let n := roundSteps num den e g sp.rnd draw
    let inex := !onGrid num den e g
    let w := f.fixedBits
    let r : Int := if neg then -(n : Int) else n
    let mx : Int := (f.maxFinite.1 : Int)
    let mn : Int := match f with
      | .int8 => -128
      | .uint8 => 0
      | .mask1 => 0
      | _ => -mx
    if mx < r then (toTwos w mx, { inexact := inex, sat := true })
    else if r < mn then (toTwos w mn, { inexact := inex, sat := true })
    else (toTwos w r, { inexact := inex, ufz := n == 0 && num != 0 })

/-- R98: the conversion of one exact value into a format other than A4. -/
def convert (v : FV) (sp : Spec) (draw : BitVec 64) : Nat × Outc :=
  match v with
  | .nan => (sp.fmt.nanCode, { nf := true })
  | .inf n => (sp.fmt.infCode n, { nf := true })
  | .fin n m e =>
    let e' := match sp.fmt with
      | .l96 => e
      | .l32 => e
      | .l64 => e
      | _ => e - sp.sOut
    convertRatio n m 1 e' sp draw

/-- The value of a floating-point encoding (R83 to R86). -/
def decodeFp (f : Fmt) (l : FpLayout) (x : Nat) : FV :=
  let neg := bitOf x (l.ebits + l.mbits)
  let ex := bitsOf x (l.ebits + l.mbits - 1) l.mbits
  let mt := x % 2 ^ l.mbits
  let top := 2 ^ l.ebits - 1
  if f == .e4m3 && ex == top && mt == 7 then .nan
  else if f.hasInf && ex == top then (if mt == 0 then .inf neg else .nan)
  else if ex == 0 then .fin neg mt (l.emin - (l.mbits : Int))
  else .fin neg (2 ^ l.mbits + mt) ((ex : Int) - (l.bias : Int) - (l.mbits : Int))

/-- The value of one stored element of a format, before its tensor scale (R83, R86, R89, R90, R95).
`win` is e_ref of L96 and e_win of L32 and L64. -/
def decodeElem (f : Fmt) (win : Int) (x : Nat) : FV :=
  match f.layout with
  | some l => decodeFp f l x
  | none =>
    match f with
    | .uint8 => .fin false (x % 256) 0
    | .mask1 => .fin false (x % 2) 0
    | f => FV.ofInt (signedOf f.fixedBits (x % 2 ^ f.fixedBits)) (f.fixedGrid win)

/-- The exact sum of two values: IEEE rules for the non-finite, +0 for an exact zero (R85). -/
def FV.add (a b : FV) : FV :=
  match a, b with
  | .nan, _ => .nan
  | _, .nan => .nan
  | .inf n, .inf k => if n == k then .inf n else .nan
  | .inf n, _ => .inf n
  | _, .inf n => .inf n
  | .fin n m e, .fin k p f =>
    let g := min e f
    let x : Int := (m <<< (e - g).toNat : Nat)
    let y : Int := (p <<< (f - g).toNat : Nat)
    let s := (if n then -x else x) + (if k then -y else y)
    if s = 0 then .fin false 0 0 else FV.ofInt s g

/-- The exact product of two values: 0 × inf is NaN, a zero carries the product's sign (R180). -/
def FV.mul (a b : FV) : FV :=
  match a, b with
  | .nan, _ => .nan
  | _, .nan => .nan
  | .inf n, .inf k => .inf (n != k)
  | .inf n, .fin k p _ => if p == 0 then .nan else .inf (n != k)
  | .fin k p _, .inf n => if p == 0 then .nan else .inf (n != k)
  | .fin n m e, .fin k p f => .fin (n != k) (m * p) (e + f)

def FV.sub (a b : FV) : FV := a.add b.neg

/-- A ratio rounded into FP32 by RNE; a result above the largest finite value becomes infinity
(R110). -/
def roundF32Ratio (neg : Bool) (num den : Nat) (e : Int) : FV :=
  if num == 0 then .fin neg 0 0
  else
    let l : FpLayout := ⟨8, 23, 127⟩
    let g := l.gridExp num den e
    let n := roundSteps num den e g .rne 0#64
    if magLt 16777215 104 n g then .inf neg else .fin neg n g

/-- RNE into FP32 (R110, R201): every arithmetic step of Harrow and of the 16-bit trees. -/
def FV.toF32 : FV → FV
  | .fin n m e => roundF32Ratio n m 1 e
  | v => v

/-- The FP32 encoding of a value that FP32 holds (R83). -/
def FV.bitsF32 (v : FV) : BitVec 32 :=
  BitVec.ofNat 32 (convert v ⟨.fp32, .rne, false, 0, 0⟩ 0#64).1

/-- The value of an FP32 encoding (R83). -/
def f32 (b : BitVec 32) : FV := decodeElem .fp32 0 b.toNat

def addF32 (a b : FV) : FV := (a.add b).toF32
def subF32 (a b : FV) : FV := (a.sub b).toF32
def mulF32 (a b : FV) : FV := (a.mul b).toF32

/-- a × b + c with one rounding (R201). -/
def fmaF32 (a b c : FV) : FV := ((a.mul b).add c).toF32

/-- 1 / a, correctly rounded (R202, R203). -/
def recipF32 : FV → FV
  | .nan => .nan
  | .inf n => .fin n 0 0
  | .fin n m e => if m == 0 then .inf n else roundF32Ratio n 1 m (-e)

/-- The integer square root by bits, from bit k down. -/
def isqrtAux (n : Nat) : Nat → Nat → Nat
  | 0, r => r
  | k + 1, r =>
    let c := r + 2 ^ k
    isqrtAux n k (if c * c ≤ n then c else r)

/-- floor(√n). -/
def isqrt (n : Nat) : Nat := isqrtAux n (Nat.log2 n / 2 + 1) 0

/-- √a, correctly rounded (R202, R203): the root to many bits with a sticky last bit. -/
def sqrtF32 : FV → FV
  | .nan => .nan
  | .inf n => if n then .nan else .inf false
  | .fin n m e =>
    if m == 0 then .fin n 0 0
    else if n then .nan
    else
      let odd := e % 2 != 0
      let m' := (if odd then 2 * m else m) <<< 64
      let e' := (if odd then e - 1 else e) - 64
      let r := isqrt m'
      let st := if r * r == m' then 0 else 1
      roundF32Ratio false (2 * r + st) 1 (e' / 2 - 1)

/-- IEEE order of two values, +0 above −0 (R202): a < b. NaN is below nothing. -/
def FV.lt (a b : FV) : Bool :=
  match a, b with
  | .nan, _ => false
  | _, .nan => false
  | .inf n, .inf k => n && !k
  | .inf n, _ => n
  | _, .inf k => !k
  | .fin n m e, .fin k p f =>
    if m == 0 && p == 0 then n && !k
    else if n != k then n
    else if n then magLt p f m e
    else magLt m e p f

/-- R202: MAX. -/
def maxF (a b : FV) : FV :=
  if a.isNan || b.isNan then .nan else if a.lt b then b else a

/-- R202: MIN. -/
def minF (a b : FV) : FV :=
  if a.isNan || b.isNan then .nan else if b.lt a then b else a

/-- |a|. -/
def FV.abs : FV → FV
  | .nan => .nan
  | .inf _ => .inf false
  | .fin _ m e => .fin false m e

/-- The mixing function of R103. -/
def mix64 (z : BitVec 64) : BitVec 64 :=
  let z := (z ^^^ (z >>> 30)) * 0xBF58476D1CE4E5B9#64
  let z := (z ^^^ (z >>> 27)) * 0x94D049BB133111EB#64
  z ^^^ (z >>> 31)

/-- The stochastic draw of R103. -/
def srDraw (seed : BitVec 64) (tag : Nat) (step : Nat) (index : Nat) : BitVec 64 :=
  let k := mix64 (seed ^^^ BitVec.ofNat 64 ((tag % 2 ^ 16) <<< 32 ||| step % 2 ^ 32))
  mix64 (k ^^^ mix64 (BitVec.ofNat 64 index + 0x9E3779B97F4A7C15#64))

/-- The e2m1 element value of a nibble (R86). -/
def a4Elem (nib : Nat) : FV := decodeElem .a4 0 (nib % 16)

/-- The value of an A4 element under its block exponent byte, before the tensor scale (R87, R88). -/
def a4Value (nib expByte : Nat) : FV :=
  if expByte % 256 == 0x80 then .nan else (a4Elem nib).scale (signedOf 8 (expByte % 256))

/-- m ≤ 6 × 2^b for a magnitude m × 2^e. -/
def a4Fits (m : Nat) (e b : Int) : Bool := !magLt 3 (b + 1) m e

/-- The block exponent of R100 step 3: the smallest b with m ≤ 6 × 2^b, clamped to −127 to 127. -/
def a4BlockExp (m : Nat) (e : Int) : Int :=
  let top := (Nat.log2 m : Int) + e
  let b := if a4Fits m e (top - 2) then top - 2 else top - 1
  max (-127) (min 127 b)

/-- The larger of two magnitudes. -/
def maxMag (a b : Nat × Int) : Nat × Int := if magLt a.1 a.2 b.1 b.2 then b else a

/-- R100: the conversion of one A4 block; `draws` are the elements' stochastic draws. Answers the
exponent byte, the nibbles and the outcomes. -/
def convertA4Block (vs : List FV) (sp : Spec) (draws : List (BitVec 64)) : Nat × List Nat × List Outc :=
  if vs.any (fun v => !v.isFinite) then
    (0x80, vs.map (fun _ => 0), vs.map (fun v => if v.isFinite then {} else { nf := true }))
  else
    let m := vs.foldl (fun acc v => match v with
      | .fin _ mg e => maxMag acc (mg, e - sp.sOut)
      | _ => acc) ((0 : Nat), (0 : Int))
    if m.1 == 0 then
      (toTwos 8 (-127), vs.map (fun v => if v.isNeg then 8 else 0), vs.map (fun _ => {}))
    else
      let b := a4BlockExp m.1 m.2
      let rs := (vs.zip draws).map fun (v, d) => convert v { sp with fmt := .a4, sOut := sp.sOut + b } d
      (toTwos 8 b, rs.map (·.1), rs.map (·.2))

end Sys2Proof.Machine
end

