-- ==== Sys2Proof/Machine/RegTable.lean ====
section
/-!
DEFINITION. The register map: every page kind of the page directory (R54) and, for each, the
block-specific fields that its chapter's register table gives: offset, bits, access type, reset
value and, for a written field, the range and the multiple its page defines (R52, R58). A bit of a
register that no row covers is reserved (R13); an offset that no row names is a reserved offset
(R55). A reset value that the spec takes from the die, a strap, flash or a factory table stands as
0 here: `State.view` supplies it (log entry 5).
-/
namespace Sys2Proof.Machine

/-- The access types of R58. -/
inductive Acc where
  | ro | rw | rwj | wo
  deriving DecidableEq, Repr

/-- One field of a register: offset in the page, bits [hi:lo], type, reset value, and the smallest
and largest value and the multiple a write may hold. -/
structure RegField where
  off : Nat
  hi : Nat
  lo : Nat
  acc : Acc
  reset : Nat
  min : Nat
  max : Nat
  mult : Nat
  deriving DecidableEq, Repr

/-- A read-only field. -/
def fro (off hi lo reset : Nat) : RegField := ⟨off, hi, lo, .ro, reset, 0, 2 ^ (hi + 1 - lo) - 1, 1⟩
/-- A writable field that takes every value of its width. -/
def fany (acc : Acc) (off hi lo reset : Nat) : RegField := ⟨off, hi, lo, acc, reset, 0, 2 ^ (hi + 1 - lo) - 1, 1⟩
/-- A writable field with a range and a multiple. -/
def frng (acc : Acc) (off hi lo reset min max mult : Nat) : RegField := ⟨off, hi, lo, acc, reset, min, max, mult⟩

/-- The kinds of page of the page directory (R54). -/
inductive PageKind where
  | dir
  | hitch
  | steward
  | almanac
  | power
  | titheRo
  | journal
  | cmdwin
  | datawin
  | coulter
  | coulterDec
  | sample
  | live
  | thresher
  | thrCh
  | swath
  | swathPort
  | transport
  | ptp
  | recovery
  | field
  | furrow
  | glean
  | harrow
  | tilth
  | tilthTest
  | granary
  | granaryCache
  | drill
  | winnow
  | reeve
  | droop
  deriving DecidableEq, Repr

/-- The block-specific fields of DIR (R549). -/
def fieldsDir : List RegField := [
  fro 0x100 63 0 0x383237312d385a41,   -- part
  fro 0x108 63 0 0,   -- serial
  fro 0x110 23 20 0,   -- step_letter
  fro 0x110 19 16 0,   -- step_number
  fro 0x110 7 0 255,   -- fields
  fany .rw 0x118 15 0 0,   -- page_query
  fro 0x120 48 48 1,   -- present
  fro 0x120 47 32 0,   -- block_type
  fro 0x120 23 0 0,   -- version
  fro 0x128 63 0 0]   -- boot_count

/-- The block-specific fields of HITCH (R81). -/
def fieldsHitch : List RegField := [
  fro 0x100 39 32 16,   -- version
  fro 0x100 31 24 0,   -- lanes
  fro 0x100 15 8 0,   -- width
  fro 0x100 7 0 0,   -- link_state
  fro 0x108 63 0 0,   -- status_word
  frng .rwj 0x110 31 0 0x989680 1000 0xd693a400 1,   -- host_wait_limit
  fany .wo 0x118 1 1 0,   -- pause
  fany .wo 0x118 0 0 0,   -- resume
  fro 0x120 1 0 0,   -- job_state
  fro 0x128 63 0 0,   -- refused_count
  fro 0x130 63 0 0,   -- fec_corrected
  fro 0x138 63 0 0,   -- link_replays
  fro 0x140 63 0 0,   -- events_dropped
  fro 0x148 12 0 0]   -- event_queue

/-- The block-specific fields of STEWARD (R548). -/
def fieldsSteward : List RegField := [
  fro 0x100 31 16 0,   -- last_error
  fro 0x100 15 8 0,   -- progress
  fro 0x100 7 0 0,   -- stage
  fro 0x108 17 16 0,   -- boot_sel
  fro 0x108 15 8 0,   -- slot_id
  fro 0x108 5 0 0,   -- pwr_domain
  fany .wo 0x110 2 2 0,   -- hitch_retrain
  frng .wo 0x110 1 0 0 0 2 1,   -- kind
  fro 0x118 63 48 0,   -- floor
  fro 0x118 47 32 0,   -- security_version
  fro 0x118 9 8 0,   -- tries_left
  fro 0x118 2 2 0,   -- trial
  fro 0x118 1 1 0,   -- booted_slot
  fro 0x118 0 0 0,   -- active_slot
  fro 0x120 63 32 0,   -- version_b
  fro 0x120 31 0 0,   -- version_a
  frng .rw 0x128 47 0 0 0 0xffffffffffff 64,   -- upd_addr
  frng .rw 0x130 25 0 0 4096 0x2000000 64,   -- upd_len
  frng .wo 0x138 2 0 0 1 4 1,   -- upd_cmd
  fro 0x140 31 16 0,   -- upd_outcome
  fro 0x140 7 0 0,   -- upd_state
  frng .rw 0x148 47 0 0 0 0xffffffffffff 64,   -- quote_addr
  fany .wo 0x150 1 1 0,   -- certs
  fany .wo 0x150 0 0 0,   -- quote
  fro 0x158 63 32 0,   -- quote_counter
  fro 0x158 7 0 0,   -- quote_state
  frng .rw 0x160 47 0 0 0 0xffffffffffff 64,   -- cert_addr
  fany .rw 0x168 13 0 0,   -- log_index
  fro 0x170 63 0 0,   -- log_entry
  fro 0x178 63 0 0,   -- log_entry
  fro 0x180 63 0 0,   -- log_entry
  fro 0x188 63 0 0,   -- log_entry
  fro 0x190 63 0 0,   -- resets_warm
  fro 0x198 63 0 0,   -- resets_ignored
  fro 0x1a0 63 0 0,   -- mgmt_requests
  fro 0x1a8 63 0 0,   -- strap_changes
  fro 0x1b0 63 0 0,   -- log_count
  fro 0x1b8 63 0 0]   -- resets_cold

/-- The block-specific fields of ALMANAC (R469). -/
def fieldsAlmanac : List RegField := [
  fro 0x100 63 0 0,   -- now
  fany .rwj 0x108 2 2 0,   -- pps_out
  frng .rwj 0x108 1 0 0 0 2 1,   -- source
  fro 0x110 39 8 0,   -- rate_ppb
  fro 0x110 7 0 0,   -- state
  fany .rwj 0x118 47 0 0,   -- epoch_sec
  frng .rwj 0x120 63 32 1000 100 0x3b9aca00 1,   -- step_threshold
  frng .rwj 0x120 31 0 10 1 1000 1,   -- lock_threshold
  frng .rwj 0x128 31 0 1000 0 0x3b9aca00 1,   -- late_limit
  fany .rwj 0x130 63 0 0,   -- job_seed
  fro 0x138 33 32 0,   -- furlong
  fro 0x138 31 0 0,   -- step_now
  fany .rwj 0x140 63 48 0,   -- wait_count
  frng .rwj 0x140 47 0 0 0 0xffffffffffff 64,   -- wait_addr
  frng .rwj 0x148 47 0 0 0 0xffffffffffff 64,   -- ledger_addr
  fro 0x150 63 32 0,   -- ledger_next
  frng .rwj 0x150 31 0 0 0 0x4000000 1,   -- ledger_records
  fany .wo 0x158 47 32 0,   -- rebase_sec
  fany .wo 0x160 63 0 0,   -- rebase_at
  fany .wo 0x168 14 14 0,   -- clear
  frng .wo 0x168 13 10 0 0 8 1,   -- domain
  fany .wo 0x168 9 0 0,   -- flag
  fro 0x170 63 0 0,   -- late_launches
  fro 0x178 63 0 0,   -- steps_done
  fro 0x180 63 0 0,   -- ledger_overwritten
  fro 0x188 63 0 0]   -- holdovers

/-- The block-specific fields of POWER (R510). -/
def fieldsPower : List RegField := [
  fany .rwj 0x100 23 16 0,   -- target
  fro 0x100 7 0 0,   -- state
  frng .rwj 0x108 15 0 2 1 1000 1,   -- idle_hold
  frng .rwj 0x110 31 16 1500 0 1600 1,   -- fast_w
  frng .rwj 0x110 15 0 1200 200 1200 1,   -- sustained_w
  fro 0x118 31 16 0,   -- ac_max
  fro 0x118 15 0 0,   -- ac_mhz
  fro 0x120 16 16 0,   -- pending
  fany .rwj 0x120 15 0 0,   -- next_mhz
  fany .rwj 0x128 63 0 0,   -- change_at
  fro 0x130 47 40 64,   -- tduty
  fro 0x130 39 32 64,   -- pduty
  fro 0x130 31 24 64,   -- duty
  fro 0x130 2 2 0,   -- hot
  fro 0x130 1 1 0,   -- thermal_cap
  fro 0x130 0 0 0,   -- telemetry_suspect
  fro 0x138 63 48 0,   -- mean_1s_w
  fro 0x138 47 32 0,   -- mean_1ms_w
  fro 0x138 31 16 0,   -- estimate_w
  fro 0x138 15 0 0,   -- measured_w
  frng .rwj 0x140 47 32 1000 10 60000 1,   -- persist_ms
  frng .rwj 0x140 23 16 15 5 50 1,   -- mismatch_pct
  frng .rwj 0x140 15 0 100 10 500 1,   -- mismatch_w
  fro 0x148 39 32 0,   -- steading_temp
  fro 0x148 23 16 120,   -- trip_c
  fro 0x148 15 8 110,   -- hot_c
  frng .rwj 0x148 7 0 100 80 105 1,   -- throttle_c
  fro 0x150 63 0 0,   -- energy_mj
  fro 0x158 63 0 0,   -- throttled_cycles
  fro 0x160 63 0 0,   -- mismatch_windows
  fro 0x168 63 0 0,   -- state_changes
  fro 0x170 63 0 0]   -- ac_changes

/-- The block-specific fields of TITHE_RO (R527). -/
def fieldsTitheRo : List RegField := [
  fro 0x100 31 24 0,   -- fw_version
  fro 0x100 1 1 0,   -- stale
  fro 0x100 0 0 0,   -- sense_fault
  fro 0x108 63 0 0,   -- tithe_time
  fro 0x110 63 0 0,   -- odometer
  fro 0x118 63 0 0,   -- open_energy
  fro 0x120 63 0 0,   -- job_tag
  fro 0x128 63 0 0,   -- latest_seq
  fro 0x130 63 32 0,   -- tamper_count
  fro 0x130 31 0 0,   -- seal_counter
  fro 0x138 63 0 0,   -- mirror_almanac
  fro 0x140 47 32 0,   -- voltage
  fro 0x140 31 0 0,   -- power
  fro 0x148 63 0 0,   -- mirror_gen
  fro 0x200 63 0 0,   -- slot 0
  fro 0x208 63 0 0,   -- slot 0
  fro 0x210 63 0 0,   -- slot 0
  fro 0x218 63 0 0,   -- slot 0
  fro 0x220 63 0 0,   -- slot 0
  fro 0x228 63 0 0,   -- slot 0
  fro 0x230 63 0 0,   -- slot 0
  fro 0x238 63 0 0,   -- slot 0
  fro 0x240 63 0 0,   -- slot 0
  fro 0x248 63 0 0,   -- slot 0
  fro 0x250 63 0 0,   -- slot 0
  fro 0x258 63 0 0,   -- slot 0
  fro 0x260 63 0 0,   -- slot 0
  fro 0x268 63 0 0,   -- slot 0
  fro 0x270 63 0 0,   -- slot 0
  fro 0x278 63 0 0,   -- slot 0
  fro 0x280 63 0 0,   -- slot 0
  fro 0x288 63 0 0,   -- slot 0
  fro 0x290 63 0 0,   -- slot 0
  fro 0x298 63 0 0,   -- slot 0
  fro 0x2a0 63 0 0,   -- slot 0
  fro 0x2a8 63 0 0,   -- slot 0
  fro 0x2b0 63 0 0,   -- slot 0
  fro 0x2b8 63 0 0,   -- slot 0
  fro 0x2c0 63 0 0,   -- slot 0
  fro 0x2c8 63 0 0,   -- slot 0
  fro 0x2d0 63 0 0,   -- slot 0
  fro 0x2d8 63 0 0,   -- slot 0
  fro 0x2e0 63 0 0,   -- slot 0
  fro 0x2e8 63 0 0,   -- slot 0
  fro 0x2f0 63 0 0,   -- slot 0
  fro 0x2f8 63 0 0,   -- slot 0
  fro 0x300 63 0 0,   -- slot 0
  fro 0x308 63 0 0,   -- slot 1
  fro 0x310 63 0 0,   -- slot 1
  fro 0x318 63 0 0,   -- slot 1
  fro 0x320 63 0 0,   -- slot 1
  fro 0x328 63 0 0,   -- slot 1
  fro 0x330 63 0 0,   -- slot 1
  fro 0x338 63 0 0,   -- slot 1
  fro 0x340 63 0 0,   -- slot 1
  fro 0x348 63 0 0,   -- slot 1
  fro 0x350 63 0 0,   -- slot 1
  fro 0x358 63 0 0,   -- slot 1
  fro 0x360 63 0 0,   -- slot 1
  fro 0x368 63 0 0] ++ [   -- slot 1
  fro 0x370 63 0 0,   -- slot 1
  fro 0x378 63 0 0,   -- slot 1
  fro 0x380 63 0 0,   -- slot 1
  fro 0x388 63 0 0,   -- slot 1
  fro 0x390 63 0 0,   -- slot 1
  fro 0x398 63 0 0,   -- slot 1
  fro 0x3a0 63 0 0,   -- slot 1
  fro 0x3a8 63 0 0,   -- slot 1
  fro 0x3b0 63 0 0,   -- slot 1
  fro 0x3b8 63 0 0,   -- slot 1
  fro 0x3c0 63 0 0,   -- slot 1
  fro 0x3c8 63 0 0,   -- slot 1
  fro 0x3d0 63 0 0,   -- slot 1
  fro 0x3d8 63 0 0,   -- slot 1
  fro 0x3e0 63 0 0,   -- slot 1
  fro 0x3e8 63 0 0,   -- slot 1
  fro 0x3f0 63 0 0,   -- slot 1
  fro 0x3f8 63 0 0,   -- slot 1
  fro 0x400 63 0 0,   -- slot 1
  fro 0x408 63 0 0]   -- slot 1

/-- The block-specific fields of JOURNAL (R550). -/
def fieldsJournal : List RegField := [
  fro 0x100 63 0 0,   -- count
  fro 0x108 63 0 0,   -- oldest
  fany .rw 0x110 63 0 0,   -- read_seq
  fro 0x118 63 0 0,   -- entry
  fro 0x120 63 0 0,   -- entry
  fro 0x128 63 0 0,   -- entry
  fro 0x130 63 0 0,   -- entry
  fro 0x138 63 0 0,   -- entry
  fro 0x140 63 0 0,   -- entry
  fro 0x148 63 0 0,   -- entry
  fro 0x150 63 0 0,   -- entry
  fro 0x158 0 0 0,   -- read_valid
  fro 0x160 63 0 0,   -- chain
  fro 0x168 63 0 0,   -- chain
  fro 0x170 63 0 0,   -- chain
  fro 0x178 63 0 0,   -- chain
  fro 0x180 63 0 0,   -- chain
  fro 0x188 63 0 0,   -- chain
  fro 0x190 63 0 0,   -- chain
  fro 0x198 63 0 0,   -- chain
  fro 0x1a0 12 0 0,   -- pending
  fro 0x1a8 63 0 0]   -- refused

/-- The block-specific fields of CMDWIN (R71). -/
def fieldsCmdwin : List RegField := [
  frng .rwj 0x100 3 0 8 0 8 1,   -- consumer
  fany .wo 0x108 1 1 0,   -- resume_issue
  fany .wo 0x108 0 0 0,   -- resume_writes
  fro 0x110 23 16 0,   -- state
  fro 0x110 8 0 0,   -- fill
  fro 0x118 63 0 0,   -- issued
  fro 0x120 31 0 0,   -- last_work_id
  fro 0x128 63 0 0]   -- refused

/-- The block-specific fields of DATAWIN (R62). -/
def fieldsDatawin : List RegField := [
  frng .rw 0x100 47 0 0 0 0xffffffffffff 64,   -- dw_addr
  frng .rw 0x108 47 0 0 0 0xffffffffffff 64,   -- dw_limit
  fro 0x110 63 0 0,   -- dw_bytes
  fro 0x118 63 0 0]   -- dw_refused

/-- The block-specific fields of COULTER (R339). -/
def fieldsCoulter : List RegField := [
  fany .rwj 0x100 47 21 16400,   -- arena_base
  frng .rwj 0x108 15 0 48 1 65535 1,   -- arena_size
  frng .rwj 0x110 31 16 4320 16 16384 1,   -- max_height
  frng .rwj 0x110 15 0 7680 16 16384 1,   -- max_width
  frng .rwj 0x118 31 16 1024 1 65535 1,   -- max_units
  frng .rwj 0x118 7 0 8 1 8 1,   -- max_channels
  frng .rwj 0x120 47 0 0x6000000 0 0xffffffffffff 65536,   -- max_out
  frng .rwj 0x128 47 0 0x4000000 1 0xfffffffffffe 1,   -- budget
  frng .rwj 0x130 31 0 1000 100 0xf4240 1,   -- watchdog_us
  fro 0x138 31 16 0,   -- failed_mask
  fro 0x138 15 12 2,   -- audio_working
  fro 0x138 11 8 4,   -- image_working
  fro 0x138 7 0 10,   -- video_working
  frng .rwj 0x140 47 0 0 0 0xffffffffffff 64,   -- vocab_base
  frng .rwj 0x150 47 0 0 0 0xffffffffffff 64,   -- vocab_base
  frng .rwj 0x160 47 0 0 0 0xffffffffffff 64,   -- vocab_base
  frng .rwj 0x170 47 0 0 0 0xffffffffffff 64,   -- vocab_base
  fany .rwj 0x148 39 32 0,   -- merge_log2
  fany .rwj 0x158 39 32 0,   -- merge_log2
  fany .rwj 0x168 39 32 0,   -- merge_log2
  fany .rwj 0x178 39 32 0,   -- merge_log2
  fany .rwj 0x148 31 20 0,   -- class_ranges
  fany .rwj 0x158 31 20 0,   -- class_ranges
  fany .rwj 0x168 31 20 0,   -- class_ranges
  fany .rwj 0x178 31 20 0,   -- class_ranges
  fany .rwj 0x148 19 0 0,   -- token_count
  fany .rwj 0x158 19 0 0,   -- token_count
  fany .rwj 0x168 19 0 0,   -- token_count
  fany .rwj 0x178 19 0 0,   -- token_count
  fro 0x180 63 0 0,   -- samples_ok
  fro 0x188 63 0 0,   -- truncated
  fro 0x190 63 0 0,   -- malformed
  fro 0x198 63 0 0,   -- over_budget
  fro 0x1a0 63 0 0,   -- refused_header
  fro 0x1a8 63 0 0,   -- cancelled
  fro 0x1b0 63 0 0,   -- work
  fro 0x1b8 63 0 0]   -- bytes_out

/-- The block-specific fields of COULTER_DEC (R340). -/
def fieldsCoulterDec : List RegField := [
  fro 0x10 15 0 0,   -- kinds
  fany .rwj 0x100 1 1 0,   -- force_fail
  fro 0x108 31 24 0,   -- core_state
  fro 0x108 23 16 0,   -- kind
  fro 0x108 7 0 0,   -- core
  fro 0x110 31 0 0,   -- work_id
  fro 0x118 47 0 0,   -- work_now
  fro 0x120 63 0 0,   -- samples
  fro 0x128 63 0 0,   -- work
  fro 0x130 63 0 0,   -- busy_cycles
  fro 0x138 63 0 0]   -- restarts

/-- The block-specific fields of SAMPLE (R360). -/
def fieldsSample : List RegField := [
  frng .rwj 0x100 47 0 0 0 0xffffffffffff 65536,   -- windrow_base
  frng .rwj 0x108 47 32 0 0 16384 1,   -- slot_granules
  fany .rwj 0x108 23 16 1,   -- low_water
  frng .rwj 0x108 8 0 4 2 256 1,   -- slots
  frng .rwj 0x110 47 0 0 0 0xffffffffffff 2097152,   -- crib_base
  fany .rwj 0x118 23 0 0,   -- crib_size
  fany .wo 0x120 0 0 0,   -- crib_flush
  fro 0x128 40 32 0,   -- ready
  fro 0x128 26 24 0,   -- filling
  fro 0x128 23 0 0,   -- crib_used
  fro 0x130 31 0 0,   -- windrow_seq
  fro 0x140 63 0 0,   -- batches_sealed
  fro 0x148 63 0 0,   -- substituted
  fro 0x150 63 0 0,   -- zero_filled
  fro 0x158 63 0 0,   -- crib_hits
  fro 0x160 63 0 0,   -- crib_misses
  fro 0x168 63 0 0,   -- crib_insert_fail
  fro 0x170 63 0 0,   -- crib_poison
  fro 0x178 63 0 0]   -- low_water_events

/-- The block-specific fields of LIVE (R361). -/
def fieldsLive : List RegField := [
  frng .rwj 0x100 47 0 0x800000000 0 0xffffffffffff 65536,   -- area_base
  frng .rwj 0x108 15 0 16 1 63 1,   -- area_size
  fany .rwj 0x200 57 57 0,   -- roi_mode
  fany .rwj 0x240 57 57 0,   -- roi_mode
  fany .rwj 0x280 57 57 0,   -- roi_mode
  fany .rwj 0x2c0 57 57 0,   -- roi_mode
  fany .rwj 0x300 57 57 0,   -- roi_mode
  fany .rwj 0x340 57 57 0,   -- roi_mode
  fany .rwj 0x380 57 57 0,   -- roi_mode
  fany .rwj 0x3c0 57 57 0,   -- roi_mode
  frng .rwj 0x200 55 48 4 2 64 1,   -- ring_frames
  frng .rwj 0x240 55 48 4 2 64 1,   -- ring_frames
  frng .rwj 0x280 55 48 4 2 64 1,   -- ring_frames
  frng .rwj 0x2c0 55 48 4 2 64 1,   -- ring_frames
  frng .rwj 0x300 55 48 4 2 64 1,   -- ring_frames
  frng .rwj 0x340 55 48 4 2 64 1,   -- ring_frames
  frng .rwj 0x380 55 48 4 2 64 1,   -- ring_frames
  frng .rwj 0x3c0 55 48 4 2 64 1,   -- ring_frames
  fany .rwj 0x200 47 32 0,   -- height
  fany .rwj 0x240 47 32 0,   -- height
  fany .rwj 0x280 47 32 0,   -- height
  fany .rwj 0x2c0 47 32 0,   -- height
  fany .rwj 0x300 47 32 0,   -- height
  fany .rwj 0x340 47 32 0,   -- height
  fany .rwj 0x380 47 32 0,   -- height
  fany .rwj 0x3c0 47 32 0,   -- height
  fany .rwj 0x200 31 16 0,   -- width
  fany .rwj 0x240 31 16 0,   -- width
  fany .rwj 0x280 31 16 0,   -- width
  fany .rwj 0x2c0 31 16 0,   -- width
  fany .rwj 0x300 31 16 0,   -- width
  fany .rwj 0x340 31 16 0,   -- width
  fany .rwj 0x380 31 16 0,   -- width
  fany .rwj 0x3c0 31 16 0,   -- width
  frng .rwj 0x200 15 12 0 0 1 1,   -- packing
  frng .rwj 0x240 15 12 0 0 1 1,   -- packing
  frng .rwj 0x280 15 12 0 0 1 1,   -- packing
  frng .rwj 0x2c0 15 12 0 0 1 1,   -- packing
  frng .rwj 0x300 15 12 0 0 1 1,   -- packing
  frng .rwj 0x340 15 12 0 0 1 1,   -- packing
  frng .rwj 0x380 15 12 0 0 1 1,   -- packing
  frng .rwj 0x3c0 15 12 0 0 1 1,   -- packing
  fany .rwj 0x200 11 8 10,   -- depth
  fany .rwj 0x240 11 8 10,   -- depth
  fany .rwj 0x280 11 8 10,   -- depth
  fany .rwj 0x2c0 11 8 10,   -- depth
  fany .rwj 0x300 11 8 10,   -- depth
  fany .rwj 0x340 11 8 10,   -- depth
  fany .rwj 0x380 11 8 10,   -- depth
  fany .rwj 0x3c0 11 8 10,   -- depth
  frng .rwj 0x200 7 4 0 0 2 1,   -- sampling
  frng .rwj 0x240 7 4 0 0 2 1,   -- sampling
  frng .rwj 0x280 7 4 0 0 2 1,   -- sampling
  frng .rwj 0x2c0 7 4 0 0 2 1,   -- sampling
  frng .rwj 0x300 7 4 0 0 2 1,   -- sampling
  frng .rwj 0x340 7 4 0 0 2 1,   -- sampling
  frng .rwj 0x380 7 4 0 0 2 1,   -- sampling
  frng .rwj 0x3c0 7 4 0 0 2 1,   -- sampling
  frng .rwj 0x200 3 1 0 0 1 1,   -- kind
  frng .rwj 0x240 3 1 0 0 1 1] ++ [   -- kind
  frng .rwj 0x280 3 1 0 0 1 1,   -- kind
  frng .rwj 0x2c0 3 1 0 0 1 1,   -- kind
  frng .rwj 0x300 3 1 0 0 1 1,   -- kind
  frng .rwj 0x340 3 1 0 0 1 1,   -- kind
  frng .rwj 0x380 3 1 0 0 1 1,   -- kind
  frng .rwj 0x3c0 3 1 0 0 1 1,   -- kind
  fany .rwj 0x200 0 0 0,   -- enable
  fany .rwj 0x240 0 0 0,   -- enable
  fany .rwj 0x280 0 0 0,   -- enable
  fany .rwj 0x2c0 0 0 0,   -- enable
  fany .rwj 0x300 0 0 0,   -- enable
  fany .rwj 0x340 0 0 0,   -- enable
  fany .rwj 0x380 0 0 0,   -- enable
  fany .rwj 0x3c0 0 0 0,   -- enable
  fany .rwj 0x208 63 48 0,   -- roi_h
  fany .rwj 0x248 63 48 0,   -- roi_h
  fany .rwj 0x288 63 48 0,   -- roi_h
  fany .rwj 0x2c8 63 48 0,   -- roi_h
  fany .rwj 0x308 63 48 0,   -- roi_h
  fany .rwj 0x348 63 48 0,   -- roi_h
  fany .rwj 0x388 63 48 0,   -- roi_h
  fany .rwj 0x3c8 63 48 0,   -- roi_h
  fany .rwj 0x208 47 32 0,   -- roi_w
  fany .rwj 0x248 47 32 0,   -- roi_w
  fany .rwj 0x288 47 32 0,   -- roi_w
  fany .rwj 0x2c8 47 32 0,   -- roi_w
  fany .rwj 0x308 47 32 0,   -- roi_w
  fany .rwj 0x348 47 32 0,   -- roi_w
  fany .rwj 0x388 47 32 0,   -- roi_w
  fany .rwj 0x3c8 47 32 0,   -- roi_w
  fany .rwj 0x208 31 16 0,   -- roi_y
  fany .rwj 0x248 31 16 0,   -- roi_y
  fany .rwj 0x288 31 16 0,   -- roi_y
  fany .rwj 0x2c8 31 16 0,   -- roi_y
  fany .rwj 0x308 31 16 0,   -- roi_y
  fany .rwj 0x348 31 16 0,   -- roi_y
  fany .rwj 0x388 31 16 0,   -- roi_y
  fany .rwj 0x3c8 31 16 0,   -- roi_y
  fany .rwj 0x208 15 0 0,   -- roi_x
  fany .rwj 0x248 15 0 0,   -- roi_x
  fany .rwj 0x288 15 0 0,   -- roi_x
  fany .rwj 0x2c8 15 0 0,   -- roi_x
  fany .rwj 0x308 15 0 0,   -- roi_x
  fany .rwj 0x348 15 0 0,   -- roi_x
  fany .rwj 0x388 15 0 0,   -- roi_x
  fany .rwj 0x3c8 15 0 0,   -- roi_x
  frng .rwj 0x210 47 0 0 0 0xffffffffffff 64,   -- roi_addr
  frng .rwj 0x250 47 0 0 0 0xffffffffffff 64,   -- roi_addr
  frng .rwj 0x290 47 0 0 0 0xffffffffffff 64,   -- roi_addr
  frng .rwj 0x2d0 47 0 0 0 0xffffffffffff 64,   -- roi_addr
  frng .rwj 0x310 47 0 0 0 0xffffffffffff 64,   -- roi_addr
  frng .rwj 0x350 47 0 0 0 0xffffffffffff 64,   -- roi_addr
  frng .rwj 0x390 47 0 0 0 0xffffffffffff 64,   -- roi_addr
  frng .rwj 0x3d0 47 0 0 0 0xffffffffffff 64,   -- roi_addr
  frng .rwj 0x218 31 0 40000 1 0x989680 1,   -- stale_limit
  frng .rwj 0x258 31 0 40000 1 0x989680 1,   -- stale_limit
  frng .rwj 0x298 31 0 40000 1 0x989680 1,   -- stale_limit
  frng .rwj 0x2d8 31 0 40000 1 0x989680 1,   -- stale_limit
  frng .rwj 0x318 31 0 40000 1 0x989680 1,   -- stale_limit
  frng .rwj 0x358 31 0 40000 1 0x989680 1] ++ [   -- stale_limit
  frng .rwj 0x398 31 0 40000 1 0x989680 1,   -- stale_limit
  frng .rwj 0x3d8 31 0 40000 1 0x989680 1,   -- stale_limit
  fro 0x220 63 32 0,   -- newest
  fro 0x260 63 32 0,   -- newest
  fro 0x2a0 63 32 0,   -- newest
  fro 0x2e0 63 32 0,   -- newest
  fro 0x320 63 32 0,   -- newest
  fro 0x360 63 32 0,   -- newest
  fro 0x3a0 63 32 0,   -- newest
  fro 0x3e0 63 32 0,   -- newest
  fro 0x220 7 0 0,   -- state
  fro 0x260 7 0 0,   -- state
  fro 0x2a0 7 0 0,   -- state
  fro 0x2e0 7 0 0,   -- state
  fro 0x320 7 0 0,   -- state
  fro 0x360 7 0 0,   -- state
  fro 0x3a0 7 0 0,   -- state
  fro 0x3e0 7 0 0,   -- state
  fro 0x228 63 0 0,   -- frames_complete
  fro 0x268 63 0 0,   -- frames_complete
  fro 0x2a8 63 0 0,   -- frames_complete
  fro 0x2e8 63 0 0,   -- frames_complete
  fro 0x328 63 0 0,   -- frames_complete
  fro 0x368 63 0 0,   -- frames_complete
  fro 0x3a8 63 0 0,   -- frames_complete
  fro 0x3e8 63 0 0,   -- frames_complete
  fro 0x230 63 0 0,   -- frames_dropped
  fro 0x270 63 0 0,   -- frames_dropped
  fro 0x2b0 63 0 0,   -- frames_dropped
  fro 0x2f0 63 0 0,   -- frames_dropped
  fro 0x330 63 0 0,   -- frames_dropped
  fro 0x370 63 0 0,   -- frames_dropped
  fro 0x3b0 63 0 0,   -- frames_dropped
  fro 0x3f0 63 0 0,   -- frames_dropped
  fro 0x238 63 0 0,   -- packets
  fro 0x278 63 0 0,   -- packets
  fro 0x2b8 63 0 0,   -- packets
  fro 0x2f8 63 0 0,   -- packets
  fro 0x338 63 0 0,   -- packets
  fro 0x378 63 0 0,   -- packets
  fro 0x3b8 63 0 0,   -- packets
  fro 0x3f8 63 0 0]   -- packets

/-- The block-specific fields of THRESHER (R390). -/
def fieldsThresher : List RegField := [
  fany .rwj 0x100 14 0 0,   -- member_id
  fro 0x108 15 8 0,   -- lanes_failed
  fro 0x108 7 0 8,   -- lanes_working
  fro 0x110 63 0 0,   -- collectives
  fro 0x118 63 0 0,   -- bytes_sent
  fro 0x120 63 0 0,   -- bytes_received
  fro 0x128 63 0 0,   -- residue_retries
  fro 0x130 63 0 0,   -- adder_recomputes
  fro 0x138 63 0 0]   -- entry_elements

/-- The block-specific fields of THR_CH (R391). -/
def fieldsThrCh : List RegField := [
  frng .rwj 0x100 47 0 0 0 0xffffffffffff 64,   -- member_addr
  frng .rwj 0x108 63 32 2000 1 0x989680 1,   -- default_window
  frng .rwj 0x108 15 0 0 1 32768 1,   -- member_count
  frng .rwj 0x110 63 32 10000 1 0x989680 1,   -- data_limit
  frng .rwj 0x110 31 0 10000 1 0x989680 1,   -- seal_limit
  fany .rwj 0x118 15 0 1,   -- quorum
  fro 0x120 47 32 0,   -- arbiter
  fro 0x120 31 24 0,   -- state
  fro 0x120 23 16 0,   -- queued
  fro 0x120 15 0 0,   -- position
  fro 0x128 31 0 0,   -- next_number
  fro 0x130 31 0 0,   -- table_digest
  fro 0x138 63 0 0,   -- completed
  fro 0x140 63 0 0,   -- failed
  fro 0x148 63 0 0,   -- excluded
  fro 0x150 63 0 0,   -- late_tokens
  fro 0x158 63 0 0,   -- reseals
  fro 0x160 63 0 0]   -- cancelled

/-- The block-specific fields of SWATH (R439). -/
def fieldsSwath : List RegField := [
  fro 0x100 47 0 0,   -- base_mac
  fany .rwj 0x108 26 24 7,   -- pcp_ptp
  fany .rwj 0x108 18 16 3,   -- pcp_transport
  frng .rwj 0x108 15 0 1 1 3600 1,   -- lldp_interval
  fro 0x110 7 0 0,   -- laser_ok
  fro 0x118 63 0 0]   -- frames_discarded

/-- The block-specific fields of SWATH_PORT (R440). -/
def fieldsSwathPort : List RegField := [
  fany .rwj 0x100 15 8 0,   -- pfc_enable
  fany .rwj 0x100 1 0 0,   -- mode
  fro 0x108 63 0 0,   -- link_state
  fro 0x110 7 0 0,   -- lanes_trained
  fany .rw 0x118 2 0 0,   -- nbr_link
  fro 0x120 63 0 0,   -- nbr_record
  fro 0x128 63 0 0,   -- nbr_record
  fro 0x130 63 0 0,   -- nbr_record
  fro 0x138 63 0 0,   -- nbr_record
  fro 0x140 63 0 0,   -- nbr_record
  fro 0x148 63 0 0,   -- nbr_record
  fro 0x150 63 0 0,   -- nbr_record
  fro 0x158 63 0 0,   -- nbr_record
  fro 0x160 63 0 0,   -- fec_corrected
  fro 0x168 63 0 0,   -- fec_uncorrectable
  fro 0x170 63 0 0,   -- frames_rx
  fro 0x178 63 0 0,   -- frames_tx
  fro 0x180 63 0 0,   -- pauses_rx
  fro 0x188 63 0 0]   -- link_downs

/-- The block-specific fields of TRANSPORT (R441). -/
def fieldsTransport : List RegField := [
  frng .rwj 0x100 47 0 0 0 0xffffffffffff 64,   -- plan_addr
  fany .rwj 0x108 63 48 0,   -- plan_tag
  fany .rwj 0x108 47 32 0,   -- own_endpoint
  frng .rwj 0x108 31 16 0 1 65534 1,   -- endpoints
  frng .rwj 0x108 6 0 1 1 64 1,   -- min_links
  fany .wo 0x110 1 1 0,   -- unload
  fany .wo 0x110 0 0 0,   -- load
  fro 0x118 47 32 0,   -- unreachable
  fro 0x118 14 8 0,   -- in_service
  fro 0x118 7 0 0,   -- state
  fany .rwj 0x120 63 48 51364,   -- udp_port
  frng .rwj 0x120 47 16 500 10 0x989680 1,   -- unreach_limit
  frng .rwj 0x120 15 0 20 1 1000 1,   -- rto_us
  frng .rwj 0x128 39 32 8 1 16 1,   -- paths
  frng .rwj 0x128 31 16 512 16 16384 1,   -- conn_slots
  frng .rwj 0x128 15 0 5000 100 60000 1,   -- discovery_limit
  frng .rwj 0x130 47 0 0 0 0xffffffffffff 65536,   -- win_base
  frng .rwj 0x140 47 0 0 0 0xffffffffffff 65536,   -- win_base
  frng .rwj 0x150 47 0 0 0 0xffffffffffff 65536,   -- win_base
  frng .rwj 0x160 47 0 0 0 0xffffffffffff 65536,   -- win_base
  frng .rwj 0x138 31 0 0 0 0xFFFFFFFE 1,   -- win_size (R14)
  frng .rwj 0x148 31 0 0 0 0xFFFFFFFE 1,   -- win_size (R14)
  frng .rwj 0x158 31 0 0 0 0xFFFFFFFE 1,   -- win_size (R14)
  frng .rwj 0x168 31 0 0 0 0xFFFFFFFE 1,   -- win_size (R14)
  fro 0x1f0 63 0 0,   -- retransmits
  fro 0x1f8 63 0 0,   -- duplicates
  fro 0x200 63 0 0,   -- nacks
  fro 0x208 63 0 0,   -- stale_tag
  fro 0x210 63 0 0,   -- ce_marks
  fro 0x218 63 0 0,   -- incarnation
  fany .rwj 0x300 63 0 0,   -- group_lo
  fany .rwj 0x340 63 0 0,   -- group_lo
  fany .rwj 0x380 63 0 0,   -- group_lo
  fany .rwj 0x3c0 63 0 0,   -- group_lo
  fany .rwj 0x400 63 0 0,   -- group_lo
  fany .rwj 0x440 63 0 0,   -- group_lo
  fany .rwj 0x480 63 0 0,   -- group_lo
  fany .rwj 0x4c0 63 0 0,   -- group_lo
  fany .rwj 0x308 63 0 0,   -- group_hi
  fany .rwj 0x348 63 0 0,   -- group_hi
  fany .rwj 0x388 63 0 0,   -- group_hi
  fany .rwj 0x3c8 63 0 0,   -- group_hi
  fany .rwj 0x408 63 0 0,   -- group_hi
  fany .rwj 0x448 63 0 0,   -- group_hi
  fany .rwj 0x488 63 0 0,   -- group_hi
  fany .rwj 0x4c8 63 0 0,   -- group_hi
  fany .rwj 0x310 63 0 0,   -- source_lo
  fany .rwj 0x350 63 0 0,   -- source_lo
  fany .rwj 0x390 63 0 0,   -- source_lo
  fany .rwj 0x3d0 63 0 0,   -- source_lo
  fany .rwj 0x410 63 0 0,   -- source_lo
  fany .rwj 0x450 63 0 0,   -- source_lo
  fany .rwj 0x490 63 0 0,   -- source_lo
  fany .rwj 0x4d0 63 0 0,   -- source_lo
  fany .rwj 0x318 63 0 0,   -- source_hi
  fany .rwj 0x358 63 0 0,   -- source_hi
  fany .rwj 0x398 63 0 0,   -- source_hi
  fany .rwj 0x3d8 63 0 0,   -- source_hi
  fany .rwj 0x418 63 0 0,   -- source_hi
  fany .rwj 0x458 63 0 0] ++ [   -- source_hi
  fany .rwj 0x498 63 0 0,   -- source_hi
  fany .rwj 0x4d8 63 0 0,   -- source_hi
  fany .rwj 0x320 18 18 0,   -- source_valid
  fany .rwj 0x360 18 18 0,   -- source_valid
  fany .rwj 0x3a0 18 18 0,   -- source_valid
  fany .rwj 0x3e0 18 18 0,   -- source_valid
  fany .rwj 0x420 18 18 0,   -- source_valid
  fany .rwj 0x460 18 18 0,   -- source_valid
  fany .rwj 0x4a0 18 18 0,   -- source_valid
  fany .rwj 0x4e0 18 18 0,   -- source_valid
  fany .rwj 0x320 17 17 0,   -- ipv6
  fany .rwj 0x360 17 17 0,   -- ipv6
  fany .rwj 0x3a0 17 17 0,   -- ipv6
  fany .rwj 0x3e0 17 17 0,   -- ipv6
  fany .rwj 0x420 17 17 0,   -- ipv6
  fany .rwj 0x460 17 17 0,   -- ipv6
  fany .rwj 0x4a0 17 17 0,   -- ipv6
  fany .rwj 0x4e0 17 17 0,   -- ipv6
  fany .rwj 0x320 15 0 0,   -- flow_port
  fany .rwj 0x360 15 0 0,   -- flow_port
  fany .rwj 0x3a0 15 0 0,   -- flow_port
  fany .rwj 0x3e0 15 0 0,   -- flow_port
  fany .rwj 0x420 15 0 0,   -- flow_port
  fany .rwj 0x460 15 0 0,   -- flow_port
  fany .rwj 0x4a0 15 0 0,   -- flow_port
  fany .rwj 0x4e0 15 0 0]   -- flow_port

/-- The block-specific fields of PTP (R442). -/
def fieldsPtp : List RegField := [
  fany .rwj 0x100 47 40 253,   -- log_sync
  fany .rwj 0x100 37 32 0,   -- slave_link
  fany .rwj 0x100 31 24 128,   -- priority2
  fany .rwj 0x100 23 16 128,   -- priority1
  frng .rwj 0x100 15 8 0 0 127 1,   -- domain
  frng .rwj 0x100 5 4 0 0 2 1,   -- transport
  fany .rwj 0x100 3 3 1,   -- two_step
  fany .rwj 0x100 2 2 0,   -- p2p
  frng .rwj 0x100 1 0 0 0 2 1,   -- mode
  fany .rwj 0x108 63 0 0,   -- master_links
  fro 0x110 7 0 1,   -- port_state
  fro 0x118 63 0 0,   -- offset
  fro 0x120 63 0 0,   -- path_delay
  fro 0x128 63 0 0,   -- gm_identity
  fro 0x130 63 0 0,   -- sync_rx
  fro 0x138 63 0 0]   -- timestamps_lost

/-- The block-specific fields of RECOVERY (R490). -/
def fieldsRecovery : List RegField := [
  frng .rwj 0x100 47 0 0 0 0xffffffffffff 64,   -- table_addr
  frng .rwj 0x108 12 0 0 0 4096 1,   -- table_entries
  frng .rwj 0x110 47 0 0 0 0xffffffffffff 2097152,   -- staging_base
  frng .rwj 0x118 19 0 0 0 110592 1,   -- staging_size
  fany .rwj 0x120 47 32 0,   -- buddy_endpoint
  fany .rwj 0x120 16 16 0,   -- override
  fany .rwj 0x120 8 8 0,   -- pair
  fro 0x120 5 0 0,   -- own_domain
  frng .rwj 0x128 47 0 0 0 0xffffffffffff 65536,   -- buddy_in_base
  frng .rwj 0x130 31 0 0 0 0xFFFFFFFE 1,   -- buddy_slot_size (R14)
  fro 0x138 47 40 0,   -- pair_state
  fro 0x138 39 34 0,   -- partner_domain
  fro 0x138 31 0 0,   -- buddy_sealed_step
  fro 0x140 32 32 0,   -- hosted_valid
  fro 0x140 31 0 0,   -- hosted_step
  fro 0x148 33 33 0,   -- committed_set
  fro 0x148 31 0 0,   -- committed_step
  fro 0x150 32 32 0,   -- commit_pending
  fro 0x150 31 0 0,   -- pending_step
  fro 0x158 55 48 0,   -- stook_state
  fro 0x158 47 32 0,   -- sealed_generation
  fro 0x158 31 0 0,   -- stook_sealed_step
  fro 0x160 47 0 0,   -- drain_addr
  fro 0x168 63 32 0,   -- drain_index
  fro 0x168 31 0 0,   -- drain_len
  fany .wo 0x170 31 0 0,   -- drain_ack
  fro 0x178 55 48 0,   -- fill_state
  fro 0x178 31 0 0,   -- fill_step
  frng .wo 0x180 31 0 0 0 0xFFFFFFFE 1,   -- fill_ready (R14)
  fro 0x188 55 48 0,   -- links
  fro 0x188 47 40 16,   -- decoder_cores
  fro 0x188 39 32 8,   -- adder_lanes
  fro 0x188 31 24 24,   -- stacks
  fro 0x188 23 16 8,   -- fields
  fro 0x188 15 8 16,   -- engines
  fro 0x188 7 0 8,   -- arrays
  fro 0x190 63 0 0,   -- commits
  fro 0x198 63 0 0,   -- commits_late
  fro 0x1a0 63 0 0,   -- carries
  fro 0x1a8 63 0 0,   -- stooks_sealed
  fro 0x1b0 63 0 0,   -- stooks_skipped
  fro 0x1b8 63 0 0,   -- buddy_sent
  fro 0x1c0 63 0 0]   -- fills

/-- The block-specific fields of FIELD (R37). -/
def fieldsField : List RegField := [
  fro 0x100 47 44 0,   -- step_letter
  fro 0x100 43 40 0,   -- step_number
  fro 0x100 39 32 0,   -- row
  fro 0x100 31 24 0,   -- column
  fro 0x100 23 16 0,   -- west_field
  fro 0x100 15 8 0,   -- east_field
  fro 0x100 7 0 0,   -- field_number
  fro 0x108 23 16 1,   -- steading_state
  fro 0x108 15 8 0,   -- east_state
  fro 0x108 7 0 0,   -- west_state
  fro 0x110 63 0 0,   -- replays
  fro 0x118 63 0 0,   -- replays
  fro 0x120 63 0 0]   -- replays

/-- The block-specific fields of FURROW (R136, R137). -/
def fieldsFurrow : List RegField := [
  fro 0x10 63 48 1024,   -- columns
  fro 0x10 47 32 1024,   -- rows
  fro 0x10 16 16 1,   -- quarter
  fro 0x10 15 0 62,   -- formats
  fany .rwj 0x100 1 1 0,   -- force_fail
  fany .rwj 0x100 0 0 1,   -- gating_enable
  fro 0x108 31 24 0,   -- array_state
  fro 0x108 23 16 0,   -- shape
  fro 0x108 11 8 0,   -- shadow_full
  fro 0x108 7 4 0,   -- loading
  fro 0x108 3 0 0,   -- active_plane
  fro 0x110 23 16 0,   -- failed_mask
  fro 0x110 15 8 8,   -- working
  fro 0x110 7 0 8,   -- total
  fro 0x118 15 8 255,   -- hosted_by
  fro 0x118 7 0 0,   -- hosting_mask
  fro 0x120 63 0 0,   -- rows_done
  fro 0x128 63 0 0,   -- slots_offered
  fro 0x130 63 0 0,   -- slots_gated
  fro 0x138 63 0 0,   -- stall_cycles
  fro 0x140 63 0 0,   -- check_exempt_rows
  fro 0x148 63 0 0]   -- check_fails

/-- The block-specific fields of GLEAN (R186). -/
def fieldsGlean : List RegField := [
  fro 0x10 63 48 1024,   -- columns
  fro 0x10 47 32 2048,   -- rows
  fro 0x10 31 16 3198,   -- out_formats
  fro 0x10 15 0 124,   -- epi_formats
  frng .rwj 0x100 7 0 16 4 64 1,   -- service_share
  fro 0x108 43 32 0,   -- poisoned_rows
  fro 0x108 22 16 0,   -- queued
  fro 0x108 11 0 0,   -- running
  fro 0x110 63 0 0,   -- rows_added
  fro 0x118 63 0 0,   -- acc_read
  fro 0x120 63 0 0,   -- acc_written
  fro 0x128 63 0 0,   -- tree_bytes_out
  fro 0x130 63 0 0,   -- tree_bytes_in
  fro 0x138 63 0 0,   -- service_holds
  fro 0x140 63 0 0,   -- ecc_corrected
  fro 0x148 63 0 0]   -- ecc_uncorrectable

/-- The block-specific fields of HARROW (R218). -/
def fieldsHarrow : List RegField := [
  fro 0x10 63 48 256,   -- lanes
  fro 0x10 47 32 16,   -- threads
  fro 0x10 31 16 8190,   -- in_formats
  fro 0x10 15 0 3198,   -- out_formats
  fany .rwj 0x100 1 1 0,   -- force_fail
  fro 0x108 31 24 0,   -- engine_state
  fro 0x108 20 16 0,   -- threads_active
  fro 0x108 15 8 0,   -- queued
  fro 0x108 7 0 0,   -- engine
  fro 0x110 47 32 0,   -- failed_mask
  fro 0x110 15 8 16,   -- working
  fro 0x110 7 0 16,   -- total
  fro 0x118 31 16 0,   -- hosting_mask
  fro 0x118 7 0 255,   -- hosted_by
  fro 0x120 63 0 0,   -- units_done
  fro 0x128 63 0 0,   -- elements_out
  fro 0x130 63 0 0,   -- issue_cycles
  fro 0x138 63 0 0,   -- starved_cycles
  fro 0x140 63 0 0,   -- ecc_corrected
  fro 0x148 63 0 0]   -- check_fails

/-- The block-specific fields of TILTH (R264). -/
def fieldsTilth : List RegField := [
  fro 0x10 63 48 96,   -- banks
  fro 0x10 47 32 16384,   -- rows
  fro 0x10 31 16 128,   -- word_bytes
  fro 0x10 15 8 95,   -- keep_bank
  fro 0x10 7 0 8,   -- spares
  fany .rwj 0x100 2 0 0,   -- linear
  fany .rwj 0x108 63 0 0,   -- bank_state
  fany .rwj 0x110 63 0 0,   -- bank_state
  fany .rwj 0x118 63 0 0,   -- bank_state
  fro 0x120 63 32 0,   -- pending_set1
  fro 0x120 31 0 0,   -- pending_set0
  fro 0x150 31 0 0,   -- pending_set2
  fro 0x128 63 0 0,   -- ecc_corrected
  fro 0x130 63 0 0,   -- ecc_uncorrectable
  fro 0x138 63 0 0,   -- bank_conflicts
  fro 0x140 63 0 0,   -- words_read
  fro 0x148 63 0 0]   -- words_written

/-- The block-specific fields of TILTH_TEST (R266). -/
def fieldsTilthTest : List RegField := [
  frng .rwj 0x100 47 16 100 10 0x989680 1,   -- interval
  frng .rwj 0x100 13 8 32 1 32 1,   -- concurrency
  fany .rwj 0x100 0 0 1,   -- run
  fro 0x108 39 32 0,   -- state
  fro 0x108 31 16 0,   -- next_bank
  fro 0x108 9 0 0,   -- next_plot
  fro 0x110 63 0 0,   -- passes
  fro 0x118 63 0 0,   -- plots_tested
  fro 0x120 63 0 0,   -- plots_failed
  fro 0x128 63 0 0,   -- stolen_cycles
  fro 0x130 31 24 7,   -- spares_left_min
  fro 0x130 23 16 0,   -- banks_exhausted
  fro 0x130 15 0 0,   -- repaired
  fany .rw 0x138 15 0 0,   -- map_index
  fro 0x140 20 20 0,   -- valid
  fro 0x140 19 17 0,   -- spare
  fro 0x140 16 10 0,   -- bank
  fro 0x140 9 0 0]   -- plot

/-- The block-specific fields of GRANARY (R292). -/
def fieldsGranary : List RegField := [
  fro 0x10 63 48 72,   -- capacity_gib
  fro 0x10 47 40 32,   -- pseudo_channels
  fro 0x10 39 32 48,   -- banks
  fro 0x10 31 16 6400,   -- lane_mbps
  fany .rwj 0x100 0 0 0,   -- force_fail
  fro 0x108 31 24 0,   -- stack_state
  fro 0x108 16 16 0,   -- mapout_pending
  fro 0x108 15 8 0,   -- stack
  fro 0x108 7 0 0,   -- lanes_repaired
  frng .rwj 0x110 39 32 95 70 100 1,   -- high
  fro 0x110 23 16 0,   -- temp_max
  fro 0x110 8 8 0,   -- suspect
  fro 0x110 7 0 0,   -- temp
  frng .rwj 0x118 15 0 24 1 720 1,   -- interval
  fro 0x120 63 0 0,   -- ecc_corrected
  fro 0x128 63 0 0,   -- ecc_uncorrectable
  fro 0x130 63 0 0,   -- sectors_read
  fro 0x138 63 0 0,   -- sectors_written
  fro 0x140 63 0 0,   -- activations
  fro 0x148 63 0 0,   -- retrainings
  fro 0x150 63 0 0,   -- temp_implausible
  fro 0x158 63 0 0]   -- writes_dropped

/-- The block-specific fields of GRANARY_CACHE (R294). -/
def fieldsGranaryCache : List RegField := [
  frng .rwj 0x100 4 0 8 0 12 1,   -- keep_ways
  fany .rwj 0x108 39 32 26,   -- bulk_share
  fany .rwj 0x108 31 24 38,   -- sample_share
  fany .rwj 0x108 23 16 51,   -- collective_share
  fany .rwj 0x108 15 8 102,   -- feed_share
  fany .rwj 0x110 9 0 0,   -- hints
  fro 0x118 63 0 0,   -- hits
  fro 0x120 63 0 0,   -- misses
  fro 0x128 63 0 0,   -- writebacks
  fro 0x130 63 0 0,   -- keep_evictions
  fro 0x138 63 0 0]   -- bypassed

/-- The block-specific fields of DRILL (R316). -/
def fieldsDrill : List RegField := [
  fro 0x10 63 48 8,   -- queues
  fro 0x10 47 32 2048,   -- copy_bytes
  fro 0x10 31 24 64,   -- ring_slots
  fro 0x10 14 0 256,   -- outstanding_max
  fro 0x100 11 4 0,   -- queues_busy
  fro 0x100 3 0 0,   -- engine
  frng .rwj 0x140 24 20 1 1 16 1,   -- weight
  frng .rwj 0x148 24 20 1 1 16 1,   -- weight
  frng .rwj 0x150 24 20 1 1 16 1,   -- weight
  frng .rwj 0x158 24 20 1 1 16 1,   -- weight
  frng .rwj 0x160 24 20 1 1 16 1,   -- weight
  frng .rwj 0x168 24 20 1 1 16 1,   -- weight
  frng .rwj 0x170 24 20 1 1 16 1,   -- weight
  frng .rwj 0x178 24 20 1 1 16 1,   -- weight
  fany .rwj 0x140 16 16 0,   -- class
  fany .rwj 0x148 16 16 0,   -- class
  fany .rwj 0x150 16 16 0,   -- class
  fany .rwj 0x158 16 16 0,   -- class
  fany .rwj 0x160 16 16 0,   -- class
  fany .rwj 0x168 16 16 0,   -- class
  fany .rwj 0x170 16 16 1,   -- class
  fany .rwj 0x178 16 16 1,   -- class
  frng .rwj 0x140 8 0 8 1 256 1,   -- outstanding_limit
  frng .rwj 0x148 8 0 8 1 256 1,   -- outstanding_limit
  frng .rwj 0x150 8 0 8 1 256 1,   -- outstanding_limit
  frng .rwj 0x158 8 0 8 1 256 1,   -- outstanding_limit
  frng .rwj 0x160 8 0 8 1 256 1,   -- outstanding_limit
  frng .rwj 0x168 8 0 8 1 256 1,   -- outstanding_limit
  frng .rwj 0x170 8 0 2 1 256 1,   -- outstanding_limit
  frng .rwj 0x178 8 0 2 1 256 1,   -- outstanding_limit
  fro 0x180 47 40 0,   -- state
  fro 0x188 47 40 0,   -- state
  fro 0x190 47 40 0,   -- state
  fro 0x198 47 40 0,   -- state
  fro 0x1a0 47 40 0,   -- state
  fro 0x1a8 47 40 0,   -- state
  fro 0x1b0 47 40 0,   -- state
  fro 0x1b8 47 40 0,   -- state
  fro 0x180 39 33 0,   -- credits
  fro 0x188 39 33 0,   -- credits
  fro 0x190 39 33 0,   -- credits
  fro 0x198 39 33 0,   -- credits
  fro 0x1a0 39 33 0,   -- credits
  fro 0x1a8 39 33 0,   -- credits
  fro 0x1b0 39 33 0,   -- credits
  fro 0x1b8 39 33 0,   -- credits
  fro 0x180 32 26 0,   -- slots
  fro 0x188 32 26 0,   -- slots
  fro 0x190 32 26 0,   -- slots
  fro 0x198 32 26 0,   -- slots
  fro 0x1a0 32 26 0,   -- slots
  fro 0x1a8 32 26 0,   -- slots
  fro 0x1b0 32 26 0,   -- slots
  fro 0x1b8 32 26 0,   -- slots
  fro 0x180 25 17 0,   -- outstanding
  fro 0x188 25 17 0,   -- outstanding
  fro 0x190 25 17 0,   -- outstanding
  fro 0x198 25 17 0,   -- outstanding
  fro 0x1a0 25 17 0,   -- outstanding
  fro 0x1a8 25 17 0] ++ [   -- outstanding
  fro 0x1b0 25 17 0,   -- outstanding
  fro 0x1b8 25 17 0,   -- outstanding
  fro 0x180 16 8 0,   -- queued
  fro 0x188 16 8 0,   -- queued
  fro 0x190 16 8 0,   -- queued
  fro 0x198 16 8 0,   -- queued
  fro 0x1a0 16 8 0,   -- queued
  fro 0x1a8 16 8 0,   -- queued
  fro 0x1b0 16 8 0,   -- queued
  fro 0x1b8 16 8 0,   -- queued
  fro 0x1c0 31 0 0,   -- ring_seq
  fro 0x1c8 31 0 0,   -- ring_seq
  fro 0x1d0 31 0 0,   -- ring_seq
  fro 0x1d8 31 0 0,   -- ring_seq
  fro 0x1e0 31 0 0,   -- ring_seq
  fro 0x1e8 31 0 0,   -- ring_seq
  fro 0x1f0 31 0 0,   -- ring_seq
  fro 0x1f8 31 0 0,   -- ring_seq
  fro 0x200 63 0 0,   -- bytes_moved
  fro 0x208 63 0 0,   -- completed
  fro 0x210 63 0 0,   -- cancelled
  fro 0x218 63 0 0,   -- discard_bytes
  fro 0x220 63 0 0,   -- gate_wait
  fro 0x228 63 0 0,   -- credit_wait
  fro 0x230 63 0 0,   -- limit_wait
  fro 0x238 31 0 0]   -- last_cancel

/-- The block-specific fields of WINNOW (R241). -/
def fieldsWinnow : List RegField := [
  fany .rwj 0x100 47 32 0,   -- table_page
  fany .rwj 0x100 31 16 0,   -- report_page
  frng .rwj 0x100 12 8 8 8 16 1,   -- tag_log2
  frng .rwj 0x108 51 36 256 1 65535 1,   -- decay_steps
  frng .rwj 0x108 35 20 64 1 65535 1,   -- silent_steps
  frng .rwj 0x108 19 0 999000 1 0xf4240 1,   -- silent_ppm
  fany .rwj 0x110 16 16 0,   -- masked
  fany .rwj 0x110 15 0 0,   -- tag
  fany .rw 0x118 15 0 0,   -- query_tag
  fro 0x120 0 0 0,   -- query_masked
  fro 0x128 63 32 0,   -- last_closed
  fro 0x128 18 17 0,   -- open_steps
  fro 0x128 16 0 0,   -- probing
  fro 0x130 63 0 0,   -- untracked
  fro 0x138 63 0 0,   -- steps_closed
  fro 0x140 63 0 0,   -- steps_skipped
  fro 0x148 63 0 0,   -- alarms
  fro 0x150 63 0 0]   -- probe_steps

/-- The block-specific fields of REEVE (R74). -/
def fieldsReeve : List RegField := [
  fro 0x10 7 0 8,   -- cores
  fany .rwj 0x100 7 0 0,   -- force_fail
  fro 0x108 31 24 0,   -- steading_failed
  fro 0x108 23 16 0,   -- failed_mask
  fro 0x108 15 8 8,   -- steading_working
  fro 0x108 7 0 8,   -- working
  fro 0x110 31 0 0,   -- fw_version
  fro 0x118 63 0 0,   -- parsed
  fro 0x120 63 0 0,   -- issued
  fro 0x128 63 0 0,   -- ecc_corrected
  fro 0x130 63 0 0]   -- takeovers

/-- The block-specific fields of DROOP (R511). -/
def fieldsDroop : List RegField := [
  fany .rwj 0x100 47 32 128,   -- ramp_cycles
  frng .rwj 0x100 23 16 16 4 255 1,   -- stretch_min
  frng .rwj 0x100 7 0 50 20 150 1,   -- threshold_mv
  fro 0x108 56 56 0,   -- suspect
  fro 0x108 55 48 0,   -- temp_max
  fro 0x108 47 40 0,   -- temp
  fro 0x108 31 16 0,   -- measured_mv
  fro 0x108 15 0 0,   -- table_mv
  frng .rw 0x110 4 0 0 0 16 1,   -- vt_index
  fro 0x118 15 0 0,   -- vt_mv
  fro 0x120 63 0 0,   -- droops
  fro 0x128 63 0 0,   -- stretched_ac
  fro 0x130 63 0 0,   -- stretched_fc
  fro 0x138 63 0 0,   -- ramp_lost
  fro 0x140 63 0 0]   -- temp_implausible

/-- The block-specific fields of a page. -/
def fieldsOf : PageKind → List RegField
  | .dir => fieldsDir
  | .hitch => fieldsHitch
  | .steward => fieldsSteward
  | .almanac => fieldsAlmanac
  | .power => fieldsPower
  | .titheRo => fieldsTitheRo
  | .journal => fieldsJournal
  | .cmdwin => fieldsCmdwin
  | .datawin => fieldsDatawin
  | .coulter => fieldsCoulter
  | .coulterDec => fieldsCoulterDec
  | .sample => fieldsSample
  | .live => fieldsLive
  | .thresher => fieldsThresher
  | .thrCh => fieldsThrCh
  | .swath => fieldsSwath
  | .swathPort => fieldsSwathPort
  | .transport => fieldsTransport
  | .ptp => fieldsPtp
  | .recovery => fieldsRecovery
  | .field => fieldsField
  | .furrow => fieldsFurrow
  | .glean => fieldsGlean
  | .harrow => fieldsHarrow
  | .tilth => fieldsTilth
  | .tilthTest => fieldsTilthTest
  | .granary => fieldsGranary
  | .granaryCache => fieldsGranaryCache
  | .drill => fieldsDrill
  | .winnow => fieldsWinnow
  | .reeve => fieldsReeve
  | .droop => fieldsDroop

/-- How many PG_EVENT bits a page defines; they are bits 0 upward. -/
def eventBits : PageKind → Nat
  | .dir => 0
  | .hitch => 4
  | .steward => 4
  | .almanac => 5
  | .power => 7
  | .titheRo => 4
  | .journal => 1
  | .cmdwin => 5
  | .datawin => 0
  | .coulter => 2
  | .coulterDec => 2
  | .sample => 2
  | .live => 2
  | .thresher => 2
  | .thrCh => 4
  | .swath => 2
  | .swathPort => 2
  | .transport => 3
  | .ptp => 1
  | .recovery => 8
  | .field => 2
  | .furrow => 3
  | .glean => 2
  | .harrow => 3
  | .tilth => 1
  | .tilthTest => 4
  | .granary => 5
  | .granaryCache => 0
  | .drill => 0
  | .winnow => 5
  | .reeve => 2
  | .droop => 2

/-- The kind and the instance number of a page, or none for a reserved page index (R54). The
instance of a Field block page is its number within its kind: stack 3f + i for GRANARY, engine
2f or 2f + 1 for HARROW, engine 4f + e for DRILL, and the Field number otherwise. -/
def pageOf (page : Nat) : Option (PageKind × Nat) :=
  if page = 0x0000 then some (.dir, 0)
  else if page = 0x0001 then some (.hitch, 0)
  else if page = 0x0002 then some (.steward, 0)
  else if page = 0x0003 then some (.almanac, 0)
  else if page = 0x0004 then some (.power, 0)
  else if page = 0x0005 then some (.titheRo, 0)
  else if page = 0x0006 then some (.journal, 0)
  else if 0x0010 ≤ page && page ≤ 0x001F then some (.cmdwin, page - 0x0010)
  else if 0x0020 ≤ page && page ≤ 0x0023 then some (.datawin, page - 0x0020)
  else if page = 0x0100 then some (.coulter, 0)
  else if 0x0101 ≤ page && page ≤ 0x0110 then some (.coulterDec, page - 0x0101)
  else if page = 0x0120 then some (.sample, 0)
  else if page = 0x0130 then some (.live, 0)
  else if page = 0x0200 then some (.thresher, 0)
  else if 0x0201 ≤ page && page ≤ 0x0220 then some (.thrCh, page - 0x0201)
  else if page = 0x0300 then some (.swath, 0)
  else if 0x0301 ≤ page && page ≤ 0x0308 then some (.swathPort, page - 0x0301)
  else if page = 0x0310 then some (.transport, 0)
  else if page = 0x0318 then some (.ptp, 0)
  else if page = 0x0400 then some (.recovery, 0)
  else if 0x1000 ≤ page && page < 0x1800 then
    let f := (page - 0x1000) / 0x100
    let o := page % 0x100
    if o = 0x00 then some (.field, f)
    else if o = 0x01 then some (.furrow, f)
    else if o = 0x02 then some (.glean, f)
    else if o = 0x03 then some (.harrow, 2 * f)
    else if o = 0x04 then some (.harrow, 2 * f + 1)
    else if o = 0x05 then some (.tilth, f)
    else if o = 0x06 then some (.tilthTest, f)
    else if 0x08 ≤ o && o ≤ 0x0A then some (.granary, 3 * f + (o - 0x08))
    else if o = 0x0B then some (.granaryCache, f)
    else if 0x10 ≤ o && o ≤ 0x13 then some (.drill, 4 * f + (o - 0x10))
    else if o = 0x18 then some (.winnow, f)
    else if o = 0x1C then some (.reeve, f)
    else if o = 0x1E then some (.droop, f)
    else none
  else none

/-- The page index of a kind and an instance (R54). -/
def pageIdx : PageKind → Nat → Nat
  | .dir, _ => 0x0000
  | .hitch, _ => 0x0001
  | .steward, _ => 0x0002
  | .almanac, _ => 0x0003
  | .power, _ => 0x0004
  | .titheRo, _ => 0x0005
  | .journal, _ => 0x0006
  | .cmdwin, i => 0x0010 + i
  | .datawin, i => 0x0020 + i
  | .coulter, _ => 0x0100
  | .coulterDec, i => 0x0101 + i
  | .sample, _ => 0x0120
  | .live, _ => 0x0130
  | .thresher, _ => 0x0200
  | .thrCh, i => 0x0201 + i
  | .swath, _ => 0x0300
  | .swathPort, i => 0x0301 + i
  | .transport, _ => 0x0310
  | .ptp, _ => 0x0318
  | .recovery, _ => 0x0400
  | .field, f => 0x1000 + f * 0x100
  | .furrow, f => 0x1000 + f * 0x100 + 0x01
  | .glean, f => 0x1000 + f * 0x100 + 0x02
  | .harrow, e => 0x1000 + (e / 2) * 0x100 + 0x03 + e % 2
  | .tilth, f => 0x1000 + f * 0x100 + 0x05
  | .tilthTest, f => 0x1000 + f * 0x100 + 0x06
  | .granary, n => 0x1000 + (n / 3) * 0x100 + 0x08 + n % 3
  | .granaryCache, f => 0x1000 + f * 0x100 + 0x0B
  | .drill, n => 0x1000 + (n / 4) * 0x100 + 0x10 + n % 4
  | .winnow, f => 0x1000 + f * 0x100 + 0x18
  | .reeve, f => 0x1000 + f * 0x100 + 0x1C
  | .droop, f => 0x1000 + f * 0x100 + 0x1E

/-- The byte address of a register (R30). -/
def regAddr (k : PageKind) (inst off : Nat) : Nat := pageIdx k inst * 0x1000 + off

/-- PG_CTRL.enable reads 1 from reset on these pages (R264, R292, R294, R510, R511, R527). -/
def enableFixed : PageKind → Bool
  | .tilth | .granary | .granaryCache | .power | .droop | .titheRo => true
  | _ => false

/-- PG_EVENT and PG_EVENT_MASK of a page: the bits that the page defines; the others are reserved (R13, R55). -/
def eventFields (n : Nat) : List RegField := if n = 0 then [] else [fany .rw 0x030 (n - 1) 0 0, fany .rw 0x038 (n - 1) 0 0]

/-- The fields of the common registers of every page (R55). -/
def commonFields (k : PageKind) : List RegField := [
  fro 0x000 63 32 0, fro 0x008 23 0 0x010100,
  fany .rw 0x020 2 2 0, fany .wo 0x020 1 1 0, fany .rw 0x020 0 0 (b2n (enableFixed k)),
  fro 0x028 3 0 0] ++ eventFields (eventBits k) ++ [fany .rw 0x040 15 0 0,
  fro 0x048 63 0 0, fro 0x050 63 0 0, fro 0x058 63 0 0]

/-- The fields of the register at an offset of a page; none for a reserved offset. -/
def regFields (k : PageKind) (off : Nat) : List RegField :=
  if off < 0x100 && off != 0x010 then (commonFields k).filter (·.off == off)
  else (fieldsOf k).filter (·.off == off)

/-- The reset value of the register at an offset of a page. -/
def regReset (k : PageKind) (off : Nat) : Nat :=
  (regFields k off).foldl (fun acc f => acc + (f.reset <<< f.lo)) 0

/-- The bits of a register that some field covers; the others are reserved (R13). -/
def definedMask (fs : List RegField) : Nat :=
  fs.foldl (fun acc f => acc + ((2 ^ (f.hi + 1 - f.lo) - 1) <<< f.lo)) 0

/-- The bits of a register that a write sets. -/
def writableMask (fs : List RegField) : Nat :=
  definedMask (fs.filter (fun f => f.acc != .ro))

/-- Whether an offset lies in the 64-byte port of a window page (R61, R64). -/
def isPort (k : PageKind) (off : Nat) : Bool :=
  match k with
  | .cmdwin | .datawin => decide (0x200 ≤ off) && decide (off < 0x240)
  | _ => false

end Sys2Proof.Machine
end

