-- ==== Sys2Proof/Machine/Types.lean ====
section
/-!
DEFINITION. The plain data types that `State` is built from, unit by unit.
-/
namespace Sys2Proof.Machine

/-! ### Hitch, events, journal and log ("Hitch link, register fabric and command windows") -/

/-- The link states of R43. -/
inductive LinkState where
  | down | detect | equalise | fecLock | deskew | version | up | upNarrow | failed
  deriving DecidableEq, Repr

/-- The link state codes of R43. -/
def LinkState.code : LinkState → Nat
  | .down => 0 | .detect => 1 | .equalise => 2 | .fecLock => 3 | .deskew => 4 | .version => 5
  | .up => 6 | .upNarrow => 7 | .failed => 0x0F

/-- A flit: 8-byte header and 64-byte payload (R39). -/
structure Flit where
  header : BitVec 64
  payload : BitVec 512
  deriving DecidableEq, Repr

/-- An event record (R75). -/
structure EventRec where
  info : Nat
  workId : Nat
  time : Nat
  bit : Nat
  page : Nat
  deriving DecidableEq, Repr

/-- A request held during stage QUIESCE of a warm reset, or refused behind such a one: its tag, its address and
the status and code it is answered with when the stage ends (R42, R48, R51). -/
structure HeldReq where
  tag : Nat
  addr : Nat
  status : Nat
  code : Nat
  deriving DecidableEq, Repr

/-- JOB_STATE (R80, R81). -/
inductive JobState where
  | running | pausedHostWait | pausedSoftware
  deriving DecidableEq, Repr

/-- JOB_STATE's code. -/
def JobState.code : JobState → Nat
  | .running => 0 | .pausedHostWait => 1 | .pausedSoftware => 2

/-- The Hitch link and its queues (R38 to R51, R75 to R81, R569). -/
structure Hitch where
  link : LinkState
  /-- failed training attempts of the training in progress (R43) -/
  attempts : Nat
  /-- lanes in use, or trained so far (R44) -/
  lanes : Nat
  /-- negotiated version, major in [7:4] (R45) -/
  version : Nat
  /-- highest version the far end has sent in VERSION (R45) -/
  farVersion : Option Nat
  /-- the link is training again with its replay buffers kept (R47) -/
  retraining : Bool
  /-- HITCH_WIDTH_REDUCED waits for the fabric to open (R44) -/
  narrowPending : Bool
  /-- most recent bring-up or link error code (R46) -/
  lastError : Nat
  /-- sequence number of the next numbered flit to accept (R41) -/
  rxNext : Nat
  /-- a replay has been requested from rxNext and its first flit has not arrived (R41, R569) -/
  rxReplay : Bool
  /-- sequence number of the next numbered flit to send (R41) -/
  txNext : Nat
  /-- sent and unacknowledged numbered flits, oldest first (R41: at most 256) -/
  replay : List (Nat × Flit)
  /-- numbered flits that wait for room in the replay buffer, oldest first -/
  txQueue : List Flit
  /-- every flit the module has put on the link, newest first -/
  sent : List Flit
  /-- credit total of the adapter, modulo 2^32 (R569) -/
  credit : Nat
  /-- event records sent, modulo 2^32 (R569) -/
  recSent : Nat
  /-- event records that wait for credits, oldest first (R77: at most 4,096) -/
  events : List EventRec
  /-- the EVENT_OVERFLOW records that found the queue full, oldest first (R77) -/
  overflow : List EventRec
  /-- requests held during QUIESCE, in order of arrival (R51) -/
  held : List HeldReq
  job : JobState
  /-- last status word sent (R81) -/
  statusSent : Nat
  deriving DecidableEq, Repr

/-- Who made a register write (R541 source field). -/
inductive Source where
  | hitch | mgmtEthernet | twoWire | jtag | firmware
  deriving DecidableEq, Repr

/-- The journal's source code (R541). -/
def Source.code : Source → Nat
  | .hitch => 0 | .mgmtEthernet => 1 | .twoWire => 2 | .jtag => 3 | .firmware => 4

/-- A journal entry (R541). -/
structure JEntry where
  seq : Nat
  time : Nat
  addr : Nat
  source : Nat
  kind : Nat
  old : Nat
  new : Nat
  deriving DecidableEq, Repr

/-- The change journal (R541, R542). -/
structure Journal where
  /-- entries recorded since manufacture -/
  count : Nat
  /-- entries recorded and not yet written to flash, oldest first (at most 4,096) -/
  pending : List JEntry
  /-- entries in flash, newest first (the newest 1,048,576) -/
  flash : List JEntry
  /-- D_(count − 1), 64 bytes -/
  chain : List Byte
  deriving DecidableEq, Repr

/-- An entry of the Steward log (R543). -/
structure LogEntry where
  seq : Nat
  time : Nat
  code : Nat
  stage : Nat
  info : Nat
  uptime : Nat
  deriving DecidableEq, Repr

/-! ### Command windows and descriptors -/

/-- Where a descriptor came from: a command window, or a template of the running furlong with its
phase number and whether the step is a pre-pass (R462, R464). -/
inductive Origin where
  | window (w : Nat)
  | furlong (window phase template : Nat) (pre : Bool)
  deriving DecidableEq, Repr

/-- The state of a command window (R71). -/
structure Window where
  /-- words held and not yet taken, oldest first (R63: at most 256) -/
  words : List Word512
  /-- descriptors parsed, checked and not yet issued, in order, each with the place (0 to 7 a Field, 8 the Steading)
  whose Reeve cores parsed it and will issue it (R63) -/
  parsed : List (Nat × List Word512)
  /-- the WINDOW_FULL latch (R64) -/
  fullLatch : Bool
  halted : Bool
  framing : Bool
  deriving DecidableEq, Repr

/-- A host wait (R78): what waits. -/
inductive WaitKind where
  | flight (id : Nat)
  | partialWords (w : Nat)
  | hostSync
  | eventCredits
  | linkDown
  | drain (index : Nat)
  | fillReady
  deriving DecidableEq, Repr

/-- A host wait in progress: its start, the HOST_WAIT_LIMIT in force then in Almanac units, and
whether it has been found late (R79, R80). -/
structure HostWait where
  kind : WaitKind
  start : Nat
  limit : Nat
  late : Bool
  deriving DecidableEq, Repr

/-! ### Almanac, furlong and ledger -/

/-- The Almanac states of R446. -/
inductive AlmState where
  | free | acquire | locked | holdover
  deriving DecidableEq, Repr

def AlmState.code : AlmState → Nat
  | .free => 0 | .acquire => 1 | .locked => 2 | .holdover => 3

/-- The Almanac (R443 to R448, R465). -/
structure Almanac where
  /-- the FC clock runs and the module is not in Winter (R445) -/
  running : Bool
  /-- the value in units of 2^−48 ns; bits [95:32] are the 64-bit Almanac value -/
  acc : BitVec 96
  /-- increment per FC cycle, in units of 2^−48 ns (R444) -/
  inc : Nat
  state : AlmState
  /-- measurements within lock_threshold that count toward LOCKED (R446) -/
  good : Nat
  /-- (Almanac value from which it held, inc), newest first, for the mean that HOLDOVER freezes (R446) -/
  incHistory : List (Nat × Nat)
  /-- Almanac value at the last measurement -/
  lastMeasure : Nat
  /-- Almanac value at the previous PPS_IN edge, if any -/
  lastPps : Option Nat
  /-- PPS_IN edges discarded as implausible (R446) -/
  ppsDiscarded : Nat
  /-- the PPS_OUT pin is high until this Almanac value (R448) -/
  ppsUntil : Option Nat
  /-- n of the rebase_sec register, a WO field (R465) -/
  rebaseSec : Nat
  /-- a submitted rebase: rebase_at and n (R465) -/
  rebase : Option (Nat × Nat)
  deriving DecidableEq, Repr

/-- A phase of the running step: descriptors issued and not completed, and what its ledger record
needs (R468). -/
structure PhaseRun where
  index : Nat
  ledgerId : Nat
  kind : Nat
  start : Option Nat
  lastEnd : Nat
  late : Bool
  refused : Bool
  count : Nat
  outstanding : Nat
  expanded : Bool
  recorded : Bool
  deriving DecidableEq, Repr

/-- Descriptors of one step or pre-pass of the running furlong. -/
structure StepRun where
  step : Nat
  pre : Bool
  origin : Nat
  phases : List PhaseRun
  expanded : Bool
  deriving DecidableEq, Repr

/-- One item that expansion still has to issue in the current step: an instance of a template, or a
host-sync point (R462, R464, R467). -/
inductive ExpandItem where
  | inst (phase template chunk micro : Nat)
  | hostSync (phase flag : Nat)
  | phaseEnd (phase : Nat)
  deriving DecidableEq, Repr

/-- The furlong that runs (R460 to R464). -/
structure Furlong where
  /-- id of the FURLONG_RUN flight, its window, and where its image stands -/
  runId : Nat
  window : Nat
  image : Nat
  t0 : Nat
  paced : Bool
  first : Nat
  steps : Nat
  /-- the next step to begin -/
  nextStep : Nat
  /-- the step being expanded and whether this is its pre-pass, and its items not yet issued -/
  current : Option (Nat × Bool)
  items : List ExpandItem
  /-- steps and pre-passes not yet complete, oldest first -/
  running : List StepRun
  /-- verdicts received before the furlong started, which decide nothing in it -/
  mark : Nat
  stopping : Bool
  /-- the refusal that caused the stop and its template; 0 for FURLONG_STOP (R463) -/
  stopCode : Nat
  stopTemplate : Nat
  deriving DecidableEq, Repr

/-! ### Steward: bring-up, firmware, identity ("Steward management, bring-up and security") -/

/-- One image slot of flash (R534, R536): its validity, versions, part digests and bytes. -/
structure ImageSlot where
  valid : Bool
  version : Nat
  security : Nat
  stewardDigest : List Byte
  reeveDigest : List Byte
  image : List Byte
  deriving DecidableEq, Repr

/-- One copy of the boot control record (R534, R538): `ok` says that its HMAC verifies. -/
structure BootRec where
  ok : Bool
  gen : Nat
  active : Nat
  trial : Option Nat
  tries : Nat
  floor : Nat
  deriving DecidableEq, Repr

/-- The factory record (R535, R507, R496): what the module reads from it. -/
structure Factory where
  serial : Nat
  baseMac : Nat
  /-- supply voltage in mV, by Field × 17 + i, at 300 + 25 i MHz; 0 where not supported (R507) -/
  voltage : List Nat
  titheKeyId : List Byte
  deriving DecidableEq, Repr

/-- Update states (R536, R548). -/
inductive UpdState where
  | idle | staging | staged | activated | failed
  deriving DecidableEq, Repr

def UpdState.code : UpdState → Nat
  | .idle => 0 | .staging => 1 | .staged => 2 | .activated => 3 | .failed => 4

/-- Quote states (R548). -/
inductive QuoteState where
  | idle | busy | done
  deriving DecidableEq, Repr

def QuoteState.code : QuoteState → Nat
  | .idle => 0 | .busy => 1 | .done => 2

/-- Steward: stage, straps, flash, update, quote, log and management ports. -/
structure Steward where
  /-- bring-up or warm-reset stage code (R529, R530) -/
  stage : Nat
  progress : Nat
  halted : Bool
  /-- bring-up holds after STRAPS for boundary scan (R528: BOOT_SEL 3) -/
  scanHold : Bool
  /-- register transactions are executed (R46 fabric_open) -/
  fabricOpen : Bool
  /-- the fabric has opened since the last cold reset: PG_STATUS.ready (R529) -/
  ready : Bool
  /-- a warm reset is in progress (R46 warm_reset) -/
  warm : Bool
  /-- cause value of a cold reset still to be entered in the journal at IDENTITY (R533) -/
  causePending : Nat
  strapsTaken : Bool
  pwrDomain : Nat
  slotId : Nat
  bootSel : Nat
  /-- last strap sample and how many consecutive samples agree with it (R528) -/
  strapLast : Nat × Nat × Nat
  strapRun : Nat
  /-- samples taken since standby power is good -/
  strapSamples : Nat
  slotA : ImageSlot
  slotB : ImageSlot
  rec0 : BootRec
  rec1 : BootRec
  booted : Nat
  bootedTrial : Bool
  /-- UPD_REVERTED is to be raised when the fabric opens (R537) -/
  revertPending : Bool
  upd : UpdState
  updOutcome : Nat
  /-- the image being staged, and the outcome code found for it (R536) -/
  staging : Option (List Byte × Nat)
  /-- slot that holds the staged image -/
  stagedSlot : Nat
  factory : Factory
  quote : QuoteState
  quoteCounter : Nat
  quoteNonce : List Byte
  log : List LogEntry
  logCount : Nat
  resetsCold : Nat
  bootCount : Nat
  /-- sequence and response of the last management Ethernet request executed (R545) -/
  mgmtLast : Option (Nat × List Byte)
  /-- datagrams, blocks and scan words the management and test ports have answered, newest first -/
  mgmtOut : List (List Byte)
  /-- answers to management requests held through QUIESCE, oldest first (R51, R544) -/
  mgmtHeld : List (List Byte)
  /-- boundary-scan pins driven by EXTEST (R547), and the boundary-scan register -/
  scanDrive : Option Nat
  scanReg : Nat
  /-- source code of a warm reset that waits for Rest or Fallow to end (R495, R533) -/
  warmPending : Option Nat
  /-- VIN and VSTBY are present, and MCLK runs (R555, R559) -/
  vin : Bool
  vstby : Bool
  mclk : Bool
  /-- the dies are held without power or in reset until a cold reset (R504, R555, R559) -/
  heldOff : Bool
  deriving DecidableEq, Repr

/-! ### Fields and Hedgerow ("Organisation of the module") -/

/-- Codes of HEDGE_LINK_STATUS (R37). -/
inductive HedgeState where
  | absent | training | up | rerouted | lost
  deriving DecidableEq, Repr

def HedgeState.code : HedgeState → Nat
  | .absent => 0 | .training => 1 | .up => 2 | .rerouted => 3 | .lost => 4

/-- One Field: Hedgerow link states, loss, and its failed Reeve cores (R21, R37, R72). -/
structure FieldSt where
  lost : Bool
  west : HedgeState
  east : HedgeState
  steading : HedgeState
  /-- bit c: Reeve core c FAILED -/
  coresFailed : Nat
  deriving DecidableEq, Repr

/-! ### Furrow arrays and passes -/

/-- Loading of a pass's tile into a shadow plane (R112, R114). -/
inductive LoadState where
  | idle | loading | full
  deriving DecidableEq, Repr

/-- A weight tile as the cells hold it: element codes by tile row, then column, a masked or unused
cell holding 0 (16 in A4, where a nibble of 0 still belongs to its block), for A4 the block exponent bytes by block of tile
rows, then column (R106), and by tile row the residues r_w and r_e that the checksum column recorded as the tile was
loaded (R127). -/
structure Tile where
  codes : List (List Nat)
  exps : List (List Nat)
  residues : List (Nat × Nat)
  deriving DecidableEq, Repr

/-- An input row as the row feed read it: element codes, a masked element holding 0 (16 in A4), and for A4 the
block exponent bytes (R142, R145). -/
structure RowData where
  index : Nat
  codes : List Nat
  exps : List Nat
  deriving DecidableEq, Repr

/-- What a reuse_tile pass must share with its predecessor, and where the tile came from (R150). -/
structure PassKey where
  shape : Nat
  fmtW : Nat
  k : Nat
  n : Nat
  /-- word 3 and mask_w of the pass that loaded the tile -/
  source : Word512
  masked : Bool
  deriving DecidableEq, Repr

/-- A PASS that its Field has taken up (R146 to R154). -/
structure PassProg where
  load : LoadState
  tile : Option Tile
  swapped : Bool
  /-- rows read by the row feed and not yet entered, oldest first (R297: at most 32) -/
  fifo : List RowData
  nextRead : Nat
  /-- rows entered and not yet added, oldest first (R117) -/
  pipe : List RowData
  nextEnter : Nat
  nextAdd : Nat
  /-- the feed met poison: no further row is read (R257) -/
  feedStopped : Bool
  cancelled : Bool
  /-- zero gating as it stood at the pass boundary (R125) -/
  gating : Bool
  /-- code of the lowest-numbered row whose sum was not applied (R571) -/
  skipped : Option Nat
  key : PassKey
  /-- Field whose array runs it (R131) -/
  runner : Nat
  /-- a load of its tile or its first row has begun, on whichever array (R135) -/
  begun : Bool
  /-- its place among the passes that have begun to enter rows on its runner; 0 before it has (R147) -/
  turn : Nat
  /-- the non-finite elements of its tile have been counted (R101) -/
  tileCounted : Bool
  deriving DecidableEq, Repr

/-- One quadrant of an array; quadrant 0 stands for the whole array outside the quarter shape. -/
structure QuadSt where
  /-- which plane is active (R112) -/
  active : Nat
  /-- tile in the active plane, with the Field whose sequence of passes it belongs to (R570) -/
  tile : Option Tile
  owner : Nat
  /-- the pass before, in this array's own sequence, and whether it was cancelled before its swap (R150) -/
  pred : Option PassKey
  predGone : Bool
  deriving DecidableEq, Repr

/-- A check mismatch or another cause of an array failure that has not yet taken effect (R128, R130):
code, check number, expected and found residue, column, row, quadrant, shape and work_id. -/
structure ArrayFault where
  code : Nat
  check : Nat
  expected : Nat
  found : Nat
  column : Nat
  row : Nat
  quadrant : Nat
  shape : Nat
  workId : Nat
  deriving DecidableEq, Repr

/-- One Furrow array. -/
structure ArraySt where
  /-- 0 SELF_TEST, 1 WORKING, 2 FAILED (R137) -/
  state : Nat
  shape : Nat
  quads : List QuadSt
  fault : Option ArrayFault
  /-- Field whose array runs this array's work (R131) -/
  hostedBy : Option Nat
  /-- no working array remains: its passes with ids below this have been reported as held (R133) -/
  held : Nat
  /-- MAC slots gated and not yet counted in a whole unit of 2^16 (R137) -/
  gatedRest : Nat
  deriving DecidableEq, Repr

/-! ### Glean descriptors -/

/-- A Glean descriptor being run: the next region row, and whether a poisoned row or poisoned memory
was met (R180, R257). -/
structure GleanProg where
  row : Nat
  poisonRow : Bool
  memPoison : Bool
  /-- REDUCE: its metadata check has passed (R173) -/
  checked : Bool
  /-- READOUT: the bytes its rows have overwritten, as they were, where its operand may meet its output (R181) -/
  olds : List (Nat × Byte)
  deriving DecidableEq, Repr

/-! ### Harrow engines -/

/-- A unit (a row, or a tile of OPTIM) that a thread runs: its number, its thread and the chunks whose
stores are done. -/
structure HarrowUnit where
  unit : Nat
  thread : Nat
  stored : Nat
  deriving DecidableEq, Repr

/-- A Harrow descriptor's progress: units dealt for the first time, units on threads, units to be dealt
again with their stored chunks, units completed (R192, R215). -/
structure HarrowProg where
  dealt : Nat
  running : List HarrowUnit
  again : List (Nat × Nat)
  finished : Nat
  deriving DecidableEq, Repr

/-- One Harrow engine: 0 SELF_TEST, 1 WORKING, 2 FAILED; the engine that runs its work; and whether no
working engine remains for it: its descriptors with ids below `held` have been reported so (R214, R216, R218). -/
structure EngineSt where
  state : Nat
  hostedBy : Option Nat
  held : Nat
  deriving DecidableEq, Repr

/-! ### Winnow -/

/-- What a unit reports about the elements it handled (R220). -/
structure Tally where
  elements : Nat
  zeros : Nat
  inexact : Nat
  sat : Nat
  ufz : Nat
  nf : Nat
  shift : Nat
  maxExp : Option Int
  /-- histogram bins 0 to 15 -/
  hist : List Nat
  deriving DecidableEq, Repr

/-- The result of a VERDICT collective as the Reeve cores keep it (R230, R384, R461). -/
structure Verdict where
  step : Nat
  probe : Bool
  time : Nat
  flag : Bool
  members : List Nat
  /-- job maxima of the tags of job scope (R228) -/
  maxima : List (Nat × Int)
  deriving DecidableEq, Repr

/-- Winnow's own state; the tag table and the counter records stand in Tilth (R223). -/
structure Winnow where
  lastClosed : Nat
  decay : Nat
  /-- open steps, oldest first (R224: at most two) -/
  openSteps : List Nat
  /-- masked tags, rising (R235) -/
  masks : List Nat
  /-- open steps in which an untracked tag counted NF (R222) -/
  nfUntracked : List Nat
  /-- open steps that ran a probe pre-pass (R232) -/
  preSteps : List Nat
  /-- the counter area (0 or 1) of each step that has one: the open steps, and the last closed one while its combined
  record is kept (R223, R225) -/
  areas : List (Nat × Nat)
  deriving DecidableEq, Repr

/-! ### Drill -/

/-- A queue's ring (R305, R306). -/
structure Ring where
  base : Nat
  slots : Nat
  slotBytes : Nat
  credits : Nat
  seq : Nat
  deriving DecidableEq, Repr

/-- A COPY's progress: next row to move, destination base, gating pass, gate open, ring credit taken, the information of
an early end (R303, R306, R308, R312), and the bytes moved to sectors that later rows go on filling, by address (R304). -/
structure CopyProg where
  row : Nat
  dst : Nat
  gate : Option Nat
  gateOpen : Bool
  credit : Bool
  stopped : Option Nat
  held : List (Nat × List Byte)
  deriving DecidableEq, Repr

/-- A CANCEL's progress: Fields decided (bits), and the ids it matched that must complete (R313). -/
structure CancelProg where
  decided : Nat
  matched : List Nat
  deriving DecidableEq, Repr

/-! ### Coulter -/

/-- The fields by which a sample is decoded (R335, R341). -/
structure SampDesc where
  kind : Nat
  trunc : Nat
  strict : Bool
  grain : Bool
  vocab : Nat
  src : Nat
  len : Nat
  unitCount : Nat
  firstUnit : Nat
  budget : Nat
  direct : Bool
  dst : Nat
  cap : Nat
  deriving DecidableEq, Repr

/-- A vocabulary as its registers name it (R331): base, log2 of the merge entries, class ranges, tokens. -/
structure Vocab where
  base : Nat
  log2 : Nat
  ranges : Nat
  tokens : Nat
  deriving DecidableEq, Repr

/-- A sample that Coulter holds: its owner (a DECODE, or a sample number of a BATCH), core, header, sizes
O and S, arena granules, time of its last charge, syntax units entered, bits taken, pictures or samples decoded and
output, bytes of O written, the end of the text run being cut, and its outcome. -/
structure Samp where
  id : Nat
  owner : Nat
  area : Nat
  work : Nat
  d : SampDesc
  core : Option Nat
  restarted : Bool
  stop : Bool
  hdr : Option HdrInfo
  order : Nat
  o : Nat
  s : Nat
  limitP : Bool
  granules : Option (List Nat)
  unit : Nat
  bits : Nat
  decoded : Nat
  valid : Nat
  padded : Nat
  written : Nat
  run : Nat
  truncated : Bool
  charged : Nat
  /-- work units charged to it: W -/
  w : Nat
  outcome : Option Nat
  /-- the vocabulary in force when it started (R332) -/
  voc : Vocab
  deriving DecidableEq, Repr

/-- What a decoded form needs besides its bytes (R320). -/
structure FormMeta where
  kind : Nat
  width : Nat
  height : Nat
  depth : Nat
  chroma : Nat
  comps : Nat
  units : Nat
  total : Nat
  bytes : Nat
  deriving DecidableEq, Repr

/-- A crib entry (R353): its key, its outcome, and for a decoded form its description and granules. -/
structure CribEntry where
  key : Nat × Nat × List Byte
  outcome : Nat
  form : Option FormMeta
  granules : List Nat
  deriving DecidableEq, Repr

/-- An area of a slot: 0 its next entry is to be looked up, 1 a sample is being decoded for it, 2 done; the
index tried now, fallback entries tried, the outcome of the slot's own sample, and the manifest entry being
decoded. -/
structure AreaSt where
  phase : Nat
  index : Nat
  tried : Nat
  own : Nat
  entry : List Byte
  deriving DecidableEq, Repr

/-- A BATCH that has started: its sequence number, its areas, its start, its areas filled from live frames or
zero-filled at the wait's end, and the samples substituted or zero-filled (R345, R346, R358). -/
structure BatchProg where
  seq : Nat
  areas : List AreaSt
  start : Nat
  live : Nat
  spoiled : Nat
  deriving DecidableEq, Repr

/-- A complete live frame not yet taken or overwritten (R356, R357), and its size after the ROI. -/
structure LiveFrame where
  num : Nat
  capture : Nat
  width : Nat
  height : Nat
  deriving DecidableEq, Repr

/-- A live stream (R355 to R361): the base of its ring; complete frames not taken, oldest first; the extended
sequence number expected next; the frame being assembled: begun, with a gap, its capture time, its ROI (x, y,
w, h), its sample codes by position (newest first), and for audio its samples per channel so far; how many
frames have been numbered; the time of the last packet; waiting for synchronisation; LOST. -/
structure LiveSt where
  on : Bool
  base : Nat
  frames : List LiveFrame
  nextSeq : Option Nat
  begun : Bool
  gap : Bool
  capture : Nat
  roi : Nat × Nat × Nat × Nat
  pieces : List (Nat × Nat)
  fill : Nat
  count : Nat
  lastPacket : Nat
  sync : Bool
  lost : Bool
  /-- the RTP timestamp of the frame being assembled -/
  stamp : Nat
  deriving DecidableEq, Repr

/-- Coulter: its cores (0 SELF_TEST, 1 WORKING, 2 FAILED), samples in order of receipt, how many samples
were received and had their headers checked; the windrow queue (slot states: 0 free, 1 filling, 2 ready);
the crib; the live streams. -/
structure CoulterSt where
  cores : List Nat
  samples : List Samp
  nextSample : Nat
  nextOrder : Nat
  noCore : List Nat
  batches : Nat
  slots : List Nat
  lowArmed : Bool
  crib : List CribEntry
  live : List LiveSt
  deriving DecidableEq, Repr

/-! ### Thresher -/

/-- What Thresher sends to a position of a channel: tokens, seals, blocks, acknowledgements (by tree, bytes),
block requests after a residue mismatch, reports of an unreachable peer, requests for a seal, repair requests
(tree, offset, bytes). -/
inductive ThrMsg where
  | token (ch number dest : Nat) (t : TokenMsg)
  | sealMsg (ch number dest : Nat) (x : SealRec)
  | block (ch number dest : Nat) (b : BlockMsg)
  | ack (ch number dest tree bytes : Nat)
  | retry (ch number dest tree block kind : Nat)
  | report (ch number dest peer : Nat)
  | resend (ch number dest : Nat)
  | repair (ch number dest tree offset bytes : Nat)
  deriving DecidableEq, Repr

/-- A child in a distribution tree (R397, R400): tree, position, acknowledged bytes, since when it lags beyond
the window, and whether it is detached. -/
structure Kid where
  tree : Nat
  pos : Nat
  acked : Nat
  lagSince : Option Nat
  detached : Bool
  deriving DecidableEq, Repr

/-- A collective on this module (R363, R375 to R382): its channel and number, 0 not started, 1 waiting for a
seal, 2 sealed, 3 in its data phase; its start, e_win, digest and non-finite flag; the seal it acts on; an
outcome once it has failed; withdrawn, with the information of a cancellation; partial sums received, by
block and child; blocks passed on; result blocks held; keys accepted (R409) and residue retries; its children;
trees in which it is detached itself; whether a repaired block has been taken; whether its entry conversion has
been reported; the job maxima of a verdict; the blocks it has sent that are no results it holds, by destination,
kept for a residue retry (R405); the result blocks that positions have asked for and that are not here yet, by position
(R402). -/
structure CollProg where
  ch : Nat
  number : Nat
  phase : Nat
  start : Nat
  eWin : Int
  digest : List Nat
  nf : Bool
  held : Option SealRec
  outcome : Nat
  withdrawn : Bool
  cancelInfo : Nat
  parts : List (Nat × Nat × List Nat)
  passed : List Nat
  results : List (Nat × List Nat)
  keys : List (Nat × Nat × Nat × Nat)
  retries : List (Nat × Nat × Nat × Nat)
  kids : List Kid
  detachedTrees : List Nat
  repaired : Bool
  reported : Bool
  maxima : Option (List (Nat × Int))
  sent : List (Nat × BlockMsg)
  asks : List (Nat × Nat)
  deriving DecidableEq, Repr

/-- A channel as its enable left it (R374): members with their required bits, the digest of the table, and the
number of the next collective. -/
structure ThrChan where
  members : List (Nat × Bool)
  digest : Nat
  next : Nat
  deriving DecidableEq, Repr

/-- A token that the arbiter holds: position, stamp, digest, flag, and whether it was accepted by the decision
cycle. -/
structure ArbTok where
  pos : Nat
  stamp : Nat
  digest : List Nat
  nf : Bool
  deriving DecidableEq, Repr

/-- The arbiter's record of a collective (R376 to R381, R410): started here, the deadline, its own digest, the
root of a BROADCAST, tokens, decision time, positions judged undelivered, digests that differ, a seal still to
be sent, the last seal, and reports (reporter, peer, stamp). -/
structure ArbRec where
  ch : Nat
  number : Nat
  started : Bool
  deadline : Nat
  digest : List Nat
  root : Option Nat
  tokens : List ArbTok
  decided : Option Nat
  undelivered : List Nat
  mismatch : Bool
  due : Bool
  last : Option SealRec
  reports : List (Nat × Nat × Nat)
  deriving DecidableEq, Repr

/-- What a member keeps of a completed collective until its repair limit (R405, R407). -/
structure Retained where
  ch : Nat
  number : Nat
  words : List Word512
  held : SealRec
  results : List (Nat × List Nat)
  sent : List (Nat × BlockMsg)
  limit : Nat
  deriving DecidableEq, Repr

/-- Thresher: channels, failed adder lanes (bits), arbiter records, steps and probe settings of verdict
collectives issued, collectives kept for repair, and everything sent, newest first. -/
structure ThrSt where
  chans : List ThrChan
  lanes : Nat
  arbs : List ArbRec
  verdictSteps : List (Nat × Bool)
  kept : List Retained
  sent : List ThrMsg
  deriving DecidableEq, Repr

/-! ### Swath -/

/-- A link (R415, R434): its state code as R440 gives it, whether it is in service, whether it has been judged since
it came up, the times at which it went DOWN, and its neighbour's record in the plan's layout. -/
structure SwLink where
  state : Nat
  inService : Bool
  judged : Bool
  downs : List Nat
  nbr : Option (List Byte)
  deriving DecidableEq, Repr

/-- A port: trained lanes, laser feed good, priorities that a received pause stops (R418). -/
structure SwPort where
  lanes : Nat
  laserOk : Bool
  paused : Nat
  deriving DecidableEq, Repr

/-- An endpoint of the plan (R432). -/
structure PlanEp where
  addr : List Byte
  required : Bool
  storage : Bool
  modno : Nat
  deriving DecidableEq, Repr

/-- A DATA packet: user, message, offset, last, payload, what it asks. -/
structure TxData where
  user : Nat
  msg : Nat
  off : Nat
  last : Bool
  payload : List Byte
  body : SwathBody
  deriving DecidableEq, Repr

/-- A retransmit slot (R424, R425): sequence number, packet, the link and path it went on last, when, its timer in
multiples of rto_us, and how many packets sent after it have been acknowledged. -/
structure TxSlot where
  place : Nat
  seq : Nat
  data : TxData
  link : Nat
  path : Nat
  sentAt : Nat
  timer : Nat
  newer : Nat
  deriving DecidableEq, Repr

/-- A path's window, and the packets acknowledged toward its next rise (R428). -/
structure PathSt where
  link : Nat
  path : Nat
  window : Nat
  acked : Nat
  deriving DecidableEq, Repr

/-- A connection (R421 to R428): the peer's incarnation; receiving: cum_ack, accepted sequence numbers above it,
packets unacknowledged, link and path of the last, CE seen; sending: next sequence and message numbers, slots
oldest first, packets that wait; since when an answer is awaited; unreachable; paths and the round robin; since when the
packets unacknowledged are; when it was probed last; the time of the discovery limit while its endpoint has not answered
since (R436); the messages being received, with the bytes accepted and the length once the last packet is there, and how many
have completed in order (R423). -/
structure SwConn where
  peerInc : Option Nat
  rxCum : Nat
  rxAhead : List Nat
  ackDue : Nat
  rxLink : Nat
  rxPath : Nat
  ceSeen : Bool
  txSeq : Nat
  txMsg : Nat
  slots : List TxSlot
  queue : List TxData
  since : Option Nat
  unreachable : Bool
  paths : List PathSt
  rr : Nat
  ackFrom : Nat
  probed : Nat
  watch : Option Nat
  rxMsgs : List (Nat × Nat × Option Nat)
  rxDone : Nat
  deriving DecidableEq, Repr

/-- What Swath puts on a link: a transport packet with its UDP source port, its 802.1Q priority and what it asks (R418,
R428), an LLDP frame with its chassis address (R434), a PTP Sync, a join of a live flow's group. -/
inductive SwathOut where
  | packet (link port pcp : Nat) (bytes : List Byte) (body : SwathBody)
  | lldp (link mac : Nat)
  | sync (link : Nat)
  | join (link flow : Nat)
  deriving DecidableEq, Repr

/-- Swath: links, ports, TRANSPORT.state, the time of the load, loads since the last cold reset, the plan's link
entries and endpoints, connections by endpoint, everything sent (newest first), and when LLDP was sent last (R434). -/
structure SwathSt where
  links : List SwLink
  ports : List SwPort
  plan : Nat
  loadTime : Nat
  loads : Nat
  planLinks : List (List Byte)
  eps : List PlanEp
  conns : List SwConn
  sent : List SwathOut
  lldpAt : Nat
  deriving DecidableEq, Repr

/-- A Swath WRITE or READ (R429): its message, bytes sent, bytes written, and the message that brings a READ's data. -/
structure SwathProg where
  msg : Nat
  sent : Nat
  got : Nat
  data : Option Nat
  deriving DecidableEq, Repr

/-! ### Recovery -/

/-- A recovery descriptor being run (R475 to R489): table entries done, whether it has begun, a COMMIT carries or
a REFILL's image is verified, the set it works with, the endpoint it talks to, the message it waits for, and for
a read where its bytes go, how many, how many have come, or the bytes themselves for a seal record. -/
structure RecProg where
  idx : Nat
  begun : Bool
  carry : Bool
  set : Nat
  ep : Nat
  msg : Option Nat
  dst : Nat
  len : Nat
  got : Nat
  keep : Bool
  held : List Byte
  deriving DecidableEq, Repr

/-- What the Steading's Reeve cores keep for recovery beside the RECOVERY page: the generation counter (R482); the
step and the bytes of the stook being staged or drained; the steps for which the two hosted slots are sealed, and
those whose seal record has arrived (R480); the extent count of a FILL_READY (R488). -/
structure Recov where
  generation : Nat
  stookStep : Nat
  stookBytes : Nat
  hosted : List (Option Nat)
  sealSeen : List Bool
  fillReady : Option Nat
  deriving DecidableEq, Repr

/-! ### Power -/

/-- A junction sensor (R502, R504): its last plausible reading, implausible readings in succession, suspect, and
plausible readings in succession at or above trip_c. -/
structure Junction where
  last : Option Int
  bad : Nat
  suspect : Bool
  trips : Nat
  deriving DecidableEq, Repr

/-- A Field's supply (R505, R507): its clocks are stretched, its array frequency in MHz, its voltage has been raised
for a pending change, and recent stretches by time and AC cycles. -/
structure DroopSt where
  stretching : Bool
  mhz : Nat
  raised : Bool
  recent : List (Nat × Nat)
  deriving DecidableEq, Repr

/-- The power unit. -/
structure PowerSt where
  /-- the dies outside Steward's standby domain and the Tithe are powered -/
  dies : Bool
  /-- 0 Run, 1 Idle, 2 Rest, 3 Fallow, 4 Winter (R492) -/
  state : Nat
  /-- a state asked for and not yet reached (R494, R495) -/
  goal : Option Nat
  /-- since when no compute unit has held work (R493) -/
  idleSince : Option Nat
  /-- the latest values of p in 0.01 W, newest first, at most 100,000 (R498, R499) -/
  ps : List Nat
  /-- windows since the last whole millisecond -/
  tick : Nat
  /-- consecutive mismatch windows; this millisecond has one; consecutive milliseconds with one; consecutive windows
  without one (R497) -/
  badRun : Nat
  msBad : Bool
  badMs : Nat
  cleanRun : Nat
  /-- the governor has reached a millisecond and THERMAL_STEP is due (R499) -/
  thermDue : Bool
  /-- inside an excursion that has raised THERM_HOT, THERM_THROTTLE (R503) -/
  hotSeen : Bool
  throttleSeen : Bool
  /-- energy not yet counted in energy_mj, in 0.0001 mJ -/
  energyRest : Nat
  /-- sensors, by die × 8 + sensor: die 8 is the Steading (R502) -/
  sensors : List Junction
  /-- the THERMTRIP_N pin is driven low (R504) -/
  thermtrip : Bool
  /-- by Field -/
  droop : List DroopSt
  /-- ac_max at the last cold reset: next_mhz's reset value -/
  acReset : Nat
  /-- ac_mhz -/
  acMhz : Nat
  /-- a submitted change: its instant and frequency (R508) -/
  change : Option (Nat × Nat)
  deriving DecidableEq, Repr

/-! ### Tithe -/

/-- The Tithe: everything on its own die and in its own flash (R513 to R526). -/
structure TitheSt where
  /-- its supply is present -/
  powered : Bool
  /-- Tithe time, µs (R517) -/
  time : Nat
  fwVersion : Nat
  /-- sequence number of the next record (R520) -/
  seq : Nat
  /-- the open interval: tag, opening time, energy in µJ, and its remainder in 10^−5 µJ -/
  tag : Nat
  openAt : Nat
  energy : Nat
  rest : Nat
  odometer : Nat
  /-- highest power over 1 ms in mW, highest and lowest voltage in mV, samples taken in the interval -/
  peak : Nat
  vMax : Nat
  vMin : Nat
  taken : Nat
  /-- SENSE_FAULT and CHECKPOINT_LOSS for the record that closes the interval -/
  senseFlag : Bool
  ckptFlag : Bool
  senseFault : Bool
  sealCount : Nat
  tamperCount : Nat
  /-- newest first, at most 64: Tithe time, kind, low bits of a sequence number (R523) -/
  tamperLog : List (Nat × Nat × Nat)
  /-- newest first, at most 65,536: sequence number and bytes -/
  records : List (Nat × List Byte)
  /-- the last 1,000 samples, newest first: voltage in mV and power in µW -/
  samples : List (Nat × Nat)
  /-- the last checkpoint: time, opening time, energy, odometer, peak, voltages; and whether the closure at the last
  power loss was written (R519) -/
  ckpt : List Nat
  lossWritten : Bool
  /-- the UART is sending a response until this Tithe time (R524); responses sent, newest first -/
  sendUntil : Nat
  out : List (List Byte)
  /-- mirror words of a snapshot, and of a record, not yet arrived: register offset and value; records closed and not
  yet begun; the sequence number of the record arriving (R525, R526) -/
  snapWords : List (Nat × Nat)
  recWords : List (Nat × Nat)
  recQueue : List (Nat × List Byte)
  recSeq : Nat
  /-- Almanac time of the last mirror word -/
  lastWord : Nat
  deriving DecidableEq, Repr

/-! ### Descriptors in flight -/

/-- What a unit holds for a descriptor it runs, by unit class. -/
inductive Prog where
  | none
  | pass (p : PassProg)
  | glean (g : GleanProg)
  | harrow (h : HarrowProg)
  | copy (c : CopyProg)
  | cancel (c : CancelProg)
  | decode
  | batch (b : BatchProg)
  | coll (c : CollProg)
  | swath (x : SwathProg)
  | reco (r : RecProg)
  deriving DecidableEq, Repr

/-- A copied wait-mask entry with its domain (R453). -/
structure WaitCopy where
  domain : Nat
  consume : Bool
  any : Bool
  flags : List Nat
  deriving DecidableEq, Repr

/-- A descriptor issued and not completed. -/
structure Flight where
  id : Nat
  words : List Word512
  origin : Origin
  /-- the step number it carries (R457) -/
  step : Nat
  /-- its issued copy of the wait-mask entry (R453) -/
  wait : Option WaitCopy
  waitMet : Bool
  fired : Bool
  /-- Almanac time at which its gate fired -/
  firedAt : Nat
  late : Bool
  /-- its unit has started it -/
  started : Bool
  /-- Harrow engine assigned at issue (R193), or the unit number that its class assigns -/
  unit : Nat
  /-- the information it will complete with, once something has decided it -/
  ending : Option Nat
  prog : Prog
  deriving DecidableEq, Repr

/-! ### Tilth and Granary -/

/-- A bank whose state change is pending (R251, R252): its number in the Field, the state it leaves,
and whether the transition itself has begun. -/
structure BankMove where
  field : Nat
  bank : Nat
  source : Nat
  begun : Bool
  deriving DecidableEq, Repr

/-- A bank that the plot tester works on: its next plot, when its last test started, and whether that
test runs now (R258). -/
structure PlotSlot where
  bank : Nat
  plot : Nat
  start : Option Nat
  testing : Bool
  deriving DecidableEq, Repr

/-- An entry of a Field's repair map; `flash` says that Steward has written it to flash (R261, R262). -/
structure Repair where
  bank : Nat
  plot : Nat
  spare : Nat
  flash : Bool
  deriving DecidableEq, Repr

/-- The plot tester of a Field: banks not yet started in the pass, banks being tested, repair map. -/
structure PlotSt where
  left : List Nat
  slots : List PlotSlot
  map : List Repair
  deriving DecidableEq, Repr

/-- One Granary stack (R267, R283 to R289): 0 TRAINING, 1 WORKING, 2 FAILED, 3 MAPPED_OUT; the last
plausible temperature, implausible readings in succession, self-refresh at 105 °C, and the pseudo-channels of the
uncorrectable errors of the last millisecond with their times (R287); the highest plausible reading since cold reset
(R292); the lane repairs in Steward flash, and the Almanac time of the training whose results Steward keeps (R285). -/
structure StackSt where
  state : Nat
  mapoutPending : Bool
  lastTemp : Option Int
  badRun : Nat
  hold : Bool
  errs : List (Nat × Nat)
  maxTemp : Option Int
  lanes : Nat
  trained : Option Nat
  deriving DecidableEq, Repr

end Sys2Proof.Machine
end

