-- ==== Sys2Proof/Machine/State.lean ====
section
/-!
DEFINITION. The state of the module, the reasons a step can stop, and the state right after reset.
Registers that hold a plain value live in ONE sparse store keyed by their byte address (R30); device
memory is ONE sparse byte store keyed by device address (R27); everything that has structure is a
field of its own.
-/
namespace Sys2Proof.Machine

/-- Reasons a step stops with a fault. There is none: no command of this block stops the machine
(every error the spec names is reported through registers, events and completion information). -/
inductive Fault : Type
  deriving DecidableEq, Repr

/-- Reasons a command has no meaning. -/
inductive Refusal where
  /-- Raised by an arm of `exec` for a command whose meaning is not written; safe: nothing is proved
  about what such a command does. -/
  | notModelled (mnemonic : String)
  deriving DecidableEq, Repr

/-- The state of the module. -/
structure State where
  /-- registers whose value differs from their reset value, by byte address, rising (R30, R55) -/
  regs : List (Nat × Nat)
  /-- device memory: addresses rising, no byte equal to 0, which an unlisted address reads as -/
  mem : List Host.Cell
  /-- bases of the 32-byte sectors that hold a poison marker, rising (R256, R269) -/
  poison : List Nat
  hitch : Hitch
  windows : List Window
  /-- descriptors issued and not completed, in order of issue -/
  flights : List Flight
  /-- number of descriptors ever issued: the id of the next one -/
  nextId : Nat
  /-- event flags that are 1, as domain × 1,024 + number, rising (R452) -/
  flags : List Nat
  hostWaits : List HostWait
  alm : Almanac
  furlong : Option Furlong
  /-- ledger records in the ring since it was last emptied (R468, R469) -/
  ledgerHeld : Nat
  journal : Journal
  steward : Steward
  fields : List FieldSt
  /-- bit c: Steading Reeve core c FAILED (R72) -/
  steadFailed : Nat
  /-- bank state changes in progress, by Field and bank, rising (R252) -/
  bankMoves : List BankMove
  /-- plot testers, by Field -/
  plots : List PlotSt
  stackList : List StackSt
  /-- 2 MiB blocks of the stacks that are fresh no more, as stack × 36,864 + block, rising (R286) -/
  written : List Nat
  /-- addresses of cached Granary lines marked KEEP, least recent first (R276) -/
  kept : List Nat
  arrays : List ArraySt
  engines : List EngineSt
  /-- Glean row metadata that differs from 0, by Field × 2,048 + row, rising (R163) -/
  gleanMeta : List (Nat × Nat)
  coulter : CoulterSt
  thr : ThrSt
  swath : SwathSt
  recov : Recov
  power : PowerSt
  tithe : TitheSt
  winnow : Winnow
  /-- rings of the Drill queues, by Field × 32 + queue (R305) -/
  rings : List Ring
  /-- the most recent pass issued on each array and quadrant under each work identifier, as (array × 4 + quadrant) ×
  2^32 + work_id with the pass's id, rising (R308) -/
  passIds : List (Nat × Nat)
  /-- verdicts received, newest first -/
  verdicts : List Verdict
  /-- how many free values have been drawn: the model's own counter (log entry 2) -/
  freeCtr : Nat
  /-- the model's own note (log entry 19): for a counter whose events the spec counts and no command carries, its byte
  address and the Almanac count at which its value was last settled; for a decoder core's busy_cycles also, at the
  address plus 1, that the core has held a sample since -/
  settled : List (Nat × Nat)
  /-- the model's own note (log entry 17): PG_EVENT bits that hardware set in the present FC cycle, by the register's
  byte address -/
  setNow : List (Nat × Nat)
  /-- the model's own note (log entry 17): event flags set in the present FC cycle, and whether each was 1 before -/
  flagsNow : List (Nat × Bool)
  /-- commands that wait, first in first out -/
  pending : List Instr
  deriving DecidableEq, Repr

/-! ### Right after reset

The machine at the start of a cold bring-up: stage STANDBY, both inputs and both clocks present, the register fabric
closed, no memory byte listed and every register at its reset value. What flash, the factory record, the straps and the
dies give stands at the values that log entry 5 names. -/

/-- The Hitch link and its queues (R43, R569); the version that HITCH_LINK reads at reset is 1.0 (R80). -/
def hitchReset : Hitch :=
  ⟨.down, 0, 0, 0x10, none, false, false, 0, 0, false, 0, [], [], [], 0, 0, [], [], [], .running, 0⟩

/-- An image slot as log entry 5 gives it. -/
def slotReset (valid : Bool) : ImageSlot := ⟨valid, b2n valid, b2n valid, List.replicate 64 0, List.replicate 64 0, []⟩

/-- The factory record as log entry 5 gives it. -/
def factoryReset : Factory := ⟨0, 0, List.replicate 136 800, List.replicate 32 0⟩

/-- Steward at the start of a bring-up (R529). -/
def stewardReset : Steward where
  stage := 0
  progress := 0
  halted := false
  scanHold := false
  fabricOpen := false
  ready := false
  warm := false
  causePending := 1
  strapsTaken := false
  pwrDomain := 0
  slotId := 0
  bootSel := 0
  strapLast := (0, 0, 0)
  strapRun := 0
  strapSamples := 0
  slotA := slotReset true
  slotB := slotReset false
  rec0 := ⟨true, 1, 0, none, 0, 0⟩
  rec1 := ⟨false, 0, 0, none, 0, 0⟩
  booted := 0
  bootedTrial := false
  revertPending := false
  upd := .idle
  updOutcome := 0
  staging := none
  stagedSlot := 0
  factory := factoryReset
  quote := .idle
  quoteCounter := 0
  quoteNonce := []
  log := []
  logCount := 0
  resetsCold := 1
  bootCount := 0
  mgmtLast := none
  mgmtOut := []
  mgmtHeld := []
  scanDrive := none
  scanReg := 0
  warmPending := none
  vin := true
  vstby := true
  mclk := true
  heldOff := false

/-- A Field: each Hedgerow link training, or absent where no neighbour stands (R15, R37). -/
def fieldReset (f : Nat) : FieldSt :=
  ⟨false, if f % 4 = 1 then .absent else .training, if f % 4 = 3 then .absent else .training, .training, 0⟩

/-- A Furrow array that has not yet passed its self-test (R134, R137). -/
def arrayReset : ArraySt := ⟨0, 0, List.replicate 4 ⟨0, none, 0, none, false⟩, none, none, 0, 0⟩

/-- Coulter: every core untested, nothing held (R318, R355). -/
def coulterReset : CoulterSt :=
  ⟨List.replicate 16 0, [], 0, 0, [], 0, [], true, [],
    List.replicate 8 ⟨false, 0, [], none, false, false, 0, (0, 0, 0, 0), [], 0, 0, 0, false, false, 0⟩⟩

/-- Thresher: every channel disabled (R391). -/
def thrReset : ThrSt := ⟨List.replicate 32 ⟨[], 0, 0⟩, 0, [], [], [], []⟩

/-- Swath: every link disabled, no plan (R415, R433). -/
def swathReset : SwathSt :=
  ⟨List.replicate 64 ⟨0, false, false, [], none⟩, List.replicate 8 ⟨0, false, 0⟩, 0, 0, 0, [], [], [], [], 0⟩

/-- The power unit: dies unpowered, Run (R492, R508). -/
def powerReset : PowerSt where
  dies := false
  state := 0
  goal := none
  idleSince := none
  ps := []
  tick := 0
  badRun := 0
  msBad := false
  badMs := 0
  cleanRun := 0
  thermDue := false
  hotSeen := false
  throttleSeen := false
  energyRest := 0
  sensors := List.replicate 72 ⟨none, 0, false, 0⟩
  thermtrip := false
  droop := List.replicate 8 ⟨false, 700, false, []⟩
  acReset := 700
  acMhz := 700
  change := none

/-- The Tithe, powered, at the start of its first interval (R518). -/
def titheReset : TitheSt where
  powered := true
  time := 0
  fwVersion := 0
  seq := 0
  tag := 0
  openAt := 0
  energy := 0
  rest := 0
  odometer := 0
  peak := 0
  vMax := 0
  vMin := 0
  taken := 0
  senseFlag := false
  ckptFlag := false
  senseFault := false
  sealCount := 0
  tamperCount := 0
  tamperLog := []
  records := []
  samples := []
  ckpt := []
  lossWritten := false
  sendUntil := 0
  out := []
  snapWords := []
  recWords := []
  recQueue := []
  recSeq := 0
  lastWord := 0

/-- The module right after reset. -/
def State.reset : State where
  regs := []
  mem := []
  poison := []
  hitch := hitchReset
  windows := List.replicate 16 ⟨[], [], false, false, false⟩
  flights := []
  nextId := 0
  flags := []
  hostWaits := []
  alm := ⟨false, 0, 201053554793325, .free, 0, [(0, 201053554793325)], 0, none, 0, none, 0, none⟩
  furlong := none
  ledgerHeld := 0
  journal := ⟨0, [], [], List.replicate 64 0⟩
  steward := stewardReset
  fields := (List.range 8).map fieldReset
  steadFailed := 0
  bankMoves := []
  plots := List.replicate 8 ⟨[], [], []⟩
  stackList := List.replicate 24 ⟨0, false, none, 0, false, [], none, 0, none⟩
  written := []
  kept := []
  arrays := List.replicate 8 arrayReset
  engines := List.replicate 16 ⟨0, none, 0⟩
  gleanMeta := []
  coulter := coulterReset
  thr := thrReset
  swath := swathReset
  recov := ⟨0, 0, 0, [none, none], [false, false], none⟩
  power := powerReset
  tithe := titheReset
  winnow := ⟨0, 0, [], [], [], [], []⟩
  rings := List.replicate 256 ⟨0, 0, 0, 0, 0⟩
  passIds := []
  verdicts := []
  freeCtr := 0
  settled := []
  setNow := []
  flagsNow := []
  pending := []

end Sys2Proof.Machine
end

