-- ==== Sys2Proof/Machine/Ops.lean ====
section
/-!
DEFINITION. The named operations over registers, device memory, events, the journal, the log and the
Hitch queues, and the rules that every unit shares: what is populated (R27, R28, R250, R271), how an
event record is raised (R75, R77), how an error is captured (R57), how a write is journaled (R59).
-/
namespace Sys2Proof.Machine

/-! ### Sparse stores -/

/-- The value listed at a key. -/
def storeGet : List (Nat × Nat) → Nat → Option Nat
  | [], _ => none
  | (k, v) :: rest, a => if k = a then some v else storeGet rest a

/-- A store with a key removed. -/
def storeDel (l : List (Nat × Nat)) (a : Nat) : List (Nat × Nat) := l.filter (fun kv => kv.1 != a)

/-- A store, keys rising, with a key set. -/
def storePut : List (Nat × Nat) → Nat → Nat → List (Nat × Nat)
  | [], a, v => [(a, v)]
  | (k, w) :: rest, a, v =>
    if a < k then (a, v) :: (k, w) :: rest
    else if a = k then (a, v) :: rest
    else (k, w) :: storePut rest a v

/-- The byte at an address; an unlisted address reads as 0 (log entry 7). -/
def memGet : List Host.Cell → Nat → Byte
  | [], _ => 0
  | (k, v) :: rest, a => if k = a then v else memGet rest a

/-- Memory with one byte written; a byte of 0 is not listed, so equal memories are equal lists. -/
def memPut : List Host.Cell → Nat → Byte → List Host.Cell
  | [], a, b => if b = 0 then [] else [(a, b)]
  | (k, v) :: rest, a, b =>
    if a < k then (if b = 0 then (k, v) :: rest else (a, b) :: (k, v) :: rest)
    else if a = k then (if b = 0 then rest else (a, b) :: rest)
    else (k, v) :: memPut rest a b

/-- The canonical form of memory: addresses strictly rising, no byte equal to 0. -/
def Memory.wf : List Host.Cell → Bool
  | [] => true
  | [(_, v)] => v != 0
  | (k, v) :: (k2, v2) :: rest => v != 0 && decide (k < k2) && Memory.wf ((k2, v2) :: rest)

/-- A rising list of numbers with one inserted. -/
def setInsert : List Nat → Nat → List Nat
  | [], a => [a]
  | b :: rest, a => if a < b then a :: b :: rest else if a = b then b :: rest else b :: setInsert rest a

/-- A list of numbers with one removed. -/
def setErase (l : List Nat) (a : Nat) : List Nat := l.filter (· != a)

/-! ### Registers (R30, R55) -/

/-- The reset value of the register at a byte address. -/
def resetOf (a : Nat) : Nat :=
  match pageOf (a / 0x1000) with
  | some (k, _) => regReset k (a % 0x1000)
  | none => 0

/-- The value held in the register at a byte address. -/
def State.reg (s : State) (a : Nat) : Nat := (storeGet s.regs a).getD (resetOf a)

/-- The state with a register set; a register at its reset value is not listed. -/
def State.setReg (s : State) (a v : Nat) : State :=
  { s with regs := if v = resetOf a then storeDel s.regs a else storePut s.regs a v }

/-- A field of a register. -/
def State.rf (s : State) (a hi lo : Nat) : Nat := bitsOf (s.reg a) hi lo

/-- The state with a field of a register set. -/
def State.setRf (s : State) (a hi lo v : Nat) : State := s.setReg a (setBits (s.reg a) hi lo v)

/-- A 64-bit counter raised by n; it stops at 0xFFFF_FFFF_FFFF_FFFE. -/
def State.bumpBy (s : State) (a n : Nat) : State := s.setReg a (min counterStop (s.reg a + n))

/-- A 64-bit counter raised by one. -/
def State.bump (s : State) (a : Nat) : State := s.bumpBy a 1

/-- PG_CTRL.enable of a page. -/
def State.enabled (s : State) (k : PageKind) (i : Nat) : Bool := bitOf (s.reg (regAddr k i 0x020)) 0

/-- PG_CTRL.launch_gate_enable of a page. -/
def State.gateOn (s : State) (k : PageKind) (i : Nat) : Bool := bitOf (s.reg (regAddr k i 0x020)) 2

/-! ### Almanac time -/

/-- The 64-bit Almanac value (R443). -/
def State.now (s : State) : Nat := (s.alm.acc.toNat / 2 ^ 32) % 2 ^ 64

/-- The Almanac units of a number of nanoseconds, microseconds and milliseconds (R443). -/
def almNs (n : Nat) : Nat := n * 65536
def almUs (n : Nat) : Nat := almNs (n * 1000)
def almMs (n : Nat) : Nat := almUs (n * 1000)

/-! ### Free values -/

/-- The next free number of w bits (log entry 2). -/
def State.freeBits (s : State) (w : Nat) : Nat := Config.freeNat s.freeCtr % 2 ^ w

/-- The state after one free value has been drawn. -/
def State.drawn (s : State) : State := { s with freeCtr := s.freeCtr + 1 }

/-! ### The address map (R27, R246, R250, R271) -/

def tilthBase (f : Nat) : Nat := 0x100000000 + f * 0x40000000
def tilthSize : Nat := 0x0C000000
def gleanBase (f : Nat) : Nat := 0x500000000 + f * 0x10000000
def gleanSize : Nat := 0x01800000
def coulterBufBase : Nat := 0x800000000
def stagingBufBase : Nat := 0x808000000
def swathBufBase : Nat := 0x810000000
def swathBufEnd : Nat := 0x814000000
def granaryBase : Nat := 0x100000000000
def granaryRegion : Nat := 0x3600000000
def stackBytes : Nat := 0x1200000000

/-- The areas of the device address map (R27), with the offset in the area. -/
inductive Area where
  | register
  | tilth (field off : Nat)
  | glean (field off : Nat)
  | coulterBuf
  | stagingBuf
  | swathBuf
  | granary (field off : Nat)
  | none
  deriving DecidableEq, Repr

/-- The area an address lies in (R27). -/
def areaOf (a : Nat) : Area :=
  if a < 0x10000000 then .register
  else if 0x100000000 ≤ a && a < 0x300000000 then
    let o := (a - 0x100000000) % 0x40000000
    if o < tilthSize then .tilth ((a - 0x100000000) / 0x40000000) o else .none
  else if 0x500000000 ≤ a && a < 0x580000000 then
    let o := (a - 0x500000000) % 0x10000000
    if o < gleanSize then .glean ((a - 0x500000000) / 0x10000000) o else .none
  else if coulterBufBase ≤ a && a < stagingBufBase then .coulterBuf
  else if stagingBufBase ≤ a && a < swathBufBase then .stagingBuf
  else if swathBufBase ≤ a && a < swathBufEnd then .swathBuf
  else if granaryBase ≤ a && a < granaryBase + 8 * granaryRegion then
    .granary ((a - granaryBase) / granaryRegion) ((a - granaryBase) % granaryRegion)
  else .none

/-- A Field's state. -/
def State.field (s : State) (f : Nat) : FieldSt :=
  s.fields.getD f ⟨true, .absent, .absent, .absent, 0xFF⟩

/-- A Field is lost (R21), or its number names none. -/
def State.lost (s : State) (f : Nat) : Bool := (s.field f).lost

/-- Set i of a Field's Tilth is linear (R247). -/
def State.setLinear (s : State) (f i : Nat) : Bool := bitOf (s.reg (regAddr .tilth f 0x100)) i

/-- The bank of a Tilth offset (R246). -/
def State.bankOf (s : State) (f o : Nat) : Nat :=
  let set := o / 0x04000000
  let u := o % 0x04000000
  if s.setLinear f set then 32 * set + u / 0x200000
  else
    let w := u / 128
    32 * set + ((w ^^^ (w >>> 5)) ^^^ (w >>> 10)) % 32

/-- The row of a Tilth offset within its bank (R246). -/
def State.rowOf (s : State) (f o : Nat) : Nat :=
  let u := o % 0x04000000
  if s.setLinear f (o / 0x04000000) then (u / 128) % 0x4000 else u / 128 / 32

/-- The state that TILTH_BANK_STATE gives a bank: 0 On, 1 Retention, 2 Off (R249, R264). -/
def State.bankState (s : State) (f b : Nat) : Nat :=
  let j := b % 32
  s.rf (regAddr .tilth f (0x108 + 8 * (b / 32))) (2 * j + 1) (2 * j)

/-- A bank's change of state is pending (R252). -/
def State.bankPending (s : State) (f b : Nat) : Bool :=
  s.bankMoves.any (fun m => m.field == f && m.bank == b)

/-- The module is in Rest, Fallow or Winter, or on its way into or out of one (R494). -/
def State.asleep (s : State) : Bool := decide (2 ≤ s.power.state) || s.power.goal.isSome

/-- A bank is On and not in transition (R250, R251); none is in Rest, Fallow or Winter (R253). -/
def State.bankOn (s : State) (f b : Nat) : Bool := s.bankState f b == 0 && !s.bankPending f b && decide (s.power.state < 2)

/-- Stack n of the module. -/
def State.stack (s : State) (n : Nat) : StackSt := s.stackList.getD n ⟨3, false, none, 0, false, [], none, 0, none⟩

/-- The stacks of a Field in service, ascending (R270). -/
def State.liveStacks (s : State) (f : Nat) : List Nat :=
  ([3 * f, 3 * f + 1, 3 * f + 2]).filter (fun n => (s.stack n).state != 3)

/-- The stack and the stack-local address of an offset in a Field's Granary region (R270). -/
def State.stackOf (s : State) (f o : Nat) : Nat × Nat :=
  let live := s.liveStacks f
  let n := max 1 live.length
  (live.getD (o / 256 % n) (3 * f), o / 256 / n * 256 + o % 256)

/-- The byte lies in a Granary stack that has failed: it reads as poison and a write to it is dropped
(R288). -/
def State.deadAt (s : State) (a : Nat) : Bool :=
  match areaOf a with
  | .granary f o => (s.stack (s.stackOf f o).1).state == 2
  | _ => false

/-- A byte of device memory outside register space is populated (R27, R250, R271, R22). -/
def State.byteOk (s : State) (a : Nat) : Bool :=
  match areaOf a with
  | .register => false
  | .tilth f o => !s.lost f && s.bankOn f (s.bankOf f o)
  | .glean f _ => !s.lost f
  | .coulterBuf | .stagingBuf | .swathBuf => true
  | .granary f o => !s.lost f && decide (o < (s.liveStacks f).length * stackBytes)
  | .none => false

/-- The bases of the 32-byte sectors that n bytes from a touch. Every boundary of the map is a
multiple of 32. -/
def sectorsOf (a n : Nat) : List Nat :=
  if n = 0 then [] else
    (List.range ((a + n - 1) / 32 - a / 32 + 1)).map (fun i => (a / 32 + i) * 32)

/-- Every one of n bytes from a is populated and none lies in register space (R28). -/
def State.populated (s : State) (a n : Nat) : Bool := (sectorsOf a n).all s.byteOk

/-- n bytes from a lie in one Field's Tilth window part that the map populates, banks aside (R27). -/
def inTilth (f a n : Nat) : Bool := decide (tilthBase f ≤ a) && decide (a + n ≤ tilthBase f + tilthSize)

/-- n bytes from a lie in the Glean of one Field (R27). -/
def inGlean (f a n : Nat) : Bool := decide (gleanBase f ≤ a) && decide (a + n ≤ gleanBase f + gleanSize)

/-- n bytes from a lie in the Granary window. -/
def inGranary (a n : Nat) : Bool := decide (granaryBase ≤ a) && decide (a + n ≤ granaryBase + 8 * granaryRegion)

/-- n bytes from a lie in the Steading buffers of R27. -/
def inSteadingBuf (a n : Nat) : Bool := decide (coulterBufBase ≤ a) && decide (a + n ≤ swathBufEnd)

/-- Some byte lies in the Swath retransmit buffers (R29). -/
def touchesSwathBuf (a n : Nat) : Bool := decide (0 < n) && decide (a < swathBufEnd) && decide (swathBufBase < a + n)

/-- Some byte lies in register space. -/
def touchesRegs (a n : Nat) : Bool := decide (0 < n) && decide (a < 0x10000000)

/-! ### Device memory -/

/-- One byte of device memory. -/
def State.byte (s : State) (a : Nat) : Byte := memGet s.mem a

/-- n bytes from an address, lowest first. -/
def State.bytes (s : State) (a : Nat) : Nat → List Byte
  | 0 => []
  | n + 1 => s.byte a :: s.bytes (a + 1) n

/-- The little-endian number in n bytes from an address (R12). -/
def State.num (s : State) (a n : Nat) : Nat := leNat (s.bytes a n)

/-- Memory with bytes written from an address on. -/
def memPutAll (m : List Host.Cell) (a : Nat) : List Byte → List Host.Cell
  | [] => m
  | b :: bs => memPutAll (memPut m a b) (a + 1) bs

/-- The state with bytes written to device memory. -/
def State.putBytes (s : State) (a : Nat) (bs : List Byte) : State := { s with mem := memPutAll s.mem a bs }

/-- A 32-byte sector reads as poison: it holds the marker (R256, R269) or lies in a failed stack (R288). -/
def State.poisonedAt (s : State) (a : Nat) : Bool := s.poison.contains (a / 32 * 32) || s.deadAt a

/-- Some sector of n bytes from a reads as poison. -/
def State.poisonedIn (s : State) (a n : Nat) : Bool := (sectorsOf a n).any s.poisonedAt

/-- The code with which poison read at an address is reported (R257, R280). -/
def poisonCode (a : Nat) : Nat :=
  match areaOf a with
  | .granary _ _ => 0x0411
  | _ => 0x0402

/-- The sectors wholly covered by n bytes from a. -/
def wholeSectors (a n : Nat) : List Nat := (sectorsOf a n).filter (fun b => decide (a ≤ b) && decide (b + 32 ≤ a + n))

/-- A write of whole sectors clears their poison; a partial write leaves it (R257). -/
def State.clearPoison (s : State) (a n : Nat) : State :=
  { s with poison := s.poison.filter (fun b => !(wholeSectors a n).contains b) }

/-- The state with the sectors of n bytes from a poisoned. -/
def State.poisonSectors (s : State) (a n : Nat) : State :=
  { s with poison := (sectorsOf a n).foldl setInsert s.poison }

/-- The part of n bytes from a that one sector holds: its start and length. -/
def sectorPart (a n b : Nat) : Nat × Nat := (max a b, min (a + n) (b + 32) - max a b)

/-- Bytes written to one sector of the Granary: a failed stack drops and counts them (R288); otherwise
the block is fresh no more (R286). -/
def State.storeSector (s : State) (a : Nat) (bs : List Byte) : State :=
  match areaOf a with
  | .granary f o =>
    let st := s.stackOf f o
    if s.deadAt a then s.bump (regAddr .granary st.1 0x158)
    else
      let s1 := (s.putBytes a bs).clearPoison a bs.length
      { s1 with written := setInsert s1.written (st.1 * 36864 + st.2 / 0x200000) }
  | _ => (s.putBytes a bs).clearPoison a bs.length

/-- Bytes written by a unit or through a port: data, and the poison of each whole sector cleared. A command stores all
of its bytes at once, so that of two unordered writes the later command holds every sector of the overlap, one of the
outcomes that R33 allows (log entry 65). -/
def State.store (s : State) (a : Nat) (bs : List Byte) : State :=
  if inGranary a bs.length then
    (sectorsOf a bs.length).foldl (fun t b =>
      let p := sectorPart a bs.length b
      t.storeSector p.1 ((bs.drop (p.1 - a)).take p.2)) s
  else (s.putBytes a bs).clearPoison a bs.length

/-- n bytes of memory cleared to zero: nothing listed and nothing poisoned there. -/
def State.zeroRange (s : State) (a n : Nat) : State :=
  { s with mem := s.mem.filter (fun c => !(decide (a ≤ c.1) && decide (c.1 < a + n))),
           poison := s.poison.filter (fun b => !(decide (a ≤ b) && decide (b < a + n))) }

/-! ### Events and errors (R57, R75, R77) -/

/-- Records that wait for ring credits, the overflow record aside. -/
def eventQueueMax : Nat := 4096

/-- A raised record joins the queue, or is dropped when it is full; the first drop raises
EVENT_OVERFLOW (R77). Records of different pages join in the one order in which they are raised (log entry 64), and
the overflow is not captured in PG_ERR_CODE (log entry 21). -/
def State.pushRecord (s : State) (r : EventRec) : State :=
  if s.hitch.events.length < eventQueueMax then
    { s with hitch := { s.hitch with events := s.hitch.events ++ [r] } }
  else
    let s1 := s.bump (regAddr .hitch 0 0x140)
    let ev := s1.reg (regAddr .hitch 0 0x030)
    if bitOf ev 3 then s1
    else
      let s2 := s1.setReg (regAddr .hitch 0 0x030) (ev ||| 8)
      if bitOf (s2.reg (regAddr .hitch 0 0x038)) 3 then s2
      else { s2 with hitch := { s2.hitch with overflow := s2.hitch.overflow ++ [⟨0x0506, 0, s2.now, 3, 1⟩] } }

/-- A PG_EVENT bit that hardware sets is noted for the present FC cycle, in which software cannot clear it (R58). -/
def State.noteSet (s : State) (a bit : Nat) : State :=
  { s with setNow := storePut s.setNow a ((storeGet s.setNow a).getD 0 ||| (1 <<< bit)) }

/-- The bits of a PG_EVENT register that hardware has set in the present FC cycle; none while no FC cycle runs. -/
def State.setBitsNow (s : State) (a : Nat) : Nat := if s.alm.running then (storeGet s.setNow a).getD 0 else 0

/-- A PG_EVENT bit set by hardware: it raises a record when it goes from 0 to 1 unmasked (R75). -/
def State.raise (s : State) (k : PageKind) (i bit info workId : Nat) : State :=
  let a := regAddr k i 0x030
  let old := s.reg a
  if bitOf old bit then s.noteSet a bit
  else
    let s1 := (s.noteSet a bit).setReg a (old ||| (1 <<< bit))
    if bitOf (s1.reg (regAddr k i 0x038)) bit then s1
    else s1.pushRecord ⟨info, workId, s1.now, bit, pageIdx k i⟩

/-- An error captured in PG_ERR_CODE and the three registers after it, unless an earlier one is held; of two in one
cycle the lower code is kept (R57). Errors that carry one value of the running Almanac fall in one cycle. -/
def State.capture (s : State) (k : PageKind) (i code info0 info1 : Nat) : State :=
  let held := s.rf (regAddr k i 0x040) 15 0
  let same := s.alm.running && s.reg (regAddr k i 0x058) == s.now && decide (code < held)
  if held = 0 || same then
    (((s.setReg (regAddr k i 0x040) code).setReg (regAddr k i 0x048) info0).setReg
      (regAddr k i 0x050) info1).setReg (regAddr k i 0x058) s.now
  else s

/-- An error event: the PG_EVENT bit with the code in the record, and the capture of R57. -/
def State.raiseErr (s : State) (k : PageKind) (i bit code workId info0 info1 : Nat) : State :=
  (s.raise k i bit code workId).capture k i code info0 info1

/-! ### The change journal and the Steward log (R541 to R543) -/

def journalBuffer : Nat := 4096
def journalFlash : Nat := 1048576
def logSize : Nat := 16384

/-- The 64 bytes of a journal entry (R541). -/
def JEntry.toBytes (e : JEntry) : List Byte :=
  leBytes 8 e.seq ++ leBytes 8 e.time ++
  leBytes 8 (e.addr % 2 ^ 48 + (e.source <<< 48) + (e.kind <<< 56)) ++
  leBytes 8 e.old ++ leBytes 8 e.new ++ List.replicate 24 0

/-- The journal buffer has no room (R542). -/
def State.journalFullNow (s : State) : Bool := decide (journalBuffer ≤ s.journal.pending.length)

/-- An entry recorded: numbered, stamped and chained (R541). -/
def State.journalAdd (s : State) (addr : Nat) (src kind old new : Nat) : State :=
  let e : JEntry := ⟨s.journal.count, s.now, addr, src, kind, old, new⟩
  { s with journal := { s.journal with
      count := s.journal.count + 1
      pending := s.journal.pending ++ [e]
      chain := sha512 (s.journal.chain ++ e.toBytes) } }

/-- The oldest waiting entries written to flash, n of them (R542). -/
def State.journalFlushN (s : State) (n : Nat) : State :=
  { s with journal := { s.journal with
      pending := s.journal.pending.drop n
      flash := ((s.journal.pending.take n).reverse ++ s.journal.flash).take journalFlash } }

/-- An entry of the Steward log (R543). The uptime is a free value: no clock of the spec that runs
since standby power stands in the model (log entry 8). -/
def State.logAdd (s : State) (code info : Nat) : State :=
  let e : LogEntry := ⟨s.steward.logCount, s.now, code, s.steward.stage, info, s.freeBits 64⟩
  { s with
    steward := { s.steward with
      log := (e :: s.steward.log).take logSize
      logCount := min counterStop (s.steward.logCount + 1) }
    freeCtr := s.freeCtr + 1 }

/-! ### Hitch: what the module sends (R39, R41, R569) -/

/-- The link carries flits of both directions (R43). -/
def State.linkUp (s : State) : Bool := s.hitch.link == .up || s.hitch.link == .upNarrow

/-- A numbered flit given to the link: it takes the next sequence number and a place in the replay
buffer while the link is up and that holds fewer than 256, and waits otherwise (R41). -/
def State.sendNumbered (s : State) (f : Flit) : State :=
  if s.linkUp && decide (s.hitch.replay.length < 256) && s.hitch.txQueue.isEmpty then
    { s with hitch := { s.hitch with
        replay := s.hitch.replay ++ [(s.hitch.txNext, f)]
        txNext := (s.hitch.txNext + 1) % 4096
        sent := f :: s.hitch.sent } }
  else { s with hitch := { s.hitch with txQueue := s.hitch.txQueue ++ [f] } }

/-- Waiting numbered flits sent while the replay buffer has room. -/
def State.pumpTx : Nat → State → State
  | 0, s => s
  | n + 1, s =>
    match s.hitch.txQueue with
    | [] => s
    | f :: rest =>
      if s.hitch.replay.length < 256 then
        State.pumpTx n { s with hitch := { s.hitch with
          txQueue := rest
          replay := s.hitch.replay ++ [(s.hitch.txNext, f)]
          txNext := (s.hitch.txNext + 1) % 4096
          sent := f :: s.hitch.sent } }
      else s

/-- A RESPONSE flit: tag, target address, status and payload (R39). -/
def responseFlit (tag addr status : Nat) (payload : Nat) : Flit :=
  ⟨BitVec.ofNat 64 (5 + status * 16 + tag * 256 + ((addr % 2 ^ 48) <<< 16)), BitVec.ofNat 512 payload⟩

/-- The RESPONSE to a request (R48). -/
def State.respond (s : State) (tag addr status payload : Nat) : State :=
  s.sendNumbered (responseFlit tag addr status payload)

/-- The 128 bits of an event record (R75). -/
def EventRec.toNat (r : EventRec) : Nat :=
  r.page % 2 ^ 16 + ((r.bit % 64) <<< 16) + (((r.time / 64) % 2 ^ 58) <<< 22) +
  ((r.workId % 2 ^ 32) <<< 80) + ((r.info % 2 ^ 16) <<< 112)

/-! ### Event flags (R452) -/

def flagKey (domain n : Nat) : Nat := domain * 1024 + n

/-- A flag's value. -/
def State.flag (s : State) (domain n : Nat) : Bool := s.flags.contains (flagKey domain n)

/-- What is noted of a flag that has been set in the present FC cycle: whether it was 1 before, none while no FC cycle
runs. -/
def State.flagNow (s : State) (domain n : Nat) : Option Bool :=
  if s.alm.running then (s.flagsNow.find? (fun e => e.1 == flagKey domain n)).map (fun e => e.2) else none

/-- A flag as the waits of the present FC cycle find it: one set in this cycle alone reaches them later (R454, R455). -/
def State.flagSeen (s : State) (domain n : Nat) : Bool := s.flag domain n && s.flagNow domain n != some false

/-- A flag set (R452), and noted for the present FC cycle. -/
def State.setFlag (s : State) (domain n : Nat) : State :=
  { s with
    flags := setInsert s.flags (flagKey domain n)
    flagsNow := if (s.flagNow domain n).isSome then s.flagsNow else (flagKey domain n, s.flag domain n) :: s.flagsNow.filter (fun e => e.1 != flagKey domain n) }

/-- A flag cleared. Of a set and a clear in one FC cycle the set stands: the flag is 1 after the cycle, and the waits that
follow in it find it 0 (R454). -/
def State.clearFlag (s : State) (domain n : Nat) : State :=
  if (s.flagNow domain n).isSome then
    { s with flagsNow := (flagKey domain n, false) :: s.flagsNow.filter (fun e => e.1 != flagKey domain n) }
  else { s with flags := setErase s.flags (flagKey domain n) }

end Sys2Proof.Machine
end

