-- ==== Sys2Proof/Machine/Hitch.lean ====
section
/-!
DEFINITION. The Hitch link: training, acknowledgement and replay, LINK_CTRL, the status word, event
records and host waits (R38 to R51, R75 to R81, R569).
-/
namespace Sys2Proof.Machine

/-- LINK_CTRL flits are sent and received from FEC_LOCK onward (R46). -/
def State.ctrlUp (s : State) : Bool :=
  match s.hitch.link with
  | .fecLock | .deskew | .version | .up | .upNarrow => true
  | _ => false

/-- The Hitch SerDes are enabled: stage POWER of bring-up has begun (R529), and the lanes are not in electrical idle
(R492, R495). -/
def State.serdesOn (s : State) : Bool :=
  (s.steward.ready || decide (5 ≤ s.steward.stage)) && (decide (s.power.state < 3) || s.power.goal == some 0)

/-- A HITCH register address. -/
def hitchReg (off : Nat) : Nat := regAddr .hitch 0 off

/-- The status word of R46. -/
def State.statusWord (s : State) : Nat :=
  s.steward.stage % 256 + ((s.steward.progress % 256) <<< 8) + ((s.hitch.lastError % 2 ^ 16) <<< 16) +
  (s.hitch.link.code <<< 32) + ((s.hitch.version % 256) <<< 40) +
  (b2n (s.hitch.link == .upNarrow) <<< 48) + (b2n s.steward.fabricOpen <<< 49) +
  (b2n s.steward.warm <<< 50) + (b2n (s.hitch.job != .running) <<< 51)

/-- The payload of a LINK_CTRL flit the module sends (R569). Before the first numbered flit has been accepted the ack
names 0xFFF, the number before 0 (log entry 67). -/
def State.linkCtrlPayload (s : State) : Nat :=
  let ver := s.hitch.link == .version
  (1 + (b2n s.hitch.rxReplay <<< 1) + (1 <<< 3) + (b2n ver <<< 4)) +
  (((s.hitch.rxNext + 4095) % 4096) <<< 16) +
  ((if s.hitch.rxReplay then s.hitch.rxNext else 0) <<< 32) +
  (s.statusWord <<< 64) +
  ((if ver then 0x0100 else 0) <<< 160)

/-- Status words are sent from FEC_LOCK onward (R46). A link that went to FAILED over its version has aligned lanes and
goes on sending them (R45, log entry 66); one that failed its training has none. -/
def State.statusUp (s : State) : Bool := s.ctrlUp || (s.hitch.link == .failed && s.hitch.lanes != 0)

/-- A LINK_CTRL flit sent: never numbered, never replayed (R41). It carries the current status word,
which HITCH.status_word then shows. -/
def State.sendLinkCtrl (s : State) : State :=
  if s.statusUp then
    { s with hitch := { s.hitch with
        statusSent := s.statusWord
        sent := ⟨7#64, BitVec.ofNat 512 s.linkCtrlPayload⟩ :: s.hitch.sent } }
  else s

/-- The lanes in use when a set of lanes has trained: all eight, lanes 4 to 7, or lanes 0 to 3 (R44). -/
def laneChoice (m : Nat) : Option Nat :=
  if m % 256 = 0xFF then some 0xFF
  else if m &&& 0xF0 = 0xF0 then some 0xF0
  else if m &&& 0x0F = 0x0F then some 0x0F
  else none

/-- The unacknowledged flits sent again, oldest first; each is counted in link_replays (R41). -/
def State.resend (s : State) (fs : List (Nat × Flit)) : State :=
  ({ s with hitch := { s.hitch with sent := (fs.map (fun (e : Nat × Flit) => e.2)).reverse ++ s.hitch.sent } }).bumpBy (hitchReg 0x138) fs.length

/-- A link error: its event on the HITCH page, and the code in the status word (R46). -/
def State.linkError (s : State) (bit code : Nat) : State :=
  ({ s with hitch := { s.hitch with lastError := code } }).raiseErr .hitch 0 bit code 0 0 0

/-- The link comes up on a choice of lanes with a negotiated version (R44, R45, R47). -/
def State.linkComesUp (s : State) (lanes version : Nat) : State :=
  let narrow := lanes != 0xFF
  let re := s.hitch.retraining
  let s1 := { s with hitch := { s.hitch with
    link := if narrow then .upNarrow else .up
    lanes := lanes
    version := version
    attempts := 0
    retraining := false
    narrowPending := s.hitch.narrowPending || (narrow && !s.steward.fabricOpen) } }
  let s2 := if narrow && s.steward.fabricOpen then s1.linkError 1 0x0505 else s1
  let s3 := if re then (s2.resend s2.hitch.replay).linkError 0 0x0504 else s2
  State.pumpTx s3.hitch.txQueue.length s3

/-- One step of training with the lanes that meet the present state's condition (R43 to R45). -/
def State.trainStep (s : State) (lanesOk : Nat) : State :=
  let m := s.hitch.lanes &&& lanesOk
  let go (l : LinkState) := { s with hitch := { s.hitch with link := l, lanes := m } }
  match s.hitch.link with
  | .down =>
    if s.serdesOn && decide (4 ≤ popCount 8 lanesOk) then
      { s with hitch := { s.hitch with link := .detect, lanes := lanesOk % 256, farVersion := none } }
    else s
  | .detect => if (laneChoice m).isSome then go .equalise else s
  | .equalise => if (laneChoice m).isSome then (go .fecLock).sendLinkCtrl else s
  | .fecLock => if (laneChoice m).isSome then (go .deskew).sendLinkCtrl else s
  | .deskew => if (laneChoice m).isSome then (go .version).sendLinkCtrl else s
  | .version =>
    match laneChoice m, s.hitch.farVersion with
    | some lanes, some v =>
      if v / 256 < 1 then
        ({ s with hitch := { s.hitch with link := .failed, lastError := 0x0507 } }).sendLinkCtrl
      else (s.linkComesUp lanes 0x10).sendLinkCtrl
    | _, _ => s
  | _ => s

/-- A training attempt passes 50 ms: it is tried again, and after the eighth failure the link holds
at FAILED (R43). 50 ms spent in DOWN without signal counts as a failed attempt (log entry 68). Nothing is attempted
while the SerDes are off. -/
def State.trainTimeout (s : State) : State :=
  if !s.serdesOn then s
  else
  match s.hitch.link with
  | .up | .upNarrow | .failed => s
  | _ =>
    if 8 ≤ s.hitch.attempts + 1 then
      { s with hitch := { s.hitch with link := .failed, attempts := 8, lanes := 0 } }
    else { s with hitch := { s.hitch with link := .down, attempts := s.hitch.attempts + 1, lanes := 0 } }

/-- Training starts anew with no failed attempt: a retraining request, a wake, or 16 failed replays
(R43, R47, R495). A link that was retraining with its replay buffers kept goes on keeping them (R47). -/
def State.retrainHitch (s : State) (keepBuffers : Bool) : State :=
  { s with hitch := { s.hitch with
      link := .down, attempts := 0, lanes := 0, farVersion := none, retraining := s.hitch.retraining || keepBuffers } }

/-- A discarded flit: counted, no response (R40). -/
def State.discardFlit (s : State) : State := s.bump (hitchReg 0x128)

/-- A LINK_CTRL payload obeys R569: reserved parts zero, a field whose valid bit is 0 zero, and no
field that the host does not send. -/
def linkCtrlOk (p : Nat) : Bool :=
  bitsOf p 15 5 == 0 && !bitOf p 3 &&
  bitsOf p 31 28 == 0 && (bitOf p 0 || bitsOf p 31 16 == 0) &&
  bitsOf p 47 44 == 0 && (bitOf p 1 || bitsOf p 47 32 == 0) &&
  bitsOf p 63 48 == 0 && bitsOf p 127 64 == 0 &&
  (bitOf p 2 || bitsOf p 159 128 == 0) &&
  (bitOf p 4 || bitsOf p 175 160 == 0) && bitsOf p 511 176 == 0

/-- The replay buffer after an acknowledgement: everything up to the named flit is dropped (R569). -/
def ackReplay (a : Nat) (l : List (Nat × Flit)) : List (Nat × Flit) :=
  if l.any (·.1 == a) then (l.dropWhile (·.1 != a)).drop 1 else l

/-- The effect of a good LINK_CTRL flit from the host (R569). -/
def State.linkCtrlApply (s : State) (p : Nat) : State :=
  let s1 := if bitOf p 0 then
      let s0 := { s with hitch := { s.hitch with replay := ackReplay (bitsOf p 27 16) s.hitch.replay } }
      if s0.linkUp then State.pumpTx s0.hitch.txQueue.length s0 else s0
    else s
  let s2 := if bitOf p 1 then s1.resend (s1.hitch.replay.dropWhile (·.1 != bitsOf p 43 32)) else s1
  let s3 := if bitOf p 2 then { s2 with hitch := { s2.hitch with credit := bitsOf p 159 128 } } else s2
  if bitOf p 4 && s3.hitch.link == .version then
    { s3 with hitch := { s3.hitch with farVersion := some (bitsOf p 175 160) } }
  else s3

/-- A LINK_CTRL flit received (R40, R569). -/
def State.linkCtrlReceived (s : State) (header payload : Nat) : State :=
  if !s.ctrlUp then s
  else if bitsOf header 7 4 != 0 || bitsOf header 3 0 != 7 || !linkCtrlOk payload then s.discardFlit
  else s.linkCtrlApply payload

/-- A numbered flit arrives out of an uncorrectable codeword: it is discarded and replay is requested
from the first lost number (R41). -/
def State.fecLost (s : State) : State :=
  if s.linkUp then ({ s with hitch := { s.hitch with rxReplay := true } }).sendLinkCtrl else s

/-- How many records the ring credits allow now (R569). -/
def State.creditsLeft (s : State) : Nat := (s.hitch.credit + 2 ^ 32 - s.hitch.recSent) % 2 ^ 32

/-- The payload of an EVENT flit: records in slots 0 upward (R39, R569). -/
def eventPayload : List EventRec → Nat
  | [] => 0
  | r :: rs => r.toNat + (eventPayload rs <<< 128)

/-- The overflow records join the queue as space frees, ahead of later records (R77). -/
def State.requeueOverflow (s : State) : State :=
  let n := eventQueueMax - s.hitch.events.length
  { s with hitch := { s.hitch with
      events := s.hitch.events ++ s.hitch.overflow.take n
      overflow := s.hitch.overflow.drop n } }

/-- An EVENT flit with n records, each taking one credit (R569). Its slot index is the count of records sent since the
cold reset (log entry 69). -/
def State.sendEvents (s : State) (n : Nat) : State :=
  if s.linkUp && decide (1 ≤ n) && decide (n ≤ 4) && decide (n ≤ s.hitch.events.length) && decide (n ≤ s.creditsLeft) then
    let s1 := s.sendNumbered
      ⟨BitVec.ofNat 64 (6 + ((s.hitch.recSent % 2 ^ 48) <<< 16)), BitVec.ofNat 512 (eventPayload (s.hitch.events.take n))⟩
    ({ s1 with hitch := { s1.hitch with
        events := s1.hitch.events.drop n
        recSent := (s1.hitch.recSent + n) % 2 ^ 32 } }).requeueOverflow
  else s

/-- The job paused by a late wait or by software; a pause while paused has no effect (R80, R81). -/
def State.pauseJob (s : State) (j : JobState) : State :=
  if s.hitch.job == .running then { s with hitch := { s.hitch with job := j } } else s

/-- A paused job resumed (R81). -/
def State.resumeJob (s : State) : State := { s with hitch := { s.hitch with job := .running } }

end Sys2Proof.Machine
end

