-- ==== Sys2Proof/Machine/Window.lean ====
section
/-!
DEFINITION. Command windows and descriptors: the common header (R65, R66), the word queue (R63, R64),
the header checks (R68), refusal and framing (R69, R70), and the completion of a descriptor.
-/
namespace Sys2Proof.Machine

/-! ### The common header, word 0 (R65) -/

def hVersion (w : Word512) : Nat := fld w 3 0
def hOpcode (w : Word512) : Nat := fld w 15 4
def hClass (w : Word512) : Nat := fld w 23 16
def hWords (w : Word512) : Nat := fld w 26 24
def hComplete (w : Word512) : Bool := bitOf w.toNat 27
def hFence (w : Word512) : Bool := bitOf w.toNat 28
def hHalt (w : Word512) : Bool := bitOf w.toNat 29
def hWorkId (w : Word512) : Nat := fld w 63 32
def hLaunch (w : Word512) : Nat := fld w 127 64
def hWait (w : Word512) : Nat := fld w 159 128
def hSignal (w : Word512) : Nat := fld w 191 160
def hTag (w : Word512) : Nat := fld w 207 192

/-- wait_select or signal_event is valid (R65). -/
def selValid (x : Nat) : Bool := bitOf x 31
/-- The domain of wait_select or signal_event (R66). -/
def selDomain (x : Nat) : Nat := bitsOf x 30 27

/-- A word of a descriptor; a word it does not have reads as zero. -/
def dword (d : List Word512) (i : Nat) : Word512 := d.getD i 0


/-- Word 0 of a descriptor in flight. -/
def Flight.hdr (f : Flight) : Word512 := dword f.words 0
/-- Word i of a descriptor in flight. -/
def Flight.w (f : Flight) (i : Nat) : Word512 := dword f.words i
/-- A field of word i of a descriptor in flight. -/
def Flight.fld (f : Flight) (i hi lo : Nat) : Nat := Sys2Proof.Machine.fld (f.w i) hi lo
/-- The unit class of a descriptor in flight. -/
def Flight.cls (f : Flight) : Nat := hClass f.hdr
/-- The opcode of a descriptor in flight. -/
def Flight.op (f : Flight) : Nat := hOpcode f.hdr
/-- The work identifier of a descriptor in flight. -/
def Flight.work (f : Flight) : Nat := hWorkId f.hdr
/-- The window a descriptor came from, or the window of its furlong. -/
def Flight.window (f : Flight) : Nat :=
  match f.origin with
  | .window w => w
  | .furlong w _ _ _ => w
/-- The descriptor came from a furlong's template. -/
def Flight.fromFurlong (f : Flight) : Bool :=
  match f.origin with
  | .furlong _ _ _ _ => true
  | .window _ => false

/-- A descriptor in flight by its id. -/
def State.flight (s : State) (id : Nat) : Option Flight := s.flights.find? (fun f => f.id == id)

/-- A descriptor in flight replaced. -/
def State.setFlight (s : State) (f : Flight) : State :=
  { s with flights := s.flights.map (fun g => if g.id == f.id then f else g) }

/-- The opcodes of each unit class with the words of each (R66, R67 and the unit chapters). -/
def opcodeWords : Nat → Nat → Option Nat
  | 0x00, 0x000 => some 1   -- NOP
  | 0x00, 0x001 => some 1   -- SIGNAL
  | 0x01, 0x001 => some 4   -- PASS
  | 0x02, 0x001 => some 4   -- READOUT
  | 0x02, 0x002 => some 3   -- PRELOAD
  | 0x02, 0x003 => some 2   -- CLEAR
  | 0x02, 0x004 => some 2   -- SAVE_RAW
  | 0x02, 0x005 => some 2   -- LOAD_RAW
  | 0x02, 0x006 => some 2   -- REDUCE
  | 0x03, 0x001 => some 3   -- MAP
  | 0x03, 0x002 => some 3   -- ROWREDUCE
  | 0x03, 0x003 => some 3   -- SOFTMAX
  | 0x03, 0x004 => some 3   -- NORM
  | 0x03, 0x005 => some 4   -- OPTIM
  | 0x04, 0x001 => some 3   -- COPY
  | 0x04, 0x002 => some 2   -- RING_SETUP
  | 0x04, 0x003 => some 2   -- RING_CREDIT
  | 0x04, 0x004 => some 2   -- CANCEL
  | 0x05, 0x001 => some 3   -- DECODE
  | 0x05, 0x002 => some 2   -- CANCEL
  | 0x05, 0x003 => some 3   -- BATCH
  | 0x05, 0x004 => some 2   -- WINDROW_RELEASE
  | 0x06, 0x001 => some 2   -- ALLREDUCE
  | 0x06, 0x002 => some 2   -- REDUCE_SCATTER
  | 0x06, 0x003 => some 2   -- REDUCE
  | 0x06, 0x004 => some 2   -- VERDICT
  | 0x06, 0x005 => some 2   -- CANCEL
  | 0x06, 0x010 => some 2   -- BROADCAST
  | 0x06, 0x011 => some 2   -- ALLGATHER
  | 0x06, 0x012 => some 2   -- ALLTOALL
  | 0x07, 0x001 => some 2   -- WRITE
  | 0x07, 0x002 => some 2   -- READ
  | 0x07, 0x003 => some 2   -- CANCEL
  | 0x08, 0x001 => some 2   -- FURLONG_RUN
  | 0x08, 0x002 => some 1   -- FURLONG_STOP
  | 0x0D, 0x001 => some 2   -- COMMIT
  | 0x0D, 0x002 => some 2   -- BUDDY_SEND
  | 0x0D, 0x003 => some 2   -- STOOK_TAKE
  | 0x0D, 0x004 => some 2   -- REFILL
  | 0x0C, 0x001 => some 2   -- FILL
  | 0x0C, 0x002 => some 2   -- DEMOTE
  | 0x0A, 0x001 => some 2   -- CLOSE_STEP
  | 0x0A, 0x002 => some 2   -- SET_TAGS
  | 0x0A, 0x003 => some 2   -- SAVE_STATE
  | 0x0A, 0x004 => some 2   -- LOAD_STATE
  | 0x0A, 0x005 => some 2   -- PROBE
  | _, _ => none

/-- Checks 1 to 5 of R68, in order; 0 where all pass. -/
def headerCheck (d : List Word512) : Nat :=
  let w := dword d 0
  if hVersion w ≠ 1 then 0x0101
  else if hWords w = 0 || 5 ≤ hWords w then 0x0102
  else if fld w 31 30 ≠ 0 || fld w 511 224 ≠ 0 || bitsOf (hWait w) 26 16 ≠ 0 || bitsOf (hSignal w) 26 10 ≠ 0 ||
      fld w 223 208 ≠ 0 || 9 ≤ selDomain (hWait w) || 9 ≤ selDomain (hSignal w) ||
      (!selValid (hWait w) && hWait w != 0) || (!selValid (hSignal w) && hSignal w != 0) then 0x0103
  else if opcodeWords (hClass w) (hOpcode w) ≠ some (hWords w) then 0x0104
  else if hWorkId w = 0xFFFFFFFF then 0x0105
  else 0

/-! ### Windows -/

/-- A command window. -/
def State.win (s : State) (w : Nat) : Window := s.windows.getD w ⟨[], [], false, false, false⟩

/-- A command window replaced. -/
def State.setWin (s : State) (w : Nat) (x : Window) : State := { s with windows := s.windows.set w x }

/-- CMDWIN.state (R71). -/
def Window.code (x : Window) : Nat :=
  if x.framing then 3 else if x.halted then 2 else if x.words.isEmpty && x.parsed.isEmpty then 0 else 1

/-- The consumer of a window: 0 to 7 the Reeve cores of a Field, 8 the Steading's (R63). -/
def State.consumer (s : State) (w : Nat) : Nat := s.rf (regAddr .cmdwin w 0x100) 3 0

/-- How many Reeve cores of a place work (R72). -/
def State.coresWorking (s : State) (place : Nat) : Nat :=
  if place < 8 then (if s.lost place then 0 else 8 - popCount 8 (s.field place).coresFailed)
  else 8 - popCount 8 s.steadFailed

/-- The words of a window grouped into whole descriptors, and the words left over. A word 0 whose
count is 0 or 5 to 7 ends the grouping (R70). -/
def groupWords : Nat → List Word512 → List (List Word512) × List Word512
  | 0, ws => ([], ws)
  | _ + 1, [] => ([], [])
  | n + 1, w :: ws =>
    let k := hWords w
    if k = 0 || 5 ≤ k || ws.length + 1 < k then ([], w :: ws)
    else
      let r := groupWords n ((w :: ws).drop k)
      ((w :: ws).take k :: r.1, r.2)

/-- The outcome of a register, port or management request: the state after it, the refusal code
(0 for OK) and the data read. -/
structure Reply where
  st : State
  code : Nat
  data : Nat

def Reply.ok (s : State) : Reply := ⟨s, 0, 0⟩
def Reply.no (s : State) (code : Nat) : Reply := ⟨s, code, 0⟩

/-- A word offered to CMD_PORT (R64). -/
def State.cmdPort (s : State) (w : Nat) (data : Word512) : Reply :=
  let x := s.win w
  if !s.enabled .cmdwin w then .no s 0x0108
  else if x.framing then .no s 0x0107
  else if x.fullLatch then .no s 0x0106
  else if 256 ≤ x.words.length then
    .no ((s.setWin w { x with fullLatch := true }).raise .cmdwin w 2 0x0106 0) 0x0106
  else .ok (s.setWin w { x with words := x.words ++ [data] })

/-- A refused descriptor: no effect, the REFUSED event with its work identifier and code, and the
window halts if flags.halt is 1 (R69). -/
def State.refuseDesc (s : State) (w : Nat) (d : List Word512) (code : Nat) : State :=
  let s1 := (s.bump (regAddr .cmdwin w 0x128)).raise .cmdwin w 1 code (hWorkId (dword d 0))
  if hHalt (dword d 0) then s1.setWin w { s1.win w with halted := true } else s1

/-- The framing of a window is lost: refusal, state FRAMING, every held word discarded (R70). Descriptors already
parsed are words held no more and are issued (log entry 70). -/
def State.loseFraming (s : State) (w : Nat) (d : List Word512) (code : Nat) : State :=
  let s1 := (s.bump (regAddr .cmdwin w 0x128)).raise .cmdwin w 1 code (hWorkId (dword d 0))
  let s2 := s1.setWin w { s1.win w with words := [], parsed := (s1.win w).parsed, framing := true }
  s2.raise .cmdwin w 3 code (hWorkId (dword d 0))

/-- A block reset of a command window: every held word discarded, latches and HALTED released, state
IDLE (R70, R71). -/
def State.resetWindow (s : State) (w : Nat) : State := s.setWin w ⟨[], [], false, false, false⟩

/-! ### Completion -/

/-- The bookkeeping of a furlong's step when one of its descriptors completes (R468). -/
def PhaseRun.done (p : PhaseRun) (t : Nat) (late : Bool) : PhaseRun :=
  { p with outstanding := p.outstanding - 1, lastEnd := max p.lastEnd t, late := p.late || late }

/-- The running furlong after a descriptor of one phase of one step has completed. -/
def Furlong.noteDone (f : Furlong) (step : Nat) (pre : Bool) (phase t : Nat) (late : Bool) : Furlong :=
  { f with running := f.running.map (fun r =>
      if r.step == step && r.pre == pre then
        { r with phases := r.phases.map (fun p => if p.index == phase then p.done t late else p) }
      else r) }

/-- A descriptor completes: its flag is set (R32, R65), last_work_id shows it (R71), a completion
record is raised where flags.complete asks for one (R65, R75), and a furlong's step counts it. -/
def State.complete (s : State) (id info : Nat) : State :=
  match s.flight id with
  | none => s
  | some f =>
    let s1 := { s with flights := s.flights.filter (fun g => g.id != id) }
    let sg := hSignal f.hdr
    let s2 := if selValid sg then s1.setFlag (selDomain sg) (bitsOf sg 9 0) else s1
    let s3 := s2.setRf (regAddr .cmdwin f.window 0x120) 31 0 f.work
    let s4 := if hComplete f.hdr then s3.raise .cmdwin f.window 0 info f.work else s3
    match f.origin, s4.furlong with
    | .furlong _ phase _ pre, some fu =>
      { s4 with furlong := some (fu.noteDone f.step pre phase s4.now f.late) }
    | _, _ => s4

/-- A phase of a step of the running furlong has had an instance refused. -/
def Furlong.noteRefused (f : Furlong) (step : Nat) (pre : Bool) (phase tmpl code : Nat) : Furlong :=
  { f with
    stopping := true
    stopCode := if f.stopping then f.stopCode else code
    stopTemplate := if f.stopping then f.stopTemplate else tmpl
    running := f.running.map (fun (r : StepRun) =>
      if r.step == step && r.pre == pre then
        { r with phases := r.phases.map (fun (p : PhaseRun) => if p.index == phase then { p with refused := true } else p) }
      else r) }

/-- An instance of a furlong's template is refused: expansion stops at the end of the step (R463). -/
def State.refuseInstance (s : State) (step : Nat) (pre : Bool) (phase tmpl code : Nat) : State :=
  { s with furlong := s.furlong.map (fun (fu : Furlong) => fu.noteRefused step pre phase tmpl code) }

/-- A descriptor refused when its unit runs it: it acts as R69 states, or stops the furlong it came
from (R184, R463). -/
def State.refuseFlight (s : State) (id code : Nat) : State :=
  match s.flight id with
  | none => s
  | some f =>
    let s1 := { s with flights := s.flights.filter (fun g => g.id != id) }
    match f.origin with
    | .window w => s1.refuseDesc w f.words code
    | .furlong _ phase tmpl pre =>
      let s2 := { s1 with furlong := s1.furlong.map (fun (fu : Furlong) => fu.noteDone f.step pre phase s1.now f.late) }
      s2.refuseInstance f.step pre phase tmpl code

/-- A flight of a class and opcode that has been issued, if the id names one. -/
def State.flightOf (s : State) (id cls op : Nat) : Option Flight :=
  match s.flight id with
  | some f => if f.cls == cls && f.op == op then some f else none
  | none => none

end Sys2Proof.Machine
end

