-- ==== Sys2Proof/Machine/Flags.lean ====
section
/-!
DEFINITION. Every outcome the module counts and flags: the report of one element (R220), the counter
records and probe maxima that Winnow keeps in Tilth (R221 to R223, R237), and the step's non-finite
flag (R222, R229).
-/
namespace Sys2Proof.Machine

/-- The empty report. -/
def Tally.empty : Tally := ⟨0, 0, 0, 0, 0, 0, 0, none, List.replicate 16 0⟩

/-- The larger of two maximum exponents; none is below every exponent. -/
def maxExpOf : Option Int → Option Int → Option Int
  | none, b => b
  | a, none => a
  | some a, some b => some (max a b)

/-- Two reports together. -/
def Tally.add (a b : Tally) : Tally :=
  ⟨a.elements + b.elements, a.zeros + b.zeros, a.inexact + b.inexact, a.sat + b.sat, a.ufz + b.ufz,
   a.nf + b.nf, a.shift + b.shift, maxExpOf a.maxExp b.maxExp, (a.hist.zip b.hist).map (fun p => p.1 + p.2)⟩

/-- The histogram bin of an exponent in the stored domain (R220). -/
def histBin (e : Int) : Nat :=
  if e < -24 then 0 else if 32 ≤ e then 15 else ((e + 28) / 4).toNat

/-- The report of one converted element: its exact value before conversion, its outcomes, whether the
stored result is zero, and s_out (R220). -/
def Tally.ofElem (v : FV) (o : Outc) (zero : Bool) (sOut : Int) : Tally :=
  let live := v.isFinite && !v.isZero
  ⟨1, b2n (zero && !o.nf && !o.sat), b2n o.inexact, b2n o.sat, b2n o.ufz, b2n o.nf, 0,
   if live then some v.topExp else none,
   if live then (List.replicate 16 0).set (histBin (v.topExp - sOut)) 1 else List.replicate 16 0⟩

/-- Reports added up. -/
def Tally.sum (l : List Tally) : Tally := l.foldl Tally.add Tally.empty

/-- The stored code of a format reads as a zero value. -/
def storedZero (f : Fmt) (code : Nat) : Bool :=
  match f with
  | .e4m3 | .e5m2 | .int8 | .uint8 => if f == .int8 || f == .uint8 then code % 256 == 0 else code % 128 == 0
  | .fp16 | .bf16 => code % 0x8000 == 0
  | .fp32 => code % 0x80000000 == 0
  | .a4 => code % 8 == 0
  | f => code % 2 ^ f.fixedBits == 0

/-! ### Winnow's table in Tilth (R223) -/

/-- The Field whose Winnow reports for the module: the lowest-numbered one not lost. -/
def State.reporter (s : State) : Nat := ((List.range 8).find? (fun f => !s.lost f)).getD 0

/-- A register of a WINNOW page. -/
def winnowReg (f off : Nat) : Nat := regAddr .winnow f off

/-- T: the number of tags held. -/
def State.tagCount (s : State) (f : Nat) : Nat := 2 ^ s.rf (winnowReg f 0x100) 12 8

/-- Start of Field f's table. -/
def State.tableBase (s : State) (f : Nat) : Nat := tilthBase f + s.rf (winnowReg f 0x100) 47 32 * 4096

/-- Start of Field f's step report. -/
def State.reportBase (s : State) (f : Nat) : Nat := tilthBase f + s.rf (winnowReg f 0x100) 31 16 * 4096

/-- Bytes of the table: entries, two counter areas, probe maxima (R223). -/
def tableBytes (t : Nat) : Nat := t * 64 + 2 * t * 128 + 2 * t

/-- Bytes of the step report (R232). -/
def reportBytes : Nat := 6160

/-- A tag entry's address. -/
def State.tagAddr (s : State) (f tag : Nat) : Nat := s.tableBase f + tag * 64

/-- The counter area of a step, one for each open step (R223). -/
def State.recArea (s : State) (step : Nat) : Nat := ((s.winnow.areas.find? (fun x => x.1 == step)).map (fun x => x.2)).getD 0

/-- The address of the counter record of a tag for a step, in the step's area. -/
def State.recAddr (s : State) (f step tag : Nat) : Nat :=
  s.tableBase f + s.tagCount f * 64 + s.recArea step * s.tagCount f * 128 + tag * 128

/-- The address of a tag's probe maximum. -/
def State.probeAddr (s : State) (f tag : Nat) : Nat :=
  s.tableBase f + s.tagCount f * 64 + 2 * s.tagCount f * 128 + 2 * tag

/-- A count stops at one below its all-ones value. -/
def stopAt (width n : Nat) : Nat := min (2 ^ width - 2) n

/-- A signed 16-bit exponent, 0x8000 for none. -/
def expField : Option Int → Nat
  | none => 0x8000
  | some e => toTwos 16 e

/-- The exponent that such a field holds. -/
def expOf (x : Nat) : Option Int := if x % 2 ^ 16 = 0x8000 then none else some (signedOf 16 (x % 2 ^ 16))

/-- The report that a counter record of 128 bytes holds (R223). -/
def State.readRec (s : State) (a : Nat) : Tally :=
  let q (i : Nat) := s.num (a + 8 * i) 8
  ⟨bitsOf (q 0) 47 0, bitsOf (q 1) 47 0, bitsOf (q 2) 47 0, bitsOf (q 3) 31 0, bitsOf (q 4) 31 0,
   bitsOf (q 3) 63 32, bitsOf (q 4) 63 32, expOf (bitsOf (q 0) 63 48),
   (List.range 16).map (fun b => s.num (a + 64 + 4 * b) 4)⟩

/-- The 128 bytes of a counter record. -/
def Tally.toBytes (t : Tally) : List Byte :=
  leBytes 8 (stopAt 48 t.elements + (expField t.maxExp <<< 48)) ++ leBytes 8 (stopAt 48 t.zeros) ++
  leBytes 8 (stopAt 48 t.inexact) ++ leBytes 8 (stopAt 32 t.sat + (stopAt 32 t.nf <<< 32)) ++
  leBytes 8 (stopAt 32 t.ufz + (stopAt 32 t.shift <<< 32)) ++ List.replicate 24 0 ++
  t.hist.flatMap (fun n => leBytes 4 (stopAt 32 n))

/-- A tag is in probe state (R236). -/
def State.probing (s : State) (f tag : Nat) : Bool := bitOf (s.num (s.tagAddr f tag + 8) 8) 23

/-- A flight belongs to a probe pre-pass (R464). -/
def Flight.inPrePass (f : Flight) : Bool :=
  match f.origin with
  | .furlong _ _ _ pre => pre
  | .window _ => false

/-- A report to the Winnow of Field `f` under a tag and a step (R220 to R222, R237). -/
def State.report (s : State) (f tag step : Nat) (pre : Bool) (t : Tally) : State :=
  if !s.enabled .winnow f || s.lost f then s
  else if pre then
    if tag < s.tagCount f && s.probing f tag then
      let a := s.probeAddr f tag
      s.putBytes a (leBytes 2 (expField (maxExpOf (expOf (s.num a 2)) t.maxExp)))
    else s
  else if s.tagCount f ≤ tag then
    let s1 := s.bump (winnowReg f 0x130)
    if 0 < t.nf then { s1 with winnow := { s1.winnow with nfUntracked := setInsert s1.winnow.nfUntracked step } } else s1
  else if s.winnow.openSteps.contains step then
    let a := s.recAddr f step tag
    s.putBytes a ((s.readRec a).add t).toBytes
  else s

/-- A report about a descriptor's elements, made to the Winnow of a Field. -/
def State.reportFlight (s : State) (f : Nat) (fl : Flight) (t : Tally) : State :=
  s.report f (hTag fl.hdr) fl.step fl.inPrePass t

end Sys2Proof.Machine
end

