-- ==== Sys2Proof/Machine/Operands.lean ====
section
/-!
DEFINITION. Operand forms: the fields of the PASS and Glean descriptors and how their operands lie in
memory (R140 to R143, R178, R179, R183), and the footprint checks that every unit makes (R14, R28,
R250). A footprint is a list of byte ranges, computed without wrapping.
-/
namespace Sys2Proof.Machine

/-- A byte is mapped: its address exists and its Field or stack is in service. Tilth bank states are
not looked at: units whose refusal table checks placement later use this at their address check
(R28, R250). -/
def State.byteMapped (s : State) (a : Nat) : Bool :=
  match areaOf a with
  | .register => (pageOf (a / 0x1000)).isSome
  | .tilth f _ => !s.lost f
  | .glean f _ => !s.lost f
  | .coulterBuf | .stagingBuf | .swathBuf => true
  | .granary f o => !s.lost f && decide (o < (s.liveStacks f).length * stackBytes)
  | .none => false

/-- Every byte of every range is mapped and below 2^48. -/
def State.rangesMapped (s : State) (rs : List (Nat × Nat)) : Bool :=
  rs.all (fun r => (sectorsOf r.1 r.2).all s.byteMapped)

/-- Every byte of every range is populated, bank states included, and outside register space. -/
def State.rangesPopulated (s : State) (rs : List (Nat × Nat)) : Bool :=
  rs.all (fun r => s.populated r.1 r.2)

/-- Every byte of every range lies in the populated Tilth of one Field. -/
def State.rangesInTilth (s : State) (f : Nat) (rs : List (Nat × Nat)) : Bool :=
  rs.all (fun r => decide (r.2 = 0) || (inTilth f r.1 r.2 && s.populated r.1 r.2))

/-- Some range holds a poisoned sector. -/
def State.rangesPoisoned (s : State) (rs : List (Nat × Nat)) : Bool := rs.any (fun r => s.poisonedIn r.1 r.2)

/-- Two sets of ranges share a byte. -/
def rangesOverlap (a b : List (Nat × Nat)) : Bool :=
  a.any (fun x => b.any (fun y => decide (0 < x.2) && decide (0 < y.2) &&
    decide (x.1 < y.1 + y.2) && decide (y.1 < x.1 + x.2)))

/-- n rows of len bytes at a stride. -/
def rowRanges (addr stride n len : Nat) : List (Nat × Nat) :=
  (List.range n).map (fun r => (addr + r * stride, len))

/-- All bits of a field of w bits are ones (R14). -/
def allOnes (w v : Nat) : Bool := v == 2 ^ w - 1

/-! ### PASS (R140 to R143) -/

/-- The fields of PASS word 1. -/
structure PassF where
  gleanCol : Nat
  gleanRow : Nat
  m : Nat
  n : Nat
  k : Nat
  kLeaves : Nat
  kLeaf : Nat
  xT : Bool
  maskW : Bool
  maskX : Bool
  reuse : Bool
  init : Bool
  sW : Int
  sX : Int
  fmtW : Nat
  fmtX : Nat
  array : Nat
  quadrant : Nat
  shape : Nat
  deriving DecidableEq, Repr

/-- PASS word 1 read (R140). -/
def passF (d : List Word512) : PassF :=
  let w := dword d 1
  ⟨fld w 153 144, fld w 138 128, fld w 123 112, fld w 107 96, fld w 91 80, fld w 70 64, fld w 61 56,
   bitOf w.toNat 48, bitOf w.toNat 47, bitOf w.toNat 46, bitOf w.toNat 45, bitOf w.toNat 44,
   signedOf 10 (fld w 43 34), signedOf 10 (fld w 33 24), fld w 23 20, fld w 19 16, fld w 13 10,
   fld w 9 8, fld w 7 0⟩

/-- The reserved bits of PASS word 1 (R140). -/
def passReserved (w : Word512) : Bool :=
  fld w 511 154 != 0 || fld w 143 139 != 0 || fld w 127 124 != 0 || fld w 111 108 != 0 ||
  fld w 95 92 != 0 || fld w 79 71 != 0 || fld w 63 62 != 0 || fld w 55 49 != 0 || fld w 15 14 != 0

/-- An operand word of PASS (words 2 and 3) and of READOUT and PRELOAD: element plane, exponent plane
and mask plane. -/
structure OpF where
  addr : Nat
  stride : Nat
  expAddr : Nat
  expStride : Nat
  maskAddr : Nat
  maskStride : Nat
  deriving DecidableEq, Repr

/-- An operand word read (R140, R178). -/
def opF (w : Word512) : OpF :=
  ⟨fld w 47 0, fld w 95 64, fld w 175 128, fld w 223 192, fld w 303 256, fld w 351 320⟩

/-- The reserved bits of an operand word. -/
def opReserved (w : Word512) : Bool :=
  fld w 511 352 != 0 || fld w 319 304 != 0 || fld w 255 224 != 0 || fld w 191 176 != 0 ||
  fld w 127 96 != 0 || fld w 63 48 != 0

/-- The shapes of R106. -/
def isA4 (p : PassF) : Bool := p.shape == 2
def is16 (p : PassF) : Bool := p.shape == 3

/-- Tile rows and columns of a shape (R106): K_t and N_t. -/
def tileK (shape : Nat) : Nat := if shape = 1 then 1024 else if shape = 2 then 2048 else 512
def tileN (shape : Nat) : Nat := if shape = 1 || shape = 2 then 1024 else 512

/-- Bytes of an element of a pass operand. -/
def passElem (p : PassF) : Nat := if is16 p then 2 else 1

/-- The pairing of formats a shape accepts (R107). -/
def passFmtOk (p : PassF) : Bool :=
  let e8 (c : Nat) := c == 2 || c == 3
  match p.shape with
  | 1 => e8 p.fmtX && e8 p.fmtW
  | 4 => e8 p.fmtX && e8 p.fmtW
  | 2 => p.fmtX == 1 && p.fmtW == 1
  | 3 => (p.fmtX == 4 && p.fmtW == 4) || (p.fmtX == 5 && p.fmtW == 5)
  | _ => false

/-- The element bytes of one input row (R142): a range when the rows are stored, one range for each
element when the feed transposes. -/
def xRowRanges (p : PassF) (x : OpF) (r : Nat) : List (Nat × Nat) :=
  let e := passElem p
  (if p.xT then (List.range p.k).map (fun k => (x.addr + k * x.stride + r * e, e))
   else [(x.addr + r * x.stride, if isA4 p then ceilDiv p.k 2 else p.k * e)]) ++
  (if isA4 p then [(x.expAddr + r * x.expStride, p.k / 32)] else []) ++
  (if p.maskX then [(x.maskAddr + r * x.maskStride, ceilDiv p.k 8)] else [])

/-- The footprint of operand x: every row. A transposed plane is read as k rows of m elements. -/
def xRanges (p : PassF) (x : OpF) : List (Nat × Nat) :=
  let e := passElem p
  (if p.xT then rowRanges x.addr x.stride p.k (p.m * e)
   else rowRanges x.addr x.stride p.m (if isA4 p then ceilDiv p.k 2 else p.k * e)) ++
  (if isA4 p then rowRanges x.expAddr x.expStride p.m (p.k / 32) else []) ++
  (if p.maskX then rowRanges x.maskAddr x.maskStride p.m (ceilDiv p.k 8) else [])

/-- The footprint of operand w (R142). The A4 plane has one stored row for each tile column. -/
def wRanges (p : PassF) (w : OpF) : List (Nat × Nat) :=
  if p.reuse then [] else
  (if isA4 p then rowRanges w.addr w.stride p.n (ceilDiv p.k 2)
   else rowRanges w.addr w.stride p.k (p.n * passElem p)) ++
  (if isA4 p then rowRanges w.expAddr w.expStride p.n (p.k / 32) else []) ++
  (if p.maskW then rowRanges w.maskAddr w.maskStride p.k (ceilDiv p.n 8) else [])

/-- A mask bit of a MASK1 plane (R142). -/
def State.maskBit (s : State) (addr stride r c : Nat) : Bool := bitOf (s.byte (addr + r * stride + c / 8)).toNat (c % 8)

/-- A4 nibble i of a stored row (R87). -/
def State.nibble (s : State) (rowAddr i : Nat) : Nat :=
  let b := (s.byte (rowAddr + i / 2)).toNat
  if i % 2 = 0 then b % 16 else b / 16

/-- What a masked element holds: a code of value zero; in A4 a code of its own, since a masked element is zero whatever its
block exponent says (R145). -/
def maskedCode (p : PassF) : Nat := if isA4 p then 16 else 0

/-- One input row as the feed reads it, its masked elements replaced (R142, R145). -/
def State.readXRow (s : State) (p : PassF) (x : OpF) (r : Nat) : RowData :=
  let e := passElem p
  let code (k : Nat) : Nat :=
    if p.maskX && !s.maskBit x.maskAddr x.maskStride r k then maskedCode p
    else if isA4 p then s.nibble (x.addr + r * x.stride) k
    else if p.xT then s.num (x.addr + k * x.stride + r * e) e
    else s.num (x.addr + r * x.stride + k * e) e
  ⟨r, (List.range p.k).map code,
   if isA4 p then (List.range (p.k / 32)).map (fun b => (s.byte (x.expAddr + r * x.expStride + b)).toNat) else []⟩

/-- The weight tile as the loader writes it into the plane, its masked cells replaced (R142, R143, R145); the residues are
recorded with it (`Tile.recorded`). -/
def State.readTile (s : State) (p : PassF) (w : OpF) : Tile :=
  let e := passElem p
  let code (k n : Nat) : Nat :=
    if p.maskW && !s.maskBit w.maskAddr w.maskStride k n then maskedCode p
    else if isA4 p then s.nibble (w.addr + n * w.stride) k
    else s.num (w.addr + k * w.stride + n * e) e
  ⟨(List.range p.k).map (fun k => (List.range p.n).map (code k)),
   if isA4 p then (List.range (p.k / 32)).map (fun b =>
     (List.range p.n).map (fun n => (s.byte (w.expAddr + n * w.expStride + b)).toNat)) else [], []⟩

/-! ### Glean descriptors (R178) -/

/-- The region fields and the settings of a Glean word 1 (R178). -/
structure GleanF where
  field : Nat
  row0 : Nat
  rows : Nat
  col0 : Nat
  cols : Nat
  /-- READOUT and PRELOAD -/
  tCols : Nat
  tCol0 : Nat
  tRow0 : Nat
  maskPred : Nat
  epiS : Int
  epiBcast : Nat
  epiFmt : Nat
  epiOp : Nat
  s : Int
  spec : Nat
  /-- e_ref of PRELOAD and CLEAR -/
  eRef : Int
  rnd : Nat
  /-- raw copies -/
  metaAddr : Nat
  dataAddr : Nat
  dataStride : Nat
  /-- REDUCE -/
  members : Nat
  root : Nat
  deriving DecidableEq, Repr

/-- A Glean word 1 read. -/
def gleanF (d : List Word512) : GleanF :=
  let w := dword d 1
  ⟨fld w 3 0, fld w 18 8, fld w 31 20, fld w 41 32, fld w 58 48, fld w 287 256, fld w 255 224,
   fld w 223 192, fld w 129 128, signedOf 10 (fld w 121 112), fld w 105 104, fld w 103 100, fld w 99 96,
   signedOf 10 (fld w 89 80), fld w 79 64, signedOf 11 (fld w 74 64), fld w 76 75,
   fld w 303 256, fld w 175 128, fld w 223 192, fld w 71 64, fld w 73 72⟩

/-- The subtree of a member set: its Fields, by the smallest of R23's subtrees that holds every
member (R171). -/
def subtree (members : Nat) : List Nat :=
  let has (f : Nat) := bitOf members f
  let inside (fs : List Nat) := (List.range 8).all (fun f => !has f || fs.contains f)
  match ([[0, 1], [2, 3], [4, 5], [6, 7], [0, 1, 2, 3], [4, 5, 6, 7]]).find? inside with
  | some fs => fs
  | none => [0, 1, 2, 3, 4, 5, 6, 7]

/-- The root Fields of a REDUCE (R171). -/
def rootsOf (g : GleanF) : List Nat :=
  let t := subtree g.members
  if t.length = 8 then (if g.root = 0 then [0] else if g.root = 1 then [4] else [0, 4])
  else [t.headD 0]

/-- The member Fields of a REDUCE. -/
def membersOf (g : GleanF) : List Nat := setBitsOf 8 g.members

/-- Element size in bytes of a format code; A4 counts as 1. -/
def fmtBytes (c : Nat) : Nat := (Fmt.ofCode c).elim 1 Fmt.bytes

/-- The output bytes of READOUT (R179). -/
def readoutOut (g : GleanF) (o : OpF) : List (Nat × Nat) :=
  let f := bitsOf g.spec 3 0
  (if f = 1 then rowRanges o.addr o.stride g.rows (ceilDiv g.cols 2) ++ rowRanges o.expAddr o.expStride g.rows (g.cols / 32)
   else rowRanges o.addr o.stride g.rows (g.cols * fmtBytes f)) ++
  (if g.maskPred = 0 then [] else rowRanges o.maskAddr o.maskStride g.rows (ceilDiv g.cols 8))

/-- The operand bytes of READOUT (R179). -/
def readoutEpi (g : GleanF) (o : OpF) : List (Nat × Nat) :=
  let e := fmtBytes g.epiFmt
  if g.epiOp = 0 then []
  else if g.epiBcast = 0 then rowRanges o.addr o.stride g.rows (g.cols * e)
  else if g.epiBcast = 1 then [(o.addr, g.cols * e)]
  else rowRanges o.addr o.stride g.rows e

/-- The source bytes of PRELOAD. -/
def preloadSrc (g : GleanF) (o : OpF) : List (Nat × Nat) := rowRanges o.addr o.stride g.rows (g.cols * fmtBytes g.epiFmt)

/-- The bytes of a raw copy (R183). -/
def rawRanges (g : GleanF) : List (Nat × Nat) :=
  rowRanges g.dataAddr g.dataStride g.rows 12288 ++ rowRanges g.metaAddr 32 g.rows 32

end Sys2Proof.Machine
end

