-- ==== Sys2Proof/Machine/GleanBank.lean ====
section
/-!
DEFINITION. The Glean bank of a Field: accumulators, row metadata, and how a row of sums is applied
(R160, R163, R165 to R170, R571). The accumulators stand in device memory at the Glean window.
-/
namespace Sys2Proof.Machine

/-! ### Row metadata (R163) -/

/-- The 256 bits of a row's metadata. -/
def State.gmeta (s : State) (f r : Nat) : Nat := (storeGet s.gleanMeta (f * 2048 + r)).getD 0

/-- A row's metadata set; a row with metadata 0 is not listed. -/
def State.setGmeta (s : State) (f r m : Nat) : State :=
  { s with gleanMeta := if m = 0 then storeDel s.gleanMeta (f * 2048 + r) else storePut s.gleanMeta (f * 2048 + r) m }

def mF32 (m : Nat) : Bool := bitOf m 0
def mPoison (m : Nat) : Bool := bitOf m 1
def mEref (m seg : Nat) : Int := signedOf 11 (bitsOf m (16 + 11 * seg + 10) (16 + 11 * seg))
def mA (m : Nat) : Nat := bitsOf m 25 16
def mN (m : Nat) : Nat := bitsOf m 35 26
def mLeaves (m : Nat) : Nat := bitsOf m 42 36
def mFill (m : Nat) : Nat := bitsOf m 49 43

/-- Metadata with one segment's e_ref set. -/
def mSetEref (m seg : Nat) (e : Int) : Nat := setBits m (16 + 11 * seg + 10) (16 + 11 * seg) (toTwos 11 e)

/-- Metadata of an F32 row. -/
def mOfF32 (poison : Bool) (a n leaves fill : Nat) : Nat :=
  1 + (b2n poison <<< 1) + ((a % 1024) <<< 16) + ((n % 1024) <<< 26) + ((leaves % 128) <<< 36) + ((fill % 128) <<< 43)

/-- Metadata with its poison bit set to a value. -/
def mSetPoison (m : Nat) (b : Bool) : Nat := setBits m 1 1 (b2n b)

/-- The segments that columns col to col + n − 1 touch. -/
def segsOf (col n : Nat) : List Nat :=
  if n = 0 then [] else (List.range ((col + n - 1) / 64 - col / 64 + 1)).map (fun i => col / 64 + i)

/-! ### Accumulators (R160) -/

/-- The address of accumulator (r, c). -/
def accAddr (f r c : Nat) : Nat := gleanBase f + (r * 1024 + c) * 12

/-- The 96 bits of an accumulator. -/
def State.acc (s : State) (f r c : Nat) : Nat := s.num (accAddr f r c) 12

/-- An accumulator written. -/
def State.setAcc (s : State) (f r c v : Nat) : State := s.putBytes (accAddr f r c) (leBytes 12 (v % 2 ^ 96))

/-- Every accumulator of a row zeroed. -/
def State.zeroRow (s : State) (f r : Nat) : State := s.zeroRange (accAddr f r 0) 12288

/-- How many rows of a Field's Glean are poisoned (R186). -/
def State.poisonedRows (s : State) (f : Nat) : Nat :=
  (s.gleanMeta.filter (fun kv => kv.1 / 2048 == f && mPoison kv.2)).length

/-! ### FP32 accumulation on the canonical tree (R168 to R170) -/

/-- add_rne on FP32 bits (R110, R169). -/
def addBits (a b : Nat) : Nat := (addF32 (f32 (BitVec.ofNat 32 a)) (f32 (BitVec.ofNat 32 b))).bitsF32.toNat

/-- One accumulation: its fill and its six pending sums. -/
structure Pend where
  fill : Nat
  p : List Nat
  deriving DecidableEq, Repr

/-- The carry of push: left siblings added from level l on, at most 6 of them (R169). -/
def pushCarry : Nat → Nat → Nat → List Nat → Nat → Nat × List Nat × Nat
  | 0, _, l, p, v => (l, p, v)
  | n + 1, fill, l, p, v =>
    if bitOf fill l then pushCarry n fill (l + 1) (p.set l 0) (addBits (p.getD l 0) v) else (l, p, v)

/-- push(v): v is leaf number fill (R169). -/
def Pend.push (q : Pend) (v : Nat) : Pend :=
  let r := pushCarry 6 q.fill 0 q.p v
  ⟨q.fill + 1, r.2.1.set (if r.1 < 6 then r.1 else 0) r.2.2⟩

/-- n leaves of +0 pushed. -/
def Pend.pushZeros : Nat → Pend → Pend
  | 0, q => q
  | n + 1, q => Pend.pushZeros n (q.push 0)

/-- add_leaf(j, v) under k_leaves (R169). -/
def Pend.addLeaf (q : Pend) (j v leaves : Nat) : Pend :=
  let q1 := (q.pushZeros (j - q.fill)).push v
  if q1.fill = leaves then q1.pushZeros (64 - q1.fill) else q1

/-- value(): the finalised view (R169). -/
def Pend.value (q : Pend) : Nat := (q.pushZeros (64 - q.fill)).p.getD 0 0

/-- The pending sums of accumulator (r, c) and its partner (R168). -/
def State.pend (s : State) (f r c fill : Nat) : Pend :=
  let lo := s.acc f r c
  let hi := s.acc f r (c ^^^ 512)
  ⟨fill, [bitsOf lo 31 0, bitsOf lo 63 32, bitsOf lo 95 64, bitsOf hi 31 0, bitsOf hi 63 32, bitsOf hi 95 64]⟩

/-- Pending sums written back to accumulator (r, c) and its partner (R168). -/
def State.setPend (s : State) (f r c : Nat) (q : Pend) : State :=
  let g (i : Nat) := q.p.getD i 0
  (s.setAcc f r c (g 0 + (g 1 <<< 32) + (g 2 <<< 64))).setAcc f r (c ^^^ 512) (g 3 + (g 4 <<< 32) + (g 5 <<< 64))

/-- The value an accumulator is read as: L96 under its segment's e_ref (R89, R165), or the finalised
FP32 view inside an F32 row's target and +0 outside it (R170). -/
def State.accValue (s : State) (f r c : Nat) : FV :=
  let m := s.gmeta f r
  if mF32 m then
    if decide (mA m ≤ c) && decide (c < mA m + mN m) then
      f32 (BitVec.ofNat 32 ((s.pend f r c (mFill m)).value))
    else FV.zero
  else
    match decodeElem .l96 (mEref m (c / 64)) (s.acc f r c) with
    | .fin n mg e => if mg = 0 then FV.zero else .fin n mg e
    | v => v

/-! ### A row of sums applied -/

/-- Accumulators col, col + 1, … written. -/
def State.setAccs (s : State) (f r : Nat) : Nat → List Nat → State
  | _, [] => s
  | c, v :: vs => (s.setAcc f r c v).setAccs f r (c + 1) vs

/-- An F32 row converted to mode 0: e_ref 0 and zero contents, poison kept (R166). -/
def State.toL96Row (s : State) (f r : Nat) : State :=
  let m := s.gmeta f r
  if mF32 m then (s.zeroRow f r).setGmeta f r (b2n (mPoison m) * 2) else s

/-- A row written with init = 1, by a pass, a PRELOAD or a CLEAR: every touched segment takes e_ref
(R165, R166, R182); poison clears when every column is rewritten (R162). -/
def State.rowInit (s : State) (f r col : Nat) (e : Int) (vals : List Nat) : State :=
  let s1 := s.toL96Row f r
  let m := (segsOf col vals.length).foldl (fun m sg => mSetEref m sg e) (s1.gmeta f r)
  let m' := if vals.length = 1024 then mSetPoison m false else m
  (s1.setGmeta f r m').setAccs f r col vals

/-- A row added with init = 0 (R165). -/
def State.rowAdd (s : State) (f r col : Nat) (vals : List Nat) : State :=
  s.setAccs f r col ((List.range vals.length).map (fun i => (s.acc f r (col + i) + vals.getD i 0) % 2 ^ 96))

/-- An L96 row admits an 8-bit, A4 or quarter sum with init = 0: every touched segment holds the
pass's e_ref (R155 check 15, R571). -/
def admits8 (m col n : Nat) (e : Int) : Bool := !mF32 m && (segsOf col n).all (fun sg => mEref m sg == e)

/-- An F32 row admits a leaf with init = 0 (R155 check 14, R167, R571). -/
def admits16 (m col n leaves leaf : Nat) : Bool :=
  mF32 m && mA m == col && mN m == n && mLeaves m == leaves && decide (mFill m ≤ leaf)

/-- The columns of an F32 row with one leaf added to each. -/
def State.leafCols (s : State) (f r leaf leaves fill : Nat) : Nat → List Nat → State
  | _, [] => s
  | c, v :: vs => (s.setPend f r c ((s.pend f r c fill).addLeaf leaf v leaves)).leafCols f r leaf leaves fill (c + 1) vs

/-- A 16-bit row applied: a new accumulation with init = 1, the leaf joined with init = 0 (R167). -/
def State.rowLeaf (s : State) (f r col leaf leaves : Nat) (init : Bool) (vals : List Nat) : State :=
  let done := if leaf + 1 = leaves then 64 else leaf + 1
  if init then
    let s1 := (s.zeroRow f r).setGmeta f r (mOfF32 false col vals.length leaves done)
    s1.leafCols f r leaf leaves 0 col vals
  else
    let m := s.gmeta f r
    (s.leafCols f r leaf leaves (mFill m) col vals).setGmeta f r (setBits m 49 43 done)

/-- Every row of a Field's Glean returned to mode 0, e_ref 0, zero and unpoisoned (R164). -/
def State.resetGlean (s : State) (f : Nat) : State :=
  { (s.zeroRange (gleanBase f) gleanSize) with gleanMeta := s.gleanMeta.filter (fun kv => kv.1 / 2048 != f) }

end Sys2Proof.Machine
end

