-- ==== Sys2Proof/Machine/Furrow.lean ====
section
/-!
DEFINITION. Furrow arrays and passes: the checks of PASS (R155), feeds and planes (R112 to R116, R146
to R150), rows through the array (R117, R143, R145, R297), column sums (R108 to R111, R93, R101),
checking, failure and helpers (R126 to R138, R570, R571).
-/
namespace Sys2Proof.Machine

def furrowReg (f off : Nat) : Nat := regAddr .furrow f off

/-- The array of a Field. -/
def State.array (s : State) (f : Nat) : ArraySt := s.arrays.getD f ⟨2, 0, [], none, none, 0, 0⟩
def State.setArray (s : State) (f : Nat) (a : ArraySt) : State := { s with arrays := s.arrays.set f a }

/-- An array is WORKING and its Field is not lost. -/
def State.arrayWorks (s : State) (f : Nat) : Bool := (s.array f).state == 1 && !s.lost f

def ArraySt.quad (a : ArraySt) (q : Nat) : QuadSt := a.quads.getD q ⟨0, none, 0, none, false⟩
def ArraySt.setQuad (a : ArraySt) (q : Nat) (x : QuadSt) : ArraySt := { a with quads := a.quads.set q x }

/-- The pass a flight runs, once its Field has taken it up. -/
def Flight.pass? (f : Flight) : Option PassProg :=
  match f.prog with
  | .pass p => some p
  | _ => none

/-- The PASS flights, in order of issue. -/
def State.passFlights (s : State) : List Flight := s.flights.filter (fun f => f.cls == 1)

/-! ### Checks of R155 -/

/-- The tile key of a PASS descriptor of its own. -/
def passKey (d : List Word512) : PassKey :=
  let p := passF d
  ⟨p.shape, p.fmtW, p.k, p.n, dword d 3, p.maskW⟩

/-- A tile key that a reuse_tile pass may follow (R150). -/
def keyMatches (a : PassKey) (p : PassF) : Bool := a.shape == p.shape && a.fmtW == p.fmtW && a.k == p.k && a.n == p.n

/-- The predecessor of a new pass on its array or quadrant: the last pass issued there, taken up or
not, with at least one row; an issued pass that reuses a tile hands on its predecessor's key (R149,
R150). -/
def State.passPred (s : State) (p : PassF) : Option PassKey :=
  let base := ((s.array p.array).quad p.quadrant).pred
  (s.passFlights).foldl (fun acc f =>
    let q := passF f.words
    if f.prog == .none && q.array == p.array && 0 < q.m && (q.quadrant == p.quadrant || q.shape != 4 || p.shape != 4) then
      (if q.reuse then acc else some (passKey f.words))
    else acc) base

/-- The last pass with a tile of its own that some window's cores have parsed and not yet issued may be the predecessor:
check 11 at parse then leaves the decision to the issue, which alone fixes the order of passes (R147, R155). -/
def State.parsedPred (s : State) (p : PassF) : Bool :=
  s.windows.any (fun (x : Window) =>
    ((x.parsed.filterMap (fun (e : Nat × List Word512) =>
      let q := passF e.2
      if hClass (dword e.2 0) == 1 && q.array == p.array && 0 < q.m && (q.quadrant == p.quadrant || q.shape != 4 || p.shape != 4) && !q.reuse
      then some (passKey e.2) else none)).getLast?).any (fun k => keyMatches k p))

/-- Fields that must be zero because the pass leaves them unused (R141). -/
def passUnused (p : PassF) (d : List Word512) : Bool :=
  let x := opF (dword d 2)
  let w := opF (dword d 3)
  (!is16 p && (p.kLeaves != 0 || p.kLeaf != 0)) ||
  (!p.maskX && (x.maskAddr != 0 || x.maskStride != 0)) ||
  (!p.maskW && (w.maskAddr != 0 || w.maskStride != 0)) ||
  (!isA4 p && (x.expAddr != 0 || x.expStride != 0 || w.expAddr != 0 || w.expStride != 0)) ||
  (p.reuse && (dword d 3 != 0 || p.maskW))

/-- Checks 1 to 13 of R155, in order; 0 where all pass. -/
def State.passParse (s : State) (d : List Word512) : Nat :=
  let p := passF d
  let x := opF (dword d 2)
  let w := opF (dword d 3)
  let al (n v : Nat) : Bool := v % n != 0
  if !(1 ≤ p.shape && p.shape ≤ 4) || (p.shape != 4 && p.quadrant != 0) then 0x0B10
  else if 8 ≤ p.array then 0x0B11
  else if s.lost p.array then 0x0511
  else if !passFmtOk p then 0x0301
  else if isA4 p && p.k % 32 != 0 then 0x0304
  else if passReserved (dword d 1) || opReserved (dword d 2) || opReserved (dword d 3) || passUnused p d then 0x0103
  else if p.k = 0 || p.n = 0 || tileK p.shape < p.k || tileN p.shape < p.n || 2048 < p.m ||
      2048 < p.gleanRow + p.m || 1024 < p.gleanCol + p.n ||
      (is16 p && (p.kLeaves = 0 || 64 < p.kLeaves)) || allOnes 12 p.m || allOnes 12 p.k || allOnes 12 p.n then 0x0201
  else if !s.rangesMapped (xRanges p x ++ wRanges p w) then 0x0202
  else if !s.rangesInTilth p.array (xRanges p x ++ wRanges p w) then 0x0B12
  else if al 64 x.addr || al 64 x.stride || al 64 w.addr || al 64 w.stride || al 8 x.expAddr || al 8 x.expStride ||
      al 8 w.expAddr || al 8 w.expStride || al 8 x.maskAddr || al 8 x.maskStride || al 8 w.maskAddr || al 8 w.maskStride ||
      (p.xT && al 128 x.stride) then 0x0B13
  else if p.xT && isA4 p then 0x0B14
  else if p.reuse && !((s.passPred p).any (fun k => keyMatches k p)) && !s.parsedPred p then 0x0B15
  else if is16 p && p.kLeaves ≤ p.kLeaf then 0x0B16
  else 0

/-- A row's metadata after a row of a pass is applied to it. -/
def metaAfterPass (p : PassF) (m : Nat) : Nat :=
  let done := if p.kLeaf + 1 = p.kLeaves then 64 else p.kLeaf + 1
  if is16 p then
    if p.init then mOfF32 false p.gleanCol p.n p.kLeaves done
    else if admits16 m p.gleanCol p.n p.kLeaves p.kLeaf then setBits m 49 43 done else m
  else if p.init then
    (segsOf p.gleanCol p.n).foldl (fun m sg => mSetEref m sg (p.sX + p.sW)) (if mF32 m then 0 else m)
  else m

/-- What the Field will hold, for the projection of R167: the metadata of a Glean row, or a 32-byte metadata word of memory
that a SAVE_RAW writes and a LOAD_RAW reads back. -/
inductive MetaKey where
  | row (f r : Nat)
  | word (a : Nat)
  deriving DecidableEq, Repr

/-- The first row that a flight has not yet acted on. -/
def Flight.fromRow (fl : Flight) : Nat := match fl.prog with | .pass q => q.nextAdd | .glean q => q.row | _ => 0

/-- The region row of a Glean descriptor still to be acted on that a Glean row is, if it is one. -/
def regionRow (g : GleanF) (from_ r : Nat) : Option Nat :=
  if g.row0 + from_ ≤ r && r < g.row0 + g.rows && 0 < g.cols then some (r - g.row0) else none

/-- What stands at a key once the given flights, newest first, have acted (R167). -/
def State.metaView (s : State) : List Flight → MetaKey → Nat
  | [], .row f r => s.gmeta f r
  | [], .word a => s.num a 32
  | fl :: older, .row f r =>
    let m := s.metaView older (.row f r)
    if fl.cls = 1 then
      let p := passF fl.words
      if p.array = f && p.gleanRow + fl.fromRow ≤ r && r < p.gleanRow + p.m then metaAfterPass p m else m
    else if fl.cls = 2 then
      let g := gleanF fl.words
      match regionRow g fl.fromRow r with
      | none => m
      | some i =>
        if fl.op = 2 || fl.op = 3 then
          if g.field = f then (segsOf g.col0 g.cols).foldl (fun m sg => mSetEref m sg g.eRef) (if mF32 m then 0 else m) else m
        else if fl.op = 5 then
          if g.field = f then s.metaView older (.word (g.metaAddr + i * 32)) else m
        else if fl.op = 6 then
          if (rootsOf g).contains f then
            let src := s.metaView older (.row ((membersOf g).headD 0) r)
            if mF32 src then setBits src 49 43 64
            else (segsOf g.col0 g.cols).foldl (fun m sg => mSetEref m sg (mEref src sg)) (if mF32 m then 0 else m)
          else m
        else m
    else m
  | fl :: older, .word a =>
    let g := gleanF fl.words
    if fl.cls = 2 && fl.op = 4 && g.metaAddr + fl.fromRow * 32 ≤ a && a < g.metaAddr + g.rows * 32 && (a - g.metaAddr) % 32 = 0 && 0 < g.cols then
      s.metaView older (.row g.field (g.row0 + (a - g.metaAddr) / 32))
    else s.metaView older (.word a)

/-- A row's metadata as it will stand after every pass and Glean descriptor that the Field issued
earlier (R167). -/
def State.projMeta (s : State) (f r : Nat) : Nat := s.metaView s.flights.reverse (.row f r)

/-- Two quadrant passes overlap and one has init = 1 (R152). -/
def passesClash (p q : PassF) : Bool :=
  p.shape == 4 && q.shape == 4 && p.array == q.array && p.quadrant != q.quadrant && (p.init || q.init) && 0 < p.m && 0 < q.m &&
  decide (p.gleanRow < q.gleanRow + q.m) && decide (q.gleanRow < p.gleanRow + p.m) &&
  decide (p.gleanCol < q.gleanCol + q.n) && decide (q.gleanCol < p.gleanCol + p.n)

/-- Checks 14 to 16 of R155, made when the Field issues the pass, check 11 before them where the parse could not decide it. -/
def State.passIssueCheck (s : State) (d : List Word512) : Nat :=
  let p := passF d
  let rows := (List.range p.m).map (fun i => s.projMeta p.array (p.gleanRow + i))
  if p.reuse && !((s.passPred p).any (fun k => keyMatches k p)) then 0x0B15
  else if is16 p && !p.init && rows.any (fun m => !admits16 m p.gleanCol p.n p.kLeaves p.kLeaf) then 0x0B16
  else if !is16 p && !p.init && rows.any (fun m => !admits8 m p.gleanCol p.n (p.sX + p.sW)) then 0x0B17
  else if s.passFlights.any (fun f => passesClash p (passF f.words)) then 0x0B18
  else 0

/-! ### Taking a pass up; planes and swaps -/

/-- An array's quadrants after a pass has joined its sequence: its key is the predecessor of the next
pass, and a change between quarter and whole-array shapes leaves the other quadrants none (R150). -/
def ArraySt.follow (a : ArraySt) (p : PassF) (k : PassKey) : ArraySt :=
  { a with quads := (List.range 4).map (fun q =>
      let x := a.quad q
      if p.shape != 4 || q == p.quadrant then { x with pred := some k, predGone := x.predGone && p.reuse }
      else if (x.pred.any (fun y => y.shape == 4)) then x else { x with pred := none, predGone := false }) }

/-- The pass last taken up on a quadrant was cancelled before its swap: a reuse_tile pass that follows does not run (R150). -/
def ArraySt.loseTile (a : ArraySt) (p : PassF) : ArraySt :=
  { a with quads := (List.range 4).map (fun q =>
      let x := a.quad q
      if p.shape != 4 || q == p.quadrant then { x with predGone := true } else x) }

/-- An empty pass program on an array. -/
def PassProg.start (key : PassKey) (runner : Nat) : PassProg :=
  ⟨.idle, none, false, [], 0, [], 0, 0, false, false, true, none, key, runner, false, 0, false⟩

/-- Two passes meet on an array: the same quadrant, or one of them has the whole array. -/
def quadsMeet (p q : PassF) : Bool := p.quadrant == q.quadrant || p.shape != 4 || q.shape != 4

/-- Hosted work enters a helper: loads of the helper's own passes, begun or full without a swap, on the planes that it
takes are given up (R570). -/
def State.giveUpLoads (s : State) (helper : Nat) (p : PassF) : State :=
  { s with flights := s.flights.map (fun (g : Flight) =>
      match g.prog with
      | .pass q =>
        if (passF g.words).array == helper && q.runner == helper && !q.swapped && q.load != .idle && quadsMeet (passF g.words) p then
          { g with prog := Prog.pass { q with load := .idle, tile := none } }
        else g
      | _ => g) }

/-- A cycle in which a pass waits to be taken up behind another of its array. -/
def State.takeBlocked (s : State) (f : Flight) : Bool :=
  (s.passFlights.takeWhile (fun g => g.id != f.id)).any (fun g => (passF g.words).array == (passF f.words).array && g.prog == .none)

/-- PASS: the Field turns an issued pass into its feeds, in order of issue (R146, R147). A reuse_tile pass after one
that was cancelled before its swap does not run (R150); hosted work takes the planes of its helper (R570). -/
def State.takePass (s : State) (id : Nat) : State :=
  match s.flightOf id 1 1 with
  | none => s
  | some f =>
    let p := passF f.words
    if f.prog != .none || f.ending.isSome || s.takeBlocked f then s
    else
      let a := s.array p.array
      let x := a.quad p.quadrant
      let key := if p.reuse then x.pred.getD (passKey f.words) else passKey f.words
      let runner := a.hostedBy.getD p.array
      let lost := p.reuse && x.predGone && p.m != 0
      let prog := PassProg.start key runner
      let s1 := s.setFlight { f with
        prog := .pass { prog with cancelled := lost }
        started := true
        ending := if lost then some 0x0B15 else none }
      if p.m = 0 then s1
      else
        let s2 := s1.setArray p.array (a.follow p key)
        if runner = p.array then s2 else s2.giveUpLoads runner p

/-- Passes on the runner quadrant of a pass that go before it: its own kind in order of issue; hosted
work goes ahead of the runner's own passes that have not swapped (R131, R147). A pass of another shape
class meets every quadrant. -/
def State.passesBefore (s : State) (id : Nat) (p : PassF) (runner : Nat) : List (Flight × PassProg) :=
  let hosted := p.array != runner
  s.passFlights.filterMap (fun g =>
    match g.prog with
    | .pass q =>
      let pg := passF g.words
      let gHosted := pg.array != runner
      let first := if gHosted == hosted then decide (g.id < id) else if hosted then q.swapped else true
      if g.id != id && q.runner == runner && 0 < pg.m && first &&
          quadsMeet pg p then some (g, q) else none
    | _ => none)

/-- The pass takes the tile that stands active, with no load and no swap (R115, R150): it reuses, and
no hosted work has displaced the tile (R570). -/
def State.takesActive (s : State) (p : PassF) (q : PassProg) : Bool :=
  let x := (s.array q.runner).quad p.quadrant
  p.reuse && x.tile.isSome && x.owner == p.array

/-- Every row of a pass has entered, or none will any more. -/
def rowsDone (p : PassF) (q : PassProg) : Bool :=
  q.cancelled || decide (p.m ≤ q.nextEnter) || (q.feedStopped && q.fifo.isEmpty)

/-- Work already started runs on; work not started waits while PG_CTRL.enable is 0 (R135). A pass has started once its
load or its first row has begun, on any array; for hosted work the enable of the Field that it is addressed to counts
(log entry 42). -/
def State.arrayTakes (s : State) (f : Nat) (q : PassProg) : Bool := s.enabled .furrow f || q.begun

/-- PASS_SHADOW_LOAD_START: the load into the free plane begins once the pass's wait is met; its
launch_time does not gate it (R114, R122, R148). An earlier pass that takes the active tile needs no plane. -/
def State.loadStart (s : State) (id : Nat) : State :=
  match s.flightOf id 1 1 with
  | none => s
  | some f =>
    match f.pass? with
    | none => s
    | some q =>
      let p := passF f.words
      let before := s.passesBefore id p q.runner
      if q.load == .idle && !q.swapped && !q.cancelled && !q.feedStopped && 0 < p.m && (f.wait.isNone || f.waitMet) &&
          s.arrayWorks q.runner && s.arrayTakes p.array q && !s.takesActive p q &&
          before.all (fun g => g.2.swapped || g.2.cancelled || g.2.feedStopped || s.takesActive (passF g.1.words) g.2) then
        s.setFlight { f with prog := .pass { q with load := .loading, begun := true } }
      else s

/-- The row feed reads while fewer than 32 rows are ahead of the array; poison in a row stops it
(R257, R297). -/
def State.fillFifo (s : State) (p : PassF) (x : OpF) : Nat → PassProg → PassProg
  | 0, q => q
  | n + 1, q =>
    if q.feedStopped || q.cancelled || p.m ≤ q.nextRead || q.nextEnter + 32 ≤ q.nextRead then q
    else if s.rangesPoisoned (xRowRanges p x q.nextRead) then { q with feedStopped := true }
    else s.fillFifo p x n { q with fifo := q.fifo ++ [s.readXRow p x q.nextRead], nextRead := q.nextRead + 1 }

/-- The passes before let a pass enter rows: their rows have entered, and those of another shape have been accumulated
(R115, R116, R123). -/
def entryClear (p : PassF) (before : List (Flight × PassProg)) : Bool :=
  before.all (fun g =>
    let pg := passF g.1.words
    rowsDone pg g.2 && (pg.shape == p.shape || g.2.pipe.isEmpty))

/-- The place of the next pass that begins to enter rows on an array. -/
def State.nextTurn (s : State) (runner : Nat) : Nat :=
  (s.passFlights.map (fun g => match g.prog with | .pass q => if q.runner = runner then q.turn else 0 | _ => 0)).foldl max 0 + 1

/-- The planes of a pass's quadrant, or of the array, exchange. A change between quarter and whole-array shapes leaves
no tile of the other class standing (R112, R123). -/
def ArraySt.exchange (a : ArraySt) (p : PassF) (tile : Option Tile) : ArraySt :=
  let clear : Bool := p.shape != 4 || a.shape != 4
  let a0 := { a with quads := if clear then a.quads.map (fun (x : QuadSt) => { x with tile := none }) else a.quads }
  let x := a0.quad p.quadrant
  { (a0.setQuad p.quadrant { x with active := 1 - x.active, tile := tile, owner := p.array }) with shape := p.shape }

/-- PASS_SWAP: the planes exchange in a bubble once the shadow plane is full, the gate has fired and
the rows before have entered; a change of shape waits until they have been accumulated (R113, R114,
R116, R123). `stalls` AC cycles were lost waiting. -/
def State.swapPass (s : State) (id stalls : Nat) : State :=
  match s.flightOf id 1 1 with
  | none => s
  | some f =>
    match f.pass? with
    | none => s
    | some q =>
      let p := passF f.words
      let before := s.passesBefore id p q.runner
      let a := s.array q.runner
      if q.load == .full && !q.swapped && !q.cancelled && f.fired && entryClear p before && s.arrayWorks q.runner then
        let a1 := (a.exchange p q.tile)
        let q1 := { q with swapped := true, turn := s.nextTurn q.runner, gating := bitOf (s.reg (furrowReg q.runner 0x100)) 0 }
        ((s.setFlight { f with prog := .pass (s.fillFifo p (opF (dword f.words 2)) 32 q1) }).setArray q.runner a1).bumpBy
          (furrowReg q.runner 0x138) stalls
      else s

/-! ### Column sums -/

/-- An operand code of a shape as an exact value, its A4 block exponent aside. -/
def passValue (fmt code : Nat) : FV :=
  match Fmt.ofCode fmt with
  | some f => decodeElem f 0 code
  | none => FV.zero

/-- The element is non-finite: a NaN or infinity code, or an unmasked element of a NaN block (R88, R101, R145). -/
def passNonFinite (p : PassF) (fmt code exp : Nat) : Bool :=
  if isA4 p then code < 16 && exp % 256 == 0x80 else !(passValue fmt code).isFinite

/-- The element reads as zero: an encoding whose value is ±0, or masked (R124, R145). -/
def passZero (p : PassF) (fmt code exp : Nat) : Bool :=
  !passNonFinite p fmt code exp && (if isA4 p then 16 ≤ code || (a4Elem code).isZero else (passValue fmt code).isZero)

/-- The exact value that a cell or the checksum column takes of an element: its block exponent included in A4, and zero
where it is non-finite (R111, R127). -/
def passOperand (p : PassF) (fmt code exp : Nat) : FV :=
  if passNonFinite p fmt code exp || passZero p fmt code exp then FV.zero
  else if isA4 p then (a4Elem code).scale (signedOf 8 (exp % 256)) else passValue fmt code

/-- An exact finite value m × 2^e as an integer on the grid 2^−48 (R89). -/
def onL96 (v : FV) : Int :=
  match v with
  | .fin n m e =>
    let k := e + 48
    let mag : Nat := if 0 ≤ k then m <<< k.toNat else m >>> (-k).toNat
    if n then -(mag : Int) else mag
  | _ => 0

/-- One A4 product in units of 2^−48 under its block offset d, and whether it counts as an inexact shift and as a
saturation: every product whose offset lies outside −24 to 24 does, one of value zero too (R93, R109). -/
def a4Product (v : FV) (d : Int) : Int × Bool × Bool :=
  let out : Bool := decide (24 < d) || decide (d < -24)
  match v with
  | .fin n m e =>
    if m = 0 then (0, out, decide (24 < d))
    else if 24 < d then
      let big : Int := (36 : Int) * 2 ^ 72
      (if n then -big else big, true, true)
    else if d < -24 then
      let steps := roundSteps m 1 (e + d) (-26) .rne 0
      let r : Int := (steps : Int) * 2 ^ 22
      (if n then -r else r, true, false)
    else (onL96 (.fin n m (e + d)), false, false)
  | _ => (0, false, false)

/-- The value of an A4 element code before its block exponent, a masked one zero. -/
def a4Nibble (code : Nat) : FV := if 16 ≤ code then FV.zero else a4Elem code

/-- An FP32 adder's operand that is an exact product: one beyond the FP32 range is infinity (R110). -/
def treeInput (v : FV) : FV := if v.toF32.isFinite then v else v.toF32

/-- The sums of one row and what it reports. -/
structure RowSums where
  /-- L96 integers, or FP32 bits in the 16-bit shape, by column -/
  vals : List Nat
  shift : Nat
  sat : Nat
  overflow : Nat
  deriving DecidableEq, Repr

/-- The balanced tree of R110: adjacent pairs, level by level. -/
def treeLevel : List FV → List FV
  | a :: b :: rest => addF32 a b :: treeLevel rest
  | l => l

/-- n levels of the tree. -/
def treeSum : Nat → List FV → FV
  | 0, l => l.headD FV.zero
  | n + 1, l => treeSum n (treeLevel l)

/-- The block offset d of two block exponent bytes (R93); a NaN block has no exponent, and its masked elements no offset. -/
def blockOffset (b1 b2 : Nat) : Int := if b1 % 256 == 0x80 || b2 % 256 == 0x80 then 0 else signedOf 8 (b1 % 256) + signedOf 8 (b2 % 256)

/-- The column sums of a row through a tile (R108 to R111, R143). -/
def rowSums (p : PassF) (t : Tile) (x : RowData) : RowSums :=
  let wCode (k n : Nat) := (t.codes.getD k []).getD n 0
  let wExp (k n : Nat) := (t.exps.getD (k / 32) []).getD n 0
  let xCode (k : Nat) := x.codes.getD k 0
  let xExp (k : Nat) := x.exps.getD (k / 32) 0
  let live (k n : Nat) : Bool :=
    !passNonFinite p p.fmtX (xCode k) (xExp k) && !passNonFinite p p.fmtW (wCode k n) (wExp k n)
  if is16 p then
    let col (n : Nat) : FV := treeSum 9 ((List.range 512).map (fun k =>
      if k < p.k && live k n then treeInput ((passValue p.fmtX (xCode k)).mul (passValue p.fmtW (wCode k n))) else FV.zero))
    let sums := (List.range p.n).map col
    ⟨sums.map (fun v => v.bitsF32.toNat), 0, 0, (sums.filter (fun v => !v.isFinite)).length⟩
  else if isA4 p then
    let prods (n : Nat) : List (Int × Bool × Bool) := (List.range p.k).map (fun k =>
      if live k n then a4Product ((a4Nibble (xCode k)).mul (a4Nibble (wCode k n))) (blockOffset (xExp k) (wExp k n)) else (0, false, false))
    let cols := (List.range p.n).map prods
    ⟨cols.map (fun l => toTwos 96 (l.foldl (fun a r => a + r.1) 0)),
     (cols.map (fun l => (l.filter (fun r => r.2.1)).length)).sum,
     (cols.map (fun l => (l.filter (fun r => r.2.2)).length)).sum, 0⟩
  else
    let col (n : Nat) : Int := (List.range p.k).foldl (fun a k =>
      if live k n then a + onL96 ((passValue p.fmtX (xCode k)).mul (passValue p.fmtW (wCode k n))) else a) 0
    ⟨(List.range p.n).map (fun n => toTwos 96 (col n)), 0, 0, 0⟩

/-- MAC slots of one row of a shape (R108). -/
def macSlots (shape : Nat) : Nat := if shape = 2 then 2097152 else if shape = 1 then 1048576 else 262144

/-- MAC slots of a row that meet two operands neither zero nor non-finite (R124). -/
def liveSlots (p : PassF) (t : Tile) (x : RowData) : Nat :=
  ((List.range p.k).map (fun k =>
    let xc := x.codes.getD k 0
    let xe := x.exps.getD (k / 32) 0
    if passZero p p.fmtX xc xe || passNonFinite p p.fmtX xc xe then 0
    else ((List.range p.n).filter (fun n =>
      let wc := (t.codes.getD k []).getD n 0
      let we := (t.exps.getD (k / 32) []).getD n 0
      !passZero p p.fmtW wc we && !passNonFinite p p.fmtW wc we)).length)).sum

/-- Non-finite elements of a tile (R101). -/
def tileNonFinite (p : PassF) (t : Tile) : Nat :=
  ((List.range p.k).map (fun k => ((List.range p.n).filter (fun n =>
    passNonFinite p p.fmtW ((t.codes.getD k []).getD n 0) ((t.exps.getD (k / 32) []).getD n 0))).length)).sum

/-- What a row reports to Winnow when it is added (R220, R221); the first row added brings the non-finite elements of
the tile with it (R101). -/
def rowTally (p : PassF) (t : Tile) (first : Bool) (x : RowData) (r : RowSums) : Tally :=
  let el (k : Nat) := (x.codes.getD k 0, x.exps.getD (k / 32) 0)
  let zeros := ((List.range p.k).filter (fun k => passZero p p.fmtX (el k).1 (el k).2)).length
  let nfX := ((List.range p.k).filter (fun k => passNonFinite p p.fmtX (el k).1 (el k).2)).length
  let nfW := if first && !p.reuse then tileNonFinite p t else 0
  { Tally.empty with elements := p.k, zeros := zeros, sat := r.sat, shift := r.shift, nf := nfX + nfW + r.overflow }

/-! ### Rows in and out of the pipeline -/

/-- PASS_ROW_ENTER: the oldest row in the FIFO is latched (R115, R117, R118). A pass that takes the
active tile starts here. `stalls` AC cycles were lost to holds. -/
def State.enterRow (s : State) (id stalls : Nat) : State :=
  match s.flightOf id 1 1 with
  | none => s
  | some f =>
    match f.pass? with
    | none => s
    | some q0 =>
      let p := passF f.words
      let x := opF (dword f.words 2)
      let a := s.array q0.runner
      let before := s.passesBefore id p q0.runner
      let begins := !q0.swapped && s.takesActive p q0 && s.arrayTakes p.array q0 && f.fired && entryClear p before
      let q := if begins then
          s.fillFifo p x 32 { q0 with
            swapped := true
            begun := true
            turn := s.nextTurn q0.runner
            tile := (a.quad p.quadrant).tile
            gating := bitOf (s.reg (furrowReg q0.runner 0x100)) 0 }
        else q0
      match q.fifo, q.tile with
      | r :: rest, some t =>
        if q.swapped && f.fired && !q.cancelled && s.arrayWorks q.runner && a.fault.isNone then
          let q1 := s.fillFifo p x 1 { q with fifo := rest, pipe := q.pipe ++ [r], nextEnter := q.nextEnter + 1 }
          let slots := macSlots p.shape
          let gated := if q.gating then slots - liveSlots p t r + a.gatedRest else a.gatedRest
          ((((s.setFlight { f with prog := .pass q1 }).setArray q.runner { a with gatedRest := gated % 65536 }).bumpBy
            (furrowReg q.runner 0x128) (slots / 65536)).bumpBy (furrowReg q.runner 0x130) (gated / 65536)).bumpBy
            (furrowReg q.runner 0x138) stalls
        else s
      | _, _ => if begins then s.setFlight { f with prog := .pass q } else s

/-- The row's sum applied to Glean, judged against Glean's state again (R144, R165 to R167, R571).
Answers whether it was applied. -/
def State.applyRow (s : State) (p : PassF) (row : Nat) (vals : List Nat) : State × Bool :=
  let m := s.gmeta p.array row
  if is16 p then
    if p.init || admits16 m p.gleanCol p.n p.kLeaves p.kLeaf then
      (s.rowLeaf p.array row p.gleanCol p.kLeaf p.kLeaves p.init vals, true)
    else (s, false)
  else if p.init then (s.rowInit p.array row p.gleanCol (p.sX + p.sW) vals, true)
  else if admits8 m p.gleanCol p.n (p.sX + p.sW) then (s.rowAdd p.array row p.gleanCol vals, true)
  else (s, false)

/-- The error code of a check (R139). -/
def checkCode (c : Nat) : Nat := if c = 1 then 0x0B01 else if c = 2 then 0x0B02 else 0x0B03

/-! ### Residues and checks (R126 to R129) -/

/-- res(m × 2^e) modulo 65,535 (R126). -/
def residue (m e : Int) : Nat := ((m % 65535).toNat * 2 ^ (e % 16).toNat) % 65535
def FV.residue : FV → Nat
  | .fin n m e => Machine.residue (if n then -(m : Int) else m) e
  | _ => 0

/-- A sum of residues. -/
def resSum (l : List Nat) : Nat := l.foldl (· + ·) 0 % 65535

/-- The half of the array that a tile column lies in: columns 0 to 511 of the cells and 512 to 1,023; a quadrant is one
(R127). -/
def halfOf (p : PassF) (n : Nat) : Nat := if (if is16 p then 256 else 512) ≤ n then 1 else 0

/-- The columns of a half, of those that a pass uses or of all that its shape has: S is taken from every lane (R128). -/
def halfCols (p : PassF) (cols h : Nat) : List Nat := (List.range cols).filter (fun n => halfOf p n == h)

/-- r_w and r_e of each tile row, recorded as the shadow plane loads (R127). -/
def Tile.recorded (t : Tile) (p : PassF) : Tile :=
  let r (k h : Nat) : Nat := resSum ((halfCols p p.n h).map (fun n =>
    (passOperand p p.fmtW ((t.codes.getD k []).getD n 0) ((t.exps.getD (k / 32) []).getD n 0)).residue))
  { t with residues := (List.range p.k).map (fun k => (r k 0, r k 1)) }

/-- An input element as the checksum column takes it. -/
def rowOperand (p : PassF) (x : RowData) (k : Nat) : FV := passOperand p p.fmtX (x.codes.getD k 0) (x.exps.getD (k / 32) 0)

/-- C of a half: Σ res(x) × r over the row's elements (R127). -/
def checksumC (p : PassF) (t : Tile) (x : RowData) (h : Nat) : Nat :=
  resSum ((List.range p.k).map (fun k =>
    let r := t.residues.getD k (0, 0)
    (rowOperand p x k).residue * (if h = 0 then r.1 else r.2)))

/-- A column's lane value, 80 bits on the step 2^(e_ref − 32), of its L96 sum (R109); and the L96 sum of a lane value. -/
def laneOf (v : Nat) : Nat := v / 65536 % 2 ^ 80
def laneL96 (l : Nat) : Nat := toTwos 96 (signedOf 80 l * 65536)

/-- A lane value with the changes that an error makes in its column. -/
def laneHit (n l : Nat) (hits : List (Fin 1024 × BitVec 80)) : Nat :=
  (hits.foldl (fun a x => if x.1.val = n then a + x.2.toNat else a) l) % 2 ^ 80

/-- S of a half from the column lane values (R127, R128). -/
def checksumS (p : PassF) (lanes : List Nat) (h : Nat) : Nat :=
  resSum ((halfCols p (tileN p.shape) h).map (fun n => residue (signedOf 80 (lanes.getD n 0)) (-32)))

/-- S of a half in the 16-bit shape: the residues of the exact products, with what erroneous ones shift them by (R128). -/
def checksumS16 (p : PassF) (t : Tile) (x : RowData) (e : CheckFault) (h : Nat) : Nat :=
  resSum ((halfCols p p.n h).flatMap (fun n => (List.range p.k).map (fun k =>
      ((rowOperand p x k).mul (passOperand p p.fmtW ((t.codes.getD k []).getD n 0) 0)).residue)) ++
    (e.products.filter (fun y => y.1.val < tileN p.shape && halfOf p y.1.val == h)).map (fun y => y.2.1.val))

/-- What a failed check reports: its number, the expected and the found residue, and the column (R138). -/
structure CheckHit where
  check : Nat
  expected : Nat
  found : Nat
  column : Nat
  deriving DecidableEq, Repr

/-- The checksum column of a row: the first half whose C and S differ (R127; which half is reported is log entry 73). -/
def checksumHit (p : PassF) (t : Tile) (x : RowData) (e : CheckFault) (lanes : List Nat) : Option CheckHit :=
  ([0, 1].map (fun h =>
    (resSum (checksumC p t x h :: (e.checksum.filter (fun y => y.1.val == h)).map (fun y => y.2.val)),
     if is16 p then checksumS16 p t x e h else checksumS p lanes h))).find? (fun y => y.1 != y.2)
  |>.map (fun y => ⟨1, y.1, y.2, 0⟩)

/-- A row as an error leaves it, and the checks of R128 that find it, in the order of their cycles and codes: the sums that
would reach Glean, and each failed check. A row without an error passes every check. An A4 row with a product out of
range is exempt from the checksum column (R129). -/
def rowChecked (p : PassF) (t : Tile) (x : RowData) (err : Option CheckFault) : RowSums × List CheckHit :=
  let sums := rowSums p t x
  match err with
  | none => (sums, [])
  | some e =>
    let cols := List.range (tileN p.shape)
    if is16 p then
      let both := cols.map (fun n => ((e.products.filter (fun y => y.1.val == n)).getLast?).elim (sums.vals.getD n 0) (fun y => y.2.2.toNat))
      let first := cols.map (fun n => ((e.copies.filter (fun y => y.1.val == n)).getLast?).elim (both.getD n 0) (fun y => y.2.toNat))
      let dup := cols.find? (fun n => first.getD n 0 != both.getD n 0)
      ({ sums with vals := first.take p.n }, (checksumHit p t x e []).toList ++ (dup.map (fun n => (⟨3, 0, 0, n⟩ : CheckHit))).toList)
    else
      let into := cols.map (fun n => laneHit n (laneOf (sums.vals.getD n 0)) e.lanes)
      let lanes := cols.map (fun n => laneHit n (into.getD n 0) e.trees)
      let r255 (l : List Nat) (n : Nat) : Nat := (signedOf 80 (l.getD n 0) % 255).toNat
      let tree := cols.find? (fun n => r255 into n != r255 lanes n)
      ({ sums with vals := (lanes.map laneL96).take p.n },
       (if isA4 p && decide (0 < sums.shift) then [] else (checksumHit p t x e lanes).toList) ++
       (tree.map (fun n => (⟨2, r255 into n, r255 lanes n, n⟩ : CheckHit))).toList)

/-- PASS_SHADOW_LOAD_DONE: the plane is full when its last group has been written (R112); a load that
reads poison stops and leaves its plane empty (R257). -/
def State.loadDone (s : State) (id : Nat) : State :=
  match s.flightOf id 1 1 with
  | none => s
  | some f =>
    match f.pass? with
    | none => s
    | some q =>
      let p := { passF f.words with reuse := false, maskW := q.key.masked }
      let w := opF q.key.source
      if q.load != .loading then s
      else if s.rangesPoisoned (wRanges p w) then
        s.setFlight { f with prog := .pass { q with load := .idle, feedStopped := true } }
      else s.setFlight { f with prog := .pass { q with load := .full, tile := some ((s.readTile p w).recorded p) } }

/-- The rows of passes that began before a pass on its array are still in the pipeline (R117, R147). -/
def State.rowsAhead (s : State) (id : Nat) (p : PassF) (q : PassProg) : Bool :=
  s.passFlights.any (fun g => match g.prog with
    | .pass r => g.id != id && r.runner == q.runner && quadsMeet (passF g.words) p && r.turn < q.turn && !r.pipe.isEmpty
    | _ => false)

/-- PASS_ROW_ADD: the oldest row in the pipeline, changed by an error of the hardware if there is one, meets its checks:
it reaches Glean, or a mismatch stops it there and the array is to fail (R117, R128, R129, R130). -/
def State.addRow (s : State) (id : Nat) (mismatch : Option CheckFault) : State :=
  match s.flightOf id 1 1 with
  | none => s
  | some f =>
    match f.pass? with
    | none => s
    | some q =>
      let p := passF f.words
      let a := s.array q.runner
      match q.pipe, q.tile with
      | r :: rest, some t =>
        if !s.arrayWorks q.runner || a.fault.isSome || s.lost p.array || s.rowsAhead id p q then s
        else
          let rc := rowChecked p t r mismatch
          let sums := rc.1
          match rc.2 with
          | c :: _ =>
            (s.setArray q.runner { a with fault := some ⟨checkCode c.check, c.check, c.expected, c.found, c.column,
              r.index, if p.shape = 4 then p.quadrant else 0, p.shape, f.work⟩ }).bumpBy (furrowReg q.runner 0x148) rc.2.length
          | [] =>
            let ap := s.applyRow p (p.gleanRow + r.index) sums.vals
            let code := if is16 p then 0x0B16 else 0x0B17
            let q1 := { q with
              pipe := rest
              nextAdd := r.index + 1
              tileCounted := q.tileCounted || ap.2
              skipped := if ap.2 then q.skipped else some (q.skipped.getD code) }
            let s1 := ap.1.setFlight { f with prog := .pass q1 }
            let s2 := if ap.2 then (s1.bump (furrowReg q.runner 0x120)).bump (regAddr .glean p.array 0x110) else s1
            let s3 := if isA4 p && 0 < sums.shift then s2.bump (furrowReg q.runner 0x140) else s2
            if ap.2 then s3.reportFlight p.array f (rowTally p t (!q.tileCounted) r sums) else s3
      | _, _ => s

/-- PASS_COMPLETE: the last row has been added, or no further row will be (R148, R149, R154, R257,
R571). A pass that ended before its Field took it up completes in its place in the sequence, for a reuse_tile pass after
it to find (R150). -/
def State.completePass (s : State) (id : Nat) : State :=
  match s.flightOf id 1 1 with
  | none => s
  | some f =>
    match f.pass? with
    | none =>
      let p := passF f.words
      if f.ending.isNone || s.takeBlocked f then s
      else
        let a := s.array p.array
        (if p.m = 0 then s
         else s.setArray p.array ((a.follow p (if p.reuse then ((a.quad p.quadrant).pred).getD (passKey f.words) else passKey f.words)).loseTile p)).complete
          id (f.ending.getD 0)
    | some q =>
      let p := passF f.words
      if p.m = 0 then (if f.fired || f.ending.isSome then s.complete id (f.ending.getD 0) else s)
      else if q.pipe.isEmpty then
        if f.ending.isSome && (q.cancelled || !q.swapped) then s.complete id (f.ending.getD 0)
        else if p.m ≤ q.nextAdd then s.complete id (q.skipped.getD 0)
        else if q.feedStopped && q.fifo.isEmpty then s.complete id 0x0402
        else s
      else s

/-! ### Failure and helpers -/

/-- A pass set back to its first row not added, with no tile loaded (R130 to R132). -/
def PassProg.setBack (q : PassProg) : PassProg :=
  { q with load := .idle, tile := none, swapped := false, fifo := [], pipe := [],
           nextRead := q.nextAdd, nextEnter := q.nextAdd, feedStopped := false, turn := 0 }

/-- PG_ERR_INFO0 and PG_ERR_INFO1 of an array fault (R138). -/
def ArrayFault.info0 (x : ArrayFault) : Nat := x.row % 2 ^ 30 + (x.quadrant <<< 30) + (x.workId <<< 32)
def ArrayFault.info1 (x : ArrayFault) : Nat :=
  let residue : Bool := x.check == 1 || x.check == 2
  (if x.check == 2 || x.check == 3 then x.column % 1024 else 0) + (x.shape <<< 16) + (x.check <<< 24) +
    (if residue then ((x.found % 65536) <<< 32) + ((x.expected % 65536) <<< 48) else 0)

/-- ARRAY_FAIL: the failure of an array takes effect (R130, R138). -/
def State.failArray (s : State) (f : Nat) (x : ArrayFault) : State :=
  let a := s.array f
  if a.state == 2 then s
  else
    let s1 := { s with
      flights := s.flights.map (fun (g : Flight) =>
        match g.prog with
        | .pass q => if q.runner == f then { g with prog := .pass q.setBack } else g
        | _ => g)
      arrays := (s.arrays.map (fun (b : ArraySt) => if b.hostedBy == some f then { b with hostedBy := none } else b)).set f
        { a with state := 2, fault := none, quads := a.quads.map (fun (y : QuadSt) => { y with tile := none }) } }
    s1.raiseErr .furrow f 0 x.code x.workId x.info0 x.info1

/-- The first row of an array's current pass that has not been added, with its work_id, shape and quadrant; 0 when no
pass was running (R138, checks 4 and 5). Where several quadrants run, the pass issued first is reported (log entry 74). -/
def State.currentRow (s : State) (f : Nat) : Nat × Nat × Nat × Nat :=
  match s.passFlights.find? (fun g => match g.prog with | .pass q => q.runner == f && q.swapped | _ => false) with
  | some g =>
    let p := passF g.words
    (match g.prog with | .pass q => q.nextAdd | _ => 0, g.work, p.shape, if p.shape = 4 then p.quadrant else 0)
  | none => (0, 0, (s.array f).shape, 0)

/-- force_fail written to 1 (R130, R137). -/
def State.forceArray (s : State) (f : Nat) : State :=
  let c := s.currentRow f
  s.failArray f ⟨0x0B05, 5, 0, 0, 0, c.1, c.2.2.2, c.2.2.1, c.2.1⟩

/-- The helper choices of a failed array, first to last (R131). -/
def helperOrder (f : Nat) : List Nat :=
  ([[1, 2], [0], [3, 0], [2], [5, 6], [4], [7, 4], [6]].getD f []) ++ List.range 8

/-- HELPER_REISSUE: the Steading's Reeve cores give a failed array's work to a helper (R131 to R133,
R570), or report the next of its passes that no working array is left for. -/
def State.reissueArray (s : State) (f : Nat) : State :=
  let a := s.array f
  if a.state != 2 || a.hostedBy.isSome || s.lost f || s.coresWorking 8 = 0 then s
  else
    match (helperOrder f).find? (fun h => h != f && s.arrayWorks h) with
    | none =>
      match s.passFlights.find? (fun g => (passF g.words).array == f && decide (a.held ≤ g.id)) with
      | some g => (s.setArray f { a with held := g.id + 1 }).raiseErr .furrow f 2 0x0B06 g.work 0 0
      | none => s
    | some h =>
      let taken := s.passFlights.filter (fun g => (passF g.words).array == f && g.prog != .none)
      let s1 := { s with
        flights := s.flights.map (fun (g : Flight) =>
          match g.prog with
          | .pass q =>
            if (passF g.words).array == f then { g with prog := Prog.pass { q.setBack with runner := h } } else g
          | _ => g)
        arrays := s.arrays.set f { a with hostedBy := some h } }
      (taken.foldl (fun t g => t.giveUpLoads h (passF g.words)) s1).raise .furrow h 1 0 0

/-- A block reset of a FURROW page: no predecessor, both planes empty (R150). -/
def State.resetArrayBlock (s : State) (f : Nat) : State :=
  let a := s.array f
  s.setArray f { a with quads := a.quads.map (fun (y : QuadSt) => { y with tile := none, pred := none, predGone := false }) }

/-- The array has a pass taken up and not completed: PG_STATUS.busy (R135). -/
def State.arrayBusy (s : State) (f : Nat) : Bool :=
  s.passFlights.any (fun g => match g.prog with
    | .pass q => (passF g.words).array == f || q.runner == f
    | _ => false)

/-- The footprint of a PASS in memory. -/
def passFootprint (d : List Word512) : List (Nat × Nat) :=
  xRanges (passF d) (opF (dword d 2)) ++ wRanges (passF d) (opF (dword d 3))

end Sys2Proof.Machine
end

