-- ==== Sys2Proof/Machine/Glean.lean ====
section
/-!
DEFINITION. Glean descriptors: their checks (R184), readout with the fused epilogue (R179 to R181),
preload and clear (R182), raw copies (R183), reduction across Fields on the fixed tree (R171 to R175),
and ECC errors (R162, R187).
-/
namespace Sys2Proof.Machine

def gleanReg (f off : Nat) : Nat := regAddr .glean f off

/-- The Fields whose Glean a descriptor occupies: the named one, or every member and root (R174). -/
def gleanFields (d : List Word512) : List Nat :=
  let g := gleanF d
  if hOpcode (dword d 0) = 6 then membersOf g ++ (rootsOf g).filter (fun f => !(membersOf g).contains f) else [g.field]

/-- The Glean descriptors in flight, in order of issue. -/
def State.gleanFlights (s : State) : List Flight := s.flights.filter (fun f => f.cls == 2)

/-- The region holds no accumulator: the descriptor is a no-op that completes (R178). -/
def regionEmpty (g : GleanF) : Bool := g.rows == 0 || g.cols == 0

/-- A descriptor is not refused for its output format (R184 check 3). -/
def outFmtOk (c : Nat) : Bool := (decide (1 ≤ c) && decide (c ≤ 6)) || c == 10 || c == 11
def srcFmtOk (c : Nat) : Bool := (decide (2 ≤ c) && decide (c ≤ 6)) || c == 10 || c == 11

/-- The bytes a Glean descriptor addresses (R179, R183). -/
def gleanFootprint (d : List Word512) : List (Nat × Nat) :=
  let g := gleanF d
  if regionEmpty g then []
  else match hOpcode (dword d 0) with
    | 1 => readoutOut g (opF (dword d 2)) ++ readoutEpi g (opF (dword d 3))
    | 2 => preloadSrc g (opF (dword d 2))
    | 4 => rawRanges g
    | 5 => rawRanges g
    | _ => []

/-- Check 2 of R184: unused and reserved fields. -/
def gleanReserved (d : List Word512) : Bool :=
  let w := dword d 1
  let g := gleanF d
  let op := hOpcode (dword d 0)
  let z (hi lo : Nat) : Bool := fld w hi lo != 0
  let region := z 63 59 || z 47 42 || z 19 19 || z 7 4
  let o := opF (dword d 2)
  let e := opF (dword d 3)
  let f := bitsOf g.spec 3 0
  region || (match op with
  | 1 =>
    z 511 288 || z 191 130 || z 127 122 || z 111 106 || z 95 90 || bitsOf g.spec 15 7 != 0 ||
    g.maskPred == 3 || g.epiBcast == 3 || decide (2 < g.epiOp) || opReserved (dword d 2) ||
    opReserved (dword d 3) || fld (dword d 3) 351 96 != 0 ||
    (g.maskPred == 0 && (o.maskAddr != 0 || o.maskStride != 0)) ||
    (f != 1 && (o.expAddr != 0 || o.expStride != 0)) ||
    (g.epiOp == 0 && (dword d 3 != 0 || g.epiS != 0 || g.epiBcast != 0 || g.epiFmt != 0)) ||
    (g.epiBcast == 1 && e.stride != 0)
  | 2 =>
    z 511 288 || z 191 128 || z 127 104 || z 99 90 || z 79 77 || opReserved (dword d 2) || fld (dword d 2) 351 96 != 0
  | 3 => z 511 75
  | 4 => z 511 304 || z 255 224 || z 191 176 || z 127 64
  | 5 => z 511 304 || z 255 224 || z 191 176 || z 127 64
  | _ => z 511 74 || g.field != 0 || g.root == 3 || (g.root != 0 && (subtree g.members).length != 8))

/-- Checks 1 to 11 of R184, in order; 0 where all pass. -/
def State.gleanParse (s : State) (d : List Word512) : Nat :=
  let g := gleanF d
  let op := hOpcode (dword d 0)
  let o := opF (dword d 2)
  let e := opF (dword d 3)
  let f := bitsOf g.spec 3 0
  let al (n v : Nat) : Bool := v % n != 0
  let fp := gleanFootprint d
  let conv := op = 1 || op = 2
  if 8 ≤ g.field then 0x0B20
  else if op ≠ 6 && s.lost g.field then 0x0511
  else if gleanReserved d then 0x0103
  else if (op = 1 && (!outFmtOk f || (g.epiOp ≠ 0 && !(2 ≤ g.epiFmt && g.epiFmt ≤ 6)))) || (op = 2 && !srcFmtOk g.epiFmt) then 0x0301
  else if (op = 1 && bitsOf g.spec 5 4 = 3) || (op = 2 && g.rnd = 3) then 0x0302
  else if op = 1 && f = 1 && (al 32 g.cols || al 32 g.tCol0) then 0x0304
  else if 2048 < g.row0 + g.rows || 1024 < g.col0 + g.cols || (conv && (g.tCols < g.tCol0 + g.cols || allOnes 32 g.tCols)) ||
      (op = 6 && g.members = 0) || ((op = 4 || op = 5) && g.dataStride < 12288) || allOnes 12 g.rows || allOnes 11 g.cols then 0x0201
  else if (op = 4 || op = 5) && !regionEmpty g && (g.col0 ≠ 0 || g.cols ≠ 1024) then 0x0B22
  else if !s.rangesMapped fp then 0x0202
  else if !s.rangesInTilth g.field fp then 0x0B21
  else if (op = 1 && (al 16 o.addr || al 16 o.stride || al 8 o.expAddr || al 8 o.expStride || al 8 o.maskAddr || al 8 o.maskStride ||
        (g.epiOp ≠ 0 && (al (fmtBytes g.epiFmt) e.addr || al (fmtBytes g.epiFmt) e.stride)))) ||
      (op = 2 && (al (fmtBytes g.epiFmt) o.addr || al (fmtBytes g.epiFmt) o.stride)) ||
      ((op = 4 || op = 5) && (al 64 g.dataAddr || al 64 g.dataStride || al 64 g.metaAddr)) then 0x0B23
  else if op = 6 && (gleanFields d).any s.lost then 0x0B25
  else 0

/-! ### Running -/

/-- The progress of a Glean descriptor. -/
def Flight.glean? (f : Flight) : GleanProg :=
  match f.prog with
  | .glean g => g
  | _ => ⟨0, false, false, false, []⟩

/-- A Glean descriptor may act: its gate has fired, its Fields are in service and enabled to take it,
and every Glean descriptor issued before it in those Fields has completed (R174, R178). A REDUCE whose Field was lost
before it started runs, so as to be refused (R175). -/
def State.gleanReady (s : State) (f : Flight) : Bool :=
  let fs := gleanFields f.words
  f.fired && f.ending.isNone && fs.all (fun x => if s.lost x then f.op = 6 else f.started || s.enabled .glean x) &&
  !(s.gleanFlights.takeWhile (fun g => g.id != f.id)).any (fun g => (gleanFields g.words).any fs.contains)

/-- A Glean flight's progress stored. -/
def State.setGlean (s : State) (f : Flight) (g : GleanProg) : State := s.setFlight { f with started := true, prog := .glean g }

/-- The stochastic draw of one element (R103). -/
def State.drawFor (s : State) (tag step index : Nat) : BitVec 64 :=
  srDraw (BitVec.ofNat 64 (s.reg (regAddr .almanac 0 0x130))) tag step index

/-- Conversion of a row of exact values into codes: block by block for A4, element by element
otherwise. Answers the A4 block exponent bytes, the codes and the outcomes (R98, R100). -/
def convertRow (sp : Spec) : Nat → List (FV × BitVec 64) → List Nat × List Nat × List Outc
  | 0, _ => ([], [], [])
  | n + 1, l =>
    if l.isEmpty then ([], [], [])
    else if sp.fmt == .a4 then
      let b := convertA4Block ((l.take 32).map (·.1)) sp ((l.take 32).map (·.2))
      let r := convertRow sp n (l.drop 32)
      (b.1 :: r.1, b.2.1 ++ r.2.1, b.2.2 ++ r.2.2)
    else
      let cs := l.map (fun x => convert x.1 sp x.2)
      ([], cs.map (·.1), cs.map (·.2))

/-- The bytes of a row of codes of a format (R82, R87). -/
def packCodes (f : Fmt) (codes : List Nat) : List Byte :=
  if f == .a4 then (List.range (ceilDiv codes.length 2)).map (fun i =>
    BitVec.ofNat 8 (codes.getD (2 * i) 0 % 16 + 16 * (codes.getD (2 * i + 1) 0 % 16)))
  else codes.flatMap (leBytes f.bytes)

/-- The bytes of a row of mask bits; bits beyond the row in the last byte are 0 (R179). -/
def packBits (bs : List Bool) : List Byte :=
  (List.range (ceilDiv bs.length 8)).map (fun i =>
    BitVec.ofNat 8 ((List.range 8).foldl (fun a j => a + (b2n (bs.getD (8 * i + j) false) <<< j)) 0))

/-- The address of the epilogue operand of (r, c) (R179). -/
def epiElemAddr (g : GleanF) (e : OpF) (r c : Nat) : Nat :=
  let b := fmtBytes g.epiFmt
  if g.epiBcast = 0 then e.addr + r * e.stride + c * b
  else if g.epiBcast = 1 then e.addr + c * b
  else e.addr + r * e.stride

/-- Output and operand are one tensor updated in place (R181). -/
def epiInPlace (g : GleanF) (o e : OpF) : Bool :=
  g.epiBcast == 0 && o.addr == e.addr && o.stride == e.stride && bitsOf g.spec 3 0 == g.epiFmt

/-- The exact epilogue y of an accumulator and an operand (R180). -/
def epiValue (op : Nat) (a b : FV) : FV := if op = 1 then a.add b else if op = 2 then a.mul b else a

/-- The mask predicate on y (R178, R180). -/
def maskOf (pred : Nat) (y : FV) : Bool :=
  match y with
  | .nan => false
  | y => if pred = 1 then !y.isNeg && !y.isZero else if pred = 2 then !y.isZero else false

/-- The operand code of an element: its bytes as they are or, by a free choice for each element, as they were before
the output overwrote them (R181; log entry 9). -/
def State.epiCode (s : State) (g : GleanF) (e : OpF) (olds : List (Nat × Byte)) (r c : Nat) : Nat :=
  let a := epiElemAddr g e r c
  let b := fmtBytes g.epiFmt
  if bitOf (Config.freeNat (s.freeCtr + c)) 0 then
    leNat ((List.range b).map (fun i => ((olds.find? (fun x => x.1 == a + i)).map (·.2)).getD (s.byte (a + i))))
  else s.num a b

/-- The bytes that READOUT's row r is about to overwrite are kept, unless no later element of the operand can meet them
or the update is in place (R181). -/
def State.keepOlds (s : State) (g : GleanF) (o e : OpF) (olds : List (Nat × Byte)) (r rowLen : Nat) : List (Nat × Byte) :=
  let a := o.addr + r * o.stride
  if g.epiOp = 0 || epiInPlace g o e then olds
  else olds ++ ((List.range rowLen).filter (fun i => !olds.any (fun x => x.1 == a + i))).map (fun i => (a + i, s.byte (a + i)))

/-- The bytes that the epilogue operand of one region row occupies (R178). -/
def epiRowRanges (g : GleanF) (e : OpF) (r : Nat) : List (Nat × Nat) :=
  if g.epiOp = 0 then []
  else if g.epiBcast = 2 then [(e.addr + r * e.stride, fmtBytes g.epiFmt)]
  else [(epiElemAddr g e r 0, g.cols * fmtBytes g.epiFmt)]

/-- READOUT of the next region row (R179 to R181, R257). -/
def State.readoutRow (s : State) (id : Nat) : State :=
  match s.flightOf id 2 1 with
  | none => s
  | some f =>
    let g := gleanF f.words
    let o := opF (f.w 2)
    let e := opF (f.w 3)
    let pg := f.glean?
    if !s.gleanReady f || regionEmpty g || g.rows ≤ pg.row || pg.memPoison then s
    else
      let r := pg.row
      if s.rangesPoisoned (epiRowRanges g e r) then s.setGlean f { pg with memPoison := true }
      else
        match Spec.ofBits g.spec g.s 0 with
        | none => s
        | some sp =>
          let row := g.row0 + r
          let bad := mPoison (s.gmeta g.field row)
          let y (c : Nat) : FV :=
            if bad then .nan
            else epiValue g.epiOp (s.accValue g.field row (g.col0 + c))
              ((decodeElem ((Fmt.ofCode g.epiFmt).getD .fp32) 0 (if g.epiOp = 0 then 0 else s.epiCode g e pg.olds r c)).scale g.epiS)
          let ys := (List.range g.cols).map y
          let draws := (List.range g.cols).map (fun c =>
            s.drawFor (hTag f.hdr) f.step ((g.tRow0 + r) * g.tCols + g.tCol0 + c))
          let cv := convertRow sp (g.cols + 1) (ys.zip draws)
          let s1 := s.store (o.addr + r * o.stride) (packCodes sp.fmt cv.2.1)
          let s2 := if sp.fmt == .a4 then s1.store (o.expAddr + r * o.expStride) (cv.1.map (BitVec.ofNat 8)) else s1
          let s3 := if g.maskPred = 0 then s2
            else s2.store (o.maskAddr + r * o.maskStride) (packBits (ys.map (maskOf g.maskPred)))
          let t := Tally.sum ((List.range g.cols).map (fun c =>
            Tally.ofElem (ys.getD c FV.zero) (cv.2.2.getD c {}) (storedZero sp.fmt (cv.2.1.getD c 0)) g.s))
          let s4 := (s3.reportFlight g.field f t).bumpBy (gleanReg g.field 0x118) g.cols
          let s5 := { s4 with freeCtr := s4.freeCtr + g.cols }
          s5.setGlean f { pg with
            row := r + 1
            poisonRow := pg.poisonRow || bad
            olds := s.keepOlds g o e pg.olds r (packCodes sp.fmt cv.2.1).length }

/-- PRELOAD of the next region row (R182); a poisoned source element reads as NaN (R257). -/
def State.preloadRow (s : State) (id : Nat) : State :=
  match s.flightOf id 2 2 with
  | none => s
  | some f =>
    let g := gleanF f.words
    let o := opF (f.w 2)
    let pg := f.glean?
    if !s.gleanReady f || regionEmpty g || g.rows ≤ pg.row then s
    else
      let r := pg.row
      let b := fmtBytes g.epiFmt
      let src := (Fmt.ofCode g.epiFmt).getD .fp32
      let sp : Spec := ⟨.l96, (Rnd.ofCode g.rnd).getD .rne, true, 0, g.eRef⟩
      let v (c : Nat) : FV :=
        let a := o.addr + r * o.stride + c * b
        if s.poisonedIn a b then .nan else (decodeElem src 0 (s.num a b)).scale g.s
      let vs := (List.range g.cols).map v
      let cs := (List.range g.cols).map (fun c =>
        convert (vs.getD c FV.zero) sp (s.drawFor (hTag f.hdr) f.step ((g.tRow0 + r) * g.tCols + g.tCol0 + c)))
      let t := Tally.sum ((List.range g.cols).map (fun c =>
        Tally.ofElem (vs.getD c FV.zero) (cs.getD c (0, {})).2 ((cs.getD c (0, {})).1 == 0) 0))
      let s1 := s.rowInit g.field (g.row0 + r) g.col0 g.eRef (cs.map (·.1))
      ((s1.reportFlight g.field f t).bumpBy (gleanReg g.field 0x120) g.cols).setGlean f { pg with row := r + 1 }

/-- CLEAR of the next region row (R182). -/
def State.clearRow (s : State) (id : Nat) : State :=
  match s.flightOf id 2 3 with
  | none => s
  | some f =>
    let g := gleanF f.words
    let pg := f.glean?
    if !s.gleanReady f || regionEmpty g || g.rows ≤ pg.row then s
    else
      ((s.rowInit g.field (g.row0 + pg.row) g.col0 g.eRef (List.replicate g.cols 0)).bumpBy (gleanReg g.field 0x120) g.cols).setGlean f
        { pg with row := pg.row + 1 }

/-- SAVE_RAW of the next region row (R183). -/
def State.saveRow (s : State) (id : Nat) : State :=
  match s.flightOf id 2 4 with
  | none => s
  | some f =>
    let g := gleanF f.words
    let pg := f.glean?
    if !s.gleanReady f || regionEmpty g || g.rows ≤ pg.row then s
    else
      let row := g.row0 + pg.row
      let s1 := s.store (g.dataAddr + pg.row * g.dataStride) (s.bytes (accAddr g.field row 0) 12288)
      let s2 := s1.store (g.metaAddr + pg.row * 32) (leBytes 32 (s.gmeta g.field row))
      (s2.bumpBy (gleanReg g.field 0x118) 1024).setGlean f { pg with row := pg.row + 1 }

/-- Metadata that LOAD_RAW accepts (R183). -/
def metaOk (m : Nat) : Bool :=
  bitsOf m 255 192 == 0 && bitsOf m 15 2 == 0 &&
  (!mF32 m || (bitsOf m 191 50 == 0 && mLeaves m != 0 && decide (mFill m ≤ 64) && decide (mA m + mN m ≤ 1024) && decide (mN m ≤ 512)))

/-- LOAD_RAW of the next region row, every row's metadata checked before the first (R183, R184 check
12). -/
def State.loadRow (s : State) (id : Nat) : State :=
  match s.flightOf id 2 5 with
  | none => s
  | some f =>
    let g := gleanF f.words
    let pg := f.glean?
    if !s.gleanReady f || regionEmpty g || g.rows ≤ pg.row || pg.memPoison then s
    else
      let mt (r : Nat) := s.num (g.metaAddr + r * 32) 32
      if !pg.checked && s.rangesPoisoned [(g.metaAddr, g.rows * 32)] then s.setGlean f { pg with memPoison := true }
      else if !pg.checked && (List.range g.rows).any (fun r => !metaOk (mt r)) then s.refuseFlight id 0x0B24
      else
        let src := g.dataAddr + pg.row * g.dataStride
        if s.rangesPoisoned [(src, 12288), (g.metaAddr + pg.row * 32, 32)] then s.setGlean f { pg with checked := true, memPoison := true }
        else
          let row := g.row0 + pg.row
          let s1 := (s.putBytes (accAddr g.field row 0) (s.bytes src 12288)).setGmeta g.field row (mt pg.row)
          (s1.bumpBy (gleanReg g.field 0x120) 1024).setGlean f { pg with row := pg.row + 1, checked := true }

/-! ### REDUCE -/

/-- The region rows of the members agree (R173). -/
def State.reduceOk (s : State) (g : GleanF) : Bool :=
  let ms := membersOf g
  let m0 := ms.headD 0
  (List.range g.rows).all (fun i =>
    let r := g.row0 + i
    let a := s.gmeta m0 r
    ms.all (fun f =>
      let b := s.gmeta f r
      mF32 a == mF32 b &&
      (if mF32 a then mA a == mA b && mN a == mN b && mLeaves a == mLeaves b
       else (segsOf g.col0 g.cols).all (fun sg => mEref a sg == mEref b sg))))

/-- Values combined on the fixed tree: n levels above leaf `lo`; a child that holds no member passes
its sibling's value up (R171). -/
def treeCombine (add : Nat → Nat → Nat) (val : Nat → Option Nat) : Nat → Nat → Option Nat
  | 0, lo => val lo
  | n + 1, lo =>
    match treeCombine add val n lo, treeCombine add val n (lo + 2 ^ n) with
    | some a, some b => some (add a b)
    | some a, none => some a
    | none, b => b

/-- Levels of a subtree (R23). -/
def treeLevels (n : Nat) : Nat := if n = 8 then 3 else if n = 4 then 2 else 1

/-- The edges of the fixed tree below the root adder: sender and receiver, and the Fields whose values
the sender carries (R23). -/
def treeEdges : List (Nat × Nat × List Nat) :=
  [(1, 0, [1]), (3, 2, [3]), (5, 4, [5]), (7, 6, [7]), (2, 0, [2, 3]), (6, 4, [6, 7])]

/-- The TREE bytes of one reduced row counted where they are sent and received (R175, R186). -/
def State.treeBytes (s : State) (g : GleanF) (n : Nat) : State :=
  let tree := subtree g.members
  let has (l : List Nat) := l.any (fun f => (membersOf g).contains f)
  let s1 := treeEdges.foldl (fun s e =>
    if tree.contains e.1 && tree.contains e.2.1 && has e.2.2 then
      (s.bumpBy (gleanReg e.1 0x128) n).bumpBy (gleanReg e.2.1 0x130) n else s) s
  if tree.length = 8 then
    let s2 := if has [0, 1, 2, 3] then s1.bumpBy (gleanReg 0 0x128) n else s1
    let s3 := if has [4, 5, 6, 7] then s2.bumpBy (gleanReg 4 0x128) n else s2
    (rootsOf g).foldl (fun s f => s.bumpBy (gleanReg f 0x130) n) s3
  else s1

/-- One row of one root Field written with its reduced value (R172). A root row is poisoned if any member's row is; a
root that is no member keeps its own poison, since a REDUCE is not among what clears it (R162). -/
def State.reduceInto (s0 s : State) (g : GleanF) (root row : Nat) : State :=
  let ms := membersOf g
  let tree := subtree g.members
  let lv := treeLevels tree.length
  let lo := tree.headD 0
  let m0 := s0.gmeta (ms.headD 0) row
  let bad := ms.any (fun f => mPoison (s0.gmeta f row))
  let member (f : Nat) := ms.contains f
  if mF32 m0 then
    let val (c f : Nat) : Option Nat :=
      if member f then some ((s0.pend f row c (mFill (s0.gmeta f row))).value) else none
    let vals := (List.range (mN m0)).map (fun i => (treeCombine addBits (val (mA m0 + i)) lv lo).getD 0)
    ((s.zeroRow root row).setGmeta root row (mOfF32 (bad || mPoison (s.gmeta root row)) (mA m0) (mN m0) (mLeaves m0) 64)).setAccs root row (mA m0) vals
  else
    let val (c f : Nat) : Option Nat := if member f then some (s0.acc f row c) else none
    let add (a b : Nat) := (a + b) % 2 ^ 96
    let vals := (List.range g.cols).map (fun i => (treeCombine add (val (g.col0 + i)) lv lo).getD 0)
    let s1 := s.toL96Row root row
    let m := (segsOf g.col0 g.cols).foldl (fun m sg => mSetEref m sg (mEref m0 sg)) (s1.gmeta root row)
    (s1.setGmeta root row (mSetPoison m (bad || mPoison m))).setAccs root row g.col0 vals

/-- REDUCE of the next region row, the metadata of every row checked before the first (R171 to R175). -/
def State.reduceRow (s : State) (id : Nat) : State :=
  match s.flightOf id 2 6 with
  | none => s
  | some f =>
    let g := gleanF f.words
    let pg := f.glean?
    if !s.gleanReady f || regionEmpty g || g.rows ≤ pg.row then s
    else if !pg.checked && (gleanFields f.words).any s.lost then s.refuseFlight id 0x0B25
    else if !pg.checked && !s.reduceOk g then s.refuseFlight id 0x0B26
    else
      let row := g.row0 + pg.row
      let m0 := s.gmeta ((membersOf g).headD 0) row
      let bad := (membersOf g).any (fun x => mPoison (s.gmeta x row))
      let n := if mF32 m0 then 4 * mN m0 else 12 * g.cols
      let cols := if mF32 m0 then mN m0 else g.cols
      let s1 := (rootsOf g).foldl (fun t r => (s.reduceInto t g r row).bumpBy (gleanReg r 0x120) cols) s
      let s2 := (membersOf g).foldl (fun t r => t.bumpBy (gleanReg r 0x118) cols) s1
      (s2.treeBytes g n).setGlean f { pg with row := pg.row + 1, checked := true, poisonRow := pg.poisonRow || bad }

/-- GLEAN_DESCRIPTOR_COMPLETE: every row has been done, or the descriptor has ended early (R174, R180,
R257). -/
def State.completeGlean (s : State) (id : Nat) : State :=
  match s.flight id with
  | none => s
  | some f =>
    let g := gleanF f.words
    let pg := f.glean?
    if f.cls != 2 then s
    else if f.ending.isSome then s.complete id (f.ending.getD 0)
    else if !s.gleanReady f then s
    else if pg.memPoison then s.complete id 0x0402
    else if regionEmpty g || g.rows ≤ pg.row then s.complete id (if pg.poisonRow then 0x0B28 else 0)
    else s

/-! ### ECC (R162, R187) -/

/-- An ECC error in a Glean row: corrected, or uncorrectable and the row poisoned. -/
def State.gleanEcc (s : State) (f row col : Nat) (access workId : Nat) (corrected : Bool) : State :=
  if s.lost f then s
  else if corrected then s.bump (gleanReg f 0x140)
  else
    let s1 := (s.setGmeta f row (mSetPoison (s.gmeta f row) true)).bump (gleanReg f 0x148)
    s1.raiseErr .glean f 0 0x0B27 workId ((workId <<< 32) + (row <<< 16) + (if access = 4 then 0 else col)) access

/-- A Glean descriptor of the Field is in flight: PG_STATUS.busy (R164). -/
def State.gleanBusy (s : State) (f : Nat) : Bool :=
  s.gleanFlights.any (fun g => (gleanFields g.words).contains f && g.fired) ||
  s.passFlights.any (fun g => match g.prog with | .pass q => (passF g.words).array == f && decide (0 < q.nextEnter) | _ => false)

/-- Descriptors queued in a Field's Glean, and the opcode that runs there (R186). -/
def State.gleanQueued (s : State) (f : Nat) : Nat :=
  (s.gleanFlights.filter (fun g => (gleanFields g.words).contains f && !g.started)).length
def State.gleanRunning (s : State) (f : Nat) : Nat :=
  ((s.gleanFlights.find? (fun g => (gleanFields g.words).contains f && g.started)).map Flight.op).getD 0

end Sys2Proof.Machine
end

