-- ==== Sys2Proof/Machine/Trans.lean ====
section
/-!
DEFINITION. The operations of Harrow that the spec bounds in accuracy (R202, R203): their exact results
to many bits, and the bound within which the free result of each must lie. Numbers here are integers
that stand for themselves times 2^-400.
-/
namespace Sys2Proof.Machine

/-- The fraction bits of the numbers of this file. -/
def fxBits : Nat := 400

/-- 1 as a number of this file. -/
def fxOne : Int := 2 ^ fxBits

/-- The product of two numbers of this file, rounded down. -/
def fxMul (a b : Int) : Int := (a * b) / fxOne

/-- The quotient of two numbers of this file, rounded down. -/
def fxDiv (a b : Int) : Int := (a * fxOne) / b

/-- The square root of a number of this file that is not negative. -/
def fxSqrt (a : Int) : Int := (isqrt (a.toNat <<< fxBits) : Nat)

/-- An exact finite value as a number of this file: FP32 values are whole multiples of 2^-149. -/
def fxOf (neg : Bool) (m : Nat) (e : Int) : Int :=
  let x : Int := (shiftInt m (e + (fxBits : Int)) : Nat)
  if neg then -x else x

/-- The sum of a series whose term n + 1 is `next n t` for its term t, from term n on, until the fuel ends or a
term is zero. -/
def fxSeries (next : Nat → Int → Int) : Nat → Nat → Int → Int → Int
  | 0, _, _, acc => acc
  | fuel + 1, n, t, acc => if t = 0 then acc else fxSeries next fuel (n + 1) (next n t) (acc + t)

/-- The sum of c × z^(2n+1) / (2n+1), n from 0 on, with z² multiplied by the sign: atanh (+1) or atan (−1). -/
def fxOddSeries (sgn z : Int) : Nat → Nat → Int → Int → Int
  | 0, _, _, acc => acc
  | fuel + 1, n, p, acc =>
    if p = 0 then acc else fxOddSeries sgn z fuel (n + 1) (sgn * fxMul p (fxMul z z)) (acc + p / ((2 * n + 1 : Nat) : Int))

/-- ln 2 = 2 atanh (1/3). -/
def fxLn2 : Int := 2 * fxOddSeries 1 (fxOne / 3) 200 0 (fxOne / 3) 0

/-- π = 16 atan (1/5) − 4 atan (1/239). -/
def fxPi : Int := 16 * fxOddSeries (-1) (fxOne / 5) 200 0 (fxOne / 5) 0 - 4 * fxOddSeries (-1) (fxOne / 239) 100 0 (fxOne / 239) 0

/-- e^x for x of at most 256 in magnitude: 2^n × the series of e^(x − n ln 2). -/
def fxExp (x : Int) : Int :=
  let l := fxLn2
  let n := x / l
  let r := x - n * l
  let y := fxSeries (fun k t => fxMul t r / ((k + 1 : Nat) : Int)) 200 0 fxOne 0
  if 0 ≤ n then y * 2 ^ n.toNat else y / 2 ^ (-n).toNat

/-- A number held to −256 to 256: beyond it every result of e^x is above or below every FP32 value. -/
def fxHold (x : Int) : Int := max (-(256 * fxOne)) (min (256 * fxOne) x)

/-- ln of a magnitude m × 2^e that is not zero: e' ln 2 + 2 atanh ((y − 1) / (y + 1)) for y in [1, 2). -/
def fxLog (m : Nat) (e : Int) : Int :=
  let y : Int := (shiftInt m ((fxBits : Int) - (Nat.log2 m : Int)) : Nat)
  let z := fxDiv (y - fxOne) (y + fxOne)
  ((Nat.log2 m : Int) + e) * fxLn2 + 2 * fxOddSeries 1 z 250 0 z 0

/-- erf x for x from 0 to 12 (above it 1 to every bit that counts): 2/√π × e^(−x²) × the sum of 2^n x^(2n+1) / (2n+1)!!. -/
def fxErf (x : Int) : Int :=
  if 12 * fxOne < x then fxOne
  else
    let q := fxMul x x
    let y := fxSeries (fun k t => fxMul t (2 * q) / ((2 * k + 3 : Nat) : Int)) 1500 0 x 0
    fxDiv (2 * fxMul (fxExp (-q)) y) (fxSqrt fxPi)

/-- sin x (odd = true) or cos x for x in [0, π/2). -/
def fxSinSeries (odd : Bool) (x : Int) : Int :=
  let q := fxMul x x
  let o := b2n odd
  fxSeries (fun k t => -(fxMul t q) / (((2 * k + 1 + o) * (2 * k + 2 + o) : Nat) : Int)) 150 0 (if odd then x else fxOne) 0

/-- sin x, or cos x as sin of one quadrant further, with exact range reduction (R203). -/
def fxSin (cos : Bool) (x : Int) : Int :=
  let h := fxPi / 2
  let k := x / h
  let r := x - k * h
  let quad := (k + (b2n cos : Int)) % 4
  let y := fxSinSeries (quad = 0 || quad = 2) r
  if quad = 0 || quad = 1 then y else -y

/-- 1 / (1 + e^−x). -/
def fxSigmoid (x : Int) : Int :=
  let q := fxExp (-(fxHold x).natAbs)
  if 0 ≤ x then fxDiv fxOne (fxOne + q) else fxDiv q (fxOne + q)

/-- tanh x. -/
def fxTanh (x : Int) : Int :=
  let q := fxExp (fxHold (-(2 * (x.natAbs : Int))))
  let t := fxDiv (fxOne - q) (fxOne + q)
  if 0 ≤ x then t else -t

/-- The result of a bounded operation (R201) on a finite operand other than zero, to far more bits than the bound of R203
needs. An operand below 0 of LOG, LOG2 and RSQRT does not come here. -/
def fxResult (op : Nat) (neg : Bool) (m : Nat) (e : Int) : Int :=
  let x := fxOf neg m e
  match op with
  | 0x0B => fxExp (fxHold x)
  | 0x0C => fxExp (fxMul (fxHold x) fxLn2)
  | 0x0D => fxLog m e
  | 0x0E => fxDiv (fxLog m e) fxLn2
  | 0x11 => fxDiv fxOne (fxSqrt x)
  | 0x12 => fxTanh x
  | 0x13 => fxSigmoid x
  | 0x14 => if neg then -fxErf (-x) else fxErf x
  | 0x15 =>
    let g := fxErf (fxDiv x.natAbs (fxSqrt (2 * fxOne)))
    fxMul x (if neg then fxOne - g else fxOne + g) / 2
  | 0x16 => fxMul x (fxSigmoid x)
  | 0x17 => fxSin false x
  | _ => fxSin true x

/-- The error bound of an operation in ulps (R203). -/
def ulpBound (op : Nat) : Nat :=
  match op with
  | 0x0C => 1
  | 0x0E => 1
  | 0x11 => 1
  | 0x15 => 3
  | 0x16 => 3
  | _ => 2

/-- One FP32 ulp at a result, on the subnormal grid below the smallest normal (R203). -/
def fxUlp (v : Int) : Int :=
  let top : Int := (Nat.log2 v.natAbs : Int) - (fxBits : Int)
  2 ^ ((max top (-126) - 23) + (fxBits : Int)).toNat

/-- True when an FP32 value lies within k ulps of a result; an infinity where a value within the bound rounds to one (R110). -/
def withinUlps (v : Int) (k : Nat) (c : FV) : Bool :=
  let b := (k : Int) * fxUlp v
  match c with
  | .nan => false
  | .inf n => decide ((2 ^ 128 - 2 ^ 103) * fxOne ≤ (if n then -v else v) + b)
  | .fin n m e => decide ((fxOf n m e - v).natAbs ≤ b.toNat)

/-- The FP32 value of a bounded operation: any value within the bound of R203, the operation and the operand alone
deciding which. The choice is a constant with no body; where it falls outside the bound the result is the nearest value. -/
def boundedF32 (op : Nat) (neg : Bool) (m : Nat) (e : Int) : FV :=
  let v := fxResult op neg m e
  let c := f32 (BitVec.ofNat 32 (Config.transcendental op (FV.fin neg m e).bitsF32.toNat))
  if withinUlps v (ulpBound op) c then c else (FV.ofInt v (-(fxBits : Int))).toF32

end Sys2Proof.Machine
end

