-- ==== Sys2Proof/Machine/Harrow.lean ====
section
/-!
DEFINITION. Harrow engines: the descriptors and their checks (R194 to R200), units and threads (R188 to
R193), the element-wise operations (R201 to R203), row reductions (R204, R205), SOFTMAX (R206), NORM
(R207), OPTIM (R208 to R210), stores (R211), engine failure and helpers (R212 to R217).
-/
namespace Sys2Proof.Machine

def harrowReg (e off : Nat) : Nat := regAddr .harrow e off

/-! ### Descriptor fields (R194, R195) -/

/-- An operand slot; all zero when absent. -/
structure Slot where
  addr : Nat
  stride : Nat
  fmt : Nat
  scale : Int
  raw : Nat
  deriving DecidableEq, Repr

/-- Slot i of a descriptor: 0 to 4 in word 2, 5 to 8 in word 3. -/
def slotOf (d : List Word512) (i : Nat) : Slot :=
  let w := if i < 5 then dword d 2 else dword d 3
  let b := 96 * (if i < 5 then i else i - 5)
  ⟨fld w (b + 47) b, fld w (b + 79) (b + 48), fld w (b + 83) (b + 80), signedOf 10 (fld w (b + 93) (b + 84)), fld w (b + 95) b⟩

def Slot.present (s : Slot) : Bool := s.raw != 0

/-- The fields of Harrow word 1 (R194). -/
structure HarrowF where
  field : Nat
  engine : Nat
  either : Bool
  op : Nat
  rows : Nat
  cols : Nat
  maskPred : Nat
  bPerRow : Bool
  cPerRow : Bool
  tCol0 : Nat
  tRow0 : Nat
  tCols : Nat
  /-- OPTIM: t_rows and hdr_addr of word 3 -/
  tRows : Nat
  hdrAddr : Nat
  deriving DecidableEq, Repr

def harrowF (d : List Word512) : HarrowF :=
  let w := dword d 1
  ⟨fld w 59 56, fld w 60 60, bitOf w.toNat 61, fld w 47 40, fld w 15 0, fld w 39 16, fld w 49 48,
   bitOf w.toNat 50, bitOf w.toNat 51, fld w 511 480, fld w 479 448, fld w 447 416,
   fld (dword d 3) 479 448, fld (dword d 3) 431 384⟩

/-- The FP32 parameter p_i. -/
def harrowP (d : List Word512) (i : Nat) : FV := f32 (BitVec.ofNat 32 (fld (dword d 1) (192 + 32 * i + 31) (192 + 32 * i)))

/-- tag_i, 1 to 4. -/
def harrowTag (d : List Word512) (i : Nat) : Nat := fld (dword d 1) (128 + 16 * (i - 1) + 15) (128 + 16 * (i - 1))

/-- spec_i, 0 to 3. -/
def harrowSpec (d : List Word512) (i : Nat) : Nat := fld (dword d 1) (64 + 16 * i + 15) (64 + 16 * i)

/-- How a slot's elements lie (R196): in rows; one element per row; two FP32 statistics per row; one row
read for every row; the transposed order of w2. -/
inductive SlotKind where
  | element | perRow | stats | vector | transposed
  deriving DecidableEq, Repr

/-- The role of a slot in an opcode (R195). -/
structure SlotRole where
  slot : Nat
  kind : SlotKind
  out : Bool
  required : Bool
  deriving DecidableEq, Repr

/-- MAP operations that take operand b, and those that take c (R201). -/
def mapTakesB (op : Nat) : Bool := (decide (1 ≤ op) && decide (op ≤ 6)) || op == 0x0A
def mapTakesC (op : Nat) : Bool := op == 4 || op == 0x0A

/-- The slots an opcode uses (R195). -/
def harrowRoles (opcode : Nat) (h : HarrowF) : List SlotRole :=
  match opcode with
  | 1 => [⟨0, .element, false, true⟩] ++
      (if mapTakesB h.op then [⟨1, if h.bPerRow then .perRow else .element, false, true⟩] else []) ++
      (if mapTakesC h.op then [⟨2, if h.cPerRow then .perRow else .element, false, true⟩] else []) ++
      [⟨3, .element, true, true⟩, ⟨4, .element, true, false⟩]
  | 2 => [⟨0, .element, false, true⟩, ⟨3, .perRow, true, true⟩]
  | 3 => [⟨0, .element, false, true⟩, ⟨1, .element, false, false⟩, ⟨3, .element, true, true⟩, ⟨4, .stats, true, false⟩]
  | 4 => [⟨0, .element, false, true⟩, ⟨1, .vector, false, false⟩, ⟨2, .vector, false, false⟩, ⟨3, .element, true, true⟩,
      ⟨4, .stats, true, false⟩]
  | _ => [⟨0, .element, false, true⟩, ⟨1, .element, false, true⟩, ⟨2, .element, false, true⟩] ++
      (if h.op = 1 then [⟨3, .element, false, true⟩] else []) ++ [⟨4, .element, true, true⟩, ⟨5, .element, true, true⟩] ++
      (if h.op = 1 then [⟨6, .element, true, true⟩] else []) ++ [⟨7, .element, true, true⟩, ⟨8, .transposed, true, true⟩]

/-- The op codes an opcode defines. -/
def harrowOpOk (opcode op : Nat) : Bool :=
  match opcode with
  | 1 => decide (1 ≤ op) && decide (op ≤ 0x19)
  | 2 => decide (1 ≤ op) && decide (op ≤ 5)
  | 3 => op == 1
  | _ => op == 1 || op == 2

/-- The specifier that an output slot converts by, if it has one (R195). -/
def slotSpec (opcode slot : Nat) : Option Nat :=
  if opcode = 5 then (match slot with | 4 => some 0 | 5 => some 1 | 6 => some 2 | 7 => some 3 | 8 => some 3 | _ => none)
  else if slot = 3 then some 0 else none

/-- The tag that an output slot's elements report under. -/
def slotTag (d : List Word512) (opcode slot : Nat) : Nat :=
  if opcode = 5 && 5 ≤ slot then harrowTag d (slot - 4) else hTag (dword d 0)

/-- The parameters, tags and specifiers that an opcode uses, whichever of its operations is named (R195). -/
def paramsUsed (opcode : Nat) : List Nat :=
  match opcode with
  | 1 => [0, 1]
  | 2 => []
  | 3 => [0]
  | 4 => [0]
  | _ => [0, 1, 2, 3, 4, 5, 6]
def tagsUsed (opcode : Nat) : List Nat :=
  match opcode with
  | 1 => [1]
  | 5 => [1, 2, 3, 4]
  | _ => []
def specsUsed (opcode : Nat) : List Nat := if opcode = 5 then [0, 1, 2, 3] else [0]

/-- The slots present, with their roles. -/
def harrowSlots (d : List Word512) : List (SlotRole × Slot) :=
  ((harrowRoles (hOpcode (dword d 0)) (harrowF d)).map (fun r => (r, slotOf d r.slot))).filter (fun x => x.2.present)

/-! ### Layout and footprints (R196) -/

/-- Bytes of one stored row of n elements of a format. -/
def rowBytes (fmt n : Nat) : Nat :=
  if fmt = 1 then n / 2 + n / 32 else if fmt = 0xC then ceilDiv n 8 else n * fmtBytes fmt

/-- Bytes that one row of a slot takes. -/
def slotRowBytes (k : SlotKind) (fmt rows cols : Nat) : Nat :=
  match k with
  | .element => rowBytes fmt cols
  | .vector => rowBytes fmt cols
  | .perRow => if fmt = 1 then 2 else if fmt = 0xC then 1 else fmtBytes fmt
  | .stats => 8
  | .transposed => rowBytes fmt rows

/-- The footprint of a slot; nothing for a descriptor of no elements. -/
def slotRanges (k : SlotKind) (s : Slot) (rows cols : Nat) : List (Nat × Nat) :=
  if rows = 0 || cols = 0 then []
  else match k with
    | .vector => [(s.addr, slotRowBytes k s.fmt rows cols)]
    | .transposed => rowRanges s.addr s.stride cols (slotRowBytes k s.fmt rows cols)
    | _ => rowRanges s.addr s.stride rows (slotRowBytes k s.fmt rows cols)

/-- The footprints of a descriptor's inputs and outputs. -/
def harrowIns (d : List Word512) : List (Nat × Nat) :=
  let h := harrowF d
  ((harrowSlots d).filter (fun x => !x.1.out)).flatMap (fun x => slotRanges x.1.kind x.2 h.rows h.cols)
def harrowOuts (d : List Word512) : List (Nat × Nat) :=
  let h := harrowF d
  ((harrowSlots d).filter (fun x => x.1.out)).flatMap (fun x => slotRanges x.1.kind x.2 h.rows h.cols)

/-- The result header that OPTIM reads (R210, R384). -/
def harrowHdr (d : List Word512) : List (Nat × Nat) :=
  let h := harrowF d
  if hOpcode (dword d 0) = 5 && h.hdrAddr ≠ 0 && h.rows ≠ 0 && h.cols ≠ 0 then [(h.hdrAddr, 64)] else []

/-- Every byte of a descriptor. -/
def harrowFootprint (d : List Word512) : List (Nat × Nat) := harrowIns d ++ harrowOuts d ++ harrowHdr d

/-- Row r of a slot begins in a Glean. -/
def slotRowInGlean (s : Slot) (r : Nat) : Bool :=
  decide (gleanBase 0 ≤ s.addr + r * s.stride) && decide (s.addr + r * s.stride < 0x580000000)

/-- A slot's first row lies in a Glean. -/
def slotInGlean (s : Slot) : Bool := slotRowInGlean s 0

/-! ### Checks (R199, R200) -/

/-- Check 2: reserved bits, fields and slots an opcode does not use, and required slots absent (R195). -/
def harrowReserved (d : List Word512) : Bool :=
  let w := dword d 1
  let op := hOpcode (dword d 0)
  let h := harrowF d
  let roles := harrowRoles op h
  let n := if op = 5 then 9 else 5
  let used (i : Nat) := roles.any (fun r => r.slot == i)
  !harrowOpOk op h.op || h.maskPred == 3 || fld w 63 62 != 0 || fld w 55 52 != 0 || fld (dword d 2) 511 480 != 0 ||
  (op == 5 && (fld (dword d 3) 511 480 != 0 || fld (dword d 3) 447 432 != 0)) ||
  (List.range n).any (fun i => (slotOf d i).present && (!used i || fld (if i < 5 then dword d 2 else dword d 3)
    (96 * (if i < 5 then i else i - 5) + 95) (96 * (if i < 5 then i else i - 5) + 94) != 0)) ||
  roles.any (fun r => r.required && !(slotOf d r.slot).present) ||
  (List.range 7).any (fun i => !(paramsUsed op).contains i && fld w (192 + 32 * i + 31) (192 + 32 * i) != 0) ||
  ([1, 2, 3, 4]).any (fun i => !(tagsUsed op).contains i && harrowTag d i != 0) ||
  (List.range 4).any (fun i => harrowSpec d i != 0 && (!(specsUsed op).contains i || bitsOf (harrowSpec d i) 15 7 != 0)) ||
  ((h.bPerRow || h.cPerRow || h.maskPred != 0) && op != 1) ||
  (harrowSlots d).any (fun x => !x.1.out && slotInGlean x.2 && x.2.scale != 0)

/-- Check 3: formats; an input with a row in Glean is L96, whatever its slot (R197). The specifier of an output names its
slot's format. -/
def harrowFmtBad (d : List Word512) : Bool :=
  let op := hOpcode (dword d 0)
  let last := (harrowF d).rows - 1
  (harrowSlots d).any (fun x =>
    let f := x.2.fmt
    let mask := (op == 1 && x.1.slot == 4) || (op == 3 && x.1.slot == 1)
    let f32Only := x.1.kind == .stats || (op == 5 && (x.1.slot == 1 || x.1.slot == 4))
    let lastRow := if x.1.kind = .vector then 0 else last
    if !x.1.out && (slotInGlean x.2 || slotRowInGlean x.2 lastRow) then
      mask || f32Only || f != 7 || !slotInGlean x.2 || !slotRowInGlean x.2 lastRow
    else if mask then f != 0xC
    else if f32Only && f != 6 then true
    else if x.1.out then
      !(x.1.kind == .stats) && (!outFmtOk f || (slotSpec op x.1.slot).any (fun i => bitsOf (harrowSpec d i) 3 0 != f))
    else !((decide (1 ≤ f) && decide (f ≤ 6)) || f == 8 || f == 9 || (decide (0xA ≤ f) && decide (f ≤ 0xC))))

/-- Check 10: alignment. Accumulator addresses are taken on their offset in the Glean window. -/
def slotMisaligned (s : Slot) : Bool :=
  if s.fmt = 1 || s.fmt = 0xC then s.addr % 8 != 0 || s.stride % 8 != 0
  else if s.fmt = 7 then ((s.addr - gleanBase 0) % 0x10000000) % 12 != 0 || s.stride % 12288 != 0
  else s.addr % fmtBytes s.fmt != 0 || s.stride % fmtBytes s.fmt != 0

/-- Checks 1 to 10 of R199, in order; 0 where all pass. -/
def State.harrowParse (s : State) (d : List Word512) : Nat :=
  let h := harrowF d
  let op := hOpcode (dword d 0)
  let sl := harrowSlots d
  let ins := harrowIns d
  let outs := harrowOuts d ++ harrowHdr d
  if 8 ≤ h.field || (h.either && h.engine = 1) then 0x0B30
  else if s.lost h.field then 0x0511
  else if harrowReserved d then 0x0103
  else if harrowFmtBad d then 0x0301
  else if sl.any (fun x => (slotSpec op x.1.slot).any (fun i => bitsOf (harrowSpec d i) 5 4 == 3)) then 0x0302
  else if (sl.any (fun x => x.2.fmt == 1 && (x.1.kind == .element || x.1.kind == .vector)) && (h.cols % 32 ≠ 0 || h.tCol0 % 32 ≠ 0)) ||
      (sl.any (fun x => x.2.fmt == 1 && x.1.kind == .transposed) && (h.rows % 32 ≠ 0 || h.tRow0 % 32 ≠ 0)) then 0x0304
  else if 1048576 < h.cols || allOnes 16 h.rows || allOnes 32 h.tCols || (op = 5 && allOnes 32 h.tRows) || h.tCols < h.tCol0 + h.cols ||
      sl.any (fun x => x.1.out && decide (x.2.stride < slotRowBytes x.1.kind x.2.fmt h.rows h.cols)) ||
      sl.any (fun x => x.1.kind == .vector && x.2.stride != 0) then 0x0201
  else if !s.rangesMapped (ins ++ outs) then 0x0202
  else if !(ins.all (fun r => (inTilth h.field r.1 r.2 && s.populated r.1 r.2) || inGlean h.field r.1 r.2)) || !s.rangesInTilth h.field outs then 0x0B33
  else if h.hdrAddr % 64 ≠ 0 || sl.any (fun x => slotMisaligned x.2) then 0x0B34
  else 0

/-- An output that updates an input in place (R200). -/
def slotInPlace (op : Nat) (o i : Slot) : Bool := op == 1 && o.fmt == i.fmt && o.addr == i.addr && o.stride == i.stride

/-- A descriptor's own footprints meet (R200). -/
def harrowSelfOverlap (d : List Word512) : Bool :=
  let h := harrowF d
  let op := hOpcode (dword d 0)
  let sl := harrowSlots d
  let rg (x : SlotRole × Slot) := slotRanges x.1.kind x.2 h.rows h.cols
  sl.any (fun o => o.1.out && (rangesOverlap (rg o) (harrowHdr d) || sl.any (fun x =>
    x.1.slot != o.1.slot && !(!x.1.out && slotInPlace op o.2 x.2) && rangesOverlap (rg o) (rg x))))

/-! ### Engines, queues, units (R188, R192, R193, R214) -/

def State.engine (s : State) (e : Nat) : EngineSt := s.engines.getD e ⟨2, none, 0⟩
def State.setEngine (s : State) (e : Nat) (x : EngineSt) : State := { s with engines := s.engines.set e x }

/-- An engine is WORKING and its Field is not lost. -/
def State.engineWorks (s : State) (e : Nat) : Bool := (s.engine e).state == 1 && !s.lost (e / 2)

/-- The engine that runs the work of an engine. -/
def State.engineRunner (s : State) (e : Nat) : Option Nat := if s.engineWorks e then some e else (s.engine e).hostedBy

/-- The Harrow descriptors in flight, in order of issue. -/
def State.harrowFlights (s : State) : List Flight := s.flights.filter (fun f => f.cls == 3)

/-- Those that an engine runs, its own and those it hosts. -/
def State.engineFlights (s : State) (e : Nat) : List Flight := s.harrowFlights.filter (fun f => s.engineRunner f.unit == some e)

/-- How many units a descriptor has (R192). -/
def harrowUnits (d : List Word512) : Nat :=
  let h := harrowF d
  if h.rows = 0 || h.cols = 0 then 0
  else if hOpcode (dword d 0) = 5 then ceilDiv h.rows 64 * ceilDiv h.cols 64
  else h.rows

/-- A unit's chunks: MAP stores a row chunk by chunk, every other unit is stored as a whole (R215). -/
def unitChunks (d : List Word512) : Nat := if hOpcode (dword d 0) = 1 then ceilDiv (harrowF d).cols 256 else 1

/-- The progress of a Harrow descriptor. -/
def Flight.harrow? (f : Flight) : HarrowProg :=
  match f.prog with
  | .harrow h => h
  | _ => ⟨0, [], [], 0⟩

/-- Units are left to deal: none once the descriptor has ended (R210, R217); a unit that an engine's
failure returned is dealt again. -/
def Flight.unitsLeft (f : Flight) : Bool :=
  let h := f.harrow?
  !h.again.isEmpty || (f.ending.isNone && decide (h.dealt < harrowUnits f.words))

/-- Descriptors queued on an engine: not every unit dealt. -/
def State.engineQueued (s : State) (e : Nat) : Nat := ((s.engineFlights e).filter Flight.unitsLeft).length

/-- Threads that run a unit. -/
def State.threadsActive (s : State) (e : Nat) : Nat :=
  ((s.engineFlights e).map (fun f => f.harrow?.running.length)).sum

/-- The engine that a new descriptor is assigned to (R193). -/
def State.assignEngine (s : State) (d : List Word512) : Nat :=
  let h := harrowF d
  let q (e : Nat) := s.engineQueued e
  if h.either then (if q (2 * h.field + 1) < q (2 * h.field) then 2 * h.field + 1 else 2 * h.field)
  else 2 * h.field + h.engine

/-- Check 11 of R199, made at issue: its own footprints, and its outputs against every earlier Harrow
descriptor of the Field that no fence orders before it: its own, or that of one between them on the earlier one's engine
(R193, R200). -/
def State.harrowIssueCheck (s : State) (d : List Word512) : Nat :=
  let h := harrowF d
  let e := s.assignEngine d
  if harrowSelfOverlap d || s.harrowFlights.any (fun f =>
      (harrowF f.words).field == h.field && !(f.unit == e && (hFence (dword d 0) || s.harrowFlights.any (fun g => g.unit == e && hFence g.hdr && decide (f.id < g.id)))) &&
      rangesOverlap (harrowOuts d) (harrowFootprint f.words)) then 0x0B35 else 0

/-- The non-finite flag of a result header (R384). -/
def State.headerNonFinite (s : State) (a : Nat) : Bool := bitOf (s.num (a + 16) 8) 0

/-- OPTIM's look at its result header before its first unit is dealt (R210, R257). -/
def State.optimHeader (s : State) (f : Flight) : Flight :=
  let a := (harrowF f.words).hdrAddr
  if f.op != 5 || a = 0 || f.started then f
  else if s.poisonedIn a 64 then { f with ending := some 0x0402 }
  else if s.headerNonFinite a then { f with ending := some 0x0B3A }
  else f

/-- HARROW_UNIT_DEAL: a free thread takes the lowest-numbered undealt unit of the descriptor at the head
of its engine (R192, R193, R218). `starved` FC cycles passed with work queued and no thread ready. -/
def State.dealUnit (s : State) (e thread starved : Nat) : State :=
  let fs := s.engineFlights e
  match fs.find? Flight.unitsLeft with
  | none => s
  | some f0 =>
    let before := fs.takeWhile (fun g => g.id != f0.id)
    let busy := fs.any (fun g => g.harrow?.running.any (fun u => u.thread == thread))
    if !s.engineWorks e || !s.enabled .harrow e || !s.enabled .harrow f0.unit || busy || !f0.fired ||
        (hFence f0.hdr && !before.isEmpty) then s
    else
      let f := s.optimHeader f0
      let h := f.harrow?
      let s0 := s.bumpBy (harrowReg e 0x138) starved
      match h.again with
      | (u, c) :: rest =>
        s0.setFlight { f with started := true, prog := Prog.harrow { h with again := rest, running := h.running ++ [⟨u, thread, c⟩] } }
      | [] =>
        if f.ending.isSome then s0.setFlight { f with started := true, prog := Prog.harrow h }
        else s0.setFlight { f with started := true, prog := Prog.harrow { h with
          dealt := h.dealt + 1, running := h.running ++ [⟨h.dealt, thread, 0⟩] } }

/-- The unit of a flight that runs and has its next chunk still to store; the engine that runs it works. -/
def State.unitReady (s : State) (f : Flight) (u : Nat) : Option (Nat × HarrowUnit) :=
  match s.engineRunner f.unit, f.harrow?.running.find? (fun x => x.unit == u) with
  | some e, some x => if decide (x.stored < unitChunks f.words) && s.engineWorks e && !s.lost (harrowF f.words).field then some (e, x) else none
  | _, _ => none

/-- A chunk of a unit has been stored. -/
def State.unitStored (s : State) (f : Flight) (u : Nat) : State :=
  let h := f.harrow?
  s.setFlight { f with prog := Prog.harrow { h with running := h.running.map (fun (x : HarrowUnit) =>
    if x.unit == u then { x with stored := x.stored + 1 } else x) } }

/-! ### Reading operands (R196, R197, R257) -/

/-- Element (r, c) of a slot as FP32; poison reads as NaN. -/
def State.slotElem (s : State) (k : SlotKind) (x : Slot) (cols r0 c : Nat) : FV :=
  let r := if k = .vector then 0 else r0
  let base := x.addr + r * x.stride
  if x.fmt = 7 then
    let a := base + (if k = .perRow then 0 else c * 12)
    let f := (a - gleanBase 0) / 0x10000000
    let o := (a - gleanBase 0) % 0x10000000
    if mPoison (s.gmeta f (o / 12288)) then .nan else (s.accValue f (o / 12288) (o % 12288 / 12)).toF32
  else if x.fmt = 1 then
    let na := if k = .perRow then base else base + c / 2
    let ea := if k = .perRow then base + 1 else base + cols / 2 + c / 32
    let b := (s.byte na).toNat
    if s.poisonedAt na || s.poisonedAt ea then .nan
    else ((a4Value (if k = .perRow || c % 2 = 0 then b % 16 else b / 16) (s.byte ea).toNat).scale x.scale).toF32
  else if x.fmt = 0xC then
    let a := if k = .perRow then base else base + c / 8
    if s.poisonedAt a then .nan
    else ((decodeElem .mask1 0 (b2n (bitOf (s.byte a).toNat (if k = .perRow then 0 else c % 8)))).scale x.scale).toF32
  else
    let n := fmtBytes x.fmt
    let a := base + (if k = .perRow then 0 else c * n)
    if s.poisonedIn a n then .nan
    else
      match Fmt.ofCode x.fmt with
      | some f => if x.fmt = 8 || x.fmt = 9 then (decodeElem f x.scale (s.num a n)).toF32 else ((decodeElem f 0 (s.num a n)).scale x.scale).toF32
      | none => .nan

/-! ### Element-wise functions (R201 to R203) -/

/-- The operations that the spec bounds in accuracy, with their special values (R202). -/
def harrowFn (op : Nat) (a : FV) : FV :=
  match a with
  | .nan => .nan
  | .inf n =>
    match op with
    | 0x0B => if n then FV.zero else .inf false
    | 0x0C => if n then FV.zero else .inf false
    | 0x0D => if n then .nan else .inf false
    | 0x0E => if n then .nan else .inf false
    | 0x11 => if n then .nan else FV.zero
    | 0x12 => if n then FV.one.neg else FV.one
    | 0x13 => if n then FV.zero else FV.one
    | 0x14 => if n then FV.one.neg else FV.one
    | 0x15 => if n then FV.zero.neg else .inf false
    | 0x16 => if n then FV.zero.neg else .inf false
    | _ => .nan
  | .fin n m e =>
    if m = 0 then
      match op with
      | 0x0B => FV.one
      | 0x0C => FV.one
      | 0x0D => .inf true
      | 0x0E => .inf true
      | 0x11 => .inf n
      | 0x13 => .fin false 1 (-1)
      | 0x18 => FV.one
      | _ => a
    else if n && (op = 0x0D || op = 0x0E || op = 0x11) then .nan
    else boundedF32 op n m e

/-- A MAP operation on its operands (R201, R202). DROPOUT takes its keep bit. -/
def mapFn (op : Nat) (p0 p1 a b c : FV) (keep : Bool) : FV :=
  match op with
  | 0x01 => addF32 a b
  | 0x02 => subF32 a b
  | 0x03 => mulF32 a b
  | 0x04 => fmaF32 a b c
  | 0x05 => maxF a b
  | 0x06 => minF a b
  | 0x07 => fmaF32 a p0 p1
  | 0x08 => maxF a FV.zero
  | 0x09 => a
  | 0x0A => if c.isZero then b else a
  | 0x0F => recipF32 a
  | 0x10 => sqrtF32 a
  | 0x19 => if keep then mulF32 a p1 else FV.zero
  | op => harrowFn op a

/-- Issue cycles of one MAP chunk (R203). -/
def mapCycles (op : Nat) : Nat :=
  if op ≤ 0x0A then 1 else if op ≤ 0x11 then 4 else if op ≤ 0x18 then 8 else 2

/-- Every operand and output is 16 bits wide or narrower (R189). -/
def harrowPacked (d : List Word512) : Bool := (harrowSlots d).all (fun x => decide (fmtBytes x.2.fmt ≤ 2))

/-! ### Stores (R211) -/

/-- The specifier of an output slot. Statistics, and OPTIM's w out, round by RNE (R211). -/
def outSpec (d : List Word512) (opcode : Nat) (slot : Nat) : Spec :=
  let x := slotOf d slot
  match slotSpec opcode slot with
  | none => ⟨.fp32, .rne, false, x.scale, 0⟩
  | some i =>
    match Spec.ofBits (harrowSpec d i) x.scale 0 with
    | some sp => if opcode = 5 && slot = 4 then { sp with rnd := .rne } else sp
    | none => ⟨.fp32, .rne, false, x.scale, 0⟩

/-- A run of elements stored: codes, and A4 block exponents after the row's nibbles. `base` is the start
of the stored row, `len` its elements, `c0` the first element's column. -/
def State.storeRun (s : State) (f : Fmt) (base len c0 : Nat) (cv : List Nat × List Nat × List Outc) : State :=
  if f == .a4 then
    (s.store (base + c0 / 2) (packCodes f cv.2.1)).store (base + len / 2 + c0 / 32) (cv.1.map (BitVec.ofNat 8))
  else s.store (base + c0 * f.bytes) (packCodes f cv.2.1)

/-- What a run of converted elements reports (R220). -/
def runTally (sp : Spec) (vs : List FV) (cv : List Nat × List Nat × List Outc) : Tally :=
  Tally.sum ((List.range vs.length).map (fun i =>
    Tally.ofElem (vs.getD i FV.zero) (cv.2.2.getD i {}) (storedZero sp.fmt (cv.2.1.getD i 0)) sp.sOut))

/-- A run of elements of an output slot converted with its own draws, stored and reported under its tag
(R198, R211). `idx` gives each element's stochastic index. -/
def State.storeElems (s : State) (fl : Flight) (slot base len c0 : Nat) (idx : Nat → Nat) (vs : List FV) : State :=
  let d := fl.words
  let sp := outSpec d fl.op slot
  let tag := slotTag d fl.op slot
  let cv := convertRow sp (vs.length + 1) (vs.zip ((List.range vs.length).map (fun i => s.drawFor tag fl.step (idx i))))
  (s.storeRun sp.fmt base len c0 cv).report (harrowF d).field tag fl.step fl.inPrePass (runTally sp vs cv)

/-- One element per row stored (R196): A4 takes the element alone as its block. -/
def State.storePerRow (s : State) (fl : Flight) (slot r idx : Nat) (v : FV) : State :=
  let d := fl.words
  let x := slotOf d slot
  let sp := outSpec d fl.op slot
  let tag := slotTag d fl.op slot
  let a := x.addr + r * x.stride
  let cv := convertRow sp 2 [(v, s.drawFor tag fl.step idx)]
  let s1 := if sp.fmt == .a4 then s.store a [BitVec.ofNat 8 (cv.2.1.getD 0 0 % 16), BitVec.ofNat 8 (cv.1.getD 0 0)]
    else s.store a (packCodes sp.fmt cv.2.1)
  s1.report (harrowF d).field tag fl.step fl.inPrePass (runTally sp [v] cv)

/-- The two FP32 statistics of a row (R196, R206, R207). -/
def State.storeStats (s : State) (fl : Flight) (r : Nat) (a b : FV) : State :=
  let x := slotOf fl.words 4
  if !x.present then s
  else
    let sp := outSpec fl.words fl.op 4
    s.store (x.addr + r * x.stride) (packCodes .fp32 [(convert a sp 0).1, (convert b sp 0).1])

/-- The work that an engine did for a chunk or unit, counted (R218). -/
def State.countHarrow (s : State) (e elems cycles : Nat) : State :=
  (s.bumpBy (harrowReg e 0x128) elems).bumpBy (harrowReg e 0x130) cycles

/-- The accumulators that a unit read through the service slots of its Field's Glean, counted there (R186, R197): rows of
`n` elements of the input slots that lie in Glean, one a row of an operand that holds one. -/
def State.countGleanRead (s : State) (d : List Word512) (rows n : Nat) : State :=
  s.bumpBy (gleanReg (harrowF d).field 0x118) (rows * (((harrowSlots d).filter (fun x => !x.1.out && slotInGlean x.2)).map (fun x =>
    if x.1.kind = .perRow then 1 else n)).sum)

/-- The stochastic index of element (r, c) (R198). -/
def elemIndex (h : HarrowF) (r c : Nat) : Nat := (h.tRow0 + r) * h.tCols + h.tCol0 + c

/-! ### MAP -/

/-- MAP: the next chunk of 256 elements of a row (R201). -/
def State.mapChunk (s : State) (id u : Nat) : State :=
  match s.flightOf id 3 1 with
  | none => s
  | some f =>
    match s.unitReady f u with
    | none => s
    | some (e, x) =>
      let d := f.words
      let h := harrowF d
      let c0 := 256 * x.stored
      let n := min 256 (h.cols - c0)
      let kind (b : Bool) : SlotKind := if b then .perRow else .element
      let get (slot : Nat) (k : SlotKind) (c : Nat) : FV :=
        if (slotOf d slot).present then s.slotElem k (slotOf d slot) h.cols u c else FV.zero
      let p0bits := fld (dword d 1) 223 192
      let keep (c : Nat) : Bool :=
        decide (p0bits ≤ ((s.drawFor (harrowTag d 1) f.step (elemIndex h u c)).toNat >>> 32))
      let v (i : Nat) : FV := mapFn h.op (harrowP d 0) (harrowP d 1) (get 0 .element (c0 + i)) (get 1 (kind h.bPerRow) (c0 + i))
        (get 2 (kind h.cPerRow) (c0 + i)) (keep (c0 + i))
      let vs := (List.range n).map v
      let o := slotOf d 3
      let mk := slotOf d 4
      let s1 := s.storeElems f 3 (o.addr + u * o.stride) h.cols c0 (fun i => elemIndex h u (c0 + i)) vs
      let s2 := if mk.present then
          s1.store (mk.addr + u * mk.stride + c0 / 8) (packBits ((List.range n).map (fun i =>
            if h.op = 0x19 then keep (c0 + i) else maskOf h.maskPred (vs.getD i FV.zero))))
        else s1
      let cyc := if h.op ≤ 0x0A && harrowPacked d then (if x.stored % 2 = 0 then 1 else 0) else mapCycles h.op
      ((s2.countHarrow e n cyc).countGleanRead d 1 n).unitStored f u

/-! ### Row reductions (R204, R205) -/

/-- One level of a balanced tree. -/
def treeStep (f : FV → FV → FV) : List FV → List FV
  | a :: b :: rest => f a b :: treeStep f rest
  | l => l

/-- n levels of a balanced tree. -/
def treeLevelsOf (f : FV → FV → FV) : Nat → List FV → FV → FV
  | 0, l, z => l.headD z
  | n + 1, l, z => treeLevelsOf f n (treeStep f l) z

/-- A list padded with an identity to a length. -/
def padTo (n : Nat) (z : FV) (l : List FV) : List FV := l ++ List.replicate (n - l.length) z

/-- The least k with n ≤ 2^k. -/
def log2Up (n : Nat) : Nat := if n ≤ 1 then 0 else Nat.log2 (n - 1) + 1

/-- The reduction of a row in the fixed order: chunks of 256, then a tree over the chunks (R204). -/
def rowReduce (f : FV → FV → FV) (z : FV) (vs : List FV) : FV :=
  let n := ceilDiv vs.length 256
  let chunk (i : Nat) : FV := treeLevelsOf f 8 (padTo 256 z ((vs.drop (256 * i)).take 256)) z
  let k := log2Up n
  treeLevelsOf f k (padTo (2 ^ k) z ((List.range n).map chunk)) z

def rowSum (vs : List FV) : FV := rowReduce addF32 FV.zero vs
def rowMax (vs : List FV) : FV := rowReduce maxF (.inf true) vs

/-- ROWREDUCE's reduction of a row (R205). -/
def reduceFn (op : Nat) (vs : List FV) : FV :=
  match op with
  | 1 => rowSum vs
  | 2 => rowSum (vs.map (fun x => mulF32 x x))
  | 3 => rowMax vs
  | 4 => rowReduce minF (.inf false) vs
  | _ => rowReduce maxF FV.zero (vs.map FV.abs)

/-- The elements of row u of slot 0. -/
def State.rowElems (s : State) (d : List Word512) (u : Nat) : List FV :=
  let h := harrowF d
  (List.range h.cols).map (fun c => s.slotElem .element (slotOf d 0) h.cols u c)

/-- ROWREDUCE of one row. -/
def State.rowReduceUnit (s : State) (id u : Nat) : State :=
  match s.flightOf id 3 2 with
  | none => s
  | some f =>
    match s.unitReady f u with
    | none => s
    | some (e, _) =>
      let h := harrowF f.words
      (((s.storePerRow f 3 u (elemIndex h u 0) (reduceFn h.op (s.rowElems f.words u))).countHarrow e 1 (ceilDiv h.cols 256)).countGleanRead f.words 1 h.cols).unitStored f u

/-! ### SOFTMAX and NORM -/

/-- SOFTMAX of a row whose masked elements are already −inf: y, and the two statistics (R206). -/
def softmaxRow (t : List FV) : List FV × FV × FV :=
  if t.all (fun v => v == .inf true) then (t.map (fun _ => FV.zero), .inf true, FV.zero)
  else
    let mx := rowMax t
    let e := t.map (fun v => harrowFn 0x0B (subF32 v mx))
    let sm := rowSum e
    (e.map (fun v => mulF32 v (recipF32 sm)), mx, sm)

/-- SOFTMAX of one row. A poisoned mask bit is a free value of its place alone (R4; log entry 9). -/
def State.softmaxUnit (s : State) (id u : Nat) : State :=
  match s.flightOf id 3 3 with
  | none => s
  | some f =>
    match s.unitReady f u with
    | none => s
    | some (e, _) =>
      let d := f.words
      let h := harrowF d
      let mk := slotOf d 1
      let maskAddr (c : Nat) := mk.addr + u * mk.stride + c / 8
      let live (c : Nat) : Bool :=
        if !mk.present then true
        else if s.poisonedAt (maskAddr c) then bitOf (Config.openValue 2 [mk.addr + u * mk.stride, c]) 0
        else bitOf (s.byte (maskAddr c)).toNat (c % 8)
      let t := (List.range h.cols).map (fun c =>
        if live c then mulF32 (s.slotElem .element (slotOf d 0) h.cols u c) (harrowP d 0) else .inf true)
      let r := softmaxRow t
      let o := slotOf d 3
      let s1 := s.storeElems f 3 (o.addr + u * o.stride) h.cols 0 (fun c => elemIndex h u c) r.1
      let s2 := s1.storeStats f u r.2.1 r.2.2
      ((s2.countHarrow e h.cols (10 * ceilDiv h.cols 256)).countGleanRead d 1 h.cols).unitStored f u

/-- NORM of a row: y, mu and rs (R207). -/
def normRow (layer : Bool) (eps : FV) (x gain bias : List FV) : List FV × FV × FV :=
  let rc := recipF32 ((FV.ofInt x.length 0).toF32)
  let mu := if layer then mulF32 (rowSum x) rc else FV.zero
  let dv := x.map (fun v => subF32 v mu)
  let var := mulF32 (rowSum (dv.map (fun v => mulF32 v v))) rc
  let rs := harrowFn 0x11 (addF32 var eps)
  ((List.range x.length).map (fun i => fmaF32 (mulF32 (dv.getD i FV.zero) rs) (gain.getD i FV.one) (bias.getD i FV.zero)), mu, rs)

/-- NORM of one row. -/
def State.normUnit (s : State) (id u : Nat) : State :=
  match s.flightOf id 3 4 with
  | none => s
  | some f =>
    match s.unitReady f u with
    | none => s
    | some (e, _) =>
      let d := f.words
      let h := harrowF d
      let vec (slot : Nat) : List FV :=
        if (slotOf d slot).present then (List.range h.cols).map (fun c => s.slotElem .vector (slotOf d slot) h.cols u c) else []
      let r := normRow (h.op == 1) (harrowP d 0) (s.rowElems d u) (vec 1) (vec 2)
      let o := slotOf d 3
      let s1 := s.storeElems f 3 (o.addr + u * o.stride) h.cols 0 (fun c => elemIndex h u c) r.1
      (((s1.storeStats f u r.2.1 r.2.2).countHarrow e h.cols (4 * ceilDiv h.cols 256)).countGleanRead d 1 h.cols).unitStored f u

/-! ### OPTIM (R208, R209) -/

/-- The update of one element: w1, m1 and v1 (R208). -/
def optimElem (adamw : Bool) (p : Nat → FV) (g0 w m v : FV) : FV × FV × FV :=
  let g := mulF32 g0 (p 6)
  if adamw then
    let m1 := fmaF32 (p 0) m (mulF32 (subF32 FV.one (p 0)) g)
    let v1 := fmaF32 (p 1) v (mulF32 (subF32 FV.one (p 1)) (mulF32 g g))
    let u := mulF32 (mulF32 m1 (p 2)) (recipF32 (addF32 (sqrtF32 (mulF32 v1 (p 3))) (p 4)))
    (subF32 w (addF32 u (mulF32 (p 5) w)), m1, v1)
  else
    let m1 := fmaF32 (p 0) m g
    let u := mulF32 m1 (p 2)
    (subF32 w (addF32 u (mulF32 (p 5) w)), m1, FV.zero)

/-- OPTIM of one tile of up to 64 × 64 elements. -/
def State.optimUnit (s : State) (id u : Nat) : State :=
  match s.flightOf id 3 5 with
  | none => s
  | some f =>
    match s.unitReady f u with
    | none => s
    | some (e, _) =>
      let d := f.words
      let h := harrowF d
      let nt := ceilDiv h.cols 64
      let r0 := 64 * (u / nt)
      let c0 := 64 * (u % nt)
      let nr := min 64 (h.rows - r0)
      let nc := min 64 (h.cols - c0)
      let get (slot r c : Nat) : FV := s.slotElem .element (slotOf d slot) h.cols r c
      let elem (r c : Nat) : FV × FV × FV := optimElem (h.op == 1) (harrowP d) (get 0 r c) (get 1 r c) (get 2 r c)
        (if h.op = 1 then get 3 r c else FV.zero)
      let tile := (List.range nr).map (fun i => (List.range nc).map (fun j => elem (r0 + i) (c0 + j)))
      let byRow (t : State) (slot : Nat) (pick : FV × FV × FV → FV) : State :=
        (List.range nr).foldl (fun t i =>
          let o := slotOf d slot
          t.storeElems f slot (o.addr + (r0 + i) * o.stride) h.cols c0 (fun j => elemIndex h (r0 + i) (c0 + j))
            ((tile.getD i []).map pick)) t
      let s1 := byRow (byRow s 4 (·.1)) 5 (fun x => x.2.1)
      let s2 := if h.op = 1 then byRow s1 6 (fun x => x.2.2) else s1
      let s3 := byRow s2 7 (·.1)
      let o := slotOf d 8
      let s4 := (List.range nc).foldl (fun t j =>
        t.storeElems f 8 (o.addr + (c0 + j) * o.stride) h.rows r0 (fun i => (h.tCol0 + c0 + j) * h.tRows + h.tRow0 + (r0 + i))
          ((List.range nr).map (fun i => ((tile.getD i []).getD j (FV.zero, FV.zero, FV.zero)).1))) s3
      ((s4.countHarrow e (nr * nc * (if h.op = 1 then 5 else 4)) (4 * ceilDiv (nr * nc) 256)).countGleanRead d nr nc).unitStored f u

/-! ### Units end, descriptors complete -/

/-- HARROW_UNIT_COMPLETE: a unit whose last chunk is stored frees its thread; the descriptor completes
once all its units have, or those dealt before it was ended (R192, R210, R217). A descriptor of no
elements completes with no effect once its gate has fired (R14). -/
def State.unitComplete (s : State) (id u : Nat) : State :=
  match s.flight id with
  | none => s
  | some f =>
    if f.cls != 3 || !f.fired && f.ending.isNone then s
    else
      let h := f.harrow?
      let total := harrowUnits f.words
      match h.running.find? (fun x => x.unit == u && decide (unitChunks f.words ≤ x.stored)) with
      | some x =>
        let h1 := { h with running := h.running.filter (fun y => y.unit != x.unit), finished := h.finished + 1 }
        let s1 := (s.setFlight { f with prog := Prog.harrow h1 }).bump (harrowReg ((s.engineRunner f.unit).getD f.unit) 0x120)
        if h1.running.isEmpty && h1.again.isEmpty && (f.ending.isSome || decide (total ≤ h1.dealt)) then
          s1.complete id (if total ≤ h1.finished then 0 else f.ending.getD 0) else s1
      | none =>
        if h.running.isEmpty && h.again.isEmpty && (f.ending.isSome || total = 0) then s.complete id (f.ending.getD 0) else s

/-! ### Failure and helpers (R213 to R216) -/

/-- The helper choices of a failed engine, first to last (R214). -/
def engineHelpers (e : Nat) : List Nat :=
  (if e % 2 = 0 then e + 1 else e - 1) :: ((helperOrder (e / 2)).flatMap (fun f => [2 * f, 2 * f + 1]))

/-- A Harrow descriptor whose engine has failed: its units go back, with the chunks they stored. -/
def HarrowProg.setBack (h : HarrowProg) : HarrowProg :=
  { h with running := [], again := (h.running.map (fun u => (u.unit, u.stored))) ++ h.again }

/-- The work of one failed engine given to its first working choice, or held, which is reported for each descriptor that
is found so (R214, R216). -/
def State.rehomeEngine (s : State) (e : Nat) : State :=
  let x := s.engine e
  if x.state != 2 || x.hostedBy.isSome || s.lost (e / 2) then s
  else
    match (engineHelpers e).find? (fun h => h != e && s.engineWorks h) with
    | some h => (s.setEngine e { x with hostedBy := some h, held := 0 }).raise .harrow h 1 0 0
    | none =>
      match s.harrowFlights.find? (fun g => g.unit == e && decide (x.held ≤ g.id)) with
      | some g => (s.setEngine e { x with held := g.id + 1 }).raiseErr .harrow e 2 0x0B36 g.work 0 0
      | none => s

/-- The failure of an engine: everything it ran goes back and to the next choice (R213, R214). -/
def State.failEngine (s : State) (e code workId info0 info1 : Nat) : State :=
  if (s.engine e).state == 2 then s
  else
    let s1 := { s with
      flights := s.flights.map (fun (g : Flight) =>
        if g.cls == 3 && s.engineRunner g.unit == some e then
          (match g.prog with | .harrow h => { g with prog := Prog.harrow h.setBack } | _ => g) else g)
      engines := (s.engines.map (fun (y : EngineSt) => if y.hostedBy == some e then { y with hostedBy := none } else y)).set e
        ⟨2, none, 0⟩ }
    let s2 := s1.raiseErr .harrow e 0 code workId info0 info1
    (List.range 16).foldl State.rehomeEngine s2

/-- HARROW_ENGINE_FAIL: a check on a thread finds an error: 1 residue, 2 parity, 3 register ECC; 0 is an
error that the ECC corrects (R212, R213, R219). -/
def State.engineCheck (s : State) (e thread check : Nat) : State :=
  if !s.engineWorks e then s
  else if check = 0 then s.bump (harrowReg e 0x140)
  else
    let hit := (s.engineFlights e).findSome? (fun g => (g.harrow?.running.find? (fun u => u.thread == thread)).map (fun u => (g, u.unit)))
    let code := if check = 3 then 0x0B39 else 0x0B31
    let s1 := s.bump (harrowReg e 0x148)
    match hit with
    | some (g, u) => s1.failEngine e code g.work (u % 2 ^ 28 + (thread <<< 28) + (g.work <<< 32))
        ((harrowF g.words).op + ((g.op % 256) <<< 8) + (check <<< 16))
    | none => s1.failEngine e code 0 (thread <<< 28) (check <<< 16)

/-- force_fail written to 1 on a HARROW page (R213, R218). -/
def State.forceEngine (s : State) (e : Nat) : State := s.failEngine e 0x0B38 0 0 (5 <<< 16)

/-- The engine runs or queues a descriptor: PG_STATUS.busy (R218). -/
def State.engineBusy (s : State) (e : Nat) : Bool :=
  !(s.engineFlights e).isEmpty || s.harrowFlights.any (fun f => f.unit == e)

end Sys2Proof.Machine
end

