-- ==== Sys2Proof/Machine/Winnow.lean ====
section
/-!
DEFINITION. Winnow: tag entries (R223), step opening and closing (R224, R225), delayed scales (R227,
R228), the non-finite flag and the skip (R229 to R232), the silent-layer alarm (R233 to R235), probe
steps (R236, R237), descriptors (R238, R239) and the WINNOW page (R240, R241).
-/
namespace Sys2Proof.Machine

/-! ### Tag entries (R223) -/

/-- A tag entry: its configuration word, its state words and its history. -/
structure TagEntry where
  cfg : Nat
  st : Nat
  last : Nat
  hist : List Nat
  rest : Nat
  deriving DecidableEq, Repr

/-- The 64 bytes at an address as a tag entry. -/
def State.readTag (s : State) (a : Nat) : TagEntry :=
  ⟨s.num a 8, s.num (a + 8) 8, s.num (a + 16) 8, (List.range 16).map (fun i => s.num (a + 24 + 2 * i) 2), s.num (a + 56) 8⟩

/-- The 64 bytes of a tag entry. -/
def TagEntry.toBytes (e : TagEntry) : List Byte :=
  leBytes 8 e.cfg ++ leBytes 8 e.st ++ leBytes 8 e.last ++ e.hist.flatMap (leBytes 2) ++ leBytes 8 e.rest

def TagEntry.probeScale (e : TagEntry) : Int := signedOf 8 (bitsOf e.cfg 63 56)
def TagEntry.window (e : TagEntry) : Nat := bitsOf e.cfg 15 12 + 1
def TagEntry.margin (e : TagEntry) : Nat := bitsOf e.cfg 11 8
def TagEntry.backoff (e : TagEntry) : Nat := if bitOf e.cfg 7 then bitsOf e.cfg 17 16 else 0
def TagEntry.nfGate (e : TagEntry) : Bool := bitOf e.cfg 6
def TagEntry.jobScope (e : TagEntry) : Bool := bitOf e.cfg 5
def TagEntry.delayed (e : TagEntry) : Bool := bitOf e.cfg 4
def TagEntry.silentOn (e : TagEntry) : Bool := bitOf e.cfg 18
def TagEntry.format (e : TagEntry) : Nat := bitsOf e.cfg 3 0
def TagEntry.probe (e : TagEntry) : Bool := bitOf e.st 23
def TagEntry.recorded (e : TagEntry) : Nat := bitsOf e.st 22 18
def TagEntry.offset (e : TagEntry) : Nat := bitsOf e.st 13 10
def TagEntry.scale (e : TagEntry) : Int := signedOf 10 (bitsOf e.st 9 0)

/-- A configuration word has a reserved bit set or a value out of range. The zero word is a disabled
tag. -/
def tagCfgBad (c : Nat) : Bool :=
  c != 0 && (bitOf c 19 || 1000000 < bitsOf c 39 20 ||
    !((decide (1 ≤ bitsOf c 3 0) && decide (bitsOf c 3 0 ≤ 6)) || (decide (8 ≤ bitsOf c 3 0) && decide (bitsOf c 3 0 ≤ 0xB))))

/-- A tag entry has a reserved bit set or a value out of range. -/
def TagEntry.bad (e : TagEntry) : Bool :=
  tagCfgBad e.cfg || bitsOf e.st 63 42 != 0 || bitsOf e.st 17 14 != 0 || 16 < e.recorded || bitsOf e.last 63 32 != 0 || e.rest != 0

/-- An empty history. -/
def emptyHist : List Nat := List.replicate 16 0x8000

/-- The largest exponent of F's binade by target format; 0 for L32 and L64, whose scale field holds
E + margin + o (R227). -/
def topExpOf (fmt : Nat) : Int :=
  match fmt with
  | 1 => 2 | 2 => 8 | 3 => 15 | 4 => 15 | 5 => 127 | 6 => 127 | 0xA => 6 | 0xB => 7 | _ => 0

/-- The Fields in service. -/
def State.liveFields (s : State) : List Nat := (List.range 8).filter (fun f => !s.lost f)

/-- A tag entry as the reporting Winnow's copy holds it. -/
def State.tagEntry (s : State) (tag : Nat) : TagEntry := s.readTag (s.tagAddr s.reporter tag)

/-- A tag entry written to every copy. -/
def State.putTag (s : State) (tag : Nat) (e : TagEntry) : State :=
  s.liveFields.foldl (fun t f => t.store (s.tagAddr f tag) e.toBytes) s

/-- Winnow is enabled: the PG_CTRL.enable of the reporting Field's page. -/
def State.winnowOn (s : State) : Bool := s.enabled .winnow s.reporter

/-- Tags in probe state (R241). -/
def State.probingTags (s : State) : Nat :=
  if s.winnowOn then ((List.range (s.tagCount s.reporter)).filter (fun t => s.probing s.reporter t)).length else 0

/-! ### Opening steps (R224) -/

/-- A step may open: it is closed or open already, or fewer than two are open. -/
def State.stepAdmits (s : State) (step : Nat) : Bool :=
  !s.winnowOn || decide (step ≤ s.winnow.lastClosed) || s.winnow.openSteps.contains step || decide (s.winnow.openSteps.length < 2)

/-- The records of a counter area emptied in every copy. -/
def State.emptyArea (s : State) (area : Nat) : State :=
  s.liveFields.foldl (fun t f => (List.range (s.tagCount f)).foldl (fun t tag =>
    t.store (s.tableBase f + s.tagCount f * 64 + area * s.tagCount f * 128 + tag * 128) Tally.empty.toBytes) t) s

/-- The area that a step takes as it opens: the one that the other open step does not hold or, where none is open, the
one that does not hold the combined record of the last closed step, which is kept until s + 2 opens (R223, R225). -/
def State.freeArea (s : State) : Nat :=
  1 - (match s.winnow.openSteps with
    | x :: _ => s.recArea x
    | [] => s.recArea s.winnow.lastClosed)

/-- A step opens as its first descriptor reaches a Field: it takes an area, with every record in it empty. -/
def State.openStep (s : State) (step : Nat) : State :=
  if !s.winnowOn || decide (step ≤ s.winnow.lastClosed) || s.winnow.openSteps.contains step then s
  else
    let a := s.freeArea
    let s1 := s.emptyArea a
    { s1 with winnow := { s1.winnow with
      openSteps := s1.winnow.openSteps ++ [step]
      areas := (step, a) :: s1.winnow.areas.filter (fun x => x.2 != a) } }

/-! ### Non-finite flag and maxima (R228, R229, R237) -/

/-- The combined record of a tag for a step (R225); empty for a step that is not open. -/
def State.combined (s : State) (step tag : Nat) : Tally :=
  if s.winnow.openSteps.contains step then Tally.sum (s.liveFields.map (fun f => s.readRec (s.recAddr f step tag))) else Tally.empty

/-- The module's non-finite flag of a step, as it stands now (R222, R229). -/
def State.nonFinite (s : State) (step : Nat) : Bool :=
  s.winnowOn && (s.winnow.nfUntracked.contains step ||
  (s.winnow.openSteps.contains step && (List.range (s.tagCount s.reporter)).any (fun tag =>
    (s.tagEntry tag).nfGate && decide (0 < (s.combined step tag).nf))))

/-- The module's maximum of every job-scope tag that has one: of the step's records, or of the probe
maxima (R228, R237, R385). -/
def State.jobMaxima (s : State) (step : Nat) (probe : Bool) : List (Nat × Int) :=
  if !s.winnowOn then [] else
  (List.range (s.tagCount s.reporter)).filterMap (fun tag =>
    let e := s.tagEntry tag
    if !e.jobScope then none
    else if probe then
      (if e.probe then (s.liveFields.foldl (fun m f => maxExpOf m (expOf (s.num (s.probeAddr f tag) 2))) none).map (fun m => (tag, m)) else none)
    else (s.combined step tag).maxExp.map (fun m => (tag, m)))

/-- The probe maxima of every copy emptied, as a pre-pass begins. -/
def State.emptyProbes (s : State) : State :=
  s.liveFields.foldl (fun t f => (List.range (s.tagCount f)).foldl (fun t tag =>
    t.store (s.probeAddr f tag) (leBytes 2 0x8000)) t) s

/-- The job's probe maxima written into every copy (R237, R385); a tag beyond a copy's table has no place in it. -/
def State.putProbeMaxima (s : State) (ms : List (Nat × Int)) : State :=
  s.liveFields.foldl (fun t f => (ms.filter (fun m => decide (m.1 < s.tagCount f))).foldl (fun t m =>
    t.store (s.probeAddr f m.1) (leBytes 2 (expField (some m.2)))) t) s

/-- The probe maximum of a tag over the Fields' copies. -/
def State.probeMax (s : State) (tag : Nat) : Option Int :=
  s.liveFields.foldl (fun m f => maxExpOf m (expOf (s.num (s.probeAddr f tag) 2))) none

/-- A scale clamped to −512 to 511 (R227). -/
def clampScale (x : Int) : Int := max (-512) (min 511 x)

/-- The scale that expansion places for a tag: probe_scale in a pre-pass and E_pre's scale in the real
pass while the tag is in probe state, the current scale otherwise (R226, R237). -/
def State.scaleFor (s : State) (tag : Nat) (pre : Bool) : Int :=
  if !s.winnowOn || s.tagCount s.reporter ≤ tag then 0
  else
    let e := s.tagEntry tag
    if e.probe then
      (if pre then e.probeScale
       else match s.probeMax tag with
        | some m => clampScale (m - topExpOf e.format + (e.margin : Int) + (e.offset : Int))
        | none => e.probeScale)
    else e.scale

/-! ### Closing a step (R225 to R234) -/

/-- What the close of one tag adds to the step's report. -/
structure CloseSum where
  st : State
  alarmed : List Nat
  clamped : Bool
  wasProbing : Bool

/-- The delayed scale of an entry after the close of step s, and whether it was clamped; none where the
window holds no entry (R227). -/
def TagEntry.nextScale (e : TagEntry) (step : Nat) : Option (Int × Bool) :=
  let steps := (List.range e.window).filter (fun i => decide (i ≤ step))
  let top := steps.foldl (fun m i => maxExpOf m (expOf (e.hist.getD ((step - i) % 16) 0x8000))) none
  top.map (fun m =>
    let x := m - topExpOf e.format + (e.margin : Int) + (e.offset : Int)
    (clampScale x, x != clampScale x))

/-- The silent check of an entry against a combined record: the new entry and whether the alarm fires
(R233, R234). -/
def TagEntry.silentCheck (e : TagEntry) (t : Tally) (dN dPpm : Nat) : TagEntry × Bool :=
  if !e.silentOn || t.elements = 0 then (e, false)
  else
    let ppm := if bitsOf e.cfg 39 20 = 0 then dPpm else bitsOf e.cfg 39 20
    let n := if bitsOf e.cfg 55 40 = 0 then dN else bitsOf e.cfg 55 40
    if ppm * t.elements ≤ t.zeros * 1000000 then
      let streak := min 65535 (bitsOf e.st 39 24 + 1)
      let fires := n ≤ streak && !bitOf e.st 40
      ({ e with st := setBits (setBits e.st 39 24 streak) 40 40 (if fires || bitOf e.st 40 then 1 else 0) }, fires)
    else ({ e with st := setBits e.st 40 24 0 }, false)

/-- The close of one tag (R225 steps 1 to 5). -/
def closeTag (step : Nat) (skip : Bool) (verdict : Option Verdict) (acc : CloseSum) (tag : Nat) : CloseSum :=
  let s := acc.st
  let r := s.reporter
  let e := s.tagEntry tag
  if e.bad then { acc with st := s.raiseErr .winnow r 3 0x0309 0 0 0 }
  else if !(e.delayed || e.silentOn || e.nfGate) then acc
  else
    let t := s.combined step tag
    let mx := match verdict with
      | some v => if e.jobScope then (v.maxima.find? (fun m => m.1 == tag)).map (fun m => m.2) else t.maxExp
      | none => t.maxExp
    let e1 := if skip then
        { e with hist := e.hist.set (step % 16) 0x8000, st := setBits e.st 13 10 (min 15 (e.offset + e.backoff)) }
      else { e with hist := e.hist.set (step % 16) (expField mx) }
    let dflt := s.reg (winnowReg r 0x108)
    let sc := if skip then (e1, false) else e1.silentCheck t (bitsOf dflt 35 20) (bitsOf dflt 19 0)
    let rec1 := min 16 (e.recorded + 1)
    let st1 := setBits sc.1.st 22 18 rec1
    let st2 := if e.window ≤ rec1 then setBits st1 23 23 0 else st1
    let e2 := { sc.1 with last := step % 2 ^ 32, st := st2 }
    let scl := if e2.delayed then e2.nextScale step else none
    let e3 := match scl with
      | some (v, c) => { e2 with st := setBits (setBits e2.st 9 0 (toTwos 10 v)) 41 41 (b2n c) }
      | none => e2
    let s0 := s.putTag tag e3
    let s1 := if s.winnow.openSteps.contains step then s.liveFields.foldl (fun u f => u.store (s.recAddr f step tag) t.toBytes) s0 else s0
    let s2 := if scl.any (fun x => x.2) then s1.raise .winnow r 4 0 0 else s1
    let s3 := if sc.2 then s.liveFields.foldl (fun u f => u.bump (winnowReg f 0x148)) s2 else s2
    let s4 := if sc.2 && !s.winnow.masks.contains tag then s3.raiseErr .winnow r 0 0x0310 0 0 0 else s3
    ⟨s4, if sc.2 then acc.alarmed ++ [tag] else acc.alarmed, acc.clamped || scl.any (fun x => x.2), acc.wasProbing || e.probe⟩

/-- The step report's bytes (R232). -/
def reportImage (step : Nat) (skip clamped pre : Bool) (alarmed flagging : List Nat) : List Byte :=
  leBytes 8 (step % 2 ^ 32 + (b2n skip <<< 32) + (b2n clamped <<< 33) + (b2n pre <<< 34)) ++
  leBytes 8 (alarmed.length % 2 ^ 32 + (flagging.length <<< 32)) ++
  (List.range 1024).flatMap (fun i => leBytes 2 (alarmed.getD i 0)) ++
  (List.range 1024).flatMap (fun i => leBytes 4 (flagging.getD i 0))

/-- The decay of every tag's back-off offset by one (R230). -/
def State.decayOffsets (s : State) : State :=
  (List.range (s.tagCount s.reporter)).foldl (fun t tag =>
    let e := t.tagEntry tag
    if e.offset = 0 then t else t.putTag tag { e with st := setBits e.st 13 10 (e.offset - 1) }) s

/-- What a close reads: the tag entries and, of an open step, every Field's records. -/
def State.closeReads (s : State) (step : Nat) : List (Nat × Nat) :=
  (s.tagAddr s.reporter 0, s.tagCount s.reporter * 64) ::
    (if s.winnow.openSteps.contains step then s.liveFields.map (fun f => (s.recAddr f step 0, s.tagCount f * 128)) else [])

/-- The close of a step: every tag, the report, the decay count, the events and the counters. A step under which no
descriptor was issued is closed with no reports; it takes an area for its combined record where one is free. -/
def State.closeStep (s0 : State) (step : Nat) : State :=
  let s := if s0.winnow.openSteps.length < 2 then s0.openStep step else s0
  let r := s.reporter
  let verdict := s.verdicts.find? (fun v => v.step == step && !v.probe)
  let skip := verdict.any (fun v => v.flag)
  let pre := s.winnow.preSteps.contains step
  let cs := (List.range (s.tagCount r)).foldl (closeTag step skip verdict) ⟨s, [], false, false⟩
  let s1 := cs.st
  let n := if skip then 0 else s.winnow.decay + 1
  let due := !skip && decide (s.rf (winnowReg r 0x108) 51 36 ≤ n)
  let s2 := if due then s1.decayOffsets else s1
  let flagging := (verdict.map (fun v => v.members)).getD []
  let s3 := s2.store (s2.reportBase r) (reportImage step skip cs.clamped pre cs.alarmed (if skip then flagging else []))
  let s4 := { s3 with winnow := { s3.winnow with
    lastClosed := step
    decay := if due then 0 else n
    openSteps := s3.winnow.openSteps.filter (fun x => x != step)
    nfUntracked := setErase s3.winnow.nfUntracked step
    preSteps := setErase s3.winnow.preSteps step } }
  let s5 := if skip then s4.raiseErr .winnow r 1 0x0311 0 0 0 else s4
  let s6 := if cs.wasProbing && s5.probingTags = 0 then s5.raiseErr .winnow r 2 0x0312 0 0 0 else s5
  s6.liveFields.foldl (fun t f =>
    let t1 := t.bump (winnowReg f 0x138)
    let t2 := if skip then t1.bump (winnowReg f 0x140) else t1
    if pre then t2.bump (winnowReg f 0x150) else t2) s6

/-! ### Descriptors (R238, R239) -/

/-- The fields of a Winnow word 1. -/
structure WinnowF where
  field : Nat
  first : Nat
  count : Nat
  step : Nat
  addr : Nat
  deriving DecidableEq, Repr

def winnowF (d : List Word512) : WinnowF :=
  let w := dword d 1
  ⟨fld w 3 0, fld w 31 16, fld w 48 32, fld w 95 64, fld w 175 128⟩

/-- The bytes a Winnow descriptor addresses. -/
def winnowFootprint (d : List Word512) : List (Nat × Nat) :=
  let g := winnowF d
  if g.count = 0 then []
  else match hOpcode (dword d 0) with
    | 2 => [(g.addr, 8 * g.count)]
    | 3 => [(g.addr, 16 + 64 * g.count)]
    | 4 => [(g.addr, 16 + 64 * g.count)]
    | _ => []

/-- Checks 1 to 7 of R239; 0 where all pass. -/
def State.winnowParse (s : State) (d : List Word512) : Nat :=
  let g := winnowF d
  let w := dword d 1
  let op := hOpcode (dword d 0)
  let fp := winnowFootprint d
  let named := op = 2 || op = 3 || op = 4
  if !s.winnowOn then 0x030A
  else if fld w 511 176 ≠ 0 || fld w 127 96 ≠ 0 || fld w 63 49 ≠ 0 || fld w 15 4 ≠ 0 ||
      (!named && (g.addr ≠ 0 || g.field ≠ 0)) || (op ≠ 1 && g.step ≠ 0) || (op = 1 && (g.count ≠ 0 || g.first ≠ 0)) then 0x0103
  else if named && (8 ≤ g.field || s.lost g.field) then 0x0305
  else if s.tagCount s.reporter < g.first + g.count || allOnes 17 g.count then 0x0201
  else if !s.rangesMapped fp then 0x0202
  else if !s.rangesInTilth g.field fp || rangesOverlap fp [(s.tableBase g.field, tableBytes (s.tagCount g.field)), (s.reportBase g.field, reportBytes)] then 0x0306
  else if g.addr % 64 ≠ 0 then 0x0307
  else 0

/-- A Winnow descriptor may run: its gate has fired and those issued before it have completed (R238). -/
def State.winnowReady (s : State) (f : Flight) : Bool :=
  f.fired && !(s.flights.takeWhile (fun g => g.id != f.id)).any (fun g => g.cls == 0x0A)

/-- CLOSE_STEP: once every descriptor issued under a step up to its own has completed; Winnow's own and
the furlong's are no part of a step (R225, R239 check 8). Where the table it reads is poisoned it closes nothing (R257). -/
def State.runCloseStep (s : State) (id : Nat) : State :=
  match s.flightOf id 0x0A 1 with
  | none => s
  | some f =>
    let step := (winnowF f.words).step
    if !s.winnowReady f then s
    else if step ≠ s.winnow.lastClosed + 1 then s.refuseFlight id 0x0308
    else if s.flights.any (fun g => g.id != id && g.cls != 0x0A && g.cls != 0x08 && decide (g.step ≤ step)) then s
    else if s.rangesPoisoned (s.closeReads step) then s.complete id 0x0402
    else (s.closeStep step).complete id 0

/-- SET_TAGS (R238, R236). -/
def State.runSetTags (s : State) (id : Nat) : State :=
  match s.flightOf id 0x0A 2 with
  | none => s
  | some f =>
    let g := winnowF f.words
    let word (i : Nat) := s.num (g.addr + 8 * i) 8
    if !s.winnowReady f then s
    else if s.rangesPoisoned (winnowFootprint f.words) then s.complete id 0x0402
    else if (List.range g.count).any (fun i => tagCfgBad (word i)) then s.refuseFlight id 0x0309
    else
      ((List.range g.count).foldl (fun t i =>
        t.putTag (g.first + i) ⟨word i, b2n (bitOf (word i) 4) <<< 23, 0, emptyHist, 0⟩) s).complete id 0

/-- SAVE_STATE (R238); it writes nothing where an entry is poisoned (R257). -/
def State.runSaveState (s : State) (id : Nat) : State :=
  match s.flightOf id 0x0A 3 with
  | none => s
  | some f =>
    let g := winnowF f.words
    if !s.winnowReady f then s
    else if g.count = 0 then s.complete id 0
    else if s.poisonedIn (s.tagAddr s.reporter g.first) (64 * g.count) then s.complete id 0x0402
    else
      (s.store g.addr (leBytes 8 (s.winnow.lastClosed % 2 ^ 32 + ((s.winnow.decay % 65536) <<< 32)) ++ leBytes 8 0 ++
        (List.range g.count).flatMap (fun i => (s.tagEntry (g.first + i)).toBytes))).complete id 0

/-- LOAD_STATE (R238, R239 checks 8 to 10). -/
def State.runLoadState (s : State) (id : Nat) : State :=
  match s.flightOf id 0x0A 4 with
  | none => s
  | some f =>
    let g := winnowF f.words
    let m := s.num g.addr 8
    let entry (i : Nat) := s.readTag (g.addr + 16 + 64 * i)
    if !s.winnowReady f then s
    else if !s.winnow.openSteps.isEmpty then s.refuseFlight id 0x0308
    else if g.count = 0 then s.complete id 0
    else if s.rangesPoisoned (winnowFootprint f.words) then s.complete id 0x0402
    else if (List.range g.count).any (fun i => (entry i).bad) then s.refuseFlight id 0x0309
    else if m / 2 ^ 48 ≠ 0 || s.num (g.addr + 8) 8 ≠ 0 then s.refuseFlight id 0x030B
    else
      let s1 := (List.range g.count).foldl (fun t i => t.putTag (g.first + i) (entry i)) s
      ({ s1 with winnow := { s1.winnow with lastClosed := m % 2 ^ 32, decay := bitsOf m 47 32 } }).complete id 0

/-- PROBE (R236, R238): tag by tag, up to an entry that is poisoned (R257). -/
def State.runProbe (s : State) (id : Nat) : State :=
  match s.flightOf id 0x0A 5 with
  | none => s
  | some f =>
    let g := winnowF f.words
    if !s.winnowReady f then s
    else
      let bad (i : Nat) : Bool := s.poisonedIn (s.tagAddr s.reporter (g.first + i)) 64
      (((List.range g.count).takeWhile (fun i => !bad i)).foldl (fun t i =>
        let e := t.tagEntry (g.first + i)
        if e.delayed then t.putTag (g.first + i) { e with hist := emptyHist, st := setBits (setBits e.st 22 18 0) 23 23 1 }
        else t) s).complete id (if (List.range g.count).any bad then 0x0402 else 0)

/-! ### The WINNOW page (R240, R241) -/

/-- PG_CTRL.enable goes from 0 to 1: every entry zero, both areas and the probe maxima empty. -/
def State.enableWinnow (s : State) : State :=
  let s1 := s.liveFields.foldl (fun t f => t.zeroRange (s.tableBase f) (s.tagCount f * 64)) s
  let s2 := ((s1.emptyArea 0).emptyArea 1).emptyProbes
  { s2 with winnow := { s2.winnow with lastClosed := 0, decay := 0 } }

/-- A WN_CONFIG value fits: every byte of table and report in populated Tilth of each Field in service,
and no byte in both. -/
def State.winnowConfigOk (s : State) (v : Nat) : Bool :=
  let t := 2 ^ bitsOf v 12 8
  let tb := bitsOf v 47 32 * 4096
  let rb := bitsOf v 31 16 * 4096
  s.liveFields.all (fun f => inTilth f (tilthBase f + tb) (tableBytes t) && s.populated (tilthBase f + tb) (tableBytes t) &&
    inTilth f (tilthBase f + rb) reportBytes && s.populated (tilthBase f + rb) reportBytes) &&
  !rangesOverlap [(tb, tableBytes t)] [(rb, reportBytes)]

/-- A write of WN_SILENT_MASK (R235). -/
def State.maskTag (s : State) (v : Nat) : State :=
  let tag := bitsOf v 15 0
  { s with winnow := { s.winnow with masks := if bitOf v 16 then setInsert s.winnow.masks tag else setErase s.winnow.masks tag } }

/-- A warm reset ends every open step without closing it and discards its counts: a later close of such a step finds
only what descriptors issued anew reported (R240). -/
def State.dropSteps (s : State) : State :=
  { s with winnow := { s.winnow with
    openSteps := [], nfUntracked := [], preSteps := []
    areas := s.winnow.areas.filter (fun x => !s.winnow.openSteps.contains x.1) } }

end Sys2Proof.Machine
end

