-- ==== Sys2Proof/Machine/Tilth.lean ====
section
/-!
DEFINITION. Tilth: layout and bank states (R246 to R254), ECC and poison (R255 to R257, R265), and the
plot tester with its repair map (R258 to R263, R266).
-/
namespace Sys2Proof.Machine

def tilthReg (f off : Nat) : Nat := regAddr .tilth f off
def plotReg (f off : Nat) : Nat := regAddr .tilthTest f off

/-! ### Banks -/

/-- A device address lies in a bank of a Field's Tilth. -/
def State.inBank (s : State) (f b a : Nat) : Bool :=
  match areaOf a with
  | .tilth g o => g == f && s.bankOf f o == b
  | _ => false

/-- A bank's contents lost, or written as zero with its poison cleared (R251). -/
def State.zeroBank (s : State) (f b : Nat) : State :=
  { s with mem := s.mem.filter (fun c => !s.inBank f b c.1), poison := s.poison.filter (fun a => !s.inBank f b a) }

/-- The state that a TILTH_BANK_STATE value gives bank j of a set. -/
def bankCode (v j : Nat) : Nat := bitsOf v (2 * j + 1) (2 * j)

/-- A TILTH_BANK_STATE value is accepted for a set: no reserved state, one state for an interleaved set,
no Off to Retention, no change of a pending bank (R249, R251, R252). -/
def State.bankWriteOk (s : State) (f set v : Nat) : Bool :=
  let js := List.range 32
  js.all (fun j => bankCode v j != 3) &&
  (s.setLinear f set || js.all (fun j => bankCode v j == bankCode v 0)) &&
  js.all (fun j =>
    let old := s.bankState f (32 * set + j)
    !(old == 2 && bankCode v j == 1) && !(s.bankPending f (32 * set + j) && bankCode v j != old))

/-- A TILTH_BANK_STATE write: each changed bank is pending until it has its new state. One that leaves On
waits for the drain of R252; any other transition begins at once. -/
def State.bankWrite (s : State) (f set v : Nat) : State :=
  let moves := (List.range 32).filterMap (fun j =>
    let old := s.bankState f (32 * set + j)
    if bankCode v j = old then none else some (⟨f, 32 * set + j, old, old != 0⟩ : BankMove))
  { (s.setReg (tilthReg f (0x108 + 8 * set)) v) with bankMoves := s.bankMoves ++ moves }

/-- Every bank of a set is Off and none pending: its mode may change (R247). -/
def State.setOff (s : State) (f set : Nat) : Bool :=
  (List.range 32).all (fun j => s.bankState f (32 * set + j) == 2 && !s.bankPending f (32 * set + j))

/-- A TILTH_LAYOUT value is accepted (R247). -/
def State.layoutOk (s : State) (f v : Nat) : Bool :=
  (List.range 3).all (fun i => bitOf v i == s.setLinear f i || s.setOff f i)

/-- BANK_TRANSITION_DONE: the transition time of R251 has passed. -/
def State.bankDone (s : State) (f b : Nat) : State :=
  match s.bankMoves.find? (fun m => m.field == f && m.bank == b && m.begun) with
  | none => s
  | some m =>
    let s1 := { s with bankMoves := s.bankMoves.filter (fun x => !(x.field == f && x.bank == b)) }
    if s.bankState f b = 2 || m.source = 2 then s1.zeroBank f b else s1

/-- The pending bits of a set (R264). -/
def State.pendingBits (s : State) (f set : Nat) : Nat :=
  (List.range 32).foldl (fun a j => a + (b2n (s.bankPending f (32 * set + j)) <<< j)) 0

/-! ### ECC (R255, R256, R265) -/

/-- An uncorrectable error in the sector at an address: poisoned, counted and raised. -/
def State.tilthEcc (s : State) (a requester workId : Nat) : State :=
  match areaOf a with
  | .tilth f o =>
    let base := a / 32 * 32
    if !s.byteOk a then s
    else
      let s1 := ({ s with poison := setInsert s.poison base }).bump (tilthReg f 0x130)
      s1.raiseErr .tilth f 0 0x0401 workId
        ((o / 32 % 4) + (s.rowOf f o <<< 4) + (s.bankOf f o <<< 18) + (workId <<< 32)) requester
  | _ => s

/-- A corrected error: counted, and the sector written back with the same value (R255). -/
def State.tilthWriteback (s : State) (a : Nat) : State :=
  match areaOf a with
  | .tilth f _ => if s.byteOk a then s.bump (tilthReg f 0x128) else s
  | _ => s

/-! ### Plot testing (R258 to R263) -/

def State.plot (s : State) (f : Nat) : PlotSt := s.plots.getD f ⟨[], [], []⟩
def State.setPlot (s : State) (f : Nat) (p : PlotSt) : State := { s with plots := s.plots.set f p }

/-- TT_CONTROL of a Field: run, concurrency, interval. -/
def State.ttRun (s : State) (f : Nat) : Bool := bitOf (s.reg (plotReg f 0x100)) 0
def State.ttConcurrency (s : State) (f : Nat) : Nat := s.rf (plotReg f 0x100) 13 8
def State.ttInterval (s : State) (f : Nat) : Nat := s.rf (plotReg f 0x100) 47 16

/-- Repairs in a bank; 7 of them exhaust it (R261). -/
def PlotSt.repairs (p : PlotSt) (b : Nat) : Nat := (p.map.filter (fun r => r.bank == b)).length

/-- The save plot of a bank: its lowest spare that no entry uses (R261). -/
def PlotSt.savePlot (p : PlotSt) (b : Nat) : Nat :=
  ((List.range 8).find? (fun n => !p.map.any (fun r => r.bank == b && r.spare == n))).getD 7

/-- A bank that may be tested: On, with an unused spare left. -/
def State.testable (s : State) (f b : Nat) : Bool := s.bankOn f b && decide ((s.plot f).repairs b < 7)

/-- PLOT_TEST_START: the next plot of a bank under test, or plot 0 of the next bank of the pass
(R258). -/
def State.plotStart (s : State) (f b : Nat) : State :=
  let p := s.plot f
  if !s.ttRun f || s.lost f || !s.testable f b then s
  else
    match p.slots.find? (fun x => x.bank == b) with
    | some x =>
      let due := match x.start with
        | some t => decide (t + almUs (s.ttInterval f) ≤ s.now)
        | none => true
      if x.testing || !due || !((p.slots.filter (fun y => s.testable f y.bank)).take (s.ttConcurrency f)).contains x then s
      else s.setPlot f { p with slots := p.slots.map (fun (y : PlotSlot) =>
        if y.bank == b then { y with start := some s.now, testing := true } else y) }
    | none =>
      let left := if p.left.isEmpty && p.slots.isEmpty then List.range 96 else p.left
      let next := left.dropWhile (fun c => !s.testable f c)
      if next.headD 96 = b && (p.slots.filter (fun y => s.testable f y.bank)).length < s.ttConcurrency f then
        s.setPlot f { p with left := next.drop 1, slots := p.slots ++ [⟨b, 0, some s.now, true⟩] }
      else s

/-- The tester goes on with some banks' plots; a full pass over the banks, once it ends, is counted (R266). -/
def State.plotSlots (s : State) (f : Nat) (slots : List PlotSlot) : State :=
  let p := s.plot f
  let s1 := s.setPlot f { p with slots := slots }
  if slots.isEmpty && (p.left.filter (s.testable f)).isEmpty then (s1.setPlot f { p with slots := [], left := [] }).bump (plotReg f 0x110) else s1

/-- The tester moves on from a bank's plot. -/
def State.plotNext (s : State) (f b : Nat) : State :=
  s.plotSlots f (((s.plot f).slots.map (fun (y : PlotSlot) =>
    if y.bank == b then { y with plot := y.plot + 1, testing := false } else y)).filter
      (fun y => decide (y.plot < 512) && s.testable f y.bank))

/-- A bank that leaves On is tested no further in this pass, and its place goes to another bank (R252, R258). -/
def State.plotLeave (s : State) (f b : Nat) : State :=
  if (s.plot f).slots.any (fun y => y.bank == b) then s.plotSlots f ((s.plot f).slots.filter (fun y => y.bank != b)) else s

/-- PLOT_TEST_END: passed, the plot is restored; failed, the redirection is permanent and the repair map
grows, in flash where Steward could write it (R258, R261, R262). -/
def State.plotEnd (s : State) (f b : Nat) (passed flashOk : Bool) : State :=
  let p := s.plot f
  match p.slots.find? (fun x => x.bank == b && x.testing) with
  | none => s
  | some x =>
    let s1 := s.bump (plotReg f 0x118)
    if passed then s1.plotNext f b
    else
      let s2 := (s1.bump (plotReg f 0x120)).setPlot f { p with map := p.map ++ [⟨b, x.plot, p.savePlot b, flashOk⟩] }
      let s3 := (s2.raise .tilthTest f 0 0x0403 0).raiseErr .tilthTest f 1 0x0403 0 0 0
      let s4 := if (s3.plot f).repairs b = 7 then s3.raiseErr .tilthTest f 2 0x0404 0 0 0 else s3
      let s5 := if flashOk then s4 else s4.raiseErr .tilthTest f 3 0x0405 0 0 0
      s5.plotNext f b

/-- PLOT_TEST_STEAL: a test that has not ended 10 ms after its start takes a port cycle (R260). -/
def State.plotSteal (s : State) (f b : Nat) : State :=
  if (s.plot f).slots.any (fun x => x.bank == b && x.testing && x.start.any (fun t => decide (t + almMs 10 < s.now))) then
    s.bump (plotReg f 0x128) else s

/-- Every plot under test in some banks restored: redirection undone, contents as they stand (R263). -/
def State.plotRestore (s : State) (f : Nat) (banks : Nat → Bool) : State :=
  let p := s.plot f
  s.setPlot f { p with slots := p.slots.map (fun (y : PlotSlot) => if banks y.bank then { y with testing := false } else y) }

/-- TT_CONTROL written: run 0 restores every plot under test (R263). -/
def State.ttWrite (s : State) (f v : Nat) : State :=
  let s1 := s.setReg (plotReg f 0x100) v
  if bitOf v 0 then s1 else s1.plotRestore f (fun _ => true)

/-- A block reset of a TILTH_TEST page stops the tester (R263). -/
def State.ttReset (s : State) (f : Nat) : State := s.setPlot f { s.plot f with left := [], slots := [] }

/-- A cold reset discards tests, and repairs that flash does not hold (R262, R263). -/
def State.plotsCold (s : State) : State :=
  { s with plots := s.plots.map (fun (p : PlotSt) => ⟨[], [], p.map.filter (fun r => r.flash)⟩) }

/-- The next bank to start and the plot in it: a bank not yet begun where the concurrency has room for one, else the
waiting bank whose last test started first, else the bank whose test does (R258, R266). -/
def State.ttNext (s : State) (f : Nat) : Nat × Nat :=
  let p := s.plot f
  let new := (if p.left.isEmpty && p.slots.isEmpty then List.range 96 else p.left).filter (s.testable f)
  let first (l : List PlotSlot) : Option PlotSlot := l.find? (fun x => l.all (fun y => decide (x.start.getD 0 ≤ y.start.getD 0)))
  let on := p.slots.filter (fun x => s.testable f x.bank)
  match new, first (on.filter (fun x => !x.testing)), first on with
  | b :: _, w, _ => if on.length < s.ttConcurrency f then (b, 0) else (w.map (fun x => (x.bank, x.plot))).getD (b, 0)
  | [], some x, _ => (x.bank, x.plot)
  | [], none, some x => (x.bank, x.plot + 1)
  | [], none, none => (0, 0)

/-- Read-only fields of the TILTH_TEST page (R266). The restore of R263 is one effect with what follows it, so that no
read finds the tester RESTORING (log entry 75). -/
def State.ttStatus (s : State) (f : Nat) : Nat :=
  let p := s.plot f
  let next := s.ttNext f
  next.2 + (next.1 <<< 16) + (b2n (s.ttRun f && p.slots.any (fun x => x.testing)) <<< 32)
def State.ttSpares (s : State) (f : Nat) : Nat :=
  let p := s.plot f
  let used := (List.range 96).map p.repairs
  p.map.length + ((used.filter (fun n => 7 ≤ n)).length <<< 16) + ((7 - used.foldl max 0) <<< 24)
def State.ttEntry (s : State) (f : Nat) : Nat :=
  match (s.plot f).map[s.rf (plotReg f 0x138) 15 0]? with
  | some r => r.plot + (r.bank <<< 10) + (r.spare <<< 17) + (1 <<< 20)
  | none => 0

end Sys2Proof.Machine
end

