-- ==== Sys2Proof/Machine/Granary.lean ====
section
/-!
DEFINITION. Granary: cached lines marked KEEP (R275 to R277), ECC and scrubbing (R280, R281, R293),
temperatures (R283, R284), training (R285), fresh blocks (R286), stack faults and mapping out (R287 to
R289), FILL and DEMOTE (R290, R291).
-/
namespace Sys2Proof.Machine

def granaryReg (n off : Nat) : Nat := regAddr .granary n off
def cacheReg (f off : Nat) : Nat := regAddr .granaryCache f off

/-! ### Lines marked KEEP (R274 to R276) -/

/-- The stack that holds a line. -/
def State.lineStack (s : State) (a : Nat) : Nat :=
  match areaOf a with
  | .granary f o => (s.stackOf f o).1
  | _ => 24

/-- The set of a line among the 16,384 of its Field's cache: stack-local address bits [20:7]. -/
def State.lineSet (s : State) (a : Nat) : Nat :=
  match areaOf a with
  | .granary f o => f * 16384 + (s.stackOf f o).2 / 128 % 16384
  | _ => 8 * 16384

/-- The Field of a Granary address. -/
def granaryField (a : Nat) : Nat := (a - granaryBase) / granaryRegion

/-- A line allocated or touched under KEEP: most recent; a set at keep_ways gives up its least recent
KEEP line, and no line is taken when keep_ways is 0 (R276). -/
def State.keepLine (s : State) (a : Nat) : State :=
  let f := granaryField a
  let ways := s.rf (cacheReg f 0x100) 4 0
  let others := s.kept.filter (fun x => x != a)
  if s.kept.contains a then { s with kept := others ++ [a] }
  else if ways = 0 then s
  else
    let inSet := s.kept.filter (fun x => s.lineSet x == s.lineSet a)
    if ways ≤ inSet.length then
      ({ s with kept := (s.kept.filter (fun x => x != inSet.headD 0)) ++ [a] }).bump (cacheReg f 0x130)
    else { s with kept := s.kept ++ [a] }

/-- The 128-byte lines of n bytes from a. -/
def linesOf (a n : Nat) : List Nat :=
  if n = 0 then [] else (List.range ((a + n - 1) / 128 - a / 128 + 1)).map (fun i => (a / 128 + i) * 128)

/-- A line has a byte in a range. -/
def lineIn (a n x : Nat) : Bool := decide (0 < n) && decide (a ≤ x + 127) && decide (x < a + n)

/-- The KEEP mark of every line of a range ended (R276, R290). -/
def State.demote (s : State) (a n : Nat) : State := { s with kept := s.kept.filter (fun x => !lineIn a n x) }

/-- The KEEP lines of a range, hit under NORMAL, made most recent in the order of the access (R275). -/
def State.touchLines (s : State) (a n : Nat) : State :=
  if s.kept.any (lineIn a n) then
    { s with kept := s.kept.filter (fun x => !lineIn a n x) ++ (linesOf a n).filter s.kept.contains }
  else s

/-- A read of n bytes under a cache hint: NORMAL makes the lines it hits most recent, KEEP marks its lines, LAST ends the
mark (R275, R276). -/
def State.readHint (s : State) (a n hint : Nat) : State :=
  if !inGranary a n then s
  else if hint = 0 then s.touchLines a n
  else if hint = 2 then (linesOf a n).foldl State.keepLine s
  else if hint = 3 then s.demote a n
  else s

/-- A write of n bytes under a cache hint: as a read, but that LAST acts as STREAM (R275). -/
def State.writeHint (s : State) (a n hint : Nat) : State := if hint = 3 then s else s.readHint a n hint

/-- The default hint of a class (0 CTRL, 1 FEED, 2 COLLECTIVE, 3 SAMPLE, 4 BULK) in the Field whose region holds an address
(R272, R275, R294). -/
def State.classHint (s : State) (cls a : Nat) : Nat := bitsOf (s.reg (cacheReg (granaryField a) 0x110)) (2 * cls + 1) (2 * cls)

/-- A store by a requester that takes its class's default hint (R275). -/
def State.storeAs (s : State) (cls a : Nat) (bs : List Byte) : State := (s.store a bs).writeHint a bs.length (s.classHint cls a)

/-- Reads by a requester that takes its class's default hint (R275). -/
def State.readAs (s : State) (cls : Nat) (rs : List (Nat × Nat)) : State :=
  rs.foldl (fun t r => t.readHint r.1 r.2 (t.classHint cls r.1)) s

/-- After a write of GC_CONFIG each set keeps at most keep_ways lines marked KEEP, its most recent ones (R276; log entry
76). -/
def State.trimKept (s : State) (f : Nat) : State :=
  let ways := s.rf (cacheReg f 0x100) 4 0
  { s with kept := (s.kept.foldr (fun x acc =>
      if granaryField x == f && decide (ways ≤ (acc.filter (fun y => s.lineSet y == s.lineSet x)).length) then acc else x :: acc) []) }

/-! ### ECC (R280, R281, R293) -/

/-- Pseudo-channel, bank, row and sector of a stack-local address (R270). -/
def stackParts (a : Nat) : Nat × Nat × Nat × Nat :=
  let k := a / 256
  let q := (k / 32) * 256 + a % 256
  let page := q / 1024
  (((k ^^^ (k >>> 5)) ^^^ (k >>> 10)) % 32, page % 48, page / 48, q % 1024 / 32)

/-- The block of a Granary address is fresh: reads of it do not touch the stack (R286). -/
def State.freshAt (s : State) (a : Nat) : Bool :=
  match areaOf a with
  | .granary f o => let st := s.stackOf f o; !s.written.contains (st.1 * 36864 + st.2 / 0x200000)
  | _ => false

/-- A corrected Granary error: counted, the sector written back with the same value. -/
def State.granaryCorrected (s : State) (a : Nat) : State :=
  match areaOf a with
  | .granary f o => if s.byteOk a && !s.freshAt a then s.bump (granaryReg (s.stackOf f o).1 0x120) else s
  | _ => s

/-! ### Temperature and training (R283 to R285) -/

/-- A stack replaced. -/
def State.setStack (s : State) (n : Nat) (x : StackSt) : State := { s with stackList := s.stackList.set n x }

/-- A temperature reading of a stack (R283, R284). -/
def State.granaryTemp (s : State) (n : Nat) (t : Int) : State :=
  let x := s.stack n
  let a := granaryReg n 0x110
  let ok := decide (-20 ≤ t) && decide (t ≤ 130) && x.lastTemp.all (fun l => decide (t - l ≤ 10) && decide (l - t ≤ 10))
  if x.state = 3 then s
  else if ok then
    let hold := if 105 ≤ t then true else if t < 100 then false else x.hold
    let mx := max t (x.maxTemp.getD t)
    let s1 := s.setStack n { x with lastTemp := some t, badRun := 0, hold := hold, maxTemp := some mx }
    let s2 := ((s1.setRf a 7 0 (toTwos 8 t)).setRf a 8 8 0).setRf a 23 16 (toTwos 8 mx)
    if (s.rf a 39 32 : Int) ≤ t then s2.raiseErr .granary n 2 0x0413 0 0 0 else s2
  else
    let s1 := (s.setStack n { x with badRun := x.badRun + 1 }).bump (granaryReg n 0x150)
    if 3 ≤ x.badRun + 1 && s.rf a 8 8 = 0 then (s1.setRf a 8 8 1).raiseErr .granary n 3 0x0414 0 0 0 else s1

/-- The temperature that a stack reports to the governor (R283). -/
def State.stackTemp (s : State) (n : Nat) : Int :=
  if s.rf (granaryReg n 0x110) 8 8 = 1 then 95 else ((s.stack n).lastTemp).getD 0

/-- A pseudo-channel retrained, its results handed to Steward; a lane that failed training has been replaced, and the
repair joins the map in flash (R285). -/
def State.granaryRetrain (s : State) (n : Nat) (repaired : Bool) : State :=
  if (s.stack n).state != 1 then s
  else
    let x := s.stack n
    let s1 := (s.setStack n { x with trained := some s.now, lanes := x.lanes + b2n repaired }).bump (granaryReg n 0x148)
    if repaired then s1.raiseErr .granary n 1 0x0415 0 0 0 else s1

/-! ### Fresh blocks (R286) -/

/-- The lowest fresh block of a stack, looking at n blocks from b on. -/
def lowestFresh (written : List Nat) (stack : Nat) : Nat → Nat → Option Nat
  | 0, _ => none
  | n + 1, b => if written.contains (stack * 36864 + b) then lowestFresh written stack n (b + 1) else some b

/-- The controller zeroes the lowest fresh block of a stack in service: it reads as before and is fresh
no more. -/
def State.zeroFresh (s : State) (n : Nat) : State :=
  if (s.stack n).state != 1 then s
  else match lowestFresh s.written n 36864 0 with
    | some b => { s with written := setInsert s.written (n * 36864 + b) }
    | none => s

/-- Every block of a Field's region fresh: its contents are zero, and the cache holds no line of it. -/
def State.freshRegion (s : State) (f : Nat) : State :=
  { (s.zeroRange (granaryBase + f * granaryRegion) granaryRegion) with
    kept := s.kept.filter (fun a => granaryField a != f)
    written := s.written.filter (fun w => w / 36864 / 3 != f) }

/-! ### Stack faults and mapping out (R287 to R289) -/

/-- The windrow queue's ready slots and the crib are emptied where they stand in a Field's Granary region (R354, R471). -/
def State.emptyInRegion (s : State) (f : Nat) : State :=
  let holds (a : Nat) : Bool := inGranary a 1 && (a - granaryBase) / granaryRegion == f
  let c := s.coulter
  { s with coulter := { c with
      slots := if holds (s.rf (regAddr .sample 0 0x100) 47 0) then c.slots.map (fun x => if x = 2 then 0 else x) else c.slots
      crib := if holds (s.rf (regAddr .sample 0 0x110) 47 0) then [] else c.crib } }

/-- A REFILL that runs when a fault strikes starts again from its source, and fill_state reads EMPTY (R489). -/
def State.restartFill (s : State) : State :=
  let hit (g : Flight) : Bool := g.cls == 0x0D && g.op == 4 && g.started
  if s.flights.any hit then
    ({ s with flights := s.flights.map (fun (g : Flight) =>
        if hit g then { g with prog := Prog.reco ⟨0, false, false, 0, 0, none, 0, 0, 0, false, []⟩ } else g) }).setRf
      (regAddr .recovery 0 0x178) 55 48 0
  else s

/-- A stack fails with a code (R287, R288); a crib in its Field region is emptied (R354), and a REFILL that runs starts
again (R489). -/
def State.failStack (s : State) (n code : Nat) : State :=
  let x := s.stack n
  if x.state = 2 || x.state = 3 then s
  else
    let s1 := s.setStack n { x with state := 2, mapoutPending := true }
    let s2 := { s1 with kept := s1.kept.filter (fun a => s1.lineStack a != n) }
    let s3 := (s2.emptyInRegion (n / 3)).restartFill
    s3.raiseErr .granary n 4 code 0 0 0

/-- The uncorrectable errors of a stack within the last 1 ms of Almanac time (R287). -/
def State.recentErrs (s : State) (n : Nat) : List (Nat × Nat) :=
  (s.stack n).errs.filter (fun (e : Nat × Nat) => s.now ≤ e.2 + almMs 1)

/-- R287: uncorrectable errors arose on more than 4 pseudo-channels of a stack within 1 ms. -/
def State.manyChannels (s : State) (n : Nat) : Bool := 
  decide (4 < ((List.range 32).filter (fun (c : Nat) => (s.recentErrs n).any (fun (e : Nat × Nat) => e.1 == c))).length)

/-- An uncorrectable Granary sector: poisoned, counted and raised (R280, R293); on more than 4 pseudo-channels
within 1 ms the stack fails (R287). -/
def State.granaryEcc (s : State) (a cls workId : Nat) : State :=
  match areaOf a with
  | .granary f o =>
    let base := a / 32 * 32
    if !s.byteOk a || s.freshAt a then s
    else
      let st := s.stackOf f o
      let p := stackParts st.2
      let s0 := s.setStack st.1 { s.stack st.1 with errs := s.recentErrs st.1 ++ [(p.1, s.now)] }
      let s1 := ({ s0 with poison := setInsert s0.poison base }).bump (granaryReg st.1 0x128)
      let s2 := s1.raiseErr .granary st.1 0 0x0410 workId
        (p.2.2.2 + ((p.2.2.1 % 65536) <<< 5) + (p.2.1 <<< 21) + (p.1 <<< 27) + (workId <<< 32)) cls
      if s2.manyChannels st.1 then s2.failStack st.1 0x0412 else s2
  | _ => s

/-- GRANARY_SCRUB: the scrubber's read of a sector: clean, corrected or uncorrectable (R281). -/
def State.granaryScrub (s : State) (a outcome : Nat) : State :=
  if outcome = 1 then s.granaryCorrected a else if outcome = 2 then s.granaryEcc a 5 0 else s

/-- A stack failure that hardware finds (R287): training, parity, or errors on more than 4 pseudo-channels, the last
only where the errors stand so. -/
def State.stackFails (s : State) (n cause : Nat) : State :=
  if cause = 0 then s.failStack n 0x0416
  else if cause = 1 then s.failStack n 0x0417
  else if s.manyChannels n then s.failStack n 0x0412 else s

/-- A warm reset maps out every stack with mapout_pending; its region is restriped and fresh (R289). -/
def State.mapOut (s : State) : State :=
  (List.range 24).foldl (fun t n =>
    let x := t.stack n
    if x.mapoutPending then (t.setStack n { x with state := 3, mapoutPending := false }).freshRegion (n / 3) else t) s

/-- Stacks of a Field out of service or failed: PG_STATUS.degraded of the module's recovery view. -/
def State.stacksWorking (s : State) : Nat := ((List.range 24).filter (fun n => (s.stack n).state == 1 && !s.lost (n / 3))).length

/-! ### FILL and DEMOTE (R290, R291) -/

def granaryAddrOf (d : List Word512) : Nat := fld (dword d 1) 47 0
def granaryLenOf (d : List Word512) : Nat := fld (dword d 1) 111 64
def granaryHintOf (d : List Word512) : Nat := fld (dword d 1) 113 112

/-- The range of a Granary descriptor. -/
def granaryFootprint (d : List Word512) : List (Nat × Nat) := [(granaryAddrOf d, granaryLenOf d)]

/-- The checks of R291, in order; 0 where all pass. -/
def State.granaryParse (s : State) (d : List Word512) : Nat :=
  let w := dword d 1
  let a := granaryAddrOf d
  let n := granaryLenOf d
  let h := granaryHintOf d
  if fld w 511 114 ≠ 0 || fld w 63 48 ≠ 0 || (hOpcode (dword d 0) = 1 && h ≠ 0 && h ≠ 2) || (hOpcode (dword d 0) = 2 && h ≠ 0) then 0x0103
  else if allOnes 48 n || 0x2000000 < n then 0x0201
  else if n ≠ 0 && !s.rangesPopulated [(a, n)] then 0x0202
  else if !inGranary a (max n 1) || granaryField a ≠ granaryField (a + max n 1 - 1) then 0x0419
  else if a % 128 ≠ 0 || n % 128 ≠ 0 then 0x041A
  else 0

/-- FILL: the range read into the cache under its hint. -/
def State.runFill (s : State) (id : Nat) : State :=
  match s.flightOf id 0x0C 1 with
  | none => s
  | some f =>
    let a := granaryAddrOf f.words
    let n := granaryLenOf f.words
    if !f.fired then s
    else if f.ending.isSome then s.complete id (f.ending.getD 0)
    else
      let clean := (linesOf a n).takeWhile (fun l => !s.poisonedIn l 128)
      let s1 := if granaryHintOf f.words = 2 then clean.foldl State.keepLine s else s.touchLines a (128 * clean.length)
      s1.complete id (if s.poisonedIn a n then 0x0411 else 0)

/-- DEMOTE: the KEEP mark of every cached line of the range ended. -/
def State.runDemote (s : State) (id : Nat) : State :=
  match s.flightOf id 0x0C 2 with
  | none => s
  | some f =>
    if !f.fired then s
    else (s.demote (granaryAddrOf f.words) (granaryLenOf f.words)).complete id (f.ending.getD 0)

end Sys2Proof.Machine
end

