-- ==== Sys2Proof/Machine/Drill.lean ====
section
/-!
DEFINITION. Drill: queues (R298 to R301), COPY (R302 to R304), rings (R305 to R307), headland gates
(R308, R309), cancellation by work identifier (R311 to R313), checks (R314), reset (R315), the DRILL page
(R316).
-/
namespace Sys2Proof.Machine

/-- A register of the DRILL page of engine e of Field f. -/
def drillReg (f e off : Nat) : Nat := regAddr .drill (4 * f + e) off

/-! ### Descriptor fields (R302) -/

/-- COPY words 1 and 2. -/
structure CopyF where
  src : Nat
  field : Nat
  queue : Nat
  dst : Nat
  hint : Nat
  transpose : Nat
  ringDst : Bool
  x : Nat
  y : Nat
  z : Nat
  gateWork : Nat
  gateQuadrant : Nat
  gateRows : Nat
  gateTile : Bool
  gateOn : Bool
  sy : Nat
  sz : Nat
  dy : Nat
  dz : Nat
  deriving DecidableEq, Repr

def copyF (d : List Word512) : CopyF :=
  let w := dword d 1
  let v := dword d 2
  ⟨fld w 47 0, fld w 52 49, fld w 57 53, fld w 111 64, fld w 114 113, fld w 116 115, bitOf w.toNat 117,
   fld w 159 128, fld w 191 160, fld w 223 192, fld w 255 224, fld w 285 284, fld w 299 288,
   bitOf w.toNat 301, bitOf w.toNat 302, fld v 47 0, fld v 111 64, fld v 175 128, fld v 239 192⟩

/-- RING_SETUP and RING_CREDIT word 1. -/
structure RingF where
  base : Nat
  field : Nat
  queue : Nat
  slots : Nat
  slotBytes : Nat
  deriving DecidableEq, Repr

def ringF (d : List Word512) : RingF :=
  let w := dword d 1
  ⟨fld w 47 0, fld w 52 49, fld w 61 57, fld w 87 80, fld w 127 96⟩

/-- CANCEL word 1 (R311). -/
structure CancelF where
  value : Nat
  mask : Nat
  fields : Nat
  drill : Bool
  furrow : Bool
  harrow : Bool
  deriving DecidableEq, Repr

def cancelF (d : List Word512) : CancelF :=
  let w := dword d 1
  ⟨fld w 31 0, fld w 63 32, fld w 71 64, bitOf w.toNat 72, bitOf w.toNat 73, bitOf w.toNat 74⟩

/-- Element bytes of a transposing COPY. -/
def copyElem (c : CopyF) : Nat := if c.transpose = 0 then 1 else 2 ^ (c.transpose - 1)

/-- The COPY moves nothing (R304). -/
def copyEmpty (c : CopyF) : Bool := c.x == 0 || c.y == 0 || c.z == 0

/-- Source bytes of row i, rows counted through the planes. -/
def copySrcRow (c : CopyF) (i : Nat) : Nat := c.src + i / c.y * c.sz + i % c.y * c.sy

/-- The source footprint (R303). -/
def copySrc (c : CopyF) : List (Nat × Nat) :=
  if copyEmpty c then [] else (List.range (c.y * c.z)).map (fun i => (copySrcRow c i, c.x))

/-- The destination footprint from a base (R303). -/
def copyDst (c : CopyF) (base : Nat) : List (Nat × Nat) :=
  if copyEmpty c then []
  else if c.transpose = 0 then (List.range (c.y * c.z)).map (fun i => (base + i / c.y * c.dz + i % c.y * c.dy, c.x))
  else (List.range (c.x / copyElem c)).map (fun i => (base + i * c.dy, c.y * copyElem c))

/-- Two ranges of one list share a byte. -/
def selfOverlap : List (Nat × Nat) → Bool
  | [] => false
  | r :: rest => rangesOverlap [r] rest || selfOverlap rest

/-- The bytes of a Drill descriptor that its checks look at (R314). -/
def drillFootprint (d : List Word512) : List (Nat × Nat) :=
  match hOpcode (dword d 0) with
  | 1 => let c := copyF d; copySrc c ++ (if c.ringDst then [] else copyDst c c.dst)
  | 2 => let r := ringF d; if r.slots = 0 then [] else [(r.base, r.slots * r.slotBytes)]
  | _ => []

/-- The Field whose Drill runs a descriptor. -/
def drillField (d : List Word512) : Nat := if hOpcode (dword d 0) = 1 then (copyF d).field else (ringF d).field

/-- The queue it names. -/
def drillQueue (d : List Word512) : Nat := if hOpcode (dword d 0) = 1 then (copyF d).queue else (ringF d).queue

/-! ### Checks (R314) -/

/-- Check 3: reserved fields. -/
def drillReserved (d : List Word512) : Bool :=
  let w := dword d 1
  let z (hi lo : Nat) : Bool := fld w hi lo != 0
  match hOpcode (dword d 0) with
  | 1 =>
    let c := copyF d
    let v := dword d 2
    z 511 303 || z 300 300 || z 287 286 || z 283 256 || z 127 118 || z 112 112 || z 63 58 || z 48 48 ||
    fld v 511 240 != 0 || fld v 191 176 != 0 || fld v 127 112 != 0 || fld v 63 48 != 0 ||
    (!c.gateOn && (c.gateTile || c.gateRows != 0 || c.gateQuadrant != 0 || c.gateWork != 0)) ||
    (c.gateOn && !c.gateTile && c.gateRows == 0) || (c.gateTile && c.gateRows != 0) || (c.ringDst && c.dst != 0)
  | 2 => z 511 128 || z 95 88 || z 79 62 || z 56 53 || z 48 48
  | 3 => z 511 88 || z 79 62 || z 56 53 || z 48 0
  | _ => z 511 75

/-- A queue's ring. -/
def State.ring (s : State) (q : Nat) : Ring := s.rings.getD q ⟨0, 0, 0, 0, 0⟩
def State.setRing (s : State) (q : Nat) (r : Ring) : State := { s with rings := s.rings.set q r }

/-- The bytes of the ring that a ring COPY writes into, as its queue has it now (R314). -/
def State.ringBytes (s : State) (d : List Word512) : List (Nat × Nat) :=
  let c := copyF d
  let r := s.ring (c.field * 32 + c.queue)
  if hOpcode (dword d 0) = 1 && c.ringDst && !copyEmpty c && r.slots != 0 then [(r.base, r.slots * r.slotBytes)] else []

/-- The footprint of a Drill descriptor, a ring COPY's ring included (R314). -/
def State.drillFootprint (s : State) (d : List Word512) : List (Nat × Nat) := Machine.drillFootprint d ++ s.ringBytes d

/-- Checks 1 to 9, in order; 0 where all pass. -/
def State.drillParse (s : State) (d : List Word512) : Nat :=
  let op := hOpcode (dword d 0)
  let c := copyF d
  let r := ringF d
  let fp := s.drillFootprint d
  let copy := op = 1
  let dst := if c.ringDst then s.ringBytes d else copyDst c c.dst
  let own := if c.ringDst then copyDst c 0 else dst
  if (op ≠ 4 && (8 ≤ drillField d || s.lost (drillField d))) || (op = 4 && (List.range 8).any (fun f => bitOf (cancelF d).fields f && s.lost f)) then 0x0428
  else if op ≠ 4 && 24 ≤ drillQueue d then 0x0420
  else if drillReserved d then 0x0103
  else if (copy && (allOnes 32 c.x || allOnes 32 c.y || allOnes 32 c.z || allOnes 12 c.gateRows || 2 ^ 36 < c.x * c.y * c.z)) ||
      (op = 2 && (r.slots = 1 || 64 < r.slots || r.slotBytes < 64 || 2 ^ 31 < r.slotBytes)) || (op = 3 && 64 < r.slots) then 0x0201
  else if copy && c.transpose ≠ 0 && (c.z ≠ 1 || c.sz ≠ 0 || c.dz ≠ 0 || c.x % copyElem c ≠ 0 || c.dy < c.y * copyElem c) then 0x0422
  else if fp.any (fun x => touchesRegs x.1 x.2) then 0x0427
  else if !s.rangesPopulated fp then 0x0202
  else if (copy && !c.ringDst && dst.any (fun x => touchesSwathBuf x.1 x.2)) || (op = 2 && fp.any (fun x => touchesSwathBuf x.1 x.2)) then 0x0203
  else if copy && (selfOverlap own || rangesOverlap dst (copySrc c)) then 0x0423
  else 0

/-- The key under which a pass is remembered for gates (R308). -/
def passGateKey (array quadrant work : Nat) : Nat := (array * 4 + quadrant) * 2 ^ 32 + work

/-- A pass just issued is remembered as the most recent of its work identifier. -/
def State.notePass (s : State) (d : List Word512) : State :=
  let p := passF d
  { s with passIds := storePut s.passIds (passGateKey p.array (if p.shape = 4 then p.quadrant else 0) (hWorkId (dword d 0))) (s.nextId - 1) }

/-- The most recent pass that a gated COPY names (R308). -/
def State.gateNamed (s : State) (c : CopyF) : Option Nat := storeGet s.passIds (passGateKey c.field c.gateQuadrant c.gateWork)

/-- The gating pass, if it is still in flight. -/
def State.gatePass (s : State) (c : CopyF) : Option Nat := (s.gateNamed c).filter (fun id => (s.flight id).isSome)

/-- Check 10, at issue. -/
def State.drillIssueCheck (s : State) (d : List Word512) : Nat :=
  let c := copyF d
  if hOpcode (dword d 0) = 1 && c.gateOn && (s.gateNamed c).isNone then 0x0426 else 0

/-- What a Drill descriptor holds from issue on. -/
def State.drillProg (s : State) (d : List Word512) : Prog :=
  let c := copyF d
  match hOpcode (dword d 0) with
  | 1 => .copy ⟨0, c.dst, if c.gateOn then s.gatePass c else none, !c.gateOn || (s.gatePass c).isNone, false, none, []⟩
  | 4 => .cancel ⟨0, []⟩
  | _ => .none

/-! ### Queues (R298 to R300) -/

def Flight.copy? (f : Flight) : CopyProg :=
  match f.prog with
  | .copy c => c
  | _ => ⟨0, 0, none, true, false, none, []⟩

/-- The queue number of a Drill flight, Field × 32 + queue. -/
def Flight.dq (f : Flight) : Nat := drillField f.words * 32 + drillQueue f.words

/-- The COPY and RING_SETUP descriptors in flight of a queue, in order of issue. -/
def State.queueFlights (s : State) (q : Nat) : List Flight :=
  s.flights.filter (fun f => f.cls == 4 && (f.op == 1 || f.op == 2) && f.dq == q)

/-- A queue's registers. -/
def queueReg (q base : Nat) : Nat := drillReg (q / 32) (q % 4) (base + 8 * (q % 32 / 4))

def State.queueLimit (s : State) (q : Nat) : Nat := s.rf (queueReg q 0x140) 8 0
def State.queueOutstanding (s : State) (q : Nat) : Nat := ((s.queueFlights q).filter (fun f => f.op == 1 && f.started)).length
def State.queueWaiting (s : State) (q : Nat) : Nat := ((s.queueFlights q).filter (fun f => !f.started)).length

/-- Rows of a COPY: source rows through the planes. -/
def copyRows (c : CopyF) : Nat := if copyEmpty c then 0 else c.y * c.z

/-- A COPY's destination lies within a ring slot (R306). -/
def ringFits (c : CopyF) (r : Ring) : Bool := (copyDst c 0).all (fun x => decide (x.1 + x.2 ≤ r.slotBytes))

/-- The headland gate of a COPY may open now (R309). -/
def State.gateReady (s : State) (f : Flight) : Bool :=
  let c := copyF f.words
  match f.copy?.gate with
  | none => true
  | some id =>
    match s.flight id with
    | none => true
    | some g =>
      let p := passF g.words
      if p.m = 0 || g.ending.isSome then true
      else match g.prog with
        | .pass q =>
          if c.gateTile then p.reuse || q.load == .full || q.swapped
          else decide (min c.gateRows p.m ≤ q.nextRead)
        | _ => c.gateTile && p.reuse

/-- HEADLAND_GATE_OPEN: once open, a gate stays open (R309). -/
def State.openGate (s : State) (id : Nat) : State :=
  match s.flightOf id 4 1 with
  | none => s
  | some f => if s.gateReady f then s.setFlight { f with prog := Prog.copy { f.copy? with gateOpen := true } } else s

/-- DRILL_START: the queue's oldest descriptor that has not started, once nothing holds it (R298, R299,
R306). A ring COPY's slot is known only now: it is refused if the slot has left the populated space or meets the source
(R28, R250, R304). The counts are the FC cycles that it waited at the queue's head on its gate, its credit and its
limit. -/
def State.drillStart (s : State) (id gateWait creditWait limitWait : Nat) : State :=
  match s.flightOf id 4 1 with
  | none => s
  | some f =>
    let c := copyF f.words
    let q := f.dq
    let r := s.ring q
    let before := (s.queueFlights q).takeWhile (fun g => g.id != id)
    let held := f.started || f.ending.isSome || !f.fired || !f.copy?.gateOpen || before.any (fun g => !g.started && g.ending.isNone) ||
      s.queueLimit q ≤ s.queueOutstanding q || !s.enabled .drill (q / 32 * 4 + q % 4)
    if held then s
    else
      let s1 := ((s.bumpBy (drillReg (q / 32) (q % 4) 0x220) gateWait).bumpBy (drillReg (q / 32) (q % 4) 0x228) creditWait).bumpBy
        (drillReg (q / 32) (q % 4) 0x230) limitWait
      if !c.ringDst || copyEmpty c then s1.setFlight { f with started := true }
      else if r.slots = 0 || !ringFits c r then s1.refuseFlight id 0x0424
      else if r.credits = 0 then s
      else if !s.rangesPopulated (copyDst c (r.base + r.seq % r.slots * r.slotBytes)) then s1.refuseFlight id 0x0202
      else if rangesOverlap (copyDst c (r.base + r.seq % r.slots * r.slotBytes)) (copySrc c) then s1.refuseFlight id 0x0423
      else
        (s1.setRing q { r with credits := r.credits - 1, seq := (r.seq + 1) % 2 ^ 32 }).setFlight
          { f with started := true, prog := Prog.copy { f.copy? with dst := r.base + r.seq % r.slots * r.slotBytes, credit := true } }

/-! ### Moving bytes -/

/-- A Glean row in a range is poisoned: a read of it by address is a poisoned read (R162, R257). -/
def State.gleanPoisonIn (s : State) (a n : Nat) : Bool :=
  match areaOf a with
  | .glean f o => (List.range ((o + n - 1) / 12288 - o / 12288 + 1)).any (fun i => mPoison (s.gmeta f (o / 12288 + i)))
  | _ => false

/-- Bytes read by address hold poison. -/
def State.readsPoison (s : State) (a n : Nat) : Bool := decide (0 < n) && (s.poisonedIn a n || s.gleanPoisonIn a n)

/-- No two rows of a COPY from a base fill one sector: it moves one row, or rows of whole sectors. -/
def copyAlone (c : CopyF) (base : Nat) : Bool :=
  c.transpose == 0 && (copyRows c == 1 || (base % 32 == 0 && c.x % 32 == 0 && c.dy % 32 == 0 && c.dz % 32 == 0))

/-- The bytes of ranges that lie in one sector. -/
def sectorTotal (b : Nat) (rs : List (Nat × Nat)) : Nat :=
  (rs.map (fun r => min (r.1 + r.2) (b + 32) - max r.1 b)).foldl (· + ·) 0

/-- Bytes cut at sector boundaries. -/
def cutSectors (a : Nat) (bs : List Byte) : List (Nat × List Byte) :=
  (sectorsOf a bs.length).map (fun b => let p := sectorPart a bs.length b; (p.1, (bs.drop (p.1 - a)).take p.2))

/-- The parts of one sector stored: as one write where they make up the whole sector. -/
def State.storeParts (s : State) (b hint : Nat) (parts : List (Nat × List Byte)) : State :=
  if (parts.map (fun x => x.2.length)).foldl (· + ·) 0 = 32 then
    (s.store b ((List.range 32).map (fun i =>
      ((parts.find? (fun x => decide (x.1 ≤ b + i) && decide (b + i < x.1 + x.2.length))).elim 0 (fun x => x.2.getD (b + i - x.1) 0))))).writeHint b 32 hint
  else parts.foldl (fun t x => (t.store x.1 x.2).writeHint x.1 x.2.length hint) s

/-- The parts that a row moves join those held; each sector whose bytes are then all there is written, so that a sector
never holds a part of them (R304, R313). -/
def State.fillSectors (s : State) (dst : List (Nat × Nat)) (hint : Nat) (held parts : List (Nat × List Byte)) : State × List (Nat × List Byte) :=
  parts.foldl (fun (r : State × List (Nat × List Byte)) x =>
    let b := x.1 / 32 * 32
    let all := r.2 ++ [x]
    let mine := all.filter (fun y => y.1 / 32 * 32 == b)
    if (mine.map (fun y => y.2.length)).foldl (· + ·) 0 = sectorTotal b dst then
      (r.1.storeParts b hint mine, all.filter (fun y => y.1 / 32 * 32 != b))
    else (r.1, all)) (s, held)

/-- COPY: the next source row moved (R303), or the end that poison or a lost Field forces (R257, R22). -/
def State.copyRow (s : State) (id : Nat) : State :=
  match s.flightOf id 4 1 with
  | none => s
  | some f =>
    let c := copyF f.words
    let p := f.copy?
    if !f.started || p.stopped.isSome || copyRows c ≤ p.row then s
    else
      let i := p.row
      let src := copySrcRow c i
      let e := copyElem c
      let dsts : List (Nat × Nat) := if c.transpose = 0 then [(p.dst + i / c.y * c.dz + i % c.y * c.dy, 0)]
        else (List.range (c.x / e)).map (fun k => (p.dst + k * c.dy + i * e, k * e))
      let n := if c.transpose = 0 then c.x else e
      if s.readsPoison src c.x then
        s.setFlight { f with prog := Prog.copy { p with stopped := some (poisonCode src) } }
      else
        let bs := s.bytes src c.x
        let s1 := s.readHint src c.x c.hint
        let r := if copyAlone c p.dst then
            (dsts.foldl (fun t x => (t.store x.1 ((bs.drop x.2).take n)).writeHint x.1 n c.hint) s1, p.held)
          else s1.fillSectors (copyDst c p.dst) c.hint p.held (dsts.flatMap (fun x => cutSectors x.1 ((bs.drop x.2).take n)))
        (r.1.bumpBy (drillReg (f.dq / 32) (f.dq % 4) 0x200) c.x).setFlight { f with prog := Prog.copy { p with row := i + 1, held := r.2 } }

/-- RING_SETUP: in its queue's order, when every earlier descriptor has completed (R305). -/
def State.ringSetup (s : State) (id : Nat) : State :=
  match s.flightOf id 4 2 with
  | none => s
  | some f =>
    let r := ringF f.words
    let q := f.dq
    if !f.fired || f.ending.isSome || !((s.queueFlights q).takeWhile (fun g => g.id != id)).isEmpty || !s.enabled .drill (q / 32 * 4 + q % 4) then s
    else if r.slotBytes % 64 ≠ 0 then s.refuseFlight id 0x0424
    else
      let ring : Ring := if r.slots = 0 then ⟨0, 0, 0, 0, 0⟩ else ⟨r.base, r.slots, r.slotBytes, r.slots, 0⟩
      ((s.setRing q ring).bump (drillReg (q / 32) (q % 4) 0x208)).complete id 0

/-- RING_CREDIT: at once where its launch condition holds (R307). -/
def State.ringCredit (s : State) (id : Nat) : State :=
  match s.flightOf id 4 3 with
  | none => s
  | some f =>
    let q := f.dq
    let r := s.ring q
    let n := (ringF f.words).slots
    let done (t : State) (info : Nat) : State := (t.bump (drillReg (q / 32) (q % 4) (if info = 0 then 0x208 else 0x210))).complete id info
    if f.ending.isSome then done s (f.ending.getD 0)
    else if !f.fired then s
    else if n = 0 then done s 0
    else if r.slots < r.credits + n then s.refuseFlight id 0x0425
    else done (s.setRing q { r with credits := r.credits + n }) 0

/-! ### Cancellation (R311 to R313) -/

/-- The Field that a descriptor was received by, for CANCEL. -/
def cancelField (f : Flight) : Nat :=
  if f.cls = 1 then (passF f.words).array else if f.cls = 3 then (harrowF f.words).field else drillField f.words

/-- A CANCEL matches a descriptor on a Field. -/
def cancelMatches (c : CancelF) (field : Nat) (f : Flight) : Bool :=
  ((c.drill && f.cls == 4 && f.op != 4) || (c.furrow && f.cls == 1) || (c.harrow && f.cls == 3)) &&
  cancelField f == field && (f.work &&& c.mask) == (c.value &&& c.mask)

/-- A reuse_tile pass after one that is cancelled before its swap does not run: the ids of those behind
it, up to the first pass that loads a tile (R150). -/
def reuseBehind (p : PassF) : List Flight → List Nat
  | [] => []
  | f :: rest =>
    let q := passF f.words
    if q.array = p.array && quadsMeet q p && q.m ≠ 0 then
      (if q.reuse then f.id :: reuseBehind p rest else [])
    else reuseBehind p rest

/-- A PASS cancelled, or ended by R150: its feeds stop, a load in progress or a full shadow plane is
empty again, its rows in the pipeline are still added. -/
def PassProg.cancel (q : PassProg) : PassProg :=
  { q with cancelled := true, fifo := [], load := if q.swapped then q.load else .idle, tile := if q.swapped then q.tile else none }

/-- A pass flight ended with an information code. -/
def State.endPass (s : State) (f : Flight) (code : Nat) : State :=
  s.setFlight { f with ending := some code, prog := match f.prog with | .pass q => .pass q.cancel | p => p }

/-- The outcome of a matched descriptor (R312). -/
def State.cancelOne (s : State) (id : Nat) : State :=
  match s.flight id with
  | none => s
  | some f =>
    if f.ending.isSome then s
    else if f.cls = 1 then
      let p := passF f.words
      let begun := match f.prog with | .pass q => q.swapped | _ => false
      let allIn := match f.prog with | .pass q => decide (p.m ≤ q.nextEnter) && decide (0 < p.m) | _ => false
      if allIn then s
      else
        let s1 := s.endPass f 0x0421
        if begun || p.m = 0 then s1
        else
          let later := (s1.passFlights.dropWhile (fun g => g.id != id)).drop 1
          let s2 := (reuseBehind p later).foldl (fun t i => match t.flight i with | some g => t.endPass g 0x0B15 | none => t) s1
          if f.prog == .none || later.any (fun g => g.prog != .none && (passF g.words).array == p.array && quadsMeet (passF g.words) p &&
              (passF g.words).m != 0 && !(passF g.words).reuse) then s2
          else s2.setArray p.array ((s2.array p.array).loseTile p)
    else if f.cls = 3 then
      (if decide (f.harrow?.dealt < harrowUnits f.words) || harrowUnits f.words = 0 then s.setFlight { f with ending := some 0x0421 } else s)
    else if f.op = 1 && f.started then
      let c := copyF f.words
      let p := f.copy?
      if copyRows c ≤ p.row || p.stopped.isSome then s
      else s.setFlight { f with prog := Prog.copy { p with stopped := some 0x0421 } }
    else s.setFlight { f with ending := some 0x0421 }

/-- DRILL_CANCEL: the decision cycle of a CANCEL on one of its Fields (R311). -/
def State.cancelField (s : State) (id field : Nat) : State :=
  match s.flightOf id 4 4 with
  | none => s
  | some f =>
    let c := cancelF f.words
    match f.prog with
    | .cancel p =>
      if !f.fired || !bitOf c.fields field || bitOf p.decided field || (!c.drill && !c.furrow && !c.harrow) then s
      else
        let hits := (s.flights.filter (cancelMatches c field)).map (fun g => g.id)
        let s1 := hits.foldl State.cancelOne s
        let s2 := (List.range 4).foldl (fun t e => t.setReg (drillReg field e 0x238) (hits.length % 2 ^ 32)) s1
        s2.setFlight { f with started := true, prog := Prog.cancel ⟨p.decided ||| (1 <<< field), p.matched ++ hits⟩ }
    | _ => s

/-- The credit of a cancelled ring COPY, returned as it completes (R312, R313). -/
def State.returnCredit (s : State) (f : Flight) (info : Nat) : State :=
  let r := s.ring f.dq
  if info = 0x0421 && f.copy?.credit then s.setRing f.dq { r with credits := min r.slots (r.credits + 1) } else s

/-- DRILL_COMPLETE: a COPY or a cancelled RING_SETUP completes in its queue's order, its writes all
acknowledged (R300, R312); a CANCEL when all it matched has completed (R313). `discarded` bytes went to
the discard sink. -/
def State.drillComplete (s : State) (id discarded : Nat) : State :=
  match s.flight id with
  | none => s
  | some f =>
    if f.cls != 4 then s
    else if f.op = 4 then
      match f.prog with
      | .cancel p =>
        let c := cancelF f.words
        let idle := c.fields = 0 || (!c.drill && !c.furrow && !c.harrow)
        let all := (List.range 8).all (fun x => !bitOf c.fields x || bitOf p.decided x || s.lost x)
        if f.fired && (idle || (all && p.matched.all (fun i => (s.flight i).isNone))) then s.complete id 0 else s
      | _ => s
    else
      let q := f.dq
      let first := ((s.queueFlights q).takeWhile (fun g => g.id != id)).isEmpty
      let c := copyF f.words
      let p := f.copy?
      let info : Option Nat :=
        if f.ending.isSome then f.ending
        else if f.op = 1 && f.started then (if p.stopped.isSome then p.stopped else if copyRows c ≤ p.row then some 0 else none)
        else none
      match info with
      | some i =>
        if !first || f.op = 3 then s
        else
          let s1 := s.bumpBy (drillReg (q / 32) (q % 4) 0x218) discarded
          let s2 := if i = 0 then s1.bump (drillReg (q / 32) (q % 4) 0x208)
            else if i = 0x0421 then s1.bump (drillReg (q / 32) (q % 4) 0x210) else s1
          (s2.returnCredit f i).complete id i
      | none => s

/-! ### The DRILL page (R315, R316) -/

/-- A feed queue holds the weight feed (queue 24 + q) or the row feed (28 + q) of each pass taken up on quadrant q whose
feed has more to read (R146, R295). -/
def State.feedFlights (s : State) (q : Nat) : List Flight :=
  s.passFlights.filter (fun g => match g.prog with
    | .pass p =>
      let x := passF g.words
      p.runner == q / 32 && (if x.shape = 4 then x.quadrant else 0) == q % 4 && !p.cancelled && x.m != 0 &&
        (if q % 32 < 28 then !x.reuse && !p.swapped && p.load != .full else decide (p.nextRead < x.m) && !p.feedStopped)
    | _ => false)

/-- A feed of a feed queue has begun to read. -/
def Flight.feedStarted (g : Flight) (q : Nat) : Bool :=
  match g.prog with
  | .pass p => if q % 32 < 28 then p.load == .loading else decide (0 < p.nextRead)
  | _ => false

/-- What a queue holds: COPY and RING_SETUP descriptors, or feeds; and which of it has started. -/
def State.queueItems (s : State) (q : Nat) : List Flight := if q % 32 < 24 then s.queueFlights q else s.feedFlights q
def Flight.itemStarted (g : Flight) (q : Nat) : Bool := if q % 32 < 24 then g.started else g.feedStarted q

/-- A queue holds work. -/
def State.queueBusy (s : State) (q : Nat) : Bool := !(s.queueItems q).isEmpty

/-- An engine's busy bits. -/
def State.drillBusy (s : State) (f e : Nat) : Nat :=
  (List.range 8).foldl (fun a j => a + (b2n (s.queueBusy (f * 32 + e + 4 * j)) <<< j)) 0

/-- The state code of a queue (R316): what its head waits for. A weight feed waits for its pass's wait_select alone
(R148). -/
def State.queueState (s : State) (q : Nat) : Nat :=
  match (s.queueItems q).find? (fun f => !f.itemStarted q) with
  | none => if s.queueBusy q then 1 else 0
  | some f =>
    let copy : Bool := f.cls == 4 && f.op == 1
    if copy && decide (s.queueLimit q ≤ s.queueOutstanding q) then 5
    else if (if 24 ≤ q % 32 && q % 32 < 28 then f.wait.isSome && !f.waitMet else !f.fired) then 2
    else if copy && !f.copy?.gateOpen then 3
    else if copy && (copyF f.words).ringDst && (s.ring q).credits = 0 then 4
    else 1

/-- The descriptors or feeds of a queue that have started and not ended, and those that have not started. -/
def State.itemsOutstanding (s : State) (q : Nat) : Nat :=
  if q % 32 < 24 then s.queueOutstanding q else (s.feedFlights q).countP (fun g => g.feedStarted q)
def State.itemsQueued (s : State) (q : Nat) : Nat := (s.queueItems q).countP (fun g => !g.itemStarted q)

/-- The read-only word at 0x180 + 8j. -/
def State.queueStatus (s : State) (q : Nat) : Nat :=
  (min 256 (s.itemsQueued q) <<< 8) + (min 256 (s.itemsOutstanding q) <<< 17) + ((s.ring q).slots <<< 26) +
  ((s.ring q).credits <<< 33) + (s.queueState q <<< 40)

/-- A block reset of a DRILL page removes the rings of its queues (R315). -/
def State.resetDrill (s : State) (f e : Nat) : State :=
  (List.range 8).foldl (fun t j => t.setRing (f * 32 + e + 4 * j) ⟨0, 0, 0, 0, 0⟩) s

/-- Every ring removed. -/
def State.dropRings (s : State) : State := { s with rings := s.rings.map (fun _ => ⟨0, 0, 0, 0, 0⟩) }

/-! ### Classes of Granary requests (R272, R301) -/

/-- The class of a descriptor's Granary requests (R272, R301): FEED for passes and for a queue configured so, SAMPLE,
COLLECTIVE, CTRL for the furlong, BULK; of a class that R272 does not name, the one the access brings. -/
def State.flightClass (s : State) (g : Flight) (cls : Nat) : Nat :=
  match g.cls with
  | 1 => 1
  | 4 => if s.rf (queueReg (drillField g.words * 32 + drillQueue g.words) 0x140) 16 16 = 1 then 1 else 4
  | 5 => 3
  | 6 => 2
  | 8 => 0
  | 0xC | 0xD => 4
  | _ => cls

/-- The class recorded for an access: that of the descriptor in flight under its work_id, which the requester sets (R272);
for an access of no descriptor, the one the event gives. -/
def State.accessClass (s : State) (cls workId : Nat) : Nat :=
  if workId = 0 then cls else ((s.flights.find? (fun g => g.work == workId)).map (fun g => s.flightClass g cls)).getD cls

end Sys2Proof.Machine
end

