-- ==== Sys2Proof/Machine/Coulter.lean ====
section
/-!
DEFINITION. Coulter decoders: kinds and cores (R317, R318), header checks and sizes (R321, R322), the
arena (R324), work budgets (R325 to R327), truncated and malformed input (R328, R329), the tokeniser
(R330 to R332), core faults (R333, R334), DECODE and CANCEL (R335 to R338), the result record.

What a media standard says of a header or a syntax unit stands outside the spec: it comes with the command
that decodes it. Text is decoded here in full.
-/
namespace Sys2Proof.Machine

def coulterReg (off : Nat) : Nat := regAddr .coulter 0 off
def decReg (c off : Nat) : Nat := regAddr .coulterDec c off

/-! ### Kinds and cores (R317, R318) -/

def isVideo (k : Nat) : Bool := k == 1 || k == 2 || k == 3
def isImage (k : Nat) : Bool := k == 0x10 || k == 0x11
def isInflate (k : Nat) : Bool := k == 0x12 || k == 0x13
def isAudio (k : Nat) : Bool := k == 0x20 || k == 0x21 || k == 0x22
def isText (k : Nat) : Bool := k == 0x30
def kindOk (k : Nat) : Bool := isVideo k || isImage k || isInflate k || isAudio k || isText k

/-- The cores of a kind. -/
def coresOf (k : Nat) : List Nat :=
  if isVideo k then List.range 10 else if isImage k || isInflate k then [10, 11, 12, 13] else [14, 15]

/-- The core group of a core: 0 video, 1 image, 2 audio and text. -/
def coreGroup (c : Nat) : Nat := if c < 10 then 0 else if c < 14 then 1 else 2

def State.core (s : State) (c : Nat) : Nat := s.coulter.cores.getD c 2

/-- The sample a core holds. -/
def State.coreSample (s : State) (c : Nat) : Option Samp := s.coulter.samples.find? (fun x => x.core == some c)

/-- A sample by its number. -/
def State.samp (s : State) (id : Nat) : Option Samp := s.coulter.samples.find? (fun x => x.id == id)
def State.setSamp (s : State) (x : Samp) : State :=
  { s with coulter := { s.coulter with samples := s.coulter.samples.map (fun (y : Samp) => if y.id == x.id then x else y) } }
def State.dropSamp (s : State) (id : Nat) : State :=
  { s with coulter := { s.coulter with samples := s.coulter.samples.filter (fun y => y.id != id) } }

/-- A sample received. -/
def State.addSamp (s : State) (owner area work : Nat) (d : SampDesc) : State :=
  let x : Samp := ⟨s.coulter.nextSample, owner, area, work, d, none, false, false, none, 0, 0, 0, false, none, 0, 0, 0, 0, 0, 0, 0,
    false, 0, 0, none, ⟨0, 0, 0, 0⟩⟩
  { s with coulter := { s.coulter with samples := s.coulter.samples ++ [x], nextSample := s.coulter.nextSample + 1 } }

/-! ### The arena (R324, R339) -/

def granule : Nat := 0x10000
def State.arenaBase (s : State) : Nat := s.rf (coulterReg 0x100) 47 21 * 0x200000
def State.arenaGranules (s : State) : Nat := s.rf (coulterReg 0x108) 15 0 * 32

/-- Granules held by samples. -/
def State.granulesUsed (s : State) : List Nat := s.coulter.samples.flatMap (fun x => x.granules.getD [])

/-! ### The vocabulary (R331, R332) -/

/-- Vocabulary v as COULTER_VOCAB v names it now. -/
def State.vocab (s : State) (v : Nat) : Vocab :=
  let r := s.reg (coulterReg (0x148 + 16 * v))
  ⟨s.rf (coulterReg (0x140 + 16 * v)) 47 0, bitsOf r 39 32, bitsOf r 31 20, bitsOf r 19 0⟩

/-- Start of the merge entries. -/
def Vocab.mergeBase (v : Vocab) : Nat := v.base + roundUp (v.ranges * 8) 64

/-- A vocabulary may be used: its footprint lies in one Field's populated Tilth, its class entries are
sorted from 0 with no reserved bit set, every merged identifier lies below token_count. -/
def State.vocabOk (s : State) (v : Vocab) : Bool :=
  let base := v.base
  let size := v.mergeBase - base + 16 * 2 ^ v.log2
  let cls (i : Nat) := s.num (base + 8 * i) 8
  v.tokens != 0 && (List.range 8).any (fun f => inTilth f base size && s.populated base size) &&
  (List.range v.ranges).all (fun i => bitsOf (cls i) 23 21 == 0 && bitsOf (cls i) 63 32 == 0 &&
    (if i = 0 then bitsOf (cls 0) 20 0 == 0 else decide (bitsOf (cls (i - 1)) 20 0 < bitsOf (cls i) 20 0))) &&
  (List.range (2 ^ v.log2)).all (fun i =>
    let a := v.mergeBase + 16 * i
    s.num a 4 == 0xFFFFFFFF || decide (s.num (a + 12) 4 < v.tokens))

/-- The class of a code point. -/
def State.cpClass (s : State) (v : Vocab) (cp : Nat) : Nat :=
  (List.range v.ranges).foldl (fun c i =>
    let e := s.num (v.base + 8 * i) 8
    if bitsOf e 20 0 ≤ cp then bitsOf e 31 24 else c) 0

/-- lookup(l, r): rank and merged identifier, in at most n probes from a slot (R331). -/
def State.probeMerge (s : State) (v : Vocab) (l r : Nat) : Nat → Nat → Option (Nat × Nat)
  | 0, _ => none
  | n + 1, i =>
    let a := v.mergeBase + 16 * (i % 2 ^ v.log2)
    if s.num a 4 = 0xFFFFFFFF then none
    else if s.num a 4 = l && s.num (a + 4) 4 = r then some (s.num (a + 8) 4, s.num (a + 12) 4)
    else s.probeMerge v l r n (i + 1)

def State.mergeLookup (s : State) (v : Vocab) (l r : Nat) : Option (Nat × Nat) :=
  s.probeMerge v l r 64 ((((l * 0x9E3779B1) % 2 ^ 32) ^^^ (r % 2 ^ 32)) >>> (32 - v.log2))

/-- The best pair of a token list: position, rank and merged identifier; the leftmost wins a tie. -/
def State.bestPair (s : State) (v : Vocab) : Nat → List Nat → Option (Nat × Nat × Nat)
  | i, a :: b :: rest =>
    let tail := s.bestPair v (i + 1) (b :: rest)
    match s.mergeLookup v a b with
    | none => tail
    | some (rank, m) =>
      match tail with
      | some (j, rk, n) => if rk < rank then some (j, rk, n) else some (i, rank, m)
      | none => some (i, rank, m)
  | _, _ => none

/-- The merging of a piece: its tokens and the lookups made (R330). -/
def State.mergePiece (s : State) (v : Vocab) : Nat → List Nat → Nat → List Nat × Nat
  | 0, t, n => (t, n)
  | k + 1, t, n =>
    let n' := n + (t.length - 1)
    match s.bestPair v 0 t with
    | none => (t, n')
    | some (i, _, m) => s.mergePiece v k (t.take i ++ m :: t.drop (i + 2)) n'

/-- The UTF-8 sequence at the start of some bytes: its length and code point, or none where it is invalid
(RFC 3629). -/
def utf8At (b : Nat → Nat) (n : Nat) : Option (Nat × Nat) :=
  let cont (i : Nat) : Bool := decide (i < n) && b i / 64 == 2
  let b0 := b 0
  if n = 0 then none
  else if b0 < 0x80 then some (1, b0)
  else if 0xC2 ≤ b0 && b0 ≤ 0xDF && cont 1 then some (2, b0 % 32 * 64 + b 1 % 64)
  else if 0xE0 ≤ b0 && b0 ≤ 0xEF && cont 1 && cont 2 then
    let cp := b0 % 16 * 4096 + b 1 % 64 * 64 + b 2 % 64
    if cp < 0x800 || (0xD800 ≤ cp && cp ≤ 0xDFFF) then none else some (3, cp)
  else if 0xF0 ≤ b0 && b0 ≤ 0xF4 && cont 1 && cont 2 && cont 3 then
    let cp := b0 % 8 * 262144 + b 1 % 64 * 4096 + b 2 % 64 * 64 + b 3 % 64
    if cp < 0x10000 || 0x10FFFF < cp then none else some (4, cp)
  else none

/-- The end of a run of one class from an address: code points of the class, up to `stop`. -/
def State.runEnd (s : State) (v : Vocab) (cls stop : Nat) : Nat → Nat → Nat
  | 0, a => a
  | n + 1, a =>
    match utf8At (fun i => (s.byte (a + i)).toNat) (stop - a) with
    | some (k, cp) => if s.cpClass v cp = cls then s.runEnd v cls stop n (a + k) else a
    | none => a

/-- The next piece of a text from an address, with the end of its run: its length, and whether it is an
invalid byte (R330). -/
def State.nextPiece (s : State) (v : Vocab) (a stop run : Nat) : Nat × Nat × Bool :=
  if a < run then (min 1024 (run - a), run, false)
  else match utf8At (fun i => (s.byte (a + i)).toNat) (stop - a) with
    | none => (1, a + 1, true)
    | some (k, cp) =>
      let e := s.runEnd v (s.cpClass v cp) stop (stop - a) (a + k)
      (min 1024 (e - a), e, false)

/-! ### Headers and sizes (R321, R322) -/

/-- Bytes of a picture in the layout of R320. -/
def pictureBytes (kind : Nat) (h : HdrInfo) : Nat :=
  let e := if 8 < h.depth then 2 else 1
  if kind = 0x11 then h.width * h.height * h.comps * e
  else
    let cw := if h.chroma = 1 || h.chroma = 2 then ceilDiv h.width 2 else h.width
    let ch := if h.chroma = 1 then ceilDiv h.height 2 else h.height
    (h.width * h.height + (if h.chroma = 0 then 0 else 2 * (cw * ch))) * e

/-- The coefficients of a JPEG: 64 for each block of its minimum coded units (ITU-T T.81; log entry 77). -/
def jpegCoefs (h : HdrInfo) : Nat :=
  let mw := if h.chroma = 1 || h.chroma = 2 then 16 else 8
  let mh := if h.chroma = 1 then 16 else 8
  let blocks := if h.comps = 1 then 1 else if h.chroma = 1 then 6 else if h.chroma = 2 then 4 else 3
  ceilDiv h.width mw * ceilDiv h.height mh * blocks * 64

/-- The form of a sample lies in the table of R317: depth, chroma format, level, components, channels and rate are
checked here; `supported` says it of profile, tier and coding features. -/
def formSupported (kind : Nat) (h : HdrInfo) : Bool :=
  h.supported && (match kind with
    | 0x01 => h.depth == 8 && decide (h.chroma ≤ 1) && decide (h.level ≤ 52)
    | 0x02 => (h.depth == 8 || h.depth == 10) && h.chroma == 1 && decide (h.level ≤ 61)
    | 0x03 => (h.depth == 8 || h.depth == 10) && decide (h.chroma ≤ 1) && decide (h.level ≤ 60)
    | 0x10 => h.depth == 8 && ((h.comps == 1 && h.chroma == 0) || (h.comps == 3 && decide (1 ≤ h.chroma)))
    | 0x11 => (h.depth == 8 || h.depth == 16) && decide (1 ≤ h.comps) && decide (h.comps ≤ 4)
    | 0x20 => (h.depth == 16 || h.depth == 24) && decide (1 ≤ h.channels) && decide (h.channels ≤ 8) && decide (h.rate ≤ 192000)
    | 0x21 => decide (1 ≤ h.channels) && decide (h.channels ≤ 8) && h.rate == 48000
    | 0x22 => h.depth == 0 || h.depth == 8 || h.depth == 16 || h.depth == 24 || h.depth == 32
    | _ => true)

/-- The workspace S of a sample, before rounding. -/
def workspace (kind : Nat) (h : HdrInfo) : Nat :=
  if isVideo kind then (h.refs + 1) * pictureBytes kind h
  else if kind = 0x10 then (if h.progressive then 2 * jpegCoefs h else 0)
  else if isInflate kind then 0x8000
  else 0

/-- P: the most pictures that max_units, max_out and a direct destination allow (R322). -/
def pictureLimit (d : SampDesc) (pb sz maxUnits maxOut : Nat) : Nat :=
  let p := min maxUnits ((maxOut - sz) / max 1 pb)
  if d.direct then min p (d.cap / max 1 pb) else p

/-- The output size O before rounding, with the outcome of its own failure and whether it comes from P. -/
def outputSize (d : SampDesc) (h : HdrInfo) (sz maxUnits maxOut : Nat) : Nat × Nat × Bool :=
  let pb := pictureBytes d.kind h
  if isVideo d.kind then
    if d.unitCount ≠ 0 then (d.unitCount * pb, 0, false)
    else match h.total with
      | some n => (n * pb, 0, false)
      | none =>
        let p := pictureLimit d pb sz maxUnits maxOut
        (p * pb, if p = 0 then 0x0703 else 0, true)
  else if isImage d.kind then (pb, 0, false)
  else if isAudio d.kind then
    match (if d.unitCount ≠ 0 then some d.unitCount else h.total) with
    | some n => (4 * h.channels * n, 0, false)
    | none => (0, 0x0702, false)
  else if isInflate d.kind then (d.cap, 0, false)
  else (4 * d.len, 0, false)

/-- The header checks of R321 in order, with R328's short header: an outcome, or O, S and P's mark. -/
def State.headerCheckOf (s : State) (d : SampDesc) (h : HdrInfo) : Nat × Nat × Nat × Bool :=
  let dims := s.reg (coulterReg 0x110)
  let lim := s.reg (coulterReg 0x118)
  let maxOut := s.rf (coulterReg 0x120) 47 0
  let maxUnits := bitsOf lim 31 16
  let sz := roundUp (workspace d.kind h) granule
  let o := outputSize d h sz maxUnits maxOut
  let units := match h.total with | some n => if isVideo d.kind then n else 0 | none => 0
  let oR := roundUp o.1 granule
  if d.len = 0 || h.short then (0x0705, 0, 0, false)
  else if !formSupported d.kind h then (0x0701, 0, 0, false)
  else if h.malformed then (0x0704, 0, 0, false)
  else if ((isVideo d.kind || isImage d.kind) && (bitsOf dims 15 0 < h.width || bitsOf dims 31 16 < h.height)) ||
      (isVideo d.kind && (maxUnits < units || maxUnits < h.refs)) || (isAudio d.kind && bitsOf lim 7 0 < h.channels) || o.2.1 = 0x0702 then (0x0702, 0, 0, false)
  else if maxOut < oR + sz || (d.direct && d.cap < o.1) || o.2.1 = 0x0703 then (0x0703, 0, 0, false)
  else if isText d.kind && !s.vocabOk (s.vocab d.vocab) then (0x070B, 0, 0, false)
  else (0, o.1, sz, o.2.2)

/-! ### Ending a sample (R326 to R329, R334) -/

/-- The granules of a sample that is dropped, or that has been taken, return to the arena. -/
def Samp.release (x : Samp) : Samp := { x with granules := none }

/-- The counters of an outcome (R339). -/
def State.countOutcome (s : State) (x : Samp) (outcome : Nat) : State :=
  let s1 := if outcome = 0 || outcome = 0x0706 then s.bump (coulterReg 0x180) else s
  let s2 := if x.truncated || outcome = 0x0705 || outcome = 0x0706 then s1.bump (coulterReg 0x188) else s1
  let s3 := if outcome = 0x0704 || outcome = 0x070B then s2.bump (coulterReg 0x190) else s2
  let s4 := if outcome = 0x0707 then s3.bump (coulterReg 0x198) else s3
  let s5 := if outcome = 0x0701 || outcome = 0x0702 || outcome = 0x0703 then s4.bump (coulterReg 0x1A0) else s4
  if outcome = 0x0708 then s5.bump (coulterReg 0x1A8) else s5

/-- A sample ends with an outcome: its core is free, a dropped one gives up its granules and sets
SAMPLE_DROPPED with its outcome, which is no fault of the module (R329, R339). -/
def State.endSamp (s : State) (x : Samp) (outcome : Nat) : State :=
  let kept := outcome = 0 || outcome = 0x0706
  let y := { x with core := none, outcome := some outcome, granules := if kept then x.granules else none }
  let s1 := (s.setSamp y).countOutcome x outcome
  let s2 := match x.core with
    | some c => s1.bump (decReg c 0x120)
    | none => s1
  if kept then s2 else s2.raise .coulter 0 0 outcome x.work

/-! ### Output (R320, R323) -/

/-- The header of a sample. -/
def Samp.header (x : Samp) : HdrInfo := x.hdr.getD ⟨true, false, false, 0, 0, 0, 0, 0, 0, none, 0, 0, false, 0, 0, 0⟩

/-- The sizes of a picture's planes in samples: Y, then Cb and Cr subsampled as coded; one plane of interleaved channels for
a PNG (R320). -/
def planeSizes (kind : Nat) (h : HdrInfo) : List Nat :=
  if kind = 0x11 then [h.width * h.height * h.comps]
  else
    let cw := if h.chroma = 1 || h.chroma = 2 then ceilDiv h.width 2 else h.width
    let ch := if h.chroma = 1 then ceilDiv h.height 2 else h.height
    (h.width * h.height) :: (if h.chroma = 0 then [] else [cw * ch, cw * ch])

/-- The bytes of a picture (R320): each plane in turn, row by row, a byte a sample, or two with the value in the low bits
above 8 bits of depth. -/
def pictureImage (kind : Nat) (h : HdrInfo) (planes : List (List Nat)) : List Byte :=
  let sizes := planeSizes kind h
  (List.range sizes.length).flatMap (fun i =>
    let n := sizes.getD i 0
    let vs := (planes.getD i []).take n
    (vs ++ List.replicate (n - vs.length) 0).flatMap (fun v => leBytes (if 8 < h.depth then 2 else 1) (v % 2 ^ h.depth)))

/-- Bytes of O written at an offset, to the destination or through the arena's granules. -/
def State.storeOut (s : State) (x : Samp) (off : Nat) (bs : List Byte) : State :=
  let s1 := s.bumpBy (coulterReg 0x1B8) bs.length
  if x.d.direct then s1.storeAs 3 (x.d.dst + off) bs
  else
    let gs := x.granules.getD []
    let n := bs.length
    (List.range ((off + n - 1) / granule - off / granule + (if n = 0 then 0 else 1))).foldl (fun t i =>
      let g := off / granule + i
      let lo := max off (g * granule)
      let hi := min (off + n) ((g + 1) * granule)
      t.storeAs 3 (s.arenaBase + gs.getD g 0 * granule + (lo - g * granule)) ((bs.drop (lo - off)).take (hi - lo))) s1

/-- The bytes of O as they stand. -/
def State.outBytes (s : State) (x : Samp) (n : Nat) : List Byte :=
  if x.d.direct then s.bytes x.d.dst n
  else (List.range n).map (fun i => s.byte (s.arenaBase + (x.granules.getD []).getD (i / granule) 0 * granule + i % granule))

/-- The samples per channel that O holds. -/
def Samp.audioTotal (x : Samp) : Nat := x.o / (4 * max 1 ((x.hdr.map (fun h => h.channels)).getD 1))

/-- Every byte of O that is not yet written, as zero (R328): for audio the tail of each channel's plane. -/
def State.zeroOut (s : State) (x : Samp) : State :=
  let zeros (t : State) (lo hi : Nat) : State := if lo < hi then t.storeOut x lo (List.replicate (hi - lo) 0) else t
  if isAudio x.d.kind then
    let total := x.audioTotal
    (List.range ((x.hdr.map (fun h => h.channels)).getD 1)).foldl (fun t c => zeros t (4 * (c * total + x.valid)) (4 * (c + 1) * total)) s
  else zeros s x.written x.o

/-- An audio sample code as FP32 bits: an integer of b bits times 2^−(b − 1) by RNE; 8-bit WAV and every
other integer as two's complement; b = 0 stands for a float, which is copied (R320). -/
def audioBits (b v : Nat) : Nat := if b = 0 then v % 2 ^ 32 else ((FV.ofInt (signedOf b (v % 2 ^ b)) (1 - (b : Int))).toF32).bitsF32.toNat

/-- Pictures that O holds. -/
def Samp.pictureTotal (x : Samp) : Nat := x.o / max 1 ((x.hdr.map (fun h => pictureBytes x.d.kind h)).getD 1)

/-- The units that O holds, for the count of padded units. -/
def Samp.unitTotal (x : Samp) : Nat :=
  if isVideo x.d.kind || isImage x.d.kind then x.pictureTotal else if isAudio x.d.kind then x.audioTotal else 0

/-- Whether unit number n of the stream is output: at or past first_unit and within unit_count. -/
def wanted (d : SampDesc) (n : Nat) : Bool := decide (d.firstUnit ≤ n) && (d.unitCount == 0 || decide (n < d.firstUnit + d.unitCount))

/-! ### Starting (R318, R321, R324, R334) -/

/-- Samples that wait for a core: restarted ones first, then in order of receipt. -/
def State.waitingSamps (s : State) : List Samp :=
  let w := s.coulter.samples.filter (fun x => x.core.isNone && x.outcome.isNone)
  w.filter (fun x => x.restarted) ++ w.filter (fun x => !x.restarted)

/-- The work of a step charged to the sample, its core and the module. -/
def State.charge (s : State) (x : Samp) (n : Nat) : State :=
  let s1 := s.bumpBy (coulterReg 0x1B0) n
  match x.core with
  | some c => s1.bumpBy (decReg c 0x128) n
  | none => s1

/-- The budget of a sample (R327). -/
def Samp.budgetOf (x : Samp) (s : State) : Nat := if x.d.budget = 0 then s.rf (coulterReg 0x128) 47 0 else x.d.budget

/-- SAMPLE_START: the sample starts on the lowest-numbered idle working core of its kind, one restarted from a failed core
before every other of its cores. The syntax units of its header are charged, and its header is checked (R318, R321, R325,
R334). -/
def State.sampleStart (s : State) (id : Nat) (hdr : HdrInfo) : State :=
  match s.samp id with
  | none => s
  | some x =>
    let mine (y : Samp) : Bool := if y.restarted then coresOf y.d.kind == coresOf x.d.kind else y.d.kind == x.d.kind
    let first := (s.waitingSamps.find? mine).any (fun y => y.id == id)
    match (coresOf x.d.kind).find? (fun c => s.core c == 1 && s.enabled .coulterDec c && (s.coreSample c).isNone) with
    | none => s
    | some c =>
      if !first then s
      else
        let h := x.hdr.getD hdr
        let host (t : State) : State := if x.restarted then (t.bump (decReg c 0x138)).raise .coulterDec c 1 0 x.work else t
        let hb := if isText x.d.kind then 0 else min h.bits (8 * x.d.len)
        let z := { x with core := some c, charged := s.now, bits := hb, unit := h.units, w := hb }
        let s0 := ({ s with settled := storePut s.settled (decReg c 0x130 + 1) 1 } : State).charge z hb
        if x.hdr.isSome then host (s0.setSamp z)
        else
          let r := s.headerCheckOf x.d h
          let code := if x.budgetOf s < hb then 0x0707 else r.1
          let y := { z with hdr := some h, o := r.2.1, s := r.2.2.1, limitP := r.2.2.2, order := s.coulter.nextOrder,
                            truncated := code == 0x0705, voc := s.vocab x.d.vocab }
          let s1 := host { (s0.setSamp y) with coulter := { (s0.setSamp y).coulter with nextOrder := s.coulter.nextOrder + 1 } }
          if code = 0 then s1 else s1.endSamp y code

/-- Granules a sample needs: S always, O in arena mode. -/
def Samp.need (x : Samp) : Nat := (x.s + (if x.d.direct then 0 else roundUp x.o granule)) / granule

/-- A sample has what it needs to be decoded. -/
def Samp.allocated (x : Samp) : Bool := x.granules.isSome || x.need == 0

/-- ARENA_ALLOCATE: the sample whose header check started first takes the granules it needs, free ones
(R324). Which granules is not fixed by the spec: the command names them. -/
def State.arenaAllocate (s : State) (id : Nat) (gs : List Nat) : State :=
  match s.samp id with
  | none => s
  | some x =>
    let waits (y : Samp) : Bool := y.core.isSome && y.outcome.isNone && !y.allocated
    let first := !(s.coulter.samples.any (fun y => waits y && decide (y.order < x.order)))
    let used := s.granulesUsed
    if waits x && first && gs.length == x.need && gs.all (fun g => decide (g < s.arenaGranules) && !used.contains g) && gs.eraseDups.length == gs.length then
      s.setSamp { x with granules := some gs } else s

/-! ### Syntax units (R325, R326, R328) -/

/-- A truncated sample ends by its trunc policy (R328). -/
def State.endTruncated (s : State) (x : Samp) : State :=
  let y := { x with truncated := true }
  if x.d.trunc = 0 then s.endSamp y 0x0705
  else
    let total := x.unitTotal
    (s.zeroOut x).endSamp { y with padded := total - min total x.valid, written := x.o } 0x0706

/-- An audio frame stored: each channel's samples at their place in its plane. -/
def State.storeAudio (s : State) (x : Samp) (b : Nat) (chs : List (List Nat)) : State :=
  let total := x.audioTotal
  (List.range chs.length).foldl (fun t c =>
    let vs := chs.getD c []
    let keep := (List.range vs.length).filter (fun i => wanted x.d (x.decoded + i))
    match keep with
    | [] => t
    | i0 :: _ =>
      t.storeOut x (4 * (c * total + (x.decoded + i0 - x.d.firstUnit)))
        (keep.flatMap (fun i => leBytes 4 (audioBits b (vs.getD i 0))))) s

/-- The decoded output of a unit: the state, the sample after it, its charge, and an outcome if it ends
here (R323, R325, R326). -/
def State.unitOutput (s : State) (x : Samp) (u : SynUnit) : State × Samp × Nat × Option Nat :=
  let h := x.header
  let k := x.d.kind
  if isAudio k then
    let n := (u.audio.headD []).length
    let out := ((List.range n).filter (fun i => wanted x.d (x.decoded + i))).length
    if (x.d.unitCount = 0 && x.audioTotal < x.valid + out) || h.channels < u.audio.length || u.audio.any (fun vs => decide (n < vs.length)) then
      (s, x, 0, some 0x0704)
    else
      let s1 := s.storeAudio x (if h.depth = 0 then 0 else h.depth) u.audio
      (s1, { x with decoded := x.decoded + n, valid := x.valid + out, written := max x.written (4 * h.channels * (x.valid + out)) }, h.channels * n, none)
  else if isInflate k then
    let bs := u.blocks.flatten
    if x.o < x.written + bs.length then (s, x, 0, some 0x0704)
    else (s.storeOut x x.written bs, { x with written := x.written + bs.length, valid := x.valid + u.blocks.length }, bs.length, none)
  else
    let pb := pictureBytes k h
    let total := x.pictureTotal
    let grain (n : Nat) (p : List (List Nat)) : List (List Nat) :=
      if k = 3 && x.d.grain then Config.filmGrain (s.bytes x.d.src x.d.len) n p else p
    let step (a : State × Samp × Option Nat) (p : List (List Nat)) : State × Samp × Option Nat :=
      if a.2.2.isSome then a
      else
        let y := a.2.1
        if !wanted x.d y.decoded then (a.1, { y with decoded := y.decoded + 1 }, none)
        else if total ≤ y.valid then (a.1, y, some (if x.limitP then 0x0702 else 0x0704))
        else (a.1.storeOut x (y.valid * pb) (pictureImage k h (grain y.decoded p)), { y with decoded := y.decoded + 1, valid := y.valid + 1, written := (y.valid + 1) * pb }, none)
    let r := u.pics.foldl step (s, x, none)
    let charge := if r.2.2.isSome then 0 else if isVideo k then u.decoded * (h.width * h.height) else if u.pics.isEmpty then 0 else h.width * h.height
    (r.1, r.2.1, charge, r.2.2)

/-- The text piece that the tokeniser enters next, as a syntax unit: its bits, its tokens as output, its
lookups, and whether it is invalid under utf8_strict. -/
def State.textUnit (s : State) (x : Samp) : Nat × List Nat × Nat × Nat × Bool :=
  let a := x.d.src + x.bits / 8
  let p := s.nextPiece x.voc a (x.d.src + x.d.len) x.run
  let bs := (s.bytes a p.1).map (fun b => b.toNat)
  let m := s.mergePiece x.voc bs.length bs 0
  (8 * p.1, m.1, m.2, p.2.1, p.2.2)

/-- The sample's stream is done: it completes, or its input has ended early; the units before first_unit are no part of what
is due (R323, R328, R335). -/
def State.finishSamp (s : State) (x : Samp) : State :=
  let k := x.d.kind
  let due := if x.d.unitCount = 0 then x.unitTotal - x.d.firstUnit else x.unitTotal
  if (isVideo k || isAudio k) && !x.limitP && x.valid < due then s.endTruncated x
  else if isImage k && x.valid = 0 then s.endTruncated x
  else s.endSamp x 0

/-- DECODE_SYNTAX_UNIT: the next syntax unit of a sample on its core: charged, decoded, its output charged
(R326). A text piece is decoded from the source itself. -/
def State.syntaxUnit (s : State) (id : Nat) (u0 : SynUnit) : State :=
  match s.samp id with
  | none => s
  | some x =>
    match x.core with
    | none => s
    | some c =>
      if s.core c != 1 || !x.allocated || x.outcome.isSome then s
      else if x.stop then s.endSamp x 0x0708
      else
        let budget := x.budgetOf s
        let text := isText x.d.kind
        let tu := if text then s.textUnit x else (0, [], 0, 0, false)
        let bits := if text then tu.1 else u0.bits
        let from_ := x.d.src + x.bits / 8
        let short := 8 * x.d.len < x.bits + bits
        let n := if short then x.d.len - x.bits / 8 else ceilDiv bits 8
        if s.readsPoison from_ n then
          match s.flight x.owner with
          | some f => (s.dropSamp id).setFlight { f with ending := some (poisonCode from_) }
          | none => s.dropSamp id
        else
          let bits' := if short then 8 * x.d.len - x.bits else bits
          let w1 := x.w + bits'
          let y := { x with bits := x.bits + bits', unit := x.unit + 1, charged := s.now, w := w1,
                            run := if text then tu.2.2.2.1 else x.run }
          let s2 := s.charge x bits'
          if budget < w1 then (s2.setSamp y).endSamp y 0x0707
          else if text && tu.2.2.2.2 && x.d.strict then s2.endSamp y 0x0704
          else if !text && u0.state = 1 then s2.endSamp y 0x0704
          else if short || (!text && u0.state = 2) then s2.endTruncated y
          else
            let r : State × Samp × Nat × Option Nat :=
              if text then
                (s2.storeOut y y.written (tu.2.1.flatMap (leBytes 4)),
                 { y with written := y.written + 4 * tu.2.1.length, valid := y.valid + tu.2.1.length }, tu.2.2.1, none)
              else s2.unitOutput y u0
            let s3 := r.1.charge x r.2.2.1
            let w2 := w1 + r.2.2.1
            let z := { r.2.1 with w := w2 }
            let s4 := s3.setSamp z
            match r.2.2.2 with
            | some code => s4.endSamp z code
            | none =>
              if budget < w2 then s4.endSamp z 0x0707
              else
                let full := (isVideo x.d.kind || isAudio x.d.kind) && x.d.unitCount != 0 && decide (x.d.unitCount ≤ z.valid)
                let done := if text then decide (8 * x.d.len ≤ z.bits) else u0.last || full
                if done then s4.finishSamp z else s4

/-! ### Core faults (R333, R334) -/

/-- A core fails: its sample restarts from its first byte elsewhere, and a kind with no working core left
is held. -/
def State.failCore (s : State) (c code check : Nat) : State :=
  if s.core c != 1 then s
  else
    let x := s.coreSample c
    let s1 := { s with coulter := { s.coulter with cores := s.coulter.cores.set c 2 } }
    let s2 := match x with
      | some x => s1.setSamp { x with core := none, restarted := true, unit := 0, bits := 0, decoded := 0, valid := 0, padded := 0,
                                      written := 0, run := 0, truncated := false, w := 0 }
      | none => s1
    let s3 := s2.raiseErr .coulterDec c 0 code ((x.map (fun y => y.work)).getD 0)
      (((x.map (fun y => y.work)).getD 0) <<< 32) check
    let g := coreGroup c
    let cores := if g = 0 then List.range 10 else if g = 1 then [10, 11, 12, 13] else [14, 15]
    if cores.all (fun k => s3.core k != 1) then s3.raiseErr .coulter 0 1 0x070A 0 0 0 else s3

/-- DEC_CORE_HUNG: no work charged for COULTER_WATCHDOG while a sample is held (R333). -/
def State.coreHung (s : State) (c : Nat) : State :=
  match s.coreSample c with
  | some x => if x.charged + almUs (s.rf (coulterReg 0x130) 31 0) ≤ s.now then s.failCore c 0x0709 1 else s
  | none => s

/-- A core holds a sample: PG_STATUS.busy. -/
def State.coreBusy (s : State) (c : Nat) : Bool := (s.coreSample c).isSome

/-! ### DECODE (R335, R336, R338) -/

/-- The fields of a DECODE. -/
def decodeDesc (d : List Word512) : SampDesc :=
  let w := dword d 1
  let v := dword d 2
  ⟨fld w 7 0, fld w 13 12, bitOf w.toNat 14, bitOf w.toNat 15, fld w 17 16, fld v 47 0, fld v 111 64, fld w 255 224, fld w 223 192,
   fld w 303 256, bitOf w.toNat 18, fld v 239 192, fld v 303 256⟩
def decodeResult (d : List Word512) : Nat := fld (dword d 1) 175 128

/-- Fields of a sample that its kind does not use are not zero, or its trunc code is reserved (R335). -/
def sampReserved (x : SampDesc) : Bool :=
  2 ≤ x.trunc || (x.grain && x.kind != 3) || (!isText x.kind && (x.strict || x.vocab != 0)) ||
  (!(isVideo x.kind || isAudio x.kind) && (x.unitCount != 0 || x.firstUnit != 0))

def decodeReserved (d : List Word512) : Bool :=
  let w := dword d 1
  let v := dword d 2
  let x := decodeDesc d
  fld w 511 304 != 0 || fld w 191 176 != 0 || fld w 127 19 != 0 || fld w 11 8 != 0 || fld v 511 304 != 0 || fld v 255 240 != 0 ||
  fld v 191 112 != 0 || fld v 63 48 != 0 || sampReserved x || (!x.direct && (x.cap != 0 || x.dst != 0))

/-- A range lies in the Coulter buffers, a Tilth or the Granary (R338). -/
def coulterPlace (a n : Nat) : Bool :=
  decide (n = 0) || (decide (coulterBufBase ≤ a) && decide (a + n ≤ stagingBufBase)) || inGranary a n || (List.range 8).any (fun f => inTilth f a n)

def State.inArena (s : State) (a n : Nat) : Bool := rangesOverlap [(a, n)] [(s.arenaBase, s.arenaGranules * granule)]

/-- The bytes a DECODE addresses. -/
def decodeFootprint (d : List Word512) : List (Nat × Nat) :=
  let x := decodeDesc d
  [(x.src, x.len), (x.dst, x.cap), (decodeResult d, 64)]

/-- The checks of R338, for DECODE and CANCEL. -/
def State.coulterParse (s : State) (d : List Word512) : Nat :=
  let x := decodeDesc d
  let rs := decodeResult d
  if !s.enabled .coulter 0 then 0x0715
  else if hOpcode (dword d 0) = 2 then (if fld (dword d 1) 511 64 ≠ 0 then 0x0103 else 0)
  else if !kindOk x.kind then 0x0710
  else if decodeReserved d then 0x0103
  else if allOnes 48 x.len || allOnes 48 x.cap || allOnes 32 x.unitCount || allOnes 48 x.budget || (x.direct && x.cap = 0) then 0x0201
  else if !x.direct then 0x0711
  else if !s.rangesPopulated (decodeFootprint d) then 0x0202
  else if !((decodeFootprint d).all (fun r => coulterPlace r.1 r.2)) || s.inArena x.dst x.cap then 0x0712
  else if rs % 64 ≠ 0 || x.dst % 64 ≠ 0 then 0x0713
  else if rangesOverlap [(x.dst, x.cap), (rs, 64)] [(x.src, x.len)] || rangesOverlap [(x.dst, x.cap)] [(rs, 64)] then 0x0714
  else 0

/-- W of the sample on a core: work_now (R340). -/
def State.workNow (s : State) (c : Nat) : Nat := ((s.coreSample c).map (fun x => x.w)).getD 0

/-- The result record of a sample (R335). -/
def State.resultRecord (s : State) (x : Samp) : List Byte :=
  let h := x.header
  let a := isAudio x.d.kind
  leBytes 8 ((x.outcome.getD 0) + (b2n x.truncated <<< 16) + (x.work <<< 32)) ++ leBytes 8 (x.w % 2 ^ 48) ++
  leBytes 8 ((if a then h.channels else h.width) % 2 ^ 32 + (((if a then h.rate else h.height) % 2 ^ 32) <<< 32)) ++
  leBytes 8 (x.valid % 2 ^ 32 + ((x.padded % 2 ^ 32) <<< 32)) ++ leBytes 8 x.written ++
  leBytes 8 (if x.d.direct then x.d.dst else s.arenaBase + (x.granules.getD []).headD 0 * granule) ++
  leBytes 8 (h.depth % 256 + ((h.chroma % 256) <<< 8) + (x.d.kind <<< 16)) ++ leBytes 8 ((x.unit - 1) % 2 ^ 32)

end Sys2Proof.Machine
end

