-- ==== Sys2Proof/Machine/Augment.lean ====
section
/-!
DEFINITION. Augmentation (R349 to R351): media in the layout of R320, the random draws, the operations in
list order, and the OUTPUT conversions.
-/
namespace Sys2Proof.Machine

/-- One plane of a picture: a sample by line and column, in units of 1 before a resize. -/
abbrev Plane := Nat → Nat → Int

/-- A picture: width, height, bit depth, chroma subsampling in x and y, whether its components are R, G and
B, and its planes. -/
structure Pict where
  w : Nat
  h : Nat
  depth : Nat
  sx : Nat
  sy : Nat
  rgb : Bool
  planes : List Plane

/-- What a decoded sample or a live frame holds. -/
inductive Media where
  | pics (l : List Pict)
  | audio (chs : List (List FV))
  | text (toks : List Nat)

/-! ### Reading the decoded layout (R320) -/

/-- A little-endian number of k bytes at an offset of some bytes. -/
def numAt (get : Nat → Byte) (off k : Nat) : Nat := leNat ((List.range k).map (fun i => get (off + i)))

/-- The picture at an offset. -/
def readPict (get : Nat → Byte) (m : FormMeta) (off : Nat) : Pict :=
  let e := if 8 < m.depth then 2 else 1
  if m.kind = 0x11 then
    ⟨m.width, m.height, m.depth, 1, 1, decide (3 ≤ m.comps),
     (List.range (if 3 ≤ m.comps then 3 else 1)).map (fun c => fun y x => ((numAt get (off + ((y * m.width + x) * m.comps + c) * e) e : Nat) : Int))⟩
  else
    let sx := if m.chroma = 1 || m.chroma = 2 then 2 else 1
    let sy := if m.chroma = 1 then 2 else 1
    let cw := ceilDiv m.width sx
    let ch := ceilDiv m.height sy
    let y0 : Plane := fun y x => ((numAt get (off + (y * m.width + x) * e) e : Nat) : Int)
    let c (k : Nat) : Plane := fun y x => ((numAt get (off + (m.width * m.height + k * (cw * ch) + y * cw + x) * e) e : Nat) : Int)
    ⟨m.width, m.height, m.depth, sx, sy, m.chroma == 4, if m.chroma = 0 then [y0] else [y0, c 0, c 1]⟩

/-- Bytes of one picture of a form; chroma code 4 stands for R, G and B planes. -/
def formPictBytes (m : FormMeta) : Nat :=
  let e := if 8 < m.depth then 2 else 1
  if m.kind = 0x11 then m.width * m.height * m.comps * e
  else
    let cw := if m.chroma = 1 || m.chroma = 2 then ceilDiv m.width 2 else m.width
    let ch := if m.chroma = 1 then ceilDiv m.height 2 else m.height
    (m.width * m.height + (if m.chroma = 0 then 0 else 2 * (cw * ch))) * e

/-- A decoded form read. -/
def readMedia (get : Nat → Byte) (m : FormMeta) : Media :=
  if isAudio m.kind then
    .audio ((List.range m.comps).map (fun c => (List.range m.total).map (fun i => f32 (BitVec.ofNat 32 (numAt get (4 * (c * m.total + i)) 4)))))
  else if isText m.kind then .text ((List.range m.units).map (fun i => numAt get (4 * i) 4))
  else .pics ((List.range m.units).map (fun i => readPict get m (i * formPictBytes m)))

/-! ### Operations (R350) -/

/-- An operation entry: its 512 bits. -/
abbrev AugOp := Nat

def augCode (o : AugOp) : Nat := bitsOf o 7 0
def augP (o : AugOp) : Nat := bitsOf o 16 8
/-- An FP32 parameter from a bit on. -/
def augF (o : AugOp) (lo : Nat) : FV := f32 (BitVec.ofNat 32 (bitsOf o (lo + 31) lo))

/-- u(k, n) of a draw (R349). -/
def uDraw (draw : Nat → BitVec 64) (k n : Nat) : Nat := ((draw k).toNat / 2 ^ 32 * n) / 2 ^ 32

/-- An integer ratio rounded to nearest, ties to even. -/
def rneDiv (n : Int) (d : Nat) : Int :=
  let q := n / d
  let r := (n % d).toNat
  if d < 2 * r || (2 * r = d && q % 2 ≠ 0) then q + 1 else q

/-- CROP_RANDOM on one picture: the same place in every picture of a sample. -/
def Pict.crop (p : Pict) (x0 y0 w h : Nat) : Pict :=
  { p with w := w, h := h, planes := (List.range p.planes.length).map (fun i =>
      let pl := p.planes.getD i (fun _ _ => 0)
      if i = 0 then fun y x => pl (y + y0) (x + x0) else fun y x => pl (y + y0 / p.sy) (x + x0 / p.sx)) }

/-- FLIP_H. -/
def Pict.flip (p : Pict) : Pict :=
  { p with planes := (List.range p.planes.length).map (fun i =>
      let pl := p.planes.getD i (fun _ _ => 0)
      let w := if i = 0 then p.w else ceilDiv p.w p.sx
      fun y x => pl y (w - 1 - x)) }

/-- JITTER. -/
def Pict.jitter (p : Pict) (g : Nat) (b : Int) : Pict :=
  { p with planes := p.planes.map (fun pl => fun y x =>
      max 0 (min (2 ^ p.depth - 1) (rneDiv (pl y x * g) 256 + b))) }

/-- One operation other than an OUTPUT. -/
def augApply (draw : Nat → BitVec 64) (o : AugOp) (m : Media) : Media :=
  match augCode o, m with
  | 0x01, .pics (p :: ps) =>
    let w := min p.w (bitsOf o 47 32)
    let h := min p.h (bitsOf o 63 48)
    let x := uDraw draw 1 (p.w - w + 1)
    let y := uDraw draw 2 (p.h - h + 1)
    .pics ((p :: ps).map (fun q => q.crop x y w h))
  | 0x02, .pics l => .pics (l.map Pict.flip)
  | 0x03, .pics l =>
    let stride := bitsOf o 39 32
    let n := bitsOf o 55 40
    let span := (n - 1) * stride
    let start := if l.length ≤ span then 0 else uDraw draw 1 (l.length - span)
    .pics ((List.range n).filterMap (fun i => l[start + i * stride]?))
  | 0x04, .pics l =>
    let glo := bitsOf o 47 32
    let g := glo + uDraw draw 1 (bitsOf o 63 48 - glo + 1)
    let lo := signedOf 16 (bitsOf o 79 64)
    let hi := signedOf 16 (bitsOf o 95 80)
    let b := lo + (uDraw draw 2 (hi - lo + 1).toNat : Nat)
    .pics (l.map (fun p => p.jitter g b))
  | 0x10, .audio chs =>
    let n := bitsOf o 63 32
    let len := (chs.headD []).length
    let start := if len ≤ n then 0 else uDraw draw 1 (len - n + 1)
    .audio (chs.map (fun c => (List.range n).map (fun i => c.getD (start + i) FV.zero)))
  | 0x11, .audio chs =>
    let lo := augF o 32
    let hi := augF o 64
    let g := addF32 lo (mulF32 (mulF32 (subF32 hi lo) (FV.fin false ((draw 1).toNat / 2 ^ 40) 0)) (FV.fin false 1 (-24)))
    .audio (chs.map (fun c => c.map (fun v => mulF32 v g)))
  | _, m => m

/-! ### OUTPUT (R350, R351) -/

/-- A source position of a separable bilinear resize from n samples to k with aligned centres: the two
neighbours, kept inside, and the second one's weight in units of 2^−14. -/
def bilin (n k i : Nat) : Nat × Nat × Nat :=
  let num : Int := ((2 * i + 1) * n : Nat) - (k : Int)
  let den : Nat := 2 * k
  let i0 := num / den
  let f := (num % den).toNat
  let w := if f * 2 ^ 14 % den = 0 then f * 2 ^ 14 / den else f * 2 ^ 14 / den + b2n (Config.weightUp f den)
  let clampI (j : Int) : Nat := (max 0 (min ((n : Int) - 1) j)).toNat
  (clampI i0, clampI (i0 + 1), w)

/-- A full-size plane resized: rows, then columns; each pass sums exactly and rounds once to the 2^−4 grid.
The result is in units of 2^−4. -/
def resizePlane (pl : Plane) (sw sh w h : Nat) : Plane :=
  let rows : Plane := fun y x =>
    let b := bilin sw w x
    rneDiv (pl y b.1 * ((2 ^ 14 - b.2.2 : Nat) : Int) + pl y b.2.1 * (b.2.2 : Int)) (2 ^ 10)
  fun y x =>
    let b := bilin sh h y
    rneDiv (rows b.1 x * ((2 ^ 14 - b.2.2 : Nat) : Int) + rows b.2.1 x * (b.2.2 : Int)) (2 ^ 14)

/-- The three full-size planes of a picture: chroma by replication, mid-range where there is none. -/
def Pict.full (p : Pict) : List Plane :=
  match p.planes with
  | [y] => [y, fun _ _ => 2 ^ (p.depth - 1), fun _ _ => 2 ^ (p.depth - 1)]
  | y :: rest => y :: rest.map (fun (c : Plane) => fun (a b : Nat) => c (a / p.sy) (b / p.sx))
  | [] => []

/-- The colour step: one channel of a pixel as FP32. Code 0 keeps the components. A matrix is applied in FP32 RNE, the
product of Y first, then that of Cb, then that of Cr (R351); its coefficients and the components' offsets are not stated
by the spec. Three more colour codes, 4 to 6, stand for a source in R, G and B. -/
def colourStep (code : Nat) (rgb : Bool) (depth ch : Nat) (v : List FV) : FV :=
  if code = 0 && !rgb then (v.getD ch FV.zero).toF32
  else
    let m := code + (if rgb then 4 else 0)
    let term (i : Nat) : FV :=
      mulF32 (subF32 (v.getD i FV.zero).toF32 (f32 (BitVec.ofNat 32 (Config.colourOffset m depth i))))
        (f32 (BitVec.ofNat 32 (Config.colourCoef m depth ch i)))
    addF32 (addF32 (term 0) (term 1)) (term 2)

/-- The elements of OUTPUT_PICTURE, before conversion: by frame, channel, line and column. -/
def outPicture (o : AugOp) (l : List Pict) : List FV :=
  let w := bitsOf o 47 32
  let h := bitsOf o 63 48
  let frames := bitsOf o 79 64
  let code := bitsOf o 107 106
  (List.range frames).flatMap (fun fr =>
    match l[fr]? with
    | none => List.replicate (3 * w * h) FV.zero
    | some p =>
      let pl := p.full.map (fun q => resizePlane q p.w p.h w h)
      (List.range 3).flatMap (fun ch => (List.range h).flatMap (fun y => (List.range w).map (fun x =>
        let v := colourStep code p.rgb p.depth ch (pl.map (fun q => FV.ofInt (q y x) (-4)))
        mulF32 (subF32 v (augF o (128 + 32 * ch))) (augF o (224 + 32 * ch))))))

/-- The elements of OUTPUT_AUDIO, before conversion: by channel and sample. -/
def outAudio (o : AugOp) (chs : List (List FV)) : List FV :=
  (List.range (bitsOf o 71 64)).flatMap (fun c => (List.range (bitsOf o 63 32)).map (fun i => (chs.getD c []).getD i FV.zero))

/-- The token identifiers of OUTPUT_TEXT. -/
def outText (draw : Nat → BitVec 64) (o : AugOp) (t : List Nat) : List Nat :=
  let n := bitsOf o 63 32
  let t1 := t ++ [bitsOf o 127 96]
  let kept := if n < t1.length then (t1.drop (if bitOf o 128 then uDraw draw 1 (t1.length - n + 1) else 0)).take n else t1
  kept ++ List.replicate (n - kept.length) (bitsOf o 95 64)

/-- The specifier and s_out of an OUTPUT. -/
def outputSpec (o : AugOp) : Option Spec :=
  if augCode o = 0x0F then Spec.ofBits (bitsOf o 95 80) (signedOf 10 (bitsOf o 105 96)) 0
  else if augCode o = 0x1F then Spec.ofBits (bitsOf o 87 72) (signedOf 10 (bitsOf o 97 88)) 0
  else none

/-- Formats that an OUTPUT converts to: those of one whole element per 1, 2 or 4 bytes. -/
def outputFmtOk (f : Fmt) : Bool :=
  match f with
  | .e4m3 | .e5m2 | .fp16 | .bf16 | .fp32 | .int8 | .uint8 => true
  | .a4 | .l96 | .l32 | .l64 | .mask1 => false

/-- The OUTPUT of a modality. -/
def outputOf (modality : Nat) : Nat := if modality = 1 then 0x0F else if modality = 2 then 0x1F else 0x2F

/-- Bytes of an OUTPUT. -/
def outputBytes (o : AugOp) : Nat :=
  let e := ((outputSpec o).map (fun sp => sp.fmt.bytes)).getD 0
  match augCode o with
  | 0x0F => 3 * bitsOf o 47 32 * bitsOf o 63 48 * bitsOf o 79 64 * e
  | 0x1F => bitsOf o 63 32 * bitsOf o 71 64 * e
  | _ => 4 * bitsOf o 63 32

/-- An operation is refused: another modality, unknown, a reserved bit, a parameter out of range (R344). -/
def augBad (modality : Nat) (o : AugOp) : Bool :=
  let z (hi lo : Nat) : Bool := bitsOf o hi lo != 0
  let specBad (w : Nat) : Bool := bitsOf w 15 7 != 0 || !((Spec.ofBits w 0 0).any (fun sp => outputFmtOk sp.fmt))
  z 31 17 || decide (256 < augP o) ||
  match augCode o with
  | 0x01 => modality != 1 || z 511 64 || bitsOf o 47 32 == 0 || bitsOf o 63 48 == 0
  | 0x02 => modality != 1 || z 511 32
  | 0x03 => modality != 1 || z 511 56 || bitsOf o 39 32 == 0 || bitsOf o 55 40 == 0 || decide (4096 < bitsOf o 55 40)
  | 0x04 => modality != 1 || z 511 96 || decide (bitsOf o 63 48 < bitsOf o 47 32) ||
      decide (signedOf 16 (bitsOf o 95 80) < signedOf 16 (bitsOf o 79 64))
  | 0x0F => modality != 1 || z 511 320 || z 127 108 || bitsOf o 107 106 == 3 || bitsOf o 47 32 == 0 || bitsOf o 63 48 == 0 ||
      bitsOf o 79 64 == 0 || specBad (bitsOf o 95 80)
  | 0x10 => modality != 2 || z 511 64 || bitsOf o 63 32 == 0
  | 0x11 => modality != 2 || z 511 96
  | 0x1F => modality != 2 || z 511 98 || bitsOf o 63 32 == 0 || bitsOf o 71 64 == 0 || decide (8 < bitsOf o 71 64) || specBad (bitsOf o 87 72)
  | 0x2F => modality != 3 || z 511 129 || bitsOf o 63 32 == 0
  | _ => true

/-- The bytes that an OUTPUT makes of a medium, and what its elements report (R350, R351). -/
def augOut (draw : Nat → BitVec 64) (srAt : Nat → BitVec 64) (o : AugOp) (m : Media) : List Byte × Tally :=
  match m with
  | .text t => ((outText draw o t).flatMap (leBytes 4), Tally.empty)
  | m2 =>
    let vs := match m2 with
      | .pics l => outPicture o l
      | .audio chs => outAudio o chs
      | .text _ => []
    match outputSpec o with
    | none => ([], Tally.empty)
    | some sp =>
      let cv := (List.range vs.length).map (fun i => convert (vs.getD i FV.zero) sp (srAt i))
      (cv.flatMap (fun c => leBytes sp.fmt.bytes c.1),
       Tally.sum ((List.range vs.length).map (fun i =>
         let c := cv.getD i (0, {})
         Tally.ofElem (vs.getD i FV.zero) c.2 (storedZero sp.fmt c.1) sp.sOut)))

/-- An operation is an OUTPUT. -/
def augIsOutput (o : AugOp) : Bool := augCode o == 0x0F || augCode o == 0x1F || augCode o == 0x2F

/-- The bytes of an area, and what its elements report: the operations in list order, each that applies (R350). An OUTPUT
always applies: it writes and reports its elements and leaves the medium as it is, and a later one writes over it (log entry
79). `draw o k` is draw k of operation o. -/
def augRun (draw : Nat → Nat → BitVec 64) (srAt : Nat → BitVec 64) : Nat → List AugOp → Media → List Byte × Tally → List Byte × Tally
  | _, [], _, acc => acc
  | i, o :: os, m, acc =>
    if augIsOutput o then
      let r := augOut (draw i) srAt o m
      augRun draw srAt (i + 1) os m (r.1, acc.2.add r.2)
    else augRun draw srAt (i + 1) os (if (draw i 0).toNat / 2 ^ 56 < augP o then augApply (draw i) o m else m) acc

/-- The bytes of an area, and what its elements report. -/
def augOutput (draw : Nat → Nat → BitVec 64) (srAt : Nat → BitVec 64) (ops : List AugOp) (m : Media) : List Byte × Tally :=
  augRun draw srAt 0 ops m ([], Tally.empty)

end Sys2Proof.Machine
end

