-- ==== Sys2Proof/Machine/Sample.lean ====
section
/-!
DEFINITION. What completes a DECODE and a Coulter CANCEL (R336, R337); manifests (R341, R342), BATCH and
WINDROW_RELEASE (R343, R344), the windrow queue (R345 to R348), fallback (R352), the crib (R353, R354).
-/
namespace Sys2Proof.Machine

def sampleReg (off : Nat) : Nat := regAddr .sample 0 off

/-! ### BATCH fields (R343) -/

structure BatchF where
  liveWait : Nat
  fallbackCount : Nat
  fallbackAddr : Nat
  ops : Nat
  oplist : Nat
  epoch : Nat
  entries : Nat
  firstPos : Nat
  manifest : Nat
  count : Nat
  stream : Nat
  source : Nat
  modality : Nat
  areaBytes : Nat
  deriving DecidableEq, Repr

def batchF (d : List Word512) : BatchF :=
  let w := dword d 1
  ⟨fld w 511 480, fld w 479 448, fld w 431 384, fld w 343 336, fld w 335 288, fld w 287 256, fld w 255 192, fld w 191 128,
   fld w 111 64, fld w 43 32, fld w 18 16, fld w 9 8, fld w 7 0, fld (dword d 2) 31 0⟩

def batchReserved (d : List Word512) : Bool :=
  let w := dword d 1
  let b := batchF d
  let z (hi lo : Nat) : Bool := fld w hi lo != 0
  z 447 432 || z 383 344 || z 127 112 || z 63 44 || z 31 19 || z 15 10 || fld (dword d 2) 511 32 != 0 || 2 ≤ b.source ||
  b.modality == 0 || decide (4 ≤ b.modality) || (b.fallbackCount == 0 && b.fallbackAddr != 0) ||
  (if b.source = 0 then b.liveWait != 0 || b.stream != 0 else b.entries != 0 || b.firstPos != 0 || b.manifest != 0)

/-- The operation list in memory. -/
def State.opList (s : State) (b : BatchF) : List AugOp := (List.range b.ops).map (fun i => s.num (b.oplist + 64 * i) 64)

/-- Bytes of the status records of a slot, padded (R346). -/
def statusBytes (count : Nat) : Nat := roundUp (16 * count) 64

def State.slotBytes (s : State) : Nat := s.rf (sampleReg 0x108) 47 32 * granule
def State.slotCount (s : State) : Nat := s.rf (sampleReg 0x108) 8 0

/-- The configuration register of live stream i (R361). -/
def liveReg (i off : Nat) : Nat := regAddr .live 0 (0x200 + 0x40 * i + off)

/-- The ranges that a BATCH reads. -/
def batchFootprint (d : List Word512) : List (Nat × Nat) :=
  let b := batchF d
  (if b.source = 0 then [(b.manifest, 32 * b.entries)] else []) ++ [(b.oplist, 64 * b.ops), (b.fallbackAddr, 8 * b.fallbackCount)]

/-- The checks of R344, for BATCH and WINDROW_RELEASE. -/
def State.sampleParse (s : State) (d : List Word512) : Nat :=
  let b := batchF d
  let batch := hOpcode (dword d 0) = 3
  let n := fld (dword d 1) 8 0
  if !s.enabled .coulter 0 || !s.enabled .sample 0 then 0x0715
  else if (batch && batchReserved d) || (!batch && fld (dword d 1) 511 9 ≠ 0) then 0x0103
  else if (batch && (allOnes 32 b.fallbackCount || allOnes 64 b.entries || allOnes 12 b.count || allOnes 8 b.ops || allOnes 32 b.areaBytes || 10000000 < b.liveWait ||
      (b.source = 0 && b.entries < b.firstPos + b.count))) || (!batch && (n = 0 || 256 < n)) then 0x0201
  else if !batch then (if s.slotBytes = 0 || s.slotCount = 0 then 0x0723 else 0)
  else if !s.rangesPopulated (batchFootprint d) || !(batchFootprint d).all (fun r => coulterPlace r.1 r.2) then 0x0202
  else if b.manifest % 64 ≠ 0 || b.oplist % 64 ≠ 0 || b.fallbackAddr % 8 ≠ 0 || b.areaBytes % 64 ≠ 0 then 0x0721
  else if b.ops = 0 || 32 < b.ops || (s.opList b).any (augBad b.modality) || augCode ((s.opList b).getLastD 0) ≠ outputOf b.modality then 0x0722
  else if s.slotBytes = 0 || s.slotBytes < statusBytes b.count + b.count * b.areaBytes || b.areaBytes < outputBytes ((s.opList b).getLastD 0) then 0x0723
  else if b.source = 1 && (!bitOf (s.reg (liveReg b.stream 0)) 0 || s.rf (liveReg b.stream 0) 3 1 + 1 ≠ b.modality) then 0x0724
  else 0

/-! ### The windrow queue (R345 to R348) -/

def Flight.batch? (f : Flight) : Option BatchProg :=
  match f.prog with
  | .batch b => some b
  | _ => none

/-- The slot of the n-th BATCH. -/
def State.slotOf (s : State) (n : Nat) : Nat := n % max 1 s.slotCount

def State.slotState (s : State) (k : Nat) : Nat := s.coulter.slots.getD k 0
def State.setSlot (s : State) (k v : Nat) : State :=
  let sl := if k < s.coulter.slots.length then s.coulter.slots else s.coulter.slots ++ List.replicate (k + 1 - s.coulter.slots.length) 0
  { s with coulter := { s.coulter with slots := sl.set k v } }

def State.slotsReady (s : State) : Nat := s.coulter.slots.countP (· == 2)
def State.slotsFilling (s : State) : Nat := s.coulter.slots.countP (· == 1)

/-- The queue emptied by a write of its configuration (R345, R360). -/
def State.emptyWindrow (s : State) : State := { s with coulter := { s.coulter with slots := [], batches := 0, lowArmed := true } }

/-- Start of the slot and of an area in it (R346). -/
def State.slotBase (s : State) (n : Nat) : Nat := s.rf (sampleReg 0x100) 47 0 + s.slotOf n * s.slotBytes
def State.areaAddr (s : State) (n count areaBytes j : Nat) : Nat := s.slotBase n + statusBytes count + j * areaBytes

/-- Every sample of a descriptor leaves Coulter. -/
def State.dropSamples (s : State) (owner : Nat) : State :=
  { s with coulter := { s.coulter with samples := s.coulter.samples.filter (fun x => x.owner != owner) } }

/-- A BATCH that ends early: its samples are dropped, its slot returns to the free pool, and it completes
with a code (R337, R343, R257). -/
def State.abortBatch (s : State) (f : Flight) (code : Nat) : State :=
  let s1 := s.dropSamples f.id
  let s2 := match f.batch? with
    | some b => s1.setSlot (s.slotOf b.seq) 0
    | none => s1
  s2.complete f.id code

/-! ### DECODE and CANCEL (R336, R337) -/

/-- DECODE: received once its gate has fired, it completes when its output and its result record are
written. -/
def State.runDecode (s : State) (id : Nat) : State :=
  match s.flightOf id 5 1 with
  | none => s
  | some f =>
    match f.ending with
    | some code => (s.dropSamples id).complete id code
    | none =>
      if !f.started then
        if f.fired && s.enabled .coulter 0 then
          (s.addSamp id 0 f.work (decodeDesc f.words)).setFlight { f with started := true, prog := Prog.decode }
        else s
      else
        match s.coulter.samples.find? (fun x => x.owner == id) with
        | none => s
        | some x =>
          match x.outcome with
          | none => s
          | some o => ((s.storeAs 3 (decodeResult f.words) (s.resultRecord x)).dropSamples id).complete id o

/-- A descriptor that a Coulter CANCEL matches. -/
def coulterMatches (d : List Word512) (f : Flight) : Bool :=
  f.cls == 5 && (f.op == 1 || f.op == 3) && (f.work &&& fld (dword d 1) 63 32) == (fld (dword d 1) 31 0 &&& fld (dword d 1) 63 32)

/-- What a CANCEL does to one match (R337, R343): a DECODE whose sample has not started, and a BATCH, end at
once; a DECODE that has started stops at its next syntax unit. -/
def State.cancelCoulter (s : State) (id : Nat) : State :=
  match s.flight id with
  | none => s
  | some f =>
    if f.ending.isSome then s
    else if f.op = 3 then (s.bump (coulterReg 0x1A8)).abortBatch f 0x0708
    else
      match s.coulter.samples.find? (fun x => x.owner == id) with
      | none => (s.bump (coulterReg 0x1A8)).complete id 0x0708
      | some x =>
        if x.outcome.isSome then (s.setSamp { x.release with outcome := some 0x0708 }).bump (coulterReg 0x1A8)
        else if x.hdr.isNone then (((s.dropSamples id).bump (coulterReg 0x1A8))).complete id 0x0708
        else s.setSamp { x with stop := true }

/-- COULTER_CANCEL: it matches once its launch condition holds, and completes after what it matched. -/
def State.runCoulterCancel (s : State) (id : Nat) : State :=
  match s.flightOf id 5 2 with
  | none => s
  | some f =>
    match f.prog with
    | .cancel p => if p.matched.all (fun i => (s.flight i).isNone) then s.complete id 0 else s
    | _ =>
      if !f.fired then s
      else
        let hits := (s.flights.filter (coulterMatches f.words)).map (fun g => g.id)
        let s1 := hits.foldl State.cancelCoulter s
        match s1.flight id with
        | some g => s1.setFlight { g with started := true, prog := Prog.cancel ⟨1, hits⟩ }
        | none => s1

/-! ### BATCH (R345, R346) -/

/-- The oldest BATCH that has not started and asks for samples. -/
def State.nextBatch (s : State) : Option Nat :=
  (s.flights.find? (fun f => f.cls == 5 && f.op == 3 && !f.started && (batchF f.words).count != 0)).map (fun f => f.id)

/-- A record of a slot's status (R346): the outcome of the slot's own sample, its marks, the fallback entries
tried, and the index or capture time. -/
def statusRecord (outcome : Nat) (live zero crib sub : Bool) (tried what : Nat) : List Byte :=
  leBytes 8 (min tried 0xFFFF + (b2n sub <<< 16) + (b2n crib <<< 17) + (b2n zero <<< 18) + (b2n live <<< 19) + ((outcome % 2 ^ 16) <<< 32)) ++ leBytes 8 what

/-- Area j of a BATCH replaced. -/
def BatchProg.setArea (b : BatchProg) (j : Nat) (a : AreaSt) : BatchProg := { b with areas := b.areas.set j a }

/-- An area and its status record written (R346). -/
def State.putArea (s : State) (f : Flight) (p : BatchProg) (j : Nat) (bytes rec : List Byte) : State :=
  let b := batchF f.words
  (s.storeAs 3 (s.areaAddr p.seq b.count b.areaBytes j) (bytes ++ List.replicate (b.areaBytes - bytes.length) 0)).storeAs 3 (s.slotBase p.seq + 16 * j) rec

/-- An area written as zero (R352, R358). What its record names as the index whose data fills it is not
stated: a free value of the BATCH's own fields, so that equal runs agree (R4; log entry 2). -/
def State.zeroArea (s : State) (f : Flight) (p : BatchProg) (j outcome tried : Nat) (live : Bool) : State :=
  let b := batchF f.words
  let what := Config.openValue 1 [b.manifest, b.firstPos + j, b.epoch, b.source, b.stream] % 2 ^ 64
  let s1 := s.putArea f p j [] (statusRecord outcome live true false false tried what)
  let a := p.areas.getD j ⟨0, 0, 0, 0, []⟩
  let p1 := { p.setArea j { a with phase := 2 } with spoiled := p.spoiled + 1 }
  (((s1.setFlight { f with prog := Prog.batch p1 }).bump (sampleReg 0x150)).raiseErr .sample 0 1 0x0725 f.work 0 0)

/-- The bytes of an area from a medium, reported to Winnow (R349 to R351). i is the index whose draws are
taken. -/
def State.areaOutput (s : State) (f : Flight) (i : Nat) (m : Media) : List Byte × Tally :=
  let b := batchF f.words
  let tag := hTag f.hdr
  augOutput (fun o k => s.drawFor tag b.epoch ((i * 2 ^ 11 + o * 2 ^ 6 + k) % 2 ^ 64))
    (fun e => s.drawFor tag b.epoch ((i * 2 ^ 11 + 31 * 2 ^ 6 + e) % 2 ^ 64)) (s.opList b) m

/-- An area filled (R346): from a decoded sample, from the crib, or from a live frame. -/
def State.fillArea (s : State) (f : Flight) (p : BatchProg) (j i : Nat) (m : Media) (live crib : Bool) (what : Nat) : State :=
  let b := batchF f.words
  let a := p.areas.getD j ⟨0, 0, 0, 0, []⟩
  let r := s.areaOutput f i m
  let sub := decide (0 < a.tried)
  let s1 := (s.putArea f p j (r.1.take b.areaBytes) (statusRecord a.own live false crib sub a.tried what)).report s.reporter (hTag f.hdr) f.step f.inPrePass r.2
  let p1 := { p.setArea j { a with phase := 2 } with spoiled := p.spoiled + b2n sub, live := p.live + b2n live }
  let s2 := s1.setFlight { f with prog := Prog.batch p1 }
  if sub then s2.bump (sampleReg 0x148) else s2

/-- The operations that a BATCH reads hold poison. -/
def State.opsPoisoned (s : State) (b : BatchF) : Bool := s.readsPoison b.oplist (64 * b.ops)

/-! ### Manifest entries (R341, R342) -/

/-- A manifest entry as the fields of a DECODE in arena mode. -/
def entryDesc (e : List Byte) : SampDesc :=
  let q (i : Nat) : Nat := leNat ((e.drop (8 * i)).take 8)
  ⟨bitsOf (q 0) 55 48, bitsOf (q 0) 57 56, bitOf (q 0) 62, bitOf (q 0) 59, bitsOf (q 0) 61 60, bitsOf (q 0) 47 0, bitsOf (q 1) 47 0,
   bitsOf (q 2) 63 32, bitsOf (q 2) 31 0, bitsOf (q 3) 47 0, false, 0, 0⟩

def entryCrib (e : List Byte) : Bool := bitOf (leNat (e.take 8)) 58

/-- The modality of a kind. -/
def modalityOf (k : Nat) : Nat := if isVideo k || isImage k then 1 else if isAudio k then 2 else if isText k then 3 else 0

/-- An entry ends with SAMPLE_ENTRY (R342). -/
def State.entryBad (s : State) (modality : Nat) (e : List Byte) : Bool :=
  let q (i : Nat) : Nat := leNat ((e.drop (8 * i)).take 8)
  let x := entryDesc e
  bitsOf (q 0) 63 63 != 0 || bitsOf (q 1) 63 48 != 0 || bitsOf (q 3) 63 48 != 0 || modalityOf x.kind != modality || sampReserved x ||
  allOnes 48 x.len || allOnes 32 x.unitCount || allOnes 48 x.budget || !s.populated x.src x.len || !coulterPlace x.src x.len

/-! ### The crib (R353, R354) -/

def State.cribBase (s : State) : Nat := s.rf (sampleReg 0x110) 47 0
def State.cribSize (s : State) : Nat := s.rf (sampleReg 0x118) 23 0
/-- Granules of the crib after its index. -/
def State.cribGranules (s : State) : Nat := (s.cribSize * 0x200000 - s.cribSize * 0x800) / granule
def State.cribAddr (s : State) (g : Nat) : Nat := s.cribBase + s.cribSize * 0x800 + g * granule
def State.cribUsed (s : State) : List Nat := s.coulter.crib.flatMap (fun e => e.granules)
def State.emptyCrib (s : State) : State := { s with coulter := { s.coulter with crib := [] } }

def State.cribFind (s : State) (key : Nat × Nat × List Byte) : Option CribEntry := s.coulter.crib.find? (fun e => e.key == key)

/-- The bytes of an entry's form. -/
def State.cribByte (s : State) (e : CribEntry) (i : Nat) : Byte := s.byte (s.cribAddr (e.granules.getD (i / granule) 0) + i % granule)

/-- Some byte of an entry's form is poisoned. -/
def State.cribPoison (s : State) (e : CribEntry) : Bool :=
  let n := (e.form.map (fun m => m.bytes)).getD 0
  (List.range e.granules.length).any (fun i => s.readsPoison (s.cribAddr (e.granules.getD i 0)) (min granule (n - i * granule)))

/-- The description of a decoded sample: the pictures that O holds (those written, where O came from P), the
samples per channel, or the tokens. -/
def formOf (x : Samp) : FormMeta :=
  let h := x.header
  let pics := if x.limitP then x.valid else x.pictureTotal
  ⟨x.d.kind, h.width, h.height, h.depth, h.chroma, if isAudio x.d.kind then h.channels else h.comps,
   if isText x.d.kind then x.valid else pics, x.audioTotal,
   if x.limitP || isText x.d.kind then x.written else x.o⟩

/-- A decoded sample, or its outcome alone, inserted into the crib; the granules are named by the command, since
the spec does not say which free ones are taken. Answers none where they are not the free granules needed. -/
def State.cribInsert (s : State) (key : Nat × Nat × List Byte) (x : Samp) (outcome : Nat) (gs : List Nat) : Option State :=
  if s.cribSize = 0 || (s.cribFind key).isSome then some s
  else
    let ok := outcome = 0 || outcome = 0x0706
    let m := formOf x
    let need := if ok then ceilDiv m.bytes granule else 0
    if s.cribSize * 32 ≤ s.coulter.crib.length || s.cribGranules < s.cribUsed.length + need then some (s.bump (sampleReg 0x168))
    else if gs.length != need || gs.eraseDups.length != gs.length || gs.any (fun g => decide (s.cribGranules ≤ g) || s.cribUsed.contains g) then none
    else
      let bs := if ok then s.outBytes x m.bytes else []
      let e : CribEntry := ⟨key, outcome, if ok then some m else none, gs⟩
      let s1 := (List.range gs.length).foldl (fun t i => t.storeAs 3 (s.cribAddr (gs.getD i 0)) ((bs.drop (i * granule)).take granule)) s
      some { s1 with coulter := { s1.coulter with crib := s1.coulter.crib ++ [e] } }

/-! ### The areas of a manifest BATCH (R342, R352) -/

/-- The entry tried for an area has failed: the next fallback entry, or zeros (R352). -/
def State.areaFail (s : State) (f : Flight) (p : BatchProg) (j outcome : Nat) : State :=
  let b := batchF f.words
  let a := p.areas.getD j ⟨0, 0, 0, 0, []⟩
  let own := if a.tried = 0 then outcome else a.own
  let a1 := { a with own := own }
  if a.tried < b.fallbackCount then
    let at_ := b.fallbackAddr + 8 * (((b.firstPos + j) + a.tried) % b.fallbackCount)
    if s.readsPoison at_ 8 then s.abortBatch f (poisonCode at_)
    else
      let a2 := { a1 with phase := 0, index := s.num at_ 8, tried := a.tried + 1, entry := [] }
      s.setFlight { f with prog := Prog.batch (p.setArea j a2) }
  else s.zeroArea f (p.setArea j a1) j own a.tried false

/-- An area's entry looked up: in the manifest, then in the crib, else its sample joins the decoders. -/
def State.areaLookup (s : State) (f : Flight) (p : BatchProg) (j : Nat) (a : AreaSt) : State :=
  let b := batchF f.words
  let at_ := b.manifest + 32 * a.index
  if b.entries ≤ a.index then s.areaFail f p j 0x0726
  else if s.readsPoison at_ 32 then s.abortBatch f (poisonCode at_)
  else if s.opsPoisoned b then s.abortBatch f (poisonCode b.oplist)
  else
    let e := s.bytes at_ 32
    if s.entryBad b.modality e then s.areaFail f p j 0x0726
    else
      let decode (t : State) : State :=
        (t.addSamp f.id j f.work (entryDesc e)).setFlight { f with prog := Prog.batch (p.setArea j { a with phase := 1, entry := e }) }
      if !entryCrib e || s.cribSize = 0 then decode s
      else
        match s.cribFind (b.manifest, a.index, e) with
        | none => decode (s.bump (sampleReg 0x160))
        | some c =>
          if s.cribPoison c then
            let s1 := { s with coulter := { s.coulter with crib := s.coulter.crib.filter (fun k => k.key != c.key) } }
            decode ((s1.bump (sampleReg 0x170)).bump (sampleReg 0x160))
          else
            let s1 := s.bump (sampleReg 0x158)
            match c.form with
            | none => s1.areaFail f p j c.outcome
            | some m =>
              let a1 := { a with own := if a.tried = 0 then c.outcome else a.own }
              s1.fillArea f (p.setArea j a1) j (b.firstPos + j) (readMedia (s1.cribByte c) m) false true a.index

/-- An area's sample has ended: into the crib, then into the area or on to the fallback list. -/
def State.areaDecoded (s : State) (f : Flight) (p : BatchProg) (j : Nat) (a : AreaSt) (gs : List Nat) : State :=
  let b := batchF f.words
  match s.coulter.samples.find? (fun x => x.owner == f.id && x.area == j) with
  | none => s
  | some x =>
    match x.outcome with
    | none => s
    | some o =>
      match (if entryCrib a.entry then s.cribInsert (b.manifest, a.index, a.entry) x o gs else some s) with
      | none => s
      | some s1 =>
        let drop (t : State) : State := t.dropSamp x.id
        if o = 0 || o = 0x0706 then
          let bs := s1.outBytes x (formOf x).bytes
          let a1 := { a with own := if a.tried = 0 then o else a.own }
          drop (s1.fillArea f (p.setArea j a1) j (b.firstPos + j) (readMedia (fun i => bs.getD i 0) (formOf x)) false false a.index)
        else drop (s1.areaFail f p j o)

/-- BATCH: the next thing that its area j needs. A BATCH of no samples completes; one that poison has met
ends. -/
def State.runBatch (s : State) (id j : Nat) (gs : List Nat) : State :=
  match s.flightOf id 5 3 with
  | none => s
  | some f =>
    match f.ending with
    | some code => s.abortBatch f code
    | none =>
      if (batchF f.words).count = 0 then (if f.fired then s.complete id 0 else s)
      else
        match f.batch? with
        | none => s
        | some p =>
          let b := batchF f.words
          match p.areas[j]? with
          | none => s
          | some a =>
            if b.source ≠ 0 then s
            else if a.phase = 0 then s.areaLookup f p j a
            else if a.phase = 1 then s.areaDecoded f p j a gs
            else s

/-- BATCH_SEAL: every area and record is written (R346). -/
def State.sealBatch (s : State) (id : Nat) : State :=
  match s.flightOf id 5 3 with
  | none => s
  | some f =>
    match f.batch? with
    | none => s
    | some p =>
      if f.ending.isSome || p.areas.any (fun a => a.phase != 2) then s
      else
        let s1 := (s.setSlot (s.slotOf p.seq) 2).bump (sampleReg 0x140)
        let s2 := if s1.rf (sampleReg 0x108) 23 16 ≤ s1.slotsReady then { s1 with coulter := { s1.coulter with lowArmed := true } } else s1
        s2.complete id (min p.spoiled 0xFFFE)

/-- Ready slots in slot order: the slot of the oldest BATCH first. -/
def State.readyOrder (s : State) : List Nat :=
  let n := max 1 s.slotCount
  ((List.range n).map (fun i => (s.coulter.batches + i) % n)).filter (fun k => s.slotState k == 2)

/-- WINDROW_RELEASE (R347, R348). -/
def State.releaseWindrow (s : State) (id : Nat) : State :=
  match s.flightOf id 5 4 with
  | none => s
  | some f =>
    if !f.fired then s
    else
      let n := fld (f.w 1) 8 0
      let ready := s.readyOrder
      let s1 := (ready.take n).foldl (fun t k => t.setSlot k 0) s
      let low := decide (s1.slotsReady < s1.rf (sampleReg 0x108) 23 16)
      let s2 := if low && s1.coulter.lowArmed then
          (({ s1 with coulter := { s1.coulter with lowArmed := false } }).bump (sampleReg 0x178)).raiseErr .sample 0 0 0x0720 f.work 0 0
        else s1
      s2.complete id (if ready.length < n then 0x0727 else 0)

/-- A BATCH runs: it refuses a crib_flush (R360). -/
def State.batchRuns (s : State) : Bool := s.flights.any (fun f => (f.batch?).isSome)

end Sys2Proof.Machine
end

