-- ==== Sys2Proof/Machine/Live.lean ====
section
/-!
DEFINITION. Live ingest (R355 to R361): streams and their rings, the assembly of frames, capture times, takes
by a live BATCH, and the start of a BATCH (R345, R358).

The wire formats of ST 2110 and AES67 stand outside the spec: a packet comes with what its standard reads
in it (`LivePkt`).
-/
namespace Sys2Proof.Machine

/-! ### Configuration (R361) -/

structure LiveCfg where
  enable : Bool
  audio : Bool
  sampling : Nat
  depth : Nat
  packing : Nat
  width : Nat
  height : Nat
  ring : Nat
  roiMode : Bool
  deriving DecidableEq, Repr

def liveCfgOf (v : Nat) : LiveCfg :=
  ⟨bitOf v 0, bitsOf v 3 1 == 1, bitsOf v 7 4, bitsOf v 11 8, bitsOf v 15 12, bitsOf v 31 16, bitsOf v 47 32, bitsOf v 55 48, bitOf v 57⟩

def State.liveCfg (s : State) (i : Nat) : LiveCfg := liveCfgOf (s.reg (liveReg i 0))

/-- The sample depth in bits. The field is four bits wide: for audio it holds the low bits of 16 or 24 (log
entry 12). -/
def LiveCfg.bits (c : LiveCfg) : Nat := if c.audio then (if c.depth = 0 then 16 else 24) else c.depth

/-- Every field of a configuration lies in its range. -/
def liveCfgOk (v : Nat) : Bool :=
  let c := liveCfgOf v
  decide (bitsOf v 3 1 ≤ 1) && decide (2 ≤ c.ring) && decide (c.ring ≤ 64) &&
  (if c.audio then c.packing == 0 && c.sampling == 0 && (c.depth == 0 || c.depth == 8) &&
      decide (48 ≤ c.height) && decide (c.height ≤ 48000) && decide (1 ≤ c.width) && decide (c.width ≤ 8)
   else decide (c.packing ≤ 1) && decide (c.sampling ≤ 2) && (c.depth == 8 || c.depth == 10) &&
      decide (16 ≤ c.height) && decide (c.height ≤ 2160) && decide (16 ≤ c.width) && decide (c.width ≤ 3840))

/-- What a frame of w × h (or of h samples of w channels) holds, in the layout of R320; chroma code 4 stands
for R, G and B planes. -/
def LiveCfg.form (c : LiveCfg) (w h : Nat) : FormMeta :=
  if c.audio then ⟨0x20, 0, 0, c.bits, 0, w, 0, h, 4 * w * h⟩
  else
    let m : FormMeta := ⟨1, w, h, c.depth, c.sampling + 2, 3, 1, 0, 0⟩
    { m with bytes := formPictBytes m }

/-- Bytes of a full frame. -/
def LiveCfg.frameBytes (c : LiveCfg) : Nat := (c.form c.width c.height).bytes

def State.live (s : State) (i : Nat) : LiveSt :=
  s.coulter.live.getD i ⟨false, 0, [], none, false, false, 0, (0, 0, 0, 0), [], 0, 0, 0, true, false, 0⟩
def State.setLive (s : State) (i : Nat) (x : LiveSt) : State := { s with coulter := { s.coulter with live := s.coulter.live.set i x } }

/-- The parts of the live area that enabled streams other than i hold. -/
def State.liveHeld (s : State) (i : Nat) : List (Nat × Nat) :=
  ((List.range 8).filter (fun k => k != i && (s.live k).on)).map (fun k => ((s.live k).base, (s.liveCfg k).ring * (s.liveCfg k).frameBytes))

/-- Room for n bytes in the live area: the lowest start, at the area's base or at the end of a held part, that
is free (log entry 13). -/
def State.liveRoom (s : State) (i n : Nat) : Option Nat :=
  let base := s.rf (regAddr .live 0 0x100) 47 0
  let top := base + s.rf (regAddr .live 0 0x108) 15 0 * 0x200000
  let held := s.liveHeld i
  let cands := base :: held.map (fun r => roundUp (r.1 + r.2) 64)
  let good := cands.filter (fun a => decide (a + n ≤ top) && !rangesOverlap [(a, n)] held)
  good.foldl (fun (acc : Option Nat) a => match acc with | none => some a | some b => some (min a b)) none

/-- A write of a stream's configuration: it is refused for a value out of range, a change of an enabled stream,
or no room for its ring; it starts or ends reception (R361). -/
def State.liveWrite (s : State) (i v : Nat) : Option State :=
  let a := liveReg i 0
  let old := s.reg a
  let on := bitOf old 0
  if !liveCfgOk v || (on && old / 2 ≠ v / 2) then none
  else if !on && bitOf v 0 then
    match s.liveRoom i ((liveCfgOf v).ring * (liveCfgOf v).frameBytes) with
    | none => none
    | some b => some ((s.setReg a v).setLive i ⟨true, b, [], none, false, false, 0, (0, 0, 0, 0), [], 0, 0, s.now, true, false, 0⟩)
  else if on && !bitOf v 0 then
    some ((s.setReg a v).setLive i ⟨false, 0, [], none, false, false, 0, (0, 0, 0, 0), [], 0, 0, 0, true, false, 0⟩)
  else some (s.setReg a v)

/-- The state code and the newest frame number of a stream (R361). -/
def State.liveStatus (s : State) (i : Nat) : Nat :=
  let x := s.live i
  (if !x.on then 0 else if x.lost then 3 else if x.sync then 1 else 2) + (((x.count - 1) % 2 ^ 32) <<< 32)

/-! ### Assembly (R356, R357, R359) -/

/-- PTP time in units of 2^−16 ns at an Almanac value. -/
def State.ptpUnits (s : State) (t : Nat) : Nat := s.rf (regAddr .almanac 0 0x118) 47 0 * 65536000000000 + t

/-- The capture time for an RTP timestamp of a media clock (R357): the latest Almanac value, none past now, at
which the clock's count reaches a number that equals the timestamp modulo 2^32. -/
def State.captureTime (s : State) (rate stamp : Nat) : Nat :=
  let second := 65536000000000
  let count := s.ptpUnits s.now * rate / second
  let n := count - (count + 2 ^ 32 - stamp) % 2 ^ 32
  ceilDiv (n * second) rate - s.rf (regAddr .almanac 0 0x118) 47 0 * second

/-- The ROI that a frame starts with (R359): x, y, w, h, and whether an invalid one was replaced. -/
def State.roiNow (s : State) (i : Nat) : (Nat × Nat × Nat × Nat) × Bool :=
  let c := s.liveCfg i
  let a := s.rf (liveReg i 0x10) 47 0
  let bad := c.roiMode && (!s.populated a 8 || s.readsPoison a 8)
  let v := if c.roiMode then s.num a 8 else s.reg (liveReg i 8)
  let x := bitsOf v 15 0
  let y := bitsOf v 31 16
  let w := bitsOf v 47 32
  let h := bitsOf v 63 48
  let full := (0, 0, c.width, c.height)
  if !bad && w = 0 && h = 0 then (full, false)
  else if bad || w = 0 || h = 0 || c.width < x + w || c.height < y + h || (c.sampling = 0 && (x % 2 ≠ 0 || w % 2 ≠ 0)) then (full, true)
  else ((x, y, w, h), false)

/-- The sample code at a position of the frame being assembled; a position that no packet has brought reads
as 0. -/
def pieceAt (l : List (Nat × Nat)) (i : Nat) : Nat := ((l.find? (fun p => p.1 == i)).map (fun p => p.2)).getD 0

/-- The bytes of a frame in the layout of R320, after its ROI. -/
def frameLayout (c : LiveCfg) (roi : Nat × Nat × Nat × Nat) (l : List (Nat × Nat)) : List Byte :=
  if c.audio then
    (List.range (c.width * c.height)).flatMap (fun i => leBytes 4 (audioBits c.bits (pieceAt l i)))
  else
    let e := if 8 < c.depth then 2 else 1
    let sx := if c.sampling = 0 then 2 else 1
    let cw := ceilDiv c.width sx
    let plane (base pw x w : Nat) : List Byte := (List.range roi.2.2.2).flatMap (fun y => (List.range w).flatMap (fun k =>
      leBytes e (pieceAt l (base + (roi.2.1 + y) * pw + x + k))))
    let n := c.width * c.height
    plane 0 c.width roi.1 roi.2.2.1 ++ plane n cw (roi.1 / sx) (ceilDiv roi.2.2.1 sx) ++
      plane (n + cw * c.height) cw (roi.1 / sx) (ceilDiv roi.2.2.1 sx)

/-- A complete frame written to the ring and numbered; where no slot is free the oldest frame not taken gives
way (R356). Frames leave a ring oldest first, so frame n lies in slot n modulo ring_frames. -/
def State.frameDone (s : State) (i : Nat) : State :=
  let c := s.liveCfg i
  let x := s.live i
  let full := decide (c.ring ≤ x.frames.length)
  let w := if c.audio then c.width else x.roi.2.2.1
  let h := if c.audio then c.height else x.roi.2.2.2
  let fr : LiveFrame := ⟨x.count, x.capture, w, h⟩
  let s1 := s.storeAs 3 (x.base + x.count % max 1 c.ring * c.frameBytes) (frameLayout c x.roi x.pieces)
  let s2 := if full then s1.bump (liveReg i 0x30) else s1
  (s2.bump (liveReg i 0x28)).setLive i { x with frames := (if full then x.frames.drop 1 else x.frames) ++ [fr], count := x.count + 1,
                                                begun := false, gap := false, pieces := [], fill := 0 }

/-- The first packet of a frame: its capture time and its ROI (R357, R359). -/
def State.frameBegin (s : State) (i stamp : Nat) : State :=
  let c := s.liveCfg i
  let x := s.live i
  let r := if c.audio then ((0, 0, c.width, c.height), false) else s.roiNow i
  let s1 := s.setLive i { x with begun := true, gap := false, pieces := [], fill := 0, roi := r.1, stamp := stamp,
                                 capture := s.captureTime (if c.audio then 48000 else 90000) stamp }
  if r.2 then s1.raiseErr .live 0 1 0x0729 0 0 0 else s1

/-- Audio samples taken one per channel, frame by frame (R356). -/
def State.audioTake (s : State) (i stamp : Nat) : Nat → List (List Nat) → State
  | 0, _ => s
  | n + 1, chs =>
    if (chs.headD []).isEmpty then s
    else
      let s1 := if (s.live i).begun then s else s.frameBegin i stamp
      let c := s1.liveCfg i
      let x := s1.live i
      let new := (List.range c.width).map (fun k => (k * c.height + x.fill, (chs.getD k []).headD 0))
      let s2 := s1.setLive i { x with pieces := new ++ x.pieces, fill := x.fill + 1 }
      let s3 := if c.height ≤ x.fill + 1 then s2.frameDone i else s2
      s3.audioTake i stamp n (chs.map List.tail)

/-- LIVE_PACKET (R355, R356, R437): counted; one of another format, and one whose number has passed, is discarded. A video frame starts after a marker,
or with a timestamp of its own where the marker before it was lost; it is complete at its marker, and one with a gap since its
first packet, which carries the first sample, is dropped (log entry 78). An audio frame is dropped at a gap. -/
def State.livePacket (s : State) (p : LivePkt) : State :=
  let i := p.stream.val
  if !(s.live i).on then s
  else
    let s1 := (s.bump (liveReg i 0x38)).setLive i { s.live i with lastPacket := s.now, lost := false }
    if !p.formatOk then s1
    else
      let c := s1.liveCfg i
      let x := s1.live i
      let gap := x.nextSeq.any (fun q => decide (q < p.seq))
      if x.nextSeq.any (fun q => decide (p.seq < q)) then s1
      else
      let s2 := s1.setLive i { x with nextSeq := some (p.seq + 1) }
      if c.audio then
        let x2 := s2.live i
        let s3 := if gap && x2.begun then (s2.bump (liveReg i 0x30)).setLive i { x2 with begun := false, pieces := [], fill := 0 } else s2
        (s3.setLive i { s3.live i with sync := false }).audioTake i p.stamp.toNat ((p.audio.headD []).length) p.audio
      else if x.sync then
        (if p.marker then s2.setLive i { s2.live i with sync := false, begun := false } else s2)
      else
        let x2 := s2.live i
        let other := x2.begun && x2.stamp != p.stamp.toNat
        let old := if other then s2.bump (liveReg i 0x30) else s2
        let new := other || !x2.begun
        let s3 := if new then old.frameBegin i p.stamp.toNat else old
        let x3 := s3.live i
        let cut := gap && !(new && p.video.any (fun v => v.1 == 0))
        let s4 := s3.setLive i { x3 with pieces := p.video.reverse ++ x3.pieces, gap := x3.gap || cut }
        if !p.marker then s4
        else if (s4.live i).gap then
          (s4.bump (liveReg i 0x30)).setLive i { s4.live i with begun := false, gap := false, pieces := [], fill := 0 }
        else s4.frameDone i

/-- LIVE_STREAM_LOST: an enabled stream has received nothing for 100 ms. -/
def State.liveLost (s : State) (i : Nat) : State :=
  let x := s.live i
  if x.on && !x.lost && decide (x.lastPacket + almMs 100 ≤ s.now) then
    (s.setLive i { x with lost := true }).raiseErr .live 0 0 0x072A 0 0 0
  else s

/-! ### Takes (R358) -/

/-- The oldest frame of a stream filled into the next area of a live BATCH; stale ones are dropped and
counted. -/
def State.takeFrames (s : State) (id : Nat) : Nat → State
  | 0 => s
  | n + 1 =>
    match s.flightOf id 5 3 with
    | none => s
    | some f =>
      match f.batch? with
      | none => s
      | some p =>
        let i := (batchF f.words).stream
        let x := s.live i
        match x.frames, findIdx? (fun (a : AreaSt) => a.phase != 2) p.areas with
        | fr :: rest, some j =>
          let s1 := s.setLive i { x with frames := rest }
          if fr.capture + almUs (s.rf (liveReg i 0x18) 31 0) < s.now then (s1.bump (liveReg i 0x30)).takeFrames id n
          else
            let c := s1.liveCfg i
            let at_ := x.base + fr.num % max 1 c.ring * c.frameBytes
            if s1.opsPoisoned (batchF f.words) then s1.abortBatch f (poisonCode (batchF f.words).oplist)
            else
              (s1.fillArea f p j fr.num (readMedia (fun k => s1.byte (at_ + k)) (c.form fr.width fr.height)) true false fr.capture).takeFrames id n
        | _, _ => s

/-- LIVE_TAKE: a live BATCH takes the oldest fresh frames. -/
def State.liveTake (s : State) (id : Nat) : State :=
  match s.flightOf id 5 3 with
  | none => s
  | some f =>
    if (batchF f.words).source = 1 && f.ending.isNone then s.takeFrames id (s.live (batchF f.words).stream).frames.length else s

/-- Areas not yet filled written as zero (R358). -/
def State.zeroRest (s : State) (id : Nat) : Nat → State
  | 0 => s
  | n + 1 =>
    match s.flightOf id 5 3 with
    | none => s
    | some f =>
      match f.batch? with
      | none => s
      | some p =>
        match findIdx? (fun (a : AreaSt) => a.phase != 2) p.areas with
        | some j => (s.zeroArea f p j 0x0728 0 false).zeroRest id n
        | none => s

/-- LIVE_WAIT_EXPIRY: live_wait after its start. -/
def State.liveExpire (s : State) (id : Nat) : State :=
  match s.flightOf id 5 3 with
  | none => s
  | some f =>
    match f.batch? with
    | none => s
    | some p =>
      let b := batchF f.words
      if b.source = 1 && f.ending.isNone && decide (p.start + almUs b.liveWait ≤ s.now) then s.zeroRest id p.areas.length else s

/-- BATCH_START: a slot is free, fewer than four fill, and no earlier BATCH waits; a live BATCH takes the frames
there are (R345, R358). -/
def State.batchStart (s : State) (id : Nat) : State :=
  match s.flightOf id 5 3 with
  | none => s
  | some f =>
    let b := batchF f.words
    let n := s.coulter.batches
    if f.started || !f.fired || f.ending.isSome || b.count = 0 || s.nextBatch != some id || !s.enabled .sample 0 || !s.enabled .coulter 0 ||
        s.slotState (s.slotOf n) != 0 || 4 ≤ s.slotsFilling then s
    else
      let areas := (List.range b.count).map (fun j => (⟨0, b.firstPos + j, 0, 0, []⟩ : AreaSt))
      let s1 := (s.setSlot (s.slotOf n) 1).setFlight { f with started := true, prog := Prog.batch ⟨n, areas, s.now, 0, 0⟩ }
      let s2 := { s1 with coulter := { s1.coulter with batches := n + 1 } }
      if b.source = 1 then s2.liveTake id else s2

/-- The live streams with no frame held and none being assembled, each waiting for synchronisation again. -/
def State.resetStreams (s : State) : State :=
  { s with coulter := { s.coulter with
      live := s.coulter.live.map (fun (x : LiveSt) => { x with frames := [], begun := false, gap := false, pieces := [], fill := 0, sync := true }) } }

/-- What a warm reset leaves of Coulter and the sample pipeline (R354, R472, R531): samples, windrow queue and crib are
emptied. n goes on, for it counts the BATCHes since the queue was last configured (R345). -/
def State.resetSample (s : State) : State :=
  { s.resetStreams with coulter := { s.resetStreams.coulter with samples := [], noCore := [], slots := [], lowArmed := true, crib := [] } }

/-- A block reset of the SAMPLE page: the BATCHes that run or wait are discarded with their samples, and no slot fills or
is ready (log entry 23). -/
def State.resetSamplePage (s : State) : State :=
  let ids := (s.flights.filter (fun (f : Flight) => f.cls == 5 && f.op == 3)).map (fun (f : Flight) => f.id)
  let s1 := ids.foldl State.dropSamples s
  { s1 with
    flights := s1.flights.filter (fun (f : Flight) => !ids.contains f.id)
    coulter := { s1.coulter with slots := s1.coulter.slots.map (fun _ => 0), lowArmed := true } }

end Sys2Proof.Machine
end

