-- ==== Sys2Proof/Machine/Thresher.lean ====
section
/-!
DEFINITION. Thresher's descriptors and arithmetic: fields (R364, R393), shards and footprints (R365, R394),
checks (R366, R395), entry conversion (R368, R369), residues (R371), results (R383), the algorithms and trees
(R386, R387, R397, R398), the result header (R384).
-/
namespace Sys2Proof.Machine

def thrReg (off : Nat) : Nat := regAddr .thresher 0 off
def thrChReg (c off : Nat) : Nat := regAddr .thrCh c off

/-! ### Fields -/

/-- Word 1 of a reduction and of a delivery collective. -/
structure CollF where
  op : Nat
  deadline : Nat
  hdr : Nat
  dst : Nat
  src : Nat
  spec : Nat
  sOut : Int
  divUnit : Nat
  srcCount : Nat
  count : Nat
  root : Nat
  eWin : Int
  probe : Bool
  headroom : Nat
  divide : Nat
  winExplicit : Bool
  verdict : Bool
  algo : Nat
  wire : Nat
  ch : Nat
  straggle : Nat
  lag : Nat
  fanout : Nat
  deriving DecidableEq, Repr

def collF (d : List Word512) : CollF :=
  let w := dword d 1
  let b (i : Nat) : Bool := bitOf w.toNat i
  ⟨hOpcode (dword d 0), fld w 511 448, fld w 367 320, fld w 303 256, fld w 239 192, fld w 191 176, signedOf 10 (fld w 169 160), fld w 155 136,
   fld w 135 132, fld w 131 96, fld w 95 64, signedOf 10 (fld w 41 32), b 22, fld w 21 16, fld w 15 14, b 13, b 12, fld w 11 10, fld w 9 8,
   fld w 4 0, fld w 191 160, fld w 159 144, fld w 143 140⟩

def CollF.delivery (c : CollF) : Bool := decide (0x10 ≤ c.op)
def CollF.isVerdict (c : CollF) : Bool := !c.delivery && c.verdict

/-- Bytes per part of a delivery collective: the field that counts elements in a reduction. -/
def CollF.part (c : CollF) : Nat := c.count

/-- The wire format (R367) and its bytes. -/
def wireFmt (w : Nat) : Fmt := if w = 0 then .l32 else if w = 1 then .l64 else if w = 2 then .bf16 else .fp32
def wireL (w : Nat) : Bool := decide (w ≤ 1)

/-- Bytes of an element of the result. -/
def CollF.outBytes (c : CollF) : Nat := ((Fmt.ofCode (bitsOf c.spec 3 0)).map Fmt.bytes).getD 1

/-! ### Channels (R374) -/

def State.chan (s : State) (c : Nat) : ThrChan := s.thr.chans.getD c ⟨[], 0, 0⟩
def State.setChan (s : State) (c : Nat) (x : ThrChan) : State := { s with thr := { s.thr with chans := s.thr.chans.set c x } }

def ThrChan.n (x : ThrChan) : Nat := x.members.length
/-- This module's position. -/
def State.ownPos (s : State) (c : Nat) : Nat := (findIdx? (fun (m : Nat × Bool) => m.1 == s.rf (thrReg 0x100) 14 0) (s.chan c).members).getD 0
/-- The arbiter's position. -/
def State.arbPos (s : State) (c : Nat) : Nat := (findIdx? (fun (m : Nat × Bool) => m.2) (s.chan c).members).getD 0

/-- The member table in memory. -/
def State.memberTable (s : State) (c : Nat) : List Nat :=
  (List.range (s.rf (thrChReg c 0x108) 15 0)).map (fun i => s.num (s.rf (thrChReg c 0x100) 47 0 + 8 * i) 8)

def rising : List Nat → Bool
  | a :: b :: rest => decide (a < b) && rising (b :: rest)
  | _ => true

/-- THR_CH_ENABLE: enable goes from 0 to 1. The table is read and checked, its digest computed, and numbering
starts at 0 (R363, R374). None: the write is refused. -/
def State.enableChannel (s : State) (c : Nat) : Option State :=
  let t := s.memberTable c
  let mods := t.map (fun e => bitsOf e 14 0)
  let a := s.rf (thrChReg c 0x100) 47 0
  if t.isEmpty || !s.populated a (8 * t.length) || t.any (fun e => bitsOf e 31 15 != 0 || bitsOf e 63 33 != 0) || !rising mods ||
      !mods.contains (s.rf (thrReg 0x100) 14 0) || !t.any (fun e => bitOf e 32) || t.length < s.rf (thrChReg c 0x118) 15 0 then none
  else
    let s1 := { s with thr := { s.thr with arbs := s.thr.arbs.filter (fun b => b.ch != c) } }
    some (s1.setChan c ⟨t.map (fun e => (bitsOf e 14 0, bitOf e 32)), crc32 (s.bytes a (8 * t.length)), 0⟩)

/-! ### Blocks, shards and footprints (R365, R394) -/

/-- Bounds of piece k of n of B blocks. -/
def pieceLo (b n k : Nat) : Nat := k * b / max 1 n

/-- The piece that block i lies in. -/
def pieceOf (b n i : Nat) : Nat := ((List.range n).find? (fun k => decide (i < pieceLo b n (k + 1)))).getD 0

/-- Blocks of a reduction, or of one part of a delivery collective. -/
def CollF.blocks (c : CollF) : Nat := ceilDiv (if c.op = 4 then 0 else c.count) 64

/-- Elements of a block of a reduction. -/
def CollF.blockLen (c : CollF) (b : Nat) : Nat := min 64 (c.count - 64 * b)

/-- The elements that a position's destination receives in a reduction: first and end. -/
def CollF.resultRange (c : CollF) (n pos : Nat) : Nat × Nat :=
  if c.op = 1 then (0, c.count)
  else if c.op = 2 then (min c.count (64 * pieceLo c.blocks n pos), min c.count (64 * pieceLo c.blocks n (pos + 1)))
  else if c.op = 3 && c.root = pos then (0, c.count)
  else (0, 0)

/-- Bytes of the result header and its bitmaps (R384). -/
def headerBytes (n : Nat) : Nat := 64 + 2 * (ceilDiv n 512 * 64)

/-- A source table entry: format, scale, address, and whether a reserved bit is set. -/
structure SrcEnt where
  fmt : Nat
  scale : Int
  addr : Nat
  bad : Bool
  deriving DecidableEq, Repr

def State.srcEnt (s : State) (a : Nat) : SrcEnt :=
  let v := s.num a 8
  ⟨bitsOf v 51 48, signedOf 10 (bitsOf v 61 52), bitsOf v 47 0, bitsOf v 63 62 != 0 || s.num (a + 8) 8 != 0⟩

/-- The source table of a reduction, where it can be read. -/
def State.sources (s : State) (c : CollF) : List SrcEnt :=
  if c.delivery || c.op = 4 || !s.populated c.src (16 * c.srcCount) then []
  else (List.range c.srcCount).map (fun i => s.srcEnt (c.src + 16 * i))

def SrcEnt.bytes (e : SrcEnt) : Nat := if e.fmt = 7 then 12 else ((Fmt.ofCode e.fmt).map Fmt.bytes).getD 1

/-- The destination and header of a collective on this module. -/
def State.collOuts (s : State) (c : CollF) : List (Nat × Nat) :=
  let n := (s.chan c.ch).n
  let r := c.resultRange n (s.ownPos c.ch)
  let dst := if c.delivery then (c.dst, if c.op = 0x10 then c.part else n * c.part) else (c.dst, (r.2 - r.1) * c.outBytes)
  [dst, (c.hdr, headerBytes n)]

/-- The sources of a collective on this module. -/
def State.collIns (s : State) (c : CollF) : List (Nat × Nat) :=
  let n := (s.chan c.ch).n
  if c.delivery then
    [(c.src, if c.op = 0x10 then (if c.root = s.ownPos c.ch then c.part else 0) else if c.op = 0x11 then c.part else n * c.part)]
  else (s.sources c).map (fun e => (e.addr, c.count * e.bytes))

/-- Every byte of a Thresher descriptor, its source table among them. -/
def State.collFootprint (s : State) (d : List Word512) : List (Nat × Nat) :=
  let c := collF d
  if c.op = 5 then [] else s.collOuts c ++ s.collIns c ++ (if c.delivery || c.op = 4 then [] else [(c.src, 16 * c.srcCount)])

/-! ### Checks (R366, R395) -/

def collReserved (d : List Word512) (c : CollF) (own : Nat) : Bool :=
  let w := dword d 1
  let z (hi lo : Nat) : Bool := fld w hi lo != 0
  if c.delivery then
    z 447 368 || z 319 304 || z 255 240 || z 139 132 || z 63 5 || (c.op == 0x10 && c.root != own && c.src != 0) || (c.op != 0x10 && c.root != 0)
  else
    z 447 368 || z 319 304 || z 255 240 || z 175 170 || z 159 156 || z 63 42 || z 31 23 || z 7 5 || 2 ≤ c.divide || 2 ≤ c.algo || bitsOf c.spec 15 7 != 0 ||
    (c.divide == 0 && c.divUnit != 0) || (!c.winExplicit && c.eWin != 0) || (c.op != 4 && c.probe) || (c.op != 3 && c.root != 0) ||
    (c.op == 3 && c.root != own && c.dst != 0) ||
    (c.op == 4 && (!c.verdict || c.dst != 0 || c.src != 0 || c.spec != 0 || c.count != 0 || c.srcCount != 0 || c.wire != 0 || c.algo != 0 || c.divide != 0 ||
      c.headroom != 0 || c.winExplicit))

/-- A range lies wholly in one of the places a predicate names. -/
def inTilthAny (a n : Nat) : Bool := (List.range 8).any (fun f => inTilth f a n)
def inGleanAny (a n : Nat) : Bool := (List.range 8).any (fun f => inGlean f a n)

def pairwiseOverlap : List (Nat × Nat) → Bool
  | [] => false
  | r :: rest => rangesOverlap [r] rest || pairwiseOverlap rest

/-- Checks 1 to 10, in order; 0 where all pass. -/
def State.thrParse (s : State) (d : List Word512) : Nat :=
  let c := collF d
  let n := (s.chan c.ch).n
  let own := s.ownPos c.ch
  let src := s.sources c
  let tableOk := c.delivery || c.op = 4 || s.populated c.src (16 * c.srcCount)
  let outs := s.collOuts c
  let ins := s.collIns c
  let plain := if c.delivery then ins else (src.filter (fun e => e.fmt != 7)).map (fun e => (e.addr, c.count * e.bytes))
  let rf := bitsOf c.spec 3 0
  let live (l : List (Nat × Nat)) : List (Nat × Nat) := l.filter (fun r => r.2 != 0)
  if c.op = 5 then (if fld (dword d 1) 511 64 ≠ 0 then 0x0103 else 0)
  else if !s.enabled .thrCh c.ch then 0x0601
  else if collReserved d c own || src.any (fun e => e.bad) then 0x0103
  else if !c.delivery && c.op ≠ 4 && (src.any (fun e => decide (e.fmt < 2) || decide (7 < e.fmt)) ||
      !((2 ≤ rf && rf ≤ 6) || (c.divide = 0 && rf = (wireFmt c.wire).code))) then 0x0301
  else if !c.delivery && c.op ≠ 4 && bitsOf c.spec 5 4 = 3 then 0x0302
  else if c.delivery && (c.part = 0 || allOnes 36 c.part || 2 ^ 36 - 64 < c.part || 2 ^ 40 < n * c.part || 1000000 < c.straggle || 65534 < c.lag || 8 < c.fanout ||
      n ≤ c.root) then 0x0201
  else if !c.delivery && ((c.op ≠ 4 && (c.count = 0 || c.srcCount = 0 || 8 < c.srcCount)) || allOnes 36 c.count || allOnes 20 c.divUnit ||
      (c.divide = 1 && c.divUnit = 0) || (c.wire = 0 && 30 < c.headroom) || (c.wire = 1 && 62 < c.headroom) || n ≤ c.root) then 0x0201
  else if !tableOk || !s.rangesPopulated (outs ++ ins) || rangesOverlap (live plain) [(gleanBase 0, 8 * 0x10000000)] then 0x0202
  else if !((live outs).all (fun r => inTilthAny r.1 r.2 || inGranary r.1 r.2)) ||
      !((live ins).all (fun r => inTilthAny r.1 r.2 || inGleanAny r.1 r.2 || inGranary r.1 r.2)) ||
      src.any (fun e => e.fmt == 7 && (!inGleanAny e.addr (12 * c.count) || e.scale != 0)) then 0x0602
  else if (outs ++ [(c.src, 0)]).any (fun r => r.1 % 64 != 0) || src.any (fun e => if e.fmt = 7 then ((e.addr - gleanBase 0) % 0x10000000) % 12288 != 0 else e.addr % 64 != 0) ||
      (c.delivery && c.part % 64 ≠ 0) then 0x0603
  else if pairwiseOverlap (live (outs ++ ins)) then 0x0604
  else 0

/-- Check 11, at issue. -/
def State.thrIssueCheck (s : State) (d : List Word512) (step : Nat) : Nat :=
  let c := collF d
  if c.op ≠ 5 && c.isVerdict && s.thr.verdictSteps.contains (step, c.probe) then 0x0605 else 0

/-! ### Entry conversion (R368, R369) -/

/-- A value of a wire mode from its code: for the FP modes. -/
def wireVal (w : Nat) (x : Nat) : FV := decodeElem (wireFmt w) 0 x

/-- The sum of two wire codes (R367). -/
def wireAdd (w a b : Nat) : Nat :=
  if w = 0 then (a + b) % 2 ^ 32
  else if w = 1 then (a + b) % 2 ^ 64
  else (convert ((wireVal w a).add (wireVal w b)) ⟨wireFmt w, .rne, false, 0, 0⟩ 0).1

/-- One element of a source, exactly. A poisoned Glean row reads as NaN. -/
def State.srcElem (s : State) (e : SrcEnt) (i : Nat) : FV :=
  if e.fmt = 7 then
    let f := (e.addr - gleanBase 0) / 0x10000000
    let o := (e.addr - gleanBase 0) % 0x10000000 + 12 * i
    if mPoison (s.gmeta f (o / 12288)) then .nan else s.accValue f (o / 12288) (o % 12288 / 12)
  else
    match Fmt.ofCode e.fmt with
    | some f => (decodeElem f 0 (s.num (e.addr + i * f.bytes) f.bytes)).scale e.scale
    | none => .nan

/-- The conversion of one source element onto the wire. m is this module's member number. -/
def State.entryConv (s : State) (fl : Flight) (c : CollF) (eWin : Int) (i : Nat) (v : FV) : Nat × Outc :=
  if wireL c.wire then
    convert v ⟨wireFmt c.wire, .sr, true, 0, eWin⟩ (s.drawFor (hTag fl.hdr) fl.step (i + s.rf (thrReg 0x100) 14 0 * 2 ^ 40))
  else convert v ⟨wireFmt c.wire, .rne, false, 0, 0⟩ 0

/-- This module's contribution to element i: its sources added in table order. -/
def State.contribElem (s : State) (fl : Flight) (c : CollF) (eWin : Int) (i : Nat) : Nat :=
  match (s.sources c).map (fun e => (s.entryConv fl c eWin i (s.srcElem e i)).1) with
  | [] => 0
  | x :: rest => rest.foldl (wireAdd c.wire) x

/-- A block of the contribution, padded with zeros (R365). -/
def State.contribBlock (s : State) (fl : Flight) (c : CollF) (eWin : Int) (b : Nat) : List Nat :=
  (List.range 64).map (fun k => if k < c.blockLen b then s.contribElem fl c eWin (64 * b + k) else 0)

/-- What entry conversion reports (R220). -/
def State.entryTally (s : State) (fl : Flight) (c : CollF) (eWin : Int) : Tally :=
  Tally.sum ((s.sources c).flatMap (fun e => (List.range c.count).map (fun i =>
    let v := s.srcElem e i
    let r := s.entryConv fl c eWin i v
    Tally.ofElem v r.2 (storedZero (wireFmt c.wire) r.1) 0)))

/-- e_win of a collective (R369); the scale of a tag that Winnow does not hold is 0. -/
def State.collWin (s : State) (fl : Flight) (c : CollF) : Int :=
  if c.winExplicit then c.eWin
  else (if s.winnowOn && decide (hTag fl.hdr < s.tagCount s.reporter) then (s.tagEntry (hTag fl.hdr)).scale else 0) + (c.headroom : Int)

/-! ### Residues (R371, R373) -/

def residueOf (elems : List Nat) : Nat := elems.foldl (fun a x => (a + x) % 65535) 0

/-! ### Results (R383) -/

/-- One result element from its wire sum. -/
def State.resultElem (s : State) (fl : Flight) (c : CollF) (eWin : Int) (n i x : Nat) : Nat :=
  if c.divide = 0 && bitsOf c.spec 3 0 = (wireFmt c.wire).code then x
  else
    match Spec.ofBits c.spec c.sOut eWin with
    | none => 0
    | some sp =>
      let v := decodeElem (wireFmt c.wire) eWin x
      let draw := s.drawFor (hTag fl.hdr) fl.step i
      match v with
      | .fin neg m e => (convertRatio neg m (if c.divide = 0 then 1 else max 1 (n * c.divUnit)) (e - sp.sOut) sp draw).1
      | v => (convert v sp draw).1

/-- The result of a block. -/
def State.resultBlock (s : State) (fl : Flight) (c : CollF) (eWin : Int) (n b : Nat) (xs : List Nat) : List Nat :=
  (List.range (c.blockLen b)).map (fun k => s.resultElem fl c eWin n (64 * b + k) (xs.getD k 0))

/-! ### Algorithms and trees (R386, R387, R397, R398) -/

/-- The index of a position among the included, if it is one. -/
def incIdx (inc : List Nat) (pos : Nat) : Option Nat := findIdx? (fun x => x == pos) inc

/-- The tree that a key travels on: the chunk of a ring, tree A or B, or the part. A key of a delivery
collective is part × blocks + block. -/
def keyTree (c : CollF) (n key : Nat) : Nat :=
  if c.delivery then key / max 1 c.blocks
  else if c.algo = 0 then pieceOf c.blocks n key
  else if key < c.blocks / 2 then 0 else 1

/-- The included index that forms a block of a reduction. -/
def former (c : CollF) (n b : Nat) : Nat := if c.algo = 0 then pieceOf c.blocks n b else if b < c.blocks / 2 then 0 else n - 1

/-- The indices whose sums index i adds to its own for a block, in order. -/
def sumKids (c : CollF) (n b i : Nat) : List Nat :=
  if c.algo = 0 then (if (pieceOf c.blocks n b + 1) % n = i then [] else [(i + n - 1) % n])
  else
    let q := if b < c.blocks / 2 then i else n - 1 - i
    ([2 * q + 1, 2 * q + 2].filter (fun k => decide (k < n))).map (fun k => if b < c.blocks / 2 then k else n - 1 - k)

/-- The index that index i passes its sum of a block to; none where it forms the result. -/
def sumParent (c : CollF) (n b i : Nat) : Option Nat :=
  if former c n b = i then none
  else if c.algo = 0 then some ((i + 1) % n)
  else
    let q := if b < c.blocks / 2 then i else n - 1 - i
    some (if b < c.blocks / 2 then (q - 1) / 2 else n - 1 - (q - 1) / 2)

/-- Positions not included that hang on index i as leaves (R398). -/
def leafKids (all n : Nat) (inc : List Nat) (i : Nat) : List Nat := (List.range all).filter (fun p => !inc.contains p && p % max 1 n == i)

/-- The positions to which a position passes a result block or a part's block (R397, R398). -/
def resultKids (c : CollF) (all : Nat) (inc : List Nat) (pos key : Nat) : List Nat :=
  let n := inc.length
  match incIdx inc pos with
  | none => []
  | some i =>
    let at_ (k : Nat) : Nat := inc.getD k 0
    if c.delivery then
      let r := key / max 1 c.blocks
      if c.op = 0x12 then []
      else
        match incIdx inc r with
        | none => []
        | some rho =>
          let f := if c.fanout = 0 then 2 else c.fanout
          let q := (i + n - rho) % n
          (((List.range f).map (fun k => f * q + 1 + k)).filter (fun k => decide (k < n))).map (fun k => at_ ((k + rho) % n)) ++ leafKids all n inc i
    else if c.op = 1 then
      (if c.algo = 0 then (if (i + 1) % n = pieceOf c.blocks n key then [] else [at_ ((i + 1) % n)])
       else (sumKids c n key i).map at_) ++ leafKids all n inc i
    else if former c n key ≠ i then []
    else
      let dest := if c.op = 2 then pieceOf c.blocks all key else c.root
      if dest = pos then [] else [dest]

/-- The keys that a position's result consists of. -/
def wantKeys (c : CollF) (all : Nat) (inc : List Nat) (pos : Nat) : List Nat :=
  if c.delivery then
    (if c.op = 0x10 then [c.root] else inc).flatMap (fun r => (List.range c.blocks).map (fun b => r * c.blocks + b))
  else
    let r := c.resultRange all pos
    if r.2 ≤ r.1 then [] else (List.range c.blocks).filter (fun b => decide (r.1 ≤ 64 * b) && decide (64 * b < r.2))

/-- Bytes of a key's result. -/
def keyBytes (c : CollF) (key : Nat) : Nat := if c.delivery then 64 else c.blockLen key * c.outBytes

/-- Where a key's result goes on a position. -/
def keyAddr (c : CollF) (all pos key : Nat) : Nat :=
  if c.delivery then c.dst + (if c.op = 0x10 then 0 else key / max 1 c.blocks * c.part) + key % max 1 c.blocks * 64
  else c.dst + (64 * key - (c.resultRange all pos).1) * c.outBytes

/-- The bytes of result codes. -/
def keyImage (c : CollF) (codes : List Nat) : List Byte := codes.flatMap (leBytes (if c.delivery then 1 else c.outBytes))

/-! ### The result header (R384) -/

/-- A bitmap of positions. -/
def posBitmap (n : Nat) (l : List Nat) : List Byte :=
  (List.range (ceilDiv n 512 * 64)).map (fun i => BitVec.ofNat 8 ((List.range 8).foldl (fun a k => a + (b2n (l.contains (8 * i + k)) <<< k)) 0))

/-- The header and its bitmaps. -/
def State.headerImage (s : State) (fl : Flight) (p : CollProg) (outcome : Nat) : List Byte :=
  let c := collF fl.words
  let n := (s.chan c.ch).n
  let x : SealRec := p.held.getD ⟨0, [], [], 0, 0, 0⟩
  let nf := outcome != 0 || (c.isVerdict && !x.flags.isEmpty)
  let excl := p.held.isSome && (outcome == 0 || outcome == 0x0616) && !x.included.contains (s.ownPos c.ch)
  let red := !c.delivery
  leBytes 8 (fl.step % 2 ^ 32 + (fl.work <<< 32)) ++ leBytes 8 (x.included.length + (n <<< 32)) ++
  leBytes 8 (b2n (nf && (red || outcome != 0)) + (b2n c.isVerdict <<< 1) + (b2n excl <<< 2) + ((x.num % 256) <<< 8) + ((outcome % 2 ^ 16) <<< 16) +
    ((if red then x.flags.length else 0) <<< 32)) ++
  leBytes 8 x.time ++
  leBytes 8 (c.ch + (if red then (c.wire <<< 8) + (c.algo <<< 10) + (toTwos 10 p.eWin <<< 16) else 0) + ((p.number % 2 ^ 32) <<< 32)) ++
  List.replicate 24 0 ++ posBitmap n x.included ++ posBitmap n (if red then x.flags else [])

end Sys2Proof.Machine
end

