-- ==== Sys2Proof/Machine/Collective.lean ====
section
/-!
DEFINITION. A collective on this module: numbering (R363), start and token (R375), the arbiter's tokens,
decision, seal and reseals (R376 to R381, R410), the data phase (R372, R373, R386, R387, R397 to R405, R409),
completion and its limits (R379, R382, R406 to R408), cancellation (R388, R412), reset (R389).

What passes between modules has no bit layout in the spec: `thr.sent` lists what this module sends, and a
command brings what it receives.
-/
namespace Sys2Proof.Machine

/-! ### Numbering (R362, R363) -/

def Flight.coll? (f : Flight) : Option CollProg :=
  match f.prog with
  | .coll p => some p
  | _ => none

/-- What a collective holds from issue on: its number. -/
def State.collProg (s : State) (d : List Word512) : Prog :=
  let c := collF d
  if c.op = 5 then .none
  else .coll ⟨c.ch, (s.chan c.ch).next, 0, 0, 0, [], false, none, 0, false, 0, [], [], [], [], [], [], [], false, false, none, [], []⟩

/-- The channel's and the verdict's note of a collective that is issued. -/
def State.noteColl (s : State) (d : List Word512) (step : Nat) : State :=
  let c := collF d
  if c.op = 5 then s
  else
    let x := s.chan c.ch
    let s1 := s.setChan c.ch { x with next := (x.next + 1) % 2 ^ 32 }
    if c.isVerdict then { s1 with thr := { s1.thr with verdictSteps := (step, c.probe) :: s1.thr.verdictSteps } } else s1

/-- The collectives of a channel in flight, in number order. -/
def State.chFlights (s : State) (c : Nat) : List Flight :=
  s.flights.filter (fun f => f.cls == 6 && f.op != 5 && (collF f.words).ch == c)

/-- Those that have not started. -/
def State.chQueued (s : State) (c : Nat) : Nat := ((s.chFlights c).filter (fun f => !f.started)).length

/-- A collective in flight by channel and number. -/
def State.collFlight (s : State) (c number : Nat) : Option Flight :=
  (s.chFlights c).find? (fun f => (f.coll?).any (fun p => p.number == number))

/-- A collective's progress stored. -/
def State.setColl (s : State) (id : Nat) (p : CollProg) : State :=
  match s.flight id with
  | some f => s.setFlight { f with prog := Prog.coll p }
  | none => s

def State.thrSend (s : State) (m : ThrMsg) : State := { s with thr := { s.thr with sent := m :: s.thr.sent } }

/-- The limits of a channel, as Almanac units. -/
def State.dataLimit (s : State) (c : Nat) : Nat := almUs (s.rf (thrChReg c 0x110) 63 32)
def State.sealLimit (s : State) (c : Nat) : Nat := almUs (s.rf (thrChReg c 0x110) 31 0)
def State.defaultWindow (s : State) (c : Nat) : Nat := almUs (s.rf (thrChReg c 0x108) 63 32)

/-- A collective's own result is there: every key of it. -/
def State.wholeResult (s : State) (f : Flight) (p : CollProg) : Bool :=
  let c := collF f.words
  match p.held with
  | none => false
  | some x => (wantKeys c (s.chan c.ch).n x.included (s.ownPos c.ch)).all (fun k => p.results.any (fun r => r.1 == k))

/-- Bytes of a tree's keys that a child is to be sent. -/
def kidKeys (c : CollF) (all : Nat) (inc : List Nat) (pos tree child : Nat) : List Nat :=
  let n := inc.length
  let keys := if c.delivery then (if c.op = 0x10 then [c.root] else inc).flatMap (fun r => (List.range c.blocks).map (fun b => r * c.blocks + b))
    else List.range c.blocks
  keys.filter (fun k => keyTree c n k == tree && (resultKids c all inc pos k).contains child)

def keysBytes (c : CollF) (keys : List Nat) : Nat := keys.foldl (fun a k => a + keyBytes c k) 0

/-- Everything that this module passes on in a collective has been passed on, and every child still attached to it
has acknowledged what it is sent (R406). -/
def State.forwarded (s : State) (f : Flight) (p : CollProg) : Bool :=
  let c := collF f.words
  match p.held with
  | none => false
  | some x =>
    (c.delivery || !x.included.contains (s.ownPos c.ch) || decide (c.blocks ≤ p.passed.length)) &&
    p.kids.all (fun k => k.detached || decide (keysBytes c (kidKeys c (s.chan c.ch).n x.included (s.ownPos c.ch) k.tree k.pos) ≤ k.acked))

/-- What this module owes and is owed in a collective is done: its result is whole, a verdict's maxima are combined, and
everything is passed on (R406). -/
def State.collDone (s : State) (f : Flight) (p : CollProg) : Bool :=
  p.phase == 3 && s.wholeResult f p && (!(collF f.words).isVerdict || p.maxima.isSome) && s.forwarded f p

/-- The data phase of a collective has ended on this module (R363, R406): it has failed, it is detached itself, or it is
done. -/
def State.dataEnded (s : State) (f : Flight) (p : CollProg) : Bool :=
  p.outcome != 0 || (p.phase == 3 && !p.detachedTrees.isEmpty) || s.collDone f p

/-- The results and parts of a collective reach each position by one unicast, and no tree is relayed (R397, R404). -/
def CollF.unicast (c : CollF) : Bool := c.op == 2 || c.op == 3 || c.op == 0x12

/-- This module is detached in trees (R401, R403): it forwards nothing more in them, for its parent adopts its children. A
receiver of a unicast is never detached (R404). -/
def CollProg.detach (p : CollProg) (c : CollF) (trees : List Nat) : CollProg :=
  if c.unicast then p
  else { p with
    detachedTrees := trees.foldl setInsert p.detachedTrees
    kids := p.kids.map (fun (k : Kid) => if trees.contains k.tree then { k with detached := true, lagSince := none } else k) }

/-! ### Failing and withdrawing -/

/-- A collective has failed with an outcome (R382); it completes in its turn. -/
def State.failColl (s : State) (f : Flight) (p : CollProg) (outcome : Nat) : State := s.setColl f.id { p with outcome := outcome }

/-! ### The arbiter (R376 to R381, R410) -/

def State.arb (s : State) (c number : Nat) : Option ArbRec := s.thr.arbs.find? (fun a => a.ch == c && a.number == number)

/-- The arbiter's record replaced or added; per channel the last 64 are kept. -/
def State.setArb (s : State) (a : ArbRec) : State :=
  let others := s.thr.arbs.filter (fun b => !(b.ch == a.ch && b.number == a.number))
  let same := (others.filter (fun b => b.ch == a.ch && b.last.isSome)).take 63
  let keep := others.filter (fun b => b.ch != a.ch || b.last.isNone || same.contains b)
  { s with thr := { s.thr with arbs := a :: keep } }

def newArb (c number : Nat) : ArbRec := ⟨c, number, false, 0, [], none, [], none, [], false, false, none, []⟩

/-- Tokens on time. -/
def ArbRec.onTime (a : ArbRec) : List ArbTok := a.tokens.filter (fun t => decide (t.stamp ≤ a.deadline))

/-- The last member's token ends the membership round (R376). -/
def State.arbAllIn (s : State) (a : ArbRec) : ArbRec :=
  if a.started && a.decided.isNone && decide ((s.chan a.ch).n ≤ a.tokens.length) then { a with decided := some s.now, due := true } else a

/-- A position is judged undelivered (R380): the seal has to be made again. -/
def ArbRec.judge (a : ArbRec) (ps : List Nat) (now : Nat) : ArbRec :=
  let new := ps.filter (fun p => a.last.any (fun x => x.included.contains p && x.outcome == 0))
  if new.isEmpty then a else { a with undelivered := a.undelivered ++ new, due := true, decided := some now }

/-- A token or a withdrawal reaches the arbiter (R376 to R378, R388). -/
def State.arbToken (s : State) (c number : Nat) (t : TokenMsg) : State :=
  let a := (s.arb c number).getD (newArb c number)
  let late (u : State) : State := (u.bump (thrChReg c 0x150)).raise .thrCh c 2 0 0
  if t.withdraw then
    if a.decided.isSome then
      match a.last with
      | some _ => s.setArb (a.judge [t.pos] s.now)
      | none => s.setArb { a with undelivered := setInsert a.undelivered t.pos }
    else s.setArb { a with tokens := a.tokens.filter (fun x => x.pos != t.pos) }
  else if a.tokens.any (fun x => x.pos == t.pos) then s
  else if a.started && decide (a.deadline < s.now) then late s
  else if a.decided.any (fun q => decide (q < s.now)) then s
  else
    let bad := a.started && a.digest != t.digest
    let a1 := { a with tokens := a.tokens ++ [⟨t.pos, s.now, t.digest, t.nf⟩] }
    if bad then s.setArb { a1 with mismatch := true, decided := some s.now, due := true } else s.setArb (s.arbAllIn a1)

/-- The arbiter starts a collective itself: deadline, digests of the tokens that came early, its own token. -/
def State.arbStart (s : State) (c number : Nat) (deadline : Nat) (root : Option Nat) (t : TokenMsg) : State :=
  let a := (s.arb c number).getD (newArb c number)
  let late := a.tokens.filter (fun x => decide (deadline < x.stamp))
  let a1 := { a with started := true, deadline := deadline, digest := t.digest, root := root, tokens := a.tokens ++ [⟨t.pos, s.now, t.digest, t.nf⟩] }
  let s1 := late.foldl (fun u _ => (u.bump (thrChReg c 0x150)).raise .thrCh c 2 0 0) s
  if a.tokens.any (fun x => x.digest != t.digest) then s1.setArb { a1 with mismatch := true, decided := some s.now, due := true }
  else s1.setArb (s1.arbAllIn a1)

/-- READY_TOKEN: this module is the arbiter of the channel. -/
def State.readyToken (s : State) (c number : Nat) (t : TokenMsg) : State :=
  if s.enabled .thrCh c && decide (0 < (s.chan c).n) && s.arbPos c == s.ownPos c && t.pos != s.ownPos c && decide (t.pos < (s.chan c).n) then
    s.arbToken c number t
  else s

/-- DEADLINE_EXPIRY: the first cycle whose Almanac value exceeds the deadline. -/
def State.deadlineExpiry (s : State) (c number : Nat) : State :=
  match s.arb c number with
  | some a => if a.started && a.decided.isNone && decide (a.deadline < s.now) then s.setArb { a with decided := some s.now, due := true } else s
  | none => s

/-- The seal that the arbiter makes now (R378, R380, R396). -/
def State.makeSeal (s : State) (a : ArbRec) : SealRec :=
  let x := s.chan a.ch
  let num := match a.last with | some l => l.num + 1 | none => 0
  let inc := ((a.onTime.map (fun t => t.pos)).filter (fun p => a.last.isNone || !a.undelivered.contains p)).foldl setInsert []
  let required := (List.range x.n).filter (fun p => (x.members.getD p (0, false)).2)
  let outcome := if a.mismatch then 0x0611
    else if 3 < num then 0x0614
    else if inc.length < s.rf (thrChReg a.ch 0x118) 15 0 || required.any (fun p => !inc.contains p) || a.root.any (fun r => !inc.contains r) then 0x0612
    else 0
  let flags := ((a.tokens.filter (fun t => t.nf)).map (fun t => t.pos)).filter inc.contains
  let issued := a.decided.getD s.now
  ⟨num, inc, flags.foldl setInsert [], outcome, (a.last.map (fun l => l.time)).getD issued, issued⟩

/-- A seal reaches this module's collective (R378, R381, R382): one already acted on is ignored; a new one starts
the data phase over. -/
def State.sealReceived (s : State) (c number : Nat) (x : SealRec) : State :=
  match s.collFlight c number with
  | none => s
  | some f =>
    match f.coll? with
    | none => s
    | some p =>
      if p.phase = 0 || p.outcome ≠ 0 || p.held.any (fun l => decide (x.num ≤ l.num)) then s
      else
        let p1 := { p with held := some x, phase := 2, parts := [], passed := [], results := [], keys := [], retries := [], kids := [],
                           detachedTrees := [], repaired := false, sent := [], asks := [] }
        let s1 := if 0 < x.num then (s.bump (thrChReg c 0x158)).raise .thrCh c 3 0 f.work else s
        if x.outcome ≠ 0 then s1.failColl f p1 x.outcome else s1.setColl f.id p1

/-- SEAL: four SC cycles after the decision cycle, or after a judgement: to every position. Members that withdrew
between the decision cycle and the first seal are excluded by a reseal (R388). -/
def State.sealColl (s : State) (c number : Nat) : State :=
  match s.arb c number with
  | none => s
  | some a =>
    if !a.due || a.decided.isNone then s
    else
      let x := s.makeSeal a
      let a1 := { a with last := some x, due := false, reports := [] }
      let s1 := s.setArb (if a.last.isNone then { a1 with undelivered := [] }.judge a.undelivered s.now else a1)
      let s2 := ((List.range (s.chan c).n).filter (fun q => q != s.ownPos c)).foldl (fun t q => t.thrSend (.sealMsg c number q x)) s1
      s2.sealReceived c number x

/-- SEAL_RESEND_REQUEST. -/
def State.sealResend (s : State) (c number pos : Nat) : State :=
  match s.arb c number with
  | some a => (match a.last with | some x => s.thrSend (.sealMsg c number pos x) | none => s)
  | none => s

/-- DATA_LIMIT_EXPIRY: the positions whose contribution is not wholly added are judged undelivered. Which they
are, the arbiter learns from the members: the command names them. -/
def State.dataLimitExpiry (s : State) (c number : Nat) (undelivered : List Nat) : State :=
  match s.arb c number with
  | none => s
  | some a =>
    match a.last with
    | none => s
    | some x => if !a.due && x.outcome = 0 && decide (x.issued + s.dataLimit c ≤ s.now) then s.setArb (a.judge undelivered s.now) else s

/-- A report of an unreachable peer reaches the arbiter (R410). -/
def State.arbReport (s : State) (c number reporter peer : Nat) : State :=
  match s.arb c number with
  | none => s
  | some a => if a.last.isSome && !a.due then s.setArb { a with reports := a.reports ++ [(reporter, peer, s.now)] } else s

/-- PEER_REPORT: a report from a member to this arbiter, or this member's own. -/
def State.peerReport (s : State) (c number reporter peer : Nat) : State :=
  if !s.enabled .thrCh c || (s.chan c).n = 0 then s
  else if s.arbPos c = s.ownPos c then s.arbReport c number reporter peer
  else if reporter = s.ownPos c && (s.collFlight c number).isSome then s.thrSend (.report c number (s.arbPos c) peer)
  else s

/-- The positions that reports condemn: each one reported; of two that reported each other, the higher. -/
def judged (rs : List (Nat × Nat × Nat)) : List Nat :=
  (rs.filter (fun r => !(rs.any (fun q => q.1 == r.2.1 && q.2.1 == r.1) && decide (r.2.1 < r.1)))).map (fun r => r.2.1)

/-- REPORT_DECISION: 20 µs after the first report (R410). -/
def State.reportDecision (s : State) (c number : Nat) : State :=
  match s.arb c number with
  | none => s
  | some a =>
    match a.reports with
    | [] => s
    | r :: _ =>
      if r.2.2 + almUs 20 ≤ s.now then
        s.setArb ({ a with reports := [] }.judge ((judged (a.reports.filter (fun q => decide (q.2.2 ≤ r.2.2 + almUs 20)))).eraseDups) s.now)
      else s

/-! ### Start (R375, R377) -/

/-- What a ready token's digest covers (R375, R393). -/
def State.collDigest (s : State) (f : Flight) (c : CollF) (eWin : Int) : List Nat :=
  if c.delivery then [c.op, c.part, c.root, c.fanout, c.lag, c.straggle, f.step, (s.chan c.ch).digest]
  else [c.op, c.wire, c.algo, c.divide, c.divUnit, c.count, c.root, b2n c.probe, toTwos 64 eWin, hTag f.hdr, f.step, b2n c.verdict, (s.chan c.ch).digest]

/-- COLLECTIVE_START: in number order, at most four ahead of the data phase in progress (R363). -/
def State.collStart (s : State) (id : Nat) : State :=
  match s.flight id with
  | none => s
  | some f =>
    match f.coll? with
    | none => s
    | some p =>
      let c := collF f.words
      let earlier := (s.chFlights c.ch).takeWhile (fun g => g.id != id)
      let ahead := (earlier.filter (fun g => (g.coll?).any (fun q => !s.dataEnded g q))).length
      if p.phase ≠ 0 || f.started || !f.fired || f.ending.isSome || earlier.any (fun g => !g.started) || 4 < ahead || !s.enabled .thrCh c.ch then s
      else
        let eWin := if c.delivery then 0 else s.collWin f c
        let s1 := s.setFlight { f with started := true }
        if !c.delivery && c.op ≠ 4 && (eWin < -512 || 511 < eWin) then
          s1.setColl id { p with phase := 1, start := s.now, eWin := eWin, outcome := 0x0303 }
        else
          let nf := c.isVerdict && s.nonFinite f.step
          let t : TokenMsg := ⟨s.ownPos c.ch, s.collDigest f c eWin, nf, false, f.work⟩
          let s2 := s1.setColl id { p with phase := 1, start := s.now, eWin := eWin, digest := t.digest, nf := nf }
          if s.arbPos c.ch = s.ownPos c.ch then
            s2.arbStart c.ch p.number (if c.deadline = 0 then s.now + s.defaultWindow c.ch else c.deadline) (if c.op = 0x10 then some c.root else none) t
          else s2.thrSend (.token c.ch p.number (s.arbPos c.ch) t)

/-- THR_NO_SEAL (R381). -/
def State.noSeal (s : State) (id : Nat) : State :=
  match s.flight id with
  | none => s
  | some f =>
    match f.coll? with
    | none => s
    | some p =>
      let c := collF f.words
      let limit := (if c.deadline = 0 then p.start + s.defaultWindow c.ch else c.deadline) + s.sealLimit c.ch
      if p.phase = 1 && p.outcome = 0 && p.held.isNone && decide (limit ≤ s.now) then s.failColl f p 0x0613 else s

/-- The module withdraws from a collective (R380, R388). -/
def State.withdraw (s : State) (f : Flight) (p : CollProg) : State :=
  let c := p.ch
  let t : TokenMsg := ⟨s.ownPos c, p.digest, p.nf, true, f.work⟩
  let s1 := s.setColl f.id { p with withdrawn := true }
  if s.arbPos c = s.ownPos c then s1.arbToken c p.number t else s1.thrSend (.token c p.number (s.arbPos c) t)

/-! ### Blocks (R372, R373, R387, R397, R399) -/

/-- A block sent, its bytes counted. -/
def State.sendBlock (s : State) (c : CollF) (number dest : Nat) (b : BlockMsg) : State :=
  let e := if b.kind = 0 then (wireFmt c.wire).bytes else if c.delivery then 1 else c.outBytes
  (s.bumpBy (thrReg 0x118) (b.elems.length * e)).thrSend (.block c.ch number dest b)

/-- A block sent and kept, so that it can be sent again when its receiver finds its residue wrong (R405). -/
def State.sendKept (s : State) (id : Nat) (c : CollF) (number dest : Nat) (b : BlockMsg) : State :=
  (match (s.flight id).bind Flight.coll? with
   | some p => s.setColl id { p with sent := p.sent ++ [(dest, b)] }
   | none => s).sendBlock c number dest b

/-- A result block that this module has formed or received: written where it is part of its result, passed to its
attached children, and sent to the positions that wait for its repair (R402). -/
def State.haveResult (s : State) (id key : Nat) (codes : List Nat) : State :=
  match s.flight id with
  | none => s
  | some f =>
    match f.coll? with
    | none => s
    | some p =>
      match p.held with
      | none => s
      | some x =>
        let c := collF f.words
        let all := (s.chan c.ch).n
        let own := s.ownPos c.ch
        if p.results.any (fun r => r.1 == key) then s
        else
          let s1 := if (wantKeys c all x.included own).contains key then s.storeAs 2 (keyAddr c all own key) (keyImage c codes) else s
          let s2 := s1.setColl id { p with results := p.results ++ [(key, codes)], asks := p.asks.filter (fun a => a.2 != key) }
          let tree := keyTree c x.included.length key
          let dests := (p.kids.filter (fun k => k.tree == tree && !k.detached && (resultKids c all x.included own key).contains k.pos)).map (fun k => k.pos)
          let msg (kind : Nat) : BlockMsg := ⟨own, x.num, tree, key, kind, residueOf codes, codes, []⟩
          let s3 := dests.foldl (fun t q => t.sendBlock c p.number q (msg 1)) s2
          (p.asks.filter (fun a => a.2 == key)).foldl (fun t a => t.sendBlock c p.number a.1 (msg 2)) s3

/-- Some source byte of a block of this module's contribution is poisoned. -/
def State.sourcePoison (s : State) (c : CollF) (b : Nat) : Bool :=
  (s.sources c).any (fun e => s.poisonedIn (e.addr + 64 * b * e.bytes) (c.blockLen b * e.bytes))

/-- A block of a reduction passed on once every sum it waits for is there: to its parent, or as a result where this
module forms it. Poison in its own part makes the module withdraw (R380). -/
def State.passBlock (s : State) (id b : Nat) : State :=
  match s.flight id with
  | none => s
  | some f =>
    match f.coll? with
    | none => s
    | some p =>
      match p.held with
      | none => s
      | some x =>
        let c := collF f.words
        let n := x.included.length
        match incIdx x.included (s.ownPos c.ch) with
        | none => s
        | some i =>
          let kids := sumKids c n b i
          let sums := kids.map (fun k => (p.parts.find? (fun q => q.1 == b && q.2.1 == x.included.getD k 0)).map (fun q => q.2.2))
          if p.phase ≠ 3 || p.withdrawn || p.passed.contains b || sums.any Option.isNone then s
          else if s.sourcePoison c b then s.withdraw f p
          else
            let own := s.contribBlock f c p.eWin b
            let sum := sums.foldl (fun a o => match o with | some l => (a.zip l).map (fun q => wireAdd c.wire q.1 q.2) | none => a) own
            let s1 := s.setColl id { p with passed := setInsert p.passed b }
            match sumParent c n b i with
            | some par => s1.sendKept id c p.number (x.included.getD par 0) ⟨s.ownPos c.ch, x.num, keyTree c n b, b, 0, residueOf sum, sum, []⟩
            | none => s1.haveResult id b (s1.resultBlock f c p.eWin n b sum)

/-- The children of a collective's trees, at the start of its data phase. -/
def State.collKids (s : State) (c : CollF) (inc : List Nat) : List Kid :=
  let all := (s.chan c.ch).n
  let own := s.ownPos c.ch
  let keys := if c.delivery then (if c.op = 0x10 then [c.root] else inc).flatMap (fun r => (List.range c.blocks).map (fun b => r * c.blocks + b))
    else List.range c.blocks
  ((keys.flatMap (fun k => (resultKids c all inc own k).map (fun q => (keyTree c inc.length k, q)))).eraseDups).map (fun t => ⟨t.1, t.2, 0, none, false⟩)

/-- The data phase of a collective may start: it is sealed, and that of every earlier one of its channel has
ended (R363). Collectives are held while no adder lane works (R373). A module that has withdrawn takes part once a seal
excludes it (R379, R380). -/
def State.dataTurn (s : State) (f : Flight) (p : CollProg) : Bool :=
  p.phase == 2 && p.outcome == 0 && s.thr.lanes != 0xFF && (!p.withdrawn || p.held.any (fun x => !x.included.contains (s.ownPos (collF f.words).ch))) &&
  ((s.chFlights p.ch).takeWhile (fun g => g.id != f.id)).all (fun g => (g.coll?).all (fun q => s.dataEnded g q))

/-- ALLREDUCE, REDUCE_SCATTER, REDUCE: this module's part of the data phase begins. An included member reads and
converts its contribution, reports it once, and passes on what waits for no other sum; poison in a source makes it
withdraw (R368, R375, R380). -/
def State.runReduction (s : State) (id op : Nat) : State :=
  match s.flightOf id 6 op with
  | none => s
  | some f =>
    match f.coll? with
    | none => s
    | some p =>
      match p.held with
      | none => s
      | some x =>
        let c := collF f.words
        if !s.dataTurn f p then s
        else if !x.included.contains (s.ownPos c.ch) then s.setColl id { p with phase := 3 }
        else if ((c.src, 16 * c.srcCount) :: s.collIns c).any (fun r => s.poisonedIn r.1 r.2) then s.withdraw f p
        else
          let s1 := if p.reported then s
            else (s.report s.reporter (hTag f.hdr) f.step f.inPrePass (s.entryTally f c p.eWin)).bumpBy (thrReg 0x138) (c.count * c.srcCount)
          let s2 := s1.setColl id { p with phase := 3, reported := true, kids := s1.collKids c x.included }
          (List.range c.blocks).foldl (fun t b => t.passBlock id b) s2

/-- The codes of a block of this module's own source in a delivery collective. -/
def State.ownBlock (s : State) (a b : Nat) : List Nat := (s.bytes (a + 64 * b) 64).map (fun y => y.toNat)

/-- The result blocks that this module holds of some keys, in order, sent to a position. -/
def State.sendHeld (s : State) (c : CollF) (number dest num kind : Nat) (results : List (Nat × List Nat)) (inc : Nat) (keys : List Nat) : State :=
  keys.foldl (fun t k =>
    match results.find? (fun r => r.1 == k) with
    | none => t
    | some r => t.sendBlock c number dest ⟨t.ownPos c.ch, num, keyTree c inc k, k, kind, residueOf r.2, r.2, []⟩) s

/-- Result blocks that came before this module's data phase passed to its children. -/
def State.forwardHeld (s : State) (c : CollF) (inc : List Nat) (num number : Nat) (kids : List Kid) (results : List (Nat × List Nat)) : State :=
  kids.foldl (fun t k => t.sendHeld c number k.pos num 1 results inc.length
    (kidKeys c (s.chan c.ch).n inc (s.ownPos c.ch) k.tree k.pos)) s

/-- BROADCAST, ALLGATHER, ALLTOALL: the own part is copied, sent down its trees or to its positions, and the parts
of members not included are written as zero (R394, R396, R397). -/
def State.runDelivery (s : State) (id op : Nat) : State :=
  match s.flightOf id 6 op with
  | none => s
  | some f =>
    match f.coll? with
    | none => s
    | some p =>
      match p.held with
      | none => s
      | some x =>
        let c := collF f.words
        let own := s.ownPos c.ch
        let all := (s.chan c.ch).n
        let inc := x.included
        let here := inc.contains own
        let zeros := if c.op = 0x10 then [] else (List.range all).filter (fun r => !inc.contains r)
        if !s.dataTurn f p then s
        else if here && (s.collIns c).any (fun r => s.poisonedIn r.1 r.2) then s.withdraw f p
        else
          let s1 := s.setColl id { p with phase := 3, kids := if here then s.collKids c inc else [] }
          let s1' := if here then s1.forwardHeld c inc x.num p.number (s1.collKids c inc) p.results else s1
          let s2 := zeros.foldl (fun t r => t.storeAs 2 (c.dst + r * c.part) (List.replicate c.part 0)) s1'
          let mine := here && (c.op != 0x10 || c.root == own)
          if !mine then s2
          else
            let src := c.src + (if c.op = 0x12 then own * c.part else 0)
            let s3 := (List.range c.blocks).foldl (fun t b => t.haveResult id (own * c.blocks + b) (s.ownBlock src b)) s2
            if c.op = 0x12 then
              ((List.range all).filter (fun q => q != own)).foldl (fun t q => (List.range c.blocks).foldl (fun u b =>
                let l := s.ownBlock (c.src + q * c.part) b
                u.sendKept id c p.number q ⟨own, x.num, own, own * c.blocks + b, 1, residueOf l, l, []⟩) t) s3
            else s3

/-- VERDICT: the flags and job maxima of the included members combined. The others' maxima come with the command;
this module's count where it is included (R385). -/
def State.runVerdict (s : State) (id : Nat) (others : List (Nat × Int)) : State :=
  match s.flight id with
  | none => s
  | some f =>
    match f.coll? with
    | none => s
    | some p =>
      match p.held with
      | none => s
      | some x =>
        let c := collF f.words
        let p1 := if c.op = 4 && s.dataTurn f p then { p with phase := 3 } else p
        if !c.isVerdict || p1.phase ≠ 3 || p.maxima.isSome || p.outcome ≠ 0 then s
        else
          let mine := if x.included.contains (s.ownPos c.ch) then s.jobMaxima f.step c.probe else []
          let tags := ((others ++ mine).map (fun m => m.1)).foldl setInsert []
          let ms := tags.filterMap (fun t => (((others ++ mine).filter (fun m => m.1 == t)).foldl (fun (a : Option Int) m => maxExpOf a (some m.2)) none).map (fun e => (t, e)))
          s.setColl id { p1 with maxima := some ms }

/-- The adder lanes that mismatch on a block fail, one after another (R373). Answers whether a lane is left. -/
def State.failLanes (s : State) (f : Flight) (ch block : Nat) : List (Fin 8) → State × Bool
  | [] => (s, s.thr.lanes != 0xFF)
  | l :: rest =>
    if s.thr.lanes = 0xFF then (s, false)
    else if bitOf s.thr.lanes l.val then s.failLanes f ch block rest
    else
      let s1 := { s with thr := { s.thr with lanes := s.thr.lanes ||| (1 <<< l.val) } }
      let s2 := (s1.bump (thrReg 0x130)).raiseErr .thresher 0 0 0x0620 f.work (l.val + (ch <<< 8) + (f.work <<< 32)) block
      let s3 := if s2.thr.lanes = 0xFF then s2.raiseErr .thresher 0 1 0x0621 f.work 0 0 else s2
      s3.failLanes f ch block rest

/-- A block that fails its residue (R372, R411): asked for again, three times; then its sender counts as
undelivered in the reduction, and as an unreachable parent in the distribution. -/
def State.badBlock (s : State) (f : Flight) (p : CollProg) (b : BlockMsg) : State :=
  let key := (b.sender, b.tree, b.block)
  let n : Nat := ((p.retries.find? (fun r => (r.1, r.2.1, r.2.2.1) == key)).map (fun r => r.2.2.2)).getD 0
  let p1 := { p with retries := (b.sender, b.tree, b.block, n + 1) :: p.retries.filter (fun r => (r.1, r.2.1, r.2.2.1) != key) }
  if n < 3 then ((s.setColl f.id p1).bump (thrReg 0x128)).thrSend (.retry p.ch p.number b.sender b.tree b.block b.kind)
  else if b.kind = 0 then
    let s1 := s.setColl f.id p1
    s1.peerReport p.ch p.number (s.ownPos p.ch) b.sender
  else s.setColl f.id (p1.detach (collF f.words) [b.tree])

/-- BLOCK_RECEIVED: checked against its residue, accepted once by its key, added or written, and forwarded. -/
def State.blockReceived (s : State) (c number : Nat) (b : BlockMsg) : State :=
  match s.collFlight c number with
  | none => s
  | some f =>
    match f.coll? with
    | none => s
    | some p =>
      match p.held with
      | none => s
      | some x =>
        let cf := collF f.words
        let key := (b.sender, b.tree, b.block, min 1 b.kind)
        let e := if b.kind = 0 then (wireFmt cf.wire).bytes else if cf.delivery then 1 else cf.outBytes
        let known := if b.kind = 0 then !cf.delivery && decide (b.block < cf.blocks) && b.elems.length == 64
          else decide ((List.length b.elems) * e = keyBytes cf b.block)
        if p.outcome ≠ 0 || b.sealNo ≠ x.num || p.keys.contains key || !known then s
        else
          let s0 := s.bumpBy (thrReg 0x120) (b.elems.length * e)
          if residueOf b.elems ≠ b.residue then s0.badBlock f p b
          else
            let p1 := { p with keys := key :: p.keys, repaired := p.repaired || (b.kind == 2 && !p.results.any (fun r => r.1 == b.block)) }
            if b.kind = 0 then
              let r := s0.failLanes f c b.block b.faults
              if !r.2 then r.1
              else (r.1.setColl f.id { p1 with parts := (b.block, b.sender, b.elems) :: p1.parts }).passBlock f.id b.block
            else
              let s1 := (s0.setColl f.id p1).haveResult f.id b.block b.elems
              match (s1.flight f.id).bind Flight.coll? with
              | none => s1
              | some p2 =>
                let got := (p2.results.filter (fun r => keyTree cf x.included.length r.1 == b.tree)).map (fun r => r.1)
                s1.thrSend (.ack c number b.sender b.tree (keysBytes cf got))

/-! ### Acknowledgement, detachment, repair (R400 to R404) -/

def CollF.window (c : CollF) : Nat := if c.delivery then (if c.lag = 0 then 64 else c.lag) * 65536 else 0x400000
def CollF.straggleUnits (c : CollF) : Nat := almUs (if c.delivery && c.straggle ≠ 0 then c.straggle else 200)

/-- The lag of every child of a tree found anew. -/
def noteLag (window now : Nat) (kids : List Kid) : List Kid :=
  kids.map (fun (k : Kid) =>
    let sib := kids.filter (fun q => q.tree == k.tree && !q.detached)
    let lead := sib.foldl (fun a q => max a q.acked) 0
    if k.detached || sib.length ≤ 1 || lead ≤ k.acked + window then { k with lagSince := none }
    else { k with lagSince := some (k.lagSince.getD now) })

/-- SEGMENT_ACK: a child acknowledges written, checked bytes. -/
def State.segmentAck (s : State) (c number tree child bytes : Nat) : State :=
  match s.collFlight c number with
  | none => s
  | some f =>
    match f.coll? with
    | none => s
    | some p =>
      let kids := p.kids.map (fun (k : Kid) => if k.tree == tree && k.pos == child then { k with acked := max k.acked bytes } else k)
      s.setColl f.id { p with kids := noteLag (collF f.words).window s.now kids }

/-- The keys of a list after its first n bytes. -/
def keysAfter (c : CollF) : Nat → List Nat → List Nat
  | _, [] => []
  | n, k :: ks => if keyBytes c k ≤ n then keysAfter c (n - keyBytes c k) ks else k :: ks

/-- CHILD_DETACH: a child that has lagged beyond the window for longer than straggle_limit. Its parent adopts its
children, each at its own acknowledged offset, which the command brings. -/
def State.childDetach (s : State) (c number tree child : Nat) (offsets : List Nat) : State :=
  match s.collFlight c number with
  | none => s
  | some f =>
    match f.coll?, (f.coll?).bind (fun p => p.held) with
    | some p, some x =>
      let cf := collF f.words
      let all := (s.chan c).n
      match p.kids.find? (fun k => k.tree == tree && k.pos == child && !k.detached) with
      | none => s
      | some k =>
        if !(k.lagSince.any (fun t => decide (t + cf.straggleUnits < s.now))) then s
        else
          let keys := if cf.delivery then (List.range cf.blocks).map (fun b => tree * cf.blocks + b) else (List.range cf.blocks).filter (fun b => keyTree cf x.included.length b == tree)
          let theirs := (keys.flatMap (fun q => resultKids cf all x.included child q)).eraseDups
          let adopted := (List.range theirs.length).map (fun i => (⟨tree, theirs.getD i 0, offsets.getD i 0, none, false⟩ : Kid))
          let kids := p.kids.map (fun (q : Kid) => if q.tree == tree && q.pos == child then { q with detached := true, lagSince := none } else q) ++ adopted
          let s1 := s.setColl f.id { p with kids := noteLag cf.window s.now kids }
          adopted.foldl (fun t q => t.sendHeld cf number q.pos x.num 1 p.results x.included.length (keysAfter cf q.acked keys)) s1
    | _, _ => s

/-- What this module holds of a collective of a channel, in flight or retained after it: the descriptor's words, the
seal it acts on, its results and the blocks it keeps. -/
def State.collKept (s : State) (c number : Nat) : Option (List Word512 × SealRec × List (Nat × List Nat) × List (Nat × BlockMsg)) :=
  match s.collFlight c number with
  | some f => (f.coll?).bind (fun p => p.held.map (fun x => (f.words, x, p.results, p.sent)))
  | none => (s.thr.kept.find? (fun k => k.ch == c && k.number == number && decide (s.now ≤ k.limit))).map
      (fun k => (k.words, k.held, k.results, k.sent))

/-- This module, detached or orphaned, asks for what it misses of a tree, 1 MiB at a time, from its parent or the next
one up that it can reach (R402, R403). -/
def State.repairFetch (s : State) (c number tree other : Nat) : State :=
  match s.collFlight c number with
  | none => s
  | some f =>
    match f.coll?, (f.coll?).bind (fun p => p.held) with
    | some p, some x =>
      let cf := collF f.words
      if p.phase ≠ 3 || p.outcome ≠ 0 || s.wholeResult f p then s
      else
        let keys := (wantKeys cf (s.chan c).n x.included (s.ownPos c)).filter (fun k => keyTree cf x.included.length k == tree)
        let got := keys.takeWhile (fun k => p.results.any (fun r => r.1 == k))
        (s.setColl f.id (p.detach cf [tree])).thrSend (.repair c number other tree (keysBytes cf got) 0x100000)
    | _, _ => s

/-- Another position asks for a range of a tree, and is sent what is here of it; the rest waits until it is here
(R402). What an ALLTOALL sends a position is the part it has sent there. -/
def State.repairServe (s : State) (c number tree other off n : Nat) : State :=
  match s.collKept c number with
  | none => s
  | some (words, x, results, sent) =>
    let cf := collF words
    let keys := (wantKeys cf (s.chan c).n x.included other).filter (fun k => keyTree cf x.included.length k == tree)
    let rest := keysAfter cf off keys
    let asked := rest.take (rest.length - (keysAfter cf n rest).length)
    let held := if cf.op = 0x12 then (sent.filter (fun e => e.1 == other)).map (fun e => (e.2.block, e.2.elems)) else results
    let s1 := match s.collFlight c number with
      | some f =>
        (match f.coll? with
         | some p => s.setColl f.id { p with asks := p.asks ++ (asked.filter (fun k => !held.any (fun r => r.1 == k))).map (fun k => (other, k)) }
         | none => s)
      | none => s
    s1.sendHeld cf number other x.num 2 held x.included.length asked

/-- A residue retry (R372, R405): the block is sent again as it was sent before, from staging or from the results held. -/
def State.blockAgain (s : State) (c number tree other block kind : Nat) : State :=
  match s.collKept c number with
  | none => s
  | some (words, x, results, sent) =>
    let cf := collF words
    match sent.find? (fun e => e.1 == other && e.2.tree == tree && e.2.block == block && e.2.kind == kind) with
    | some e => s.sendBlock cf number other e.2
    | none => if kind = 0 then s else s.sendHeld cf number other x.num kind results x.included.length [block]

/-- REPAIR_REQUEST, sent or received, for a range or for one block. -/
def State.repairRequest (s : State) (c number tree other : Nat) : RepairAsk → State
  | .fetch => s.repairFetch c number tree other
  | .range off n => s.repairServe c number tree other off n
  | .block b k => s.blockAgain c number tree other b k

/-! ### Completion (R379, R382, R406 to R408) -/

/-- The repair limit of a collective (R407). -/
def State.repairLimit (s : State) (c : Nat) (x : SealRec) : Nat := x.time + 4 * s.dataLimit c + s.sealLimit c

/-- A collective completes with its header, its verdict and its counters. -/
def State.endColl (s : State) (f : Flight) (p : CollProg) : State :=
  let c := collF f.words
  let x : SealRec := p.held.getD ⟨0, [], [], 0, s.now, s.now⟩
  let excl := (p.outcome = 0 || p.outcome = 0x0616) && !x.included.contains (s.ownPos c.ch)
  let info := if p.outcome ≠ 0 then p.outcome
    else if p.cancelInfo ≠ 0 then p.cancelInfo
    else if excl then 0x0610 else if p.repaired then 0x0617 else 0
  let s1 := s.storeAs 2 c.hdr (s.headerImage f p p.outcome)
  let s2 := if c.isVerdict then
      let v : Verdict := ⟨f.step, c.probe, x.time, p.outcome != 0 || !x.flags.isEmpty, x.flags, p.maxima.getD []⟩
      let t := { s1 with verdicts := v :: s1.verdicts }
      if c.probe then t.putProbeMaxima v.maxima else t
    else s1
  let s2' := if p.outcome = 0 || p.outcome = 0x0616 then s2 else s2.bump (thrChReg c.ch 0x140)
  let s3 := if p.outcome ≠ 0 then s2'.raiseErr .thrCh c.ch 1 p.outcome f.work 0 0 else s2'
  let s4 := if excl then (s3.bump (thrChReg c.ch 0x148)).raise .thrCh c.ch 0 0x0610 f.work else s3
  let s5 := if info = 0x0615 then s4.bump (thrChReg c.ch 0x160) else s4
  let s6 := (s5.bump (thrChReg c.ch 0x138)).bump (thrReg 0x110)
  let keep : Retained := ⟨c.ch, p.number, f.words, x, p.results, p.sent, s6.repairLimit c.ch x⟩
  ({ s6 with thr := { s6.thr with kept := keep :: s6.thr.kept.filter (fun k => decide (s6.now ≤ k.limit)) } }).complete f.id info

/-- COLLECTIVE_COMPLETE: in number order, once it has failed, or its result is whole and its attached children have
acknowledged. -/
def State.collComplete (s : State) (id : Nat) : State :=
  match s.flight id with
  | none => s
  | some f =>
    match f.coll? with
    | none => s
    | some p =>
      let first := ((s.chFlights p.ch).takeWhile (fun g => g.id != id)).isEmpty
      if !first || p.phase = 0 then s
      else if p.outcome ≠ 0 then s.endColl f p
      else if s.collDone f p then s.endColl f p
      else s

/-- REPAIR_LIMIT_EXPIRY: the whole result has not been written by the repair limit (R407); completion keeps its order (R363). -/
def State.repairExpiry (s : State) (id : Nat) : State :=
  match s.flight id with
  | none => s
  | some f =>
    match f.coll? with
    | none => s
    | some p =>
      match p.held with
      | none => s
      | some x =>
        if p.outcome = 0 && !s.wholeResult f p && decide (s.repairLimit p.ch x ≤ s.now) then
          (if ((s.chFlights p.ch).takeWhile (fun g => g.id != id)).isEmpty then s.endColl f { p with outcome := 0x0616 } else s.failColl f p 0x0616)
        else s

/-! ### Cancellation (R388, R412) -/

def thrMatches (d : List Word512) (f : Flight) : Bool :=
  f.cls == 6 && f.op != 5 && (f.work &&& fld (dword d 1) 63 32) == (fld (dword d 1) 31 0 &&& fld (dword d 1) 63 32)

/-- What a CANCEL does to one match. -/
def State.cancelColl (s : State) (id : Nat) : State :=
  match s.flight id with
  | none => s
  | some f =>
    match f.coll? with
    | none => s
    | some p =>
      if !f.started then (((s.bump (thrChReg p.ch 0x138)).bump (thrReg 0x110)).bump (thrChReg p.ch 0x160)).complete id 0x0615
      else if p.held.isNone && p.outcome = 0 && !p.withdrawn then s.withdraw f { p with cancelInfo := 0x0615 }
      else s

/-- THRESHER_CANCEL: it matches once its launch condition holds, and completes after what it matched. -/
def State.runThrCancel (s : State) (id : Nat) : State :=
  match s.flightOf id 6 5 with
  | none => s
  | some f =>
    match f.prog with
    | .cancel p => if p.matched.all (fun i => (s.flight i).isNone) then s.complete id 0 else s
    | _ =>
      if !f.fired then s
      else
        let hits := (s.flights.filter (thrMatches f.words)).map (fun g => g.id)
        let s1 := hits.foldl State.cancelColl s
        match s1.flight id with
        | some g => s1.setFlight { g with started := true, prog := Prog.cancel ⟨1, hits⟩ }
        | none => s1

/-! ### Views and resets -/

/-- The word at 0x120 of a THR_CH page (R391). -/
def State.chanStatus (s : State) (c : Nat) : Nat :=
  let on := s.enabled .thrCh c
  let fs := s.chFlights c
  let st := if !on then 0
    else if fs.any (fun f => (f.coll?).any (fun p => p.held.isSome && p.outcome == 0 && !s.dataEnded f p)) then 3
    else if fs.any (fun f => (f.coll?).any (fun p => p.phase == 1 && p.outcome == 0)) then 2 else 1
  (if (s.chan c).n = 0 then 0 else s.ownPos c) + (min 64 (s.chQueued c) <<< 16) + (st <<< 24) + ((if (s.chan c).n = 0 then 0 else s.arbPos c) <<< 32)

/-- A channel has collectives started and not complete. -/
def State.chanBusy (s : State) (c : Nat) : Bool := (s.chFlights c).any (fun f => f.started)

/-- The last repair limit in force (R407, R465). -/
def State.repairHold (s : State) : Nat := s.thr.kept.foldl (fun a k => max a k.limit) 0

/-- A warm reset: every channel forgotten (R389); repair limits stay in force. -/
def State.resetThresher (s : State) : State :=
  { s with thr := { s.thr with chans := s.thr.chans.map (fun _ => ⟨[], 0, 0⟩), arbs := [], verdictSteps := [] } }

end Sys2Proof.Machine
end

