-- ==== Sys2Proof/Machine/Swath.lean ====
section
/-!
DEFINITION. Swath: links, lanes and lasers (R414 to R419), the transport packet (R420), connections,
acknowledgement, retransmission, reachability and paths (R421 to R428), WRITE, READ and CANCEL (R429 to R431), the
plan and discovery (R432 to R436), PTP (R438).
-/
namespace Sys2Proof.Machine

def swathReg (off : Nat) : Nat := regAddr .swath 0 off
def swPortReg (p off : Nat) : Nat := regAddr .swathPort p off
def tpReg (off : Nat) : Nat := regAddr .transport 0 off
def ptpReg (off : Nat) : Nat := regAddr .ptp 0 off

/-! ### Links (R414, R415, R419) -/

def State.portMode (s : State) (p : Nat) : Nat := s.rf (swPortReg p 0x100) 1 0

/-- Links of a port in a mode, and lanes of each. -/
def modeLinks (m : Nat) : Nat := 2 ^ m
def modeLanes (m : Nat) : Nat := 8 / 2 ^ m

/-- The link exists. -/
def State.linkExists (s : State) (l : Nat) : Bool := decide (l < 64) && decide (l % 8 < modeLinks (s.portMode (l / 8)))

def State.link (s : State) (l : Nat) : SwLink := s.swath.links.getD l ⟨0, false, false, [], none⟩
def State.setLink (s : State) (l : Nat) (x : SwLink) : State := { s with swath := { s.swath with links := s.swath.links.set l x } }
def State.port (s : State) (p : Nat) : SwPort := s.swath.ports.getD p ⟨0, false, 0⟩
def State.setPort (s : State) (p : Nat) (x : SwPort) : State := { s with swath := { s.swath with ports := s.swath.ports.set p x } }

def SwConn.fresh (paths : List PathSt) : SwConn := ⟨none, 0, [], 0, 0, 0, false, 0, 0, [], [], none, false, paths, 0, 0, 0, none, [], 0⟩

def State.conn (s : State) (e : Nat) : SwConn := s.swath.conns.getD e (SwConn.fresh [])
def State.setConn (s : State) (e : Nat) (c : SwConn) : State := { s with swath := { s.swath with conns := s.swath.conns.set e c } }

/-- Links in service, ascending. -/
def State.service (s : State) : List Nat := (List.range 64).filter (fun l => s.linkExists l && (s.link l).inService)

/-- Lanes of a link, as bits of its port. -/
def State.linkLanes (s : State) (l : Nat) : Nat :=
  let k := modeLanes (s.portMode (l / 8))
  (2 ^ k - 1) * 2 ^ (k * (l % 8))

def State.swSend (s : State) (x : SwathOut) : State := { s with swath := { s.swath with sent := x :: s.swath.sent } }

/-- What an unreachable peer means for a collective (R403, R410, R411): in the reduction part the peer is reported;
in the distribution a tree whose parent it is must be repaired. -/
def State.collPeerLost (s : State) (modno : Nat) (id : Nat) : State :=
  match s.flight id with
  | none => s
  | some f =>
    match f.coll?, (f.coll?).bind (fun p => p.held) with
    | some p, some x =>
      let c := collF f.words
      let ch := s.chan c.ch
      match findIdx? (fun (m : Nat × Bool) => m.1 == modno) ch.members with
      | none => s
      | some pos =>
        if p.phase ≠ 3 || p.outcome ≠ 0 then s
        else if !c.delivery && x.included.contains (s.ownPos c.ch) && p.passed.length < c.blocks then s.peerReport c.ch p.number (s.ownPos c.ch) pos
        else
          let missing := (wantKeys c ch.n x.included (s.ownPos c.ch)).filter (fun k => !p.results.any (fun r => r.1 == k) &&
            (resultKids c ch.n x.included pos k).contains (s.ownPos c.ch))
          s.setColl id (p.detach c (missing.map (keyTree c x.included.length)))
    | _, _ => s

/-- A message of the recovery user is still to be acknowledged. -/
def State.msgOpen (s : State) (e m : Nat) : Bool :=
  (s.conn e).slots.any (fun x => x.data.user == 2 && x.data.msg == m) || (s.conn e).queue.any (fun x => x.user == 2 && x.msg == m)

/-- An endpoint's messages in flight are lost to recovery (R422, R427): a BUDDY_SEND whose messages to it are not all
acknowledged has lost its partner (R481), a REFILL whose data from it is not all here has lost its source (R488). -/
def State.recoPeerLost (s : State) (e : Nat) : State :=
  { s with flights := s.flights.map (fun (f : Flight) => match f.prog with
      | .reco p =>
        if p.ep == e && f.op == 2 && p.msg.any (s.msgOpen e) then { f with ending := some 0x0A0A }
        else if p.ep == e && f.op == 4 && p.msg.isSome && decide (p.got < p.len) then { f with ending := some 0x0A08 }
        else f
      | _ => f) }

/-- An endpoint reported unreachable (R427): to the collectives in flight, to recovery; the rules give the sample
pipeline nothing to do on the report itself. -/
def State.reportLost (s : State) (e : Nat) : State :=
  let t := s.recoPeerLost e
  match s.swath.eps[e]? with
  | some ep => if ep.storage then t
    else ((t.flights.filter (fun f => f.cls == 6)).map (fun f => f.id)).foldl (fun u id => u.collPeerLost ep.modno id) t
  | none => t

/-- ISOLATED (R435): every endpoint becomes unreachable, and those that were not are reported. -/
def State.isolate (s : State) : State :=
  let lost := (List.range s.swath.eps.length).filter (fun e => decide (e ≠ s.rf (tpReg 0x108) 47 32) && !((s.swath.conns[e]?).any (fun c => c.unreachable)))
  lost.foldl State.reportLost
    (({ s with swath := { s.swath with plan := 3, conns := s.swath.conns.map (fun (c : SwConn) => { c with unreachable := true }) } }).raiseErr .transport 0 0 0x0524 0 0 0)

/-- The plan's state follows the links in service once the plan is in force (R435): ISOLATED below min_links, with
every endpoint unreachable; RUNNING otherwise. A slave link that has left service sets PTP_LOST (R438). -/
def State.refreshService (s : State) (before : List Nat) : State :=
  let now := s.service
  let slave := s.rf (ptpReg 0x100) 37 32
  let s1 := if s.rf (ptpReg 0x100) 1 0 != 0 && before.contains slave && !now.contains slave then s.raiseErr .ptp 0 0 0x052C 0 0 0 else s
  let enough := decide (s.rf (tpReg 0x108) 6 0 ≤ now.length)
  if s1.swath.plan = 2 && !enough then s1.isolate
  else if s1.swath.plan = 3 && enough then { s1 with swath := { s1.swath with plan := 2 } }
  else s1

/-- A link goes DOWN: counted, and the fourth time within 60 s it becomes CUT (R415). -/
def State.dropLink (s : State) (l : Nat) : State :=
  let x := s.link l
  if !s.linkExists l || x.state = 0 || x.state = 1 || x.state = 4 || x.state = 5 then s
  else
    let recent := (s.now :: x.downs).filter (fun t => decide (s.now ≤ t + almMs 60000))
    let before := s.service
    let s1 := (s.setLink l { x with state := if 4 ≤ recent.length then 5 else 4, inService := false, judged := decide (4 ≤ recent.length), downs := recent }).bump (swPortReg (l / 8) 0x188)
    (s1.raiseErr .swath 0 0 0x0520 0 0 0).refreshService before

/-- SWATH_LINK_DOWN: a lane of a port has failed. -/
def State.laneFails (s : State) (p lane : Nat) : State :=
  let x := s.port p
  let s1 := s.setPort p { x with lanes := x.lanes - (if bitOf x.lanes lane then 2 ^ lane else 0) }
  s1.dropLink (p * 8 + lane / modeLanes (s.portMode p))

/-- SWATH_LINK_RETRAIN: a link of an enabled, lit port that is in training or DOWN trains with all its lanes, or
stays DOWN. -/
def State.retrainLink (s : State) (l : Nat) (ok : Bool) : State :=
  let x := s.link l
  let p := l / 8
  if !s.linkExists l || !s.enabled .swathPort p || !(s.port p).laserOk || (x.state != 2 && x.state != 4) then s
  else if ok then
    let q := s.port p
    (s.setPort p { q with lanes := q.lanes ||| s.linkLanes l }).setLink l { x with state := 3, inService := false, judged := false }
  else s.setLink l { x with state := 4 }

/-- LASER_LOW: below the threshold for 10 ms (R419). -/
def State.laserLow (s : State) (p : Nat) : State :=
  if !(s.port p).laserOk then s
  else
    let s1 := s.setPort p { s.port p with laserOk := false, lanes := 0 }
    let s2 := (List.range 8).foldl (fun t k => t.dropLink (p * 8 + k)) s1
    s2.raiseErr .swath 0 1 0x0523 0 0 0

/-- LASER_RESTORED: above the threshold for 100 ms. -/
def State.laserRestored (s : State) (p : Nat) : State := s.setPort p { s.port p with laserOk := true }

/-- PG_CTRL.enable of a port: its links start training, with no judgement; or are DISABLED (R415, R434). -/
def State.enablePort (s : State) (p : Nat) (on : Bool) : State :=
  let before := s.service
  let s1 := (List.range 8).foldl (fun t k => t.setLink (p * 8 + k) ⟨if t.linkExists (p * 8 + k) then (if on then 2 else 1) else 0, false, false, [], none⟩) s
  (s1.setPort p { s1.port p with lanes := 0, paused := 0 }).refreshService before

/-- PFC_PAUSE: the priorities that a received pause names, of those with PFC enabled (R418). -/
def State.pfcPause (s : State) (p prios : Nat) : State :=
  (s.setPort p { s.port p with paused := prios &&& s.rf (swPortReg p 0x100) 15 8 }).bump (swPortReg p 0x180)

/-- SWATH_PORT.link_state of a port (R440). -/
def State.linkStates (s : State) (p : Nat) : Nat :=
  (List.range 8).foldl (fun a k => a + ((if s.linkExists (p * 8 + k) then (s.link (p * 8 + k)).state else 0) <<< (8 * k))) 0

/-- Word i of the neighbour record that nbr_link selects. -/
def State.nbrWord (s : State) (p i : Nat) : Nat :=
  match (s.link (p * 8 + s.rf (swPortReg p 0x118) 2 0)).nbr with
  | some b => leNat ((b.drop (8 * i)).take 8)
  | none => 0

/-! ### The packet (R420) -/

structure SwHdr where
  len : Nat
  ceEcho : Bool
  ackNow : Bool
  retransmit : Bool
  last : Bool
  type : Nat
  path : Nat
  user : Nat
  src : Nat
  seq : Nat
  msg : Nat
  q : Nat
  tag : Nat
  dst : Nat
  deriving DecidableEq, Repr

/-- The 32 bytes of a header over a payload, CRC included. -/
def SwHdr.toBytes (h : SwHdr) (payload : List Byte) : List Byte :=
  let w0 := 1 + (h.type <<< 4) + (b2n h.last <<< 8) + (b2n h.retransmit <<< 9) + (b2n h.ackNow <<< 10) + (b2n h.ceEcho <<< 11) + (h.len <<< 16)
  let front := leBytes 4 w0 ++ leBytes 4 (h.src + (h.user <<< 16) + (h.path <<< 24)) ++ leBytes 4 h.seq ++ leBytes 4 h.msg ++ leBytes 8 h.q ++
    leBytes 4 (h.dst + (h.tag <<< 16))
  front ++ leBytes 4 (crc32c (front ++ List.replicate 4 0 ++ payload)) ++ payload

/-- A received packet read: none where its version, type, length or CRC is wrong (R420). -/
def swParse (b : List Byte) : Option (SwHdr × List Byte) :=
  let n (off k : Nat) : Nat := leNat ((b.drop off).take k)
  let w0 := n 0 4
  let payload := b.drop 32
  let h : SwHdr := ⟨bitsOf w0 31 16, bitOf w0 11, bitOf w0 10, bitOf w0 9, bitOf w0 8, bitsOf w0 7 4, n 7 1, n 6 1, n 4 2, n 8 4, n 12 4, n 16 8, n 26 2, n 24 2⟩
  if b.length < 32 || w0 % 16 ≠ 1 || 5 ≤ h.type || 4096 < h.len || payload.length ≠ h.len then none
  else if crc32c ((b.take 28) ++ List.replicate 4 0 ++ payload) ≠ n 28 4 then none
  else some (h, payload)

def State.planTag (s : State) : Nat := s.rf (tpReg 0x108) 63 48
def State.ownEp (s : State) : Nat := s.rf (tpReg 0x108) 47 32

/-- The module's incarnation (R422). -/
def State.incarnation (s : State) : Nat := if s.swath.plan = 0 then 0 else ((s.steward.bootCount % 2 ^ 32) <<< 32) + s.swath.loads % 2 ^ 32

/-- A header from this module to an endpoint. -/
def State.swHdr (s : State) (e type path user seq msg q len : Nat) : SwHdr :=
  ⟨len, false, false, false, false, type, path, user, s.ownEp, seq, msg, q, s.planTag, e⟩

/-- A transport packet on a path: its UDP source port and its priority (R418, R428). -/
def State.outPacket (s : State) (l p : Nat) (bytes : List Byte) (body : SwathBody) : SwathOut :=
  .packet l (s.rf (tpReg 0x120) 63 48 + 1 + p) (s.rf (swathReg 0x108) 18 16) bytes body

/-! ### Paths (R428) -/

/-- The paths of the module: `paths` on every link in service. -/
def State.allPaths (s : State) : List (Nat × Nat) := s.service.flatMap (fun l => (List.range (s.rf (tpReg 0x128) 39 32)).map (fun p => (l, p)))

/-- A connection's window of a path. -/
def SwConn.window (c : SwConn) (l p : Nat) : Nat := ((c.paths.find? (fun x => x.link == l && x.path == p)).map (fun x => x.window)).getD 16

/-- A connection's path record replaced. -/
def SwConn.setWindow (c : SwConn) (l p window acked : Nat) : SwConn :=
  { c with paths := ⟨l, p, window, acked⟩ :: c.paths.filter (fun x => !(x.link == l && x.path == p)) }

/-- A window halved, at least 1. -/
def SwConn.halve (c : SwConn) (l p : Nat) : SwConn := c.setWindow l p (max 1 (c.window l p / 2)) 0

/-- A packet acknowledged on a path: the window rises by one when a whole window has been. -/
def SwConn.ackPath (c : SwConn) (l p : Nat) : SwConn :=
  let w := c.window l p
  let a := ((c.paths.find? (fun x => x.link == l && x.path == p)).map (fun x => x.acked)).getD 0 + 1
  if w ≤ a then c.setWindow l p (min 256 (w + 1)) 0 else c.setWindow l p w a

/-- Packets outstanding on a path. -/
def SwConn.onPath (c : SwConn) (l p : Nat) : Nat := c.slots.countP (fun x => x.link == l && x.path == p)

/-- The next path in round robin whose window has room and whose port does not hold transport packets paused, with its
position (R418, R428). -/
def State.pickPath (s : State) (c : SwConn) : Option (Nat × Nat × Nat) :=
  let ps := s.allPaths
  let n := ps.length
  ((List.range n).map (fun i => (c.rr + i) % n)).findSome? (fun i =>
    match ps[i]? with
    | some (l, p) => if c.onPath l p < c.window l p && !bitOf (s.port (l / 8)).paused (s.rf (swathReg 0x108) 18 16) then some (i, l, p) else none
    | none => none)

/-- The path of a retransmission (R425): a link on another port, else another link, else another path, else any. -/
def State.retryPath (s : State) (x : TxSlot) : Option (Nat × Nat) :=
  let ps := s.allPaths
  match ps.find? (fun q => q.1 / 8 != x.link / 8) with
  | some q => some q
  | none =>
    match ps.find? (fun q => q.1 != x.link) with
    | some q => some q
    | none => match ps.find? (fun q => q != (x.link, x.path)) with | some q => some q | none => ps.head?

/-! ### Sending (R421, R424, R425) -/

/-- Slots in use over all connections. -/
def State.slotsUsed (s : State) : Nat := s.swath.conns.foldl (fun a c => a + c.slots.length) 0

/-- A connection may send a new DATA packet now: its peer has been heard since the load, it is reachable, a slot is
free. -/
def State.maySend (s : State) (c : SwConn) : Bool :=
  c.peerInc.isSome && !c.unreachable && decide (c.slots.length < s.rf (tpReg 0x128) 31 16) && decide (s.slotsUsed < 16384)

def State.dataBytes (s : State) (e path seq : Nat) (d : TxData) (retry : Bool) : List Byte :=
  ({ s.swHdr e 0 path d.user seq d.msg d.off d.payload.length with last := d.last, retransmit := retry }).toBytes d.payload

/-- The retransmit slot that a packet takes: the lowest that none holds (R424; log entry 54). -/
def State.freeSlot (s : State) : Nat :=
  let used := s.swath.conns.flatMap (fun c => c.slots.map (fun x => x.place))
  ((List.range 16384).find? (fun n => !used.contains n)).getD 0

/-- A DATA packet sent for the first time, if a path has room: its payload stands in its retransmit slot, where every unit
that reaches the buffers reads it (R27, R31, R424). -/
def State.transmit (s : State) (e : Nat) (d : TxData) : Option State :=
  let c := s.conn e
  if !s.maySend c then none
  else
    match s.pickPath c with
    | none => none
    | some (i, l, p) =>
      let x : TxSlot := ⟨s.freeSlot, c.txSeq, d, l, p, s.now, 1, 0⟩
      let c1 := { c with txSeq := (c.txSeq + 1) % 2 ^ 32, slots := c.slots ++ [x], rr := i + 1, since := some (c.since.getD s.now) }
      let s1 := s.putBytes (swathBufBase + 4096 * x.place) (d.payload.take 4096)
      some ((s1.setConn e c1).swSend (s.outPacket l p (s.dataBytes e p c.txSeq d false) d.body))

/-- Packets that wait on a connection sent while they can be. -/
def State.pumpConn (s : State) (e : Nat) : Nat → State
  | 0 => s
  | n + 1 =>
    match (s.conn e).queue with
    | [] => s
    | d :: rest =>
      match s.transmit e d with
      | none => s
      | some t => (t.setConn e { t.conn e with queue := rest }).pumpConn e n

/-- A packet given to a connection: sent, or waiting. -/
def State.queueData (s : State) (e : Nat) (d : TxData) : State :=
  let c := s.conn e
  (s.setConn e { c with queue := c.queue ++ [d] }).pumpConn e (c.queue.length + 1)

/-- A slot's packet sent again on another path; its timer is `timer`. -/
def State.resendSlot (s : State) (e : Nat) (x : TxSlot) (timer : Nat) : State :=
  match s.retryPath x with
  | none => s
  | some (l, p) =>
    let c := s.conn e
    let y := { x with link := l, path := p, sentAt := s.now, timer := timer, newer := 0 }
    ((s.setConn e { c with slots := c.slots.map (fun z => if z.seq == x.seq then y else z) }).bump (tpReg 0x1F0)).swSend
      (s.outPacket l p (s.dataBytes e p x.seq x.data true) x.data.body)

/-- A PROBE to an endpoint on every path. -/
def State.probeAll (s : State) (e : Nat) : State :=
  let c := s.conn e
  s.allPaths.foldl (fun t q => t.swSend (s.outPacket q.1 q.2 ((s.swHdr e 3 q.2 0 0 0 s.incarnation 0).toBytes []) .other))
    (s.setConn e { c with since := some (c.since.getD s.now), probed := s.now })

/-- An ACK on the path that the last DATA came on (R423). -/
def State.sendAck (s : State) (e : Nat) : State :=
  let c := s.conn e
  let sack := (List.range 64).foldl (fun a i => a + (b2n (c.rxAhead.contains ((c.rxCum + 1 + i) % 2 ^ 32)) <<< i)) 0
  let h := { s.swHdr e 1 c.rxPath 0 0 c.rxCum sack 0 with ceEcho := c.ceSeen }
  (s.setConn e { c with ackDue := 0, ceSeen := false }).swSend (s.outPacket c.rxLink c.rxPath (h.toBytes []) .other)

/-- ACK_TIMER: packets have been unacknowledged for 2 µs (R423). -/
def State.ackTimer (s : State) (e : Nat) : State :=
  if 0 < (s.conn e).ackDue && decide ((s.conn e).ackFrom + almUs 2 ≤ s.now) then s.sendAck e else s

/-- A packet of a message noted: its bytes, and the message's length once the packet marked last is there (R423). -/
def noteMsg (l : List (Nat × Nat × Option Nat)) (msg n : Nat) (len : Option Nat) : List (Nat × Nat × Option Nat) :=
  match l.find? (fun m => m.1 == msg) with
  | some m => (msg, m.2.1 + n, len.or m.2.2) :: l.filter (fun m => m.1 != msg)
  | none => (msg, n, len) :: l

/-- Messages complete in the order of their identifiers, each once all its bytes are there (R423). -/
def SwConn.settleMsgs (c : SwConn) : Nat → SwConn
  | 0 => c
  | k + 1 =>
    if c.rxMsgs.any (fun m => m.1 == c.rxDone && m.2.2.any (fun n => decide (n ≤ m.2.1))) then
      ({ c with rxMsgs := c.rxMsgs.filter (fun m => m.1 != c.rxDone), rxDone := (c.rxDone + 1) % 2 ^ 32 }).settleMsgs k
    else c

/-- The message of an identifier has completed on a connection. -/
def SwConn.completed (c : SwConn) (msg : Nat) : Bool := decide (2 ^ 31 ≤ (msg + 2 ^ 32 - c.rxDone) % 2 ^ 32)

/-! ### Transfers (R429 to R431) -/

structure SwathF where
  len : Nat
  remote : Nat
  localAddr : Nat
  ep : Nat
  hint : Nat
  deriving DecidableEq, Repr

def swathF (d : List Word512) : SwathF :=
  let w := dword d 1
  ⟨fld w 295 256, fld w 255 192, fld w 175 128, fld w 79 64, fld w 1 0⟩

def swathFootprint (d : List Word512) : List (Nat × Nat) := if hOpcode (dword d 0) = 3 then [] else [((swathF d).localAddr, (swathF d).len)]

/-- A local range lies in one of Tilth, Granary, the Steading buffers. -/
def swathPlace (a n : Nat) : Bool := decide (n = 0) || inTilthAny a n || inGranary a n || inSteadingBuf a n

/-- The checks of R431, for WRITE, READ and CANCEL. -/
def State.swathParse (s : State) (d : List Word512) : Nat :=
  let x := swathF d
  let w := dword d 1
  let z (hi lo : Nat) : Bool := fld w hi lo != 0
  let op := hOpcode (dword d 0)
  if s.swath.plan = 0 then 0x052B
  else if op = 3 then (if fld w 511 64 ≠ 0 then 0x0103 else 0)
  else if z 511 296 || z 191 176 || z 127 80 || z 63 2 then 0x0103
  else if allOnes 40 x.len then 0x0201
  else if s.swath.eps.length ≤ x.ep || x.ep = s.ownEp then 0x0529
  else if !s.populated x.localAddr x.len then 0x0202
  else if !swathPlace x.localAddr x.len then 0x052A
  else if op = 2 && touchesSwathBuf x.localAddr x.len then 0x0203
  else 0

def Flight.sw (f : Flight) : SwathProg :=
  match f.prog with
  | .swath x => x
  | _ => ⟨0, 0, 0, none⟩

/-- A transfer that has ended early: no further packet, and its information (R429, R430). -/
def State.endTransfer (s : State) (f : Flight) (code : Nat) : State :=
  let e := (swathF f.words).ep
  let c := s.conn e
  let s1 := if f.started then s.setConn e { c with queue := c.queue.filter (fun d => !(d.user == 1 && d.msg == f.sw.msg)) } else s
  s1.complete f.id code

/-- The transfer of a message on a connection. -/
def State.transferOf (s : State) (e msg : Nat) : Option Flight :=
  s.flights.find? (fun f => f.cls == 7 && f.op != 3 && f.started && (swathF f.words).ep == e && f.sw.msg == msg)

/-- A transfer starts: it takes the next message number of its connection. -/
def State.startTransfer (s : State) (f : Flight) : State :=
  let e := (swathF f.words).ep
  let c := s.conn e
  (s.setConn e { c with txMsg := (c.txMsg + 1) % 2 ^ 32 }).setFlight { f with started := true, prog := Prog.swath ⟨c.txMsg, 0, 0, none⟩ }

/-- SWATH_WRITE: it starts, sends its next packet of up to 4,096 bytes, or completes once all are acknowledged. -/
def State.swathWrite (s : State) (id : Nat) : State :=
  match s.flightOf id 7 1 with
  | none => s
  | some f =>
    let x := swathF f.words
    if !f.fired then s
    else if x.len = 0 then s.complete id 0
    else if !f.started then s.startTransfer f
    else
      let p := f.sw
      let c := s.conn x.ep
      if p.sent < x.len then
        let n := min 4096 (x.len - p.sent)
        let a := x.localAddr + p.sent
        if s.readsPoison a n then s.endTransfer f (poisonCode a)
        else
          match (s.readHint a n x.hint).transmit x.ep ⟨1, p.msg, p.sent, decide (p.sent + n = x.len), s.bytes a n, .write (x.remote + p.sent)⟩ with
          | none => s
          | some t => t.setFlight { f with prog := Prog.swath { p with sent := p.sent + n } }
      else if c.slots.any (fun y => y.data.user == 1 && y.data.msg == p.msg) || c.queue.any (fun y => y.user == 1 && y.msg == p.msg) then s
      else s.complete id 0

/-- SWATH_READ: it starts, sends its request, or completes once every byte is written and the message that brings them has
completed in its turn (R423, R429). -/
def State.swathRead (s : State) (id : Nat) : State :=
  match s.flightOf id 7 2 with
  | none => s
  | some f =>
    let x := swathF f.words
    if !f.fired then s
    else if x.len = 0 then s.complete id 0
    else if !f.started then s.startTransfer f
    else
      let p := f.sw
      if p.sent = 0 then
        match s.transmit x.ep ⟨1, p.msg, 0, true, [], .readReq x.remote x.len⟩ with
        | none => s
        | some t => t.setFlight { f with prog := Prog.swath { p with sent := 1 } }
      else if x.len ≤ p.got && p.data.any (s.conn x.ep).completed then s.complete id 0
      else s

def swathMatches (d : List Word512) (f : Flight) : Bool :=
  f.cls == 7 && f.op != 3 && (f.work &&& fld (dword d 1) 63 32) == (fld (dword d 1) 31 0 &&& fld (dword d 1) 63 32)

/-- SWATH_CANCEL: what it matches stops and completes with SWATH_CANCELLED, and it completes after them. -/
def State.swathCancel (s : State) (id : Nat) : State :=
  match s.flightOf id 7 3 with
  | none => s
  | some f =>
    if !f.fired then s
    else ((s.flights.filter (swathMatches f.words)).foldl (fun t g => t.endTransfer g 0x0528) s).complete id 0

/-! ### Receiving (R421 to R423, R430) -/

/-- A range lies within one inbound window and in populated Tilth, Granary or Steading buffers; a write keeps off the
retransmit buffers (R29). -/
def State.inbound (s : State) (a n : Nat) (write : Bool) : Bool :=
  (List.range 4).any (fun w =>
    let base := s.rf (tpReg (0x130 + 16 * w)) 47 0
    decide (base ≤ a) && decide (a + n ≤ base + s.rf (tpReg (0x138 + 16 * w)) 31 0 * 0x10000)) &&
  !s.asleep && s.populated a n && swathPlace a n && !(write && touchesSwathBuf a n)

/-- A packet passes the checks of R416 and R420: it is of the plan, for this module, from an endpoint of the plan. -/
def State.swAccept (s : State) (rx : SwathRx) (type : Nat) : State × Option (SwHdr × List Byte) :=
  let s1 := if rx.ce then s.bump (tpReg 0x210) else s
  if !(s.link rx.link.val).inService then (s, none)
  else if !rx.frameOk then (s.bump (swathReg 0x118), none)
  else
    match swParse rx.bytes with
    | none => (s1.bump (swathReg 0x118), none)
    | some (h, payload) =>
      if h.tag ≠ s.planTag then (s1.bump (tpReg 0x208), none)
      else if s.swath.eps.length ≤ h.src || h.src = s.ownEp || h.dst ≠ s.ownEp then (s1.bump (swathReg 0x118), none)
      else if h.type ≠ type then (s, none)
      else (s1, some (h, payload))

/-- The connection to an endpoint starts anew (R422): everything held is gone, its transfers complete with
SWATH_PEER_RESET, and its messages in flight are reported lost. -/
def State.resetConn (s : State) (e : Nat) (inc : Option Nat) : State :=
  let s0 := s.reportLost e
  let s1 := s0.setConn e { SwConn.fresh [] with peerInc := inc, watch := (s0.conn e).watch }
  (s1.flights.filter (fun f => f.cls == 7 && f.op != 3 && f.started && (swathF f.words).ep == e)).foldl (fun t f => t.complete f.id 0x052D) s1

/-- Any sign of an endpoint's incarnation (R422). At the first since the load nothing has been sent, so no message is in
flight and what waits goes on waiting. -/
def State.noteInc (s : State) (e inc : Nat) : State :=
  let c := s.conn e
  if c.peerInc = some inc then s
  else if c.peerInc.isNone then s.setConn e { c with peerInc := some inc, txSeq := 0, rxCum := 0, rxAhead := [], slots := [] }
  else s.resetConn e (some inc)

/-- cum_ack moved over what is accepted above it. -/
def advanceCum : Nat → Nat → List Nat → Nat × List Nat
  | 0, c, l => (c, l)
  | n + 1, c, l => if l.contains c then advanceCum n ((c + 1) % 2 ^ 32) (setErase l c) else (c, l)

/-- A sequence number lies in the receiver's window and has not been accepted. -/
def SwConn.takes (c : SwConn) (seq : Nat) : Bool := decide ((seq + 2 ^ 32 - c.rxCum) % 2 ^ 32 ≤ 65535) && !c.rxAhead.contains seq

/-- A NACK for the range of a packet (R430). -/
def State.sendNack (s : State) (e user : Nat) : State :=
  let c := s.conn e
  (s.bump (tpReg 0x200)).swSend (s.outPacket c.rxLink c.rxPath ((s.swHdr e 2 c.rxPath user 0 c.rxCum 0 0).toBytes []) .other)

/-- Data that answers a read of a REFILL (R488). -/
def State.refillData (s : State) (e msg off : Nat) (payload : List Byte) : State :=
  let mine (f : Flight) : Bool := match f.prog with
    | .reco p => p.ep == e && p.msg == some msg
    | _ => false
  match s.flights.find? mine with
  | none => s
  | some f =>
    match f.prog with
    | .reco p =>
      if p.len ≤ off then s
      else if p.keep then
        s.setFlight { f with prog := Prog.reco { p with got := p.got + payload.length, held := payload.take p.len } }
      else
        let bs := payload.take (p.len - off)
        (s.store (p.dst + off) bs).setFlight { f with prog := Prog.reco { p with got := p.got + bs.length } }
    | _ => s

/-- A recovery transfer that the other module has denied (R430, R488): a REFILL ends with its source failed, a BUDDY_SEND
with SWATH_REMOTE_DENIED. A BUDDY_SEND's messages run from its first to its seal record. -/
def State.refillDenied (s : State) (e msg : Nat) : State :=
  { s with flights := s.flights.map (fun (f : Flight) => match f.prog with
      | .reco p =>
        if p.ep == e && p.msg == some msg && f.op == 4 then { f with ending := some 0x0A08 }
        else if p.ep == e && f.op == 2 && p.msg.any (fun m => decide (p.dst ≤ msg) && decide (msg ≤ m)) then { f with ending := some 0x0527 }
        else f
      | _ => f) }

/-- n bytes from a sent to an endpoint as the data of its request (R429). -/
def State.answerRead (s : State) (e user msg a n : Nat) : State :=
  let m := (s.conn e).txMsg
  let s1 := s.setConn e { s.conn e with txMsg := (m + 1) % 2 ^ 32 }
  (List.range (ceilDiv n 4096)).foldl (fun t i =>
    let k := min 4096 (n - 4096 * i)
    t.queueData e ⟨user, m, 4096 * i, decide (4096 * i + k = n), s.bytes (a + 4096 * i) k, .readData msg⟩) s1

/-- A RECOVERY register address. -/
def recReg (off : Nat) : Nat := regAddr .recovery 0 off

/-- The address of an offset in a hosted slot (R480). -/
def State.slotAddr (s : State) (slot off : Nat) : Nat :=
  s.rf (recReg 0x128) 47 0 + slot % 2 * (s.rf (recReg 0x130) 31 0 * 0x10000) + off

/-- hosted_step and hosted_valid: the newest hosted slot that is sealed (R490). -/
def State.showHosted (s : State) : State :=
  let steps : List Nat := s.recov.hosted.filterMap id
  s.setReg (recReg 0x140) (if steps.isEmpty then 0 else steps.foldl max 0 + 2 ^ 32)

/-- What an accepted packet of the recovery user does (R480, R488): only the paired partner's slots are served. A
write unseals its slot until the next seal. -/
def State.buddyUser (s : State) (e : Nat) (h : SwHdr) (payload : List Byte) (b : SwathBody) : State :=
  let paired := s.rf (recReg 0x138) 47 40 == 2 && s.rf (recReg 0x120) 47 32 == e
  let size := s.rf (recReg 0x130) 31 0 * 0x10000
  let put (slot off : Nat) (last : Bool) : State :=
    let a := s.slotAddr slot (off + h.q)
    if !paired || size < off + h.q + payload.length || !s.inbound a payload.length true then s.sendNack e 2
    else ({ (s.store a payload) with recov := { s.recov with
      hosted := s.recov.hosted.set (slot % 2) none
      sealSeen := s.recov.sealSeen.set (slot % 2) last } } : State).showHosted
  match b with
  | .slotWrite slot off => put slot off false
  | .slotSeal slot off => put slot off true
  | .slotRead slot off n =>
    let a := s.slotAddr slot off
    if !paired || size < off + n || !s.populated a n || s.readsPoison a n then s.sendNack e 2 else s.answerRead e 2 h.msg a n
  | .readData msg => s.refillData e msg h.q payload
  | _ => s

/-- What an accepted packet of Swath READ and WRITE does (R429, R430). -/
def State.swathUser (s : State) (e : Nat) (h : SwHdr) (payload : List Byte) (b : SwathBody) : State :=
  match b with
  | .other => s
  | .write a => if s.inbound a payload.length true then s.store a payload else s.sendNack e 1
  | .readReq a n =>
    if !s.inbound a n false || s.readsPoison a n then s.sendNack e 1
    else s.answerRead e 1 h.msg a n
  | .readData msg =>
    match s.transferOf e msg with
    | none => s.refillData e msg h.q payload
    | some f =>
      let x := swathF f.words
      let n := min payload.length (x.len - h.q)
      if f.op ≠ 2 || x.len ≤ h.q then s
      else ((s.store (x.localAddr + h.q) (payload.take n)).writeHint (x.localAddr + h.q) n x.hint).setFlight { f with prog := Prog.swath { f.sw with got := f.sw.got + n, data := some h.msg } }
  | _ => s

/-- DATA_RECEIVED: accepted once, written, handed to its user; a duplicate is discarded and acknowledged again; one
beyond the window is discarded (R421, R423). -/
def State.dataReceived (s : State) (rx : SwathRx) : State :=
  match s.swAccept rx 0 with
  | (s1, none) => s1
  | (s1, some (h, payload)) =>
    let e := h.src
    let c := s1.conn e
    let c1 := { c with rxLink := rx.link.val, rxPath := h.path, ceSeen := c.ceSeen || rx.ce }
    if 4 ≤ h.user || h.q / 2 ^ 48 ≠ 0 then s1.bump (swathReg 0x118)
    else if !c.takes h.seq then
      (if (h.seq + 2 ^ 32 - c.rxCum) % 2 ^ 32 ≤ 65535 || 2 ^ 31 ≤ (h.seq + 2 ^ 32 - c.rxCum) % 2 ^ 32 then
        ((s1.setConn e { c1 with ackDue := c.ackDue + 1 }).bump (tpReg 0x1F8)).sendAck e
       else s1)
    else
      let r := advanceCum (c.rxAhead.length + 1) c.rxCum (setInsert c.rxAhead h.seq)
      let c2 : SwConn := { c1 with rxCum := r.1, rxAhead := r.2, ackDue := c.ackDue + 1, ackFrom := if c.ackDue = 0 then s.now else c.ackFrom
                                   rxMsgs := noteMsg c.rxMsgs h.msg payload.length (if h.last then some (h.q + payload.length) else none) }
      let s2 := s1.setConn e (c2.settleMsgs c2.rxMsgs.length)
      let s3 := if h.user = 1 then s2.swathUser e h payload rx.body else if h.user = 2 then s2.buddyUser e h payload rx.body else s2
      if h.ackNow || 16 ≤ (s3.conn e).ackDue then s3.sendAck e else s3

/-- A sequence number is acknowledged by an ACK. -/
def ackCovers (h : SwHdr) (seq : Nat) : Bool :=
  let d := (seq + 2 ^ 32 - h.msg) % 2 ^ 32
  decide (2 ^ 31 ≤ d) || (decide (1 ≤ d) && decide (d ≤ 64) && bitOf h.q (d - 1))

/-- An endpoint is heard: reachable, and an answer is awaited only while packets are outstanding (R427). -/
def State.heard (s : State) (e : Nat) : State :=
  let c := s.conn e
  let was := c.unreachable
  let s1 := s.setConn e { c with unreachable := s.swath.plan == 3, since := if c.slots.isEmpty then none else some s.now, watch := none }
  if was && s.swath.plan != 3 then (s1.conn e).slots.foldl (fun t x => t.resendSlot e x (min 32 (2 * x.timer))) s1 else s1

/-- ACK_RECEIVED: slots freed, windows moved, a packet with three later ones acknowledged sent again (R424, R425,
R428). -/
def State.ackReceived (s : State) (rx : SwathRx) : State :=
  match s.swAccept rx 1 with
  | (s1, none) => s1
  | (s1, some (h, _)) =>
    let e := h.src
    let c := s1.conn e
    let gone := c.slots.filter (fun x => ackCovers h x.seq)
    let left := (c.slots.filter (fun x => !ackCovers h x.seq)).map (fun (x : TxSlot) => { x with newer := x.newer + gone.countP (fun y => decide (x.sentAt < y.sentAt) || (y.sentAt == x.sentAt && y.seq != x.seq && decide ((y.seq + 2 ^ 32 - x.seq) % 2 ^ 32 < 2 ^ 31))) })
    let c1 := gone.foldl (fun (k : SwConn) x => k.ackPath x.link x.path) { c with slots := left }
    let c2 := if h.ceEcho then c1.halve rx.link.val h.path else c1
    let s2 := (s1.setConn e c2).heard e
    let s3 := ((s2.conn e).slots.filter (fun x => decide (3 ≤ x.newer))).foldl (fun t x => t.resendSlot e x (min 32 (2 * x.timer))) s2
    s3.pumpConn e (c.queue.length + 1)

/-- NACK_RECEIVED: the descriptor whose message was denied stops (R430). A NACK names no message: the command does. -/
def State.nackReceived (s : State) (rx : SwathRx) (msg : Nat) : State :=
  match s.swAccept rx 2 with
  | (s1, none) => s1
  | (s1, some (h, _)) =>
    match s1.transferOf h.src msg with
    | none => s1.refillDenied h.src msg
    | some f => s1.endTransfer f 0x0527

/-- RTO_EXPIRY: an unacknowledged packet's timer expires; it is sent again, its timer doubles up to 32 times, its
path's window halves (R425, R428). -/
def State.rtoExpiry (s : State) (e seq : Nat) : State :=
  match (s.conn e).slots.find? (fun x => x.seq == seq) with
  | none => s
  | some x =>
    if (s.conn e).unreachable || s.now < x.sentAt + almUs (x.timer * s.rf (tpReg 0x120) 15 0) then s
    else (s.setConn e ((s.conn e).halve x.link x.path)).resendSlot e x (min 32 (2 * x.timer))

/-- PROBE_RECEIVED: answered, on its own path; a new incarnation resets the connection (R422). -/
def State.probeReceived (s : State) (rx : SwathRx) : State :=
  match s.swAccept rx 3 with
  | (s1, none) => s1
  | (s1, some (h, _)) =>
    (s1.noteInc h.src h.q).swSend (s1.outPacket rx.link.val h.path ((s1.swHdr h.src 4 h.path 0 0 0 s1.incarnation 0).toBytes []) .other)

/-- PROBE_REPLY_RECEIVED (R422, R427). -/
def State.probeReply (s : State) (rx : SwathRx) : State :=
  match s.swAccept rx 4 with
  | (s1, none) => s1
  | (s1, some (h, _)) =>
    let s2 := (s1.noteInc h.src h.q).heard h.src
    s2.pumpConn h.src ((s2.conn h.src).queue.length + 1)

/-- PROBE_TIMER: an unreachable connection probes every path every 100 µs (R427). -/
def State.probeTimer (s : State) (e : Nat) : State :=
  if e < s.swath.eps.length && s.swath.plan ≠ 0 && (s.conn e).unreachable && decide ((s.conn e).probed + almUs 100 ≤ s.now) then s.probeAll e else s

/-- A required endpoint that has not answered since the discovery limit, one unreach_limit after it, is a missing member
(R436). -/
def State.memberMissing (s : State) (e : Nat) : State :=
  let c := s.conn e
  let ep := s.swath.eps.getD e ⟨[], false, false, 0⟩
  if c.unreachable && c.watch.any (fun t => decide (t + almUs (s.rf (tpReg 0x120) 47 16) ≤ s.now)) then
    let s1 := s.setConn e { c with watch := none }
    if ep.required then s1.raiseErr .transport 0 1 0x0526 0 ep.modno 0 else s1
  else s

/-- PEER_UNREACHABLE: no ACK and no PROBE_REPLY for unreach_limit while one was awaited (R427), decided once and
reported; then what R436 says of the endpoint. -/
def State.peerUnreachable (s : State) (e : Nat) : State :=
  let c := s.conn e
  if s.swath.eps.length ≤ e then s
  else if c.unreachable || !(c.since.any (fun t => decide (t + almUs (s.rf (tpReg 0x120) 47 16) ≤ s.now))) then s.memberMissing e
  else
    (((s.setConn e { c with unreachable := true }).raiseErr .transport 0 2 0x0525 0 0 0).reportLost e).memberMissing e

/-! ### The plan (R432 to R436) -/

def State.planBytes (s : State) (off n : Nat) : List Byte := s.bytes (s.rf (tpReg 0x100) 47 0 + off) n

/-- An endpoint entry read, and whether it has a reserved bit set. -/
def State.planEp (s : State) (i : Nat) : PlanEp × Bool :=
  let b := s.planBytes (4096 + 32 * i) 32
  let n (off k : Nat) : Nat := leNat ((b.drop off).take k)
  (⟨b.take 16, bitOf (n 16 2) 0, bitOf (n 16 2) 1, n 20 4 % 32768⟩,
   bitsOf (n 16 2) 15 2 != 0 || n 18 2 != 0 || bitsOf (n 20 4) 31 15 != 0 || n 24 8 != 0 || (bitOf (n 16 2) 1 && n 20 4 % 32768 != 0))

/-- No value occurs twice. -/
def distinct {α : Type} [BEq α] : List α → Bool
  | [] => true
  | a :: as => !as.contains a && distinct as

/-- Every connection ends; its transfers complete, and its recovery messages are lost, as at a reset of the peer. -/
def State.endConns (s : State) : State :=
  let s0 := (List.range s.swath.eps.length).foldl State.recoPeerLost s
  let s1 := { s0 with swath := { s0.swath with conns := [] } }
  (s1.flights.filter (fun f => f.cls == 7 && f.op != 3 && f.started)).foldl (fun t f => t.complete f.id 0x052D) s1

/-- PLAN_LOAD: none where R433 refuses it. -/
def State.planLoad (s : State) : Option State :=
  let n := s.rf (tpReg 0x108) 31 16
  let own := s.ownEp
  let links := (List.range 64).map (fun l => s.planBytes (64 * l) 64)
  let eps := (List.range n).map (fun i => s.planEp i)
  let mods : List Nat := (eps.filter (fun (e : PlanEp × Bool) => !e.1.storage)).map (fun (e : PlanEp × Bool) => e.1.modno)
  let bad := n = 0 || !s.populated (s.rf (tpReg 0x100) 47 0) (4096 + 32 * n) ||
    (List.range 64).any (fun l =>
      let b := links.getD l []
      let e := (b.getD 0 0).toNat
      decide (3 ≤ e) || b.getD 3 0 != 0 || (e != 0 && !s.linkExists l)) ||
    eps.any (fun e => e.2) || !distinct (eps.map (fun e => e.1.addr)) || !distinct mods ||
    n ≤ own || (eps.getD own (⟨[], false, true, 0⟩, false)).1.storage || (List.range 32).any (fun c => s.enabled .thrCh c)
  if bad then none
  else
    let before := s.service
    let s1 := s.endConns
    let relink (l : Nat) (x : SwLink) : SwLink := if x.state == 5 then { x with state := if s.enabled .swathPort (l / 8) then 4 else 1, inService := false, judged := false, downs := [] }
      else if x.state == 6 then { x with state := 3, inService := false, judged := false } else { x with inService := false, judged := false }
    let s2 := { s1 with swath := { s1.swath with
      plan := 1, loadTime := s.now, loads := s.swath.loads + 1, planLinks := links, eps := eps.map (fun (e : PlanEp × Bool) => e.1),
      conns := eps.map (fun _ => SwConn.fresh []),
      links := (List.range 64).map (fun l => relink l (s.link l)) } }
    some (s2.refreshService before)

/-- PLAN_UNLOAD: every connection ends; NO_PLAN. -/
def State.planUnload (s : State) : State :=
  let before := s.service
  let s1 := s.endConns
  ({ s1 with swath := { s1.swath with plan := 0, planLinks := [], eps := [], links := s1.swath.links.map (fun (x : SwLink) => { x with inService := false, judged := false }) } }).refreshService before

/-- A link is made CUT with its event, EXTRA with its event, or taken into service (R434). -/
def State.cutLink (s : State) (l : Nat) (report : Bool) : State :=
  let before := s.service
  let s1 := (s.setLink l { s.link l with state := 5, inService := false, judged := true }).refreshService before
  if report then s1.raiseErr .swathPort (l / 8) 0 0x0521 0 l 0 else s1
def State.extraLink (s : State) (l : Nat) : State :=
  (s.setLink l { s.link l with state := 6, inService := false, judged := true }).raiseErr .swathPort (l / 8) 1 0x0522 0 l 0
/-- The flow joins a multicast group. -/
def State.joins (s : State) (i : Nat) : Bool := !(s.reg (tpReg (0x300 + 0x40 * i)) == 0 && s.reg (tpReg (0x308 + 0x40 * i)) == 0)

/-- The joins of an enabled stream: one on every link in service, for a multicast group (R437). -/
def State.joinFlow (s : State) (i : Nat) : State :=
  if !s.joins i then s else s.service.foldl (fun t l => t.swSend (.join l i)) s

/-- A link enters service, and enabled streams join their groups on it (R434, R437). -/
def State.serveLink (s : State) (l : Nat) : State :=
  let before := s.service
  let s1 := (s.setLink l { s.link l with inService := true, judged := true }).refreshService before
  ((List.range 8).filter (fun i => (s.live i).on && s.joins i)).foldl (fun t i => t.swSend (.join l i)) s1

/-- A neighbour's record matches a plan entry: subtypes and all 60 ID bytes. -/
def nbrMatches (entry rec : List Byte) : Bool := (entry.drop 1).take 2 == (rec.drop 1).take 2 && (entry.drop 4) == (rec.drop 4)

/-- A link judged by what it has found; `limit` says that no more is waited for (R434, R435). -/
def State.judgeLink (s : State) (l : Nat) (limit : Bool) : State :=
  let x := s.link l
  if s.swath.plan = 0 || x.judged || !s.linkExists l || x.state = 1 && !limit then s
  else
    let entry := s.swath.planLinks.getD l []
    let expect := (entry.getD 0 0).toNat
    let up := x.state == 3
    match expect, x.nbr with
    | 0, some _ => if up then s.extraLink l else s
    | 0, none => s
    | _, some r =>
      if up then (if nbrMatches entry r then s.serveLink l else s.cutLink l true)
      else if limit then s.cutLink l (expect == 1) else s
    | _, none => if limit then s.cutLink l (expect == 1) else s

/-- LLDP_RECEIVED: a neighbour's record (chassis and port ID with their subtypes) on a link that is up. -/
def State.lldpReceived (s : State) (l : Nat) (chassisType portType : Nat) (chassis port : List Byte) : State :=
  let x := s.link l
  if !s.linkExists l || (x.state != 3 && x.state != 6) then s
  else
    let pad (b : List Byte) : List Byte := (b ++ List.replicate 30 0).take 30
    let r : List Byte := [1, BitVec.ofNat 8 chassisType, BitVec.ofNat 8 portType, 0] ++ pad chassis ++ pad port
    (s.setLink l { x with nbr := some r }).judgeLink l false

/-- LLDP_SEND: on every up link, every lldp_interval, with base_mac as its chassis ID and the link's number as its port
ID (R434). -/
def State.lldpSend (s : State) : State :=
  if s.now < s.swath.lldpAt + almMs (1000 * s.rf (swathReg 0x108) 15 0) then s
  else ((List.range 64).filter (fun l => s.linkExists l && ((s.link l).state == 3 || (s.link l).state == 6))).foldl (fun t l => t.swSend (.lldp l (s.rf (swathReg 0x100) 47 0)))
    { s with swath := { s.swath with lldpAt := s.now } }

/-- DISCOVERY_LIMIT: every link not yet classified is judged, the plan comes into force, every endpoint is probed
(R422, R435, R436). -/
def State.discoveryLimit (s : State) : State :=
  if s.swath.plan ≠ 1 || s.now < s.swath.loadTime + almMs (s.rf (tpReg 0x128) 15 0) then s
  else
    let s1 := (List.range 64).foldl (fun t l => t.judgeLink l true) s
    let enough := decide (s1.rf (tpReg 0x108) 6 0 ≤ s1.service.length)
    let s2 := if enough then { s1 with swath := { s1.swath with plan := 2 } } else s1.isolate
    ((List.range s2.swath.eps.length).filter (fun e => e != s2.ownEp)).foldl (fun t e =>
      (t.setConn e { t.conn e with watch := some t.now }).probeAll e) s2

/-- The word at 0x118 of the TRANSPORT page (R441). -/
def State.transportStatus (s : State) : Nat :=
  s.swath.plan + (s.service.length <<< 8) + (s.swath.conns.countP (fun c => c.unreachable) <<< 32)

/-- The module number of an endpoint, and the endpoint of a module number. -/
def State.epOfModule (s : State) (m : Nat) : Option Nat := findIdx? (fun (e : PlanEp) => !e.storage && e.modno == m) s.swath.eps

/-! ### PTP (R438, R442) -/

/-- PTP_MESSAGE: on the slave link in ordinary or boundary mode, on a master link in boundary mode. -/
def State.ptpMessage (s : State) (m : PtpMsg) : State :=
  let mode := s.rf (ptpReg 0x100) 1 0
  let slave := m.link.val == s.rf (ptpReg 0x100) 37 32
  let master := mode == 2 && bitOf (s.reg (ptpReg 0x108)) m.link.val
  if mode = 0 || !(s.link m.link.val).inService || !(slave || master) then s
  else
    let s1 := if m.stamped then s else s.bump (ptpReg 0x138)
    if !slave then s1
    else
      let s2 := if m.sync then s1.bump (ptpReg 0x130) else s1
      let s3 := s2.setRf (ptpReg 0x110) 7 0 (max 1 m.portState.val)
      if m.stamped then ((s3.setReg (ptpReg 0x118) m.offset.toNat).setReg (ptpReg 0x120) m.pathDelay.toNat).setReg (ptpReg 0x128) m.grandmaster.toNat else s3

/-- PTP_SYNC_SEND: in boundary mode, on each link of master_links in service. -/
def State.ptpSyncSend (s : State) : State :=
  if s.rf (ptpReg 0x100) 1 0 ≠ 2 then s
  else (s.service.filter (fun l => bitOf (s.reg (ptpReg 0x108)) l)).foldl (fun t l => t.swSend (.sync l)) s

/-! ### Live flows (R437) -/

/-- A flow's group address is zero (unicast) or multicast. -/
def State.groupOk (s : State) (i : Nat) : Bool :=
  let lo := s.reg (tpReg (0x300 + 0x40 * i))
  let hi := s.reg (tpReg (0x308 + 0x40 * i))
  if bitOf (s.reg (tpReg (0x320 + 0x40 * i))) 17 then (lo == 0 && hi == 0) || hi / 2 ^ 56 == 0xFF
  else lo == 0 || lo % 2 ^ 32 / 2 ^ 28 == 14

/-- The module's own address: that of its entry in the plan, its first byte the most significant. -/
def State.ownAddr (s : State) : Nat := ((s.swath.eps.getD s.ownEp ⟨[], false, true, 0⟩).addr).foldl (fun a b => 256 * a + b.toNat) 0

/-- A packet belongs to a flow (R437): its link is in service, its UDP port is the flow's, it is sent to the flow's group,
or to the module's own address where the group is zero, and it comes from the filtered source where the filter is valid. -/
def State.flowTakes (s : State) (p : LivePkt) : Bool :=
  let base := 0x40 * p.stream.val
  let wide (lo hi : Nat) : Nat := s.reg (tpReg (lo + base)) + (s.reg (tpReg (hi + base)) <<< 64)
  let v6 := bitOf (s.reg (tpReg (0x320 + base))) 17
  let group := wide 0x300 0x308
  (s.link p.link.val).inService && p.port.toNat == s.rf (tpReg (0x320 + base)) 15 0 && p.v6 == v6 &&
  (if group = 0 then p.dest.toNat + (if v6 then 0 else 0xFFFF00000000) == s.ownAddr else p.dest.toNat == group) &&
  (!bitOf (s.reg (tpReg (0x320 + base))) 18 || p.source.toNat == wide 0x310 0x318)

/-- A warm reset: no plan, no connection (R389, R472). -/
def State.resetSwath (s : State) : State := { s with swath := { s.swath with plan := 0, planLinks := [], eps := [], conns := [], links := s.swath.links.map (fun (x : SwLink) => { x with inService := false, judged := false }) } }

end Sys2Proof.Machine
end

