-- ==== Sys2Proof/Machine/Almanac.lean ====
section
/-!
DEFINITION. Almanac time: the counter, its discipline, launch gates, waits, event flags and rebasing
(R443 to R457, R465, R568).
-/
namespace Sys2Proof.Machine

/-- An ALMANAC register address. -/
def almReg (off : Nat) : Nat := regAddr .almanac 0 off

/-- The nominal increment of an FC cycle (R444). -/
def incNominal : Nat := 201053554793325

/-- The furthest the servo takes inc from nominal: 500 ppm (R444). -/
def incSpan : Nat := incNominal * 500 / 1000000

/-- One second and 2^64, in Almanac units. -/
def almSecond : Nat := almNs 1000000000
def almWrap : Nat := 2 ^ 64

/-- The Almanac right after a cold reset or Winter: 0, FREE, nominal (R445). -/
def Almanac.cold (running : Bool) : Almanac := ⟨running, 0, incNominal, .free, 0, [(0, incNominal)], 0, none, 0, none, 0, none⟩

/-- The Almanac moved by a signed number of its units, modulo 2^64: a step of the servo or a rebase. The
times that the servo keeps move with it. -/
def Almanac.shift (a : Almanac) (d : Int) : Almanac :=
  let mv (t : Nat) : Nat := ((t : Int) + d).toNat
  { a with
    acc := BitVec.ofInt 96 ((a.acc.toNat : Int) + d * 2 ^ 32)
    incHistory := a.incHistory.map (fun (e : Nat × Nat) => (mv e.1, e.2))
    lastMeasure := mv a.lastMeasure
    lastPps := a.lastPps.map mv
    ppsUntil := a.ppsUntil.map mv }

/-- inc set: the history keeps what the last 64 s need. -/
def Almanac.setInc (a : Almanac) (now inc : Nat) : Almanac :=
  let old := a.incHistory.filter (fun (e : Nat × Nat) => decide (now - 64 * almSecond < e.1))
  let edge := (a.incHistory.find? (fun (e : Nat × Nat) => decide (e.1 ≤ now - 64 * almSecond))).toList
  { a with inc := inc, incHistory := (now, inc) :: (old ++ edge) }

/-- The weighted sum of inc over the time since `from`, and that time. -/
def incSum (start : Nat) : Nat → List (Nat × Nat) → Nat × Nat
  | _, [] => (0, 0)
  | stop, (t, i) :: rest =>
    let lo := max t start
    let r := incSum start (min stop lo) rest
    (r.1 + i * (stop - lo), r.2 + (stop - lo))

/-- inc's mean over the last 64 s (R446: HOLDOVER freezes it there). -/
def Almanac.meanInc (a : Almanac) (now : Nat) : Nat :=
  let r := incSum (now - 64 * almSecond) now a.incHistory
  if r.2 = 0 then a.inc else r.1 / r.2

/-- ALMANAC_TICK, the counter itself: inc added (R444), and PPS_OUT (R448). -/
def State.almAdvance (s : State) : State :=
  if !s.alm.running then s
  else
    let t0 := s.now
    let s1 := { s with alm := { s.alm with acc := s.alm.acc + BitVec.ofNat 96 s.alm.inc } }
    let t1 := s1.now
    let rises := bitOf (s.reg (almReg 0x108)) 2 && t1 / almSecond != t0 / almSecond
    let pin := if rises then some (t1 + almUs 100)
      else match s.alm.ppsUntil with
        | some u => if t1 < u then some u else none
        | none => none
    { s1 with alm := { s1.alm with ppsUntil := pin } }

/-- One sync interval: of PTP by log_sync, of PPS_IN one second (R446, R442). -/
def State.syncInterval (s : State) : Nat :=
  if s.rf (almReg 0x108) 1 0 = 2 then almSecond
  else
    let l := signedOf 8 (s.rf (ptpReg 0x100) 47 40)
    if 0 ≤ l then almSecond * 2 ^ l.toNat else almSecond / 2 ^ (-l).toNat

/-- A furlong runs or a channel is enabled: ACQUIRE does not step then (R446). -/
def State.stepBlocked (s : State) : Bool := s.furlong.isSome || (List.range 32).any (fun c => s.enabled .thrCh c)

/-- A correction slewed at a rate the spec bounds and does not state: inc becomes a free value within
ppm of nominal (R446; log entry 55). -/
def State.slew (s : State) (ppm : Nat) : State :=
  let span := incNominal * ppm / 1000000
  ({ s with alm := s.alm.setInc s.now (incNominal - span + s.freeBits 64 % (2 * span + 1)) }).drawn

/-- A measurement of a source: the distance from the Almanac to the source, in Almanac units (R446). -/
def State.measure (s : State) (offset : Int) : State :=
  let far := decide (almNs (s.rf (almReg 0x120) 63 32) < offset.natAbs)
  let close := decide (offset.natAbs ≤ almNs (s.rf (almReg 0x120) 31 0))
  let s0 := { s with alm := { s.alm with lastMeasure := s.now } }
  let goto (t : State) (st : AlmState) : State := { t with alm := { t.alm with state := st, good := 0 } }
  let count (t : State) (g : Nat) : State :=
    if 16 ≤ g then goto t .locked else { t with alm := { t.alm with good := g } }
  match s.alm.state with
  | .free => goto s0 .acquire
  | .acquire =>
    let s1 :=
      if !far then s0.slew 500
      else if !s.stepBlocked then { s0 with alm := s0.alm.shift offset }
      else
        ({ s0 with alm := s0.alm.setInc s0.now (if 0 ≤ offset then incNominal + incSpan else incNominal - incSpan) }).raiseErr
          .almanac 0 4 0x0532 0 0 0
    count s1 (if close then s.alm.good + 1 else 0)
  | .locked =>
    if far then (goto (s0.slew 100) .acquire).raiseErr .almanac 0 0 0x0531 0 0 0 else s0.slew 100
  | .holdover =>
    if far then goto s0 .acquire else count s0 (if close then s.alm.good + 1 else s.alm.good)

/-- ALMANAC_MEASUREMENT: a measurement of the PTP slave link, while PTP is the source (R446). -/
def State.ptpMeasurement (s : State) (offset : Int) : State :=
  if s.alm.running && s.rf (almReg 0x108) 1 0 == 1 then s.measure offset else s

/-- The signed distance from the Almanac to the nearest whole second. -/
def nearestSecond (now : Nat) : Int :=
  let r := now % almSecond
  if 2 * r ≤ almSecond then -(r : Int) else (almSecond : Int) - r

/-- PPS_IN_EDGE: an edge closer than 0.5 s to the one before is discarded and counted; any other is a
measurement while PPS_IN is the source (R446). -/
def State.ppsEdge (s : State) : State :=
  if !s.alm.running then s
  else
    let soon := match s.alm.lastPps with
      | some t => decide (2 * (s.now - t) < almSecond)
      | none => false
    let s1 := { s with alm := { s.alm with lastPps := some s.now } }
    if soon then { s1 with alm := { s1.alm with ppsDiscarded := s1.alm.ppsDiscarded + 1 } }
    else if s.rf (almReg 0x108) 1 0 = 2 then s1.measure (nearestSecond s.now) else s1

/-- ALMANAC_HOLDOVER: after 8 sync intervals without a measurement (R446, R447). -/
def State.enterHoldover (s : State) : State :=
  if s.alm.running && s.alm.state == .locked && decide (8 * s.syncInterval ≤ s.now - s.alm.lastMeasure) then
    let s1 := { s with alm := { (s.alm.setInc s.now (s.alm.meanInc s.now)) with state := .holdover, good := 0 } }
    (s1.bump (almReg 0x188)).raiseErr .almanac 0 0 0x0530 0 0 0
  else s

/-- rate_ppb: inc against nominal (R469). -/
def Almanac.ratePpb (a : Almanac) : Int := ((a.inc : Int) - incNominal) * 1000000000 / incNominal

/-! ### Launch gates (R449 to R451, R568) -/

/-- The pages whose launch_gate_enable governs a descriptor (R568). -/
def gatePages (f : Flight) : List (PageKind × Nat) :=
  match f.cls with
  | 0x01 => [(.furrow, (passF f.words).array)]
  | 0x02 => (gleanFields f.words).map (fun x => (.glean, x))
  | 0x03 => [(.harrow, f.unit)]
  | 0x04 => if f.op = 4 then [] else [(.drill, f.dq / 32 * 4 + f.dq % 4)]
  | 0x05 => if f.op = 2 then [] else [(.coulter, 0)]
  | 0x06 => if f.op = 5 then [] else [(.thrCh, (collF f.words).ch)]
  | 0x07 => if f.op = 3 then [] else [(.transport, 0)]
  | 0x0D => [(.recovery, 0)]
  | _ => []

/-- Two descriptors stand in one unit queue, in which the later waits behind the earlier (R449). -/
def sameQueue (f g : Flight) : Bool :=
  f.cls == g.cls &&
  match f.cls with
  | 0x01 =>
    let p := passF f.words
    let q := passF g.words
    p.array == q.array && (p.quadrant == q.quadrant || p.shape != 4 || q.shape != 4)
  | 0x02 => (gleanFields f.words).any (gleanFields g.words).contains
  | 0x03 => f.unit == g.unit
  | 0x04 => (f.op == 1 || f.op == 2) && (g.op == 1 || g.op == 2) && f.dq == g.dq
  | 0x05 => (f.op == 1 && g.op == 1) || (f.op == 3 && g.op == 3)
  | 0x06 => f.op != 5 && g.op != 5 && (collF f.words).ch == (collF g.words).ch
  | 0x0A => true
  | 0x0D => true
  | _ => false

/-- The descriptor stands at the head of its unit queue: those before it have fired, in a Drill queue have started
or ended, and in recovery have completed and this one is taken up (R449, R298, R486). -/
def State.gateHead (s : State) (f : Flight) : Bool :=
  (s.flights.takeWhile (fun g => g.id != f.id)).all (fun g =>
    !sameQueue f g || (f.cls != 0x0D && (g.ending.isSome || (g.fired && (g.cls != 4 || g.op != 1 || g.started))))) &&
  (f.cls != 0x0D || f.started)

/-- The first gate firing of a phase of the running furlong (R468). -/
def Furlong.noteFired (fu : Furlong) (step : Nat) (pre : Bool) (phase t : Nat) : Furlong :=
  { fu with running := fu.running.map (fun (r : StepRun) =>
      if r.step == step && r.pre == pre then
        { r with phases := r.phases.map (fun (p : PhaseRun) =>
            if p.index == phase && p.start.isNone then { p with start := some t } else p) }
      else r) }

/-- LAUNCH_GATE_FIRE: the gate of the descriptor at a queue's head fires once its time, its wait and its
gate enable hold (R449, R450); a late one is counted and reported (R451). -/
def State.fireGate (s : State) (id : Nat) : State :=
  match s.flight id with
  | none => s
  | some f =>
    let launch := hLaunch f.hdr
    let open_ := launch == 0 || (gatePages f).all (fun p => s.gateOn p.1 p.2)
    if f.fired || f.ending.isSome || !s.gateHead f || (launch != 0 && decide (s.now < launch)) ||
        !(f.wait.isNone || f.waitMet) || !open_ || s.steward.warm then s
    else
      let late := launch != 0 && decide (almNs (s.rf (almReg 0x128) 31 0) < s.now - launch)
      let s1 := s.setFlight { f with fired := true, firedAt := s.now, late := late }
      let s2 := match f.origin with
        | .furlong _ phase _ pre => { s1 with furlong := s1.furlong.map (fun (fu : Furlong) => fu.noteFired f.step pre phase s1.now) }
        | .window _ => s1
      if late then (s2.bump (almReg 0x170)).raiseErr .almanac 0 1 0x0533 f.work 0 0 else s2

/-! ### Waits and flags (R452 to R455) -/

/-- The address of wait-mask entry i (R453). -/
def State.waitAddr (s : State) (i : Nat) : Nat := s.rf (almReg 0x140) 47 0 + 16 * i

/-- The slots of a wait-mask entry that are valid. -/
def waitSlots (e : Nat) : List Nat :=
  ((List.range 6).filter (fun j => bitOf e (16 * j + 15))).map (fun j => bitsOf e (16 * j + 9) (16 * j))

/-- The checks of R455 on a descriptor's wait_select; 0 where they pass. -/
def State.waitCheck (s : State) (d : List Word512) : Nat :=
  let w := hWait (dword d 0)
  if !selValid w then 0
  else
    let i := bitsOf w 15 0
    if s.rf (almReg 0x140) 63 48 ≤ i then 0x0110
    else if !s.populated (s.waitAddr i) 16 then 0x0202
    else
      let e := s.num (s.waitAddr i) 16
      if s.poisonedIn (s.waitAddr i) 16 then 0
      else if bitsOf e 127 98 ≠ 0 || (List.range 6).any (fun j => bitsOf e (16 * j + 14) (16 * j + 10) != 0) ||
          (waitSlots e).isEmpty then 0x0110
      else 0

/-- The code with which a descriptor ends at issue because its wait-mask entry is poisoned, 0 for none (R257, R280). -/
def State.waitStop (s : State) (d : List Word512) : Nat :=
  let a := s.waitAddr (bitsOf (hWait (dword d 0)) 15 0)
  if selValid (hWait (dword d 0)) && s.poisonedIn a 16 then poisonCode a else 0

/-- The copy of its wait-mask entry that a descriptor is issued with (R453). -/
def State.waitCopy (s : State) (d : List Word512) : Option WaitCopy :=
  let w := hWait (dword d 0)
  if !selValid w then none
  else
    let e := s.num (s.waitAddr (bitsOf w 15 0)) 16
    some ⟨selDomain w, bitOf e 97, bitOf e 96, waitSlots e⟩

/-- A wait's condition (R453). -/
def State.waitHolds (s : State) (w : WaitCopy) : Bool :=
  if w.any then w.flags.any (s.flagSeen w.domain) else w.flags.all (s.flagSeen w.domain)

/-- One held descriptor's wait examined: met, it clears the entry's flags where it consumes (R454). -/
def State.examineWait (s : State) (id : Nat) : State :=
  match s.flight id with
  | none => s
  | some f =>
    match f.wait with
    | none => s
    | some w =>
      if f.waitMet || !s.waitHolds w then s
      else
        let s1 := s.setFlight { f with waitMet := true }
        if w.consume then w.flags.foldl (fun t n => t.clearFlag w.domain n) s1 else s1

/-- WAIT_MET: one domain's examination of the waits of its held descriptors, in order of issue (R454). -/
def State.examineWaits (s : State) (domain : Nat) : State :=
  if s.steward.warm then s
  else
    ((s.flights.filter (fun f => match f.wait with
      | some w => w.domain == domain && !f.waitMet
      | none => false)).map (fun f => f.id)).foldl (fun t id => t.examineWait id) s

/-- A write of FLAG_CONTROL: one flag set or cleared (R469). -/
def State.flagControl (s : State) (v : Nat) : State :=
  if bitOf v 14 then s.clearFlag (bitsOf v 13 10) (bitsOf v 9 0) else s.setFlag (bitsOf v 13 10) (bitsOf v 9 0)

/-! ### Rebasing (R465) -/

/-- A write of rebase_at is accepted: 0, or not while a furlong runs and not before the epoch would move past it. -/
def State.rebaseOk (s : State) (v : Nat) : Bool :=
  v == 0 || (s.furlong.isNone && decide (s.alm.rebaseSec * 1000000000 ≤ v / 65536))

/-- A write of rebase_at: submits, replaces or cancels a rebase. -/
def State.submitRebase (s : State) (v : Nat) : State :=
  { s with alm := { s.alm with rebase := if v = 0 then none else some (v, s.alm.rebaseSec) } }

/-- A started collective whose repair limit, if it has completed, has not passed (R465). -/
def State.collectiveHolds (s : State) : Bool :=
  s.flights.any (fun f => f.cls == 6 && f.started) || decide (s.now < s.repairHold)

/-- REBASE: when the Almanac reaches rebase_at the epoch rises by n s and the Almanac falls, unless an
unfired timed descriptor or a started collective blocks it. -/
def State.rebase (s : State) : State :=
  match s.alm.rebase with
  | none => s
  | some (t, n) =>
    if !s.alm.running || s.now < t then s
    else
      let s1 := { s with alm := { s.alm with rebase := none } }
      if s.flights.any (fun f => !f.fired && hLaunch f.hdr != 0) ||
          s.windows.any (fun w => w.parsed.any (fun d => hLaunch (dword d.2 0) != 0)) || s.collectiveHolds then
        s1.raiseErr .almanac 0 3 0x0534 0 0 0
      else
        let e := s1.rf (almReg 0x118) 47 0
        ({ s1 with alm := s1.alm.shift (-((n * almSecond : Nat) : Int)) }).setReg (almReg 0x118) ((e + n) % 2 ^ 48)

end Sys2Proof.Machine
end

