-- ==== Sys2Proof/Machine/Furlong.lean ====
section
/-!
DEFINITION. The furlong image, its checks, patches and order of expansion, and the phase ledger
(R457 to R468). Issuing an instance stands in Expand.lean, after the checks of every unit.
-/
namespace Sys2Proof.Machine

/-! ### The image -/

/-- The fields of FURLONG_RUN word 1. -/
structure RunF where
  t0 : Nat
  paced : Bool
  steps : Nat
  first : Nat
  image : Nat
  deriving DecidableEq, Repr

/-- FURLONG_RUN word 1 read. -/
def runF (d : List Word512) : RunF :=
  let w := dword d 1
  ⟨fld w 255 192, bitOf w.toNat 128, fld w 127 96, fld w 95 64, fld w 47 0⟩

/-- The furlong header. -/
structure FurHdr where
  templates : Nat
  phases : Nat
  patches : Nat
  verdict : Nat
  period : Nat
  gap : Nat
  axes : List Nat
  v : Nat
  m : Nat
  deriving DecidableEq, Repr

/-- 8-byte word i of the image at a. -/
def State.imgQ (s : State) (a i : Nat) : Nat := s.num (a + 8 * i) 8

/-- The header of the image at a; axes in order D, P, E, T. -/
def State.furHdr (s : State) (a : Nat) : FurHdr :=
  let q := s.imgQ a
  ⟨bitsOf (q 0) 47 32, bitsOf (q 0) 31 16, bitsOf (q 1) 63 32, bitsOf (q 1) 15 0, q 2, q 3,
   [bitsOf (q 4) 63 48, bitsOf (q 4) 47 32, bitsOf (q 4) 31 16, bitsOf (q 4) 15 0],
   bitsOf (q 5) 31 16, bitsOf (q 5) 15 0⟩

/-- Where the template table starts: each table at a multiple of 64. -/
def FurHdr.templateBase (h : FurHdr) (a : Nat) : Nat := a + 64 + roundUp (32 * h.phases) 64
def FurHdr.patchBase (h : FurHdr) (a : Nat) : Nat := h.templateBase a + 256 * h.templates
def FurHdr.bytes (h : FurHdr) (a : Nat) : Nat := h.patchBase a + 16 * h.patches - a
def FurHdr.axis (h : FurHdr) (i : Nat) : Nat := h.axes.getD i 1

/-- A phase entry: its kind 0 PLAIN, 1 PIPELINE, 2 HOST_SYNC, 3 VERDICT. -/
structure FurPhase where
  count : Nat
  first : Nat
  ledger : Nat
  kind : Nat
  flag : Nat
  fwd : Nat
  deriving DecidableEq, Repr

/-- Phase entry i. -/
def State.furPhase (s : State) (a i : Nat) : FurPhase :=
  let q := s.imgQ (a + 64 + 32 * i)
  ⟨bitsOf (q 0) 63 48, bitsOf (q 0) 47 32, bitsOf (q 0) 31 16, bitsOf (q 0) 7 0, bitsOf (q 1) 25 16, bitsOf (q 1) 15 0⟩

/-- The reserved bits of phase entry i are clear, and so are the fields another kind uses. -/
def State.furPhaseOk (s : State) (a i : Nat) : Bool :=
  let q := s.imgQ (a + 64 + 32 * i)
  let p := s.furPhase a i
  bitsOf (q 0) 15 8 == 0 && bitsOf (q 1) 63 26 == 0 && q 2 == 0 && q 3 == 0 && decide (p.kind ≤ 3) &&
  (p.kind == 2 || p.flag == 0) && (p.kind == 1 || p.fwd == 0) && decide (p.fwd ≤ p.count)

/-- The four words of template i. -/
def State.template (s : State) (a i : Nat) : List Word512 :=
  let b := (s.furHdr a).templateBase a + 256 * i
  (List.range 4).map (fun k => BitVec.ofNat 512 (s.num (b + 64 * k) 64))

/-- A template holds a VERDICT. -/
def isVerdictTmpl (t : List Word512) : Bool := hClass (dword t 0) == 6 && hOpcode (dword t 0) == 4

/-- A patch entry. -/
structure FurPatch where
  tmpl : Nat
  bit : Nat
  width : Nat
  kind : Nat
  arg : Nat
  value : Nat
  deriving DecidableEq, Repr

/-- Patch entry i: its kind 0 STEP_RING, 1 CHUNK, 2 MICRO, 3 TIME, 4 STEPNUM, 5 SCALE, 6 COORD. -/
def State.furPatch (s : State) (a i : Nat) : FurPatch :=
  let b := (s.furHdr a).patchBase a + 16 * i
  let q := s.num b 8
  ⟨bitsOf q 15 0, bitsOf q 26 16, bitsOf q 32 27 + 1, bitsOf q 36 33, bitsOf q 63 48, s.num (b + 8) 8⟩

/-- A patch entry is one that R460 accepts. -/
def State.furPatchOk (s : State) (a i : Nat) : Bool :=
  let h := s.furHdr a
  let p := s.furPatch a i
  let q := s.num (h.patchBase a + 16 * i) 8
  let words := hWords (dword (s.template a p.tmpl) 0)
  bitsOf q 47 37 == 0 && decide (p.kind ≤ 6) && decide (p.tmpl < h.templates) &&
  decide (p.bit + p.width ≤ words * 512) && (p.kind != 3 || p.width == 64) &&
  (match p.kind with
   | 0 => p.arg != 0
   | 5 => true
   | 6 => decide (p.arg ≤ 3)
   | _ => p.arg == 0)

/-- A template's words beyond its flags.words are zero. -/
def templateOk (t : List Word512) : Bool :=
  let n := hWords (dword t 0)
  n == 0 || decide (4 < n) || (t.drop n).all (fun w => w == 0)

/-- Check 5 of R460. -/
def State.furImageOk (s : State) (a : Nat) : Bool :=
  let q := s.imgQ a
  let h := s.furHdr a
  decide (a % 64 = 0) && bitsOf (q 0) 63 48 == 0 && bitsOf (q 0) 15 4 == 0 && bitsOf (q 0) 3 0 == 1 &&
  bitsOf (q 1) 31 16 == 0 && bitsOf (q 5) 63 32 == 0 && q 6 == 0 && q 7 == 0 &&
  decide (1 ≤ h.templates) && decide (1 ≤ h.phases) && decide (h.phases ≤ 4096) && decide (h.patches ≤ 2 ^ 20) &&
  decide (h.verdict < h.phases) && h.axes.all (fun x => decide (1 ≤ x)) &&
  h.axis 0 * h.axis 1 * h.axis 2 * h.axis 3 == s.rf (thrChReg 0 0x108) 15 0 &&
  (List.range h.templates).all (fun i => templateOk (s.template a i)) &&
  (List.range h.phases).all (fun i =>
    let p := s.furPhase a i
    s.furPhaseOk a i && decide (p.first + p.count ≤ h.templates) &&
    (p.kind != 3 || ((List.range p.count).filter (fun k => isVerdictTmpl (s.template a (p.first + k)))).length == 1)) &&
  (List.range h.patches).all (fun i => s.furPatchOk a i)

/-- Check 6 of R460: a PIPELINE phase that R467 cannot order. -/
def State.furPipelineOk (s : State) (a : Nat) : Bool :=
  let h := s.furHdr a
  !(List.range h.phases).any (fun i => (s.furPhase a i).kind == 1) ||
  (h.m % h.axis 1 == 0 && decide (h.v * h.m ≤ 65535))

/-- The checks of FURLONG_RUN and FURLONG_STOP after R68: the consumer, then R460. -/
def State.furlongParse (s : State) (d : List Word512) (consumer : Nat) : Nat :=
  if hOpcode (dword d 0) = 2 then 0
  else
    let r := runF d
    let w := dword d 1
    if consumer ≠ 8 then 0x0116
    else if s.furlong.isSome then 0x0111
    else if fld w 511 256 ≠ 0 || fld w 191 129 ≠ 0 || fld w 63 48 ≠ 0 then 0x0103
    else if r.steps = 2 ^ 32 - 1 || 2 ^ 32 < r.first + r.steps then 0x0201
    else if !s.populated r.image 64 || !s.populated r.image ((s.furHdr r.image).bytes r.image) then 0x0202
    else if !s.furImageOk r.image then 0x0112
    else if !s.furPipelineOk r.image then 0x0113
    else 0

/-! ### Order of expansion (R462, R464, R467) -/

/-- The module's coordinates on the axes D, P, E, T (R466). -/
def coords (h : FurHdr) (n : Nat) : List Nat :=
  let P := max 1 (h.axis 1)
  let E := max 1 (h.axis 2)
  let T := max 1 (h.axis 3)
  [n / (P * E * T), n / (E * T) % P, n / T % E, n % T]

/-- The units of a PIPELINE phase in order of issue (R467): forward or backward, and k. -/
def pipelineOrder (p v m d : Nat) : List (Bool × Nat) :=
  let w := min ((p - d - 1) * 2 + (v - 1) * p) (m * v)
  (List.range w).map (fun k => (true, k)) ++
  (List.range (m * v - w)).flatMap (fun i => [(true, w + i), (false, i)]) ++
  (List.range w).map (fun i => (false, m * v - w + i))

/-- The chunk and the microbatch of unit k (R467). -/
def pipelineUnit (p v : Nat) (forward : Bool) (k : Nat) : Nat × Nat :=
  let c := k / p % v
  (if forward then c else v - 1 - c, k / (p * v) * p + k % p)

/-- A template is left out of a pre-pass: OPTIM, Thresher except the VERDICT (R464), and CLOSE_STEP, for it is the real
pass that closes the step (R237; log entry 57). -/
def leftOut (t : List Word512) : Bool :=
  (hClass (dword t 0) == 0x0A && hOpcode (dword t 0) == 1) || (hClass (dword t 0) == 3 && hOpcode (dword t 0) == 5) || (hClass (dword t 0) == 6 && !isVerdictTmpl t)

/-- The items of one phase, in order of issue, its end last. -/
def State.phaseItems (s : State) (a i : Nat) (pre : Bool) : List ExpandItem :=
  let h := s.furHdr a
  let p := s.furPhase a i
  let keep (l : List (Nat × Nat × Nat)) : List ExpandItem :=
    (l.filter (fun x => !(pre && leftOut (s.template a x.1)))).map (fun x => ExpandItem.inst i x.1 x.2.1 x.2.2)
  let d := (coords h (s.rf (thrReg 0x100) 14 0)).getD 1 0
  (match p.kind with
   | 2 => [ExpandItem.hostSync i p.flag]
   | 1 => keep ((pipelineOrder (h.axis 1) h.v h.m d).flatMap (fun u =>
       let x := pipelineUnit (max 1 (h.axis 1)) (max 1 h.v) u.1 u.2
       ((List.range p.count).filter (fun k => decide (k < p.fwd) == u.1)).map (fun k => (p.first + k, x.1, x.2))))
   | _ => keep ((List.range p.count).map (fun k => (p.first + k, 0, 0)))) ++ [ExpandItem.phaseEnd i]

/-- Every item of a step or a pre-pass, in order. -/
def State.stepItems (s : State) (a : Nat) (pre : Bool) : List ExpandItem :=
  (List.range (s.furHdr a).phases).flatMap (fun i => s.phaseItems a i pre)

/-- The record a step or pre-pass starts with. -/
def State.newRun (s : State) (a step : Nat) (pre : Bool) (origin : Nat) : StepRun :=
  ⟨step, pre, origin, (List.range (s.furHdr a).phases).map (fun i =>
    let p := s.furPhase a i
    ⟨i, p.ledger, p.kind, none, 0, false, false, 0, 0, false, false⟩), false⟩

/-! ### Patches (R458) -/

/-- One patch applied to the 2,048 bits of a template. -/
def State.applyPatch (s : State) (h : FurHdr) (step origin chunk micro : Nat) (pre : Bool) (x : Nat) (p : FurPatch) : Nat :=
  if p.kind = 3 && pre then x
  else
    let f := bitsOf x (p.bit + p.width - 1) p.bit
    let v : Int :=
      match p.kind with
      | 0 => f + step % max 1 p.arg * p.value
      | 1 => f + chunk * p.value
      | 2 => f + micro * p.value
      | 3 => origin + p.value
      | 4 => step
      | 5 => s.scaleFor p.arg pre + signedOf 64 p.value
      | _ => f + (coords h (s.rf (thrReg 0x100) 14 0)).getD p.arg 0 * p.value
    setBits x (p.bit + p.width - 1) p.bit (toTwos p.width v)

/-- The 2,048 bits of a template, word 0 lowest. -/
def packWords : List Word512 → Nat
  | [] => 0
  | w :: ws => w.toNat + packWords ws * 2 ^ 512

/-- The patches of a template, in patch-table order. -/
def State.patchesOf (s : State) (a t : Nat) : List FurPatch :=
  ((List.range (s.furHdr a).patches).map (s.furPatch a)).filter (fun p => p.tmpl == t)

/-- A template patched into an instance: with launch_time 0, and probe 1 in a VERDICT, in a pre-pass (R464);
with flags.halt 0 (R462). -/
def State.instanceOf (s : State) (a t step origin chunk micro : Nat) (pre : Bool) : List Word512 :=
  let h := s.furHdr a
  let tm := s.template a t
  let x := (s.patchesOf a t).foldl (s.applyPatch h step origin chunk micro pre) (packWords tm)
  let y := if pre then setBits x 127 64 0 else x
  let z := if pre && isVerdictTmpl tm then setBits y 534 534 1 else y
  let out := setBits z 29 29 0
  let n := bitsOf out 26 24
  (List.range (if n = 0 || 4 < n then 1 else n)).map (fun i => BitVec.ofNat 512 (out >>> (512 * i)))

/-- A template carries a SCALE patch, and its step must wait for the close of the step before (R459, R226). -/
def State.scaleHeld (s : State) (a t step : Nat) : Bool :=
  (s.patchesOf a t).any (fun p => p.kind == 5) && decide (s.winnow.lastClosed + 1 < step)

/-! ### The phase ledger (R468, R469) -/

/-- The array clock now, in MHz. -/
def State.acMhz (s : State) : Nat := s.power.acMhz

/-- One record written to the ring, the oldest overwritten when it is full. -/
def State.ledgerWrite (s : State) (q0 start stop n : Nat) : State :=
  let len := s.rf (almReg 0x150) 31 0
  if len = 0 then s
  else
    let i := s.rf (almReg 0x150) 63 32
    let rec_ := leBytes 8 q0 ++ leBytes 8 start ++ leBytes 8 stop ++ leBytes 8 (((s.acMhz % 65536) <<< 48) + n % 2 ^ 32)
    let s1 := s.storeAs 0 (s.rf (almReg 0x148) 47 0 + 32 * i) rec_
    let s2 := if len ≤ s.ledgerHeld then s1.bump (almReg 0x180) else { s1 with ledgerHeld := s1.ledgerHeld + 1 }
    s2.setRf (almReg 0x150) 63 32 ((i + 1) % len)

/-- The ring that ledger_addr and ledger_records describe lies wholly in populated Granary, or there is none. -/
def State.ledgerOk (s : State) (addr records : Nat) : Bool :=
  records == 0 || (inGranary addr (32 * records) && s.populated addr (32 * records))

/-- The first word of a record. -/
def ledgerWord (step ident kind : Nat) (pre late stopped refused : Bool) : Nat :=
  ((step % 2 ^ 32) <<< 32) + ((ident % 65536) <<< 16) + ((kind % 256) <<< 8) + (b2n pre <<< 3) + (b2n late <<< 2) +
  (b2n stopped <<< 1) + b2n refused

/-- A step or pre-pass of the running furlong. -/
def Furlong.run? (fu : Furlong) (step : Nat) (pre : Bool) : Option StepRun :=
  fu.running.find? (fun r => r.step == step && r.pre == pre)

/-- Expansion was stopped in a step: it is the last that was begun (R463). -/
def Furlong.stoppedIn (fu : Furlong) (step : Nat) : Bool := fu.stopping && step + 1 == fu.nextStep

/-- PHASE_COMPLETE: when a phase's last descriptor completes, its record is written. A phase with no
descriptor has no start and no end: those are free values. -/
def State.phaseComplete (s : State) (step : Nat) (pre : Bool) (phase : Nat) : State :=
  match s.furlong with
  | none => s
  | some fu =>
    match fu.run? step pre with
    | none => s
    | some r =>
      match r.phases.find? (fun p => p.index == phase) with
      | none => s
      | some p =>
        if !p.expanded || p.outstanding ≠ 0 || p.recorded then s
        else
          let mark : Furlong := { fu with running := fu.running.map (fun (x : StepRun) =>
            if x.step == step && x.pre == pre then
              { x with phases := x.phases.map (fun (y : PhaseRun) => if y.index == phase then { y with recorded := true } else y) }
            else x) }
          let free := s.freeBits 64
          let stop := if p.count = 0 then free else p.lastEnd
          let t := ({ s with furlong := some mark }).ledgerWrite
            (ledgerWord step p.ledgerId p.kind pre p.late (fu.stoppedIn step) p.refused) (p.start.getD free) stop p.count
          if p.start.isNone || p.count = 0 then t.drawn else t

/-- Both passes of a step have been expanded and every phase of them recorded. -/
def Furlong.stepDone (fu : Furlong) (step : Nat) : Bool :=
  fu.running.any (fun r => r.step == step && !r.pre) &&
  (fu.running.filter (fun r => r.step == step)).all (fun r => r.expanded && r.phases.all (fun p => p.recorded))

/-- The furlong ends: FURLONG_RUN completes with 0, or with FURLONG_STOPPED and its event (R463). -/
def State.endFurlong (s : State) (fu : Furlong) : State :=
  let w := (s.flight fu.runId).elim 0 Flight.work
  let s1 := { s with furlong := none }
  if fu.stopping then
    (s1.complete fu.runId 0x0114).raiseErr .almanac 0 2 0x0114 w (fu.stopCode % 65536 + (fu.stopTemplate <<< 32)) 0
  else s1.complete fu.runId 0

/-- The furlong ends where it stands, its image unreadable: what was issued goes on, nothing further is (R22, R257, R280). -/
def State.abortFurlong (s : State) (fu : Furlong) (code : Nat) : State := ({ s with furlong := none } : State).complete fu.runId code

/-- The parts of the image that the expansion of an item reads: the header, the phase table as a step begins, a template
with the patch table. -/
def State.imageReads (s : State) (a : Nat) (step : Bool) (t : Option Nat) : List (Nat × Nat) :=
  let h := s.furHdr a
  (a, 64) :: ((if step then [(a + 64, 32 * h.phases)] else []) ++
    (match t with | some i => [(h.templateBase a + 256 * i, 256), (h.patchBase a, 16 * h.patches)] | none => []))

/-- Nothing of the furlong is left to expand or to complete. -/
def Furlong.over (fu : Furlong) : Bool :=
  fu.current.isNone && fu.running.isEmpty && (fu.stopping || decide (fu.first + fu.steps ≤ fu.nextStep))

/-- The furlong ends if nothing of it is left. -/
def State.furlongCheck (s : State) : State :=
  match s.furlong with
  | some fu => if fu.over then s.endFurlong fu else s
  | none => s

/-- STEP_COMPLETE: every descriptor expanded for the step has completed; its record, of kind 0xFF, is
written (R462, R468). -/
def State.stepComplete (s : State) (step : Nat) : State :=
  match s.furlong with
  | none => s
  | some fu =>
    if !fu.stepDone step then s
    else
      let rs := fu.running.filter (fun r => r.step == step)
      let ps := rs.flatMap (fun r => r.phases)
      let origin := (rs.find? (fun r => !r.pre)).elim 0 (fun r => r.origin)
      let n : Nat := (ps.map (fun p => p.count)).foldl (· + ·) 0
      let stop := if n = 0 then s.freeBits 64 else (ps.map (fun p => p.lastEnd)).foldl max 0
      let t0 := if n = 0 then s.drawn else s
      let t := (t0.ledgerWrite (ledgerWord step 0 0xFF false (ps.any (fun p => p.late)) (fu.stoppedIn step) (ps.any (fun p => p.refused)))
        origin stop n).bump (almReg 0x178)
      ({ t with furlong := some { fu with running := fu.running.filter (fun r => r.step != step) } }).furlongCheck

/-- FURLONG_RUN: its gate fired, the furlong starts; steps of 0 completes with no effect (R460). -/
def State.runFurlong (s : State) (id : Nat) : State :=
  match s.flightOf id 0x08 1 with
  | none => s
  | some f =>
    let r := runF f.words
    if !f.fired || f.started then s
    else if s.furlong.isSome then s.refuseFlight id 0x0111
    else if r.steps = 0 then s.complete id 0
    else if s.rangesPoisoned (s.imageReads r.image true none) then s.complete id (poisonCode r.image)
    else
      { (s.setFlight { f with started := true }) with
        furlong := some ⟨id, f.window, r.image, r.t0, r.paced, r.first, r.steps, r.first, none, [], [],
          s.verdicts.length, false, 0, 0⟩ }

/-- FURLONG_STOP: expansion ends with the current step (R463); with no furlong it has no effect. -/
def State.stopFurlong (s : State) (id : Nat) : State :=
  match s.flightOf id 0x08 2 with
  | none => s
  | some f =>
    if !f.fired then s
    else
      let s1 := { s with furlong := s.furlong.map (fun (fu : Furlong) => if fu.stopping then fu else { fu with stopping := true, stopCode := 0, stopTemplate := 0 }) }
      (s1.complete id 0).furlongCheck

/-- ALMANAC.furlong: 0 idle, 1 running, 2 stopping (R469). -/
def State.furlongCode (s : State) : Nat :=
  match s.furlong with
  | none => 0
  | some fu => if fu.stopping then 2 else 1

end Sys2Proof.Machine
end

