-- ==== Sys2Proof/Machine/Recovery.lean ====
section
/-!
DEFINITION. Recovery: the commit record, buddy copies, stooks, refills and capacity (R471 to R491).
-/
namespace Sys2Proof.Machine

/-! ### The recovery table (R474) -/

/-- An entry of the recovery table. -/
structure RecEnt where
  peer : Nat
  cls : Nat
  len : Nat
  a1 : Nat
  a0 : Nat
  deriving DecidableEq, Repr

def State.recCount (s : State) : Nat := s.rf (recReg 0x108) 12 0
def State.recTable (s : State) : Nat := s.rf (recReg 0x100) 47 0

/-- The 256 bits of entry i. -/
def State.recBits (s : State) (i : Nat) : Nat := s.num (s.recTable + 32 * i) 32

def State.recEnt (s : State) (i : Nat) : RecEnt :=
  let e := s.recBits i
  ⟨bitsOf e 209 194, bitsOf e 193 192, bitsOf e 143 96, bitsOf e 95 48, bitsOf e 47 0⟩

/-- Every entry, in table order. -/
def State.recEnts (s : State) : List RecEnt := (List.range s.recCount).map s.recEnt

/-- The copies of an entry. -/
def RecEnt.ranges (e : RecEnt) : List (Nat × Nat) := (e.a0, e.len) :: (if e.a1 = 0 then [] else [(e.a1, e.len)])

/-- The copy of a set: the only copy where there is one. -/
def RecEnt.copy (e : RecEnt) (set : Nat) : Nat := if e.a1 ≠ 0 && set = 1 then e.a1 else e.a0

/-- A range lies in populated Tilth of one Field, or in populated Granary. -/
def State.recPlace (s : State) (a n : Nat) : Bool := (inTilthAny a n || inGranary a n) && s.populated a n

/-- An entry follows R474, its peer in the plan. -/
def State.recEntOk (s : State) (i : Nat) : Bool :=
  let b := s.recBits i
  let e := s.recEnt i
  bitsOf b 255 210 == 0 && bitsOf b 175 144 == 0 && decide (e.len % 64 = 0) && decide (64 ≤ e.len) && decide (e.len ≤ 2 ^ 40) &&
  e.ranges.all (fun r => s.recPlace r.1 r.2) && (e.a1 == 0 || inGranary e.a0 e.len == inGranary e.a1 e.len) &&
  (e.cls != 1 || (s.swath.plan != 0 && decide (e.peer < s.swath.eps.length) && e.peer != 65535))

/-- The table is one that R486 accepts. -/
def State.recTableOk (s : State) : Bool :=
  decide (1 ≤ s.recCount) && s.populated s.recTable (32 * s.recCount) && (List.range s.recCount).all s.recEntOk &&
  !pairwiseOverlap (s.recEnts.flatMap RecEnt.ranges)

/-- The entries of classes. -/
def State.recOf (s : State) (cls : List Nat) : List RecEnt := s.recEnts.filter (fun e => cls.contains e.cls)

/-- Bytes of entries packed at 64-byte alignment: their lengths are multiples of 64. -/
def entBytes (es : List RecEnt) : Nat := (es.map (fun e => e.len)).foldl (· + ·) 0

/-- Where the data of a stook image starts, and the bytes of the whole image. -/
def State.stookData (s : State) : Nat := roundUp (64 + 32 * s.recCount) 65536
def State.stookTotal (s : State) : Nat := s.stookData + entBytes (s.recOf [2, 3]) + 128

/-! ### Registers of the page -/

def State.committedStep (s : State) : Nat := s.rf (recReg 0x148) 31 0
def State.committedSet (s : State) : Nat := s.rf (recReg 0x148) 33 33
/-- 0 UNPAIRED, 1 PAIRING, 2 PAIRED, 3 REFUSED, 4 LOST. -/
def State.pairState (s : State) : Nat := s.rf (recReg 0x138) 47 40
def State.setPair (s : State) (p : Nat) : State := s.setRf (recReg 0x138) 47 40 p
def State.buddyEp (s : State) : Nat := s.rf (recReg 0x120) 47 32
/-- 0 IDLE, 1 STAGING, 2 DRAINING. -/
def State.stookState (s : State) : Nat := s.rf (recReg 0x158) 55 48
def State.stagingBase (s : State) : Nat := s.rf (recReg 0x110) 47 0
def State.stagingBytes (s : State) : Nat := s.rf (recReg 0x118) 19 0 * 0x200000
/-- 0 EMPTY, 1 WAIT_IMAGE, 2 VERIFYING, 3 PLACING, 4 SEALED, 5 FAILED. -/
def State.fillState (s : State) : Nat := s.rf (recReg 0x178) 55 48
def State.setFill (s : State) (x : Nat) : State := s.setRf (recReg 0x178) 55 48 x

/-- The commit record written in one cycle (R475, R488). -/
def State.setCommit (s : State) (step set : Nat) : State := s.setReg (recReg 0x148) (step % 2 ^ 32 + ((set % 2) <<< 33))

/-! ### Descriptors (R486) -/

/-- The fields of a recovery descriptor. -/
structure RecF where
  step : Nat
  set : Nat
  hdr : Nat
  source : Nat
  rset : Nat
  deriving DecidableEq, Repr

def recF (d : List Word512) : RecF :=
  let w := dword d 1
  ⟨fld w 31 0, fld w 32 32, fld w 95 48, fld w 33 32, fld w 34 34⟩

/-- Every byte of the staging area is populated (R28). -/
def State.stagingMapped (s : State) : Bool := s.stagingBytes == 0 || s.populated s.stagingBase s.stagingBytes

/-- Checks 1 and 2 of R486, the header of a COMMIT, and the staging area of a stook (R28). -/
def State.recParse (s : State) (d : List Word512) : Nat :=
  let op := hOpcode (dword d 0)
  let w := dword d 1
  let r := recF d
  let res := if op = 1 then fld w 511 96 != 0 || fld w 47 33 != 0
    else if op = 4 then fld w 511 35 != 0 || r.source == 3 || (r.rset != 0 && r.source != 2)
    else fld w 511 32 != 0
  if res then 0x0103
  else if allOnes 32 r.step || (op == 1 && allOnes 48 r.hdr) then 0x0201
  else if op = 1 && r.hdr ≠ 0 && !s.populated r.hdr 64 then 0x0202
  else if (op = 3 || (op = 4 && r.source = 0)) && !s.stagingMapped then 0x0202
  else 0

/-- Checks 3 and 4 of R486, made when the Steading's cores come to the descriptor. -/
def State.recCheck (s : State) (f : Flight) : Nat :=
  let r := recF f.words
  if !s.recTableOk then 0x0A01
  else
    match f.op with
    | 1 => if r.step = (s.committedStep + 1) % 2 ^ 32 then 0 else 0x0A0D
    | 2 =>
      if s.pairState ≠ 2 && s.pairState ≠ 4 then 0x0A02
      else if s.pairState = 4 then 0
      else if r.step ≠ s.committedStep then 0x0A0D
      else if s.rf (recReg 0x130) 31 0 * 0x10000 < entBytes (s.recOf [2]) then 0x0A05
      else 0
    | 3 =>
      if !s.stagingMapped then 0x0202
      else if r.step ≠ s.committedStep then 0x0A0D
      else if s.stagingBytes < s.stookTotal then 0x0A05
      else 0
    | _ => if r.source = 0 && !s.stagingMapped then 0x0202 else if r.source = 1 && s.pairState ≠ 2 && s.pairState ≠ 4 then 0x0A0C else 0

/-- A recovery descriptor's progress. -/
def Flight.reco? (f : Flight) : RecProg :=
  match f.prog with
  | .reco p => p
  | _ => ⟨0, false, false, 0, 0, none, 0, 0, 0, false, []⟩

def State.setReco (s : State) (f : Flight) (p : RecProg) : State := s.setFlight { f with prog := Prog.reco p }

/-- The first recovery descriptor not complete. -/
def State.recHead (s : State) : Option Flight := s.flights.find? (fun f => f.cls == 0x0D)

/-- The Steading's cores come to the next recovery descriptor, once those before it have completed: it is refused, or
taken up; a COMMIT taken up is pending (R476). -/
def State.recAdmit : Nat → State → State
  | 0, s => s
  | n + 1, s =>
    match s.recHead with
    | none => s
    | some f =>
      if f.started then s
      else
        let c := s.recCheck f
        if c ≠ 0 then State.recAdmit n (s.refuseFlight f.id c)
        else
          let s1 := s.setFlight { f with started := true }
          if f.op = 1 then s1.setReg (recReg 0x150) ((recF f.words).step + 2 ^ 32) else s1

/-- The next recovery descriptors taken up, as far as they are refused. -/
def State.recNext (s : State) : State := State.recAdmit s.flights.length s

/-- A recovery descriptor completes, and the next is taken up. -/
def State.recDone (s : State) (id info : Nat) : State := (s.complete id info).recNext

/-- A recovery descriptor that runs: taken up, its gate fired. -/
def State.recRuns (s : State) (id op : Nat) : Option Flight :=
  match s.flightOf id 0x0D op with
  | some f => if f.started && f.fired then some f else none
  | none => none

/-- What stops a read of n bytes: poison, or memory that is there no more (R257, R22). -/
def State.recReadStop (s : State) (a n : Nat) : Option Nat :=
  if !s.populated a n then some 0x0511 else if s.readsPoison a n then some (poisonCode a) else none

/-- What stops a reading of the recovery table (R257, R280). -/
def State.recTableStop (s : State) : Option Nat := if s.recCount = 0 then none else s.recReadStop s.recTable (32 * s.recCount)

/-! ### COMMIT (R475, R476) -/

/-- COMMIT: the carry, one entry at a time where the verdict header is non-finite; then the commit cycle. -/
def State.runCommit (s : State) (id : Nat) : State :=
  match s.recRuns id 1 with
  | none => s
  | some f =>
    let r := recF f.words
    let p := f.reco?
    if !p.begun && s.recTableStop.isSome then s.recDone id (s.recTableStop.getD 0)
    else if !p.begun then
      let s1 := if f.late then (s.bump (recReg 0x198)).raiseErr .recovery 0 6 0x0A04 f.work 0 0 else s
      if r.hdr = 0 then s1.setReco f { p with begun := true }
      else
        match s.recReadStop r.hdr 64 with
        | some c => s1.recDone id c
        | none => s1.setReco f { p with begun := true, carry := bitOf (s.num (r.hdr + 16) 8) 0 }
    else
      let two := s.recEnts.filter (fun e => e.a1 != 0)
      match if p.carry then two[p.idx]? else none with
      | some e =>
        let src := e.copy s.committedSet
        let dst := e.copy r.set
        match s.recReadStop src e.len with
        | some c => s.recDone id c
        | none =>
          if !s.populated dst e.len then s.recDone id 0x0511
          else (if src = dst then s else (s.readAs 4 [(src, e.len)]).storeAs 4 dst (s.bytes src e.len)).setReco f { p with idx := p.idx + 1 }
      | none =>
        let s1 := if p.carry then s.bump (recReg 0x1A0) else s
        (((s1.setCommit r.step r.set).setRf (recReg 0x150) 32 32 0).bump (recReg 0x190)).recDone id 0

/-! ### Buddy copies (R479 to R481) -/

/-- A message of the recovery user given to a connection. -/
def State.recMessage (s : State) (e : Nat) (bs : List Byte) (body : Nat → SwathBody) : State :=
  let m := (s.conn e).txMsg
  let s1 := s.setConn e { s.conn e with txMsg := (m + 1) % 2 ^ 32 }
  (List.range (max 1 (ceilDiv bs.length 4096))).foldl (fun t i =>
    let part := (bs.drop (4096 * i)).take 4096
    t.queueData e ⟨2, m, 4096 * i, decide (4096 * i + part.length = bs.length), part, body m⟩) s1

/-- The CRC-32 of the recovery table. -/
def State.recDigest (s : State) : Nat := crc32 (s.bytes s.recTable (32 * s.recCount))

/-- The 64-byte seal record (R480). -/
def State.buddySeal (s : State) (step : Nat) : List Byte :=
  leBytes 8 (step % 2 ^ 32 + (s.committedSet <<< 32)) ++ leBytes 8 (entBytes (s.recOf [2])) ++ leBytes 4 s.recDigest ++
  List.replicate 44 0

/-- Offsets of entries packed one after another. -/
def packOffsets : Nat → List RecEnt → List (Nat × RecEnt)
  | _, [] => []
  | o, e :: es => (o, e) :: packOffsets (o + e.len) es

/-- The partner has been lost (R481). -/
def State.buddyLost (s : State) (f : Flight) : State :=
  ((s.setPair 4).raiseErr .recovery 0 2 0x0A0A f.work 0 0).recDone f.id 0x0A0A

/-- An endpoint cannot be reached: no plan, no such endpoint, or unreachable (R427). -/
def State.epGone (s : State) (e : Nat) : Bool :=
  s.swath.plan == 0 || decide (s.swath.eps.length ≤ e) || (s.conn e).unreachable

/-- BUDDY_SEND: every BUDDY entry's committed copy and then the seal record are sent; it completes when the seal is
acknowledged. -/
def State.runBuddySend (s : State) (id : Nat) : State :=
  match s.recRuns id 2 with
  | none => s
  | some f =>
    let p := f.reco?
    let step := (recF f.words).step
    let ep := s.buddyEp
    if s.pairState = 4 then s.recDone id 0x0A0A
    else if s.epGone ep then s.buddyLost f
    else if !p.begun && s.recTableStop.isSome then s.recDone id (s.recTableStop.getD 0)
    else if !p.begun then
      let es := packOffsets 0 (s.recOf [2])
      match es.findSome? (fun e => s.recReadStop (e.2.copy s.committedSet) e.2.len) with
      | some c => s.recDone id c
      | none =>
        let s1 := es.foldl (fun t e => t.recMessage ep (s.bytes (e.2.copy s.committedSet) e.2.len) (fun _ => .slotWrite (step % 2) e.1)) s
        let m := (s1.conn ep).txMsg
        (s1.recMessage ep (s.buddySeal step) (fun _ => .slotSeal (step % 2) (entBytes (s.recOf [2])))).setReco f
          { p with begun := true, ep := ep, msg := some m, dst := (s.conn ep).txMsg }
    else if f.ending = some 0x0A0A then s.buddyLost f
    else if f.ending.isSome then s.recDone id (f.ending.getD 0)
    else if p.msg.any (s.msgOpen p.ep) then s
    else ((s.setRf (recReg 0x138) 31 0 step).bump (recReg 0x1B8)).recDone id 0

/-- BUDDY_SEAL_RECEIVED: a hosted slot whose seal record has arrived after all its bytes is sealed for its step. -/
def State.buddySealed (s : State) (slot off : Nat) : State :=
  if s.pairState ≠ 2 || !s.recov.sealSeen.getD (slot % 2) false || !(s.conn s.buddyEp).rxAhead.isEmpty then s
  else
    let a := s.slotAddr slot off
    let step := s.num a 8 % 2 ^ 32
    ({ s with recov := { s.recov with hosted := s.recov.hosted.set (slot % 2) (some step), sealSeen := s.recov.sealSeen.set (slot % 2) false } }).showHosted

/-- A pairing message sent: the own power domain, and 0 a request, 1 accepted, 2 refused. -/
def State.sendPairing (s : State) (e answer : Nat) : State :=
  if s.epGone e || (s.swath.eps[e]?).any (fun x => x.storage) then s else s.recMessage e [] (fun _ => .pairing s.steward.pwrDomain answer)

/-- A write of RECOVERY.BUDDY (R479): pair 1 requests pairing, unless it stands or is under way; pair 0 ends it. -/
def State.writePair (s : State) (v : Nat) : State :=
  let s1 := s.setReg (recReg 0x120) v
  if !bitOf v 8 then s1.setPair 0
  else if s.pairState = 1 || s.pairState = 2 then s1
  else (s1.setPair 1).sendPairing s1.buddyEp 0

/-- PAIRING_MESSAGE: from the named partner, with its power domain and 0 a request, 1 accepted, 2 refused. A request is
accepted, and while this module waits it asks again, for its own request may have come before the partner named it. -/
def State.pairingMessage (s : State) (e domain answer : Nat) : State :=
  let p := s.pairState
  if e ≠ s.buddyEp || (p ≠ 1 && p ≠ 2) || s.epGone e then s
  else
    let s1 := s.setRf (recReg 0x138) 39 34 domain
    let refuse (t : State) : State := (t.setPair 3).raiseErr .recovery 0 1 0x0A03 0 0 0
    if answer = 2 then refuse s1
    else if domain = s.steward.pwrDomain && !bitOf (s.reg (recReg 0x120)) 16 then (refuse s1).sendPairing e 2
    else if answer = 0 then (if p = 1 then (s1.sendPairing e 1).sendPairing e 0 else s1.sendPairing e 1)
    else s1.setPair 2

/-! ### Stooks (R482 to R485) -/

/-- The extents of an image: 64 MiB each, the last the seal record alone (R484). -/
def stookExtents (total : Nat) : Nat := ceilDiv (total - 128) 0x4000000 + 1

/-- DRAIN shows extent i of the image being drained; none where `i` is past the last. -/
def State.showExtent (s : State) (i : Nat) : State :=
  let n := stookExtents s.recov.stookBytes
  let body := s.recov.stookBytes - 128
  if n ≤ i then (s.setReg (recReg 0x160) 0).setReg (recReg 0x168) 0
  else if i + 1 = n then (s.setReg (recReg 0x160) (s.stagingBase + body)).setReg (recReg 0x168) (128 + (i <<< 32))
  else (s.setReg (recReg 0x160) (s.stagingBase + i * 0x4000000)).setReg (recReg 0x168) (min 0x4000000 (body - i * 0x4000000) + (i <<< 32))

/-- The header and table copy of a stook image. -/
def State.stookHead (s : State) (step : Nat) : List Byte :=
  leBytes 8 (step % 2 ^ 32 + (s.recov.generation <<< 32)) ++ leBytes 8 s.recov.stookBytes ++
  leBytes 8 (s.recCount % 65536 + (1 <<< 16) + (s.committedSet <<< 32)) ++ List.replicate 40 0 ++ s.bytes s.recTable (32 * s.recCount)

/-- The seal record of the image in the staging area. -/
def State.stookSeal (s : State) (step : Nat) : List Byte :=
  leBytes 8 (step % 2 ^ 32 + (s.recov.generation <<< 32)) ++ leBytes 8 s.recov.stookBytes ++ List.replicate 48 0 ++
  sha512 (s.bytes s.stagingBase (s.recov.stookBytes - 128))

/-- An unsealed stook discarded (R485): what it read as before it. -/
def State.dropStook (s : State) : State := ((s.setRf (recReg 0x158) 55 48 0).setReg (recReg 0x160) 0).setReg (recReg 0x168) 0

/-- STOOK_TAKE: the generation rises, the header and table are staged, then each entry in table order. -/
def State.runStook (s : State) (id : Nat) : State :=
  match s.recRuns id 3 with
  | none => s
  | some f =>
    let p := f.reco?
    let step := (recF f.words).step
    if !p.begun && s.recTableStop.isSome then s.recDone id (s.recTableStop.getD 0)
    else if !p.begun then
      if s.stookState ≠ 0 then (s.bump (recReg 0x1B0)).recDone id 0x0A06
      else
        let s1 := { s with recov := { s.recov with generation := (s.recov.generation + 1) % 2 ^ 32, stookStep := step, stookBytes := s.stookTotal } }
        ((s1.storeAs 4 s1.stagingBase (s1.stookHead step)).setRf (recReg 0x158) 55 48 1).setReco f { p with begun := true }
    else
      match (packOffsets s.stookData (s.recOf [2, 3]))[p.idx]? with
      | none => s
      | some (o, e) =>
        let src := e.copy s.committedSet
        match s.recReadStop src e.len with
        | some c => s.dropStook.recDone id c
        | none => ((s.readAs 4 [(src, e.len)]).storeAs 4 (s.stagingBase + o) (s.bytes src e.len)).setReco f { p with idx := p.idx + 1 }

/-- STOOK_STAGED: every entry staged, the seal record is written, the stook drains, STOOK_TAKE completes. -/
def State.stookStaged (s : State) (id : Nat) : State :=
  match s.recRuns id 3 with
  | none => s
  | some f =>
    let p := f.reco?
    if !p.begun || p.idx < (s.recOf [2, 3]).length then s
    else
      let s1 := s.storeAs 4 (s.stagingBase + s.recov.stookBytes - 128) (s.stookSeal s.recov.stookStep)
      ((s1.setRf (recReg 0x158) 55 48 2).showExtent 0).recDone id 0

/-- The index that DRAIN_ACK accepts now. -/
def State.drainOk (s : State) (i : Nat) : Bool := s.stookState == 2 && s.rf (recReg 0x168) 63 32 == i

/-- DRAIN_ACK: the next extent is shown; the seal record acknowledged seals the stook (R484). -/
def State.drainAck (s : State) (i : Nat) : State :=
  if i + 1 < stookExtents s.recov.stookBytes then s.showExtent (i + 1)
  else
    let s1 := (s.dropStook.setRf (recReg 0x158) 47 32 (s.recov.generation % 65536)).setRf (recReg 0x158) 31 0 s.recov.stookStep
    (s1.bump (recReg 0x1A8)).raise .recovery 0 3 0x0A0E 0

/-! ### REFILL (R488, R489) -/

/-- FILL_READY: the extent count of an image written for a waiting REFILL. -/
def State.fillReady (s : State) (n : Nat) : State :=
  if s.fillState = 1 then ({ s with recov := { s.recov with fillReady := some n } }).setFill 2 else s

/-- A REFILL fails. -/
def State.fillFail (s : State) (f : Flight) (code : Nat) : State :=
  ((s.setFill 5).raiseErr .recovery 0 5 code f.work 0 0).recDone f.id code

/-- A REFILL has restored everything. -/
def State.fillSealed (s : State) (f : Flight) (set : Nat) : State :=
  let step := (recF f.words).step
  (((((s.setCommit step set).setFill 4).setRf (recReg 0x178) 31 0 step).bump (recReg 0x1C0)).raise .recovery 0 4 0x0A0F f.work).recDone f.id 0

/-- The set of the fill is known: it agrees with a commit record of the same step, and tensors may be placed. -/
def State.fillPlace (s : State) (f : Flight) (p : RecProg) (set : Nat) : State :=
  if s.committedStep = (recF f.words).step && s.committedSet ≠ set then s.fillFail f 0x0A10
  else (s.setFill 3).setReco f { p with begun := true, carry := true, set := set, idx := 0, msg := none, keep := false, held := [] }

/-- The image in the staging area is the stook of a step for this table, and its digest holds. -/
def State.stookValid (s : State) (step extents : Nat) : Bool :=
  let b := s.stagingBase
  let total := s.num (b + 8) 8
  let seal_ := b + total - 128
  let size := s.stookTotal
  s.num b 4 == step && total == size && decide (size ≤ s.stagingBytes) && extents == stookExtents total && !s.readsPoison b total &&
  bitsOf (s.num (b + 16) 8) 15 0 == s.recCount && bitsOf (s.num (b + 16) 8) 31 16 == 1 &&
  s.bytes (b + 64) (32 * s.recCount) == s.bytes s.recTable (32 * s.recCount) &&
  s.bytes seal_ 16 == s.bytes b 16 && s.bytes (seal_ + 64) 64 == sha512 (s.bytes b (total - 128))

/-- A read sent to an endpoint for a REFILL: where its data goes, or that they are kept. -/
def State.fillAsk (s : State) (f : Flight) (p : RecProg) (e user : Nat) (b : SwathBody) (dst len : Nat) (keep : Bool) : State :=
  let m := (s.conn e).txMsg
  let s1 := s.setConn e { s.conn e with txMsg := (m + 1) % 2 ^ 32 }
  (s1.queueData e ⟨user, m, 0, true, [], b⟩).setReco f { p with begun := true, ep := e, msg := some m, dst := dst, len := len, got := 0, keep := keep }

/-- The entries a REFILL of a source restores. -/
def State.fillEnts (s : State) (source : Nat) : List RecEnt := s.recOf (if source = 0 then [2, 3] else if source = 1 then [2] else [1])

/-- REFILL from a stook before its tensors are placed. -/
def State.refillStook (s : State) (f : Flight) : State :=
  let p := f.reco?
  if !p.begun then ({ s with recov := { s.recov with fillReady := none } }.setFill 1).setReco f { p with begun := true }
  else
    match s.recov.fillReady with
    | none => s
    | some n =>
      if decide (s.stookTotal ≤ s.stagingBytes) && s.readsPoison s.stagingBase s.stookTotal then
        (s.setFill 0).recDone f.id (poisonCode s.stagingBase)
      else if !s.stookValid (recF f.words).step n then s.fillFail f 0x0A07
      else s.fillPlace f p (bitsOf (s.num (s.stagingBase + 16) 8) 32 32)

/-- REFILL from the buddy before its tensors are placed: the seal record of the partner's slot is read. -/
def State.refillBuddy (s : State) (f : Flight) : State :=
  let p := f.reco?
  let step := (recF f.words).step
  let n := entBytes (s.recOf [2])
  if s.epGone s.buddyEp || f.ending.isSome || s.pairState = 4 then s.fillFail f 0x0A08
  else if !p.begun then s.fillAsk f p s.buddyEp 2 (.slotRead (step % 2) n 64) 0 64 true
  else if p.got < 64 then s
  else if leNat (p.held.take 4) ≠ step || leNat ((p.held.drop 8).take 8) ≠ n || leNat ((p.held.drop 16).take 4) ≠ s.recDigest then
    (s.refuseFlight f.id 0x0A0C).recNext
  else s.fillPlace f p (bitsOf (leNat (p.held.take 8)) 32 32)

/-- One entry of a REFILL placed: copied from the staging area, or read from its source. -/
def State.refillEntry (s : State) (f : Flight) (p : RecProg) (source off : Nat) (e : RecEnt) : State :=
  let dst := e.copy p.set
  let next (t : State) : State := t.setReco f { p with idx := p.idx + 1, msg := none }
  if source = 0 then
    if s.readsPoison (s.stagingBase + s.stookData + off) e.len then (s.setFill 0).recDone f.id (poisonCode s.stagingBase)
    else next (s.storeAs 4 dst (s.bytes (s.stagingBase + s.stookData + off) e.len))
  else
    let ep := if source = 1 then s.buddyEp else e.peer
    if s.epGone ep || f.ending.isSome then s.fillFail f 0x0A08
    else if p.msg.isNone then
      (if source = 1 then s.fillAsk f p ep 2 (.slotRead ((recF f.words).step % 2) off e.len) dst e.len false
       else s.fillAsk f p ep 1 (.readReq (e.copy p.set) e.len) dst e.len false)
    else if p.got < e.len then s
    else next s

/-- REFILL: it waits for its image or its source, then places one entry after another, and ends sealed. -/
def State.runRefill (s : State) (id : Nat) : State :=
  match s.recRuns id 4 with
  | none => s
  | some f =>
    let r := recF f.words
    let p := f.reco?
    if !p.begun && s.recTableStop.isSome then (s.setFill 0).recDone id (s.recTableStop.getD 0)
    else if !p.carry then
      (if r.source = 0 then s.refillStook f else if r.source = 1 then s.refillBuddy f else s.fillPlace f p r.rset)
    else
      match (packOffsets 0 (s.fillEnts r.source))[p.idx]? with
      | some (o, e) => s.refillEntry f p r.source o e
      | none => s.fillSealed f p.set

/-! ### Capacity (R487) -/

/-- The counts of RECOVERY.CAPACITY: links, decoder cores, adder lanes, stacks, Fields, engines, arrays; a unit counts unless
it has failed, so that the counts have their reset values (R490). -/
def State.capacity (s : State) : List Nat :=
  [s.service.length,
   s.coulter.cores.countP (fun c => c != 2),
   8 - popCount 8 s.thr.lanes,
   (List.range 24).countP (fun n => (s.stack n).state != 2 && (s.stack n).state != 3 && !s.lost (n / 3)),
   (List.range 8).countP (fun f => !s.lost f),
   (List.range 16).countP (fun e => (s.engine e).state != 2 && !s.lost (e / 2)),
   (List.range 8).countP (fun f => (s.array f).state != 2 && !s.lost f)]

/-- The register that shows them. -/
def State.capacityWord (s : State) : Nat :=
  let c := s.capacity
  let g (i : Nat) : Nat := c.getD i 0
  g 6 + (g 5 <<< 8) + (g 4 <<< 16) + (g 3 <<< 24) + (g 2 <<< 32) + (g 1 <<< 40) + (g 0 <<< 48)

/-- A count that has fallen since an earlier state raises REC_DEGRADED (R487). -/
def State.noteCapacity (s : State) (before : State) : State :=
  if (s.capacity.zip before.capacity).any (fun p => decide (p.1 < p.2)) then s.raiseErr .recovery 0 0 0x0A0B 0 0 0 else s

/-! ### Resets and register writes (R473, R490) -/

/-- A warm reset: an unsealed stook is discarded and fill_state reads EMPTY (R473, R485). -/
def State.resetRecovery (s : State) : State := s.dropStook.setFill 0

/-- The registers that a stook or a REFILL holds fixed. -/
def State.recBusy (s : State) : Bool := s.stookState != 0 || s.flights.any (fun f => f.cls == 0x0D && f.op == 4 && f.started)

/-- A staging area lies wholly in one Granary Field region, or there is none. -/
def stagingOk (base size : Nat) : Bool :=
  size == 0 || (decide (granaryBase ≤ base) && decide ((base - granaryBase) / granaryRegion < 8) &&
    decide ((base - granaryBase) % granaryRegion + size * 0x200000 ≤ granaryRegion))

end Sys2Proof.Machine
end

