-- ==== Sys2Proof/Machine/Power.lean ====
section
/-!
DEFINITION. Power states, the governor, temperatures, droop and the array frequency (R492 to R512). What
removes state from the module stands in Reset.lean.
-/
namespace Sys2Proof.Machine

def powReg (off : Nat) : Nat := regAddr .power 0 off
def droopReg (f off : Nat) : Nat := regAddr .droop f off

/-! ### Idle (R493) -/

/-- A compute unit holds a descriptor: at its gate, queued or in progress. -/
def State.computeBusy (s : State) : Bool := s.flights.any (fun f => decide (1 ≤ f.cls) && decide (f.cls ≤ 4))

/-- IDLE_ENTRY: after idle_hold without a break. -/
def State.idleEntry (s : State) : State :=
  match s.power.idleSince with
  | some t =>
    if s.power.state == 0 && s.power.goal.isNone && s.power.dies && s.steward.ready && !s.computeBusy &&
        decide (almUs (s.rf (powReg 0x108) 15 0) ≤ s.now - t) then
      { s with power := { s.power with state := 1 } }
    else s
  | none => s

/-- A descriptor issued to a unit, or a data-window access, leaves Idle and restarts the hold. -/
def State.leaveIdle (s : State) : State :=
  { s with power := { s.power with state := if s.power.state = 1 then 0 else s.power.state, idleSince := none } }

/-- The idle time as the Almanac advances. -/
def State.noteIdle (s : State) : State :=
  { s with power := { s.power with idleSince := if s.computeBusy then none else some (s.power.idleSince.getD s.now) } }

/-! ### Targets (R494, R495) -/

/-- The module is quiet enough for Rest or Fallow. -/
def State.quiet (s : State) : Bool :=
  decide (s.power.state ≤ 1) && s.furlong.isNone && s.windows.all (fun w => w.words.isEmpty && w.parsed.isEmpty) && !s.computeBusy &&
  (List.range 32).all (fun c => !s.enabled .thrCh c) && s.coulter.live.all (fun l => !l.on) && s.stookState == 0 &&
  !(s.flights.any (fun f => f.cls == 0x0D && f.op == 4 && f.started))

/-- A write of POWER.target is accepted. -/
def State.targetOk (s : State) (src : Source) (t : Nat) : Bool :=
  if t = 0 then decide (s.power.state ≤ 2) || (s.power.state == 3 && src != .hitch)
  else if t = 2 || t = 3 then s.quiet
  else t == 4 && s.power.state == 3

/-- The effect of an accepted target: the state it asks for is under way. Target 0 in Run or Idle asks for nothing. -/
def State.setTarget (s : State) (t : Nat) : State :=
  let s1 := s.setRf (powReg 0x100) 23 16 t
  if t = 0 && s.power.state ≤ 1 && s.power.goal.isNone then s1
  else { s1 with power := { s1.power with goal := some t } }

/-- FALLOW_HITCH_WAKE: signal on at least 4 Hitch lanes; the link trains while the module exits. -/
def State.hitchWake (s : State) (lanes : Nat) : State :=
  if s.power.state = 3 && s.power.goal.isNone && 4 ≤ popCount 8 lanes then
    ({ s with power := { s.power with goal := some 0 } }).retrainHitch false
  else s

/-- What Rest and Fallow both lose: Glean and the Granary cache; Swath links go DOWN, which is shown and counted on their
pages and does not count toward the limit of R415. -/
def State.sleepLoss (s : State) : State :=
  let before := s.service
  let s1 := { (s.zeroRange (gleanBase 0) (gleanBase 7 + gleanSize - gleanBase 0)) with gleanMeta := [], kept := [] }
  let up := (List.range 64).filter (fun l => s1.linkExists l && ((s1.link l).state == 3 || (s1.link l).state == 6))
  (up.foldl (fun t l => ((t.setLink l { t.link l with state := 4, inService := false, judged := false }).bump (swPortReg (l / 8) 0x188)).raiseErr
    .swath 0 0 0x0520 0 0 0) s1).refreshService before

/-- What Fallow loses besides: every bank but the keep banks, the Granary's contents, the Hitch lanes. -/
def State.fallowLoss (s : State) : State :=
  let s1 := (List.range 8).foldl (fun t f => ((List.range 95).foldl (fun u b => u.zeroBank f b) t).freshRegion f) s
  { s1 with hitch := { s1.hitch with link := .down, attempts := 0, lanes := 0, farVersion := none } }

/-! ### The governor (R496 to R501) -/

/-- The window's measurement is plausible: power in W, input voltage in mV. -/
def reportOk (m : Int) (mv : Nat) : Bool := decide (0 ≤ m) && decide (m ≤ 2500) && decide (46000 ≤ mv) && decide (mv ≤ 56000)

/-- The window is a mismatch window. -/
def State.mismatch (s : State) (m e : Nat) : Bool :=
  decide (max (100 * s.rf (powReg 0x140) 15 0) (s.rf (powReg 0x140) 23 16 * max m e) < 100 * (max m e - min m e))

/-- The mismatch bookkeeping of one window (R497). -/
def State.noteMismatch (s : State) (bad : Bool) : State :=
  let p := s.power
  let persist := s.rf (powReg 0x140) 47 32
  let run := if bad then p.badRun + 1 else 0
  let clean := if bad then 0 else p.cleanRun + 1
  let msEnd := p.tick + 1 == 100
  let msBad := p.msBad || bad
  let badMs := if msEnd then (if msBad then p.badMs + 1 else 0) else p.badMs
  let s1 := { s with power := { p with badRun := run, cleanRun := clean, msBad := msBad && !msEnd, badMs := badMs } }
  let s2 := if bad then s1.bump (powReg 0x160) else s1
  let s3 := if run = 100 then s2.raiseErr .power 0 0 0x0801 0 0 0 else s2
  if s3.rf (powReg 0x130) 0 0 = 0 then
    (if msEnd && persist ≤ badMs then (s3.setRf (powReg 0x130) 0 0 1).raiseErr .power 0 1 0x0802 0 0 0 else s3)
  else if persist * 100 ≤ clean then s3.setRf (powReg 0x130) 0 0 0
  else s3

/-- The sum of a list. -/
def listSum (l : List Nat) : Nat := l.foldl (· + ·) 0

/-- duty is the smaller of pduty and tduty. -/
def State.setDuty (s : State) : State := s.setRf (powReg 0x130) 31 24 (min (s.rf (powReg 0x130) 39 32) (s.rf (powReg 0x130) 47 40))

/-- pduty after one window (R499): the sums of the last 100 and the last 100,000 values of p in 0.01 W. -/
def State.powerDuty (s : State) (sum1 sum2 : Nat) (msEnd : Bool) : Nat :=
  let fast := s.rf (powReg 0x110) 31 16
  let sus := s.rf (powReg 0x110) 15 0
  let d0 := s.rf (powReg 0x130) 39 32
  let d1 := if fast * 10000 < sum1 then max 8 (d0 - 4) else d0
  if !msEnd then d1
  else
    let target := if (sus - 10) * 10000000 ≤ sum2 then sus else fast
    if target * 10000 < sum1 then max 8 (d1 - 1)
    else if sum1 < (target - 20) * 10000 then min 64 (d1 + 1)
    else d1

/-- GOVERNOR_WINDOW: the regulators' report in W and mV and the estimate in W of one 10 µs window. -/
def State.governorWindow (s : State) (report : Int) (mv estimate : Nat) : State :=
  if !s.power.dies || 4 ≤ s.power.state then s
  else
    let ok := reportOk report mv
    let m := if ok then report.toNat else estimate
    let s1 := s.noteMismatch (!ok || s.mismatch m estimate)
    let p := if s1.rf (powReg 0x130) 0 0 = 1 then estimate * 110 else max m estimate * 100
    let ps := (p :: s1.power.ps).take 100000
    let sum1 := listSum (ps.take 100)
    let sum2 := listSum ps
    let msEnd := s1.power.tick + 1 == 100
    let d := s1.powerDuty sum1 sum2 msEnd
    let e := s1.power.energyRest + p
    let s2 := { s1 with power := { s1.power with
      ps := ps, tick := if msEnd then 0 else s1.power.tick + 1, thermDue := s1.power.thermDue || msEnd, energyRest := e % 10000 } }
    let s3 := s2.setReg (powReg 0x138) (m % 65536 + ((estimate % 65536) <<< 16) + ((sum1 / 10000 % 65536) <<< 32) + ((sum2 / 10000000 % 65536) <<< 48))
    ((s3.bumpBy (powReg 0x150) (e / 10000)).setRf (powReg 0x130) 39 32 d).setDuty

/-! ### Temperatures (R502 to R504) -/

def State.junction (s : State) (die k : Nat) : Junction := s.power.sensors.getD (die * 8 + k) ⟨none, 0, false, 0⟩

/-- A sensor's reading as the module uses it. -/
def State.junctionTemp (s : State) (j : Junction) : Option Int :=
  if j.suspect then some ((s.rf (powReg 0x148) 7 0 : Int) + 5) else j.last

/-- The larger of two readings. -/
def maxInt : Option Int → Option Int → Option Int
  | none, b => b
  | a, none => a
  | some a, some b => some (max a b)

/-- The hottest of readings. -/
def hottest (l : List (Option Int)) : Option Int := l.foldl maxInt none

/-- A die's temperature. -/
def State.dieTemp (s : State) (die : Nat) : Option Int := hottest ((List.range 8).map (fun k => s.junctionTemp (s.junction die k)))

/-- A sensor of a Field is suspect. -/
def State.dieSuspect (s : State) (die : Nat) : Bool := (List.range 8).any (fun k => (s.junction die k).suspect)

/-- One reading taken: plausible or discarded; suspect after three implausible ones in succession. Two plausible
readings in succession at or above trip_c are a thermal trip, which Reset.lean acts on. -/
def State.sensorRead (s : State) (die k : Nat) (t : Int) : State :=
  let j := s.junction die k
  let set (x : State) (y : Junction) : State := { x with power := { x.power with sensors := x.power.sensors.set (die * 8 + k) y } }
  let ok := decide (-40 ≤ t) && decide (t ≤ 150) && j.last.all (fun l => decide (t - l ≤ 15) && decide (l - t ≤ 15))
  if ok then
    let s1 := set s ⟨some t, 0, false, if 120 ≤ t then j.trips + 1 else 0⟩
    if die < 8 then s1.setRf (droopReg die 0x108) 55 48 (max (s.rf (droopReg die 0x108) 55 48) t.toNat) else s1
  else
    let s1 := if die < 8 then s.bump (droopReg die 0x140) else s
    let n := j.bad + 1
    let s2 := set s1 { j with bad := n, suspect := j.suspect || decide (3 ≤ n) }
    if 3 ≤ n && !j.suspect then
      (if die < 8 then s2.raiseErr .droop die 1 0x0805 0 0 0 else s2.raiseErr .power 0 6 0x0805 0 0 0)
    else s2

/-- The hottest die, and how far the module is over its thermal limits (R503). -/
def State.hottestDie (s : State) : Option Int := hottest ((List.range 9).map s.dieTemp)

def State.thermalOver (s : State) : Option Int :=
  hottest ((s.hottestDie.map (fun t => t - (s.rf (powReg 0x148) 7 0 : Int))) ::
    ((List.range 24).filter (fun n => (s.stack n).state != 3 && ((s.stack n).lastTemp.isSome || s.rf (granaryReg n 0x110) 8 8 = 1))).map (fun n =>
      some (s.stackTemp n - (s.rf (granaryReg n 0x110) 39 32 : Int))))

/-- A die at or above hot_c. -/
def State.isHot (s : State) : Bool := s.hottestDie.any (fun t => decide (110 ≤ t))

/-- THERMAL_STEP: once per millisecond, after the governor's (R499, R503). With no reading nothing is over a limit. -/
def State.thermalStep (s : State) : State :=
  if !s.power.thermDue then s
  else
    let excess := s.thermalOver.getD (-3)
    let td := s.rf (powReg 0x130) 47 40
    let hot := s.isHot
    let thr := decide (0 ≤ excess)
    let new := if hot then 8 else if thr then max 8 (td - 1) else if excess ≤ -3 then min 64 (td + 1) else td
    let s1 := { s with power := { s.power with thermDue := false, hotSeen := hot, throttleSeen := thr && (s.power.throttleSeen || !hot) } }
    let s2 := (s1.setRf (powReg 0x130) 47 40 new).setDuty
    if hot then (if s.power.hotSeen then s2 else s2.raiseErr .power 0 3 0x0804 0 0 0)
    else if thr && !s.power.throttleSeen then s2.raiseErr .power 0 2 0x0803 0 0 0
    else s2

/-! ### Droop (R505) -/

def State.droopSt (s : State) (f : Nat) : DroopSt := s.power.droop.getD f ⟨false, 0, false, []⟩
def State.setDroop (s : State) (f : Nat) (d : DroopSt) : State := { s with power := { s.power with droop := s.power.droop.set f d } }

/-- A Field's voltage table entry for a frequency (R507). -/
def State.tableMv (s : State) (f mhz : Nat) : Nat := if mhz < 300 then 0 else s.steward.factory.voltage.getD (f * 17 + (mhz - 300) / 25) 0

/-- table_mv, the voltage that a Field's detectors compare with: that of its current frequency (R505, R511). -/
def State.fieldMv (s : State) (f : Nat) : Nat := s.tableMv f (s.droopSt f).mhz

/-- DROOP_TRIP: a detector's reading below its trip level. -/
def State.droopTrip (s : State) (f mv : Nat) : State :=
  if !s.power.dies || s.lost f || s.fieldMv f ≤ mv + s.rf (droopReg f 0x100) 7 0 then s
  else (s.setDroop f { s.droopSt f with stretching := true }).bump (droopReg f 0x120)

/-- DROOP_STRETCH_END: the stretch's AC and functional FC cycles; over 1% of the AC cycles of 1 s is reported. -/
def State.stretchEnd (s : State) (f ac fc : Nat) : State :=
  let d := s.droopSt f
  if !d.stretching || ac < s.rf (droopReg f 0x100) 23 16 then s
  else
    let recent := ((s.now, ac) :: d.recent).filter (fun (x : Nat × Nat) => decide (s.now < x.1 + almSecond))
    let s1 := ((s.setDroop f { d with stretching := false, recent := recent }).bumpBy (droopReg f 0x128) ac).bumpBy (droopReg f 0x130) fc
    if d.mhz * 10000 < listSum (recent.map (fun (x : Nat × Nat) => x.2)) then s1.raiseErr .droop f 0 0x0809 0 0 0 else s1

/-! ### The array frequency (R507 to R509) -/

/-- ac_max: the highest frequency that every Field not lost supports. -/
def State.acMax (s : State) : Nat :=
  match ((List.range 17).reverse).find? (fun i => (List.range 8).all (fun f => s.lost f || s.tableMv f (300 + 25 * i) != 0)) with
  | some i => 300 + 25 * i
  | none => 0

/-- next_mhz as it reads: ac_max at reset until written. -/
def State.nextMhz (s : State) : Nat :=
  let m := s.rf (powReg 0x120) 15 0
  if m = 0 then s.power.acReset else m

/-- A frequency lies in next_mhz's range. -/
def State.mhzOk (s : State) (m : Nat) : Bool := decide (m % 25 = 0) && decide (300 ≤ m) && decide (m ≤ s.acMax)

/-- No change is pending less than 100 µs from now. -/
def State.changeOpen (s : State) : Bool := s.power.change.all (fun c => decide (s.now + almUs 100 ≤ c.1))

/-- A write of change_at is accepted. -/
def State.changeOk (s : State) (t : Nat) : Bool := s.changeOpen && (t == 0 || (decide (s.now + almUs 100 ≤ t) && s.mhzOk s.nextMhz))

/-- A write of change_at: it submits the change, or cancels it with 0. -/
def State.submitChange (s : State) (t : Nat) : State :=
  let s1 := s.setReg (powReg 0x128) t
  { s1 with power := { s1.power with
      change := if t = 0 then none else some (t, s.nextMhz)
      droop := s1.power.droop.map (fun (d : DroopSt) => { d with raised := false }) } }

/-- AC_VOLTAGE_RAMP: for a rising change, from change_at − 80 µs. -/
def State.voltageRamp (s : State) : State :=
  match s.power.change with
  | some (t, m) =>
    if t ≤ s.now + almUs 80 then
      { s with power := { s.power with droop := s.power.droop.map (fun (d : DroopSt) => { d with raised := d.raised || decide (d.mhz < m) }) } }
    else s
  | none => s

/-- AC_CHANGE: the frequency takes effect on a Field at an unstretched AC boundary at or after change_at; on the last
Field the change is made (R508, R509). -/
def State.acChange (s : State) (f : Nat) : State :=
  match s.power.change with
  | none => s
  | some (t, m) =>
    let d := s.droopSt f
    if s.now < t || d.stretching || s.lost f then s
    else
      let s1 := s.setDroop f { d with mhz := m, raised := false }
      if (List.range 8).all (fun g => s1.lost g || (s1.droopSt g).mhz == m) then
        (({ s1 with power := { s1.power with change := none, acMhz := m } }).bump (powReg 0x170)).raise .power 0 4 0x0806 m
      else s1

end Sys2Proof.Machine
end

