-- ==== Sys2Proof/Machine/Tithe.lean ====
section
/-!
DEFINITION. The Tithe energy meter, its UART and its mirror into Steward (R513 to R527).
-/
namespace Sys2Proof.Machine

def titheReg (off : Nat) : Nat := regAddr .titheRo 0 off

def State.setTithe (s : State) (t : TitheSt) : State := { s with tithe := t }

/-! ### Samples and checks -/

/-- TITHE_SAMPLE: one sample of input voltage and current, every 10 µs; its energy joins the open interval. -/
def State.titheSample (s : State) (mv ma : Nat) : State :=
  let t := s.tithe
  if !t.powered then s
  else
    let uw := mv * ma
    let e := t.rest + uw
    let samples := ((mv, uw) :: t.samples).take 1000
    let taken := t.taken + 1
    let ms := listSum ((samples.take 100).map (fun x => x.2)) / 100000
    s.setTithe { t with
      time := t.time + 10
      energy := t.energy + e / 100000
      odometer := t.odometer + e / 100000
      rest := e % 100000
      peak := if 100 ≤ taken then max t.peak ms else t.peak
      vMax := max t.vMax mv
      vMin := if t.taken = 0 then mv else min t.vMin mv
      taken := taken
      samples := samples }

/-- An entry of the tamper log (R523). -/
def TitheSt.log (t : TitheSt) (kind : Nat) : TitheSt :=
  { t with tamperLog := ((t.time, kind, t.seq % 2 ^ 32) :: t.tamperLog).take 64, tamperCount := t.tamperCount + 1 }

/-- TITHE_SELF_CHECK: the reference's reading deviates by more than 0.2%, or does not (R516). -/
def State.titheCheck (s : State) (deviates : Bool) : State :=
  let t := s.tithe
  if !t.powered then s
  else if deviates then s.setTithe ({ t with senseFault := true, senseFlag := true }.log 5)
  else s.setTithe { t with senseFault := false }

/-! ### Records (R518 to R521) -/

/-- The interval has reached 3,600 s. -/
def TitheSt.rolls (t : TitheSt) : Bool := decide (t.openAt + 3600000000 ≤ t.time)

/-- Bytes 0 to 127 of a record or snapshot: its close reason, flag bits [11:8], kind and nonce. -/
def State.titheBody (s : State) (reason flags kind nonce : Nat) : List Byte :=
  let t := s.tithe
  leBytes 8 t.seq ++ leBytes 8 t.tag ++ leBytes 8 t.openAt ++ leBytes 8 t.time ++ leBytes 8 t.energy ++ leBytes 8 t.odometer ++
  leBytes 4 t.peak ++ leBytes 4 (t.vMin / 10 % 65536 + ((t.vMax / 10 % 65536) <<< 16)) ++ leBytes 4 t.sealCount ++ leBytes 4 t.tamperCount ++
  leBytes 8 (kind + (reason <<< 4) + (flags <<< 8) + (b2n t.senseFlag <<< 12) + (b2n t.ckptFlag <<< 13)) ++
  leBytes 8 t.fwVersion ++ leBytes 8 0 ++ leBytes 8 nonce ++ (s.steward.factory.titheKeyId ++ List.replicate 32 0).take 32

/-- A record whole, signed. -/
def State.titheRecord (s : State) (reason flags kind nonce : Nat) : List Byte :=
  let b := s.titheBody reason flags kind nonce
  b ++ (Config.titheSignature b ++ List.replicate 132 0).take 132 ++ List.replicate 4 0

/-- A fresh interval from now on, under a tag. -/
def TitheSt.reopen (t : TitheSt) (tag : Nat) : TitheSt :=
  { t with tag := tag, openAt := t.time, energy := 0, peak := 0, vMax := 0, vMin := 0, taken := 0, senseFlag := t.senseFault, ckptFlag := false }

/-- The open interval as flash keeps it (R519). -/
def TitheSt.checkpoint (t : TitheSt) : TitheSt :=
  { t with ckpt := [t.time, t.openAt, t.energy, t.odometer, t.peak, t.vMax, t.vMin, t.taken] }

/-- The open interval closes with its causes: the record is written, sent to the mirror, and the next interval opens;
the flash write of the record keeps Tithe time and the interval's start, so neither repeats (R517, R520).
Causes: POWER_LOSS, TAMPER, a mark with its tag and nonce; ROLLOVER follows from the time. -/
def State.titheClose (s : State) (loss tamper : Bool) (mark : Option (Nat × Nat)) : State :=
  let t := s.tithe
  let flags := b2n loss + (b2n tamper <<< 1) + (b2n mark.isSome <<< 2) + (b2n t.rolls <<< 3)
  let reason := if loss then 4 else if tamper then 3 else if mark.isSome then 2 else 1
  let rec_ := s.titheRecord reason flags 1 (mark.elim 0 (fun m => m.2))
  s.setTithe (({ t with
    seq := t.seq + 1
    records := ((t.seq, rec_) :: t.records).take 65536
    recQueue := t.recQueue ++ [(t.seq, rec_)] }).reopen (mark.elim t.tag (fun m => m.1))).checkpoint

/-- TITHE_ROLLOVER. -/
def State.titheRollover (s : State) : State := if s.tithe.powered && s.tithe.rolls then s.titheClose false false none else s

/-- TITHE_TAMPER: a tamper event of a kind; a mark in the same cycle still sets the tag and the nonce. Kind 5 closes
nothing. -/
def State.titheTamper (s : State) (kind : Nat) (mark : Option (Nat × Nat)) : State :=
  let t := s.tithe
  if !t.powered then s
  else
    let t1 := ({ t with sealCount := if kind = 1 then t.sealCount + 1 else t.sealCount }).log kind
    let s1 := s.setTithe t1
    if kind = 5 then s1 else s1.titheClose false true mark

/-- TITHE_POWER_LOSS: main input below 40 V for 100 µs; the closure reaches flash, or does not (R519). -/
def State.titheLoss (s : State) (written : Bool) (tamper : Option Nat) (mark : Option (Nat × Nat)) : State :=
  if !s.tithe.powered then s
  else
    let s1 := match tamper with
      | some k => s.setTithe (({ s.tithe with sealCount := if k = 1 then s.tithe.sealCount + 1 else s.tithe.sealCount }).log k)
      | none => s
    let s2 := if written then s1.titheClose true tamper.isSome mark else s1
    s2.setTithe { s2.tithe with powered := false, lossWritten := written, samples := [], snapWords := [], recWords := [], recQueue := [] }

/-- TITHE_CHECKPOINT: the open interval as it stands, every 1 s (R519). -/
def State.titheCheckpoint (s : State) : State :=
  let t := s.tithe
  if !t.powered then s else s.setTithe t.checkpoint

/-- TITHE_POWER_RETURN: a new interval under the former tag; where the closure was not written, the interval goes on from
the last checkpoint and its record carries CHECKPOINT_LOSS. Tithe time goes on from the last flash write, an entry of the
tamper log included (R517). -/
def State.titheReturn (s : State) : State :=
  let t := s.tithe
  if t.powered then s
  else
    let u := { t with powered := true, rest := 0, sendUntil := 0 }
    if t.lossWritten then s.setTithe (u.reopen t.tag)
    else
      let c (i : Nat) : Nat := t.ckpt.getD i 0
      if t.ckpt.isEmpty then s.setTithe { u.reopen t.tag with ckptFlag := true }
      else s.setTithe { u with time := max (c 0) (t.tamperLog.head?.elim 0 (fun e => e.1)), openAt := c 1, energy := c 2, odometer := c 3, peak := c 4, vMax := c 5, vMin := c 6, taken := c 7, ckptFlag := true }

/-! ### The UART (R524) -/

/-- A response on the line: command, status and payload. -/
def State.uartSend (s : State) (cmd status : Nat) (payload : List Byte) : State :=
  let body := leBytes 1 cmd ++ leBytes 1 status ++ leBytes 2 payload.length ++ payload
  let frame := leBytes 1 0x5A ++ body ++ leBytes 2 (crc16 0xFFFF body)
  s.setTithe { s.tithe with out := frame :: s.tithe.out, sendUntil := s.tithe.time + ceilDiv (frame.length * 10000000) 115200 }

/-- A frame is taken: the Tithe is powered, sends nothing, and the CRC holds. -/
def State.uartTakes (s : State) (cmd : Nat) (args : List Byte) (crc : Nat) : Bool :=
  s.tithe.powered && decide (s.tithe.sendUntil ≤ s.tithe.time) && crc16 0xFFFF (leBytes 1 cmd ++ leBytes 2 args.length ++ args) == crc

/-- IDENT. -/
def State.uartIdent (s : State) (args : List Byte) (crc : Nat) : State :=
  if !s.uartTakes 1 args crc then s
  else if !args.isEmpty then s.uartSend 1 3 []
  else s.uartSend 1 0 (Config.titheCert.take 1024)

/-- The power over the last 10 ms in mW, and the voltage in 10 mV. -/
def TitheSt.recent (t : TitheSt) : Nat × Nat :=
  let n := max 1 t.samples.length
  (listSum (t.samples.map (fun x => x.2)) / n / 1000, listSum (t.samples.map (fun x => x.1)) / n / 10)

/-- The status registers at 0x108 to 0x140 as the Tithe knows them; mirror_almanac as Steward holds it. -/
def State.titheStatus (s : State) : List (Nat × Nat) :=
  let t := s.tithe
  [(0x108, t.time), (0x110, t.odometer), (0x118, t.energy), (0x120, t.tag), (0x128, t.seq - 1),
   (0x130, t.sealCount % 2 ^ 32 + ((t.tamperCount % 2 ^ 32) <<< 32)), (0x138, s.reg (titheReg 0x138)),
   (0x140, t.recent.1 % 2 ^ 32 + ((t.recent.2 % 65536) <<< 32))]

/-- STATUS. -/
def State.uartStatus (s : State) (args : List Byte) (crc : Nat) : State :=
  if !s.uartTakes 2 args crc then s
  else if !args.isEmpty then s.uartSend 2 3 []
  else s.uartSend 2 0 (s.titheStatus.flatMap (fun x => leBytes 8 x.2))

/-- READ_RECORD. -/
def State.uartRecord (s : State) (args : List Byte) (crc : Nat) : State :=
  if !s.uartTakes 3 args crc then s
  else if args.length ≠ 8 then s.uartSend 3 3 []
  else
    match s.tithe.records.find? (fun r => r.1 == leNat args) with
    | some r => s.uartSend 3 0 r.2
    | none => s.uartSend 3 4 []

/-- READ_NOW: a snapshot of the open interval. -/
def State.uartNow (s : State) (args : List Byte) (crc : Nat) : State :=
  if !s.uartTakes 4 args crc then s
  else if args.length ≠ 8 then s.uartSend 4 3 []
  else s.uartSend 4 0 (s.titheRecord 0 0 2 (leNat args))

/-- JOB_MARK: the interval closes, the next takes the new tag. -/
def State.uartMark (s : State) (args : List Byte) (crc : Nat) : State :=
  if !s.uartTakes 5 args crc then s
  else if args.length ≠ 16 then s.uartSend 5 3 []
  else
    let s1 := s.titheClose false false (some (leNat (args.take 8), leNat (args.drop 8)))
    s1.uartSend 5 0 ((s1.tithe.records.head?).elim [] (fun r => r.2))

/-- TAMPER_LOG. -/
def State.uartTamper (s : State) (args : List Byte) (crc : Nat) : State :=
  if !s.uartTakes 6 args crc then s
  else if args.length ≠ 1 || 64 ≤ leNat args then s.uartSend 6 3 []
  else
    match s.tithe.tamperLog[leNat args]? with
    | some e => s.uartSend 6 0 (leBytes 8 e.1 ++ leBytes 4 (e.2.1 % 256) ++ leBytes 4 e.2.2)
    | none => s.uartSend 6 4 []

/-! ### The mirror (R525, R526) -/

/-- A mirror word arrives in Steward. -/
def State.mirrorWord (s : State) (off v : Nat) : State :=
  let s1 := s.setReg (titheReg off) v
  { s1 with tithe := { s1.tithe with lastWord := s1.now } }

/-- A status register's word arrives: a tamper or a sense fault it newly shows is an event. -/
def State.snapWord (s : State) (off v : Nat) : State :=
  let old := s.reg (titheReg off)
  let s1 := s.mirrorWord off v
  if off = 0x100 && bitOf v 0 && !bitOf old 0 then s1.raiseErr .titheRo 0 2 0x0911 0 0 0
  else if off = 0x130 && bitsOf old 63 32 < bitsOf v 63 32 then s1.raiseErr .titheRo 0 1 0x0910 0 0 0
  else s1

/-- MIRROR_SNAPSHOT: a snapshot is taken and mirror_gen goes odd; then word by word it arrives, and after the last
mirror_gen goes even. -/
def State.mirrorSnapshot (s : State) : State :=
  if !s.tithe.powered || !s.power.dies then s
  else
    let gen := s.reg (titheReg 0x148)
    match s.tithe.snapWords with
    | [] =>
      let first := (0x100, b2n s.tithe.senseFault + ((s.tithe.fwVersion % 256) <<< 24))
      let ws := first :: s.titheStatus.filter (fun x => x.1 != 0x128 && x.1 != 0x138)
      ({ s with tithe := { s.tithe with snapWords := ws } }).mirrorWord 0x148 (if gen % 2 = 0 then gen + 1 else gen + 2)
    | w :: rest =>
      let s1 := ({ s with tithe := { s.tithe with snapWords := rest } }).snapWord w.1 w.2
      if rest.isEmpty then s1.mirrorWord 0x148 (gen + 1) else s1

/-- The 33 words of a record in its mirror slot. -/
def recordWords (seq : Nat) (b : List Byte) : List (Nat × Nat) :=
  (List.range 33).map (fun i => (0x200 + seq % 2 * 0x108 + 8 * i, leNat ((b.drop (8 * i)).take 8)))

/-- MIRROR_RECORD_ARRIVAL: the next closed record arrives word by word in slot s mod 2; once it is complete latest_seq
and mirror_almanac follow. -/
def State.mirrorRecord (s : State) : State :=
  if !s.tithe.powered || !s.power.dies then s
  else
    match s.tithe.recWords with
    | [] =>
      match s.tithe.recQueue with
      | [] => s
      | (q, b) :: rest => { s with tithe := { s.tithe with recQueue := rest, recSeq := q, recWords := recordWords q b } }
    | w :: rest =>
      let s1 := ({ s with tithe := { s.tithe with recWords := rest } }).mirrorWord w.1 w.2
      if rest.isEmpty then
        ((s1.setReg (titheReg 0x128) s.tithe.recSeq).setReg (titheReg 0x138) s1.now).raise .titheRo 0 0 0x0913 0
      else s1

/-- TITHE_MIRROR_STALE: no mirror word for 100 ms. -/
def State.mirrorStale (s : State) : State :=
  if s.alm.running && !bitOf (s.reg (titheReg 0x100)) 1 && decide (s.tithe.lastWord + almMs 100 ≤ s.now) then
    (s.setRf (titheReg 0x100) 1 1 1).raiseErr .titheRo 0 3 0x0912 0 0 0
  else s

end Sys2Proof.Machine
end

