-- ==== Sys2Proof/Machine/FieldLoss.lean ====
section
/-!
DEFINITION. The footprint of every descriptor; banks that leave On (R252); Hedgerow links and the loss of a Field
(R19 to R22, R37); Reeve cores (R72, R73).
-/
namespace Sys2Proof.Machine

/-! ### Footprints -/

/-- The bytes that a descriptor reads and writes, by unit class. -/
def State.footprint (s : State) (d : List Word512) : List (Nat × Nat) :=
  match hClass (dword d 0) with
  | 0x01 => passFootprint d
  | 0x02 => gleanFootprint d
  | 0x03 => harrowFootprint d
  | 0x04 => s.drillFootprint d
  | 0x05 => if hOpcode (dword d 0) = 1 then decodeFootprint d else if hOpcode (dword d 0) = 3 then batchFootprint d else []
  | 0x06 => s.collFootprint d
  | 0x07 => swathFootprint d
  | 0x08 => if hOpcode (dword d 0) = 1 then [((runF d).image, (s.furHdr (runF d).image).bytes (runF d).image)] else []
  | 0x0A => winnowFootprint d
  | 0x0C => granaryFootprint d
  | 0x0D =>
    (if hOpcode (dword d 0) = 1 && (recF d).hdr != 0 then [((recF d).hdr, 64)] else []) ++ s.recEnts.flatMap RecEnt.ranges ++
    (if hOpcode (dword d 0) = 3 || (hOpcode (dword d 0) = 4 && (recF d).source == 0) then [(s.stagingBase, s.stagingBytes)] else [])
  | _ => []

/-- A descriptor's footprint touches a bank. -/
def State.touchesBank (s : State) (f b : Nat) (d : List Word512) : Bool :=
  (s.footprint d).any (fun r => (sectorsOf r.1 r.2).any (s.inBank f b))

/-- BANK_TRANSITION_START: once no descriptor in flight touches the bank; a plot under test is restored first (R252). -/
def State.bankStart (s : State) (f b : Nat) : State :=
  if s.bankMoves.any (fun m => m.field == f && m.bank == b && !m.begun) && !s.flights.any (fun g => s.touchesBank f b g.words) then
    let s1 := (s.plotRestore f (fun x => x == b)).plotLeave f b
    { s1 with bankMoves := s1.bankMoves.map (fun (m : BankMove) => if m.field == f && m.bank == b then { m with begun := true } else m) }
  else s

/-! ### Hedgerow links (R15, R19, R20, R37) -/

def fieldReg (f off : Nat) : Nat := regAddr .field f off

/-- The Field–Field links: the west and the east Field of each, as links 8 to 13; links 0 to 7 are the Field–Steading
links. -/
def hedgePairs : List (Nat × Nat) := [(1, 0), (0, 2), (2, 3), (5, 4), (4, 6), (6, 7)]
def hedgePair (l : Nat) : Nat × Nat := hedgePairs.getD (l - 8) (0, 2)

/-- West and east neighbour of a Field, if any. -/
def westOf (f : Nat) : Option Nat := (hedgePairs.find? (fun p => p.2 == f)).map (fun p => p.1)
def eastOf (f : Nat) : Option Nat := (hedgePairs.find? (fun p => p.1 == f)).map (fun p => p.2)

def State.setField (s : State) (f : Nat) (x : FieldSt) : State := { s with fields := s.fields.set f x }

/-- The state of a Hedgerow link; a Field–Field link is lost where either end reads so (R21). -/
def State.hedgeState (s : State) (l : Nat) : HedgeState :=
  if l < 8 then (s.field l).steading
  else if (s.field (hedgePair l).2).west == .lost then .lost
  else (s.field (hedgePair l).1).east

/-- The state of a Hedgerow link set, at both ends. -/
def State.setHedge (s : State) (l : Nat) (h : HedgeState) : State :=
  if l < 8 then s.setField l { s.field l with steading := h }
  else
    let p := hedgePair l
    let s1 := s.setField p.1 { s.field p.1 with east := h }
    s1.setField p.2 { s1.field p.2 with west := h }

/-- HEDGE_FLIT_CRC_FAIL: the flit is replayed, and the link's counter shows it at each end (R19). -/
def State.hedgeReplay (s : State) (l : Nat) : State :=
  if s.hedgeState l != .up then s
  else if l < 8 then s.bump (fieldReg l 0x120)
  else (s.bump (fieldReg (hedgePair l).1 0x118)).bump (fieldReg (hedgePair l).2 0x110)

/-- A Field–Field link taken out of service (R20). -/
def State.reroute (s : State) (l : Nat) : State :=
  let p := hedgePair l
  ((s.setHedge l .rerouted).raiseErr .field p.1 0 0x0510 0 0 0).raiseErr .field p.2 0 0x0510 0 0 0

/-- HEDGE_REROUTED: a Field–Field link that is up fails 16 consecutive replays. -/
def State.hedgeReroute (s : State) (l : Nat) : State :=
  if 8 ≤ l && l < 14 && s.hedgeState l == .up then s.reroute l else s

/-! ### The loss of a Field (R21, R22) -/

/-- The descriptor was issued to a unit of a Field (R22); a REDUCE ends as R175 states instead. -/
def Flight.ofField (g : Flight) (f : Nat) : Bool :=
  match g.cls with
  | 1 => (passF g.words).array == f
  | 2 => g.op != 6 && (gleanFields g.words).contains f
  | 3 => (harrowF g.words).field == f
  | 4 => g.op != 4 && drillField g.words == f
  | 0x0C => granaryField (granaryAddrOf g.words) == f
  | _ => false

/-- A descriptor's footprint touches a Field's memory. -/
def State.touchesField (s : State) (f : Nat) (d : List Word512) : Bool :=
  (s.footprint d).any (fun r =>
    rangesOverlap [r] [(tilthBase f, tilthSize), (gleanBase f, gleanSize), (granaryBase + f * granaryRegion, granaryRegion)])

/-- A descriptor of another unit that touches the lost Field's memory ends as a reader of poison does (R22). -/
def State.endTouching (s : State) (id : Nat) : State :=
  match s.flight id with
  | none => s
  | some g =>
    let mark := s.setFlight { g with ending := some (g.ending.getD 0x0511) }
    match g.cls with
    | 4 => if g.started && g.op = 1 then s.setFlight { g with prog := Prog.copy { g.copy? with stopped := some (g.copy?.stopped.getD 0x0511) } } else mark
    | 5 => if g.started then mark else s.complete id 0x0511
    | 6 =>
      match g.coll? with
      | none => s
      | some p =>
        if !g.started then ((s.bump (thrChReg p.ch 0x138)).bump (thrReg 0x110)).complete id 0x0511
        else if p.outcome ≠ 0 || p.withdrawn then s
        else if p.phase = 3 && (p.withdrawn || (collF g.words).delivery || decide ((collF g.words).blocks ≤ p.passed.length) ||
            !p.held.any (fun x => x.included.contains (s.ownPos p.ch))) then s.setColl id { p with cancelInfo := 0x0511 }
        else s.withdraw g { p with cancelInfo := 0x0511 }
    | 7 => if g.op = 3 then s else s.endTransfer g 0x0511
    | 8 => (match s.furlong with
        | some fu => if fu.runId == id then s.abortFurlong fu 0x0511 else s.complete id 0x0511
        | none => s.complete id 0x0511)
    | 0x0A => s.complete id 0x0511
    | 0x0D =>
      if !g.started then s
      else if g.op = 3 then s.dropStook.recDone id 0x0511
      else if g.op = 4 then (s.setFill 0).recDone id 0x0511
      else s
    | _ => mark

/-- The arrays and engines of a lost Field are FAILED; what they hosted goes back, to be given to the next choice. -/
def State.failUnits (s : State) (f : Nat) : State :=
  let mine (e : Nat) : Bool := e / 2 == f
  { s with
    flights := s.flights.map (fun (g : Flight) =>
      match g.prog with
      | .pass q => if q.runner == f then { g with prog := Prog.pass q.setBack } else g
      | .harrow h => if (s.engineRunner g.unit).any mine then { g with prog := Prog.harrow h.setBack } else g
      | _ => g)
    arrays := (s.arrays.map (fun (b : ArraySt) => if b.hostedBy == some f then { b with hostedBy := none } else b)).set f
      { s.array f with state := 2, fault := none, hostedBy := none, held := 0, quads := (s.array f).quads.map (fun (y : QuadSt) => { y with tile := none }) }
    engines := ((s.engines.map (fun (y : EngineSt) => if y.hostedBy.any mine then { y with hostedBy := none } else y)).set (2 * f) ⟨2, none, 0⟩).set
      (2 * f + 1) ⟨2, none, 0⟩ }

/-- The lost Field's memory: nothing of it is held. -/
def State.dropField (s : State) (f : Nat) : State :=
  let s1 := ((s.zeroRange (tilthBase f) tilthSize).zeroRange (gleanBase f) gleanSize).freshRegion f
  ({ s1 with
    gleanMeta := s1.gleanMeta.filter (fun (m : Nat × Nat) => m.1 / 2048 != f)
    bankMoves := s1.bankMoves.filter (fun (m : BankMove) => m.field != f)
    kept := s1.kept.filter (fun a => granaryField a != f) }.setPlot f { s1.plot f with left := [], slots := [] }).emptyInRegion f

/-- A neighbour of a lost Field: its link there reads lost, and it raises HEDGE_FIELD_LOST. -/
def State.tellNeighbour (s : State) (west : Bool) (g : Nat) : State :=
  if s.lost g then s
  else
    let x := s.field g
    (s.setField g (if west then { x with west := .lost } else { x with east := .lost })).raiseErr .field g 1 0x0511 0 0 0

/-- A REDUCE that runs ends with a member or a root: the rows already written stay, and MEMBER_LOST shows on the page
of each root (R175). One that has not started is refused when it runs. -/
def State.endReduce (s : State) (f id : Nat) : State :=
  match s.flightOf id 2 6 with
  | none => s
  | some g =>
    if g.started && (gleanFields g.words).contains f then
      ((rootsOf (gleanF g.words)).foldl (fun (t : State) r => t.raiseErr .glean r 1 0x0B25 g.work 0 0) s).complete id 0x0B25
    else s

/-- A Field declared lost (R21, R22). -/
def State.loseField (s : State) (f : Nat) : State :=
  if s.lost f then s
  else
    let own := (s.flights.filter (fun g => g.ofField f)).map (fun g => g.id)
    let other := (s.flights.filter (fun g => !g.ofField f && s.touchesField f g.words)).map (fun g => g.id)
    let s1 := s.setField f { s.field f with lost := true, steading := .lost }
    let s2 := (westOf f).elim s1 (fun g => s1.tellNeighbour false g)
    let s3 := (eastOf f).elim s2 (fun g => s2.tellNeighbour true g)
    let s4 := (s.gleanFlights.map (fun g => g.id)).foldl (fun t id => t.endReduce f id)
      (own.foldl (fun t id => t.complete id 0x0511) (s3.failUnits f))
    let s5 := (other.foldl State.endTouching s4).restartFill
    ((List.range 16).foldl State.rehomeEngine (s5.dropField f)).recNext

/-- HEDGE_FIELD_LOST: a Field–Steading link that is up fails 16 consecutive replays. -/
def State.hedgeLost (s : State) (f : Nat) : State :=
  if s.hedgeState f == .up then (s.loseField f).noteCapacity s else s

/-! ### Reeve cores (R72 to R74) -/

def reeveReg (f off : Nat) : Nat := regAddr .reeve f off

/-- The lowest-numbered Field not lost. -/
def State.firstField (s : State) : Option Nat := (List.range 8).find? (fun f => !s.lost f)

/-- The unissued descriptors that a place's cores hold. -/
def State.placeHeld (s : State) (place : Nat) : List (List Word512) :=
  (List.range 16).flatMap (fun w => ((s.win w).parsed.filter (fun (p : Nat × List Word512) => p.1 == place)).map (fun p => p.2))

/-- The cores of a place have work of any kind before them: words to parse, descriptors to issue, a furlong to expand
(the Steading), units to deal and passes to feed (a Field). -/
def State.placeBusy (s : State) (place : Nat) : Bool :=
  !(s.placeHeld place).isEmpty ||
  (List.range 16).any (fun w => s.consumer w == place && !(s.win w).words.isEmpty) ||
  (if place = 8 then s.furlong.isSome
   else s.flights.any (fun (g : Flight) => g.ofField place && (g.cls == 1 || g.cls == 3)))

/-- A core of a place is FAILED. -/
def State.coreFailed (s : State) (place c : Nat) : Bool :=
  bitOf (if place < 8 then (s.field place).coresFailed else s.steadFailed) c

/-- A Reeve core fails with a code and check, holding n unissued descriptors of which `work` is the first: the other
cores of its place take them over; a place with none left loses its Field, or stops the Steading's windows. -/
def State.failReeve (s : State) (place c code check work n : Nat) : State :=
  if s.coreFailed place c || (place < 8 && s.lost place) then s
  else
    let s1 := if place < 8 then s.setField place { s.field place with coresFailed := (s.field place).coresFailed ||| (1 <<< c) }
      else { s with steadFailed := s.steadFailed ||| (1 <<< c) }
    let page := if place < 8 then some place else s.firstField
    let info := c + (if place < 8 then 0 else 8) + (work <<< 32)
    let s2 := match page with
      | some f =>
        let t := s1.raiseErr .reeve f 0 code work info check
        if place < 8 && 0 < t.coresWorking place then t.bumpBy (reeveReg f 0x130) n else t
      | none => s1
    if 0 < s2.coresWorking place then s2
    else if place < 8 then s2.loseField place
    else (List.range 8).foldl (fun t f => if t.lost f then t else t.raiseErr .reeve f 1 0x0B44 0 0 0) s2

/-- REEVE_CORE_ECC (1) and REEVE_WATCHDOG (2): a core of a place that holds some of its unissued descriptors, by their
place in window order, fails. The watchdog expires only while there is work of its place for the core to hold. -/
def State.reeveFault (s : State) (place c check : Nat) (held : List Nat) : State :=
  let all := s.placeHeld place
  let ds := held.filterMap (fun i => all[i]?)
  if !s.steward.ready || (check = 2 && !s.placeBusy place) then s
  else (s.failReeve place c (if check = 1 then 0x0B40 else 0x0B41) check ((ds.head?.map (fun d => hWorkId (dword d 0))).getD 0) ds.length).noteCapacity s

end Sys2Proof.Machine
end

