-- ==== Sys2Proof/Machine/Reset.lean ====
section
/-!
DEFINITION. Straps, cold bring-up, warm reset and their causes (R528 to R533), the boot choice (R534, R537), what the
power states lose (R492 to R495), thermal trip (R504) and the supplies and clocks (R555, R556, R559).
-/
namespace Sys2Proof.Machine

def stewReg (off : Nat) : Nat := regAddr .steward 0 off

/-- Steward runs: standby power is present and the module is not in Winter. -/
def State.awake (s : State) : Bool := s.steward.vstby && decide (s.power.state < 4)

/-- A log entry whose code the spec does not state (log entry 14): the code is a free value. -/
def State.logOpen (s : State) (info : Nat) : State := s.drawn.logAdd (s.freeBits 16) info

def State.setStage (s : State) (stage progress : Nat) : State := { s with steward := { s.steward with stage := stage, progress := progress } }

/-- Bring-up halts with a code (R529). -/
def State.haltBoot (s : State) (code : Nat) : State :=
  ({ s with steward := { s.steward with halted := true }, hitch := { s.hitch with lastError := code } }).logAdd code 0

/-! ### The journal's flash (R542) -/

/-- Every waiting entry written to flash. -/
def State.journalFlush (s : State) : State := s.journalFlushN s.journal.pending.length

/-- JOURNAL_PAGE_WRITE: a page of up to 64 entries, once 64 wait or 10 ms after the oldest. -/
def State.journalPage (s : State) : State :=
  match s.journal.pending with
  | [] => s
  | e :: _ => if s.awake && (decide (64 ≤ s.journal.pending.length) || decide (e.time + almMs 10 ≤ s.now)) then s.journalFlushN 64 else s

/-! ### The boot control record (R534, R537) -/

/-- The copy in force: the higher generation that verifies. With neither verifying it names slot A and no trial. -/
def State.bootRec (s : State) : BootRec :=
  let a := s.steward.rec0
  let b := s.steward.rec1
  if a.ok && (!b.ok || decide (b.gen ≤ a.gen)) then a else if b.ok then b else ⟨false, 0, 0, none, 0, 0⟩

/-- A write of the record: into the copy not in force, with the generation raised by 1. -/
def State.putBootRec (s : State) (r : BootRec) : State :=
  let old := s.bootRec
  let new : BootRec := { r with ok := true, gen := old.gen + 1 }
  if old == s.steward.rec0 then { s with steward := { s.steward with rec1 := new } } else { s with steward := { s.steward with rec0 := new } }

/-- Image slot A (0) or B (1). -/
def State.slotImg (s : State) (k : Nat) : ImageSlot := if k = 0 then s.steward.slotA else s.steward.slotB
def State.setSlotImg (s : State) (k : Nat) (x : ImageSlot) : State :=
  if k = 0 then { s with steward := { s.steward with slotA := x } } else { s with steward := { s.steward with slotB := x } }

/-- A slot may boot: valid, and at or above the rollback floor. -/
def State.bootable (s : State) (k : Nat) : Bool := (s.slotImg k).valid && decide (s.bootRec.floor ≤ (s.slotImg k).security)

/-- The trial's bookkeeping at a cold reset: a try is taken, or the trial is given up. -/
def State.takeTry (s : State) : State :=
  let r := s.bootRec
  match r.trial with
  | none => s
  | some _ =>
    if r.tries = 0 then
      let s1 := s.putBootRec { r with trial := none }
      { s1 with steward := { s1.steward with revertPending := true } }
    else s.putBootRec { r with tries := r.tries - 1 }

/-- The slot chosen by the record and BOOT_SEL, and the slot that boots: the other where the first may not. -/
def State.bootSlot (s : State) : Option Nat :=
  let r := s.bootRec
  let first := if s.steward.bootSel = 1 && s.bootable (1 - r.active) then 1 - r.active else r.trial.getD r.active
  if s.bootable first then some first else if s.bootable (1 - first) then some (1 - first) else none

/-- Stage FIRMWARE. -/
def State.bootFirmware (s : State) : State :=
  let s1 := s.takeTry
  match s1.bootSlot with
  | some k =>
    ({ s1 with steward := { s1.steward with booted := k, bootedTrial := s1.bootRec.trial == some k } }).setStage 4 0
  | none => s1.haltBoot (if (s1.slotImg 0).valid && (s1.slotImg 1).valid then 0x0902 else 0x0901)

/-! ### What a cold reset clears (R471, R532, R533) -/

/-- Everything but Steward's flash and standby inputs, the journal, the Tithe and the waiting commands returns to its
reset value. An update that was being staged has failed (R538). -/
def State.wipe (s : State) : State :=
  let st := s.steward
  { State.reset with
    journal := s.journal
    hitch := { hitchReset with sent := s.hitch.sent }
    thr := { thrReset with sent := s.thr.sent }
    swath := { swathReset with sent := s.swath.sent }
    plots := s.plotsCold.plots
    stackList := State.reset.stackList.zipWith (fun (x y : StackSt) => { x with lanes := y.lanes }) s.stackList
    tithe := { s.tithe with snapWords := [], recWords := [] }
    freeCtr := s.freeCtr
    pending := s.pending
    steward := { stewardReset with
      causePending := 0
      slotA := st.slotA
      slotB := st.slotB
      rec0 := st.rec0
      rec1 := st.rec1
      factory := st.factory
      upd := if st.upd = .staging then .failed else .idle
      updOutcome := if st.upd = .staging then 0x090A else 0
      log := st.log
      logCount := st.logCount
      resetsCold := st.resetsCold
      bootCount := st.bootCount
      mgmtOut := st.mgmtHeld.reverse ++ st.mgmtOut
      vin := st.vin
      vstby := st.vstby
      mclk := st.mclk } }

/-- A reset that began before its entry could be made is entered (R533). -/
def State.enterCause (s : State) : State :=
  let c := s.steward.causePending
  if c = 0 then s
  else (({ s with steward := { s.steward with causePending := 0 } }).journalAdd 0 4 1 0 c).logOpen c

/-- A cold reset begins (R532): causes 3 and 5 are entered in the journal and written to flash first, the others at
stage IDENTITY. -/
def State.coldReset (s : State) (cause addr src : Nat) : State :=
  let s1 := s.enterCause
  let early := cause == 3 || cause == 5
  let s2 := (if early then ((s1.journalAdd addr src 1 0 cause).journalFlush).logOpen cause else s1).wipe
  { s2 with steward := { s2.steward with
      causePending := if early then 0 else cause
      resetsCold := min counterStop (s2.steward.resetsCold + 1) } }

/-- MAIN_INPUT_APPLIED: with standby power present a cold reset; without it the dies stay unpowered (R532, R556). -/
def State.mainInput (s : State) : State :=
  if s.steward.vin then s
  else
    let s1 := { s with steward := { s.steward with vin := true } }
    if s.steward.vstby then s1.coldReset 1 0 4 else s1

/-- STANDBY_APPLIED (R556). -/
def State.standbyInput (s : State) : State :=
  if s.steward.vstby then s else ({ s with steward := { s.steward with vstby := true } }).coldReset 2 0 4

/-- RESET_N held low for 10 µs or more (R532, R561). -/
def State.resetPin (s : State) (lowUs : Nat) : State := if s.steward.vstby && decide (10 ≤ lowUs) then s.coldReset 3 0 4 else s

/-! ### Die supplies removed (R504, R555, R559) -/

/-- Every die but Steward's standby domain and the Tithe loses its supply, or is held in reset: what they held is lost
and the register fabric closes. Steward keeps its own pages. -/
def State.diesOff (s : State) : State :=
  let w := s.wipe
  { w with
    regs := s.regs.filter (fun (r : Nat × Nat) => r.1 / 0x1000 == 0 || r.1 / 0x1000 == 2 || r.1 / 0x1000 == 6)
    steward := { s.steward with fabricOpen := false, ready := false, warm := false, warmPending := none }
    power := { w.power with thermtrip := s.power.thermtrip } }

/-- The dies are held off until a cold reset. -/
def State.holdOff (s : State) : State := { s with steward := { s.steward with heldOff := true } }

/-- VIN_LOW. -/
def State.vinLow (s : State) : State :=
  if !s.steward.vin then s
  else
    let s1 := { s with steward := { s.steward with vin := false } }
    let s2 := if s.awake then s1.logAdd 0x080E 0 else s1
    if s.power.dies then s2.diesOff else s2

/-- VIN_HIGH. -/
def State.vinHigh (s : State) : State :=
  if !s.steward.vin || !s.awake then s
  else
    let s1 := s.logAdd 0x080D 0
    (if s.power.dies then s1.diesOff else s1).holdOff

/-- VSTBY_LOW: the hold-up store closes the journal (R542). -/
def State.vstbyLow (s : State) : State :=
  if !s.steward.vstby then s
  else
    let s1 := s.enterCause.journalFlush
    let s2 := if s.power.dies then s1.diesOff else s1
    { s2 with steward := { s2.steward with vstby := false } }

/-- REFCLK_LOST. -/
def State.refclkLost (s : State) : State := if s.power.dies && s.awake then ((s.logAdd 0x080B 0).diesOff).holdOff else s

/-- MCLK_LOST and MCLK_RETURN: management Ethernet leaves and returns to service. -/
def State.mclkLost (s : State) : State :=
  if s.steward.mclk && s.awake then ({ s with steward := { s.steward with mclk := false } }).logAdd 0x080C 0 else s
def State.mclkReturn (s : State) : State := { s with steward := { s.steward with mclk := true } }

/-- JUNCTION_SENSOR_READ, and THERM_TRIP where it is the second plausible reading in succession at trip_c (R504). -/
def State.junctionRead (s : State) (die k : Nat) (t : Int) : State :=
  if !s.power.dies then s
  else
    let s1 := s.sensorRead die k t
    if 2 ≤ (s1.junction die k).trips then
      ((({ s1 with power := { s1.power with thermtrip := true } }).logAdd 0x080A 0).diesOff).holdOff
    else s1

/-! ### Straps (R528) -/

/-- STRAP_SAMPLE: the lands read every millisecond. -/
def State.strapSample (s : State) (pwr slot boot : Nat) : State :=
  let v := (pwr, slot, boot)
  let st := s.steward
  if !s.awake || st.halted then s
  else if st.strapsTaken then
    if v == st.strapLast then s
    else ((({ s with steward := { st with strapLast := v } }).bump (stewReg 0x1A8)).logOpen 0).raise .steward 0 3 0 0
  else
    let run := if st.strapRun ≠ 0 && v == st.strapLast then st.strapRun + 1 else 1
    let s1 := { s with steward := { st with strapLast := v, strapRun := run, strapSamples := st.strapSamples + 1 } }
    if 16 ≤ run then
      let s2 := { s1 with steward := { s1.steward with strapsTaken := true, pwrDomain := pwr, slotId := slot, bootSel := boot } }
      if boot = 2 then s2.logOpen 0 else s2
    else if 1000 ≤ st.strapSamples + 1 then s1.haltBoot 0x0905
    else s1

/-! ### Cold bring-up (R529) -/

/-- Stage HEDGEROW: the links that trained are up; the others are out of service (R20, R21, R37). The array frequency
is ac_max of the Fields that remain (R508). -/
def State.hedgeTrain (s : State) (links : Nat) : State :=
  let s1 := (List.range 14).foldl (fun t l => if bitOf links l then t.setHedge l .up else t) s
  let s2 := ((List.range 14).filter (fun l => decide (8 ≤ l) && !bitOf links l)).foldl State.reroute s1
  let s3 := ((List.range 8).filter (fun f => !bitOf links f)).foldl State.loseField s2
  { s3 with power := { s3.power with
      acReset := s3.acMax, acMhz := s3.acMax, droop := s3.power.droop.map (fun (d : DroopSt) => { d with mhz := s3.acMax }) } }

/-- Stage GRANARY: a stack that passes is WORKING, one that fails stays out (R289); every block is fresh (R286). -/
def State.trainStacks (s : State) (ok : Nat) : State :=
  (List.range 24).foldl (fun t n =>
    if bitOf ok n then t.setStack n { t.stack n with state := 1, trained := some t.now }
    else (t.setStack n { t.stack n with state := 3 }).raiseErr .granary n 4 0x0416 0 0 0) s

/-- Stage SELF_TEST: a unit that passes is WORKING, one that fails is FAILED (R134, R213, R334, R373). -/
def State.selfTest (s : State) (o : BringUp) : State :=
  let s1 := { s with
    arrays := (List.range 8).map (fun f => if s.lost f then s.array f else { s.array f with state := 1 })
    engines := (List.range 16).map (fun e => if s.lost (e / 2) then s.engine e else { s.engine e with state := 1 })
    coulter := { s.coulter with cores := List.replicate 16 1 } }
  let s2 := ((List.range 8).filter (fun f => !bitOf o.arrays.toNat f && !s.lost f)).foldl (fun t f => t.failArray f ⟨0x0B04, 4, 0, 0, 0, 0, 0, 0, 0⟩) s1
  let s3 := ((List.range 16).filter (fun e => !bitOf o.engines.toNat e && !s.lost (e / 2))).foldl (fun t e => t.failEngine e 0x0B37 0 0 (4 <<< 16)) s2
  let s4 := ((List.range 16).filter (fun c => !bitOf o.decoders.toNat c)).foldl (fun t c => t.failCore c 0x070E 3) s3
  let s5 : State := ((List.range 8).filter (fun l => !bitOf o.adders.toNat l)).foldl (fun (t : State) l =>
    ({ t with thr := { t.thr with lanes := t.thr.lanes ||| (1 <<< l) } }).raiseErr .thresher 0 0 0x0620 0 l 0) s4
  if s5.thr.lanes = 0xFF then s5.raiseErr .thresher 0 1 0x0621 0 0 0 else s5

/-- Stage REEVE: a core that fails its self-test is FAILED (R72). -/
def State.reeveTest (s : State) (ok : Nat) : State :=
  ((List.range 72).filter (fun i => !bitOf ok i)).foldl (fun t i => t.failReeve (i / 8) (i % 8) 0x0B42 3 0 0) s

/-- The register fabric opens, after a bring-up or a warm reset (R44, R477, R529, R537). -/
def State.openFabric (s : State) : State :=
  let warm := s.steward.warm
  let st : Steward := { s.steward with
    stage := 0x0E
    progress := s.freeBits 7 % 101
    fabricOpen := true
    ready := true
    warm := false
    revertPending := false
    bootCount := if warm then s.steward.bootCount else min counterStop (s.steward.bootCount + 1) }
  let s1 := { s with steward := st, hitch := { s.hitch with narrowPending := false }, freeCtr := s.freeCtr + 1 }
  let s2 := if s.steward.revertPending then s1.raiseErr .steward 0 1 0x0907 0 0 0 else s1
  let s3 := if s.hitch.narrowPending then s2.linkError 1 0x0505 else s2
  if warm && bitOf (s.reg (recReg 0x150)) 32 then s3.raiseErr .recovery 0 7 0x0A09 0 (s.rf (recReg 0x150) 31 0) 0 else s3

/-- BRINGUP_STAGE_COMPLETE: the work of the present stage is done, and the next begins; or bring-up halts. -/
def State.stageDone (s : State) (o : BringUp) : State :=
  let st := s.steward
  if !s.awake || st.halted || st.scanHold || st.ready || st.warm then s
  else if st.stage = 0 then s.setStage 1 0
  else if st.stage = 1 then
    if !st.strapsTaken then s
    else if st.bootSel = 3 then { s with steward := { st with scanHold := true, progress := 100 } }
    else (s.setStage 2 0).enterCause
  else if st.stage = 2 then
    let s1 := if o.manyCorrections then s.logOpen 0 else s
    if o.seedOk then s1.setStage 3 0 else s1.haltBoot 0x0904
  else if st.stage = 3 then s.bootFirmware
  else if st.stage = 4 then
    if st.progress = 100 then s
    else if !o.factoryOk then s.haltBoot 0x0903
    else if st.vin && !st.heldOff then s.setStage 5 0
    else s.setStage 4 100
  else if st.stage = 5 then
    if !st.vin || st.heldOff || !o.pllsLocked then s
    else ({ s with power := { s.power with dies := true }, alm := { s.alm with running := true } }).setStage 6 0
  else if !s.power.dies then s
  else if st.stage = 6 then (s.hedgeTrain o.links.toNat).setStage 7 0
  else if st.stage = 7 then s.setStage 8 0
  else if st.stage = 8 then s.setStage 9 0
  else if st.stage = 9 then (s.trainStacks o.stackList.toNat).setStage 0x0A 0
  else if st.stage = 0x0A then (s.selfTest o).setStage 0x0B 0
  else if st.stage = 0x0B then (s.reeveTest o.reeve.toNat).openFabric
  else s

/-- STAGE_TIMEOUT: a stage passes its limit; HEDGEROW then ends with the links that are up (R529). STANDBY has no limit,
nor has the wait for VIN at FACTORY (R556); STRAPS has that of R528. -/
def State.stageTimeout (s : State) (links : Nat) : State :=
  let st := s.steward
  if !s.awake || st.halted || st.scanHold || st.ready || st.warm || st.stage = 0 || st.stage = 1 || (st.stage = 4 && st.progress = 100) then s
  else if st.stage = 6 then (if s.power.dies then (s.hedgeTrain links).setStage 7 0 else s)
  else s.haltBoot 0x0906

/-! ### Warm reset (R530, R531, R533) -/

/-- A warm reset begins: entered and written to flash first; from now on no gate fires, no wait is met and nothing
starts, so that what has not started is as good as discarded. -/
def State.beginWarm (s : State) (src : Nat) : State :=
  let s1 := ((((s.journalAdd 0x2110 src 1 0 4).journalFlush).logOpen 4).bump (stewReg 0x190)).setStage 0x20 0
  { s1 with
    steward := { s1.steward with warm := true, fabricOpen := false, warmPending := none }
    flights := s1.flights.filter (fun (f : Flight) => f.fired && f.started) }

/-- STEWARD_RESET.kind = 1: ignored, logged and counted during a reset; from Rest or Fallow the module first returns to
Run (R495, R533). -/
def State.requestWarm (s : State) (src : Nat) : State :=
  if s.steward.warm || !s.steward.ready || s.steward.warmPending.isSome then (s.bump (stewReg 0x198)).logOpen 4
  else if 2 ≤ s.power.state || s.power.goal.isSome then
    { s with steward := { s.steward with warmPending := some src }, power := { s.power with goal := some 0 } }
  else s.beginWarm src

/-- Requests held through QUIESCE are answered NOT_READY, in order of arrival (R51, R544). -/
def State.answerHeld (s : State) : State :=
  s.hitch.held.foldl (fun (t : State) (h : HeldReq) => t.respond h.tag h.addr h.status h.code)
    { s with hitch := { s.hitch with held := [] }, steward := { s.steward with mgmtHeld := [], mgmtOut := s.steward.mgmtHeld.reverse ++ s.steward.mgmtOut } }

/-- Registers that a warm reset returns to their reset values: THRESHER and THR_CH but for their counters, step_now
(R389, R531). -/
def warmCleared (a : Nat) : Bool :=
  let page := a / 0x1000
  let off := a % 0x1000
  (page == 0x200 && !(decide (0x110 ≤ off) && decide (off ≤ 0x138))) ||
  (decide (0x201 ≤ page) && decide (page ≤ 0x220) && !(decide (0x138 ≤ off) && decide (off ≤ 0x160)))

/-- Stage FLUSH: everything that is queued, in flight or open is discarded (R315, R354, R389, R452, R472, R473). -/
def State.flushWork (s : State) : State :=
  let s1 := { s with
    flights := [], furlong := none, flags := [], flagsNow := [], verdicts := [], passIds := []
    windows := s.windows.map (fun _ => (⟨[], [], false, false, false⟩ : Window))
    hostWaits := s.hostWaits.filter (fun (h : HostWait) => h.kind == WaitKind.linkDown || h.kind == WaitKind.eventCredits)
    hitch := { s.hitch with job := .running }
    arrays := s.arrays.map (fun (a : ArraySt) => { a with fault := none, quads := a.quads.map (fun (q : QuadSt) => { q with tile := none, pred := none, predGone := false }) })
    regs := s.regs.filter (fun (r : Nat × Nat) => !warmCleared r.1) }
  (((((s1.setRf (almReg 0x138) 31 0 0).resetThresher).resetSwath).resetSample.dropRings).dropSteps).resetRecovery

/-- WARM_RESET_STAGE: the present stage of a warm reset ends and the next begins (R530). -/
def State.warmStage (s : State) : State :=
  if !s.steward.warm then s
  else if s.steward.stage = 0x20 then (((List.range 8).foldl (fun t f => t.plotRestore f (fun _ => true)) s).answerHeld).setStage 0x21 0
  else if s.steward.stage = 0x21 then s.flushWork.setStage 0x22 0
  else if s.steward.stage = 0x22 then s.mapOut.setStage 0x23 0
  else ((List.range 8).foldl (fun t f => if t.lost f then t else t.resetGlean f) s).openFabric

/-! ### Power states reached (R492 to R495) -/

/-- Winter: only Steward's deep standby and flash remain; the SLOT_ID lands go on addressing the two-wire port (R546). -/
def State.winter (s : State) : State :=
  let w := s.enterCause.journalFlush.wipe
  { w with power := { w.power with state := 4 }, steward := { w.steward with slotId := s.steward.slotId } }

/-- POWER_STATE_REACHED: the state asked for is reached, and what it loses is gone. -/
def State.powerReached (s : State) : State :=
  match s.power.goal with
  | none => s
  | some g =>
    if g = 4 then s.winter
    else
      let s1 := if g = 2 then s.sleepLoss else if g = 3 then s.sleepLoss.fallowLoss else s
      let s2 := { s1 with power := { s1.power with state := g, goal := none, idleSince := none } }
      let s3 := ((s2.bump (powReg 0x168)).raise .power 0 5 0x0808 0).noteCapacity s
      match s3.steward.warmPending with
      | some src => if g = 0 then s3.beginWarm src else s3
      | none => s3

/-- WAKE: a module in Winter goes to Fallow with every register at its cold-reset value (R495, R532). -/
def State.wake (s : State) : State :=
  if s.steward.vstby && s.power.state = 4 then
    let s1 := s.coldReset 6 0 4
    { s1 with power := { s1.power with state := 3 } }
  else s

end Sys2Proof.Machine
end

