-- ==== Sys2Proof/Machine/Steward.lean ====
section
/-!
DEFINITION. The A/B update path (R536 to R538), quotes and certificates (R540), and the views of the STEWARD, DIR and
JOURNAL pages (R548 to R550).
-/
namespace Sys2Proof.Machine

def journalReg (off : Nat) : Nat := regAddr .journal 0 off

/-! ### Update (R536 to R538) -/

def State.updAddr (s : State) : Nat := s.rf (stewReg 0x128) 47 0
def State.updLen (s : State) : Nat := s.rf (stewReg 0x130) 25 0

/-- The outcome of STAGE's check of an image, as R534 checks one: 0, UPD_BAD_IMAGE or UPD_ROLLBACK. An image that
cannot be read whole is a bad one. -/
def State.checkImage (s : State) : Nat :=
  let a := s.updAddr
  let n := s.updLen
  if n < 4096 || !s.populated a n || !(inTilthAny a n || inGranary a n || inSteadingBuf a n) || s.readsPoison a n then 0x0908
  else
    let b := s.bytes a n
    let len := leNat ((b.drop 8).take 8)
    if leNat ((b.drop 6).take 2) ≠ 1 || len < 4096 || 33554432 < len || n < len || (b.drop 144).take 236 ≠ List.replicate 236 0 then 0x0908
    else
      let img := b.take len
      if !Config.imageSignatureOk (img.take 380 ++ sha512 (img.drop 512)) ((img.drop 380).take 132) || !Config.partDigestsOk img then 0x0908
      else if leNat ((b.drop 4).take 2) < s.bootRec.floor then 0x0909 else 0

/-- The slot that an image becomes. -/
def slotOfImage (b : List Byte) : ImageSlot :=
  ⟨true, leNat (b.take 4), leNat ((b.drop 4).take 2), (b.drop 16).take 64, (b.drop 80).take 64, b⟩

/-- A command is allowed in the present state. -/
def State.updAllowed (s : State) (cmd : Nat) : Bool :=
  let st := s.steward
  if cmd = 1 then st.upd == .idle || st.upd == .staged || st.upd == .failed
  else if cmd = 2 then st.upd == .staged
  else if cmd = 3 then st.bootedTrial
  else cmd == 4 && (st.upd == .staged || st.upd == .activated || st.bootedTrial)

/-- A command ends with a state and an outcome. -/
def State.updEnd (s : State) (u : UpdState) (outcome : Nat) : State :=
  ((({ s with steward := { s.steward with upd := u, updOutcome := outcome, staging := none } }).logAdd outcome 0)).raise .steward 0 0 outcome 0

/-- STAGE: the image is checked; a good one makes the inactive slot invalid until it has been written and verified. -/
def State.updStage (s : State) : State :=
  let code := s.checkImage
  let s1 := { s with steward := { s.steward with upd := .staging, updOutcome := 0, staging := some (s.bytes s.updAddr s.updLen, code) } }
  if code = 0 then s1.setSlotImg (1 - s.bootRec.active) { s.slotImg (1 - s.bootRec.active) with valid := false } else s1

/-- STAGE_COMPLETE: the slot has been written and read back, or flash has failed. -/
def State.stageComplete (s : State) (flashOk : Bool) : State :=
  match s.steward.upd, s.steward.staging with
  | .staging, some (b, code) =>
    if !s.awake then s
    else if code ≠ 0 then s.updEnd .failed code
    else if !flashOk then s.updEnd .failed 0x090A
    else
      let k := 1 - s.bootRec.active
      let s1 := s.setSlotImg k (slotOfImage b)
      ({ s1 with steward := { s1.steward with stagedSlot := k } }).updEnd .staged 0
  | _, _ => s

/-- ACTIVATE. -/
def State.updActivate (s : State) : State :=
  (s.putBootRec { s.bootRec with trial := some s.steward.stagedSlot, tries := 3 }).updEnd .activated 0

/-- CONFIRM. -/
def State.updConfirm (s : State) : State :=
  let r := s.bootRec
  let k := s.steward.booted
  let s1 := s.putBootRec { r with active := k, trial := none, tries := 0, floor := max r.floor (s.slotImg k).security }
  ({ s1 with steward := { s1.steward with bootedTrial := false } }).updEnd .idle 0

/-- ABANDON. -/
def State.updAbandon (s : State) : State :=
  let s1 := s.putBootRec { s.bootRec with trial := none, tries := 0 }
  ({ s1 with steward := { s1.steward with bootedTrial := false } }).updEnd .idle 0

/-- A write of UPD_CMD that is allowed: entered in the journal with kind 2. -/
def State.updCommand (s : State) (src cmd : Nat) : State :=
  let s1 := s.journalAdd (stewReg 0x138) src 2 0 cmd
  if cmd = 1 then s1.updStage else if cmd = 2 then s1.updActivate else if cmd = 3 then s1.updConfirm else s1.updAbandon

/-! ### Quotes (R539, R540) -/

/-- A quote or certificate footprint: populated Tilth, Granary or Steading buffers, the read-only retransmit buffers
left out (R29). -/
def State.quotePlace (s : State) (a n : Nat) : Bool :=
  s.populated a n && (inTilthAny a n || inGranary a n || inSteadingBuf a n) && !touchesSwathBuf a n

def State.quoteAddr (s : State) : Nat := s.rf (stewReg 0x148) 47 0
def State.certAddr (s : State) : Nat := s.rf (stewReg 0x160) 47 0

/-- A write of QUOTE_CMD is accepted. -/
def State.quoteOk (s : State) (v : Nat) : Bool :=
  s.steward.quote != .busy && (!bitOf v 0 || s.quotePlace s.quoteAddr 512) && (!bitOf v 1 || s.quotePlace s.certAddr 4096)

/-- The digests of the booted image, by which its attestation key is known. -/
def State.bootDigest (s : State) : List Byte := (s.slotImg s.steward.booted).stewardDigest ++ (s.slotImg s.steward.booted).reeveDigest

/-- QUOTE: the nonce is read. -/
def State.quoteStart (s : State) : State :=
  { s with steward := { s.steward with quote := .busy, quoteNonce := s.bytes (s.quoteAddr + 16) 64 } }

/-- CERTS: the DER chain, up to 4 KiB. -/
def State.writeCerts (s : State) : State := s.storeAs 0 s.certAddr ((Config.certChain s.bootDigest).take 4096)

/-- Bytes 0 to 351 of a quote. -/
def State.quoteBody (s : State) : List Byte :=
  let st := s.steward
  let x := s.slotImg st.booted
  let pad (n : Nat) (l : List Byte) : List Byte := (l ++ List.replicate n 0).take n
  leBytes 8 (1 + (st.booted <<< 16) + (st.bootSel <<< 24) + ((st.quoteCounter % 2 ^ 32) <<< 32)) ++ leBytes 8 s.now ++ pad 64 st.quoteNonce ++
  pad 64 x.stewardDigest ++ pad 64 x.reeveDigest ++
  leBytes 8 (x.version % 2 ^ 32 + ((x.security % 2 ^ 16) <<< 32) + ((s.bootRec.floor % 2 ^ 16) <<< 48)) ++
  leBytes 8 (st.pwrDomain % 64 + ((st.slotId % 256) <<< 8)) ++ leBytes 8 s.journal.count ++ pad 64 s.journal.chain ++
  pad 32 (Config.attestKeyId s.bootDigest) ++ List.replicate 24 0

/-- QUOTE_DONE: the 512 bytes are written whole and the counter rises. The counter in the quote is that of the quotes
written before it. -/
def State.quoteDone (s : State) : State :=
  if s.steward.quote != .busy || !s.awake then s
  else
    let b := s.quoteBody
    let q := b ++ (Config.attestSignature s.bootDigest b ++ List.replicate 132 0).take 132 ++ List.replicate 28 0
    let s1 := if s.populated s.quoteAddr 512 then s.storeAs 0 s.quoteAddr q else s
    ({ s1 with steward := { s1.steward with quote := .done, quoteCounter := (s1.steward.quoteCounter + 1) % 2 ^ 32 } }).raise .steward 0 2 0 0

/-! ### Views -/

/-- The four words of a log entry (R543). -/
def LogEntry.word (e : LogEntry) (i : Nat) : Nat :=
  match i with
  | 0 => e.seq
  | 1 => e.time
  | 2 => e.code % 2 ^ 16 + ((e.stage % 256) <<< 16) + ((e.info % 2 ^ 32) <<< 32)
  | _ => e.uptime

/-- Read-only words of the STEWARD page. -/
def State.stewardView (s : State) (off : Nat) : Option Nat :=
  let st := s.steward
  let r := s.bootRec
  let ver (x : ImageSlot) : Nat := if x.valid then x.version % 2 ^ 32 else 0
  match off with
  | 0x100 => some (st.stage % 256 + ((st.progress % 256) <<< 8) + ((s.hitch.lastError % 2 ^ 16) <<< 16))
  | 0x108 => some (st.pwrDomain + (st.slotId <<< 8) + (st.bootSel <<< 16))
  | 0x118 => some (r.active + (st.booted <<< 1) + (b2n st.bootedTrial <<< 2) + (r.tries <<< 8) +
      (((s.slotImg st.booted).security % 2 ^ 16) <<< 32) + ((r.floor % 2 ^ 16) <<< 48))
  | 0x120 => some (ver st.slotA + (ver st.slotB <<< 32))
  | 0x140 => some (st.upd.code + (st.updOutcome <<< 16))
  | 0x158 => some (st.quote.code + ((st.quoteCounter % 2 ^ 32) <<< 32))
  | 0x170 | 0x178 | 0x180 | 0x188 =>
    some (((st.log[s.rf (stewReg 0x168) 13 0]?).map (fun e => e.word ((off - 0x170) / 8))).getD 0)
  | 0x1B0 => some st.logCount
  | 0x1B8 => some st.resetsCold
  | _ => none

/-- The journal entry of a sequence number, if it is held. -/
def State.journalEntry (s : State) (n : Nat) : Option JEntry :=
  (s.journal.pending ++ s.journal.flash).find? (fun e => e.seq == n)

/-- Read-only words of the JOURNAL page. -/
def State.journalView (s : State) (off : Nat) : Option Nat :=
  let j := s.journal
  let e := s.journalEntry (s.reg (journalReg 0x110))
  if off = 0x100 then some j.count
  else if off = 0x108 then some (j.count - j.pending.length - j.flash.length)
  else if 0x118 ≤ off && off ≤ 0x150 then some ((e.map (fun x => leNat ((x.toBytes.drop (off - 0x118)).take 8))).getD 0)
  else if off = 0x158 then some (b2n e.isSome)
  else if 0x160 ≤ off && off ≤ 0x198 then some (leNat ((j.chain.drop (off - 0x160)).take 8))
  else if off = 0x1A0 then some j.pending.length
  else none

/-- PG_ID of a page (R56). -/
def pageId (k : PageKind) (i : Nat) : Nat :=
  let idx := pageIdx k i
  if idx < 0x1000 then (pageIdx k 0 <<< 48) + (i <<< 32)
  else ((0x1000 + idx % 0x100) <<< 48) + (((idx - 0x1000) / 0x100) <<< 32)

/-- Read-only words of the DIR page: fields not lost, the page that page_query names, and the boot count. -/
def State.dirView (s : State) (off : Nat) : Option Nat :=
  match off with
  | 0x108 => some s.steward.factory.serial
  | 0x110 => some ((List.range 8).foldl (fun a f => a + (b2n (!s.lost f) <<< f)) 0)
  | 0x120 =>
    match pageOf (s.rf (regAddr .dir 0 0x118) 15 0) with
    | some (k, i) => some (0x010100 + ((pageId k i / 2 ^ 48) <<< 32) + (1 <<< 48))
    | none => some 0
  | 0x128 => some s.steward.bootCount
  | _ => none

end Sys2Proof.Machine
end

