-- ==== Sys2Proof/Machine/Issue.lean ====
section
/-!
DEFINITION. Parsing and issuing descriptors (R63, R67 to R71, R224, R457), and the expansion of a furlong into issued
instances (R459, R461 to R464).
-/
namespace Sys2Proof.Machine

/-! ### The checks of R68, order 6 -/

/-- A unit chapter's own checks on a descriptor that a consumer's Reeve cores parse; 0 where they pass. -/
def State.unitCheck (s : State) (consumer : Nat) (d : List Word512) : Nat :=
  match hClass (dword d 0) with
  | 0x01 => s.passParse d
  | 0x02 => s.gleanParse d
  | 0x03 => s.harrowParse d
  | 0x04 => s.drillParse d
  | 0x05 => if hOpcode (dword d 0) ≤ 2 then s.coulterParse d else s.sampleParse d
  | 0x06 => s.thrParse d
  | 0x07 => s.swathParse d
  | 0x08 => s.furlongParse d consumer
  | 0x0A => s.winnowParse d
  | 0x0C => s.granaryParse d
  | 0x0D => s.recParse d
  | _ => 0

/-- All checks of R68 on a descriptor, in order; 0 where they pass. -/
def State.descCheck (s : State) (consumer : Nat) (d : List Word512) : Nat :=
  let h := headerCheck d
  if h ≠ 0 then h
  else
    let w := s.waitCheck d
    if w ≠ 0 then w else s.unitCheck consumer d

/-- The checks that a unit makes as a descriptor is issued to it. -/
def State.issueCheck (s : State) (d : List Word512) (step : Nat) : Nat :=
  match hClass (dword d 0) with
  | 0x01 => s.passIssueCheck d
  | 0x03 => s.harrowIssueCheck d
  | 0x04 => s.drillIssueCheck d
  | 0x06 => s.thrIssueCheck d step
  | _ => 0

/-! ### Parsing (R68 to R70) -/

/-- The Reeve cores of a place work, and no reset has stopped them. -/
def State.placeRuns (s : State) (place : Nat) : Bool := s.steward.ready && !s.steward.warm && decide (0 < s.coresWorking place)

/-- DESCRIPTOR_PARSE: the words of the next descriptor of a window, once all are held, are taken and checked. -/
def State.parseWindow (s : State) (w : Nat) : State :=
  let x := s.win w
  if x.framing || x.halted || !s.placeRuns (s.consumer w) then s
  else
    match x.words with
    | [] => s
    | h :: _ =>
      let k := hWords h
      if k = 0 || 5 ≤ k then s.loseFraming w [h] (headerCheck [h])
      else if x.words.length < k then s
      else
        let d := x.words.take k
        let s0 := if s.consumer w < 8 then s.bump (reeveReg (s.consumer w) 0x118) else s
        let code := s0.descCheck (s.consumer w) d
        if code ≠ 0 then (s0.setWin w { x with words := x.words.drop k }).refuseDesc w d code
        else s0.setWin w { x with words := x.words.drop k, parsed := x.parsed ++ [(s.consumer w, d)] }

/-! ### Issue (R63, R457) -/

/-- A descriptor of this class reaches a unit whose work belongs to a step (R224). -/
def reachesUnit (c : Nat) : Bool := decide (1 ≤ c) && decide (c ≤ 7) || c == 0x0C

/-- Issue to a full queue is delayed (R178, R193, R298, R362), and so is a descriptor of a third step (R224). A
RING_CREDIT does not wait in its queue (R307). -/
def State.issueHeld (s : State) (d : List Word512) (step : Nat) : Bool :=
  match hClass (dword d 0) with
  | 0x02 => (gleanFields d).any (fun f => decide (64 ≤ s.gleanQueued f)) || !s.stepAdmits step
  | 0x03 => decide (64 ≤ s.engineQueued ((s.engineRunner (s.assignEngine d)).getD (s.assignEngine d))) || !s.stepAdmits step
  | 0x04 => (hOpcode (dword d 0) != 4 && hOpcode (dword d 0) != 3 && decide (256 ≤ s.queueWaiting (drillField d * 32 + drillQueue d))) || !s.stepAdmits step
  | 0x06 => (hOpcode (dword d 0) != 5 && decide (64 ≤ s.chQueued (collF d).ch)) || !s.stepAdmits step
  | c => reachesUnit c && !s.stepAdmits step

/-- What a unit holds for a descriptor from its issue on. -/
def State.startProg (s : State) (d : List Word512) : Prog :=
  match hClass (dword d 0) with
  | 0x04 => s.drillProg d
  | 0x06 => s.collProg d
  | _ => .none

/-- What a unit notes as a descriptor is issued to it. -/
def State.noteIssue (s : State) (d : List Word512) (step : Nat) : State :=
  match hClass (dword d 0) with
  | 0x01 => s.notePass d
  | 0x03 => s.rehomeEngine (((s.flights.getLast?).map (fun f => f.unit)).getD 0)
  | 0x06 => s.noteColl d step
  | 0x0D => s.recNext
  | _ => s

/-- A descriptor issued: it takes its copy of the wait-mask entry and its step number; a NOP waits for nothing, and one
whose entry is poisoned ends at once. -/
def State.issueFlight (s : State) (origin : Origin) (step : Nat) (d : List Word512) : State :=
  let h := dword d 0
  let nop := hClass h == 0 && hOpcode h == 0
  let f : Flight := ⟨s.nextId, d, origin, step, if nop then none else s.waitCopy d, false, false, 0, false, false,
    if hClass h = 3 then s.assignEngine d else 0, none, s.startProg d⟩
  let s1 := if reachesUnit (hClass h) then (s.openStep step).leaveIdle else s
  let s2 := ({ s1 with flights := s1.flights ++ [f], nextId := s.nextId + 1 }).noteIssue d step
  if nop || s.waitStop d = 0 then s2 else s2.complete f.id (s.waitStop d)

/-- ALMANAC.step_now. -/
def State.stepNow (s : State) : Nat := s.rf (almReg 0x138) 31 0

/-- No earlier descriptor of the window is in flight. -/
def State.fenceClear (s : State) (w : Nat) : Bool := !s.flights.any (fun f => f.origin == .window w)

/-- DESCRIPTOR_ISSUE: the next parsed descriptor of a window is issued by the cores that parsed it, or refused where a
check no longer passes. -/
def State.issueWindow (s : State) (w : Nat) : State :=
  let x := s.win w
  match x.parsed with
  | [] => s
  | (place, d) :: rest =>
    if x.halted || !s.placeRuns place || s.hitch.job != .running then s
    else
      let step := s.stepNow
      if (hFence (dword d 0) && !s.fenceClear w) || s.issueHeld d step then s
      else
        let c := s.descCheck place d
        let code := if c ≠ 0 then c else s.issueCheck d step
        let s1 := s.setWin w { x with parsed := rest }
        if code ≠ 0 then s1.refuseDesc w d code
        else
          let s2 := s1.bump (regAddr .cmdwin w 0x118)
          (if place < 8 && hClass (dword d 0) ≠ 0 then s2.bump (reeveReg place 0x120) else s2).issueFlight (.window w) step d

/-- NOP: complete as soon as it is issued, setting no flag (R67). -/
def State.runNop (s : State) (id : Nat) : State :=
  match s.flightOf id 0 0 with
  | none => s
  | some f =>
    let h := BitVec.ofNat 512 (setBits f.hdr.toNat 191 160 0)
    (s.setFlight { f with words := [h] }).complete id 0

/-- SIGNAL: its flag is set once its launch condition is met (R67). -/
def State.runSignal (s : State) (id : Nat) : State :=
  match s.flightOf id 0 1 with
  | none => s
  | some f => if f.fired then s.complete id 0 else s

/-! ### Expansion of a furlong (R459, R461 to R464) -/

/-- The decision time of a verdict that the furlong has waited for: of a step, probe or not. -/
def State.verdictTime (s : State) (fu : Furlong) (step : Nat) (probe : Bool) : Option Nat :=
  ((s.verdicts.take (s.verdicts.length - fu.mark)).find? (fun v => v.step == step && v.probe == probe)).map (fun v => v.time)

/-- The pace gap of the running furlong's image. -/
def State.paceGap (s : State) (fu : Furlong) : Nat := (s.furHdr fu.image).gap

/-- The origin of a step, once it is known (R461). -/
def State.stepOrigin (s : State) (fu : Furlong) (step : Nat) : Option Nat :=
  if !fu.paced then some ((fu.t0 + (step - fu.first) * (s.furHdr fu.image).period) % almWrap)
  else if step = fu.first then some fu.t0
  else (s.verdictTime fu (step - 1) false).map (fun t => (t + s.paceGap fu) % almWrap)

/-- The running furlong with the step being expanded and its items set. -/
def State.setFurlong (s : State) (fu : Furlong) : State := { s with furlong := some fu }

/-- A step or pre-pass of the running furlong begins to be expanded. -/
def State.beginStep (s : State) (fu : Furlong) (step origin : Nat) (pre : Bool) : State :=
  let s1 := s.setRf (almReg 0x138) 31 0 step
  let s2 := if pre then { s1.emptyProbes with winnow := { s1.winnow with preSteps := setInsert s1.winnow.preSteps step } } else s1
  s2.setFurlong { fu with
    nextStep := step + 1
    current := some (step, pre)
    items := s2.stepItems fu.image pre
    running := fu.running ++ [s2.newRun fu.image step pre origin] }

/-- The next step of the running furlong begins once its origin is known; it has a pre-pass where a tag is probing. -/
def State.firstOf (s : State) (fu : Furlong) : State :=
  if fu.stopping || fu.first + fu.steps ≤ fu.nextStep || !s.stepAdmits fu.nextStep then s
  else
    match s.stepOrigin fu fu.nextStep with
    | some o => s.beginStep fu fu.nextStep o (0 < s.probingTags)
    | none => s

/-- Expansion goes on to the next step, or to the real pass after a pre-pass (R462, R464). -/
def State.nextExpansion (s : State) (fu : Furlong) : State :=
  match fu.running.getLast? with
  | some r =>
    if r.pre && r.expanded && r.step + 1 == fu.nextStep then
      match s.verdictTime fu r.step true with
      | some t => s.beginStep fu r.step ((t + s.paceGap fu) % almWrap) false
      | none => s
    else s.firstOf fu
  | none => s.firstOf fu

/-- The running record of the step being expanded changed in one phase. -/
def Furlong.onPhase (fu : Furlong) (step : Nat) (pre : Bool) (phase : Nat) (g : PhaseRun → PhaseRun) : Furlong :=
  { fu with running := fu.running.map (fun (r : StepRun) =>
      if r.step == step && r.pre == pre then
        { r with phases := r.phases.map (fun (p : PhaseRun) => if p.index == phase then g p else p) }
      else r) }

/-- No earlier instance of the step's run is in flight: what a fence in a template waits for. -/
def State.instancesClear (s : State) : Bool := !s.flights.any Flight.fromFurlong

/-- One instance issued as from a window with flags.halt 0, or refused (R462, R463). -/
def State.issueInstance (s : State) (fu : Furlong) (rest : List ExpandItem) (step : Nat) (pre : Bool) (phase t chunk micro : Nat) : State :=
  let origin := (fu.run? step pre).elim 0 (fun r => r.origin)
  let d := s.instanceOf fu.image t step origin chunk micro pre
  if s.scaleHeld fu.image t step || (hFence (dword d 0) && !s.instancesClear) || s.issueHeld d step then s
  else
    let c := s.descCheck 8 d
    let code := if c ≠ 0 then c else s.issueCheck d step
    if code ≠ 0 then (s.setFurlong { fu with items := rest }).refuseInstance step pre phase t code
    else
      (s.setFurlong ({ fu with items := rest }.onPhase step pre phase (fun p => { p with count := p.count + 1, outstanding := p.outstanding + 1 }))).issueFlight
        (.furlong fu.window phase t pre) step d

/-- STEP_EXPANSION: the Steading's Reeve cores take the next item of the running furlong. -/
def State.expandNext (s : State) : State :=
  match s.furlong with
  | none => s
  | some fu =>
    if !s.placeRuns 8 || s.hitch.job != .running then s
    else
      let stop (rs : List (Nat × Nat)) (t : State) : State := if s.rangesPoisoned rs then s.abortFurlong fu (poisonCode fu.image) else t
      match fu.current, fu.items with
      | none, _ => stop (s.imageReads fu.image true none) (s.nextExpansion fu)
      | some (step, pre), [] =>
        (s.setFurlong { fu with
          current := none
          running := fu.running.map (fun (r : StepRun) => if r.step == step && r.pre == pre then { r with expanded := true } else r) }).furlongCheck
      | some (step, pre), .phaseEnd phase :: rest =>
        s.setFurlong ({ fu with items := rest }.onPhase step pre phase (fun p => { p with expanded := true }))
      | some _, .hostSync _ flag :: rest =>
        if s.flagSeen 8 flag then (s.clearFlag 8 flag).setFurlong { fu with items := rest } else s
      | some (step, pre), .inst phase t chunk micro :: rest =>
        stop (s.imageReads fu.image false (some t)) (s.issueInstance fu rest step pre phase t chunk micro)

end Sys2Proof.Machine
end

