-- ==== Sys2Proof/Machine/HostWait.lean ====
section
/-!
DEFINITION. Host waits (R78 to R81): what waits for software, since when, and what happens when it is late; and
the tick of the Almanac, which finds waits that begin and end.
-/
namespace Sys2Proof.Machine

/-- A descriptor names an event flag in its signal_event. -/
def namesFlag (domain n : Nat) (d : List Word512) : Bool :=
  let g := hSignal (dword d 0)
  selValid g && selDomain g == domain && bitsOf g 9 0 == n

/-- Every template of the running furlong. -/
def State.runningTemplates (s : State) : List (List Word512) :=
  match s.furlong with
  | none => []
  | some fu => (List.range (s.furHdr fu.image).templates).map (fun i => s.template fu.image i)

/-- Every descriptor the module holds that could set a flag: whole in a window, issued and not completed, or a
template of the running furlong (R78). -/
def State.holdsWords (s : State) : List (List Word512) :=
  s.windows.flatMap (fun (x : Window) => (groupWords x.words.length x.words).1 ++ x.parsed.map (fun (p : Nat × List Word512) => p.2)) ++
  s.flights.map (fun (f : Flight) => f.words) ++ s.runningTemplates

/-- Nothing the module holds can set a flag that is 0 (R78). -/
def State.flagDead (s : State) (held : List (List Word512)) (domain n : Nat) : Bool :=
  !s.flag domain n && !held.any (namesFlag domain n)

/-- A wait that only software can end: for all flags some flag cannot be set, for any flag none can (R78). -/
def State.waitIsHost (s : State) (held : List (List Word512)) (w : WaitCopy) : Bool :=
  !s.waitHolds w && (if w.any then w.flags.all (s.flagDead held w.domain) else w.flags.any (s.flagDead held w.domain))

/-- The words of a window that make no whole descriptor. -/
def Window.rest (x : Window) : List Word512 := (groupWords x.words.length x.words).2

/-- A window holds part of a descriptor (R78). -/
def Window.isPartial (x : Window) : Bool :=
  match x.rest with
  | [] => false
  | h :: _ => hWords h != 0 && decide (hWords h ≤ 4)

/-- What waits now for software alone (R78; R467, R483, R488 for the furlong and recovery waits). -/
def State.waitsNow (s : State) : List WaitKind :=
  let held := s.holdsWords
  ((s.flights.filter (fun (f : Flight) => match f.wait with
      | some w => !f.waitMet && s.waitIsHost held w
      | none => false)).map (fun (f : Flight) => WaitKind.flight f.id)) ++
  (((List.range 16).filter (fun w => (s.win w).isPartial)).map WaitKind.partialWords) ++
  (match s.furlong with
   | some fu => match fu.items with
     | .hostSync _ flag :: _ => if s.flag 8 flag then [] else [.hostSync]
     | _ => []
   | none => []) ++
  (if !s.hitch.events.isEmpty && s.creditsLeft == 0 then [.eventCredits] else []) ++
  (if !s.linkUp then [.linkDown] else []) ++
  (if s.stookState = 2 then [.drain (s.rf (recReg 0x168) 63 32)] else []) ++
  (if s.fillState = 1 then [.fillReady] else [])

/-- The host waits brought up to date: those that ended are dropped, and one that begins takes the limit in force (R79). -/
def State.refreshWaits (s : State) : State :=
  let now := s.waitsNow
  let limit := almUs (s.rf (hitchReg 0x110) 31 0)
  { s with hostWaits := (s.hostWaits.filter (fun (h : HostWait) => now.contains h.kind)) ++
      ((now.filter (fun k => !s.hostWaits.any (fun (h : HostWait) => h.kind == k))).map
        (fun k => (⟨k, s.now, limit, false⟩ : HostWait))) }

/-- The command window a host wait belongs to (R80): that of a descriptor that came from it, or of a held part of a
descriptor; the waits of a furlong's instances and host-sync points belong to none (log entry 71). -/
def State.waitWindow (s : State) : WaitKind → Option Nat
  | .partialWords w => some w
  | .flight id => match s.flight id with
    | some f => if f.fromFurlong then none else some f.window
    | none => none
  | _ => none

/-- HOST_WAIT_LATE: a wait that lasts beyond its start and limit pauses the job and is reported once (R79 to R81).
Its records name no work identifier (log entry 72). -/
def State.hostWaitLate (s : State) (i : Nat) : State :=
  match s.hostWaits[i]? with
  | none => s
  | some h =>
    if h.late || s.now ≤ h.start + h.limit || !s.waitsNow.contains h.kind then s
    else
      let s1 := { s with hostWaits := s.hostWaits.set i { h with late := true } }
      let s2 := (s1.pauseJob .pausedHostWait).raiseErr .hitch 0 2 0x0503 0 0 0
      let s3 := match s2.waitWindow h.kind with
        | some w => s2.raise .cmdwin w 4 0x0503 0
        | none => s2
      s3

/-- ALMANAC_TICK: an FC cycle. The host waits that began or ended in the cycle that ends are noted with its time
(R78, R79), the counter advances (R444), and an idle module is noticed (R493). -/
def State.almanacTick (s : State) : State := { s.refreshWaits.almAdvance.noteIdle with setNow := [], flagsNow := [] }

end Sys2Proof.Machine
end

