-- ==== Sys2Proof/Machine/RegRead.lean ====
section
/-!
DEFINITION. What registers read: the read-only fields that show the state of a unit, and the common registers (R55 to
R58). Fields that only hold a number stand in the register store; the words here are made from the state they show.
-/
namespace Sys2Proof.Machine

/-- A word with bit i set where p i holds, for i below n. -/
def maskWord (n : Nat) (p : Nat → Bool) : Nat := (List.range n).foldl (fun a i => a + (b2n (p i) <<< i)) 0

/-- A temperature as it reads: two's complement in 8 bits, 0 where none has been read. -/
def tempByte (t : Option Int) : Nat := (t.map (toTwos 8)).getD 0

/-! ### PG_STATUS and PG_CAPS0 (R55) -/

/-- A page's block has work in progress. -/
def State.pageBusy (s : State) (k : PageKind) (i : Nat) : Bool :=
  let class_ (c : Nat) : Bool := s.flights.any (fun f => f.cls == c)
  match k with
  | .cmdwin => !(s.win i).words.isEmpty || !(s.win i).parsed.isEmpty
  | .steward => s.steward.upd == .staging || s.steward.quote == .busy
  | .almanac => s.furlong.isSome
  | .power => s.power.goal.isSome || s.power.change.isSome
  | .journal => !s.journal.pending.isEmpty
  | .coulter => !s.coulter.samples.isEmpty
  | .coulterDec => s.coreBusy i
  | .sample => s.flights.any (fun f => f.cls == 5 && f.op == 3)
  | .live => s.coulter.live.any (fun l => l.begun)
  | .thresher => s.flights.any (fun f => f.cls == 6 && f.started)
  | .thrCh => s.chanBusy i
  | .swath | .transport => class_ 7
  | .recovery => class_ 0x0D
  | .furrow => s.arrayBusy i
  | .glean => s.gleanBusy i
  | .harrow => s.engineBusy i
  | .tilth => s.bankMoves.any (fun m => m.field == i)
  | .tilthTest => (s.plot i).slots.any (fun x => x.testing)
  | .granary => (s.stack i).state == 0
  | .granaryCache => class_ 0x0C
  | .drill => s.drillBusy (i / 4) (i % 4) != 0
  | .winnow => class_ 0x0A
  | .reeve => !(s.placeHeld i).isEmpty || (List.range 16).any (fun w => s.consumer w == i && !(s.win w).words.isEmpty)
  | .droop => (s.droopSt i).stretching
  | .dir | .hitch | .titheRo | .datawin | .swathPort | .ptp | .field => false

/-- A page's block runs with a unit mapped out (R130, R213, R288, R333, R72, R373). -/
def State.pageDegraded (s : State) (k : PageKind) (i : Nat) : Bool :=
  match k with
  | .furrow => (s.array i).state == 2
  | .harrow => (s.engine i).state == 2
  | .granary => decide (2 ≤ (s.stack i).state)
  | .granaryCache => (List.range 3).any (fun j => decide (2 ≤ (s.stack (3 * i + j)).state))
  | .coulter => s.coulter.cores.any (fun c => c == 2)
  | .coulterDec => s.core i == 2
  | .thresher => s.thr.lanes != 0
  | .reeve => (s.field i).coresFailed != 0 || s.steadFailed != 0
  | _ => false

/-- PG_STATUS. -/
def State.pageStatus (s : State) (k : PageKind) (i : Nat) : Nat :=
  b2n s.steward.ready + (b2n (s.pageBusy k i) <<< 1) + (b2n (s.rf (regAddr k i 0x040) 15 0 != 0) <<< 2) + (b2n (s.pageDegraded k i) <<< 3)

/-- The kinds of sample a core decodes (R340). -/
def coreKinds (c : Nat) : Nat := if c < 10 then 1 else if c < 14 then 0x0E else 0x30

/-! ### Words of the unit pages -/

/-- HITCH (R81). -/
def State.hitchView (s : State) (off : Nat) : Option Nat :=
  let h := s.hitch
  match off with
  | 0x100 => some (h.link.code + ((if h.link == .up then 8 else if h.link == .upNarrow then 4 else 0) <<< 8) +
      ((if s.linkUp then h.lanes else 0) <<< 24) + (h.version <<< 32))
  | 0x108 => some h.statusSent
  | 0x120 => some h.job.code
  | 0x148 => some h.events.length
  | _ => none

/-- ALMANAC (R469). -/
def State.almView (s : State) (off : Nat) : Option Nat :=
  match off with
  | 0x100 => some s.now
  | 0x110 => some (s.alm.state.code + (toTwos 32 s.alm.ratePpb <<< 8))
  | 0x138 => some (s.stepNow + (s.furlongCode <<< 32))
  | _ => none

/-- POWER (R510). -/
def State.powView (s : State) (off : Nat) : Option Nat :=
  let r := s.reg (powReg off)
  match off with
  | 0x100 => some (setBits r 7 0 s.power.state)
  | 0x118 => some (s.power.acMhz + (s.acMax <<< 16))
  | 0x120 => some (s.nextMhz + (b2n s.power.change.isSome <<< 16))
  | 0x130 => some (setBits (setBits r 2 2 (b2n s.isHot)) 1 1 (b2n (decide (bitsOf r 47 40 < bitsOf r 39 32))))
  | 0x148 => some (setBits r 39 32 (tempByte (s.dieTemp 8)))
  | _ => none

/-- COULTER (R339). -/
def State.coulterView (s : State) (off : Nat) : Option Nat :=
  let n (l : List Nat) : Nat := l.countP (fun c => s.core c != 2)
  if off = 0x138 then
    some (n (List.range 10) + (n [10, 11, 12, 13] <<< 8) + (n [14, 15] <<< 12) + (maskWord 16 (fun c => s.core c == 2) <<< 16))
  else none

/-- COULTER_DEC (R340). -/
def State.decView (s : State) (c off : Nat) : Option Nat :=
  let x := s.coreSample c
  match off with
  | 0x108 => some (c + ((x.elim 0 (fun y => y.d.kind)) <<< 16) + (s.core c <<< 24))
  | 0x110 => some (x.elim 0 (fun y => y.work))
  | 0x118 => some (x.elim 0 (fun y => y.w % 2 ^ 48))
  | _ => none

/-- SAMPLE (R360). -/
def State.sampleView (s : State) (off : Nat) : Option Nat :=
  match off with
  | 0x128 => some (s.cribUsed.length + (s.slotsFilling <<< 24) + (s.slotsReady <<< 32))
  | 0x130 => some (s.coulter.batches % 2 ^ 32)
  | _ => none

/-- LIVE (R361). -/
def State.liveView (s : State) (off : Nat) : Option Nat :=
  if 0x200 ≤ off && off < 0x400 && off % 0x40 = 0x20 then some (s.liveStatus ((off - 0x200) / 0x40)) else none

/-- THRESHER and THR_CH (R390, R391). -/
def State.thrView (s : State) (off : Nat) : Option Nat :=
  if off = 0x108 then some (8 - popCount 8 s.thr.lanes + ((s.thr.lanes % 256) <<< 8)) else none
def State.thrChView (s : State) (c off : Nat) : Option Nat :=
  match off with
  | 0x120 => some (s.chanStatus c)
  | 0x128 => some ((s.chan c).next % 2 ^ 32)
  | 0x130 => some (s.chan c).digest
  | _ => none

/-- SWATH, SWATH_PORT and TRANSPORT (R439 to R441). -/
def State.swathView (s : State) (off : Nat) : Option Nat :=
  match off with
  | 0x100 => some (s.steward.factory.baseMac % 2 ^ 48)
  | 0x110 => some (maskWord 8 (fun p => (s.port p).laserOk))
  | _ => none
def State.portView (s : State) (p off : Nat) : Option Nat :=
  if off = 0x108 then some (s.linkStates p)
  else if off = 0x110 then some (s.port p).lanes
  else if 0x120 ≤ off && off ≤ 0x158 then some (s.nbrWord p ((off - 0x120) / 8))
  else none
def State.tpView (s : State) (off : Nat) : Option Nat :=
  match off with
  | 0x118 => some s.transportStatus
  | 0x218 => some s.incarnation
  | _ => none

/-- RECOVERY (R490). -/
def State.recView (s : State) (off : Nat) : Option Nat :=
  match off with
  | 0x120 => some (setBits (s.reg (recReg 0x120)) 5 0 s.steward.pwrDomain)
  | 0x188 => some s.capacityWord
  | _ => none

/-- FIELD (R37). -/
def State.fieldView (s : State) (f off : Nat) : Option Nat :=
  let nb (o : Option Nat) : Nat := o.getD 0xFF
  match off with
  | 0x100 => some (f + (nb (eastOf f) <<< 8) + (nb (westOf f) <<< 16) + (([1, 0, 2, 3].getD (f % 4) 0) <<< 24) + ((f / 4) <<< 32))
  | 0x108 => some ((s.field f).west.code + ((s.field f).east.code <<< 8) + ((s.field f).steading.code <<< 16))
  | _ => none

/-- FURROW (R137). -/
def State.furrowView (s : State) (f off : Nat) : Option Nat :=
  let a := s.array f
  let loads (l : LoadState) : Nat := maskWord 4 (fun q => s.passFlights.any (fun g => match g.prog with
    | .pass p => p.runner == f && !p.swapped && p.load == l && (if (passF g.words).shape = 4 then (passF g.words).quadrant else 0) == q
    | _ => false))
  match off with
  | 0x108 => some (maskWord 4 (fun q => (a.quads.getD q ⟨0, none, 0, none, false⟩).active == 1) + (loads .loading <<< 4) + (loads .full <<< 8) +
      (a.shape <<< 16) + (a.state <<< 24))
  | 0x110 => some (8 + ((List.range 8).countP (fun g => (s.array g).state != 2 && !s.lost g) <<< 8) + (maskWord 8 (fun g => (s.array g).state == 2) <<< 16))
  | 0x118 => some (maskWord 8 (fun g => (s.array g).hostedBy == some f) + (a.hostedBy.getD 0xFF <<< 8))
  | _ => none

/-- GLEAN (R186). -/
def State.gleanView (s : State) (f off : Nat) : Option Nat :=
  if off = 0x108 then
    some (s.gleanRunning f + (min 64 (s.gleanQueued f) <<< 16) + (s.gleanMeta.countP (fun (m : Nat × Nat) => m.1 / 2048 == f && mPoison m.2) <<< 32))
  else none

/-- HARROW (R218). -/
def State.harrowView (s : State) (e off : Nat) : Option Nat :=
  let x := s.engine e
  match off with
  | 0x108 => some (e + (min 64 (s.engineQueued e) <<< 8) + (s.threadsActive e <<< 16) + (x.state <<< 24))
  | 0x110 => some (16 + ((List.range 16).countP (fun g => (s.engine g).state != 2 && !s.lost (g / 2)) <<< 8) + (maskWord 16 (fun g => (s.engine g).state == 2) <<< 32))
  | 0x118 => some (x.hostedBy.getD 0xFF + (maskWord 16 (fun g => (s.engine g).hostedBy == some e) <<< 16))
  | _ => none

/-- TILTH and TILTH_TEST (R264, R266). -/
def State.tilthView (s : State) (f off : Nat) : Option Nat :=
  match off with
  | 0x120 => some (s.pendingBits f 0 + (s.pendingBits f 1 <<< 32))
  | 0x150 => some (s.pendingBits f 2)
  | _ => none
def State.plotView (s : State) (f off : Nat) : Option Nat :=
  match off with
  | 0x108 => some (s.ttStatus f)
  | 0x130 => some (s.ttSpares f)
  | 0x140 => some (s.ttEntry f)
  | _ => none

/-- GRANARY (R292). -/
def State.granaryView (s : State) (n off : Nat) : Option Nat :=
  let x := s.stack n
  if off = 0x108 then some (min 255 x.lanes + (n <<< 8) + (b2n x.mapoutPending <<< 16) + (x.state <<< 24)) else none

/-- DRILL (R316). -/
def State.drillView (s : State) (f e off : Nat) : Option Nat :=
  if off = 0x100 then some (e + (s.drillBusy f e <<< 4))
  else if 0x180 ≤ off && off < 0x1C0 then some (s.queueStatus (f * 32 + e + 4 * ((off - 0x180) / 8)))
  else if 0x1C0 ≤ off && off < 0x200 then some (s.ring (f * 32 + e + 4 * ((off - 0x1C0) / 8))).seq
  else none

/-- WINNOW (R241). -/
def State.winnowView (s : State) (f off : Nat) : Option Nat :=
  match off with
  | 0x120 => some (b2n (s.winnow.masks.contains (s.rf (regAddr .winnow f 0x118) 15 0)))
  | 0x128 => some (s.probingTags + (s.winnow.openSteps.length <<< 17) + (s.winnow.lastClosed <<< 32))
  | _ => none

/-- REEVE (R74). -/
def State.reeveView (s : State) (f off : Nat) : Option Nat :=
  match off with
  | 0x108 => some (s.coresWorking f + (s.coresWorking 8 <<< 8) + ((s.field f).coresFailed <<< 16) + (s.steadFailed <<< 24))
  | 0x110 => some ((s.slotImg s.steward.booted).version % 2 ^ 32)
  | _ => none

/-- DROOP (R511). -/
def State.droopView (s : State) (f off : Nat) : Option Nat :=
  match off with
  | 0x108 => some (s.tableMv f (s.droopSt f).mhz + (s.freeBits 16 <<< 16) + (tempByte (s.dieTemp f) <<< 40) +
      (s.rf (droopReg f 0x108) 55 48 <<< 48) + (b2n (s.dieSuspect f) <<< 56))
  | 0x118 => some (s.tableMv f (300 + 25 * s.rf (droopReg f 0x110) 4 0))
  | _ => none

/-- A word that shows the state of a unit, by page. -/
def State.view (s : State) (k : PageKind) (i off : Nat) : Option Nat :=
  match k with
  | .dir => s.dirView off
  | .hitch => s.hitchView off
  | .steward => s.stewardView off
  | .almanac => s.almView off
  | .power => s.powView off
  | .journal => s.journalView off
  | .cmdwin => if off = 0x110 then some ((s.win i).words.length + ((s.win i).code <<< 16)) else none
  | .coulter => s.coulterView off
  | .coulterDec => s.decView i off
  | .sample => s.sampleView off
  | .live => s.liveView off
  | .thresher => s.thrView off
  | .thrCh => s.thrChView i off
  | .swath => s.swathView off
  | .swathPort => s.portView i off
  | .transport => s.tpView off
  | .recovery => s.recView off
  | .field => s.fieldView i off
  | .furrow => s.furrowView i off
  | .glean => s.gleanView i off
  | .harrow => s.harrowView i off
  | .tilth => s.tilthView i off
  | .tilthTest => s.plotView i off
  | .granary => s.granaryView i off
  | .drill => s.drillView (i / 4) (i % 4) off
  | .winnow => s.winnowView i off
  | .reeve => s.reeveView i off
  | .droop => s.droopView i off
  | .titheRo | .datawin | .ptp | .granaryCache => none

/-- Counters of traffic and time inside a unit whose events no command carries (log entry 19). -/
def freeCounter (k : PageKind) (off : Nat) : Bool :=
  match k with
  | .hitch => off == 0x130
  | .power => off == 0x158
  | .coulterDec => off == 0x130
  | .swathPort => off == 0x160 || off == 0x168 || off == 0x170 || off == 0x178
  | .glean => off == 0x138
  | .tilth => off == 0x138 || off == 0x140 || off == 0x148
  | .granary => off == 0x130 || off == 0x138 || off == 0x140
  | .granaryCache => off == 0x118 || off == 0x120 || off == 0x128 || off == 0x138
  | .reeve => off == 0x128
  | .droop => off == 0x138
  | _ => false

/-- The value a register reads (R55, R58). -/
def State.word (s : State) (k : PageKind) (i off : Nat) : Nat :=
  if off = 0x000 then pageId k i
  else if off = 0x010 && k == .coulterDec then coreKinds i
  else if off = 0x028 then s.pageStatus k i
  else if (regFields k off).isEmpty then 0
  else (s.view k i off).getD (s.reg (regAddr k i off))

/-- A decoder core that has held no sample since its busy_cycles was last settled has been busy for no cycle. -/
def State.neverBusy (s : State) (k : PageKind) (i off : Nat) : Bool :=
  k == .coulterDec && (storeGet s.settled (regAddr k i off + 1)).isNone && !s.coreBusy i

/-- A counter of `freeCounter` brought up to date: it has risen by a free amount since it was last settled, unless no FC
cycle has passed. It starts at 0, never falls, and is kept and cleared as its page says (log entry 19). -/
def State.settle (s : State) (k : PageKind) (i off : Nat) : State :=
  let a := regAddr k i off
  let t := s.alm.acc.toNat
  if !freeCounter k off || (storeGet s.settled a).getD 0 == t || s.neverBusy k i off then s
  else
    { (s.bumpBy a (s.freeBits 64)).drawn with
      settled := if s.coreBusy i then storePut s.settled a t else storePut (storeDel s.settled (a + 1)) a t }

/-- A read draws a free value where the word holds one. -/
def readsFree (k : PageKind) (off : Nat) : Bool := k == .droop && off == 0x108

end Sys2Proof.Machine
end

