-- ==== Sys2Proof/Machine/RegWrite.lean ====
section
/-!
DEFINITION. Register writes (R49, R52 to R59): the checks in their order, what each page allows, the journal, and the
effects that its chapter gives a write; block resets (R567).
-/
namespace Sys2Proof.Machine

/-! ### Places that configuration registers name -/

/-- n bytes from a lie in the Coulter buffers, or wholly in one Field's Granary region (R339, R360). -/
def inPool (a n : Nat) : Bool :=
  (decide (coulterBufBase ≤ a) && decide (a + n ≤ stagingBufBase)) ||
  (decide (granaryBase ≤ a) && decide (a < granaryBase + 8 * granaryRegion) && decide ((a - granaryBase) % granaryRegion + n ≤ granaryRegion))

/-- The live area (R361). -/
def State.liveBase (s : State) : Nat := s.rf (regAddr .live 0 0x100) 47 0
def State.liveBytes (s : State) : Nat := s.rf (regAddr .live 0 0x108) 15 0 * 0x200000

/-- COULTER_ARENA fits (R339). -/
def State.arenaOk (s : State) (base size : Nat) : Bool :=
  inPool base size && !rangesOverlap [(base, size)] [(s.liveBase, s.liveBytes)]

/-- The live area fits: in the Coulter buffers, below the arena (R361). -/
def State.liveAreaOk (s : State) (base size : Nat) : Bool :=
  decide (coulterBufBase ≤ base) && decide (base + size ≤ stagingBufBase) && decide (base + size ≤ s.arenaBase)

/-- The windrow fits, or there is none (R360). -/
def State.windrowOk (s : State) (base granules slots : Nat) : Bool :=
  let n := granules * granule * slots
  n == 0 || (inPool base n && !rangesOverlap [(base, n)] [(s.arenaBase, s.arenaGranules * granule)])

/-- The crib fits, or there is none (R360). -/
def cribOk (base size : Nat) : Bool :=
  size == 0 || (decide (2 ≤ size) && decide (size ≤ 110592) && decide (granaryBase ≤ base) && decide (base < granaryBase + 8 * granaryRegion) &&
    decide ((base - granaryBase) % granaryRegion + size * 0x200000 ≤ granaryRegion))

/-- An address of a table that Thresher or Swath reads: Tilth, Granary or the Steading buffers (R374, R441). -/
def inTablePlace (a : Nat) : Bool := a == 0 || inTilthAny a 64 || inGranary a 64 || inSteadingBuf a 64

/-- A vocabulary's sizes are in range; a vocabulary that is absent may have none (R339). -/
def vocabSizesOk (v : Nat) : Bool :=
  let tokens := bitsOf v 19 0
  let ranges := bitsOf v 31 20
  let merge := bitsOf v 39 32
  let inRange (x lo hi : Nat) : Bool := decide (lo ≤ x) && decide (x ≤ hi)
  if tokens = 0 then (ranges == 0 || inRange ranges 1 4095) && (merge == 0 || inRange merge 8 24)
  else inRange tokens 256 262144 && inRange ranges 1 4095 && inRange merge 8 24

/-! ### Block reset (R567) -/

/-- A page whose chapter refuses a block reset while it is busy (R135, R164, R218, R315, R340, R391). -/
def resetNeedsIdle : PageKind → Bool
  | .furrow | .glean | .harrow | .drill | .coulterDec | .thrCh => true
  | _ => false

/-- Counters that a page's chapter lets its block reset clear, and CMDWIN.issued (R71, R264, R266, R292, R294, R315). -/
def resetClears (k : PageKind) (off : Nat) : Bool :=
  let span (lo hi : Nat) : Bool := decide (lo ≤ off) && decide (off ≤ hi)
  match k with
  | .cmdwin => off == 0x118
  | .tilth => span 0x128 0x148
  | .tilthTest => span 0x118 0x128
  | .granary => span 0x120 0x158
  | .granaryCache => span 0x118 0x138
  | .drill => span 0x200 0x230
  | _ => false

/-- A counter cleared, and settled at 0. -/
def State.clearCounter (s : State) (a : Nat) : State :=
  { s.setReg a 0 with settled := storePut s.settled a s.alm.acc.toNat }

/-- The registers of a page: RW fields at their reset values, and the counters its chapter clears at 0. -/
def State.resetRegs (s : State) (k : PageKind) (i : Nat) : State :=
  (fieldsOf k).foldl (fun (t : State) (f : RegField) =>
    if f.acc == .rw then t.setRf (regAddr k i f.off) f.hi f.lo f.reset
    else if resetClears k f.off then t.clearCounter (regAddr k i f.off) else t) s

/-- A block reset of a page. Beyond its registers it returns the progress that the page shows: words held, queue fills,
running counts and the state fields of queues and streams (log entry 23). -/
def State.blockReset (s : State) (k : PageKind) (i : Nat) : State :=
  let t := s.resetRegs k i
  match k with
  | .cmdwin => t.resetWindow i
  | .hitch => t.resumeJob
  | .furrow => t.resetArrayBlock i
  | .glean => t.resetGlean i
  | .drill => t.resetDrill (i / 4) (i % 4)
  | .tilthTest => t.ttReset i
  | .sample => t.resetSamplePage
  | .live => t.resetStreams
  | .winnow => t.dropSteps
  | _ => t

/-! ### PG_CTRL (R55, R71, R264) -/

/-- A write of PG_CTRL is accepted. -/
def State.ctrlOk (s : State) (k : PageKind) (i v : Nat) : Bool :=
  k != .titheRo && (!enableFixed k || bitOf v 0) &&
  !((k == .tilth || k == .granary || k == .granaryCache) && bitOf v 2) &&
  !(bitOf v 1 && resetNeedsIdle k && s.pageBusy k i) &&
  (k != .thrCh || !bitOf v 0 || s.enabled k i || (s.enableChannel i).isSome)

/-- A write of PG_CTRL: the enable takes effect, then a block reset. -/
def State.ctrlWrite (s : State) (k : PageKind) (i v : Nat) : State :=
  let was := s.enabled k i
  let on := bitOf v 0
  let s0 := if k = .thrCh && on && !was then (s.enableChannel i).getD s else s
  let s1 := s0.setReg (regAddr k i 0x020) (v &&& 5)
  let s2 :=
    if k = .winnow && on && !was then s1.enableWinnow
    else if k = .swathPort && on != was then (s1.enablePort i on).noteCapacity s1
    else s1
  if bitOf v 1 then s2.blockReset k i else s2

/-! ### What each page allows (R52: 0x0206) -/

/-- Every writable field of a write lies in its range. -/
def inRanges (fs : List RegField) (v : Nat) : Bool :=
  fs.all (fun f => f.acc == .ro ||
    (decide (f.min ≤ bitsOf v f.hi f.lo) && decide (bitsOf v f.hi f.lo ≤ f.max) && decide (bitsOf v f.hi f.lo % max 1 f.mult = 0)))

/-- A force_fail bit that reads 1 stays 1 (R137). -/
def forceOk (old v : Nat) : Bool := old &&& v == old

/-- The value of a whole SAMPLE configuration word is accepted (R360). -/
def State.sampleOk (s : State) (off v : Nat) : Bool :=
  let w := s.reg (regAddr .sample 0 0x108)
  !s.enabled .sample 0 &&
  match off with
  | 0x100 => s.windrowOk (bitsOf v 47 0) (bitsOf w 47 32) (bitsOf w 8 0)
  | 0x108 => decide (bitsOf v 23 16 < bitsOf v 8 0) && s.windrowOk (s.rf (regAddr .sample 0 0x100) 47 0) (bitsOf v 47 32) (bitsOf v 8 0)
  | 0x110 => cribOk (bitsOf v 47 0) (s.rf (regAddr .sample 0 0x118) 23 0)
  | _ => cribOk (s.rf (regAddr .sample 0 0x110) 47 0) (bitsOf v 23 0)

/-- STEWARD_RESET (R548): 1 warm, 2 cold, or a retrain alone. -/
def resetWordOk (v : Nat) : Bool := v == 1 || v == 2 || v == 4

/-- A page allows a write whose fields are in range. -/
def State.writeOk (s : State) (src : Source) (k : PageKind) (i off v : Nat) : Bool :=
  let old := s.reg (regAddr k i off)
  if off = 0x020 then s.ctrlOk k i v
  else if off = 0x040 then v == 0
  else if off < 0x100 then true
  else
    match k with
    | .hitch => off != 0x118 || v != 3
    | .steward =>
      match off with
      | 0x110 => resetWordOk v
      | 0x128 | 0x130 => s.steward.upd != .staging
      | 0x138 => s.updAllowed (bitsOf v 2 0)
      | 0x150 => s.quoteOk v
      | _ => true
    | .almanac =>
      match off with
      | 0x118 => s.alm.state == .free
      | 0x130 => s.furlong.isNone
      | 0x148 => s.ledgerOk (bitsOf v 47 0) (s.rf (almReg 0x150) 31 0)
      | 0x150 => s.ledgerOk (s.rf (almReg 0x148) 47 0) (bitsOf v 31 0)
      | 0x160 => s.rebaseOk v
      | _ => true
    | .power =>
      match off with
      | 0x100 => s.targetOk src (bitsOf v 23 16)
      | 0x110 => decide (bitsOf v 15 0 ≤ bitsOf v 31 16)
      | 0x120 => s.changeOpen && s.mhzOk (bitsOf v 15 0)
      | 0x128 => s.changeOk v
      | _ => true
    | .cmdwin => off != 0x100 || (!s.enabled .cmdwin i && (s.win i).words.isEmpty)
    | .coulter =>
      match off with
      | 0x100 => !s.enabled .coulter 0 && s.arenaOk (bitsOf v 47 21 * 0x200000) (s.rf (coulterReg 0x108) 15 0 * 0x200000)
      | 0x108 => !s.enabled .coulter 0 && s.arenaOk s.arenaBase (bitsOf v 15 0 * 0x200000) && decide (s.rf (coulterReg 0x120) 47 0 ≤ bitsOf v 15 0 * 0x200000)
      | 0x120 => decide (bitsOf v 47 0 ≤ s.arenaGranules * granule)
      | 0x148 | 0x158 | 0x168 | 0x178 => vocabSizesOk v
      | _ => true
    | .coulterDec | .furrow | .harrow => off != 0x100 || forceOk (old &&& 2) v
    | .granary => off != 0x100 || forceOk (old &&& 1) v
    | .reeve => off != 0x100 || forceOk old v
    | .sample => if off = 0x120 then !(bitOf v 0 && s.batchRuns) else s.sampleOk off v
    | .live =>
      if off = 0x100 then s.coulter.live.all (fun l => !l.on) && s.liveAreaOk (bitsOf v 47 0) s.liveBytes
      else if off = 0x108 then s.coulter.live.all (fun l => !l.on) && s.liveAreaOk s.liveBase (bitsOf v 15 0 * 0x200000)
      else if off % 0x40 = 0 then (s.liveWrite ((off - 0x200) / 0x40) v).isSome
      else true
    | .thresher => off != 0x100 || (List.range 32).all (fun c => !s.enabled .thrCh c)
    | .thrCh =>
      !s.enabled .thrCh i &&
      (match off with
       | 0x100 => inTablePlace (bitsOf v 47 0)
       | 0x118 => decide (1 ≤ v) && decide (v ≤ s.rf (thrChReg i 0x108) 15 0)
       | _ => true)
    | .swathPort => off != 0x100 || bitsOf v 1 0 == bitsOf old 1 0 || !s.enabled .swathPort i
    | .transport =>
      if off = 0x100 then s.swath.plan == 0 && inTablePlace (bitsOf v 47 0)
      else if off = 0x108 then s.swath.plan == 0 && decide (bitsOf v 47 32 < bitsOf v 31 16)
      else if off = 0x110 then v != 3 && (!bitOf v 0 || s.planLoad.isSome)
      else if 0x300 ≤ off then !(s.live ((off - 0x300) / 0x40)).on
      else true
    | .ptp =>
      match off with
      | 0x100 => (bitsOf old 1 0 == 0 || bitsOf v 1 0 == 0) && (bitsOf v 47 40 == 0 || decide (0xF9 ≤ bitsOf v 47 40))
      | _ => s.rf (ptpReg 0x100) 1 0 == 0
    | .recovery =>
      match off with
      | 0x100 | 0x108 => !s.recBusy
      | 0x110 => !s.recBusy && stagingOk (bitsOf v 47 0) (s.rf (recReg 0x118) 19 0)
      | 0x118 => !s.recBusy && stagingOk (s.rf (recReg 0x110) 47 0) (bitsOf v 19 0)
      | 0x120 => !bitOf old 8 || bitsOf v 47 32 == bitsOf old 47 32
      | 0x128 | 0x130 => !bitOf (s.reg (recReg 0x120)) 8
      | 0x170 => s.drainOk v
      | _ => true
    | .tilth =>
      match off with
      | 0x100 => s.layoutOk i v
      | 0x108 => s.bankWriteOk i 0 v
      | 0x110 => s.bankWriteOk i 1 v
      | _ => s.bankWriteOk i 2 v
    | .granaryCache =>
      match off with
      | 0x108 => decide (bitsOf v 39 32 + bitsOf v 31 24 + bitsOf v 23 16 + bitsOf v 15 8 ≤ 256)
      | 0x110 => bitsOf v 1 0 != 3
      | _ => true
    | .drill => decide (off < 0x170)
    | .winnow =>
      match off with
      | 0x100 => (List.range 8).all (fun f => !s.enabled .winnow f) && s.winnowConfigOk v
      | 0x110 => decide (bitsOf v 15 0 < s.tagCount i)
      | _ => true
    | .droop =>
      match off with
      | 0x100 =>
        let r := bitsOf v 47 32
        r == 0 || (decide (8 ≤ r) && decide (r ≤ 4096) && decide (r % 8 = 0))
      | _ => true
    | .dir | .titheRo | .journal | .datawin | .swath | .field | .glean | .tilthTest => true

/-! ### The checks of R52, in order -/

/-- A write is entered in the journal: it writes an RWJ field, or is an update command (R58, R541). -/
def journals (k : PageKind) (off : Nat) : Bool :=
  (regFields k off).any (fun f => f.acc == .rwj) || (k == .steward && off == 0x138)

/-- The code with which a write is refused, 0 if it is not: not writable, a reserved bit, out of range or forbidden, and
the journal full (R52, R542). -/
def State.writeCode (s : State) (src : Source) (k : PageKind) (i off v : Nat) : Nat :=
  let fs := regFields k off
  if writableMask fs = 0 then 0x0204
  else if v &&& definedMask fs ≠ v then 0x0205
  else if !inRanges fs v || !s.writeOk src k i off v then 0x0206
  else if journals k off && s.journalFullNow then 0x0920
  else 0

/-! ### Effects -/

/-- The bits that a write stores: those of RW and RWJ fields. -/
def storeMask (fs : List RegField) : Nat := definedMask (fs.filter (fun f => f.acc == .rw || f.acc == .rwj))

/-- A register word with its stored bits replaced by a write. -/
def mergeWord (fs : List RegField) (old v : Nat) : Nat := old - (old &&& storeMask fs) + (v &&& storeMask fs)

/-- Kinds of journal entry (R541). -/
def journalKind (k : PageKind) (off : Nat) : Nat := if k = .power && off = 0x100 then 3 else 0

/-- A force_fail bit that goes from 0 to 1. -/
def newForce (old v b : Nat) : Bool := bitOf v b && !bitOf old b

/-- REEVE.force_fail fails a core; which unissued descriptors of its place it holds is a free value (R72). -/
def State.forceReeve (s : State) (place c : Nat) : State :=
  let all := s.placeHeld place
  let at_ := s.freeBits 64 % (all.length + 1)
  let s1 := s.drawn
  let n := if at_ < all.length then 1 + s1.freeBits 64 % (all.length - at_) else 0
  s1.drawn.failReeve place c 0x0B43 4 ((all[at_]?).elim 0 (fun d => hWorkId (dword d 0))) n

/-- STEWARD_RESET: a retrain, a warm or a cold reset (R43, R532, R533). -/
def State.resetWrite (s : State) (src : Source) (v : Nat) : State :=
  if v = 4 then s.retrainHitch false
  else if v = 1 then s.requestWarm src.code
  else s.coldReset 5 (stewReg 0x110) src.code

/-- The effect of an accepted write beyond its journal entry. -/
def State.writeEffect (s : State) (src : Source) (k : PageKind) (i off v : Nat) : State :=
  let a := regAddr k i off
  let old := s.reg a
  let new := mergeWord (regFields k off) old v
  let b := s.setReg a new
  if off = 0x020 then s.ctrlWrite k i v
  else if off = 0x030 then s.setReg a (old &&& (2 ^ 64 - 1 - (v - (v &&& s.setBitsNow a))))
  else if off = 0x040 then
    (((s.setReg a 0).setReg (regAddr k i 0x048) 0).setReg (regAddr k i 0x050) 0).setReg (regAddr k i 0x058) 0
  else if off < 0x100 then b
  else
    match k with
    | .hitch =>
      if off = 0x118 then (if bitOf v 0 then s.resumeJob else if bitOf v 1 then s.pauseJob .pausedSoftware else s)
      else if off = 0x110 then s.refreshWaits.setReg a new
      else b
    | .steward =>
      match off with
      | 0x110 => s.resetWrite src v
      | 0x138 => s.updCommand src.code (bitsOf v 2 0)
      | 0x150 =>
        let t := if bitOf v 0 then s.quoteStart else s
        if bitOf v 1 then t.writeCerts else t
      | _ => b
    | .almanac =>
      match off with
      | 0x150 => { (s.setReg a (bitsOf v 31 0)) with ledgerHeld := 0 }
      | 0x158 => { s with alm := { s.alm with rebaseSec := bitsOf v 47 32 } }
      | 0x160 => s.submitRebase v
      | 0x168 => s.flagControl v
      | _ => b
    | .power =>
      match off with
      | 0x100 => s.setTarget (bitsOf v 23 16)
      | 0x128 => s.submitChange v
      | _ => b
    | .cmdwin =>
      if off = 0x108 then
        let x := s.win i
        s.setWin i { x with fullLatch := x.fullLatch && !bitOf v 0, halted := x.halted && !bitOf v 1 }
      else b
    | .coulterDec => if off = 0x100 && newForce old v 1 then (b.failCore i 0x070F 4).noteCapacity b else b
    | .furrow => if off = 0x100 && newForce old v 1 then (b.forceArray i).noteCapacity b else b
    | .harrow => if off = 0x100 && newForce old v 1 then (b.forceEngine i).noteCapacity b else b
    | .granary => if off = 0x100 && newForce old v 0 then (b.failStack i 0x0418).noteCapacity b else b
    | .reeve =>
      if off = 0x100 then
        (((List.range 8).filter (newForce old v)).foldl (fun t c => t.forceReeve i c) b).noteCapacity b
      else b
    | .sample =>
      if off = 0x120 then (if bitOf v 0 then s.emptyCrib else s)
      else if off = 0x110 || off = 0x118 then b.emptyCrib
      else b.emptyWindrow
    | .live => if 0x200 ≤ off && off % 0x40 = 0 then (s.liveWrite ((off - 0x200) / 0x40) v).getD s else b
    | .swathPort =>
      if off = 0x100 && bitsOf v 1 0 ≠ bitsOf old 1 0 then (b.enablePort i false).noteCapacity b else b
    | .transport =>
      if off = 0x110 then
        if bitOf v 0 then (s.planLoad.getD s).noteCapacity s else if bitOf v 1 then s.planUnload.noteCapacity s else s
      else b
    | .recovery =>
      match off with
      | 0x120 => s.writePair new
      | 0x170 => s.drainAck v
      | 0x180 => s.fillReady v
      | _ => b
    | .tilth =>
      match off with
      | 0x108 => s.bankWrite i 0 v
      | 0x110 => s.bankWrite i 1 v
      | 0x118 => s.bankWrite i 2 v
      | _ => b
    | .tilthTest => if off = 0x100 then s.ttWrite i new else b
    | .granaryCache => if off = 0x100 then b.trimKept i else b
    | .winnow =>
      match off with
      | 0x100 => (List.range 8).foldl (fun t f => t.setReg (regAddr .winnow f 0x100) new) s
      | 0x110 => ((List.range 8).foldl (fun t f => t.setReg (regAddr .winnow f 0x110) new) s).maskTag v
      | _ => b
    | .dir | .titheRo | .journal | .datawin | .coulter | .thresher | .thrCh | .swath | .ptp | .field | .glean | .drill | .droop => b

/-- An accepted RWJ write with its journal entry: address, old and new word, source (R59). -/
def State.writeJournaled (s : State) (src : Source) (k : PageKind) (i off v : Nat) : State :=
  let old := s.word k i off
  let s1 := if (regFields k off).any (fun f => f.acc == .rwj) then
      s.journalAdd (regAddr k i off) src.code (journalKind k off) old (mergeWord (regFields k off) old v)
    else s
  s1.writeEffect src k i off v

/-- A write refused because the journal is full: counted, with its event (R542). -/
def State.journalRefused (s : State) : State := (s.bump (journalReg 0x1A8)).raise .journal 0 0 0x0920 0

/-! ### Register transactions (R28, R30, R48, R52) -/

/-- The page that an access of n bytes lies in; none where a byte lies in a reserved page or outside register space. -/
def pageAt (a n : Nat) : Option (PageKind × Nat) :=
  if 0x10000000 < a + n then none
  else
    match pageOf ((a + n - 1) / 0x1000) with
    | none => none
    | some _ => pageOf (a / 0x1000)

/-- The code of an access that lies in no page (R28, R29, R31): a write to the Swath retransmit buffers is refused as
read-only, and any other access outside register space as unmapped. -/
def State.outsideCode (s : State) (write : Bool) (a n : Nat) : Nat :=
  if write && touchesSwathBuf a n && s.populated a n then 0x0203 else 0x0202

/-- A write through the register fabric. -/
def State.regWrite (s : State) (src : Source) (a v : Nat) : Reply :=
  match pageAt a 8 with
  | none => .no s (s.outsideCode true a 8)
  | some (k, i) =>
    let off := a % 0x1000
    if a % 8 ≠ 0 then .no s 0x0207
    else if isPort k off then .no s 0x0208
    else
      let code := s.writeCode src k i off v
      if code = 0x0920 then .no s.journalRefused code
      else if code ≠ 0 then .no s code
      else .ok (s.writeJournaled src k i off v)

/-- A read through the register fabric. -/
def State.regRead (s : State) (a : Nat) : Reply :=
  match pageAt a 8 with
  | none => .no s 0x0202
  | some (k, i) =>
    let off := a % 0x1000
    if a % 8 ≠ 0 then .no s 0x0207
    else if isPort k off then .no s 0x0208
    else
      let t := s.settle k i off
      ⟨if readsFree k off then t.drawn else t, 0, t.word k i off⟩

end Sys2Proof.Machine
end

