-- ==== Sys2Proof/Machine/Port.lean ====
section
/-!
DEFINITION. Requests on Hitch: a flit received and answered (R39 to R42, R48 to R52), the data windows (R61, R62), the
command port (R64), and failing a unit through its page.
-/
namespace Sys2Proof.Machine

/-! ### The ports -/

def dwReg (w off : Nat) : Nat := regAddr .datawin w off
def State.dwAddr (s : State) (w : Nat) : Nat := s.rf (dwReg w 0x100) 47 0
def State.dwLimit (s : State) (w : Nat) : Nat := s.rf (dwReg w 0x108) 47 0

/-- The code with which an access to DW_PORT is refused, 0 if it is not (R28, R29, R62, R257, R494). -/
def State.dwCode (s : State) (w : Nat) (write : Bool) : Nat :=
  let a := s.dwAddr w
  if s.asleep then 0x0807
  else if s.dwLimit w < a + 64 then 0x0201
  else if touchesRegs a 64 then 0x020A
  else if !s.populated a 64 then 0x0202
  else if write && touchesSwathBuf a 64 then 0x0203
  else if !write && s.readsPoison a 64 then poisonCode a
  else 0

/-- The hint that a data window's requests carry: that of class CTRL on the Field they reach (R272, R275). -/
def State.ctrlHint (s : State) (a : Nat) : Nat := s.classHint 0 a

/-- A port access was refused: counted, DW_ADDR unchanged (R62). -/
def State.dwRefused (s : State) (w code : Nat) : Reply := .no (s.bump (dwReg w 0x118)) code

/-- DW_ADDR advances, and the bytes moved are counted (R61). -/
def State.dwMoved (s : State) (w : Nat) : State :=
  ((s.setRf (dwReg w 0x100) 47 0 (s.dwAddr w + 64)).bumpBy (dwReg w 0x110) 64).leaveIdle

/-- A WORD_WRITE to DW_PORT (R61). -/
def State.dwWrite (s : State) (w data : Nat) : Reply :=
  let code := s.dwCode w true
  let a := s.dwAddr w
  if code ≠ 0 then s.dwRefused w code
  else .ok (((s.store a (leBytes 64 data)).writeHint a 64 (s.ctrlHint a)).dwMoved w)

/-- A WORD_READ of DW_PORT (R61). -/
def State.dwRead (s : State) (w : Nat) : Reply :=
  let code := s.dwCode w false
  let a := s.dwAddr w
  if code ≠ 0 then s.dwRefused w code
  else ⟨(s.readHint a 64 (s.ctrlHint a)).dwMoved w, 0, s.num a 64⟩

/-- A word access (R28, R52): to a port's base, or refused. -/
def State.wordAccess (s : State) (a : Nat) (write : Bool) (data : Nat) : Reply :=
  match pageAt a 64 with
  | none => .no s (s.outsideCode write a 64)
  | some (k, i) =>
    let off := a % 0x1000
    if !isPort k off || off ≠ 0x200 then .no s 0x0207
    else if k = .datawin then (if write then s.dwWrite i data else s.dwRead i)
    else if write then (if s.asleep then .no s 0x0807 else s.cmdPort i (BitVec.ofNat 512 data))
    else .ok s

/-! ### Requests (R48 to R52) -/

/-- The response to an executed request; a refused one is counted (R49). -/
def Reply.send (r : Reply) (tag a : Nat) : State :=
  if r.code = 0 then r.st.respond tag a 0 r.data else (r.st.bump (hitchReg 0x128)).respond tag a 2 r.code

/-- A request executed with the fabric open. A reset that it asks for begins after its OK response (R51, R533). -/
def State.execRequest (s : State) (kind tag a payload : Nat) : State :=
  if kind = 1 then (s.regRead a).send tag a
  else if kind = 2 then
    let v := payload % 2 ^ 64
    if a = stewReg 0x110 && (s.regWrite .hitch a v).code = 0 then ((s.respond tag a 0 0).regWrite .hitch a v).st
    else (s.regWrite .hitch a v).send tag a
  else if kind = 3 then (s.wordAccess a false 0).send tag a
  else (s.wordAccess a true payload).send tag a

/-- The tag names a request that the module has not yet answered: it is held, or its response waits for room in the
replay buffer (R41, R42, R51). -/
def State.tagBusy (s : State) (tag : Nat) : Bool :=
  s.hitch.held.any (fun h => h.tag == tag) ||
  s.hitch.txQueue.any (fun (f : Flit) => bitsOf f.header.toNat 3 0 == 5 && bitsOf f.header.toNat 15 8 == tag)

/-- A request held through QUIESCE: its answer waits; one whose tag is outstanding is refused (R42, R51). -/
def State.holdRequest (s : State) (tag a : Nat) : State :=
  let twice := s.tagBusy tag
  let s1 := if twice then s.bump (hitchReg 0x128) else s
  { s1 with hitch := { s1.hitch with held := s1.hitch.held ++ [if twice then ⟨tag, a, 2, 0x0209⟩ else ⟨tag, a, 1, 0x0502⟩] } }

/-- A host request that the link has taken. -/
def State.request (s : State) (kind tag a payload : Nat) : State :=
  if s.steward.warm then (if s.steward.stage = 0x20 then s.holdRequest tag a else s.respond tag a 1 0x0502)
  else if !s.steward.fabricOpen then s.respond tag a 1 0x0501
  else if s.tagBusy tag then (Reply.no s 0x0209).send tag a
  else s.execRequest kind tag a payload

/-- A numbered flit breaks R40. -/
def flitBad (header payload : Nat) : Bool :=
  let kind := bitsOf header 3 0
  bitsOf header 7 4 != 0 || kind == 5 || kind == 6 || bitsOf header 15 8 == 0xFF ||
  ((kind == 1 || kind == 3) && payload != 0) || (kind == 2 && payload / 2 ^ 64 != 0)

/-- A flit received from the host (R39 to R41). A numbered flit is taken only in order. -/
def State.receiveFlit (s : State) (seq header payload : Nat) : State :=
  let kind := bitsOf header 3 0
  if kind = 7 then s.linkCtrlReceived header payload
  else if !s.linkUp then s
  else if kind = 0 then (if bitsOf header 7 4 ≠ 0 || payload ≠ 0 then s.discardFlit else s)
  else if 8 ≤ kind then s.discardFlit
  else if seq ≠ s.hitch.rxNext then s
  else
    let s1 := { s with hitch := { s.hitch with rxNext := (s.hitch.rxNext + 1) % 4096, rxReplay := false } }
    if flitBad header payload then s1.discardFlit
    else s1.request kind (bitsOf header 15 8) (bitsOf header 63 16) payload

/-- The header of a request flit (R39). -/
def reqHeader (kind tag a : Nat) : Nat := kind + (tag <<< 8) + ((a % 2 ^ 48) <<< 16)

/-- A WORD_WRITE of a port of a page. -/
def State.wordWriteFlit (s : State) (seq : BitVec 12) (tag : BitVec 8) (k : PageKind) (i : Nat) (data : Word512) : State :=
  s.receiveFlit seq.toNat (reqHeader 4 tag.toNat (regAddr k i 0x200)) data.toNat

/-- A WORD_READ of a port of a page. -/
def State.wordReadFlit (s : State) (seq : BitVec 12) (tag : BitVec 8) (k : PageKind) (i : Nat) : State :=
  s.receiveFlit seq.toNat (reqHeader 3 tag.toNat (regAddr k i 0x200)) 0

end Sys2Proof.Machine
end

