-- ==== Sys2Proof/Machine/Mgmt.lean ====
section
/-!
DEFINITION. The management ports (R544 to R547): register requests by Ethernet, two-wire and test port, WAKE, and boundary
scan; and a register write through whichever port brings it.
-/
namespace Sys2Proof.Machine

/-- An answer given by a management or test port. -/
def State.mgmtAnswer (s : State) (b : List Byte) : State := { s with steward := { s.steward with mgmtOut := b :: s.steward.mgmtOut } }

/-- What becomes of a management request: it is executed, held through QUIESCE, or not ready with a code (R544). -/
inductive Gate where
  | open_
  | hold
  | closed (code : Nat)
  deriving DecidableEq, Repr

/-- The exceptions of R544: reads of the DIR and STEWARD pages, writes of STEWARD_RESET. -/
def mgmtException (write : Bool) (a : Nat) : Bool := if write then a / 8 == stewReg 0x110 / 8 else a / 0x1000 == 0 || a / 0x1000 == 2

/-- How a management request stands to the fabric (R544). -/
def State.mgmtGate (s : State) (write : Bool) (a : Nat) : Gate :=
  let st := s.steward
  if st.fabricOpen then .open_
  else if (st.warm || decide (2 ≤ st.stage)) && mgmtException write a then .open_
  else if st.warm then (if st.stage = 0x20 then .hold else .closed 0x0502)
  else .closed 0x0501

/-- A request executed through a management port: counted, and counted again where it is refused (R49, R548). -/
def State.mgmtExec (s : State) (src : Source) (write : Bool) (a v : Nat) : Reply :=
  let s1 := s.bump (stewReg 0x1A0)
  let r := if write then s1.regWrite src a v else s1.regRead a
  if r.code = 0 then r else ⟨r.st.bump (hitchReg 0x128), r.code, r.data⟩

/-- A management request with what each port answers: the answer of an executed one, given its code and data, and of one
that is not ready. A reset that the request asks for begins after the answer. -/
def State.mgmtRun (s : State) (src : Source) (write : Bool) (a v : Nat) (answer : State → Nat → Nat → State) (answerHeld : Nat → List Byte) : State :=
  match s.mgmtGate write a with
  | .open_ =>
    let r := s.mgmtExec src write a v
    if write && a / 8 = stewReg 0x110 / 8 && r.code = 0 then ((answer s 0 0).mgmtExec src write a v).st
    else answer r.st r.code r.data
  | .hold => { s with steward := { s.steward with mgmtHeld := s.steward.mgmtHeld ++ [answerHeld 0x0502] } }
  | .closed code => if (answerHeld code).isEmpty then s else s.mgmtAnswer (answerHeld code)

/-! ### Ethernet (R545) -/

/-- A 32-byte datagram: operation, tag, status, sequence, address, value. -/
def datagram (op tag status seq a v : Nat) : List Byte :=
  leBytes 8 (op % 256 + ((tag % 256) <<< 8) + ((status % 2 ^ 16) <<< 16) + ((seq % 2 ^ 32) <<< 32)) ++ leBytes 8 (a % 2 ^ 48) ++ leBytes 8 v ++ List.replicate 8 0

/-- The response to an executed request is stored for a repeat. -/
def State.etherAnswer (s : State) (write : Bool) (tag seq a v code data : Nat) : State :=
  let value := if code = 0 then (if write then v else data) else s.freeBits 64
  let b := datagram 3 tag code seq a value
  let s1 := if code = 0 then s else s.drawn
  ({ s1 with steward := { s1.steward with mgmtLast := some (seq, b) } }).mgmtAnswer b

/-- A datagram received by the management Ethernet port. -/
def State.etherRequest (s : State) (b : List Byte) : State :=
  if !s.awake || !s.steward.mclk || b.length ≠ 32 then s
  else
    let w0 := leNat (b.take 8)
    let a := leNat ((b.drop 8).take 8)
    let v := leNat ((b.drop 16).take 8)
    let op := bitsOf w0 7 0
    let tag := bitsOf w0 15 8
    let seq := bitsOf w0 63 32
    if (op ≠ 1 && op ≠ 2) || bitsOf w0 31 16 ≠ 0 || a / 2 ^ 48 ≠ 0 || leNat (b.drop 24) ≠ 0 then
      s.drawn.mgmtAnswer (datagram 3 tag 0x020B seq a (s.freeBits 64))
    else
      match s.steward.mgmtLast with
      | some (n, last) =>
        if n = seq then s.mgmtAnswer last
        else s.drawn.mgmtRun .mgmtEthernet (op == 2) a v (fun t c d => t.etherAnswer (op == 2) tag seq a v c d) (fun c => datagram 3 tag c seq a (s.freeBits 64))
      | none => s.drawn.mgmtRun .mgmtEthernet (op == 2) a v (fun t c d => t.etherAnswer (op == 2) tag seq a v c d) (fun c => datagram 3 tag c seq a (s.freeBits 64))

/-! ### Two-wire and test port (R546, R547) -/

/-- The block that a read answers; what it holds where the read is not OK is not stated. -/
def State.blockAnswer (s : State) (write : Bool) (code data : Nat) : State :=
  if write then s else if code = 0 then s.mgmtAnswer (leBytes 8 data) else s.drawn.mgmtAnswer (leBytes 8 (s.freeBits 64))

/-- A register request by the two-wire port's commands or the test port's private instruction. -/
def State.blockRequest (s : State) (src : Source) (write : Bool) (a v : Nat) : State :=
  if !s.awake then s
  else s.drawn.mgmtRun src write a v (fun t c d => t.blockAnswer write c d) (fun _ => if write then [] else leBytes 8 (s.freeBits 64))

/-- A two-wire frame reaches this module and its PEC holds. -/
def State.frameOk (s : State) (target : BitVec 7) (pecOk : Bool) : Bool :=
  pecOk && target.toNat == 0x40 + s.steward.slotId % 16 && s.steward.vstby

/-- The bits that leave TDO while bits enter TDI through the bypass bit, which captures 0. -/
def bypassed (tdi : List Bool) : List Byte := ((false :: tdi).take tdi.length).map (fun b => BitVec.ofNat 8 (b2n b))

/-- A number from bits, the first the lowest. -/
def bitsNat : List Bool → Nat
  | [] => 0
  | b :: bs => b2n b + 2 * bitsNat bs

/-- BYPASS. -/
def State.bypass (s : State) (tdi : List Bool) : State := if s.awake then s.mgmtAnswer (bypassed tdi) else s

/-- A boundary-scan pass: the pins captured leave, and the register takes what enters. The levels at the pins are free. -/
def State.scan (s : State) (tdi : List Bool) : State :=
  let out := (List.range tdi.length).map (fun i => BitVec.ofNat 8 (Config.freeNat (s.freeCtr + i) % 2))
  { s with
    freeCtr := s.freeCtr + tdi.length
    steward := { s.steward with scanReg := bitsNat tdi, mgmtOut := out :: s.steward.mgmtOut } }

/-- SAMPLE/PRELOAD. -/
def State.samplePreload (s : State) (tdi : List Bool) : State := if s.awake then s.scan tdi else s

/-- EXTEST drives the pins from the boundary-scan register, only while bring-up holds under BOOT_SEL = 3. -/
def State.extest (s : State) (tdi : List Bool) : State :=
  if !s.awake then s
  else if s.steward.scanHold then
    let s1 := s.scan tdi
    { s1 with steward := { s1.steward with scanDrive := some (bitsNat tdi) } }
  else s.bypass tdi

/-- IDCODE: part number, stepping and manufacturer. -/
def State.idcode (s : State) : State :=
  if s.awake then s.mgmtAnswer (leBytes 4 (1 + (0x6B1 <<< 1) + (0xA808 <<< 12) + (s.rf (regAddr .dir 0 0x110) 19 16 <<< 28))) else s

/-! ### A register write by any port -/

/-- A write command delivered through its port. -/
def State.writeBy (s : State) (via : Via) (a v : Nat) : State :=
  match via with
  | .hitch seq tag => s.receiveFlit seq.toNat (reqHeader 2 tag.toNat a) v
  | .ethernet seq tag => s.etherRequest (datagram 2 tag.toNat 0 seq.toNat a v)
  | .twoWire => s.blockRequest .twoWire true a v
  | .jtag => s.blockRequest .jtag true a v

/-- The port's next request: the next sequence number where it has one. -/
def nextVia (via : Via) : Via :=
  match via with
  | .hitch seq tag => .hitch (seq + 1) tag
  | .ethernet seq tag => .ethernet (seq + 1) tag
  | .twoWire => .twoWire
  | .jtag => .jtag

end Sys2Proof.Machine
end

