-- ==== Sys2Proof/Machine/CmdAlmanac.lean ====
section
/-!
DEFINITION. Commands: Almanac time, launch and step programs (R443 to R470).
-/
namespace Sys2Proof.Machine

/-- ALMANAC_TICK (R444). Every FC cycle the Almanac adds inc to its value. -/
def execAlmanacTick (s : State) : Host.Outcome State Fault Refusal :=
  .next (s.almanacTick)

/-- ALMANAC_MEASUREMENT (R446). A source measurement steps or slews the Almanac and drives its state changes. -/
def execAlmanacMeasurement (offset : Int) (s : State) : Host.Outcome State Fault Refusal :=
  .next (s.ptpMeasurement offset)

/-- PPS_IN_EDGE (R446). A rising PPS_IN edge is timestamped and taken as a measurement, unless it is implausible. -/
def execPpsInEdge (s : State) : Host.Outcome State Fault Refusal :=
  .next (s.ppsEdge)

/-- ALMANAC_HOLDOVER (R447). After 8 sync intervals without a measurement the Almanac enters HOLDOVER and raises
ALMANAC_HOLDOVER. -/
def execAlmanacHoldover (s : State) : Host.Outcome State Fault Refusal :=
  .next (s.enterHoldover)

/-- LAUNCH_GATE_FIRE (R449). A unit's launch gate fires the head descriptor once its time, wait and gate enable hold. -/
def execLaunchGateFire (id : Nat) (s : State) : Host.Outcome State Fault Refusal :=
  .next (s.fireGate id)

/-- WAIT_MET (R454). A domain examines its held waits each FC cycle in issue order and consumes flags for met
consuming waits. -/
def execWaitMet (domain : Fin 9) (s : State) : Host.Outcome State Fault Refusal :=
  .next (s.examineWaits domain.val)

/-- FLAG_SET (R452). A FLAG_CONTROL write with clear 0 sets one flag of one domain. -/
def execFlagSet (via : Via) (domain : Fin 9) (flag : Fin 1024) (s : State) : Host.Outcome State Fault Refusal :=
  .next (s.writeBy via (almReg 0x168) (flag.val + 1024 * domain.val))

/-- FLAG_CLEAR (R452). A FLAG_CONTROL write with clear 1 clears one flag of one domain. -/
def execFlagClear (via : Via) (domain : Fin 9) (flag : Fin 1024) (s : State) : Host.Outcome State Fault Refusal :=
  .next (s.writeBy via (almReg 0x168) (flag.val + 1024 * domain.val + 0x4000))

/-- FURLONG_RUN (R460). FURLONG_RUN checks a furlong image and starts running its steps. -/
def execFurlongRun (id : Nat) (s : State) : Host.Outcome State Fault Refusal :=
  .next (s.runFurlong id)

/-- FURLONG_STOP (R463). FURLONG_STOP ends expansion at the end of the current step. -/
def execFurlongStop (id : Nat) (s : State) : Host.Outcome State Fault Refusal :=
  .next (s.stopFurlong id)

/-- STEP_EXPANSION (R462). Expansion of step s begins once s - 1 is expanded, s may open and its origin is known. -/
def execStepExpansion (s : State) : Host.Outcome State Fault Refusal :=
  .next (s.expandNext)

/-- PHASE_COMPLETE (R468). When a phase's last descriptor completes, a ledger record is written. -/
def execPhaseComplete (step : Nat) (pre : Bool) (phase : Nat) (s : State) : Host.Outcome State Fault Refusal :=
  .next (s.phaseComplete step pre phase)

/-- STEP_COMPLETE (R462). A step completes when every descriptor expanded for it has completed, and a step record is
written. -/
def execStepComplete (step : Nat) (s : State) : Host.Outcome State Fault Refusal :=
  .next (s.stepComplete step)

/-- LEDGER_RECORDS_WRITE (R469). A write of ledger_records, checked against ledger_addr, sets the ring length and
empties the ring. -/
def execLedgerRecordsWrite (via : Via) (value : Word) (s : State) : Host.Outcome State Fault Refusal :=
  .next (s.writeBy via (almReg 0x150) (value.toNat))

/-- REBASE_SUBMIT (R465). A write of rebase_at submits, replaces or cancels a pending rebase. -/
def execRebaseSubmit (via : Via) (value : Word) (s : State) : Host.Outcome State Fault Refusal :=
  .next (s.writeBy via (almReg 0x160) (value.toNat))

/-- REBASE (R465). When the Almanac reaches rebase_at, the epoch rises by n s and the Almanac falls, unless blocked. -/
def execRebase (s : State) : Host.Outcome State Fault Refusal :=
  .next (s.rebase)

end Sys2Proof.Machine
end

