-- ==== Sys2Proof/Machine/CmdCoulter.lean ====
section
/-!
DEFINITION. Commands: Coulter decoders, batches and live ingest (R317 to R362).
-/
namespace Sys2Proof.Machine

/-- DECODE (R335). A DECODE descriptor decodes one sample in direct mode and writes its result record. -/
def execDecode (id : Nat) (s : State) : Host.Outcome State Fault Refusal :=
  .next (s.runDecode id)

/-- COULTER_CANCEL (R337). A Coulter CANCEL removes or stops matching DECODE and BATCH descriptors. -/
def execCoulterCancel (id : Nat) (s : State) : Host.Outcome State Fault Refusal :=
  .next (s.runCoulterCancel id)

/-- SAMPLE_START (R318). A sample starts on the lowest-numbered idle working core of its kind and has its header
checked. -/
def execSampleStart (sample : Nat) (hdr : HdrInfo) (s : State) : Host.Outcome State Fault Refusal :=
  .next (s.sampleStart sample hdr)

/-- ARENA_ALLOCATE (R324). A sample receives its arena granules once enough are free, in the order of header checks. -/
def execArenaAllocate (sample : Nat) (granules : List Nat) (s : State) : Host.Outcome State Fault Refusal :=
  .next (s.arenaAllocate sample granules)

/-- DECODE_SYNTAX_UNIT (R326). A syntax unit is charged, decoded and charged for output, ending the sample on budget,
malformed or truncated input. -/
def execDecodeSyntaxUnit (sample : Nat) (unit : SynUnit) (s : State) : Host.Outcome State Fault Refusal :=
  .next (s.syntaxUnit sample unit)

/-- DEC_CORE_HUNG (R333). A core that charges no work for COULTER_WATCHDOG while holding a sample fails. -/
def execDecCoreHung (core : Fin 16) (s : State) : Host.Outcome State Fault Refusal :=
  .next ((s.coreHung core.val).noteCapacity s)

/-- DEC_CORE_ECC (R334). A parity or ECC error fails a decoder core, and its sample restarts on another core. -/
def execDecCoreEcc (core : Fin 16) (s : State) : Host.Outcome State Fault Refusal :=
  .next ((s.failCore core.val 0x070D 2).noteCapacity s)

/-- DEC_CORE_FORCE_FAIL (R334). A write of COULTER_DEC force_fail fails the core with DEC_CORE_FORCED. -/
def execDecCoreForceFail (via : Via) (core : Fin 16) (value : Word) (s : State) : Host.Outcome State Fault Refusal :=
  .next (s.writeBy via (regAddr .coulterDec core.val 0x100) (value.toNat ||| 2))

/-- BATCH (R343). A BATCH descriptor names a run of manifest samples or live frames to be augmented into a windrow
slot. -/
def execBatch (id : Nat) (area : Nat) (granules : List Nat) (s : State) : Host.Outcome State Fault Refusal :=
  .next (s.runBatch id area granules)

/-- BATCH_START (R345). A BATCH starts once a windrow slot is free and fewer than four BATCHes are filling. -/
def execBatchStart (id : Nat) (s : State) : Host.Outcome State Fault Refusal :=
  .next (s.batchStart id)

/-- BATCH_SEAL (R346). A slot is sealed when every area and record is written, and the BATCH completes. -/
def execBatchSeal (id : Nat) (s : State) : Host.Outcome State Fault Refusal :=
  .next (s.sealBatch id)

/-- WINDROW_RELEASE (R347). WINDROW_RELEASE frees ready slots in slot order. -/
def execWindrowRelease (id : Nat) (s : State) : Host.Outcome State Fault Refusal :=
  .next (s.releaseWindrow id)

/-- CRIB_FLUSH (R354). A write of crib_flush empties the crib. -/
def execCribFlush (via : Via) (s : State) : Host.Outcome State Fault Refusal :=
  .next (s.writeBy via (regAddr .sample 0 0x120) (1))

/-- LIVE_STREAM_ENABLE (R361). Enabling a live stream gives it a ring in the live area and starts reception. -/
def execLiveStreamEnable (via : Via) (stream : Fin 8) (value : Word) (s : State) : Host.Outcome State Fault Refusal :=
  .next (s.writeBy via (regAddr .live 0 (0x200 + 0x40 * stream.val)) (value.toNat ||| 1))

/-- LIVE_PACKET (R356). A packet of a live flow is received and assembled toward a complete frame in the stream's
ring. -/
def execLivePacket (packet : LivePkt) (s : State) : Host.Outcome State Fault Refusal :=
  .next (if s.flowTakes packet then s.livePacket packet else s)

/-- LIVE_TAKE (R358). A live BATCH takes the oldest fresh complete frames, dropping stale ones. -/
def execLiveTake (id : Nat) (s : State) : Host.Outcome State Fault Refusal :=
  .next (s.liveTake id)

/-- LIVE_WAIT_EXPIRY (R358). At live_wait after its start a live BATCH zero-fills its remaining areas with
LIVE_NO_FRAME. -/
def execLiveWaitExpiry (id : Nat) (s : State) : Host.Outcome State Fault Refusal :=
  .next (s.liveExpire id)

/-- LIVE_STREAM_LOST (R361). An enabled stream that receives no packet for 100 ms raises LIVE_STREAM_LOST. -/
def execLiveStreamLost (stream : Fin 8) (s : State) : Host.Outcome State Fault Refusal :=
  .next (s.liveLost stream.val)

end Sys2Proof.Machine
end

