-- ==== Sys2Proof/Machine/CmdDrill.lean ====
section
/-!
DEFINITION. Commands: Drill queues (R295 to R316).
-/
namespace Sys2Proof.Machine

/-- COPY (R303). COPY moves a 1D, 2D or 3D byte block, optionally transposed or into a ring. -/
def execCopy (id : Nat) (s : State) : Host.Outcome State Fault Refusal :=
  .next (s.copyRow id)

/-- RING_SETUP (R305). RING_SETUP, once its queue's earlier descriptors complete, sets or removes the queue's ring. -/
def execRingSetup (id : Nat) (s : State) : Host.Outcome State Fault Refusal :=
  .next (s.ringSetup id)

/-- RING_CREDIT (R307). RING_CREDIT adds credits to a queue's ring in the first cycle its launch condition holds. -/
def execRingCredit (id : Nat) (s : State) : Host.Outcome State Fault Refusal :=
  .next (s.ringCredit id)

/-- DRILL_CANCEL (R311). A Drill CANCEL matches descriptors by work identifier in its decision cycle on each named
Field and ends them. -/
def execDrillCancel (id : Nat) (field : Fin 8) (s : State) : Host.Outcome State Fault Refusal :=
  .next (s.cancelField id field.val)

/-- DRILL_START (R298). A queue starts its oldest descriptor once launch, wait, gate, credit and outstanding limit all
allow. -/
def execDrillStart (id : Nat) (gateWait : Nat) (creditWait : Nat) (limitWait : Nat) (s : State) : Host.Outcome State Fault Refusal :=
  .next (s.drillStart id gateWait creditWait limitWait)

/-- DRILL_COMPLETE (R300). A Drill descriptor completes in queue order once all its writes are acknowledged. -/
def execDrillComplete (id : Nat) (discarded : Nat) (s : State) : Host.Outcome State Fault Refusal :=
  .next (s.drillComplete id discarded)

/-- HEADLAND_GATE_OPEN (R309). A headland gate opens when its gating pass has read the named rows or tile, completed
or been cancelled. -/
def execHeadlandGateOpen (id : Nat) (s : State) : Host.Outcome State Fault Refusal :=
  .next (s.openGate id)

end Sys2Proof.Machine
end

