-- ==== Sys2Proof/Machine/CmdFurrow.lean ====
section
/-!
DEFINITION. Commands: Furrow arrays (R110 to R150).
-/
namespace Sys2Proof.Machine

/-- PASS (R140). A PASS descriptor is checked and turned into a weight feed and a row feed on the named array. -/
def execPass (id : Nat) (s : State) : Host.Outcome State Fault Refusal :=
  .next (s.takePass id)

/-- PASS_SHADOW_LOAD_START (R148). A pass's shadow load begins once its plane is free and its wait condition is met. -/
def execPassShadowLoadStart (id : Nat) (s : State) : Host.Outcome State Fault Refusal :=
  .next (s.loadStart id)

/-- PASS_SHADOW_LOAD_DONE (R112). A shadow plane becomes full when its last group has been written. -/
def execPassShadowLoadDone (id : Nat) (s : State) : Host.Outcome State Fault Refusal :=
  .next (s.loadDone id)

/-- PASS_SWAP (R113). A swap bubble exchanges the planes once the shadow plane is full and the launch gate has fired. -/
def execPassSwap (id : Nat) (stalls : Nat) (s : State) : Host.Outcome State Fault Refusal :=
  .next (s.swapPass id stalls)

/-- PASS_ROW_ENTER (R117). A complete row in the input FIFO is latched into the array pipeline. -/
def execPassRowEnter (id : Nat) (stalls : Nat) (s : State) : Host.Outcome State Fault Refusal :=
  .next (s.enterRow id stalls)

/-- PASS_ROW_ADD (R117). A row's column sums, having passed every check, are added into Glean 7 or 9 AC cycles after
entry. -/
def execPassRowAdd (id : Nat) (mismatch : Option CheckFault) (s : State) : Host.Outcome State Fault Refusal :=
  .next (s.addRow id mismatch)

/-- PASS_COMPLETE (R148). A pass completes when its last row has been added into Glean, and then sets its
signal_event. -/
def execPassComplete (id : Nat) (s : State) : Host.Outcome State Fault Refusal :=
  .next (s.completePass id)

/-- ARRAY_FAIL (R130). An array fails at a row boundary: rows not yet added are discarded and the array becomes
FAILED. -/
def execArrayFail (field : Fin 8) (s : State) : Host.Outcome State Fault Refusal :=
  .next ((match (s.array field.val).fault with | some x => s.failArray field.val x | none => s).noteCapacity s)

/-- ARRAY_FORCE_FAIL (R137). A write of FURROW force_fail fails the array with ARRAY_FORCED. -/
def execArrayForceFail (via : Via) (field : Fin 8) (value : Word) (s : State) : Host.Outcome State Fault Refusal :=
  .next (s.writeBy via (regAddr .furrow field.val 0x100) (value.toNat ||| 2))

/-- HELPER_REISSUE (R131). The Steading's Reeve cores reissue a failed array's remaining rows and later passes on a
helper array. -/
def execHelperReissue (field : Fin 8) (s : State) : Host.Outcome State Fault Refusal :=
  .next (s.reissueArray field.val)

end Sys2Proof.Machine
end

