-- ==== Sys2Proof/Machine/CmdGlean.lean ====
section
/-!
DEFINITION. Commands: Glean accumulation (R151 to R184).
-/
namespace Sys2Proof.Machine

/-- READOUT (R179). READOUT converts a Glean region, with optional epilogue and mask, into Tilth. -/
def execReadout (id : Nat) (s : State) : Host.Outcome State Fault Refusal :=
  .next (s.readoutRow id)

/-- PRELOAD (R182). PRELOAD converts a Tilth tensor into L96 accumulators under a given e_ref. -/
def execPreload (id : Nat) (s : State) : Host.Outcome State Fault Refusal :=
  .next (s.preloadRow id)

/-- CLEAR (R182). CLEAR zeroes a Glean region and sets its e_ref. -/
def execClear (id : Nat) (s : State) : Host.Outcome State Fault Refusal :=
  .next (s.clearRow id)

/-- SAVE_RAW (R183). SAVE_RAW copies whole Glean rows and their metadata to Tilth. -/
def execSaveRaw (id : Nat) (s : State) : Host.Outcome State Fault Refusal :=
  .next (s.saveRow id)

/-- LOAD_RAW (R183). LOAD_RAW checks row metadata, then copies whole rows and metadata from Tilth into Glean. -/
def execLoadRaw (id : Nat) (s : State) : Host.Outcome State Fault Refusal :=
  .next (s.loadRow id)

/-- REDUCE (R171). REDUCE combines a region across member Fields on the fixed tree into the root Field's Glean. -/
def execReduce (id : Nat) (s : State) : Host.Outcome State Fault Refusal :=
  .next (s.reduceRow id)

/-- GLEAN_ECC (R162). An uncorrectable Glean error poisons the whole row and raises GLEAN_ECC. -/
def execGleanEcc (field : Fin 8) (row : Fin 2048) (col : Fin 1024) (access : BitVec 8) (workId : BitVec 32) (corrected : Bool) (s : State) : Host.Outcome State Fault Refusal :=
  .next (s.gleanEcc field.val row.val col.val access.toNat workId.toNat corrected)

/-- GLEAN_DESCRIPTOR_COMPLETE (R174). A running Glean descriptor finishes its last row-half service access or tree
transfer, completes with its signal_event, and lets the next queued Glean descriptor start. -/
def execGleanDescriptorComplete (id : Nat) (s : State) : Host.Outcome State Fault Refusal :=
  .next (s.completeGlean id)

end Sys2Proof.Machine
end

