-- ==== Sys2Proof/Machine/CmdGranary.lean ====
section
/-!
DEFINITION. Commands: Granary (R269 to R294).
-/
namespace Sys2Proof.Machine

/-- FILL (R290). FILL reads a Granary range into the cache under the NORMAL or KEEP hint. -/
def execFill (id : Nat) (s : State) : Host.Outcome State Fault Refusal :=
  .next (s.runFill id)

/-- DEMOTE (R290). DEMOTE ends the KEEP mark of every cached line of a range. -/
def execDemote (id : Nat) (s : State) : Host.Outcome State Fault Refusal :=
  .next (s.runDemote id)

/-- GRANARY_ECC (R280). An uncorrectable Granary sector is poisoned and GRANARY_ECC is raised. -/
def execGranaryEcc (addr : Addr) (cls : Fin 5) (workId : BitVec 32) (s : State) : Host.Outcome State Fault Refusal :=
  .next ((s.granaryEcc addr.toNat (s.accessClass cls.val workId.toNat) workId.toNat).noteCapacity s)

/-- GRANARY_SCRUB (R281). The scrubber reads each sector once per interval, correcting or poisoning it. -/
def execGranaryScrub (addr : Addr) (outcome : Fin 3) (s : State) : Host.Outcome State Fault Refusal :=
  .next ((s.granaryScrub addr.toNat outcome.val).noteCapacity s)

/-- GRANARY_REFRESH (R282). Each pseudo-channel refreshes one bank at a time in slots not granted to requests. -/
def execGranaryRefresh (_stack : Fin 24) (_pc : Fin 32) (s : State) : Host.Outcome State Fault Refusal :=
  .next (s)

/-- GRANARY_TEMP_READ (R283). A stack temperature is read every millisecond, and implausible readings are discarded. -/
def execGranaryTempRead (stack : Fin 24) (celsius : Int) (s : State) : Host.Outcome State Fault Refusal :=
  .next ((s.granaryTemp stack.val celsius).noteCapacity s)

/-- GRANARY_RETRAIN (R285). A pseudo-channel retrains every 100 ms or after a 10 C temperature move, and repairs
failing lanes. -/
def execGranaryRetrain (stack : Fin 24) (_pc : Fin 32) (laneRepaired : Bool) (s : State) : Host.Outcome State Fault Refusal :=
  .next ((s.granaryRetrain stack.val laneRepaired).noteCapacity s)

/-- FRESH_BLOCK_ZERO (R286). The controller zeroes a fresh 2 MiB block, holding a first write until the zeroing is
done. -/
def execFreshBlockZero (stack : Fin 24) (s : State) : Host.Outcome State Fault Refusal :=
  .next (s.zeroFresh stack.val)

/-- GRANARY_STACK_FAIL (R288). A stack fails on training, parity or multi-channel errors: it poisons reads, drops
writes and marks mapout_pending. -/
def execGranaryStackFail (stack : Fin 24) (cause : Fin 3) (s : State) : Host.Outcome State Fault Refusal :=
  .next ((s.stackFails stack.val cause.val).noteCapacity s)

/-- GRANARY_FORCE_FAIL (R287). A write of GRANARY force_fail fails the stack with GRANARY_FORCED. -/
def execGranaryForceFail (via : Via) (stack : Fin 24) (value : Word) (s : State) : Host.Outcome State Fault Refusal :=
  .next (s.writeBy via (regAddr .granary stack.val 0x100) (value.toNat ||| 1))

end Sys2Proof.Machine
end

