-- ==== Sys2Proof/Machine/CmdHarrow.lean ====
section
/-!
DEFINITION. Commands: Harrow engines (R185 to R220).
-/
namespace Sys2Proof.Machine

/-- MAP (R201). MAP computes an element-wise operation in FP32 and converts the result once, with an optional mask
output. -/
def execMap (id : Nat) (unit : Nat) (s : State) : Host.Outcome State Fault Refusal :=
  .next (s.mapChunk id unit)

/-- ROWREDUCE (R205). ROWREDUCE writes one reduction per row in the fixed order of R204. -/
def execRowReduce (id : Nat) (unit : Nat) (s : State) : Host.Outcome State Fault Refusal :=
  .next (s.rowReduceUnit id unit)

/-- SOFTMAX (R206). SOFTMAX computes a softmax along each row and writes optional statistics. -/
def execSoftmax (id : Nat) (unit : Nat) (s : State) : Host.Outcome State Fault Refusal :=
  .next (s.softmaxUnit id unit)

/-- NORM (R207). NORM computes layer or RMS normalisation along each row. -/
def execNorm (id : Nat) (unit : Nat) (s : State) : Host.Outcome State Fault Refusal :=
  .next (s.normUnit id unit)

/-- OPTIM (R208). OPTIM computes the fused optimizer update and writes both weight orders, or writes nothing when the
verdict is non-finite. -/
def execOptim (id : Nat) (unit : Nat) (s : State) : Host.Outcome State Fault Refusal :=
  .next (s.optimUnit id unit)

/-- HARROW_UNIT_DEAL (R192). A free thread takes the lowest-numbered undealt unit of the descriptor at the head of the
engine. -/
def execHarrowUnitDeal (engine : Fin 16) (thread : Fin 16) (starved : Nat) (s : State) : Host.Outcome State Fault Refusal :=
  .next (s.dealUnit engine.val thread.val starved)

/-- HARROW_ENGINE_FAIL (R213). A residue, parity or register ECC failure fails the engine, whose work moves to a
helper engine. -/
def execHarrowEngineFail (engine : Fin 16) (thread : Fin 16) (check : Fin 4) (s : State) : Host.Outcome State Fault Refusal :=
  .next ((s.engineCheck engine.val thread.val check.val).noteCapacity s)

/-- HARROW_FORCE_FAIL (R218). A write of HARROW force_fail fails the engine with HARROW_FORCED. -/
def execHarrowForceFail (via : Via) (engine : Fin 16) (value : Word) (s : State) : Host.Outcome State Fault Refusal :=
  .next (s.writeBy via (regAddr .harrow engine.val 0x100) (value.toNat ||| 2))

/-- HARROW_UNIT_COMPLETE (R192). A Harrow unit (row or tile) finishes its last chunk store on its thread, freeing the
thread and completing the descriptor with its signal_event once all its units are done. -/
def execHarrowUnitComplete (id : Nat) (unit : Nat) (s : State) : Host.Outcome State Fault Refusal :=
  .next (s.unitComplete id unit)

end Sys2Proof.Machine
end

