-- ==== Sys2Proof/Machine/CmdHitch.lean ====
section
/-!
DEFINITION. Commands: Hitch, the register fabric, command windows, Reeve cores and Hedgerow links (R15 to R81).
-/
namespace Sys2Proof.Machine

/-- REGISTER_WRITE (R52). A REG_WRITE to a register that has no row of its own is checked in order and, if not
refused, takes effect at its commit cycle and is answered with one RESPONSE. -/
def execRegisterWrite (seq : BitVec 12) (header : BitVec 64) (payload : Word512) (s : State) : Host.Outcome State Fault Refusal :=
  .next (s.receiveFlit seq.toNat header.toNat payload.toNat)

/-- PG_EVENT_CLEAR (R58). Writing 1 to a W1C PG_EVENT bit clears it, unless hardware sets the bit in the same cycle. -/
def execPgEventClear (via : Via) (page : BitVec 16) (bits : Word) (s : State) : Host.Outcome State Fault Refusal :=
  .next (s.writeBy via (page.toNat * 0x1000 + 0x030) (bits.toNat))

/-- PG_ERR_CODE_CLEAR (R55). Writing zero to PG_ERR_CODE clears it together with PG_ERR_INFO0, PG_ERR_INFO1 and
PG_ALMANAC_AT_ERR; any other value is refused. -/
def execPgErrCodeClear (via : Via) (page : BitVec 16) (value : Word) (s : State) : Host.Outcome State Fault Refusal :=
  .next (s.writeBy via (page.toNat * 0x1000 + 0x040) (value.toNat))

/-- BLOCK_RESET (R567). A write of 1 to PG_CTRL.block_reset returns the block's RW and progress fields to reset, with
any effects or busy refusal that the page's chapter adds. -/
def execBlockReset (via : Via) (page : BitVec 16) (enable : Bool) (gate : Bool) (s : State) : Host.Outcome State Fault Refusal :=
  .next (s.writeBy via (page.toNat * 0x1000 + 0x020) (2 + b2n enable + 4 * b2n gate))

/-- PG_CTRL_ENABLE_WRITE (R71). A write of PG_CTRL.enable lets a block accept work or stops it taking new work while
work already started runs on. -/
def execPgCtrlEnableWrite (via : Via) (page : BitVec 16) (enable : Bool) (gate : Bool) (s : State) : Host.Outcome State Fault Refusal :=
  .next (s.writeBy via (page.toNat * 0x1000 + 0x020) (b2n enable + 4 * b2n gate))

/-- HITCH_TRAINING_STEP (R43). The Hitch link advances through DOWN, DETECT, EQUALISE, FEC_LOCK, DESKEW and VERSION to
UP or UP_NARROW as each state's condition is met. -/
def execHitchTrainingStep (lanesOk : BitVec 8) (s : State) : Host.Outcome State Fault Refusal :=
  .next (s.trainStep lanesOk.toNat)

/-- HITCH_TRAINING_TIMEOUT (R43). A training attempt that passes 50 ms is retried, and after the eighth failure the
link holds at FAILED. -/
def execHitchTrainingTimeout (s : State) : Host.Outcome State Fault Refusal :=
  .next (s.trainTimeout)

/-- LINK_CTRL_RECEIVED (R569). A received LINK_CTRL flit delivers an acknowledgement, a replay request, a credit total
or a version to the link layer. -/
def execLinkCtrlReceived (header : BitVec 64) (payload : Word512) (s : State) : Host.Outcome State Fault Refusal :=
  .next (s.linkCtrlReceived header.toNat payload.toNat)

/-- FEC_CODEWORD_UNCORRECTABLE (R41). A flit in an uncorrectable codeword is discarded and the receiver requests
replay from the first lost sequence number. -/
def execFecCodewordUncorrectable (s : State) : Host.Outcome State Fault Refusal :=
  .next (s.fecLost)

/-- REPLAY_REQUEST_REPEAT (R569). An outstanding replay request is repeated every 1 us until the first flit it names
arrives. -/
def execReplayRequestRepeat (s : State) : Host.Outcome State Fault Refusal :=
  .next (if s.hitch.rxReplay then s.sendLinkCtrl else s)

/-- STATUS_WORD_SEND (R46). From FEC_LOCK onward the module sends its status word in a LINK_CTRL flit at least every 1
us and within 1 us of a change. -/
def execStatusWordSend (s : State) : Host.Outcome State Fault Refusal :=
  .next (s.sendLinkCtrl)

/-- HITCH_REPLAY_LIMIT (R47). After 16 consecutive failed replays the Hitch link retrains keeping its replay buffers,
then resumes replay and raises HITCH_RETRAINED. -/
def execHitchReplayLimit (s : State) : Host.Outcome State Fault Refusal :=
  .next (if s.linkUp then s.retrainHitch true else s)

/-- EVENT_RECORD_SEND (R569). Waiting event records are sent in EVENT flits of 1 to 4 records whenever the adapter's
credit total permits. -/
def execEventRecordSend (n : Fin 4) (s : State) : Host.Outcome State Fault Refusal :=
  .next (s.sendEvents (n.val + 1))

/-- HOST_WAIT_LATE (R80). A host wait that passes HOST_WAIT_LIMIT pauses the job with PAUSED_HOST_WAIT and raises
HOST_WAIT_LIMIT. -/
def execHostWaitLate (wait : Nat) (s : State) : Host.Outcome State Fault Refusal :=
  .next (s.hostWaitLate wait)

/-- JOB_PAUSE (R81). A write of JOB_CONTROL.pause stops descriptor issue and sets JOB_STATE to PAUSED_SOFTWARE. -/
def execJobPause (via : Via) (s : State) : Host.Outcome State Fault Refusal :=
  .next (s.writeBy via (hitchReg 0x118) (2))

/-- JOB_RESUME (R81). A write of JOB_CONTROL.resume ends a pause of either kind. -/
def execJobResume (via : Via) (s : State) : Host.Outcome State Fault Refusal :=
  .next (s.writeBy via (hitchReg 0x118) (1))

/-- DW_PORT_WRITE (R61). A WORD_WRITE to DW_PORT writes 64 bytes at DW_ADDR, after the checks of R62, and advances
DW_ADDR by 64. -/
def execDwPortWrite (seq : BitVec 12) (tag : BitVec 8) (window : Fin 4) (data : Word512) (s : State) : Host.Outcome State Fault Refusal :=
  .next (s.wordWriteFlit seq tag .datawin window.val data)

/-- DW_PORT_READ (R61). A WORD_READ of DW_PORT returns 64 bytes at DW_ADDR, after the checks of R62, and advances
DW_ADDR by 64. -/
def execDwPortRead (seq : BitVec 12) (tag : BitVec 8) (window : Fin 4) (s : State) : Host.Outcome State Fault Refusal :=
  .next (s.wordReadFlit seq tag .datawin window.val)

/-- CMD_PORT_WRITE (R64). A WORD_WRITE to CMD_PORT puts a descriptor word in the window queue, or is refused for a
disabled, framing-lost or full window. -/
def execCmdPortWrite (seq : BitVec 12) (tag : BitVec 8) (window : Fin 16) (data : Word512) (s : State) : Host.Outcome State Fault Refusal :=
  .next (s.wordWriteFlit seq tag .cmdwin window.val data)

/-- RESUME_WRITES (R64). A write of CMD_CTRL.resume_writes releases the WINDOW_FULL latch. -/
def execResumeWrites (via : Via) (window : Fin 16) (s : State) : Host.Outcome State Fault Refusal :=
  .next (s.writeBy via (regAddr .cmdwin window.val 0x108) (1))

/-- RESUME_ISSUE (R69). A write of CMD_CTRL.resume_issue takes a window out of HALTED. -/
def execResumeIssue (via : Via) (window : Fin 16) (s : State) : Host.Outcome State Fault Refusal :=
  .next (s.writeBy via (regAddr .cmdwin window.val 0x108) (2))

/-- DESCRIPTOR_PARSE (R68). A Reeve core takes a descriptor's words from a window and checks it in order before it has
any effect. -/
def execDescriptorParse (window : Fin 16) (s : State) : Host.Outcome State Fault Refusal :=
  .next (s.parseWindow window.val)

/-- DESCRIPTOR_ISSUE (R63). A parsed descriptor is issued to its unit in window order once any fence is satisfied. -/
def execDescriptorIssue (window : Fin 16) (s : State) : Host.Outcome State Fault Refusal :=
  .next (s.issueWindow window.val)

/-- NOP (R67). A window NOP completes as soon as it is issued. -/
def execNop (id : Nat) (s : State) : Host.Outcome State Fault Refusal :=
  .next (s.runNop id)

/-- SIGNAL (R67). A window SIGNAL sets its signal_event once its launch condition is met, then completes. -/
def execSignal (id : Nat) (s : State) : Host.Outcome State Fault Refusal :=
  .next (s.runSignal id)

/-- REEVE_CORE_ECC (R72). An uncorrectable private-memory error fails a Reeve core, and its place's other cores take
over its unissued descriptors. -/
def execReeveCoreEcc (place : Fin 9) (core : Fin 8) (held : List Nat) (s : State) : Host.Outcome State Fault Refusal :=
  .next (s.reeveFault place.val core.val 1 held)

/-- REEVE_WATCHDOG (R72). A Reeve core that makes no progress for 100 us while holding work fails with REEVE_WATCHDOG.
-/
def execReeveWatchdog (place : Fin 9) (core : Fin 8) (held : List Nat) (s : State) : Host.Outcome State Fault Refusal :=
  .next (s.reeveFault place.val core.val 2 held)

/-- REEVE_FORCE_FAIL (R72). A write of REEVE.force_fail fails the named cores with REEVE_FORCED. -/
def execReeveForceFail (via : Via) (field : Fin 8) (cores : BitVec 8) (s : State) : Host.Outcome State Fault Refusal :=
  .next (s.writeBy via (regAddr .reeve field.val 0x100) (cores.toNat))

/-- HEDGE_FLIT_CRC_FAIL (R19). A Hedgerow flit that fails its CRC is replayed from the sender's replay buffer and
counted. -/
def execHedgeFlitCrcFail (link : Fin 14) (s : State) : Host.Outcome State Fault Refusal :=
  .next (s.hedgeReplay link.val)

/-- HEDGE_REROUTED (R20). A Field-Field link that fails 16 consecutive replays is taken out of service and its traffic
passes through the Steading. -/
def execHedgeRerouted (link : Fin 6) (s : State) : Host.Outcome State Fault Refusal :=
  .next (s.hedgeReroute (8 + link.val))

/-- HEDGE_FIELD_LOST (R21). A Field-Steading link that fails 16 consecutive replays is taken out of service and its
Field is declared lost. -/
def execHedgeFieldLost (field : Fin 8) (s : State) : Host.Outcome State Fault Refusal :=
  .next (s.hedgeLost field.val)

end Sys2Proof.Machine
end

