-- ==== Sys2Proof/Machine/CmdPower.lean ====
section
/-!
DEFINITION. Commands: power states, capping and clocking (R492 to R516).
-/
namespace Sys2Proof.Machine

/-- TARGET_RUN (R495). A write of target 0 returns the module from Rest or Fallow to Run. -/
def execTargetRun (via : Via) (s : State) : Host.Outcome State Fault Refusal :=
  .next (s.writeBy via (powReg 0x100) (0 <<< 16))

/-- TARGET_REST (R494). A write of target 2, if the module is quiet, starts entry to Rest. -/
def execTargetRest (via : Via) (s : State) : Host.Outcome State Fault Refusal :=
  .next (s.writeBy via (powReg 0x100) (2 <<< 16))

/-- TARGET_FALLOW (R494). A write of target 3, if the module is quiet, starts entry to Fallow. -/
def execTargetFallow (via : Via) (s : State) : Host.Outcome State Fault Refusal :=
  .next (s.writeBy via (powReg 0x100) (3 <<< 16))

/-- TARGET_WINTER (R494). A write of target 4 in Fallow starts entry to Winter. -/
def execTargetWinter (via : Via) (s : State) : Host.Outcome State Fault Refusal :=
  .next (s.writeBy via (powReg 0x100) (4 <<< 16))

/-- POWER_STATE_REACHED (R494). The module reaches the requested power state and raises PWR_STATE_CHANGED. -/
def execPowerStateReached (s : State) : Host.Outcome State Fault Refusal :=
  .next (s.powerReached)

/-- IDLE_ENTRY (R493). After idle_hold with no compute descriptor held, queued or running, the module enters Idle. -/
def execIdleEntry (s : State) : Host.Outcome State Fault Refusal :=
  .next (s.idleEntry)

/-- FALLOW_HITCH_WAKE (R495). Signal detected on at least 4 Hitch lanes wakes the module from Fallow to Run. -/
def execFallowHitchWake (lanes : BitVec 8) (s : State) : Host.Outcome State Fault Refusal :=
  .next (s.hitchWake lanes.toNat)

/-- GOVERNOR_WINDOW (R499). Every 10 us the governor takes the regulator report and estimate, chooses p and updates
pduty. -/
def execGovernorWindow (report : Int) (millivolts : Nat) (estimate : Nat) (s : State) : Host.Outcome State Fault Refusal :=
  .next (s.governorWindow report millivolts estimate)

/-- JUNCTION_SENSOR_READ (R502). Junction sensors are read every 100 us, and implausible readings are discarded. -/
def execJunctionSensorRead (die : Fin 9) (sensor : Fin 8) (celsius : Int) (s : State) : Host.Outcome State Fault Refusal :=
  .next (s.junctionRead die.val sensor.val celsius)

/-- THERMAL_STEP (R503). Once per millisecond tduty is set from junction and Granary temperatures. -/
def execThermalStep (s : State) : Host.Outcome State Fault Refusal :=
  .next (s.thermalStep)

/-- DROOP_TRIP (R505). A tripped droop detector stretches the Field's AC and functional FC cycles. -/
def execDroopTrip (field : Fin 8) (millivolts : Nat) (s : State) : Host.Outcome State Fault Refusal :=
  .next (s.droopTrip field.val millivolts)

/-- DROOP_STRETCH_END (R505). The stretch ends after stretch_min cycles once every detector has recovered. -/
def execDroopStretchEnd (field : Fin 8) (acCycles : Nat) (fcCycles : Nat) (s : State) : Host.Outcome State Fault Refusal :=
  .next (s.stretchEnd field.val acCycles fcCycles)

/-- AC_CHANGE_SUBMIT (R508). Writes of next_mhz and change_at submit a timed array frequency change. -/
def execAcChangeSubmit (via : Via) (mhz : BitVec 16) (changeAt : Word) (s : State) : Host.Outcome State Fault Refusal :=
  .next ((s.writeBy via (powReg 0x120) mhz.toNat).writeBy (nextVia via) (powReg 0x128) changeAt.toNat)

/-- AC_CHANGE_CANCEL (R508). A write of change_at = 0 cancels a pending change that lies 100 us or more ahead. -/
def execAcChangeCancel (via : Via) (s : State) : Host.Outcome State Fault Refusal :=
  .next (s.writeBy via (powReg 0x128) (0))

/-- AC_VOLTAGE_RAMP (R508). For a rising change the voltage is raised from change_at - 80 us. -/
def execAcVoltageRamp (s : State) : Host.Outcome State Fault Refusal :=
  .next (s.voltageRamp)

/-- AC_CHANGE (R508). The new array frequency takes effect on each Field at the first AC boundary at or after
change_at. -/
def execAcChange (field : Fin 8) (s : State) : Host.Outcome State Fault Refusal :=
  .next (s.acChange field.val)

end Sys2Proof.Machine
end

