-- ==== Sys2Proof/Machine/CmdRecovery.lean ====
section
/-!
DEFINITION. Commands: recovery (R471 to R491).
-/
namespace Sys2Proof.Machine

/-- COMMIT (R475). COMMIT carries a skipped step if needed and writes committed_step and committed_set in one commit
cycle. -/
def execCommit (id : Nat) (s : State) : Host.Outcome State Fault Refusal :=
  .next (s.runCommit id)

/-- BUDDY_SEND (R480). BUDDY_SEND writes every BUDDY entry and a seal record into the partner's slot for the step. -/
def execBuddySend (id : Nat) (s : State) : Host.Outcome State Fault Refusal :=
  .next (s.runBuddySend id)

/-- BUDDY_SEAL_RECEIVED (R480). The partner's slot for the step becomes sealed when the seal record arrives after all
its bytes. -/
def execBuddySealReceived (slot : Fin 2) (offset : Nat) (s : State) : Host.Outcome State Fault Refusal :=
  .next (s.buddySealed slot.val offset)

/-- STOOK_TAKE (R482). STOOK_TAKE raises the generation and copies the committed state into the staging area with its
digest. -/
def execStookTake (id : Nat) (s : State) : Host.Outcome State Fault Refusal :=
  .next (s.runStook id)

/-- STOOK_STAGED (R482). When staging ends the stook becomes DRAINING and a held COMMIT may proceed. -/
def execStookStaged (id : Nat) (s : State) : Host.Outcome State Fault Refusal :=
  .next (s.stookStaged id)

/-- DRAIN_ACK (R484). A DRAIN_ACK write acknowledges the shown extent, and acknowledging the seal record seals the
stook. -/
def execDrainAck (via : Via) (value : Word) (s : State) : Host.Outcome State Fault Refusal :=
  .next (s.writeBy via (recReg 0x170) (value.toNat))

/-- REFILL (R488). REFILL loads the committed state of a step from a stook, buddy or replica and sets the commit
record. -/
def execRefill (id : Nat) (s : State) : Host.Outcome State Fault Refusal :=
  .next (s.runRefill id)

/-- FILL_READY (R488). A FILL_READY write tells a waiting stook REFILL that its image is in staging. -/
def execFillReady (via : Via) (value : Word) (s : State) : Host.Outcome State Fault Refusal :=
  .next (s.writeBy via (recReg 0x180) (value.toNat))

/-- PAIR_REQUEST (R479). A write of RECOVERY.BUDDY with pair 1 requests pairing with the named endpoint. -/
def execPairRequest (via : Via) (endpoint : BitVec 16) (override : Bool) (s : State) : Host.Outcome State Fault Refusal :=
  .next (s.writeBy via (recReg 0x120) (0x100 + (b2n override <<< 16) + (endpoint.toNat <<< 32)))

/-- UNPAIR (R490). A write of RECOVERY.BUDDY with pair 0 ends the pairing. -/
def execUnpair (via : Via) (endpoint : BitVec 16) (override : Bool) (s : State) : Host.Outcome State Fault Refusal :=
  .next (s.writeBy via (recReg 0x120) ((b2n override <<< 16) + (endpoint.toNat <<< 32)))

/-- PAIRING_MESSAGE (R479). A pairing message from the partner is accepted or refused by power-domain strap and
override. -/
def execPairingMessage (endpoint : Nat) (domain : Fin 64) (answer : Fin 3) (s : State) : Host.Outcome State Fault Refusal :=
  .next (s.pairingMessage endpoint domain.val answer.val)

end Sys2Proof.Machine
end

