-- ==== Sys2Proof/Machine/CmdSteward.lean ====
section
/-!
DEFINITION. Commands: Steward, resets, updates, management ports, supplies and clocks (R528 to R571).
-/
namespace Sys2Proof.Machine

/-- STRAP_SAMPLE (R528). Straps are sampled every millisecond until 16 consecutive samples agree, with later changes
logged. -/
def execStrapSample (pwrDomain : BitVec 6) (slotId : BitVec 8) (bootSel : BitVec 2) (s : State) : Host.Outcome State Fault Refusal :=
  .next (s.strapSample pwrDomain.toNat slotId.toNat bootSel.toNat)

/-- BRINGUP_STAGE_COMPLETE (R529). A cold bring-up stage finishes its work and the next stage begins, up to OPEN. -/
def execBringupStageComplete (found : BringUp) (s : State) : Host.Outcome State Fault Refusal :=
  .next ((s.stageDone found).noteCapacity s)

/-- STAGE_TIMEOUT (R529). A stage exceeding its limit halts bring-up, except HEDGEROW, which takes unready links out
of service. -/
def execStageTimeout (links : BitVec 14) (s : State) : Host.Outcome State Fault Refusal :=
  .next ((s.stageTimeout links.toNat).noteCapacity s)

/-- WARM_RESET_STAGE (R530). A warm reset stage QUIESCE, FLUSH, MAPOUT or REINIT ends and the next begins, up to OPEN.
-/
def execWarmResetStage (s : State) : Host.Outcome State Fault Refusal :=
  .next (s.warmStage.noteCapacity s)

/-- MAIN_INPUT_APPLIED (R532). Main input applied with standby present causes a cold reset. -/
def execMainInputApplied (s : State) : Host.Outcome State Fault Refusal :=
  .next (s.mainInput)

/-- STANDBY_APPLIED (R556). Standby applied starts bring-up, which waits at FACTORY until VIN is present. -/
def execStandbyApplied (s : State) : Host.Outcome State Fault Refusal :=
  .next (s.standbyInput)

/-- RESET_N (R532). RESET_N held low for 10 us or more causes a cold reset. -/
def execResetN (lowMicroseconds : Nat) (s : State) : Host.Outcome State Fault Refusal :=
  .next (s.resetPin lowMicroseconds)

/-- WARM_RESET_REQUEST (R533). A write of STEWARD_RESET.kind = 1 requests a warm reset, journaled before it begins. -/
def execWarmResetRequest (via : Via) (s : State) : Host.Outcome State Fault Refusal :=
  .next (s.writeBy via (stewReg 0x110) (1))

/-- COLD_RESET_REQUEST (R533). A write of STEWARD_RESET.kind = 2 requests a cold reset, journaled before it begins. -/
def execColdResetRequest (via : Via) (s : State) : Host.Outcome State Fault Refusal :=
  .next (s.writeBy via (stewReg 0x110) (2))

/-- HITCH_RETRAIN_REQUEST (R548). A write of hitch_retrain with kind 0 retrains the Hitch link. -/
def execHitchRetrainRequest (via : Via) (s : State) : Host.Outcome State Fault Refusal :=
  .next (s.writeBy via (stewReg 0x110) (4))

/-- STAGE (R536). The STAGE update command checks the image and writes it into the inactive slot. -/
def execStage (via : Via) (s : State) : Host.Outcome State Fault Refusal :=
  .next (s.writeBy via (stewReg 0x138) (1))

/-- STAGE_COMPLETE (R536). A STAGE ends in STAGED or FAILED and sets STEWARD PG_EVENT bit 0. -/
def execStageComplete (flashOk : Bool) (s : State) : Host.Outcome State Fault Refusal :=
  .next (s.stageComplete flashOk)

/-- ACTIVATE (R536). The ACTIVATE update command makes the staged slot the trial slot with three tries. -/
def execActivate (via : Via) (s : State) : Host.Outcome State Fault Refusal :=
  .next (s.writeBy via (stewReg 0x138) (2))

/-- CONFIRM (R536). The CONFIRM update command makes the booted trial slot active and raises the rollback floor. -/
def execConfirm (via : Via) (s : State) : Host.Outcome State Fault Refusal :=
  .next (s.writeBy via (stewReg 0x138) (3))

/-- ABANDON (R536). The ABANDON update command clears the trial. -/
def execAbandon (via : Via) (s : State) : Host.Outcome State Fault Refusal :=
  .next (s.writeBy via (stewReg 0x138) (4))

/-- QUOTE (R540). A write of QUOTE_CMD.quote writes a signed quote over the nonce at QUOTE_ADDR. -/
def execQuote (via : Via) (s : State) : Host.Outcome State Fault Refusal :=
  .next (s.writeBy via (stewReg 0x150) (1))

/-- CERTS (R540). A write of QUOTE_CMD.certs writes the DER certificate chain to CERT_ADDR. -/
def execCerts (via : Via) (s : State) : Host.Outcome State Fault Refusal :=
  .next (s.writeBy via (stewReg 0x150) (2))

/-- JOURNAL_PAGE_WRITE (R542). Steward writes a page of journal entries to flash when 64 wait or 10 ms after the
oldest. -/
def execJournalPageWrite (s : State) : Host.Outcome State Fault Refusal :=
  .next (s.journalPage)

/-- MGMT_REQUEST (R545). A management Ethernet datagram performs a register read or write, or answers a repeat from
its stored response. -/
def execMgmtRequest (datagram : List Byte) (s : State) : Host.Outcome State Fault Refusal :=
  .next (s.etherRequest datagram)

/-- SMBUS_READ (R546). Two-wire command 0x01 reads an 8-byte register. -/
def execSmbusRead (target : BitVec 7) (pecOk : Bool) (address : Word) (s : State) : Host.Outcome State Fault Refusal :=
  .next (if s.frameOk target pecOk then s.blockRequest .twoWire false address.toNat 0 else s)

/-- SMBUS_WRITE (R546). Two-wire command 0x02 writes a register. -/
def execSmbusWrite (target : BitVec 7) (pecOk : Bool) (address : Word) (value : Word) (s : State) : Host.Outcome State Fault Refusal :=
  .next (if s.frameOk target pecOk then s.blockRequest .twoWire true address.toNat value.toNat else s)

/-- WAKE (R546). Two-wire command 0x03 wakes the module from Winter to Fallow with cold-reset registers. -/
def execWake (target : BitVec 7) (pecOk : Bool) (s : State) : Host.Outcome State Fault Refusal :=
  .next (if s.frameOk target pecOk then s.wake else s)

/-- JTAG_REGISTER_ACCESS (R547). The test port's private instruction performs register transactions as the two-wire
port does. -/
def execJtagRegisterAccess (write : Bool) (address : Word) (value : Word) (s : State) : Host.Outcome State Fault Refusal :=
  .next (s.blockRequest .jtag write address.toNat value.toNat)

/-- IDCODE (R547). The IDCODE instruction reads the module's identification code. -/
def execIdcode (s : State) : Host.Outcome State Fault Refusal :=
  .next (s.idcode)

/-- EXTEST (R547). EXTEST drives boundary scan only while bring-up holds under BOOT_SEL = 3, and acts as BYPASS
otherwise. -/
def execExtest (tdi : List Bool) (s : State) : Host.Outcome State Fault Refusal :=
  .next (s.extest tdi)

/-- BYPASS (R547). The BYPASS instruction passes TDI to TDO through one bit. -/
def execBypass (tdi : List Bool) (s : State) : Host.Outcome State Fault Refusal :=
  .next (s.bypass tdi)

/-- SAMPLE_PRELOAD (R547). The SAMPLE/PRELOAD instruction captures or loads the boundary-scan register. -/
def execSamplePreload (tdi : List Bool) (s : State) : Host.Outcome State Fault Refusal :=
  .next (s.samplePreload tdi)

/-- VIN_LOW (R555). VIN below 44 V for 100 us removes die supplies, logged as PWR_INPUT_LOW. -/
def execVinLow (s : State) : Host.Outcome State Fault Refusal :=
  .next (s.vinLow)

/-- VIN_HIGH (R555). VIN above 56 V for 100 us removes die supplies until a cold reset, logged as PWR_INPUT_HIGH. -/
def execVinHigh (s : State) : Host.Outcome State Fault Refusal :=
  .next (s.vinHigh)

/-- VSTBY_LOW (R555). VSTBY below 10 V for 100 us removes die supplies and the hold-up store writes the journal
buffer. -/
def execVstbyLow (s : State) : Host.Outcome State Fault Refusal :=
  .next (s.vstbyLow)

/-- REFCLK_LOST (R559). REFCLK lost for 10 us holds every die but Steward standby and the Tithe in reset. -/
def execRefclkLost (s : State) : Host.Outcome State Fault Refusal :=
  .next (s.refclkLost)

/-- MCLK_LOST (R559). MCLK lost for 10 us switches Steward to its internal oscillator and takes management Ethernet
out of service. -/
def execMclkLost (s : State) : Host.Outcome State Fault Refusal :=
  .next (s.mclkLost)

/-- MCLK_RETURN (R559). When MCLK returns, management Ethernet returns to service. -/
def execMclkReturn (s : State) : Host.Outcome State Fault Refusal :=
  .next (s.mclkReturn)

/-- QUOTE_DONE (R540). A quote in progress finishes writing its 512 bytes, raises the quote counter, sets quote_state
DONE and STEWARD PG_EVENT bit 2. -/
def execQuoteDone (s : State) : Host.Outcome State Fault Refusal :=
  .next (s.quoteDone)

end Sys2Proof.Machine
end

