-- ==== Sys2Proof/Machine/CmdSwath.lean ====
section
/-!
DEFINITION. Commands: Swath ports, transport, discovery and PTP (R413 to R442).
-/
namespace Sys2Proof.Machine

/-- SWATH_LINK_DOWN (R415). A failed lane takes its link DOWN, and four falls in 60 s make it CUT. -/
def execSwathLinkDown (port : Fin 8) (lane : Fin 8) (s : State) : Host.Outcome State Fault Refusal :=
  .next ((s.laneFails port.val lane.val).noteCapacity s)

/-- SWATH_LINK_RETRAIN (R415). The module retrains a DOWN link once per second. -/
def execSwathLinkRetrain (link : Fin 64) (trained : Bool) (s : State) : Host.Outcome State Fault Refusal :=
  .next ((s.retrainLink link.val trained).noteCapacity s)

/-- LASER_LOW (R419). A laser feed below the low threshold for 10 ms takes the port's links DOWN and raises
SWATH_LASER_LOW. -/
def execLaserLow (port : Fin 8) (s : State) : Host.Outcome State Fault Refusal :=
  .next ((s.laserLow port.val).noteCapacity s)

/-- LASER_RESTORED (R419). A laser feed above the threshold for 100 ms lets the port's links retrain. -/
def execLaserRestored (port : Fin 8) (s : State) : Host.Outcome State Fault Refusal :=
  .next (s.laserRestored port.val)

/-- PFC_PAUSE (R418). A received PFC pause stops the port sending that priority while it is in force. -/
def execPfcPause (port : Fin 8) (priorities : BitVec 8) (s : State) : Host.Outcome State Fault Refusal :=
  .next (s.pfcPause port.val priorities.toNat)

/-- DATA_RECEIVED (R421). A DATA packet in the window is accepted once, written and handed to its user, or discarded
as a duplicate. -/
def execDataReceived (rx : SwathRx) (s : State) : Host.Outcome State Fault Refusal :=
  .next (s.dataReceived rx)

/-- ACK_RECEIVED (R424). A received ACK frees acknowledged retransmit slots and can trigger fast retransmission. -/
def execAckReceived (rx : SwathRx) (s : State) : Host.Outcome State Fault Refusal :=
  .next (s.ackReceived rx)

/-- NACK_RECEIVED (R430). A received NACK stops the sending descriptor with SWATH_REMOTE_DENIED. -/
def execNackReceived (rx : SwathRx) (msg : BitVec 32) (s : State) : Host.Outcome State Fault Refusal :=
  .next (s.nackReceived rx msg.toNat)

/-- ACK_TIMER (R423). An ACK is sent after 16 accepted packets or 2 us with packets unacknowledged. -/
def execAckTimer (endpoint : Nat) (s : State) : Host.Outcome State Fault Refusal :=
  .next (s.ackTimer endpoint)

/-- RTO_EXPIRY (R425). An unacknowledged packet whose timer expires is retransmitted on another path and its timer
doubles. -/
def execRtoExpiry (endpoint : Nat) (seq : BitVec 32) (s : State) : Host.Outcome State Fault Refusal :=
  .next (s.rtoExpiry endpoint seq.toNat)

/-- PROBE_RECEIVED (R422). A PROBE is answered with PROBE_REPLY, and a new incarnation resets the connection. -/
def execProbeReceived (rx : SwathRx) (s : State) : Host.Outcome State Fault Refusal :=
  .next (s.probeReceived rx)

/-- PROBE_REPLY_RECEIVED (R422). A PROBE_REPLY makes an endpoint usable or reachable, and a new incarnation resets the
connection. -/
def execProbeReplyReceived (rx : SwathRx) (s : State) : Host.Outcome State Fault Refusal :=
  .next (s.probeReply rx)

/-- PROBE_TIMER (R427). An unreachable connection probes every path every 100 us. -/
def execProbeTimer (endpoint : Nat) (s : State) : Host.Outcome State Fault Refusal :=
  .next (s.probeTimer endpoint)

/-- PEER_UNREACHABLE (R427). An endpoint with no ACK or PROBE_REPLY for unreach_limit is declared unreachable and
reported. -/
def execPeerUnreachable (endpoint : Nat) (s : State) : Host.Outcome State Fault Refusal :=
  .next (s.peerUnreachable endpoint)

/-- SWATH_WRITE (R429). A Swath WRITE sends bytes to a remote address and completes when every packet is acknowledged.
-/
def execSwathWrite (id : Nat) (s : State) : Host.Outcome State Fault Refusal :=
  .next (s.swathWrite id)

/-- SWATH_READ (R429). A Swath READ fetches bytes from an endpoint and completes when all are written locally. -/
def execSwathRead (id : Nat) (s : State) : Host.Outcome State Fault Refusal :=
  .next (s.swathRead id)

/-- SWATH_CANCEL (R429). A Swath CANCEL stops matching WRITE and READ transfers with SWATH_CANCELLED. -/
def execSwathCancel (id : Nat) (s : State) : Host.Outcome State Fault Refusal :=
  .next (s.swathCancel id)

/-- PLAN_LOAD (R433). A write of TRANSPORT.load checks and loads the plan, ending old connections and starting
discovery. -/
def execPlanLoad (via : Via) (s : State) : Host.Outcome State Fault Refusal :=
  .next (s.writeBy via (regAddr .transport 0 0x110) (1))

/-- PLAN_UNLOAD (R441). A write of TRANSPORT.unload ends every connection and returns the state to NO_PLAN. -/
def execPlanUnload (via : Via) (s : State) : Host.Outcome State Fault Refusal :=
  .next (s.writeBy via (regAddr .transport 0 0x110) (2))

/-- LLDP_SEND (R434). The module sends LLDP on every up link every lldp_interval. -/
def execLldpSend (s : State) : Host.Outcome State Fault Refusal :=
  .next (s.lldpSend)

/-- LLDP_RECEIVED (R434). A received LLDP record is stored and the link is classified against the plan. -/
def execLldpReceived (link : Fin 64) (chassisType : BitVec 8) (portType : BitVec 8) (chassis : List Byte) (port : List Byte) (s : State) : Host.Outcome State Fault Refusal :=
  .next ((s.lldpReceived link.val chassisType.toNat portType.toNat chassis port).noteCapacity s)

/-- DISCOVERY_LIMIT (R435). At discovery_limit every unclassified link is judged and the module becomes RUNNING or
ISOLATED. -/
def execDiscoveryLimit (s : State) : Host.Outcome State Fault Refusal :=
  .next ((s.discoveryLimit).noteCapacity s)

/-- PTP_MESSAGE (R438). A PTP message is timestamped in hardware and processed in the configured PTP mode. -/
def execPtpMessage (message : PtpMsg) (s : State) : Host.Outcome State Fault Refusal :=
  .next (s.ptpMessage message)

/-- PTP_SYNC_SEND (R438). In boundary mode, at every sync interval of 2^log_sync seconds, the module sends PTP Sync
messages as master on each link of master_links. -/
def execPtpSyncSend (s : State) : Host.Outcome State Fault Refusal :=
  .next (s.ptpSyncSend)

end Sys2Proof.Machine
end

