-- ==== Sys2Proof/Machine/CmdThresher.lean ====
section
/-!
DEFINITION. Commands: Thresher reduction and delivery (R363 to R412).
-/
namespace Sys2Proof.Machine

/-- ALLREDUCE (R364). ALLREDUCE gives every member the whole reduced tensor. -/
def execAllReduce (id : Nat) (s : State) : Host.Outcome State Fault Refusal :=
  .next (s.runReduction id 1)

/-- REDUCE_SCATTER (R365). REDUCE_SCATTER gives the member at position k shard k of the reduced tensor. -/
def execReduceScatter (id : Nat) (s : State) : Host.Outcome State Fault Refusal :=
  .next (s.runReduction id 2)

/-- THR_REDUCE (R364). A Thresher REDUCE gives the root position the whole tensor and every other member the header
only. -/
def execThrReduce (id : Nat) (s : State) : Host.Outcome State Fault Refusal :=
  .next (s.runReduction id 3)

/-- VERDICT (R385). VERDICT combines the step's non-finite flags and job-scope maxima over the included members. -/
def execVerdict (id : Nat) (maxima : List (Nat × Int)) (s : State) : Host.Outcome State Fault Refusal :=
  .next (s.runVerdict id maxima)

/-- THRESHER_CANCEL (R388). A Thresher CANCEL removes unstarted collectives, withdraws started unsealed ones and lets
sealed ones finish. -/
def execThresherCancel (id : Nat) (s : State) : Host.Outcome State Fault Refusal :=
  .next (s.runThrCancel id)

/-- BROADCAST (R393). BROADCAST delivers the root's part to every position down a distribution tree. -/
def execBroadcast (id : Nat) (s : State) : Host.Outcome State Fault Refusal :=
  .next (s.runDelivery id 0x10)

/-- ALLGATHER (R393). ALLGATHER delivers every member's part to every position. -/
def execAllGather (id : Nat) (s : State) : Host.Outcome State Fault Refusal :=
  .next (s.runDelivery id 0x11)

/-- ALLTOALL (R393). ALLTOALL delivers part j of each sender to position j. -/
def execAllToAll (id : Nat) (s : State) : Host.Outcome State Fault Refusal :=
  .next (s.runDelivery id 0x12)

/-- COLLECTIVE_START (R375). A collective starts and sends its ready token to the arbiter once launch, wait and
run-ahead allow. -/
def execCollectiveStart (id : Nat) (s : State) : Host.Outcome State Fault Refusal :=
  .next (s.collStart id)

/-- READY_TOKEN (R376). The arbiter stamps an arriving ready token and compares its digest. -/
def execReadyToken (channel : Fin 32) (number : Nat) (token : TokenMsg) (s : State) : Host.Outcome State Fault Refusal :=
  .next (s.readyToken channel.val number token)

/-- DEADLINE_EXPIRY (R376). The first SC cycle whose Almanac value exceeds the deadline becomes the decision cycle. -/
def execDeadlineExpiry (channel : Fin 32) (number : Nat) (s : State) : Host.Outcome State Fault Refusal :=
  .next (s.deadlineExpiry channel.val number)

/-- SEAL (R378). Four SC cycles after the decision the arbiter seals the included set, or fails the collective with
THR_QUORUM. -/
def execSealMade (channel : Fin 32) (number : Nat) (s : State) : Host.Outcome State Fault Refusal :=
  .next (s.sealColl channel.val number)

/-- SEAL_RECEIVED (R378). A member acts on a received seal, ignoring seals already acted on. -/
def execSealReceived (channel : Fin 32) (number : Nat) (record : SealRec) (s : State) : Host.Outcome State Fault Refusal :=
  .next (s.sealReceived channel.val number record)

/-- SEAL_RESEND_REQUEST (R381). The arbiter resends the kept seal of a recent collective on request. -/
def execSealResendRequest (channel : Fin 32) (number : Nat) (position : Nat) (s : State) : Host.Outcome State Fault Refusal :=
  .next (s.sealResend channel.val number position)

/-- THR_NO_SEAL (R381). A member holding no seal by its seal limit fails the collective with THR_NO_SEAL. -/
def execThrNoSeal (id : Nat) (s : State) : Host.Outcome State Fault Refusal :=
  .next (s.noSeal id)

/-- BLOCK_RECEIVED (R372). A received block is checked against its residue, accepted once by its key, added and
forwarded. -/
def execBlockReceived (channel : Fin 32) (number : Nat) (block : BlockMsg) (s : State) : Host.Outcome State Fault Refusal :=
  .next ((s.blockReceived channel.val number block).noteCapacity s)

/-- SEGMENT_ACK (R400). A child's acknowledgement of written, checked bytes frees its parent's lag window. -/
def execSegmentAck (channel : Fin 32) (number : Nat) (tree : Nat) (child : Nat) (bytes : Nat) (s : State) : Host.Outcome State Fault Refusal :=
  .next (s.segmentAck channel.val number tree child bytes)

/-- DATA_LIMIT_EXPIRY (R380). At decision time plus data_limit, undelivered members are excluded by a reseal or the
collective fails with THR_DATA. -/
def execDataLimitExpiry (channel : Fin 32) (number : Nat) (undelivered : List Nat) (s : State) : Host.Outcome State Fault Refusal :=
  .next (s.dataLimitExpiry channel.val number undelivered)

/-- PEER_REPORT (R410). A member reports an unreachable peer to the arbiter, which stamps the report. -/
def execPeerReport (channel : Fin 32) (number : Nat) (reporter : Nat) (peer : Nat) (s : State) : Host.Outcome State Fault Refusal :=
  .next (s.peerReport channel.val number reporter peer)

/-- REPORT_DECISION (R410). 20 us after the first report the arbiter judges the reported members undelivered and
reseals. -/
def execReportDecision (channel : Fin 32) (number : Nat) (s : State) : Host.Outcome State Fault Refusal :=
  .next (s.reportDecision channel.val number)

/-- CHILD_DETACH (R401). A child lagging beyond the window for longer than straggle_limit is detached and its children
are adopted. -/
def execChildDetach (channel : Fin 32) (number : Nat) (tree : Nat) (child : Nat) (offsets : List Nat) (s : State) : Host.Outcome State Fault Refusal :=
  .next (s.childDetach channel.val number tree child offsets)

/-- REPAIR_REQUEST (R402). A detached or orphaned child fetches its missing range by unicast repair requests; a block
asked for again after a residue mismatch is sent again (R372, R405). -/
def execRepairRequest (channel : Fin 32) (number : Nat) (tree : Nat) (other : Nat) (ask : RepairAsk) (s : State) : Host.Outcome State Fault Refusal :=
  .next (s.repairRequest channel.val number tree other ask)

/-- COLLECTIVE_COMPLETE (R406). A collective completes on a member when its result and header are written and its
attached children have acknowledged. -/
def execCollectiveComplete (id : Nat) (s : State) : Host.Outcome State Fault Refusal :=
  .next (s.collComplete id)

/-- REPAIR_LIMIT_EXPIRY (R407). A member that has not written its whole result by the repair limit completes with
THR_UNDELIVERED. -/
def execRepairLimitExpiry (id : Nat) (s : State) : Host.Outcome State Fault Refusal :=
  .next (s.repairExpiry id)

/-- THR_CH_ENABLE (R374). Setting a THR_CH enable reads and checks the member table and computes its digest. -/
def execThrChEnable (via : Via) (channel : Fin 32) (gate : Bool) (s : State) : Host.Outcome State Fault Refusal :=
  .next (s.writeBy via (regAddr .thrCh channel.val 0x020) (1 + 4 * b2n gate))

end Sys2Proof.Machine
end

