-- ==== Sys2Proof/Machine/CmdTilth.lean ====
section
/-!
DEFINITION. Commands: Tilth (R246 to R268).
-/
namespace Sys2Proof.Machine

/-- TILTH_LAYOUT_WRITE (R247). A TILTH_LAYOUT write changes a set's mode, and is accepted only while every bank of the
set is Off. -/
def execTilthLayoutWrite (via : Via) (field : Fin 8) (value : Word) (s : State) : Host.Outcome State Fault Refusal :=
  .next (s.writeBy via (regAddr .tilth field.val 0x100) (value.toNat))

/-- TILTH_BANK_STATE_WRITE (R252). A TILTH_BANK_STATE write makes a bank pending, after which new accesses to it are
refused. -/
def execTilthBankStateWrite (via : Via) (field : Fin 8) (set : Fin 3) (value : Word) (s : State) : Host.Outcome State Fault Refusal :=
  .next (s.writeBy via (regAddr .tilth field.val (0x108 + 8 * set.val)) (value.toNat))

/-- BANK_TRANSITION_START (R252). A pending bank begins its transition once every earlier descriptor and access
touching it has completed. -/
def execBankTransitionStart (field : Fin 8) (bank : Fin 96) (s : State) : Host.Outcome State Fault Refusal :=
  .next (s.bankStart field.val bank.val)

/-- BANK_TRANSITION_DONE (R251). A bank reaches its new power state after the transition time of R251, and is no
longer pending. -/
def execBankTransitionDone (field : Fin 8) (bank : Fin 96) (s : State) : Host.Outcome State Fault Refusal :=
  .next (s.bankDone field.val bank.val)

/-- TILTH_ECC_UNCORRECTABLE (R256). An uncorrectable read error poisons the sector and raises TILTH_ECC. -/
def execTilthEccUncorrectable (addr : Addr) (requester : Fin 8) (workId : BitVec 32) (s : State) : Host.Outcome State Fault Refusal :=
  .next (s.tilthEcc addr.toNat requester.val workId.toNat)

/-- TILTH_ECC_WRITEBACK (R255). Corrected sector data is written back when the bank's read port next has an idle
cycle. -/
def execTilthEccWriteback (addr : Addr) (s : State) : Host.Outcome State Fault Refusal :=
  .next (s.tilthWriteback addr.toNat)

/-- PLOT_TEST_START (R258). The plot tester starts the next plot of a bank once the interval has passed, copying it to
the save plot and redirecting it. -/
def execPlotTestStart (field : Fin 8) (bank : Fin 96) (s : State) : Host.Outcome State Fault Refusal :=
  .next (s.plotStart field.val bank.val)

/-- PLOT_TEST_END (R258). A plot test ends by restoring and unredirecting the plot, or by making the redirection
permanent. -/
def execPlotTestEnd (field : Fin 8) (bank : Fin 96) (passed : Bool) (flashOk : Bool) (s : State) : Host.Outcome State Fault Refusal :=
  .next (s.plotEnd field.val bank.val passed flashOk)

/-- PLOT_TEST_STEAL (R260). A plot test still running 10 ms after its start takes one port cycle in 64 at priority 1. -/
def execPlotTestSteal (field : Fin 8) (bank : Fin 96) (s : State) : Host.Outcome State Fault Refusal :=
  .next (s.plotSteal field.val bank.val)

/-- TT_CONTROL_WRITE (R263). A TT_CONTROL write changes the tester settings, and restores any plot under test when run
is set to 0. -/
def execTtControlWrite (via : Via) (field : Fin 8) (value : Word) (s : State) : Host.Outcome State Fault Refusal :=
  .next (s.writeBy via (regAddr .tilthTest field.val 0x100) (value.toNat))

end Sys2Proof.Machine
end

