-- ==== Sys2Proof/Machine/CmdTithe.lean ====
section
/-!
DEFINITION. Commands: the Tithe meter (R517 to R527).
-/
namespace Sys2Proof.Machine

/-- TITHE_SAMPLE (R515). The Tithe samples input voltage and current and adds their product into the open interval. -/
def execTitheSample (millivolts : Nat) (milliamps : Nat) (s : State) : Host.Outcome State Fault Refusal :=
  .next (s.titheSample millivolts milliamps)

/-- TITHE_SELF_CHECK (R516). Once a second the Tithe checks its sense path against its reference, setting or clearing
sense_fault. -/
def execTitheSelfCheck (deviates : Bool) (s : State) : Host.Outcome State Fault Refusal :=
  .next (s.titheCheck deviates)

/-- TITHE_ROLLOVER (R518). An interval reaching 3,600 s of Tithe time closes with reason ROLLOVER. -/
def execTitheRollover (s : State) : Host.Outcome State Fault Refusal :=
  .next (s.titheRollover)

/-- TITHE_POWER_LOSS (R519). Main input below 40 V for 100 us closes the interval and writes it from the hold-up
store. -/
def execTithePowerLoss (written : Bool) (tamper : Option (Fin 4)) (mark : Option (BitVec 64 × BitVec 64)) (s : State) : Host.Outcome State Fault Refusal :=
  .next (s.titheLoss written (tamper.map (fun k => k.val + 1)) (mark.map (fun m => (m.1.toNat, m.2.toNat))))

/-- TITHE_POWER_RETURN (R519). At power return a new interval opens under the former tag, flagging CHECKPOINT_LOSS if
needed. -/
def execTithePowerReturn (s : State) : Host.Outcome State Fault Refusal :=
  .next (s.titheReturn)

/-- TITHE_CHECKPOINT (R519). The open interval is checkpointed to flash every 1 s. -/
def execTitheCheckpoint (s : State) : Host.Outcome State Fault Refusal :=
  .next (s.titheCheckpoint)

/-- TITHE_TAMPER (R523). A tamper sensor trip adds a log entry and, except for kind 5, closes the interval with reason
TAMPER. -/
def execTitheTamper (kind : Fin 5) (mark : Option (BitVec 64 × BitVec 64)) (s : State) : Host.Outcome State Fault Refusal :=
  .next (s.titheTamper (kind.val + 1) (mark.map (fun m => (m.1.toNat, m.2.toNat))))

/-- IDENT (R524). The UART IDENT command returns the Tithe certificate. -/
def execIdent (args : List Byte) (crc : BitVec 16) (s : State) : Host.Outcome State Fault Refusal :=
  .next (s.uartIdent args crc.toNat)

/-- STATUS (R524). The UART STATUS command returns the 64 status bytes. -/
def execStatus (args : List Byte) (crc : BitVec 16) (s : State) : Host.Outcome State Fault Refusal :=
  .next (s.uartStatus args crc.toNat)

/-- READ_RECORD (R524). The UART READ_RECORD command returns a held record by sequence number. -/
def execReadRecord (args : List Byte) (crc : BitVec 16) (s : State) : Host.Outcome State Fault Refusal :=
  .next (s.uartRecord args crc.toNat)

/-- READ_NOW (R524). The UART READ_NOW command returns a signed snapshot of the open interval. -/
def execReadNow (args : List Byte) (crc : BitVec 16) (s : State) : Host.Outcome State Fault Refusal :=
  .next (s.uartNow args crc.toNat)

/-- JOB_MARK (R524). The UART JOB_MARK command closes the interval with reason MARK and sets the new tag. -/
def execJobMark (args : List Byte) (crc : BitVec 16) (s : State) : Host.Outcome State Fault Refusal :=
  .next (s.uartMark args crc.toNat)

/-- TAMPER_LOG (R524). The UART TAMPER_LOG command returns one tamper log entry. -/
def execTamperLog (args : List Byte) (crc : BitVec 16) (s : State) : Host.Outcome State Fault Refusal :=
  .next (s.uartTamper args crc.toNat)

/-- UART_FRAME_TIMEOUT (R524). A gap of more than 10 ms between request bytes discards the frame without an answer. -/
def execUartFrameTimeout (s : State) : Host.Outcome State Fault Refusal :=
  .next (s)

/-- MIRROR_SNAPSHOT (R525). Every 10 ms the Tithe sends a status snapshot to TITHE_RO under the mirror_gen protocol. -/
def execMirrorSnapshot (s : State) : Host.Outcome State Fault Refusal :=
  .next (s.mirrorSnapshot)

/-- MIRROR_RECORD_ARRIVAL (R526). A closed record arrives in mirror slot s mod 2, updating latest_seq and
mirror_almanac. -/
def execMirrorRecordArrival (s : State) : Host.Outcome State Fault Refusal :=
  .next (s.mirrorRecord)

/-- TITHE_MIRROR_STALE (R526). No mirror word for 100 ms sets stale and raises TITHE_MIRROR_STALE. -/
def execTitheMirrorStale (s : State) : Host.Outcome State Fault Refusal :=
  .next (s.mirrorStale)

end Sys2Proof.Machine
end

