-- ==== Sys2Proof/Machine/CmdWinnow.lean ====
section
/-!
DEFINITION. Commands: Winnow (R221 to R245).
-/
namespace Sys2Proof.Machine

/-- CLOSE_STEP (R225). CLOSE_STEP waits for the step's descriptors, then combines records, updates histories, scales
and alarms, and writes the step report. -/
def execCloseStep (id : Nat) (s : State) : Host.Outcome State Fault Refusal :=
  .next (s.runCloseStep id)

/-- SET_TAGS (R238). SET_TAGS loads tag configuration words and resets each tag's state. -/
def execSetTags (id : Nat) (s : State) : Host.Outcome State Fault Refusal :=
  .next (s.runSetTags id)

/-- SAVE_STATE (R238). SAVE_STATE writes the module word and 64 bytes per tag to memory. -/
def execSaveState (id : Nat) (s : State) : Host.Outcome State Fault Refusal :=
  .next (s.runSaveState id)

/-- LOAD_STATE (R238). LOAD_STATE reads the saved layout into every Winnow copy. -/
def execLoadState (id : Nat) (s : State) : Host.Outcome State Fault Refusal :=
  .next (s.runLoadState id)

/-- PROBE (R238). PROBE empties the history and sets probe for every delayed tag. -/
def execProbe (id : Nat) (s : State) : Host.Outcome State Fault Refusal :=
  .next (s.runProbe id)

/-- WINNOW_ENABLE (R240). Setting WINNOW PG_CTRL.enable from 0 to 1 clears every tag entry and both counter areas. -/
def execWinnowEnable (via : Via) (field : Fin 8) (gate : Bool) (s : State) : Host.Outcome State Fault Refusal :=
  .next (s.writeBy via (regAddr .winnow field.val 0x020) (1 + 4 * b2n gate))

/-- WN_CONFIG_WRITE (R241). A WN_CONFIG write, checked for fit in Tilth, applies to all eight WINNOW pages. -/
def execWnConfigWrite (via : Via) (field : Fin 8) (value : Word) (s : State) : Host.Outcome State Fault Refusal :=
  .next (s.writeBy via (regAddr .winnow field.val 0x100) (value.toNat))

/-- WN_SILENT_MASK_WRITE (R235). A WN_SILENT_MASK write masks or unmasks one tag's alarm on every Field and is
journaled. -/
def execWnSilentMaskWrite (via : Via) (field : Fin 8) (value : Word) (s : State) : Host.Outcome State Fault Refusal :=
  .next (s.writeBy via (regAddr .winnow field.val 0x110) (value.toNat))

end Sys2Proof.Machine
end

