-- ==== Sys2Proof/Machine/Dispatch.lean ====
section
/-!
DEFINITION. What each command does: one arm for each constructor of `Instr`, each a direct call of its meaning.
-/
namespace Sys2Proof.Machine

/-- The effect of a command on everything but the queue of commands that wait. -/
def exec (i : Instr) (s : State) : Host.Outcome State Fault Refusal :=
  match i with
  | .registerWrite seq header payload => Sys2Proof.Machine.execRegisterWrite seq header payload s
  | .pgEventClear via page bits => Sys2Proof.Machine.execPgEventClear via page bits s
  | .pgErrCodeClear via page value => Sys2Proof.Machine.execPgErrCodeClear via page value s
  | .blockReset via page enable gate => Sys2Proof.Machine.execBlockReset via page enable gate s
  | .pgCtrlEnableWrite via page enable gate => Sys2Proof.Machine.execPgCtrlEnableWrite via page enable gate s
  | .hitchTrainingStep lanesOk => Sys2Proof.Machine.execHitchTrainingStep lanesOk s
  | .hitchTrainingTimeout => Sys2Proof.Machine.execHitchTrainingTimeout s
  | .linkCtrlReceived header payload => Sys2Proof.Machine.execLinkCtrlReceived header payload s
  | .fecCodewordUncorrectable => Sys2Proof.Machine.execFecCodewordUncorrectable s
  | .replayRequestRepeat => Sys2Proof.Machine.execReplayRequestRepeat s
  | .statusWordSend => Sys2Proof.Machine.execStatusWordSend s
  | .hitchReplayLimit => Sys2Proof.Machine.execHitchReplayLimit s
  | .eventRecordSend n => Sys2Proof.Machine.execEventRecordSend n s
  | .hostWaitLate wait => Sys2Proof.Machine.execHostWaitLate wait s
  | .jobPause via => Sys2Proof.Machine.execJobPause via s
  | .jobResume via => Sys2Proof.Machine.execJobResume via s
  | .dwPortWrite seq tag window data => Sys2Proof.Machine.execDwPortWrite seq tag window data s
  | .dwPortRead seq tag window => Sys2Proof.Machine.execDwPortRead seq tag window s
  | .cmdPortWrite seq tag window data => Sys2Proof.Machine.execCmdPortWrite seq tag window data s
  | .resumeWrites via window => Sys2Proof.Machine.execResumeWrites via window s
  | .resumeIssue via window => Sys2Proof.Machine.execResumeIssue via window s
  | .descriptorParse window => Sys2Proof.Machine.execDescriptorParse window s
  | .descriptorIssue window => Sys2Proof.Machine.execDescriptorIssue window s
  | .nop id => Sys2Proof.Machine.execNop id s
  | .signal id => Sys2Proof.Machine.execSignal id s
  | .reeveCoreEcc place core held => Sys2Proof.Machine.execReeveCoreEcc place core held s
  | .reeveWatchdog place core held => Sys2Proof.Machine.execReeveWatchdog place core held s
  | .reeveForceFail via field cores => Sys2Proof.Machine.execReeveForceFail via field cores s
  | .hedgeFlitCrcFail link => Sys2Proof.Machine.execHedgeFlitCrcFail link s
  | .hedgeRerouted link => Sys2Proof.Machine.execHedgeRerouted link s
  | .hedgeFieldLost field => Sys2Proof.Machine.execHedgeFieldLost field s
  | .pass id => Sys2Proof.Machine.execPass id s
  | .passShadowLoadStart id => Sys2Proof.Machine.execPassShadowLoadStart id s
  | .passShadowLoadDone id => Sys2Proof.Machine.execPassShadowLoadDone id s
  | .passSwap id stalls => Sys2Proof.Machine.execPassSwap id stalls s
  | .passRowEnter id stalls => Sys2Proof.Machine.execPassRowEnter id stalls s
  | .passRowAdd id mismatch => Sys2Proof.Machine.execPassRowAdd id mismatch s
  | .passComplete id => Sys2Proof.Machine.execPassComplete id s
  | .arrayFail field => Sys2Proof.Machine.execArrayFail field s
  | .arrayForceFail via field value => Sys2Proof.Machine.execArrayForceFail via field value s
  | .helperReissue field => Sys2Proof.Machine.execHelperReissue field s
  | .readout id => Sys2Proof.Machine.execReadout id s
  | .preload id => Sys2Proof.Machine.execPreload id s
  | .clear id => Sys2Proof.Machine.execClear id s
  | .saveRaw id => Sys2Proof.Machine.execSaveRaw id s
  | .loadRaw id => Sys2Proof.Machine.execLoadRaw id s
  | .reduce id => Sys2Proof.Machine.execReduce id s
  | .gleanEcc field row col access workId corrected => Sys2Proof.Machine.execGleanEcc field row col access workId corrected s
  | .map id unit => Sys2Proof.Machine.execMap id unit s
  | .rowReduce id unit => Sys2Proof.Machine.execRowReduce id unit s
  | .softmax id unit => Sys2Proof.Machine.execSoftmax id unit s
  | .norm id unit => Sys2Proof.Machine.execNorm id unit s
  | .optim id unit => Sys2Proof.Machine.execOptim id unit s
  | .harrowUnitDeal engine thread starved => Sys2Proof.Machine.execHarrowUnitDeal engine thread starved s
  | .harrowEngineFail engine thread check => Sys2Proof.Machine.execHarrowEngineFail engine thread check s
  | .harrowForceFail via engine value => Sys2Proof.Machine.execHarrowForceFail via engine value s
  | .closeStep id => Sys2Proof.Machine.execCloseStep id s
  | .setTags id => Sys2Proof.Machine.execSetTags id s
  | .saveState id => Sys2Proof.Machine.execSaveState id s
  | .loadState id => Sys2Proof.Machine.execLoadState id s
  | .probe id => Sys2Proof.Machine.execProbe id s
  | .winnowEnable via field gate => Sys2Proof.Machine.execWinnowEnable via field gate s
  | .wnConfigWrite via field value => Sys2Proof.Machine.execWnConfigWrite via field value s
  | .wnSilentMaskWrite via field value => Sys2Proof.Machine.execWnSilentMaskWrite via field value s
  | .tilthLayoutWrite via field value => Sys2Proof.Machine.execTilthLayoutWrite via field value s
  | .tilthBankStateWrite via field set value => Sys2Proof.Machine.execTilthBankStateWrite via field set value s
  | .bankTransitionStart field bank => Sys2Proof.Machine.execBankTransitionStart field bank s
  | .bankTransitionDone field bank => Sys2Proof.Machine.execBankTransitionDone field bank s
  | .tilthEccUncorrectable addr requester workId => Sys2Proof.Machine.execTilthEccUncorrectable addr requester workId s
  | .tilthEccWriteback addr => Sys2Proof.Machine.execTilthEccWriteback addr s
  | .plotTestStart field bank => Sys2Proof.Machine.execPlotTestStart field bank s
  | .plotTestEnd field bank passed flashOk => Sys2Proof.Machine.execPlotTestEnd field bank passed flashOk s
  | .plotTestSteal field bank => Sys2Proof.Machine.execPlotTestSteal field bank s
  | .ttControlWrite via field value => Sys2Proof.Machine.execTtControlWrite via field value s
  | .fill id => Sys2Proof.Machine.execFill id s
  | .demote id => Sys2Proof.Machine.execDemote id s
  | .granaryEcc addr cls workId => Sys2Proof.Machine.execGranaryEcc addr cls workId s
  | .granaryScrub addr outcome => Sys2Proof.Machine.execGranaryScrub addr outcome s
  | .granaryRefresh stack pc => Sys2Proof.Machine.execGranaryRefresh stack pc s
  | .granaryTempRead stack celsius => Sys2Proof.Machine.execGranaryTempRead stack celsius s
  | .granaryRetrain stack pc laneRepaired => Sys2Proof.Machine.execGranaryRetrain stack pc laneRepaired s
  | .freshBlockZero stack => Sys2Proof.Machine.execFreshBlockZero stack s
  | .granaryStackFail stack cause => Sys2Proof.Machine.execGranaryStackFail stack cause s
  | .granaryForceFail via stack value => Sys2Proof.Machine.execGranaryForceFail via stack value s
  | .copy id => Sys2Proof.Machine.execCopy id s
  | .ringSetup id => Sys2Proof.Machine.execRingSetup id s
  | .ringCredit id => Sys2Proof.Machine.execRingCredit id s
  | .drillCancel id field => Sys2Proof.Machine.execDrillCancel id field s
  | .drillStart id gateWait creditWait limitWait => Sys2Proof.Machine.execDrillStart id gateWait creditWait limitWait s
  | .drillComplete id discarded => Sys2Proof.Machine.execDrillComplete id discarded s
  | .headlandGateOpen id => Sys2Proof.Machine.execHeadlandGateOpen id s
  | .decode id => Sys2Proof.Machine.execDecode id s
  | .coulterCancel id => Sys2Proof.Machine.execCoulterCancel id s
  | .sampleStart sample hdr => Sys2Proof.Machine.execSampleStart sample hdr s
  | .arenaAllocate sample granules => Sys2Proof.Machine.execArenaAllocate sample granules s
  | .decodeSyntaxUnit sample unit => Sys2Proof.Machine.execDecodeSyntaxUnit sample unit s
  | .decCoreHung core => Sys2Proof.Machine.execDecCoreHung core s
  | .decCoreEcc core => Sys2Proof.Machine.execDecCoreEcc core s
  | .decCoreForceFail via core value => Sys2Proof.Machine.execDecCoreForceFail via core value s
  | .batch id area granules => Sys2Proof.Machine.execBatch id area granules s
  | .batchStart id => Sys2Proof.Machine.execBatchStart id s
  | .batchSeal id => Sys2Proof.Machine.execBatchSeal id s
  | .windrowRelease id => Sys2Proof.Machine.execWindrowRelease id s
  | .cribFlush via => Sys2Proof.Machine.execCribFlush via s
  | .liveStreamEnable via stream value => Sys2Proof.Machine.execLiveStreamEnable via stream value s
  | .livePacket packet => Sys2Proof.Machine.execLivePacket packet s
  | .liveTake id => Sys2Proof.Machine.execLiveTake id s
  | .liveWaitExpiry id => Sys2Proof.Machine.execLiveWaitExpiry id s
  | .liveStreamLost stream => Sys2Proof.Machine.execLiveStreamLost stream s
  | .allReduce id => Sys2Proof.Machine.execAllReduce id s
  | .reduceScatter id => Sys2Proof.Machine.execReduceScatter id s
  | .thrReduce id => Sys2Proof.Machine.execThrReduce id s
  | .verdict id maxima => Sys2Proof.Machine.execVerdict id maxima s
  | .thresherCancel id => Sys2Proof.Machine.execThresherCancel id s
  | .broadcast id => Sys2Proof.Machine.execBroadcast id s
  | .allGather id => Sys2Proof.Machine.execAllGather id s
  | .allToAll id => Sys2Proof.Machine.execAllToAll id s
  | .collectiveStart id => Sys2Proof.Machine.execCollectiveStart id s
  | .readyToken channel number token => Sys2Proof.Machine.execReadyToken channel number token s
  | .deadlineExpiry channel number => Sys2Proof.Machine.execDeadlineExpiry channel number s
  | .sealMade channel number => Sys2Proof.Machine.execSealMade channel number s
  | .sealReceived channel number record => Sys2Proof.Machine.execSealReceived channel number record s
  | .sealResendRequest channel number position => Sys2Proof.Machine.execSealResendRequest channel number position s
  | .thrNoSeal id => Sys2Proof.Machine.execThrNoSeal id s
  | .blockReceived channel number block => Sys2Proof.Machine.execBlockReceived channel number block s
  | .segmentAck channel number tree child bytes => Sys2Proof.Machine.execSegmentAck channel number tree child bytes s
  | .dataLimitExpiry channel number undelivered => Sys2Proof.Machine.execDataLimitExpiry channel number undelivered s
  | .peerReport channel number reporter peer => Sys2Proof.Machine.execPeerReport channel number reporter peer s
  | .reportDecision channel number => Sys2Proof.Machine.execReportDecision channel number s
  | .childDetach channel number tree child offsets => Sys2Proof.Machine.execChildDetach channel number tree child offsets s
  | .repairRequest channel number tree other ask => Sys2Proof.Machine.execRepairRequest channel number tree other ask s
  | .collectiveComplete id => Sys2Proof.Machine.execCollectiveComplete id s
  | .repairLimitExpiry id => Sys2Proof.Machine.execRepairLimitExpiry id s
  | .swathLinkDown port lane => Sys2Proof.Machine.execSwathLinkDown port lane s
  | .swathLinkRetrain link trained => Sys2Proof.Machine.execSwathLinkRetrain link trained s
  | .laserLow port => Sys2Proof.Machine.execLaserLow port s
  | .laserRestored port => Sys2Proof.Machine.execLaserRestored port s
  | .pfcPause port priorities => Sys2Proof.Machine.execPfcPause port priorities s
  | .dataReceived rx => Sys2Proof.Machine.execDataReceived rx s
  | .ackReceived rx => Sys2Proof.Machine.execAckReceived rx s
  | .nackReceived rx msg => Sys2Proof.Machine.execNackReceived rx msg s
  | .ackTimer endpoint => Sys2Proof.Machine.execAckTimer endpoint s
  | .rtoExpiry endpoint seq => Sys2Proof.Machine.execRtoExpiry endpoint seq s
  | .probeReceived rx => Sys2Proof.Machine.execProbeReceived rx s
  | .probeReplyReceived rx => Sys2Proof.Machine.execProbeReplyReceived rx s
  | .probeTimer endpoint => Sys2Proof.Machine.execProbeTimer endpoint s
  | .peerUnreachable endpoint => Sys2Proof.Machine.execPeerUnreachable endpoint s
  | .swathWrite id => Sys2Proof.Machine.execSwathWrite id s
  | .swathRead id => Sys2Proof.Machine.execSwathRead id s
  | .swathCancel id => Sys2Proof.Machine.execSwathCancel id s
  | .planLoad via => Sys2Proof.Machine.execPlanLoad via s
  | .planUnload via => Sys2Proof.Machine.execPlanUnload via s
  | .lldpSend => Sys2Proof.Machine.execLldpSend s
  | .lldpReceived link chassisType portType chassis port => Sys2Proof.Machine.execLldpReceived link chassisType portType chassis port s
  | .discoveryLimit => Sys2Proof.Machine.execDiscoveryLimit s
  | .ptpMessage message => Sys2Proof.Machine.execPtpMessage message s
  | .almanacTick => Sys2Proof.Machine.execAlmanacTick s
  | .almanacMeasurement offset => Sys2Proof.Machine.execAlmanacMeasurement offset s
  | .ppsInEdge => Sys2Proof.Machine.execPpsInEdge s
  | .almanacHoldover => Sys2Proof.Machine.execAlmanacHoldover s
  | .launchGateFire id => Sys2Proof.Machine.execLaunchGateFire id s
  | .waitMet domain => Sys2Proof.Machine.execWaitMet domain s
  | .flagSet via domain flag => Sys2Proof.Machine.execFlagSet via domain flag s
  | .flagClear via domain flag => Sys2Proof.Machine.execFlagClear via domain flag s
  | .furlongRun id => Sys2Proof.Machine.execFurlongRun id s
  | .furlongStop id => Sys2Proof.Machine.execFurlongStop id s
  | .stepExpansion => Sys2Proof.Machine.execStepExpansion s
  | .phaseComplete step pre phase => Sys2Proof.Machine.execPhaseComplete step pre phase s
  | .stepComplete step => Sys2Proof.Machine.execStepComplete step s
  | .ledgerRecordsWrite via value => Sys2Proof.Machine.execLedgerRecordsWrite via value s
  | .rebaseSubmit via value => Sys2Proof.Machine.execRebaseSubmit via value s
  | .rebase => Sys2Proof.Machine.execRebase s
  | .commit id => Sys2Proof.Machine.execCommit id s
  | .buddySend id => Sys2Proof.Machine.execBuddySend id s
  | .buddySealReceived slot offset => Sys2Proof.Machine.execBuddySealReceived slot offset s
  | .stookTake id => Sys2Proof.Machine.execStookTake id s
  | .stookStaged id => Sys2Proof.Machine.execStookStaged id s
  | .drainAck via value => Sys2Proof.Machine.execDrainAck via value s
  | .refill id => Sys2Proof.Machine.execRefill id s
  | .fillReady via value => Sys2Proof.Machine.execFillReady via value s
  | .pairRequest via endpoint override => Sys2Proof.Machine.execPairRequest via endpoint override s
  | .unpair via endpoint override => Sys2Proof.Machine.execUnpair via endpoint override s
  | .pairingMessage endpoint domain answer => Sys2Proof.Machine.execPairingMessage endpoint domain answer s
  | .targetRun via => Sys2Proof.Machine.execTargetRun via s
  | .targetRest via => Sys2Proof.Machine.execTargetRest via s
  | .targetFallow via => Sys2Proof.Machine.execTargetFallow via s
  | .targetWinter via => Sys2Proof.Machine.execTargetWinter via s
  | .powerStateReached => Sys2Proof.Machine.execPowerStateReached s
  | .idleEntry => Sys2Proof.Machine.execIdleEntry s
  | .fallowHitchWake lanes => Sys2Proof.Machine.execFallowHitchWake lanes s
  | .governorWindow report millivolts estimate => Sys2Proof.Machine.execGovernorWindow report millivolts estimate s
  | .junctionSensorRead die sensor celsius => Sys2Proof.Machine.execJunctionSensorRead die sensor celsius s
  | .thermalStep => Sys2Proof.Machine.execThermalStep s
  | .droopTrip field millivolts => Sys2Proof.Machine.execDroopTrip field millivolts s
  | .droopStretchEnd field acCycles fcCycles => Sys2Proof.Machine.execDroopStretchEnd field acCycles fcCycles s
  | .acChangeSubmit via mhz changeAt => Sys2Proof.Machine.execAcChangeSubmit via mhz changeAt s
  | .acChangeCancel via => Sys2Proof.Machine.execAcChangeCancel via s
  | .acVoltageRamp => Sys2Proof.Machine.execAcVoltageRamp s
  | .acChange field => Sys2Proof.Machine.execAcChange field s
  | .titheSample millivolts milliamps => Sys2Proof.Machine.execTitheSample millivolts milliamps s
  | .titheSelfCheck deviates => Sys2Proof.Machine.execTitheSelfCheck deviates s
  | .titheRollover => Sys2Proof.Machine.execTitheRollover s
  | .tithePowerLoss written tamper mark => Sys2Proof.Machine.execTithePowerLoss written tamper mark s
  | .tithePowerReturn => Sys2Proof.Machine.execTithePowerReturn s
  | .titheCheckpoint => Sys2Proof.Machine.execTitheCheckpoint s
  | .titheTamper kind mark => Sys2Proof.Machine.execTitheTamper kind mark s
  | .ident args crc => Sys2Proof.Machine.execIdent args crc s
  | .status args crc => Sys2Proof.Machine.execStatus args crc s
  | .readRecord args crc => Sys2Proof.Machine.execReadRecord args crc s
  | .readNow args crc => Sys2Proof.Machine.execReadNow args crc s
  | .jobMark args crc => Sys2Proof.Machine.execJobMark args crc s
  | .tamperLog args crc => Sys2Proof.Machine.execTamperLog args crc s
  | .uartFrameTimeout => Sys2Proof.Machine.execUartFrameTimeout s
  | .mirrorSnapshot => Sys2Proof.Machine.execMirrorSnapshot s
  | .mirrorRecordArrival => Sys2Proof.Machine.execMirrorRecordArrival s
  | .titheMirrorStale => Sys2Proof.Machine.execTitheMirrorStale s
  | .strapSample pwrDomain slotId bootSel => Sys2Proof.Machine.execStrapSample pwrDomain slotId bootSel s
  | .bringupStageComplete found => Sys2Proof.Machine.execBringupStageComplete found s
  | .stageTimeout links => Sys2Proof.Machine.execStageTimeout links s
  | .warmResetStage => Sys2Proof.Machine.execWarmResetStage s
  | .mainInputApplied => Sys2Proof.Machine.execMainInputApplied s
  | .standbyApplied => Sys2Proof.Machine.execStandbyApplied s
  | .resetN lowMicroseconds => Sys2Proof.Machine.execResetN lowMicroseconds s
  | .warmResetRequest via => Sys2Proof.Machine.execWarmResetRequest via s
  | .coldResetRequest via => Sys2Proof.Machine.execColdResetRequest via s
  | .hitchRetrainRequest via => Sys2Proof.Machine.execHitchRetrainRequest via s
  | .stage via => Sys2Proof.Machine.execStage via s
  | .stageComplete flashOk => Sys2Proof.Machine.execStageComplete flashOk s
  | .activate via => Sys2Proof.Machine.execActivate via s
  | .confirm via => Sys2Proof.Machine.execConfirm via s
  | .abandon via => Sys2Proof.Machine.execAbandon via s
  | .quote via => Sys2Proof.Machine.execQuote via s
  | .certs via => Sys2Proof.Machine.execCerts via s
  | .journalPageWrite => Sys2Proof.Machine.execJournalPageWrite s
  | .mgmtRequest datagram => Sys2Proof.Machine.execMgmtRequest datagram s
  | .smbusRead target pecOk address => Sys2Proof.Machine.execSmbusRead target pecOk address s
  | .smbusWrite target pecOk address value => Sys2Proof.Machine.execSmbusWrite target pecOk address value s
  | .wake target pecOk => Sys2Proof.Machine.execWake target pecOk s
  | .jtagRegisterAccess write address value => Sys2Proof.Machine.execJtagRegisterAccess write address value s
  | .idcode => Sys2Proof.Machine.execIdcode s
  | .extest tdi => Sys2Proof.Machine.execExtest tdi s
  | .bypass tdi => Sys2Proof.Machine.execBypass tdi s
  | .samplePreload tdi => Sys2Proof.Machine.execSamplePreload tdi s
  | .thrChEnable via channel gate => Sys2Proof.Machine.execThrChEnable via channel gate s
  | .vinLow => Sys2Proof.Machine.execVinLow s
  | .vinHigh => Sys2Proof.Machine.execVinHigh s
  | .vstbyLow => Sys2Proof.Machine.execVstbyLow s
  | .refclkLost => Sys2Proof.Machine.execRefclkLost s
  | .mclkLost => Sys2Proof.Machine.execMclkLost s
  | .mclkReturn => Sys2Proof.Machine.execMclkReturn s
  | .harrowUnitComplete id unit => Sys2Proof.Machine.execHarrowUnitComplete id unit s
  | .gleanDescriptorComplete id => Sys2Proof.Machine.execGleanDescriptorComplete id s
  | .quoteDone => Sys2Proof.Machine.execQuoteDone s
  | .ptpSyncSend => Sys2Proof.Machine.execPtpSyncSend s

end Sys2Proof.Machine
end

