-- ==== Sys2Proof/Safety.lean ====
section
/-!
DEFINITION. What the claims are stated in: a command that completes, a state that a run reaches, what a command leaves alone, and
the invariants of the state.
-/
namespace Sys2Proof

open Machine

/-- The command answers a next state, and that state has the property. -/
def Completes (c : Instr) (s : State) (P : State → Prop) : Prop := ∃ t, exec c s = .next t ∧ P t

/-- One step leads from one state to another. -/
def StepsTo (s t : State) : Prop := step s = .next t

/-- A run from a state reaches another. -/
inductive Reaches : State → State → Prop where
  | refl (s : State) : Reaches s s
  | tail (s t u : State) (c : Instr) (before : Reaches s t) (now : StepsTo (t.enqueue c) u) : Reaches s u

/-- A run is safe from a state on: whatever commands are queued, no step faults and none is refused. -/
def Safe (s : State) : Prop := ∀ t, Reaches s t → ∀ c, ∃ u, StepsTo (t.enqueue c) u

/-! ### Register writes, whichever port brings them -/

/-- The source that a port's writes carry in the journal (R541). -/
def Via.source : Via → Source
  | .hitch _ _ => .hitch
  | .ethernet _ _ => .mgmtEthernet
  | .twoWire => .twoWire
  | .jtag => .jtag

/-- The port takes a write now and the register fabric is open: the Hitch flit is the next in order with a free tag
(R41, R42, R48); the management ports have their power and clock, and a datagram is no repeat (R544 to R547). -/
def Via.takes (via : Via) (s : State) : Bool :=
  s.steward.fabricOpen &&
  match via with
  | .hitch seq tag => s.linkUp && !s.steward.warm && seq.toNat == s.hitch.rxNext && tag != 0xFF#8 && !s.tagBusy tag.toNat
  | .ethernet seq _ => s.awake && s.steward.mclk && s.steward.mgmtLast.all (fun (m : Nat × List Byte) => m.1 != seq.toNat)
  | .twoWire | .jtag => s.awake

/-- The port takes a write now. -/
abbrev Via.Takes (via : Via) (s : State) : Prop := via.takes s = true

/-- The state in which a write taken by a port meets its page: the flit's sequence number taken, or the management
request counted (R41, R548). -/
def Via.arrived (via : Via) (s : State) : State :=
  match via with
  | .hitch _ _ => { s with hitch := { s.hitch with rxNext := (s.hitch.rxNext + 1) % 4096, rxReplay := false } }
  | .ethernet _ _ | .twoWire | .jtag => s.drawn.bump (stewReg 0x1A0)

/-- What the page answers to a write brought by a port: the state and the refusal code, 0 for OK (R49, R52). -/
def Via.reply (via : Via) (s : State) (a v : Nat) : Reply := (via.arrived s).regWrite via.source a v

/-- A write lands: its port takes it and its page accepts it. -/
abbrev Lands (via : Via) (s : State) (a v : Nat) : Prop := via.Takes s ∧ (via.reply s a v).code = 0

/-- The answer that the port gives to an accepted write (R48, R545). -/
def Via.answer (via : Via) (a v : Nat) (s : State) : State :=
  match via with
  | .hitch _ tag => s.respond tag.toNat a 0 0
  | .ethernet seq tag => s.etherAnswer true tag.toNat seq.toNat a v 0 0
  | .twoWire | .jtag => s

/-- The state in which a window's next descriptor is checked: a Field's parsed counter has counted it (R71). -/
def Machine.State.parseSeen (s : State) (w : Nat) : State :=
  if s.consumer w < 8 then s.bump (reeveReg (s.consumer w) 0x118) else s

/-- What a PASS in flight holds, if the id names one that its Field has taken up. -/
def Machine.State.passProg (s : State) (id : Nat) : Option PassProg := (s.flight id).bind Flight.pass?

/-- What a BATCH in flight holds once it has started. -/
def Machine.State.batchProg (s : State) (id : Nat) : Option BatchProg := (s.flight id).bind Flight.batch?

/-- What a collective in flight holds. -/
def Machine.State.collOf (s : State) (id : Nat) : Option CollProg := (s.flight id).bind Flight.coll?

/-- A received Swath packet passes every check of R420, and this is its header and payload. -/
abbrev Machine.State.Hears (s : State) (rx : SwathRx) (type : Nat) (h : SwHdr) (payload : List Byte) : Prop :=
  (s.link rx.link.val).inService = true ∧ rx.frameOk = true ∧ swParse rx.bytes = some (h, payload) ∧ h.tag = s.planTag ∧ h.src < s.swath.eps.length ∧
  h.src ≠ s.ownEp ∧ h.dst = s.ownEp ∧ h.type = type

/-- A neighbour's record in the plan's layout (R434). -/
def lldpRecord (chassisType portType : BitVec 8) (chassis port : List Byte) : List Byte :=
  [1, chassisType, portType, 0] ++ (chassis ++ List.replicate 30 0).take 30 ++ (port ++ List.replicate 30 0).take 30

/-- A response frame of the Tithe's UART (R524). -/
def titheFrame (cmd status : Nat) (payload : List Byte) : List Byte :=
  leBytes 1 0x5A ++ (leBytes 1 cmd ++ leBytes 1 status ++ leBytes 2 payload.length ++ payload) ++
    leBytes 2 (crc16 0xFFFF (leBytes 1 cmd ++ leBytes 1 status ++ leBytes 2 payload.length ++ payload))

/-- Bring-up is under way: Steward runs, nothing has halted it, and neither boundary scan nor a reset holds it (R529). -/
abbrev Machine.State.BringsUp (s : State) : Prop :=
  s.awake = true ∧ s.steward.halted = false ∧ s.steward.scanHold = false ∧ s.steward.ready = false ∧ s.steward.warm = false

/-- The 512 bytes of a quote (R540). -/
def Machine.State.quoteBytes (s : State) : List Byte :=
  s.quoteBody ++ (Config.attestSignature s.bootDigest s.quoteBody ++ List.replicate 132 0).take 132 ++ List.replicate 28 0

/-- The next region row of a Glean descriptor in flight. -/
def Machine.State.gleanRow (s : State) (id : Nat) : Option Nat := (s.flight id).map (fun f => f.glean?.row)

/-- A unit of a Harrow flight has one more chunk stored. -/
def Machine.State.UnitAdvances (t : State) (id u n : Nat) : Prop :=
  (t.flight id).any (fun g => g.harrow?.running.any (fun y => y.unit == u && y.stored == n + 1)) = true

/-- A descriptor has ended: it is in flight no more, and its window shows its work_id (R71). -/
def Machine.State.Ended (s : State) (f : Flight) : Prop :=
  s.flight f.id = none ∧ s.rf (regAddr .cmdwin f.window 0x120) 31 0 = f.work

/-- Of memory, only the retransmit buffers of Swath have changed (R27, R424). -/
def Machine.State.OnlySlots (s t : State) : Prop := ∀ a, (a < swathBufBase ∨ swathBufEnd ≤ a) → t.byte a = s.byte a

/-- A counter has been raised by n; it stops at 0xFFFF_FFFF_FFFF_FFFE. -/
def Machine.State.Counted (s t : State) (a n : Nat) : Prop := t.reg a = min counterStop (s.reg a + n)

/-- A PG_EVENT bit is set (R75). -/
def Machine.State.Raised (s : State) (k : PageKind) (i bit : Nat) : Prop := bitOf (s.reg (regAddr k i 0x030)) bit = true

/-- An error that found PG_ERR_CODE 0 is captured with its detail (R57). -/
def Machine.State.Captured (s t : State) (k : PageKind) (i code info0 info1 : Nat) : Prop :=
  s.rf (regAddr k i 0x040) 15 0 = 0 →
    t.reg (regAddr k i 0x040) = code ∧ t.reg (regAddr k i 0x048) = info0 ∧ t.reg (regAddr k i 0x050) = info1

/-- Device memory is in its canonical form: addresses rising, no byte that an unlisted address reads as. -/
abbrev Machine.State.MemOk (s : State) : Prop := Memory.wf s.mem = true

/-! ### Frames -/

/-- The state's lists have the lengths the module gives them, and what names a window, a channel, a core, a counter area or a word of the
mirror page names one that there is. -/
abbrev Machine.State.Shaped (s : State) : Prop :=
  s.fields.length = 8 ∧ s.arrays.length = 8 ∧ s.engines.length = 16 ∧ s.stackList.length = 24 ∧ s.plots.length = 8 ∧
  s.windows.length = 16 ∧ s.rings.length = 256 ∧ s.thr.chans.length = 32 ∧ s.swath.links.length = 64 ∧ s.swath.ports.length = 8 ∧
  s.power.droop.length = 8 ∧ s.power.sensors.length = 72 ∧ s.coulter.live.length = 8 ∧ s.coulter.cores.length = 16 ∧
  s.recov.hosted.length = 2 ∧ s.recov.sealSeen.length = 2 ∧ (∀ x ∈ s.winnow.areas, x.2 < 2) ∧
  (∀ f ∈ s.flights, f.window < 16 ∧ f.coll?.all (fun p => decide (p.ch < 32)) = true) ∧
  s.furlong.all (fun g => decide (g.window < 16)) = true ∧
  (∀ x ∈ s.coulter.samples, x.core.all (fun c => decide (c < 16)) = true) ∧
  (∀ w ∈ s.tithe.snapWords ++ s.tithe.recWords, w.1 < 0x1000)

/-- The register store is in its canonical form: addresses rising, no register at its reset value. -/
abbrev Machine.State.RegsOk (s : State) : Prop := s.regs.Pairwise (fun a b => a.1 < b.1) ∧ ∀ r ∈ s.regs, r.2 ≠ resetOf r.1

/-- Registers differ on pages of these kinds only. -/
def Machine.State.RegsWithin (s t : State) (ks : List PageKind) : Prop :=
  ∀ a k i, pageOf (a / 0x1000) = some (k, i) → k ∉ ks → t.reg a = s.reg a

/-- Memory differs in these ranges only. -/
def Machine.State.StoresWithin (s t : State) (rs : List (Nat × Nat)) : Prop :=
  ∀ a, (∀ r ∈ rs, ¬(r.1 ≤ a ∧ a < r.1 + r.2)) → t.byte a = s.byte a

/-- The parts that the completion of a descriptor changes, taken from t. -/
def Machine.State.withEnd (s t : State) : State :=
  { s with flags := t.flags, flagsNow := t.flagsNow, flights := t.flights, furlong := t.furlong, hitch := t.hitch, regs := t.regs, setNow := t.setNow }

/-- The parts that a store changes, taken from t. -/
def Machine.State.withStore (s t : State) : State := { s with mem := t.mem, poison := t.poison, written := t.written, regs := t.regs }

/-- The parts that any register write changes, taken from t: registers, the port's answers and its numbers, the journal. -/
def Machine.State.withWrite (s t : State) : State :=
  { s with regs := t.regs, hitch := t.hitch, journal := t.journal, steward := t.steward, freeCtr := t.freeCtr, setNow := t.setNow }

/-- Whatever the command does from a state of the right shape, the next state differs only where `put` takes it from the new
one, and registers differ on pages of some kinds only. -/
def Frame (c : Instr) (put : State → State → State) (ks : List PageKind) : Prop :=
  ∀ s t, s.Shaped → exec c s = .next t → t = put s t ∧ s.RegsWithin t ks

/-- The bytes of the Winnow tables and step reports (R223, R232). -/
def Machine.State.winnowBytes (s : State) : List (Nat × Nat) :=
  (List.range 8).flatMap (fun f => [(s.tableBase f, tableBytes (max (s.tagCount f) (s.tagCount s.reporter))), (s.reportBase f, reportBytes)])

/-! ### Stores -/

/-- Wherever the operands stand as the command's checks leave them, the command stores to these bytes only. -/
def Stores (c : Instr) (checked : State → Bool) (rs : State → List (Nat × Nat)) : Prop :=
  ∀ s t, s.Shaped → checked s = true → exec c s = .next t → s.StoresWithin t (rs s)

/-- The words of a flight of a class and opcode. -/
def Machine.State.wordsOf (s : State) (id cls op : Nat) : List Word512 := ((s.flightOf id cls op).map Flight.words).getD []

/-- Everything that a Field's loss clears: its Tilth, its Glean, its region of the Granary (R22). -/
def fieldBytes (f : Nat) : List (Nat × Nat) :=
  [(tilthBase f, tilthSize), (gleanBase f, gleanSize), (granaryBase + f * granaryRegion, granaryRegion)]

/-- The row of accumulators that the next row of a Glean descriptor of an opcode lies in. -/
def Machine.State.gleanRowBytes (s : State) (id op : Nat) : List (Nat × Nat) :=
  (s.flightOf id 2 op).elim [] (fun f => [(accAddr (gleanF f.words).field ((gleanF f.words).row0 + f.glean?.row) 0, 12288)])

/-- The region of a Glean descriptor ends inside its rows. -/
def Machine.State.regionFits (s : State) (id op : Nat) : Bool :=
  decide ((gleanF (s.wordsOf id 2 op)).col0 + (gleanF (s.wordsOf id 2 op)).cols ≤ 1024)

/-- The row of accumulators that the oldest row in a PASS's pipeline is added to (R117). -/
def Machine.State.passRowBytes (s : State) (id : Nat) : List (Nat × Nat) :=
  (s.passProg id).elim [] (fun q => (q.pipe.take 1).map (fun r =>
    (accAddr (passF (s.wordsOf id 1 1)).array ((passF (s.wordsOf id 1 1)).gleanRow + r.index) 0, 12288)))

/-- A unit that a Harrow descriptor of an opcode has, its checks passed. -/
def Machine.State.harrowFits (s : State) (id op u : Nat) : Bool :=
  s.harrowParse (s.wordsOf id 3 op) == 0 && decide (u < harrowUnits (s.wordsOf id 3 op))

/-- The bytes that a COPY's next row goes to; where rows share sectors, the sectors it touches, and what earlier rows moved into
them, for a sector is written once its bytes are all there (R303, R304). -/
def Machine.State.copyBytes (s : State) (id : Nat) : List (Nat × Nat) :=
  (s.flightOf id 4 1).elim [] (fun f =>
    let c := copyF f.words
    let p := f.copy?
    let rows : List (Nat × Nat) := if c.transpose = 0 then [(p.dst + p.row / c.y * c.dz + p.row % c.y * c.dy, c.x)]
      else (List.range (c.x / copyElem c)).map (fun k => (p.dst + k * c.dy + p.row * copyElem c, copyElem c))
    if copyAlone c p.dst then rows
    else rows.map (fun r => (r.1 / 32 * 32, roundUp (r.1 % 32 + r.2) 32)) ++ p.held.map (fun x => (x.1, x.2.length)))

/-- O of a sample: its destination, or its granules of the arena (R320, R324). -/
def Machine.State.outputOfSample (s : State) (id : Nat) : List (Nat × Nat) :=
  (s.samp id).elim [] (fun x =>
    if x.d.direct then [(x.d.dst, x.o)] else (x.granules.getD []).map (fun g => (s.arenaBase + g * granule, granule)))

/-- A sample's granules hold O, and tokens still to come have their room in it. -/
def Machine.State.outputFits (s : State) (id : Nat) : Bool :=
  (s.samp id).all (fun x => (x.d.direct || decide (x.o ≤ (x.granules.getD []).length * granule)) &&
    (!isText x.d.kind || decide (x.written + 4 * (x.d.len - x.bits / 8) ≤ x.o)))

/-- The slot of a BATCH that has started (R346). -/
def Machine.State.slotOfBatch (s : State) (id : Nat) : List (Nat × Nat) :=
  (s.batchProg id).elim [] (fun p =>
    let b := batchF (s.wordsOf id 5 3)
    [(s.slotBase p.seq, statusBytes b.count + b.count * b.areaBytes)])

/-- A BATCH has no more areas than its count. -/
def Machine.State.batchFits (s : State) (id : Nat) : Bool :=
  (s.batchProg id).all (fun p => decide (p.areas.length ≤ (batchF (s.wordsOf id 5 3)).count))

/-- The ring of a live stream (R356). -/
def Machine.State.ringOfStream (s : State) (i : Nat) : Nat × Nat :=
  ((s.live i).base, max 1 (s.liveCfg i).ring * (s.liveCfg i).frameBytes)

/-- The frame that a stream assembles lies in its picture (R359). -/
def Machine.State.roiFits (s : State) (i : Nat) : Bool :=
  decide ((s.live i).roi.2.2.1 ≤ (s.liveCfg i).width) && decide ((s.live i).roi.2.2.2 ≤ (s.liveCfg i).height)

/-- A collective's checks passed, and its seal includes positions of its channel only. -/
def Machine.State.collFits (s : State) (f : Option Flight) : Bool :=
  f.all (fun f => s.thrParse f.words == 0 &&
    (f.coll?.bind CollProg.held).all (fun x => x.included.all (fun q => decide (q < (s.chan (collF f.words).ch).n))))

/-- What a collective writes: its result and its header (R382, R384). -/
def Machine.State.collBytes (s : State) (f : Option Flight) : List (Nat × Nat) := f.elim [] (fun f => s.collOuts (collF f.words))

/-- The retransmit buffers of Swath (R27, R424). -/
def retransmitBytes : List (Nat × Nat) := [(swathBufBase, 0x4000000)]

/-- Where the payload of a received data packet goes (R429, R480, R488), or the data that answer a read wait (R424). -/
def Machine.State.arrivalBytes (s : State) (rx : SwathRx) : List (Nat × Nat) :=
  (swParse rx.bytes).elim [] (fun r =>
    match rx.body with
    | .write a => [(a, r.2.length)]
    | .slotWrite slot off => [(s.slotAddr slot (off + r.1.q), r.2.length)]
    | .slotSeal slot off => [(s.slotAddr slot (off + r.1.q), r.2.length)]
    | .readReq _ _ => retransmitBytes
    | .slotRead _ _ _ => retransmitBytes
    | .readData msg =>
      (s.transferOf r.1.src msg).elim [] (fun f =>
        [((swathF f.words).localAddr + r.1.q, min r.2.length ((swathF f.words).len - r.1.q))]) ++
      s.flights.flatMap (fun f => match f.prog with
        | .reco p => if p.ep == r.1.src && p.msg == some msg then [(p.dst + r.1.q, min r.2.length (p.len - r.1.q))] else []
        | _ => [])
    | _ => [])

/-- The next record of the phase ledger (R469). -/
def Machine.State.ledgerBytes (s : State) : List (Nat × Nat) :=
  [(s.rf (regAddr .almanac 0 0x148) 47 0 + 32 * s.rf (regAddr .almanac 0 0x150) 63 32, 32)]

/-- The entry that a recovery descriptor moves next, at the place a function gives it. -/
def Machine.State.recBytes (s : State) (id op : Nat) (place : RecProg → List (Nat × Nat)) : List (Nat × Nat) :=
  (s.flightOf id 0x0D op).elim [] (fun f => place f.reco?)

/-- Where COMMIT copies a carried entry to (R475). -/
def Machine.State.commitBytes (s : State) (id : Nat) : List (Nat × Nat) :=
  s.recBytes id 1 (fun p => ((s.recEnts.filter (fun e => e.a1 != 0))[p.idx]?).elim []
    (fun e => [(e.copy (recF (s.wordsOf id 0x0D 1)).set, e.len)]))

/-- What STOOK_TAKE stages next: the header and table, then one entry after another (R483). -/
def Machine.State.stookTakeBytes (s : State) (id : Nat) : List (Nat × Nat) :=
  s.recBytes id 3 (fun p => if !p.begun then [(s.stagingBase, 64 + 32 * s.recCount)]
    else ((packOffsets s.stookData (s.recOf [2, 3]))[p.idx]?).elim [] (fun x => [(s.stagingBase + x.1, x.2.len)]))

/-! ### Whole-machine rules -/

/-- The commands of the Tithe itself: its measurement, its supply, its tamper events, its UART, and the mirror that it drives
(R513 to R526). -/
def Instr.ofTithe : Instr → Bool
  | .titheSample .. | .titheSelfCheck .. | .titheRollover | .tithePowerLoss .. | .tithePowerReturn | .titheCheckpoint | .titheTamper ..
  | .ident .. | .status .. | .readRecord .. | .readNow .. | .jobMark .. | .tamperLog .. | .mirrorSnapshot | .mirrorRecordArrival => true
  | _ => false

/-- The commands that may clear a captured error: register writes of any address, PG_ERR_CODE's own, a block reset, and whatever
resets the module or takes its power or clock (R57, R492, R531, R567). -/
def Instr.mayClearErrors : Instr → Bool
  | .registerWrite .. | .pgErrCodeClear .. | .blockReset .. | .mgmtRequest .. | .smbusWrite .. | .jtagRegisterAccess .. | .coldResetRequest ..
  | .wake .. | .mainInputApplied | .standbyApplied | .resetN .. | .vinLow | .vinHigh | .vstbyLow | .refclkLost | .powerStateReached
  | .junctionSensorRead .. | .warmResetStage => true
  | _ => false

end Sys2Proof
end

