-- ==== Sys2Proof/Certificates/Slice0/Obligations.lean ====
section
/-!
DEFINITION. The claims about the module, for the provers. Each is a conjunction of clauses that quantify over every state: what a
command does, what it leaves alone, and the rules that hold of the whole machine.
-/
open Sys2Proof Sys2Proof.Machine

/-! ### The block -/

/-- A step takes the command at the front of the queue: it is `exec` of that command on the state with the rest of the queue. -/
def Obligations.StepRunsFrontCommand : Prop :=
  ∀ (c : Instr) (s : State), step { s with pending := c :: s.pending } = exec c s

/-- No command stops the block: in every state each of the 254 commands answers a next state, for the spec gives every one of them an
effect, a command turned away included. -/
def Obligations.EveryCommandCompletes : Prop :=
  ∀ (c : Instr) (s : State), ∃ t, exec c s = .next t

/-- With no command waiting the block idles (the model's choice, log entry 1); no word spells a command, since the table gives its rows
no bits, so a word placed changes nothing. -/
def Obligations.IdleAndNoWords : Prop :=
  (∀ s : State, s.pending = [] → step s = .next s) ∧
  (∀ (s : State) (n w : Nat), decodeTableWord n w = none ∧ s.withFetchWord n w = s)

/-- No command touches the queue of waiting commands. -/
def Obligations.QueueUntouchedByCommands : Prop :=
  ∀ (c : Instr) (s t : State), exec c s = .next t → t.pending = s.pending

/-- What reset leaves: the fabric closed, the link down, every unit untested or training, every queue empty; memory canonical and reading
as zero (log entry 7), every register at its reset value; every list at its length. -/
def Obligations.ResetLeaves : Prop :=
  State.reset.steward.fabricOpen = false ∧
  State.reset.steward.ready = false ∧
  State.reset.steward.stage = 0 ∧
  State.reset.hitch.link = .down ∧
  State.reset.hitch.job = .running ∧
  State.reset.hitch.events = [] ∧
  State.reset.hitch.credit = 0 ∧
  State.reset.flights = [] ∧
  State.reset.furlong = none ∧
  State.reset.flags = [] ∧
  State.reset.pending = [] ∧
  State.reset.alm.state = .free ∧
  State.reset.journal.pending = [] ∧
  (∀ f : Fin 8, State.reset.lost f.val = false ∧ (State.reset.array f.val).state = 0) ∧
  (∀ w : Fin 16, State.reset.win w.val = ⟨[], [], false, false, false⟩ ∧ (State.reset.engine w.val).state = 0) ∧
  (∀ n : Fin 24, (State.reset.stack n.val).state = 0) ∧
  State.reset.MemOk ∧
  (∀ a, State.reset.byte a = 0 ∧ State.reset.reg a = resetOf a) ∧
  State.reset.Shaped ∧
  State.reset.RegsOk

/-- Every step keeps device memory and the register store in their canonical forms: addresses rising, and nothing listed that an unlisted
address reads as. -/
def Obligations.StepKeepsStoresCanonical : Prop :=
  (∀ s t : State, s.MemOk → StepsTo s t → t.MemOk) ∧
  (∀ s t : State, s.RegsOk → StepsTo s t → t.RegsOk)

/-- Every step keeps the shape of the state: the lists keep the lengths the module gives them, and what names a window, a channel, a
core or a mirror word names one that there is. -/
def Obligations.StepKeepsShape : Prop :=
  ∀ s t : State, s.Shaped → StepsTo s t → t.Shaped

/-! ### Whole-machine rules -/

/-- The Tithe is isolated (R513): of all commands only the Tithe's own change its measurement, records, clock or flash. Another may
at most drop the words that the mirror was about to show. -/
def Obligations.OnlyTitheCommandsReachTheTithe : Prop :=
  ∀ (c : Instr) (s t : State), c.ofTithe = false → exec c s = .next t →
    t.tithe = { s.tithe with snapWords := t.tithe.snapWords, recWords := t.tithe.recWords }

/-- The first error a page captures is kept (R57): no command but one that clears it by a register write, and but the resets and
losses of power, changes PG_ERR_CODE, its details or its time where the code is not 0, unless an error of the same Almanac time and a
lower code displaces it, as R57 has it of two errors in one cycle (that errors of one Almanac time share a cycle is log entry 17). -/
def Obligations.FirstErrorIsKept : Prop :=
  ∀ (c : Instr) (s t : State) (a : Nat) (k : PageKind) (i : Nat), c.mayClearErrors = false → pageOf (a / 0x1000) = some (k, i) →
    a % 0x1000 = 0x040 → s.rf a 15 0 ≠ 0 → exec c s = .next t →
    (t.reg a = s.reg a ∧ t.reg (a + 0x08) = s.reg (a + 0x08) ∧ t.reg (a + 0x10) = s.reg (a + 0x10) ∧ t.reg (a + 0x18) = s.reg (a + 0x18)) ∨
    (t.reg a < s.rf a 15 0 ∧ t.reg (a + 0x18) = s.reg (a + 0x18))

/-- Before the register fabric opens, every request is answered NOT_READY with code NOT_READY (0x0501), whatever its address, Hitch's
own registers included (R50): a read or a write of a register or a word, and each command that Hitch brings. -/
def Obligations.RequestsWaitForTheFabric : Prop :=
  (∀ (seq : BitVec 12) (tag : BitVec 8) (kind : Fin 5) (a : Addr) (v : Word512) (s : State), s.linkUp = true → seq.toNat = s.hitch.rxNext →
    s.steward.warm = false → s.steward.fabricOpen = false → flitBad (reqHeader kind.val tag.toNat a.toNat) v.toNat = false → kind.val ≠ 0 →
    exec (.registerWrite seq (BitVec.ofNat 64 (reqHeader kind.val tag.toNat a.toNat)) v) s =
      .next (((Via.hitch seq tag).arrived s).respond tag.toNat a.toNat 1 0x0501)) ∧
  (∀ (seq : BitVec 12) (tag : BitVec 8) (a : Addr) (v : Word) (s : State), s.linkUp = true → seq.toNat = s.hitch.rxNext →
    s.steward.warm = false → s.steward.fabricOpen = false → tag ≠ 0xFF#8 →
    s.writeBy (.hitch seq tag) a.toNat v.toNat = ((Via.hitch seq tag).arrived s).respond tag.toNat a.toNat 1 0x0501) ∧
  (∀ (seq : BitVec 12) (tag : BitVec 8) (s : State), s.linkUp = true → seq.toNat = s.hitch.rxNext →
    s.steward.warm = false → s.steward.fabricOpen = false → tag ≠ 0xFF#8 →
    (∀ (w : Fin 4) (d : Word512), exec (.dwPortWrite seq tag w d) s =
      .next (((Via.hitch seq tag).arrived s).respond tag.toNat (regAddr .datawin w.val 0x200) 1 0x0501)) ∧
    (∀ w : Fin 4, exec (.dwPortRead seq tag w) s =
      .next (((Via.hitch seq tag).arrived s).respond tag.toNat (regAddr .datawin w.val 0x200) 1 0x0501)) ∧
    (∀ (w : Fin 16) (d : Word512), exec (.cmdPortWrite seq tag w d) s =
      .next (((Via.hitch seq tag).arrived s).respond tag.toNat (regAddr .cmdwin w.val 0x200) 1 0x0501)))

/-- The seal counter counts openings of the Tithe lid, as seen by its conductive mesh and its light sensor, and only ever increases
(R522): an opening is a tamper event of kind 1, seen while the Tithe runs or as its supply is lost. -/
def Obligations.SealCounterCountsOpenings : Prop :=
  (∀ (m : Option (BitVec 64 × BitVec 64)) (s : State), s.tithe.powered = true →
    Completes (.titheTamper 0 m) s (fun t => t.tithe.sealCount = s.tithe.sealCount + 1)) ∧
  (∀ (w : Bool) (m : Option (BitVec 64 × BitVec 64)) (s : State), s.tithe.powered = true →
    Completes (.tithePowerLoss w (some 0) m) s (fun t => t.tithe.sealCount = s.tithe.sealCount + 1)) ∧
  (∀ (c : Instr) (s t : State), exec c s = .next t →
    t.tithe.sealCount = s.tithe.sealCount ∨
    (t.tithe.sealCount = s.tithe.sealCount + 1 ∧ ((∃ m, c = .titheTamper 0 m) ∨ ∃ w m, c = .tithePowerLoss w (some 0) m)))

/-- ALMANAC.job_seed is the seed of R103, and writing it is refused with REG_OUT_OF_RANGE (0x0206) while a furlong runs (R456). A
write that meets a full journal buffer, or the module asleep, is refused for that first. -/
def Obligations.JobSeedStandsWhileAFurlongRuns : Prop :=
  (∀ (s : State) (tag step index : Nat), s.drawFor tag step index = srDraw (BitVec.ofNat 64 (s.reg (almReg 0x130))) tag step index) ∧
  (∀ (via : Via) (v : Word) (s : State), via.Takes s → s.furlong.isSome = true →
    (via.reply s (almReg 0x130) v.toNat).code ≠ 0 ∧ (via.reply s (almReg 0x130) v.toNat).st.reg (almReg 0x130) = s.reg (almReg 0x130)) ∧
  (∀ (via : Via) (v : Word) (s : State), via.Takes s → s.furlong.isSome = true → s.asleep = false → s.journalFullNow = false →
    (via.reply s (almReg 0x130) v.toNat).code = 0x0206)

/-- A warm reset empties the windrow queue, so that SAMPLE.ready reads 0 and every live stream's ring is empty; it ends every Swath
connection and unloads the plan, so that TRANSPORT.state reads NO_PLAN (R472). -/
def Obligations.WarmResetEmptiesQueuesAndPlan : Prop :=
  ∀ s : State, s.steward.warm = true → s.steward.stage = 0x21 →
    Completes .warmResetStage s (fun t => t.coulter.slots = [] ∧ bitsOf (t.word .sample 0 0x128) 40 32 = 0 ∧
      (∀ i, (t.live i).frames = []) ∧ t.swath.conns = [] ∧ t.swath.plan = 0 ∧ bitsOf (t.word .transport 0 0x118) 7 0 = 0)

/-! ### Hitch, registers and control -/

/-- The training of the link (R43 to R45) and its timeout (R43): each state is left for the next one once four of the lanes
that a choice of R44 needs meet its condition; after the eighth failed attempt the link holds at FAILED.
LINK_CTRL, replay requests and the status word (R41, R46, R569): a good LINK_CTRL flit sets the credit total it carries,
drops what it acknowledges, has the flits sent again that it asks for, gives the host's version, and takes no number; a lost codeword and its repeats ask for replay; 16 failed replays retrain the
link with its buffers kept (R47).
An EVENT flit takes the oldest records, one ring credit each (R75, R569). -/
def Obligations.LinkRuns : Prop :=
  (∀ (m : BitVec 8) (s : State), s.hitch.link = .down → s.serdesOn = true → 4 ≤ popCount 8 m.toNat →
    Completes (.hitchTrainingStep m) s (fun t => t.hitch.link = .detect ∧ t.hitch.lanes = m.toNat)) ∧
  (∀ (m : BitVec 8) (s : State), (laneChoice (s.hitch.lanes &&& m.toNat)).isSome = true →
    Completes (.hitchTrainingStep m) s (fun t =>
      (s.hitch.link = .detect → t.hitch.link = .equalise) ∧ (s.hitch.link = .equalise → t.hitch.link = .fecLock) ∧
      (s.hitch.link = .fecLock → t.hitch.link = .deskew) ∧ (s.hitch.link = .deskew → t.hitch.link = .version))) ∧
  (∀ (m : BitVec 8) (s : State) (lanes v : Nat), s.hitch.link = .version → laneChoice (s.hitch.lanes &&& m.toNat) = some lanes →
    s.hitch.farVersion = some v → 256 ≤ v →
    Completes (.hitchTrainingStep m) s (fun t =>
      t.hitch.link = (if lanes = 0xFF then .up else .upNarrow) ∧ t.hitch.lanes = lanes ∧ t.hitch.attempts = 0)) ∧
  (∀ s : State, s.serdesOn = true → s.hitch.link ≠ .up → s.hitch.link ≠ .upNarrow → s.hitch.link ≠ .failed →
    Completes .hitchTrainingTimeout s (fun t =>
      if s.hitch.attempts < 7 then t.hitch.link = .down ∧ t.hitch.attempts = s.hitch.attempts + 1 else t.hitch.link = .failed)) ∧
  (∀ (h : BitVec 64) (p : Word512) (s : State), s.ctrlUp = true → bitsOf h.toNat 7 0 = 7 → linkCtrlOk p.toNat = true →
    Completes (.linkCtrlReceived h p) s (fun t =>
      t.hitch.rxNext = s.hitch.rxNext ∧ (bitOf p.toNat 2 = true → t.hitch.credit = bitsOf p.toNat 159 128) ∧
      (bitOf p.toNat 2 = false → t.hitch.credit = s.hitch.credit) ∧
      (bitOf p.toNat 0 = true → ackReplay (bitsOf p.toNat 27 16) s.hitch.replay <+: t.hitch.replay) ∧
      (bitOf p.toNat 0 = false → t.hitch.replay = s.hitch.replay) ∧
      (bitOf p.toNat 0 = false → bitOf p.toNat 1 = true → t.hitch.sent =
        ((s.hitch.replay.dropWhile (fun e => e.1 != bitsOf p.toNat 43 32)).map (fun e => e.2)).reverse ++ s.hitch.sent) ∧
      (bitOf p.toNat 4 = true → s.hitch.link = .version → t.hitch.farVersion = some (bitsOf p.toNat 175 160)))) ∧
  (∀ s : State, s.linkUp = true →
    Completes .fecCodewordUncorrectable s (fun t => t.hitch.rxReplay = true ∧ t.hitch.rxNext = s.hitch.rxNext)) ∧
  (∀ s : State, s.ctrlUp = true → s.hitch.rxReplay = true →
    Completes .replayRequestRepeat s (fun t => t.hitch.sent = ⟨7#64, BitVec.ofNat 512 s.linkCtrlPayload⟩ :: s.hitch.sent)) ∧
  (∀ s : State, s.ctrlUp = true →
    Completes .statusWordSend s (fun t => t.hitch.statusSent = s.statusWord ∧
      t.hitch.sent = ⟨7#64, BitVec.ofNat 512 s.linkCtrlPayload⟩ :: s.hitch.sent)) ∧
  (∀ s : State, s.linkUp = true →
    Completes .hitchReplayLimit s (fun t => t.hitch.link = .down ∧ t.hitch.attempts = 0 ∧ t.hitch.retraining = true ∧
      t.hitch.replay = s.hitch.replay)) ∧
  (∀ (n : Fin 4) (s : State), s.linkUp = true → n.val + 1 ≤ s.hitch.events.length → n.val + 1 ≤ s.creditsLeft →
    Completes (.eventRecordSend n) s (fun t => t.hitch.recSent = (s.hitch.recSent + (n.val + 1)) % 2 ^ 32 ∧
      s.hitch.events.drop (n.val + 1) <+: t.hitch.events))

/-- Requests on Hitch. A register read or write is executed and answered once, a refused one counted (R48, R49); a data window moves 64
bytes and its address advances by 64 (R61); a command port takes one word into its window (R64). -/
def Obligations.HitchRequests : Prop :=
  (∀ (seq : BitVec 12) (tag : BitVec 8) (a : Addr) (v : Word) (s : State), Lands (.hitch seq tag) s a.toNat v.toNat → a.toNat ≠ stewReg 0x110 →
    exec (.registerWrite seq (BitVec.ofNat 64 (reqHeader 2 tag.toNat a.toNat)) (v.setWidth 512)) s =
      .next (((Via.hitch seq tag).reply s a.toNat v.toNat).st.respond tag.toNat a.toNat 0 0)) ∧
  (∀ (seq : BitVec 12) (tag : BitVec 8) (a : Addr) (v : Word) (s : State), (Via.hitch seq tag).Takes s →
    ((Via.hitch seq tag).reply s a.toNat v.toNat).code ≠ 0 →
    exec (.registerWrite seq (BitVec.ofNat 64 (reqHeader 2 tag.toNat a.toNat)) (v.setWidth 512)) s =
      .next ((((Via.hitch seq tag).reply s a.toNat v.toNat).st.bump (hitchReg 0x128)).respond tag.toNat a.toNat 2
        ((Via.hitch seq tag).reply s a.toNat v.toNat).code)) ∧
  (∀ (seq : BitVec 12) (tag : BitVec 8) (w : Fin 4) (d : Word512) (s : State), s.MemOk → (Via.hitch seq tag).Takes s → s.dwCode w.val true = 0 →
    (∀ i, i < 64 → s.deadAt (s.dwAddr w.val + i) = false) →
    Completes (.dwPortWrite seq tag w d) s (fun t => t.bytes (s.dwAddr w.val) 64 = leBytes 64 d.toNat ∧
      t.dwAddr w.val = s.dwAddr w.val + 64)) ∧
  (∀ (seq : BitVec 12) (tag : BitVec 8) (w : Fin 4) (s : State), (Via.hitch seq tag).Takes s → s.dwCode w.val false = 0 →
    s.hitch.replay.length < 256 → s.hitch.txQueue = [] →
    Completes (.dwPortRead seq tag w) s (fun t => t.mem = s.mem ∧ t.dwAddr w.val = s.dwAddr w.val + 64 ∧
      t.hitch.sent = responseFlit tag.toNat (regAddr .datawin w.val 0x200) 0 (s.num (s.dwAddr w.val) 64) :: s.hitch.sent)) ∧
  (∀ (seq : BitVec 12) (tag : BitVec 8) (w : Fin 16) (d : Word512) (s : State), (Via.hitch seq tag).Takes s → s.asleep = false →
    w.val < s.windows.length → s.enabled .cmdwin w.val = true → (s.win w.val).framing = false → (s.win w.val).fullLatch = false →
    (s.win w.val).words.length < 256 →
    Completes (.cmdPortWrite seq tag w d) s (fun t => (t.win w.val).words = (s.win w.val).words ++ [d])) ∧
  (∀ (seq : BitVec 12) (tag : BitVec 8) (a : Addr) (s : State), (Via.hitch seq tag).Takes s →
    exec (.registerWrite seq (BitVec.ofNat 64 (reqHeader 1 tag.toNat a.toNat)) 0) s =
      .next ((((Via.hitch seq tag).arrived s).regRead a.toNat).send tag.toNat a.toNat))

/-- A write that lands takes the effect its page gives it and is answered once by the port that brought it, whichever port
that is (R48, R544 to R547). STEWARD_RESET, answered before its effect, aside. -/
def Obligations.AcceptedWriteIsAnswered : Prop :=
  ∀ (via : Via) (s : State) (a v : Nat), Lands via s a v → v < 2 ^ 64 → a ≠ stewReg 0x110 →
    s.writeBy via a v = via.answer a v (via.reply s a v).st

/-- Writes to the registers that every page has. PG_EVENT bits written with 1 are cleared, but for
those that hardware has set in the same cycle (R58); a zero written to PG_ERR_CODE
clears it with PG_ERR_INFO0, PG_ERR_INFO1 and PG_ALMANAC_AT_ERR (R55); PG_CTRL takes enable and launch_gate_enable; a block
reset of a command window empties it (R70, R71), one of HITCH resumes the job (R81), and one of SAMPLE discards the BATCHes (the
model's choice, log entry 23); no other touches a descriptor in flight.
HITCH.job_control pauses a running job and resumes a paused one (R80, R81); CMDWIN resume releases the full latch, and
resume of issue ends HALTED (R64, R69, R71). -/
def Obligations.PageWrites : Prop :=
  (∀ (via : Via) (p : BitVec 16) (bits : Word) (s : State), Lands via s (p.toNat * 0x1000 + 0x030) bits.toNat →
    Completes (.pgEventClear via p bits) s (fun t =>
      ∀ b, b < 64 → bitOf (t.reg (p.toNat * 0x1000 + 0x030)) b = (bitOf (s.reg (p.toNat * 0x1000 + 0x030)) b &&
        !(bitOf bits.toNat b && !bitOf (s.setBitsNow (p.toNat * 0x1000 + 0x030)) b)))) ∧
  (∀ (via : Via) (p : BitVec 16) (s : State), Lands via s (p.toNat * 0x1000 + 0x040) 0 →
    Completes (.pgErrCodeClear via p 0#64) s (fun t =>
      t.reg (p.toNat * 0x1000 + 0x040) = 0 ∧ t.reg (p.toNat * 0x1000 + 0x048) = 0 ∧ t.reg (p.toNat * 0x1000 + 0x050) = 0 ∧
      t.reg (p.toNat * 0x1000 + 0x058) = 0)) ∧
  (∀ (via : Via) (p : BitVec 16) (on gate : Bool) (s : State), Lands via s (p.toNat * 0x1000 + 0x020) (b2n on + 4 * b2n gate) →
    Completes (.pgCtrlEnableWrite via p on gate) s (fun t => t.reg (p.toNat * 0x1000 + 0x020) = b2n on + 4 * b2n gate)) ∧
  (∀ (via : Via) (p : BitVec 16) (on gate : Bool) (s : State), Lands via s (p.toNat * 0x1000 + 0x020) (2 + b2n on + 4 * b2n gate) →
    Completes (.blockReset via p on gate) s (fun t =>
      (∀ w : Fin 16, p.toNat * 0x1000 = regAddr .cmdwin w.val 0 → t.win w.val = ⟨[], [], false, false, false⟩) ∧
      (p.toNat * 0x1000 = hitchReg 0 → t.hitch.job = .running) ∧
      (p.toNat * 0x1000 ≠ regAddr .sample 0 0 → t.flights = s.flights) ∧
      (p.toNat * 0x1000 = regAddr .sample 0 0 → ∀ f ∈ t.flights, f ∈ s.flights ∧ ¬(f.cls = 5 ∧ f.op = 3)))) ∧
  (∀ (via : Via) (s : State), Lands via s (hitchReg 0x118) 2 →
    Completes (.jobPause via) s (fun t => t.hitch.job = if s.hitch.job = .running then .pausedSoftware else s.hitch.job)) ∧
  (∀ (via : Via) (s : State), Lands via s (hitchReg 0x118) 1 → Completes (.jobResume via) s (fun t => t.hitch.job = .running)) ∧
  (∀ (via : Via) (w : Fin 16) (s : State), Lands via s (regAddr .cmdwin w.val 0x108) 1 →
    Completes (.resumeWrites via w) s (fun t => (t.win w.val).fullLatch = false ∧ (t.win w.val).words = (s.win w.val).words ∧
      (t.win w.val).halted = (s.win w.val).halted)) ∧
  (∀ (via : Via) (w : Fin 16) (s : State), Lands via s (regAddr .cmdwin w.val 0x108) 2 →
    Completes (.resumeIssue via w) s (fun t => (t.win w.val).halted = false ∧ (t.win w.val).parsed = (s.win w.val).parsed ∧
      (t.win w.val).fullLatch = (s.win w.val).fullLatch))

/-- Parsing (R68 to R70): a descriptor that passes its checks moves, whole, from the words held to the descriptors parsed; one
that fails is dropped with the REFUSED event; a word 0 with no possible count loses the framing and every word. -/
def Obligations.WindowParses : Prop :=
  (∀ (w : Fin 16) (s : State) (h : Word512) (ws : List Word512), (s.win w.val).framing = false → (s.win w.val).halted = false →
    s.placeRuns (s.consumer w.val) = true → (s.win w.val).words = h :: ws → 1 ≤ hWords h → hWords h ≤ 4 → hWords h ≤ (h :: ws).length →
    (s.parseSeen w.val).descCheck (s.consumer w.val) ((h :: ws).take (hWords h)) = 0 →
    Completes (.descriptorParse w) s (fun t => (t.win w.val).words = (h :: ws).drop (hWords h) ∧
      (t.win w.val).parsed = (s.win w.val).parsed ++ [(s.consumer w.val, (h :: ws).take (hWords h))] ∧ t.flights = s.flights)) ∧
  (∀ (w : Fin 16) (s : State) (h : Word512) (ws : List Word512), (s.win w.val).framing = false → (s.win w.val).halted = false →
    s.placeRuns (s.consumer w.val) = true → (s.win w.val).words = h :: ws → 1 ≤ hWords h → hWords h ≤ 4 → hWords h ≤ (h :: ws).length →
    (s.parseSeen w.val).descCheck (s.consumer w.val) ((h :: ws).take (hWords h)) ≠ 0 →
    Completes (.descriptorParse w) s (fun t => (t.win w.val).words = (h :: ws).drop (hWords h) ∧
      (t.win w.val).parsed = (s.win w.val).parsed ∧ (t.win w.val).halted = hHalt h ∧ t.Raised .cmdwin w.val 1 ∧
      s.Counted t (regAddr .cmdwin w.val 0x128) 1)) ∧
  (∀ (w : Fin 16) (s : State) (h : Word512) (ws : List Word512), (s.win w.val).framing = false → (s.win w.val).halted = false →
    s.placeRuns (s.consumer w.val) = true → (s.win w.val).words = h :: ws → (hWords h = 0 ∨ 5 ≤ hWords h) →
    Completes (.descriptorParse w) s (fun t => (t.win w.val).words = [] ∧ (t.win w.val).framing = true ∧
      (t.win w.val).parsed = (s.win w.val).parsed ∧ t.Raised .cmdwin w.val 3))

/-- Issue (R63, R457): the next parsed descriptor of a window is issued by the cores that parsed it and becomes a flight with the step number
of the moment.
NOP and SIGNAL (R67), and the completion that every descriptor shares (R65, R71): NOP completes as soon as it is issued and
sets no flag; SIGNAL sets its flag once its gate has fired. -/
def Obligations.DescriptorsIssue : Prop :=
  (∀ (w : Fin 16) (s : State) (place : Nat) (d : List Word512) (rest : List (Nat × List Word512)), (s.win w.val).halted = false →
    s.placeRuns place = true → s.hitch.job = .running → (s.win w.val).parsed = (place, d) :: rest →
    (hFence (dword d 0) = true → s.fenceClear w.val = true) → s.issueHeld d s.stepNow = false →
    s.descCheck place d = 0 → s.issueCheck d s.stepNow = 0 →
    Completes (.descriptorIssue w) s (fun t => (t.win w.val).parsed = rest ∧ t.nextId = s.nextId + 1 ∧
      (hClass (dword d 0) ≠ 0x0D → s.waitStop d = 0 → ∃ f, t.flights = s.flights ++ [f] ∧ f.id = s.nextId ∧ f.words = d ∧ f.step = s.stepNow ∧
        f.origin = .window w.val ∧ f.fired = false))) ∧
  (∀ (id : Nat) (s : State) (f : Flight), s.flightOf id 0 0 = some f →
    Completes (.nop id) s (fun t => t.Ended f ∧ t.flags = s.flags)) ∧
  (∀ (id : Nat) (s : State) (f : Flight), s.flightOf id 0 1 = some f → f.fired = true →
    Completes (.signal id) s (fun t => t.Ended f ∧
      (selValid (hSignal f.hdr) = true → t.flag (selDomain (hSignal f.hdr)) (bitsOf (hSignal f.hdr) 9 0) = true)))

/-- A host wait beyond its limit pauses the job, is reported once, and sets PG_EVENT bit 2 of HITCH (R79 to R81).
A Reeve core that a check, its watchdog or force_fail finds is FAILED (R72 to R74).
Hedgerow links (R19 to R21): a replay is counted at each end; 16 failed replays take a Field–Field link out of service,
and lose the Field behind a Field–Steading link. -/
def Obligations.WaitsAndControlLost : Prop :=
  (∀ (i : Nat) (s : State) (h : HostWait), s.hostWaits[i]? = some h → h.late = false → h.start + h.limit < s.now →
    s.waitsNow.contains h.kind = true →
    Completes (.hostWaitLate i) s (fun t => t.hitch.job = (if s.hitch.job = .running then .pausedHostWait else s.hitch.job) ∧
      t.Raised .hitch 0 2 ∧ t.hostWaits = s.hostWaits.set i { h with late := true })) ∧
  (∀ (place : Fin 9) (core : Fin 8) (held : List Nat) (s : State), s.fields.length = 8 → s.steward.ready = true →
    (place.val < 8 → s.lost place.val = false) →
    Completes (.reeveCoreEcc place core held) s (fun t => t.coreFailed place.val core.val = true)) ∧
  (∀ (place : Fin 9) (core : Fin 8) (held : List Nat) (s : State), s.fields.length = 8 → s.steward.ready = true →
    (place.val < 8 → s.lost place.val = false) → s.placeBusy place.val = true →
    Completes (.reeveWatchdog place core held) s (fun t => t.coreFailed place.val core.val = true)) ∧
  (∀ (via : Via) (f : Fin 8) (cores : BitVec 8) (c : Fin 8) (s : State), s.fields.length = 8 → s.lost f.val = false →
    Lands via s (regAddr .reeve f.val 0x100) cores.toNat → bitOf cores.toNat c.val = true →
    bitOf (s.reg (regAddr .reeve f.val 0x100)) c.val = false →
    Completes (.reeveForceFail via f cores) s (fun t => t.coreFailed f.val c.val = true ∧
      bitOf (t.reg (regAddr .reeve f.val 0x100)) c.val = true)) ∧
  (∀ (l : Fin 14) (s : State), s.hedgeState l.val = .up →
    Completes (.hedgeFlitCrcFail l) s (fun t =>
      (l.val < 8 → s.Counted t (fieldReg l.val 0x120) 1) ∧
      (8 ≤ l.val → s.Counted t (fieldReg (hedgePair l.val).1 0x118) 1 ∧
        s.Counted t (fieldReg (hedgePair l.val).2 0x110) 1))) ∧
  (∀ (l : Fin 6) (s : State), s.fields.length = 8 → s.hedgeState (8 + l.val) = .up →
    Completes (.hedgeRerouted l) s (fun t => t.hedgeState (8 + l.val) = .rerouted ∧
      t.Raised .field (hedgePair (8 + l.val)).1 0 ∧ t.Raised .field (hedgePair (8 + l.val)).2 0)) ∧
  (∀ (f : Fin 8) (s : State), s.fields.length = 8 → s.arrays.length = 8 → s.hedgeState f.val = .up → s.lost f.val = false →
    Completes (.hedgeFieldLost f) s (fun t => t.lost f.val = true ∧ (t.array f.val).state = 2))

/-! ### Compute -/

/-- A PASS from its take-up to its end (R112 to R118, R146 to R149): it becomes feeds on its array or the array that hosts it;
its tile is loaded into the free plane; the planes swap; each row enters and is added in order; it completes after its last row. -/
def Obligations.PassRuns : Prop :=
  (∀ (id : Nat) (s : State) (f : Flight), s.flightOf id 1 1 = some f → f.prog = .none → f.ending = none →
    s.takeBlocked f = false →
    ((passF f.words).reuse = false ∨ ((s.array (passF f.words).array).quad (passF f.words).quadrant).predGone = false) →
    Completes (.pass id) s (fun t => ∃ q, t.passProg id = some q ∧ q.load = .idle ∧ q.swapped = false ∧ q.nextAdd = 0 ∧
      q.runner = ((s.array (passF f.words).array).hostedBy).getD (passF f.words).array)) ∧
  (∀ (id : Nat) (s : State) (f : Flight) (q : PassProg), s.flightOf id 1 1 = some f → f.pass? = some q → q.load = .idle →
    q.swapped = false → q.cancelled = false → q.feedStopped = false → 0 < (passF f.words).m → (f.wait = none ∨ f.waitMet = true) →
    s.arrayWorks q.runner = true → s.enabled .furrow (passF f.words).array = true → s.takesActive (passF f.words) q = false →
    (s.passesBefore id (passF f.words) q.runner).all (fun g => g.2.swapped || g.2.cancelled || g.2.feedStopped ||
      s.takesActive (passF g.1.words) g.2) = true →
    Completes (.passShadowLoadStart id) s (fun t => t.passProg id = some { q with load := .loading, begun := true })) ∧
  (∀ (id : Nat) (s : State) (f : Flight) (q : PassProg), s.flightOf id 1 1 = some f → f.pass? = some q → q.load = .loading →
    let p := { passF f.words with reuse := false, maskW := q.key.masked }
    let w := opF q.key.source
    Completes (.passShadowLoadDone id) s (fun t => t.passProg id = some
      (if s.rangesPoisoned (wRanges p w) then { q with load := .idle, feedStopped := true }
       else { q with load := .full, tile := some ((s.readTile p w).recorded p) }))) ∧
  (∀ (id stalls : Nat) (s : State) (f : Flight) (q : PassProg), s.flightOf id 1 1 = some f → f.pass? = some q → q.load = .full →
    q.swapped = false → q.cancelled = false → f.fired = true → s.arrayWorks q.runner = true →
    entryClear (passF f.words) (s.passesBefore id (passF f.words) q.runner) = true →
    Completes (.passSwap id stalls) s (fun t => (t.passProg id).any (fun r => r.swapped && decide (r.tile = q.tile)) = true ∧
      (q.runner < s.arrays.length → (t.array q.runner).shape = (passF f.words).shape) ∧ s.Counted t (furrowReg q.runner 0x138) stalls)) ∧
  (∀ (id stalls : Nat) (s : State) (f : Flight) (q : PassProg) (r : RowData) (rest : List RowData) (w : Tile), s.flightOf id 1 1 = some f →
    f.pass? = some q → q.swapped = true → q.fifo = r :: rest → q.tile = some w → f.fired = true → q.cancelled = false →
    s.arrayWorks q.runner = true → (s.array q.runner).fault = none →
    Completes (.passRowEnter id stalls) s (fun t => (t.passProg id).any (fun x => decide (x.pipe = q.pipe ++ [r]) &&
      decide (x.nextEnter = q.nextEnter + 1)) = true)) ∧
  (∀ (id : Nat) (s : State) (f : Flight) (q : PassProg) (r : RowData) (rest : List RowData) (w : Tile), s.flightOf id 1 1 = some f →
    f.pass? = some q → q.pipe = r :: rest → q.tile = some w → s.arrayWorks q.runner = true → (s.array q.runner).fault = none →
    s.lost (passF f.words).array = false → s.rowsAhead id (passF f.words) q = false →
    Completes (.passRowAdd id none) s (fun t => (t.passProg id).any (fun x => decide (x.pipe = rest) && decide (x.nextAdd = r.index + 1)) = true ∧
      t.gleanMeta = (s.applyRow (passF f.words) ((passF f.words).gleanRow + r.index) (rowSums (passF f.words) w r).vals).1.gleanMeta)) ∧
  (∀ (id : Nat) (s : State) (f : Flight) (q : PassProg), s.flightOf id 1 1 = some f → f.pass? = some q → q.pipe = [] → f.ending = none →
    0 < (passF f.words).m → (passF f.words).m ≤ q.nextAdd →
    Completes (.passComplete id) s (fun t => t.Ended f))

/-- Array failures (R128 to R133, R138): a mismatch stops its row before Glean; the failure then takes effect on the array and
its page; force_fail fails the array at once; a helper is given the failed array's work. -/
def Obligations.ArraysFail : Prop :=
  (∀ (id : Nat) (e : CheckFault) (c : CheckHit) (more : List CheckHit) (s : State) (f : Flight) (q : PassProg) (r : RowData) (rest : List RowData)
      (w : Tile),
    s.flightOf id 1 1 = some f → f.pass? = some q → q.pipe = r :: rest → q.tile = some w → s.arrayWorks q.runner = true →
    (s.array q.runner).fault = none → s.lost (passF f.words).array = false → q.runner < s.arrays.length →
    s.rowsAhead id (passF f.words) q = false → (rowChecked (passF f.words) w r (some e)).2 = c :: more →
    Completes (.passRowAdd id (some e)) s (fun t => t.mem = s.mem ∧ t.gleanMeta = s.gleanMeta ∧ t.flights = s.flights ∧
      ((t.array q.runner).fault.any (fun x => x.check == c.check && x.expected == c.expected && x.found == c.found && x.column == c.column &&
        x.row == r.index && x.workId == f.work)) = true)) ∧
  (∀ (f : Fin 8) (s : State) (x : ArrayFault), s.arrays.length = 8 → (s.array f.val).fault = some x → (s.array f.val).state ≠ 2 →
    Completes (.arrayFail f) s (fun t => (t.array f.val).state = 2 ∧ (t.array f.val).fault = none ∧ t.Raised .furrow f.val 0 ∧
      s.Captured t .furrow f.val x.code x.info0 x.info1)) ∧
  (∀ (via : Via) (f : Fin 8) (v : Word) (s : State), s.arrays.length = 8 → Lands via s (regAddr .furrow f.val 0x100) (v.toNat ||| 2) →
    bitOf (s.reg (regAddr .furrow f.val 0x100)) 1 = false →
    Completes (.arrayForceFail via f v) s (fun t => (t.array f.val).state = 2)) ∧
  (∀ (f : Fin 8) (h : Nat) (s : State), s.arrays.length = 8 → (s.array f.val).state = 2 → (s.array f.val).hostedBy = none → s.lost f.val = false →
    s.coresWorking 8 ≠ 0 → (helperOrder f.val).find? (fun h => h != f.val && s.arrayWorks h) = some h →
    Completes (.helperReissue f) s (fun t => (t.array f.val).hostedBy = some h ∧ t.Raised .furrow h 1))

/-- The rows of a Glean descriptor (R179 to R183, R171 to R175): each command does the next region row and counts its accumulators.
A Glean descriptor completes once every row is done (R174, R180); a corrected error is only counted, and an uncorrectable
one poisons its row, is counted and is raised (R162, R187). -/
def Obligations.GleanRuns : Prop :=
  (∀ (id : Nat) (s : State) (f : Flight) (sp : Spec), s.flightOf id 2 1 = some f → s.gleanReady f = true → regionEmpty (gleanF f.words) = false →
    f.glean?.row < (gleanF f.words).rows → f.glean?.memPoison = false →
    s.rangesPoisoned (epiRowRanges (gleanF f.words) (opF (f.w 3)) f.glean?.row) = false →
    Spec.ofBits (gleanF f.words).spec (gleanF f.words).s 0 = some sp →
    Completes (.readout id) s (fun t => t.gleanRow id = some (f.glean?.row + 1) ∧ t.gleanMeta = s.gleanMeta ∧
      s.Counted t (gleanReg (gleanF f.words).field 0x118) (gleanF f.words).cols)) ∧
  (∀ (id : Nat) (s : State) (f : Flight), s.flightOf id 2 2 = some f → s.gleanReady f = true → regionEmpty (gleanF f.words) = false →
    f.glean?.row < (gleanF f.words).rows →
    Completes (.preload id) s (fun t => t.gleanRow id = some (f.glean?.row + 1) ∧
      s.Counted t (gleanReg (gleanF f.words).field 0x120) (gleanF f.words).cols)) ∧
  (∀ (id : Nat) (s : State) (f : Flight), s.MemOk → s.flightOf id 2 3 = some f → s.gleanReady f = true → regionEmpty (gleanF f.words) = false →
    f.glean?.row < (gleanF f.words).rows →
    Completes (.clear id) s (fun t => t.gleanRow id = some (f.glean?.row + 1) ∧
      s.Counted t (gleanReg (gleanF f.words).field 0x120) (gleanF f.words).cols ∧
      ∀ c, c < (gleanF f.words).cols → t.acc (gleanF f.words).field ((gleanF f.words).row0 + f.glean?.row) ((gleanF f.words).col0 + c) = 0)) ∧
  (∀ (id : Nat) (s : State) (f : Flight), s.flightOf id 2 4 = some f → s.gleanReady f = true → regionEmpty (gleanF f.words) = false →
    f.glean?.row < (gleanF f.words).rows →
    Completes (.saveRaw id) s (fun t => t.gleanRow id = some (f.glean?.row + 1) ∧ t.gleanMeta = s.gleanMeta ∧
      s.Counted t (gleanReg (gleanF f.words).field 0x118) 1024)) ∧
  (∀ (id : Nat) (s : State) (f : Flight), s.flightOf id 2 5 = some f → s.gleanReady f = true → regionEmpty (gleanF f.words) = false →
    f.glean?.row < (gleanF f.words).rows → f.glean?.memPoison = false → f.glean?.checked = true →
    s.rangesPoisoned [((gleanF f.words).dataAddr + f.glean?.row * (gleanF f.words).dataStride, 12288),
      ((gleanF f.words).metaAddr + f.glean?.row * 32, 32)] = false →
    Completes (.loadRaw id) s (fun t => t.gleanRow id = some (f.glean?.row + 1) ∧
      t.gmeta (gleanF f.words).field ((gleanF f.words).row0 + f.glean?.row) = s.num ((gleanF f.words).metaAddr + f.glean?.row * 32) 32 ∧
      s.Counted t (gleanReg (gleanF f.words).field 0x120) 1024)) ∧
  (∀ (id : Nat) (s : State) (f : Flight), s.flightOf id 2 6 = some f → s.gleanReady f = true → regionEmpty (gleanF f.words) = false →
    f.glean?.row < (gleanF f.words).rows → f.glean?.checked = true →
    Completes (.reduce id) s (fun t => t.gleanRow id = some (f.glean?.row + 1))) ∧
  (∀ (id : Nat) (s : State) (f : Flight), s.flight id = some f → f.cls = 2 → s.gleanReady f = true → f.glean?.memPoison = false →
    (gleanF f.words).rows ≤ f.glean?.row → Completes (.gleanDescriptorComplete id) s (fun t => t.Ended f)) ∧
  (∀ (f : Fin 8) (row : Fin 2048) (col : Fin 1024) (acc : BitVec 8) (w : BitVec 32) (s : State), s.lost f.val = false →
    Completes (.gleanEcc f row col acc w false) s (fun t => mPoison (t.gmeta f.val row.val) = true ∧
      s.Counted t (gleanReg f.val 0x148) 1 ∧ t.Raised .glean f.val 0 ∧ t.mem = s.mem)) ∧
  (∀ (f : Fin 8) (row : Fin 2048) (col : Fin 1024) (acc : BitVec 8) (w : BitVec 32) (s : State), s.lost f.val = false →
    Completes (.gleanEcc f row col acc w true) s (fun t => t.gleanMeta = s.gleanMeta ∧ t.mem = s.mem ∧ s.Counted t (gleanReg f.val 0x140) 1))

/-- Units on threads (R192, R193, R201 to R210, R215): a unit is dealt to a free thread of the engine that runs it; MAP stores its
next chunk, every other operation its whole unit; the unit frees its thread once stored.
An engine fails on a check of a thread or on force_fail (R212, R213, R219); a corrected error is only counted. -/
def Obligations.HarrowRuns : Prop :=
  (∀ (e th : Fin 16) (starved : Nat) (s : State) (f : Flight), (s.engineFlights e.val).find? Flight.unitsLeft = some f → s.engineWorks e.val = true →
    s.enabled .harrow e.val = true → s.enabled .harrow f.unit = true → f.fired = true → s.flight f.id = some f → (s.optimHeader f).ending = none →
    (s.engineFlights e.val).any (fun g => g.harrow?.running.any (fun u => u.thread == th.val)) = false →
    (hFence f.hdr = true → ((s.engineFlights e.val).takeWhile (fun g => g.id != f.id)).isEmpty = true) →
    Completes (.harrowUnitDeal e th starved) s (fun t =>
      (t.flight f.id).any (fun g => g.started && g.harrow?.running.any (fun u => u.thread == th.val)) = true ∧
      s.Counted t (harrowReg e.val 0x138) starved)) ∧
  (∀ (id u : Nat) (s : State) (f : Flight) (e : Nat) (x : HarrowUnit), s.flightOf id 3 1 = some f → s.unitReady f u = some (e, x) →
    Completes (.map id u) s (fun t => t.UnitAdvances id u x.stored)) ∧
  (∀ (id u : Nat) (s : State) (f : Flight) (e : Nat) (x : HarrowUnit), s.flightOf id 3 2 = some f → s.unitReady f u = some (e, x) →
    Completes (.rowReduce id u) s (fun t => t.UnitAdvances id u x.stored ∧ s.Counted t (harrowReg e 0x128) 1)) ∧
  (∀ (id u : Nat) (s : State) (f : Flight) (e : Nat) (x : HarrowUnit), s.flightOf id 3 3 = some f → s.unitReady f u = some (e, x) →
    Completes (.softmax id u) s (fun t => t.UnitAdvances id u x.stored ∧ s.Counted t (harrowReg e 0x128) (harrowF f.words).cols)) ∧
  (∀ (id u : Nat) (s : State) (f : Flight) (e : Nat) (x : HarrowUnit), s.flightOf id 3 4 = some f → s.unitReady f u = some (e, x) →
    Completes (.norm id u) s (fun t => t.UnitAdvances id u x.stored ∧ s.Counted t (harrowReg e 0x128) (harrowF f.words).cols)) ∧
  (∀ (id u : Nat) (s : State) (f : Flight) (e : Nat) (x : HarrowUnit), s.flightOf id 3 5 = some f → s.unitReady f u = some (e, x) →
    Completes (.optim id u) s (fun t => t.UnitAdvances id u x.stored)) ∧
  (∀ (id u : Nat) (s : State) (f : Flight) (x : HarrowUnit), s.flight id = some f → f.cls = 3 → f.fired = true →
    f.harrow?.running.find? (fun x => x.unit == u && decide (unitChunks f.words ≤ x.stored)) = some x →
    Completes (.harrowUnitComplete id u) s (fun t => (t.flight id).all (fun g => !g.harrow?.running.any (fun y => y.unit == u)) = true ∧
      s.Counted t (harrowReg ((s.engineRunner f.unit).getD f.unit) 0x120) 1)) ∧
  (∀ (e th : Fin 16) (c : Fin 4) (s : State), s.engines.length = 16 → s.engineWorks e.val = true → c.val ≠ 0 →
    Completes (.harrowEngineFail e th c) s (fun t => (t.engine e.val).state = 2 ∧ s.Counted t (harrowReg e.val 0x148) 1 ∧ t.Raised .harrow e.val 0)) ∧
  (∀ (e th : Fin 16) (s : State), s.engineWorks e.val = true →
    Completes (.harrowEngineFail e th 0) s (fun t => t.engines = s.engines ∧ t.flights = s.flights ∧ s.Counted t (harrowReg e.val 0x140) 1)) ∧
  (∀ (via : Via) (e : Fin 16) (v : Word) (s : State), s.engines.length = 16 → Lands via s (regAddr .harrow e.val 0x100) (v.toNat ||| 2) →
    bitOf (s.reg (regAddr .harrow e.val 0x100)) 1 = false →
    Completes (.harrowForceFail via e v) s (fun t => (t.engine e.val).state = 2))

/-- Winnow's descriptors (R225, R236, R238, R239), one at a time in order of issue: a step is closed once nothing of it or of an
earlier step is in flight; tags are set, saved, loaded and set probing.
Writes of the WINNOW pages (R235, R240, R241): a configuration and a mask reach all eight pages; enabling starts with nothing
closed and no decay counted. -/
def Obligations.WinnowRuns : Prop :=
  (∀ (id : Nat) (s : State) (f : Flight), s.flightOf id 0x0A 1 = some f → s.winnowReady f = true →
    (winnowF f.words).step = s.winnow.lastClosed + 1 →
    s.flights.any (fun g => g.id != id && g.cls != 0x0A && g.cls != 0x08 && decide (g.step ≤ (winnowF f.words).step)) = false →
    s.rangesPoisoned (s.closeReads (winnowF f.words).step) = false →
    Completes (.closeStep id) s (fun t => t.Ended f ∧ t.winnow.lastClosed = (winnowF f.words).step ∧
      t.winnow.openSteps.contains (winnowF f.words).step = false)) ∧
  (∀ (id : Nat) (s : State) (f : Flight), s.flightOf id 0x0A 2 = some f → s.winnowReady f = true →
    s.rangesPoisoned (winnowFootprint f.words) = false →
    (List.range (winnowF f.words).count).any (fun i => tagCfgBad (s.num ((winnowF f.words).addr + 8 * i) 8)) = false →
    Completes (.setTags id) s (fun t => t.Ended f ∧ t.winnow = s.winnow)) ∧
  (∀ (id : Nat) (s : State) (f : Flight), s.flightOf id 0x0A 3 = some f → s.winnowReady f = true → 0 < (winnowF f.words).count →
    s.poisonedIn (s.tagAddr s.reporter (winnowF f.words).first) (64 * (winnowF f.words).count) = false →
    Completes (.saveState id) s (fun t => t.Ended f ∧ t.winnow = s.winnow ∧
      t.mem = (s.store (winnowF f.words).addr (leBytes 8 (s.winnow.lastClosed % 2 ^ 32 + ((s.winnow.decay % 65536) <<< 32)) ++ leBytes 8 0 ++
        (List.range (winnowF f.words).count).flatMap (fun i => (s.tagEntry ((winnowF f.words).first + i)).toBytes))).mem)) ∧
  (∀ (id : Nat) (s : State) (f : Flight), s.flightOf id 0x0A 4 = some f → s.winnowReady f = true → s.winnow.openSteps = [] →
    0 < (winnowF f.words).count → s.rangesPoisoned (winnowFootprint f.words) = false →
    (List.range (winnowF f.words).count).any (fun i => (s.readTag ((winnowF f.words).addr + 16 + 64 * i)).bad) = false →
    s.num (winnowF f.words).addr 8 < 2 ^ 48 → s.num ((winnowF f.words).addr + 8) 8 = 0 →
    Completes (.loadState id) s (fun t => t.Ended f ∧ t.winnow.lastClosed = s.num (winnowF f.words).addr 8 % 2 ^ 32 ∧
      t.winnow.decay = s.num (winnowF f.words).addr 8 / 2 ^ 32)) ∧
  (∀ (id : Nat) (s : State) (f : Flight), s.flightOf id 0x0A 5 = some f → s.winnowReady f = true →
    Completes (.probe id) s (fun t => t.Ended f ∧ t.winnow = s.winnow)) ∧
  (∀ (via : Via) (f : Fin 8) (gate : Bool) (s : State), Lands via s (regAddr .winnow f.val 0x020) (1 + 4 * b2n gate) → s.enabled .winnow f.val = false →
    Completes (.winnowEnable via f gate) s (fun t => t.enabled .winnow f.val = true ∧ t.winnow.lastClosed = 0 ∧ t.winnow.decay = 0)) ∧
  (∀ (via : Via) (f g : Fin 8) (v : Word) (s : State), Lands via s (regAddr .winnow f.val 0x100) v.toNat →
    Completes (.wnConfigWrite via f v) s (fun t => t.rf (regAddr .winnow g.val 0x100) 47 32 = bitsOf v.toNat 47 32 ∧
      t.rf (regAddr .winnow g.val 0x100) 31 16 = bitsOf v.toNat 31 16 ∧ t.rf (regAddr .winnow g.val 0x100) 12 8 = bitsOf v.toNat 12 8)) ∧
  (∀ (via : Via) (f : Fin 8) (v : Word) (s : State), Lands via s (regAddr .winnow f.val 0x110) v.toNat →
    Completes (.wnSilentMaskWrite via f v) s (fun t => t.winnow.masks.contains (bitsOf v.toNat 15 0) = bitOf v.toNat 16))

/-! ### Memory -/

/-- Bank states and layout (R247, R249 to R252, R264): an accepted write is shown at once, with each changed bank pending until
its transition has begun and its time has passed; a bank that goes to or comes from Off holds zero. -/
def Obligations.TilthBanksChange : Prop :=
  (∀ (via : Via) (f : Fin 8) (v : Word) (i : Fin 3) (s : State), Lands via s (regAddr .tilth f.val 0x100) v.toNat →
    Completes (.tilthLayoutWrite via f v) s (fun t => t.setLinear f.val i.val = bitOf v.toNat i.val ∧ t.mem = s.mem)) ∧
  (∀ (via : Via) (f : Fin 8) (set : Fin 3) (v : Word) (j : Fin 32) (s : State), Lands via s (regAddr .tilth f.val (0x108 + 8 * set.val)) v.toNat →
    Completes (.tilthBankStateWrite via f set v) s (fun t => t.bankState f.val (32 * set.val + j.val) = bankCode v.toNat j.val ∧
      (bankCode v.toNat j.val ≠ s.bankState f.val (32 * set.val + j.val) → t.bankPending f.val (32 * set.val + j.val) = true) ∧ t.mem = s.mem)) ∧
  (∀ (f : Fin 8) (b : Fin 96) (s : State), s.bankMoves.any (fun m => m.field == f.val && m.bank == b.val && !m.begun) = true →
    s.flights.any (fun g => s.touchesBank f.val b.val g.words) = false →
    Completes (.bankTransitionStart f b) s (fun t => t.bankMoves.all (fun m => !(m.field == f.val && m.bank == b.val) || m.begun) = true ∧
      t.bankPending f.val b.val = true ∧ t.mem = s.mem)) ∧
  (∀ (f : Fin 8) (b : Fin 96) (s : State) (m : BankMove), s.bankMoves.find? (fun m => m.field == f.val && m.bank == b.val && m.begun) = some m →
    Completes (.bankTransitionDone f b) s (fun t => t.bankPending f.val b.val = false ∧
      (s.bankState f.val b.val = 2 ∨ m.source = 2 → ∀ a, s.inBank f.val b.val a = true → t.byte a = 0) ∧
      ∀ a, s.inBank f.val b.val a = false → t.byte a = s.byte a))

/-- Tilth errors and the plot tester (R255 to R262): an uncorrectable sector is poisoned, counted and raised, a corrected one
counted; a plot test starts on the next bank, and a failed plot joins the repair map. -/
def Obligations.TilthErrorsAndPlots : Prop :=
  (∀ (a : Addr) (r : Fin 8) (w : BitVec 32) (s : State) (f o : Nat), areaOf a.toNat = .tilth f o → s.byteOk a.toNat = true →
    Completes (.tilthEccUncorrectable a r w) s (fun t => t.poisonedAt a.toNat = true ∧ t.mem = s.mem ∧ s.Counted t (tilthReg f 0x130) 1 ∧
      t.Raised .tilth f 0)) ∧
  (∀ (a : Addr) (s : State) (f o : Nat), areaOf a.toNat = .tilth f o → s.byteOk a.toNat = true →
    Completes (.tilthEccWriteback a) s (fun t => t.mem = s.mem ∧ t.poison = s.poison ∧ s.Counted t (tilthReg f 0x128) 1)) ∧
  (∀ (via : Via) (f : Fin 8) (v : Word) (s : State), Lands via s (regAddr .tilthTest f.val 0x100) v.toNat →
    Completes (.ttControlWrite via f v) s (fun t => t.ttRun f.val = bitOf v.toNat 0 ∧
      (bitOf v.toNat 0 = false → (t.plot f.val).slots.all (fun x => !x.testing) = true))) ∧
  (∀ (f : Fin 8) (b : Fin 96) (s : State), s.plots.length = 8 → s.ttRun f.val = true → s.lost f.val = false → s.testable f.val b.val = true →
    (s.plot f.val).slots = [] → (s.plot f.val).left = b.val :: (s.plot f.val).left.drop 1 → 0 < s.ttConcurrency f.val →
    Completes (.plotTestStart f b) s (fun t => (t.plot f.val).slots = [⟨b.val, 0, some s.now, true⟩])) ∧
  (∀ (f : Fin 8) (b : Fin 96) (flash : Bool) (s : State) (x : PlotSlot), s.plots.length = 8 →
    (s.plot f.val).slots.find? (fun x => x.bank == b.val && x.testing) = some x →
    Completes (.plotTestEnd f b false flash) s (fun t => s.Counted t (plotReg f.val 0x118) 1 ∧ s.Counted t (plotReg f.val 0x120) 1 ∧
      (t.plot f.val).map = (s.plot f.val).map ++ [⟨b.val, x.plot, (s.plot f.val).savePlot b.val, flash⟩] ∧ t.Raised .tilthTest f.val 1)) ∧
  (∀ (f : Fin 8) (b : Fin 96) (flash : Bool) (s : State) (x : PlotSlot), s.plots.length = 8 →
    (s.plot f.val).slots.find? (fun x => x.bank == b.val && x.testing) = some x →
    Completes (.plotTestEnd f b true flash) s (fun t => s.Counted t (plotReg f.val 0x118) 1 ∧ (t.plot f.val).map = (s.plot f.val).map)) ∧
  (∀ (f : Fin 8) (b : Fin 96) (s : State),
    (s.plot f.val).slots.any (fun x => x.bank == b.val && x.testing && x.start.any (fun t => decide (t + almMs 10 < s.now))) = true →
    Completes (.plotTestSteal f b) s (fun t => t.plots = s.plots ∧ s.Counted t (plotReg f.val 0x128) 1))

/-- FILL and DEMOTE (R290) change no byte; refresh changes timing only (R282); a fresh block zeroed reads as before (R286).
Granary errors (R280, R281, R287, R288): an uncorrectable sector is poisoned, counted and raised on its stack's page, whichever
finds it; a corrected one is counted; a fresh block holds no error (R286); a stack that fails is FAILED, is to be mapped out, and raises its event.
Granary temperature and training (R283 to R285): a plausible reading is taken and shown, an implausible one is counted and
discarded; a retraining is counted and its results kept, and a lane it replaced is raised. -/
def Obligations.GranaryRuns : Prop :=
  (∀ (id : Nat) (s : State) (f : Flight), s.flightOf id 0x0C 1 = some f → f.fired = true → f.ending = none →
    Completes (.fill id) s (fun t => t.Ended f ∧ t.mem = s.mem)) ∧
  (∀ (id : Nat) (s : State) (f : Flight), s.flightOf id 0x0C 2 = some f → f.fired = true →
    Completes (.demote id) s (fun t => t.Ended f ∧ t.mem = s.mem ∧ t.kept = (s.demote (granaryAddrOf f.words) (granaryLenOf f.words)).kept)) ∧
  (∀ (n : Fin 24) (pc : Fin 32) (s : State), exec (.granaryRefresh n pc) s = .next s) ∧
  (∀ (n : Fin 24) (s : State) (b : Nat), (s.stack n.val).state = 1 → lowestFresh s.written n.val 36864 0 = some b →
    Completes (.freshBlockZero n) s (fun t => t.mem = s.mem ∧ t.written.contains (n.val * 36864 + b) = true)) ∧
  (∀ (a : Addr) (c : Fin 5) (w : BitVec 32) (s : State) (f o : Nat), areaOf a.toNat = .granary f o → s.byteOk a.toNat = true → s.freshAt a.toNat = false →
    Completes (.granaryEcc a c w) s (fun t => t.poison.contains (a.toNat / 32 * 32) = true ∧ t.mem = s.mem ∧
      s.Counted t (granaryReg (s.stackOf f o).1 0x128) 1 ∧ t.Raised .granary (s.stackOf f o).1 0)) ∧
  (∀ (a : Addr) (s : State) (f o : Nat), areaOf a.toNat = .granary f o → s.byteOk a.toNat = true → s.freshAt a.toNat = false →
    Completes (.granaryScrub a 2) s (fun t => t.poison.contains (a.toNat / 32 * 32) = true ∧
      s.Counted t (granaryReg (s.stackOf f o).1 0x128) 1)) ∧
  (∀ (a : Addr) (s : State) (f o : Nat), areaOf a.toNat = .granary f o → s.byteOk a.toNat = true → s.freshAt a.toNat = false →
    Completes (.granaryScrub a 1) s (fun t => t.poison = s.poison ∧ s.Counted t (granaryReg (s.stackOf f o).1 0x120) 1)) ∧
  (∀ (a : Addr) (c : Fin 5) (w : BitVec 32) (s : State), s.freshAt a.toNat = true → exec (.granaryEcc a c w) s = .next s) ∧
  (∀ (n : Fin 24) (c : Fin 3) (s : State), s.stackList.length = 24 → (s.stack n.val).state ≠ 2 → (s.stack n.val).state ≠ 3 →
    (c.val = 2 → s.manyChannels n.val = true) →
    Completes (.granaryStackFail n c) s (fun t => (t.stack n.val).state = 2 ∧ (t.stack n.val).mapoutPending = true ∧ t.Raised .granary n.val 4)) ∧
  (∀ (via : Via) (n : Fin 24) (v : Word) (s : State), s.stackList.length = 24 → (s.stack n.val).state ≠ 2 → (s.stack n.val).state ≠ 3 →
    Lands via s (regAddr .granary n.val 0x100) (v.toNat ||| 1) → bitOf (s.reg (regAddr .granary n.val 0x100)) 0 = false →
    Completes (.granaryForceFail via n v) s (fun t => (t.stack n.val).state = 2 ∧ (t.stack n.val).mapoutPending = true)) ∧
  (∀ (n : Fin 24) (c : Int) (s : State), s.stackList.length = 24 → (s.stack n.val).state ≠ 3 → -20 ≤ c → c ≤ 130 →
    (∀ l, (s.stack n.val).lastTemp = some l → c - l ≤ 10 ∧ l - c ≤ 10) →
    Completes (.granaryTempRead n c) s (fun t => (t.stack n.val).lastTemp = some c ∧ (t.stack n.val).badRun = 0 ∧
      t.rf (granaryReg n.val 0x110) 7 0 = toTwos 8 c)) ∧
  (∀ (n : Fin 24) (c : Int) (s : State), s.stackList.length = 24 → (s.stack n.val).state ≠ 3 → 
    (c < -20 ∨ 130 < c ∨ (∃ l, (s.stack n.val).lastTemp = some l ∧ (10 < c - l ∨ 10 < l - c))) →
    Completes (.granaryTempRead n c) s (fun t => (t.stack n.val).lastTemp = (s.stack n.val).lastTemp ∧ s.Counted t (granaryReg n.val 0x150) 1)) ∧
  (∀ (n : Fin 24) (pc : Fin 32) (repaired : Bool) (s : State), s.stackList.length = 24 → (s.stack n.val).state = 1 →
    Completes (.granaryRetrain n pc repaired) s (fun t => s.Counted t (granaryReg n.val 0x148) 1 ∧ (t.stack n.val).trained = some s.now ∧
      (t.stack n.val).lanes = (s.stack n.val).lanes + b2n repaired ∧
      (repaired = true → t.Raised .granary n.val 1)))

/-- Drill's descriptors (R298 to R307): a gate opens for good; a COPY starts, moves a row at a time and completes in its queue's order;
a ring is set up and given credits.
The decision cycle of a CANCEL on one of its Fields (R311): the matches there are counted on the Field's four pages. -/
def Obligations.DrillRuns : Prop :=
  (∀ (id : Nat) (s : State) (f : Flight), s.flightOf id 4 1 = some f → s.gateReady f = true →
    Completes (.headlandGateOpen id) s (fun t => (t.flight id).any (fun g => g.copy?.gateOpen) = true)) ∧
  (∀ (id gw cw lw : Nat) (s : State) (f : Flight), s.flightOf id 4 1 = some f → f.started = false → f.ending = none → f.fired = true →
    f.copy?.gateOpen = true → ((s.queueFlights f.dq).takeWhile (fun g => g.id != id)).any (fun g => !g.started && g.ending.isNone) = false →
    s.queueOutstanding f.dq < s.queueLimit f.dq → s.enabled .drill (f.dq / 32 * 4 + f.dq % 4) = true →
    ((copyF f.words).ringDst = false ∨ copyEmpty (copyF f.words) = true) →
    Completes (.drillStart id gw cw lw) s (fun t => (t.flight id).any (fun g => g.started) = true ∧
      s.Counted t (drillReg (f.dq / 32) (f.dq % 4) 0x220) gw ∧ s.Counted t (drillReg (f.dq / 32) (f.dq % 4) 0x228) cw)) ∧
  (∀ (id gw cw lw : Nat) (s : State) (f : Flight), s.flightOf id 4 1 = some f → f.started = false → f.ending = none → f.fired = true →
    f.copy?.gateOpen = true → ((s.queueFlights f.dq).takeWhile (fun g => g.id != id)).any (fun g => !g.started && g.ending.isNone) = false →
    s.queueOutstanding f.dq < s.queueLimit f.dq → s.enabled .drill (f.dq / 32 * 4 + f.dq % 4) = true →
    (copyF f.words).ringDst = true → copyEmpty (copyF f.words) = false → (s.ring f.dq).slots ≠ 0 → ringFits (copyF f.words) (s.ring f.dq) = true →
    (s.ring f.dq).credits ≠ 0 → f.dq < s.rings.length →
    (let r := s.ring f.dq;
     let dst := copyDst (copyF f.words) (r.base + r.seq % r.slots * r.slotBytes);
     s.rangesPopulated dst = true ∧ rangesOverlap dst (copySrc (copyF f.words)) = false) →
    Completes (.drillStart id gw cw lw) s (fun t => (t.flight id).any (fun g => g.started &&
        g.copy?.dst == (s.ring f.dq).base + (s.ring f.dq).seq % (s.ring f.dq).slots * (s.ring f.dq).slotBytes) = true ∧
      (t.ring f.dq).credits = (s.ring f.dq).credits - 1)) ∧
  (∀ (id : Nat) (s : State) (f : Flight), s.MemOk → s.flightOf id 4 1 = some f → f.started = true → f.copy?.stopped = none →
    f.copy?.row < copyRows (copyF f.words) → s.readsPoison (copySrcRow (copyF f.words) f.copy?.row) (copyF f.words).x = false →
    Completes (.copy id) s (fun t => (t.flight id).any (fun g => g.copy?.row == f.copy?.row + 1) = true ∧
      s.Counted t (drillReg (f.dq / 32) (f.dq % 4) 0x200) (copyF f.words).x ∧
      (copyAlone (copyF f.words) f.copy?.dst = true →
        let c := copyF f.words
        let dst := f.copy?.dst + f.copy?.row / c.y * c.dz + f.copy?.row % c.y * c.dy
        (∀ i, i < c.x → s.deadAt (dst + i) = false) → ∀ i, i < c.x → t.byte (dst + i) = s.byte (copySrcRow c f.copy?.row + i)))) ∧
  (∀ (id discarded : Nat) (s : State) (f : Flight), s.flight id = some f → f.cls = 4 → f.op = 1 → f.started = true → f.ending = none →
    f.copy?.stopped = none → copyRows (copyF f.words) ≤ f.copy?.row → ((s.queueFlights f.dq).takeWhile (fun g => g.id != id)).isEmpty = true →
    Completes (.drillComplete id discarded) s (fun t => t.Ended f ∧ s.Counted t (drillReg (f.dq / 32) (f.dq % 4) 0x208) 1 ∧
      s.Counted t (drillReg (f.dq / 32) (f.dq % 4) 0x218) discarded)) ∧
  (∀ (id : Nat) (s : State) (f : Flight), s.flightOf id 4 2 = some f → f.fired = true → f.ending = none → f.dq < s.rings.length →
    ((s.queueFlights f.dq).takeWhile (fun g => g.id != id)).isEmpty = true → s.enabled .drill (f.dq / 32 * 4 + f.dq % 4) = true →
    (ringF f.words).slotBytes % 64 = 0 → (ringF f.words).slots ≠ 0 →
    Completes (.ringSetup id) s (fun t => t.Ended f ∧
      t.ring f.dq = ⟨(ringF f.words).base, (ringF f.words).slots, (ringF f.words).slotBytes, (ringF f.words).slots, 0⟩)) ∧
  (∀ (id : Nat) (s : State) (f : Flight), s.flightOf id 4 3 = some f → f.fired = true → f.ending = none → f.dq < s.rings.length →
    (ringF f.words).slots ≠ 0 → (s.ring f.dq).credits + (ringF f.words).slots ≤ (s.ring f.dq).slots →
    Completes (.ringCredit id) s (fun t => t.Ended f ∧ (t.ring f.dq).credits = (s.ring f.dq).credits + (ringF f.words).slots)) ∧
  (∀ (id : Nat) (x : Fin 8) (s : State) (f : Flight) (p : CancelProg), s.flightOf id 4 4 = some f → f.prog = .cancel p → f.fired = true →
    bitOf (cancelF f.words).fields x.val = true → bitOf p.decided x.val = false →
    ((cancelF f.words).drill || (cancelF f.words).furrow || (cancelF f.words).harrow) = true →
    Completes (.drillCancel id x) s (fun t =>
      (t.flight id).any (fun g => match g.prog with | .cancel r => bitOf r.decided x.val | _ => false) = true ∧
      (∀ e : Fin 4, t.reg (drillReg x.val e.val 0x238) = (s.flights.filter (cancelMatches (cancelF f.words) x.val)).length % 2 ^ 32) ∧
      t.mem = s.mem))

/-! ### Samples -/

/-- Samples on decoder cores (R318, R321, R324 to R327, R335, R337): a DECODE is received once; its sample starts on the lowest
idle working core of its kind, is charged its header's bits and has its header checked; it gets its granules; its syntax units are charged, and end it when
cancelled, malformed or over budget; the DECODE completes when its sample has ended.
Decoder cores fail (R333, R334): a check, a core that charges no work for COULTER_WATCHDOG and force_fail; the sample that the
core held starts again elsewhere from its first byte. -/
def Obligations.SamplesDecode : Prop :=
  (∀ (id : Nat) (s : State) (f : Flight), s.flightOf id 5 1 = some f → f.ending = none → f.started = false → f.fired = true →
    s.enabled .coulter 0 = true →
    Completes (.decode id) s (fun t => ∃ x : Samp, t.coulter.samples = s.coulter.samples ++ [x] ∧ x.owner = id ∧ x.d = decodeDesc f.words ∧
      x.work = f.work ∧ x.core = none ∧ x.outcome = none)) ∧
  (∀ (id o : Nat) (s : State) (f : Flight) (x : Samp), s.flightOf id 5 1 = some f → f.ending = none → f.started = true →
    s.coulter.samples.find? (fun x => x.owner == id) = some x → x.outcome = some o →
    Completes (.decode id) s (fun t => t.Ended f ∧ t.coulter.samples = s.coulter.samples.filter (fun y => y.owner != id) ∧
      t.mem = (s.store (decodeResult f.words) (s.resultRecord x)).mem)) ∧
  (∀ (n : Nat) (h : HdrInfo) (s : State) (x : Samp) (c : Nat), s.samp n = some x → x.hdr = none → x.restarted = false →
    s.waitingSamps.find? (fun y => if y.restarted then coresOf y.d.kind == coresOf x.d.kind else y.d.kind == x.d.kind) = some x →
    (coresOf x.d.kind).find? (fun c => s.core c == 1 && s.enabled .coulterDec c && (s.coreSample c).isNone) = some c →
    let bits := if isText x.d.kind then 0 else min h.bits (8 * x.d.len)
    let code := if x.budgetOf s < bits then 0x0707 else (s.headerCheckOf x.d h).1
    Completes (.sampleStart n h) s (fun t =>
      (code = 0 → (t.samp n).any (fun y => y.core == some c && y.hdr == some h && y.outcome.isNone && y.w == bits &&
        y.o == (s.headerCheckOf x.d h).2.1 && y.s == (s.headerCheckOf x.d h).2.2.1) = true) ∧
      (code ≠ 0 → (t.samp n).any (fun y => y.core.isNone && y.outcome == some code && y.w == bits) = true ∧
        s.Counted t (decReg c 0x120) 1))) ∧
  (∀ (n : Nat) (gs : List Nat) (s : State) (x : Samp), s.samp n = some x → x.core.isSome = true → x.outcome = none → x.allocated = false →
    s.coulter.samples.any (fun y => (y.core.isSome && y.outcome.isNone && !y.allocated) && decide (y.order < x.order)) = false →
    gs.length = x.need → (∀ g ∈ gs, g < s.arenaGranules ∧ g ∉ s.granulesUsed) → gs.eraseDups.length = gs.length →
    Completes (.arenaAllocate n gs) s (fun t => t.samp n = some { x with granules := some gs } ∧ t.mem = s.mem)) ∧
  (∀ (n c : Nat) (u : SynUnit) (s : State) (x : Samp), s.samp n = some x → x.core = some c → s.core c = 1 → x.allocated = true →
    x.outcome = none → x.stop = true →
    Completes (.decodeSyntaxUnit n u) s (fun t => (t.samp n).any (fun y => y.outcome == some 0x0708 && y.core.isNone) = true ∧
      t.Raised .coulter 0 0 ∧ t.mem = s.mem)) ∧
  (∀ (n c : Nat) (u : SynUnit) (s : State) (x : Samp), s.samp n = some x → x.core = some c → s.core c = 1 → x.allocated = true →
    x.outcome = none → x.stop = false → isText x.d.kind = false → x.bits + u.bits ≤ 8 * x.d.len →
    s.readsPoison (x.d.src + x.bits / 8) (ceilDiv u.bits 8) = false →
    (if x.d.budget = 0 then s.rf (coulterReg 0x128) 47 0 else x.d.budget) < x.w + u.bits →
    Completes (.decodeSyntaxUnit n u) s (fun t => (t.samp n).any (fun y => y.outcome == some 0x0707 && y.w == x.w + u.bits) = true ∧
      t.mem = s.mem)) ∧
  (∀ (n c : Nat) (u : SynUnit) (s : State) (x : Samp), s.MemOk → s.samp n = some x → x.core = some c → s.core c = 1 → x.allocated = true →
    x.outcome = none → x.stop = false → isInflate x.d.kind = true → x.bits + u.bits ≤ 8 * x.d.len → u.state = 0 → u.last = false →
    s.readsPoison (x.d.src + x.bits / 8) (ceilDiv u.bits 8) = false → x.written + u.blocks.flatten.length ≤ x.o →
    x.w + u.bits + u.blocks.flatten.length ≤ (if x.d.budget = 0 then s.rf (coulterReg 0x128) 47 0 else x.d.budget) → x.d.direct = true →
    (∀ i, i < u.blocks.flatten.length → s.deadAt (x.d.dst + x.written + i) = false) →
    Completes (.decodeSyntaxUnit n u) s (fun t => (t.samp n).any (fun y => y.outcome.isNone && y.bits == x.bits + u.bits &&
        y.written == x.written + u.blocks.flatten.length && y.w == x.w + u.bits + u.blocks.flatten.length) = true ∧
      t.bytes (x.d.dst + x.written) u.blocks.flatten.length = u.blocks.flatten)) ∧
  (∀ (id : Nat) (s : State) (f : Flight), s.flightOf id 5 2 = some f → f.prog = .none → f.fired = true →
    (∀ g ∈ s.flights, coulterMatches f.words g = true → g.id ≠ id) →
    Completes (.coulterCancel id) s (fun t => (t.flight id).any (fun g => decide (g.prog =
      .cancel ⟨1, (s.flights.filter (coulterMatches f.words)).map (fun g => g.id)⟩)) = true)) ∧
  (∀ (id : Nat) (s : State) (f : Flight) (p : CancelProg), s.flightOf id 5 2 = some f → f.prog = .cancel p →
    p.matched.all (fun i => (s.flight i).isNone) = true → Completes (.coulterCancel id) s (fun t => t.Ended f ∧ t.mem = s.mem)) ∧
  (∀ (c : Fin 16) (s : State), s.core c.val = 1 →
    Completes (.decCoreEcc c) s (fun t => t.core c.val = 2 ∧ t.Raised .coulterDec c.val 0 ∧ t.mem = s.mem ∧
      ∀ x, s.coreSample c.val = some x → s.samp x.id = some x →
        (t.samp x.id).any (fun y => y.core.isNone && y.restarted && y.bits == 0 && y.w == 0 && y.written == 0) = true)) ∧
  (∀ (c : Fin 16) (s : State) (x : Samp), s.core c.val = 1 → s.coreSample c.val = some x →
    x.charged + almUs (s.rf (coulterReg 0x130) 31 0) ≤ s.now → Completes (.decCoreHung c) s (fun t => t.core c.val = 2 ∧ t.mem = s.mem)) ∧
  (∀ (c : Fin 16) (s : State) (x : Samp), s.coreSample c.val = some x → s.now < x.charged + almUs (s.rf (coulterReg 0x130) 31 0) →
    Completes (.decCoreHung c) s (fun t => t.coulter = s.coulter ∧ t.regs = s.regs)) ∧
  (∀ (via : Via) (c : Fin 16) (v : Word) (s : State), s.core c.val = 1 → Lands via s (decReg c.val 0x100) (v.toNat ||| 2) →
    bitOf (s.reg (decReg c.val 0x100)) 1 = false → Completes (.decCoreForceFail via c v) s (fun t => t.core c.val = 2 ∧ t.mem = s.mem))

/-- BATCHes and the windrow queue (R342, R343, R345 to R348, R352, R354): a BATCH starts in its slot; an area takes the entry of its
index, whose sample joins the decoders; an index past the manifest with no fallback list gives a zero area; a sealed slot is ready;
released slots are free; crib_flush empties the crib. -/
def Obligations.BatchesFill : Prop :=
  (∀ (id : Nat) (s : State) (f : Flight), s.flightOf id 5 3 = some f → f.started = false → f.fired = true → f.ending = none →
    (batchF f.words).count ≠ 0 → (batchF f.words).source = 0 → s.nextBatch = some id → s.enabled .sample 0 = true → s.enabled .coulter 0 = true →
    s.slotState (s.slotOf s.coulter.batches) = 0 → s.slotsFilling < 4 →
    Completes (.batchStart id) s (fun t => t.slotState (s.slotOf s.coulter.batches) = 1 ∧ t.coulter.batches = s.coulter.batches + 1 ∧
      (t.batchProg id).any (fun p => p.seq == s.coulter.batches && p.areas.length == (batchF f.words).count) = true ∧ t.mem = s.mem)) ∧
  (∀ (id j : Nat) (gs : List Nat) (s : State) (f : Flight) (p : BatchProg) (a : AreaSt), s.flightOf id 5 3 = some f → f.ending = none →
    f.batch? = some p → p.areas[j]? = some a → (batchF f.words).count ≠ 0 → (batchF f.words).source = 0 → a.phase = 0 →
    a.index < (batchF f.words).entries → s.readsPoison ((batchF f.words).manifest + 32 * a.index) 32 = false →
    s.opsPoisoned (batchF f.words) = false →
    s.entryBad (batchF f.words).modality (s.bytes ((batchF f.words).manifest + 32 * a.index) 32) = false →
    entryCrib (s.bytes ((batchF f.words).manifest + 32 * a.index) 32) = false →
    Completes (.batch id j gs) s (fun t => ∃ x : Samp, t.coulter.samples = s.coulter.samples ++ [x] ∧ x.owner = id ∧ x.area = j ∧
      x.d = entryDesc (s.bytes ((batchF f.words).manifest + 32 * a.index) 32) ∧ t.mem = s.mem ∧
      (t.batchProg id).any (fun q => q.areas[j]?.any (fun b => b.phase == 1)) = true)) ∧
  (∀ (id j : Nat) (gs : List Nat) (s : State) (f : Flight) (p : BatchProg) (a : AreaSt), s.flightOf id 5 3 = some f → f.ending = none →
    f.batch? = some p → p.areas[j]? = some a → (batchF f.words).count ≠ 0 → (batchF f.words).source = 0 → a.phase = 0 →
    (batchF f.words).entries ≤ a.index → (batchF f.words).fallbackCount ≤ a.tried →
    Completes (.batch id j gs) s (fun t => (t.batchProg id).any (fun q => q.areas[j]?.any (fun b => b.phase == 2) &&
      q.spoiled == p.spoiled + 1) = true ∧ s.Counted t (sampleReg 0x150) 1 ∧ t.Raised .sample 0 1)) ∧
  (∀ (id : Nat) (s : State) (f : Flight) (p : BatchProg), s.flightOf id 5 3 = some f → f.batch? = some p → f.ending = none →
    p.areas.all (fun a => a.phase == 2) = true →
    Completes (.batchSeal id) s (fun t => t.Ended f ∧ t.slotState (s.slotOf p.seq) = 2 ∧ s.Counted t (sampleReg 0x140) 1 ∧ t.mem = s.mem)) ∧
  (∀ (id : Nat) (s : State) (f : Flight), s.flightOf id 5 4 = some f → f.fired = true →
    Completes (.windrowRelease id) s (fun t => t.Ended f ∧ t.mem = s.mem ∧
      (s.readyOrder.take (fld (f.w 1) 8 0)).all (fun k => t.slotState k == 0) = true)) ∧
  (∀ (via : Via) (s : State), Lands via s (sampleReg 0x120) 1 → Completes (.cribFlush via) s (fun t => t.coulter.crib = [] ∧ t.mem = s.mem))

/-- Live streams (R356, R358, R361, R437): an enabled stream starts with an empty ring; every packet is counted and times the
stream; a frame whose packets have all come is numbered and held; a stale frame is dropped, a fresh one fills an area; what is
missing at the wait's end is zero; a silent stream is LOST. -/
def Obligations.LiveStreamsRun : Prop :=
  (∀ (via : Via) (i : Fin 8) (v : Word) (s : State), s.coulter.live.length = 8 → Lands via s (liveReg i.val 0) (v.toNat ||| 1) →
    bitOf (s.reg (liveReg i.val 0)) 0 = false →
    Completes (.liveStreamEnable via i v) s (fun t => (t.live i.val).on = true ∧ (t.live i.val).frames = [] ∧ (t.live i.val).sync = true ∧
      t.reg (liveReg i.val 0) = v.toNat ||| 1 ∧ t.mem = s.mem)) ∧
  (∀ (p : LivePkt) (s : State), s.flowTakes p = true → (s.live p.stream.val).on = true → p.formatOk = false →
    Completes (.livePacket p) s (fun t => s.Counted t (liveReg p.stream.val 0x38) 1 ∧ (t.live p.stream.val).lastPacket = s.now ∧
      (t.live p.stream.val).lost = false ∧ (t.live p.stream.val).frames = (s.live p.stream.val).frames ∧ t.mem = s.mem)) ∧
  (∀ (p : LivePkt) (s : State), s.flowTakes p = true → (s.live p.stream.val).on = true → p.formatOk = true → p.marker = true →
    (s.liveCfg p.stream.val).audio = false → (s.live p.stream.val).sync = false → (s.live p.stream.val).begun = true →
    (s.live p.stream.val).stamp = p.stamp.toNat →
    (s.live p.stream.val).gap = false → (s.live p.stream.val).nextSeq = some p.seq →
    Completes (.livePacket p) s (fun t => (t.live p.stream.val).count = (s.live p.stream.val).count + 1 ∧
      (t.live p.stream.val).begun = false ∧ s.Counted t (liveReg p.stream.val 0x28) 1 ∧
      (t.live p.stream.val).frames.getLast? = some ⟨(s.live p.stream.val).count, (s.live p.stream.val).capture,
        (s.live p.stream.val).roi.2.2.1, (s.live p.stream.val).roi.2.2.2⟩)) ∧
  (∀ (id j : Nat) (s : State) (f : Flight) (p : BatchProg) (fr : LiveFrame), s.flightOf id 5 3 = some f → f.ending = none → f.batch? = some p →
    (batchF f.words).source = 1 → (s.live (batchF f.words).stream).frames = [fr] →
    findIdx? (fun (a : AreaSt) => a.phase != 2) p.areas = some j → s.opsPoisoned (batchF f.words) = false →
    s.now ≤ fr.capture + almUs (s.rf (liveReg (batchF f.words).stream 0x18) 31 0) →
    Completes (.liveTake id) s (fun t => (t.live (batchF f.words).stream).frames = [] ∧
      (t.batchProg id).any (fun q => q.areas[j]?.any (fun b => b.phase == 2) && q.live == p.live + 1) = true)) ∧
  (∀ (id j : Nat) (s : State) (f : Flight) (p : BatchProg) (fr : LiveFrame), s.flightOf id 5 3 = some f → f.ending = none → f.batch? = some p →
    (batchF f.words).source = 1 → (s.live (batchF f.words).stream).frames = [fr] →
    findIdx? (fun (a : AreaSt) => a.phase != 2) p.areas = some j →
    fr.capture + almUs (s.rf (liveReg (batchF f.words).stream 0x18) 31 0) < s.now →
    Completes (.liveTake id) s (fun t => (t.live (batchF f.words).stream).frames = [] ∧ t.mem = s.mem ∧
      s.Counted t (liveReg (batchF f.words).stream 0x30) 1 ∧ t.flights = s.flights)) ∧
  (∀ (id : Nat) (s : State) (f : Flight) (p : BatchProg), s.flightOf id 5 3 = some f → f.ending = none → f.batch? = some p →
    (batchF f.words).source = 1 → p.start + almUs (batchF f.words).liveWait ≤ s.now →
    Completes (.liveWaitExpiry id) s (fun t => (t.batchProg id).any (fun q => q.areas.all (fun b => b.phase == 2)) = true)) ∧
  (∀ (i : Fin 8) (s : State), (s.live i.val).on = true → (s.live i.val).lost = false → (s.live i.val).lastPacket + almMs 100 ≤ s.now →
    Completes (.liveStreamLost i) s (fun t => (t.live i.val).lost = true ∧ t.Raised .live 0 0 ∧ t.mem = s.mem))

/-! ### Collectives and fabric -/

/-- A collective starts (R363, R374, R375): a channel's enable reads its member table and starts numbering at 0; a collective whose
turn it is starts, and its token goes to the arbiter, which is this module or another, or it fails where its scale cannot be
written (R105).
A collective ends (R379, R382, R388, R406, R407): it completes in number order with its header written, once it has failed or its
result is whole; at the repair limit it completes with its error; a CANCEL completes after what it matched. -/
def Obligations.CollectivesStartAndEnd : Prop :=
  (∀ (via : Via) (c : Fin 32) (gate : Bool) (s : State), s.thr.chans.length = 32 → Lands via s (thrChReg c.val 0x020) (1 + 4 * b2n gate) →
    s.enabled .thrCh c.val = false →
    Completes (.thrChEnable via c gate) s (fun t => t.enabled .thrCh c.val = true ∧ t.mem = s.mem ∧ t.flights = s.flights ∧
      t.chan c.val = ⟨(s.memberTable c.val).map (fun e => (bitsOf e 14 0, bitOf e 32)),
        crc32 (s.bytes (s.rf (thrChReg c.val 0x100) 47 0) (8 * (s.memberTable c.val).length)), 0⟩)) ∧
  (∀ (id : Nat) (s : State) (f : Flight) (p : CollProg), s.flight id = some f → f.coll? = some p → p.phase = 0 → f.started = false →
    f.fired = true → f.ending = none → ((s.chFlights (collF f.words).ch).takeWhile (fun g => g.id != id)).any (fun g => !g.started) = false →
    (((s.chFlights (collF f.words).ch).takeWhile (fun g => g.id != id)).filter
      (fun g => (g.coll?).any (fun q => !s.dataEnded g q))).length ≤ 4 → s.enabled .thrCh (collF f.words).ch = true →
    let bad := (collF f.words).delivery = false ∧ (collF f.words).op ≠ 4 ∧ (s.collWin f (collF f.words) < -512 ∨ 511 < s.collWin f (collF f.words))
    Completes (.collectiveStart id) s (fun t => (t.collOf id).any (fun q => q.phase == 1 && q.start == s.now) = true ∧
      (t.flight id).any (fun g => g.started) = true ∧ t.mem = s.mem ∧
      (bad → t.thr = s.thr ∧ (t.collOf id).any (fun q => q.outcome == 0x0303) = true) ∧
      (¬bad → s.arbPos (collF f.words).ch ≠ s.ownPos (collF f.words).ch →
        ∃ k : TokenMsg, k.pos = s.ownPos (collF f.words).ch ∧ k.withdraw = false ∧ k.work = f.work ∧
          t.thr.sent = .token (collF f.words).ch p.number (s.arbPos (collF f.words).ch) k :: s.thr.sent) ∧
      (¬bad → s.arbPos (collF f.words).ch = s.ownPos (collF f.words).ch →
        t.thr.sent = s.thr.sent ∧ (t.arb (collF f.words).ch p.number).any (fun a => a.started) = true))) ∧
  (∀ (id : Nat) (s : State) (f : Flight) (p : CollProg), s.flight id = some f → f.coll? = some p → p.phase = 1 → p.outcome = 0 → p.held = none →
    (if (collF f.words).deadline = 0 then p.start + s.defaultWindow (collF f.words).ch else (collF f.words).deadline) +
      s.sealLimit (collF f.words).ch ≤ s.now →
    Completes (.thrNoSeal id) s (fun t => (t.collOf id).any (fun q => q.outcome == 0x0613) = true ∧ t.mem = s.mem)) ∧
  (∀ (id : Nat) (s : State) (f : Flight) (p : CollProg), s.flight id = some f → f.coll? = some p →
    ((s.chFlights p.ch).takeWhile (fun g => g.id != id)).isEmpty = true → p.phase ≠ 0 →
    (p.outcome ≠ 0 ∨ s.collDone f p = true) →
    Completes (.collectiveComplete id) s (fun t => t.Ended f ∧ s.Counted t (thrReg 0x110) 1 ∧
      ((collF f.words).isVerdict = false ∨ (collF f.words).probe = false →
        t.mem = (s.store (collF f.words).hdr (s.headerImage f p p.outcome)).mem) ∧
      (p.outcome ≠ 0 → t.Raised .thrCh (collF f.words).ch 1))) ∧
  (∀ (id : Nat) (s : State) (f : Flight) (p : CollProg) (x : SealRec), s.flight id = some f → f.coll? = some p → p.held = some x →
    p.outcome = 0 → s.wholeResult f p = false → s.repairLimit p.ch x ≤ s.now →
    ((s.chFlights p.ch).takeWhile (fun g => g.id != id)).isEmpty = true →
    Completes (.repairLimitExpiry id) s (fun t => t.Ended f ∧ s.Counted t (thrReg 0x110) 1 ∧ t.Raised .thrCh (collF f.words).ch 1)) ∧
  (∀ (id : Nat) (s : State) (f : Flight), s.flightOf id 6 5 = some f → f.prog = .none → f.fired = true →
    (∀ g ∈ s.flights, thrMatches f.words g = true → g.id ≠ id) →
    Completes (.thresherCancel id) s (fun t => (t.flight id).any (fun g => decide (g.prog =
      .cancel ⟨1, (s.flights.filter (thrMatches f.words)).map (fun g => g.id)⟩)) = true)) ∧
  (∀ (id : Nat) (s : State) (f : Flight) (p : CancelProg), s.flightOf id 6 5 = some f → f.prog = .cancel p →
    p.matched.all (fun i => (s.flight i).isNone) = true → Completes (.thresherCancel id) s (fun t => t.Ended f ∧ t.mem = s.mem))

/-- The arbiter (R376, R378, R380, R381, R410): it stamps a token, decides at the deadline, seals to every position, resends the seal
it keeps, and judges members undelivered at the data limit and on reports. -/
def Obligations.ArbiterSeals : Prop :=
  (∀ (c : Fin 32) (n : Nat) (k : TokenMsg) (s : State), s.enabled .thrCh c.val = true → s.arbPos c.val = s.ownPos c.val → k.pos ≠ s.ownPos c.val →
    k.pos < (s.chan c.val).n → s.arb c.val n = none → k.withdraw = false →
    Completes (.readyToken c n k) s (fun t => (t.arb c.val n).map (fun a => a.tokens) = some [⟨k.pos, s.now, k.digest, k.nf⟩] ∧ t.mem = s.mem ∧
      t.flights = s.flights)) ∧
  (∀ (c : Fin 32) (n : Nat) (s : State) (a : ArbRec), s.arb c.val n = some a → a.started = true → a.decided = none → a.deadline < s.now →
    Completes (.deadlineExpiry c n) s (fun t => t.arb c.val n = some { a with decided := some s.now, due := true } ∧ t.flights = s.flights)) ∧
  (∀ (c : Fin 32) (n : Nat) (s : State) (a : ArbRec), s.arb c.val n = some a → a.due = true → a.decided.isSome = true →
    Completes (.sealMade c n) s (fun t => ((a.last.isSome = true ∨ a.undelivered = []) → t.arb c.val n = some { a with last := some (s.makeSeal a), due := false, reports := [] }) ∧
      (∀ q, a.last = none → (s.makeSeal a).outcome = 0 → q ∈ a.undelivered → (s.makeSeal a).included.contains q = true →
        (t.arb c.val n).any (fun b => b.due && b.undelivered.contains q) = true) ∧ t.mem = s.mem ∧
      ∀ q, q < (s.chan c.val).n → q ≠ s.ownPos c.val → ThrMsg.sealMsg c.val n q (s.makeSeal a) ∈ t.thr.sent)) ∧
  (∀ (c : Fin 32) (n pos : Nat) (s : State) (a : ArbRec) (x : SealRec), s.arb c.val n = some a → a.last = some x →
    Completes (.sealResendRequest c n pos) s (fun t => t.thr.sent = .sealMsg c.val n pos x :: s.thr.sent ∧ t.thr.arbs = s.thr.arbs ∧
      t.flights = s.flights)) ∧
  (∀ (c : Fin 32) (n q : Nat) (s : State) (a : ArbRec) (x : SealRec), s.arb c.val n = some a → a.last = some x → a.due = false → x.outcome = 0 →
    x.issued + s.dataLimit c.val ≤ s.now → x.included.contains q = true →
    Completes (.dataLimitExpiry c n [q]) s (fun t => t.arb c.val n = some { a with undelivered := a.undelivered ++ [q], due := true, decided := some s.now })) ∧
  (∀ (c : Fin 32) (n r q : Nat) (s : State) (a : ArbRec), s.enabled .thrCh c.val = true → (s.chan c.val).n ≠ 0 → s.arbPos c.val = s.ownPos c.val →
    s.arb c.val n = some a → a.last.isSome = true → a.due = false →
    Completes (.peerReport c n r q) s (fun t => t.arb c.val n = some { a with reports := a.reports ++ [(r, q, s.now)] })) ∧
  (∀ (c : Fin 32) (n q : Nat) (s : State), s.enabled .thrCh c.val = true → (s.chan c.val).n ≠ 0 → s.arbPos c.val ≠ s.ownPos c.val →
    (s.collFlight c.val n).isSome = true →
    Completes (.peerReport c n (s.ownPos c.val) q) s (fun t => t.thr.sent = .report c.val n (s.arbPos c.val) q :: s.thr.sent)) ∧
  (∀ (c : Fin 32) (n r q t0 : Nat) (s : State) (a : ArbRec) (x : SealRec), s.arb c.val n = some a → a.reports = [(r, q, t0)] →
    t0 + almUs 20 ≤ s.now → a.last = some x → x.outcome = 0 → x.included.contains q = true →
    Completes (.reportDecision c n) s (fun t => t.arb c.val n =
      some { a with reports := [], undelivered := a.undelivered ++ [q], due := true, decided := some s.now }))

/-- The data phase on this module (R365, R372, R373, R378, R385, R393, R394, R400 to R404): a seal is taken once; the module's part
begins in its turn; a block is checked, accepted once by its key and asked for again where its residue differs; acknowledgements
advance a child; a child that lags too long is detached; what is missing is asked for;
what another asks for is sent, and a block that it found wrong is sent again (R405). -/
def Obligations.CollectivesExchange : Prop :=
  (∀ (c : Fin 32) (n : Nat) (x : SealRec) (s : State) (f : Flight) (p : CollProg), s.collFlight c.val n = some f → f.coll? = some p →
    p.phase ≠ 0 → p.outcome = 0 → p.held.any (fun l => decide (x.num ≤ l.num)) = false →
    Completes (.sealReceived c n x) s (fun t => (t.collOf f.id).any (fun q => decide (q.held = some x) && q.outcome == x.outcome &&
      q.phase == 2 && q.results.isEmpty) = true ∧ t.mem = s.mem)) ∧
  (∀ (id : Nat) (s : State) (f : Flight) (p : CollProg) (x : SealRec), s.flightOf id 6 1 = some f → f.coll? = some p → p.held = some x →
    s.dataTurn f p = true → (x.included.contains (s.ownPos (collF f.words).ch) = true → 
      (((collF f.words).src, 16 * (collF f.words).srcCount) :: s.collIns (collF f.words)).any (fun r => s.poisonedIn r.1 r.2) = false) →
    Completes (.allReduce id) s (fun t => (t.collOf id).any (fun q => q.phase == 3) = true)) ∧
  (∀ (id : Nat) (s : State) (f : Flight) (p : CollProg) (x : SealRec), s.flightOf id 6 2 = some f → f.coll? = some p → p.held = some x →
    s.dataTurn f p = true → (x.included.contains (s.ownPos (collF f.words).ch) = true → 
      (((collF f.words).src, 16 * (collF f.words).srcCount) :: s.collIns (collF f.words)).any (fun r => s.poisonedIn r.1 r.2) = false) →
    Completes (.reduceScatter id) s (fun t => (t.collOf id).any (fun q => q.phase == 3) = true)) ∧
  (∀ (id : Nat) (s : State) (f : Flight) (p : CollProg) (x : SealRec), s.flightOf id 6 3 = some f → f.coll? = some p → p.held = some x →
    s.dataTurn f p = true → (x.included.contains (s.ownPos (collF f.words).ch) = true → 
      (((collF f.words).src, 16 * (collF f.words).srcCount) :: s.collIns (collF f.words)).any (fun r => s.poisonedIn r.1 r.2) = false) →
    Completes (.thrReduce id) s (fun t => (t.collOf id).any (fun q => q.phase == 3) = true)) ∧
  (∀ (id tag : Nat) (e : Int) (s : State) (f : Flight) (p : CollProg) (x : SealRec), s.flight id = some f → f.coll? = some p → p.held = some x →
    (collF f.words).isVerdict = true → p.phase = 3 → p.maxima = none → p.outcome = 0 → x.included.contains (s.ownPos (collF f.words).ch) = false →
    Completes (.verdict id [(tag, e)]) s (fun t => (t.collOf id).map (fun q => q.maxima) = some (some [(tag, e)]) ∧ t.mem = s.mem)) ∧
  (∀ (id : Nat) (s : State) (f : Flight) (p : CollProg) (x : SealRec), s.flightOf id 6 0x10 = some f → f.coll? = some p → p.held = some x →
    s.dataTurn f p = true → x.included.contains (s.ownPos (collF f.words).ch) = false →
    Completes (.broadcast id) s (fun t => (t.collOf id).any (fun q => q.phase == 3 && q.kids.isEmpty) = true ∧ t.mem = s.mem)) ∧
  (∀ (id r : Nat) (s : State) (f : Flight) (p : CollProg) (x : SealRec), s.MemOk → s.flightOf id 6 0x11 = some f → f.coll? = some p → p.held = some x →
    s.dataTurn f p = true → x.included.contains (s.ownPos (collF f.words).ch) = false → r < (s.chan (collF f.words).ch).n → x.included.contains r = false →
    (∀ i, i < (collF f.words).part → s.deadAt ((collF f.words).dst + r * (collF f.words).part + i) = false) →
    Completes (.allGather id) s (fun t => (t.collOf id).any (fun q => q.phase == 3) = true ∧
      ∀ i, i < (collF f.words).part → t.byte ((collF f.words).dst + r * (collF f.words).part + i) = 0)) ∧
  (∀ (id : Nat) (s : State) (f : Flight) (p : CollProg) (x : SealRec), s.flightOf id 6 0x12 = some f → f.coll? = some p → p.held = some x →
    s.dataTurn f p = true → (x.included.contains (s.ownPos (collF f.words).ch) = true → (s.collIns (collF f.words)).any (fun r => s.poisonedIn r.1 r.2) = false) →
    Completes (.allToAll id) s (fun t => (t.collOf id).any (fun q => q.phase == 3) = true)) ∧
  (∀ (c : Fin 32) (n : Nat) (b : BlockMsg) (s : State) (f : Flight) (p : CollProg) (x : SealRec), s.collFlight c.val n = some f → f.coll? = some p →
    p.held = some x → p.outcome = 0 → b.sealNo = x.num → b.kind = 0 → p.keys.contains (b.sender, b.tree, b.block, 0) = false →
    (collF f.words).delivery = false → b.block < (collF f.words).blocks → b.elems.length = 64 → residueOf b.elems = b.residue → b.faults = [] →
    s.thr.lanes ≠ 0xFF →
    Completes (.blockReceived c n b) s (fun t => (t.collOf f.id).any (fun q => q.parts.contains (b.block, b.sender, b.elems) &&
        q.keys.contains (b.sender, b.tree, b.block, 0)) = true ∧
      s.Counted t (thrReg 0x120) (64 * (wireFmt (collF f.words).wire).bytes))) ∧
  (∀ (c : Fin 32) (n : Nat) (b : BlockMsg) (s : State) (f : Flight) (p : CollProg) (x : SealRec), s.collFlight c.val n = some f → f.coll? = some p →
    p.held = some x → p.outcome = 0 → b.sealNo = x.num → b.kind = 0 → p.keys.contains (b.sender, b.tree, b.block, 0) = false → p.retries = [] →
    (collF f.words).delivery = false → b.block < (collF f.words).blocks → b.elems.length = 64 → residueOf b.elems ≠ b.residue →
    Completes (.blockReceived c n b) s (fun t => t.thr.sent = .retry p.ch p.number b.sender b.tree b.block 0 :: s.thr.sent ∧
      s.Counted t (thrReg 0x128) 1 ∧ t.mem = s.mem)) ∧
  (∀ (c : Fin 32) (n tree child bytes : Nat) (s : State) (f : Flight) (p : CollProg), s.collFlight c.val n = some f → f.coll? = some p →
    Completes (.segmentAck c n tree child bytes) s (fun t => t.mem = s.mem ∧ (t.collOf f.id).any (fun q => p.kids.all (fun k =>
      !(k.tree == tree && k.pos == child) || q.kids.any (fun r => r.tree == tree && r.pos == child && r.acked == max k.acked bytes))) = true)) ∧
  (∀ (c : Fin 32) (n tree child t0 : Nat) (offs : List Nat) (s : State) (f : Flight) (p : CollProg) (x : SealRec) (k : Kid),
    s.collFlight c.val n = some f → f.coll? = some p → p.held = some x →
    p.kids.find? (fun k => k.tree == tree && k.pos == child && !k.detached) = some k → k.lagSince = some t0 →
    t0 + (collF f.words).straggleUnits < s.now →
    Completes (.childDetach c n tree child offs) s (fun t => t.mem = s.mem ∧
      (t.collOf f.id).any (fun q => q.kids.any (fun r => r.tree == tree && r.pos == child && r.detached)) = true)) ∧
  (∀ (c : Fin 32) (n tree other : Nat) (s : State) (f : Flight) (p : CollProg) (x : SealRec), s.collFlight c.val n = some f → f.coll? = some p →
    p.held = some x → p.phase = 3 → p.outcome = 0 → s.wholeResult f p = false →
    Completes (.repairRequest c n tree other .fetch) s (fun t => t.mem = s.mem ∧ (∃ got, t.thr.sent = .repair c.val n other tree got 0x100000 :: s.thr.sent) ∧
      ((collF f.words).unicast = false → (t.collOf f.id).any (fun q => q.detachedTrees.contains tree) = true))) ∧
  (∀ (c : Fin 32) (n tree other off len k : Nat) (codes : List Nat) (s : State) (words : List Word512) (x : SealRec) (results : List (Nat × List Nat))
      (sent : List (Nat × BlockMsg)), s.collKept c.val n = some (words, x, results, sent) →
    (if (collF words).op = 0x12 then (sent.filter (fun e => e.1 == other)).map (fun e => (e.2.block, e.2.elems)) else results).find?
      (fun r => r.1 == k) = some (k, codes) →
    (let keys := (wantKeys (collF words) (s.chan c.val).n x.included other).filter (fun k => keyTree (collF words) x.included.length k == tree);
     let rest := keysAfter (collF words) off keys;
     k ∈ rest.take (rest.length - (keysAfter (collF words) len rest).length)) →
    Completes (.repairRequest c n tree other (.range off len)) s (fun t => t.mem = s.mem ∧
      ThrMsg.block (collF words).ch n other ⟨s.ownPos (collF words).ch, x.num, keyTree (collF words) x.included.length k, k, 2, residueOf codes, codes, []⟩ ∈ t.thr.sent)) ∧
  (∀ (c : Fin 32) (n tree other b kind : Nat) (e : Nat × BlockMsg) (s : State) (words : List Word512) (x : SealRec) (results : List (Nat × List Nat))
      (sent : List (Nat × BlockMsg)), s.collKept c.val n = some (words, x, results, sent) →
    sent.find? (fun e => e.1 == other && e.2.tree == tree && e.2.block == b && e.2.kind == kind) = some e →
    Completes (.repairRequest c n tree other (.block b kind)) s (fun t => t.mem = s.mem ∧ t.flights = s.flights ∧
      t.thr.sent = .block (collF words).ch n other e.2 :: s.thr.sent))

/-- Links, lasers and pauses (R415, R418, R419): a failed lane takes its link out of service, to DOWN or, the fourth time within
60 s, to CUT; a link trains again or stays DOWN; a low laser feed takes a port's links down; a pause stops the priorities that have
PFC enabled.
The plan, discovery and PTP (R432 to R436, R438, R441): a plan is loaded into discovery and unloaded; LLDP goes out on every up
link and takes a link that matches its entry into service; at the limit the module is RUNNING or ISOLATED; a PTP message on the slave
link sets the PTP registers. -/
def Obligations.SwathLinksAndPlan : Prop :=
  (∀ (p lane : Fin 8) (l : Nat) (s : State), s.swath.links.length = 64 → l = p.val * 8 + lane.val / modeLanes (s.portMode p.val) →
    s.linkExists l = true → (s.link l).state = 3 →
    Completes (.swathLinkDown p lane) s (fun t => (t.link l).inService = false ∧
      (t.link l).state = (if 4 ≤ ((s.now :: (s.link l).downs).filter (fun u => decide (s.now ≤ u + almMs 60000))).length then 5 else 4) ∧
      s.Counted t (swPortReg p.val 0x188) 1 ∧ t.Raised .swath 0 0 ∧ t.mem = s.mem)) ∧
  (∀ (l : Fin 64) (ok : Bool) (s : State), s.swath.links.length = 64 → s.linkExists l.val = true → s.enabled .swathPort (l.val / 8) = true →
    (s.port (l.val / 8)).laserOk = true → (s.link l.val).state = 4 →
    Completes (.swathLinkRetrain l ok) s (fun t => (t.link l.val).state = (if ok then 3 else 4) ∧ t.mem = s.mem)) ∧
  (∀ (p k : Fin 8) (s : State), s.swath.links.length = 64 → (s.port p.val).laserOk = true →
    Completes (.laserLow p) s (fun t => (t.port p.val).laserOk = false ∧ (t.port p.val).lanes = 0 ∧ t.Raised .swath 0 1 ∧ t.mem = s.mem ∧
      (s.linkExists (p.val * 8 + k.val) = true → (s.link (p.val * 8 + k.val)).state = 3 →
        (t.link (p.val * 8 + k.val)).inService = false ∧ 4 ≤ (t.link (p.val * 8 + k.val)).state))) ∧
  (∀ (p : Fin 8) (s : State), s.swath.ports.length = 8 →
    Completes (.laserRestored p) s (fun t => (t.port p.val).laserOk = true ∧ t.regs = s.regs ∧ t.swath.links = s.swath.links)) ∧
  (∀ (p : Fin 8) (m : BitVec 8) (s : State), s.swath.ports.length = 8 →
    Completes (.pfcPause p m) s (fun t => (t.port p.val).paused = m.toNat &&& s.rf (swPortReg p.val 0x100) 15 8 ∧
      s.Counted t (swPortReg p.val 0x180) 1 ∧ t.swath.links = s.swath.links)) ∧
  (∀ (via : Via) (s : State), Lands via s (tpReg 0x110) 1 →
    Completes (.planLoad via) s (fun t => t.swath.plan = 1 ∧ t.swath.eps.length = s.rf (tpReg 0x108) 31 16 ∧ t.swath.loads = s.swath.loads + 1 ∧
      t.mem = s.mem)) ∧
  (∀ (via : Via) (s : State), Lands via s (tpReg 0x110) 2 →
    Completes (.planUnload via) s (fun t => t.swath.plan = 0 ∧ t.swath.eps = [] ∧ t.swath.conns = [] ∧ t.mem = s.mem)) ∧
  (∀ (l : Fin 64) (s : State), s.linkExists l.val = true → (s.link l.val).state = 3 →
    s.swath.lldpAt + almMs (1000 * s.rf (swathReg 0x108) 15 0) ≤ s.now →
    Completes .lldpSend s (fun t => SwathOut.lldp l.val (s.rf (swathReg 0x100) 47 0) ∈ t.swath.sent ∧ t.mem = s.mem ∧ t.regs = s.regs)) ∧
  (∀ (l : Fin 64) (ct pt : BitVec 8) (ch po : List Byte) (s : State), s.swath.links.length = 64 → s.linkExists l.val = true →
    (s.link l.val).state = 3 → s.swath.plan ≠ 0 → (s.link l.val).judged = false → (s.swath.planLinks.getD l.val []).getD 0 0 ≠ 0#8 →
    nbrMatches (s.swath.planLinks.getD l.val []) (lldpRecord ct pt ch po) = true →
    Completes (.lldpReceived l ct pt ch po) s (fun t => (t.link l.val).inService = true ∧ (t.link l.val).judged = true ∧
      (t.link l.val).nbr = some (lldpRecord ct pt ch po) ∧ t.mem = s.mem)) ∧
  (∀ s : State, s.swath.plan = 1 → s.swath.loadTime + almMs (s.rf (tpReg 0x128) 15 0) ≤ s.now →
    Completes .discoveryLimit s (fun t => t.swath.plan = (if s.rf (tpReg 0x108) 6 0 ≤ t.service.length then 2 else 3) ∧ t.mem = s.mem)) ∧
  (∀ (m : PtpMsg) (s : State), s.rf (ptpReg 0x100) 1 0 ≠ 0 → (s.link m.link.val).inService = true → m.link.val = s.rf (ptpReg 0x100) 37 32 →
    m.stamped = true →
    Completes (.ptpMessage m) s (fun t => t.reg (ptpReg 0x118) = m.offset.toNat ∧ t.reg (ptpReg 0x120) = m.pathDelay.toNat ∧
      t.reg (ptpReg 0x128) = m.grandmaster.toNat ∧ (m.sync = true → s.Counted t (ptpReg 0x130) 1) ∧ t.swath = s.swath)) ∧
  (∀ (l : Nat) (s : State), s.rf (ptpReg 0x100) 1 0 = 2 → l ∈ s.service → bitOf (s.reg (ptpReg 0x108)) l = true →
    Completes .ptpSyncSend s (fun t => SwathOut.sync l ∈ t.swath.sent ∧ t.mem = s.mem ∧ t.regs = s.regs))

/-- Packets received and timers (R421 to R427, R429, R430): DATA is accepted once and written; an ACK frees its slots; a NACK ends its
transfer; a PROBE is answered on its own path, and a new incarnation is taken over; an expired packet is sent again on another path
with its timer doubled; a silent endpoint is unreachable. -/
def Obligations.SwathTransportRuns : Prop :=
  (∀ (rx : SwathRx) (h : SwHdr) (d : List Byte) (s : State), s.Hears rx 0 h d → h.src < s.swath.conns.length → (h.user = 0 ∨ h.user = 3) → h.q < 2 ^ 48 →
    h.seq < 2 ^ 32 → h.seq = (s.conn h.src).rxCum → (s.conn h.src).rxAhead = [] → h.ackNow = false → (s.conn h.src).ackDue < 15 →
    Completes (.dataReceived rx) s (fun t => (t.conn h.src).rxCum = (h.seq + 1) % 2 ^ 32 ∧ (t.conn h.src).rxAhead = [] ∧
      (t.conn h.src).ackDue = (s.conn h.src).ackDue + 1 ∧ t.mem = s.mem ∧ t.swath.sent = s.swath.sent)) ∧
  (∀ (rx : SwathRx) (h : SwHdr) (d : List Byte) (a : Nat) (s : State), s.MemOk → s.Hears rx 0 h d → h.user = 1 → h.q < 2 ^ 48 →
    (s.conn h.src).takes h.seq = true → rx.body = .write a → s.inbound a d.length true = true →
    (∀ i, i < d.length → s.deadAt (a + i) = false) →
    Completes (.dataReceived rx) s (fun t => t.bytes a d.length = d ∧ t.flights = s.flights)) ∧
  (∀ (rx : SwathRx) (h : SwHdr) (d : List Byte) (s : State), s.Hears rx 0 h d → h.user < 4 → h.q < 2 ^ 48 → h.seq ∈ (s.conn h.src).rxAhead →
    (h.seq + 2 ^ 32 - (s.conn h.src).rxCum) % 2 ^ 32 ≤ 65535 →
    Completes (.dataReceived rx) s (fun t => t.mem = s.mem ∧ t.flights = s.flights ∧ s.Counted t (tpReg 0x1F8) 1)) ∧
  (∀ (rx : SwathRx) (h : SwHdr) (d : List Byte) (s : State), s.Hears rx 1 h d → (s.conn h.src).queue = [] →
    Completes (.ackReceived rx) s (fun t => (t.conn h.src).slots.map (fun x => x.seq) =
      ((s.conn h.src).slots.filter (fun x => !ackCovers h x.seq)).map (fun x => x.seq) ∧ t.mem = s.mem)) ∧
  (∀ (rx : SwathRx) (h : SwHdr) (d : List Byte) (m : BitVec 32) (s : State) (f : Flight), s.Hears rx 2 h d → s.transferOf h.src m.toNat = some f →
    s.flight f.id = some f → Completes (.nackReceived rx m) s (fun t => t.Ended f ∧ t.mem = s.mem)) ∧
  (∀ (e : Nat) (s : State), 0 < (s.conn e).ackDue → (s.conn e).ackFrom + almUs 2 ≤ s.now →
    Completes (.ackTimer e) s (fun t => (t.conn e).ackDue = 0 ∧ t.mem = s.mem ∧
      ∃ b, t.swath.sent = s.outPacket (s.conn e).rxLink (s.conn e).rxPath b .other :: s.swath.sent)) ∧
  (∀ (e l p : Nat) (q : BitVec 32) (x : TxSlot) (s : State), (s.conn e).slots.find? (fun x => x.seq == q.toNat) = some x → (s.conn e).unreachable = false →
    x.sentAt + almUs (x.timer * s.rf (tpReg 0x120) 15 0) ≤ s.now → s.retryPath x = some (l, p) →
    Completes (.rtoExpiry e q) s (fun t => (t.conn e).slots.any (fun y => y.seq == x.seq && y.link == l && y.path == p && y.sentAt == s.now &&
        y.timer == min 32 (2 * x.timer)) = true ∧ s.Counted t (tpReg 0x1F0) 1 ∧ t.mem = s.mem)) ∧
  (∀ (rx : SwathRx) (h : SwHdr) (d : List Byte) (s : State), s.Hears rx 3 h d → h.src < s.swath.conns.length →
    Completes (.probeReceived rx) s (fun t => (t.conn h.src).peerInc = some h.q ∧ t.mem = s.mem ∧ t.swath.sent =
      s.outPacket rx.link.val h.path ((s.swHdr h.src 4 h.path 0 0 0 s.incarnation 0).toBytes []) .other :: s.swath.sent)) ∧
  (∀ (rx : SwathRx) (h : SwHdr) (d : List Byte) (s : State), s.Hears rx 4 h d → h.src < s.swath.conns.length → s.swath.plan ≠ 3 →
    (s.conn h.src).queue = [] →
    Completes (.probeReplyReceived rx) s (fun t => (t.conn h.src).peerInc = some h.q ∧ (t.conn h.src).unreachable = false ∧ t.mem = s.mem)) ∧
  (∀ (e : Nat) (s : State) (q : Nat × Nat), e < s.swath.eps.length → s.swath.plan ≠ 0 → (s.conn e).unreachable = true →
    (s.conn e).probed + almUs 100 ≤ s.now → q ∈ s.allPaths →
    Completes (.probeTimer e) s (fun t => t.mem = s.mem ∧
      s.outPacket q.1 q.2 ((s.swHdr e 3 q.2 0 0 0 s.incarnation 0).toBytes []) .other ∈ t.swath.sent)) ∧
  (∀ (e u : Nat) (s : State), e < s.swath.eps.length → (s.conn e).unreachable = false → (s.conn e).since = some u →
    u + almUs (s.rf (tpReg 0x120) 47 16) ≤ s.now →
    Completes (.peerUnreachable e) s (fun t => (t.conn e).unreachable = true ∧ t.Raised .transport 0 2 ∧ t.mem = s.mem))

/-- Swath's descriptors (R429, R430): a transfer starts with the next message number of its connection, sends from the
retransmit slot it takes, and completes once everything is acknowledged, or written and its message complete in order; a CANCEL ends what it matches. -/
def Obligations.SwathTransfersRun : Prop :=
  (∀ (id : Nat) (s : State) (f : Flight), s.flightOf id 7 1 = some f → f.fired = true → (swathF f.words).len ≠ 0 → f.started = false →
    Completes (.swathWrite id) s (fun t => (t.flight id).any (fun g => g.started && g.sw.msg == (s.conn (swathF f.words).ep).txMsg && g.sw.sent == 0) = true ∧
      t.mem = s.mem)) ∧
  (∀ (id n : Nat) (s : State) (f : Flight) (r : Nat × Nat × Nat), s.MemOk → s.flightOf id 7 1 = some f → f.fired = true → f.started = true →
    f.sw.sent < (swathF f.words).len → n = min 4096 ((swathF f.words).len - f.sw.sent) →
    s.readsPoison ((swathF f.words).localAddr + f.sw.sent) n = false →
    s.maySend (s.conn (swathF f.words).ep) = true → s.pickPath (s.conn (swathF f.words).ep) = some r →
    Completes (.swathWrite id) s (fun t => (t.flight id).any (fun g => g.sw.sent == f.sw.sent + n) = true ∧
      (t.conn (swathF f.words).ep).slots.length = (s.conn (swathF f.words).ep).slots.length + 1 ∧
      t.bytes (swathBufBase + 4096 * s.freeSlot) n = s.bytes ((swathF f.words).localAddr + f.sw.sent) n ∧
      ∀ a, (a < swathBufBase + 4096 * s.freeSlot ∨ swathBufBase + 4096 * s.freeSlot + n ≤ a) → t.byte a = s.byte a)) ∧
  (∀ (id : Nat) (s : State) (f : Flight), s.flightOf id 7 1 = some f → f.fired = true → f.started = true → (swathF f.words).len ≤ f.sw.sent →
    (s.conn (swathF f.words).ep).slots.any (fun y => y.data.user == 1 && y.data.msg == f.sw.msg) = false →
    (s.conn (swathF f.words).ep).queue.any (fun y => y.user == 1 && y.msg == f.sw.msg) = false →
    Completes (.swathWrite id) s (fun t => t.Ended f ∧ t.mem = s.mem)) ∧
  (∀ (id : Nat) (s : State) (f : Flight) (r : Nat × Nat × Nat), s.flightOf id 7 2 = some f → f.fired = true → f.started = true →
    (swathF f.words).len ≠ 0 → f.sw.sent = 0 → s.maySend (s.conn (swathF f.words).ep) = true → s.pickPath (s.conn (swathF f.words).ep) = some r →
    Completes (.swathRead id) s (fun t => (t.flight id).any (fun g => g.sw.sent == 1) = true ∧ t.mem = s.mem ∧
      (t.conn (swathF f.words).ep).slots.length = (s.conn (swathF f.words).ep).slots.length + 1)) ∧
  (∀ (id : Nat) (s : State) (f : Flight), s.flightOf id 7 2 = some f → f.fired = true → f.started = true → f.sw.sent ≠ 0 →
    (swathF f.words).len ≤ f.sw.got → f.sw.data.any (s.conn (swathF f.words).ep).completed = true → Completes (.swathRead id) s (fun t => t.Ended f ∧ t.mem = s.mem)) ∧
  (∀ (id : Nat) (s : State) (f : Flight), s.flightOf id 7 3 = some f → f.fired = true →
    (∀ g ∈ s.flights, swathMatches f.words g = true → g.id ≠ id) →
    Completes (.swathCancel id) s (fun t => t.Ended f ∧ t.mem = s.mem ∧ ∀ g ∈ s.flights, swathMatches f.words g = true → t.flight g.id = none))

/-! ### Steps and recovery -/

/-- The Almanac and its discipline (R444, R446, R447): the counter takes its increment each cycle; a measurement moves the state and,
when too far off, steps or unlocks it; an edge too soon is discarded; 8 intervals without a measurement are HOLDOVER. -/
def Obligations.AlmanacKeepsTime : Prop :=
  (∀ s : State, Completes .almanacTick s (fun t =>
    t.alm.acc = (if s.alm.running then s.alm.acc + BitVec.ofNat 96 s.alm.inc else s.alm.acc) ∧ t.alm.state = s.alm.state ∧ t.mem = s.mem)) ∧
  (∀ (d : Int) (s : State), s.alm.running = true → s.rf (almReg 0x108) 1 0 = 1 →
    Completes (.almanacMeasurement d) s (fun t => t.mem = s.mem ∧ t.flights = s.flights ∧
      (s.alm.state = .free → t.alm.state = .acquire ∧ t.alm.acc = s.alm.acc) ∧
      (s.alm.state = .acquire → almNs (s.rf (almReg 0x120) 63 32) < d.natAbs → s.stepBlocked = false → t.alm.acc = (s.alm.shift d).acc) ∧
      (s.alm.state = .acquire → d.natAbs ≤ almNs (s.rf (almReg 0x120) 31 0) → d.natAbs ≤ almNs (s.rf (almReg 0x120) 63 32) → s.alm.good = 15 →
        t.alm.state = .locked) ∧
      (s.alm.state = .locked → almNs (s.rf (almReg 0x120) 63 32) < d.natAbs → t.alm.state = .acquire ∧ t.Raised .almanac 0 0))) ∧
  (∀ s : State, s.alm.running = true → s.alm.lastPps = none → s.rf (almReg 0x108) 1 0 = 2 → s.alm.state = .free →
    Completes .ppsInEdge s (fun t => t.alm.state = .acquire ∧ t.alm.lastPps = some s.now ∧ t.alm.ppsDiscarded = s.alm.ppsDiscarded)) ∧
  (∀ (s : State) (u : Nat), s.alm.running = true → s.alm.lastPps = some u → 2 * (s.now - u) < almSecond →
    Completes .ppsInEdge s (fun t => t.alm.state = s.alm.state ∧ t.alm.acc = s.alm.acc ∧ t.alm.ppsDiscarded = s.alm.ppsDiscarded + 1)) ∧
  (∀ s : State, s.alm.running = true → s.alm.state = .locked → 8 * s.syncInterval ≤ s.now - s.alm.lastMeasure →
    Completes .almanacHoldover s (fun t => t.alm.state = .holdover ∧ t.alm.acc = s.alm.acc ∧ t.Raised .almanac 0 0 ∧
      s.Counted t (almReg 0x188) 1))

/-- Launch gates, waits, flags, the ledger and rebasing (R449 to R454, R465, R469): of a set and a clear of a flag in one FC cycle
the set stands, and waits that follow in that cycle find 0 (R454). -/
def Obligations.GatesWaitsAndFlags : Prop :=
  (∀ (id : Nat) (s : State) (f : Flight), s.flight id = some f → f.fired = false → f.ending = none → s.gateHead f = true →
    hLaunch f.hdr ≤ s.now → (f.wait = none ∨ f.waitMet = true) → (hLaunch f.hdr ≠ 0 → (gatePages f).all (fun p => s.gateOn p.1 p.2) = true) →
    s.steward.warm = false →
    Completes (.launchGateFire id) s (fun t => (t.flight id).any (fun g => g.fired && g.firedAt == s.now) = true ∧ t.mem = s.mem ∧
      (hLaunch f.hdr ≠ 0 → almNs (s.rf (almReg 0x128) 31 0) < s.now - hLaunch f.hdr → s.Counted t (almReg 0x170) 1 ∧ t.Raised .almanac 0 1))) ∧
  (∀ (d : Fin 9) (s : State) (f : Flight) (w : WaitCopy), s.steward.warm = false →
    s.flights.filter (fun f => match f.wait with | some w => w.domain == d.val && !f.waitMet | none => false) = [f] →
    s.flight f.id = some f → f.wait = some w → s.waitHolds w = true →
    Completes (.waitMet d) s (fun t => (t.flight f.id).any (fun g => g.waitMet) = true ∧ t.mem = s.mem ∧ t.regs = s.regs ∧
      (w.consume = true → ∀ n ∈ w.flags, t.flagSeen w.domain n = false ∧ (s.flagNow w.domain n = none → t.flag w.domain n = false)) ∧ (w.consume = false → t.flags = s.flags))) ∧
  (∀ (via : Via) (d : Fin 9) (n : Fin 1024) (s : State), Lands via s (almReg 0x168) (n.val + 1024 * d.val) →
    Completes (.flagSet via d n) s (fun t => t.flag d.val n.val = true ∧
      ∀ (e m : Nat), m < 1024 → (e, m) ≠ (d.val, n.val) → t.flag e m = s.flag e m)) ∧
  (∀ (via : Via) (d : Fin 9) (n : Fin 1024) (s : State), Lands via s (almReg 0x168) (n.val + 1024 * d.val + 0x4000) →
    Completes (.flagClear via d n) s (fun t => t.flagSeen d.val n.val = false ∧
      t.flag d.val n.val = ((s.flagNow d.val n.val).isSome && s.flag d.val n.val) ∧
      ∀ (e m : Nat), m < 1024 → (e, m) ≠ (d.val, n.val) → t.flag e m = s.flag e m)) ∧
  (∀ (via : Via) (v : Word) (s : State), Lands via s (almReg 0x150) v.toNat →
    Completes (.ledgerRecordsWrite via v) s (fun t => t.reg (almReg 0x150) = bitsOf v.toNat 31 0 ∧ t.ledgerHeld = 0 ∧ t.mem = s.mem)) ∧
  (∀ (via : Via) (v : Word) (s : State), Lands via s (almReg 0x160) v.toNat →
    Completes (.rebaseSubmit via v) s (fun t => t.alm.rebase = (if v.toNat = 0 then none else some (v.toNat, s.alm.rebaseSec)))) ∧
  (∀ (s : State) (u n : Nat), s.alm.rebase = some (u, n) → s.alm.running = true → u ≤ s.now →
    s.flights.any (fun f => !f.fired && hLaunch f.hdr != 0) = false →
    s.windows.any (fun w => w.parsed.any (fun d => hLaunch (dword d.2 0) != 0)) = false → s.collectiveHolds = false →
    Completes .rebase s (fun t => t.alm.rebase = none ∧ t.rf (almReg 0x118) 47 0 = (s.rf (almReg 0x118) 47 0 + n) % 2 ^ 48 ∧
      t.alm.acc = (s.alm.shift (-((n * almSecond : Nat) : Int))).acc ∧ t.flights = s.flights ∧ t.mem = s.mem)) ∧
  (∀ (s : State) (u n : Nat), s.alm.rebase = some (u, n) → s.alm.running = true → u ≤ s.now →
    (s.flights.any (fun f => !f.fired && hLaunch f.hdr != 0) = true ∨
      s.windows.any (fun w => w.parsed.any (fun d => hLaunch (dword d.2 0) != 0)) = true ∨ s.collectiveHolds = true) →
    Completes .rebase s (fun t => t.alm.rebase = none ∧ t.alm.acc = s.alm.acc ∧ t.Raised .almanac 0 3 ∧ t.flights = s.flights))

/-- Furlongs (R460 to R463, R468): FURLONG_RUN starts its furlong, FURLONG_STOP ends its expansion, a poisoned image ends the run at once; expansion begins the next step and
takes its items in order; a phase and a step that have completed write their records. -/
def Obligations.FurlongsRun : Prop :=
  (∀ (id : Nat) (s : State) (f : Flight), s.flightOf id 8 1 = some f → f.fired = true → f.started = false → s.furlong = none →
    (runF f.words).steps ≠ 0 → s.rangesPoisoned (s.imageReads (runF f.words).image true none) = false →
    Completes (.furlongRun id) s (fun t => t.furlong.any (fun g => g.runId == id && g.first == (runF f.words).first && g.steps == (runF f.words).steps &&
      g.nextStep == (runF f.words).first && g.image == (runF f.words).image && g.running.isEmpty && !g.stopping) = true ∧ t.mem = s.mem)) ∧
  (∀ (id : Nat) (s : State) (f : Flight), s.flightOf id 8 1 = some f → f.fired = true → f.started = false → s.furlong = none →
    (runF f.words).steps = 0 → Completes (.furlongRun id) s (fun t => t.Ended f ∧ t.mem = s.mem)) ∧
  (∀ (id : Nat) (s : State) (f : Flight), s.flightOf id 8 1 = some f → f.fired = true → f.started = false → s.furlong = none →
    (runF f.words).steps ≠ 0 → s.rangesPoisoned (s.imageReads (runF f.words).image true none) = true →
    Completes (.furlongRun id) s (fun t => t.Ended f ∧ t.mem = s.mem)) ∧
  (∀ (id : Nat) (s : State) (f : Flight) (fu : Furlong), s.flightOf id 8 2 = some f → f.fired = true → s.furlong = some fu →
    fu.current.isSome = true → Completes (.furlongStop id) s (fun t => t.Ended f ∧ t.furlong.any (fun g => g.stopping) = true ∧ t.mem = s.mem)) ∧
  (∀ (s : State) (fu : Furlong) (o : Nat), s.furlong = some fu → s.placeRuns 8 = true → s.hitch.job = .running → fu.current = none → fu.running = [] →
    fu.stopping = false → fu.nextStep < fu.first + fu.steps → s.stepAdmits fu.nextStep = true → s.stepOrigin fu fu.nextStep = some o →
    s.rangesPoisoned (s.imageReads fu.image true none) = false →
    Completes .stepExpansion s (fun t => t.furlong.any (fun g => g.current == some (fu.nextStep, decide (0 < s.probingTags)) &&
      g.nextStep == fu.nextStep + 1 && g.running.any (fun r => r.step == fu.nextStep && r.origin == o)) = true)) ∧
  (∀ (s : State) (fu : Furlong) (n ph tm ch mi : Nat) (pre : Bool) (rest : List ExpandItem) (r : StepRun), s.furlong = some fu → s.placeRuns 8 = true →
    s.hitch.job = .running → fu.current = some (n, pre) → fu.items = .inst ph tm ch mi :: rest → fu.run? n pre = some r →
    s.scaleHeld fu.image tm n = false → s.rangesPoisoned (s.imageReads fu.image false (some tm)) = false →
    let d := s.instanceOf fu.image tm n r.origin ch mi pre
    (hFence (dword d 0) = true → s.instancesClear = true) → s.issueHeld d n = false → s.descCheck 8 d = 0 → s.issueCheck d n = 0 →
    hClass (dword d 0) ≠ 0x0D → s.waitStop d = 0 →
    Completes .stepExpansion s (fun t => t.furlong.any (fun g => decide (g.items = rest)) = true ∧
      ∃ f, t.flights = s.flights ++ [f] ∧ f.words = d ∧ f.step = n ∧ f.origin = .furlong fu.window ph tm pre ∧ f.fired = false)) ∧
  (∀ (n ph : Nat) (pre : Bool) (s : State) (fu : Furlong) (r : StepRun) (p : PhaseRun) (u : Nat), s.MemOk → s.furlong = some fu →
    fu.run? n pre = some r → r.phases.find? (fun p => p.index == ph) = some p → p.expanded = true → p.outstanding = 0 → p.recorded = false →
    p.start = some u → p.count ≠ 0 → s.rf (almReg 0x150) 31 0 ≠ 0 →
    (∀ i, i < 32 → s.deadAt (s.rf (almReg 0x148) 47 0 + 32 * s.rf (almReg 0x150) 63 32 + i) = false) →
    Completes (.phaseComplete n pre ph) s (fun t =>
      (t.furlong.bind (fun g => g.run? n pre)).any (fun r => r.phases.any (fun p => p.index == ph && p.recorded)) = true ∧
      t.rf (almReg 0x150) 63 32 = (s.rf (almReg 0x150) 63 32 + 1) % s.rf (almReg 0x150) 31 0 ∧
      t.num (s.rf (almReg 0x148) 47 0 + 32 * s.rf (almReg 0x150) 63 32 + 8) 8 = u % 2 ^ 64 ∧
      t.num (s.rf (almReg 0x148) 47 0 + 32 * s.rf (almReg 0x150) 63 32 + 16) 8 = p.lastEnd % 2 ^ 64)) ∧
  (∀ (n : Nat) (s : State) (fu : Furlong), s.furlong = some fu → fu.stepDone n = true →
    Completes (.stepComplete n) s (fun t => s.Counted t (almReg 0x178) 1 ∧
      t.furlong.all (fun g => g.running.all (fun r => r.step != n)) = true))

/-- COMMIT and the buddy (R475, R476, R479 to R481, R490): the commit record is set in one cycle; with a non-finite verdict the old copy
is carried first; a sealed buddy copy is noted; pairing is asked for, answered and ended. -/
def Obligations.CommitsAndBuddies : Prop :=
  (∀ (id : Nat) (s : State) (f : Flight), s.recRuns id 1 = some f → f.reco?.begun = true → f.reco?.carry = false →
    Completes (.commit id) s (fun t => t.flight id = none ∧ t.committedStep = (recF f.words).step ∧ t.committedSet = (recF f.words).set ∧
      s.Counted t (recReg 0x190) 1 ∧ t.mem = s.mem)) ∧
  (∀ (id : Nat) (s : State) (f : Flight), s.recRuns id 1 = some f → f.reco?.begun = false → (recF f.words).hdr ≠ 0 → s.recTableStop = none →
    s.recReadStop (recF f.words).hdr 64 = none →
    Completes (.commit id) s (fun t => (t.flight id).any (fun g => g.reco?.begun &&
      g.reco?.carry == bitOf (s.num ((recF f.words).hdr + 16) 8) 0) = true ∧ t.committedStep = s.committedStep ∧ t.mem = s.mem)) ∧
  (∀ (id : Nat) (s : State) (f : Flight) (e : RecEnt), s.MemOk → s.recRuns id 1 = some f → f.reco?.begun = true → f.reco?.carry = true →
    (s.recEnts.filter (fun e => e.a1 != 0))[f.reco?.idx]? = some e → s.recReadStop (e.copy s.committedSet) e.len = none →
    s.populated (e.copy (recF f.words).set) e.len = true → e.copy s.committedSet ≠ e.copy (recF f.words).set →
    (∀ i, i < e.len → s.deadAt (e.copy (recF f.words).set + i) = false) →
    Completes (.commit id) s (fun t => (t.flight id).any (fun g => g.reco?.idx == f.reco?.idx + 1) = true ∧
      t.committedStep = s.committedStep ∧ t.bytes (e.copy (recF f.words).set) e.len = s.bytes (e.copy s.committedSet) e.len)) ∧
  (∀ (id : Nat) (s : State) (f : Flight), s.MemOk → s.recRuns id 2 = some f → s.pairState ≠ 4 → s.epGone s.buddyEp = false → f.reco?.begun = false →
    s.recTableStop = none →
    (packOffsets 0 (s.recOf [2])).findSome? (fun e => s.recReadStop (e.2.copy s.committedSet) e.2.len) = none →
    Completes (.buddySend id) s (fun t => (t.flight id).any (fun g => g.reco?.begun && g.reco?.ep == s.buddyEp && g.reco?.msg.isSome) = true ∧
      s.OnlySlots t ∧ t.regs = s.regs)) ∧
  (∀ (id : Nat) (s : State) (f : Flight), s.recRuns id 2 = some f → s.pairState ≠ 4 → s.epGone s.buddyEp = false → f.reco?.begun = true → f.ending = none →
    f.reco?.msg.any (s.msgOpen f.reco?.ep) = false →
    Completes (.buddySend id) s (fun t => t.flight id = none ∧ t.rf (recReg 0x138) 31 0 = (recF f.words).step ∧ s.Counted t (recReg 0x1B8) 1 ∧
      t.mem = s.mem)) ∧
  (∀ (id : Nat) (s : State) (f : Flight), s.recRuns id 2 = some f → s.pairState ≠ 4 → s.epGone s.buddyEp = true →
    Completes (.buddySend id) s (fun t => t.flight id = none ∧ t.pairState = 4 ∧ t.Raised .recovery 0 2 ∧ t.mem = s.mem)) ∧
  (∀ (k : Fin 2) (off : Nat) (s : State), s.recov.hosted.length = 2 → s.pairState = 2 → s.recov.sealSeen.getD k.val false = true →
    (s.conn s.buddyEp).rxAhead = [] →
    Completes (.buddySealReceived k off) s (fun t => t.recov.hosted.getD k.val none = some (s.num (s.slotAddr k.val off) 8 % 2 ^ 32) ∧
      t.recov.sealSeen.getD k.val false = false ∧ t.mem = s.mem)) ∧
  (∀ (via : Via) (e : BitVec 16) (o : Bool) (s : State), Lands via s (recReg 0x120) (0x100 + (b2n o <<< 16) + (e.toNat <<< 32)) →
    s.MemOk → Completes (.pairRequest via e o) s (fun t => t.pairState = (if s.pairState = 2 then 2 else 1) ∧ t.buddyEp = e.toNat ∧ s.OnlySlots t)) ∧
  (∀ (via : Via) (e : BitVec 16) (o : Bool) (s : State), Lands via s (recReg 0x120) ((b2n o <<< 16) + (e.toNat <<< 32)) →
    Completes (.unpair via e o) s (fun t => t.pairState = 0 ∧ t.buddyEp = e.toNat ∧ t.mem = s.mem)) ∧
  (∀ (d : Fin 64) (s : State), s.pairState = 1 → s.epGone s.buddyEp = false →
    (d.val ≠ s.steward.pwrDomain ∨ bitOf (s.reg (recReg 0x120)) 16 = true) →
    Completes (.pairingMessage s.buddyEp d 1) s (fun t => t.pairState = 2 ∧ t.rf (recReg 0x138) 39 34 = d.val ∧ t.mem = s.mem)) ∧
  (∀ (d : Fin 64) (s : State), s.MemOk → (s.pairState = 1 ∨ s.pairState = 2) → s.epGone s.buddyEp = false →
    (d.val ≠ s.steward.pwrDomain ∨ bitOf (s.reg (recReg 0x120)) 16 = true) →
    Completes (.pairingMessage s.buddyEp d 0) s (fun t => t.pairState = s.pairState ∧ t.rf (recReg 0x138) 39 34 = d.val ∧ s.OnlySlots t)) ∧
  (∀ (d : Fin 64) (a : Fin 3) (s : State), s.MemOk → s.pairState = 1 → s.epGone s.buddyEp = false → d.val = s.steward.pwrDomain →
    bitOf (s.reg (recReg 0x120)) 16 = false →
    Completes (.pairingMessage s.buddyEp d a) s (fun t => t.pairState = 3 ∧ t.Raised .recovery 0 1 ∧ s.OnlySlots t))

/-- Stooks and refills (R482 to R485, R488, R489): a stook is staged entry by entry, drained extent by extent and sealed; a REFILL waits
for its image, places its entries and ends sealed with the commit record set. -/
def Obligations.StooksAndRefills : Prop :=
  (∀ (id : Nat) (s : State) (f : Flight), s.recRuns id 3 = some f → f.reco?.begun = false → s.recTableStop = none → s.stookState = 0 →
    Completes (.stookTake id) s (fun t => t.stookState = 1 ∧ t.recov.generation = (s.recov.generation + 1) % 2 ^ 32 ∧
      t.recov.stookStep = (recF f.words).step ∧ (t.flight id).any (fun g => g.reco?.begun) = true)) ∧
  (∀ (id : Nat) (s : State) (f : Flight), s.recRuns id 3 = some f → f.reco?.begun = false → s.recTableStop = none → s.stookState ≠ 0 →
    Completes (.stookTake id) s (fun t => t.flight id = none ∧ t.stookState = s.stookState ∧ s.Counted t (recReg 0x1B0) 1 ∧ t.mem = s.mem)) ∧
  (∀ (id o : Nat) (e : RecEnt) (s : State) (f : Flight), s.MemOk → s.recRuns id 3 = some f → f.reco?.begun = true →
    (packOffsets s.stookData (s.recOf [2, 3]))[f.reco?.idx]? = some (o, e) → s.recReadStop (e.copy s.committedSet) e.len = none →
    (∀ i, i < e.len → s.deadAt (s.stagingBase + o + i) = false) →
    Completes (.stookTake id) s (fun t => (t.flight id).any (fun g => g.reco?.idx == f.reco?.idx + 1) = true ∧
      t.bytes (s.stagingBase + o) e.len = s.bytes (e.copy s.committedSet) e.len)) ∧
  (∀ (id : Nat) (s : State) (f : Flight), s.recRuns id 3 = some f → f.reco?.begun = true → (s.recOf [2, 3]).length ≤ f.reco?.idx →
    Completes (.stookStaged id) s (fun t => t.flight id = none ∧ t.stookState = 2 ∧
      t.mem = (s.store (s.stagingBase + s.recov.stookBytes - 128) (s.stookSeal s.recov.stookStep)).mem)) ∧
  (∀ (via : Via) (v : Word) (s : State), Lands via s (recReg 0x170) v.toNat → v.toNat + 1 < stookExtents s.recov.stookBytes → v.toNat + 1 < 2 ^ 32 →
    Completes (.drainAck via v) s (fun t => t.stookState = 2 ∧ t.rf (recReg 0x168) 63 32 = v.toNat + 1 ∧ t.mem = s.mem)) ∧
  (∀ (via : Via) (v : Word) (s : State), Lands via s (recReg 0x170) v.toNat → stookExtents s.recov.stookBytes ≤ v.toNat + 1 →
    Completes (.drainAck via v) s (fun t => t.stookState = 0 ∧ t.rf (recReg 0x158) 31 0 = s.recov.stookStep % 2 ^ 32 ∧
      t.rf (recReg 0x158) 47 32 = s.recov.generation % 65536 ∧ s.Counted t (recReg 0x1A8) 1 ∧ t.Raised .recovery 0 3 ∧ t.mem = s.mem)) ∧
  (∀ (id : Nat) (s : State) (f : Flight), s.recRuns id 4 = some f → f.reco?.carry = false → f.reco?.begun = false → s.recTableStop = none → (recF f.words).source = 0 →
    Completes (.refill id) s (fun t => t.fillState = 1 ∧ (t.flight id).any (fun g => g.reco?.begun) = true ∧ t.mem = s.mem)) ∧
  (∀ (id : Nat) (s : State) (f : Flight), s.recRuns id 4 = some f → f.reco?.carry = false → s.recTableStop = none → (recF f.words).source = 2 →
    s.committedStep ≠ (recF f.words).step →
    Completes (.refill id) s (fun t => t.fillState = 3 ∧ t.mem = s.mem ∧
      (t.flight id).any (fun g => g.reco?.carry && g.reco?.set == (recF f.words).rset && g.reco?.idx == 0) = true)) ∧
  (∀ (id o : Nat) (e : RecEnt) (s : State) (f : Flight), s.MemOk → s.recRuns id 4 = some f → f.reco?.begun = true → f.reco?.carry = true → (recF f.words).source = 0 →
    (packOffsets 0 (s.fillEnts 0))[f.reco?.idx]? = some (o, e) → (∀ i, i < e.len → s.deadAt (e.copy f.reco?.set + i) = false) →
    s.readsPoison (s.stagingBase + s.stookData + o) e.len = false →
    Completes (.refill id) s (fun t => (t.flight id).any (fun g => g.reco?.idx == f.reco?.idx + 1) = true ∧
      t.bytes (e.copy f.reco?.set) e.len = s.bytes (s.stagingBase + s.stookData + o) e.len)) ∧
  (∀ (id : Nat) (s : State) (f : Flight), s.recRuns id 4 = some f → f.reco?.begun = true → f.reco?.carry = true → f.reco?.set < 2 →
    (packOffsets 0 (s.fillEnts (recF f.words).source)).length ≤ f.reco?.idx →
    Completes (.refill id) s (fun t => t.flight id = none ∧ t.fillState = 4 ∧ t.committedStep = (recF f.words).step ∧ t.committedSet = f.reco?.set ∧
      s.Counted t (recReg 0x1C0) 1 ∧ t.Raised .recovery 0 4 ∧ t.mem = s.mem)) ∧
  (∀ (via : Via) (v : Word) (s : State), Lands via s (recReg 0x180) v.toNat →
    Completes (.fillReady via v) s (fun t => t.mem = s.mem ∧
      (s.fillState = 1 → t.fillState = 2 ∧ t.recov.fillReady = some v.toNat) ∧ (s.fillState ≠ 1 → t.fillState = s.fillState ∧ t.recov = s.recov)))

/-! ### Power, the Tithe, Steward -/

/-- Power states (R492 to R495): an accepted target is the state asked for; once reached it is the state, counted and raised, and what
it loses is gone; an idle module enters Idle; signal on four Hitch lanes asks for Run. -/
def Obligations.PowerStatesChange : Prop :=
  (∀ (via : Via) (s : State), Lands via s (powReg 0x100) (0 <<< 16) →
    Completes (.targetRun via) s (fun t => t.rf (powReg 0x100) 23 16 = 0 ∧ t.power.state = s.power.state ∧
      t.power.goal = (if s.power.state ≤ 1 ∧ s.power.goal = none then none else some 0) ∧ t.mem = s.mem)) ∧
  (∀ (via : Via) (s : State), Lands via s (powReg 0x100) (2 <<< 16) →
    Completes (.targetRest via) s (fun t => t.rf (powReg 0x100) 23 16 = 2 ∧ t.power.goal = some 2 ∧ t.power.state = s.power.state ∧ t.mem = s.mem)) ∧
  (∀ (via : Via) (s : State), Lands via s (powReg 0x100) (3 <<< 16) →
    Completes (.targetFallow via) s (fun t => t.rf (powReg 0x100) 23 16 = 3 ∧ t.power.goal = some 3 ∧ t.power.state = s.power.state ∧ t.mem = s.mem)) ∧
  (∀ (via : Via) (s : State), Lands via s (powReg 0x100) (4 <<< 16) →
    Completes (.targetWinter via) s (fun t => t.rf (powReg 0x100) 23 16 = 4 ∧ t.power.goal = some 4 ∧ t.power.state = s.power.state ∧ t.mem = s.mem)) ∧
  (∀ (s : State) (g : Nat), s.power.goal = some g → g < 4 → s.steward.warmPending = none →
    Completes .powerStateReached s (fun t => t.power.state = g ∧ t.power.goal = none ∧ s.Counted t (powReg 0x168) 1 ∧ t.Raised .power 0 5 ∧
      (g < 2 → t.mem = s.mem) ∧ (g = 2 ∨ g = 3 → t.gleanMeta = [] ∧ t.kept = []) ∧ (g = 3 → t.hitch.link = .down))) ∧
  (∀ s : State, s.power.goal = some 4 →
    Completes .powerStateReached s (fun t => t.power.state = 4 ∧ t.mem = [] ∧ t.flights = [] ∧ t.steward.fabricOpen = false)) ∧
  (∀ (s : State) (u : Nat), s.power.idleSince = some u → s.power.state = 0 → s.power.goal = none → s.power.dies = true → s.steward.ready = true →
    s.computeBusy = false → almUs (s.rf (powReg 0x108) 15 0) ≤ s.now - u →
    Completes .idleEntry s (fun t => t.power.state = 1 ∧ t.mem = s.mem ∧ t.regs = s.regs)) ∧
  (∀ (m : BitVec 8) (s : State), s.power.state = 3 → s.power.goal = none → 4 ≤ popCount 8 m.toNat →
    Completes (.fallowHitchWake m) s (fun t => t.power.goal = some 0 ∧ t.power.state = 3 ∧ t.hitch.link = .down ∧ t.mem = s.mem))

/-- The governor, temperatures and droop (R497 to R505): duty is the smaller of its two limits; an implausible report is a mismatch; an
implausible reading is discarded; the second reading at trip_c shuts the dies off; a hot die sets the lowest duty; a trip stretches its
Field's clocks until its end. -/
def Obligations.GovernorAndSensors : Prop :=
  (∀ (m : Int) (mv e : Nat) (s : State), s.power.dies = true → s.power.state < 4 →
    Completes (.governorWindow m mv e) s (fun t =>
      t.rf (powReg 0x130) 31 24 = min (t.rf (powReg 0x130) 39 32) (t.rf (powReg 0x130) 47 40) ∧
      t.power.tick = (if s.power.tick + 1 = 100 then 0 else s.power.tick + 1) ∧ t.mem = s.mem ∧ t.flights = s.flights ∧
      (reportOk m mv = false → s.Counted t (powReg 0x160) 1 ∧ t.power.badRun = s.power.badRun + 1))) ∧
  (∀ (d : Fin 9) (k : Fin 8) (c : Int) (s : State), s.power.sensors.length = 72 → s.power.dies = true → -40 ≤ c → c < 120 →
    (∀ l, (s.junction d.val k.val).last = some l → c - l ≤ 15 ∧ l - c ≤ 15) →
    Completes (.junctionSensorRead d k c) s (fun t => t.junction d.val k.val = ⟨some c, 0, false, 0⟩ ∧ t.mem = s.mem ∧ t.power.dies = true)) ∧
  (∀ (d : Fin 8) (k : Fin 8) (c : Int) (s : State), s.power.sensors.length = 72 → s.power.dies = true → (c < -40 ∨ 150 < c) →
    (s.junction d.val k.val).trips < 2 →
    Completes (.junctionSensorRead d.castSucc k c) s (fun t => (t.junction d.val k.val).last = (s.junction d.val k.val).last ∧
      (t.junction d.val k.val).bad = (s.junction d.val k.val).bad + 1 ∧ s.Counted t (droopReg d.val 0x140) 1 ∧ t.mem = s.mem)) ∧
  (∀ (d : Fin 9) (k : Fin 8) (c l : Int) (s : State), s.power.sensors.length = 72 → s.power.dies = true → 120 ≤ c → c ≤ 150 →
    (s.junction d.val k.val).last = some l → c - l ≤ 15 → l - c ≤ 15 → (s.junction d.val k.val).trips = 1 →
    Completes (.junctionSensorRead d k c) s (fun t => t.power.thermtrip = true ∧ t.power.dies = false ∧ t.steward.heldOff = true ∧
      t.steward.fabricOpen = false ∧ t.mem = [])) ∧
  (∀ s : State, s.power.thermDue = true → s.isHot = true →
    Completes .thermalStep s (fun t => t.rf (powReg 0x130) 47 40 = 8 ∧ t.power.thermDue = false ∧
      t.rf (powReg 0x130) 31 24 = min (t.rf (powReg 0x130) 39 32) 8 ∧ (s.power.hotSeen = false → t.Raised .power 0 3))) ∧
  (∀ s : State, s.power.thermDue = true → s.isHot = false → s.thermalOver.getD (-3) ≤ -3 → s.rf (powReg 0x130) 47 40 < 64 →
    Completes .thermalStep s (fun t => t.rf (powReg 0x130) 47 40 = s.rf (powReg 0x130) 47 40 + 1 ∧ t.power.thermDue = false)) ∧
  (∀ (f : Fin 8) (mv : Nat) (s : State), s.power.droop.length = 8 → s.power.dies = true → s.lost f.val = false →
    mv + s.rf (droopReg f.val 0x100) 7 0 < s.fieldMv f.val →
    Completes (.droopTrip f mv) s (fun t => (t.droopSt f.val).stretching = true ∧ s.Counted t (droopReg f.val 0x120) 1 ∧ t.mem = s.mem)) ∧
  (∀ (f : Fin 8) (ac fc : Nat) (s : State), (s.droopSt f.val).stretching = true → s.rf (droopReg f.val 0x100) 23 16 ≤ ac →
    Completes (.droopStretchEnd f ac fc) s (fun t => (t.droopSt f.val).stretching = false ∧ s.Counted t (droopReg f.val 0x128) ac ∧
      s.Counted t (droopReg f.val 0x130) fc ∧ t.mem = s.mem))

/-- The array frequency (R507 to R509): a submitted change is pending, a cancelled one is not; the voltage is raised from 80 µs before a
rising change; the frequency takes effect Field by Field, and is counted and raised on the last. -/
def Obligations.ArrayFrequencyChanges : Prop :=
  (∀ (via : Via) (m : BitVec 16) (v : Word) (s : State), Lands via s (powReg 0x120) m.toNat →
    Lands (nextVia via) (s.writeBy via (powReg 0x120) m.toNat) (powReg 0x128) v.toNat → v.toNat ≠ 0 →
    Completes (.acChangeSubmit via m v) s (fun t => t.power.change = some (v.toNat, m.toNat) ∧ t.power.acMhz = s.power.acMhz ∧ t.mem = s.mem)) ∧
  (∀ (via : Via) (s : State), Lands via s (powReg 0x128) 0 →
    Completes (.acChangeCancel via) s (fun t => t.power.change = none ∧ t.power.acMhz = s.power.acMhz ∧ t.mem = s.mem)) ∧
  (∀ (s : State) (u m : Nat), s.power.change = some (u, m) → u ≤ s.now + almUs 80 →
    Completes .acVoltageRamp s (fun t => t.regs = s.regs ∧ t.power.change = s.power.change ∧
      t.power.droop = s.power.droop.map (fun d => { d with raised := d.raised || decide (d.mhz < m) }))) ∧
  (∀ (f : Fin 8) (s : State) (u m : Nat), s.power.droop.length = 8 → s.power.change = some (u, m) → u ≤ s.now → (s.droopSt f.val).stretching = false →
    s.lost f.val = false →
    Completes (.acChange f) s (fun t => (t.droopSt f.val).mhz = m ∧ t.mem = s.mem ∧
      ((∀ g, g < 8 → g ≠ f.val → s.lost g = true ∨ (s.droopSt g).mhz = m) → t.power.change = none ∧ t.power.acMhz = m ∧
        s.Counted t (powReg 0x170) 1 ∧ t.Raised .power 0 4) ∧
      (∀ g, g < 8 → g ≠ f.val → s.lost g = false → (s.droopSt g).mhz ≠ m → t.power.change = s.power.change)))

/-- The Tithe meters and closes its intervals (R515 to R523): a sample adds its energy; a closed interval is a record with the next
sequence number, and a fresh interval opens; at a power loss the interval closes, and goes on from its checkpoint where the closure was
not written.
The mirror in Steward (R525, R526): mirror_gen is odd while a snapshot arrives; a record arrives word by word and then shows its
number; a silent mirror is stale. -/
def Obligations.TitheMeters : Prop :=
  (∀ (mv ma : Nat) (s : State), s.tithe.powered = true →
    Completes (.titheSample mv ma) s (fun t => t.tithe.time = s.tithe.time + 10 ∧
      t.tithe.energy = s.tithe.energy + (s.tithe.rest + mv * ma) / 100000 ∧ t.tithe.odometer = s.tithe.odometer + (s.tithe.rest + mv * ma) / 100000 ∧
      t.tithe.rest = (s.tithe.rest + mv * ma) % 100000 ∧ t.tithe.vMax = max s.tithe.vMax mv ∧ t.tithe.seq = s.tithe.seq)) ∧
  (∀ s : State, s.tithe.powered = true →
    Completes (.titheSelfCheck true) s (fun t => t.tithe.senseFault = true ∧ t.tithe.senseFlag = true ∧ t.tithe.tamperCount = s.tithe.tamperCount + 1 ∧
      t.tithe.seq = s.tithe.seq) ∧
    Completes (.titheSelfCheck false) s (fun t => t.tithe.senseFault = false ∧ t.tithe.tamperCount = s.tithe.tamperCount)) ∧
  (∀ s : State, s.tithe.powered = true → s.tithe.openAt + 3600000000 ≤ s.tithe.time →
    Completes .titheRollover s (fun t => t.tithe.seq = s.tithe.seq + 1 ∧ t.tithe.tag = s.tithe.tag ∧ t.tithe.openAt = s.tithe.time ∧
      t.tithe.energy = 0 ∧ t.tithe.odometer = s.tithe.odometer ∧ t.tithe.records.head? = some (s.tithe.seq, s.titheRecord 1 8 1 0))) ∧
  (∀ s : State, s.tithe.powered = true → s.tithe.time < s.tithe.openAt + 3600000000 → exec .titheRollover s = .next s) ∧
  (∀ (written : Bool) (k : Option (Fin 4)) (m : Option (BitVec 64 × BitVec 64)) (s : State), s.tithe.powered = true →
    Completes (.tithePowerLoss written k m) s (fun t => t.tithe.powered = false ∧ t.tithe.lossWritten = written ∧
      t.tithe.seq = (if written then s.tithe.seq + 1 else s.tithe.seq) ∧ t.tithe.odometer = s.tithe.odometer)) ∧
  (∀ s : State, s.tithe.powered = false → s.tithe.lossWritten = true →
    Completes .tithePowerReturn s (fun t => t.tithe.powered = true ∧ t.tithe.tag = s.tithe.tag ∧ t.tithe.openAt = s.tithe.time ∧
      t.tithe.energy = 0 ∧ t.tithe.ckptFlag = false)) ∧
  (∀ (s : State) (u o e d p x n k : Nat), s.tithe.powered = false → s.tithe.lossWritten = false → s.tithe.ckpt = [u, o, e, d, p, x, n, k] →
    Completes .tithePowerReturn s (fun t => t.tithe.powered = true ∧ t.tithe.tag = s.tithe.tag ∧ t.tithe.time = max u (s.tithe.tamperLog.head?.elim 0 (fun e => e.1)) ∧ t.tithe.openAt = o ∧
      t.tithe.energy = e ∧ t.tithe.odometer = d ∧ t.tithe.ckptFlag = true)) ∧
  (∀ s : State, s.tithe.powered = true →
    Completes .titheCheckpoint s (fun t => t.tithe = { s.tithe with ckpt := [s.tithe.time, s.tithe.openAt, s.tithe.energy, s.tithe.odometer,
      s.tithe.peak, s.tithe.vMax, s.tithe.vMin, s.tithe.taken] })) ∧
  (∀ (k : Fin 5) (m : Option (BitVec 64 × BitVec 64)) (s : State), s.tithe.powered = true →
    Completes (.titheTamper k m) s (fun t => t.tithe.tamperCount = s.tithe.tamperCount + 1 ∧
      t.tithe.sealCount = (if k.val = 0 then s.tithe.sealCount + 1 else s.tithe.sealCount) ∧
      t.tithe.tamperLog.head? = some (s.tithe.time, k.val + 1, s.tithe.seq % 2 ^ 32) ∧
      t.tithe.seq = (if k.val = 4 then s.tithe.seq else s.tithe.seq + 1))) ∧
  (∀ s : State, s.tithe.powered = true → s.power.dies = true → s.tithe.snapWords = [] → s.reg (titheReg 0x148) % 2 = 0 →
    Completes .mirrorSnapshot s (fun t => t.reg (titheReg 0x148) = s.reg (titheReg 0x148) + 1 ∧ t.tithe.snapWords ≠ [] ∧ t.tithe.lastWord = s.now)) ∧
  (∀ (s : State) (w : Nat × Nat) (rest : List (Nat × Nat)), s.tithe.powered = true → s.power.dies = true → s.tithe.snapWords = w :: rest →
    Completes .mirrorSnapshot s (fun t => t.tithe.snapWords = rest ∧ t.tithe.lastWord = s.now ∧
      (rest = [] → t.reg (titheReg 0x148) = s.reg (titheReg 0x148) + 1) ∧
      (rest ≠ [] → 0x100 ≤ w.1 → t.reg (titheReg w.1) = w.2))) ∧
  (∀ (s : State) (q : Nat) (b : List Byte) (rest : List (Nat × List Byte)), s.tithe.powered = true → s.power.dies = true → s.tithe.recWords = [] →
    s.tithe.recQueue = (q, b) :: rest →
    Completes .mirrorRecordArrival s (fun t => t.tithe.recQueue = rest ∧ t.tithe.recSeq = q ∧ t.tithe.recWords = recordWords q b ∧ t.regs = s.regs)) ∧
  (∀ (s : State) (w : Nat × Nat), s.tithe.powered = true → s.power.dies = true → s.tithe.recWords = [w] →
    Completes .mirrorRecordArrival s (fun t => t.tithe.recWords = [] ∧ t.reg (titheReg 0x128) = s.tithe.recSeq ∧
      t.reg (titheReg 0x138) = s.now ∧ t.Raised .titheRo 0 0)) ∧
  (∀ s : State, s.alm.running = true → bitOf (s.reg (titheReg 0x100)) 1 = false → s.tithe.lastWord + almMs 100 ≤ s.now →
    Completes .titheMirrorStale s (fun t => bitOf (t.reg (titheReg 0x100)) 1 = true ∧ t.Raised .titheRo 0 3 ∧ t.tithe = s.tithe))

/-- The Tithe's UART (R524): a frame whose CRC is wrong, and one that comes while a response is being sent, changes nothing; each
command gives its answer. -/
def Obligations.TitheAnswers : Prop :=
  (∀ (args : List Byte) (crc : BitVec 16) (s : State),
    (s.uartTakes 1 args crc.toNat = false → exec (.ident args crc) s = .next s) ∧
    (s.uartTakes 2 args crc.toNat = false → exec (.status args crc) s = .next s) ∧
    (s.uartTakes 3 args crc.toNat = false → exec (.readRecord args crc) s = .next s) ∧
    (s.uartTakes 4 args crc.toNat = false → exec (.readNow args crc) s = .next s) ∧
    (s.uartTakes 5 args crc.toNat = false → exec (.jobMark args crc) s = .next s) ∧
    (s.uartTakes 6 args crc.toNat = false → exec (.tamperLog args crc) s = .next s)) ∧
  (∀ (crc : BitVec 16) (s : State), s.uartTakes 1 [] crc.toNat = true →
    Completes (.ident [] crc) s (fun t => t.tithe.out = titheFrame 1 0 (Config.titheCert.take 1024) :: s.tithe.out ∧ t.tithe.seq = s.tithe.seq)) ∧
  (∀ (crc : BitVec 16) (s : State), s.uartTakes 2 [] crc.toNat = true →
    Completes (.status [] crc) s (fun t => t.tithe.out = titheFrame 2 0 (s.titheStatus.flatMap (fun x => leBytes 8 x.2)) :: s.tithe.out)) ∧
  (∀ (args : List Byte) (crc : BitVec 16) (s : State), s.uartTakes 3 args crc.toNat = true → args.length = 8 →
    Completes (.readRecord args crc) s (fun t => t.tithe.out =
      (match s.tithe.records.find? (fun r => r.1 == leNat args) with | some r => titheFrame 3 0 r.2 | none => titheFrame 3 4 []) :: s.tithe.out)) ∧
  (∀ (args : List Byte) (crc : BitVec 16) (s : State), s.uartTakes 4 args crc.toNat = true → args.length = 8 →
    Completes (.readNow args crc) s (fun t => t.tithe.out = titheFrame 4 0 (s.titheRecord 0 0 2 (leNat args)) :: s.tithe.out ∧
      t.tithe.seq = s.tithe.seq)) ∧
  (∀ (args : List Byte) (crc : BitVec 16) (s : State), s.uartTakes 5 args crc.toNat = true → args.length = 16 →
    Completes (.jobMark args crc) s (fun t => t.tithe.seq = s.tithe.seq + 1 ∧ t.tithe.tag = leNat (args.take 8) ∧ t.tithe.energy = 0 ∧
      t.tithe.openAt = s.tithe.time ∧ ∃ r, t.tithe.records.head? = some (s.tithe.seq, r) ∧ t.tithe.out = titheFrame 5 0 r :: s.tithe.out)) ∧
  (∀ (args : List Byte) (crc : BitVec 16) (s : State) (e : Nat × Nat × Nat), s.uartTakes 6 args crc.toNat = true → args.length = 1 → leNat args < 64 →
    s.tithe.tamperLog[leNat args]? = some e →
    Completes (.tamperLog args crc) s (fun t => t.tithe.out =
      titheFrame 6 0 (leBytes 8 e.1 ++ leBytes 4 (e.2.1 % 256) ++ leBytes 4 e.2.2) :: s.tithe.out)) ∧
  (∀ (args : List Byte) (crc : BitVec 16) (s : State), args ≠ [] → s.uartTakes 1 args crc.toNat = true →
    Completes (.ident args crc) s (fun t => t.tithe.out = titheFrame 1 3 [] :: s.tithe.out)) ∧
  (∀ s : State, exec .uartFrameTimeout s = .next s)

/-- Cold bring-up (R528, R529, R534): each stage that ends well leads to the next; 16 equal samples take the straps; a stage that
fails or passes its limit halts with its code; after REEVE the fabric opens. -/
def Obligations.BringUpProceeds : Prop :=
  (∀ (p : BitVec 6) (sl : BitVec 8) (b : BitVec 2) (s : State), s.awake = true → s.steward.halted = false → s.steward.strapsTaken = false →
    s.steward.strapRun = 15 → s.steward.strapLast = (p.toNat, sl.toNat, b.toNat) →
    Completes (.strapSample p sl b) s (fun t => t.steward.strapsTaken = true ∧ t.steward.pwrDomain = p.toNat ∧ t.steward.slotId = sl.toNat ∧
      t.steward.bootSel = b.toNat ∧ t.mem = s.mem)) ∧
  (∀ (p : BitVec 6) (sl : BitVec 8) (b : BitVec 2) (s : State), s.awake = true → s.steward.halted = false → s.steward.strapsTaken = true →
    s.steward.strapLast ≠ (p.toNat, sl.toNat, b.toNat) →
    Completes (.strapSample p sl b) s (fun t => t.steward.slotId = s.steward.slotId ∧ t.steward.pwrDomain = s.steward.pwrDomain ∧
      t.steward.bootSel = s.steward.bootSel ∧ s.Counted t (stewReg 0x1A8) 1 ∧ t.Raised .steward 0 3)) ∧
  (∀ (o : BringUp) (s : State), s.BringsUp →
    Completes (.bringupStageComplete o) s (fun t =>
      (s.steward.stage = 0 → t.steward.stage = 1) ∧
      (s.steward.stage = 1 → s.steward.strapsTaken = true → s.steward.bootSel ≠ 3 → t.steward.stage = 2 ∧ t.steward.causePending = 0) ∧
      (s.steward.stage = 1 → s.steward.strapsTaken = true → s.steward.bootSel = 3 → t.steward.stage = 1 ∧ t.steward.scanHold = true) ∧
      (s.steward.stage = 2 → o.seedOk = true → t.steward.stage = 3) ∧
      (s.steward.stage = 2 → o.seedOk = false → t.steward.halted = true ∧ t.hitch.lastError = 0x0904) ∧
      (s.steward.stage = 3 → ∀ k, s.takeTry.bootSlot = some k → t.steward.stage = 4 ∧ t.steward.booted = k) ∧
      (s.steward.stage = 3 → s.takeTry.bootSlot = none → t.steward.halted = true) ∧
      (s.steward.stage = 4 → s.steward.progress ≠ 100 → o.factoryOk = true → s.steward.vin = true → s.steward.heldOff = false → t.steward.stage = 5) ∧
      (s.steward.stage = 5 → s.steward.vin = true → s.steward.heldOff = false → o.pllsLocked = true →
        t.steward.stage = 6 ∧ t.power.dies = true ∧ t.alm.running = true) ∧
      (s.power.dies = true → 6 ≤ s.steward.stage → s.steward.stage ≤ 0x0A → t.steward.stage = s.steward.stage + 1) ∧
      (s.power.dies = true → s.steward.stage = 0x0B → t.steward.stage = 0x0E ∧ t.steward.fabricOpen = true ∧ t.steward.ready = true))) ∧
  (∀ (l : BitVec 14) (s : State), s.BringsUp → 2 ≤ s.steward.stage → s.steward.stage ≠ 6 → (s.steward.stage = 4 → s.steward.progress ≠ 100) →
    Completes (.stageTimeout l) s (fun t => t.steward.halted = true ∧ t.hitch.lastError = 0x0906 ∧ t.mem = s.mem)) ∧
  (∀ (l : BitVec 14) (s : State), s.BringsUp → s.steward.stage = 6 → s.power.dies = true →
    Completes (.stageTimeout l) s (fun t => t.steward.stage = 7))

/-- Resets (R471, R530 to R533, R556): what causes a cold reset clears the memory and starts bring-up again, with the journal and the
Tithe kept; a warm reset passes its stages and opens the fabric again; a short pulse on RESET_N does nothing. -/
def Obligations.ResetsRun : Prop :=
  (∀ (via : Via) (s : State), Lands via s (stewReg 0x110) 2 →
    Completes (.coldResetRequest via) s (fun t => t.steward.stage = 0 ∧ t.steward.fabricOpen = false ∧ t.mem = [] ∧ t.flights = [] ∧
      t.journal.pending = [] ∧ t.tithe.seq = s.tithe.seq ∧ t.steward.resetsCold = min counterStop (s.steward.resetsCold + 1))) ∧
  (∀ (n : Nat) (s : State), s.steward.vstby = true → 10 ≤ n →
    Completes (.resetN n) s (fun t => t.steward.stage = 0 ∧ t.steward.fabricOpen = false ∧ t.mem = [] ∧ t.flights = [] ∧ t.journal.pending = [] ∧
      t.tithe.energy = s.tithe.energy ∧ t.steward.resetsCold = min counterStop (s.steward.resetsCold + 1))) ∧
  (∀ (n : Nat) (s : State), n < 10 → exec (.resetN n) s = .next s) ∧
  (∀ s : State, s.steward.vin = false → s.steward.vstby = true →
    Completes .mainInputApplied s (fun t => t.steward.vin = true ∧ t.steward.stage = 0 ∧ t.mem = [] ∧ t.flights = [] ∧ t.steward.causePending = 1)) ∧
  (∀ s : State, s.steward.vstby = false →
    Completes .standbyApplied s (fun t => t.steward.vstby = true ∧ t.steward.stage = 0 ∧ t.mem = [] ∧ t.steward.causePending = 2)) ∧
  (∀ (via : Via) (s : State), Lands via s (stewReg 0x110) 1 → s.steward.warm = false → s.steward.ready = true → s.steward.warmPending = none →
    s.power.state < 2 → s.power.goal = none →
    Completes (.warmResetRequest via) s (fun t => t.steward.warm = true ∧ t.steward.stage = 0x20 ∧ t.steward.fabricOpen = false ∧ t.mem = s.mem ∧
      t.journal.pending = [] ∧ ∀ f ∈ t.flights, f.fired = true ∧ f.started = true)) ∧
  (∀ (via : Via) (s : State), Lands via s (stewReg 0x110) 4 →
    Completes (.hitchRetrainRequest via) s (fun t => t.hitch.link = .down ∧ t.hitch.attempts = 0 ∧ t.mem = s.mem ∧ t.flights = s.flights)) ∧
  (∀ s : State, s.steward.warm = true →
    Completes .warmResetStage s (fun t =>
      (s.steward.stage = 0x20 → t.steward.stage = 0x21 ∧ t.hitch.held = []) ∧
      (s.steward.stage = 0x21 → t.steward.stage = 0x22 ∧ t.flights = [] ∧ t.flags = [] ∧ t.furlong = none ∧
        t.windows = s.windows.map (fun _ => ⟨[], [], false, false, false⟩)) ∧
      (s.steward.stage = 0x22 → t.steward.stage = 0x23) ∧
      (s.steward.stage = 0x23 → t.steward.warm = false ∧ t.steward.fabricOpen = true ∧ t.steward.ready = true ∧ t.steward.stage = 0x0E)))

/-- The A/B update (R536, R537): STAGE checks its image and fills the inactive slot, ACTIVATE tries it three times, CONFIRM keeps it and
raises the floor, ABANDON clears the trial.
Quotes, certificates and the journal's flash (R540, R542): a quote reads its nonce and, once done, writes its 512 bytes whole and
raises its counter; a page of up to 64 entries goes to flash. -/
def Obligations.UpdatesAndQuotes : Prop :=
  (∀ (via : Via) (s : State), Lands via s (stewReg 0x138) 1 →
    Completes (.stage via) s (fun t => t.steward.upd = .staging ∧ t.steward.staging = some (s.bytes s.updAddr s.updLen, s.checkImage) ∧ t.mem = s.mem ∧
      (s.checkImage = 0 → (t.slotImg (1 - s.bootRec.active)).valid = false))) ∧
  (∀ (s : State) (b : List Byte), s.steward.upd = .staging → s.steward.staging = some (b, 0) → s.awake = true →
    Completes (.stageComplete true) s (fun t => t.steward.upd = .staged ∧ t.slotImg (1 - s.bootRec.active) = slotOfImage b ∧
      t.steward.stagedSlot = 1 - s.bootRec.active ∧ t.Raised .steward 0 0)) ∧
  (∀ (ok : Bool) (s : State) (b : List Byte) (code : Nat), s.steward.upd = .staging → s.steward.staging = some (b, code) → s.awake = true → code ≠ 0 →
    Completes (.stageComplete ok) s (fun t => t.steward.upd = .failed ∧ t.steward.updOutcome = code ∧ t.Raised .steward 0 0)) ∧
  (∀ (via : Via) (s : State), Lands via s (stewReg 0x138) 2 →
    Completes (.activate via) s (fun t => t.steward.upd = .activated ∧ t.bootRec.trial = some s.steward.stagedSlot ∧ t.bootRec.tries = 3 ∧
      t.bootRec.active = s.bootRec.active ∧ t.bootRec.gen = s.bootRec.gen + 1)) ∧
  (∀ (via : Via) (s : State), Lands via s (stewReg 0x138) 3 →
    Completes (.confirm via) s (fun t => t.bootRec.active = s.steward.booted ∧ t.bootRec.trial = none ∧ t.steward.bootedTrial = false ∧
      t.bootRec.floor = max s.bootRec.floor (s.slotImg s.steward.booted).security)) ∧
  (∀ (via : Via) (s : State), Lands via s (stewReg 0x138) 4 →
    Completes (.abandon via) s (fun t => t.bootRec.trial = none ∧ t.bootRec.active = s.bootRec.active ∧ t.steward.upd = .idle)) ∧
  (∀ (via : Via) (s : State), Lands via s (stewReg 0x150) 1 →
    Completes (.quote via) s (fun t => t.steward.quote = .busy ∧ t.steward.quoteNonce = s.bytes (s.quoteAddr + 16) 64 ∧ t.mem = s.mem)) ∧
  (∀ (via : Via) (s : State), Lands via s (stewReg 0x150) 2 →
    Completes (.certs via) s (fun t => t.mem = (s.store s.certAddr ((Config.certChain s.bootDigest).take 4096)).mem ∧
      t.steward.quote = s.steward.quote)) ∧
  (∀ s : State, s.steward.quote = .busy → s.awake = true → s.populated s.quoteAddr 512 = true →
    Completes .quoteDone s (fun t => t.steward.quote = .done ∧ t.steward.quoteCounter = (s.steward.quoteCounter + 1) % 2 ^ 32 ∧
      t.Raised .steward 0 2 ∧ t.mem = (s.store s.quoteAddr s.quoteBytes).mem)) ∧
  (∀ s : State, s.awake = true → 64 ≤ s.journal.pending.length →
    Completes .journalPageWrite s (fun t => t.journal.pending = s.journal.pending.drop 64 ∧ t.journal.count = s.journal.count ∧
      t.journal.chain = s.journal.chain ∧ t.journal.flash = ((s.journal.pending.take 64).reverse ++ s.journal.flash).take journalFlash))

/-- Management ports and the test port (R545 to R547): a read answers its register once, and a repeat answers again what was answered;
WAKE leads from Winter to Fallow; EXTEST drives the pins only while bring-up holds for boundary scan. -/
def Obligations.ManagementPortsAnswer : Prop :=
  (∀ (seq : BitVec 32) (tag : BitVec 8) (a : BitVec 48) (s : State), s.awake = true → s.steward.mclk = true → s.steward.fabricOpen = true →
    s.steward.mgmtLast.all (fun m => m.1 != seq.toNat) = true → ((s.drawn.bump (stewReg 0x1A0)).regRead a.toNat).code = 0 →
    Completes (.mgmtRequest (datagram 1 tag.toNat 0 seq.toNat a.toNat 0)) s (fun t =>
      t.steward.mgmtOut = datagram 3 tag.toNat 0 seq.toNat a.toNat ((s.drawn.bump (stewReg 0x1A0)).regRead a.toNat).data :: s.steward.mgmtOut ∧
      t.mem = s.mem ∧ t.flights = s.flights)) ∧
  (∀ (seq : BitVec 32) (tag : BitVec 8) (a : BitVec 48) (v : Word) (last : List Byte) (s : State), s.awake = true → s.steward.mclk = true →
    s.steward.mgmtLast = some (seq.toNat, last) →
    exec (.mgmtRequest (datagram 2 tag.toNat 0 seq.toNat a.toNat v.toNat)) s = .next (s.mgmtAnswer last)) ∧
  (∀ (target : BitVec 7) (a : Word) (s : State), s.frameOk target true = true → s.awake = true → s.steward.fabricOpen = true →
    ((s.drawn.bump (stewReg 0x1A0)).regRead a.toNat).code = 0 →
    Completes (.smbusRead target true a) s (fun t =>
      t.steward.mgmtOut = leBytes 8 ((s.drawn.bump (stewReg 0x1A0)).regRead a.toNat).data :: s.steward.mgmtOut ∧ t.mem = s.mem)) ∧
  (∀ (target : BitVec 7) (a v : Word) (s : State), s.frameOk target true = true → Lands .twoWire s a.toNat v.toNat → a.toNat / 8 ≠ stewReg 0x110 / 8 →
    exec (.smbusWrite target true a v) s = .next (Via.twoWire.reply s a.toNat v.toNat).st) ∧
  (∀ (target : BitVec 7) (s : State), s.frameOk target true = true → s.power.state = 4 →
    Completes (.wake target true) s (fun t => t.power.state = 3 ∧ t.steward.stage = 0 ∧ t.mem = [] ∧ t.steward.causePending = 6)) ∧
  (∀ (a v : Word) (s : State), Lands .jtag s a.toNat v.toNat → a.toNat / 8 ≠ stewReg 0x110 / 8 →
    exec (.jtagRegisterAccess true a v) s = .next (Via.jtag.reply s a.toNat v.toNat).st) ∧
  (∀ s : State, s.awake = true →
    Completes .idcode s (fun t => t.steward.mgmtOut =
      leBytes 4 (1 + (0x6B1 <<< 1) + (0xA808 <<< 12) + (s.rf (regAddr .dir 0 0x110) 19 16 <<< 28)) :: s.steward.mgmtOut)) ∧
  (∀ (tdi : List Bool) (s : State), s.awake = true → s.steward.scanHold = true →
    Completes (.extest tdi) s (fun t => t.steward.scanDrive = some (bitsNat tdi) ∧ t.steward.scanReg = bitsNat tdi)) ∧
  (∀ (tdi : List Bool) (s : State), s.awake = true → s.steward.scanHold = false → exec (.extest tdi) s = exec (.bypass tdi) s) ∧
  (∀ (tdi : List Bool) (s : State), s.awake = true →
    Completes (.bypass tdi) s (fun t => t.steward.mgmtOut = bypassed tdi :: s.steward.mgmtOut ∧ t.steward.scanDrive = s.steward.scanDrive)) ∧
  (∀ (tdi : List Bool) (s : State), s.awake = true →
    Completes (.samplePreload tdi) s (fun t => t.steward.scanReg = bitsNat tdi ∧ t.steward.scanDrive = s.steward.scanDrive))

/-- Supplies and clocks (R542, R555, R559): a supply out of range or a lost reference takes the dies down; standby power that fails
closes the journal; the management clock takes its port out of service and back. -/
def Obligations.SuppliesAndClocks : Prop :=
  (∀ s : State, s.steward.vin = true →
    Completes .vinLow s (fun t => t.steward.vin = false ∧ t.power.dies = false ∧ (s.power.dies = true → t.mem = [] ∧ t.steward.fabricOpen = false))) ∧
  (∀ s : State, s.steward.vin = true → s.awake = true →
    Completes .vinHigh s (fun t => t.steward.heldOff = true ∧ t.power.dies = false ∧ (s.power.dies = true → t.mem = []))) ∧
  (∀ s : State, s.steward.vstby = true →
    Completes .vstbyLow s (fun t => t.steward.vstby = false ∧ t.power.dies = false ∧ t.journal.pending = [] ∧ (s.power.dies = true → t.mem = []))) ∧
  (∀ s : State, s.power.dies = true → s.awake = true →
    Completes .refclkLost s (fun t => t.power.dies = false ∧ t.steward.heldOff = true ∧ t.steward.fabricOpen = false ∧ t.mem = [])) ∧
  (∀ s : State, s.steward.mclk = true → s.awake = true →
    Completes .mclkLost s (fun t => t.steward.mclk = false ∧ t.regs = s.regs ∧ t.mem = s.mem)) ∧
  (∀ s : State, Completes .mclkReturn s (fun t => t = { s with steward := { s.steward with mclk := true } }))

/-! ### Frames and stores -/

/-- Where Reeve, the Hedgerow, Furrow, Glean, Harrow and Winnow store: a lost Field's memory (R22); the row of accumulators that
a pass or a Glean row touches (R117, R165, R182, R183, R173); the outputs of READOUT, SAVE_RAW and Harrow (R179, R183, R196, R211);
the Winnow tables and the step report (R223, R232). Every other byte reads as before. -/
def Obligations.ComputeStoresStayWithin : Prop :=
  (∀ (field : Fin 8), Stores (.hedgeFieldLost field) (fun _ => true) (fun _ => fieldBytes field.val)) ∧
  (∀ (place : Fin 9) (core : Fin 8) (held : List Nat), Stores (.reeveCoreEcc place core held) (fun _ => true)
    (fun _ => if place.val < 8 then fieldBytes place.val else [])) ∧
  (∀ (place : Fin 9) (core : Fin 8) (held : List Nat), Stores (.reeveWatchdog place core held) (fun _ => true)
    (fun _ => if place.val < 8 then fieldBytes place.val else [])) ∧
  (∀ (via : Via) (field : Fin 8) (cores : BitVec 8), Stores (.reeveForceFail via field cores) (fun _ => true)
    (fun _ => fieldBytes field.val)) ∧
  (∀ (window : Fin 16), Stores (.descriptorIssue window) (fun _ => true) (fun s => s.winnowBytes)) ∧
  (∀ (id : Nat) (mismatch : Option CheckFault), Stores (.passRowAdd id mismatch)
    (fun s => decide ((passF (s.wordsOf id 1 1)).gleanCol + (passF (s.wordsOf id 1 1)).n ≤ 1024))
    (fun s => s.passRowBytes id ++ s.winnowBytes)) ∧
  (∀ (id : Nat), Stores (.readout id) (fun s => s.gleanParse (s.wordsOf id 2 1) == 0)
    (fun s => readoutOut (gleanF (s.wordsOf id 2 1)) (opF (dword (s.wordsOf id 2 1) 2)) ++ s.winnowBytes)) ∧
  (∀ (id : Nat), Stores (.preload id) (fun s => s.regionFits id 2) (fun s => s.gleanRowBytes id 2 ++ s.winnowBytes)) ∧
  (∀ (id : Nat), Stores (.clear id) (fun s => s.regionFits id 3) (fun s => s.gleanRowBytes id 3)) ∧
  (∀ (id : Nat), Stores (.saveRaw id) (fun _ => true) (fun s => rawRanges (gleanF (s.wordsOf id 2 4)))) ∧
  (∀ (id : Nat), Stores (.loadRaw id) (fun _ => true) (fun s => s.gleanRowBytes id 5)) ∧
  (∀ (id : Nat), Stores (.reduce id)
    (fun s => s.regionFits id 6 && (membersOf (gleanF (s.wordsOf id 2 6))).all (fun f => (List.range 2048).all (fun r =>
      decide (mA (s.gmeta f r) + mN (s.gmeta f r) ≤ 1024))))
    (fun s => (rootsOf (gleanF (s.wordsOf id 2 6))).flatMap (fun f =>
      rowRanges (accAddr f (gleanF (s.wordsOf id 2 6)).row0 0) 12288 (gleanF (s.wordsOf id 2 6)).rows 12288))) ∧
  (∀ (id unit : Nat), Stores (.map id unit) (fun s => s.harrowFits id 1 unit)
    (fun s => harrowOuts (s.wordsOf id 3 1) ++ s.winnowBytes)) ∧
  (∀ (id unit : Nat), Stores (.rowReduce id unit) (fun s => s.harrowFits id 2 unit)
    (fun s => harrowOuts (s.wordsOf id 3 2) ++ s.winnowBytes)) ∧
  (∀ (id unit : Nat), Stores (.softmax id unit) (fun s => s.harrowFits id 3 unit)
    (fun s => harrowOuts (s.wordsOf id 3 3) ++ s.winnowBytes)) ∧
  (∀ (id unit : Nat), Stores (.norm id unit) (fun s => s.harrowFits id 4 unit)
    (fun s => harrowOuts (s.wordsOf id 3 4) ++ s.winnowBytes)) ∧
  (∀ (id unit : Nat), Stores (.optim id unit) (fun s => s.harrowFits id 5 unit)
    (fun s => harrowOuts (s.wordsOf id 3 5) ++ s.winnowBytes)) ∧
  (∀ (id : Nat), Stores (.closeStep id) (fun _ => true) (fun s => s.winnowBytes)) ∧
  (∀ (id : Nat), Stores (.setTags id) (fun _ => true) (fun s => s.winnowBytes)) ∧
  (∀ (id : Nat), Stores (.saveState id) (fun _ => true) (fun s => winnowFootprint (s.wordsOf id 10 3))) ∧
  (∀ (id : Nat), Stores (.loadState id) (fun _ => true) (fun s => s.winnowBytes)) ∧
  (∀ (id : Nat), Stores (.probe id) (fun _ => true) (fun s => s.winnowBytes)) ∧
  (∀ (via : Via) (field : Fin 8) (gate : Bool), Stores (.winnowEnable via field gate) (fun _ => true) (fun s => s.winnowBytes))

/-- Where the ports, Drill, Coulter, Thresher, Swath, the furlong and recovery store: the 64 bytes of a DATAWIN write (R61); the
next row of a COPY (R303, R304); a DECODE's result and a sample's output, nothing outside it (R320, R323, R327); a BATCH's slot,
the crib's granules, a live stream's ring (R346, R353, R356); a collective's result and header (R382, R384); what arrives over
Swath (R429, R480, R488) and what waits in its retransmit buffers (R424); the phase ledger (R469); the copies of COMMIT, STOOK_TAKE and REFILL (R475, R483, R489); the certificates
and the quote of Steward (R539, R540). Every other byte reads as before. -/
def Obligations.SystemStoresStayWithin : Prop :=
  (∀ (seq : BitVec 12) (tag : BitVec 8) (window : Fin 4) (data : Word512), Stores (.dwPortWrite seq tag window data) (fun _ => true)
    (fun s => [(s.dwAddr window.val, 64)])) ∧
  (∀ (id : Nat), Stores (.copy id) (fun _ => true) (fun s => s.copyBytes id)) ∧
  (∀ (id : Nat), Stores (.decode id) (fun _ => true) (fun s => [(decodeResult (s.wordsOf id 5 1), 64)])) ∧
  (∀ (sample : Nat) (unit : SynUnit), Stores (.decodeSyntaxUnit sample unit) (fun s => s.outputFits sample)
    (fun s => s.outputOfSample sample)) ∧
  (∀ (id area : Nat) (granules : List Nat), Stores (.batch id area granules) (fun s => s.batchFits id)
    (fun s => s.slotOfBatch id ++ granules.map (fun g => (s.cribAddr g, granule)) ++ s.winnowBytes)) ∧
  (∀ (id : Nat), Stores (.batchStart id) (fun _ => true)
    (fun s => (s.slotBase s.coulter.batches, statusBytes (batchF (s.wordsOf id 5 3)).count +
      (batchF (s.wordsOf id 5 3)).count * (batchF (s.wordsOf id 5 3)).areaBytes) :: s.winnowBytes)) ∧
  (∀ (id : Nat), Stores (.liveTake id) (fun s => s.batchFits id) (fun s => s.slotOfBatch id ++ s.winnowBytes)) ∧
  (∀ (id : Nat), Stores (.liveWaitExpiry id) (fun s => s.batchFits id) (fun s => s.slotOfBatch id)) ∧
  (∀ (packet : LivePkt), Stores (.livePacket packet) (fun s => s.roiFits packet.stream.val)
    (fun s => [s.ringOfStream packet.stream.val])) ∧
  (∀ (id : Nat), Stores (.allReduce id) (fun s => s.collFits (s.flightOf id 6 1))
    (fun s => s.collBytes (s.flightOf id 6 1) ++ s.winnowBytes)) ∧
  (∀ (id : Nat), Stores (.reduceScatter id) (fun s => s.collFits (s.flightOf id 6 2))
    (fun s => s.collBytes (s.flightOf id 6 2) ++ s.winnowBytes)) ∧
  (∀ (id : Nat), Stores (.thrReduce id) (fun s => s.collFits (s.flightOf id 6 3))
    (fun s => s.collBytes (s.flightOf id 6 3) ++ s.winnowBytes)) ∧
  (∀ (id : Nat), Stores (.broadcast id) (fun s => s.collFits (s.flightOf id 6 0x10)) (fun s => s.collBytes (s.flightOf id 6 0x10))) ∧
  (∀ (id : Nat), Stores (.allGather id) (fun s => s.collFits (s.flightOf id 6 0x11)) (fun s => s.collBytes (s.flightOf id 6 0x11))) ∧
  (∀ (id : Nat), Stores (.allToAll id) (fun s => s.collFits (s.flightOf id 6 0x12)) (fun s => s.collBytes (s.flightOf id 6 0x12))) ∧
  (∀ (channel : Fin 32) (number : Nat) (block : BlockMsg), Stores (.blockReceived channel number block)
    (fun s => s.collFits (s.collFlight channel.val number)) (fun s => s.collBytes (s.collFlight channel.val number))) ∧
  (∀ (id : Nat), Stores (.collectiveComplete id) (fun _ => true) (fun s => s.collBytes (s.flight id) ++ s.winnowBytes)) ∧
  (∀ (id : Nat), Stores (.repairLimitExpiry id) (fun _ => true) (fun s => s.collBytes (s.flight id) ++ s.winnowBytes)) ∧
  (∀ (rx : SwathRx), Stores (.dataReceived rx) (fun _ => true) (fun s => s.arrivalBytes rx)) ∧
  (∀ (rx : SwathRx), Stores (.ackReceived rx) (fun _ => true) (fun _ => retransmitBytes)) ∧
  (∀ (rx : SwathRx), Stores (.probeReplyReceived rx) (fun _ => true) (fun _ => retransmitBytes)) ∧
  (∀ (id : Nat), Stores (.swathWrite id) (fun _ => true) (fun _ => retransmitBytes)) ∧
  (∀ (id : Nat), Stores (.swathRead id) (fun _ => true) (fun _ => retransmitBytes)) ∧
  (∀ (id : Nat), Stores (.buddySend id) (fun _ => true) (fun _ => retransmitBytes)) ∧
  (∀ (via : Via) (endpoint : BitVec 16) (override : Bool), Stores (.pairRequest via endpoint override) (fun _ => true) (fun _ => retransmitBytes)) ∧
  (∀ (endpoint : Nat) (domain : Fin 64) (answer : Fin 3), Stores (.pairingMessage endpoint domain answer) (fun _ => true) (fun _ => retransmitBytes)) ∧
  Stores .stepExpansion (fun _ => true) (fun s => s.winnowBytes) ∧
  (∀ (step : Nat) (pre : Bool) (phase : Nat), Stores (.phaseComplete step pre phase) (fun _ => true) (fun s => s.ledgerBytes)) ∧
  (∀ (step : Nat), Stores (.stepComplete step) (fun _ => true) (fun s => s.ledgerBytes)) ∧
  (∀ (id : Nat), Stores (.commit id) (fun _ => true) (fun s => s.commitBytes id)) ∧
  (∀ (id : Nat), Stores (.stookTake id) (fun _ => true) (fun s => s.stookTakeBytes id)) ∧
  (∀ (id : Nat), Stores (.stookStaged id) (fun _ => true) (fun s => [(s.stagingBase + s.recov.stookBytes - 128, 128)])) ∧
  (∀ (id : Nat), Stores (.refill id) (fun _ => true) (fun s => s.recBytes id 4 (fun p =>
    ((packOffsets 0 (s.fillEnts (recF (s.wordsOf id 0x0D 4)).source))[p.idx]?).elim [] (fun x => [(x.2.copy p.set, x.2.len)])) ++
    (if (recF (s.wordsOf id 0x0D 4)).source = 0 then [] else retransmitBytes))) ∧
  (∀ (via : Via), Stores (.certs via) (fun _ => true) (fun s => [(s.certAddr, 4096)])) ∧
  Stores .quoteDone (fun _ => true) (fun s => [(s.quoteAddr, 512)])

/-- The frames of Hitch, Reeve, the Hedgerow, Furrow, Glean, Harrow and Winnow: what each command leaves as it was. Each changes only the parts of the state named with it, and registers on pages of the kinds in its list only.
Everything else stays as it was. -/
def Obligations.FramesOfHitchToWinnow : Prop :=
  (∀ (lanesOk : BitVec 8), Frame (.hitchTrainingStep lanesOk) (fun s t => { s with regs := t.regs, hitch := t.hitch, setNow := t.setNow }) [.hitch]) ∧
  Frame .hitchTrainingTimeout (fun s t => { s with hitch := t.hitch }) [] ∧
  (∀ (header : BitVec 64) (payload : Word512), Frame (.linkCtrlReceived header payload) (fun s t => { s with regs := t.regs, hitch := t.hitch }) [.hitch]) ∧
  Frame .fecCodewordUncorrectable (fun s t => { s with hitch := t.hitch }) [] ∧
  Frame .replayRequestRepeat (fun s t => { s with hitch := t.hitch }) [] ∧
  Frame .statusWordSend (fun s t => { s with hitch := t.hitch }) [] ∧
  Frame .hitchReplayLimit (fun s t => { s with hitch := t.hitch }) [] ∧
  (∀ (n : Fin 4), Frame (.eventRecordSend n) (fun s t => { s with hitch := t.hitch }) []) ∧
  (∀ (wait : Nat), Frame (.hostWaitLate wait) (fun s t => { s with regs := t.regs, hitch := t.hitch, hostWaits := t.hostWaits, setNow := t.setNow }) [.hitch, .cmdwin]) ∧
  (∀ (via : Via), Frame (.jobPause via) (fun s t => s.withWrite t) [.hitch, .steward, .journal]) ∧
  (∀ (via : Via), Frame (.jobResume via) (fun s t => s.withWrite t) [.hitch, .steward, .journal]) ∧
  (∀ (seq : BitVec 12) (tag : BitVec 8) (window : Fin 4) (data : Word512), Frame (.dwPortWrite seq tag window data) (fun s t => { s.withStore t with hitch := t.hitch, kept := t.kept, power := t.power, setNow := t.setNow }) [.hitch, .datawin, .granary, .granaryCache]) ∧
  (∀ (seq : BitVec 12) (tag : BitVec 8) (window : Fin 4), Frame (.dwPortRead seq tag window) (fun s t => { s with regs := t.regs, hitch := t.hitch, kept := t.kept, power := t.power, setNow := t.setNow }) [.hitch, .datawin, .granaryCache]) ∧
  (∀ (seq : BitVec 12) (tag : BitVec 8) (window : Fin 16) (data : Word512), Frame (.cmdPortWrite seq tag window data) (fun s t => { s with regs := t.regs, hitch := t.hitch, windows := t.windows, setNow := t.setNow }) [.hitch, .cmdwin]) ∧
  (∀ (via : Via) (window : Fin 16), Frame (.resumeWrites via window) (fun s t => { s.withWrite t with windows := t.windows }) [.hitch, .steward, .journal, .cmdwin]) ∧
  (∀ (via : Via) (window : Fin 16), Frame (.resumeIssue via window) (fun s t => { s.withWrite t with windows := t.windows }) [.hitch, .steward, .journal, .cmdwin]) ∧
  (∀ (window : Fin 16), Frame (.descriptorParse window) (fun s t => { s with regs := t.regs, hitch := t.hitch, windows := t.windows, setNow := t.setNow }) [.hitch, .cmdwin, .reeve]) ∧
  (∀ (window : Fin 16), Frame (.descriptorIssue window) (fun s t => { (s.withEnd t).withStore t with windows := t.windows, nextId := t.nextId, engines := t.engines, thr := t.thr, power := t.power, winnow := t.winnow, passIds := t.passIds }) [.hitch, .cmdwin, .recovery, .harrow, .granary, .reeve]) ∧
  (∀ (id : Nat), Frame (.nop id) (fun s t => s.withEnd t) [.hitch, .cmdwin]) ∧
  (∀ (id : Nat), Frame (.signal id) (fun s t => s.withEnd t) [.hitch, .cmdwin]) ∧
  (∀ (place : Fin 9) (core : Fin 8) (held : List Nat), Frame (.reeveCoreEcc place core held) (fun s t => { (s.withEnd t).withStore t with windows := t.windows, fields := t.fields, steadFailed := t.steadFailed, bankMoves := t.bankMoves, plots := t.plots, kept := t.kept, arrays := t.arrays, engines := t.engines, gleanMeta := t.gleanMeta, coulter := t.coulter, thr := t.thr, swath := t.swath }) [.hitch, .cmdwin, .thresher, .thrCh, .recovery, .field, .glean, .harrow, .reeve]) ∧
  (∀ (place : Fin 9) (core : Fin 8) (held : List Nat), Frame (.reeveWatchdog place core held) (fun s t => { (s.withEnd t).withStore t with windows := t.windows, fields := t.fields, steadFailed := t.steadFailed, bankMoves := t.bankMoves, plots := t.plots, kept := t.kept, arrays := t.arrays, engines := t.engines, gleanMeta := t.gleanMeta, coulter := t.coulter, thr := t.thr, swath := t.swath }) [.hitch, .cmdwin, .thresher, .thrCh, .recovery, .field, .glean, .harrow, .reeve]) ∧
  (∀ (via : Via) (field : Fin 8) (cores : BitVec 8), Frame (.reeveForceFail via field cores) (fun s t => { s.withWrite t with mem := t.mem, poison := t.poison, windows := t.windows, flights := t.flights, flags := t.flags, furlong := t.furlong, fields := t.fields, steadFailed := t.steadFailed, bankMoves := t.bankMoves, plots := t.plots, written := t.written, kept := t.kept, arrays := t.arrays, engines := t.engines, gleanMeta := t.gleanMeta, coulter := t.coulter, thr := t.thr, swath := t.swath, flagsNow := t.flagsNow }) [.hitch, .steward, .journal, .cmdwin, .thresher, .thrCh, .recovery, .field, .glean, .harrow, .reeve]) ∧
  (∀ (link : Fin 14), Frame (.hedgeFlitCrcFail link) (fun s t => { s with regs := t.regs }) [.field]) ∧
  (∀ (link : Fin 6), Frame (.hedgeRerouted link) (fun s t => { s with regs := t.regs, hitch := t.hitch, fields := t.fields, setNow := t.setNow }) [.hitch, .field]) ∧
  (∀ (field : Fin 8), Frame (.hedgeFieldLost field) (fun s t => { (s.withEnd t).withStore t with windows := t.windows, fields := t.fields, bankMoves := t.bankMoves, plots := t.plots, kept := t.kept, arrays := t.arrays, engines := t.engines, gleanMeta := t.gleanMeta, coulter := t.coulter, thr := t.thr, swath := t.swath }) [.hitch, .cmdwin, .thresher, .thrCh, .recovery, .field, .glean, .harrow]) ∧
  (∀ (id : Nat), Frame (.pass id) (fun s t => { s with flights := t.flights, arrays := t.arrays }) []) ∧
  (∀ (id : Nat), Frame (.passShadowLoadStart id) (fun s t => { s with flights := t.flights }) []) ∧
  (∀ (id : Nat), Frame (.passShadowLoadDone id) (fun s t => { s with flights := t.flights }) []) ∧
  (∀ (id stalls : Nat), Frame (.passSwap id stalls) (fun s t => { s with regs := t.regs, flights := t.flights, arrays := t.arrays }) [.furrow]) ∧
  (∀ (id stalls : Nat), Frame (.passRowEnter id stalls) (fun s t => { s with regs := t.regs, flights := t.flights, arrays := t.arrays }) [.furrow]) ∧
  (∀ (id : Nat) (mismatch : Option CheckFault), Frame (.passRowAdd id mismatch) (fun s t => { s with regs := t.regs, mem := t.mem, poison := t.poison, flights := t.flights, arrays := t.arrays, gleanMeta := t.gleanMeta, winnow := t.winnow }) [.furrow, .glean, .winnow]) ∧
  (∀ (id : Nat), Frame (.passComplete id) (fun s t => { s.withEnd t with arrays := t.arrays }) [.hitch, .cmdwin]) ∧
  (∀ (field : Fin 8), Frame (.arrayFail field) (fun s t => { s with regs := t.regs, hitch := t.hitch, flights := t.flights, arrays := t.arrays, setNow := t.setNow }) [.hitch, .recovery, .furrow]) ∧
  (∀ (via : Via) (field : Fin 8) (value : Word), Frame (.arrayForceFail via field value) (fun s t => { s.withWrite t with flights := t.flights, arrays := t.arrays }) [.hitch, .steward, .journal, .recovery, .furrow]) ∧
  (∀ (field : Fin 8), Frame (.helperReissue field) (fun s t => { s with regs := t.regs, hitch := t.hitch, flights := t.flights, arrays := t.arrays, setNow := t.setNow }) [.hitch, .furrow]) ∧
  (∀ (id : Nat), Frame (.readout id) (fun s t => { s.withStore t with flights := t.flights, winnow := t.winnow, freeCtr := t.freeCtr }) [.glean, .granary, .winnow]) ∧
  (∀ (id : Nat), Frame (.preload id) (fun s t => { s with regs := t.regs, mem := t.mem, poison := t.poison, flights := t.flights, gleanMeta := t.gleanMeta, winnow := t.winnow }) [.glean, .winnow]) ∧
  (∀ (id : Nat), Frame (.clear id) (fun s t => { s with regs := t.regs, mem := t.mem, poison := t.poison, flights := t.flights, gleanMeta := t.gleanMeta }) [.glean]) ∧
  (∀ (id : Nat), Frame (.saveRaw id) (fun s t => { s.withStore t with flights := t.flights }) [.glean, .granary]) ∧
  (∀ (id : Nat), Frame (.loadRaw id) (fun s t => { s with regs := t.regs, mem := t.mem, hitch := t.hitch, windows := t.windows, flights := t.flights, furlong := t.furlong, gleanMeta := t.gleanMeta, setNow := t.setNow }) [.hitch, .cmdwin, .glean]) ∧
  (∀ (id : Nat), Frame (.reduce id) (fun s t => { s with regs := t.regs, mem := t.mem, poison := t.poison, hitch := t.hitch, windows := t.windows, flights := t.flights, furlong := t.furlong, gleanMeta := t.gleanMeta, setNow := t.setNow }) [.hitch, .cmdwin, .glean]) ∧
  (∀ (field : Fin 8) (row : Fin 2048) (col : Fin 1024) (access : BitVec 8) (workId : BitVec 32) (corrected : Bool), Frame (.gleanEcc field row col access workId corrected) (fun s t => { s with regs := t.regs, hitch := t.hitch, gleanMeta := t.gleanMeta, setNow := t.setNow }) [.hitch, .glean]) ∧
  (∀ (id unit : Nat), Frame (.map id unit) (fun s t => { s.withStore t with flights := t.flights, winnow := t.winnow }) [.glean, .harrow, .granary, .winnow]) ∧
  (∀ (id unit : Nat), Frame (.rowReduce id unit) (fun s t => { s.withStore t with flights := t.flights, winnow := t.winnow }) [.glean, .harrow, .granary, .winnow]) ∧
  (∀ (id unit : Nat), Frame (.softmax id unit) (fun s t => { s.withStore t with flights := t.flights, winnow := t.winnow }) [.glean, .harrow, .granary, .winnow]) ∧
  (∀ (id unit : Nat), Frame (.norm id unit) (fun s t => { s.withStore t with flights := t.flights, winnow := t.winnow }) [.glean, .harrow, .granary, .winnow]) ∧
  (∀ (id unit : Nat), Frame (.optim id unit) (fun s t => { s.withStore t with flights := t.flights, winnow := t.winnow }) [.glean, .harrow, .granary, .winnow]) ∧
  (∀ (engine thread : Fin 16) (starved : Nat), Frame (.harrowUnitDeal engine thread starved) (fun s t => { s with regs := t.regs, flights := t.flights }) [.harrow]) ∧
  (∀ (engine thread : Fin 16) (check : Fin 4), Frame (.harrowEngineFail engine thread check) (fun s t => { s with regs := t.regs, hitch := t.hitch, flights := t.flights, engines := t.engines, setNow := t.setNow }) [.hitch, .recovery, .harrow]) ∧
  (∀ (via : Via) (engine : Fin 16) (value : Word), Frame (.harrowForceFail via engine value) (fun s t => { s.withWrite t with flights := t.flights, engines := t.engines }) [.hitch, .steward, .journal, .recovery, .harrow]) ∧
  (∀ (id : Nat), Frame (.closeStep id) (fun s t => { (s.withEnd t).withStore t with windows := t.windows, winnow := t.winnow }) [.hitch, .cmdwin, .granary, .winnow]) ∧
  (∀ (id : Nat), Frame (.setTags id) (fun s t => { (s.withEnd t).withStore t with windows := t.windows }) [.hitch, .cmdwin, .granary]) ∧
  (∀ (id : Nat), Frame (.saveState id) (fun s t => (s.withEnd t).withStore t) [.hitch, .cmdwin, .granary]) ∧
  (∀ (id : Nat), Frame (.loadState id) (fun s t => { (s.withEnd t).withStore t with windows := t.windows, winnow := t.winnow }) [.hitch, .cmdwin, .granary]) ∧
  (∀ (id : Nat), Frame (.probe id) (fun s t => (s.withEnd t).withStore t) [.hitch, .cmdwin, .granary]) ∧
  (∀ (via : Via) (field : Fin 8) (gate : Bool), Frame (.winnowEnable via field gate) (fun s t => { s.withWrite t with mem := t.mem, poison := t.poison, written := t.written, winnow := t.winnow }) [.hitch, .steward, .journal, .granary, .winnow]) ∧
  (∀ (via : Via) (field : Fin 8) (value : Word), Frame (.wnConfigWrite via field value) (fun s t => s.withWrite t) [.hitch, .steward, .journal, .winnow]) ∧
  (∀ (via : Via) (field : Fin 8) (value : Word), Frame (.wnSilentMaskWrite via field value) (fun s t => { s.withWrite t with winnow := t.winnow }) [.hitch, .steward, .journal, .winnow])

/-- The frames of Tilth, the Granary, Drill, Coulter and the sample pipeline. Each changes only the parts of the state named with it, and registers on pages of the kinds in its list only.
Everything else stays as it was. -/
def Obligations.FramesOfTilthToSamples : Prop :=
  (∀ (via : Via) (field : Fin 8) (value : Word), Frame (.tilthLayoutWrite via field value) (fun s t => s.withWrite t) [.hitch, .steward, .journal, .tilth]) ∧
  (∀ (via : Via) (field : Fin 8) (set : Fin 3) (value : Word), Frame (.tilthBankStateWrite via field set value) (fun s t => { s.withWrite t with bankMoves := t.bankMoves }) [.hitch, .steward, .journal, .tilth]) ∧
  (∀ (field : Fin 8) (bank : Fin 96), Frame (.bankTransitionStart field bank) (fun s t => { s with regs := t.regs, bankMoves := t.bankMoves, plots := t.plots }) [.tilthTest]) ∧
  (∀ (field : Fin 8) (bank : Fin 96), Frame (.bankTransitionDone field bank) (fun s t => { s with mem := t.mem, poison := t.poison, bankMoves := t.bankMoves }) []) ∧
  (∀ (addr : Addr) (requester : Fin 8) (workId : BitVec 32), Frame (.tilthEccUncorrectable addr requester workId) (fun s t => { s with regs := t.regs, poison := t.poison, hitch := t.hitch, setNow := t.setNow }) [.hitch, .tilth]) ∧
  (∀ (addr : Addr), Frame (.tilthEccWriteback addr) (fun s t => { s with regs := t.regs }) [.tilth]) ∧
  (∀ (field : Fin 8) (bank : Fin 96), Frame (.plotTestStart field bank) (fun s t => { s with plots := t.plots }) []) ∧
  (∀ (field : Fin 8) (bank : Fin 96) (passed flashOk : Bool), Frame (.plotTestEnd field bank passed flashOk) (fun s t => { s with regs := t.regs, hitch := t.hitch, plots := t.plots, setNow := t.setNow }) [.hitch, .tilthTest]) ∧
  (∀ (field : Fin 8) (bank : Fin 96), Frame (.plotTestSteal field bank) (fun s t => { s with regs := t.regs }) [.tilthTest]) ∧
  (∀ (via : Via) (field : Fin 8) (value : Word), Frame (.ttControlWrite via field value) (fun s t => { s.withWrite t with plots := t.plots }) [.hitch, .steward, .journal, .tilthTest]) ∧
  (∀ (id : Nat), Frame (.fill id) (fun s t => { s.withEnd t with kept := t.kept }) [.hitch, .cmdwin, .granaryCache]) ∧
  (∀ (id : Nat), Frame (.demote id) (fun s t => { s.withEnd t with kept := t.kept }) [.hitch, .cmdwin]) ∧
  (∀ (addr : Addr) (cls : Fin 5) (workId : BitVec 32), Frame (.granaryEcc addr cls workId) (fun s t => { s with regs := t.regs, poison := t.poison, hitch := t.hitch, flights := t.flights, stackList := t.stackList, kept := t.kept, coulter := t.coulter, setNow := t.setNow }) [.hitch, .recovery, .granary]) ∧
  (∀ (addr : Addr) (outcome : Fin 3), Frame (.granaryScrub addr outcome) (fun s t => { s with regs := t.regs, poison := t.poison, hitch := t.hitch, flights := t.flights, stackList := t.stackList, kept := t.kept, coulter := t.coulter, setNow := t.setNow }) [.hitch, .recovery, .granary]) ∧
  (∀ (stack : Fin 24) (pc : Fin 32), Frame (.granaryRefresh stack pc) (fun s _ => s) []) ∧
  (∀ (stack : Fin 24) (celsius : Int), Frame (.granaryTempRead stack celsius) (fun s t => { s with regs := t.regs, hitch := t.hitch, stackList := t.stackList, setNow := t.setNow }) [.hitch, .recovery, .granary]) ∧
  (∀ (stack : Fin 24) (pc : Fin 32) (laneRepaired : Bool), Frame (.granaryRetrain stack pc laneRepaired) (fun s t => { s with regs := t.regs, hitch := t.hitch, stackList := t.stackList, setNow := t.setNow }) [.hitch, .recovery, .granary]) ∧
  (∀ (stack : Fin 24), Frame (.freshBlockZero stack) (fun s t => { s with written := t.written }) []) ∧
  (∀ (stack : Fin 24) (cause : Fin 3), Frame (.granaryStackFail stack cause) (fun s t => { s with regs := t.regs, hitch := t.hitch, flights := t.flights, stackList := t.stackList, kept := t.kept, coulter := t.coulter, setNow := t.setNow }) [.hitch, .recovery, .granary]) ∧
  (∀ (via : Via) (stack : Fin 24) (value : Word), Frame (.granaryForceFail via stack value) (fun s t => { s.withWrite t with flights := t.flights, stackList := t.stackList, kept := t.kept, coulter := t.coulter }) [.hitch, .steward, .journal, .recovery, .granary]) ∧
  (∀ (id : Nat), Frame (.copy id) (fun s t => { s.withStore t with flights := t.flights, kept := t.kept }) [.granary, .granaryCache, .drill]) ∧
  (∀ (id : Nat), Frame (.ringSetup id) (fun s t => { s.withEnd t with windows := t.windows, rings := t.rings }) [.hitch, .cmdwin, .drill]) ∧
  (∀ (id : Nat), Frame (.ringCredit id) (fun s t => { s.withEnd t with windows := t.windows, rings := t.rings }) [.hitch, .cmdwin, .drill]) ∧
  (∀ (id : Nat) (field : Fin 8), Frame (.drillCancel id field) (fun s t => { s with regs := t.regs, flights := t.flights, arrays := t.arrays }) [.drill]) ∧
  (∀ (id gateWait creditWait limitWait : Nat), Frame (.drillStart id gateWait creditWait limitWait) (fun s t => { s with regs := t.regs, hitch := t.hitch, windows := t.windows, flights := t.flights, furlong := t.furlong, rings := t.rings, setNow := t.setNow }) [.hitch, .cmdwin, .drill]) ∧
  (∀ (id discarded : Nat), Frame (.drillComplete id discarded) (fun s t => { s.withEnd t with rings := t.rings }) [.hitch, .cmdwin, .drill]) ∧
  (∀ (id : Nat), Frame (.headlandGateOpen id) (fun s t => { s with flights := t.flights }) []) ∧
  (∀ (id : Nat), Frame (.decode id) (fun s t => { (s.withEnd t).withStore t with kept := t.kept, coulter := t.coulter }) [.hitch, .cmdwin, .coulter, .granary, .granaryCache]) ∧
  (∀ (id : Nat), Frame (.coulterCancel id) (fun s t => { s.withEnd t with coulter := t.coulter }) [.hitch, .cmdwin, .coulter]) ∧
  (∀ (sample : Nat) (hdr : HdrInfo), Frame (.sampleStart sample hdr) (fun s t => { s with regs := t.regs, hitch := t.hitch, coulter := t.coulter, settled := t.settled, setNow := t.setNow }) [.hitch, .coulter, .coulterDec]) ∧
  (∀ (sample : Nat) (granules : List Nat), Frame (.arenaAllocate sample granules) (fun s t => { s with coulter := t.coulter }) []) ∧
  (∀ (sample : Nat) (unit : SynUnit), Frame (.decodeSyntaxUnit sample unit) (fun s t => { s.withStore t with hitch := t.hitch, flights := t.flights, kept := t.kept, coulter := t.coulter, setNow := t.setNow }) [.hitch, .coulter, .coulterDec, .granary, .granaryCache]) ∧
  (∀ (core : Fin 16), Frame (.decCoreHung core) (fun s t => { s with regs := t.regs, hitch := t.hitch, coulter := t.coulter, setNow := t.setNow }) [.hitch, .coulter, .coulterDec, .recovery]) ∧
  (∀ (core : Fin 16), Frame (.decCoreEcc core) (fun s t => { s with regs := t.regs, hitch := t.hitch, coulter := t.coulter, setNow := t.setNow }) [.hitch, .coulter, .coulterDec, .recovery]) ∧
  (∀ (via : Via) (core : Fin 16) (value : Word), Frame (.decCoreForceFail via core value) (fun s t => { s.withWrite t with coulter := t.coulter }) [.hitch, .steward, .journal, .coulter, .coulterDec, .recovery]) ∧
  (∀ (id area : Nat) (granules : List Nat), Frame (.batch id area granules) (fun s t => { (s.withEnd t).withStore t with kept := t.kept, coulter := t.coulter, winnow := t.winnow }) [.hitch, .cmdwin, .sample, .granary, .granaryCache, .winnow]) ∧
  (∀ (id : Nat), Frame (.batchStart id) (fun s t => { (s.withEnd t).withStore t with kept := t.kept, coulter := t.coulter, winnow := t.winnow }) [.hitch, .cmdwin, .coulter, .sample, .live, .granary, .granaryCache, .winnow]) ∧
  (∀ (id : Nat), Frame (.batchSeal id) (fun s t => { s.withEnd t with coulter := t.coulter }) [.hitch, .cmdwin, .sample]) ∧
  (∀ (id : Nat), Frame (.windrowRelease id) (fun s t => { s.withEnd t with coulter := t.coulter }) [.hitch, .cmdwin, .sample]) ∧
  (∀ (via : Via), Frame (.cribFlush via) (fun s t => { s.withWrite t with coulter := t.coulter }) [.hitch, .steward, .journal, .sample]) ∧
  (∀ (via : Via) (stream : Fin 8) (value : Word), Frame (.liveStreamEnable via stream value) (fun s t => { s.withWrite t with coulter := t.coulter }) [.hitch, .steward, .journal, .live]) ∧
  (∀ (packet : LivePkt), Frame (.livePacket packet) (fun s t => { s.withStore t with hitch := t.hitch, kept := t.kept, coulter := t.coulter, setNow := t.setNow }) [.hitch, .live, .granary, .granaryCache]) ∧
  (∀ (id : Nat), Frame (.liveTake id) (fun s t => { (s.withEnd t).withStore t with kept := t.kept, coulter := t.coulter, winnow := t.winnow }) [.hitch, .cmdwin, .sample, .live, .granary, .granaryCache, .winnow]) ∧
  (∀ (id : Nat), Frame (.liveWaitExpiry id) (fun s t => { s.withStore t with hitch := t.hitch, flights := t.flights, kept := t.kept, setNow := t.setNow }) [.hitch, .sample, .granary, .granaryCache]) ∧
  (∀ (stream : Fin 8), Frame (.liveStreamLost stream) (fun s t => { s with regs := t.regs, hitch := t.hitch, coulter := t.coulter, setNow := t.setNow }) [.hitch, .live])

/-- The frames of Thresher, Swath, the Almanac, the furlong and recovery. Each changes only the parts of the state named with it, and registers on pages of the kinds in its list only.
Everything else stays as it was. -/
def Obligations.FramesOfThresherToRecovery : Prop :=
  (∀ (id : Nat), Frame (.allReduce id) (fun s t => { s.withStore t with hitch := t.hitch, flights := t.flights, kept := t.kept, thr := t.thr, winnow := t.winnow, setNow := t.setNow }) [.hitch, .thresher, .thrCh, .granary, .granaryCache, .winnow]) ∧
  (∀ (id : Nat), Frame (.reduceScatter id) (fun s t => { s.withStore t with hitch := t.hitch, flights := t.flights, kept := t.kept, thr := t.thr, winnow := t.winnow, setNow := t.setNow }) [.hitch, .thresher, .thrCh, .granary, .granaryCache, .winnow]) ∧
  (∀ (id : Nat), Frame (.thrReduce id) (fun s t => { s.withStore t with hitch := t.hitch, flights := t.flights, kept := t.kept, thr := t.thr, winnow := t.winnow, setNow := t.setNow }) [.hitch, .thresher, .thrCh, .granary, .granaryCache, .winnow]) ∧
  (∀ (id : Nat) (maxima : List (Nat × Int)), Frame (.verdict id maxima) (fun s t => { s with flights := t.flights }) []) ∧
  (∀ (id : Nat), Frame (.thresherCancel id) (fun s t => { s.withEnd t with thr := t.thr }) [.hitch, .cmdwin, .thresher, .thrCh]) ∧
  (∀ (id : Nat), Frame (.broadcast id) (fun s t => { s.withStore t with hitch := t.hitch, flights := t.flights, kept := t.kept, thr := t.thr, setNow := t.setNow }) [.hitch, .thresher, .thrCh, .granary, .granaryCache]) ∧
  (∀ (id : Nat), Frame (.allGather id) (fun s t => { s.withStore t with hitch := t.hitch, flights := t.flights, kept := t.kept, thr := t.thr, setNow := t.setNow }) [.hitch, .thresher, .thrCh, .granary, .granaryCache]) ∧
  (∀ (id : Nat), Frame (.allToAll id) (fun s t => { s.withStore t with hitch := t.hitch, flights := t.flights, kept := t.kept, thr := t.thr, setNow := t.setNow }) [.hitch, .thresher, .thrCh, .granary, .granaryCache]) ∧
  (∀ (id : Nat), Frame (.collectiveStart id) (fun s t => { s with regs := t.regs, hitch := t.hitch, flights := t.flights, thr := t.thr, setNow := t.setNow }) [.hitch, .thrCh]) ∧
  (∀ (channel : Fin 32) (number : Nat) (token : TokenMsg), Frame (.readyToken channel number token) (fun s t => { s with regs := t.regs, hitch := t.hitch, thr := t.thr, setNow := t.setNow }) [.hitch, .thrCh]) ∧
  (∀ (channel : Fin 32) (number : Nat), Frame (.deadlineExpiry channel number) (fun s t => { s with thr := t.thr }) []) ∧
  (∀ (channel : Fin 32) (number : Nat), Frame (.sealMade channel number) (fun s t => { s with regs := t.regs, hitch := t.hitch, flights := t.flights, thr := t.thr, setNow := t.setNow }) [.hitch, .thrCh]) ∧
  (∀ (channel : Fin 32) (number : Nat) (record : SealRec), Frame (.sealReceived channel number record) (fun s t => { s with regs := t.regs, hitch := t.hitch, flights := t.flights, setNow := t.setNow }) [.hitch, .thrCh]) ∧
  (∀ (channel : Fin 32) (number position : Nat), Frame (.sealResendRequest channel number position) (fun s t => { s with thr := t.thr }) []) ∧
  (∀ (id : Nat), Frame (.thrNoSeal id) (fun s t => { s with flights := t.flights }) []) ∧
  (∀ (channel : Fin 32) (number : Nat) (block : BlockMsg), Frame (.blockReceived channel number block) (fun s t => { s.withStore t with hitch := t.hitch, flights := t.flights, kept := t.kept, thr := t.thr, setNow := t.setNow }) [.hitch, .thresher, .thrCh, .recovery, .granary, .granaryCache]) ∧
  (∀ (channel : Fin 32) (number tree child bytes : Nat), Frame (.segmentAck channel number tree child bytes) (fun s t => { s with flights := t.flights }) []) ∧
  (∀ (channel : Fin 32) (number : Nat) (undelivered : List Nat), Frame (.dataLimitExpiry channel number undelivered) (fun s t => { s with thr := t.thr }) []) ∧
  (∀ (channel : Fin 32) (number reporter peer : Nat), Frame (.peerReport channel number reporter peer) (fun s t => { s with thr := t.thr }) []) ∧
  (∀ (channel : Fin 32) (number : Nat), Frame (.reportDecision channel number) (fun s t => { s with thr := t.thr }) []) ∧
  (∀ (channel : Fin 32) (number tree child : Nat) (offsets : List Nat), Frame (.childDetach channel number tree child offsets) (fun s t => { s with regs := t.regs, flights := t.flights, thr := t.thr }) [.thresher]) ∧
  (∀ (channel : Fin 32) (number tree other : Nat) (ask : RepairAsk), Frame (.repairRequest channel number tree other ask) (fun s t => { s with regs := t.regs, flights := t.flights, thr := t.thr }) [.thresher]) ∧
  (∀ (id : Nat), Frame (.collectiveComplete id) (fun s t => { (s.withEnd t).withStore t with kept := t.kept, thr := t.thr, verdicts := t.verdicts }) [.hitch, .cmdwin, .thresher, .thrCh, .granary, .granaryCache]) ∧
  (∀ (id : Nat), Frame (.repairLimitExpiry id) (fun s t => { (s.withEnd t).withStore t with kept := t.kept, thr := t.thr, verdicts := t.verdicts }) [.hitch, .cmdwin, .thresher, .thrCh, .granary, .granaryCache]) ∧
  (∀ (port lane : Fin 8), Frame (.swathLinkDown port lane) (fun s t => { s with regs := t.regs, hitch := t.hitch, flights := t.flights, thr := t.thr, swath := t.swath, setNow := t.setNow }) [.hitch, .swath, .swathPort, .transport, .ptp, .recovery]) ∧
  (∀ (link : Fin 64) (trained : Bool), Frame (.swathLinkRetrain link trained) (fun s t => { s with regs := t.regs, hitch := t.hitch, swath := t.swath, setNow := t.setNow }) [.hitch, .recovery]) ∧
  (∀ (port : Fin 8), Frame (.laserLow port) (fun s t => { s with regs := t.regs, hitch := t.hitch, flights := t.flights, thr := t.thr, swath := t.swath, setNow := t.setNow }) [.hitch, .swath, .swathPort, .transport, .ptp, .recovery]) ∧
  (∀ (port : Fin 8), Frame (.laserRestored port) (fun s t => { s with swath := t.swath }) []) ∧
  (∀ (port : Fin 8) (priorities : BitVec 8), Frame (.pfcPause port priorities) (fun s t => { s with regs := t.regs, swath := t.swath }) [.swathPort]) ∧
  (∀ (rx : SwathRx), Frame (.dataReceived rx) (fun s t => { s.withStore t with flights := t.flights, kept := t.kept, swath := t.swath, recov := t.recov }) [.swath, .transport, .recovery, .granary, .granaryCache]) ∧
  (∀ (rx : SwathRx), Frame (.ackReceived rx) (fun s t => { s with regs := t.regs, mem := t.mem, swath := t.swath }) [.swath, .transport]) ∧
  (∀ (rx : SwathRx) (msg : BitVec 32), Frame (.nackReceived rx msg) (fun s t => { s.withEnd t with swath := t.swath }) [.hitch, .cmdwin, .swath, .transport]) ∧
  (∀ (endpoint : Nat), Frame (.ackTimer endpoint) (fun s t => { s with swath := t.swath }) []) ∧
  (∀ (endpoint : Nat) (seq : BitVec 32), Frame (.rtoExpiry endpoint seq) (fun s t => { s with regs := t.regs, swath := t.swath }) [.transport]) ∧
  (∀ (rx : SwathRx), Frame (.probeReceived rx) (fun s t => { s.withEnd t with thr := t.thr, swath := t.swath }) [.hitch, .cmdwin, .swath, .transport]) ∧
  (∀ (rx : SwathRx), Frame (.probeReplyReceived rx) (fun s t => { s.withEnd t with mem := t.mem, thr := t.thr, swath := t.swath }) [.hitch, .cmdwin, .swath, .transport]) ∧
  (∀ (endpoint : Nat), Frame (.probeTimer endpoint) (fun s t => { s with swath := t.swath }) []) ∧
  (∀ (endpoint : Nat), Frame (.peerUnreachable endpoint) (fun s t => { s with regs := t.regs, hitch := t.hitch, flights := t.flights, thr := t.thr, swath := t.swath, setNow := t.setNow }) [.hitch, .transport]) ∧
  (∀ (id : Nat), Frame (.swathWrite id) (fun s t => { s.withEnd t with mem := t.mem, kept := t.kept, swath := t.swath }) [.hitch, .cmdwin, .granaryCache]) ∧
  (∀ (id : Nat), Frame (.swathRead id) (fun s t => { s.withEnd t with mem := t.mem, swath := t.swath }) [.hitch, .cmdwin]) ∧
  (∀ (id : Nat), Frame (.swathCancel id) (fun s t => { s.withEnd t with swath := t.swath }) [.hitch, .cmdwin]) ∧
  (∀ (via : Via), Frame (.planLoad via) (fun s t => { s.withWrite t with flights := t.flights, flags := t.flags, furlong := t.furlong, thr := t.thr, swath := t.swath, flagsNow := t.flagsNow }) [.hitch, .steward, .journal, .cmdwin, .thrCh, .swathPort, .transport, .ptp, .recovery]) ∧
  (∀ (via : Via), Frame (.planUnload via) (fun s t => { s.withWrite t with flights := t.flights, flags := t.flags, furlong := t.furlong, thr := t.thr, swath := t.swath, flagsNow := t.flagsNow }) [.hitch, .steward, .journal, .cmdwin, .transport, .ptp, .recovery]) ∧
  Frame .lldpSend (fun s t => { s with swath := t.swath }) [] ∧
  (∀ (link : Fin 64) (chassisType portType : BitVec 8) (chassis port : List Byte), Frame (.lldpReceived link chassisType portType chassis port) (fun s t => { s with regs := t.regs, hitch := t.hitch, flights := t.flights, thr := t.thr, swath := t.swath, setNow := t.setNow }) [.hitch, .swathPort, .transport, .ptp, .recovery]) ∧
  Frame .discoveryLimit (fun s t => { s with regs := t.regs, hitch := t.hitch, flights := t.flights, thr := t.thr, swath := t.swath, setNow := t.setNow }) [.hitch, .swathPort, .transport, .ptp, .recovery] ∧
  (∀ (message : PtpMsg), Frame (.ptpMessage message) (fun s t => { s with regs := t.regs }) [.ptp]) ∧
  Frame .almanacTick (fun s t => { s with hostWaits := t.hostWaits, alm := t.alm, power := t.power, setNow := t.setNow, flagsNow := t.flagsNow }) [] ∧
  (∀ (offset : Int), Frame (.almanacMeasurement offset) (fun s t => { s with regs := t.regs, hitch := t.hitch, alm := t.alm, setNow := t.setNow, freeCtr := t.freeCtr }) [.hitch, .almanac]) ∧
  Frame .ppsInEdge (fun s t => { s with regs := t.regs, hitch := t.hitch, alm := t.alm, setNow := t.setNow, freeCtr := t.freeCtr }) [.hitch, .almanac] ∧
  Frame .almanacHoldover (fun s t => { s with regs := t.regs, hitch := t.hitch, alm := t.alm, setNow := t.setNow }) [.hitch, .almanac] ∧
  (∀ (id : Nat), Frame (.launchGateFire id) (fun s t => { s with regs := t.regs, hitch := t.hitch, flights := t.flights, furlong := t.furlong, setNow := t.setNow }) [.hitch, .almanac, .coulter, .thrCh, .transport, .recovery, .furrow, .glean, .harrow, .drill]) ∧
  (∀ (domain : Fin 9), Frame (.waitMet domain) (fun s t => { s with flights := t.flights, flags := t.flags, flagsNow := t.flagsNow }) []) ∧
  (∀ (via : Via) (domain : Fin 9) (flag : Fin 1024), Frame (.flagSet via domain flag) (fun s t => { s.withWrite t with flags := t.flags, flagsNow := t.flagsNow }) [.hitch, .steward, .almanac, .journal]) ∧
  (∀ (via : Via) (domain : Fin 9) (flag : Fin 1024), Frame (.flagClear via domain flag) (fun s t => { s.withWrite t with flags := t.flags, flagsNow := t.flagsNow }) [.hitch, .steward, .almanac, .journal]) ∧
  (∀ (id : Nat), Frame (.furlongRun id) (fun s t => { s.withEnd t with windows := t.windows }) [.hitch, .cmdwin]) ∧
  (∀ (id : Nat), Frame (.furlongStop id) (fun s t => s.withEnd t) [.hitch, .almanac, .cmdwin]) ∧
  Frame .stepExpansion (fun s t => { (s.withEnd t).withStore t with windows := t.windows, nextId := t.nextId, engines := t.engines, thr := t.thr, power := t.power, winnow := t.winnow, passIds := t.passIds }) [.hitch, .almanac, .cmdwin, .recovery, .harrow, .granary] ∧
  (∀ (step : Nat) (pre : Bool) (phase : Nat), Frame (.phaseComplete step pre phase) (fun s t => { s.withStore t with furlong := t.furlong, ledgerHeld := t.ledgerHeld, kept := t.kept, freeCtr := t.freeCtr }) [.almanac, .granary, .granaryCache]) ∧
  (∀ (step : Nat), Frame (.stepComplete step) (fun s t => { (s.withEnd t).withStore t with ledgerHeld := t.ledgerHeld, kept := t.kept, freeCtr := t.freeCtr }) [.hitch, .almanac, .cmdwin, .granary, .granaryCache]) ∧
  (∀ (via : Via) (value : Word), Frame (.ledgerRecordsWrite via value) (fun s t => { s.withWrite t with ledgerHeld := t.ledgerHeld }) [.hitch, .steward, .almanac, .journal]) ∧
  (∀ (via : Via) (value : Word), Frame (.rebaseSubmit via value) (fun s t => { s.withWrite t with alm := t.alm }) [.hitch, .steward, .almanac, .journal]) ∧
  Frame .rebase (fun s t => { s with regs := t.regs, hitch := t.hitch, alm := t.alm, setNow := t.setNow }) [.hitch, .almanac] ∧
  (∀ (id : Nat), Frame (.commit id) (fun s t => { (s.withEnd t).withStore t with windows := t.windows, kept := t.kept }) [.hitch, .cmdwin, .recovery, .granary, .granaryCache]) ∧
  (∀ (id : Nat), Frame (.buddySend id) (fun s t => { s.withEnd t with mem := t.mem, windows := t.windows, swath := t.swath }) [.hitch, .cmdwin, .recovery]) ∧
  (∀ (slot : Fin 2) (offset : Nat), Frame (.buddySealReceived slot offset) (fun s t => { s with regs := t.regs, recov := t.recov }) [.recovery]) ∧
  (∀ (id : Nat), Frame (.stookTake id) (fun s t => { (s.withEnd t).withStore t with windows := t.windows, kept := t.kept, recov := t.recov }) [.hitch, .cmdwin, .recovery, .granary, .granaryCache]) ∧
  (∀ (id : Nat), Frame (.stookStaged id) (fun s t => { (s.withEnd t).withStore t with windows := t.windows, kept := t.kept }) [.hitch, .cmdwin, .recovery, .granary, .granaryCache]) ∧
  (∀ (via : Via) (value : Word), Frame (.drainAck via value) (fun s t => s.withWrite t) [.hitch, .steward, .journal, .recovery]) ∧
  (∀ (id : Nat), Frame (.refill id) (fun s t => { (s.withEnd t).withStore t with windows := t.windows, kept := t.kept, swath := t.swath, recov := t.recov }) [.hitch, .cmdwin, .recovery, .granary, .granaryCache]) ∧
  (∀ (via : Via) (value : Word), Frame (.fillReady via value) (fun s t => { s.withWrite t with recov := t.recov }) [.hitch, .steward, .journal, .recovery]) ∧
  (∀ (via : Via) (endpoint : BitVec 16) (override : Bool), Frame (.pairRequest via endpoint override) (fun s t => { s.withWrite t with mem := t.mem, swath := t.swath }) [.hitch, .steward, .journal, .recovery]) ∧
  (∀ (via : Via) (endpoint : BitVec 16) (override : Bool), Frame (.unpair via endpoint override) (fun s t => { s.withWrite t with mem := t.mem, swath := t.swath }) [.hitch, .steward, .journal, .recovery]) ∧
  (∀ (endpoint : Nat) (domain : Fin 64) (answer : Fin 3), Frame (.pairingMessage endpoint domain answer) (fun s t => { s with regs := t.regs, mem := t.mem, hitch := t.hitch, swath := t.swath, setNow := t.setNow }) [.hitch, .recovery])

/-- The frames of power, the Tithe and Steward. Each changes only the parts of the state named with it, and registers on pages of the kinds in its list only.
Everything else stays as it was. -/
def Obligations.FramesOfPowerTitheSteward : Prop :=
  (∀ (via : Via), Frame (.targetRun via) (fun s t => { s.withWrite t with power := t.power }) [.hitch, .steward, .power, .journal]) ∧
  (∀ (via : Via), Frame (.targetRest via) (fun s t => { s.withWrite t with power := t.power }) [.hitch, .steward, .power, .journal]) ∧
  (∀ (via : Via), Frame (.targetFallow via) (fun s t => { s.withWrite t with power := t.power }) [.hitch, .steward, .power, .journal]) ∧
  (∀ (via : Via), Frame (.targetWinter via) (fun s t => { s.withWrite t with power := t.power }) [.hitch, .steward, .power, .journal]) ∧
  Frame .idleEntry (fun s t => { s with power := t.power }) [] ∧
  (∀ (lanes : BitVec 8), Frame (.fallowHitchWake lanes) (fun s t => { s with hitch := t.hitch, power := t.power }) []) ∧
  (∀ (report : Int) (millivolts estimate : Nat), Frame (.governorWindow report millivolts estimate) (fun s t => { s with regs := t.regs, hitch := t.hitch, power := t.power, setNow := t.setNow }) [.hitch, .power]) ∧
  Frame .thermalStep (fun s t => { s with regs := t.regs, hitch := t.hitch, power := t.power, setNow := t.setNow }) [.hitch, .power] ∧
  (∀ (field : Fin 8) (millivolts : Nat), Frame (.droopTrip field millivolts) (fun s t => { s with regs := t.regs, power := t.power }) [.droop]) ∧
  (∀ (field : Fin 8) (acCycles fcCycles : Nat), Frame (.droopStretchEnd field acCycles fcCycles) (fun s t => { s with regs := t.regs, hitch := t.hitch, power := t.power, setNow := t.setNow }) [.hitch, .droop]) ∧
  (∀ (via : Via) (mhz : BitVec 16) (changeAt : Word), Frame (.acChangeSubmit via mhz changeAt) (fun s t => { s.withWrite t with power := t.power }) [.hitch, .steward, .power, .journal]) ∧
  (∀ (via : Via), Frame (.acChangeCancel via) (fun s t => { s.withWrite t with power := t.power }) [.hitch, .steward, .power, .journal]) ∧
  Frame .acVoltageRamp (fun s t => { s with power := t.power }) [] ∧
  (∀ (field : Fin 8), Frame (.acChange field) (fun s t => { s with regs := t.regs, hitch := t.hitch, power := t.power, setNow := t.setNow }) [.hitch, .power]) ∧
  (∀ (millivolts milliamps : Nat), Frame (.titheSample millivolts milliamps) (fun s t => { s with tithe := t.tithe }) []) ∧
  (∀ (deviates : Bool), Frame (.titheSelfCheck deviates) (fun s t => { s with tithe := t.tithe }) []) ∧
  Frame .titheRollover (fun s t => { s with tithe := t.tithe }) [] ∧
  (∀ (written : Bool) (tamper : Option (Fin 4)) (mark : Option (BitVec 64 × BitVec 64)), Frame (.tithePowerLoss written tamper mark) (fun s t => { s with tithe := t.tithe }) []) ∧
  Frame .tithePowerReturn (fun s t => { s with tithe := t.tithe }) [] ∧
  Frame .titheCheckpoint (fun s t => { s with tithe := t.tithe }) [] ∧
  (∀ (kind : Fin 5) (mark : Option (BitVec 64 × BitVec 64)), Frame (.titheTamper kind mark) (fun s t => { s with tithe := t.tithe }) []) ∧
  (∀ (args : List Byte) (crc : BitVec 16), Frame (.ident args crc) (fun s t => { s with tithe := t.tithe }) []) ∧
  (∀ (args : List Byte) (crc : BitVec 16), Frame (.status args crc) (fun s t => { s with tithe := t.tithe }) []) ∧
  (∀ (args : List Byte) (crc : BitVec 16), Frame (.readRecord args crc) (fun s t => { s with tithe := t.tithe }) []) ∧
  (∀ (args : List Byte) (crc : BitVec 16), Frame (.readNow args crc) (fun s t => { s with tithe := t.tithe }) []) ∧
  (∀ (args : List Byte) (crc : BitVec 16), Frame (.jobMark args crc) (fun s t => { s with tithe := t.tithe }) []) ∧
  (∀ (args : List Byte) (crc : BitVec 16), Frame (.tamperLog args crc) (fun s t => { s with tithe := t.tithe }) []) ∧
  Frame .uartFrameTimeout (fun s _ => s) [] ∧
  Frame .mirrorSnapshot (fun s t => { s with regs := t.regs, hitch := t.hitch, tithe := t.tithe, setNow := t.setNow }) [.hitch, .titheRo] ∧
  Frame .mirrorRecordArrival (fun s t => { s with regs := t.regs, hitch := t.hitch, tithe := t.tithe, setNow := t.setNow }) [.hitch, .titheRo] ∧
  Frame .titheMirrorStale (fun s t => { s with regs := t.regs, hitch := t.hitch, setNow := t.setNow }) [.hitch, .titheRo] ∧
  (∀ (pwrDomain : BitVec 6) (slotId : BitVec 8) (bootSel : BitVec 2), Frame (.strapSample pwrDomain slotId bootSel) (fun s t => { s with regs := t.regs, hitch := t.hitch, steward := t.steward, setNow := t.setNow, freeCtr := t.freeCtr }) [.hitch, .steward]) ∧
  (∀ (via : Via), Frame (.warmResetRequest via) (fun s t => { s.withWrite t with flights := t.flights, power := t.power }) [.hitch, .steward, .journal]) ∧
  (∀ (via : Via), Frame (.hitchRetrainRequest via) (fun s t => s.withWrite t) [.hitch, .steward, .journal]) ∧
  (∀ (via : Via), Frame (.stage via) (fun s t => s.withWrite t) [.hitch, .steward, .journal]) ∧
  (∀ (flashOk : Bool), Frame (.stageComplete flashOk) (fun s t => { s with regs := t.regs, hitch := t.hitch, steward := t.steward, setNow := t.setNow, freeCtr := t.freeCtr }) [.hitch, .steward]) ∧
  (∀ (via : Via), Frame (.activate via) (fun s t => s.withWrite t) [.hitch, .steward, .journal]) ∧
  (∀ (via : Via), Frame (.confirm via) (fun s t => s.withWrite t) [.hitch, .steward, .journal]) ∧
  (∀ (via : Via), Frame (.abandon via) (fun s t => s.withWrite t) [.hitch, .steward, .journal]) ∧
  (∀ (via : Via), Frame (.quote via) (fun s t => s.withWrite t) [.hitch, .steward, .journal]) ∧
  (∀ (via : Via), Frame (.certs via) (fun s t => { s.withWrite t with mem := t.mem, poison := t.poison, written := t.written, kept := t.kept }) [.hitch, .steward, .journal, .granary, .granaryCache]) ∧
  Frame .journalPageWrite (fun s t => { s with journal := t.journal }) [] ∧
  Frame .idcode (fun s t => { s with steward := t.steward }) [] ∧
  (∀ (tdi : List Bool), Frame (.extest tdi) (fun s t => { s with steward := t.steward, freeCtr := t.freeCtr }) []) ∧
  (∀ (tdi : List Bool), Frame (.bypass tdi) (fun s t => { s with steward := t.steward }) []) ∧
  (∀ (tdi : List Bool), Frame (.samplePreload tdi) (fun s t => { s with steward := t.steward, freeCtr := t.freeCtr }) []) ∧
  (∀ (via : Via) (channel : Fin 32) (gate : Bool), Frame (.thrChEnable via channel gate) (fun s t => { s.withWrite t with thr := t.thr }) [.hitch, .steward, .journal, .thrCh]) ∧
  Frame .mclkLost (fun s t => { s with steward := t.steward, freeCtr := t.freeCtr }) [] ∧
  Frame .mclkReturn (fun s t => { s with steward := t.steward }) [] ∧
  (∀ (id unit : Nat), Frame (.harrowUnitComplete id unit) (fun s t => s.withEnd t) [.hitch, .cmdwin, .harrow]) ∧
  (∀ (id : Nat), Frame (.gleanDescriptorComplete id) (fun s t => s.withEnd t) [.hitch, .cmdwin]) ∧
  Frame .quoteDone (fun s t => { s.withStore t with hitch := t.hitch, steward := t.steward, kept := t.kept, setNow := t.setNow }) [.hitch, .steward, .granary, .granaryCache] ∧
  Frame .ptpSyncSend (fun s t => { s with swath := t.swath }) []

/-- The frames of the register writes that any page takes: clearing event bits and clearing the captured error change registers of
the page named and of HITCH, STEWARD and JOURNAL only (R55, R59); a write of PG_CTRL changes no more than a register write does, but
for the Thresher channel, the Winnow or the Swath port that it enables (R363, R223); a two-wire read changes nothing but registers, the
port's answers and a free value (R546). -/
def Obligations.FramesOfRegisterWrites : Prop :=
  (∀ (via : Via) (page : BitVec 16) (bits : Word) (s t : State), exec (.pgEventClear via page bits) s = .next t →
    t = s.withWrite t ∧ ∀ a, a / 0x1000 ≠ page.toNat → a / 0x1000 ≠ 1 → a / 0x1000 ≠ 2 → a / 0x1000 ≠ 6 → t.reg a = s.reg a) ∧
  (∀ (via : Via) (page : BitVec 16) (value : Word) (s t : State), exec (.pgErrCodeClear via page value) s = .next t →
    t = s.withWrite t ∧ ∀ a, a / 0x1000 ≠ page.toNat → a / 0x1000 ≠ 1 → a / 0x1000 ≠ 2 → a / 0x1000 ≠ 6 → t.reg a = s.reg a) ∧
  (∀ (via : Via) (page : BitVec 16) (enable gate : Bool) (s t : State), exec (.pgCtrlEnableWrite via page enable gate) s = .next t →
    t = { s.withWrite t with
      thr := t.thr, winnow := t.winnow, mem := t.mem, poison := t.poison, written := t.written, swath := t.swath, flights := t.flights }) ∧
  (∀ (target : BitVec 7) (pecOk : Bool) (address : Word) (s t : State), exec (.smbusRead target pecOk address) s = .next t →
    t = { s with regs := t.regs, hitch := t.hitch, steward := t.steward, freeCtr := t.freeCtr, settled := t.settled })
end

