-- ==== Sys2Proof/Laws/State.lean ====
section
/-!
SUPPORT. What each shared operation leaves alone: one lemma per operation and field of the state that it does not write.
-/
namespace Sys2Proof.Machine

/-- A fold whose every step keeps a part of the state keeps it. -/
theorem foldl_keeps {α β : Type} (p : State → β) (f : State → α → State) (l : List α) (h : ∀ t a, p (f t a) = p t) (s : State) :
    p (l.foldl f s) = p s := by
  induction l generalizing s with
  | nil => rfl
  | cons a l ih => simp [ih, h]

@[simp] theorem State.setReg_mem (s : State) (a v : Nat) : (s.setReg a v).mem = s.mem := rfl
@[simp] theorem State.setReg_poison (s : State) (a v : Nat) : (s.setReg a v).poison = s.poison := rfl
@[simp] theorem State.setReg_hitch (s : State) (a v : Nat) : (s.setReg a v).hitch = s.hitch := rfl
@[simp] theorem State.setReg_windows (s : State) (a v : Nat) : (s.setReg a v).windows = s.windows := rfl
@[simp] theorem State.setReg_flights (s : State) (a v : Nat) : (s.setReg a v).flights = s.flights := rfl
@[simp] theorem State.setReg_nextId (s : State) (a v : Nat) : (s.setReg a v).nextId = s.nextId := rfl
@[simp] theorem State.setReg_flags (s : State) (a v : Nat) : (s.setReg a v).flags = s.flags := rfl
@[simp] theorem State.setReg_hostWaits (s : State) (a v : Nat) : (s.setReg a v).hostWaits = s.hostWaits := rfl
@[simp] theorem State.setReg_alm (s : State) (a v : Nat) : (s.setReg a v).alm = s.alm := rfl
@[simp] theorem State.setReg_furlong (s : State) (a v : Nat) : (s.setReg a v).furlong = s.furlong := rfl
@[simp] theorem State.setReg_ledgerHeld (s : State) (a v : Nat) : (s.setReg a v).ledgerHeld = s.ledgerHeld := rfl
@[simp] theorem State.setReg_journal (s : State) (a v : Nat) : (s.setReg a v).journal = s.journal := rfl
@[simp] theorem State.setReg_steward (s : State) (a v : Nat) : (s.setReg a v).steward = s.steward := rfl
@[simp] theorem State.setReg_fields (s : State) (a v : Nat) : (s.setReg a v).fields = s.fields := rfl
@[simp] theorem State.setReg_steadFailed (s : State) (a v : Nat) : (s.setReg a v).steadFailed = s.steadFailed := rfl
@[simp] theorem State.setReg_bankMoves (s : State) (a v : Nat) : (s.setReg a v).bankMoves = s.bankMoves := rfl
@[simp] theorem State.setReg_plots (s : State) (a v : Nat) : (s.setReg a v).plots = s.plots := rfl
@[simp] theorem State.setReg_stackList (s : State) (a v : Nat) : (s.setReg a v).stackList = s.stackList := rfl
@[simp] theorem State.setReg_written (s : State) (a v : Nat) : (s.setReg a v).written = s.written := rfl
@[simp] theorem State.setReg_kept (s : State) (a v : Nat) : (s.setReg a v).kept = s.kept := rfl
@[simp] theorem State.setReg_arrays (s : State) (a v : Nat) : (s.setReg a v).arrays = s.arrays := rfl
@[simp] theorem State.setReg_engines (s : State) (a v : Nat) : (s.setReg a v).engines = s.engines := rfl
@[simp] theorem State.setReg_gleanMeta (s : State) (a v : Nat) : (s.setReg a v).gleanMeta = s.gleanMeta := rfl
@[simp] theorem State.setReg_coulter (s : State) (a v : Nat) : (s.setReg a v).coulter = s.coulter := rfl
@[simp] theorem State.setReg_thr (s : State) (a v : Nat) : (s.setReg a v).thr = s.thr := rfl
@[simp] theorem State.setReg_swath (s : State) (a v : Nat) : (s.setReg a v).swath = s.swath := rfl
@[simp] theorem State.setReg_recov (s : State) (a v : Nat) : (s.setReg a v).recov = s.recov := rfl
@[simp] theorem State.setReg_power (s : State) (a v : Nat) : (s.setReg a v).power = s.power := rfl
@[simp] theorem State.setReg_tithe (s : State) (a v : Nat) : (s.setReg a v).tithe = s.tithe := rfl
@[simp] theorem State.setReg_winnow (s : State) (a v : Nat) : (s.setReg a v).winnow = s.winnow := rfl
@[simp] theorem State.setReg_rings (s : State) (a v : Nat) : (s.setReg a v).rings = s.rings := rfl
@[simp] theorem State.setReg_passIds (s : State) (a v : Nat) : (s.setReg a v).passIds = s.passIds := rfl
@[simp] theorem State.setReg_verdicts (s : State) (a v : Nat) : (s.setReg a v).verdicts = s.verdicts := rfl
@[simp] theorem State.setReg_freeCtr (s : State) (a v : Nat) : (s.setReg a v).freeCtr = s.freeCtr := rfl
@[simp] theorem State.setReg_settled (s : State) (a v : Nat) : (s.setReg a v).settled = s.settled := rfl
@[simp] theorem State.setReg_setNow (s : State) (a v : Nat) : (s.setReg a v).setNow = s.setNow := rfl
@[simp] theorem State.setReg_flagsNow (s : State) (a v : Nat) : (s.setReg a v).flagsNow = s.flagsNow := rfl
@[simp] theorem State.setReg_pending (s : State) (a v : Nat) : (s.setReg a v).pending = s.pending := rfl
@[simp] theorem State.setRf_mem (s : State) (a hi lo v : Nat) : (s.setRf a hi lo v).mem = s.mem := rfl
@[simp] theorem State.setRf_poison (s : State) (a hi lo v : Nat) : (s.setRf a hi lo v).poison = s.poison := rfl
@[simp] theorem State.setRf_hitch (s : State) (a hi lo v : Nat) : (s.setRf a hi lo v).hitch = s.hitch := rfl
@[simp] theorem State.setRf_windows (s : State) (a hi lo v : Nat) : (s.setRf a hi lo v).windows = s.windows := rfl
@[simp] theorem State.setRf_flights (s : State) (a hi lo v : Nat) : (s.setRf a hi lo v).flights = s.flights := rfl
@[simp] theorem State.setRf_nextId (s : State) (a hi lo v : Nat) : (s.setRf a hi lo v).nextId = s.nextId := rfl
@[simp] theorem State.setRf_flags (s : State) (a hi lo v : Nat) : (s.setRf a hi lo v).flags = s.flags := rfl
@[simp] theorem State.setRf_hostWaits (s : State) (a hi lo v : Nat) : (s.setRf a hi lo v).hostWaits = s.hostWaits := rfl
@[simp] theorem State.setRf_alm (s : State) (a hi lo v : Nat) : (s.setRf a hi lo v).alm = s.alm := rfl
@[simp] theorem State.setRf_furlong (s : State) (a hi lo v : Nat) : (s.setRf a hi lo v).furlong = s.furlong := rfl
@[simp] theorem State.setRf_ledgerHeld (s : State) (a hi lo v : Nat) : (s.setRf a hi lo v).ledgerHeld = s.ledgerHeld := rfl
@[simp] theorem State.setRf_journal (s : State) (a hi lo v : Nat) : (s.setRf a hi lo v).journal = s.journal := rfl
@[simp] theorem State.setRf_steward (s : State) (a hi lo v : Nat) : (s.setRf a hi lo v).steward = s.steward := rfl
@[simp] theorem State.setRf_fields (s : State) (a hi lo v : Nat) : (s.setRf a hi lo v).fields = s.fields := rfl
@[simp] theorem State.setRf_steadFailed (s : State) (a hi lo v : Nat) : (s.setRf a hi lo v).steadFailed = s.steadFailed := rfl
@[simp] theorem State.setRf_bankMoves (s : State) (a hi lo v : Nat) : (s.setRf a hi lo v).bankMoves = s.bankMoves := rfl
@[simp] theorem State.setRf_plots (s : State) (a hi lo v : Nat) : (s.setRf a hi lo v).plots = s.plots := rfl
@[simp] theorem State.setRf_stackList (s : State) (a hi lo v : Nat) : (s.setRf a hi lo v).stackList = s.stackList := rfl
@[simp] theorem State.setRf_written (s : State) (a hi lo v : Nat) : (s.setRf a hi lo v).written = s.written := rfl
@[simp] theorem State.setRf_kept (s : State) (a hi lo v : Nat) : (s.setRf a hi lo v).kept = s.kept := rfl
@[simp] theorem State.setRf_arrays (s : State) (a hi lo v : Nat) : (s.setRf a hi lo v).arrays = s.arrays := rfl
@[simp] theorem State.setRf_engines (s : State) (a hi lo v : Nat) : (s.setRf a hi lo v).engines = s.engines := rfl
@[simp] theorem State.setRf_gleanMeta (s : State) (a hi lo v : Nat) : (s.setRf a hi lo v).gleanMeta = s.gleanMeta := rfl
@[simp] theorem State.setRf_coulter (s : State) (a hi lo v : Nat) : (s.setRf a hi lo v).coulter = s.coulter := rfl
@[simp] theorem State.setRf_thr (s : State) (a hi lo v : Nat) : (s.setRf a hi lo v).thr = s.thr := rfl
@[simp] theorem State.setRf_swath (s : State) (a hi lo v : Nat) : (s.setRf a hi lo v).swath = s.swath := rfl
@[simp] theorem State.setRf_recov (s : State) (a hi lo v : Nat) : (s.setRf a hi lo v).recov = s.recov := rfl
@[simp] theorem State.setRf_power (s : State) (a hi lo v : Nat) : (s.setRf a hi lo v).power = s.power := rfl
@[simp] theorem State.setRf_tithe (s : State) (a hi lo v : Nat) : (s.setRf a hi lo v).tithe = s.tithe := rfl
@[simp] theorem State.setRf_winnow (s : State) (a hi lo v : Nat) : (s.setRf a hi lo v).winnow = s.winnow := rfl
@[simp] theorem State.setRf_rings (s : State) (a hi lo v : Nat) : (s.setRf a hi lo v).rings = s.rings := rfl
@[simp] theorem State.setRf_passIds (s : State) (a hi lo v : Nat) : (s.setRf a hi lo v).passIds = s.passIds := rfl
@[simp] theorem State.setRf_verdicts (s : State) (a hi lo v : Nat) : (s.setRf a hi lo v).verdicts = s.verdicts := rfl
@[simp] theorem State.setRf_freeCtr (s : State) (a hi lo v : Nat) : (s.setRf a hi lo v).freeCtr = s.freeCtr := rfl
@[simp] theorem State.setRf_settled (s : State) (a hi lo v : Nat) : (s.setRf a hi lo v).settled = s.settled := rfl
@[simp] theorem State.setRf_setNow (s : State) (a hi lo v : Nat) : (s.setRf a hi lo v).setNow = s.setNow := rfl
@[simp] theorem State.setRf_flagsNow (s : State) (a hi lo v : Nat) : (s.setRf a hi lo v).flagsNow = s.flagsNow := rfl
@[simp] theorem State.setRf_pending (s : State) (a hi lo v : Nat) : (s.setRf a hi lo v).pending = s.pending := rfl
@[simp] theorem State.bumpBy_mem (s : State) (a n : Nat) : (s.bumpBy a n).mem = s.mem := rfl
@[simp] theorem State.bumpBy_poison (s : State) (a n : Nat) : (s.bumpBy a n).poison = s.poison := rfl
@[simp] theorem State.bumpBy_hitch (s : State) (a n : Nat) : (s.bumpBy a n).hitch = s.hitch := rfl
@[simp] theorem State.bumpBy_windows (s : State) (a n : Nat) : (s.bumpBy a n).windows = s.windows := rfl
@[simp] theorem State.bumpBy_flights (s : State) (a n : Nat) : (s.bumpBy a n).flights = s.flights := rfl
@[simp] theorem State.bumpBy_nextId (s : State) (a n : Nat) : (s.bumpBy a n).nextId = s.nextId := rfl
@[simp] theorem State.bumpBy_flags (s : State) (a n : Nat) : (s.bumpBy a n).flags = s.flags := rfl
@[simp] theorem State.bumpBy_hostWaits (s : State) (a n : Nat) : (s.bumpBy a n).hostWaits = s.hostWaits := rfl
@[simp] theorem State.bumpBy_alm (s : State) (a n : Nat) : (s.bumpBy a n).alm = s.alm := rfl
@[simp] theorem State.bumpBy_furlong (s : State) (a n : Nat) : (s.bumpBy a n).furlong = s.furlong := rfl
@[simp] theorem State.bumpBy_ledgerHeld (s : State) (a n : Nat) : (s.bumpBy a n).ledgerHeld = s.ledgerHeld := rfl
@[simp] theorem State.bumpBy_journal (s : State) (a n : Nat) : (s.bumpBy a n).journal = s.journal := rfl
@[simp] theorem State.bumpBy_steward (s : State) (a n : Nat) : (s.bumpBy a n).steward = s.steward := rfl
@[simp] theorem State.bumpBy_fields (s : State) (a n : Nat) : (s.bumpBy a n).fields = s.fields := rfl
@[simp] theorem State.bumpBy_steadFailed (s : State) (a n : Nat) : (s.bumpBy a n).steadFailed = s.steadFailed := rfl
@[simp] theorem State.bumpBy_bankMoves (s : State) (a n : Nat) : (s.bumpBy a n).bankMoves = s.bankMoves := rfl
@[simp] theorem State.bumpBy_plots (s : State) (a n : Nat) : (s.bumpBy a n).plots = s.plots := rfl
@[simp] theorem State.bumpBy_stackList (s : State) (a n : Nat) : (s.bumpBy a n).stackList = s.stackList := rfl
@[simp] theorem State.bumpBy_written (s : State) (a n : Nat) : (s.bumpBy a n).written = s.written := rfl
@[simp] theorem State.bumpBy_kept (s : State) (a n : Nat) : (s.bumpBy a n).kept = s.kept := rfl
@[simp] theorem State.bumpBy_arrays (s : State) (a n : Nat) : (s.bumpBy a n).arrays = s.arrays := rfl
@[simp] theorem State.bumpBy_engines (s : State) (a n : Nat) : (s.bumpBy a n).engines = s.engines := rfl
@[simp] theorem State.bumpBy_gleanMeta (s : State) (a n : Nat) : (s.bumpBy a n).gleanMeta = s.gleanMeta := rfl
@[simp] theorem State.bumpBy_coulter (s : State) (a n : Nat) : (s.bumpBy a n).coulter = s.coulter := rfl
@[simp] theorem State.bumpBy_thr (s : State) (a n : Nat) : (s.bumpBy a n).thr = s.thr := rfl
@[simp] theorem State.bumpBy_swath (s : State) (a n : Nat) : (s.bumpBy a n).swath = s.swath := rfl
@[simp] theorem State.bumpBy_recov (s : State) (a n : Nat) : (s.bumpBy a n).recov = s.recov := rfl
@[simp] theorem State.bumpBy_power (s : State) (a n : Nat) : (s.bumpBy a n).power = s.power := rfl
@[simp] theorem State.bumpBy_tithe (s : State) (a n : Nat) : (s.bumpBy a n).tithe = s.tithe := rfl
@[simp] theorem State.bumpBy_winnow (s : State) (a n : Nat) : (s.bumpBy a n).winnow = s.winnow := rfl
@[simp] theorem State.bumpBy_rings (s : State) (a n : Nat) : (s.bumpBy a n).rings = s.rings := rfl
@[simp] theorem State.bumpBy_passIds (s : State) (a n : Nat) : (s.bumpBy a n).passIds = s.passIds := rfl
@[simp] theorem State.bumpBy_verdicts (s : State) (a n : Nat) : (s.bumpBy a n).verdicts = s.verdicts := rfl
@[simp] theorem State.bumpBy_freeCtr (s : State) (a n : Nat) : (s.bumpBy a n).freeCtr = s.freeCtr := rfl
@[simp] theorem State.bumpBy_settled (s : State) (a n : Nat) : (s.bumpBy a n).settled = s.settled := rfl
@[simp] theorem State.bumpBy_setNow (s : State) (a n : Nat) : (s.bumpBy a n).setNow = s.setNow := rfl
@[simp] theorem State.bumpBy_flagsNow (s : State) (a n : Nat) : (s.bumpBy a n).flagsNow = s.flagsNow := rfl
@[simp] theorem State.bumpBy_pending (s : State) (a n : Nat) : (s.bumpBy a n).pending = s.pending := rfl
@[simp] theorem State.bump_mem (s : State) (a : Nat) : (s.bump a).mem = s.mem := rfl
@[simp] theorem State.bump_poison (s : State) (a : Nat) : (s.bump a).poison = s.poison := rfl
@[simp] theorem State.bump_hitch (s : State) (a : Nat) : (s.bump a).hitch = s.hitch := rfl
@[simp] theorem State.bump_windows (s : State) (a : Nat) : (s.bump a).windows = s.windows := rfl
@[simp] theorem State.bump_flights (s : State) (a : Nat) : (s.bump a).flights = s.flights := rfl
@[simp] theorem State.bump_nextId (s : State) (a : Nat) : (s.bump a).nextId = s.nextId := rfl
@[simp] theorem State.bump_flags (s : State) (a : Nat) : (s.bump a).flags = s.flags := rfl
@[simp] theorem State.bump_hostWaits (s : State) (a : Nat) : (s.bump a).hostWaits = s.hostWaits := rfl
@[simp] theorem State.bump_alm (s : State) (a : Nat) : (s.bump a).alm = s.alm := rfl
@[simp] theorem State.bump_furlong (s : State) (a : Nat) : (s.bump a).furlong = s.furlong := rfl
@[simp] theorem State.bump_ledgerHeld (s : State) (a : Nat) : (s.bump a).ledgerHeld = s.ledgerHeld := rfl
@[simp] theorem State.bump_journal (s : State) (a : Nat) : (s.bump a).journal = s.journal := rfl
@[simp] theorem State.bump_steward (s : State) (a : Nat) : (s.bump a).steward = s.steward := rfl
@[simp] theorem State.bump_fields (s : State) (a : Nat) : (s.bump a).fields = s.fields := rfl
@[simp] theorem State.bump_steadFailed (s : State) (a : Nat) : (s.bump a).steadFailed = s.steadFailed := rfl
@[simp] theorem State.bump_bankMoves (s : State) (a : Nat) : (s.bump a).bankMoves = s.bankMoves := rfl
@[simp] theorem State.bump_plots (s : State) (a : Nat) : (s.bump a).plots = s.plots := rfl
@[simp] theorem State.bump_stackList (s : State) (a : Nat) : (s.bump a).stackList = s.stackList := rfl
@[simp] theorem State.bump_written (s : State) (a : Nat) : (s.bump a).written = s.written := rfl
@[simp] theorem State.bump_kept (s : State) (a : Nat) : (s.bump a).kept = s.kept := rfl
@[simp] theorem State.bump_arrays (s : State) (a : Nat) : (s.bump a).arrays = s.arrays := rfl
@[simp] theorem State.bump_engines (s : State) (a : Nat) : (s.bump a).engines = s.engines := rfl
@[simp] theorem State.bump_gleanMeta (s : State) (a : Nat) : (s.bump a).gleanMeta = s.gleanMeta := rfl
@[simp] theorem State.bump_coulter (s : State) (a : Nat) : (s.bump a).coulter = s.coulter := rfl
@[simp] theorem State.bump_thr (s : State) (a : Nat) : (s.bump a).thr = s.thr := rfl
@[simp] theorem State.bump_swath (s : State) (a : Nat) : (s.bump a).swath = s.swath := rfl
@[simp] theorem State.bump_recov (s : State) (a : Nat) : (s.bump a).recov = s.recov := rfl
@[simp] theorem State.bump_power (s : State) (a : Nat) : (s.bump a).power = s.power := rfl
@[simp] theorem State.bump_tithe (s : State) (a : Nat) : (s.bump a).tithe = s.tithe := rfl
@[simp] theorem State.bump_winnow (s : State) (a : Nat) : (s.bump a).winnow = s.winnow := rfl
@[simp] theorem State.bump_rings (s : State) (a : Nat) : (s.bump a).rings = s.rings := rfl
@[simp] theorem State.bump_passIds (s : State) (a : Nat) : (s.bump a).passIds = s.passIds := rfl
@[simp] theorem State.bump_verdicts (s : State) (a : Nat) : (s.bump a).verdicts = s.verdicts := rfl
@[simp] theorem State.bump_freeCtr (s : State) (a : Nat) : (s.bump a).freeCtr = s.freeCtr := rfl
@[simp] theorem State.bump_settled (s : State) (a : Nat) : (s.bump a).settled = s.settled := rfl
@[simp] theorem State.bump_setNow (s : State) (a : Nat) : (s.bump a).setNow = s.setNow := rfl
@[simp] theorem State.bump_flagsNow (s : State) (a : Nat) : (s.bump a).flagsNow = s.flagsNow := rfl
@[simp] theorem State.bump_pending (s : State) (a : Nat) : (s.bump a).pending = s.pending := rfl
@[simp] theorem State.drawn_regs (s : State) : (s.drawn).regs = s.regs := rfl
@[simp] theorem State.drawn_mem (s : State) : (s.drawn).mem = s.mem := rfl
@[simp] theorem State.drawn_poison (s : State) : (s.drawn).poison = s.poison := rfl
@[simp] theorem State.drawn_hitch (s : State) : (s.drawn).hitch = s.hitch := rfl
@[simp] theorem State.drawn_windows (s : State) : (s.drawn).windows = s.windows := rfl
@[simp] theorem State.drawn_flights (s : State) : (s.drawn).flights = s.flights := rfl
@[simp] theorem State.drawn_nextId (s : State) : (s.drawn).nextId = s.nextId := rfl
@[simp] theorem State.drawn_flags (s : State) : (s.drawn).flags = s.flags := rfl
@[simp] theorem State.drawn_hostWaits (s : State) : (s.drawn).hostWaits = s.hostWaits := rfl
@[simp] theorem State.drawn_alm (s : State) : (s.drawn).alm = s.alm := rfl
@[simp] theorem State.drawn_furlong (s : State) : (s.drawn).furlong = s.furlong := rfl
@[simp] theorem State.drawn_ledgerHeld (s : State) : (s.drawn).ledgerHeld = s.ledgerHeld := rfl
@[simp] theorem State.drawn_journal (s : State) : (s.drawn).journal = s.journal := rfl
@[simp] theorem State.drawn_steward (s : State) : (s.drawn).steward = s.steward := rfl
@[simp] theorem State.drawn_fields (s : State) : (s.drawn).fields = s.fields := rfl
@[simp] theorem State.drawn_steadFailed (s : State) : (s.drawn).steadFailed = s.steadFailed := rfl
@[simp] theorem State.drawn_bankMoves (s : State) : (s.drawn).bankMoves = s.bankMoves := rfl
@[simp] theorem State.drawn_plots (s : State) : (s.drawn).plots = s.plots := rfl
@[simp] theorem State.drawn_stackList (s : State) : (s.drawn).stackList = s.stackList := rfl
@[simp] theorem State.drawn_written (s : State) : (s.drawn).written = s.written := rfl
@[simp] theorem State.drawn_kept (s : State) : (s.drawn).kept = s.kept := rfl
@[simp] theorem State.drawn_arrays (s : State) : (s.drawn).arrays = s.arrays := rfl
@[simp] theorem State.drawn_engines (s : State) : (s.drawn).engines = s.engines := rfl
@[simp] theorem State.drawn_gleanMeta (s : State) : (s.drawn).gleanMeta = s.gleanMeta := rfl
@[simp] theorem State.drawn_coulter (s : State) : (s.drawn).coulter = s.coulter := rfl
@[simp] theorem State.drawn_thr (s : State) : (s.drawn).thr = s.thr := rfl
@[simp] theorem State.drawn_swath (s : State) : (s.drawn).swath = s.swath := rfl
@[simp] theorem State.drawn_recov (s : State) : (s.drawn).recov = s.recov := rfl
@[simp] theorem State.drawn_power (s : State) : (s.drawn).power = s.power := rfl
@[simp] theorem State.drawn_tithe (s : State) : (s.drawn).tithe = s.tithe := rfl
@[simp] theorem State.drawn_winnow (s : State) : (s.drawn).winnow = s.winnow := rfl
@[simp] theorem State.drawn_rings (s : State) : (s.drawn).rings = s.rings := rfl
@[simp] theorem State.drawn_passIds (s : State) : (s.drawn).passIds = s.passIds := rfl
@[simp] theorem State.drawn_verdicts (s : State) : (s.drawn).verdicts = s.verdicts := rfl
@[simp] theorem State.drawn_settled (s : State) : (s.drawn).settled = s.settled := rfl
@[simp] theorem State.drawn_setNow (s : State) : (s.drawn).setNow = s.setNow := rfl
@[simp] theorem State.drawn_flagsNow (s : State) : (s.drawn).flagsNow = s.flagsNow := rfl
@[simp] theorem State.drawn_pending (s : State) : (s.drawn).pending = s.pending := rfl
@[simp] theorem State.putBytes_regs (s : State) (a : Nat) (bs : List Byte) : (s.putBytes a bs).regs = s.regs := rfl
@[simp] theorem State.putBytes_poison (s : State) (a : Nat) (bs : List Byte) : (s.putBytes a bs).poison = s.poison := rfl
@[simp] theorem State.putBytes_hitch (s : State) (a : Nat) (bs : List Byte) : (s.putBytes a bs).hitch = s.hitch := rfl
@[simp] theorem State.putBytes_windows (s : State) (a : Nat) (bs : List Byte) : (s.putBytes a bs).windows = s.windows := rfl
@[simp] theorem State.putBytes_flights (s : State) (a : Nat) (bs : List Byte) : (s.putBytes a bs).flights = s.flights := rfl
@[simp] theorem State.putBytes_nextId (s : State) (a : Nat) (bs : List Byte) : (s.putBytes a bs).nextId = s.nextId := rfl
@[simp] theorem State.putBytes_flags (s : State) (a : Nat) (bs : List Byte) : (s.putBytes a bs).flags = s.flags := rfl
@[simp] theorem State.putBytes_hostWaits (s : State) (a : Nat) (bs : List Byte) : (s.putBytes a bs).hostWaits = s.hostWaits := rfl
@[simp] theorem State.putBytes_alm (s : State) (a : Nat) (bs : List Byte) : (s.putBytes a bs).alm = s.alm := rfl
@[simp] theorem State.putBytes_furlong (s : State) (a : Nat) (bs : List Byte) : (s.putBytes a bs).furlong = s.furlong := rfl
@[simp] theorem State.putBytes_ledgerHeld (s : State) (a : Nat) (bs : List Byte) : (s.putBytes a bs).ledgerHeld = s.ledgerHeld := rfl
@[simp] theorem State.putBytes_journal (s : State) (a : Nat) (bs : List Byte) : (s.putBytes a bs).journal = s.journal := rfl
@[simp] theorem State.putBytes_steward (s : State) (a : Nat) (bs : List Byte) : (s.putBytes a bs).steward = s.steward := rfl
@[simp] theorem State.putBytes_fields (s : State) (a : Nat) (bs : List Byte) : (s.putBytes a bs).fields = s.fields := rfl
@[simp] theorem State.putBytes_steadFailed (s : State) (a : Nat) (bs : List Byte) : (s.putBytes a bs).steadFailed = s.steadFailed := rfl
@[simp] theorem State.putBytes_bankMoves (s : State) (a : Nat) (bs : List Byte) : (s.putBytes a bs).bankMoves = s.bankMoves := rfl
@[simp] theorem State.putBytes_plots (s : State) (a : Nat) (bs : List Byte) : (s.putBytes a bs).plots = s.plots := rfl
@[simp] theorem State.putBytes_stackList (s : State) (a : Nat) (bs : List Byte) : (s.putBytes a bs).stackList = s.stackList := rfl
@[simp] theorem State.putBytes_written (s : State) (a : Nat) (bs : List Byte) : (s.putBytes a bs).written = s.written := rfl
@[simp] theorem State.putBytes_kept (s : State) (a : Nat) (bs : List Byte) : (s.putBytes a bs).kept = s.kept := rfl
@[simp] theorem State.putBytes_arrays (s : State) (a : Nat) (bs : List Byte) : (s.putBytes a bs).arrays = s.arrays := rfl
@[simp] theorem State.putBytes_engines (s : State) (a : Nat) (bs : List Byte) : (s.putBytes a bs).engines = s.engines := rfl
@[simp] theorem State.putBytes_gleanMeta (s : State) (a : Nat) (bs : List Byte) : (s.putBytes a bs).gleanMeta = s.gleanMeta := rfl
@[simp] theorem State.putBytes_coulter (s : State) (a : Nat) (bs : List Byte) : (s.putBytes a bs).coulter = s.coulter := rfl
@[simp] theorem State.putBytes_thr (s : State) (a : Nat) (bs : List Byte) : (s.putBytes a bs).thr = s.thr := rfl
@[simp] theorem State.putBytes_swath (s : State) (a : Nat) (bs : List Byte) : (s.putBytes a bs).swath = s.swath := rfl
@[simp] theorem State.putBytes_recov (s : State) (a : Nat) (bs : List Byte) : (s.putBytes a bs).recov = s.recov := rfl
@[simp] theorem State.putBytes_power (s : State) (a : Nat) (bs : List Byte) : (s.putBytes a bs).power = s.power := rfl
@[simp] theorem State.putBytes_tithe (s : State) (a : Nat) (bs : List Byte) : (s.putBytes a bs).tithe = s.tithe := rfl
@[simp] theorem State.putBytes_winnow (s : State) (a : Nat) (bs : List Byte) : (s.putBytes a bs).winnow = s.winnow := rfl
@[simp] theorem State.putBytes_rings (s : State) (a : Nat) (bs : List Byte) : (s.putBytes a bs).rings = s.rings := rfl
@[simp] theorem State.putBytes_passIds (s : State) (a : Nat) (bs : List Byte) : (s.putBytes a bs).passIds = s.passIds := rfl
@[simp] theorem State.putBytes_verdicts (s : State) (a : Nat) (bs : List Byte) : (s.putBytes a bs).verdicts = s.verdicts := rfl
@[simp] theorem State.putBytes_freeCtr (s : State) (a : Nat) (bs : List Byte) : (s.putBytes a bs).freeCtr = s.freeCtr := rfl
@[simp] theorem State.putBytes_settled (s : State) (a : Nat) (bs : List Byte) : (s.putBytes a bs).settled = s.settled := rfl
@[simp] theorem State.putBytes_setNow (s : State) (a : Nat) (bs : List Byte) : (s.putBytes a bs).setNow = s.setNow := rfl
@[simp] theorem State.putBytes_flagsNow (s : State) (a : Nat) (bs : List Byte) : (s.putBytes a bs).flagsNow = s.flagsNow := rfl
@[simp] theorem State.putBytes_pending (s : State) (a : Nat) (bs : List Byte) : (s.putBytes a bs).pending = s.pending := rfl
@[simp] theorem State.clearPoison_regs (s : State) (a n : Nat) : (s.clearPoison a n).regs = s.regs := rfl
@[simp] theorem State.clearPoison_mem (s : State) (a n : Nat) : (s.clearPoison a n).mem = s.mem := rfl
@[simp] theorem State.clearPoison_hitch (s : State) (a n : Nat) : (s.clearPoison a n).hitch = s.hitch := rfl
@[simp] theorem State.clearPoison_windows (s : State) (a n : Nat) : (s.clearPoison a n).windows = s.windows := rfl
@[simp] theorem State.clearPoison_flights (s : State) (a n : Nat) : (s.clearPoison a n).flights = s.flights := rfl
@[simp] theorem State.clearPoison_nextId (s : State) (a n : Nat) : (s.clearPoison a n).nextId = s.nextId := rfl
@[simp] theorem State.clearPoison_flags (s : State) (a n : Nat) : (s.clearPoison a n).flags = s.flags := rfl
@[simp] theorem State.clearPoison_hostWaits (s : State) (a n : Nat) : (s.clearPoison a n).hostWaits = s.hostWaits := rfl
@[simp] theorem State.clearPoison_alm (s : State) (a n : Nat) : (s.clearPoison a n).alm = s.alm := rfl
@[simp] theorem State.clearPoison_furlong (s : State) (a n : Nat) : (s.clearPoison a n).furlong = s.furlong := rfl
@[simp] theorem State.clearPoison_ledgerHeld (s : State) (a n : Nat) : (s.clearPoison a n).ledgerHeld = s.ledgerHeld := rfl
@[simp] theorem State.clearPoison_journal (s : State) (a n : Nat) : (s.clearPoison a n).journal = s.journal := rfl
@[simp] theorem State.clearPoison_steward (s : State) (a n : Nat) : (s.clearPoison a n).steward = s.steward := rfl
@[simp] theorem State.clearPoison_fields (s : State) (a n : Nat) : (s.clearPoison a n).fields = s.fields := rfl
@[simp] theorem State.clearPoison_steadFailed (s : State) (a n : Nat) : (s.clearPoison a n).steadFailed = s.steadFailed := rfl
@[simp] theorem State.clearPoison_bankMoves (s : State) (a n : Nat) : (s.clearPoison a n).bankMoves = s.bankMoves := rfl
@[simp] theorem State.clearPoison_plots (s : State) (a n : Nat) : (s.clearPoison a n).plots = s.plots := rfl
@[simp] theorem State.clearPoison_stackList (s : State) (a n : Nat) : (s.clearPoison a n).stackList = s.stackList := rfl
@[simp] theorem State.clearPoison_written (s : State) (a n : Nat) : (s.clearPoison a n).written = s.written := rfl
@[simp] theorem State.clearPoison_kept (s : State) (a n : Nat) : (s.clearPoison a n).kept = s.kept := rfl
@[simp] theorem State.clearPoison_arrays (s : State) (a n : Nat) : (s.clearPoison a n).arrays = s.arrays := rfl
@[simp] theorem State.clearPoison_engines (s : State) (a n : Nat) : (s.clearPoison a n).engines = s.engines := rfl
@[simp] theorem State.clearPoison_gleanMeta (s : State) (a n : Nat) : (s.clearPoison a n).gleanMeta = s.gleanMeta := rfl
@[simp] theorem State.clearPoison_coulter (s : State) (a n : Nat) : (s.clearPoison a n).coulter = s.coulter := rfl
@[simp] theorem State.clearPoison_thr (s : State) (a n : Nat) : (s.clearPoison a n).thr = s.thr := rfl
@[simp] theorem State.clearPoison_swath (s : State) (a n : Nat) : (s.clearPoison a n).swath = s.swath := rfl
@[simp] theorem State.clearPoison_recov (s : State) (a n : Nat) : (s.clearPoison a n).recov = s.recov := rfl
@[simp] theorem State.clearPoison_power (s : State) (a n : Nat) : (s.clearPoison a n).power = s.power := rfl
@[simp] theorem State.clearPoison_tithe (s : State) (a n : Nat) : (s.clearPoison a n).tithe = s.tithe := rfl
@[simp] theorem State.clearPoison_winnow (s : State) (a n : Nat) : (s.clearPoison a n).winnow = s.winnow := rfl
@[simp] theorem State.clearPoison_rings (s : State) (a n : Nat) : (s.clearPoison a n).rings = s.rings := rfl
@[simp] theorem State.clearPoison_passIds (s : State) (a n : Nat) : (s.clearPoison a n).passIds = s.passIds := rfl
@[simp] theorem State.clearPoison_verdicts (s : State) (a n : Nat) : (s.clearPoison a n).verdicts = s.verdicts := rfl
@[simp] theorem State.clearPoison_freeCtr (s : State) (a n : Nat) : (s.clearPoison a n).freeCtr = s.freeCtr := rfl
@[simp] theorem State.clearPoison_settled (s : State) (a n : Nat) : (s.clearPoison a n).settled = s.settled := rfl
@[simp] theorem State.clearPoison_setNow (s : State) (a n : Nat) : (s.clearPoison a n).setNow = s.setNow := rfl
@[simp] theorem State.clearPoison_flagsNow (s : State) (a n : Nat) : (s.clearPoison a n).flagsNow = s.flagsNow := rfl
@[simp] theorem State.clearPoison_pending (s : State) (a n : Nat) : (s.clearPoison a n).pending = s.pending := rfl
@[simp] theorem State.poisonSectors_regs (s : State) (a n : Nat) : (s.poisonSectors a n).regs = s.regs := rfl
@[simp] theorem State.poisonSectors_mem (s : State) (a n : Nat) : (s.poisonSectors a n).mem = s.mem := rfl
@[simp] theorem State.poisonSectors_hitch (s : State) (a n : Nat) : (s.poisonSectors a n).hitch = s.hitch := rfl
@[simp] theorem State.poisonSectors_windows (s : State) (a n : Nat) : (s.poisonSectors a n).windows = s.windows := rfl
@[simp] theorem State.poisonSectors_flights (s : State) (a n : Nat) : (s.poisonSectors a n).flights = s.flights := rfl
@[simp] theorem State.poisonSectors_nextId (s : State) (a n : Nat) : (s.poisonSectors a n).nextId = s.nextId := rfl
@[simp] theorem State.poisonSectors_flags (s : State) (a n : Nat) : (s.poisonSectors a n).flags = s.flags := rfl
@[simp] theorem State.poisonSectors_hostWaits (s : State) (a n : Nat) : (s.poisonSectors a n).hostWaits = s.hostWaits := rfl
@[simp] theorem State.poisonSectors_alm (s : State) (a n : Nat) : (s.poisonSectors a n).alm = s.alm := rfl
@[simp] theorem State.poisonSectors_furlong (s : State) (a n : Nat) : (s.poisonSectors a n).furlong = s.furlong := rfl
@[simp] theorem State.poisonSectors_ledgerHeld (s : State) (a n : Nat) : (s.poisonSectors a n).ledgerHeld = s.ledgerHeld := rfl
@[simp] theorem State.poisonSectors_journal (s : State) (a n : Nat) : (s.poisonSectors a n).journal = s.journal := rfl
@[simp] theorem State.poisonSectors_steward (s : State) (a n : Nat) : (s.poisonSectors a n).steward = s.steward := rfl
@[simp] theorem State.poisonSectors_fields (s : State) (a n : Nat) : (s.poisonSectors a n).fields = s.fields := rfl
@[simp] theorem State.poisonSectors_steadFailed (s : State) (a n : Nat) : (s.poisonSectors a n).steadFailed = s.steadFailed := rfl
@[simp] theorem State.poisonSectors_bankMoves (s : State) (a n : Nat) : (s.poisonSectors a n).bankMoves = s.bankMoves := rfl
@[simp] theorem State.poisonSectors_plots (s : State) (a n : Nat) : (s.poisonSectors a n).plots = s.plots := rfl
@[simp] theorem State.poisonSectors_stackList (s : State) (a n : Nat) : (s.poisonSectors a n).stackList = s.stackList := rfl
@[simp] theorem State.poisonSectors_written (s : State) (a n : Nat) : (s.poisonSectors a n).written = s.written := rfl
@[simp] theorem State.poisonSectors_kept (s : State) (a n : Nat) : (s.poisonSectors a n).kept = s.kept := rfl
@[simp] theorem State.poisonSectors_arrays (s : State) (a n : Nat) : (s.poisonSectors a n).arrays = s.arrays := rfl
@[simp] theorem State.poisonSectors_engines (s : State) (a n : Nat) : (s.poisonSectors a n).engines = s.engines := rfl
@[simp] theorem State.poisonSectors_gleanMeta (s : State) (a n : Nat) : (s.poisonSectors a n).gleanMeta = s.gleanMeta := rfl
@[simp] theorem State.poisonSectors_coulter (s : State) (a n : Nat) : (s.poisonSectors a n).coulter = s.coulter := rfl
@[simp] theorem State.poisonSectors_thr (s : State) (a n : Nat) : (s.poisonSectors a n).thr = s.thr := rfl
@[simp] theorem State.poisonSectors_swath (s : State) (a n : Nat) : (s.poisonSectors a n).swath = s.swath := rfl
@[simp] theorem State.poisonSectors_recov (s : State) (a n : Nat) : (s.poisonSectors a n).recov = s.recov := rfl
@[simp] theorem State.poisonSectors_power (s : State) (a n : Nat) : (s.poisonSectors a n).power = s.power := rfl
@[simp] theorem State.poisonSectors_tithe (s : State) (a n : Nat) : (s.poisonSectors a n).tithe = s.tithe := rfl
@[simp] theorem State.poisonSectors_winnow (s : State) (a n : Nat) : (s.poisonSectors a n).winnow = s.winnow := rfl
@[simp] theorem State.poisonSectors_rings (s : State) (a n : Nat) : (s.poisonSectors a n).rings = s.rings := rfl
@[simp] theorem State.poisonSectors_passIds (s : State) (a n : Nat) : (s.poisonSectors a n).passIds = s.passIds := rfl
@[simp] theorem State.poisonSectors_verdicts (s : State) (a n : Nat) : (s.poisonSectors a n).verdicts = s.verdicts := rfl
@[simp] theorem State.poisonSectors_freeCtr (s : State) (a n : Nat) : (s.poisonSectors a n).freeCtr = s.freeCtr := rfl
@[simp] theorem State.poisonSectors_settled (s : State) (a n : Nat) : (s.poisonSectors a n).settled = s.settled := rfl
@[simp] theorem State.poisonSectors_setNow (s : State) (a n : Nat) : (s.poisonSectors a n).setNow = s.setNow := rfl
@[simp] theorem State.poisonSectors_flagsNow (s : State) (a n : Nat) : (s.poisonSectors a n).flagsNow = s.flagsNow := rfl
@[simp] theorem State.poisonSectors_pending (s : State) (a n : Nat) : (s.poisonSectors a n).pending = s.pending := rfl
@[simp] theorem State.storeSector_hitch (s : State) (a : Nat) (bs : List Byte) : (s.storeSector a bs).hitch = s.hitch := by
  unfold State.storeSector; split <;> [(dsimp only []; split <;> rfl); rfl]
@[simp] theorem State.storeSector_windows (s : State) (a : Nat) (bs : List Byte) : (s.storeSector a bs).windows = s.windows := by
  unfold State.storeSector; split <;> [(dsimp only []; split <;> rfl); rfl]
@[simp] theorem State.storeSector_flights (s : State) (a : Nat) (bs : List Byte) : (s.storeSector a bs).flights = s.flights := by
  unfold State.storeSector; split <;> [(dsimp only []; split <;> rfl); rfl]
@[simp] theorem State.storeSector_nextId (s : State) (a : Nat) (bs : List Byte) : (s.storeSector a bs).nextId = s.nextId := by
  unfold State.storeSector; split <;> [(dsimp only []; split <;> rfl); rfl]
@[simp] theorem State.storeSector_flags (s : State) (a : Nat) (bs : List Byte) : (s.storeSector a bs).flags = s.flags := by
  unfold State.storeSector; split <;> [(dsimp only []; split <;> rfl); rfl]
@[simp] theorem State.storeSector_hostWaits (s : State) (a : Nat) (bs : List Byte) : (s.storeSector a bs).hostWaits = s.hostWaits := by
  unfold State.storeSector; split <;> [(dsimp only []; split <;> rfl); rfl]
@[simp] theorem State.storeSector_alm (s : State) (a : Nat) (bs : List Byte) : (s.storeSector a bs).alm = s.alm := by
  unfold State.storeSector; split <;> [(dsimp only []; split <;> rfl); rfl]
@[simp] theorem State.storeSector_furlong (s : State) (a : Nat) (bs : List Byte) : (s.storeSector a bs).furlong = s.furlong := by
  unfold State.storeSector; split <;> [(dsimp only []; split <;> rfl); rfl]
@[simp] theorem State.storeSector_ledgerHeld (s : State) (a : Nat) (bs : List Byte) : (s.storeSector a bs).ledgerHeld = s.ledgerHeld := by
  unfold State.storeSector; split <;> [(dsimp only []; split <;> rfl); rfl]
@[simp] theorem State.storeSector_journal (s : State) (a : Nat) (bs : List Byte) : (s.storeSector a bs).journal = s.journal := by
  unfold State.storeSector; split <;> [(dsimp only []; split <;> rfl); rfl]
@[simp] theorem State.storeSector_steward (s : State) (a : Nat) (bs : List Byte) : (s.storeSector a bs).steward = s.steward := by
  unfold State.storeSector; split <;> [(dsimp only []; split <;> rfl); rfl]
@[simp] theorem State.storeSector_fields (s : State) (a : Nat) (bs : List Byte) : (s.storeSector a bs).fields = s.fields := by
  unfold State.storeSector; split <;> [(dsimp only []; split <;> rfl); rfl]
@[simp] theorem State.storeSector_steadFailed (s : State) (a : Nat) (bs : List Byte) : (s.storeSector a bs).steadFailed = s.steadFailed := by
  unfold State.storeSector; split <;> [(dsimp only []; split <;> rfl); rfl]
@[simp] theorem State.storeSector_bankMoves (s : State) (a : Nat) (bs : List Byte) : (s.storeSector a bs).bankMoves = s.bankMoves := by
  unfold State.storeSector; split <;> [(dsimp only []; split <;> rfl); rfl]
@[simp] theorem State.storeSector_plots (s : State) (a : Nat) (bs : List Byte) : (s.storeSector a bs).plots = s.plots := by
  unfold State.storeSector; split <;> [(dsimp only []; split <;> rfl); rfl]
@[simp] theorem State.storeSector_stackList (s : State) (a : Nat) (bs : List Byte) : (s.storeSector a bs).stackList = s.stackList := by
  unfold State.storeSector; split <;> [(dsimp only []; split <;> rfl); rfl]
@[simp] theorem State.storeSector_kept (s : State) (a : Nat) (bs : List Byte) : (s.storeSector a bs).kept = s.kept := by
  unfold State.storeSector; split <;> [(dsimp only []; split <;> rfl); rfl]
@[simp] theorem State.storeSector_arrays (s : State) (a : Nat) (bs : List Byte) : (s.storeSector a bs).arrays = s.arrays := by
  unfold State.storeSector; split <;> [(dsimp only []; split <;> rfl); rfl]
@[simp] theorem State.storeSector_engines (s : State) (a : Nat) (bs : List Byte) : (s.storeSector a bs).engines = s.engines := by
  unfold State.storeSector; split <;> [(dsimp only []; split <;> rfl); rfl]
@[simp] theorem State.storeSector_gleanMeta (s : State) (a : Nat) (bs : List Byte) : (s.storeSector a bs).gleanMeta = s.gleanMeta := by
  unfold State.storeSector; split <;> [(dsimp only []; split <;> rfl); rfl]
@[simp] theorem State.storeSector_coulter (s : State) (a : Nat) (bs : List Byte) : (s.storeSector a bs).coulter = s.coulter := by
  unfold State.storeSector; split <;> [(dsimp only []; split <;> rfl); rfl]
@[simp] theorem State.storeSector_thr (s : State) (a : Nat) (bs : List Byte) : (s.storeSector a bs).thr = s.thr := by
  unfold State.storeSector; split <;> [(dsimp only []; split <;> rfl); rfl]
@[simp] theorem State.storeSector_swath (s : State) (a : Nat) (bs : List Byte) : (s.storeSector a bs).swath = s.swath := by
  unfold State.storeSector; split <;> [(dsimp only []; split <;> rfl); rfl]
@[simp] theorem State.storeSector_recov (s : State) (a : Nat) (bs : List Byte) : (s.storeSector a bs).recov = s.recov := by
  unfold State.storeSector; split <;> [(dsimp only []; split <;> rfl); rfl]
@[simp] theorem State.storeSector_power (s : State) (a : Nat) (bs : List Byte) : (s.storeSector a bs).power = s.power := by
  unfold State.storeSector; split <;> [(dsimp only []; split <;> rfl); rfl]
@[simp] theorem State.storeSector_tithe (s : State) (a : Nat) (bs : List Byte) : (s.storeSector a bs).tithe = s.tithe := by
  unfold State.storeSector; split <;> [(dsimp only []; split <;> rfl); rfl]
@[simp] theorem State.storeSector_winnow (s : State) (a : Nat) (bs : List Byte) : (s.storeSector a bs).winnow = s.winnow := by
  unfold State.storeSector; split <;> [(dsimp only []; split <;> rfl); rfl]
@[simp] theorem State.storeSector_rings (s : State) (a : Nat) (bs : List Byte) : (s.storeSector a bs).rings = s.rings := by
  unfold State.storeSector; split <;> [(dsimp only []; split <;> rfl); rfl]
@[simp] theorem State.storeSector_passIds (s : State) (a : Nat) (bs : List Byte) : (s.storeSector a bs).passIds = s.passIds := by
  unfold State.storeSector; split <;> [(dsimp only []; split <;> rfl); rfl]
@[simp] theorem State.storeSector_verdicts (s : State) (a : Nat) (bs : List Byte) : (s.storeSector a bs).verdicts = s.verdicts := by
  unfold State.storeSector; split <;> [(dsimp only []; split <;> rfl); rfl]
@[simp] theorem State.storeSector_freeCtr (s : State) (a : Nat) (bs : List Byte) : (s.storeSector a bs).freeCtr = s.freeCtr := by
  unfold State.storeSector; split <;> [(dsimp only []; split <;> rfl); rfl]
@[simp] theorem State.storeSector_settled (s : State) (a : Nat) (bs : List Byte) : (s.storeSector a bs).settled = s.settled := by
  unfold State.storeSector; split <;> [(dsimp only []; split <;> rfl); rfl]
@[simp] theorem State.storeSector_setNow (s : State) (a : Nat) (bs : List Byte) : (s.storeSector a bs).setNow = s.setNow := by
  unfold State.storeSector; split <;> [(dsimp only []; split <;> rfl); rfl]
@[simp] theorem State.storeSector_flagsNow (s : State) (a : Nat) (bs : List Byte) : (s.storeSector a bs).flagsNow = s.flagsNow := by
  unfold State.storeSector; split <;> [(dsimp only []; split <;> rfl); rfl]
@[simp] theorem State.storeSector_pending (s : State) (a : Nat) (bs : List Byte) : (s.storeSector a bs).pending = s.pending := by
  unfold State.storeSector; split <;> [(dsimp only []; split <;> rfl); rfl]
@[simp] theorem State.store_hitch (s : State) (a : Nat) (bs : List Byte) : (s.store a bs).hitch = s.hitch := by
  unfold State.store; split <;> [exact foldl_keeps (fun t : State => t.hitch) _ _ (fun _ _ => by simp) _; rfl]
@[simp] theorem State.store_windows (s : State) (a : Nat) (bs : List Byte) : (s.store a bs).windows = s.windows := by
  unfold State.store; split <;> [exact foldl_keeps (fun t : State => t.windows) _ _ (fun _ _ => by simp) _; rfl]
@[simp] theorem State.store_flights (s : State) (a : Nat) (bs : List Byte) : (s.store a bs).flights = s.flights := by
  unfold State.store; split <;> [exact foldl_keeps (fun t : State => t.flights) _ _ (fun _ _ => by simp) _; rfl]
@[simp] theorem State.store_nextId (s : State) (a : Nat) (bs : List Byte) : (s.store a bs).nextId = s.nextId := by
  unfold State.store; split <;> [exact foldl_keeps (fun t : State => t.nextId) _ _ (fun _ _ => by simp) _; rfl]
@[simp] theorem State.store_flags (s : State) (a : Nat) (bs : List Byte) : (s.store a bs).flags = s.flags := by
  unfold State.store; split <;> [exact foldl_keeps (fun t : State => t.flags) _ _ (fun _ _ => by simp) _; rfl]
@[simp] theorem State.store_hostWaits (s : State) (a : Nat) (bs : List Byte) : (s.store a bs).hostWaits = s.hostWaits := by
  unfold State.store; split <;> [exact foldl_keeps (fun t : State => t.hostWaits) _ _ (fun _ _ => by simp) _; rfl]
@[simp] theorem State.store_alm (s : State) (a : Nat) (bs : List Byte) : (s.store a bs).alm = s.alm := by
  unfold State.store; split <;> [exact foldl_keeps (fun t : State => t.alm) _ _ (fun _ _ => by simp) _; rfl]
@[simp] theorem State.store_furlong (s : State) (a : Nat) (bs : List Byte) : (s.store a bs).furlong = s.furlong := by
  unfold State.store; split <;> [exact foldl_keeps (fun t : State => t.furlong) _ _ (fun _ _ => by simp) _; rfl]
@[simp] theorem State.store_ledgerHeld (s : State) (a : Nat) (bs : List Byte) : (s.store a bs).ledgerHeld = s.ledgerHeld := by
  unfold State.store; split <;> [exact foldl_keeps (fun t : State => t.ledgerHeld) _ _ (fun _ _ => by simp) _; rfl]
@[simp] theorem State.store_journal (s : State) (a : Nat) (bs : List Byte) : (s.store a bs).journal = s.journal := by
  unfold State.store; split <;> [exact foldl_keeps (fun t : State => t.journal) _ _ (fun _ _ => by simp) _; rfl]
@[simp] theorem State.store_steward (s : State) (a : Nat) (bs : List Byte) : (s.store a bs).steward = s.steward := by
  unfold State.store; split <;> [exact foldl_keeps (fun t : State => t.steward) _ _ (fun _ _ => by simp) _; rfl]
@[simp] theorem State.store_fields (s : State) (a : Nat) (bs : List Byte) : (s.store a bs).fields = s.fields := by
  unfold State.store; split <;> [exact foldl_keeps (fun t : State => t.fields) _ _ (fun _ _ => by simp) _; rfl]
@[simp] theorem State.store_steadFailed (s : State) (a : Nat) (bs : List Byte) : (s.store a bs).steadFailed = s.steadFailed := by
  unfold State.store; split <;> [exact foldl_keeps (fun t : State => t.steadFailed) _ _ (fun _ _ => by simp) _; rfl]
@[simp] theorem State.store_bankMoves (s : State) (a : Nat) (bs : List Byte) : (s.store a bs).bankMoves = s.bankMoves := by
  unfold State.store; split <;> [exact foldl_keeps (fun t : State => t.bankMoves) _ _ (fun _ _ => by simp) _; rfl]
@[simp] theorem State.store_plots (s : State) (a : Nat) (bs : List Byte) : (s.store a bs).plots = s.plots := by
  unfold State.store; split <;> [exact foldl_keeps (fun t : State => t.plots) _ _ (fun _ _ => by simp) _; rfl]
@[simp] theorem State.store_stackList (s : State) (a : Nat) (bs : List Byte) : (s.store a bs).stackList = s.stackList := by
  unfold State.store; split <;> [exact foldl_keeps (fun t : State => t.stackList) _ _ (fun _ _ => by simp) _; rfl]
@[simp] theorem State.store_kept (s : State) (a : Nat) (bs : List Byte) : (s.store a bs).kept = s.kept := by
  unfold State.store; split <;> [exact foldl_keeps (fun t : State => t.kept) _ _ (fun _ _ => by simp) _; rfl]
@[simp] theorem State.store_arrays (s : State) (a : Nat) (bs : List Byte) : (s.store a bs).arrays = s.arrays := by
  unfold State.store; split <;> [exact foldl_keeps (fun t : State => t.arrays) _ _ (fun _ _ => by simp) _; rfl]
@[simp] theorem State.store_engines (s : State) (a : Nat) (bs : List Byte) : (s.store a bs).engines = s.engines := by
  unfold State.store; split <;> [exact foldl_keeps (fun t : State => t.engines) _ _ (fun _ _ => by simp) _; rfl]
@[simp] theorem State.store_gleanMeta (s : State) (a : Nat) (bs : List Byte) : (s.store a bs).gleanMeta = s.gleanMeta := by
  unfold State.store; split <;> [exact foldl_keeps (fun t : State => t.gleanMeta) _ _ (fun _ _ => by simp) _; rfl]
@[simp] theorem State.store_coulter (s : State) (a : Nat) (bs : List Byte) : (s.store a bs).coulter = s.coulter := by
  unfold State.store; split <;> [exact foldl_keeps (fun t : State => t.coulter) _ _ (fun _ _ => by simp) _; rfl]
@[simp] theorem State.store_thr (s : State) (a : Nat) (bs : List Byte) : (s.store a bs).thr = s.thr := by
  unfold State.store; split <;> [exact foldl_keeps (fun t : State => t.thr) _ _ (fun _ _ => by simp) _; rfl]
@[simp] theorem State.store_swath (s : State) (a : Nat) (bs : List Byte) : (s.store a bs).swath = s.swath := by
  unfold State.store; split <;> [exact foldl_keeps (fun t : State => t.swath) _ _ (fun _ _ => by simp) _; rfl]
@[simp] theorem State.store_recov (s : State) (a : Nat) (bs : List Byte) : (s.store a bs).recov = s.recov := by
  unfold State.store; split <;> [exact foldl_keeps (fun t : State => t.recov) _ _ (fun _ _ => by simp) _; rfl]
@[simp] theorem State.store_power (s : State) (a : Nat) (bs : List Byte) : (s.store a bs).power = s.power := by
  unfold State.store; split <;> [exact foldl_keeps (fun t : State => t.power) _ _ (fun _ _ => by simp) _; rfl]
@[simp] theorem State.store_tithe (s : State) (a : Nat) (bs : List Byte) : (s.store a bs).tithe = s.tithe := by
  unfold State.store; split <;> [exact foldl_keeps (fun t : State => t.tithe) _ _ (fun _ _ => by simp) _; rfl]
@[simp] theorem State.store_winnow (s : State) (a : Nat) (bs : List Byte) : (s.store a bs).winnow = s.winnow := by
  unfold State.store; split <;> [exact foldl_keeps (fun t : State => t.winnow) _ _ (fun _ _ => by simp) _; rfl]
@[simp] theorem State.store_rings (s : State) (a : Nat) (bs : List Byte) : (s.store a bs).rings = s.rings := by
  unfold State.store; split <;> [exact foldl_keeps (fun t : State => t.rings) _ _ (fun _ _ => by simp) _; rfl]
@[simp] theorem State.store_passIds (s : State) (a : Nat) (bs : List Byte) : (s.store a bs).passIds = s.passIds := by
  unfold State.store; split <;> [exact foldl_keeps (fun t : State => t.passIds) _ _ (fun _ _ => by simp) _; rfl]
@[simp] theorem State.store_verdicts (s : State) (a : Nat) (bs : List Byte) : (s.store a bs).verdicts = s.verdicts := by
  unfold State.store; split <;> [exact foldl_keeps (fun t : State => t.verdicts) _ _ (fun _ _ => by simp) _; rfl]
@[simp] theorem State.store_freeCtr (s : State) (a : Nat) (bs : List Byte) : (s.store a bs).freeCtr = s.freeCtr := by
  unfold State.store; split <;> [exact foldl_keeps (fun t : State => t.freeCtr) _ _ (fun _ _ => by simp) _; rfl]
@[simp] theorem State.store_settled (s : State) (a : Nat) (bs : List Byte) : (s.store a bs).settled = s.settled := by
  unfold State.store; split <;> [exact foldl_keeps (fun t : State => t.settled) _ _ (fun _ _ => by simp) _; rfl]
@[simp] theorem State.store_setNow (s : State) (a : Nat) (bs : List Byte) : (s.store a bs).setNow = s.setNow := by
  unfold State.store; split <;> [exact foldl_keeps (fun t : State => t.setNow) _ _ (fun _ _ => by simp) _; rfl]
@[simp] theorem State.store_flagsNow (s : State) (a : Nat) (bs : List Byte) : (s.store a bs).flagsNow = s.flagsNow := by
  unfold State.store; split <;> [exact foldl_keeps (fun t : State => t.flagsNow) _ _ (fun _ _ => by simp) _; rfl]
@[simp] theorem State.store_pending (s : State) (a : Nat) (bs : List Byte) : (s.store a bs).pending = s.pending := by
  unfold State.store; split <;> [exact foldl_keeps (fun t : State => t.pending) _ _ (fun _ _ => by simp) _; rfl]
@[simp] theorem State.zeroRange_regs (s : State) (a n : Nat) : (s.zeroRange a n).regs = s.regs := rfl
@[simp] theorem State.zeroRange_hitch (s : State) (a n : Nat) : (s.zeroRange a n).hitch = s.hitch := rfl
@[simp] theorem State.zeroRange_windows (s : State) (a n : Nat) : (s.zeroRange a n).windows = s.windows := rfl
@[simp] theorem State.zeroRange_flights (s : State) (a n : Nat) : (s.zeroRange a n).flights = s.flights := rfl
@[simp] theorem State.zeroRange_nextId (s : State) (a n : Nat) : (s.zeroRange a n).nextId = s.nextId := rfl
@[simp] theorem State.zeroRange_flags (s : State) (a n : Nat) : (s.zeroRange a n).flags = s.flags := rfl
@[simp] theorem State.zeroRange_hostWaits (s : State) (a n : Nat) : (s.zeroRange a n).hostWaits = s.hostWaits := rfl
@[simp] theorem State.zeroRange_alm (s : State) (a n : Nat) : (s.zeroRange a n).alm = s.alm := rfl
@[simp] theorem State.zeroRange_furlong (s : State) (a n : Nat) : (s.zeroRange a n).furlong = s.furlong := rfl
@[simp] theorem State.zeroRange_ledgerHeld (s : State) (a n : Nat) : (s.zeroRange a n).ledgerHeld = s.ledgerHeld := rfl
@[simp] theorem State.zeroRange_journal (s : State) (a n : Nat) : (s.zeroRange a n).journal = s.journal := rfl
@[simp] theorem State.zeroRange_steward (s : State) (a n : Nat) : (s.zeroRange a n).steward = s.steward := rfl
@[simp] theorem State.zeroRange_fields (s : State) (a n : Nat) : (s.zeroRange a n).fields = s.fields := rfl
@[simp] theorem State.zeroRange_steadFailed (s : State) (a n : Nat) : (s.zeroRange a n).steadFailed = s.steadFailed := rfl
@[simp] theorem State.zeroRange_bankMoves (s : State) (a n : Nat) : (s.zeroRange a n).bankMoves = s.bankMoves := rfl
@[simp] theorem State.zeroRange_plots (s : State) (a n : Nat) : (s.zeroRange a n).plots = s.plots := rfl
@[simp] theorem State.zeroRange_stackList (s : State) (a n : Nat) : (s.zeroRange a n).stackList = s.stackList := rfl
@[simp] theorem State.zeroRange_written (s : State) (a n : Nat) : (s.zeroRange a n).written = s.written := rfl
@[simp] theorem State.zeroRange_kept (s : State) (a n : Nat) : (s.zeroRange a n).kept = s.kept := rfl
@[simp] theorem State.zeroRange_arrays (s : State) (a n : Nat) : (s.zeroRange a n).arrays = s.arrays := rfl
@[simp] theorem State.zeroRange_engines (s : State) (a n : Nat) : (s.zeroRange a n).engines = s.engines := rfl
@[simp] theorem State.zeroRange_gleanMeta (s : State) (a n : Nat) : (s.zeroRange a n).gleanMeta = s.gleanMeta := rfl
@[simp] theorem State.zeroRange_coulter (s : State) (a n : Nat) : (s.zeroRange a n).coulter = s.coulter := rfl
@[simp] theorem State.zeroRange_thr (s : State) (a n : Nat) : (s.zeroRange a n).thr = s.thr := rfl
@[simp] theorem State.zeroRange_swath (s : State) (a n : Nat) : (s.zeroRange a n).swath = s.swath := rfl
@[simp] theorem State.zeroRange_recov (s : State) (a n : Nat) : (s.zeroRange a n).recov = s.recov := rfl
@[simp] theorem State.zeroRange_power (s : State) (a n : Nat) : (s.zeroRange a n).power = s.power := rfl
@[simp] theorem State.zeroRange_tithe (s : State) (a n : Nat) : (s.zeroRange a n).tithe = s.tithe := rfl
@[simp] theorem State.zeroRange_winnow (s : State) (a n : Nat) : (s.zeroRange a n).winnow = s.winnow := rfl
@[simp] theorem State.zeroRange_rings (s : State) (a n : Nat) : (s.zeroRange a n).rings = s.rings := rfl
@[simp] theorem State.zeroRange_passIds (s : State) (a n : Nat) : (s.zeroRange a n).passIds = s.passIds := rfl
@[simp] theorem State.zeroRange_verdicts (s : State) (a n : Nat) : (s.zeroRange a n).verdicts = s.verdicts := rfl
@[simp] theorem State.zeroRange_freeCtr (s : State) (a n : Nat) : (s.zeroRange a n).freeCtr = s.freeCtr := rfl
@[simp] theorem State.zeroRange_settled (s : State) (a n : Nat) : (s.zeroRange a n).settled = s.settled := rfl
@[simp] theorem State.zeroRange_setNow (s : State) (a n : Nat) : (s.zeroRange a n).setNow = s.setNow := rfl
@[simp] theorem State.zeroRange_flagsNow (s : State) (a n : Nat) : (s.zeroRange a n).flagsNow = s.flagsNow := rfl
@[simp] theorem State.zeroRange_pending (s : State) (a n : Nat) : (s.zeroRange a n).pending = s.pending := rfl
@[simp] theorem State.pushRecord_mem (s : State) (r : EventRec) : (s.pushRecord r).mem = s.mem := by
  unfold State.pushRecord; dsimp only []; (repeat' split) <;> rfl
@[simp] theorem State.pushRecord_poison (s : State) (r : EventRec) : (s.pushRecord r).poison = s.poison := by
  unfold State.pushRecord; dsimp only []; (repeat' split) <;> rfl
@[simp] theorem State.pushRecord_windows (s : State) (r : EventRec) : (s.pushRecord r).windows = s.windows := by
  unfold State.pushRecord; dsimp only []; (repeat' split) <;> rfl
@[simp] theorem State.pushRecord_flights (s : State) (r : EventRec) : (s.pushRecord r).flights = s.flights := by
  unfold State.pushRecord; dsimp only []; (repeat' split) <;> rfl
@[simp] theorem State.pushRecord_nextId (s : State) (r : EventRec) : (s.pushRecord r).nextId = s.nextId := by
  unfold State.pushRecord; dsimp only []; (repeat' split) <;> rfl
@[simp] theorem State.pushRecord_flags (s : State) (r : EventRec) : (s.pushRecord r).flags = s.flags := by
  unfold State.pushRecord; dsimp only []; (repeat' split) <;> rfl
@[simp] theorem State.pushRecord_hostWaits (s : State) (r : EventRec) : (s.pushRecord r).hostWaits = s.hostWaits := by
  unfold State.pushRecord; dsimp only []; (repeat' split) <;> rfl
@[simp] theorem State.pushRecord_alm (s : State) (r : EventRec) : (s.pushRecord r).alm = s.alm := by
  unfold State.pushRecord; dsimp only []; (repeat' split) <;> rfl
@[simp] theorem State.pushRecord_furlong (s : State) (r : EventRec) : (s.pushRecord r).furlong = s.furlong := by
  unfold State.pushRecord; dsimp only []; (repeat' split) <;> rfl
@[simp] theorem State.pushRecord_ledgerHeld (s : State) (r : EventRec) : (s.pushRecord r).ledgerHeld = s.ledgerHeld := by
  unfold State.pushRecord; dsimp only []; (repeat' split) <;> rfl
@[simp] theorem State.pushRecord_journal (s : State) (r : EventRec) : (s.pushRecord r).journal = s.journal := by
  unfold State.pushRecord; dsimp only []; (repeat' split) <;> rfl
@[simp] theorem State.pushRecord_steward (s : State) (r : EventRec) : (s.pushRecord r).steward = s.steward := by
  unfold State.pushRecord; dsimp only []; (repeat' split) <;> rfl
@[simp] theorem State.pushRecord_fields (s : State) (r : EventRec) : (s.pushRecord r).fields = s.fields := by
  unfold State.pushRecord; dsimp only []; (repeat' split) <;> rfl
@[simp] theorem State.pushRecord_steadFailed (s : State) (r : EventRec) : (s.pushRecord r).steadFailed = s.steadFailed := by
  unfold State.pushRecord; dsimp only []; (repeat' split) <;> rfl
@[simp] theorem State.pushRecord_bankMoves (s : State) (r : EventRec) : (s.pushRecord r).bankMoves = s.bankMoves := by
  unfold State.pushRecord; dsimp only []; (repeat' split) <;> rfl
@[simp] theorem State.pushRecord_plots (s : State) (r : EventRec) : (s.pushRecord r).plots = s.plots := by
  unfold State.pushRecord; dsimp only []; (repeat' split) <;> rfl
@[simp] theorem State.pushRecord_stackList (s : State) (r : EventRec) : (s.pushRecord r).stackList = s.stackList := by
  unfold State.pushRecord; dsimp only []; (repeat' split) <;> rfl
@[simp] theorem State.pushRecord_written (s : State) (r : EventRec) : (s.pushRecord r).written = s.written := by
  unfold State.pushRecord; dsimp only []; (repeat' split) <;> rfl
@[simp] theorem State.pushRecord_kept (s : State) (r : EventRec) : (s.pushRecord r).kept = s.kept := by
  unfold State.pushRecord; dsimp only []; (repeat' split) <;> rfl
@[simp] theorem State.pushRecord_arrays (s : State) (r : EventRec) : (s.pushRecord r).arrays = s.arrays := by
  unfold State.pushRecord; dsimp only []; (repeat' split) <;> rfl
@[simp] theorem State.pushRecord_engines (s : State) (r : EventRec) : (s.pushRecord r).engines = s.engines := by
  unfold State.pushRecord; dsimp only []; (repeat' split) <;> rfl
@[simp] theorem State.pushRecord_gleanMeta (s : State) (r : EventRec) : (s.pushRecord r).gleanMeta = s.gleanMeta := by
  unfold State.pushRecord; dsimp only []; (repeat' split) <;> rfl
@[simp] theorem State.pushRecord_coulter (s : State) (r : EventRec) : (s.pushRecord r).coulter = s.coulter := by
  unfold State.pushRecord; dsimp only []; (repeat' split) <;> rfl
@[simp] theorem State.pushRecord_thr (s : State) (r : EventRec) : (s.pushRecord r).thr = s.thr := by
  unfold State.pushRecord; dsimp only []; (repeat' split) <;> rfl
@[simp] theorem State.pushRecord_swath (s : State) (r : EventRec) : (s.pushRecord r).swath = s.swath := by
  unfold State.pushRecord; dsimp only []; (repeat' split) <;> rfl
@[simp] theorem State.pushRecord_recov (s : State) (r : EventRec) : (s.pushRecord r).recov = s.recov := by
  unfold State.pushRecord; dsimp only []; (repeat' split) <;> rfl
@[simp] theorem State.pushRecord_power (s : State) (r : EventRec) : (s.pushRecord r).power = s.power := by
  unfold State.pushRecord; dsimp only []; (repeat' split) <;> rfl
@[simp] theorem State.pushRecord_tithe (s : State) (r : EventRec) : (s.pushRecord r).tithe = s.tithe := by
  unfold State.pushRecord; dsimp only []; (repeat' split) <;> rfl
@[simp] theorem State.pushRecord_winnow (s : State) (r : EventRec) : (s.pushRecord r).winnow = s.winnow := by
  unfold State.pushRecord; dsimp only []; (repeat' split) <;> rfl
@[simp] theorem State.pushRecord_rings (s : State) (r : EventRec) : (s.pushRecord r).rings = s.rings := by
  unfold State.pushRecord; dsimp only []; (repeat' split) <;> rfl
@[simp] theorem State.pushRecord_passIds (s : State) (r : EventRec) : (s.pushRecord r).passIds = s.passIds := by
  unfold State.pushRecord; dsimp only []; (repeat' split) <;> rfl
@[simp] theorem State.pushRecord_verdicts (s : State) (r : EventRec) : (s.pushRecord r).verdicts = s.verdicts := by
  unfold State.pushRecord; dsimp only []; (repeat' split) <;> rfl
@[simp] theorem State.pushRecord_freeCtr (s : State) (r : EventRec) : (s.pushRecord r).freeCtr = s.freeCtr := by
  unfold State.pushRecord; dsimp only []; (repeat' split) <;> rfl
@[simp] theorem State.pushRecord_settled (s : State) (r : EventRec) : (s.pushRecord r).settled = s.settled := by
  unfold State.pushRecord; dsimp only []; (repeat' split) <;> rfl
@[simp] theorem State.pushRecord_setNow (s : State) (r : EventRec) : (s.pushRecord r).setNow = s.setNow := by
  unfold State.pushRecord; dsimp only []; (repeat' split) <;> rfl
@[simp] theorem State.pushRecord_flagsNow (s : State) (r : EventRec) : (s.pushRecord r).flagsNow = s.flagsNow := by
  unfold State.pushRecord; dsimp only []; (repeat' split) <;> rfl
@[simp] theorem State.pushRecord_pending (s : State) (r : EventRec) : (s.pushRecord r).pending = s.pending := by
  unfold State.pushRecord; dsimp only []; (repeat' split) <;> rfl
@[simp] theorem State.noteSet_regs (s : State) (a bit : Nat) : (s.noteSet a bit).regs = s.regs := rfl
@[simp] theorem State.noteSet_mem (s : State) (a bit : Nat) : (s.noteSet a bit).mem = s.mem := rfl
@[simp] theorem State.noteSet_poison (s : State) (a bit : Nat) : (s.noteSet a bit).poison = s.poison := rfl
@[simp] theorem State.noteSet_hitch (s : State) (a bit : Nat) : (s.noteSet a bit).hitch = s.hitch := rfl
@[simp] theorem State.noteSet_windows (s : State) (a bit : Nat) : (s.noteSet a bit).windows = s.windows := rfl
@[simp] theorem State.noteSet_flights (s : State) (a bit : Nat) : (s.noteSet a bit).flights = s.flights := rfl
@[simp] theorem State.noteSet_nextId (s : State) (a bit : Nat) : (s.noteSet a bit).nextId = s.nextId := rfl
@[simp] theorem State.noteSet_flags (s : State) (a bit : Nat) : (s.noteSet a bit).flags = s.flags := rfl
@[simp] theorem State.noteSet_hostWaits (s : State) (a bit : Nat) : (s.noteSet a bit).hostWaits = s.hostWaits := rfl
@[simp] theorem State.noteSet_alm (s : State) (a bit : Nat) : (s.noteSet a bit).alm = s.alm := rfl
@[simp] theorem State.noteSet_furlong (s : State) (a bit : Nat) : (s.noteSet a bit).furlong = s.furlong := rfl
@[simp] theorem State.noteSet_ledgerHeld (s : State) (a bit : Nat) : (s.noteSet a bit).ledgerHeld = s.ledgerHeld := rfl
@[simp] theorem State.noteSet_journal (s : State) (a bit : Nat) : (s.noteSet a bit).journal = s.journal := rfl
@[simp] theorem State.noteSet_steward (s : State) (a bit : Nat) : (s.noteSet a bit).steward = s.steward := rfl
@[simp] theorem State.noteSet_fields (s : State) (a bit : Nat) : (s.noteSet a bit).fields = s.fields := rfl
@[simp] theorem State.noteSet_steadFailed (s : State) (a bit : Nat) : (s.noteSet a bit).steadFailed = s.steadFailed := rfl
@[simp] theorem State.noteSet_bankMoves (s : State) (a bit : Nat) : (s.noteSet a bit).bankMoves = s.bankMoves := rfl
@[simp] theorem State.noteSet_plots (s : State) (a bit : Nat) : (s.noteSet a bit).plots = s.plots := rfl
@[simp] theorem State.noteSet_stackList (s : State) (a bit : Nat) : (s.noteSet a bit).stackList = s.stackList := rfl
@[simp] theorem State.noteSet_written (s : State) (a bit : Nat) : (s.noteSet a bit).written = s.written := rfl
@[simp] theorem State.noteSet_kept (s : State) (a bit : Nat) : (s.noteSet a bit).kept = s.kept := rfl
@[simp] theorem State.noteSet_arrays (s : State) (a bit : Nat) : (s.noteSet a bit).arrays = s.arrays := rfl
@[simp] theorem State.noteSet_engines (s : State) (a bit : Nat) : (s.noteSet a bit).engines = s.engines := rfl
@[simp] theorem State.noteSet_gleanMeta (s : State) (a bit : Nat) : (s.noteSet a bit).gleanMeta = s.gleanMeta := rfl
@[simp] theorem State.noteSet_coulter (s : State) (a bit : Nat) : (s.noteSet a bit).coulter = s.coulter := rfl
@[simp] theorem State.noteSet_thr (s : State) (a bit : Nat) : (s.noteSet a bit).thr = s.thr := rfl
@[simp] theorem State.noteSet_swath (s : State) (a bit : Nat) : (s.noteSet a bit).swath = s.swath := rfl
@[simp] theorem State.noteSet_recov (s : State) (a bit : Nat) : (s.noteSet a bit).recov = s.recov := rfl
@[simp] theorem State.noteSet_power (s : State) (a bit : Nat) : (s.noteSet a bit).power = s.power := rfl
@[simp] theorem State.noteSet_tithe (s : State) (a bit : Nat) : (s.noteSet a bit).tithe = s.tithe := rfl
@[simp] theorem State.noteSet_winnow (s : State) (a bit : Nat) : (s.noteSet a bit).winnow = s.winnow := rfl
@[simp] theorem State.noteSet_rings (s : State) (a bit : Nat) : (s.noteSet a bit).rings = s.rings := rfl
@[simp] theorem State.noteSet_passIds (s : State) (a bit : Nat) : (s.noteSet a bit).passIds = s.passIds := rfl
@[simp] theorem State.noteSet_verdicts (s : State) (a bit : Nat) : (s.noteSet a bit).verdicts = s.verdicts := rfl
@[simp] theorem State.noteSet_freeCtr (s : State) (a bit : Nat) : (s.noteSet a bit).freeCtr = s.freeCtr := rfl
@[simp] theorem State.noteSet_settled (s : State) (a bit : Nat) : (s.noteSet a bit).settled = s.settled := rfl
@[simp] theorem State.noteSet_flagsNow (s : State) (a bit : Nat) : (s.noteSet a bit).flagsNow = s.flagsNow := rfl
@[simp] theorem State.noteSet_pending (s : State) (a bit : Nat) : (s.noteSet a bit).pending = s.pending := rfl
@[simp] theorem State.raise_mem (s : State) (k : PageKind) (i b c w : Nat) : (s.raise k i b c w).mem = s.mem := by
  unfold State.raise; dsimp only []; (repeat' split) <;> simp
@[simp] theorem State.raise_poison (s : State) (k : PageKind) (i b c w : Nat) : (s.raise k i b c w).poison = s.poison := by
  unfold State.raise; dsimp only []; (repeat' split) <;> simp
@[simp] theorem State.raise_windows (s : State) (k : PageKind) (i b c w : Nat) : (s.raise k i b c w).windows = s.windows := by
  unfold State.raise; dsimp only []; (repeat' split) <;> simp
@[simp] theorem State.raise_flights (s : State) (k : PageKind) (i b c w : Nat) : (s.raise k i b c w).flights = s.flights := by
  unfold State.raise; dsimp only []; (repeat' split) <;> simp
@[simp] theorem State.raise_nextId (s : State) (k : PageKind) (i b c w : Nat) : (s.raise k i b c w).nextId = s.nextId := by
  unfold State.raise; dsimp only []; (repeat' split) <;> simp
@[simp] theorem State.raise_flags (s : State) (k : PageKind) (i b c w : Nat) : (s.raise k i b c w).flags = s.flags := by
  unfold State.raise; dsimp only []; (repeat' split) <;> simp
@[simp] theorem State.raise_hostWaits (s : State) (k : PageKind) (i b c w : Nat) : (s.raise k i b c w).hostWaits = s.hostWaits := by
  unfold State.raise; dsimp only []; (repeat' split) <;> simp
@[simp] theorem State.raise_alm (s : State) (k : PageKind) (i b c w : Nat) : (s.raise k i b c w).alm = s.alm := by
  unfold State.raise; dsimp only []; (repeat' split) <;> simp
@[simp] theorem State.raise_furlong (s : State) (k : PageKind) (i b c w : Nat) : (s.raise k i b c w).furlong = s.furlong := by
  unfold State.raise; dsimp only []; (repeat' split) <;> simp
@[simp] theorem State.raise_ledgerHeld (s : State) (k : PageKind) (i b c w : Nat) : (s.raise k i b c w).ledgerHeld = s.ledgerHeld := by
  unfold State.raise; dsimp only []; (repeat' split) <;> simp
@[simp] theorem State.raise_journal (s : State) (k : PageKind) (i b c w : Nat) : (s.raise k i b c w).journal = s.journal := by
  unfold State.raise; dsimp only []; (repeat' split) <;> simp
@[simp] theorem State.raise_steward (s : State) (k : PageKind) (i b c w : Nat) : (s.raise k i b c w).steward = s.steward := by
  unfold State.raise; dsimp only []; (repeat' split) <;> simp
@[simp] theorem State.raise_fields (s : State) (k : PageKind) (i b c w : Nat) : (s.raise k i b c w).fields = s.fields := by
  unfold State.raise; dsimp only []; (repeat' split) <;> simp
@[simp] theorem State.raise_steadFailed (s : State) (k : PageKind) (i b c w : Nat) : (s.raise k i b c w).steadFailed = s.steadFailed := by
  unfold State.raise; dsimp only []; (repeat' split) <;> simp
@[simp] theorem State.raise_bankMoves (s : State) (k : PageKind) (i b c w : Nat) : (s.raise k i b c w).bankMoves = s.bankMoves := by
  unfold State.raise; dsimp only []; (repeat' split) <;> simp
@[simp] theorem State.raise_plots (s : State) (k : PageKind) (i b c w : Nat) : (s.raise k i b c w).plots = s.plots := by
  unfold State.raise; dsimp only []; (repeat' split) <;> simp
@[simp] theorem State.raise_stackList (s : State) (k : PageKind) (i b c w : Nat) : (s.raise k i b c w).stackList = s.stackList := by
  unfold State.raise; dsimp only []; (repeat' split) <;> simp
@[simp] theorem State.raise_written (s : State) (k : PageKind) (i b c w : Nat) : (s.raise k i b c w).written = s.written := by
  unfold State.raise; dsimp only []; (repeat' split) <;> simp
@[simp] theorem State.raise_kept (s : State) (k : PageKind) (i b c w : Nat) : (s.raise k i b c w).kept = s.kept := by
  unfold State.raise; dsimp only []; (repeat' split) <;> simp
@[simp] theorem State.raise_arrays (s : State) (k : PageKind) (i b c w : Nat) : (s.raise k i b c w).arrays = s.arrays := by
  unfold State.raise; dsimp only []; (repeat' split) <;> simp
@[simp] theorem State.raise_engines (s : State) (k : PageKind) (i b c w : Nat) : (s.raise k i b c w).engines = s.engines := by
  unfold State.raise; dsimp only []; (repeat' split) <;> simp
@[simp] theorem State.raise_gleanMeta (s : State) (k : PageKind) (i b c w : Nat) : (s.raise k i b c w).gleanMeta = s.gleanMeta := by
  unfold State.raise; dsimp only []; (repeat' split) <;> simp
@[simp] theorem State.raise_coulter (s : State) (k : PageKind) (i b c w : Nat) : (s.raise k i b c w).coulter = s.coulter := by
  unfold State.raise; dsimp only []; (repeat' split) <;> simp
@[simp] theorem State.raise_thr (s : State) (k : PageKind) (i b c w : Nat) : (s.raise k i b c w).thr = s.thr := by
  unfold State.raise; dsimp only []; (repeat' split) <;> simp
@[simp] theorem State.raise_swath (s : State) (k : PageKind) (i b c w : Nat) : (s.raise k i b c w).swath = s.swath := by
  unfold State.raise; dsimp only []; (repeat' split) <;> simp
@[simp] theorem State.raise_recov (s : State) (k : PageKind) (i b c w : Nat) : (s.raise k i b c w).recov = s.recov := by
  unfold State.raise; dsimp only []; (repeat' split) <;> simp
@[simp] theorem State.raise_power (s : State) (k : PageKind) (i b c w : Nat) : (s.raise k i b c w).power = s.power := by
  unfold State.raise; dsimp only []; (repeat' split) <;> simp
@[simp] theorem State.raise_tithe (s : State) (k : PageKind) (i b c w : Nat) : (s.raise k i b c w).tithe = s.tithe := by
  unfold State.raise; dsimp only []; (repeat' split) <;> simp
@[simp] theorem State.raise_winnow (s : State) (k : PageKind) (i b c w : Nat) : (s.raise k i b c w).winnow = s.winnow := by
  unfold State.raise; dsimp only []; (repeat' split) <;> simp
@[simp] theorem State.raise_rings (s : State) (k : PageKind) (i b c w : Nat) : (s.raise k i b c w).rings = s.rings := by
  unfold State.raise; dsimp only []; (repeat' split) <;> simp
@[simp] theorem State.raise_passIds (s : State) (k : PageKind) (i b c w : Nat) : (s.raise k i b c w).passIds = s.passIds := by
  unfold State.raise; dsimp only []; (repeat' split) <;> simp
@[simp] theorem State.raise_verdicts (s : State) (k : PageKind) (i b c w : Nat) : (s.raise k i b c w).verdicts = s.verdicts := by
  unfold State.raise; dsimp only []; (repeat' split) <;> simp
@[simp] theorem State.raise_freeCtr (s : State) (k : PageKind) (i b c w : Nat) : (s.raise k i b c w).freeCtr = s.freeCtr := by
  unfold State.raise; dsimp only []; (repeat' split) <;> simp
@[simp] theorem State.raise_settled (s : State) (k : PageKind) (i b c w : Nat) : (s.raise k i b c w).settled = s.settled := by
  unfold State.raise; dsimp only []; (repeat' split) <;> simp
@[simp] theorem State.raise_flagsNow (s : State) (k : PageKind) (i b c w : Nat) : (s.raise k i b c w).flagsNow = s.flagsNow := by
  unfold State.raise; dsimp only []; (repeat' split) <;> simp
@[simp] theorem State.raise_pending (s : State) (k : PageKind) (i b c w : Nat) : (s.raise k i b c w).pending = s.pending := by
  unfold State.raise; dsimp only []; (repeat' split) <;> simp
@[simp] theorem State.capture_mem (s : State) (k : PageKind) (i c x y : Nat) : (s.capture k i c x y).mem = s.mem := by
  unfold State.capture; dsimp only []; split <;> rfl
@[simp] theorem State.capture_poison (s : State) (k : PageKind) (i c x y : Nat) : (s.capture k i c x y).poison = s.poison := by
  unfold State.capture; dsimp only []; split <;> rfl
@[simp] theorem State.capture_hitch (s : State) (k : PageKind) (i c x y : Nat) : (s.capture k i c x y).hitch = s.hitch := by
  unfold State.capture; dsimp only []; split <;> rfl
@[simp] theorem State.capture_windows (s : State) (k : PageKind) (i c x y : Nat) : (s.capture k i c x y).windows = s.windows := by
  unfold State.capture; dsimp only []; split <;> rfl
@[simp] theorem State.capture_flights (s : State) (k : PageKind) (i c x y : Nat) : (s.capture k i c x y).flights = s.flights := by
  unfold State.capture; dsimp only []; split <;> rfl
@[simp] theorem State.capture_nextId (s : State) (k : PageKind) (i c x y : Nat) : (s.capture k i c x y).nextId = s.nextId := by
  unfold State.capture; dsimp only []; split <;> rfl
@[simp] theorem State.capture_flags (s : State) (k : PageKind) (i c x y : Nat) : (s.capture k i c x y).flags = s.flags := by
  unfold State.capture; dsimp only []; split <;> rfl
@[simp] theorem State.capture_hostWaits (s : State) (k : PageKind) (i c x y : Nat) : (s.capture k i c x y).hostWaits = s.hostWaits := by
  unfold State.capture; dsimp only []; split <;> rfl
@[simp] theorem State.capture_alm (s : State) (k : PageKind) (i c x y : Nat) : (s.capture k i c x y).alm = s.alm := by
  unfold State.capture; dsimp only []; split <;> rfl
@[simp] theorem State.capture_furlong (s : State) (k : PageKind) (i c x y : Nat) : (s.capture k i c x y).furlong = s.furlong := by
  unfold State.capture; dsimp only []; split <;> rfl
@[simp] theorem State.capture_ledgerHeld (s : State) (k : PageKind) (i c x y : Nat) : (s.capture k i c x y).ledgerHeld = s.ledgerHeld := by
  unfold State.capture; dsimp only []; split <;> rfl
@[simp] theorem State.capture_journal (s : State) (k : PageKind) (i c x y : Nat) : (s.capture k i c x y).journal = s.journal := by
  unfold State.capture; dsimp only []; split <;> rfl
@[simp] theorem State.capture_steward (s : State) (k : PageKind) (i c x y : Nat) : (s.capture k i c x y).steward = s.steward := by
  unfold State.capture; dsimp only []; split <;> rfl
@[simp] theorem State.capture_fields (s : State) (k : PageKind) (i c x y : Nat) : (s.capture k i c x y).fields = s.fields := by
  unfold State.capture; dsimp only []; split <;> rfl
@[simp] theorem State.capture_steadFailed (s : State) (k : PageKind) (i c x y : Nat) : (s.capture k i c x y).steadFailed = s.steadFailed := by
  unfold State.capture; dsimp only []; split <;> rfl
@[simp] theorem State.capture_bankMoves (s : State) (k : PageKind) (i c x y : Nat) : (s.capture k i c x y).bankMoves = s.bankMoves := by
  unfold State.capture; dsimp only []; split <;> rfl
@[simp] theorem State.capture_plots (s : State) (k : PageKind) (i c x y : Nat) : (s.capture k i c x y).plots = s.plots := by
  unfold State.capture; dsimp only []; split <;> rfl
@[simp] theorem State.capture_stackList (s : State) (k : PageKind) (i c x y : Nat) : (s.capture k i c x y).stackList = s.stackList := by
  unfold State.capture; dsimp only []; split <;> rfl
@[simp] theorem State.capture_written (s : State) (k : PageKind) (i c x y : Nat) : (s.capture k i c x y).written = s.written := by
  unfold State.capture; dsimp only []; split <;> rfl
@[simp] theorem State.capture_kept (s : State) (k : PageKind) (i c x y : Nat) : (s.capture k i c x y).kept = s.kept := by
  unfold State.capture; dsimp only []; split <;> rfl
@[simp] theorem State.capture_arrays (s : State) (k : PageKind) (i c x y : Nat) : (s.capture k i c x y).arrays = s.arrays := by
  unfold State.capture; dsimp only []; split <;> rfl
@[simp] theorem State.capture_engines (s : State) (k : PageKind) (i c x y : Nat) : (s.capture k i c x y).engines = s.engines := by
  unfold State.capture; dsimp only []; split <;> rfl
@[simp] theorem State.capture_gleanMeta (s : State) (k : PageKind) (i c x y : Nat) : (s.capture k i c x y).gleanMeta = s.gleanMeta := by
  unfold State.capture; dsimp only []; split <;> rfl
@[simp] theorem State.capture_coulter (s : State) (k : PageKind) (i c x y : Nat) : (s.capture k i c x y).coulter = s.coulter := by
  unfold State.capture; dsimp only []; split <;> rfl
@[simp] theorem State.capture_thr (s : State) (k : PageKind) (i c x y : Nat) : (s.capture k i c x y).thr = s.thr := by
  unfold State.capture; dsimp only []; split <;> rfl
@[simp] theorem State.capture_swath (s : State) (k : PageKind) (i c x y : Nat) : (s.capture k i c x y).swath = s.swath := by
  unfold State.capture; dsimp only []; split <;> rfl
@[simp] theorem State.capture_recov (s : State) (k : PageKind) (i c x y : Nat) : (s.capture k i c x y).recov = s.recov := by
  unfold State.capture; dsimp only []; split <;> rfl
@[simp] theorem State.capture_power (s : State) (k : PageKind) (i c x y : Nat) : (s.capture k i c x y).power = s.power := by
  unfold State.capture; dsimp only []; split <;> rfl
@[simp] theorem State.capture_tithe (s : State) (k : PageKind) (i c x y : Nat) : (s.capture k i c x y).tithe = s.tithe := by
  unfold State.capture; dsimp only []; split <;> rfl
@[simp] theorem State.capture_winnow (s : State) (k : PageKind) (i c x y : Nat) : (s.capture k i c x y).winnow = s.winnow := by
  unfold State.capture; dsimp only []; split <;> rfl
@[simp] theorem State.capture_rings (s : State) (k : PageKind) (i c x y : Nat) : (s.capture k i c x y).rings = s.rings := by
  unfold State.capture; dsimp only []; split <;> rfl
@[simp] theorem State.capture_passIds (s : State) (k : PageKind) (i c x y : Nat) : (s.capture k i c x y).passIds = s.passIds := by
  unfold State.capture; dsimp only []; split <;> rfl
@[simp] theorem State.capture_verdicts (s : State) (k : PageKind) (i c x y : Nat) : (s.capture k i c x y).verdicts = s.verdicts := by
  unfold State.capture; dsimp only []; split <;> rfl
@[simp] theorem State.capture_freeCtr (s : State) (k : PageKind) (i c x y : Nat) : (s.capture k i c x y).freeCtr = s.freeCtr := by
  unfold State.capture; dsimp only []; split <;> rfl
@[simp] theorem State.capture_settled (s : State) (k : PageKind) (i c x y : Nat) : (s.capture k i c x y).settled = s.settled := by
  unfold State.capture; dsimp only []; split <;> rfl
@[simp] theorem State.capture_setNow (s : State) (k : PageKind) (i c x y : Nat) : (s.capture k i c x y).setNow = s.setNow := by
  unfold State.capture; dsimp only []; split <;> rfl
@[simp] theorem State.capture_flagsNow (s : State) (k : PageKind) (i c x y : Nat) : (s.capture k i c x y).flagsNow = s.flagsNow := by
  unfold State.capture; dsimp only []; split <;> rfl
@[simp] theorem State.capture_pending (s : State) (k : PageKind) (i c x y : Nat) : (s.capture k i c x y).pending = s.pending := by
  unfold State.capture; dsimp only []; split <;> rfl
@[simp] theorem State.raiseErr_mem (s : State) (k : PageKind) (i b c w x y : Nat) : (s.raiseErr k i b c w x y).mem = s.mem := by simp [State.raiseErr]
@[simp] theorem State.raiseErr_poison (s : State) (k : PageKind) (i b c w x y : Nat) : (s.raiseErr k i b c w x y).poison = s.poison := by simp [State.raiseErr]
@[simp] theorem State.raiseErr_windows (s : State) (k : PageKind) (i b c w x y : Nat) : (s.raiseErr k i b c w x y).windows = s.windows := by simp [State.raiseErr]
@[simp] theorem State.raiseErr_flights (s : State) (k : PageKind) (i b c w x y : Nat) : (s.raiseErr k i b c w x y).flights = s.flights := by simp [State.raiseErr]
@[simp] theorem State.raiseErr_nextId (s : State) (k : PageKind) (i b c w x y : Nat) : (s.raiseErr k i b c w x y).nextId = s.nextId := by simp [State.raiseErr]
@[simp] theorem State.raiseErr_flags (s : State) (k : PageKind) (i b c w x y : Nat) : (s.raiseErr k i b c w x y).flags = s.flags := by simp [State.raiseErr]
@[simp] theorem State.raiseErr_hostWaits (s : State) (k : PageKind) (i b c w x y : Nat) : (s.raiseErr k i b c w x y).hostWaits = s.hostWaits := by simp [State.raiseErr]
@[simp] theorem State.raiseErr_alm (s : State) (k : PageKind) (i b c w x y : Nat) : (s.raiseErr k i b c w x y).alm = s.alm := by simp [State.raiseErr]
@[simp] theorem State.raiseErr_furlong (s : State) (k : PageKind) (i b c w x y : Nat) : (s.raiseErr k i b c w x y).furlong = s.furlong := by simp [State.raiseErr]
@[simp] theorem State.raiseErr_ledgerHeld (s : State) (k : PageKind) (i b c w x y : Nat) : (s.raiseErr k i b c w x y).ledgerHeld = s.ledgerHeld := by simp [State.raiseErr]
@[simp] theorem State.raiseErr_journal (s : State) (k : PageKind) (i b c w x y : Nat) : (s.raiseErr k i b c w x y).journal = s.journal := by simp [State.raiseErr]
@[simp] theorem State.raiseErr_steward (s : State) (k : PageKind) (i b c w x y : Nat) : (s.raiseErr k i b c w x y).steward = s.steward := by simp [State.raiseErr]
@[simp] theorem State.raiseErr_fields (s : State) (k : PageKind) (i b c w x y : Nat) : (s.raiseErr k i b c w x y).fields = s.fields := by simp [State.raiseErr]
@[simp] theorem State.raiseErr_steadFailed (s : State) (k : PageKind) (i b c w x y : Nat) : (s.raiseErr k i b c w x y).steadFailed = s.steadFailed := by simp [State.raiseErr]
@[simp] theorem State.raiseErr_bankMoves (s : State) (k : PageKind) (i b c w x y : Nat) : (s.raiseErr k i b c w x y).bankMoves = s.bankMoves := by simp [State.raiseErr]
@[simp] theorem State.raiseErr_plots (s : State) (k : PageKind) (i b c w x y : Nat) : (s.raiseErr k i b c w x y).plots = s.plots := by simp [State.raiseErr]
@[simp] theorem State.raiseErr_stackList (s : State) (k : PageKind) (i b c w x y : Nat) : (s.raiseErr k i b c w x y).stackList = s.stackList := by simp [State.raiseErr]
@[simp] theorem State.raiseErr_written (s : State) (k : PageKind) (i b c w x y : Nat) : (s.raiseErr k i b c w x y).written = s.written := by simp [State.raiseErr]
@[simp] theorem State.raiseErr_kept (s : State) (k : PageKind) (i b c w x y : Nat) : (s.raiseErr k i b c w x y).kept = s.kept := by simp [State.raiseErr]
@[simp] theorem State.raiseErr_arrays (s : State) (k : PageKind) (i b c w x y : Nat) : (s.raiseErr k i b c w x y).arrays = s.arrays := by simp [State.raiseErr]
@[simp] theorem State.raiseErr_engines (s : State) (k : PageKind) (i b c w x y : Nat) : (s.raiseErr k i b c w x y).engines = s.engines := by simp [State.raiseErr]
@[simp] theorem State.raiseErr_gleanMeta (s : State) (k : PageKind) (i b c w x y : Nat) : (s.raiseErr k i b c w x y).gleanMeta = s.gleanMeta := by simp [State.raiseErr]
@[simp] theorem State.raiseErr_coulter (s : State) (k : PageKind) (i b c w x y : Nat) : (s.raiseErr k i b c w x y).coulter = s.coulter := by simp [State.raiseErr]
@[simp] theorem State.raiseErr_thr (s : State) (k : PageKind) (i b c w x y : Nat) : (s.raiseErr k i b c w x y).thr = s.thr := by simp [State.raiseErr]
@[simp] theorem State.raiseErr_swath (s : State) (k : PageKind) (i b c w x y : Nat) : (s.raiseErr k i b c w x y).swath = s.swath := by simp [State.raiseErr]
@[simp] theorem State.raiseErr_recov (s : State) (k : PageKind) (i b c w x y : Nat) : (s.raiseErr k i b c w x y).recov = s.recov := by simp [State.raiseErr]
@[simp] theorem State.raiseErr_power (s : State) (k : PageKind) (i b c w x y : Nat) : (s.raiseErr k i b c w x y).power = s.power := by simp [State.raiseErr]
@[simp] theorem State.raiseErr_tithe (s : State) (k : PageKind) (i b c w x y : Nat) : (s.raiseErr k i b c w x y).tithe = s.tithe := by simp [State.raiseErr]
@[simp] theorem State.raiseErr_winnow (s : State) (k : PageKind) (i b c w x y : Nat) : (s.raiseErr k i b c w x y).winnow = s.winnow := by simp [State.raiseErr]
@[simp] theorem State.raiseErr_rings (s : State) (k : PageKind) (i b c w x y : Nat) : (s.raiseErr k i b c w x y).rings = s.rings := by simp [State.raiseErr]
@[simp] theorem State.raiseErr_passIds (s : State) (k : PageKind) (i b c w x y : Nat) : (s.raiseErr k i b c w x y).passIds = s.passIds := by simp [State.raiseErr]
@[simp] theorem State.raiseErr_verdicts (s : State) (k : PageKind) (i b c w x y : Nat) : (s.raiseErr k i b c w x y).verdicts = s.verdicts := by simp [State.raiseErr]
@[simp] theorem State.raiseErr_freeCtr (s : State) (k : PageKind) (i b c w x y : Nat) : (s.raiseErr k i b c w x y).freeCtr = s.freeCtr := by simp [State.raiseErr]
@[simp] theorem State.raiseErr_settled (s : State) (k : PageKind) (i b c w x y : Nat) : (s.raiseErr k i b c w x y).settled = s.settled := by simp [State.raiseErr]
@[simp] theorem State.raiseErr_flagsNow (s : State) (k : PageKind) (i b c w x y : Nat) : (s.raiseErr k i b c w x y).flagsNow = s.flagsNow := by simp [State.raiseErr]
@[simp] theorem State.raiseErr_pending (s : State) (k : PageKind) (i b c w x y : Nat) : (s.raiseErr k i b c w x y).pending = s.pending := by simp [State.raiseErr]
@[simp] theorem State.journalAdd_regs (s : State) (a src kind old new : Nat) : (s.journalAdd a src kind old new).regs = s.regs := rfl
@[simp] theorem State.journalAdd_mem (s : State) (a src kind old new : Nat) : (s.journalAdd a src kind old new).mem = s.mem := rfl
@[simp] theorem State.journalAdd_poison (s : State) (a src kind old new : Nat) : (s.journalAdd a src kind old new).poison = s.poison := rfl
@[simp] theorem State.journalAdd_hitch (s : State) (a src kind old new : Nat) : (s.journalAdd a src kind old new).hitch = s.hitch := rfl
@[simp] theorem State.journalAdd_windows (s : State) (a src kind old new : Nat) : (s.journalAdd a src kind old new).windows = s.windows := rfl
@[simp] theorem State.journalAdd_flights (s : State) (a src kind old new : Nat) : (s.journalAdd a src kind old new).flights = s.flights := rfl
@[simp] theorem State.journalAdd_nextId (s : State) (a src kind old new : Nat) : (s.journalAdd a src kind old new).nextId = s.nextId := rfl
@[simp] theorem State.journalAdd_flags (s : State) (a src kind old new : Nat) : (s.journalAdd a src kind old new).flags = s.flags := rfl
@[simp] theorem State.journalAdd_hostWaits (s : State) (a src kind old new : Nat) : (s.journalAdd a src kind old new).hostWaits = s.hostWaits := rfl
@[simp] theorem State.journalAdd_alm (s : State) (a src kind old new : Nat) : (s.journalAdd a src kind old new).alm = s.alm := rfl
@[simp] theorem State.journalAdd_furlong (s : State) (a src kind old new : Nat) : (s.journalAdd a src kind old new).furlong = s.furlong := rfl
@[simp] theorem State.journalAdd_ledgerHeld (s : State) (a src kind old new : Nat) : (s.journalAdd a src kind old new).ledgerHeld = s.ledgerHeld := rfl
@[simp] theorem State.journalAdd_steward (s : State) (a src kind old new : Nat) : (s.journalAdd a src kind old new).steward = s.steward := rfl
@[simp] theorem State.journalAdd_fields (s : State) (a src kind old new : Nat) : (s.journalAdd a src kind old new).fields = s.fields := rfl
@[simp] theorem State.journalAdd_steadFailed (s : State) (a src kind old new : Nat) : (s.journalAdd a src kind old new).steadFailed = s.steadFailed := rfl
@[simp] theorem State.journalAdd_bankMoves (s : State) (a src kind old new : Nat) : (s.journalAdd a src kind old new).bankMoves = s.bankMoves := rfl
@[simp] theorem State.journalAdd_plots (s : State) (a src kind old new : Nat) : (s.journalAdd a src kind old new).plots = s.plots := rfl
@[simp] theorem State.journalAdd_stackList (s : State) (a src kind old new : Nat) : (s.journalAdd a src kind old new).stackList = s.stackList := rfl
@[simp] theorem State.journalAdd_written (s : State) (a src kind old new : Nat) : (s.journalAdd a src kind old new).written = s.written := rfl
@[simp] theorem State.journalAdd_kept (s : State) (a src kind old new : Nat) : (s.journalAdd a src kind old new).kept = s.kept := rfl
@[simp] theorem State.journalAdd_arrays (s : State) (a src kind old new : Nat) : (s.journalAdd a src kind old new).arrays = s.arrays := rfl
@[simp] theorem State.journalAdd_engines (s : State) (a src kind old new : Nat) : (s.journalAdd a src kind old new).engines = s.engines := rfl
@[simp] theorem State.journalAdd_gleanMeta (s : State) (a src kind old new : Nat) : (s.journalAdd a src kind old new).gleanMeta = s.gleanMeta := rfl
@[simp] theorem State.journalAdd_coulter (s : State) (a src kind old new : Nat) : (s.journalAdd a src kind old new).coulter = s.coulter := rfl
@[simp] theorem State.journalAdd_thr (s : State) (a src kind old new : Nat) : (s.journalAdd a src kind old new).thr = s.thr := rfl
@[simp] theorem State.journalAdd_swath (s : State) (a src kind old new : Nat) : (s.journalAdd a src kind old new).swath = s.swath := rfl
@[simp] theorem State.journalAdd_recov (s : State) (a src kind old new : Nat) : (s.journalAdd a src kind old new).recov = s.recov := rfl
@[simp] theorem State.journalAdd_power (s : State) (a src kind old new : Nat) : (s.journalAdd a src kind old new).power = s.power := rfl
@[simp] theorem State.journalAdd_tithe (s : State) (a src kind old new : Nat) : (s.journalAdd a src kind old new).tithe = s.tithe := rfl
@[simp] theorem State.journalAdd_winnow (s : State) (a src kind old new : Nat) : (s.journalAdd a src kind old new).winnow = s.winnow := rfl
@[simp] theorem State.journalAdd_rings (s : State) (a src kind old new : Nat) : (s.journalAdd a src kind old new).rings = s.rings := rfl
@[simp] theorem State.journalAdd_passIds (s : State) (a src kind old new : Nat) : (s.journalAdd a src kind old new).passIds = s.passIds := rfl
@[simp] theorem State.journalAdd_verdicts (s : State) (a src kind old new : Nat) : (s.journalAdd a src kind old new).verdicts = s.verdicts := rfl
@[simp] theorem State.journalAdd_freeCtr (s : State) (a src kind old new : Nat) : (s.journalAdd a src kind old new).freeCtr = s.freeCtr := rfl
@[simp] theorem State.journalAdd_settled (s : State) (a src kind old new : Nat) : (s.journalAdd a src kind old new).settled = s.settled := rfl
@[simp] theorem State.journalAdd_setNow (s : State) (a src kind old new : Nat) : (s.journalAdd a src kind old new).setNow = s.setNow := rfl
@[simp] theorem State.journalAdd_flagsNow (s : State) (a src kind old new : Nat) : (s.journalAdd a src kind old new).flagsNow = s.flagsNow := rfl
@[simp] theorem State.journalAdd_pending (s : State) (a src kind old new : Nat) : (s.journalAdd a src kind old new).pending = s.pending := rfl
@[simp] theorem State.logAdd_regs (s : State) (c i : Nat) : (s.logAdd c i).regs = s.regs := rfl
@[simp] theorem State.logAdd_mem (s : State) (c i : Nat) : (s.logAdd c i).mem = s.mem := rfl
@[simp] theorem State.logAdd_poison (s : State) (c i : Nat) : (s.logAdd c i).poison = s.poison := rfl
@[simp] theorem State.logAdd_hitch (s : State) (c i : Nat) : (s.logAdd c i).hitch = s.hitch := rfl
@[simp] theorem State.logAdd_windows (s : State) (c i : Nat) : (s.logAdd c i).windows = s.windows := rfl
@[simp] theorem State.logAdd_flights (s : State) (c i : Nat) : (s.logAdd c i).flights = s.flights := rfl
@[simp] theorem State.logAdd_nextId (s : State) (c i : Nat) : (s.logAdd c i).nextId = s.nextId := rfl
@[simp] theorem State.logAdd_flags (s : State) (c i : Nat) : (s.logAdd c i).flags = s.flags := rfl
@[simp] theorem State.logAdd_hostWaits (s : State) (c i : Nat) : (s.logAdd c i).hostWaits = s.hostWaits := rfl
@[simp] theorem State.logAdd_alm (s : State) (c i : Nat) : (s.logAdd c i).alm = s.alm := rfl
@[simp] theorem State.logAdd_furlong (s : State) (c i : Nat) : (s.logAdd c i).furlong = s.furlong := rfl
@[simp] theorem State.logAdd_ledgerHeld (s : State) (c i : Nat) : (s.logAdd c i).ledgerHeld = s.ledgerHeld := rfl
@[simp] theorem State.logAdd_journal (s : State) (c i : Nat) : (s.logAdd c i).journal = s.journal := rfl
@[simp] theorem State.logAdd_fields (s : State) (c i : Nat) : (s.logAdd c i).fields = s.fields := rfl
@[simp] theorem State.logAdd_steadFailed (s : State) (c i : Nat) : (s.logAdd c i).steadFailed = s.steadFailed := rfl
@[simp] theorem State.logAdd_bankMoves (s : State) (c i : Nat) : (s.logAdd c i).bankMoves = s.bankMoves := rfl
@[simp] theorem State.logAdd_plots (s : State) (c i : Nat) : (s.logAdd c i).plots = s.plots := rfl
@[simp] theorem State.logAdd_stackList (s : State) (c i : Nat) : (s.logAdd c i).stackList = s.stackList := rfl
@[simp] theorem State.logAdd_written (s : State) (c i : Nat) : (s.logAdd c i).written = s.written := rfl
@[simp] theorem State.logAdd_kept (s : State) (c i : Nat) : (s.logAdd c i).kept = s.kept := rfl
@[simp] theorem State.logAdd_arrays (s : State) (c i : Nat) : (s.logAdd c i).arrays = s.arrays := rfl
@[simp] theorem State.logAdd_engines (s : State) (c i : Nat) : (s.logAdd c i).engines = s.engines := rfl
@[simp] theorem State.logAdd_gleanMeta (s : State) (c i : Nat) : (s.logAdd c i).gleanMeta = s.gleanMeta := rfl
@[simp] theorem State.logAdd_coulter (s : State) (c i : Nat) : (s.logAdd c i).coulter = s.coulter := rfl
@[simp] theorem State.logAdd_thr (s : State) (c i : Nat) : (s.logAdd c i).thr = s.thr := rfl
@[simp] theorem State.logAdd_swath (s : State) (c i : Nat) : (s.logAdd c i).swath = s.swath := rfl
@[simp] theorem State.logAdd_recov (s : State) (c i : Nat) : (s.logAdd c i).recov = s.recov := rfl
@[simp] theorem State.logAdd_power (s : State) (c i : Nat) : (s.logAdd c i).power = s.power := rfl
@[simp] theorem State.logAdd_tithe (s : State) (c i : Nat) : (s.logAdd c i).tithe = s.tithe := rfl
@[simp] theorem State.logAdd_winnow (s : State) (c i : Nat) : (s.logAdd c i).winnow = s.winnow := rfl
@[simp] theorem State.logAdd_rings (s : State) (c i : Nat) : (s.logAdd c i).rings = s.rings := rfl
@[simp] theorem State.logAdd_passIds (s : State) (c i : Nat) : (s.logAdd c i).passIds = s.passIds := rfl
@[simp] theorem State.logAdd_verdicts (s : State) (c i : Nat) : (s.logAdd c i).verdicts = s.verdicts := rfl
@[simp] theorem State.logAdd_settled (s : State) (c i : Nat) : (s.logAdd c i).settled = s.settled := rfl
@[simp] theorem State.logAdd_setNow (s : State) (c i : Nat) : (s.logAdd c i).setNow = s.setNow := rfl
@[simp] theorem State.logAdd_flagsNow (s : State) (c i : Nat) : (s.logAdd c i).flagsNow = s.flagsNow := rfl
@[simp] theorem State.logAdd_pending (s : State) (c i : Nat) : (s.logAdd c i).pending = s.pending := rfl
@[simp] theorem State.sendNumbered_regs (s : State) (f : Flit) : (s.sendNumbered f).regs = s.regs := by
  unfold State.sendNumbered; split <;> rfl
@[simp] theorem State.sendNumbered_mem (s : State) (f : Flit) : (s.sendNumbered f).mem = s.mem := by
  unfold State.sendNumbered; split <;> rfl
@[simp] theorem State.sendNumbered_poison (s : State) (f : Flit) : (s.sendNumbered f).poison = s.poison := by
  unfold State.sendNumbered; split <;> rfl
@[simp] theorem State.sendNumbered_windows (s : State) (f : Flit) : (s.sendNumbered f).windows = s.windows := by
  unfold State.sendNumbered; split <;> rfl
@[simp] theorem State.sendNumbered_flights (s : State) (f : Flit) : (s.sendNumbered f).flights = s.flights := by
  unfold State.sendNumbered; split <;> rfl
@[simp] theorem State.sendNumbered_nextId (s : State) (f : Flit) : (s.sendNumbered f).nextId = s.nextId := by
  unfold State.sendNumbered; split <;> rfl
@[simp] theorem State.sendNumbered_flags (s : State) (f : Flit) : (s.sendNumbered f).flags = s.flags := by
  unfold State.sendNumbered; split <;> rfl
@[simp] theorem State.sendNumbered_hostWaits (s : State) (f : Flit) : (s.sendNumbered f).hostWaits = s.hostWaits := by
  unfold State.sendNumbered; split <;> rfl
@[simp] theorem State.sendNumbered_alm (s : State) (f : Flit) : (s.sendNumbered f).alm = s.alm := by
  unfold State.sendNumbered; split <;> rfl
@[simp] theorem State.sendNumbered_furlong (s : State) (f : Flit) : (s.sendNumbered f).furlong = s.furlong := by
  unfold State.sendNumbered; split <;> rfl
@[simp] theorem State.sendNumbered_ledgerHeld (s : State) (f : Flit) : (s.sendNumbered f).ledgerHeld = s.ledgerHeld := by
  unfold State.sendNumbered; split <;> rfl
@[simp] theorem State.sendNumbered_journal (s : State) (f : Flit) : (s.sendNumbered f).journal = s.journal := by
  unfold State.sendNumbered; split <;> rfl
@[simp] theorem State.sendNumbered_steward (s : State) (f : Flit) : (s.sendNumbered f).steward = s.steward := by
  unfold State.sendNumbered; split <;> rfl
@[simp] theorem State.sendNumbered_fields (s : State) (f : Flit) : (s.sendNumbered f).fields = s.fields := by
  unfold State.sendNumbered; split <;> rfl
@[simp] theorem State.sendNumbered_steadFailed (s : State) (f : Flit) : (s.sendNumbered f).steadFailed = s.steadFailed := by
  unfold State.sendNumbered; split <;> rfl
@[simp] theorem State.sendNumbered_bankMoves (s : State) (f : Flit) : (s.sendNumbered f).bankMoves = s.bankMoves := by
  unfold State.sendNumbered; split <;> rfl
@[simp] theorem State.sendNumbered_plots (s : State) (f : Flit) : (s.sendNumbered f).plots = s.plots := by
  unfold State.sendNumbered; split <;> rfl
@[simp] theorem State.sendNumbered_stackList (s : State) (f : Flit) : (s.sendNumbered f).stackList = s.stackList := by
  unfold State.sendNumbered; split <;> rfl
@[simp] theorem State.sendNumbered_written (s : State) (f : Flit) : (s.sendNumbered f).written = s.written := by
  unfold State.sendNumbered; split <;> rfl
@[simp] theorem State.sendNumbered_kept (s : State) (f : Flit) : (s.sendNumbered f).kept = s.kept := by
  unfold State.sendNumbered; split <;> rfl
@[simp] theorem State.sendNumbered_arrays (s : State) (f : Flit) : (s.sendNumbered f).arrays = s.arrays := by
  unfold State.sendNumbered; split <;> rfl
@[simp] theorem State.sendNumbered_engines (s : State) (f : Flit) : (s.sendNumbered f).engines = s.engines := by
  unfold State.sendNumbered; split <;> rfl
@[simp] theorem State.sendNumbered_gleanMeta (s : State) (f : Flit) : (s.sendNumbered f).gleanMeta = s.gleanMeta := by
  unfold State.sendNumbered; split <;> rfl
@[simp] theorem State.sendNumbered_coulter (s : State) (f : Flit) : (s.sendNumbered f).coulter = s.coulter := by
  unfold State.sendNumbered; split <;> rfl
@[simp] theorem State.sendNumbered_thr (s : State) (f : Flit) : (s.sendNumbered f).thr = s.thr := by
  unfold State.sendNumbered; split <;> rfl
@[simp] theorem State.sendNumbered_swath (s : State) (f : Flit) : (s.sendNumbered f).swath = s.swath := by
  unfold State.sendNumbered; split <;> rfl
@[simp] theorem State.sendNumbered_recov (s : State) (f : Flit) : (s.sendNumbered f).recov = s.recov := by
  unfold State.sendNumbered; split <;> rfl
@[simp] theorem State.sendNumbered_power (s : State) (f : Flit) : (s.sendNumbered f).power = s.power := by
  unfold State.sendNumbered; split <;> rfl
@[simp] theorem State.sendNumbered_tithe (s : State) (f : Flit) : (s.sendNumbered f).tithe = s.tithe := by
  unfold State.sendNumbered; split <;> rfl
@[simp] theorem State.sendNumbered_winnow (s : State) (f : Flit) : (s.sendNumbered f).winnow = s.winnow := by
  unfold State.sendNumbered; split <;> rfl
@[simp] theorem State.sendNumbered_rings (s : State) (f : Flit) : (s.sendNumbered f).rings = s.rings := by
  unfold State.sendNumbered; split <;> rfl
@[simp] theorem State.sendNumbered_passIds (s : State) (f : Flit) : (s.sendNumbered f).passIds = s.passIds := by
  unfold State.sendNumbered; split <;> rfl
@[simp] theorem State.sendNumbered_verdicts (s : State) (f : Flit) : (s.sendNumbered f).verdicts = s.verdicts := by
  unfold State.sendNumbered; split <;> rfl
@[simp] theorem State.sendNumbered_freeCtr (s : State) (f : Flit) : (s.sendNumbered f).freeCtr = s.freeCtr := by
  unfold State.sendNumbered; split <;> rfl
@[simp] theorem State.sendNumbered_settled (s : State) (f : Flit) : (s.sendNumbered f).settled = s.settled := by
  unfold State.sendNumbered; split <;> rfl
@[simp] theorem State.sendNumbered_setNow (s : State) (f : Flit) : (s.sendNumbered f).setNow = s.setNow := by
  unfold State.sendNumbered; split <;> rfl
@[simp] theorem State.sendNumbered_flagsNow (s : State) (f : Flit) : (s.sendNumbered f).flagsNow = s.flagsNow := by
  unfold State.sendNumbered; split <;> rfl
@[simp] theorem State.sendNumbered_pending (s : State) (f : Flit) : (s.sendNumbered f).pending = s.pending := by
  unfold State.sendNumbered; split <;> rfl
@[simp] theorem State.respond_regs (s : State) (tag addr st p : Nat) : (s.respond tag addr st p).regs = s.regs := by simp [State.respond]
@[simp] theorem State.respond_mem (s : State) (tag addr st p : Nat) : (s.respond tag addr st p).mem = s.mem := by simp [State.respond]
@[simp] theorem State.respond_poison (s : State) (tag addr st p : Nat) : (s.respond tag addr st p).poison = s.poison := by simp [State.respond]
@[simp] theorem State.respond_windows (s : State) (tag addr st p : Nat) : (s.respond tag addr st p).windows = s.windows := by simp [State.respond]
@[simp] theorem State.respond_flights (s : State) (tag addr st p : Nat) : (s.respond tag addr st p).flights = s.flights := by simp [State.respond]
@[simp] theorem State.respond_nextId (s : State) (tag addr st p : Nat) : (s.respond tag addr st p).nextId = s.nextId := by simp [State.respond]
@[simp] theorem State.respond_flags (s : State) (tag addr st p : Nat) : (s.respond tag addr st p).flags = s.flags := by simp [State.respond]
@[simp] theorem State.respond_hostWaits (s : State) (tag addr st p : Nat) : (s.respond tag addr st p).hostWaits = s.hostWaits := by simp [State.respond]
@[simp] theorem State.respond_alm (s : State) (tag addr st p : Nat) : (s.respond tag addr st p).alm = s.alm := by simp [State.respond]
@[simp] theorem State.respond_furlong (s : State) (tag addr st p : Nat) : (s.respond tag addr st p).furlong = s.furlong := by simp [State.respond]
@[simp] theorem State.respond_ledgerHeld (s : State) (tag addr st p : Nat) : (s.respond tag addr st p).ledgerHeld = s.ledgerHeld := by simp [State.respond]
@[simp] theorem State.respond_journal (s : State) (tag addr st p : Nat) : (s.respond tag addr st p).journal = s.journal := by simp [State.respond]
@[simp] theorem State.respond_steward (s : State) (tag addr st p : Nat) : (s.respond tag addr st p).steward = s.steward := by simp [State.respond]
@[simp] theorem State.respond_fields (s : State) (tag addr st p : Nat) : (s.respond tag addr st p).fields = s.fields := by simp [State.respond]
@[simp] theorem State.respond_steadFailed (s : State) (tag addr st p : Nat) : (s.respond tag addr st p).steadFailed = s.steadFailed := by simp [State.respond]
@[simp] theorem State.respond_bankMoves (s : State) (tag addr st p : Nat) : (s.respond tag addr st p).bankMoves = s.bankMoves := by simp [State.respond]
@[simp] theorem State.respond_plots (s : State) (tag addr st p : Nat) : (s.respond tag addr st p).plots = s.plots := by simp [State.respond]
@[simp] theorem State.respond_stackList (s : State) (tag addr st p : Nat) : (s.respond tag addr st p).stackList = s.stackList := by simp [State.respond]
@[simp] theorem State.respond_written (s : State) (tag addr st p : Nat) : (s.respond tag addr st p).written = s.written := by simp [State.respond]
@[simp] theorem State.respond_kept (s : State) (tag addr st p : Nat) : (s.respond tag addr st p).kept = s.kept := by simp [State.respond]
@[simp] theorem State.respond_arrays (s : State) (tag addr st p : Nat) : (s.respond tag addr st p).arrays = s.arrays := by simp [State.respond]
@[simp] theorem State.respond_engines (s : State) (tag addr st p : Nat) : (s.respond tag addr st p).engines = s.engines := by simp [State.respond]
@[simp] theorem State.respond_gleanMeta (s : State) (tag addr st p : Nat) : (s.respond tag addr st p).gleanMeta = s.gleanMeta := by simp [State.respond]
@[simp] theorem State.respond_coulter (s : State) (tag addr st p : Nat) : (s.respond tag addr st p).coulter = s.coulter := by simp [State.respond]
@[simp] theorem State.respond_thr (s : State) (tag addr st p : Nat) : (s.respond tag addr st p).thr = s.thr := by simp [State.respond]
@[simp] theorem State.respond_swath (s : State) (tag addr st p : Nat) : (s.respond tag addr st p).swath = s.swath := by simp [State.respond]
@[simp] theorem State.respond_recov (s : State) (tag addr st p : Nat) : (s.respond tag addr st p).recov = s.recov := by simp [State.respond]
@[simp] theorem State.respond_power (s : State) (tag addr st p : Nat) : (s.respond tag addr st p).power = s.power := by simp [State.respond]
@[simp] theorem State.respond_tithe (s : State) (tag addr st p : Nat) : (s.respond tag addr st p).tithe = s.tithe := by simp [State.respond]
@[simp] theorem State.respond_winnow (s : State) (tag addr st p : Nat) : (s.respond tag addr st p).winnow = s.winnow := by simp [State.respond]
@[simp] theorem State.respond_rings (s : State) (tag addr st p : Nat) : (s.respond tag addr st p).rings = s.rings := by simp [State.respond]
@[simp] theorem State.respond_passIds (s : State) (tag addr st p : Nat) : (s.respond tag addr st p).passIds = s.passIds := by simp [State.respond]
@[simp] theorem State.respond_verdicts (s : State) (tag addr st p : Nat) : (s.respond tag addr st p).verdicts = s.verdicts := by simp [State.respond]
@[simp] theorem State.respond_freeCtr (s : State) (tag addr st p : Nat) : (s.respond tag addr st p).freeCtr = s.freeCtr := by simp [State.respond]
@[simp] theorem State.respond_settled (s : State) (tag addr st p : Nat) : (s.respond tag addr st p).settled = s.settled := by simp [State.respond]
@[simp] theorem State.respond_setNow (s : State) (tag addr st p : Nat) : (s.respond tag addr st p).setNow = s.setNow := by simp [State.respond]
@[simp] theorem State.respond_flagsNow (s : State) (tag addr st p : Nat) : (s.respond tag addr st p).flagsNow = s.flagsNow := by simp [State.respond]
@[simp] theorem State.respond_pending (s : State) (tag addr st p : Nat) : (s.respond tag addr st p).pending = s.pending := by simp [State.respond]
@[simp] theorem State.setFlag_regs (s : State) (d n : Nat) : (s.setFlag d n).regs = s.regs := rfl
@[simp] theorem State.setFlag_mem (s : State) (d n : Nat) : (s.setFlag d n).mem = s.mem := rfl
@[simp] theorem State.setFlag_poison (s : State) (d n : Nat) : (s.setFlag d n).poison = s.poison := rfl
@[simp] theorem State.setFlag_hitch (s : State) (d n : Nat) : (s.setFlag d n).hitch = s.hitch := rfl
@[simp] theorem State.setFlag_windows (s : State) (d n : Nat) : (s.setFlag d n).windows = s.windows := rfl
@[simp] theorem State.setFlag_flights (s : State) (d n : Nat) : (s.setFlag d n).flights = s.flights := rfl
@[simp] theorem State.setFlag_nextId (s : State) (d n : Nat) : (s.setFlag d n).nextId = s.nextId := rfl
@[simp] theorem State.setFlag_hostWaits (s : State) (d n : Nat) : (s.setFlag d n).hostWaits = s.hostWaits := rfl
@[simp] theorem State.setFlag_alm (s : State) (d n : Nat) : (s.setFlag d n).alm = s.alm := rfl
@[simp] theorem State.setFlag_furlong (s : State) (d n : Nat) : (s.setFlag d n).furlong = s.furlong := rfl
@[simp] theorem State.setFlag_ledgerHeld (s : State) (d n : Nat) : (s.setFlag d n).ledgerHeld = s.ledgerHeld := rfl
@[simp] theorem State.setFlag_journal (s : State) (d n : Nat) : (s.setFlag d n).journal = s.journal := rfl
@[simp] theorem State.setFlag_steward (s : State) (d n : Nat) : (s.setFlag d n).steward = s.steward := rfl
@[simp] theorem State.setFlag_fields (s : State) (d n : Nat) : (s.setFlag d n).fields = s.fields := rfl
@[simp] theorem State.setFlag_steadFailed (s : State) (d n : Nat) : (s.setFlag d n).steadFailed = s.steadFailed := rfl
@[simp] theorem State.setFlag_bankMoves (s : State) (d n : Nat) : (s.setFlag d n).bankMoves = s.bankMoves := rfl
@[simp] theorem State.setFlag_plots (s : State) (d n : Nat) : (s.setFlag d n).plots = s.plots := rfl
@[simp] theorem State.setFlag_stackList (s : State) (d n : Nat) : (s.setFlag d n).stackList = s.stackList := rfl
@[simp] theorem State.setFlag_written (s : State) (d n : Nat) : (s.setFlag d n).written = s.written := rfl
@[simp] theorem State.setFlag_kept (s : State) (d n : Nat) : (s.setFlag d n).kept = s.kept := rfl
@[simp] theorem State.setFlag_arrays (s : State) (d n : Nat) : (s.setFlag d n).arrays = s.arrays := rfl
@[simp] theorem State.setFlag_engines (s : State) (d n : Nat) : (s.setFlag d n).engines = s.engines := rfl
@[simp] theorem State.setFlag_gleanMeta (s : State) (d n : Nat) : (s.setFlag d n).gleanMeta = s.gleanMeta := rfl
@[simp] theorem State.setFlag_coulter (s : State) (d n : Nat) : (s.setFlag d n).coulter = s.coulter := rfl
@[simp] theorem State.setFlag_thr (s : State) (d n : Nat) : (s.setFlag d n).thr = s.thr := rfl
@[simp] theorem State.setFlag_swath (s : State) (d n : Nat) : (s.setFlag d n).swath = s.swath := rfl
@[simp] theorem State.setFlag_recov (s : State) (d n : Nat) : (s.setFlag d n).recov = s.recov := rfl
@[simp] theorem State.setFlag_power (s : State) (d n : Nat) : (s.setFlag d n).power = s.power := rfl
@[simp] theorem State.setFlag_tithe (s : State) (d n : Nat) : (s.setFlag d n).tithe = s.tithe := rfl
@[simp] theorem State.setFlag_winnow (s : State) (d n : Nat) : (s.setFlag d n).winnow = s.winnow := rfl
@[simp] theorem State.setFlag_rings (s : State) (d n : Nat) : (s.setFlag d n).rings = s.rings := rfl
@[simp] theorem State.setFlag_passIds (s : State) (d n : Nat) : (s.setFlag d n).passIds = s.passIds := rfl
@[simp] theorem State.setFlag_verdicts (s : State) (d n : Nat) : (s.setFlag d n).verdicts = s.verdicts := rfl
@[simp] theorem State.setFlag_freeCtr (s : State) (d n : Nat) : (s.setFlag d n).freeCtr = s.freeCtr := rfl
@[simp] theorem State.setFlag_settled (s : State) (d n : Nat) : (s.setFlag d n).settled = s.settled := rfl
@[simp] theorem State.setFlag_setNow (s : State) (d n : Nat) : (s.setFlag d n).setNow = s.setNow := rfl
@[simp] theorem State.setFlag_pending (s : State) (d n : Nat) : (s.setFlag d n).pending = s.pending := rfl
@[simp] theorem State.clearFlag_regs (s : State) (d n : Nat) : (s.clearFlag d n).regs = s.regs := by
  unfold State.clearFlag; split <;> rfl
@[simp] theorem State.clearFlag_mem (s : State) (d n : Nat) : (s.clearFlag d n).mem = s.mem := by
  unfold State.clearFlag; split <;> rfl
@[simp] theorem State.clearFlag_poison (s : State) (d n : Nat) : (s.clearFlag d n).poison = s.poison := by
  unfold State.clearFlag; split <;> rfl
@[simp] theorem State.clearFlag_hitch (s : State) (d n : Nat) : (s.clearFlag d n).hitch = s.hitch := by
  unfold State.clearFlag; split <;> rfl
@[simp] theorem State.clearFlag_windows (s : State) (d n : Nat) : (s.clearFlag d n).windows = s.windows := by
  unfold State.clearFlag; split <;> rfl
@[simp] theorem State.clearFlag_flights (s : State) (d n : Nat) : (s.clearFlag d n).flights = s.flights := by
  unfold State.clearFlag; split <;> rfl
@[simp] theorem State.clearFlag_nextId (s : State) (d n : Nat) : (s.clearFlag d n).nextId = s.nextId := by
  unfold State.clearFlag; split <;> rfl
@[simp] theorem State.clearFlag_hostWaits (s : State) (d n : Nat) : (s.clearFlag d n).hostWaits = s.hostWaits := by
  unfold State.clearFlag; split <;> rfl
@[simp] theorem State.clearFlag_alm (s : State) (d n : Nat) : (s.clearFlag d n).alm = s.alm := by
  unfold State.clearFlag; split <;> rfl
@[simp] theorem State.clearFlag_furlong (s : State) (d n : Nat) : (s.clearFlag d n).furlong = s.furlong := by
  unfold State.clearFlag; split <;> rfl
@[simp] theorem State.clearFlag_ledgerHeld (s : State) (d n : Nat) : (s.clearFlag d n).ledgerHeld = s.ledgerHeld := by
  unfold State.clearFlag; split <;> rfl
@[simp] theorem State.clearFlag_journal (s : State) (d n : Nat) : (s.clearFlag d n).journal = s.journal := by
  unfold State.clearFlag; split <;> rfl
@[simp] theorem State.clearFlag_steward (s : State) (d n : Nat) : (s.clearFlag d n).steward = s.steward := by
  unfold State.clearFlag; split <;> rfl
@[simp] theorem State.clearFlag_fields (s : State) (d n : Nat) : (s.clearFlag d n).fields = s.fields := by
  unfold State.clearFlag; split <;> rfl
@[simp] theorem State.clearFlag_steadFailed (s : State) (d n : Nat) : (s.clearFlag d n).steadFailed = s.steadFailed := by
  unfold State.clearFlag; split <;> rfl
@[simp] theorem State.clearFlag_bankMoves (s : State) (d n : Nat) : (s.clearFlag d n).bankMoves = s.bankMoves := by
  unfold State.clearFlag; split <;> rfl
@[simp] theorem State.clearFlag_plots (s : State) (d n : Nat) : (s.clearFlag d n).plots = s.plots := by
  unfold State.clearFlag; split <;> rfl
@[simp] theorem State.clearFlag_stackList (s : State) (d n : Nat) : (s.clearFlag d n).stackList = s.stackList := by
  unfold State.clearFlag; split <;> rfl
@[simp] theorem State.clearFlag_written (s : State) (d n : Nat) : (s.clearFlag d n).written = s.written := by
  unfold State.clearFlag; split <;> rfl
@[simp] theorem State.clearFlag_kept (s : State) (d n : Nat) : (s.clearFlag d n).kept = s.kept := by
  unfold State.clearFlag; split <;> rfl
@[simp] theorem State.clearFlag_arrays (s : State) (d n : Nat) : (s.clearFlag d n).arrays = s.arrays := by
  unfold State.clearFlag; split <;> rfl
@[simp] theorem State.clearFlag_engines (s : State) (d n : Nat) : (s.clearFlag d n).engines = s.engines := by
  unfold State.clearFlag; split <;> rfl
@[simp] theorem State.clearFlag_gleanMeta (s : State) (d n : Nat) : (s.clearFlag d n).gleanMeta = s.gleanMeta := by
  unfold State.clearFlag; split <;> rfl
@[simp] theorem State.clearFlag_coulter (s : State) (d n : Nat) : (s.clearFlag d n).coulter = s.coulter := by
  unfold State.clearFlag; split <;> rfl
@[simp] theorem State.clearFlag_thr (s : State) (d n : Nat) : (s.clearFlag d n).thr = s.thr := by
  unfold State.clearFlag; split <;> rfl
@[simp] theorem State.clearFlag_swath (s : State) (d n : Nat) : (s.clearFlag d n).swath = s.swath := by
  unfold State.clearFlag; split <;> rfl
@[simp] theorem State.clearFlag_recov (s : State) (d n : Nat) : (s.clearFlag d n).recov = s.recov := by
  unfold State.clearFlag; split <;> rfl
@[simp] theorem State.clearFlag_power (s : State) (d n : Nat) : (s.clearFlag d n).power = s.power := by
  unfold State.clearFlag; split <;> rfl
@[simp] theorem State.clearFlag_tithe (s : State) (d n : Nat) : (s.clearFlag d n).tithe = s.tithe := by
  unfold State.clearFlag; split <;> rfl
@[simp] theorem State.clearFlag_winnow (s : State) (d n : Nat) : (s.clearFlag d n).winnow = s.winnow := by
  unfold State.clearFlag; split <;> rfl
@[simp] theorem State.clearFlag_rings (s : State) (d n : Nat) : (s.clearFlag d n).rings = s.rings := by
  unfold State.clearFlag; split <;> rfl
@[simp] theorem State.clearFlag_passIds (s : State) (d n : Nat) : (s.clearFlag d n).passIds = s.passIds := by
  unfold State.clearFlag; split <;> rfl
@[simp] theorem State.clearFlag_verdicts (s : State) (d n : Nat) : (s.clearFlag d n).verdicts = s.verdicts := by
  unfold State.clearFlag; split <;> rfl
@[simp] theorem State.clearFlag_freeCtr (s : State) (d n : Nat) : (s.clearFlag d n).freeCtr = s.freeCtr := by
  unfold State.clearFlag; split <;> rfl
@[simp] theorem State.clearFlag_settled (s : State) (d n : Nat) : (s.clearFlag d n).settled = s.settled := by
  unfold State.clearFlag; split <;> rfl
@[simp] theorem State.clearFlag_setNow (s : State) (d n : Nat) : (s.clearFlag d n).setNow = s.setNow := by
  unfold State.clearFlag; split <;> rfl
@[simp] theorem State.clearFlag_pending (s : State) (d n : Nat) : (s.clearFlag d n).pending = s.pending := by
  unfold State.clearFlag; split <;> rfl
@[simp] theorem State.setFlight_regs (s : State) (f : Flight) : (s.setFlight f).regs = s.regs := rfl
@[simp] theorem State.setFlight_mem (s : State) (f : Flight) : (s.setFlight f).mem = s.mem := rfl
@[simp] theorem State.setFlight_poison (s : State) (f : Flight) : (s.setFlight f).poison = s.poison := rfl
@[simp] theorem State.setFlight_hitch (s : State) (f : Flight) : (s.setFlight f).hitch = s.hitch := rfl
@[simp] theorem State.setFlight_windows (s : State) (f : Flight) : (s.setFlight f).windows = s.windows := rfl
@[simp] theorem State.setFlight_nextId (s : State) (f : Flight) : (s.setFlight f).nextId = s.nextId := rfl
@[simp] theorem State.setFlight_flags (s : State) (f : Flight) : (s.setFlight f).flags = s.flags := rfl
@[simp] theorem State.setFlight_hostWaits (s : State) (f : Flight) : (s.setFlight f).hostWaits = s.hostWaits := rfl
@[simp] theorem State.setFlight_alm (s : State) (f : Flight) : (s.setFlight f).alm = s.alm := rfl
@[simp] theorem State.setFlight_furlong (s : State) (f : Flight) : (s.setFlight f).furlong = s.furlong := rfl
@[simp] theorem State.setFlight_ledgerHeld (s : State) (f : Flight) : (s.setFlight f).ledgerHeld = s.ledgerHeld := rfl
@[simp] theorem State.setFlight_journal (s : State) (f : Flight) : (s.setFlight f).journal = s.journal := rfl
@[simp] theorem State.setFlight_steward (s : State) (f : Flight) : (s.setFlight f).steward = s.steward := rfl
@[simp] theorem State.setFlight_fields (s : State) (f : Flight) : (s.setFlight f).fields = s.fields := rfl
@[simp] theorem State.setFlight_steadFailed (s : State) (f : Flight) : (s.setFlight f).steadFailed = s.steadFailed := rfl
@[simp] theorem State.setFlight_bankMoves (s : State) (f : Flight) : (s.setFlight f).bankMoves = s.bankMoves := rfl
@[simp] theorem State.setFlight_plots (s : State) (f : Flight) : (s.setFlight f).plots = s.plots := rfl
@[simp] theorem State.setFlight_stackList (s : State) (f : Flight) : (s.setFlight f).stackList = s.stackList := rfl
@[simp] theorem State.setFlight_written (s : State) (f : Flight) : (s.setFlight f).written = s.written := rfl
@[simp] theorem State.setFlight_kept (s : State) (f : Flight) : (s.setFlight f).kept = s.kept := rfl
@[simp] theorem State.setFlight_arrays (s : State) (f : Flight) : (s.setFlight f).arrays = s.arrays := rfl
@[simp] theorem State.setFlight_engines (s : State) (f : Flight) : (s.setFlight f).engines = s.engines := rfl
@[simp] theorem State.setFlight_gleanMeta (s : State) (f : Flight) : (s.setFlight f).gleanMeta = s.gleanMeta := rfl
@[simp] theorem State.setFlight_coulter (s : State) (f : Flight) : (s.setFlight f).coulter = s.coulter := rfl
@[simp] theorem State.setFlight_thr (s : State) (f : Flight) : (s.setFlight f).thr = s.thr := rfl
@[simp] theorem State.setFlight_swath (s : State) (f : Flight) : (s.setFlight f).swath = s.swath := rfl
@[simp] theorem State.setFlight_recov (s : State) (f : Flight) : (s.setFlight f).recov = s.recov := rfl
@[simp] theorem State.setFlight_power (s : State) (f : Flight) : (s.setFlight f).power = s.power := rfl
@[simp] theorem State.setFlight_tithe (s : State) (f : Flight) : (s.setFlight f).tithe = s.tithe := rfl
@[simp] theorem State.setFlight_winnow (s : State) (f : Flight) : (s.setFlight f).winnow = s.winnow := rfl
@[simp] theorem State.setFlight_rings (s : State) (f : Flight) : (s.setFlight f).rings = s.rings := rfl
@[simp] theorem State.setFlight_passIds (s : State) (f : Flight) : (s.setFlight f).passIds = s.passIds := rfl
@[simp] theorem State.setFlight_verdicts (s : State) (f : Flight) : (s.setFlight f).verdicts = s.verdicts := rfl
@[simp] theorem State.setFlight_freeCtr (s : State) (f : Flight) : (s.setFlight f).freeCtr = s.freeCtr := rfl
@[simp] theorem State.setFlight_settled (s : State) (f : Flight) : (s.setFlight f).settled = s.settled := rfl
@[simp] theorem State.setFlight_setNow (s : State) (f : Flight) : (s.setFlight f).setNow = s.setNow := rfl
@[simp] theorem State.setFlight_flagsNow (s : State) (f : Flight) : (s.setFlight f).flagsNow = s.flagsNow := rfl
@[simp] theorem State.setFlight_pending (s : State) (f : Flight) : (s.setFlight f).pending = s.pending := rfl
@[simp] theorem State.setWin_regs (s : State) (w : Nat) (x : Window) : (s.setWin w x).regs = s.regs := rfl
@[simp] theorem State.setWin_mem (s : State) (w : Nat) (x : Window) : (s.setWin w x).mem = s.mem := rfl
@[simp] theorem State.setWin_poison (s : State) (w : Nat) (x : Window) : (s.setWin w x).poison = s.poison := rfl
@[simp] theorem State.setWin_hitch (s : State) (w : Nat) (x : Window) : (s.setWin w x).hitch = s.hitch := rfl
@[simp] theorem State.setWin_flights (s : State) (w : Nat) (x : Window) : (s.setWin w x).flights = s.flights := rfl
@[simp] theorem State.setWin_nextId (s : State) (w : Nat) (x : Window) : (s.setWin w x).nextId = s.nextId := rfl
@[simp] theorem State.setWin_flags (s : State) (w : Nat) (x : Window) : (s.setWin w x).flags = s.flags := rfl
@[simp] theorem State.setWin_hostWaits (s : State) (w : Nat) (x : Window) : (s.setWin w x).hostWaits = s.hostWaits := rfl
@[simp] theorem State.setWin_alm (s : State) (w : Nat) (x : Window) : (s.setWin w x).alm = s.alm := rfl
@[simp] theorem State.setWin_furlong (s : State) (w : Nat) (x : Window) : (s.setWin w x).furlong = s.furlong := rfl
@[simp] theorem State.setWin_ledgerHeld (s : State) (w : Nat) (x : Window) : (s.setWin w x).ledgerHeld = s.ledgerHeld := rfl
@[simp] theorem State.setWin_journal (s : State) (w : Nat) (x : Window) : (s.setWin w x).journal = s.journal := rfl
@[simp] theorem State.setWin_steward (s : State) (w : Nat) (x : Window) : (s.setWin w x).steward = s.steward := rfl
@[simp] theorem State.setWin_fields (s : State) (w : Nat) (x : Window) : (s.setWin w x).fields = s.fields := rfl
@[simp] theorem State.setWin_steadFailed (s : State) (w : Nat) (x : Window) : (s.setWin w x).steadFailed = s.steadFailed := rfl
@[simp] theorem State.setWin_bankMoves (s : State) (w : Nat) (x : Window) : (s.setWin w x).bankMoves = s.bankMoves := rfl
@[simp] theorem State.setWin_plots (s : State) (w : Nat) (x : Window) : (s.setWin w x).plots = s.plots := rfl
@[simp] theorem State.setWin_stackList (s : State) (w : Nat) (x : Window) : (s.setWin w x).stackList = s.stackList := rfl
@[simp] theorem State.setWin_written (s : State) (w : Nat) (x : Window) : (s.setWin w x).written = s.written := rfl
@[simp] theorem State.setWin_kept (s : State) (w : Nat) (x : Window) : (s.setWin w x).kept = s.kept := rfl
@[simp] theorem State.setWin_arrays (s : State) (w : Nat) (x : Window) : (s.setWin w x).arrays = s.arrays := rfl
@[simp] theorem State.setWin_engines (s : State) (w : Nat) (x : Window) : (s.setWin w x).engines = s.engines := rfl
@[simp] theorem State.setWin_gleanMeta (s : State) (w : Nat) (x : Window) : (s.setWin w x).gleanMeta = s.gleanMeta := rfl
@[simp] theorem State.setWin_coulter (s : State) (w : Nat) (x : Window) : (s.setWin w x).coulter = s.coulter := rfl
@[simp] theorem State.setWin_thr (s : State) (w : Nat) (x : Window) : (s.setWin w x).thr = s.thr := rfl
@[simp] theorem State.setWin_swath (s : State) (w : Nat) (x : Window) : (s.setWin w x).swath = s.swath := rfl
@[simp] theorem State.setWin_recov (s : State) (w : Nat) (x : Window) : (s.setWin w x).recov = s.recov := rfl
@[simp] theorem State.setWin_power (s : State) (w : Nat) (x : Window) : (s.setWin w x).power = s.power := rfl
@[simp] theorem State.setWin_tithe (s : State) (w : Nat) (x : Window) : (s.setWin w x).tithe = s.tithe := rfl
@[simp] theorem State.setWin_winnow (s : State) (w : Nat) (x : Window) : (s.setWin w x).winnow = s.winnow := rfl
@[simp] theorem State.setWin_rings (s : State) (w : Nat) (x : Window) : (s.setWin w x).rings = s.rings := rfl
@[simp] theorem State.setWin_passIds (s : State) (w : Nat) (x : Window) : (s.setWin w x).passIds = s.passIds := rfl
@[simp] theorem State.setWin_verdicts (s : State) (w : Nat) (x : Window) : (s.setWin w x).verdicts = s.verdicts := rfl
@[simp] theorem State.setWin_freeCtr (s : State) (w : Nat) (x : Window) : (s.setWin w x).freeCtr = s.freeCtr := rfl
@[simp] theorem State.setWin_settled (s : State) (w : Nat) (x : Window) : (s.setWin w x).settled = s.settled := rfl
@[simp] theorem State.setWin_setNow (s : State) (w : Nat) (x : Window) : (s.setWin w x).setNow = s.setNow := rfl
@[simp] theorem State.setWin_flagsNow (s : State) (w : Nat) (x : Window) : (s.setWin w x).flagsNow = s.flagsNow := rfl
@[simp] theorem State.setWin_pending (s : State) (w : Nat) (x : Window) : (s.setWin w x).pending = s.pending := rfl
@[simp] theorem State.complete_mem (s : State) (id info : Nat) : (s.complete id info).mem = s.mem := by
  unfold State.complete; split <;> [rfl; skip]; dsimp only []; split <;> (repeat' split) <;> simp
@[simp] theorem State.complete_poison (s : State) (id info : Nat) : (s.complete id info).poison = s.poison := by
  unfold State.complete; split <;> [rfl; skip]; dsimp only []; split <;> (repeat' split) <;> simp
@[simp] theorem State.complete_windows (s : State) (id info : Nat) : (s.complete id info).windows = s.windows := by
  unfold State.complete; split <;> [rfl; skip]; dsimp only []; split <;> (repeat' split) <;> simp
@[simp] theorem State.complete_nextId (s : State) (id info : Nat) : (s.complete id info).nextId = s.nextId := by
  unfold State.complete; split <;> [rfl; skip]; dsimp only []; split <;> (repeat' split) <;> simp
@[simp] theorem State.complete_hostWaits (s : State) (id info : Nat) : (s.complete id info).hostWaits = s.hostWaits := by
  unfold State.complete; split <;> [rfl; skip]; dsimp only []; split <;> (repeat' split) <;> simp
@[simp] theorem State.complete_alm (s : State) (id info : Nat) : (s.complete id info).alm = s.alm := by
  unfold State.complete; split <;> [rfl; skip]; dsimp only []; split <;> (repeat' split) <;> simp
@[simp] theorem State.complete_ledgerHeld (s : State) (id info : Nat) : (s.complete id info).ledgerHeld = s.ledgerHeld := by
  unfold State.complete; split <;> [rfl; skip]; dsimp only []; split <;> (repeat' split) <;> simp
@[simp] theorem State.complete_journal (s : State) (id info : Nat) : (s.complete id info).journal = s.journal := by
  unfold State.complete; split <;> [rfl; skip]; dsimp only []; split <;> (repeat' split) <;> simp
@[simp] theorem State.complete_steward (s : State) (id info : Nat) : (s.complete id info).steward = s.steward := by
  unfold State.complete; split <;> [rfl; skip]; dsimp only []; split <;> (repeat' split) <;> simp
@[simp] theorem State.complete_fields (s : State) (id info : Nat) : (s.complete id info).fields = s.fields := by
  unfold State.complete; split <;> [rfl; skip]; dsimp only []; split <;> (repeat' split) <;> simp
@[simp] theorem State.complete_steadFailed (s : State) (id info : Nat) : (s.complete id info).steadFailed = s.steadFailed := by
  unfold State.complete; split <;> [rfl; skip]; dsimp only []; split <;> (repeat' split) <;> simp
@[simp] theorem State.complete_bankMoves (s : State) (id info : Nat) : (s.complete id info).bankMoves = s.bankMoves := by
  unfold State.complete; split <;> [rfl; skip]; dsimp only []; split <;> (repeat' split) <;> simp
@[simp] theorem State.complete_plots (s : State) (id info : Nat) : (s.complete id info).plots = s.plots := by
  unfold State.complete; split <;> [rfl; skip]; dsimp only []; split <;> (repeat' split) <;> simp
@[simp] theorem State.complete_stackList (s : State) (id info : Nat) : (s.complete id info).stackList = s.stackList := by
  unfold State.complete; split <;> [rfl; skip]; dsimp only []; split <;> (repeat' split) <;> simp
@[simp] theorem State.complete_written (s : State) (id info : Nat) : (s.complete id info).written = s.written := by
  unfold State.complete; split <;> [rfl; skip]; dsimp only []; split <;> (repeat' split) <;> simp
@[simp] theorem State.complete_kept (s : State) (id info : Nat) : (s.complete id info).kept = s.kept := by
  unfold State.complete; split <;> [rfl; skip]; dsimp only []; split <;> (repeat' split) <;> simp
@[simp] theorem State.complete_arrays (s : State) (id info : Nat) : (s.complete id info).arrays = s.arrays := by
  unfold State.complete; split <;> [rfl; skip]; dsimp only []; split <;> (repeat' split) <;> simp
@[simp] theorem State.complete_engines (s : State) (id info : Nat) : (s.complete id info).engines = s.engines := by
  unfold State.complete; split <;> [rfl; skip]; dsimp only []; split <;> (repeat' split) <;> simp
@[simp] theorem State.complete_gleanMeta (s : State) (id info : Nat) : (s.complete id info).gleanMeta = s.gleanMeta := by
  unfold State.complete; split <;> [rfl; skip]; dsimp only []; split <;> (repeat' split) <;> simp
@[simp] theorem State.complete_coulter (s : State) (id info : Nat) : (s.complete id info).coulter = s.coulter := by
  unfold State.complete; split <;> [rfl; skip]; dsimp only []; split <;> (repeat' split) <;> simp
@[simp] theorem State.complete_thr (s : State) (id info : Nat) : (s.complete id info).thr = s.thr := by
  unfold State.complete; split <;> [rfl; skip]; dsimp only []; split <;> (repeat' split) <;> simp
@[simp] theorem State.complete_swath (s : State) (id info : Nat) : (s.complete id info).swath = s.swath := by
  unfold State.complete; split <;> [rfl; skip]; dsimp only []; split <;> (repeat' split) <;> simp
@[simp] theorem State.complete_recov (s : State) (id info : Nat) : (s.complete id info).recov = s.recov := by
  unfold State.complete; split <;> [rfl; skip]; dsimp only []; split <;> (repeat' split) <;> simp
@[simp] theorem State.complete_power (s : State) (id info : Nat) : (s.complete id info).power = s.power := by
  unfold State.complete; split <;> [rfl; skip]; dsimp only []; split <;> (repeat' split) <;> simp
@[simp] theorem State.complete_tithe (s : State) (id info : Nat) : (s.complete id info).tithe = s.tithe := by
  unfold State.complete; split <;> [rfl; skip]; dsimp only []; split <;> (repeat' split) <;> simp
@[simp] theorem State.complete_winnow (s : State) (id info : Nat) : (s.complete id info).winnow = s.winnow := by
  unfold State.complete; split <;> [rfl; skip]; dsimp only []; split <;> (repeat' split) <;> simp
@[simp] theorem State.complete_rings (s : State) (id info : Nat) : (s.complete id info).rings = s.rings := by
  unfold State.complete; split <;> [rfl; skip]; dsimp only []; split <;> (repeat' split) <;> simp
@[simp] theorem State.complete_passIds (s : State) (id info : Nat) : (s.complete id info).passIds = s.passIds := by
  unfold State.complete; split <;> [rfl; skip]; dsimp only []; split <;> (repeat' split) <;> simp
@[simp] theorem State.complete_verdicts (s : State) (id info : Nat) : (s.complete id info).verdicts = s.verdicts := by
  unfold State.complete; split <;> [rfl; skip]; dsimp only []; split <;> (repeat' split) <;> simp
@[simp] theorem State.complete_freeCtr (s : State) (id info : Nat) : (s.complete id info).freeCtr = s.freeCtr := by
  unfold State.complete; split <;> [rfl; skip]; dsimp only []; split <;> (repeat' split) <;> simp
@[simp] theorem State.complete_settled (s : State) (id info : Nat) : (s.complete id info).settled = s.settled := by
  unfold State.complete; split <;> [rfl; skip]; dsimp only []; split <;> (repeat' split) <;> simp
@[simp] theorem State.complete_pending (s : State) (id info : Nat) : (s.complete id info).pending = s.pending := by
  unfold State.complete; split <;> [rfl; skip]; dsimp only []; split <;> (repeat' split) <;> simp
@[simp] theorem State.refuseDesc_mem (s : State) (w : Nat) (d : List Word512) (c : Nat) : (s.refuseDesc w d c).mem = s.mem := by
  unfold State.refuseDesc; dsimp only []; split <;> simp
@[simp] theorem State.refuseDesc_poison (s : State) (w : Nat) (d : List Word512) (c : Nat) : (s.refuseDesc w d c).poison = s.poison := by
  unfold State.refuseDesc; dsimp only []; split <;> simp
@[simp] theorem State.refuseDesc_flights (s : State) (w : Nat) (d : List Word512) (c : Nat) : (s.refuseDesc w d c).flights = s.flights := by
  unfold State.refuseDesc; dsimp only []; split <;> simp
@[simp] theorem State.refuseDesc_nextId (s : State) (w : Nat) (d : List Word512) (c : Nat) : (s.refuseDesc w d c).nextId = s.nextId := by
  unfold State.refuseDesc; dsimp only []; split <;> simp
@[simp] theorem State.refuseDesc_flags (s : State) (w : Nat) (d : List Word512) (c : Nat) : (s.refuseDesc w d c).flags = s.flags := by
  unfold State.refuseDesc; dsimp only []; split <;> simp
@[simp] theorem State.refuseDesc_hostWaits (s : State) (w : Nat) (d : List Word512) (c : Nat) : (s.refuseDesc w d c).hostWaits = s.hostWaits := by
  unfold State.refuseDesc; dsimp only []; split <;> simp
@[simp] theorem State.refuseDesc_alm (s : State) (w : Nat) (d : List Word512) (c : Nat) : (s.refuseDesc w d c).alm = s.alm := by
  unfold State.refuseDesc; dsimp only []; split <;> simp
@[simp] theorem State.refuseDesc_furlong (s : State) (w : Nat) (d : List Word512) (c : Nat) : (s.refuseDesc w d c).furlong = s.furlong := by
  unfold State.refuseDesc; dsimp only []; split <;> simp
@[simp] theorem State.refuseDesc_ledgerHeld (s : State) (w : Nat) (d : List Word512) (c : Nat) : (s.refuseDesc w d c).ledgerHeld = s.ledgerHeld := by
  unfold State.refuseDesc; dsimp only []; split <;> simp
@[simp] theorem State.refuseDesc_journal (s : State) (w : Nat) (d : List Word512) (c : Nat) : (s.refuseDesc w d c).journal = s.journal := by
  unfold State.refuseDesc; dsimp only []; split <;> simp
@[simp] theorem State.refuseDesc_steward (s : State) (w : Nat) (d : List Word512) (c : Nat) : (s.refuseDesc w d c).steward = s.steward := by
  unfold State.refuseDesc; dsimp only []; split <;> simp
@[simp] theorem State.refuseDesc_fields (s : State) (w : Nat) (d : List Word512) (c : Nat) : (s.refuseDesc w d c).fields = s.fields := by
  unfold State.refuseDesc; dsimp only []; split <;> simp
@[simp] theorem State.refuseDesc_steadFailed (s : State) (w : Nat) (d : List Word512) (c : Nat) : (s.refuseDesc w d c).steadFailed = s.steadFailed := by
  unfold State.refuseDesc; dsimp only []; split <;> simp
@[simp] theorem State.refuseDesc_bankMoves (s : State) (w : Nat) (d : List Word512) (c : Nat) : (s.refuseDesc w d c).bankMoves = s.bankMoves := by
  unfold State.refuseDesc; dsimp only []; split <;> simp
@[simp] theorem State.refuseDesc_plots (s : State) (w : Nat) (d : List Word512) (c : Nat) : (s.refuseDesc w d c).plots = s.plots := by
  unfold State.refuseDesc; dsimp only []; split <;> simp
@[simp] theorem State.refuseDesc_stackList (s : State) (w : Nat) (d : List Word512) (c : Nat) : (s.refuseDesc w d c).stackList = s.stackList := by
  unfold State.refuseDesc; dsimp only []; split <;> simp
@[simp] theorem State.refuseDesc_written (s : State) (w : Nat) (d : List Word512) (c : Nat) : (s.refuseDesc w d c).written = s.written := by
  unfold State.refuseDesc; dsimp only []; split <;> simp
@[simp] theorem State.refuseDesc_kept (s : State) (w : Nat) (d : List Word512) (c : Nat) : (s.refuseDesc w d c).kept = s.kept := by
  unfold State.refuseDesc; dsimp only []; split <;> simp
@[simp] theorem State.refuseDesc_arrays (s : State) (w : Nat) (d : List Word512) (c : Nat) : (s.refuseDesc w d c).arrays = s.arrays := by
  unfold State.refuseDesc; dsimp only []; split <;> simp
@[simp] theorem State.refuseDesc_engines (s : State) (w : Nat) (d : List Word512) (c : Nat) : (s.refuseDesc w d c).engines = s.engines := by
  unfold State.refuseDesc; dsimp only []; split <;> simp
@[simp] theorem State.refuseDesc_gleanMeta (s : State) (w : Nat) (d : List Word512) (c : Nat) : (s.refuseDesc w d c).gleanMeta = s.gleanMeta := by
  unfold State.refuseDesc; dsimp only []; split <;> simp
@[simp] theorem State.refuseDesc_coulter (s : State) (w : Nat) (d : List Word512) (c : Nat) : (s.refuseDesc w d c).coulter = s.coulter := by
  unfold State.refuseDesc; dsimp only []; split <;> simp
@[simp] theorem State.refuseDesc_thr (s : State) (w : Nat) (d : List Word512) (c : Nat) : (s.refuseDesc w d c).thr = s.thr := by
  unfold State.refuseDesc; dsimp only []; split <;> simp
@[simp] theorem State.refuseDesc_swath (s : State) (w : Nat) (d : List Word512) (c : Nat) : (s.refuseDesc w d c).swath = s.swath := by
  unfold State.refuseDesc; dsimp only []; split <;> simp
@[simp] theorem State.refuseDesc_recov (s : State) (w : Nat) (d : List Word512) (c : Nat) : (s.refuseDesc w d c).recov = s.recov := by
  unfold State.refuseDesc; dsimp only []; split <;> simp
@[simp] theorem State.refuseDesc_power (s : State) (w : Nat) (d : List Word512) (c : Nat) : (s.refuseDesc w d c).power = s.power := by
  unfold State.refuseDesc; dsimp only []; split <;> simp
@[simp] theorem State.refuseDesc_tithe (s : State) (w : Nat) (d : List Word512) (c : Nat) : (s.refuseDesc w d c).tithe = s.tithe := by
  unfold State.refuseDesc; dsimp only []; split <;> simp
@[simp] theorem State.refuseDesc_winnow (s : State) (w : Nat) (d : List Word512) (c : Nat) : (s.refuseDesc w d c).winnow = s.winnow := by
  unfold State.refuseDesc; dsimp only []; split <;> simp
@[simp] theorem State.refuseDesc_rings (s : State) (w : Nat) (d : List Word512) (c : Nat) : (s.refuseDesc w d c).rings = s.rings := by
  unfold State.refuseDesc; dsimp only []; split <;> simp
@[simp] theorem State.refuseDesc_passIds (s : State) (w : Nat) (d : List Word512) (c : Nat) : (s.refuseDesc w d c).passIds = s.passIds := by
  unfold State.refuseDesc; dsimp only []; split <;> simp
@[simp] theorem State.refuseDesc_verdicts (s : State) (w : Nat) (d : List Word512) (c : Nat) : (s.refuseDesc w d c).verdicts = s.verdicts := by
  unfold State.refuseDesc; dsimp only []; split <;> simp
@[simp] theorem State.refuseDesc_freeCtr (s : State) (w : Nat) (d : List Word512) (c : Nat) : (s.refuseDesc w d c).freeCtr = s.freeCtr := by
  unfold State.refuseDesc; dsimp only []; split <;> simp
@[simp] theorem State.refuseDesc_settled (s : State) (w : Nat) (d : List Word512) (c : Nat) : (s.refuseDesc w d c).settled = s.settled := by
  unfold State.refuseDesc; dsimp only []; split <;> simp
@[simp] theorem State.refuseDesc_flagsNow (s : State) (w : Nat) (d : List Word512) (c : Nat) : (s.refuseDesc w d c).flagsNow = s.flagsNow := by
  unfold State.refuseDesc; dsimp only []; split <;> simp
@[simp] theorem State.refuseDesc_pending (s : State) (w : Nat) (d : List Word512) (c : Nat) : (s.refuseDesc w d c).pending = s.pending := by
  unfold State.refuseDesc; dsimp only []; split <;> simp
@[simp] theorem State.noteCapacity_mem (s : State) (s0 : State) : (s.noteCapacity s0).mem = s.mem := by
  unfold State.noteCapacity; split <;> simp
@[simp] theorem State.noteCapacity_poison (s : State) (s0 : State) : (s.noteCapacity s0).poison = s.poison := by
  unfold State.noteCapacity; split <;> simp
@[simp] theorem State.noteCapacity_windows (s : State) (s0 : State) : (s.noteCapacity s0).windows = s.windows := by
  unfold State.noteCapacity; split <;> simp
@[simp] theorem State.noteCapacity_flights (s : State) (s0 : State) : (s.noteCapacity s0).flights = s.flights := by
  unfold State.noteCapacity; split <;> simp
@[simp] theorem State.noteCapacity_nextId (s : State) (s0 : State) : (s.noteCapacity s0).nextId = s.nextId := by
  unfold State.noteCapacity; split <;> simp
@[simp] theorem State.noteCapacity_flags (s : State) (s0 : State) : (s.noteCapacity s0).flags = s.flags := by
  unfold State.noteCapacity; split <;> simp
@[simp] theorem State.noteCapacity_hostWaits (s : State) (s0 : State) : (s.noteCapacity s0).hostWaits = s.hostWaits := by
  unfold State.noteCapacity; split <;> simp
@[simp] theorem State.noteCapacity_alm (s : State) (s0 : State) : (s.noteCapacity s0).alm = s.alm := by
  unfold State.noteCapacity; split <;> simp
@[simp] theorem State.noteCapacity_furlong (s : State) (s0 : State) : (s.noteCapacity s0).furlong = s.furlong := by
  unfold State.noteCapacity; split <;> simp
@[simp] theorem State.noteCapacity_ledgerHeld (s : State) (s0 : State) : (s.noteCapacity s0).ledgerHeld = s.ledgerHeld := by
  unfold State.noteCapacity; split <;> simp
@[simp] theorem State.noteCapacity_journal (s : State) (s0 : State) : (s.noteCapacity s0).journal = s.journal := by
  unfold State.noteCapacity; split <;> simp
@[simp] theorem State.noteCapacity_steward (s : State) (s0 : State) : (s.noteCapacity s0).steward = s.steward := by
  unfold State.noteCapacity; split <;> simp
@[simp] theorem State.noteCapacity_fields (s : State) (s0 : State) : (s.noteCapacity s0).fields = s.fields := by
  unfold State.noteCapacity; split <;> simp
@[simp] theorem State.noteCapacity_steadFailed (s : State) (s0 : State) : (s.noteCapacity s0).steadFailed = s.steadFailed := by
  unfold State.noteCapacity; split <;> simp
@[simp] theorem State.noteCapacity_bankMoves (s : State) (s0 : State) : (s.noteCapacity s0).bankMoves = s.bankMoves := by
  unfold State.noteCapacity; split <;> simp
@[simp] theorem State.noteCapacity_plots (s : State) (s0 : State) : (s.noteCapacity s0).plots = s.plots := by
  unfold State.noteCapacity; split <;> simp
@[simp] theorem State.noteCapacity_stackList (s : State) (s0 : State) : (s.noteCapacity s0).stackList = s.stackList := by
  unfold State.noteCapacity; split <;> simp
@[simp] theorem State.noteCapacity_written (s : State) (s0 : State) : (s.noteCapacity s0).written = s.written := by
  unfold State.noteCapacity; split <;> simp
@[simp] theorem State.noteCapacity_kept (s : State) (s0 : State) : (s.noteCapacity s0).kept = s.kept := by
  unfold State.noteCapacity; split <;> simp
@[simp] theorem State.noteCapacity_arrays (s : State) (s0 : State) : (s.noteCapacity s0).arrays = s.arrays := by
  unfold State.noteCapacity; split <;> simp
@[simp] theorem State.noteCapacity_engines (s : State) (s0 : State) : (s.noteCapacity s0).engines = s.engines := by
  unfold State.noteCapacity; split <;> simp
@[simp] theorem State.noteCapacity_gleanMeta (s : State) (s0 : State) : (s.noteCapacity s0).gleanMeta = s.gleanMeta := by
  unfold State.noteCapacity; split <;> simp
@[simp] theorem State.noteCapacity_coulter (s : State) (s0 : State) : (s.noteCapacity s0).coulter = s.coulter := by
  unfold State.noteCapacity; split <;> simp
@[simp] theorem State.noteCapacity_thr (s : State) (s0 : State) : (s.noteCapacity s0).thr = s.thr := by
  unfold State.noteCapacity; split <;> simp
@[simp] theorem State.noteCapacity_swath (s : State) (s0 : State) : (s.noteCapacity s0).swath = s.swath := by
  unfold State.noteCapacity; split <;> simp
@[simp] theorem State.noteCapacity_recov (s : State) (s0 : State) : (s.noteCapacity s0).recov = s.recov := by
  unfold State.noteCapacity; split <;> simp
@[simp] theorem State.noteCapacity_power (s : State) (s0 : State) : (s.noteCapacity s0).power = s.power := by
  unfold State.noteCapacity; split <;> simp
@[simp] theorem State.noteCapacity_tithe (s : State) (s0 : State) : (s.noteCapacity s0).tithe = s.tithe := by
  unfold State.noteCapacity; split <;> simp
@[simp] theorem State.noteCapacity_winnow (s : State) (s0 : State) : (s.noteCapacity s0).winnow = s.winnow := by
  unfold State.noteCapacity; split <;> simp
@[simp] theorem State.noteCapacity_rings (s : State) (s0 : State) : (s.noteCapacity s0).rings = s.rings := by
  unfold State.noteCapacity; split <;> simp
@[simp] theorem State.noteCapacity_passIds (s : State) (s0 : State) : (s.noteCapacity s0).passIds = s.passIds := by
  unfold State.noteCapacity; split <;> simp
@[simp] theorem State.noteCapacity_verdicts (s : State) (s0 : State) : (s.noteCapacity s0).verdicts = s.verdicts := by
  unfold State.noteCapacity; split <;> simp
@[simp] theorem State.noteCapacity_freeCtr (s : State) (s0 : State) : (s.noteCapacity s0).freeCtr = s.freeCtr := by
  unfold State.noteCapacity; split <;> simp
@[simp] theorem State.noteCapacity_settled (s : State) (s0 : State) : (s.noteCapacity s0).settled = s.settled := by
  unfold State.noteCapacity; split <;> simp
@[simp] theorem State.noteCapacity_flagsNow (s : State) (s0 : State) : (s.noteCapacity s0).flagsNow = s.flagsNow := by
  unfold State.noteCapacity; split <;> simp
@[simp] theorem State.noteCapacity_pending (s : State) (s0 : State) : (s.noteCapacity s0).pending = s.pending := by
  unfold State.noteCapacity; split <;> simp

end Sys2Proof.Machine
end

