-- ==== Sys2Proof/Laws/Memory.lean ====
section
/-!
SUPPORT. Device memory and the register store: a read after a write, writes elsewhere, and the canonical form that every
memory operation keeps.
-/
namespace Sys2Proof.Machine

/-! ### The register store -/

theorem storeGet_storePut (l : List (Nat × Nat)) (a v b : Nat) :
    storeGet (storePut l a v) b = if b = a then some v else storeGet l b := by
  induction l with
  | nil =>
    by_cases h : b = a
    · simp [storePut, storeGet, h]
    · simp [storePut, storeGet, h, Ne.symm h]
  | cons x l ih =>
    obtain ⟨k, w⟩ := x
    simp only [storePut]
    by_cases h1 : a < k
    · by_cases hb : b = a
      · simp [storeGet, h1, hb]
      · simp [storeGet, h1, hb, Ne.symm hb]
    · by_cases h2 : a = k
      · subst h2
        by_cases hb : b = a
        · simp [storeGet, hb]
        · simp [storeGet, hb, Ne.symm hb]
      · by_cases hb : k = b
        · subst hb
          simp [storeGet, h1, h2, Ne.symm h2]
        · simp [storeGet, h1, h2, hb, ih]

theorem storeGet_storeDel (l : List (Nat × Nat)) (a b : Nat) :
    storeGet (storeDel l a) b = if b = a then none else storeGet l b := by
  induction l with
  | nil => simp [storeDel, storeGet]
  | cons x l ih =>
    obtain ⟨k, w⟩ := x
    simp only [storeDel] at ih ⊢
    by_cases h : k = a
    · subst h
      by_cases hb : b = k
      · simpa [hb] using ih
      · simpa [storeGet, hb, Ne.symm hb] using ih
    · by_cases hb : k = b
      · subst hb
        simp [storeGet, h]
      · simp [storeGet, h, hb, ih]

/-- A register reads what was written to it, and every other one as before. -/
theorem State.reg_setReg (s : State) (a v b : Nat) : (s.setReg a v).reg b = if b = a then v else s.reg b := by
  simp only [State.reg, State.setReg]
  by_cases hv : v = resetOf a
  · by_cases hb : b = a <;> simp [hv, storeGet_storeDel, hb]
  · by_cases hb : b = a <;> simp [hv, storeGet_storePut, hb]

@[simp] theorem State.reg_setReg_self (s : State) (a v : Nat) : (s.setReg a v).reg a = v := by simp [State.reg_setReg]

theorem State.reg_setReg_other (s : State) {a b : Nat} (v : Nat) (h : b ≠ a) : (s.setReg a v).reg b = s.reg b := by
  simp [State.reg_setReg, h]

theorem State.reg_bumpBy (s : State) (a n b : Nat) :
    (s.bumpBy a n).reg b = if b = a then min counterStop (s.reg a + n) else s.reg b := by
  simp [State.bumpBy, State.reg_setReg]

theorem State.reg_setRf (s : State) (a hi lo v b : Nat) :
    (s.setRf a hi lo v).reg b = if b = a then setBits (s.reg a) hi lo v else s.reg b := by
  simp [State.setRf, State.reg_setReg]

/-- A register's value depends on the register store alone. -/
theorem State.reg_congr {s t : State} (h : s.regs = t.regs) (a : Nat) : s.reg a = t.reg a := by simp [State.reg, h]

/-! ### The canonical form of memory -/

/-- Every key of a canonical memory from `a` on is above `a`. -/
def Memory.above (a : Nat) (m : List Host.Cell) : Prop := ∀ c ∈ m, a < c.1

theorem Memory.wf_cons (k : Nat) (v : Byte) (m : List Host.Cell) :
    Memory.wf ((k, v) :: m) = true ↔ v ≠ 0 ∧ Memory.above k m ∧ Memory.wf m = true := by
  induction m generalizing k v with
  | nil => simp [Memory.wf, Memory.above]
  | cons c m ih =>
    obtain ⟨k2, v2⟩ := c
    rw [show Memory.wf ((k, v) :: (k2, v2) :: m) = (v != 0 && decide (k < k2) && Memory.wf ((k2, v2) :: m)) from rfl]
    simp only [Bool.and_eq_true, bne_iff_ne, decide_eq_true_eq]
    constructor
    · rintro ⟨⟨hv, hk⟩, hw⟩
      refine ⟨hv, ?_, hw⟩
      intro c hc
      rcases List.mem_cons.1 hc with rfl | hc
      · exact hk
      · exact lt_trans hk ((ih k2 v2).1 hw |>.2.1 c hc)
    · rintro ⟨hv, ha, hw⟩
      exact ⟨⟨hv, ha (k2, v2) (by simp)⟩, hw⟩

theorem Memory.above_memPut {m : List Host.Cell} {a : Nat} (h : Memory.above a m) {b : Nat} (hb : a < b) (v : Byte) :
    Memory.above a (memPut m b v) := by
  induction m with
  | nil => unfold memPut; split <;> simp_all [Memory.above]
  | cons c m ih =>
    obtain ⟨k, w⟩ := c
    have hk : a < k := h (k, w) (by simp)
    have hm : Memory.above a m := fun c hc => h c (by simp [hc])
    unfold memPut
    split
    · split
      · exact h
      · intro c hc
        rcases List.mem_cons.1 hc with rfl | hc
        · exact hb
        · exact h c hc
    · split
      · split
        · exact hm
        · intro c hc
          rcases List.mem_cons.1 hc with rfl | hc
          · exact hb
          · exact hm c hc
      · intro c hc
        rcases List.mem_cons.1 hc with rfl | hc
        · exact hk
        · exact ih hm c hc

/-- Writing a byte keeps the canonical form. -/
theorem Memory.wf_memPut {m : List Host.Cell} (h : Memory.wf m = true) (a : Nat) (v : Byte) : Memory.wf (memPut m a v) = true := by
  induction m with
  | nil => unfold memPut; split <;> simp_all [Memory.wf]
  | cons c m ih =>
    obtain ⟨k, w⟩ := c
    obtain ⟨hw, ha, hm⟩ := (Memory.wf_cons k w m).1 h
    unfold memPut
    split
    · split
      · exact h
      · exact (Memory.wf_cons a v _).2 ⟨by assumption, fun c hc => by
          rcases List.mem_cons.1 hc with rfl | hc
          · assumption
          · exact lt_trans (by assumption) (ha c hc), h⟩
    · split
      · subst_vars
        split
        · exact hm
        · exact (Memory.wf_cons _ v _).2 ⟨by assumption, ha, hm⟩
      · exact (Memory.wf_cons k w _).2 ⟨hw, Memory.above_memPut ha (by omega) v, ih hm⟩

/-- Removing cells keeps the canonical form. -/
theorem Memory.wf_filter {m : List Host.Cell} (h : Memory.wf m = true) (p : Host.Cell → Bool) : Memory.wf (m.filter p) = true := by
  induction m with
  | nil => rfl
  | cons c m ih =>
    obtain ⟨k, w⟩ := c
    obtain ⟨hw, ha, hm⟩ := (Memory.wf_cons k w m).1 h
    by_cases hp : p (k, w)
    · rw [List.filter_cons_of_pos hp]
      exact (Memory.wf_cons k w _).2 ⟨hw, fun c hc => ha c (List.mem_of_mem_filter hc), ih hm⟩
    · rw [List.filter_cons_of_neg hp]
      exact ih hm

theorem Memory.wf_memPutAll {m : List Host.Cell} (h : Memory.wf m = true) (a : Nat) (bs : List Byte) :
    Memory.wf (memPutAll m a bs) = true := by
  induction bs generalizing m a with
  | nil => exact h
  | cons b bs ih => exact ih (Memory.wf_memPut h a b) (a + 1)

/-- A fold whose every step keeps a property of the state keeps it. -/
theorem foldl_inv {α : Type} (P : State → Prop) (f : State → α → State) (l : List α) (h : ∀ t a, P t → P (f t a)) {s : State} (hs : P s) :
    P (l.foldl f s) := by
  induction l generalizing s with
  | nil => exact hs
  | cons a l ih => exact ih (h s a hs)

theorem State.memOk_putBytes {s : State} (h : s.MemOk) (a : Nat) (bs : List Byte) : (s.putBytes a bs).MemOk := Memory.wf_memPutAll h a bs

theorem State.memOk_of_mem {s t : State} (h : s.MemOk) (e : t.mem = s.mem) : t.MemOk := by
  unfold State.MemOk at *; rw [e]; exact h

theorem State.memOk_storeSector {s : State} (h : s.MemOk) (a : Nat) (bs : List Byte) : (s.storeSector a bs).MemOk := by
  unfold State.storeSector
  split
  · dsimp only []
    split
    · exact h
    · exact Memory.wf_memPutAll h a bs
  · exact Memory.wf_memPutAll h a bs

/-- Every store keeps the canonical form. -/
theorem State.memOk_store {s : State} (h : s.MemOk) (a : Nat) (bs : List Byte) : (s.store a bs).MemOk := by
  unfold State.store
  split
  · exact foldl_inv State.MemOk _ _ (fun t b ht => State.memOk_storeSector ht _ _) h
  · exact Memory.wf_memPutAll h a bs

/-- Clearing a range keeps the canonical form. -/
theorem State.memOk_zeroRange {s : State} (h : s.MemOk) (a n : Nat) : (s.zeroRange a n).MemOk := Memory.wf_filter h _

/-- Clearing a Tilth bank keeps the canonical form. -/
theorem State.memOk_zeroBank {s : State} (h : s.MemOk) (f b : Nat) : (s.zeroBank f b).MemOk := Memory.wf_filter h _

/-! ### Reads after writes -/

theorem memGet_above {m : List Host.Cell} {a b : Nat} (h : Memory.above a m) (hb : b ≤ a) : memGet m b = 0 := by
  induction m with
  | nil => rfl
  | cons c m ih =>
    obtain ⟨k, w⟩ := c
    have hk : a < k := h (k, w) (by simp)
    simp only [memGet, ne_of_gt (lt_of_le_of_lt hb hk), if_false]
    exact ih (fun c hc => h c (by simp [hc]))

/-- A byte reads what was written to it, and every other one as before. -/
theorem memGet_memPut {m : List Host.Cell} (h : Memory.wf m = true) (a : Nat) (v : Byte) (b : Nat) :
    memGet (memPut m a v) b = if b = a then v else memGet m b := by
  induction m with
  | nil =>
    by_cases hb : b = a
    · by_cases hv : v = 0#8 <;> simp [memPut, memGet, hv, hb]
    · by_cases hv : v = 0#8 <;> simp [memPut, memGet, hv, hb, Ne.symm hb]
  | cons c m ih =>
    obtain ⟨k, w⟩ := c
    obtain ⟨_, ha, hm⟩ := (Memory.wf_cons k w m).1 h
    simp only [memPut]
    by_cases h1 : a < k
    · by_cases hb : b = a
      · subst hb
        by_cases hv : v = 0#8
        · simp [h1, hv, memGet, ne_of_gt h1, memGet_above ha (le_of_lt h1)]
        · simp [h1, hv, memGet]
      · by_cases hv : v = 0#8 <;> simp [h1, hv, hb, memGet, Ne.symm hb]
    · by_cases h2 : a = k
      · subst h2
        by_cases hb : b = a
        · subst hb
          by_cases hv : v = 0#8
          · simp [hv, memGet_above ha (le_refl _)]
          · simp [hv, memGet]
        · by_cases hv : v = 0#8 <;> simp [hv, hb, memGet, Ne.symm hb]
      · by_cases hb : k = b
        · subst hb
          simp [h1, h2, Ne.symm h2, memGet]
        · simp [h1, h2, memGet, hb, ih hm]

/-- The byte at b after bytes are written from a on. -/
theorem memGet_memPutAll {m : List Host.Cell} (h : Memory.wf m = true) (a : Nat) (bs : List Byte) (b : Nat) :
    memGet (memPutAll m a bs) b = if a ≤ b ∧ b < a + bs.length then bs.getD (b - a) 0 else memGet m b := by
  induction bs generalizing m a with
  | nil => simp [memPutAll]
  | cons x bs ih =>
    rw [memPutAll, ih (Memory.wf_memPut h a x), memGet_memPut h]
    rcases lt_trichotomy b a with hb | hb | hb
    · simp [not_le_of_gt hb, ne_of_lt hb, show ¬ a + 1 ≤ b by omega]
    · subst hb; simp
    · obtain ⟨d, rfl⟩ : ∃ d, b = a + 1 + d := ⟨b - a - 1, by omega⟩
      by_cases hd : d < bs.length
      · simp [show a ≤ a + 1 + d by omega, show a + 1 + d < a + (bs.length + 1) by omega, hd, show a + 1 + d - a = d + 1 by omega]
      · simp [show ¬ a + 1 + d < a + 1 + bs.length by omega, show ¬ a + 1 + d < a + (bs.length + 1) by omega, show ¬ a + 1 + d = a by omega]

/-- Bytes outside a write read as before it. -/
theorem State.byte_putBytes_outside {s : State} (h : s.MemOk) {a b : Nat} (bs : List Byte) (hb : b < a ∨ a + bs.length ≤ b) :
    (s.putBytes a bs).byte b = s.byte b := by
  simp only [State.byte, State.putBytes, memGet_memPutAll h]
  rw [if_neg (by omega)]

/-- A byte's value depends on memory alone. -/
theorem State.byte_congr {s t : State} (h : s.mem = t.mem) (a : Nat) : s.byte a = t.byte a := by simp [State.byte, h]

end Sys2Proof.Machine
end

