-- ==== Sys2Proof/WellFormed.lean ====
section
/-!
DEFINITION. Well-formed commands: operands that the ports, the standards and the types of the spec can bring. The meaning
of a command is total, so an ill-formed command has an effect too; it stands for nothing that the world can do.
-/
namespace Sys2Proof

/-- A hardware error changes something (R128). -/
def CheckFault.wellFormed (c : CheckFault) : Bool :=
  !(c.lanes.isEmpty && c.trees.isEmpty && c.products.isEmpty && c.copies.isEmpty && c.checksum.isEmpty)

/-- The chroma format is a code of R335. -/
def HdrInfo.wellFormed (h : HdrInfo) : Bool := decide (h.chroma ≤ 3)

/-- A syntax unit takes bits, and its state is one of three. -/
def SynUnit.wellFormed (u : SynUnit) : Bool := decide (1 ≤ u.bits) && decide (u.state ≤ 2)

/-- A position in a channel's member table (R374, R369: at most 32,768 members). -/
def positionOk (p : Nat) : Bool := decide (p < 32768)

/-- The positions of a seal are positions, and every flagging one is included (R378). -/
def SealRec.wellFormed (x : SealRec) : Bool := x.included.all positionOk && x.flags.all x.included.contains

/-- A token comes from a position, its values 64-bit words (R375). -/
def TokenMsg.wellFormed (t : TokenMsg) : Bool := positionOk t.pos && t.digest.all (fun v => decide (v < 2 ^ 64))

/-- A block is one of the three kinds and its sender is a position (R367, R409). -/
def BlockMsg.wellFormed (b : BlockMsg) : Bool := positionOk b.sender && decide (b.kind ≤ 2)

/-- A packet holds at least its header (R420), and a pairing answer is one of three (R479). -/
def SwathRx.wellFormed (r : SwathRx) : Bool :=
  decide (32 ≤ r.bytes.length) &&
  match r.body with
  | .pairing domain answer => decide (domain < 64) && decide (answer ≤ 2)
  | .slotWrite slot _ | .slotSeal slot _ | .slotRead slot _ _ => decide (slot ≤ 1)
  | _ => true

/-- An endpoint number is 16 bits (R420). -/
def endpointOk (e : Nat) : Bool := decide (e < 65536)

/-- A command whose operands the world can bring. -/
def Instr.wellFormed : Instr → Bool
  | .passRowAdd _ (some c) => c.wellFormed
  | .sampleStart _ h => h.wellFormed
  | .decodeSyntaxUnit _ u => u.wellFormed
  | .readyToken _ _ t => t.wellFormed
  | .sealReceived _ _ x => x.wellFormed
  | .sealResendRequest _ _ p => positionOk p
  | .blockReceived _ _ b => b.wellFormed
  | .peerReport _ _ r p => positionOk r && positionOk p
  | .dataReceived r | .ackReceived r | .nackReceived r _ | .probeReceived r | .probeReplyReceived r => r.wellFormed
  | .ackTimer e | .rtoExpiry e _ | .probeTimer e | .peerUnreachable e | .pairingMessage e _ _ => endpointOk e
  | .registerWrite _ header _ => header.toNat % 16 != 7
  | _ => true

end Sys2Proof
end

