-- ==== Sys2Proof/Tests/Slice0.lean ====
section
/-!
SUPPORT. Tests: small states, for every claim a theorem that its hypotheses are met (each clause of the claim in turn), the checks of
well-formedness, and values worked out by hand or published with the standards that the spec names.
-/
namespace Sys2Proof.Tests

open Machine

set_option Elab.async false

/-! ### States to test on -/

/-- The module after bring-up: the fabric open, the dies powered, the link up with its eight lanes. -/
def up : State :=
  { State.reset with
    steward := { stewardReset with stage := 0x0E, fabricOpen := true, ready := true, strapsTaken := true, causePending := 0 }
    hitch := { hitchReset with link := .up, lanes := 0xFF, version := 0x10 }
    power := { powerReset with dies := true }
    alm := { State.reset.alm with running := true }
    fields := List.replicate 8 ⟨false, .up, .up, .up, 0⟩
    arrays := List.replicate 8 { arrayReset with state := 1 }
    engines := List.replicate 16 ⟨1, none, 0⟩
    stackList := List.replicate 24 ⟨1, false, none, 0, false, [], none, 0, none⟩
    coulter := { coulterReset with cores := List.replicate 16 1 } }

/-- The port that the tests write through. -/
def hv : Via := .hitch 0 1

/-- A descriptor word from its fields: each value at the lowest bit of its place. -/
def word (l : List (Nat × Nat)) : Word512 := BitVec.ofNat 512 (l.foldl (fun a p => a + p.2 * 2 ^ p.1) 0)

/-- Word 0 of a descriptor of a class, an opcode and a number of words, with work_id 7. -/
def head (cls op words : Nat) (more : List (Nat × Nat) := []) : Word512 :=
  word ([(0, 1), (4, op), (16, cls), (24, words), (32, 7)] ++ more)

/-- A descriptor in flight under an id, its gate fired and its unit at work on it. -/
def fl (id cls op : Nat) (ws : List Word512) (p : Prog := .none) (more : List (Nat × Nat) := []) : Flight :=
  ⟨id, head cls op (ws.length + 1) more :: ws, .window 0, 1, none, true, true, 0, false, true, 0, none, p⟩

/-- The module with these descriptors in flight. -/
def fly (fs : List Flight) : State := { up with flights := fs, nextId := 16 }

/-- The module with a command window holding this. -/
def winUp (w : Nat) (x : Window) : State := { up with windows := up.windows.set w x }

/-- The last data window open across the end of Glean 7. -/
def dwUp : State := { up with regs := [(regAddr .datawin 3 0x100, gleanBase 7), (regAddr .datawin 3 0x108, gleanBase 7 + 64)] }

/-- The last command window enabled. -/
def winOn : State := { up with regs := [(regAddr .cmdwin 15 0x020, 1)] }

/-- The words of a PASS of one row on array 7. -/
def passWords : List Word512 := [word [(0, 1), (10, 7), (16, 2), (20, 2), (44, 1), (56, 1), (64, 1), (80, 1), (96, 1), (112, 1)], 0, 0]

/-- That PASS taken up, its tile not loaded. -/
def passIdle : PassProg :=
  { load := .idle, tile := none, swapped := false, fifo := [], nextRead := 0, pipe := [], nextEnter := 0, nextAdd := 0,
    feedStopped := false, cancelled := false, gating := false, skipped := none, key := ⟨1, 2, 1, 1, 0, false⟩, runner := 7, begun := false, turn := 0, tileCounted := false }

/-- Its tile loaded into the free plane. -/
def passFull : PassProg := { passIdle with load := .full, tile := some ⟨[[0x38]], [], [(1, 0)]⟩ }

/-- Its planes swapped, one row fetched. -/
def passFed : PassProg := { passFull with swapped := true, fifo := [⟨0, [0x38], []⟩], nextRead := 1 }

/-- Its row in the pipeline. -/
def passIn : PassProg := { passFull with swapped := true, pipe := [⟨0, [0x38], []⟩], nextRead := 1, nextEnter := 1 }

/-- The PASS in flight. -/
def passFl (q : PassProg) : Flight := fl 3 1 1 passWords (.pass q)

/-- The words of a Glean descriptor on the last row of Glean 7. -/
def gleanWords : List Word512 := [word [(0, 7), (8, 2047), (20, 1), (32, 0), (48, 1), (64, 6)], 0, 0]

/-- Only Field 7 is left. -/
def oneField : State :=
  { up with
    fields := List.replicate 7 ⟨true, .lost, .lost, .lost, 0xFF⟩ ++ [⟨false, .up, .up, .up, 0⟩]
    regs := [(regAddr .tilth 7 0x100, 0), (regAddr .tilth 7 0x108, 0), (regAddr .tilth 7 0x110, 0), (regAddr .tilth 7 0x118, 0)] }

/-- The words of a Harrow descriptor of one element on Field 7. -/
def harWords : List Word512 := [word [(0, 1), (16, 1), (56, 7), (60, 1)], word [(0, 0x500000000)], 0]

/-- That descriptor in flight on engine 15. -/
def harFl (op : Nat) (p : HarrowProg) : Flight := { fl 3 3 op harWords (.harrow p) with unit := 15 }

/-- The module with a Harrow descriptor in flight. -/
def harUp (f : Flight) : State := fly [f]

/-- The module with Winnow descriptors in flight. -/
def winnowUp (fs : List Flight) : State := fly fs

/-- A COPY in flight. -/
def copyFl (c : CopyProg) : Flight :=
  fl 3 4 1 [word [(0, gleanBase 1), (49, 7), (53, 31), (128, 64), (160, 1), (192, 1)], word [(0, gleanBase 0)]] (.copy c)

/-- A COPY into a ring. -/
def ringFl : Flight :=
  { fl 3 4 1 [word [(0, gleanBase 1), (49, 7), (53, 31), (128, 64), (117, 1), (160, 1), (192, 1)], 0]
      (.copy { row := 0, dst := 0, gate := none, gateOpen := true, credit := false, stopped := none, held := [] }) with started := false }

/-- A RING_SETUP or RING_CREDIT of the last queue of Field 7. -/
def ringSetFl (op : Nat) : Flight := fl 3 4 op [word [(0, tilthBase 7), (49, 7), (57, 31), (80, 2), (96, 64)]]

/-- A header as a core reads it. -/
def hdr0 : HdrInfo := ⟨true, false, false, 8, 8, 8, 0, 1, 1, some 8, 1, 8, false, 0, 0, 0⟩

/-- A sample on core 10, its output at a direct destination. -/
def samp0 : Samp :=
  { id := 5, owner := 3, area := 0, work := 7
    d := ⟨0x12, 0, false, false, 0, gleanBase 0, 1, 0, 0, 100, true, gleanBase 1, 64⟩
    core := some 10, restarted := false, stop := false, hdr := some hdr0, order := 0, o := 8, s := 0, limitP := false
    granules := some [], unit := 0, bits := 0, decoded := 0, valid := 0, padded := 0, written := 0, run := 0
    truncated := false, charged := 0, w := 0, outcome := none, voc := ⟨0, 0, 0, 0⟩ }

/-- The same sample in arena mode, waiting for granules. -/
def samp1 : Samp := { samp0 with granules := none, d := { samp0.d with direct := false } }

/-- A syntax unit of two pieces. -/
def unit0 : SynUnit := ⟨8, 0, 0, [], [[1, 2], [3]], [], false⟩

/-- A DECODE in flight. -/
def decFl : Flight := fl 3 5 1 [word [(0, 0x12), (128, gleanBase 7)], 0]

/-- The module with flights and samples. -/
def withSamps (fs : List Flight) (xs : List Samp) : State :=
  { fly fs with coulter := { up.coulter with samples := xs, nextSample := 16 } }

/-- The words of a BATCH of one area. -/
def batchWords : List Word512 := [word [(0, 1), (32, 1), (64, gleanBase 0), (192, 1)], word [(0, 64)]]

/-- The words of a live BATCH of stream 7. -/
def liveWords : List Word512 := [word [(0, 1), (8, 1), (16, 7), (32, 1), (480, 9)], word [(0, 64)]]

/-- Memory that holds a manifest entry. -/
def entryCells : List Host.Cell := [(gleanBase 0 + 6, 0x10#8)]

/-- A stream that has counted four frames. -/
def live0 : LiveSt := ⟨true, 0x800000000, [], none, false, false, 0, (0, 0, 0, 0), [], 0, 4, 0, false, false, 0⟩

/-- A last packet of a frame of stream 7. -/
def pkt0 : LivePkt := ⟨7, 63, false, 0xEF000007, 5, 9, 9, 0, true, true, [], []⟩

/-- Channel 31 on, with these members and arbiter records; this module is number 0. -/
def thrUp (ms : List (Nat × Bool)) (as : List ArbRec) : State :=
  { up with regs := [(thrChReg 31 0x020, 1)], thr := { thrReset with chans := thrReset.chans.set 31 ⟨ms, 0, 6⟩, arbs := as } }

/-- A member table of two modules in memory. -/
def memberCells : List Host.Cell := [(gleanBase 0 + 4, 1#8), (gleanBase 0 + 8, 1#8)]

/-- A collective that has not started. -/
def coll0 : CollProg :=
  { ch := 31, number := 5, phase := 0, start := 0, eWin := 0, digest := [], nf := false, held := none, outcome := 0, withdrawn := false
    cancelInfo := 0, parts := [], passed := [], results := [], keys := [], retries := [], kids := [], detachedTrees := []
    repaired := false, reported := false, maxima := none, sent := [], asks := [] }

/-- The words of a reduction on channel 31. -/
def collWords : List Word512 := [word [(0, 31), (8, 2), (96, 64), (192, gleanBase 0), (256, gleanBase 1), (320, gleanBase 2)]]

/-- The words of a delivery on channel 31. -/
def gatherWords : List Word512 := [word [(0, 31), (96, 64), (192, gleanBase 0), (256, gleanBase 1), (320, gleanBase 2)]]

/-- The words of a VERDICT on channel 31. -/
def verdWords : List Word512 := [word [(0, 31), (12, 1)]]

/-- A seal that includes these positions. -/
def seal0 (inc : List Nat) : SealRec := ⟨1, inc, [], 0, 0, 0⟩

/-- The arbiter's record of collective 5. -/
def arb0 : ArbRec := ⟨31, 5, false, 0, [], none, [], none, [], false, false, none, []⟩

/-- A block of 64 zeros from position 1. -/
def block0 : BlockMsg := ⟨1, 1, 0, 0, 0, 0, List.replicate 64 0, []⟩

/-- A fresh connection. -/
def conn0 : SwConn := SwConn.fresh []

/-- A connection whose peer is known. -/
def connUp : SwConn := { conn0 with peerInc := some 5 }

/-- A packet sent and not acknowledged. -/
def slot0 : TxSlot := ⟨0, 0, ⟨1, 0, 0, true, [], .other⟩, 0, 0, 0, 1, 0⟩
/-- A plan of two endpoints, this one number 1, with every link up and in service; port 7 has eight links. -/
def swUp (cs : List SwConn) : State :=
  { up with
    regs := [(swPortReg 7 0x100, 0x303), (swPortReg 7 0x020, 1), (tpReg 0x108, 2 ^ 32)]
    swath := { swathReset with
      plan := 2, links := List.replicate 64 ⟨3, true, true, [], none⟩, ports := List.replicate 8 ⟨0xFF, true, 0⟩
      eps := List.replicate 2 ⟨[], false, false, 0⟩, conns := cs } }

/-- A Swath header from endpoint 0 of a type, for a payload. -/
def swHdrOf (t : Nat) (d : List Byte) : SwHdr := ⟨d.length, false, false, false, true, t, 0, 0, 0, 0, 0, 5, 0, 1⟩

/-- The words of a transfer of 4,100 bytes. -/
def swWords : List Word512 := [word [(0, 0), (64, 0), (128, gleanBase 0), (256, 4100)]]

/-- A furlong between steps. -/
def fur0 : Furlong := ⟨2, 1, gleanBase 0, 0, false, 5, 2, 5, none, [], [], 0, false, 0, 0⟩

/-- A step whose one phase has an item in flight. -/
def run0 : StepRun := ⟨5, false, 0, [⟨0, 1, 2, none, 0, false, false, 0, 0, false, false⟩], false⟩

/-- A furlong that expands step 5. -/
def fur1 : Furlong := { fur0 with current := some (5, false), items := [.inst 0 0 0 0, .phaseEnd 0], running := [run0] }

/-- A step whose phase has completed. -/
def run1 : StepRun := ⟨5, false, 0, [⟨0, 1, 2, some 9, 11, false, false, 1, 0, true, false⟩], true⟩

/-- A step that has completed. -/
def run2 : StepRun := ⟨5, false, 0, [⟨0, 1, 2, some 9, 11, false, false, 1, 0, true, true⟩], true⟩

/-- The first words of an update image in memory. -/
def imageCells : List Host.Cell := [(gleanBase 0 + 64, 1#8), (gleanBase 0 + 67, 1#8), (gleanBase 0 + 68, 7#8)]

/-- A recovery table of one entry of a class: 64 bytes with copies in the Tilths of Fields 0 and 1. -/
def recUp (cls : Nat) : State :=
  { up with
    regs := [(recReg 0x100, gleanBase 0), (recReg 0x108, 1), (recReg 0x110, granaryBase), (recReg 0x118, 1)]
    mem := [(gleanBase 0 + 4, 1#8), (gleanBase 0 + 9, 0x40#8), (gleanBase 0 + 10, 1#8), (gleanBase 0 + 12, 64#8),
      (gleanBase 0 + 24, BitVec.ofNat 8 cls)] }

/-- Bring-up at a stage. -/
def bringing (n : Nat) : State :=
  { State.reset with
    steward := { stewardReset with stage := n, strapsTaken := decide (2 ≤ n) || n == 1 }
    power := { powerReset with dies := decide (6 ≤ n) } }

/-- The words of a READOUT of four FP32 elements that passes its checks. -/
def roWords : List Word512 :=
  [word [(0, 7), (8, 2047), (20, 1), (48, 4), (64, 6), (128, 1), (256, 4)], word [(0, tilthBase 7), (128 + 128, tilthBase 7 + 64)], 0]

/-- The words of a PRELOAD of the last four columns of a row. -/
def preWords : List Word512 := [word [(0, 7), (8, 2047), (20, 1), (32, 1020), (48, 4), (100, 6)], word [(0, tilthBase 7)]]

/-- The words of a raw copy of one row. -/
def rawWords : List Word512 := [word [(0, 7), (20, 1), (48, 1024), (128, tilthBase 7), (192, 12288), (256, tilthBase 7 + 0x4000)]]

/-- The words of a REDUCE of Fields 0 and 1. -/
def redWords : List Word512 := [word [(0, 0), (8, 2047), (20, 1), (48, 1), (64, 3), (72, 0)]]

/-- A slot of an operand word: address, stride and format. -/
def slotAt (i addr stride fmt : Nat) : List (Nat × Nat) := [(96 * i, addr), (96 * i + 48, stride), (96 * i + 80, fmt)]

/-- Word 1 of a Harrow descriptor of one row on Field 7. -/
def harF (op cols : Nat) (more : List (Nat × Nat)) : Word512 := word ([(0, 1), (16, cols), (40, op), (56, 7), (416, cols)] ++ more)

/-- A Harrow descriptor in flight with unit 0 on a thread. -/
def harFx (opc : Nat) (ws : List Word512) : Flight := { fl 3 3 opc ws (.harrow ⟨1, [⟨0, 15, 0⟩], [], 0⟩) with unit := 15 }

/-- A MAP of one element. -/
def mapWords : List Word512 := [harF 7 1 [(64, 6)], word (slotAt 0 (tilthBase 7) 4 6 ++ slotAt 3 (tilthBase 7 + 64) 4 6), 0]

/-- A ROWREDUCE of two elements. -/
def rowWords : List Word512 := [harF 1 2 [(64, 6)], word (slotAt 0 (tilthBase 7) 8 6 ++ slotAt 3 (tilthBase 7 + 64) 4 6)]

/-- A SOFTMAX of two elements with its statistics. -/
def softWords : List Word512 :=
  [harF 1 2 [(64, 6)], word (slotAt 0 (tilthBase 7) 8 6 ++ slotAt 3 (tilthBase 7 + 64) 8 6 ++ slotAt 4 (tilthBase 7 + 128) 8 6), 0]

/-- A NORM of two elements with its statistics. -/
def normWords : List Word512 :=
  [harF 1 2 [(64, 6)], word (slotAt 0 (tilthBase 7) 8 6 ++ slotAt 3 (tilthBase 7 + 64) 8 6 ++ slotAt 4 (tilthBase 7 + 128) 8 6)]

/-- An OPTIM of one element without momentum. -/
def optWords : List Word512 :=
  [harF 2 1 [(64, 6), (80, 6), (112, 6), (448 - 448, 0)], word (slotAt 0 (tilthBase 7) 4 6 ++ slotAt 1 (tilthBase 7 + 64) 4 6 ++
    slotAt 2 (tilthBase 7 + 128) 4 6 ++ slotAt 4 (tilthBase 7 + 192) 4 6),
   word (slotAt 0 (tilthBase 7 + 256) 4 6 ++ slotAt 2 (tilthBase 7 + 320) 4 6 ++ slotAt 3 (tilthBase 7 + 384) 4 6)]

/-- A reduction of 64 FP32 elements that passes its checks. -/
def sumWords : List Word512 := [word [(0, 31), (8, 3), (96, 64), (132, 1), (192, tilthBase 0), (256, tilthBase 0 + 4096), (320, tilthBase 0 + 8192), (176, 6)]]

/-- Its source table in memory. -/
def sumCells : List Host.Cell := [(tilthBase 0 + 1, 0x40#8), (tilthBase 0 + 4, 1#8), (tilthBase 0 + 6, 6#8)]

/-- A BROADCAST of one block from position 0. -/
def bcWords : List Word512 := [word [(0, 31), (96, 64), (140, 1), (192, tilthBase 0), (256, tilthBase 0 + 4096), (320, tilthBase 0 + 8192)]]

/-- A delivery of one block for each member. -/
def agWords : List Word512 := [word [(0, 31), (96, 64), (192, tilthBase 0), (256, tilthBase 0 + 4096), (320, tilthBase 0 + 8192)]]

/-- A collective of channel 31 sealed, in a phase. -/
def sealedUp (op phase : Nat) (ws : List Word512) : State :=
  { thrUp [(0, false), (1, true)] [] with flights := [fl 3 6 op ws (.coll { coll0 with phase := phase, held := some (seal0 [1]) })] }

/-! ### The hypotheses of every claim are met -/

theorem test_LinkRuns_1 :
    (∃ (m : BitVec 8) (s : State), s.hitch.link = .down ∧ s.serdesOn = true ∧ 4 ≤ popCount 8 m.toNat) ∧
    (∃ (m : BitVec 8) (s : State), (laneChoice (s.hitch.lanes &&& m.toNat)).isSome = true) ∧
    (∃ (m : BitVec 8) (s : State) (lanes : Nat) (v : Nat), s.hitch.link = .version ∧ laneChoice (s.hitch.lanes &&& m.toNat) = some lanes ∧ s.hitch.farVersion = some v ∧ 256 ≤ v) ∧
    (∃ (s : State), s.serdesOn = true ∧ s.hitch.link ≠ .up ∧ s.hitch.link ≠ .upNarrow ∧ s.hitch.link ≠ .failed) ∧
    (∃ (h : BitVec 64) (p : Word512) (s : State), s.ctrlUp = true ∧ bitsOf h.toNat 7 0 = 7 ∧ linkCtrlOk p.toNat = true) ∧
    (∃ (s : State), s.linkUp = true) ∧
    (∃ (s : State), s.ctrlUp = true ∧ s.hitch.rxReplay = true) ∧
    (∃ (s : State), s.ctrlUp = true) :=
  ⟨⟨0xFF, { up with hitch := hitchReset }, by decide +kernel⟩,
   ⟨0x0F, { up with hitch := { up.hitch with link := .detect } }, by decide +kernel⟩,
   ⟨0x0F, { up with hitch := { up.hitch with link := .version, farVersion := some 256 } }, 0x0F, 256, by decide +kernel⟩,
   ⟨{ up with hitch := { hitchReset with attempts := 7 } }, by decide +kernel⟩,
   ⟨7, BitVec.ofNat 512 ((4 + 5 * 2 ^ 128)), up, by decide +kernel⟩,
   ⟨up, by decide +kernel⟩,
   ⟨{ up with hitch := { up.hitch with rxReplay := true } }, by decide +kernel⟩,
   ⟨up, by decide +kernel⟩⟩

theorem test_LinkRuns_2 :
    (∃ (s : State), s.linkUp = true) ∧
    (∃ (n : Fin 4) (s : State), s.linkUp = true ∧ n.val + 1 ≤ s.hitch.events.length ∧ n.val + 1 ≤ s.creditsLeft) :=
  ⟨⟨up, by decide +kernel⟩,
   ⟨3, { up with hitch := { up.hitch with events := List.replicate 5 ⟨0, 1, 2, 3, 4⟩, credit := 4 } }, by decide +kernel⟩⟩

theorem test_HitchRequests :
    (∃ (seq : BitVec 12) (tag : BitVec 8) (a : Addr) (v : Word) (s : State), Lands (.hitch seq tag) s a.toNat v.toNat ∧ a.toNat ≠ stewReg 0x110) ∧
    (∃ (seq : BitVec 12) (tag : BitVec 8) (a : Addr) (v : Word) (s : State), (Via.hitch seq tag).Takes s ∧ ((Via.hitch seq tag).reply s a.toNat v.toNat).code ≠ 0) ∧
    (∃ (seq : BitVec 12) (tag : BitVec 8) (w : Fin 4) (s : State), s.MemOk ∧ (Via.hitch seq tag).Takes s ∧ s.dwCode w.val true = 0 ∧ ((∀ i, i < 64 → s.deadAt (s.dwAddr w.val + i) = false))) ∧
    (∃ (seq : BitVec 12) (tag : BitVec 8) (w : Fin 4) (s : State), (Via.hitch seq tag).Takes s ∧ s.dwCode w.val false = 0 ∧ s.hitch.replay.length < 256 ∧ s.hitch.txQueue = []) ∧
    (∃ (seq : BitVec 12) (tag : BitVec 8) (w : Fin 16) (s : State), (Via.hitch seq tag).Takes s ∧ s.asleep = false ∧ w.val < s.windows.length ∧ s.enabled .cmdwin w.val = true ∧ (s.win w.val).framing = false ∧ (s.win w.val).fullLatch = false ∧ (s.win w.val).words.length < 256) :=
  ⟨⟨0, 1, BitVec.ofNat 48 (regAddr .glean 0 0x020), 1, up, by decide +kernel⟩,
   ⟨0, 1, BitVec.ofNat 48 (regAddr .glean 0 0x020), 8, up, by decide +kernel⟩,
   ⟨0, 1, 3, dwUp, by decide +kernel⟩,
   ⟨0, 1, 3, dwUp, by decide +kernel⟩,
   ⟨0, 1, 15, winOn, by decide +kernel⟩⟩

theorem test_AcceptedWriteIsAnswered :
    ∃ (via : Via) (s : State) (a : Nat) (v : Nat), Lands via s a v ∧ v < 2 ^ 64 ∧ a ≠ stewReg 0x110 :=
  ⟨hv, up, regAddr .glean 0 0x020, 1, by decide +kernel⟩

theorem test_PageWrites :
    (∃ (via : Via) (p : BitVec 16) (bits : Word) (s : State), Lands via s (p.toNat * 0x1000 + 0x030) bits.toNat) ∧
    (∃ (via : Via) (p : BitVec 16) (s : State), Lands via s (p.toNat * 0x1000 + 0x040) 0) ∧
    (∃ (via : Via) (p : BitVec 16) (on : Bool) (gate : Bool) (s : State), Lands via s (p.toNat * 0x1000 + 0x020) (b2n on + 4 * b2n gate)) ∧
    (∃ (via : Via) (p : BitVec 16) (on : Bool) (gate : Bool) (s : State), Lands via s (p.toNat * 0x1000 + 0x020) (2 + b2n on + 4 * b2n gate)) ∧
    (∃ (via : Via) (s : State), Lands via s (hitchReg 0x118) 2) ∧
    (∃ (via : Via) (s : State), Lands via s (hitchReg 0x118) 1) ∧
    (∃ (via : Via) (w : Fin 16) (s : State), Lands via s (regAddr .cmdwin w.val 0x108) 1) ∧
    (∃ (via : Via) (w : Fin 16) (s : State), Lands via s (regAddr .cmdwin w.val 0x108) 2) :=
  ⟨⟨hv, BitVec.ofNat 16 (regAddr .glean 0 0 / 0x1000), 1, { up with regs := [(regAddr .glean 0 0x030, 3)] }, by decide +kernel⟩,
   ⟨hv, BitVec.ofNat 16 (regAddr .glean 0 0 / 0x1000), { up with regs := [(regAddr .glean 0 0x040, 0x0701)] }, by decide +kernel⟩,
   ⟨hv, BitVec.ofNat 16 (regAddr .glean 0 0 / 0x1000), true, true, up, by decide +kernel⟩,
   ⟨hv, BitVec.ofNat 16 (regAddr .cmdwin 0 0 / 0x1000), true, true, up, by decide +kernel⟩,
   ⟨hv, up, by decide +kernel⟩,
   ⟨hv, up, by decide +kernel⟩,
   ⟨hv, 15, up, by decide +kernel⟩,
   ⟨hv, 15, up, by decide +kernel⟩⟩

theorem test_WindowParses :
    (∃ (w : Fin 16) (s : State) (h : Word512) (ws : List Word512), (s.win w.val).framing = false ∧ (s.win w.val).halted = false ∧ s.placeRuns (s.consumer w.val) = true ∧ (s.win w.val).words = h :: ws ∧ 1 ≤ hWords h ∧ hWords h ≤ 4 ∧ hWords h ≤ (h :: ws).length ∧ (s.parseSeen w.val).descCheck (s.consumer w.val) ((h :: ws).take (hWords h)) = 0) ∧
    (∃ (w : Fin 16) (s : State) (h : Word512) (ws : List Word512), (s.win w.val).framing = false ∧ (s.win w.val).halted = false ∧ s.placeRuns (s.consumer w.val) = true ∧ (s.win w.val).words = h :: ws ∧ 1 ≤ hWords h ∧ hWords h ≤ 4 ∧ hWords h ≤ (h :: ws).length ∧ (s.parseSeen w.val).descCheck (s.consumer w.val) ((h :: ws).take (hWords h)) ≠ 0) ∧
    (∃ (w : Fin 16) (s : State) (h : Word512) (ws : List Word512), (s.win w.val).framing = false ∧ (s.win w.val).halted = false ∧ s.placeRuns (s.consumer w.val) = true ∧ (s.win w.val).words = h :: ws ∧ ((hWords h = 0 ∨ 5 ≤ hWords h))) :=
  ⟨⟨15, winUp 15 ⟨[head 0 0 1], [], false, false, false⟩, head 0 0 1, [], by decide +kernel⟩,
   ⟨15, winUp 15 ⟨[head 0 9 1], [], false, false, false⟩, head 0 9 1, [], by decide +kernel⟩,
   ⟨15, winUp 15 ⟨[head 0 0 5], [], false, false, false⟩, head 0 0 5, [], by decide +kernel⟩⟩

theorem test_DescriptorsIssue :
    (∃ (w : Fin 16) (s : State) (place : Nat) (d : List Word512) (rest : List (Nat × List Word512)), (s.win w.val).halted = false ∧ s.placeRuns place = true ∧ s.hitch.job = .running ∧ (s.win w.val).parsed = (place, d) :: rest ∧ ((hFence (dword d 0) = true → s.fenceClear w.val = true)) ∧ s.issueHeld d s.stepNow = false ∧ s.descCheck place d = 0 ∧ s.issueCheck d s.stepNow = 0) ∧
    (∃ (id : Nat) (s : State) (f : Flight), s.flightOf id 0 0 = some f) ∧
    (∃ (id : Nat) (s : State) (f : Flight), s.flightOf id 0 1 = some f ∧ f.fired = true) :=
  ⟨⟨15, winUp 15 ⟨[], [(0, [head 0 0 1])], false, false, false⟩, 0, [head 0 0 1], [], by decide +kernel⟩,
   ⟨3, fly [fl 3 0 0 []], fl 3 0 0 [], by decide +kernel⟩,
   ⟨3, fly [fl 3 0 1 [] .none [(160, 2 ^ 31 + 1023)]], fl 3 0 1 [] .none [(160, 2 ^ 31 + 1023)], by decide +kernel⟩⟩

theorem test_WaitsAndControlLost :
    (∃ (i : Nat) (s : State) (h : HostWait), s.hostWaits[i]? = some h ∧ h.late = false ∧ h.start + h.limit < s.now ∧ s.waitsNow.contains h.kind = true) ∧
    (∃ (place : Fin 9) (s : State), s.fields.length = 8 ∧ s.steward.ready = true ∧ ((place.val < 8 → s.lost place.val = false))) ∧
    (∃ (place : Fin 9) (s : State), s.fields.length = 8 ∧ s.steward.ready = true ∧ ((place.val < 8 → s.lost place.val = false)) ∧ s.placeBusy place.val = true) ∧
    (∃ (via : Via) (f : Fin 8) (cores : BitVec 8) (c : Fin 8) (s : State), s.fields.length = 8 ∧ s.lost f.val = false ∧ Lands via s (regAddr .reeve f.val 0x100) cores.toNat ∧ bitOf cores.toNat c.val = true ∧ bitOf (s.reg (regAddr .reeve f.val 0x100)) c.val = false) ∧
    (∃ (l : Fin 14) (s : State), s.hedgeState l.val = .up) ∧
    (∃ (l : Fin 6) (s : State), s.fields.length = 8 ∧ s.hedgeState (8 + l.val) = .up) ∧
    (∃ (f : Fin 8) (s : State), s.fields.length = 8 ∧ s.arrays.length = 8 ∧ s.hedgeState f.val = .up ∧ s.lost f.val = false) :=
  ⟨⟨0, { fly [{ fl 3 4 1 [] with fired := false }] with hostWaits := [⟨.linkDown, 0, 9, false⟩], hitch := hitchReset, alm := { up.alm with acc := BitVec.ofNat 96 (10 * 2 ^ 32) } }, ⟨.linkDown, 0, 9, false⟩, by decide +kernel⟩,
   ⟨8, up, by decide +kernel⟩,
   ⟨8, winUp 0 ⟨[], [(8, [head 0 0 1])], false, false, false⟩, by decide +kernel⟩,
   ⟨hv, 0, 0x80, 7, up, by decide +kernel⟩,
   ⟨13, up, by decide +kernel⟩,
   ⟨5, up, by decide +kernel⟩,
   ⟨7, up, by decide +kernel⟩⟩

theorem test_PassRuns :
    (∃ (id : Nat) (s : State) (f : Flight), s.flightOf id 1 1 = some f ∧ f.prog = .none ∧ f.ending = none ∧ s.takeBlocked f = false ∧ (((passF f.words).reuse = false ∨ ((s.array (passF f.words).array).quad (passF f.words).quadrant).predGone = false))) ∧
    (∃ (id : Nat) (s : State) (f : Flight) (q : PassProg), s.flightOf id 1 1 = some f ∧ f.pass? = some q ∧ q.load = .idle ∧ q.swapped = false ∧ q.cancelled = false ∧ q.feedStopped = false ∧ 0 < (passF f.words).m ∧ ((f.wait = none ∨ f.waitMet = true)) ∧ s.arrayWorks q.runner = true ∧ s.enabled .furrow (passF f.words).array = true ∧ s.takesActive (passF f.words) q = false ∧ (s.passesBefore id (passF f.words) q.runner).all (fun g => g.2.swapped || g.2.cancelled || g.2.feedStopped || s.takesActive (passF g.1.words) g.2) = true) ∧
    (∃ (id : Nat) (s : State) (f : Flight) (q : PassProg), s.flightOf id 1 1 = some f ∧ f.pass? = some q ∧ q.load = .loading) ∧
    (∃ (id : Nat) (s : State) (f : Flight) (q : PassProg), s.flightOf id 1 1 = some f ∧ f.pass? = some q ∧ q.load = .full ∧ q.swapped = false ∧ q.cancelled = false ∧ f.fired = true ∧ s.arrayWorks q.runner = true ∧ entryClear (passF f.words) (s.passesBefore id (passF f.words) q.runner) = true) ∧
    (∃ (id : Nat) (s : State) (f : Flight) (q : PassProg) (r : RowData) (rest : List RowData) (w : Tile), s.flightOf id 1 1 = some f ∧ f.pass? = some q ∧ q.swapped = true ∧ q.fifo = r :: rest ∧ q.tile = some w ∧ f.fired = true ∧ q.cancelled = false ∧ s.arrayWorks q.runner = true ∧ (s.array q.runner).fault = none) ∧
    (∃ (id : Nat) (s : State) (f : Flight) (q : PassProg) (r : RowData) (rest : List RowData) (w : Tile), s.flightOf id 1 1 = some f ∧ f.pass? = some q ∧ q.pipe = r :: rest ∧ q.tile = some w ∧ s.arrayWorks q.runner = true ∧ (s.array q.runner).fault = none ∧ s.lost (passF f.words).array = false ∧ s.rowsAhead id (passF f.words) q = false) ∧
    (∃ (id : Nat) (s : State) (f : Flight) (q : PassProg), s.flightOf id 1 1 = some f ∧ f.pass? = some q ∧ q.pipe = [] ∧ f.ending = none ∧ 0 < (passF f.words).m ∧ (passF f.words).m ≤ q.nextAdd) :=
  ⟨⟨3, fly [fl 3 1 1 passWords], fl 3 1 1 passWords, by decide +kernel⟩,
   ⟨3, { fly [passFl passIdle] with regs := [(regAddr .furrow 7 0x020, 1)] }, passFl passIdle, passIdle, by decide +kernel⟩,
   ⟨3, fly [passFl { passIdle with load := .loading }], passFl { passIdle with load := .loading }, { passIdle with load := .loading }, by decide +kernel⟩,
   ⟨3, fly [passFl passFull], passFl passFull, passFull, by decide +kernel⟩,
   ⟨3, fly [passFl passFed], passFl passFed, passFed, ⟨0, [0x38], []⟩, [], ⟨[[0x38]], [], [(1, 0)]⟩, by decide +kernel⟩,
   ⟨3, fly [passFl passIn], passFl passIn, passIn, ⟨0, [0x38], []⟩, [], ⟨[[0x38]], [], [(1, 0)]⟩, by decide +kernel⟩,
   ⟨3, fly [passFl { passIdle with nextAdd := 1 }], passFl { passIdle with nextAdd := 1 }, { passIdle with nextAdd := 1 }, by decide +kernel⟩⟩

theorem test_ArraysFail :
    (∃ (id : Nat) (e : CheckFault) (c : CheckHit) (more : List CheckHit) (s : State) (f : Flight) (q : PassProg) (r : RowData) (rest : List RowData) (w : Tile), s.flightOf id 1 1 = some f ∧ f.pass? = some q ∧ q.pipe = r :: rest ∧ q.tile = some w ∧ s.arrayWorks q.runner = true ∧ (s.array q.runner).fault = none ∧ s.lost (passF f.words).array = false ∧ q.runner < s.arrays.length ∧ s.rowsAhead id (passF f.words) q = false ∧ (rowChecked (passF f.words) w r (some e)).2 = c :: more) ∧
    (∃ (f : Fin 8) (s : State) (x : ArrayFault), s.arrays.length = 8 ∧ (s.array f.val).fault = some x ∧ (s.array f.val).state ≠ 2) ∧
    (∃ (via : Via) (f : Fin 8) (v : Word) (s : State), s.arrays.length = 8 ∧ Lands via s (regAddr .furrow f.val 0x100) (v.toNat ||| 2) ∧ bitOf (s.reg (regAddr .furrow f.val 0x100)) 1 = false) ∧
    (∃ (f : Fin 8) (h : Nat) (s : State), s.arrays.length = 8 ∧ (s.array f.val).state = 2 ∧ (s.array f.val).hostedBy = none ∧ s.lost f.val = false ∧ s.coresWorking 8 ≠ 0 ∧ (helperOrder f.val).find? (fun h => h != f.val && s.arrayWorks h) = some h) :=
  ⟨⟨3, ⟨[], [(0, 1)], [], [], []⟩, ⟨1, 1, 2, 0⟩, [⟨2, 1, 2, 0⟩], fly [passFl passIn], passFl passIn, passIn, ⟨0, [0x38], []⟩, [], ⟨[[0x38]], [], [(1, 0)]⟩, by decide +kernel⟩,
   ⟨7, { up with arrays := List.replicate 8 { arrayReset with state := 1, fault := some ⟨0x0602, 1, 2, 3, 4, 5, 0, 1, 7⟩ } }, ⟨0x0602, 1, 2, 3, 4, 5, 0, 1, 7⟩, by decide +kernel⟩,
   ⟨hv, 7, 2, up, by decide +kernel⟩,
   ⟨7, 6, { up with arrays := up.arrays.set 7 { arrayReset with state := 2 } }, by decide +kernel⟩⟩

theorem test_GleanRuns_1 :
    (∃ (id : Nat) (s : State) (f : Flight) (sp : Spec), s.flightOf id 2 1 = some f ∧ s.gleanReady f = true ∧ regionEmpty (gleanF f.words) = false ∧ f.glean?.row < (gleanF f.words).rows ∧ f.glean?.memPoison = false ∧ s.rangesPoisoned (epiRowRanges (gleanF f.words) (opF (f.w 3)) f.glean?.row) = false ∧ Spec.ofBits (gleanF f.words).spec (gleanF f.words).s 0 = some sp) ∧
    (∃ (id : Nat) (s : State) (f : Flight), s.flightOf id 2 2 = some f ∧ s.gleanReady f = true ∧ regionEmpty (gleanF f.words) = false ∧ f.glean?.row < (gleanF f.words).rows) ∧
    (∃ (id : Nat) (s : State) (f : Flight), s.MemOk ∧ s.flightOf id 2 3 = some f ∧ s.gleanReady f = true ∧ regionEmpty (gleanF f.words) = false ∧ f.glean?.row < (gleanF f.words).rows) ∧
    (∃ (id : Nat) (s : State) (f : Flight), s.flightOf id 2 4 = some f ∧ s.gleanReady f = true ∧ regionEmpty (gleanF f.words) = false ∧ f.glean?.row < (gleanF f.words).rows) ∧
    (∃ (id : Nat) (s : State) (f : Flight), s.flightOf id 2 5 = some f ∧ s.gleanReady f = true ∧ regionEmpty (gleanF f.words) = false ∧ f.glean?.row < (gleanF f.words).rows ∧ f.glean?.memPoison = false ∧ f.glean?.checked = true ∧ s.rangesPoisoned [((gleanF f.words).dataAddr + f.glean?.row * (gleanF f.words).dataStride, 12288), ((gleanF f.words).metaAddr + f.glean?.row * 32, 32)] = false) ∧
    (∃ (id : Nat) (s : State) (f : Flight), s.flightOf id 2 6 = some f ∧ s.gleanReady f = true ∧ regionEmpty (gleanF f.words) = false ∧ f.glean?.row < (gleanF f.words).rows ∧ f.glean?.checked = true) ∧
    (∃ (id : Nat) (s : State) (f : Flight), s.flight id = some f ∧ f.cls = 2 ∧ s.gleanReady f = true ∧ f.glean?.memPoison = false ∧ (gleanF f.words).rows ≤ f.glean?.row) ∧
    (∃ (f : Fin 8) (s : State), s.lost f.val = false) :=
  ⟨⟨3, fly [fl 3 2 1 gleanWords (.glean ⟨0, false, false, true, []⟩)], fl 3 2 1 gleanWords (.glean ⟨0, false, false, true, []⟩), ⟨.fp32, .rne, false, 0, 0⟩, by decide +kernel⟩,
   ⟨3, fly [fl 3 2 2 gleanWords (.glean ⟨0, false, false, true, []⟩)], fl 3 2 2 gleanWords (.glean ⟨0, false, false, true, []⟩), by decide +kernel⟩,
   ⟨3, fly [fl 3 2 3 gleanWords (.glean ⟨0, false, false, true, []⟩)], fl 3 2 3 gleanWords (.glean ⟨0, false, false, true, []⟩), by decide +kernel⟩,
   ⟨3, fly [fl 3 2 4 gleanWords (.glean ⟨0, false, false, true, []⟩)], fl 3 2 4 gleanWords (.glean ⟨0, false, false, true, []⟩), by decide +kernel⟩,
   ⟨3, fly [fl 3 2 5 gleanWords (.glean ⟨0, false, false, true, []⟩)], fl 3 2 5 gleanWords (.glean ⟨0, false, false, true, []⟩), by decide +kernel⟩,
   ⟨3, fly [fl 3 2 6 gleanWords (.glean ⟨0, false, false, true, []⟩)], fl 3 2 6 gleanWords (.glean ⟨0, false, false, true, []⟩), by decide +kernel⟩,
   ⟨3, fly [fl 3 2 3 gleanWords (.glean ⟨1, false, false, true, []⟩)], fl 3 2 3 gleanWords (.glean ⟨1, false, false, true, []⟩), by decide +kernel⟩,
   ⟨7, up, by decide +kernel⟩⟩

theorem test_GleanRuns_2 :
    ∃ (f : Fin 8) (s : State), s.lost f.val = false :=
  ⟨7, up, by decide +kernel⟩

theorem test_HarrowRuns_1 :
    (∃ (e : Fin 16) (th : Fin 16) (s : State) (f : Flight), (s.engineFlights e.val).find? Flight.unitsLeft = some f ∧ s.engineWorks e.val = true ∧ s.enabled .harrow e.val = true ∧ s.enabled .harrow f.unit = true ∧ f.fired = true ∧ s.flight f.id = some f ∧ (s.optimHeader f).ending = none ∧ (s.engineFlights e.val).any (fun g => g.harrow?.running.any (fun u => u.thread == th.val)) = false ∧ ((hFence f.hdr = true → ((s.engineFlights e.val).takeWhile (fun g => g.id != f.id)).isEmpty = true))) ∧
    (∃ (id : Nat) (u : Nat) (s : State) (f : Flight) (e : Nat) (x : HarrowUnit), s.flightOf id 3 1 = some f ∧ s.unitReady f u = some (e, x)) ∧
    (∃ (id : Nat) (u : Nat) (s : State) (f : Flight) (e : Nat) (x : HarrowUnit), s.flightOf id 3 2 = some f ∧ s.unitReady f u = some (e, x)) ∧
    (∃ (id : Nat) (u : Nat) (s : State) (f : Flight) (e : Nat) (x : HarrowUnit), s.flightOf id 3 3 = some f ∧ s.unitReady f u = some (e, x)) ∧
    (∃ (id : Nat) (u : Nat) (s : State) (f : Flight) (e : Nat) (x : HarrowUnit), s.flightOf id 3 4 = some f ∧ s.unitReady f u = some (e, x)) ∧
    (∃ (id : Nat) (u : Nat) (s : State) (f : Flight) (e : Nat) (x : HarrowUnit), s.flightOf id 3 5 = some f ∧ s.unitReady f u = some (e, x)) ∧
    (∃ (id : Nat) (u : Nat) (s : State) (f : Flight) (x : HarrowUnit), s.flight id = some f ∧ f.cls = 3 ∧ f.fired = true ∧ f.harrow?.running.find? (fun x => x.unit == u && decide (unitChunks f.words ≤ x.stored)) = some x) ∧
    (∃ (e : Fin 16) (c : Fin 4) (s : State), s.engines.length = 16 ∧ s.engineWorks e.val = true ∧ c.val ≠ 0) :=
  ⟨⟨15, 15, { harUp (harFl 1 ⟨0, [], [], 0⟩) with regs := [(regAddr .harrow 15 0x020, 1)] }, harFl 1 ⟨0, [], [], 0⟩, by decide +kernel⟩,
   ⟨3, 0, harUp (harFl 1 ⟨1, [⟨0, 15, 0⟩], [], 0⟩), harFl 1 ⟨1, [⟨0, 15, 0⟩], [], 0⟩, 15, ⟨0, 15, 0⟩, by decide +kernel⟩,
   ⟨3, 0, harUp (harFl 2 ⟨1, [⟨0, 15, 0⟩], [], 0⟩), harFl 2 ⟨1, [⟨0, 15, 0⟩], [], 0⟩, 15, ⟨0, 15, 0⟩, by decide +kernel⟩,
   ⟨3, 0, harUp (harFl 3 ⟨1, [⟨0, 15, 0⟩], [], 0⟩), harFl 3 ⟨1, [⟨0, 15, 0⟩], [], 0⟩, 15, ⟨0, 15, 0⟩, by decide +kernel⟩,
   ⟨3, 0, harUp (harFl 4 ⟨1, [⟨0, 15, 0⟩], [], 0⟩), harFl 4 ⟨1, [⟨0, 15, 0⟩], [], 0⟩, 15, ⟨0, 15, 0⟩, by decide +kernel⟩,
   ⟨3, 0, harUp (harFl 5 ⟨1, [⟨0, 15, 0⟩], [], 0⟩), harFl 5 ⟨1, [⟨0, 15, 0⟩], [], 0⟩, 15, ⟨0, 15, 0⟩, by decide +kernel⟩,
   ⟨3, 0, harUp (harFl 1 ⟨1, [⟨0, 15, 1⟩], [], 0⟩), harFl 1 ⟨1, [⟨0, 15, 1⟩], [], 0⟩, ⟨0, 15, 1⟩, by decide +kernel⟩,
   ⟨15, 3, up, by decide +kernel⟩⟩

theorem test_HarrowRuns_2 :
    (∃ (e : Fin 16) (s : State), s.engineWorks e.val = true) ∧
    (∃ (via : Via) (e : Fin 16) (v : Word) (s : State), s.engines.length = 16 ∧ Lands via s (regAddr .harrow e.val 0x100) (v.toNat ||| 2) ∧ bitOf (s.reg (regAddr .harrow e.val 0x100)) 1 = false) :=
  ⟨⟨15, up, by decide +kernel⟩,
   ⟨hv, 15, 2, up, by decide +kernel⟩⟩

theorem test_WinnowRuns :
    (∃ (id : Nat) (s : State) (f : Flight), s.flightOf id 0x0A 1 = some f ∧ s.winnowReady f = true ∧ (winnowF f.words).step = s.winnow.lastClosed + 1 ∧ s.flights.any (fun g => g.id != id && g.cls != 0x0A && g.cls != 0x08 && decide (g.step ≤ (winnowF f.words).step)) = false ∧ s.rangesPoisoned (s.closeReads (winnowF f.words).step) = false) ∧
    (∃ (id : Nat) (s : State) (f : Flight), s.flightOf id 0x0A 2 = some f ∧ s.winnowReady f = true ∧ s.rangesPoisoned (winnowFootprint f.words) = false ∧ (List.range (winnowF f.words).count).any (fun i => tagCfgBad (s.num ((winnowF f.words).addr + 8 * i) 8)) = false) ∧
    (∃ (id : Nat) (s : State) (f : Flight), s.flightOf id 0x0A 3 = some f ∧ s.winnowReady f = true ∧ 0 < (winnowF f.words).count ∧ s.poisonedIn (s.tagAddr s.reporter (winnowF f.words).first) (64 * (winnowF f.words).count) = false) ∧
    (∃ (id : Nat) (s : State) (f : Flight), s.flightOf id 0x0A 4 = some f ∧ s.winnowReady f = true ∧ s.winnow.openSteps = [] ∧ 0 < (winnowF f.words).count ∧ s.rangesPoisoned (winnowFootprint f.words) = false ∧ (List.range (winnowF f.words).count).any (fun i => (s.readTag ((winnowF f.words).addr + 16 + 64 * i)).bad) = false ∧ s.num (winnowF f.words).addr 8 < 2 ^ 48 ∧ s.num ((winnowF f.words).addr + 8) 8 = 0) ∧
    (∃ (id : Nat) (s : State) (f : Flight), s.flightOf id 0x0A 5 = some f ∧ s.winnowReady f = true) ∧
    (∃ (via : Via) (f : Fin 8) (gate : Bool) (s : State), Lands via s (regAddr .winnow f.val 0x020) (1 + 4 * b2n gate) ∧ s.enabled .winnow f.val = false) ∧
    (∃ (via : Via) (f : Fin 8) (v : Word) (s : State), Lands via s (regAddr .winnow f.val 0x100) v.toNat) ∧
    (∃ (via : Via) (f : Fin 8) (v : Word) (s : State), Lands via s (regAddr .winnow f.val 0x110) v.toNat) :=
  ⟨⟨3, fly [fl 3 0x0A 1 [word [(64, 1)]]], fl 3 0x0A 1 [word [(64, 1)]], by decide +kernel⟩,
   ⟨3, winnowUp [fl 3 0x0A 2 [word [(16, 1), (128, gleanBase 0)]]], fl 3 0x0A 2 [word [(16, 1), (128, gleanBase 0)]], by decide +kernel⟩,
   ⟨3, winnowUp [fl 3 0x0A 3 [word [(32, 1), (128, gleanBase 0)]]], fl 3 0x0A 3 [word [(32, 1), (128, gleanBase 0)]], by decide +kernel⟩,
   ⟨3, winnowUp [fl 3 0x0A 4 [word [(32, 1), (128, gleanBase 0)]]], fl 3 0x0A 4 [word [(32, 1), (128, gleanBase 0)]], by decide +kernel⟩,
   ⟨3, winnowUp [fl 3 0x0A 5 [word []]], fl 3 0x0A 5 [word []], by decide +kernel⟩,
   ⟨hv, 7, true, { up with regs := [(winnowReg 7 0x108, 0)] }, by decide +kernel⟩,
   ⟨hv, 7, 0x10000800, oneField, by decide +kernel⟩,
   ⟨hv, 7, 0x100FF, up, by decide +kernel⟩⟩

theorem test_TilthBanksChange :
    (∃ (via : Via) (f : Fin 8) (v : Word) (s : State), Lands via s (regAddr .tilth f.val 0x100) v.toNat) ∧
    (∃ (via : Via) (f : Fin 8) (set : Fin 3) (v : Word) (s : State), Lands via s (regAddr .tilth f.val (0x108 + 8 * set.val)) v.toNat) ∧
    (∃ (f : Fin 8) (b : Fin 96) (s : State), s.bankMoves.any (fun m => m.field == f.val && m.bank == b.val && !m.begun) = true ∧ s.flights.any (fun g => s.touchesBank f.val b.val g.words) = false) ∧
    (∃ (f : Fin 8) (b : Fin 96) (s : State) (m : BankMove), s.bankMoves.find? (fun m => m.field == f.val && m.bank == b.val && m.begun) = some m) :=
  ⟨⟨hv, 7, 4, { up with regs := [(regAddr .tilth 7 0x118, 0xAAAAAAAAAAAAAAAA)] }, by decide +kernel⟩,
   ⟨hv, 7, 1, 0xAAAAAAAAAAAAAAAA, up, by decide +kernel⟩,
   ⟨7, 95, { up with bankMoves := [⟨7, 95, 0, false⟩] }, by decide +kernel⟩,
   ⟨7, 95, { up with bankMoves := [⟨7, 95, 2, true⟩] }, ⟨7, 95, 2, true⟩, by decide +kernel⟩⟩

theorem test_TilthErrorsAndPlots :
    (∃ (a : Addr) (s : State) (f : Nat) (o : Nat), areaOf a.toNat = .tilth f o ∧ s.byteOk a.toNat = true) ∧
    (∃ (a : Addr) (s : State) (f : Nat) (o : Nat), areaOf a.toNat = .tilth f o ∧ s.byteOk a.toNat = true) ∧
    (∃ (via : Via) (f : Fin 8) (v : Word) (s : State), Lands via s (regAddr .tilthTest f.val 0x100) v.toNat) ∧
    (∃ (f : Fin 8) (b : Fin 96) (s : State), s.plots.length = 8 ∧ s.ttRun f.val = true ∧ s.lost f.val = false ∧ s.testable f.val b.val = true ∧ (s.plot f.val).slots = [] ∧ (s.plot f.val).left = b.val :: (s.plot f.val).left.drop 1 ∧ 0 < s.ttConcurrency f.val) ∧
    (∃ (f : Fin 8) (b : Fin 96) (s : State) (x : PlotSlot), s.plots.length = 8 ∧ (s.plot f.val).slots.find? (fun x => x.bank == b.val && x.testing) = some x) ∧
    (∃ (f : Fin 8) (b : Fin 96) (s : State) (x : PlotSlot), s.plots.length = 8 ∧ (s.plot f.val).slots.find? (fun x => x.bank == b.val && x.testing) = some x) ∧
    (∃ (f : Fin 8) (b : Fin 96) (s : State), (s.plot f.val).slots.any (fun x => x.bank == b.val && x.testing && x.start.any (fun t => decide (t + almMs 10 < s.now))) = true) :=
  ⟨⟨BitVec.ofNat 48 (tilthBase 7 + tilthSize - 1), up, 7, tilthSize - 1, by decide +kernel⟩,
   ⟨BitVec.ofNat 48 (tilthBase 7 + tilthSize - 1), up, 7, tilthSize - 1, by decide +kernel⟩,
   ⟨hv, 7, 6553857, up, by decide +kernel⟩,
   ⟨7, 95, { up with plots := List.replicate 8 ⟨[95], [], []⟩, regs := [(regAddr .tilthTest 7 0x100, 1 + 256)] }, by decide +kernel⟩,
   ⟨7, 95, { up with plots := List.replicate 8 ⟨[], [⟨95, 3, none, true⟩], []⟩ }, ⟨95, 3, none, true⟩, by decide +kernel⟩,
   ⟨7, 95, { up with plots := List.replicate 8 ⟨[], [⟨95, 3, none, true⟩], []⟩ }, ⟨95, 3, none, true⟩, by decide +kernel⟩,
   ⟨7, 95, { up with plots := List.replicate 8 ⟨[], [⟨95, 3, some 0, true⟩], []⟩, alm := { up.alm with acc := BitVec.ofNat 96 (10 ^ 15 * 2 ^ 32) } }, by decide +kernel⟩⟩

theorem test_GranaryRuns_1 :
    (∃ (id : Nat) (s : State) (f : Flight), s.flightOf id 0x0C 1 = some f ∧ f.fired = true ∧ f.ending = none) ∧
    (∃ (id : Nat) (s : State) (f : Flight), s.flightOf id 0x0C 2 = some f ∧ f.fired = true) ∧
    (∃ (n : Fin 24) (s : State) (b : Nat), (s.stack n.val).state = 1 ∧ lowestFresh s.written n.val 36864 0 = some b) ∧
    (∃ (a : Addr) (s : State) (f : Nat) (o : Nat), areaOf a.toNat = .granary f o ∧ s.byteOk a.toNat = true ∧ s.freshAt a.toNat = false) ∧
    (∃ (a : Addr) (s : State) (f : Nat) (o : Nat), areaOf a.toNat = .granary f o ∧ s.byteOk a.toNat = true ∧ s.freshAt a.toNat = false) ∧
    (∃ (a : Addr) (s : State) (f : Nat) (o : Nat), areaOf a.toNat = .granary f o ∧ s.byteOk a.toNat = true ∧ s.freshAt a.toNat = false) ∧
    (∃ (a : Addr) (s : State), s.freshAt a.toNat = true) ∧
    (∃ (n : Fin 24) (c : Fin 3) (s : State), s.stackList.length = 24 ∧ (s.stack n.val).state ≠ 2 ∧ (s.stack n.val).state ≠ 3 ∧ ((c.val = 2 → s.manyChannels n.val = true))) :=
  ⟨⟨3, fly [fl 3 0x0C 1 [0]], fl 3 0x0C 1 [0], by decide +kernel⟩,
   ⟨3, fly [fl 3 0x0C 2 [0]], fl 3 0x0C 2 [0], by decide +kernel⟩,
   ⟨23, up, 0, by decide +kernel⟩,
   ⟨BitVec.ofNat 48 (granaryBase + 8 * granaryRegion - 1), { up with written := [884735] }, 7, granaryRegion - 1, by decide +kernel⟩,
   ⟨BitVec.ofNat 48 (granaryBase + 8 * granaryRegion - 1), { up with written := [884735] }, 7, granaryRegion - 1, by decide +kernel⟩,
   ⟨BitVec.ofNat 48 (granaryBase + 8 * granaryRegion - 1), { up with written := [884735] }, 7, granaryRegion - 1, by decide +kernel⟩,
   ⟨BitVec.ofNat 48 (granaryBase + 8 * granaryRegion - 1), up, by decide +kernel⟩,
   ⟨23, 2, { up with stackList := List.replicate 24 ⟨1, false, none, 0, false, (List.range 5).map (fun i => (i, 0)), none, 0, none⟩ }, by decide +kernel⟩⟩

theorem test_GranaryRuns_2 :
    (∃ (via : Via) (n : Fin 24) (v : Word) (s : State), s.stackList.length = 24 ∧ (s.stack n.val).state ≠ 2 ∧ (s.stack n.val).state ≠ 3 ∧ Lands via s (regAddr .granary n.val 0x100) (v.toNat ||| 1) ∧ bitOf (s.reg (regAddr .granary n.val 0x100)) 0 = false) ∧
    (∃ (n : Fin 24) (c : Int) (s : State), s.stackList.length = 24 ∧ (s.stack n.val).state ≠ 3 ∧ -20 ≤ c ∧ c ≤ 130 ∧ ((∀ l, (s.stack n.val).lastTemp = some l → c - l ≤ 10 ∧ l - c ≤ 10))) ∧
    (∃ (n : Fin 24) (c : Int) (s : State), s.stackList.length = 24 ∧ (s.stack n.val).state ≠ 3 ∧ -20 ≤ c ∧ c ≤ 130 ∧ ((∀ l, (s.stack n.val).lastTemp = some l → c - l ≤ 10 ∧ l - c ≤ 10))) ∧
    (∃ (n : Fin 24) (c : Int) (s : State), s.stackList.length = 24 ∧ (s.stack n.val).state ≠ 3 ∧ ((c < -20 ∨ 130 < c ∨ (∃ l, (s.stack n.val).lastTemp = some l ∧ (10 < c - l ∨ 10 < l - c))))) ∧
    (∃ (n : Fin 24) (c : Int) (s : State), s.stackList.length = 24 ∧ (s.stack n.val).state ≠ 3 ∧ ((c < -20 ∨ 130 < c ∨ (∃ l, (s.stack n.val).lastTemp = some l ∧ (10 < c - l ∨ 10 < l - c))))) ∧
    (∃ (n : Fin 24) (s : State), s.stackList.length = 24 ∧ (s.stack n.val).state = 1) :=
  ⟨⟨hv, 23, 1, up, by decide +kernel⟩,
   ⟨23, 130, { up with stackList := List.replicate 24 ⟨1, false, some 120, 0, false, [], none, 0, none⟩ }, by decide +kernel⟩,
   ⟨23, -20, up, by decide +kernel⟩,
   ⟨23, 131, up, by decide +kernel⟩,
   ⟨23, -21, up, by decide +kernel⟩,
   ⟨23, up, by decide +kernel⟩⟩

theorem test_DrillRuns :
    (∃ (id : Nat) (s : State) (f : Flight), s.flightOf id 4 1 = some f ∧ s.gateReady f = true) ∧
    (∃ (id : Nat) (s : State) (f : Flight), s.flightOf id 4 1 = some f ∧ f.started = false ∧ f.ending = none ∧ f.fired = true ∧ f.copy?.gateOpen = true ∧ ((s.queueFlights f.dq).takeWhile (fun g => g.id != id)).any (fun g => !g.started && g.ending.isNone) = false ∧ s.queueOutstanding f.dq < s.queueLimit f.dq ∧ s.enabled .drill (f.dq / 32 * 4 + f.dq % 4) = true ∧ (((copyF f.words).ringDst = false ∨ copyEmpty (copyF f.words) = true))) ∧
    (∃ (id : Nat) (s : State) (f : Flight), s.flightOf id 4 1 = some f ∧ f.started = false ∧ f.ending = none ∧ f.fired = true ∧ f.copy?.gateOpen = true ∧ ((s.queueFlights f.dq).takeWhile (fun g => g.id != id)).any (fun g => !g.started && g.ending.isNone) = false ∧ s.queueOutstanding f.dq < s.queueLimit f.dq ∧ s.enabled .drill (f.dq / 32 * 4 + f.dq % 4) = true ∧ (copyF f.words).ringDst = true ∧ copyEmpty (copyF f.words) = false ∧ (s.ring f.dq).slots ≠ 0 ∧ ringFits (copyF f.words) (s.ring f.dq) = true ∧ (s.ring f.dq).credits ≠ 0 ∧ f.dq < s.rings.length ∧ (let r := s.ring f.dq; let dst := copyDst (copyF f.words) (r.base + r.seq % r.slots * r.slotBytes); s.rangesPopulated dst = true ∧ rangesOverlap dst (copySrc (copyF f.words)) = false)) ∧
    (∃ (id : Nat) (s : State) (f : Flight), s.MemOk ∧ s.flightOf id 4 1 = some f ∧ f.started = true ∧ f.copy?.stopped = none ∧ f.copy?.row < copyRows (copyF f.words) ∧ s.readsPoison (copySrcRow (copyF f.words) f.copy?.row) (copyF f.words).x = false) ∧
    (∃ (id : Nat) (s : State) (f : Flight), s.flight id = some f ∧ f.cls = 4 ∧ f.op = 1 ∧ f.started = true ∧ f.ending = none ∧ f.copy?.stopped = none ∧ copyRows (copyF f.words) ≤ f.copy?.row ∧ ((s.queueFlights f.dq).takeWhile (fun g => g.id != id)).isEmpty = true) ∧
    (∃ (id : Nat) (s : State) (f : Flight), s.flightOf id 4 2 = some f ∧ f.fired = true ∧ f.ending = none ∧ f.dq < s.rings.length ∧ ((s.queueFlights f.dq).takeWhile (fun g => g.id != id)).isEmpty = true ∧ s.enabled .drill (f.dq / 32 * 4 + f.dq % 4) = true ∧ (ringF f.words).slotBytes % 64 = 0 ∧ (ringF f.words).slots ≠ 0) ∧
    (∃ (id : Nat) (s : State) (f : Flight), s.flightOf id 4 3 = some f ∧ f.fired = true ∧ f.ending = none ∧ f.dq < s.rings.length ∧ (ringF f.words).slots ≠ 0 ∧ (s.ring f.dq).credits + (ringF f.words).slots ≤ (s.ring f.dq).slots) ∧
    (∃ (id : Nat) (x : Fin 8) (s : State) (f : Flight) (p : CancelProg), s.flightOf id 4 4 = some f ∧ f.prog = .cancel p ∧ f.fired = true ∧ bitOf (cancelF f.words).fields x.val = true ∧ bitOf p.decided x.val = false ∧ ((cancelF f.words).drill || (cancelF f.words).furrow || (cancelF f.words).harrow) = true) :=
  ⟨⟨3, fly [copyFl { row := 0, dst := 0, gate := none, gateOpen := false, credit := false, stopped := none, held := [] }], copyFl { row := 0, dst := 0, gate := none, gateOpen := false, credit := false, stopped := none, held := [] }, by decide +kernel⟩,
   ⟨3, { fly [{ copyFl { row := 0, dst := gleanBase 0, gate := none, gateOpen := true, credit := false, stopped := none, held := [] } with started := false }] with regs := [(regAddr .drill 31 0x020, 1)] }, { copyFl { row := 0, dst := gleanBase 0, gate := none, gateOpen := true, credit := false, stopped := none, held := [] } with started := false }, by decide +kernel⟩,
   ⟨3, { fly [ringFl] with rings := up.rings.set 255 ⟨tilthBase 7, 2, 64, 1, 3⟩, regs := [(regAddr .drill 31 0x020, 1)] }, ringFl, by decide +kernel⟩,
   ⟨3, fly [copyFl { row := 0, dst := gleanBase 0, gate := none, gateOpen := true, credit := false, stopped := none, held := [] }], copyFl { row := 0, dst := gleanBase 0, gate := none, gateOpen := true, credit := false, stopped := none, held := [] }, by decide +kernel⟩,
   ⟨3, fly [copyFl { row := 1, dst := 0, gate := none, gateOpen := true, credit := false, stopped := none, held := [] }], copyFl { row := 1, dst := 0, gate := none, gateOpen := true, credit := false, stopped := none, held := [] }, by decide +kernel⟩,
   ⟨3, { fly [ringSetFl 2] with regs := [(regAddr .drill 31 0x020, 1)] }, ringSetFl 2, by decide +kernel⟩,
   ⟨3, { fly [ringSetFl 3] with rings := up.rings.set 255 ⟨tilthBase 7, 2, 64, 0, 0⟩ }, ringSetFl 3, by decide +kernel⟩,
   ⟨3, 7, fly [fl 3 4 4 [word [(64, 128), (72, 7)]] (.cancel ⟨0, []⟩)], fl 3 4 4 [word [(64, 128), (72, 7)]] (.cancel ⟨0, []⟩), ⟨0, []⟩, by decide +kernel⟩⟩

theorem test_SamplesDecode_1 :
    (∃ (id : Nat) (s : State) (f : Flight), s.flightOf id 5 1 = some f ∧ f.ending = none ∧ f.started = false ∧ f.fired = true ∧ s.enabled .coulter 0 = true) ∧
    (∃ (id : Nat) (o : Nat) (s : State) (f : Flight) (x : Samp), s.flightOf id 5 1 = some f ∧ f.ending = none ∧ f.started = true ∧ s.coulter.samples.find? (fun x => x.owner == id) = some x ∧ x.outcome = some o) ∧
    (∃ (n : Nat) (s : State) (x : Samp) (c : Nat), s.samp n = some x ∧ x.hdr = none ∧ x.restarted = false ∧ s.waitingSamps.find? (fun y => if y.restarted then coresOf y.d.kind == coresOf x.d.kind else y.d.kind == x.d.kind) = some x ∧ (coresOf x.d.kind).find? (fun c => s.core c == 1 && s.enabled .coulterDec c && (s.coreSample c).isNone) = some c) ∧
    (∃ (n : Nat) (s : State) (x : Samp) (c : Nat), s.samp n = some x ∧ x.hdr = none ∧ x.restarted = false ∧ s.waitingSamps.find? (fun y => if y.restarted then coresOf y.d.kind == coresOf x.d.kind else y.d.kind == x.d.kind) = some x ∧ (coresOf x.d.kind).find? (fun c => s.core c == 1 && s.enabled .coulterDec c && (s.coreSample c).isNone) = some c) ∧
    (∃ (n : Nat) (gs : List Nat) (s : State) (x : Samp), s.samp n = some x ∧ x.core.isSome = true ∧ x.outcome = none ∧ x.allocated = false ∧ s.coulter.samples.any (fun y => (y.core.isSome && y.outcome.isNone && !y.allocated) && decide (y.order < x.order)) = false ∧ gs.length = x.need ∧ ((∀ g ∈ gs, g < s.arenaGranules ∧ g ∉ s.granulesUsed)) ∧ gs.eraseDups.length = gs.length) ∧
    (∃ (n : Nat) (c : Nat) (s : State) (x : Samp), s.samp n = some x ∧ x.core = some c ∧ s.core c = 1 ∧ x.allocated = true ∧ x.outcome = none ∧ x.stop = true) ∧
    (∃ (n : Nat) (c : Nat) (u : SynUnit) (s : State) (x : Samp), s.samp n = some x ∧ x.core = some c ∧ s.core c = 1 ∧ x.allocated = true ∧ x.outcome = none ∧ x.stop = false ∧ isText x.d.kind = false ∧ x.bits + u.bits ≤ 8 * x.d.len ∧ s.readsPoison (x.d.src + x.bits / 8) (ceilDiv u.bits 8) = false ∧ (if x.d.budget = 0 then s.rf (coulterReg 0x128) 47 0 else x.d.budget) < x.w + u.bits) ∧
    (∃ (n : Nat) (c : Nat) (u : SynUnit) (s : State) (x : Samp), s.MemOk ∧ s.samp n = some x ∧ x.core = some c ∧ s.core c = 1 ∧ x.allocated = true ∧ x.outcome = none ∧ x.stop = false ∧ isInflate x.d.kind = true ∧ x.bits + u.bits ≤ 8 * x.d.len ∧ u.state = 0 ∧ u.last = false ∧ s.readsPoison (x.d.src + x.bits / 8) (ceilDiv u.bits 8) = false ∧ x.written + u.blocks.flatten.length ≤ x.o ∧ x.w + u.bits + u.blocks.flatten.length ≤ (if x.d.budget = 0 then s.rf (coulterReg 0x128) 47 0 else x.d.budget) ∧ x.d.direct = true ∧ ((∀ i, i < u.blocks.flatten.length → s.deadAt (x.d.dst + x.written + i) = false))) :=
  ⟨⟨3, { fly [{ fl 3 5 1 [word [(0, 0x12)], 0] with started := false }] with regs := [(regAddr .coulter 0 0x020, 1)] }, { fl 3 5 1 [word [(0, 0x12)], 0] with started := false }, by decide +kernel⟩,
   ⟨3, 0, withSamps [decFl] [{ samp0 with outcome := some 0 }], decFl, { samp0 with outcome := some 0 }, by decide +kernel⟩,
   ⟨5, { withSamps [decFl] [{ samp0 with core := none, hdr := none }] with regs := [(decReg 10 0x020, 1)] }, { samp0 with core := none, hdr := none }, 10, by decide +kernel⟩,
   ⟨5, { withSamps [decFl] [{ samp0 with core := none, hdr := none }] with regs := [(decReg 10 0x020, 1)] }, { samp0 with core := none, hdr := none }, 10, by decide +kernel⟩,
   ⟨5, [0], withSamps [] [samp1], samp1, by decide +kernel⟩,
   ⟨5, 10, withSamps [] [{ samp0 with stop := true }], { samp0 with stop := true }, by decide +kernel⟩,
   ⟨5, 10, unit0, withSamps [] [{ samp0 with d := { samp0.d with budget := 7 } }], { samp0 with d := { samp0.d with budget := 7 } }, by decide +kernel⟩,
   ⟨5, 10, unit0, withSamps [] [samp0], samp0, by decide +kernel⟩⟩

theorem test_SamplesDecode_2 :
    (∃ (id : Nat) (s : State) (f : Flight), s.flightOf id 5 2 = some f ∧ f.prog = .none ∧ f.fired = true ∧ ((∀ g ∈ s.flights, coulterMatches f.words g = true → g.id ≠ id))) ∧
    (∃ (id : Nat) (s : State) (f : Flight) (p : CancelProg), s.flightOf id 5 2 = some f ∧ f.prog = .cancel p ∧ p.matched.all (fun i => (s.flight i).isNone) = true) ∧
    (∃ (c : Fin 16) (s : State), s.core c.val = 1) ∧
    (∃ (c : Fin 16) (s : State), s.core c.val = 1) ∧
    (∃ (c : Fin 16) (s : State) (x : Samp), s.core c.val = 1 ∧ s.coreSample c.val = some x ∧ x.charged + almUs (s.rf (coulterReg 0x130) 31 0) ≤ s.now) ∧
    (∃ (c : Fin 16) (s : State) (x : Samp), s.coreSample c.val = some x ∧ s.now < x.charged + almUs (s.rf (coulterReg 0x130) 31 0)) ∧
    (∃ (via : Via) (c : Fin 16) (v : Word) (s : State), s.core c.val = 1 ∧ Lands via s (decReg c.val 0x100) (v.toNat ||| 2) ∧ bitOf (s.reg (decReg c.val 0x100)) 1 = false) :=
  ⟨⟨3, fly [fl 3 5 2 [0]], fl 3 5 2 [0], by decide +kernel⟩,
   ⟨3, fly [fl 3 5 2 [0] (.cancel ⟨1, [9]⟩)], fl 3 5 2 [0] (.cancel ⟨1, [9]⟩), ⟨1, [9]⟩, by decide +kernel⟩,
   ⟨15, up, by decide +kernel⟩,
   ⟨10, withSamps [] [samp0], by decide +kernel⟩,
   ⟨10, { withSamps [] [samp0] with alm := { up.alm with acc := BitVec.ofNat 96 (2 ^ 90) } }, samp0, by decide +kernel⟩,
   ⟨10, withSamps [] [samp0], samp0, by decide +kernel⟩,
   ⟨hv, 15, 2, up, by decide +kernel⟩⟩

theorem test_BatchesFill :
    (∃ (id : Nat) (s : State) (f : Flight), s.flightOf id 5 3 = some f ∧ f.started = false ∧ f.fired = true ∧ f.ending = none ∧ (batchF f.words).count ≠ 0 ∧ (batchF f.words).source = 0 ∧ s.nextBatch = some id ∧ s.enabled .sample 0 = true ∧ s.enabled .coulter 0 = true ∧ s.slotState (s.slotOf s.coulter.batches) = 0 ∧ s.slotsFilling < 4) ∧
    (∃ (id : Nat) (j : Nat) (s : State) (f : Flight) (p : BatchProg) (a : AreaSt), s.flightOf id 5 3 = some f ∧ f.ending = none ∧ f.batch? = some p ∧ p.areas[j]? = some a ∧ (batchF f.words).count ≠ 0 ∧ (batchF f.words).source = 0 ∧ a.phase = 0 ∧ a.index < (batchF f.words).entries ∧ s.readsPoison ((batchF f.words).manifest + 32 * a.index) 32 = false ∧ s.opsPoisoned (batchF f.words) = false ∧ s.entryBad (batchF f.words).modality (s.bytes ((batchF f.words).manifest + 32 * a.index) 32) = false ∧ entryCrib (s.bytes ((batchF f.words).manifest + 32 * a.index) 32) = false) ∧
    (∃ (id : Nat) (j : Nat) (s : State) (f : Flight) (p : BatchProg) (a : AreaSt), s.flightOf id 5 3 = some f ∧ f.ending = none ∧ f.batch? = some p ∧ p.areas[j]? = some a ∧ (batchF f.words).count ≠ 0 ∧ (batchF f.words).source = 0 ∧ a.phase = 0 ∧ (batchF f.words).entries ≤ a.index ∧ (batchF f.words).fallbackCount ≤ a.tried) ∧
    (∃ (id : Nat) (s : State) (f : Flight) (p : BatchProg), s.flightOf id 5 3 = some f ∧ f.batch? = some p ∧ f.ending = none ∧ p.areas.all (fun a => a.phase == 2) = true) ∧
    (∃ (id : Nat) (s : State) (f : Flight), s.flightOf id 5 4 = some f ∧ f.fired = true) ∧
    (∃ (via : Via) (s : State), Lands via s (sampleReg 0x120) 1) :=
  ⟨⟨3, { fly [{ fl 3 5 3 batchWords with started := false }] with regs := [(regAddr .coulter 0 0x020, 1), (regAddr .sample 0 0x020, 1)] }, { fl 3 5 3 batchWords with started := false }, by decide +kernel⟩,
   ⟨3, 0, { fly [fl 3 5 3 batchWords (.batch ⟨0, [⟨0, 0, 0, 0, []⟩], 0, 0, 0⟩)] with mem := entryCells }, fl 3 5 3 batchWords (.batch ⟨0, [⟨0, 0, 0, 0, []⟩], 0, 0, 0⟩), ⟨0, [⟨0, 0, 0, 0, []⟩], 0, 0, 0⟩, ⟨0, 0, 0, 0, []⟩, by decide +kernel⟩,
   ⟨3, 0, fly [fl 3 5 3 batchWords (.batch ⟨0, [⟨0, 1, 0, 0, []⟩], 0, 0, 0⟩)], fl 3 5 3 batchWords (.batch ⟨0, [⟨0, 1, 0, 0, []⟩], 0, 0, 0⟩), ⟨0, [⟨0, 1, 0, 0, []⟩], 0, 0, 0⟩, ⟨0, 1, 0, 0, []⟩, by decide +kernel⟩,
   ⟨3, fly [fl 3 5 3 batchWords (.batch ⟨0, [⟨2, 0, 0, 0, []⟩], 0, 0, 0⟩)], fl 3 5 3 batchWords (.batch ⟨0, [⟨2, 0, 0, 0, []⟩], 0, 0, 0⟩), ⟨0, [⟨2, 0, 0, 0, []⟩], 0, 0, 0⟩, by decide +kernel⟩,
   ⟨3, { fly [fl 3 5 4 [word [(0, 1)]]] with coulter := { up.coulter with slots := [2, 2], batches := 2 } }, fl 3 5 4 [word [(0, 1)]], by decide +kernel⟩,
   ⟨hv, up, by decide +kernel⟩⟩

theorem test_LiveStreamsRun :
    (∃ (via : Via) (i : Fin 8) (v : Word) (s : State), s.coulter.live.length = 8 ∧ Lands via s (liveReg i.val 0) (v.toNat ||| 1) ∧ bitOf (s.reg (liveReg i.val 0)) 0 = false) ∧
    (∃ (p : LivePkt) (s : State), s.flowTakes p = true ∧ (s.live p.stream.val).on = true ∧ p.formatOk = false) ∧
    (∃ (p : LivePkt) (s : State), s.flowTakes p = true ∧ (s.live p.stream.val).on = true ∧ p.formatOk = true ∧ p.marker = true ∧ (s.liveCfg p.stream.val).audio = false ∧ (s.live p.stream.val).sync = false ∧ (s.live p.stream.val).begun = true ∧ (s.live p.stream.val).stamp = p.stamp.toNat ∧ (s.live p.stream.val).gap = false ∧ (s.live p.stream.val).nextSeq = some p.seq) ∧
    (∃ (id : Nat) (j : Nat) (s : State) (f : Flight) (p : BatchProg) (fr : LiveFrame), s.flightOf id 5 3 = some f ∧ f.ending = none ∧ f.batch? = some p ∧ (batchF f.words).source = 1 ∧ (s.live (batchF f.words).stream).frames = [fr] ∧ findIdx? (fun (a : AreaSt) => a.phase != 2) p.areas = some j ∧ s.opsPoisoned (batchF f.words) = false ∧ s.now ≤ fr.capture + almUs (s.rf (liveReg (batchF f.words).stream 0x18) 31 0)) ∧
    (∃ (id : Nat) (j : Nat) (s : State) (f : Flight) (p : BatchProg) (fr : LiveFrame), s.flightOf id 5 3 = some f ∧ f.ending = none ∧ f.batch? = some p ∧ (batchF f.words).source = 1 ∧ (s.live (batchF f.words).stream).frames = [fr] ∧ findIdx? (fun (a : AreaSt) => a.phase != 2) p.areas = some j ∧ fr.capture + almUs (s.rf (liveReg (batchF f.words).stream 0x18) 31 0) < s.now) ∧
    (∃ (id : Nat) (s : State) (f : Flight) (p : BatchProg), s.flightOf id 5 3 = some f ∧ f.ending = none ∧ f.batch? = some p ∧ (batchF f.words).source = 1 ∧ p.start + almUs (batchF f.words).liveWait ≤ s.now) ∧
    (∃ (i : Fin 8) (s : State), (s.live i.val).on = true ∧ (s.live i.val).lost = false ∧ (s.live i.val).lastPacket + almMs 100 ≤ s.now) :=
  ⟨⟨hv, 7, 0x0002002000400800, up, by decide +kernel⟩,
   ⟨{ pkt0 with formatOk := false }, { swUp [] with regs := (swUp []).regs ++ [(tpReg 0x4C0, 0xEF000007), (tpReg 0x4E0, 9)], coulter := { up.coulter with live := List.replicate 8 live0 } }, by decide +kernel⟩,
   ⟨pkt0, { swUp [] with regs := (swUp []).regs ++ [(tpReg 0x4C0, 0xEF000007), (tpReg 0x4E0, 9)], coulter := { up.coulter with live := List.replicate 8 { live0 with begun := true, roi := (0, 0, 16, 8), nextSeq := some 9 } } }, by decide +kernel⟩,
   ⟨3, 0, { fly [fl 3 5 3 liveWords (.batch ⟨0, [⟨0, 0, 0, 0, []⟩], 0, 0, 0⟩)] with coulter := { up.coulter with live := List.replicate 8 { live0 with frames := [⟨4, 0, 16, 8⟩] } } }, fl 3 5 3 liveWords (.batch ⟨0, [⟨0, 0, 0, 0, []⟩], 0, 0, 0⟩), ⟨0, [⟨0, 0, 0, 0, []⟩], 0, 0, 0⟩, ⟨4, 0, 16, 8⟩, by decide +kernel⟩,
   ⟨3, 0, { fly [fl 3 5 3 liveWords (.batch ⟨0, [⟨0, 0, 0, 0, []⟩], 0, 0, 0⟩)] with alm := { up.alm with acc := BitVec.ofNat 96 (2 ^ 90) }, coulter := { up.coulter with live := List.replicate 8 { live0 with frames := [⟨4, 0, 16, 8⟩] } } }, fl 3 5 3 liveWords (.batch ⟨0, [⟨0, 0, 0, 0, []⟩], 0, 0, 0⟩), ⟨0, [⟨0, 0, 0, 0, []⟩], 0, 0, 0⟩, ⟨4, 0, 16, 8⟩, by decide +kernel⟩,
   ⟨3, { fly [fl 3 5 3 liveWords (.batch ⟨0, [⟨0, 0, 0, 0, []⟩], 0, 0, 0⟩)] with alm := { up.alm with acc := BitVec.ofNat 96 (2 ^ 90) } }, fl 3 5 3 liveWords (.batch ⟨0, [⟨0, 0, 0, 0, []⟩], 0, 0, 0⟩), ⟨0, [⟨0, 0, 0, 0, []⟩], 0, 0, 0⟩, by decide +kernel⟩,
   ⟨7, { up with alm := { up.alm with acc := BitVec.ofNat 96 (2 ^ 90) }, coulter := { up.coulter with live := List.replicate 8 live0 } }, by decide +kernel⟩⟩

theorem test_CollectivesStartAndEnd :
    (∃ (via : Via) (c : Fin 32) (gate : Bool) (s : State), s.thr.chans.length = 32 ∧ Lands via s (thrChReg c.val 0x020) (1 + 4 * b2n gate) ∧ s.enabled .thrCh c.val = false) ∧
    (∃ (id : Nat) (s : State) (f : Flight) (p : CollProg), s.flight id = some f ∧ f.coll? = some p ∧ p.phase = 0 ∧ f.started = false ∧ f.fired = true ∧ f.ending = none ∧ ((s.chFlights (collF f.words).ch).takeWhile (fun g => g.id != id)).any (fun g => !g.started) = false ∧ (((s.chFlights (collF f.words).ch).takeWhile (fun g => g.id != id)).filter (fun g => (g.coll?).any (fun q => !s.dataEnded g q))).length ≤ 4 ∧ s.enabled .thrCh (collF f.words).ch = true) ∧
    (∃ (id : Nat) (s : State) (f : Flight) (p : CollProg), s.flight id = some f ∧ f.coll? = some p ∧ p.phase = 1 ∧ p.outcome = 0 ∧ p.held = none ∧ (if (collF f.words).deadline = 0 then p.start + s.defaultWindow (collF f.words).ch else (collF f.words).deadline) + s.sealLimit (collF f.words).ch ≤ s.now) ∧
    (∃ (id : Nat) (s : State) (f : Flight) (p : CollProg), s.flight id = some f ∧ f.coll? = some p ∧ ((s.chFlights p.ch).takeWhile (fun g => g.id != id)).isEmpty = true ∧ p.phase ≠ 0 ∧ ((p.outcome ≠ 0 ∨ s.collDone f p = true))) ∧
    (∃ (id : Nat) (s : State) (f : Flight) (p : CollProg) (x : SealRec), s.flight id = some f ∧ f.coll? = some p ∧ p.held = some x ∧ p.outcome = 0 ∧ s.wholeResult f p = false ∧ s.repairLimit p.ch x ≤ s.now ∧ ((s.chFlights p.ch).takeWhile (fun g => g.id != id)).isEmpty = true) ∧
    (∃ (id : Nat) (s : State) (f : Flight), s.flightOf id 6 5 = some f ∧ f.prog = .none ∧ f.fired = true ∧ ((∀ g ∈ s.flights, thrMatches f.words g = true → g.id ≠ id))) ∧
    (∃ (id : Nat) (s : State) (f : Flight) (p : CancelProg), s.flightOf id 6 5 = some f ∧ f.prog = .cancel p ∧ p.matched.all (fun i => (s.flight i).isNone) = true) :=
  ⟨⟨hv, 31, true, { up with regs := [(thrChReg 31 0x100, gleanBase 0), (thrChReg 31 0x108, 2 + 2 ^ 32)], mem := memberCells }, by decide +kernel⟩,
   ⟨3, { thrUp [(0, false), (1, true)] [] with flights := [{ fl 3 6 1 collWords (.coll coll0) with started := false }] }, { fl 3 6 1 collWords (.coll coll0) with started := false }, coll0, by decide +kernel⟩,
   ⟨3, { { thrUp [(0, false), (1, true)] [] with flights := [fl 3 6 1 collWords (.coll { coll0 with phase := 1 })] } with alm := { up.alm with acc := BitVec.ofNat 96 (2 ^ 93) } }, fl 3 6 1 collWords (.coll { coll0 with phase := 1 }), { coll0 with phase := 1 }, by decide +kernel⟩,
   ⟨3, { thrUp [(0, false), (1, true)] [] with flights := [fl 3 6 1 collWords (.coll { coll0 with phase := 3, held := some (seal0 [1]), maxima := none, outcome := 0x0613 })] }, fl 3 6 1 collWords (.coll { coll0 with phase := 3, held := some (seal0 [1]), maxima := none, outcome := 0x0613 }), { coll0 with phase := 3, held := some (seal0 [1]), maxima := none, outcome := 0x0613 }, by decide +kernel⟩,
   ⟨3, { { thrUp [(0, false), (1, true)] [] with flights := [fl 3 6 1 collWords (.coll { coll0 with phase := 3, held := some (seal0 [1]) })] } with alm := { up.alm with acc := BitVec.ofNat 96 (2 ^ 93) } }, fl 3 6 1 collWords (.coll { coll0 with phase := 3, held := some (seal0 [1]) }), { coll0 with phase := 3, held := some (seal0 [1]) }, seal0 [1], by decide +kernel⟩,
   ⟨3, fly [fl 3 6 5 [0]], fl 3 6 5 [0], by decide +kernel⟩,
   ⟨3, fly [fl 3 6 5 [0] (.cancel ⟨1, [9]⟩)], fl 3 6 5 [0] (.cancel ⟨1, [9]⟩), ⟨1, [9]⟩, by decide +kernel⟩⟩

theorem test_ArbiterSeals :
    (∃ (c : Fin 32) (n : Nat) (k : TokenMsg) (s : State), s.enabled .thrCh c.val = true ∧ s.arbPos c.val = s.ownPos c.val ∧ k.pos ≠ s.ownPos c.val ∧ k.pos < (s.chan c.val).n ∧ s.arb c.val n = none ∧ k.withdraw = false) ∧
    (∃ (c : Fin 32) (n : Nat) (s : State) (a : ArbRec), s.arb c.val n = some a ∧ a.started = true ∧ a.decided = none ∧ a.deadline < s.now) ∧
    (∃ (c : Fin 32) (n : Nat) (s : State) (a : ArbRec), s.arb c.val n = some a ∧ a.due = true ∧ a.decided.isSome = true) ∧
    (∃ (c : Fin 32) (n : Nat) (s : State) (a : ArbRec) (x : SealRec), s.arb c.val n = some a ∧ a.last = some x) ∧
    (∃ (c : Fin 32) (n : Nat) (q : Nat) (s : State) (a : ArbRec) (x : SealRec), s.arb c.val n = some a ∧ a.last = some x ∧ a.due = false ∧ x.outcome = 0 ∧ x.issued + s.dataLimit c.val ≤ s.now ∧ x.included.contains q = true) ∧
    (∃ (c : Fin 32) (n : Nat) (s : State) (a : ArbRec), s.enabled .thrCh c.val = true ∧ (s.chan c.val).n ≠ 0 ∧ s.arbPos c.val = s.ownPos c.val ∧ s.arb c.val n = some a ∧ a.last.isSome = true ∧ a.due = false) ∧
    (∃ (c : Fin 32) (n : Nat) (s : State), s.enabled .thrCh c.val = true ∧ (s.chan c.val).n ≠ 0 ∧ s.arbPos c.val ≠ s.ownPos c.val ∧ (s.collFlight c.val n).isSome = true) ∧
    (∃ (c : Fin 32) (n : Nat) (r : Nat) (q : Nat) (t0 : Nat) (s : State) (a : ArbRec) (x : SealRec), s.arb c.val n = some a ∧ a.reports = [(r, q, t0)] ∧ t0 + almUs 20 ≤ s.now ∧ a.last = some x ∧ x.outcome = 0 ∧ x.included.contains q = true) :=
  ⟨⟨31, 5, ⟨1, [], false, false, 7⟩, thrUp [(0, true), (1, false)] [], by decide +kernel⟩,
   ⟨31, 5, { thrUp [(0, true), (1, false)] [{ arb0 with started := true }] with alm := { up.alm with acc := BitVec.ofNat 96 (2 ^ 93) } }, { arb0 with started := true }, by decide +kernel⟩,
   ⟨31, 5, thrUp [(0, true), (1, false)] [{ arb0 with started := true, decided := some 1, due := true }], { arb0 with started := true, decided := some 1, due := true }, by decide +kernel⟩,
   ⟨31, 5, thrUp [(0, true), (1, false)] [{ arb0 with last := some (seal0 [1]) }], { arb0 with last := some (seal0 [1]) }, seal0 [1], by decide +kernel⟩,
   ⟨31, 5, 1, { thrUp [(0, true), (1, false)] [{ arb0 with last := some (seal0 [1]) }] with alm := { up.alm with acc := BitVec.ofNat 96 (2 ^ 93) } }, { arb0 with last := some (seal0 [1]) }, seal0 [1], by decide +kernel⟩,
   ⟨31, 5, thrUp [(0, true), (1, false)] [{ arb0 with last := some (seal0 [1]) }], { arb0 with last := some (seal0 [1]) }, by decide +kernel⟩,
   ⟨31, 5, { thrUp [(0, false), (1, true)] [] with flights := [fl 3 6 1 collWords (.coll coll0)] }, by decide +kernel⟩,
   ⟨31, 5, 0, 1, 0, { thrUp [(0, true), (1, false)] [{ arb0 with last := some (seal0 [1]), reports := [(0, 1, 0)] }] with alm := { up.alm with acc := BitVec.ofNat 96 (2 ^ 93) } }, { arb0 with last := some (seal0 [1]), reports := [(0, 1, 0)] }, seal0 [1], by decide +kernel⟩⟩

theorem test_CollectivesExchange_1 :
    (∃ (c : Fin 32) (n : Nat) (x : SealRec) (s : State) (f : Flight) (p : CollProg), s.collFlight c.val n = some f ∧ f.coll? = some p ∧ p.phase ≠ 0 ∧ p.outcome = 0 ∧ p.held.any (fun l => decide (x.num ≤ l.num)) = false) ∧
    (∃ (id : Nat) (s : State) (f : Flight) (p : CollProg) (x : SealRec), s.flightOf id 6 1 = some f ∧ f.coll? = some p ∧ p.held = some x ∧ s.dataTurn f p = true ∧ ((x.included.contains (s.ownPos (collF f.words).ch) = true → (((collF f.words).src, 16 * (collF f.words).srcCount) :: s.collIns (collF f.words)).any (fun r => s.poisonedIn r.1 r.2) = false))) ∧
    (∃ (id : Nat) (s : State) (f : Flight) (p : CollProg) (x : SealRec), s.flightOf id 6 2 = some f ∧ f.coll? = some p ∧ p.held = some x ∧ s.dataTurn f p = true ∧ ((x.included.contains (s.ownPos (collF f.words).ch) = true → (((collF f.words).src, 16 * (collF f.words).srcCount) :: s.collIns (collF f.words)).any (fun r => s.poisonedIn r.1 r.2) = false))) ∧
    (∃ (id : Nat) (s : State) (f : Flight) (p : CollProg) (x : SealRec), s.flightOf id 6 3 = some f ∧ f.coll? = some p ∧ p.held = some x ∧ s.dataTurn f p = true ∧ ((x.included.contains (s.ownPos (collF f.words).ch) = true → (((collF f.words).src, 16 * (collF f.words).srcCount) :: s.collIns (collF f.words)).any (fun r => s.poisonedIn r.1 r.2) = false))) ∧
    (∃ (id : Nat) (s : State) (f : Flight) (p : CollProg) (x : SealRec), s.flight id = some f ∧ f.coll? = some p ∧ p.held = some x ∧ (collF f.words).isVerdict = true ∧ p.phase = 3 ∧ p.maxima = none ∧ p.outcome = 0 ∧ x.included.contains (s.ownPos (collF f.words).ch) = false) ∧
    (∃ (id : Nat) (s : State) (f : Flight) (p : CollProg) (x : SealRec), s.flightOf id 6 0x10 = some f ∧ f.coll? = some p ∧ p.held = some x ∧ s.dataTurn f p = true ∧ x.included.contains (s.ownPos (collF f.words).ch) = false) ∧
    (∃ (id : Nat) (r : Nat) (s : State) (f : Flight) (p : CollProg) (x : SealRec), s.MemOk ∧ s.flightOf id 6 0x11 = some f ∧ f.coll? = some p ∧ p.held = some x ∧ s.dataTurn f p = true ∧ x.included.contains (s.ownPos (collF f.words).ch) = false ∧ r < (s.chan (collF f.words).ch).n ∧ x.included.contains r = false ∧ ((∀ i, i < (collF f.words).part → s.deadAt ((collF f.words).dst + r * (collF f.words).part + i) = false))) ∧
    (∃ (id : Nat) (s : State) (f : Flight) (p : CollProg) (x : SealRec), s.flightOf id 6 0x12 = some f ∧ f.coll? = some p ∧ p.held = some x ∧ s.dataTurn f p = true ∧ ((x.included.contains (s.ownPos (collF f.words).ch) = true → (s.collIns (collF f.words)).any (fun r => s.poisonedIn r.1 r.2) = false))) :=
  ⟨⟨31, 5, seal0 [1], { thrUp [(0, false), (1, true)] [] with flights := [fl 3 6 1 collWords (.coll { coll0 with phase := 1 })] }, fl 3 6 1 collWords (.coll { coll0 with phase := 1 }), { coll0 with phase := 1 }, by decide +kernel⟩,
   ⟨3, { thrUp [(0, false), (1, true)] [] with flights := [fl 3 6 1 collWords (.coll { coll0 with phase := 2, held := some (seal0 [1]) })] }, fl 3 6 1 collWords (.coll { coll0 with phase := 2, held := some (seal0 [1]) }), { coll0 with phase := 2, held := some (seal0 [1]) }, seal0 [1], by decide +kernel⟩,
   ⟨3, { thrUp [(0, false), (1, true)] [] with flights := [fl 3 6 2 collWords (.coll { coll0 with phase := 2, held := some (seal0 [1]) })] }, fl 3 6 2 collWords (.coll { coll0 with phase := 2, held := some (seal0 [1]) }), { coll0 with phase := 2, held := some (seal0 [1]) }, seal0 [1], by decide +kernel⟩,
   ⟨3, { thrUp [(0, false), (1, true)] [] with flights := [fl 3 6 3 collWords (.coll { coll0 with phase := 2, held := some (seal0 [1]) })] }, fl 3 6 3 collWords (.coll { coll0 with phase := 2, held := some (seal0 [1]) }), { coll0 with phase := 2, held := some (seal0 [1]) }, seal0 [1], by decide +kernel⟩,
   ⟨3, { thrUp [(0, false), (1, true)] [] with flights := [fl 3 6 4 verdWords (.coll { coll0 with phase := 3, held := some (seal0 [1]) })] }, fl 3 6 4 verdWords (.coll { coll0 with phase := 3, held := some (seal0 [1]) }), { coll0 with phase := 3, held := some (seal0 [1]) }, seal0 [1], by decide +kernel⟩,
   ⟨3, { thrUp [(0, false), (1, true)] [] with flights := [fl 3 6 0x10 collWords (.coll { coll0 with phase := 2, held := some (seal0 [1]) })] }, fl 3 6 0x10 collWords (.coll { coll0 with phase := 2, held := some (seal0 [1]) }), { coll0 with phase := 2, held := some (seal0 [1]) }, seal0 [1], by decide +kernel⟩,
   ⟨3, 0, { thrUp [(0, false), (1, true)] [] with flights := [fl 3 6 0x11 gatherWords (.coll { coll0 with phase := 2, held := some (seal0 [1]) })] }, fl 3 6 0x11 gatherWords (.coll { coll0 with phase := 2, held := some (seal0 [1]) }), { coll0 with phase := 2, held := some (seal0 [1]) }, seal0 [1], by decide +kernel⟩,
   ⟨3, { thrUp [(0, false), (1, true)] [] with flights := [fl 3 6 0x12 collWords (.coll { coll0 with phase := 2, held := some (seal0 [1]) })] }, fl 3 6 0x12 collWords (.coll { coll0 with phase := 2, held := some (seal0 [1]) }), { coll0 with phase := 2, held := some (seal0 [1]) }, seal0 [1], by decide +kernel⟩⟩

set_option synthInstance.maxSize 1000 in
theorem test_CollectivesExchange_2 :
    (∃ (c : Fin 32) (n : Nat) (b : BlockMsg) (s : State) (f : Flight) (p : CollProg) (x : SealRec), s.collFlight c.val n = some f ∧ f.coll? = some p ∧ p.held = some x ∧ p.outcome = 0 ∧ b.sealNo = x.num ∧ b.kind = 0 ∧ p.keys.contains (b.sender, b.tree, b.block, 0) = false ∧ (collF f.words).delivery = false ∧ b.block < (collF f.words).blocks ∧ b.elems.length = 64 ∧ residueOf b.elems = b.residue ∧ b.faults = [] ∧ s.thr.lanes ≠ 0xFF) ∧
    (∃ (c : Fin 32) (n : Nat) (b : BlockMsg) (s : State) (f : Flight) (p : CollProg) (x : SealRec), s.collFlight c.val n = some f ∧ f.coll? = some p ∧ p.held = some x ∧ p.outcome = 0 ∧ b.sealNo = x.num ∧ b.kind = 0 ∧ p.keys.contains (b.sender, b.tree, b.block, 0) = false ∧ p.retries = [] ∧ (collF f.words).delivery = false ∧ b.block < (collF f.words).blocks ∧ b.elems.length = 64 ∧ residueOf b.elems ≠ b.residue) ∧
    (∃ (c : Fin 32) (n : Nat) (s : State) (f : Flight) (p : CollProg), s.collFlight c.val n = some f ∧ f.coll? = some p) ∧
    (∃ (c : Fin 32) (n : Nat) (tree : Nat) (child : Nat) (t0 : Nat) (s : State) (f : Flight) (p : CollProg) (x : SealRec) (k : Kid), s.collFlight c.val n = some f ∧ f.coll? = some p ∧ p.held = some x ∧ p.kids.find? (fun k => k.tree == tree && k.pos == child && !k.detached) = some k ∧ k.lagSince = some t0 ∧ t0 + (collF f.words).straggleUnits < s.now) ∧
    (∃ (c : Fin 32) (n : Nat) (s : State) (f : Flight) (p : CollProg) (x : SealRec), s.collFlight c.val n = some f ∧ f.coll? = some p ∧ p.held = some x ∧ p.phase = 3 ∧ p.outcome = 0 ∧ s.wholeResult f p = false) ∧
    (∃ (c : Fin 32) (n : Nat) (tree : Nat) (other : Nat) (off : Nat) (len : Nat) (k : Nat) (codes : List Nat) (s : State) (words : List Word512) (x : SealRec) (results : List (Nat × List Nat)) (sent : List (Nat × BlockMsg)), s.collKept c.val n = some (words, x, results, sent) ∧ (if (collF words).op = 0x12 then (sent.filter (fun e => e.1 == other)).map (fun e => (e.2.block, e.2.elems)) else results).find? (fun r => r.1 == k) = some (k, codes) ∧ (let keys := (wantKeys (collF words) (s.chan c.val).n x.included other).filter (fun k => keyTree (collF words) x.included.length k == tree); let rest := keysAfter (collF words) off keys; k ∈ rest.take (rest.length - (keysAfter (collF words) len rest).length))) ∧
    (∃ (c : Fin 32) (n : Nat) (tree : Nat) (other : Nat) (b : Nat) (kind : Nat) (e : Nat × BlockMsg) (s : State) (words : List Word512) (x : SealRec) (results : List (Nat × List Nat)) (sent : List (Nat × BlockMsg)), s.collKept c.val n = some (words, x, results, sent) ∧ sent.find? (fun e => e.1 == other && e.2.tree == tree && e.2.block == b && e.2.kind == kind) = some e) :=
  ⟨⟨31, 5, block0, { thrUp [(0, false), (1, true)] [] with flights := [fl 3 6 1 collWords (.coll { coll0 with phase := 3, held := some (seal0 [1]) })] }, fl 3 6 1 collWords (.coll { coll0 with phase := 3, held := some (seal0 [1]) }), { coll0 with phase := 3, held := some (seal0 [1]) }, seal0 [1], by decide +kernel⟩,
   ⟨31, 5, { block0 with residue := 1 }, { thrUp [(0, false), (1, true)] [] with flights := [fl 3 6 1 collWords (.coll { coll0 with phase := 3, held := some (seal0 [1]) })] }, fl 3 6 1 collWords (.coll { coll0 with phase := 3, held := some (seal0 [1]) }), { coll0 with phase := 3, held := some (seal0 [1]) }, seal0 [1], by decide +kernel⟩,
   ⟨31, 5, { thrUp [(0, false), (1, true)] [] with flights := [fl 3 6 1 collWords (.coll { coll0 with phase := 3, held := some (seal0 [1]) })] }, fl 3 6 1 collWords (.coll { coll0 with phase := 3, held := some (seal0 [1]) }), { coll0 with phase := 3, held := some (seal0 [1]) }, by decide +kernel⟩,
   ⟨31, 5, 0, 1, 0, { { thrUp [(0, false), (1, true)] [] with flights := [fl 3 6 1 collWords (.coll { coll0 with phase := 3, held := some (seal0 [1]), kids := [⟨0, 1, 0, some 0, false⟩] })] } with alm := { up.alm with acc := BitVec.ofNat 96 (2 ^ 93) } }, fl 3 6 1 collWords (.coll { coll0 with phase := 3, held := some (seal0 [1]), kids := [⟨0, 1, 0, some 0, false⟩] }), { coll0 with phase := 3, held := some (seal0 [1]), kids := [⟨0, 1, 0, some 0, false⟩] }, seal0 [1], ⟨0, 1, 0, some 0, false⟩, by decide +kernel⟩,
   ⟨31, 5, { thrUp [(0, false), (1, true)] [] with flights := [fl 3 6 1 collWords (.coll { coll0 with phase := 3, held := some (seal0 [1]) })] }, fl 3 6 1 collWords (.coll { coll0 with phase := 3, held := some (seal0 [1]) }), { coll0 with phase := 3, held := some (seal0 [1]) }, seal0 [1], by decide +kernel⟩,
   ⟨31, 5, 0, 1, 0, 64, 0, List.replicate 64 0, { thrUp [(0, false), (1, true)] [] with flights := [fl 3 6 1 collWords (.coll { coll0 with phase := 3, held := some (seal0 [1]), results := [(0, List.replicate 64 0)], sent := [(1, ⟨0, 1, 0, 0, 1, 0, [1], []⟩)] })] }, (fl 3 6 1 collWords).words, seal0 [1], [(0, List.replicate 64 0)], [(1, ⟨0, 1, 0, 0, 1, 0, [1], []⟩)], by decide +kernel⟩,
   ⟨31, 5, 0, 1, 0, 1, (1, ⟨0, 1, 0, 0, 1, 0, [1], []⟩), { thrUp [(0, false), (1, true)] [] with flights := [fl 3 6 1 collWords (.coll { coll0 with phase := 3, held := some (seal0 [1]), results := [(0, List.replicate 64 0)], sent := [(1, ⟨0, 1, 0, 0, 1, 0, [1], []⟩)] })] }, (fl 3 6 1 collWords).words, seal0 [1], [(0, List.replicate 64 0)], [(1, ⟨0, 1, 0, 0, 1, 0, [1], []⟩)], by decide +kernel⟩⟩

theorem test_SwathLinksAndPlan_1 :
    (∃ (p : Fin 8) (lane : Fin 8) (l : Nat) (s : State), s.swath.links.length = 64 ∧ l = p.val * 8 + lane.val / modeLanes (s.portMode p.val) ∧ s.linkExists l = true ∧ (s.link l).state = 3) ∧
    (∃ (p : Fin 8) (lane : Fin 8) (l : Nat) (s : State), s.swath.links.length = 64 ∧ l = p.val * 8 + lane.val / modeLanes (s.portMode p.val) ∧ s.linkExists l = true ∧ (s.link l).state = 3) ∧
    (∃ (l : Fin 64) (s : State), s.swath.links.length = 64 ∧ s.linkExists l.val = true ∧ s.enabled .swathPort (l.val / 8) = true ∧ (s.port (l.val / 8)).laserOk = true ∧ (s.link l.val).state = 4) ∧
    (∃ (p : Fin 8) (s : State), s.swath.links.length = 64 ∧ (s.port p.val).laserOk = true) ∧
    (∃ (s : State), s.swath.ports.length = 8) ∧
    (∃ (s : State), s.swath.ports.length = 8) ∧
    (∃ (via : Via) (s : State), Lands via s (tpReg 0x110) 1) ∧
    (∃ (via : Via) (s : State), Lands via s (tpReg 0x110) 2) :=
  ⟨⟨7, 7, 63, swUp [conn0, conn0], by decide +kernel⟩,
   ⟨7, 7, 63, { swUp [] with swath := { (swUp []).swath with links := List.replicate 64 ⟨3, true, true, [0, 0, 0], none⟩ } }, by decide +kernel⟩,
   ⟨63, { swUp [] with swath := { (swUp []).swath with links := List.replicate 64 ⟨4, false, true, [], none⟩ } }, by decide +kernel⟩,
   ⟨7, swUp [conn0, conn0], by decide +kernel⟩,
   ⟨swUp [], by decide +kernel⟩,
   ⟨swUp [], by decide +kernel⟩,
   ⟨hv, { up with regs := [(tpReg 0x100, gleanBase 0), (tpReg 0x108, 2 ^ 16)] }, by decide +kernel⟩,
   ⟨hv, swUp [], by decide +kernel⟩⟩

theorem test_SwathLinksAndPlan_2 :
    (∃ (l : Fin 64) (s : State), s.linkExists l.val = true ∧ (s.link l.val).state = 3 ∧ s.swath.lldpAt + almMs (1000 * s.rf (swathReg 0x108) 15 0) ≤ s.now) ∧
    (∃ (l : Fin 64) (ct : BitVec 8) (pt : BitVec 8) (ch : List Byte) (po : List Byte) (s : State), s.swath.links.length = 64 ∧ s.linkExists l.val = true ∧ (s.link l.val).state = 3 ∧ s.swath.plan ≠ 0 ∧ (s.link l.val).judged = false ∧ (s.swath.planLinks.getD l.val []).getD 0 0 ≠ 0#8 ∧ nbrMatches (s.swath.planLinks.getD l.val []) (lldpRecord ct pt ch po) = true) ∧
    (∃ (s : State), s.swath.plan = 1 ∧ s.swath.loadTime + almMs (s.rf (tpReg 0x128) 15 0) ≤ s.now) ∧
    (∃ (m : PtpMsg) (s : State), s.rf (ptpReg 0x100) 1 0 ≠ 0 ∧ (s.link m.link.val).inService = true ∧ m.link.val = s.rf (ptpReg 0x100) 37 32 ∧ m.stamped = true) ∧
    (∃ (l : Nat) (s : State), s.rf (ptpReg 0x100) 1 0 = 2 ∧ l ∈ s.service ∧ bitOf (s.reg (ptpReg 0x108)) l = true) :=
  ⟨⟨63, { swUp [] with alm := { up.alm with acc := BitVec.ofNat 96 (2 ^ 93) } }, by decide +kernel⟩,
   ⟨63, 4, 3, [1, 2], [], { swUp [] with swath := { (swUp []).swath with links := List.replicate 64 ⟨3, false, false, [], none⟩, planLinks := List.replicate 64 (1#8 :: (lldpRecord 4 3 [1, 2] []).drop 1) } }, by decide +kernel⟩,
   ⟨{ swUp [] with swath := { (swUp []).swath with plan := 1 }, alm := { up.alm with acc := BitVec.ofNat 96 (2 ^ 93) } }, by decide +kernel⟩,
   ⟨⟨63, true, true, 7, 5, 6, 7⟩, { swUp [] with regs := [(swPortReg 7 0x100, 0x303), (ptpReg 0x100, 1 + 63 * 2 ^ 32)] }, by decide +kernel⟩,
   ⟨63, { swUp [] with regs := [(swPortReg 7 0x100, 0x303), (ptpReg 0x100, 2), (ptpReg 0x108, 2 ^ 63)] }, by decide +kernel⟩⟩

theorem test_SwathTransportRuns_1 :
    (∃ (rx : SwathRx) (h : SwHdr) (d : List Byte) (s : State), s.Hears rx 0 h d ∧ h.src < s.swath.conns.length ∧ ((h.user = 0 ∨ h.user = 3)) ∧ h.q < 2 ^ 48 ∧ h.seq < 2 ^ 32 ∧ h.seq = (s.conn h.src).rxCum ∧ (s.conn h.src).rxAhead = [] ∧ h.ackNow = false ∧ (s.conn h.src).ackDue < 15) ∧
    (∃ (rx : SwathRx) (h : SwHdr) (d : List Byte) (a : Nat) (s : State), s.MemOk ∧ s.Hears rx 0 h d ∧ h.user = 1 ∧ h.q < 2 ^ 48 ∧ (s.conn h.src).takes h.seq = true ∧ rx.body = .write a ∧ s.inbound a d.length true = true ∧ ((∀ i, i < d.length → s.deadAt (a + i) = false))) ∧
    (∃ (rx : SwathRx) (h : SwHdr) (d : List Byte) (s : State), s.Hears rx 0 h d ∧ h.user < 4 ∧ h.q < 2 ^ 48 ∧ h.seq ∈ (s.conn h.src).rxAhead ∧ (h.seq + 2 ^ 32 - (s.conn h.src).rxCum) % 2 ^ 32 ≤ 65535) ∧
    (∃ (rx : SwathRx) (h : SwHdr) (d : List Byte) (s : State), s.Hears rx 1 h d ∧ (s.conn h.src).queue = []) ∧
    (∃ (rx : SwathRx) (h : SwHdr) (d : List Byte) (m : BitVec 32) (s : State) (f : Flight), s.Hears rx 2 h d ∧ s.transferOf h.src m.toNat = some f ∧ s.flight f.id = some f) ∧
    (∃ (e : Nat) (s : State), 0 < (s.conn e).ackDue ∧ (s.conn e).ackFrom + almUs 2 ≤ s.now) ∧
    (∃ (e : Nat) (l : Nat) (p : Nat) (q : BitVec 32) (x : TxSlot) (s : State), (s.conn e).slots.find? (fun x => x.seq == q.toNat) = some x ∧ (s.conn e).unreachable = false ∧ x.sentAt + almUs (x.timer * s.rf (tpReg 0x120) 15 0) ≤ s.now ∧ s.retryPath x = some (l, p)) ∧
    (∃ (rx : SwathRx) (h : SwHdr) (d : List Byte) (s : State), s.Hears rx 3 h d ∧ h.src < s.swath.conns.length) :=
  ⟨⟨⟨63, true, false, (swHdrOf 0 [1, 2]).toBytes [1, 2], .other⟩, swHdrOf 0 [1, 2], [1, 2], swUp [conn0, conn0], by decide +kernel⟩,
   ⟨⟨63, true, false, ({ swHdrOf 0 [1, 2] with user := 1, seq := 65535 }).toBytes [1, 2], .write (tilthBase 7)⟩, { swHdrOf 0 [1, 2] with user := 1, seq := 65535 }, [1, 2], tilthBase 7, { swUp [conn0, conn0] with regs := [(swPortReg 7 0x100, 0x303), (tpReg 0x108, 2 ^ 32), (tpReg 0x130, tilthBase 7), (tpReg 0x138, 1)] }, by decide +kernel⟩,
   ⟨⟨63, true, false, ({ swHdrOf 0 [1] with seq := 2 }).toBytes [1], .other⟩, { swHdrOf 0 [1] with seq := 2 }, [1], swUp [{ conn0 with rxAhead := [2] }, conn0], by decide +kernel⟩,
   ⟨⟨63, true, false, ({ swHdrOf 1 [] with msg := 1 }).toBytes [], .other⟩, { swHdrOf 1 [] with msg := 1 }, [], swUp [{ conn0 with slots := [slot0] }, conn0], by decide +kernel⟩,
   ⟨⟨63, true, false, (swHdrOf 2 []).toBytes [], .other⟩, swHdrOf 2 [], [], 0, { swUp [conn0, conn0] with flights := [fl 3 7 1 swWords (.swath ⟨0, 0, 0, none⟩)] }, fl 3 7 1 swWords (.swath ⟨0, 0, 0, none⟩), by decide +kernel⟩,
   ⟨0, { swUp [{ conn0 with ackDue := 1 }, conn0] with alm := { up.alm with acc := BitVec.ofNat 96 (2 ^ 93) } }, by decide +kernel⟩,
   ⟨0, 8, 0, 0, slot0, { swUp [{ conn0 with slots := [slot0] }, conn0] with alm := { up.alm with acc := BitVec.ofNat 96 (2 ^ 93) } }, by decide +kernel⟩,
   ⟨⟨63, true, false, (swHdrOf 3 []).toBytes [], .other⟩, swHdrOf 3 [], [], swUp [conn0, conn0], by decide +kernel⟩⟩

theorem test_SwathTransportRuns_2 :
    (∃ (rx : SwathRx) (h : SwHdr) (d : List Byte) (s : State), s.Hears rx 4 h d ∧ h.src < s.swath.conns.length ∧ s.swath.plan ≠ 3 ∧ (s.conn h.src).queue = []) ∧
    (∃ (e : Nat) (s : State) (q : Nat × Nat), e < s.swath.eps.length ∧ s.swath.plan ≠ 0 ∧ (s.conn e).unreachable = true ∧ (s.conn e).probed + almUs 100 ≤ s.now ∧ q ∈ s.allPaths) ∧
    (∃ (e : Nat) (u : Nat) (s : State), e < s.swath.eps.length ∧ (s.conn e).unreachable = false ∧ (s.conn e).since = some u ∧ u + almUs (s.rf (tpReg 0x120) 47 16) ≤ s.now) :=
  ⟨⟨⟨63, true, false, (swHdrOf 4 []).toBytes [], .other⟩, swHdrOf 4 [], [], swUp [conn0, conn0], by decide +kernel⟩,
   ⟨0, { swUp [{ conn0 with unreachable := true }, conn0] with alm := { up.alm with acc := BitVec.ofNat 96 (2 ^ 93) } }, (63, 0), by decide +kernel⟩,
   ⟨0, 0, { swUp [{ conn0 with since := some 0 }, conn0] with alm := { up.alm with acc := BitVec.ofNat 96 (2 ^ 93) } }, by decide +kernel⟩⟩

theorem test_SwathTransfersRun :
    (∃ (id : Nat) (s : State) (f : Flight), s.flightOf id 7 1 = some f ∧ f.fired = true ∧ (swathF f.words).len ≠ 0 ∧ f.started = false) ∧
    (∃ (id : Nat) (n : Nat) (s : State) (f : Flight) (r : Nat × Nat × Nat), s.MemOk ∧ s.flightOf id 7 1 = some f ∧ f.fired = true ∧ f.started = true ∧ f.sw.sent < (swathF f.words).len ∧ n = min 4096 ((swathF f.words).len - f.sw.sent) ∧ s.readsPoison ((swathF f.words).localAddr + f.sw.sent) n = false ∧ s.maySend (s.conn (swathF f.words).ep) = true ∧ s.pickPath (s.conn (swathF f.words).ep) = some r) ∧
    (∃ (id : Nat) (s : State) (f : Flight), s.flightOf id 7 1 = some f ∧ f.fired = true ∧ f.started = true ∧ (swathF f.words).len ≤ f.sw.sent ∧ (s.conn (swathF f.words).ep).slots.any (fun y => y.data.user == 1 && y.data.msg == f.sw.msg) = false ∧ (s.conn (swathF f.words).ep).queue.any (fun y => y.user == 1 && y.msg == f.sw.msg) = false) ∧
    (∃ (id : Nat) (s : State) (f : Flight) (r : Nat × Nat × Nat), s.flightOf id 7 2 = some f ∧ f.fired = true ∧ f.started = true ∧ (swathF f.words).len ≠ 0 ∧ f.sw.sent = 0 ∧ s.maySend (s.conn (swathF f.words).ep) = true ∧ s.pickPath (s.conn (swathF f.words).ep) = some r) ∧
    (∃ (id : Nat) (s : State) (f : Flight), s.flightOf id 7 2 = some f ∧ f.fired = true ∧ f.started = true ∧ f.sw.sent ≠ 0 ∧ (swathF f.words).len ≤ f.sw.got ∧ f.sw.data.any (s.conn (swathF f.words).ep).completed = true) ∧
    (∃ (id : Nat) (s : State) (f : Flight), s.flightOf id 7 3 = some f ∧ f.fired = true ∧ ((∀ g ∈ s.flights, swathMatches f.words g = true → g.id ≠ id))) :=
  ⟨⟨3, { swUp [connUp, conn0] with flights := [{ fl 3 7 1 swWords (.swath ⟨0, 0, 0, none⟩) with started := false }] }, { fl 3 7 1 swWords (.swath ⟨0, 0, 0, none⟩) with started := false }, by decide +kernel⟩,
   ⟨3, 4, { swUp [connUp, conn0] with flights := [{ fl 3 7 1 swWords (.swath ⟨0, 4096, 0, none⟩) with started := true }] }, { fl 3 7 1 swWords (.swath ⟨0, 4096, 0, none⟩) with started := true }, (0, 0, 0), by decide +kernel⟩,
   ⟨3, { swUp [connUp, conn0] with flights := [{ fl 3 7 1 swWords (.swath ⟨0, 4100, 0, none⟩) with started := true }] }, { fl 3 7 1 swWords (.swath ⟨0, 4100, 0, none⟩) with started := true }, by decide +kernel⟩,
   ⟨3, { swUp [connUp, conn0] with flights := [{ fl 3 7 2 swWords (.swath ⟨0, 0, 0, none⟩) with started := true }] }, { fl 3 7 2 swWords (.swath ⟨0, 0, 0, none⟩) with started := true }, (0, 0, 0), by decide +kernel⟩,
   ⟨3, { swUp [{ connUp with rxDone := 1 }, conn0] with flights := [{ fl 3 7 2 swWords (.swath ⟨0, 1, 4100, some 0⟩) with started := true }] }, { fl 3 7 2 swWords (.swath ⟨0, 1, 4100, some 0⟩) with started := true }, by decide +kernel⟩,
   ⟨3, fly [fl 3 7 3 [word [(0, 7), (32, 0xFFFFFFFF)]], fl 4 7 1 swWords], fl 3 7 3 [word [(0, 7), (32, 0xFFFFFFFF)]], by decide +kernel⟩⟩

theorem test_AlmanacKeepsTime :
    (∃ (s : State), s.alm.running = true ∧ s.rf (almReg 0x108) 1 0 = 1) ∧
    (∃ (s : State), s.alm.running = true ∧ s.rf (almReg 0x108) 1 0 = 1) ∧
    (∃ (s : State), s.alm.running = true ∧ s.rf (almReg 0x108) 1 0 = 1) ∧
    (∃ (s : State), s.alm.running = true ∧ s.rf (almReg 0x108) 1 0 = 1) ∧
    (∃ (s : State), s.alm.running = true ∧ s.rf (almReg 0x108) 1 0 = 1) ∧
    (∃ (s : State), s.alm.running = true ∧ s.alm.lastPps = none ∧ s.rf (almReg 0x108) 1 0 = 2 ∧ s.alm.state = .free) ∧
    (∃ (s : State) (u : Nat), s.alm.running = true ∧ s.alm.lastPps = some u ∧ 2 * (s.now - u) < almSecond) ∧
    (∃ (s : State), s.alm.running = true ∧ s.alm.state = .locked ∧ 8 * s.syncInterval ≤ s.now - s.alm.lastMeasure) :=
  ⟨⟨{ up with regs := [(almReg 0x108, 1)] }, by decide +kernel⟩,
   ⟨{ up with regs := [(almReg 0x108, 1)], alm := { up.alm with state := .acquire, good := 15 } }, by decide +kernel⟩,
   ⟨{ up with regs := [(almReg 0x108, 1)], alm := { up.alm with state := .locked } }, by decide +kernel⟩,
   ⟨{ up with regs := [(almReg 0x108, 1)], alm := { up.alm with state := .acquire, acc := BitVec.ofNat 96 (2 ^ 90) } }, by decide +kernel⟩,
   ⟨{ up with regs := [(almReg 0x108, 1)], alm := { up.alm with state := .locked, acc := BitVec.ofNat 96 (2 ^ 90) } }, by decide +kernel⟩,
   ⟨{ up with regs := [(almReg 0x108, 2)] }, by decide +kernel⟩,
   ⟨{ up with alm := { up.alm with lastPps := some 0 } }, 0, by decide +kernel⟩,
   ⟨{ up with alm := { up.alm with state := .locked, acc := BitVec.ofNat 96 (2 ^ 93) } }, by decide +kernel⟩⟩

theorem test_GatesWaitsAndFlags :
    (∃ (id : Nat) (s : State) (f : Flight), s.flight id = some f ∧ f.fired = false ∧ f.ending = none ∧ s.gateHead f = true ∧ hLaunch f.hdr ≤ s.now ∧ ((f.wait = none ∨ f.waitMet = true)) ∧ ((hLaunch f.hdr ≠ 0 → (gatePages f).all (fun p => s.gateOn p.1 p.2) = true)) ∧ s.steward.warm = false) ∧
    (∃ (d : Fin 9) (s : State) (f : Flight) (w : WaitCopy), s.steward.warm = false ∧ s.flights.filter (fun f => match f.wait with | some w => w.domain == d.val && !f.waitMet | none => false) = [f] ∧ s.flight f.id = some f ∧ f.wait = some w ∧ s.waitHolds w = true) ∧
    (∃ (via : Via) (d : Fin 9) (n : Fin 1024) (s : State), Lands via s (almReg 0x168) (n.val + 1024 * d.val)) ∧
    (∃ (via : Via) (d : Fin 9) (n : Fin 1024) (s : State), Lands via s (almReg 0x168) (n.val + 1024 * d.val + 0x4000)) ∧
    (∃ (via : Via) (v : Word) (s : State), Lands via s (almReg 0x150) v.toNat) ∧
    (∃ (via : Via) (v : Word) (s : State), Lands via s (almReg 0x160) v.toNat) ∧
    (∃ (s : State) (u : Nat) (n : Nat), s.alm.rebase = some (u, n) ∧ s.alm.running = true ∧ u ≤ s.now ∧ s.flights.any (fun f => !f.fired && hLaunch f.hdr != 0) = false ∧ s.windows.any (fun w => w.parsed.any (fun d => hLaunch (dword d.2 0) != 0)) = false ∧ s.collectiveHolds = false) ∧
    (∃ (s : State) (u : Nat) (n : Nat), s.alm.rebase = some (u, n) ∧ s.alm.running = true ∧ u ≤ s.now ∧ ((s.flights.any (fun f => !f.fired && hLaunch f.hdr != 0) = true ∨ s.windows.any (fun w => w.parsed.any (fun d => hLaunch (dword d.2 0) != 0)) = true ∨ s.collectiveHolds = true))) :=
  ⟨⟨3, fly [{ fl 3 0 0 [] with fired := false, waitMet := false }], { fl 3 0 0 [] with fired := false, waitMet := false }, by decide +kernel⟩,
   ⟨8, { fly [{ fl 3 0 0 [] with fired := false, waitMet := false, wait := some ⟨8, true, false, [1023]⟩ }] with flags := [8 * 1024 + 1023] }, { fl 3 0 0 [] with fired := false, waitMet := false, wait := some ⟨8, true, false, [1023]⟩ }, ⟨8, true, false, [1023]⟩, by decide +kernel⟩,
   ⟨hv, 8, 1023, up, by decide +kernel⟩,
   ⟨hv, 8, 1023, { up with flags := [8 * 1024 + 1023] }, by decide +kernel⟩,
   ⟨hv, 1024, { up with regs := [(almReg 0x148, granaryBase)] }, by decide +kernel⟩,
   ⟨hv, 65536000000000, { up with alm := { up.alm with rebaseSec := 1 } }, by decide +kernel⟩,
   ⟨{ up with alm := { up.alm with rebase := some (5, 1), acc := BitVec.ofNat 96 (2 ^ 93) } }, 5, 1, by decide +kernel⟩,
   ⟨{ fly [{ fl 3 0 0 [] .none [(64, 1)] with fired := false }] with alm := { up.alm with rebase := some (5, 1), acc := BitVec.ofNat 96 (2 ^ 93) } }, 5, 1, by decide +kernel⟩⟩

theorem test_FurlongsRun :
    (∃ (id : Nat) (s : State) (f : Flight), s.flightOf id 8 1 = some f ∧ f.fired = true ∧ f.started = false ∧ s.furlong = none ∧ (runF f.words).steps ≠ 0 ∧ s.rangesPoisoned (s.imageReads (runF f.words).image true none) = false) ∧
    (∃ (id : Nat) (s : State) (f : Flight), s.flightOf id 8 1 = some f ∧ f.fired = true ∧ f.started = false ∧ s.furlong = none ∧ (runF f.words).steps = 0) ∧
    (∃ (id : Nat) (s : State) (f : Flight), s.flightOf id 8 1 = some f ∧ f.fired = true ∧ f.started = false ∧ s.furlong = none ∧ (runF f.words).steps ≠ 0 ∧ s.rangesPoisoned (s.imageReads (runF f.words).image true none) = true) ∧
    (∃ (id : Nat) (s : State) (f : Flight) (fu : Furlong), s.flightOf id 8 2 = some f ∧ f.fired = true ∧ s.furlong = some fu ∧ fu.current.isSome = true) ∧
    (∃ (s : State) (fu : Furlong) (o : Nat), s.furlong = some fu ∧ s.placeRuns 8 = true ∧ s.hitch.job = .running ∧ fu.current = none ∧ fu.running = [] ∧ fu.stopping = false ∧ fu.nextStep < fu.first + fu.steps ∧ s.stepAdmits fu.nextStep = true ∧ s.stepOrigin fu fu.nextStep = some o ∧ s.rangesPoisoned (s.imageReads fu.image true none) = false) ∧
    (∃ (s : State) (fu : Furlong) (n : Nat) (ph : Nat) (tm : Nat) (ch : Nat) (mi : Nat) (pre : Bool) (rest : List ExpandItem) (r : StepRun), s.furlong = some fu ∧ s.placeRuns 8 = true ∧ s.hitch.job = .running ∧ fu.current = some (n, pre) ∧ fu.items = .inst ph tm ch mi :: rest ∧ fu.run? n pre = some r ∧ s.scaleHeld fu.image tm n = false ∧ s.rangesPoisoned (s.imageReads fu.image false (some tm)) = false ∧ ((hFence (dword (s.instanceOf fu.image tm n r.origin ch mi pre) 0) = true → s.instancesClear = true)) ∧ s.issueHeld (s.instanceOf fu.image tm n r.origin ch mi pre) n = false ∧ s.descCheck 8 (s.instanceOf fu.image tm n r.origin ch mi pre) = 0 ∧ s.issueCheck (s.instanceOf fu.image tm n r.origin ch mi pre) n = 0 ∧ hClass (dword (s.instanceOf fu.image tm n r.origin ch mi pre) 0) ≠ 0x0D ∧ s.waitStop (s.instanceOf fu.image tm n r.origin ch mi pre) = 0) ∧
    (∃ (n : Nat) (ph : Nat) (pre : Bool) (s : State) (fu : Furlong) (r : StepRun) (p : PhaseRun) (u : Nat), s.MemOk ∧ s.furlong = some fu ∧ fu.run? n pre = some r ∧ r.phases.find? (fun p => p.index == ph) = some p ∧ p.expanded = true ∧ p.outstanding = 0 ∧ p.recorded = false ∧ p.start = some u ∧ p.count ≠ 0 ∧ s.rf (almReg 0x150) 31 0 ≠ 0 ∧ ((∀ i, i < 32 → s.deadAt (s.rf (almReg 0x148) 47 0 + 32 * s.rf (almReg 0x150) 63 32 + i) = false))) ∧
    (∃ (n : Nat) (s : State) (fu : Furlong), s.furlong = some fu ∧ fu.stepDone n = true) :=
  ⟨⟨3, fly [{ fl 3 8 1 [word [(0, gleanBase 0), (64, 5), (96, 2)]] with started := false }], { fl 3 8 1 [word [(0, gleanBase 0), (64, 5), (96, 2)]] with started := false }, by decide +kernel⟩,
   ⟨3, fly [{ fl 3 8 1 [word [(0, gleanBase 0), (64, 5)]] with started := false }], { fl 3 8 1 [word [(0, gleanBase 0), (64, 5)]] with started := false }, by decide +kernel⟩,
   ⟨3, { fly [{ fl 3 8 1 [word [(0, gleanBase 0), (64, 5), (96, 2)]] with started := false }] with poison := [gleanBase 0] }, { fl 3 8 1 [word [(0, gleanBase 0), (64, 5), (96, 2)]] with started := false }, by decide +kernel⟩,
   ⟨3, { fly [fl 3 8 2 []] with furlong := some { fur0 with current := some (6, false) } }, fl 3 8 2 [], { fur0 with current := some (6, false) }, by decide +kernel⟩,
   ⟨{ up with furlong := some fur0 }, fur0, 0, by decide +kernel⟩,
   ⟨{ up with furlong := some fur1, mem := imageCells }, fur1, 5, 0, 0, 0, 0, false, [.phaseEnd 0], run0, by decide +kernel⟩,
   ⟨5, 0, false, { up with furlong := some { fur0 with running := [run1] }, regs := [(almReg 0x148, gleanBase 0), (almReg 0x150, 4)] }, { fur0 with running := [run1] }, run1, ⟨0, 1, 2, some 9, 11, false, false, 1, 0, true, false⟩, 9, by decide +kernel⟩,
   ⟨5, { up with furlong := some { fur0 with running := [run2] } }, { fur0 with running := [run2] }, by decide +kernel⟩⟩

theorem test_CommitsAndBuddies_1 :
    (∃ (id : Nat) (s : State) (f : Flight), s.recRuns id 1 = some f ∧ f.reco?.begun = true ∧ f.reco?.carry = false) ∧
    (∃ (id : Nat) (s : State) (f : Flight), s.recRuns id 1 = some f ∧ f.reco?.begun = false ∧ (recF f.words).hdr ≠ 0 ∧ s.recTableStop = none ∧ s.recReadStop (recF f.words).hdr 64 = none) ∧
    (∃ (id : Nat) (s : State) (f : Flight) (e : RecEnt), s.MemOk ∧ s.recRuns id 1 = some f ∧ f.reco?.begun = true ∧ f.reco?.carry = true ∧ (s.recEnts.filter (fun e => e.a1 != 0))[f.reco?.idx]? = some e ∧ s.recReadStop (e.copy s.committedSet) e.len = none ∧ s.populated (e.copy (recF f.words).set) e.len = true ∧ e.copy s.committedSet ≠ e.copy (recF f.words).set ∧ ((∀ i, i < e.len → s.deadAt (e.copy (recF f.words).set + i) = false))) ∧
    (∃ (id : Nat) (s : State) (f : Flight), s.MemOk ∧ s.recRuns id 2 = some f ∧ s.pairState ≠ 4 ∧ s.epGone s.buddyEp = false ∧ f.reco?.begun = false ∧ s.recTableStop = none ∧ (packOffsets 0 (s.recOf [2])).findSome? (fun e => s.recReadStop (e.2.copy s.committedSet) e.2.len) = none) ∧
    (∃ (id : Nat) (s : State) (f : Flight), s.recRuns id 2 = some f ∧ s.pairState ≠ 4 ∧ s.epGone s.buddyEp = false ∧ f.reco?.begun = true ∧ f.ending = none ∧ f.reco?.msg.any (s.msgOpen f.reco?.ep) = false) ∧
    (∃ (id : Nat) (s : State) (f : Flight), s.recRuns id 2 = some f ∧ s.pairState ≠ 4 ∧ s.epGone s.buddyEp = true) ∧
    (∃ (k : Fin 2) (s : State), s.recov.hosted.length = 2 ∧ s.pairState = 2 ∧ s.recov.sealSeen.getD k.val false = true ∧ (s.conn s.buddyEp).rxAhead = []) ∧
    (∃ (via : Via) (e : BitVec 16) (o : Bool) (s : State), Lands via s (recReg 0x120) (0x100 + (b2n o <<< 16) + (e.toNat <<< 32)) ∧ s.MemOk) :=
  ⟨⟨3, { recUp 3 with flights := [fl 3 0x0D 1 [word [(0, 9)]] (.reco ⟨0, true, false, 0, 0, none, 0, 0, 0, false, []⟩)] }, fl 3 0x0D 1 [word [(0, 9)]] (.reco ⟨0, true, false, 0, 0, none, 0, 0, 0, false, []⟩), by decide +kernel⟩,
   ⟨3, { recUp 3 with flights := [fl 3 0x0D 1 [word [(0, 9), (48, tilthBase 2)]] (.reco ⟨0, false, false, 0, 0, none, 0, 0, 0, false, []⟩)] }, fl 3 0x0D 1 [word [(0, 9), (48, tilthBase 2)]] (.reco ⟨0, false, false, 0, 0, none, 0, 0, 0, false, []⟩), by decide +kernel⟩,
   ⟨3, { recUp 3 with flights := [fl 3 0x0D 1 [word [(0, 9), (32, 1)]] (.reco ⟨0, true, true, 0, 0, none, 0, 0, 0, false, []⟩)] }, fl 3 0x0D 1 [word [(0, 9), (32, 1)]] (.reco ⟨0, true, true, 0, 0, none, 0, 0, 0, false, []⟩), ⟨0, 3, 64, tilthBase 1, tilthBase 0⟩, by decide +kernel⟩,
   ⟨3, { { recUp 2 with regs := (recUp 2).regs ++ [(recReg 0x138, 2 * 2 ^ 40)], swath := (swUp [conn0, conn0]).swath } with flights := [fl 3 0x0D 2 [word [(0, 9)]] (.reco ⟨0, false, false, 0, 0, none, 0, 0, 0, false, []⟩)] }, fl 3 0x0D 2 [word [(0, 9)]] (.reco ⟨0, false, false, 0, 0, none, 0, 0, 0, false, []⟩), by decide +kernel⟩,
   ⟨3, { { recUp 2 with regs := (recUp 2).regs ++ [(recReg 0x138, 2 * 2 ^ 40)], swath := (swUp [conn0, conn0]).swath } with flights := [fl 3 0x0D 2 [word [(0, 9)]] (.reco ⟨0, true, false, 0, 0, none, 0, 0, 0, false, []⟩)] }, fl 3 0x0D 2 [word [(0, 9)]] (.reco ⟨0, true, false, 0, 0, none, 0, 0, 0, false, []⟩), by decide +kernel⟩,
   ⟨3, { recUp 3 with flights := [fl 3 0x0D 2 [word [(0, 9)]] (.reco ⟨0, true, false, 0, 0, none, 0, 0, 0, false, []⟩)] }, fl 3 0x0D 2 [word [(0, 9)]] (.reco ⟨0, true, false, 0, 0, none, 0, 0, 0, false, []⟩), by decide +kernel⟩,
   ⟨1, { { recUp 2 with regs := (recUp 2).regs ++ [(recReg 0x138, 2 * 2 ^ 40)], swath := (swUp [conn0, conn0]).swath } with recov := { up.recov with sealSeen := [false, true] } }, by decide +kernel⟩,
   ⟨hv, 0xFFFF, true, up, by decide +kernel⟩⟩

theorem test_CommitsAndBuddies_2 :
    (∃ (via : Via) (e : BitVec 16) (o : Bool) (s : State), Lands via s (recReg 0x120) ((b2n o <<< 16) + (e.toNat <<< 32))) ∧
    (∃ (d : Fin 64) (s : State), s.pairState = 1 ∧ s.epGone s.buddyEp = false ∧ ((d.val ≠ s.steward.pwrDomain ∨ bitOf (s.reg (recReg 0x120)) 16 = true))) ∧
    (∃ (d : Fin 64) (s : State), s.MemOk ∧ ((s.pairState = 1 ∨ s.pairState = 2)) ∧ s.epGone s.buddyEp = false ∧ ((d.val ≠ s.steward.pwrDomain ∨ bitOf (s.reg (recReg 0x120)) 16 = true))) ∧
    (∃ (d : Fin 64) (s : State), s.MemOk ∧ s.pairState = 1 ∧ s.epGone s.buddyEp = false ∧ d.val = s.steward.pwrDomain ∧ bitOf (s.reg (recReg 0x120)) 16 = false) :=
  ⟨⟨hv, 1, true, up, by decide +kernel⟩,
   ⟨63, { recUp 2 with regs := (recUp 2).regs ++ [(recReg 0x138, 1 * 2 ^ 40)], swath := (swUp [conn0, conn0]).swath }, by decide +kernel⟩,
   ⟨63, { recUp 2 with regs := (recUp 2).regs ++ [(recReg 0x138, 2 * 2 ^ 40)], swath := (swUp [conn0, conn0]).swath }, by decide +kernel⟩,
   ⟨0, { recUp 2 with regs := (recUp 2).regs ++ [(recReg 0x138, 1 * 2 ^ 40)], swath := (swUp [conn0, conn0]).swath }, by decide +kernel⟩⟩

theorem test_StooksAndRefills_1 :
    (∃ (id : Nat) (s : State) (f : Flight), s.recRuns id 3 = some f ∧ f.reco?.begun = false ∧ s.recTableStop = none ∧ s.stookState = 0) ∧
    (∃ (id : Nat) (s : State) (f : Flight), s.recRuns id 3 = some f ∧ f.reco?.begun = false ∧ s.recTableStop = none ∧ s.stookState ≠ 0) ∧
    (∃ (id : Nat) (o : Nat) (e : RecEnt) (s : State) (f : Flight), s.MemOk ∧ s.recRuns id 3 = some f ∧ f.reco?.begun = true ∧ (packOffsets s.stookData (s.recOf [2, 3]))[f.reco?.idx]? = some (o, e) ∧ s.recReadStop (e.copy s.committedSet) e.len = none ∧ ((∀ i, i < e.len → s.deadAt (s.stagingBase + o + i) = false))) ∧
    (∃ (id : Nat) (s : State) (f : Flight), s.recRuns id 3 = some f ∧ f.reco?.begun = true ∧ (s.recOf [2, 3]).length ≤ f.reco?.idx) ∧
    (∃ (via : Via) (v : Word) (s : State), Lands via s (recReg 0x170) v.toNat ∧ v.toNat + 1 < stookExtents s.recov.stookBytes ∧ v.toNat + 1 < 2 ^ 32) ∧
    (∃ (via : Via) (v : Word) (s : State), Lands via s (recReg 0x170) v.toNat ∧ stookExtents s.recov.stookBytes ≤ v.toNat + 1) ∧
    (∃ (id : Nat) (s : State) (f : Flight), s.recRuns id 4 = some f ∧ f.reco?.carry = false ∧ f.reco?.begun = false ∧ s.recTableStop = none ∧ (recF f.words).source = 0) ∧
    (∃ (id : Nat) (s : State) (f : Flight), s.recRuns id 4 = some f ∧ f.reco?.carry = false ∧ s.recTableStop = none ∧ (recF f.words).source = 2 ∧ s.committedStep ≠ (recF f.words).step) :=
  ⟨⟨3, { recUp 3 with flights := [fl 3 0x0D 3 [word [(0, 9)]] (.reco ⟨0, false, false, 0, 0, none, 0, 0, 0, false, []⟩)] }, fl 3 0x0D 3 [word [(0, 9)]] (.reco ⟨0, false, false, 0, 0, none, 0, 0, 0, false, []⟩), by decide +kernel⟩,
   ⟨3, { { recUp 3 with regs := (recUp 3).regs ++ [(recReg 0x158, 2 ^ 48)] } with flights := [fl 3 0x0D 3 [word [(0, 9)]] (.reco ⟨0, false, false, 0, 0, none, 0, 0, 0, false, []⟩)] }, fl 3 0x0D 3 [word [(0, 9)]] (.reco ⟨0, false, false, 0, 0, none, 0, 0, 0, false, []⟩), by decide +kernel⟩,
   ⟨3, 65536, ⟨0, 3, 64, tilthBase 1, tilthBase 0⟩, { recUp 3 with flights := [fl 3 0x0D 3 [word [(0, 9)]] (.reco ⟨0, true, false, 0, 0, none, 0, 0, 0, false, []⟩)] }, fl 3 0x0D 3 [word [(0, 9)]] (.reco ⟨0, true, false, 0, 0, none, 0, 0, 0, false, []⟩), by decide +kernel⟩,
   ⟨3, { { recUp 3 with recov := { up.recov with stookBytes := 256 } } with flights := [fl 3 0x0D 3 [word [(0, 9)]] (.reco ⟨1, true, false, 0, 0, none, 0, 0, 0, false, []⟩)] }, fl 3 0x0D 3 [word [(0, 9)]] (.reco ⟨1, true, false, 0, 0, none, 0, 0, 0, false, []⟩), by decide +kernel⟩,
   ⟨hv, 0, { up with regs := [(recReg 0x158, 2 * 2 ^ 48)], recov := { up.recov with stookBytes := 256 } }, by decide +kernel⟩,
   ⟨hv, 0, { up with regs := [(recReg 0x158, 2 * 2 ^ 48)], recov := { up.recov with stookBytes := 128 } }, by decide +kernel⟩,
   ⟨3, { recUp 3 with flights := [fl 3 0x0D 4 [word [(0, 9)]] (.reco ⟨0, false, false, 0, 0, none, 0, 0, 0, false, []⟩)] }, fl 3 0x0D 4 [word [(0, 9)]] (.reco ⟨0, false, false, 0, 0, none, 0, 0, 0, false, []⟩), by decide +kernel⟩,
   ⟨3, { recUp 3 with flights := [fl 3 0x0D 4 [word [(0, 9), (32, 2)]] (.reco ⟨0, false, false, 0, 0, none, 0, 0, 0, false, []⟩)] }, fl 3 0x0D 4 [word [(0, 9), (32, 2)]] (.reco ⟨0, false, false, 0, 0, none, 0, 0, 0, false, []⟩), by decide +kernel⟩⟩

theorem test_StooksAndRefills_2 :
    (∃ (id : Nat) (o : Nat) (e : RecEnt) (s : State) (f : Flight), s.MemOk ∧ s.recRuns id 4 = some f ∧ f.reco?.begun = true ∧ f.reco?.carry = true ∧ (recF f.words).source = 0 ∧ (packOffsets 0 (s.fillEnts 0))[f.reco?.idx]? = some (o, e) ∧ ((∀ i, i < e.len → s.deadAt (e.copy f.reco?.set + i) = false)) ∧ s.readsPoison (s.stagingBase + s.stookData + o) e.len = false) ∧
    (∃ (id : Nat) (s : State) (f : Flight), s.recRuns id 4 = some f ∧ f.reco?.begun = true ∧ f.reco?.carry = true ∧ f.reco?.set < 2 ∧ (packOffsets 0 (s.fillEnts (recF f.words).source)).length ≤ f.reco?.idx) ∧
    (∃ (via : Via) (v : Word) (s : State), Lands via s (recReg 0x180) v.toNat) ∧
    (∃ (via : Via) (v : Word) (s : State), Lands via s (recReg 0x180) v.toNat) :=
  ⟨⟨3, 0, ⟨0, 3, 64, tilthBase 1, tilthBase 0⟩, { recUp 3 with flights := [fl 3 0x0D 4 [word [(0, 9)]] (.reco ⟨0, true, true, 1, 0, none, 0, 0, 0, false, []⟩)] }, fl 3 0x0D 4 [word [(0, 9)]] (.reco ⟨0, true, true, 1, 0, none, 0, 0, 0, false, []⟩), by decide +kernel⟩,
   ⟨3, { recUp 3 with flights := [fl 3 0x0D 4 [word [(0, 9)]] (.reco ⟨1, true, true, 1, 0, none, 0, 0, 0, false, []⟩)] }, fl 3 0x0D 4 [word [(0, 9)]] (.reco ⟨1, true, true, 1, 0, none, 0, 0, 0, false, []⟩), by decide +kernel⟩,
   ⟨hv, 5, { up with regs := [(recReg 0x178, 2 ^ 48)] }, by decide +kernel⟩,
   ⟨hv, 5, up, by decide +kernel⟩⟩

theorem test_PowerStatesChange_1 :
    (∃ (via : Via) (s : State), Lands via s (powReg 0x100) (0 <<< 16)) ∧
    (∃ (via : Via) (s : State), Lands via s (powReg 0x100) (0 <<< 16)) ∧
    (∃ (via : Via) (s : State), Lands via s (powReg 0x100) (2 <<< 16)) ∧
    (∃ (via : Via) (s : State), Lands via s (powReg 0x100) (3 <<< 16)) ∧
    (∃ (via : Via) (s : State), Lands via s (powReg 0x100) (4 <<< 16)) ∧
    (∃ (s : State) (g : Nat), s.power.goal = some g ∧ g < 4 ∧ s.steward.warmPending = none) ∧
    (∃ (s : State) (g : Nat), s.power.goal = some g ∧ g < 4 ∧ s.steward.warmPending = none) ∧
    (∃ (s : State) (g : Nat), s.power.goal = some g ∧ g < 4 ∧ s.steward.warmPending = none) :=
  ⟨⟨hv, up, by decide +kernel⟩,
   ⟨.twoWire, { up with power := { up.power with state := 3 } }, by decide +kernel⟩,
   ⟨hv, up, by decide +kernel⟩,
   ⟨hv, up, by decide +kernel⟩,
   ⟨hv, { up with power := { up.power with state := 3 } }, by decide +kernel⟩,
   ⟨{ up with power := { up.power with goal := some 0 } }, 0, by decide +kernel⟩,
   ⟨{ up with power := { up.power with goal := some 2 } }, 2, by decide +kernel⟩,
   ⟨{ up with power := { up.power with goal := some 3 } }, 3, by decide +kernel⟩⟩

theorem test_PowerStatesChange_2 :
    (∃ (s : State), s.power.goal = some 4) ∧
    (∃ (s : State) (u : Nat), s.power.idleSince = some u ∧ s.power.state = 0 ∧ s.power.goal = none ∧ s.power.dies = true ∧ s.steward.ready = true ∧ s.computeBusy = false ∧ almUs (s.rf (powReg 0x108) 15 0) ≤ s.now - u) ∧
    (∃ (m : BitVec 8) (s : State), s.power.state = 3 ∧ s.power.goal = none ∧ 4 ≤ popCount 8 m.toNat) :=
  ⟨⟨{ up with power := { up.power with goal := some 4 } }, by decide +kernel⟩,
   ⟨{ up with power := { up.power with idleSince := some 0 }, alm := { up.alm with acc := BitVec.ofNat 96 (2 ^ 93) } }, 0, by decide +kernel⟩,
   ⟨0xF0, { up with power := { up.power with state := 3 } }, by decide +kernel⟩⟩

theorem test_GovernorAndSensors_1 :
    (∃ (s : State), s.power.dies = true ∧ s.power.state < 4) ∧
    (∃ (d : Fin 9) (k : Fin 8) (c : Int) (s : State), s.power.sensors.length = 72 ∧ s.power.dies = true ∧ -40 ≤ c ∧ c < 120 ∧ ((∀ l, (s.junction d.val k.val).last = some l → c - l ≤ 15 ∧ l - c ≤ 15))) ∧
    (∃ (d : Fin 9) (k : Fin 8) (c : Int) (s : State), s.power.sensors.length = 72 ∧ s.power.dies = true ∧ -40 ≤ c ∧ c < 120 ∧ ((∀ l, (s.junction d.val k.val).last = some l → c - l ≤ 15 ∧ l - c ≤ 15))) ∧
    (∃ (d : Fin 8) (k : Fin 8) (c : Int) (s : State), s.power.sensors.length = 72 ∧ s.power.dies = true ∧ ((c < -40 ∨ 150 < c)) ∧ (s.junction d.val k.val).trips < 2) ∧
    (∃ (d : Fin 8) (k : Fin 8) (c : Int) (s : State), s.power.sensors.length = 72 ∧ s.power.dies = true ∧ ((c < -40 ∨ 150 < c)) ∧ (s.junction d.val k.val).trips < 2) ∧
    (∃ (d : Fin 9) (k : Fin 8) (c : Int) (l : Int) (s : State), s.power.sensors.length = 72 ∧ s.power.dies = true ∧ 120 ≤ c ∧ c ≤ 150 ∧ (s.junction d.val k.val).last = some l ∧ c - l ≤ 15 ∧ l - c ≤ 15 ∧ (s.junction d.val k.val).trips = 1) ∧
    (∃ (s : State), s.power.thermDue = true ∧ s.isHot = true) ∧
    (∃ (s : State), s.power.thermDue = true ∧ s.isHot = false ∧ s.thermalOver.getD (-3) ≤ -3 ∧ s.rf (powReg 0x130) 47 40 < 64) :=
  ⟨⟨up, by decide +kernel⟩,
   ⟨8, 7, -40, up, by decide +kernel⟩,
   ⟨8, 7, 119, { up with power := { up.power with sensors := List.replicate 72 ⟨some 104, 3, true, 1⟩ } }, by decide +kernel⟩,
   ⟨7, 7, 151, up, by decide +kernel⟩,
   ⟨7, 7, -41, up, by decide +kernel⟩,
   ⟨8, 7, 120, 105, { up with power := { up.power with sensors := List.replicate 72 ⟨some 105, 0, false, 1⟩ } }, by decide +kernel⟩,
   ⟨{ up with power := { up.power with thermDue := true, sensors := List.replicate 72 ⟨some 110, 0, false, 0⟩ } }, by decide +kernel⟩,
   ⟨{ { up with power := { up.power with thermDue := true, sensors := List.replicate 72 ⟨some 20, 0, false, 0⟩ } } with regs := [(powReg 0x130, 63 * 2 ^ 40)] }, by decide +kernel⟩⟩

theorem test_GovernorAndSensors_2 :
    (∃ (f : Fin 8) (mv : Nat) (s : State), s.power.droop.length = 8 ∧ s.power.dies = true ∧ s.lost f.val = false ∧ mv + s.rf (droopReg f.val 0x100) 7 0 < s.fieldMv f.val) ∧
    (∃ (f : Fin 8) (ac : Nat) (s : State), (s.droopSt f.val).stretching = true ∧ s.rf (droopReg f.val 0x100) 23 16 ≤ ac) :=
  ⟨⟨7, 0, up, by decide +kernel⟩,
   ⟨7, 4096, { up with power := { up.power with droop := List.replicate 8 ⟨true, 700, false, []⟩ } }, by decide +kernel⟩⟩

theorem test_ArrayFrequencyChanges :
    (∃ (via : Via) (m : BitVec 16) (v : Word) (s : State), Lands via s (powReg 0x120) m.toNat ∧ Lands (nextVia via) (s.writeBy via (powReg 0x120) m.toNat) (powReg 0x128) v.toNat ∧ v.toNat ≠ 0) ∧
    (∃ (via : Via) (s : State), Lands via s (powReg 0x128) 0) ∧
    (∃ (s : State) (u : Nat) (m : Nat), s.power.change = some (u, m) ∧ u ≤ s.now + almUs 80) ∧
    (∃ (f : Fin 8) (s : State) (u : Nat) (m : Nat), s.power.droop.length = 8 ∧ s.power.change = some (u, m) ∧ u ≤ s.now ∧ (s.droopSt f.val).stretching = false ∧ s.lost f.val = false) ∧
    (∃ (f : Fin 8) (s : State) (u : Nat) (m : Nat), s.power.droop.length = 8 ∧ s.power.change = some (u, m) ∧ u ≤ s.now ∧ (s.droopSt f.val).stretching = false ∧ s.lost f.val = false) :=
  ⟨⟨hv, 700, 0x1000000000000, up, by decide +kernel⟩,
   ⟨hv, up, by decide +kernel⟩,
   ⟨{ up with power := { up.power with change := some (0, 725) } }, 0, 725, by decide +kernel⟩,
   ⟨7, { up with power := { up.power with change := some (0, 725) } }, 0, 725, by decide +kernel⟩,
   ⟨7, { up with power := { up.power with change := some (0, 725), droop := List.replicate 8 ⟨false, 725, false, []⟩ } }, 0, 725, by decide +kernel⟩⟩

theorem test_TitheMeters_1 :
    (∃ (s : State), s.tithe.powered = true) ∧
    (∃ (s : State), s.tithe.powered = true) ∧
    (∃ (s : State), s.tithe.powered = true ∧ s.tithe.openAt + 3600000000 ≤ s.tithe.time) ∧
    (∃ (s : State), s.tithe.powered = true ∧ s.tithe.time < s.tithe.openAt + 3600000000) ∧
    (∃ (s : State), s.tithe.powered = true) ∧
    (∃ (s : State), s.tithe.powered = false ∧ s.tithe.lossWritten = true) ∧
    (∃ (s : State) (u : Nat) (o : Nat) (e : Nat) (d : Nat) (p : Nat) (x : Nat) (n : Nat) (k : Nat), s.tithe.powered = false ∧ s.tithe.lossWritten = false ∧ s.tithe.ckpt = [u, o, e, d, p, x, n, k]) ∧
    (∃ (s : State), s.tithe.powered = true) :=
  ⟨⟨up, by decide +kernel⟩,
   ⟨up, by decide +kernel⟩,
   ⟨{ up with tithe := { up.tithe with time := 3600000000 } }, by decide +kernel⟩,
   ⟨{ up with tithe := { up.tithe with time := 3599999999 } }, by decide +kernel⟩,
   ⟨up, by decide +kernel⟩,
   ⟨{ up with tithe := { up.tithe with powered := false, lossWritten := true } }, by decide +kernel⟩,
   ⟨{ up with tithe := { up.tithe with powered := false, ckpt := [1, 2, 3, 4, 5, 6, 7, 8] } }, 1, 2, 3, 4, 5, 6, 7, 8, by decide +kernel⟩,
   ⟨up, by decide +kernel⟩⟩

theorem test_TitheMeters_2 :
    (∃ (s : State), s.tithe.powered = true) ∧
    (∃ (s : State), s.tithe.powered = true ∧ s.power.dies = true ∧ s.tithe.snapWords = [] ∧ s.reg (titheReg 0x148) % 2 = 0) ∧
    (∃ (s : State) (w : Nat × Nat) (rest : List (Nat × Nat)), s.tithe.powered = true ∧ s.power.dies = true ∧ s.tithe.snapWords = w :: rest) ∧
    (∃ (s : State) (w : Nat × Nat) (rest : List (Nat × Nat)), s.tithe.powered = true ∧ s.power.dies = true ∧ s.tithe.snapWords = w :: rest) ∧
    (∃ (s : State) (q : Nat) (b : List Byte) (rest : List (Nat × List Byte)), s.tithe.powered = true ∧ s.power.dies = true ∧ s.tithe.recWords = [] ∧ s.tithe.recQueue = (q, b) :: rest) ∧
    (∃ (s : State) (w : Nat × Nat), s.tithe.powered = true ∧ s.power.dies = true ∧ s.tithe.recWords = [w]) ∧
    (∃ (s : State), s.alm.running = true ∧ bitOf (s.reg (titheReg 0x100)) 1 = false ∧ s.tithe.lastWord + almMs 100 ≤ s.now) :=
  ⟨⟨up, by decide +kernel⟩,
   ⟨up, by decide +kernel⟩,
   ⟨{ up with tithe := { up.tithe with snapWords := [(0xFF8, 5)] } }, (0xFF8, 5), [], by decide +kernel⟩,
   ⟨{ up with tithe := { up.tithe with snapWords := [(0x100, 5), (0x148, 6)] } }, (0x100, 5), [(0x148, 6)], by decide +kernel⟩,
   ⟨{ up with tithe := { up.tithe with recQueue := [(9, [1, 2])] } }, 9, [1, 2], [], by decide +kernel⟩,
   ⟨{ up with tithe := { up.tithe with recWords := [(0x300, 7)] } }, (0x300, 7), by decide +kernel⟩,
   ⟨{ up with alm := { up.alm with acc := BitVec.ofNat 96 (2 ^ 93) } }, by decide +kernel⟩⟩

theorem test_TitheAnswers :
    (∃ (crc : BitVec 16) (s : State), s.uartTakes 1 [] crc.toNat = true) ∧
    (∃ (crc : BitVec 16) (s : State), s.uartTakes 2 [] crc.toNat = true) ∧
    (∃ (args : List Byte) (crc : BitVec 16) (s : State), s.uartTakes 3 args crc.toNat = true ∧ args.length = 8) ∧
    (∃ (args : List Byte) (crc : BitVec 16) (s : State), s.uartTakes 4 args crc.toNat = true ∧ args.length = 8) ∧
    (∃ (args : List Byte) (crc : BitVec 16) (s : State), s.uartTakes 5 args crc.toNat = true ∧ args.length = 16) ∧
    (∃ (args : List Byte) (crc : BitVec 16) (s : State) (e : Nat × Nat × Nat), s.uartTakes 6 args crc.toNat = true ∧ args.length = 1 ∧ leNat args < 64 ∧ s.tithe.tamperLog[leNat args]? = some e) ∧
    (∃ (args : List Byte) (crc : BitVec 16) (s : State), args ≠ [] ∧ s.uartTakes 1 args crc.toNat = true) :=
  ⟨⟨BitVec.ofNat 16 (crc16 0xFFFF (leBytes 1 1 ++ leBytes 2 0 ++ [])), up, by decide +kernel⟩,
   ⟨BitVec.ofNat 16 (crc16 0xFFFF (leBytes 1 2 ++ leBytes 2 0 ++ [])), up, by decide +kernel⟩,
   ⟨[0, 0, 0, 0, 0, 0, 0, 0], BitVec.ofNat 16 (crc16 0xFFFF (leBytes 1 3 ++ leBytes 2 8 ++ [0, 0, 0, 0, 0, 0, 0, 0])), up, by decide +kernel⟩,
   ⟨[1, 1, 1, 1, 1, 1, 1, 1], BitVec.ofNat 16 (crc16 0xFFFF (leBytes 1 4 ++ leBytes 2 8 ++ [1, 1, 1, 1, 1, 1, 1, 1])), up, by decide +kernel⟩,
   ⟨[1, 1, 1, 1, 1, 1, 1, 1, 1, 1, 1, 1, 1, 1, 1, 1], BitVec.ofNat 16 (crc16 0xFFFF (leBytes 1 5 ++ leBytes 2 16 ++ [1, 1, 1, 1, 1, 1, 1, 1, 1, 1, 1, 1, 1, 1, 1, 1])), up, by decide +kernel⟩,
   ⟨[63], BitVec.ofNat 16 (crc16 0xFFFF (leBytes 1 6 ++ leBytes 2 1 ++ [63])), { up with tithe := { up.tithe with tamperLog := List.replicate 64 (1, 2, 3) } }, (1, 2, 3), by decide +kernel⟩,
   ⟨[9], BitVec.ofNat 16 (crc16 0xFFFF (leBytes 1 1 ++ leBytes 2 1 ++ [9])), up, by decide +kernel⟩⟩

theorem test_BringUpProceeds_1 :
    (∃ (p : BitVec 6) (sl : BitVec 8) (b : BitVec 2) (s : State), s.awake = true ∧ s.steward.halted = false ∧ s.steward.strapsTaken = false ∧ s.steward.strapRun = 15 ∧ s.steward.strapLast = (p.toNat, sl.toNat, b.toNat)) ∧
    (∃ (p : BitVec 6) (sl : BitVec 8) (b : BitVec 2) (s : State), s.awake = true ∧ s.steward.halted = false ∧ s.steward.strapsTaken = true ∧ s.steward.strapLast ≠ (p.toNat, sl.toNat, b.toNat)) ∧
    (∃ (s : State), s.BringsUp) ∧
    (∃ (s : State), s.BringsUp) ∧
    (∃ (s : State), s.BringsUp) ∧
    (∃ (s : State), s.BringsUp) ∧
    (∃ (s : State), s.BringsUp) ∧
    (∃ (s : State), s.BringsUp) :=
  ⟨⟨63, 255, 2, { up with steward := { up.steward with strapsTaken := false, strapRun := 15, strapLast := (63, 255, 2) } }, by decide +kernel⟩,
   ⟨63, 255, 2, up, by decide +kernel⟩,
   ⟨bringing 0, by decide +kernel⟩,
   ⟨bringing 1, by decide +kernel⟩,
   ⟨bringing 2, by decide +kernel⟩,
   ⟨bringing 3, by decide +kernel⟩,
   ⟨bringing 4, by decide +kernel⟩,
   ⟨bringing 5, by decide +kernel⟩⟩

theorem test_BringUpProceeds_2 :
    (∃ (s : State), s.BringsUp) ∧
    (∃ (s : State), s.BringsUp) ∧
    (∃ (s : State), s.BringsUp) ∧
    (∃ (s : State), s.BringsUp) ∧
    (∃ (s : State), s.BringsUp) ∧
    (∃ (s : State), s.BringsUp) ∧
    (∃ (s : State), s.BringsUp) ∧
    (∃ (s : State), s.BringsUp) :=
  ⟨⟨bringing 6, by decide +kernel⟩,
   ⟨bringing 7, by decide +kernel⟩,
   ⟨bringing 8, by decide +kernel⟩,
   ⟨bringing 9, by decide +kernel⟩,
   ⟨bringing 10, by decide +kernel⟩,
   ⟨bringing 11, by decide +kernel⟩,
   ⟨{ bringing 1 with steward := { (bringing 1).steward with bootSel := 3 } }, by decide +kernel⟩,
   ⟨bringing 2, by decide +kernel⟩⟩

theorem test_BringUpProceeds_3 :
    (∃ (s : State), s.BringsUp) ∧
    (∃ (s : State), s.BringsUp ∧ 2 ≤ s.steward.stage ∧ s.steward.stage ≠ 6 ∧ ((s.steward.stage = 4 → s.steward.progress ≠ 100))) ∧
    (∃ (s : State), s.BringsUp ∧ s.steward.stage = 6 ∧ s.power.dies = true) :=
  ⟨⟨{ bringing 3 with steward := { (bringing 3).steward with rec0 := ⟨false, 0, 0, none, 0, 0⟩, slotA := slotReset false } }, by decide +kernel⟩,
   ⟨bringing 11, by decide +kernel⟩,
   ⟨bringing 6, by decide +kernel⟩⟩

theorem test_ResetsRun_1 :
    (∃ (via : Via) (s : State), Lands via s (stewReg 0x110) 2) ∧
    (∃ (n : Nat) (s : State), s.steward.vstby = true ∧ 10 ≤ n) ∧
    (∃ (n : Nat), n < 10) ∧
    (∃ (s : State), s.steward.vin = false ∧ s.steward.vstby = true) ∧
    (∃ (s : State), s.steward.vstby = false) ∧
    (∃ (via : Via) (s : State), Lands via s (stewReg 0x110) 1 ∧ s.steward.warm = false ∧ s.steward.ready = true ∧ s.steward.warmPending = none ∧ s.power.state < 2 ∧ s.power.goal = none) ∧
    (∃ (via : Via) (s : State), Lands via s (stewReg 0x110) 4) ∧
    (∃ (s : State), s.steward.warm = true) :=
  ⟨⟨hv, up, by decide +kernel⟩,
   ⟨10, up, by decide +kernel⟩,
   ⟨9, by decide +kernel⟩,
   ⟨{ up with steward := { up.steward with vin := false } }, by decide +kernel⟩,
   ⟨{ up with steward := { up.steward with vstby := false } }, by decide +kernel⟩,
   ⟨hv, up, by decide +kernel⟩,
   ⟨hv, up, by decide +kernel⟩,
   ⟨{ { up with steward := { up.steward with warm := true, fabricOpen := false, stage := 0x20 } } with hitch := { up.hitch with held := [⟨1, 0, 0, 0⟩] } }, by decide +kernel⟩⟩

theorem test_ResetsRun_2 :
    (∃ (s : State), s.steward.warm = true) ∧
    (∃ (s : State), s.steward.warm = true) ∧
    (∃ (s : State), s.steward.warm = true) :=
  ⟨⟨{ { up with steward := { up.steward with warm := true, fabricOpen := false, stage := 0x21 } } with hitch := { up.hitch with held := [⟨1, 0, 0, 0⟩] } }, by decide +kernel⟩,
   ⟨{ { up with steward := { up.steward with warm := true, fabricOpen := false, stage := 0x22 } } with hitch := { up.hitch with held := [⟨1, 0, 0, 0⟩] } }, by decide +kernel⟩,
   ⟨{ { up with steward := { up.steward with warm := true, fabricOpen := false, stage := 0x23 } } with hitch := { up.hitch with held := [⟨1, 0, 0, 0⟩] } }, by decide +kernel⟩⟩

theorem test_UpdatesAndQuotes_1 :
    (∃ (via : Via) (s : State), Lands via s (stewReg 0x138) 1) ∧
    (∃ (s : State) (b : List Byte), s.steward.upd = .staging ∧ s.steward.staging = some (b, 0) ∧ s.awake = true) ∧
    (∃ (s : State) (b : List Byte) (code : Nat), s.steward.upd = .staging ∧ s.steward.staging = some (b, code) ∧ s.awake = true ∧ code ≠ 0) ∧
    (∃ (via : Via) (s : State), Lands via s (stewReg 0x138) 2) ∧
    (∃ (via : Via) (s : State), Lands via s (stewReg 0x138) 3) ∧
    (∃ (via : Via) (s : State), Lands via s (stewReg 0x138) 4) ∧
    (∃ (via : Via) (s : State), Lands via s (stewReg 0x150) 1) ∧
    (∃ (via : Via) (s : State), Lands via s (stewReg 0x150) 2) :=
  ⟨⟨hv, up, by decide +kernel⟩,
   ⟨{ up with steward := { up.steward with upd := .staging, staging := some ([1, 2], 0) } }, [1, 2], by decide +kernel⟩,
   ⟨{ up with steward := { up.steward with upd := .staging, staging := some ([1, 2], 0x0908) } }, [1, 2], 0x0908, by decide +kernel⟩,
   ⟨hv, { up with steward := { up.steward with upd := .staged, stagedSlot := 1 } }, by decide +kernel⟩,
   ⟨hv, { up with steward := { up.steward with bootedTrial := true, booted := 1 } }, by decide +kernel⟩,
   ⟨hv, { up with steward := { up.steward with upd := .staged, stagedSlot := 1 } }, by decide +kernel⟩,
   ⟨hv, { up with regs := [(stewReg 0x148, tilthBase 0)] }, by decide +kernel⟩,
   ⟨hv, { up with regs := [(stewReg 0x160, granaryBase)] }, by decide +kernel⟩⟩

theorem test_UpdatesAndQuotes_2 :
    (∃ (s : State), s.steward.quote = .busy ∧ s.awake = true ∧ s.populated s.quoteAddr 512 = true) ∧
    (∃ (s : State), s.awake = true ∧ 64 ≤ s.journal.pending.length) :=
  ⟨⟨{ up with steward := { up.steward with quote := .busy }, regs := [(stewReg 0x148, tilthBase 0)] }, by decide +kernel⟩,
   ⟨{ up with journal := { up.journal with pending := List.replicate 64 ⟨0, 1, 2, 3, 4, 5, 6⟩, count := 64 } }, by decide +kernel⟩⟩

theorem test_ManagementPortsAnswer_1 :
    (∃ (seq : BitVec 32) (a : BitVec 48) (s : State), s.awake = true ∧ s.steward.mclk = true ∧ s.steward.fabricOpen = true ∧ s.steward.mgmtLast.all (fun m => m.1 != seq.toNat) = true ∧ ((s.drawn.bump (stewReg 0x1A0)).regRead a.toNat).code = 0) ∧
    (∃ (seq : BitVec 32) (last : List Byte) (s : State), s.awake = true ∧ s.steward.mclk = true ∧ s.steward.mgmtLast = some (seq.toNat, last)) ∧
    (∃ (target : BitVec 7) (a : Word) (s : State), s.frameOk target true = true ∧ s.awake = true ∧ s.steward.fabricOpen = true ∧ ((s.drawn.bump (stewReg 0x1A0)).regRead a.toNat).code = 0) ∧
    (∃ (target : BitVec 7) (a : Word) (v : Word) (s : State), s.frameOk target true = true ∧ Lands .twoWire s a.toNat v.toNat ∧ a.toNat / 8 ≠ stewReg 0x110 / 8) ∧
    (∃ (target : BitVec 7) (s : State), s.frameOk target true = true ∧ s.power.state = 4) ∧
    (∃ (a : Word) (v : Word) (s : State), Lands .jtag s a.toNat v.toNat ∧ a.toNat / 8 ≠ stewReg 0x110 / 8) ∧
    (∃ (s : State), s.awake = true) ∧
    (∃ (s : State), s.awake = true ∧ s.steward.scanHold = true) :=
  ⟨⟨5, BitVec.ofNat 48 (hitchReg 0x128), up, by decide +kernel⟩,
   ⟨5, [1], { up with steward := { up.steward with mgmtLast := some (5, [1]) } }, by decide +kernel⟩,
   ⟨0x40, BitVec.ofNat 64 (hitchReg 0x128), up, by decide +kernel⟩,
   ⟨0x40, BitVec.ofNat 64 (regAddr .glean 0 0x020), 1, up, by decide +kernel⟩,
   ⟨0x40, { up with power := { up.power with state := 4 } }, by decide +kernel⟩,
   ⟨BitVec.ofNat 64 (regAddr .glean 0 0x020), 1, up, by decide +kernel⟩,
   ⟨up, by decide +kernel⟩,
   ⟨{ up with steward := { up.steward with scanHold := true } }, by decide +kernel⟩⟩

theorem test_ManagementPortsAnswer_2 :
    (∃ (s : State), s.awake = true ∧ s.steward.scanHold = false) ∧
    (∃ (s : State), s.awake = true) ∧
    (∃ (s : State), s.awake = true) :=
  ⟨⟨up, by decide +kernel⟩,
   ⟨up, by decide +kernel⟩,
   ⟨up, by decide +kernel⟩⟩

theorem test_SuppliesAndClocks :
    (∃ (s : State), s.steward.vin = true) ∧
    (∃ (s : State), s.steward.vin = true ∧ s.awake = true) ∧
    (∃ (s : State), s.steward.vstby = true) ∧
    (∃ (s : State), s.power.dies = true ∧ s.awake = true) ∧
    (∃ (s : State), s.steward.mclk = true ∧ s.awake = true) :=
  ⟨⟨up, by decide +kernel⟩,
   ⟨up, by decide +kernel⟩,
   ⟨up, by decide +kernel⟩,
   ⟨up, by decide +kernel⟩,
   ⟨up, by decide +kernel⟩⟩

theorem test_ComputeStoresStayWithin :
    (∃ s : State, s.Shaped ∧ (decide ((passF (s.wordsOf (3 : Nat) 1 1)).gleanCol + (passF (s.wordsOf (3 : Nat) 1 1)).n ≤ 1024)) = true) ∧
    (∃ s : State, s.Shaped ∧ (s.gleanParse (s.wordsOf (3 : Nat) 2 1) == 0) = true) ∧
    (∃ s : State, s.Shaped ∧ (s.regionFits (3 : Nat) 2) = true) ∧
    (∃ s : State, s.Shaped ∧ (s.regionFits (3 : Nat) 3) = true) ∧
    (∃ s : State, s.Shaped ∧ (s.regionFits (3 : Nat) 6 && (membersOf (gleanF (s.wordsOf (3 : Nat) 2 6))).all (fun f => (List.range 2048).all (fun r => decide (mA (s.gmeta f r) + mN (s.gmeta f r) ≤ 1024)))) = true) ∧
    (∃ s : State, s.Shaped ∧ (s.harrowFits (3 : Nat) 1 (0 : Nat)) = true) ∧
    (∃ s : State, s.Shaped ∧ (s.harrowFits (3 : Nat) 2 (0 : Nat)) = true) ∧
    (∃ s : State, s.Shaped ∧ (s.harrowFits (3 : Nat) 3 (0 : Nat)) = true) ∧
    (∃ s : State, s.Shaped ∧ (s.harrowFits (3 : Nat) 4 (0 : Nat)) = true) ∧
    (∃ s : State, s.Shaped ∧ (s.harrowFits (3 : Nat) 5 (0 : Nat)) = true) :=
  ⟨⟨fly [passFl passIn], by decide +kernel⟩,
   ⟨fly [fl 3 2 1 roWords], by decide +kernel⟩,
   ⟨fly [fl 3 2 2 preWords], by decide +kernel⟩,
   ⟨{ fly [fl 3 2 3 gleanWords] with mem := [(accAddr 7 2047 0, 9#8)] }, by decide +kernel⟩,
   ⟨{ fly [fl 3 2 6 redWords] with mem := [(accAddr 1 2047 0, 9#8)] }, by decide +kernel⟩,
   ⟨harUp (harFx 1 mapWords), by decide +kernel⟩,
   ⟨harUp (harFx 2 rowWords), by decide +kernel⟩,
   ⟨harUp (harFx 3 softWords), by decide +kernel⟩,
   ⟨harUp (harFx 4 normWords), by decide +kernel⟩,
   ⟨harUp (harFx 5 optWords), by decide +kernel⟩⟩

theorem test_SystemStoresStayWithin :
    (∃ s : State, s.Shaped ∧ (s.outputFits (5 : Nat)) = true) ∧
    (∃ s : State, s.Shaped ∧ (s.batchFits (3 : Nat)) = true) ∧
    (∃ s : State, s.Shaped ∧ (s.batchFits (3 : Nat)) = true) ∧
    (∃ s : State, s.Shaped ∧ (s.batchFits (3 : Nat)) = true) ∧
    (∃ s : State, s.Shaped ∧ (s.roiFits (pkt0 : LivePkt).stream.val) = true) ∧
    (∃ s : State, s.Shaped ∧ (s.collFits (s.flightOf (3 : Nat) 6 1)) = true) ∧
    (∃ s : State, s.Shaped ∧ (s.collFits (s.flightOf (3 : Nat) 6 2)) = true) ∧
    (∃ s : State, s.Shaped ∧ (s.collFits (s.flightOf (3 : Nat) 6 3)) = true) ∧
    (∃ s : State, s.Shaped ∧ (s.collFits (s.flightOf (3 : Nat) 6 0x10)) = true) ∧
    (∃ s : State, s.Shaped ∧ (s.collFits (s.flightOf (3 : Nat) 6 0x11)) = true) ∧
    (∃ s : State, s.Shaped ∧ (s.collFits (s.flightOf (3 : Nat) 6 0x12)) = true) ∧
    (∃ s : State, s.Shaped ∧ (s.collFits (s.collFlight (31 : Fin 32).val (5 : Nat))) = true) :=
  ⟨⟨withSamps [] [samp0], by decide +kernel⟩,
   ⟨fly [fl 3 5 3 batchWords (.batch ⟨0, [⟨0, 1, 0, 0, []⟩], 0, 0, 0⟩)], by decide +kernel⟩,
   ⟨{ fly [fl 3 5 3 liveWords (.batch ⟨0, [⟨0, 0, 0, 0, []⟩], 0, 0, 0⟩)] with coulter := { up.coulter with live := List.replicate 8 { live0 with frames := [⟨4, 0, 16, 8⟩] } } }, by decide +kernel⟩,
   ⟨{ fly [fl 3 5 3 liveWords (.batch ⟨0, [⟨0, 0, 0, 0, []⟩], 0, 0, 0⟩)] with alm := { up.alm with acc := BitVec.ofNat 96 (2 ^ 90) } }, by decide +kernel⟩,
   ⟨{ swUp [] with regs := (swUp []).regs ++ [(tpReg 0x4C0, 0xEF000007), (tpReg 0x4E0, 9), (liveReg 7 0, 0x0002002000400801)], coulter := { up.coulter with live := List.replicate 8 { live0 with begun := true, roi := (0, 0, 16, 8), nextSeq := some 9 } } }, by decide +kernel⟩,
   ⟨{ sealedUp 1 2 sumWords with mem := sumCells }, by decide +kernel⟩,
   ⟨{ sealedUp 2 2 sumWords with mem := sumCells }, by decide +kernel⟩,
   ⟨{ sealedUp 3 2 sumWords with mem := sumCells }, by decide +kernel⟩,
   ⟨sealedUp 0x10 2 bcWords, by decide +kernel⟩,
   ⟨sealedUp 0x11 2 agWords, by decide +kernel⟩,
   ⟨sealedUp 0x12 2 agWords, by decide +kernel⟩,
   ⟨sealedUp 0x11 3 agWords, by decide +kernel⟩⟩

/-- The shape that the frames ask for, and a next state, are there. -/
theorem test_Frames : up.Shaped ∧ (∃ t, exec (.fecCodewordUncorrectable) up = .next t) ∧ (∃ t, exec (.granaryRefresh 23 31) up = .next t) ∧
    (∃ t, exec .ptpSyncSend up = .next t) ∧ (∃ t, exec .idleEntry up = .next t) ∧ (∃ t, exec (.pgEventClear hv 1 0) up = .next t) :=
  ⟨by decide +kernel, ⟨_, rfl⟩, ⟨_, rfl⟩, ⟨_, rfl⟩, ⟨_, rfl⟩, ⟨_, rfl⟩⟩

theorem test_StepKeepsShape : up.Shaped ∧ up.MemOk ∧ up.RegsOk ∧ ∃ t, StepsTo ({ up with pending := [.granaryRefresh 23 31] }) t :=
  ⟨by decide +kernel, by decide +kernel, by decide +kernel, _, rfl⟩

theorem test_OnlyTitheCommandsReachTheTithe : Instr.ofTithe (.granaryRefresh 23 31) = false ∧ ∃ t, exec (.granaryRefresh 23 31) up = .next t :=
  ⟨rfl, _, rfl⟩

theorem test_FirstErrorIsKept :
    ∃ s : State, Instr.mayClearErrors (.granaryRefresh 23 31) = false ∧ pageOf (hitchReg 0x040 / 0x1000) = some (.hitch, 0) ∧
      hitchReg 0x040 % 0x1000 = 0x040 ∧ s.rf (hitchReg 0x040) 15 0 ≠ 0 ∧ ∃ t, exec (.granaryRefresh 23 31) s = .next t :=
  ⟨{ up with regs := [(hitchReg 0x040, 0x0501)] }, by decide +kernel, by decide +kernel, by decide +kernel, by decide +kernel, _, rfl⟩

theorem test_RequestsWaitForTheFabric :
    ∃ s : State, s.linkUp = true ∧ (0 : BitVec 12).toNat = s.hitch.rxNext ∧ s.steward.warm = false ∧ s.steward.fabricOpen = false ∧
      flitBad (reqHeader 4 0xFE (2 ^ 48 - 1)) 5 = false ∧ flitBad (reqHeader 1 0 0) 0 = false :=
  ⟨{ up with steward := { up.steward with fabricOpen := false, ready := false, stage := 5 } }, by decide +kernel⟩

theorem test_SealCounterCountsOpenings : up.tithe.powered = true ∧ ∃ t, exec (.titheTamper 0 none) up = .next t :=
  ⟨by decide +kernel, _, rfl⟩

theorem test_JobSeedStandsWhileAFurlongRuns :
    ∃ s : State, hv.Takes s ∧ s.furlong.isSome = true ∧ s.asleep = false ∧ s.journalFullNow = false :=
  ⟨{ up with furlong := some fur0 }, by decide +kernel⟩

theorem test_WarmResetEmptiesQueuesAndPlan : ∃ s : State, s.steward.warm = true ∧ s.steward.stage = 0x21 :=
  ⟨{ up with steward := { up.steward with warm := true, stage := 0x21, fabricOpen := false } }, by decide +kernel⟩

theorem test_IdleAndNoWords : State.reset.pending = [] := by decide

theorem test_QueueUntouchedByCommands : ∃ t, exec (.granaryRefresh 23 31) up = .next t := ⟨_, rfl⟩

/-! ### Well-formedness: an ill-formed command for each check -/

theorem test_illFormed_checkFault : Instr.wellFormed (.passRowAdd 0 (some ⟨[], [], [], [], []⟩)) = false := by decide
theorem test_illFormed_header : Instr.wellFormed (.sampleStart 0 { hdr0 with chroma := 4 }) = false := by decide
theorem test_illFormed_unit : Instr.wellFormed (.decodeSyntaxUnit 0 { unit0 with bits := 0 }) = false := by decide
theorem test_illFormed_token : Instr.wellFormed (.readyToken 0 0 ⟨32768, [], false, false, 0⟩) = false := by decide
theorem test_illFormed_seal : Instr.wellFormed (.sealReceived 0 0 ⟨1, [1], [2], 0, 0, 0⟩) = false := by decide
theorem test_illFormed_resend : Instr.wellFormed (.sealResendRequest 0 0 32768) = false := by decide
theorem test_illFormed_block : Instr.wellFormed (.blockReceived 0 0 { block0 with kind := 3 }) = false := by decide
theorem test_illFormed_report : Instr.wellFormed (.peerReport 0 0 0 40000) = false := by decide
theorem test_illFormed_packet : Instr.wellFormed (.dataReceived ⟨0, true, false, [], .other⟩) = false := by decide
theorem test_illFormed_endpoint : Instr.wellFormed (.ackTimer 65536) = false := by decide
theorem test_illFormed_flit : Instr.wellFormed (.registerWrite 0 7 0) = false := by decide
theorem test_wellFormed : Instr.wellFormed (.blockReceived 31 0 block0) = true := by decide

/-! ### Values from outside the model -/

/-- The check value of this CRC over the nine ASCII digits, as its catalogues give it. -/
theorem test_crc16 : crc16 0xFFFF ((List.range 9).map (fun i => BitVec.ofNat 8 (0x31 + i))) = 0x29B1 := by decide +kernel

/-- The check value of IEEE 802.3's CRC-32 over the nine ASCII digits. -/
theorem test_crc32 : crc32 ((List.range 9).map (fun i => BitVec.ofNat 8 (0x31 + i))) = 0xCBF43926 := by decide +kernel

/-- SHA-512 of "abc": the first eight bytes as FIPS 180-4's example gives them. -/
theorem test_sha512 : (sha512 [0x61, 0x62, 0x63]).take 8 = [0xDD, 0xAF, 0x35, 0xA1, 0x93, 0x61, 0x7A, 0xBA] := by decide +kernel

/-- 1.0 is 0x38 in E4M3, and 0x3C00 in FP16 (R82, R86). -/
theorem test_one : decodeElem .e4m3 0 0x38 = FV.fin false 8 (-3) := by decide +kernel

/-- Memory lists nothing at reset, and that is its canonical form. -/
theorem test_reset_memory_wf : Memory.wf State.reset.mem = true := by decide

end Sys2Proof.Tests
end

section
/-!
Every step keeps memory and the register store canonical (O6).

The two canonical forms are invariants of two fields, so they are followed together by one relation: `KeepsCanon s t` says that
the stores of `t` are canonical where those of `s` are. Few operations touch the two fields at all: `State.setReg`,
`State.putBytes`, the zeroing of a range or a bank, a filter of the registers, and the resets that leave both stores empty. Each of
these has its own argument under "The operations that touch the stores". Every other function of the model builds its answer from such
operations, updates of other fields, choices and folds, so its lemma is the chain of the lemmas of what it calls, in the order and
under the file names of the model. `KeepsCanon.exec` gathers them, one case per command.
-/
namespace Sys2Proof.Machine

/-- Whatever canonical form the stores of `s` have, the stores of `t` have too. -/
structure KeepsCanon (s t : State) : Prop where
  mem : s.MemOk → t.MemOk
  regs : s.RegsOk → t.RegsOk

section
-- Lean waits for every earlier theorem before it fills an argument of `KeepsCanon.same` by `rfl`: elaborated in parallel, these theorems
-- are hundreds of waiting threads with a stack each, and no faster.
set_option Elab.async false
variable {s t u : State}

theorem KeepsCanon.refl (s : State) : KeepsCanon s s := ⟨id, id⟩

/-- An update of other fields. -/
theorem KeepsCanon.same (h : KeepsCanon s t) (hm : u.mem = t.mem := by rfl) (hr : u.regs = t.regs := by rfl) : KeepsCanon s u :=
  ⟨fun hs => by simpa [State.MemOk, hm] using h.mem hs, fun hs => by simpa [State.RegsOk, hr] using h.regs hs⟩

/-! ### How states are put together -/

theorem KeepsCanon.ite {c : Prop} {_ : Decidable c} (ht : KeepsCanon s t) (hu : KeepsCanon s u) : KeepsCanon s (if c then t else u) := by
  split <;> assumption

theorem KeepsCanon.optionElim {α : Type} {o : Option α} {f : α → State} (ht : KeepsCanon s t) (hf : ∀ a, KeepsCanon s (f a)) :
    KeepsCanon s (o.elim t f) := by
  cases o with
  | none => exact ht
  | some a => exact hf a

theorem KeepsCanon.foldl {α : Type} {f : State → α → State} {l : List α} (h : KeepsCanon s t)
    (hf : ∀ u a, KeepsCanon s u → KeepsCanon s (f u a)) : KeepsCanon s (l.foldl f t) :=
  foldl_inv (KeepsCanon s) f l hf h

/-! ### The operations that touch the stores -/

theorem mem_storePut {l : List (Nat × Nat)} {a v : Nat} {x : Nat × Nat} (h : x ∈ storePut l a v) : x = (a, v) ∨ x ∈ l := by
  induction l with
  | nil => simpa [storePut] using h
  | cons y l ih =>
    obtain ⟨b, w⟩ := y
    simp only [storePut] at h
    split at h
    · simpa using h
    · split at h
      · exact (List.mem_cons.1 h).imp_right (List.mem_cons_of_mem _)
      · rcases List.mem_cons.1 h with rfl | h
        · simp
        · exact (ih h).imp_right (List.mem_cons_of_mem _)

theorem storePut_pairwise {l : List (Nat × Nat)} (h : l.Pairwise (fun x y => x.1 < y.1)) (a v : Nat) :
    (storePut l a v).Pairwise (fun x y => x.1 < y.1) := by
  induction l with
  | nil => simp [storePut]
  | cons y l ih =>
    obtain ⟨b, w⟩ := y
    obtain ⟨hb, hl⟩ := List.pairwise_cons.1 h
    simp only [storePut]
    split
    · rename_i hab
      exact List.pairwise_cons.2 ⟨List.forall_mem_cons.2 ⟨hab, fun x hx => lt_trans hab (hb x hx)⟩, h⟩
    · split
      · rename_i hab
        exact List.pairwise_cons.2 ⟨fun x hx => hab ▸ hb x hx, hl⟩
      · refine List.pairwise_cons.2 ⟨fun x hx => ?_, ih hl⟩
        rcases mem_storePut hx with rfl | hx
        · omega
        · exact hb x hx

theorem State.regsOk_filter {p : Nat × Nat → Bool} (h : s.RegsOk) (hr : u.regs = s.regs.filter p) : u.RegsOk := by
  obtain ⟨hlt, hne⟩ := h
  rw [State.RegsOk, hr]
  exact ⟨hlt.filter p, fun r hm => hne r (List.mem_of_mem_filter hm)⟩

theorem State.regsOk_setReg (h : s.RegsOk) (a v : Nat) : (s.setReg a v).RegsOk := by
  by_cases hv : v = resetOf a
  · exact regsOk_filter (p := (·.1 != a)) h (by simp [State.setReg, storeDel, hv])
  · obtain ⟨hlt, hne⟩ := h
    have e : (s.setReg a v).regs = storePut s.regs a v := by simp [State.setReg, hv]
    rw [State.RegsOk, e]
    refine ⟨storePut_pairwise hlt a v, fun r hr => ?_⟩
    rcases mem_storePut hr with rfl | hr
    · exact hv
    · exact hne r hr

theorem KeepsCanon.setReg (h : KeepsCanon s t) {a v} : KeepsCanon s (t.setReg a v) :=
  ⟨h.mem, fun hs => State.regsOk_setReg (h.regs hs) a v⟩

theorem KeepsCanon.putBytes (h : KeepsCanon s t) {a bs} : KeepsCanon s (t.putBytes a bs) :=
  ⟨fun hs => State.memOk_putBytes (h.mem hs) a bs, h.regs⟩

theorem KeepsCanon.zeroRange (h : KeepsCanon s t) {a n} : KeepsCanon s (t.zeroRange a n) :=
  ⟨fun hs => State.memOk_zeroRange (h.mem hs) a n, h.regs⟩

/-- A reset that keeps some registers filters the store. -/
theorem KeepsCanon.filterRegs {p : Nat × Nat → Bool} (h : KeepsCanon s t) (hm : u.mem = t.mem) (hr : u.regs = t.regs.filter p) :
    KeepsCanon s u :=
  ⟨fun hs => State.memOk_of_mem (h.mem hs) hm, fun hs => State.regsOk_filter (h.regs hs) hr⟩

/-- A cold reset leaves both stores empty, whatever they held. -/
theorem KeepsCanon.ofEmpty (hm : u.mem = []) (hr : u.regs = []) : KeepsCanon s u :=
  ⟨fun _ => by simp [State.MemOk, hm, Memory.wf], fun _ => by simp [State.RegsOk, hr]⟩

/-! ### Answers that carry a state -/

theorem KeepsCanon.iteReply {c : Prop} {_ : Decidable c} {a b : Reply} (ha : KeepsCanon s a.st) (hb : KeepsCanon s b.st) :
    KeepsCanon s (if c then a else b).st := by
  split <;> assumption

theorem KeepsCanon.iteFst {c : Prop} {_ : Decidable c} {α : Type} {a b : State × α} (ha : KeepsCanon s a.1) (hb : KeepsCanon s b.1) :
    KeepsCanon s (if c then a else b).1 := by
  split <;> assumption

theorem KeepsCanon.ofSome (h : KeepsCanon s t) : ∀ u ∈ some t, KeepsCanon s u := by
  rintro u ⟨⟩
  exact h

theorem KeepsCanon.getD {o : Option State} (h : KeepsCanon s t) (ho : ∀ u ∈ o, KeepsCanon s u) : KeepsCanon s (o.getD t) := by
  cases o with
  | none => exact h
  | some u => exact ho u rfl

/-! ### Ops -/

theorem KeepsCanon.setRf (h : KeepsCanon s t) {a hi lo v} : KeepsCanon s (t.setRf a hi lo v) := h.setReg

theorem KeepsCanon.bumpBy (h : KeepsCanon s t) {a n} : KeepsCanon s (t.bumpBy a n) := h.setReg

theorem KeepsCanon.bump (h : KeepsCanon s t) {a} : KeepsCanon s (t.bump a) := h.bumpBy

theorem KeepsCanon.drawn (h : KeepsCanon s t) : KeepsCanon s t.drawn := h.same

theorem KeepsCanon.clearPoison (h : KeepsCanon s t) {a n} : KeepsCanon s (t.clearPoison a n) := h.same

theorem KeepsCanon.storeSector (h : KeepsCanon s t) {a bs} : KeepsCanon s (t.storeSector a bs) := by
  unfold State.storeSector
  split
  · exact .ite h.bump h.putBytes.same
  · exact h.putBytes.clearPoison

theorem KeepsCanon.store (h : KeepsCanon s t) {a bs} : KeepsCanon s (t.store a bs) :=
  .ite (h.foldl fun _ _ h' => h'.storeSector) h.putBytes.clearPoison

theorem KeepsCanon.pushRecord (h : KeepsCanon s t) {r} : KeepsCanon s (t.pushRecord r) :=
  .ite h.same (.ite h.bump (.ite h.bump.setReg h.bump.setReg.same))

theorem KeepsCanon.noteSet (h : KeepsCanon s t) {a bit} : KeepsCanon s (t.noteSet a bit) := h.same

theorem KeepsCanon.raise (h : KeepsCanon s t) {k i bit info workId} : KeepsCanon s (t.raise k i bit info workId) :=
  .ite h.noteSet (.ite h.noteSet.setReg h.noteSet.setReg.pushRecord)

theorem KeepsCanon.capture (h : KeepsCanon s t) {k i code info0 info1} : KeepsCanon s (t.capture k i code info0 info1) :=
  .ite h.setReg.setReg.setReg.setReg h

theorem KeepsCanon.raiseErr (h : KeepsCanon s t) {k i bit code workId info0 info1} :
    KeepsCanon s (t.raiseErr k i bit code workId info0 info1) :=
  h.raise.capture

theorem KeepsCanon.journalAdd (h : KeepsCanon s t) {addr src kind old new} : KeepsCanon s (t.journalAdd addr src kind old new) :=
  h.same

theorem KeepsCanon.journalFlushN (h : KeepsCanon s t) {n} : KeepsCanon s (t.journalFlushN n) := h.same

theorem KeepsCanon.logAdd (h : KeepsCanon s t) {code info} : KeepsCanon s (t.logAdd code info) := h.same

theorem KeepsCanon.sendNumbered (h : KeepsCanon s t) {f} : KeepsCanon s (t.sendNumbered f) := .ite h.same h.same

theorem KeepsCanon.pumpTx (h : KeepsCanon s t) {n} : KeepsCanon s (State.pumpTx n t) := by
  induction n generalizing t with
  | zero => exact h
  | succ n ih =>
    unfold State.pumpTx
    split
    · exact h
    · exact .ite (ih h.same) h

theorem KeepsCanon.respond (h : KeepsCanon s t) {tag addr status payload} : KeepsCanon s (t.respond tag addr status payload) :=
  h.sendNumbered

theorem KeepsCanon.setFlag (h : KeepsCanon s t) {domain n} : KeepsCanon s (t.setFlag domain n) := h.same

theorem KeepsCanon.clearFlag (h : KeepsCanon s t) {domain n} : KeepsCanon s (t.clearFlag domain n) := .ite h.same h.same

/-! ### Hitch -/

theorem KeepsCanon.sendLinkCtrl (h : KeepsCanon s t) : KeepsCanon s t.sendLinkCtrl := .ite h.same h

theorem KeepsCanon.resend (h : KeepsCanon s t) {fs} : KeepsCanon s (t.resend fs) := h.same.bumpBy

theorem KeepsCanon.linkError (h : KeepsCanon s t) {bit code} : KeepsCanon s (t.linkError bit code) := h.same.raiseErr

theorem KeepsCanon.linkComesUp (h : KeepsCanon s t) {lanes version} : KeepsCanon s (t.linkComesUp lanes version) := by
  unfold State.linkComesUp
  extract_lets _ _ _ _ s2
  have hs2 : KeepsCanon s s2 := .ite h.same.linkError h.same
  exact KeepsCanon.pumpTx (.ite hs2.resend.linkError hs2)

theorem KeepsCanon.trainStep (h : KeepsCanon s t) {lanesOk} : KeepsCanon s (t.trainStep lanesOk) := by
  unfold State.trainStep
  extract_lets
  split
  · exact .ite h.same h
  · exact .ite h.same h
  · exact .ite h.same.sendLinkCtrl h
  · exact .ite h.same.sendLinkCtrl h
  · exact .ite h.same.sendLinkCtrl h
  · split
    · exact .ite h.same.sendLinkCtrl h.linkComesUp.sendLinkCtrl
    · exact h
  · exact h

theorem KeepsCanon.trainTimeout (h : KeepsCanon s t) : KeepsCanon s t.trainTimeout := by
  unfold State.trainTimeout
  refine .ite h ?_
  split
  · exact h
  · exact h
  · exact h
  · exact .ite h.same h.same

theorem KeepsCanon.retrainHitch (h : KeepsCanon s t) {keepBuffers} : KeepsCanon s (t.retrainHitch keepBuffers) := h.same

theorem KeepsCanon.discardFlit (h : KeepsCanon s t) : KeepsCanon s t.discardFlit := h.bump

theorem KeepsCanon.linkCtrlApply (h : KeepsCanon s t) {p} : KeepsCanon s (t.linkCtrlApply p) := by
  unfold State.linkCtrlApply
  extract_lets _ _ s1 s2 _ s3
  have hs1 : KeepsCanon s s1 := .ite (.ite h.same.pumpTx h.same) h
  have hs2 : KeepsCanon s s2 := .ite hs1.resend hs1
  have hs3 : KeepsCanon s s3 := .ite hs2.same hs2
  exact .ite hs3.same hs3

theorem KeepsCanon.linkCtrlReceived (h : KeepsCanon s t) {header payload} : KeepsCanon s (t.linkCtrlReceived header payload) :=
  .ite h (.ite h.discardFlit h.linkCtrlApply)

theorem KeepsCanon.fecLost (h : KeepsCanon s t) : KeepsCanon s t.fecLost := .ite h.same.sendLinkCtrl h

theorem KeepsCanon.requeueOverflow (h : KeepsCanon s t) : KeepsCanon s t.requeueOverflow := h.same

theorem KeepsCanon.sendEvents (h : KeepsCanon s t) {n} : KeepsCanon s (t.sendEvents n) :=
  .ite h.sendNumbered.same.requeueOverflow h

theorem KeepsCanon.pauseJob (h : KeepsCanon s t) {j} : KeepsCanon s (t.pauseJob j) := .ite h.same h

theorem KeepsCanon.resumeJob (h : KeepsCanon s t) : KeepsCanon s t.resumeJob := h.same

/-! ### Window -/

theorem KeepsCanon.setFlight (h : KeepsCanon s t) {f} : KeepsCanon s (t.setFlight f) := h.same

theorem KeepsCanon.setWin (h : KeepsCanon s t) {w x} : KeepsCanon s (t.setWin w x) := h.same

theorem KeepsCanon.cmdPort (h : KeepsCanon s t) {w data} : KeepsCanon s (t.cmdPort w data).st :=
  .iteReply h <| .iteReply h <| .iteReply h <| .iteReply h.setWin.raise h.setWin

theorem KeepsCanon.refuseDesc (h : KeepsCanon s t) {w d code} : KeepsCanon s (t.refuseDesc w d code) :=
  .ite h.bump.raise.setWin h.bump.raise

theorem KeepsCanon.loseFraming (h : KeepsCanon s t) {w d code} : KeepsCanon s (t.loseFraming w d code) :=
  h.bump.raise.setWin.raise

theorem KeepsCanon.resetWindow (h : KeepsCanon s t) {w} : KeepsCanon s (t.resetWindow w) := h.setWin

theorem KeepsCanon.complete (h : KeepsCanon s t) {id info} : KeepsCanon s (t.complete id info) := by
  unfold State.complete
  split
  · exact h
  · extract_lets _ _ s2 _ s4
    have hs2 : KeepsCanon s s2 := .ite h.same.setFlag h.same
    have hs4 : KeepsCanon s s4 := .ite hs2.setRf.raise hs2.setRf
    split
    · exact hs4.same
    · exact hs4

theorem KeepsCanon.refuseInstance (h : KeepsCanon s t) {step pre phase tmpl code} :
    KeepsCanon s (t.refuseInstance step pre phase tmpl code) :=
  h.same

theorem KeepsCanon.refuseFlight (h : KeepsCanon s t) {id code} : KeepsCanon s (t.refuseFlight id code) := by
  unfold State.refuseFlight
  split
  · exact h
  · extract_lets
    split
    · exact h.same.refuseDesc
    · exact h.same.same.refuseInstance

/-! ### Flags -/

theorem KeepsCanon.report (h : KeepsCanon s t) {f tag step pre t'} : KeepsCanon s (t.report f tag step pre t') :=
  .ite h (.ite (.ite h.putBytes h) (.ite (.ite h.bump.same h.bump) (.ite h.putBytes h)))

theorem KeepsCanon.reportFlight (h : KeepsCanon s t) {f fl t'} : KeepsCanon s (t.reportFlight f fl t') := h.report

/-! ### GleanBank -/

theorem KeepsCanon.setGmeta (h : KeepsCanon s t) {f r m} : KeepsCanon s (t.setGmeta f r m) := h.same

theorem KeepsCanon.setAcc (h : KeepsCanon s t) {f r c v} : KeepsCanon s (t.setAcc f r c v) := h.putBytes

theorem KeepsCanon.zeroRow (h : KeepsCanon s t) {f r} : KeepsCanon s (t.zeroRow f r) := h.zeroRange

theorem KeepsCanon.setPend (h : KeepsCanon s t) {f r c q} : KeepsCanon s (t.setPend f r c q) := h.setAcc.setAcc

theorem KeepsCanon.setAccs (h : KeepsCanon s t) {f r c vs} : KeepsCanon s (t.setAccs f r c vs) := by
  induction vs generalizing t c with
  | nil => exact h
  | cons v vs ih =>
    unfold State.setAccs
    exact ih h.setAcc

theorem KeepsCanon.toL96Row (h : KeepsCanon s t) {f r} : KeepsCanon s (t.toL96Row f r) := .ite h.zeroRow.setGmeta h

theorem KeepsCanon.rowInit (h : KeepsCanon s t) {f r col e vals} : KeepsCanon s (t.rowInit f r col e vals) :=
  h.toL96Row.setGmeta.setAccs

theorem KeepsCanon.rowAdd (h : KeepsCanon s t) {f r col vals} : KeepsCanon s (t.rowAdd f r col vals) := h.setAccs

theorem KeepsCanon.leafCols (h : KeepsCanon s t) {f r leaf leaves fill c vs} :
    KeepsCanon s (t.leafCols f r leaf leaves fill c vs) := by
  induction vs generalizing t c with
  | nil => exact h
  | cons v vs ih =>
    unfold State.leafCols
    exact ih h.setPend

theorem KeepsCanon.rowLeaf (h : KeepsCanon s t) {f r col leaf leaves init vals} :
    KeepsCanon s (t.rowLeaf f r col leaf leaves init vals) :=
  .ite h.zeroRow.setGmeta.leafCols h.leafCols.setGmeta

theorem KeepsCanon.resetGlean (h : KeepsCanon s t) {f} : KeepsCanon s (t.resetGlean f) := h.zeroRange.same

/-! ### Furrow -/

theorem KeepsCanon.setArray (h : KeepsCanon s t) {f a} : KeepsCanon s (t.setArray f a) := h.same

theorem KeepsCanon.giveUpLoads (h : KeepsCanon s t) {helper p} : KeepsCanon s (t.giveUpLoads helper p) := h.same

theorem KeepsCanon.takePass (h : KeepsCanon s t) {id} : KeepsCanon s (t.takePass id) := by
  unfold State.takePass
  split
  · exact h
  · exact .ite h (.ite h.setFlight (.ite h.setFlight.setArray h.setFlight.setArray.giveUpLoads))

theorem KeepsCanon.loadStart (h : KeepsCanon s t) {id} : KeepsCanon s (t.loadStart id) := by
  unfold State.loadStart
  split
  · exact h
  · split
    · exact h
    · exact .ite h.setFlight h

theorem KeepsCanon.swapPass (h : KeepsCanon s t) {id stalls} : KeepsCanon s (t.swapPass id stalls) := by
  unfold State.swapPass
  split
  · exact h
  · split
    · exact h
    · exact .ite h.setFlight.setArray.bumpBy h

theorem KeepsCanon.enterRow (h : KeepsCanon s t) {id stalls} : KeepsCanon s (t.enterRow id stalls) := by
  unfold State.enterRow
  split
  · exact h
  · split
    · exact h
    · extract_lets
      split
      · exact .ite h.setFlight.setArray.bumpBy.bumpBy.bumpBy h
      · exact .ite h.setFlight h

theorem KeepsCanon.applyRow (h : KeepsCanon s t) {p row vals} : KeepsCanon s (t.applyRow p row vals).1 :=
  .iteFst (.iteFst h.rowLeaf h) (.iteFst h.rowInit (.iteFst h.rowAdd h))

theorem KeepsCanon.loadDone (h : KeepsCanon s t) {id} : KeepsCanon s (t.loadDone id) := by
  unfold State.loadDone
  split
  · exact h
  · split
    · exact h
    · exact .ite h (.ite h.setFlight h.setFlight)

theorem KeepsCanon.addRow (h : KeepsCanon s t) {id mismatch} : KeepsCanon s (t.addRow id mismatch) := by
  unfold State.addRow
  split
  · exact h
  · split
    · exact h
    · extract_lets p a
      split
      · refine .ite h ?_
        extract_lets rc sums ap q1 s1 s2 s3
        clear_value rc
        split
        · exact h.setArray.bumpBy
        · have hs1 : KeepsCanon s s1 := h.applyRow.setFlight
          have hs2 : KeepsCanon s s2 := .ite hs1.bump.bump hs1
          have hs3 : KeepsCanon s s3 := .ite hs2.bump hs2
          exact .ite hs3.reportFlight hs3
      · exact h

theorem KeepsCanon.completePass (h : KeepsCanon s t) {id} : KeepsCanon s (t.completePass id) := by
  unfold State.completePass
  split
  · exact h
  · split
    · exact .ite h (KeepsCanon.complete (.ite h h.setArray))
    · exact .ite (.ite h.complete h) (.ite (.ite h.complete (.ite h.complete (.ite h.complete h))) h)

theorem KeepsCanon.failArray (h : KeepsCanon s t) {f x} : KeepsCanon s (t.failArray f x) := .ite h h.same.raiseErr

theorem KeepsCanon.forceArray (h : KeepsCanon s t) {f} : KeepsCanon s (t.forceArray f) := h.failArray

theorem KeepsCanon.reissueArray (h : KeepsCanon s t) {f} : KeepsCanon s (t.reissueArray f) := by
  unfold State.reissueArray
  refine .ite h ?_
  split
  · split
    · exact h.setArray.raiseErr
    · exact h
  · exact (h.same.foldl fun _ _ h' => h'.giveUpLoads).raise

theorem KeepsCanon.resetArrayBlock (h : KeepsCanon s t) {f} : KeepsCanon s (t.resetArrayBlock f) := h.setArray

/-! ### Glean -/

theorem KeepsCanon.setGlean (h : KeepsCanon s t) {f g} : KeepsCanon s (t.setGlean f g) := h.setFlight

theorem KeepsCanon.readoutRow (h : KeepsCanon s t) {id} : KeepsCanon s (t.readoutRow id) := by
  unfold State.readoutRow
  split
  · exact h
  · refine .ite h ?_
    refine .ite h.setGlean ?_
    split
    · exact h
    · extract_lets _ _ _ _ _ _ _ s2
      have hs2 : KeepsCanon s s2 := .ite h.store.store h.store
      exact (KeepsCanon.reportFlight (.ite hs2 hs2.store)).bumpBy.same.setGlean

theorem KeepsCanon.preloadRow (h : KeepsCanon s t) {id} : KeepsCanon s (t.preloadRow id) := by
  unfold State.preloadRow
  split
  · exact h
  · exact .ite h h.rowInit.reportFlight.bumpBy.setGlean

theorem KeepsCanon.clearRow (h : KeepsCanon s t) {id} : KeepsCanon s (t.clearRow id) := by
  unfold State.clearRow
  split
  · exact h
  · exact .ite h h.rowInit.bumpBy.setGlean

theorem KeepsCanon.saveRow (h : KeepsCanon s t) {id} : KeepsCanon s (t.saveRow id) := by
  unfold State.saveRow
  split
  · exact h
  · exact .ite h h.store.store.bumpBy.setGlean

theorem KeepsCanon.loadRow (h : KeepsCanon s t) {id} : KeepsCanon s (t.loadRow id) := by
  unfold State.loadRow
  split
  · exact h
  · exact .ite h (.ite h.setGlean (.ite h.refuseFlight (.ite h.setGlean h.putBytes.setGmeta.bumpBy.setGlean)))

theorem KeepsCanon.treeBytes (h : KeepsCanon s t) {g n} : KeepsCanon s (t.treeBytes g n) := by
  unfold State.treeBytes
  extract_lets _ _ s1 s2
  have hs1 : KeepsCanon s s1 := h.foldl fun _ _ h' => .ite h'.bumpBy.bumpBy h'
  have hs2 : KeepsCanon s s2 := .ite hs1.bumpBy hs1
  exact .ite (KeepsCanon.foldl (.ite hs2.bumpBy hs2) fun _ _ h' => h'.bumpBy) hs1

theorem KeepsCanon.reduceInto (h : KeepsCanon s t) {s0 : State} {g root row} : KeepsCanon s (s0.reduceInto t g root row) :=
  .ite h.zeroRow.setGmeta.setAccs h.toL96Row.setGmeta.setAccs

theorem KeepsCanon.reduceRow (h : KeepsCanon s t) {id} : KeepsCanon s (t.reduceRow id) := by
  unfold State.reduceRow
  split
  · exact h
  · refine .ite h <| .ite h.refuseFlight <| .ite h.refuseFlight ?_
    exact ((h.foldl fun _ _ h' => h'.reduceInto.bumpBy).foldl fun _ _ h' => h'.bumpBy).treeBytes.setGlean

theorem KeepsCanon.completeGlean (h : KeepsCanon s t) {id} : KeepsCanon s (t.completeGlean id) := by
  unfold State.completeGlean
  split
  · exact h
  · exact .ite h (.ite h.complete (.ite h (.ite h.complete (.ite h.complete h))))

theorem KeepsCanon.gleanEcc (h : KeepsCanon s t) {f row col access workId corrected} :
    KeepsCanon s (t.gleanEcc f row col access workId corrected) :=
  .ite h (.ite h.bump h.setGmeta.bump.raiseErr)

/-! ### Harrow -/

theorem KeepsCanon.setEngine (h : KeepsCanon s t) {e x} : KeepsCanon s (t.setEngine e x) := h.same

theorem KeepsCanon.dealUnit (h : KeepsCanon s t) {e thread starved} : KeepsCanon s (t.dealUnit e thread starved) := by
  unfold State.dealUnit
  extract_lets
  split
  · exact h
  · refine .ite h ?_
    extract_lets
    split
    · exact h.bumpBy.setFlight
    · exact .ite h.bumpBy.setFlight h.bumpBy.setFlight

theorem KeepsCanon.unitStored (h : KeepsCanon s t) {f u} : KeepsCanon s (t.unitStored f u) := h.setFlight

theorem KeepsCanon.storeRun (h : KeepsCanon s t) {f base len c0 cv} : KeepsCanon s (t.storeRun f base len c0 cv) :=
  .ite h.store.store h.store

theorem KeepsCanon.storeElems (h : KeepsCanon s t) {fl slot base len c0 idx vs} :
    KeepsCanon s (t.storeElems fl slot base len c0 idx vs) :=
  h.storeRun.report

theorem KeepsCanon.storePerRow (h : KeepsCanon s t) {fl slot r idx v} : KeepsCanon s (t.storePerRow fl slot r idx v) :=
  KeepsCanon.report (.ite h.store h.store)

theorem KeepsCanon.storeStats (h : KeepsCanon s t) {fl r a b} : KeepsCanon s (t.storeStats fl r a b) := .ite h h.store

theorem KeepsCanon.countHarrow (h : KeepsCanon s t) {e elems cycles} : KeepsCanon s (t.countHarrow e elems cycles) :=
  h.bumpBy.bumpBy

theorem KeepsCanon.countGleanRead (h : KeepsCanon s t) {d rows n} : KeepsCanon s (t.countGleanRead d rows n) := h.bumpBy

theorem KeepsCanon.mapChunk (h : KeepsCanon s t) {id u} : KeepsCanon s (t.mapChunk id u) := by
  unfold State.mapChunk
  split
  · exact h
  · split
    · exact h
    · exact (KeepsCanon.countHarrow (.ite h.storeElems.store h.storeElems)).countGleanRead.unitStored

theorem KeepsCanon.rowReduceUnit (h : KeepsCanon s t) {id u} : KeepsCanon s (t.rowReduceUnit id u) := by
  unfold State.rowReduceUnit
  split
  · exact h
  · split
    · exact h
    · exact h.storePerRow.countHarrow.countGleanRead.unitStored

theorem KeepsCanon.softmaxUnit (h : KeepsCanon s t) {id u} : KeepsCanon s (t.softmaxUnit id u) := by
  unfold State.softmaxUnit
  split
  · exact h
  · split
    · exact h
    · exact h.storeElems.storeStats.countHarrow.countGleanRead.unitStored

theorem KeepsCanon.normUnit (h : KeepsCanon s t) {id u} : KeepsCanon s (t.normUnit id u) := by
  unfold State.normUnit
  split
  · exact h
  · split
    · exact h
    · exact h.storeElems.storeStats.countHarrow.countGleanRead.unitStored

theorem KeepsCanon.optimUnit (h : KeepsCanon s t) {id u} : KeepsCanon s (t.optimUnit id u) := by
  unfold State.optimUnit
  split
  · exact h
  · split
    · exact h
    · extract_lets _ _ _ _ _ _ _ _ _ _ _ s1 _ _ _ s4
      have hs1 : KeepsCanon s s1 := (h.foldl fun _ _ h' => h'.storeElems).foldl fun _ _ h' => h'.storeElems
      have hs4 : KeepsCanon s s4 := by
        unfold s4
        refine KeepsCanon.foldl ?_ fun _ _ h' => h'.storeElems
        exact KeepsCanon.foldl (.ite (hs1.foldl fun _ _ h' => h'.storeElems) hs1) fun _ _ h' => h'.storeElems
      exact hs4.countHarrow.countGleanRead.unitStored

theorem KeepsCanon.unitComplete (h : KeepsCanon s t) {id u} : KeepsCanon s (t.unitComplete id u) := by
  unfold State.unitComplete
  split
  · exact h
  · refine .ite h ?_
    extract_lets
    split
    · exact .ite h.setFlight.bump.complete h.setFlight.bump
    · exact .ite h.complete h

theorem KeepsCanon.rehomeEngine (h : KeepsCanon s t) {e} : KeepsCanon s (t.rehomeEngine e) := by
  unfold State.rehomeEngine
  refine .ite h ?_
  split
  · exact h.setEngine.raise
  · split
    · exact h.setEngine.raiseErr
    · exact h

theorem KeepsCanon.failEngine (h : KeepsCanon s t) {e code workId info0 info1} :
    KeepsCanon s (t.failEngine e code workId info0 info1) :=
  .ite h (h.same.raiseErr.foldl fun _ _ h' => h'.rehomeEngine)

theorem KeepsCanon.engineCheck (h : KeepsCanon s t) {e thread check} : KeepsCanon s (t.engineCheck e thread check) := by
  refine .ite h <| .ite h.bump ?_
  dsimp only
  split
  · exact h.bump.failEngine
  · exact h.bump.failEngine

theorem KeepsCanon.forceEngine (h : KeepsCanon s t) {e} : KeepsCanon s (t.forceEngine e) := h.failEngine

/-! ### Winnow -/

theorem KeepsCanon.putTag (h : KeepsCanon s t) {tag e} : KeepsCanon s (t.putTag tag e) := h.foldl fun _ _ h' => h'.store

theorem KeepsCanon.emptyArea (h : KeepsCanon s t) {area} : KeepsCanon s (t.emptyArea area) :=
  h.foldl fun _ _ h' => h'.foldl fun _ _ h2 => h2.store

theorem KeepsCanon.openStep (h : KeepsCanon s t) {step} : KeepsCanon s (t.openStep step) := .ite h h.emptyArea.same

theorem KeepsCanon.emptyProbes (h : KeepsCanon s t) : KeepsCanon s t.emptyProbes :=
  h.foldl fun _ _ h' => h'.foldl fun _ _ h2 => h2.store

theorem KeepsCanon.putProbeMaxima (h : KeepsCanon s t) {ms} : KeepsCanon s (t.putProbeMaxima ms) :=
  h.foldl fun _ _ h' => h'.foldl fun _ _ h2 => h2.store

theorem KeepsCanon.closeTag {acc : CloseSum} (h : KeepsCanon s acc.st) {step skip verdict tag} :
    KeepsCanon s (Machine.closeTag step skip verdict acc tag).st := by
  unfold Machine.closeTag
  extract_lets t0 _ _ _ _ _ _ _ _ _ _ _ _ _ _ s0 s1 s2 s3 s4
  have ht : KeepsCanon s t0 := h
  split
  · exact ht.raiseErr
  · split
    · exact ht
    · have hs0 : KeepsCanon s s0 := ht.putTag
      have hs1 : KeepsCanon s s1 := .ite (hs0.foldl fun _ _ h' => h'.store) hs0
      have hs2 : KeepsCanon s s2 := .ite hs1.raise hs1
      have hs3 : KeepsCanon s s3 := .ite (hs2.foldl fun _ _ h' => h'.bump) hs2
      exact .ite hs3.raiseErr hs3

theorem KeepsCanon.closeTags {tags : List Nat} {acc : CloseSum} (h : KeepsCanon s acc.st) {step skip verdict} :
    KeepsCanon s (tags.foldl (Machine.closeTag step skip verdict) acc).st := by
  induction tags generalizing acc with
  | nil => exact h
  | cons tag tags ih =>
    rw [List.foldl_cons]
    exact ih h.closeTag

theorem KeepsCanon.decayOffsets (h : KeepsCanon s t) : KeepsCanon s t.decayOffsets :=
  h.foldl fun _ _ h' => .ite h' h'.putTag

theorem KeepsCanon.withWinnow (h : KeepsCanon s t) {w} : KeepsCanon s { t with winnow := w } := h.same

theorem KeepsCanon.closeStep (h : KeepsCanon s t) {step} : KeepsCanon s (t.closeStep step) := by
  unfold State.closeStep
  extract_lets s0 r verdict skip pre cs s1 n due s2 flagging s3 _ s4 s5 s6
  have hs1 : KeepsCanon s s1 := KeepsCanon.closeTags (.ite h.openStep h)
  have hs3 : KeepsCanon s s3 := KeepsCanon.store (.ite hs1.decayOffsets hs1)
  have hs4 : KeepsCanon s s4 := hs3.withWinnow
  have hs5 : KeepsCanon s s5 := .ite hs4.raiseErr hs4
  have hs6 : KeepsCanon s s6 := .ite hs5.raiseErr hs5
  refine hs6.foldl fun _ _ h' => ?_
  exact .ite (KeepsCanon.bump (.ite h'.bump.bump h'.bump)) (.ite h'.bump.bump h'.bump)

theorem KeepsCanon.runCloseStep (h : KeepsCanon s t) {id} : KeepsCanon s (t.runCloseStep id) := by
  unfold State.runCloseStep
  split
  · exact h
  · exact .ite h (.ite h.refuseFlight (.ite h (.ite h.complete h.closeStep.complete)))

theorem KeepsCanon.runSetTags (h : KeepsCanon s t) {id} : KeepsCanon s (t.runSetTags id) := by
  unfold State.runSetTags
  split
  · exact h
  · exact .ite h (.ite h.complete (.ite h.refuseFlight ((h.foldl fun _ _ h' => h'.putTag).complete)))

theorem KeepsCanon.runSaveState (h : KeepsCanon s t) {id} : KeepsCanon s (t.runSaveState id) := by
  unfold State.runSaveState
  split
  · exact h
  · exact .ite h (.ite h.complete (.ite h.complete h.store.complete))

theorem KeepsCanon.runLoadState (h : KeepsCanon s t) {id} : KeepsCanon s (t.runLoadState id) := by
  unfold State.runLoadState
  split
  · exact h
  · refine .ite h <| .ite h.refuseFlight <| .ite h.complete <| .ite h.complete <| .ite h.refuseFlight ?_
    exact .ite h.refuseFlight ((h.foldl fun _ _ h' => h'.putTag).same.complete)

theorem KeepsCanon.runProbe (h : KeepsCanon s t) {id} : KeepsCanon s (t.runProbe id) := by
  unfold State.runProbe
  split
  · exact h
  · exact .ite h ((h.foldl fun _ _ h' => .ite h'.putTag h').complete)

theorem KeepsCanon.enableWinnow (h : KeepsCanon s t) : KeepsCanon s t.enableWinnow :=
  (h.foldl fun _ _ h' => h'.zeroRange).emptyArea.emptyArea.emptyProbes.same

theorem KeepsCanon.maskTag (h : KeepsCanon s t) {v} : KeepsCanon s (t.maskTag v) := h.same

theorem KeepsCanon.dropSteps (h : KeepsCanon s t) : KeepsCanon s t.dropSteps := h.same

/-! ### Tilth -/

theorem KeepsCanon.zeroBank (h : KeepsCanon s t) {f b} : KeepsCanon s (t.zeroBank f b) :=
  ⟨fun hs => State.memOk_zeroBank (h.mem hs) f b, h.regs⟩

theorem KeepsCanon.bankWrite (h : KeepsCanon s t) {f set v} : KeepsCanon s (t.bankWrite f set v) := h.setReg.same

theorem KeepsCanon.bankDone (h : KeepsCanon s t) {f b} : KeepsCanon s (t.bankDone f b) := by
  unfold State.bankDone
  split
  · exact h
  · exact .ite h.same.zeroBank h.same

theorem KeepsCanon.tilthEcc (h : KeepsCanon s t) {a requester workId} : KeepsCanon s (t.tilthEcc a requester workId) := by
  unfold State.tilthEcc
  split
  · exact .ite h h.same.bump.raiseErr
  · exact h

theorem KeepsCanon.tilthWriteback (h : KeepsCanon s t) {a} : KeepsCanon s (t.tilthWriteback a) := by
  unfold State.tilthWriteback
  split
  · exact .ite h.bump h
  · exact h

theorem KeepsCanon.setPlot (h : KeepsCanon s t) {f p} : KeepsCanon s (t.setPlot f p) := h.same

theorem KeepsCanon.plotStart (h : KeepsCanon s t) {f b} : KeepsCanon s (t.plotStart f b) := by
  unfold State.plotStart
  refine .ite h ?_
  split
  · exact .ite h h.setPlot
  · exact .ite h.setPlot h

theorem KeepsCanon.plotSlots (h : KeepsCanon s t) {f slots} : KeepsCanon s (t.plotSlots f slots) :=
  .ite h.setPlot.setPlot.bump h.setPlot

theorem KeepsCanon.plotNext (h : KeepsCanon s t) {f b} : KeepsCanon s (t.plotNext f b) := h.plotSlots

theorem KeepsCanon.plotLeave (h : KeepsCanon s t) {f b} : KeepsCanon s (t.plotLeave f b) := .ite h.plotSlots h

theorem KeepsCanon.plotEnd (h : KeepsCanon s t) {f b passed flashOk} : KeepsCanon s (t.plotEnd f b passed flashOk) := by
  unfold State.plotEnd
  extract_lets
  split
  · exact h
  · refine .ite h.bump.plotNext ?_
    extract_lets s2 s3 s4
    have hs2 : KeepsCanon s s2 := h.bump.bump.setPlot
    have hs3 : KeepsCanon s s3 := hs2.raise.raiseErr
    have hs4 : KeepsCanon s s4 := .ite hs3.raiseErr hs3
    exact KeepsCanon.plotNext (.ite hs4 hs4.raiseErr)

theorem KeepsCanon.plotSteal (h : KeepsCanon s t) {f b} : KeepsCanon s (t.plotSteal f b) := .ite h.bump h

theorem KeepsCanon.plotRestore (h : KeepsCanon s t) {f banks} : KeepsCanon s (t.plotRestore f banks) := h.setPlot

theorem KeepsCanon.ttWrite (h : KeepsCanon s t) {f v} : KeepsCanon s (t.ttWrite f v) := .ite h.setReg h.setReg.plotRestore

theorem KeepsCanon.ttReset (h : KeepsCanon s t) {f} : KeepsCanon s (t.ttReset f) := h.setPlot

/-! ### Granary -/

theorem KeepsCanon.keepLine (h : KeepsCanon s t) {a} : KeepsCanon s (t.keepLine a) :=
  .ite h.same (.ite h (.ite h.same.bump h.same))

theorem KeepsCanon.demote (h : KeepsCanon s t) {a n} : KeepsCanon s (t.demote a n) := h.same

theorem KeepsCanon.touchLines (h : KeepsCanon s t) {a n} : KeepsCanon s (t.touchLines a n) := .ite h.same h

theorem KeepsCanon.readHint (h : KeepsCanon s t) {a n hint} : KeepsCanon s (t.readHint a n hint) :=
  .ite h (.ite h.touchLines (.ite (h.foldl fun _ _ h' => h'.keepLine) (.ite h.demote h)))

theorem KeepsCanon.writeHint (h : KeepsCanon s t) {a n hint} : KeepsCanon s (t.writeHint a n hint) := .ite h h.readHint

theorem KeepsCanon.storeAs (h : KeepsCanon s t) {cls a bs} : KeepsCanon s (t.storeAs cls a bs) := h.store.writeHint

theorem KeepsCanon.readAs (h : KeepsCanon s t) {cls rs} : KeepsCanon s (t.readAs cls rs) :=
  h.foldl fun _ _ h' => h'.readHint

theorem KeepsCanon.trimKept (h : KeepsCanon s t) {f} : KeepsCanon s (t.trimKept f) := h.same

theorem KeepsCanon.granaryCorrected (h : KeepsCanon s t) {a} : KeepsCanon s (t.granaryCorrected a) := by
  unfold State.granaryCorrected
  split
  · exact .ite h.bump h
  · exact h

theorem KeepsCanon.setStack (h : KeepsCanon s t) {n x} : KeepsCanon s (t.setStack n x) := h.same

theorem KeepsCanon.granaryTemp (h : KeepsCanon s t) {n t'} : KeepsCanon s (t.granaryTemp n t') := by
  unfold State.granaryTemp
  extract_lets _ _ _ _ _ _ s2 s1
  have hs2 : KeepsCanon s s2 := h.setStack.setRf.setRf.setRf
  have hs1 : KeepsCanon s s1 := h.setStack.bump
  exact .ite h (.ite (.ite hs2.raiseErr hs2) (.ite hs1.setRf.raiseErr hs1))

theorem KeepsCanon.granaryRetrain (h : KeepsCanon s t) {n repaired} : KeepsCanon s (t.granaryRetrain n repaired) :=
  .ite h (.ite h.setStack.bump.raiseErr h.setStack.bump)

theorem KeepsCanon.zeroFresh (h : KeepsCanon s t) {n} : KeepsCanon s (t.zeroFresh n) := by
  unfold State.zeroFresh
  refine .ite h ?_
  split
  · exact h.same
  · exact h

theorem KeepsCanon.freshRegion (h : KeepsCanon s t) {f} : KeepsCanon s (t.freshRegion f) := h.zeroRange.same

theorem KeepsCanon.emptyInRegion (h : KeepsCanon s t) {f} : KeepsCanon s (t.emptyInRegion f) := h.same

theorem KeepsCanon.restartFill (h : KeepsCanon s t) : KeepsCanon s t.restartFill := .ite h.same.setRf h

theorem KeepsCanon.failStack (h : KeepsCanon s t) {n code} : KeepsCanon s (t.failStack n code) :=
  .ite h h.same.emptyInRegion.restartFill.raiseErr

theorem KeepsCanon.granaryEcc (h : KeepsCanon s t) {a cls workId} : KeepsCanon s (t.granaryEcc a cls workId) := by
  unfold State.granaryEcc
  split
  · exact .ite h (.ite h.same.bump.raiseErr.failStack h.same.bump.raiseErr)
  · exact h

theorem KeepsCanon.granaryScrub (h : KeepsCanon s t) {a outcome} : KeepsCanon s (t.granaryScrub a outcome) :=
  .ite h.granaryCorrected (.ite h.granaryEcc h)

theorem KeepsCanon.stackFails (h : KeepsCanon s t) {n cause} : KeepsCanon s (t.stackFails n cause) :=
  .ite h.failStack (.ite h.failStack (.ite h.failStack h))

theorem KeepsCanon.mapOut (h : KeepsCanon s t) : KeepsCanon s t.mapOut :=
  h.foldl fun _ _ h' => .ite h'.setStack.freshRegion h'

theorem KeepsCanon.runFill (h : KeepsCanon s t) {id} : KeepsCanon s (t.runFill id) := by
  unfold State.runFill
  split
  · exact h
  · exact .ite h (.ite h.complete (KeepsCanon.complete (.ite (h.foldl fun _ _ h' => h'.keepLine) h.touchLines)))

theorem KeepsCanon.runDemote (h : KeepsCanon s t) {id} : KeepsCanon s (t.runDemote id) := by
  unfold State.runDemote
  split
  · exact h
  · exact .ite h h.demote.complete

/-! ### Drill -/

theorem KeepsCanon.setRing (h : KeepsCanon s t) {q r} : KeepsCanon s (t.setRing q r) := h.same

theorem KeepsCanon.notePass (h : KeepsCanon s t) {d} : KeepsCanon s (t.notePass d) := h.same

theorem KeepsCanon.openGate (h : KeepsCanon s t) {id} : KeepsCanon s (t.openGate id) := by
  unfold State.openGate
  split
  · exact h
  · exact .ite h.setFlight h

theorem KeepsCanon.drillStart (h : KeepsCanon s t) {id gateWait creditWait limitWait} :
    KeepsCanon s (t.drillStart id gateWait creditWait limitWait) := by
  unfold State.drillStart
  split
  · exact h
  · extract_lets _ _ _ _ _ s1
    have hs1 : KeepsCanon s s1 := h.bumpBy.bumpBy.bumpBy
    refine .ite h <| .ite hs1.setFlight <| .ite hs1.refuseFlight <| .ite h <| .ite hs1.refuseFlight ?_
    exact .ite hs1.refuseFlight hs1.setRing.setFlight

theorem KeepsCanon.storeParts (h : KeepsCanon s t) {b hint parts} : KeepsCanon s (t.storeParts b hint parts) :=
  .ite h.store.writeHint (h.foldl fun _ _ h' => h'.store.writeHint)

theorem KeepsCanon.fillSectors (h : KeepsCanon s t) {dst hint held parts} : KeepsCanon s (t.fillSectors dst hint held parts).1 :=
  List.foldlRecOn (motive := fun r : State × List (Nat × List Byte) => KeepsCanon s r.1) _ _ h fun _ hr _ _ => .iteFst hr.storeParts hr

theorem KeepsCanon.copyRow (h : KeepsCanon s t) {id} : KeepsCanon s (t.copyRow id) := by
  unfold State.copyRow
  split
  · exact h
  · refine .ite h <| .ite h.setFlight ?_
    extract_lets bs s1 r
    have hr : KeepsCanon s r.1 := .iteFst (h.readHint.foldl fun _ _ h' => h'.store.writeHint) h.readHint.fillSectors
    exact hr.bumpBy.setFlight

theorem KeepsCanon.ringSetup (h : KeepsCanon s t) {id} : KeepsCanon s (t.ringSetup id) := by
  unfold State.ringSetup
  split
  · exact h
  · exact .ite h (.ite h.refuseFlight h.setRing.bump.complete)

theorem KeepsCanon.ringCredit (h : KeepsCanon s t) {id} : KeepsCanon s (t.ringCredit id) := by
  unfold State.ringCredit
  split
  · exact h
  · exact .ite h.bump.complete (.ite h (.ite h.bump.complete (.ite h.refuseFlight h.setRing.bump.complete)))

theorem KeepsCanon.endPass (h : KeepsCanon s t) {f code} : KeepsCanon s (t.endPass f code) := h.setFlight

theorem KeepsCanon.cancelOne (h : KeepsCanon s t) {id} : KeepsCanon s (t.cancelOne id) := by
  unfold State.cancelOne
  split
  · exact h
  · refine .ite h ?_
    refine .ite ?_ (.ite (.ite h.setFlight h) (.ite (.ite h h.setFlight) h.setFlight))
    extract_lets _ _ _ _ _ s2
    have hs2 : KeepsCanon s s2 := by
      unfold s2
      refine KeepsCanon.foldl h.endPass fun _ _ h' => ?_
      split
      · exact h'.endPass
      · exact h'
    exact .ite h (.ite h.endPass (.ite hs2 hs2.setArray))

theorem KeepsCanon.cancelField (h : KeepsCanon s t) {id field} : KeepsCanon s (t.cancelField id field) := by
  unfold State.cancelField
  split
  · exact h
  · extract_lets
    split
    · exact .ite h (((h.foldl fun _ _ h' => h'.cancelOne).foldl fun _ _ h' => h'.setReg).setFlight)
    · exact h

theorem KeepsCanon.returnCredit (h : KeepsCanon s t) {f info} : KeepsCanon s (t.returnCredit f info) := .ite h.setRing h

theorem KeepsCanon.drillComplete (h : KeepsCanon s t) {id discarded} : KeepsCanon s (t.drillComplete id discarded) := by
  unfold State.drillComplete
  split
  · exact h
  · refine .ite h ?_
    split
    · split
      · exact .ite h.complete h
      · exact h
    · extract_lets _ _ _ _ info
      clear_value info
      split
      · exact .ite h (KeepsCanon.complete (KeepsCanon.returnCredit (.ite h.bumpBy.bump (.ite h.bumpBy.bump h.bumpBy))))
      · exact h

theorem KeepsCanon.resetDrill (h : KeepsCanon s t) {f e} : KeepsCanon s (t.resetDrill f e) :=
  h.foldl fun _ _ h' => h'.setRing

theorem KeepsCanon.dropRings (h : KeepsCanon s t) : KeepsCanon s t.dropRings := h.same

/-! ### Coulter -/

theorem KeepsCanon.setSamp (h : KeepsCanon s t) {x} : KeepsCanon s (t.setSamp x) := h.same

theorem KeepsCanon.dropSamp (h : KeepsCanon s t) {id} : KeepsCanon s (t.dropSamp id) := h.same

theorem KeepsCanon.addSamp (h : KeepsCanon s t) {owner area work d} : KeepsCanon s (t.addSamp owner area work d) := h.same

theorem KeepsCanon.countOutcome (h : KeepsCanon s t) {x outcome} : KeepsCanon s (t.countOutcome x outcome) := by
  unfold State.countOutcome
  extract_lets s1 s2 s3 s4 s5
  have hs1 : KeepsCanon s s1 := .ite h.bump h
  have hs2 : KeepsCanon s s2 := .ite hs1.bump hs1
  have hs3 : KeepsCanon s s3 := .ite hs2.bump hs2
  have hs4 : KeepsCanon s s4 := .ite hs3.bump hs3
  have hs5 : KeepsCanon s s5 := .ite hs4.bump hs4
  exact .ite hs5.bump hs5

theorem KeepsCanon.endSamp (h : KeepsCanon s t) {x outcome} : KeepsCanon s (t.endSamp x outcome) := by
  unfold State.endSamp
  extract_lets _ _ s1 s2
  have hs1 : KeepsCanon s s1 := h.setSamp.countOutcome
  have hs2 : KeepsCanon s s2 := by
    unfold s2
    split
    · exact hs1.bump
    · exact hs1
  exact .ite hs2 hs2.raise

theorem KeepsCanon.storeOut (h : KeepsCanon s t) {x off bs} : KeepsCanon s (t.storeOut x off bs) :=
  .ite h.bumpBy.storeAs (h.bumpBy.foldl fun _ _ h' => h'.storeAs)

theorem KeepsCanon.zeroOut (h : KeepsCanon s t) {x} : KeepsCanon s (t.zeroOut x) :=
  .ite (h.foldl fun _ _ h' => .ite h'.storeOut h') (.ite h.storeOut h)

theorem KeepsCanon.charge (h : KeepsCanon s t) {x n} : KeepsCanon s (t.charge x n) := by
  unfold State.charge
  extract_lets
  split
  · exact h.bumpBy.bumpBy
  · exact h.bumpBy

theorem KeepsCanon.sampleStart (h : KeepsCanon s t) {id hdr} : KeepsCanon s (t.sampleStart id hdr) := by
  unfold State.sampleStart
  split
  · exact h
  · extract_lets
    split
    · exact h
    · refine .ite h ?_
      extract_lets host z s0 y _ _ s1
      have hhost {u} (hu : KeepsCanon s u) : KeepsCanon s (host u) := .ite hu.bump.raise hu
      have hs0 : KeepsCanon s s0 := KeepsCanon.charge h.same
      have hs1 : KeepsCanon s s1 := hhost hs0.same
      exact .ite (hhost hs0.setSamp) (.ite hs1 hs1.endSamp)

theorem KeepsCanon.arenaAllocate (h : KeepsCanon s t) {id gs} : KeepsCanon s (t.arenaAllocate id gs) := by
  unfold State.arenaAllocate
  split
  · exact h
  · exact .ite h.setSamp h

theorem KeepsCanon.endTruncated (h : KeepsCanon s t) {x} : KeepsCanon s (t.endTruncated x) :=
  .ite h.endSamp h.zeroOut.endSamp

theorem KeepsCanon.storeAudio (h : KeepsCanon s t) {x b chs} : KeepsCanon s (t.storeAudio x b chs) := by
  refine h.foldl fun _ _ h' => ?_
  dsimp only
  split
  · exact h'
  · exact h'.storeOut

theorem KeepsCanon.unitOutput (h : KeepsCanon s t) {x u} : KeepsCanon s (t.unitOutput x u).1 := by
  refine .iteFst (.iteFst h h.storeAudio) <| .iteFst (.iteFst h h.storeOut) ?_
  exact List.foldlRecOn (motive := fun a : State × Samp × Option Nat => KeepsCanon s a.1) _ _ h fun _ ha _ _ =>
    .iteFst ha <| .iteFst ha <| .iteFst ha ha.storeOut

theorem KeepsCanon.finishSamp (h : KeepsCanon s t) {x} : KeepsCanon s (t.finishSamp x) :=
  .ite h.endTruncated (.ite h.endTruncated h.endSamp)

theorem KeepsCanon.syntaxUnit (h : KeepsCanon s t) {id u0} : KeepsCanon s (t.syntaxUnit id u0) := by
  unfold State.syntaxUnit
  split
  · exact h
  · split
    · exact h
    · refine .ite h <| .ite h.endSamp <| .ite ?_ ?_
      · split
        · exact h.dropSamp.setFlight
        · exact h.dropSamp
      · extract_lets _ _ _ s2 r s3 _ _ z s4
        have hs2 : KeepsCanon s s2 := h.charge
        refine .ite hs2.setSamp.endSamp <| .ite hs2.endSamp <| .ite hs2.endSamp <| .ite hs2.endTruncated ?_
        have hr : KeepsCanon s r.1 := .iteFst hs2.storeOut hs2.unitOutput
        have hs4 : KeepsCanon s s4 := hr.charge.setSamp
        clear_value r
        split
        · exact hs4.endSamp
        · exact .ite hs4.endSamp <| .ite hs4.finishSamp hs4

theorem KeepsCanon.failCore (h : KeepsCanon s t) {c code check} : KeepsCanon s (t.failCore c code check) := by
  unfold State.failCore
  refine .ite h ?_
  extract_lets x _ s1 s2 s3
  have hs1 : KeepsCanon s s1 := h.same
  have hs2 : KeepsCanon s s2 := by
    clear_value x
    cases x with
    | none => exact hs1
    | some y => exact hs1.setSamp
  exact .ite hs2.raiseErr.raiseErr hs2.raiseErr

theorem KeepsCanon.coreHung (h : KeepsCanon s t) {c} : KeepsCanon s (t.coreHung c) := by
  unfold State.coreHung
  split
  · exact .ite h.failCore h
  · exact h

/-! ### Sample -/

theorem KeepsCanon.setSlot (h : KeepsCanon s t) {k v} : KeepsCanon s (t.setSlot k v) := h.same

theorem KeepsCanon.emptyWindrow (h : KeepsCanon s t) : KeepsCanon s t.emptyWindrow := h.same

theorem KeepsCanon.dropSamples (h : KeepsCanon s t) {owner} : KeepsCanon s (t.dropSamples owner) := h.same

theorem KeepsCanon.abortBatch (h : KeepsCanon s t) {f code} : KeepsCanon s (t.abortBatch f code) := by
  unfold State.abortBatch
  extract_lets _ s2
  have hs2 : KeepsCanon s s2 := by
    unfold s2
    split
    · exact h.dropSamples.setSlot
    · exact h.dropSamples
  exact hs2.complete

theorem KeepsCanon.runDecode (h : KeepsCanon s t) {id} : KeepsCanon s (t.runDecode id) := by
  unfold State.runDecode
  split
  · exact h
  · split
    · exact h.dropSamples.complete
    · refine .ite (.ite h.addSamp.setFlight h) ?_
      split
      · exact h
      · split
        · exact h
        · exact h.storeAs.dropSamples.complete

theorem KeepsCanon.cancelCoulter (h : KeepsCanon s t) {id} : KeepsCanon s (t.cancelCoulter id) := by
  unfold State.cancelCoulter
  split
  · exact h
  · refine .ite h <| .ite h.bump.abortBatch ?_
    split
    · exact h.bump.complete
    · exact .ite h.setSamp.bump (.ite h.dropSamples.bump.complete h.setSamp)

theorem KeepsCanon.runCoulterCancel (h : KeepsCanon s t) {id} : KeepsCanon s (t.runCoulterCancel id) := by
  unfold State.runCoulterCancel
  split
  · exact h
  · split
    · exact .ite h.complete h
    · refine .ite h ?_
      extract_lets _ s1
      have hs1 : KeepsCanon s s1 := h.foldl fun _ _ h' => h'.cancelCoulter
      split
      · exact hs1.setFlight
      · exact hs1

theorem KeepsCanon.putArea (h : KeepsCanon s t) {f p j bytes rec} : KeepsCanon s (t.putArea f p j bytes rec) :=
  h.storeAs.storeAs

theorem KeepsCanon.zeroArea (h : KeepsCanon s t) {f p j outcome tried live} :
    KeepsCanon s (t.zeroArea f p j outcome tried live) :=
  h.putArea.setFlight.bump.raiseErr

theorem KeepsCanon.fillArea (h : KeepsCanon s t) {f p j i m live crib what} :
    KeepsCanon s (t.fillArea f p j i m live crib what) :=
  .ite h.putArea.report.setFlight.bump h.putArea.report.setFlight

theorem KeepsCanon.emptyCrib (h : KeepsCanon s t) : KeepsCanon s t.emptyCrib := h.same

theorem KeepsCanon.cribInsert (h : KeepsCanon s t) {key x outcome gs} : ∀ u ∈ t.cribInsert key x outcome gs, KeepsCanon s u := by
  unfold State.cribInsert
  split
  · exact ofSome h
  · extract_lets
    split
    · exact ofSome h.bump
    · split
      · simp
      · exact ofSome (h.foldl fun _ _ h' => h'.storeAs).same

theorem KeepsCanon.areaFail (h : KeepsCanon s t) {f p j outcome} : KeepsCanon s (t.areaFail f p j outcome) :=
  .ite (.ite h.abortBatch h.setFlight) h.zeroArea

theorem KeepsCanon.areaLookup (h : KeepsCanon s t) {f p j a} : KeepsCanon s (t.areaLookup f p j a) := by
  unfold State.areaLookup
  refine .ite h.areaFail <| .ite h.abortBatch <| .ite h.abortBatch <| .ite h.areaFail <| .ite h.addSamp.setFlight ?_
  split
  · exact h.bump.addSamp.setFlight
  · refine .ite h.same.bump.bump.addSamp.setFlight ?_
    extract_lets
    split
    · exact h.bump.areaFail
    · exact h.bump.fillArea

theorem KeepsCanon.areaDecoded (h : KeepsCanon s t) {f p j a gs} : KeepsCanon s (t.areaDecoded f p j a gs) := by
  unfold State.areaDecoded
  extract_lets
  split
  · exact h
  · split
    · exact h
    · split
      · exact h
      · next s1 hs1 =>
        have hs1 : KeepsCanon s s1 := by
          split at hs1
          · exact h.cribInsert _ hs1
          · exact ofSome h _ hs1
        exact .ite hs1.fillArea.dropSamp hs1.areaFail.dropSamp

theorem KeepsCanon.runBatch (h : KeepsCanon s t) {id j gs} : KeepsCanon s (t.runBatch id j gs) := by
  unfold State.runBatch
  split
  · exact h
  · split
    · exact h.abortBatch
    · refine .ite (.ite h.complete h) ?_
      split
      · exact h
      · extract_lets
        split
        · exact h
        · exact .ite h (.ite h.areaLookup (.ite h.areaDecoded h))

theorem KeepsCanon.sealBatch (h : KeepsCanon s t) {id} : KeepsCanon s (t.sealBatch id) := by
  unfold State.sealBatch
  split
  · exact h
  · split
    · exact h
    · exact .ite h (KeepsCanon.complete (.ite h.setSlot.bump.same h.setSlot.bump))

theorem KeepsCanon.releaseWindrow (h : KeepsCanon s t) {id} : KeepsCanon s (t.releaseWindrow id) := by
  unfold State.releaseWindrow
  split
  · exact h
  · refine .ite h ?_
    extract_lets _ _ s1
    have hs1 : KeepsCanon s s1 := h.foldl fun _ _ h' => h'.setSlot
    exact KeepsCanon.complete (.ite hs1.same.bump.raiseErr hs1)

/-! ### Live -/

theorem KeepsCanon.setLive (h : KeepsCanon s t) {i x} : KeepsCanon s (t.setLive i x) := h.same

theorem KeepsCanon.liveWrite (h : KeepsCanon s t) {i v} : ∀ u ∈ t.liveWrite i v, KeepsCanon s u := by
  unfold State.liveWrite
  extract_lets
  split
  · simp
  · split
    · split
      · simp
      · exact ofSome h.setReg.setLive
    · split
      · exact ofSome h.setReg.setLive
      · exact ofSome h.setReg

theorem KeepsCanon.frameDone (h : KeepsCanon s t) {i} : KeepsCanon s (t.frameDone i) :=
  (KeepsCanon.bump (.ite h.storeAs.bump h.storeAs)).setLive

theorem KeepsCanon.frameBegin (h : KeepsCanon s t) {i stamp} : KeepsCanon s (t.frameBegin i stamp) :=
  .ite h.setLive.raiseErr h.setLive

theorem KeepsCanon.audioTake (h : KeepsCanon s t) {i stamp n chs} : KeepsCanon s (t.audioTake i stamp n chs) := by
  induction n generalizing t chs with
  | zero => exact h
  | succ n ih =>
    unfold State.audioTake
    refine .ite h ?_
    extract_lets s1 c x new s2 s3
    have hs2 : KeepsCanon s s2 := KeepsCanon.setLive (.ite h h.frameBegin)
    exact ih (.ite hs2.frameDone hs2)

theorem KeepsCanon.livePacket (h : KeepsCanon s t) {p} : KeepsCanon s (t.livePacket p) := by
  unfold State.livePacket
  extract_lets _ _ _ _ _ _ s2 _ _ _ _ old _ s3
  have hs2 : KeepsCanon s s2 := h.bump.setLive.setLive
  have hold : KeepsCanon s old := .ite hs2.bump hs2
  have hs3 : KeepsCanon s s3 := .ite hold.frameBegin hold
  refine .ite h <| .ite h.bump.setLive <| .ite h.bump.setLive ?_
  refine .ite ((KeepsCanon.setLive (.ite hs2.bump.setLive hs2)).audioTake) <| .ite (.ite hs2.setLive hs2) ?_
  exact .ite hs3.setLive (.ite hs3.setLive.bump.setLive hs3.setLive.frameDone)

theorem KeepsCanon.liveLost (h : KeepsCanon s t) {i} : KeepsCanon s (t.liveLost i) := .ite h.setLive.raiseErr h

theorem KeepsCanon.takeFrames (h : KeepsCanon s t) {id n} : KeepsCanon s (t.takeFrames id n) := by
  induction n generalizing t with
  | zero => exact h
  | succ n ih =>
    unfold State.takeFrames
    split
    · exact h
    · split
      · exact h
      · extract_lets
        split
        · exact .ite (ih h.setLive.bump) <| .ite h.setLive.abortBatch (ih h.setLive.fillArea)
        · exact h

theorem KeepsCanon.liveTake (h : KeepsCanon s t) {id} : KeepsCanon s (t.liveTake id) := by
  unfold State.liveTake
  split
  · exact h
  · exact .ite h.takeFrames h

theorem KeepsCanon.zeroRest (h : KeepsCanon s t) {id n} : KeepsCanon s (t.zeroRest id n) := by
  induction n generalizing t with
  | zero => exact h
  | succ n ih =>
    unfold State.zeroRest
    split
    · exact h
    · split
      · exact h
      · split
        · exact ih h.zeroArea
        · exact h

theorem KeepsCanon.liveExpire (h : KeepsCanon s t) {id} : KeepsCanon s (t.liveExpire id) := by
  unfold State.liveExpire
  split
  · exact h
  · split
    · exact h
    · exact .ite h.zeroRest h

theorem KeepsCanon.batchStart (h : KeepsCanon s t) {id} : KeepsCanon s (t.batchStart id) := by
  unfold State.batchStart
  split
  · exact h
  · exact .ite h (.ite h.same.liveTake h.same)

theorem KeepsCanon.resetStreams (h : KeepsCanon s t) : KeepsCanon s t.resetStreams := h.same

theorem KeepsCanon.resetSample (h : KeepsCanon s t) : KeepsCanon s t.resetSample := h.same

theorem KeepsCanon.resetSamplePage (h : KeepsCanon s t) : KeepsCanon s t.resetSamplePage :=
  (h.foldl fun _ _ h' => h'.dropSamples).same

/-! ### Thresher -/

theorem KeepsCanon.setChan (h : KeepsCanon s t) {c x} : KeepsCanon s (t.setChan c x) := h.same

theorem KeepsCanon.enableChannel (h : KeepsCanon s t) {c} : ∀ u ∈ t.enableChannel c, KeepsCanon s u := by
  unfold State.enableChannel
  extract_lets
  split
  · simp
  · exact ofSome h.same.setChan

/-! ### Collective -/

theorem KeepsCanon.noteColl (h : KeepsCanon s t) {d step} : KeepsCanon s (t.noteColl d step) :=
  .ite h (.ite h.same h.setChan)

theorem KeepsCanon.setColl (h : KeepsCanon s t) {id p} : KeepsCanon s (t.setColl id p) := by
  unfold State.setColl
  split
  · exact h.setFlight
  · exact h

theorem KeepsCanon.thrSend (h : KeepsCanon s t) {m} : KeepsCanon s (t.thrSend m) := h.same

theorem KeepsCanon.failColl (h : KeepsCanon s t) {f p outcome} : KeepsCanon s (t.failColl f p outcome) := h.setColl

theorem KeepsCanon.setArb (h : KeepsCanon s t) {a} : KeepsCanon s (t.setArb a) := h.same

theorem KeepsCanon.arbToken (h : KeepsCanon s t) {c number t'} : KeepsCanon s (t.arbToken c number t') :=
  .ite (.ite (by split <;> exact h.setArb) h.setArb) (.ite h (.ite h.bump.raise (.ite h (.ite h.setArb h.setArb))))

theorem KeepsCanon.arbStart (h : KeepsCanon s t) {c number deadline root t'} :
    KeepsCanon s (t.arbStart c number deadline root t') :=
  .ite ((h.foldl fun _ _ h' => h'.bump.raise).setArb) ((h.foldl fun _ _ h' => h'.bump.raise).setArb)

theorem KeepsCanon.readyToken (h : KeepsCanon s t) {c number t'} : KeepsCanon s (t.readyToken c number t') :=
  .ite h.arbToken h

theorem KeepsCanon.deadlineExpiry (h : KeepsCanon s t) {c number} : KeepsCanon s (t.deadlineExpiry c number) := by
  unfold State.deadlineExpiry
  split
  · exact .ite h.setArb h
  · exact h

theorem KeepsCanon.sealReceived (h : KeepsCanon s t) {c number x} : KeepsCanon s (t.sealReceived c number x) := by
  unfold State.sealReceived
  split
  · exact h
  · split
    · exact h
    · exact .ite h (.ite (KeepsCanon.failColl (.ite h.bump.raise h)) (KeepsCanon.setColl (.ite h.bump.raise h)))

theorem KeepsCanon.sealColl (h : KeepsCanon s t) {c number} : KeepsCanon s (t.sealColl c number) := by
  unfold State.sealColl
  split
  · exact h
  · exact .ite h ((h.setArb.foldl fun _ _ h' => h'.thrSend).sealReceived)

theorem KeepsCanon.sealResend (h : KeepsCanon s t) {c number pos} : KeepsCanon s (t.sealResend c number pos) := by
  unfold State.sealResend
  split
  · split
    · exact h.thrSend
    · exact h
  · exact h

theorem KeepsCanon.dataLimitExpiry (h : KeepsCanon s t) {c number undelivered} :
    KeepsCanon s (t.dataLimitExpiry c number undelivered) := by
  unfold State.dataLimitExpiry
  split
  · exact h
  · split
    · exact h
    · exact .ite h.setArb h

theorem KeepsCanon.arbReport (h : KeepsCanon s t) {c number reporter peer} :
    KeepsCanon s (t.arbReport c number reporter peer) := by
  unfold State.arbReport
  split
  · exact h
  · exact .ite h.setArb h

theorem KeepsCanon.peerReport (h : KeepsCanon s t) {c number reporter peer} :
    KeepsCanon s (t.peerReport c number reporter peer) :=
  .ite h (.ite h.arbReport (.ite h.thrSend h))

theorem KeepsCanon.reportDecision (h : KeepsCanon s t) {c number} : KeepsCanon s (t.reportDecision c number) := by
  unfold State.reportDecision
  split
  · exact h
  · split
    · exact h
    · exact .ite h.setArb h

theorem KeepsCanon.collStart (h : KeepsCanon s t) {id} : KeepsCanon s (t.collStart id) := by
  unfold State.collStart
  split
  · exact h
  · split
    · exact h
    · exact .ite h (.ite h.setFlight.setColl (.ite h.setFlight.setColl.arbStart h.setFlight.setColl.thrSend))

theorem KeepsCanon.noSeal (h : KeepsCanon s t) {id} : KeepsCanon s (t.noSeal id) := by
  unfold State.noSeal
  split
  · exact h
  · split
    · exact h
    · exact .ite h.failColl h

theorem KeepsCanon.withdraw (h : KeepsCanon s t) {f p} : KeepsCanon s (t.withdraw f p) :=
  .ite h.setColl.arbToken h.setColl.thrSend

theorem KeepsCanon.sendBlock (h : KeepsCanon s t) {c number dest b} : KeepsCanon s (t.sendBlock c number dest b) :=
  h.bumpBy.thrSend

theorem KeepsCanon.sendKept (h : KeepsCanon s t) {id c number dest b} : KeepsCanon s (t.sendKept id c number dest b) := by
  unfold State.sendKept
  refine KeepsCanon.sendBlock ?_
  split
  · exact h.setColl
  · exact h

theorem KeepsCanon.haveResult (h : KeepsCanon s t) {id key codes} : KeepsCanon s (t.haveResult id key codes) := by
  unfold State.haveResult
  split
  · exact h
  · split
    · exact h
    · split
      · exact h
      · refine .ite h ?_
        exact ((KeepsCanon.setColl (.ite h.storeAs h)).foldl fun _ _ h' => h'.sendBlock).foldl fun _ _ h' => h'.sendBlock

theorem KeepsCanon.passBlock (h : KeepsCanon s t) {id b} : KeepsCanon s (t.passBlock id b) := by
  unfold State.passBlock
  split
  · exact h
  · split
    · exact h
    · split
      · exact h
      · extract_lets
        split
        · exact h
        · refine .ite h <| .ite h.withdraw ?_
          extract_lets
          split
          · exact h.setColl.sendKept
          · exact h.setColl.haveResult

theorem KeepsCanon.runReduction (h : KeepsCanon s t) {id op} : KeepsCanon s (t.runReduction id op) := by
  unfold State.runReduction
  split
  · exact h
  · split
    · exact h
    · split
      · exact h
      · refine .ite h <| .ite h.setColl <| .ite h.withdraw ?_
        exact (KeepsCanon.setColl (.ite h h.report.bumpBy)).foldl fun _ _ h' => h'.passBlock

theorem KeepsCanon.sendHeld (h : KeepsCanon s t) {c number dest num kind results inc keys} :
    KeepsCanon s (t.sendHeld c number dest num kind results inc keys) := by
  unfold State.sendHeld
  refine KeepsCanon.foldl h fun _ _ h' => ?_
  split
  · exact h'
  · exact h'.sendBlock

theorem KeepsCanon.forwardHeld (h : KeepsCanon s t) {c inc num number kids results} :
    KeepsCanon s (t.forwardHeld c inc num number kids results) :=
  h.foldl fun _ _ h' => h'.sendHeld

theorem KeepsCanon.runDelivery (h : KeepsCanon s t) {id op} : KeepsCanon s (t.runDelivery id op) := by
  unfold State.runDelivery
  split
  · exact h
  · split
    · exact h
    · split
      · exact h
      · extract_lets _ _ _ _ _ _ _ s1' s2 _ _ s3
        have hs1' : KeepsCanon s s1' := .ite h.setColl.forwardHeld h.setColl
        have hs2 : KeepsCanon s s2 := hs1'.foldl fun _ _ h' => h'.storeAs
        have hs3 : KeepsCanon s s3 := hs2.foldl fun _ _ h' => h'.haveResult
        exact .ite h (.ite h.withdraw (.ite hs2 (.ite (hs3.foldl fun _ _ h' => h'.foldl fun _ _ h2 => h2.sendKept) hs3)))

theorem KeepsCanon.runVerdict (h : KeepsCanon s t) {id others} : KeepsCanon s (t.runVerdict id others) := by
  unfold State.runVerdict
  split
  · exact h
  · split
    · exact h
    · split
      · exact h
      · exact .ite h h.setColl

theorem KeepsCanon.failLanes (h : KeepsCanon s t) {f ch block ls} : KeepsCanon s (t.failLanes f ch block ls).1 := by
  induction ls generalizing t with
  | nil => exact h
  | cons l ls ih =>
    unfold State.failLanes
    refine .iteFst h <| .iteFst (ih h) ?_
    extract_lets _ s1 s2 s3
    have hs1 : KeepsCanon s s1 := h.same
    have hs2 : KeepsCanon s s2 := hs1.bump.raiseErr
    exact ih (.ite hs2.raiseErr hs2)

theorem KeepsCanon.badBlock (h : KeepsCanon s t) {f p b} : KeepsCanon s (t.badBlock f p b) :=
  .ite h.setColl.bump.thrSend (.ite h.setColl.peerReport h.setColl)

theorem KeepsCanon.blockReceived (h : KeepsCanon s t) {c number b} : KeepsCanon s (t.blockReceived c number b) := by
  unfold State.blockReceived
  split
  · exact h
  · split
    · exact h
    · split
      · exact h
      · refine .ite h <| .ite h.bumpBy.badBlock <| .ite ?_ ?_
        · exact .ite h.bumpBy.failLanes h.bumpBy.failLanes.setColl.passBlock
        · extract_lets s1
          have hs1 : KeepsCanon s s1 := h.bumpBy.setColl.haveResult
          split
          · exact hs1
          · exact hs1.thrSend

theorem KeepsCanon.segmentAck (h : KeepsCanon s t) {c number tree child bytes} :
    KeepsCanon s (t.segmentAck c number tree child bytes) := by
  unfold State.segmentAck
  split
  · exact h
  · split
    · exact h
    · exact h.setColl

theorem KeepsCanon.childDetach (h : KeepsCanon s t) {c number tree child offsets} :
    KeepsCanon s (t.childDetach c number tree child offsets) := by
  unfold State.childDetach
  split
  · exact h
  · split
    · extract_lets
      split
      · exact h
      · exact .ite h (h.setColl.foldl fun _ _ h' => h'.sendHeld)
    · exact h

theorem KeepsCanon.repairFetch (h : KeepsCanon s t) {c number tree other} : KeepsCanon s (t.repairFetch c number tree other) := by
  unfold State.repairFetch
  split
  · exact h
  · split
    · exact .ite h h.setColl.thrSend
    · exact h

theorem KeepsCanon.repairServe (h : KeepsCanon s t) {c number tree other off n} :
    KeepsCanon s (t.repairServe c number tree other off n) := by
  unfold State.repairServe
  split
  · exact h
  · extract_lets _ _ _ _ _ s1
    have hs1 : KeepsCanon s s1 := by
      unfold s1
      split
      · split
        · exact h.setColl
        · exact h
      · exact h
    exact hs1.sendHeld

theorem KeepsCanon.blockAgain (h : KeepsCanon s t) {c number tree other block kind} :
    KeepsCanon s (t.blockAgain c number tree other block kind) := by
  unfold State.blockAgain
  split
  · exact h
  · extract_lets
    split
    · exact h.sendBlock
    · exact .ite h h.sendHeld

theorem KeepsCanon.repairRequest (h : KeepsCanon s t) {c number tree other ask} :
    KeepsCanon s (t.repairRequest c number tree other ask) := by
  unfold State.repairRequest
  split
  · exact h.repairFetch
  · exact h.repairServe
  · exact h.blockAgain

theorem KeepsCanon.endColl (h : KeepsCanon s t) {f p} : KeepsCanon s (t.endColl f p) := by
  unfold State.endColl
  extract_lets _ _ _ _ _ _ _ s2 s2' s3 s4
  have hs2 : KeepsCanon s s2 := .ite (.ite h.storeAs.same.putProbeMaxima h.storeAs.same) h.storeAs
  have hs2' : KeepsCanon s s2' := .ite hs2 hs2.bump
  have hs3 : KeepsCanon s s3 := .ite hs2'.raiseErr hs2'
  have hs4 : KeepsCanon s s4 := .ite hs3.bump.raise hs3
  exact (KeepsCanon.bump (.ite hs4.bump hs4)).bump.same.complete

theorem KeepsCanon.collComplete (h : KeepsCanon s t) {id} : KeepsCanon s (t.collComplete id) := by
  unfold State.collComplete
  split
  · exact h
  · split
    · exact h
    · exact .ite h (.ite h.endColl (.ite h.endColl h))

theorem KeepsCanon.repairExpiry (h : KeepsCanon s t) {id} : KeepsCanon s (t.repairExpiry id) := by
  unfold State.repairExpiry
  split
  · exact h
  · split
    · exact h
    · split
      · exact h
      · exact .ite (.ite h.endColl h.failColl) h

theorem KeepsCanon.cancelColl (h : KeepsCanon s t) {id} : KeepsCanon s (t.cancelColl id) := by
  unfold State.cancelColl
  split
  · exact h
  · split
    · exact h
    · exact .ite h.bump.bump.bump.complete (.ite h.withdraw h)

theorem KeepsCanon.runThrCancel (h : KeepsCanon s t) {id} : KeepsCanon s (t.runThrCancel id) := by
  unfold State.runThrCancel
  split
  · exact h
  · split
    · exact .ite h.complete h
    · refine .ite h ?_
      extract_lets _ s1
      have hs1 : KeepsCanon s s1 := h.foldl fun _ _ h' => h'.cancelColl
      split
      · exact hs1.setFlight
      · exact hs1

theorem KeepsCanon.resetThresher (h : KeepsCanon s t) : KeepsCanon s t.resetThresher := h.same

/-! ### Swath -/

theorem KeepsCanon.setLink (h : KeepsCanon s t) {l x} : KeepsCanon s (t.setLink l x) := h.same

theorem KeepsCanon.setPort (h : KeepsCanon s t) {p x} : KeepsCanon s (t.setPort p x) := h.same

theorem KeepsCanon.setConn (h : KeepsCanon s t) {e c} : KeepsCanon s (t.setConn e c) := h.same

theorem KeepsCanon.swSend (h : KeepsCanon s t) {x} : KeepsCanon s (t.swSend x) := h.same

theorem KeepsCanon.collPeerLost (h : KeepsCanon s t) {modno id} : KeepsCanon s (t.collPeerLost modno id) := by
  unfold State.collPeerLost
  split
  · exact h
  · split
    · extract_lets
      split
      · exact h
      · exact .ite h (.ite h.peerReport h.setColl)
    · exact h

theorem KeepsCanon.recoPeerLost (h : KeepsCanon s t) {e} : KeepsCanon s (t.recoPeerLost e) := h.same

theorem KeepsCanon.reportLost (h : KeepsCanon s t) {e} : KeepsCanon s (t.reportLost e) := by
  unfold State.reportLost
  extract_lets
  split
  · exact .ite h.recoPeerLost (h.recoPeerLost.foldl fun _ _ h' => h'.collPeerLost)
  · exact h.recoPeerLost

theorem KeepsCanon.isolate (h : KeepsCanon s t) : KeepsCanon s t.isolate :=
  h.same.raiseErr.foldl fun _ _ h' => h'.reportLost

theorem KeepsCanon.refreshService (h : KeepsCanon s t) {before} : KeepsCanon s (t.refreshService before) :=
  .ite (KeepsCanon.isolate (.ite h.raiseErr h)) (.ite (KeepsCanon.same (.ite h.raiseErr h)) (.ite h.raiseErr h))

theorem KeepsCanon.dropLink (h : KeepsCanon s t) {l} : KeepsCanon s (t.dropLink l) :=
  .ite h h.setLink.bump.raiseErr.refreshService

theorem KeepsCanon.laneFails (h : KeepsCanon s t) {p lane} : KeepsCanon s (t.laneFails p lane) := h.setPort.dropLink

theorem KeepsCanon.retrainLink (h : KeepsCanon s t) {l ok} : KeepsCanon s (t.retrainLink l ok) :=
  .ite h (.ite h.setPort.setLink h.setLink)

theorem KeepsCanon.laserLow (h : KeepsCanon s t) {p} : KeepsCanon s (t.laserLow p) :=
  .ite h ((h.setPort.foldl fun _ _ h' => h'.dropLink).raiseErr)

theorem KeepsCanon.laserRestored (h : KeepsCanon s t) {p} : KeepsCanon s (t.laserRestored p) := h.setPort

theorem KeepsCanon.enablePort (h : KeepsCanon s t) {p on} : KeepsCanon s (t.enablePort p on) :=
  (h.foldl fun _ _ h' => h'.setLink).setPort.refreshService

theorem KeepsCanon.pfcPause (h : KeepsCanon s t) {p prios} : KeepsCanon s (t.pfcPause p prios) := h.setPort.bump

theorem KeepsCanon.transmit (h : KeepsCanon s t) {e d} : ∀ u ∈ t.transmit e d, KeepsCanon s u := by
  unfold State.transmit
  extract_lets
  split
  · simp
  · split
    · simp
    · exact ofSome h.putBytes.setConn.swSend

theorem KeepsCanon.pumpConn (h : KeepsCanon s t) {e n} : KeepsCanon s (t.pumpConn e n) := by
  induction n generalizing t with
  | zero => exact h
  | succ n ih =>
    unfold State.pumpConn
    split
    · exact h
    · split
      · exact h
      · next u hu => exact ih (h.transmit u hu).setConn

theorem KeepsCanon.queueData (h : KeepsCanon s t) {e d} : KeepsCanon s (t.queueData e d) := h.setConn.pumpConn

theorem KeepsCanon.resendSlot (h : KeepsCanon s t) {e x timer} : KeepsCanon s (t.resendSlot e x timer) := by
  unfold State.resendSlot
  split
  · exact h
  · exact h.setConn.bump.swSend

theorem KeepsCanon.probeAll (h : KeepsCanon s t) {e} : KeepsCanon s (t.probeAll e) :=
  h.setConn.foldl fun _ _ h' => h'.swSend

theorem KeepsCanon.sendAck (h : KeepsCanon s t) {e} : KeepsCanon s (t.sendAck e) := h.setConn.swSend

theorem KeepsCanon.ackTimer (h : KeepsCanon s t) {e} : KeepsCanon s (t.ackTimer e) := .ite h.sendAck h

theorem KeepsCanon.endTransfer (h : KeepsCanon s t) {f code} : KeepsCanon s (t.endTransfer f code) :=
  KeepsCanon.complete (.ite h.setConn h)

theorem KeepsCanon.startTransfer (h : KeepsCanon s t) {f} : KeepsCanon s (t.startTransfer f) := h.setConn.setFlight

theorem KeepsCanon.swathWrite (h : KeepsCanon s t) {id} : KeepsCanon s (t.swathWrite id) := by
  unfold State.swathWrite
  split
  · exact h
  · refine .ite h <| .ite h.complete <| .ite h.startTransfer <| .ite (.ite h.endTransfer ?_) (.ite h h.complete)
    split
    · exact h
    · next u hu => exact (h.readHint.transmit u hu).setFlight

theorem KeepsCanon.swathRead (h : KeepsCanon s t) {id} : KeepsCanon s (t.swathRead id) := by
  unfold State.swathRead
  split
  · exact h
  · refine .ite h <| .ite h.complete <| .ite h.startTransfer <| .ite ?_ (.ite h.complete h)
    split
    · exact h
    · next u hu => exact (h.transmit u hu).setFlight

theorem KeepsCanon.swathCancel (h : KeepsCanon s t) {id} : KeepsCanon s (t.swathCancel id) := by
  unfold State.swathCancel
  split
  · exact h
  · exact .ite h ((h.foldl fun _ _ h' => h'.endTransfer).complete)

theorem KeepsCanon.swAccept (h : KeepsCanon s t) {rx type} : KeepsCanon s (t.swAccept rx type).1 := by
  unfold State.swAccept
  extract_lets s1
  have hs1 : KeepsCanon s s1 := .ite h.bump h
  refine .iteFst h <| .iteFst h.bump ?_
  split
  · exact hs1.bump
  · exact .iteFst hs1.bump <| .iteFst hs1.bump <| .iteFst h hs1

theorem KeepsCanon.resetConn (h : KeepsCanon s t) {e inc} : KeepsCanon s (t.resetConn e inc) :=
  h.reportLost.setConn.foldl fun _ _ h' => h'.complete

theorem KeepsCanon.noteInc (h : KeepsCanon s t) {e inc} : KeepsCanon s (t.noteInc e inc) :=
  .ite h (.ite h.setConn h.resetConn)

theorem KeepsCanon.sendNack (h : KeepsCanon s t) {e user} : KeepsCanon s (t.sendNack e user) := h.bump.swSend

theorem KeepsCanon.refillData (h : KeepsCanon s t) {e msg off payload} : KeepsCanon s (t.refillData e msg off payload) := by
  unfold State.refillData
  extract_lets
  split
  · exact h
  · split
    · exact .ite h (.ite h.setFlight h.store.setFlight)
    · exact h

theorem KeepsCanon.refillDenied (h : KeepsCanon s t) {e msg} : KeepsCanon s (t.refillDenied e msg) := h.same

theorem KeepsCanon.answerRead (h : KeepsCanon s t) {e user msg a n} : KeepsCanon s (t.answerRead e user msg a n) :=
  h.setConn.foldl fun _ _ h' => h'.queueData

theorem KeepsCanon.showHosted (h : KeepsCanon s t) : KeepsCanon s t.showHosted := h.setReg

theorem KeepsCanon.buddyUser (h : KeepsCanon s t) {e h' payload b} : KeepsCanon s (t.buddyUser e h' payload b) := by
  unfold State.buddyUser
  extract_lets
  split
  · exact .ite h.sendNack h.store.same.showHosted
  · exact .ite h.sendNack h.store.same.showHosted
  · exact .ite h.sendNack h.answerRead
  · exact h.refillData
  · exact h

theorem KeepsCanon.swathUser (h : KeepsCanon s t) {e h' payload b} : KeepsCanon s (t.swathUser e h' payload b) := by
  unfold State.swathUser
  split
  · exact h
  · exact .ite h.store h.sendNack
  · exact .ite h.sendNack h.answerRead
  · split
    · exact h.refillData
    · exact .ite h h.store.writeHint.setFlight
  · exact h

theorem KeepsCanon.dataReceived (h : KeepsCanon s t) {rx} : KeepsCanon s (t.dataReceived rx) := by
  have hs1 : KeepsCanon s (t.swAccept rx 0).1 := h.swAccept
  unfold State.dataReceived
  generalize t.swAccept rx 0 = r at hs1 ⊢
  obtain ⟨s1, _ | ⟨hd, payload⟩⟩ := r
  · exact hs1
  · dsimp only at hs1 ⊢
    refine .ite hs1.bump <| .ite (.ite hs1.setConn.bump.sendAck hs1) ?_
    generalize advanceCum _ _ _ = r
    refine .ite (KeepsCanon.sendAck (.ite hs1.setConn.swathUser (.ite hs1.setConn.buddyUser hs1.setConn)))
      (.ite hs1.setConn.swathUser (.ite hs1.setConn.buddyUser hs1.setConn))

theorem KeepsCanon.heard (h : KeepsCanon s t) {e} : KeepsCanon s (t.heard e) :=
  .ite (h.setConn.foldl fun _ _ h' => h'.resendSlot) h.setConn

theorem KeepsCanon.ackReceived (h : KeepsCanon s t) {rx} : KeepsCanon s (t.ackReceived rx) := by
  have hs1 : KeepsCanon s (t.swAccept rx 1).1 := h.swAccept
  unfold State.ackReceived
  generalize t.swAccept rx 1 = r at hs1 ⊢
  obtain ⟨s1, _ | ⟨hd, payload⟩⟩ := r
  · exact hs1
  · exact (hs1.setConn.heard.foldl fun _ _ h' => h'.resendSlot).pumpConn

theorem KeepsCanon.nackReceived (h : KeepsCanon s t) {rx msg} : KeepsCanon s (t.nackReceived rx msg) := by
  have hs1 : KeepsCanon s (t.swAccept rx 2).1 := h.swAccept
  unfold State.nackReceived
  generalize t.swAccept rx 2 = r at hs1 ⊢
  obtain ⟨s1, _ | ⟨hd, payload⟩⟩ := r
  · exact hs1
  · dsimp only
    split
    · exact hs1.refillDenied
    · exact hs1.endTransfer

theorem KeepsCanon.rtoExpiry (h : KeepsCanon s t) {e seq} : KeepsCanon s (t.rtoExpiry e seq) := by
  unfold State.rtoExpiry
  split
  · exact h
  · exact .ite h h.setConn.resendSlot

theorem KeepsCanon.probeReceived (h : KeepsCanon s t) {rx} : KeepsCanon s (t.probeReceived rx) := by
  have hs1 : KeepsCanon s (t.swAccept rx 3).1 := h.swAccept
  unfold State.probeReceived
  generalize t.swAccept rx 3 = r at hs1 ⊢
  obtain ⟨s1, _ | ⟨hd, payload⟩⟩ := r
  · exact hs1
  · exact hs1.noteInc.swSend

theorem KeepsCanon.probeReply (h : KeepsCanon s t) {rx} : KeepsCanon s (t.probeReply rx) := by
  have hs1 : KeepsCanon s (t.swAccept rx 4).1 := h.swAccept
  unfold State.probeReply
  generalize t.swAccept rx 4 = r at hs1 ⊢
  obtain ⟨s1, _ | ⟨hd, payload⟩⟩ := r
  · exact hs1
  · exact hs1.noteInc.heard.pumpConn

theorem KeepsCanon.probeTimer (h : KeepsCanon s t) {e} : KeepsCanon s (t.probeTimer e) := .ite h.probeAll h

theorem KeepsCanon.memberMissing (h : KeepsCanon s t) {e} : KeepsCanon s (t.memberMissing e) :=
  .ite (.ite h.setConn.raiseErr h.setConn) h

theorem KeepsCanon.peerUnreachable (h : KeepsCanon s t) {e} : KeepsCanon s (t.peerUnreachable e) :=
  .ite h (.ite h.memberMissing h.setConn.raiseErr.reportLost.memberMissing)

theorem KeepsCanon.endConns (h : KeepsCanon s t) : KeepsCanon s t.endConns :=
  (h.foldl fun _ _ h' => h'.recoPeerLost).same.foldl fun _ _ h' => h'.complete

theorem KeepsCanon.planLoad (h : KeepsCanon s t) : ∀ u ∈ t.planLoad, KeepsCanon s u := by
  unfold State.planLoad
  extract_lets
  split
  · simp
  · exact ofSome h.endConns.same.refreshService

theorem KeepsCanon.planUnload (h : KeepsCanon s t) : KeepsCanon s t.planUnload := h.endConns.same.refreshService

theorem KeepsCanon.cutLink (h : KeepsCanon s t) {l report} : KeepsCanon s (t.cutLink l report) :=
  .ite h.setLink.refreshService.raiseErr h.setLink.refreshService

theorem KeepsCanon.extraLink (h : KeepsCanon s t) {l} : KeepsCanon s (t.extraLink l) := h.setLink.raiseErr

theorem KeepsCanon.serveLink (h : KeepsCanon s t) {l} : KeepsCanon s (t.serveLink l) :=
  h.setLink.refreshService.foldl fun _ _ h' => h'.swSend

theorem KeepsCanon.judgeLink (h : KeepsCanon s t) {l limit} : KeepsCanon s (t.judgeLink l limit) := by
  unfold State.judgeLink
  refine .ite h ?_
  extract_lets
  split
  · exact .ite h.extraLink h
  · exact h
  · exact .ite (.ite h.serveLink h.cutLink) (.ite h.cutLink h)
  · exact .ite h.cutLink h

theorem KeepsCanon.lldpReceived (h : KeepsCanon s t) {l chassisType portType chassis port} :
    KeepsCanon s (t.lldpReceived l chassisType portType chassis port) :=
  .ite h h.setLink.judgeLink

theorem KeepsCanon.lldpSend (h : KeepsCanon s t) : KeepsCanon s t.lldpSend :=
  .ite h (h.same.foldl fun _ _ h' => h'.swSend)

theorem KeepsCanon.discoveryLimit (h : KeepsCanon s t) : KeepsCanon s t.discoveryLimit := by
  unfold State.discoveryLimit
  refine .ite h ?_
  extract_lets s1
  have hs1 : KeepsCanon s s1 := h.foldl fun _ _ h' => h'.judgeLink
  clear_value s1
  exact KeepsCanon.foldl (.ite hs1.same hs1.isolate) fun _ _ h' => h'.setConn.probeAll

theorem KeepsCanon.ptpMessage (h : KeepsCanon s t) {m} : KeepsCanon s (t.ptpMessage m) := by
  unfold State.ptpMessage
  extract_lets _ _ _ s1 s2
  have hs1 : KeepsCanon s s1 := .ite h h.bump
  have hs2 : KeepsCanon s s2 := .ite hs1.bump hs1
  exact .ite h (.ite hs1 (.ite hs2.setRf.setReg.setReg.setReg hs2.setRf))

theorem KeepsCanon.ptpSyncSend (h : KeepsCanon s t) : KeepsCanon s t.ptpSyncSend :=
  .ite h (h.foldl fun _ _ h' => h'.swSend)

theorem KeepsCanon.resetSwath (h : KeepsCanon s t) : KeepsCanon s t.resetSwath := h.same

/-! ### Almanac -/

theorem KeepsCanon.almAdvance (h : KeepsCanon s t) : KeepsCanon s t.almAdvance := .ite h h.same.same

theorem KeepsCanon.slew (h : KeepsCanon s t) {ppm} : KeepsCanon s (t.slew ppm) := h.same.drawn

theorem KeepsCanon.measure (h : KeepsCanon s t) {offset} : KeepsCanon s (t.measure offset) := by
  unfold State.measure
  extract_lets _ _ _ _ _ _ s1
  have hs1 : KeepsCanon s s1 := .ite h.same.slew (.ite h.same.same h.same.same.raiseErr)
  split
  · exact h.same.same
  · exact .ite hs1.same hs1.same
  · exact .ite h.same.same.raiseErr h.same.slew
  · exact .ite h.same.same (.ite h.same.same h.same.same)

theorem KeepsCanon.ptpMeasurement (h : KeepsCanon s t) {offset} : KeepsCanon s (t.ptpMeasurement offset) := .ite h.measure h

theorem KeepsCanon.ppsEdge (h : KeepsCanon s t) : KeepsCanon s t.ppsEdge :=
  .ite h (.ite h.same.same (.ite h.same.measure h.same))

theorem KeepsCanon.enterHoldover (h : KeepsCanon s t) : KeepsCanon s t.enterHoldover := .ite h.same.bump.raiseErr h

theorem KeepsCanon.fireGate (h : KeepsCanon s t) {id} : KeepsCanon s (t.fireGate id) := by
  unfold State.fireGate
  split
  · exact h
  · extract_lets _ _ _ _ s2
    have hs2 : KeepsCanon s s2 := by
      unfold s2
      split
      · exact h.same
      · exact h.setFlight
    exact .ite h (.ite hs2.bump.raiseErr hs2)

theorem KeepsCanon.examineWait (h : KeepsCanon s t) {id} : KeepsCanon s (t.examineWait id) := by
  unfold State.examineWait
  split
  · exact h
  · split
    · exact h
    · exact .ite h (.ite (h.setFlight.foldl fun _ _ h' => h'.clearFlag) h.setFlight)

theorem KeepsCanon.examineWaits (h : KeepsCanon s t) {domain} : KeepsCanon s (t.examineWaits domain) :=
  .ite h (h.foldl fun _ _ h' => h'.examineWait)

theorem KeepsCanon.flagControl (h : KeepsCanon s t) {v} : KeepsCanon s (t.flagControl v) := .ite h.clearFlag h.setFlag

theorem KeepsCanon.submitRebase (h : KeepsCanon s t) {v} : KeepsCanon s (t.submitRebase v) := h.same

theorem KeepsCanon.rebase (h : KeepsCanon s t) : KeepsCanon s t.rebase := by
  unfold State.rebase
  split
  · exact h
  · exact .ite h (.ite h.same.raiseErr h.same.same.setReg)

/-! ### Furlong -/

theorem KeepsCanon.ledgerWrite (h : KeepsCanon s t) {q0 start stop n} : KeepsCanon s (t.ledgerWrite q0 start stop n) :=
  .ite h (KeepsCanon.setRf (.ite h.storeAs.bump h.storeAs.same))

theorem KeepsCanon.phaseComplete (h : KeepsCanon s t) {step pre phase} : KeepsCanon s (t.phaseComplete step pre phase) := by
  unfold State.phaseComplete
  split
  · exact h
  · split
    · exact h
    · split
      · exact h
      · exact .ite h (.ite h.same.ledgerWrite.drawn h.same.ledgerWrite)

theorem KeepsCanon.endFurlong (h : KeepsCanon s t) {fu} : KeepsCanon s (t.endFurlong fu) :=
  .ite h.same.complete.raiseErr h.same.complete

theorem KeepsCanon.abortFurlong (h : KeepsCanon s t) {fu code} : KeepsCanon s (t.abortFurlong fu code) := h.same.complete

theorem KeepsCanon.furlongCheck (h : KeepsCanon s t) : KeepsCanon s t.furlongCheck := by
  unfold State.furlongCheck
  split
  · exact .ite h.endFurlong h
  · exact h

theorem KeepsCanon.stepComplete (h : KeepsCanon s t) {step} : KeepsCanon s (t.stepComplete step) := by
  unfold State.stepComplete
  split
  · exact h
  · exact .ite h ((KeepsCanon.ledgerWrite (.ite h.drawn h)).bump.same.furlongCheck)

theorem KeepsCanon.runFurlong (h : KeepsCanon s t) {id} : KeepsCanon s (t.runFurlong id) := by
  unfold State.runFurlong
  split
  · exact h
  · exact .ite h (.ite h.refuseFlight (.ite h.complete (.ite h.complete h.same)))

theorem KeepsCanon.stopFurlong (h : KeepsCanon s t) {id} : KeepsCanon s (t.stopFurlong id) := by
  unfold State.stopFurlong
  split
  · exact h
  · exact .ite h h.same.complete.furlongCheck

/-! ### Recovery -/

theorem KeepsCanon.setPair (h : KeepsCanon s t) {p} : KeepsCanon s (t.setPair p) := h.setRf

theorem KeepsCanon.setFill (h : KeepsCanon s t) {x} : KeepsCanon s (t.setFill x) := h.setRf

theorem KeepsCanon.setCommit (h : KeepsCanon s t) {step set} : KeepsCanon s (t.setCommit step set) := h.setReg

theorem KeepsCanon.setReco (h : KeepsCanon s t) {f p} : KeepsCanon s (t.setReco f p) := h.setFlight

theorem KeepsCanon.recAdmit (h : KeepsCanon s t) {n} : KeepsCanon s (State.recAdmit n t) := by
  induction n generalizing t with
  | zero => exact h
  | succ n ih =>
    unfold State.recAdmit
    split
    · exact h
    · exact .ite h <| .ite (ih h.refuseFlight) <| .ite h.setFlight.setReg h.setFlight

theorem KeepsCanon.recNext (h : KeepsCanon s t) : KeepsCanon s t.recNext := h.recAdmit

theorem KeepsCanon.recDone (h : KeepsCanon s t) {id info} : KeepsCanon s (t.recDone id info) := h.complete.recNext

theorem KeepsCanon.runCommit (h : KeepsCanon s t) {id} : KeepsCanon s (t.runCommit id) := by
  unfold State.runCommit
  split
  · exact h
  · extract_lets _ _ s1
    have hs1 : KeepsCanon s s1 := .ite h.bump.raiseErr h
    refine .ite h.recDone <| .ite ?_ ?_
    · refine .ite hs1.setReco ?_
      split
      · exact hs1.recDone
      · exact hs1.setReco
    · split
      · extract_lets
        split
        · exact h.recDone
        · exact .ite h.recDone (KeepsCanon.setReco (.ite h h.readAs.storeAs))
      · exact (KeepsCanon.setCommit (.ite h.bump h)).setRf.bump.recDone

theorem KeepsCanon.recMessage (h : KeepsCanon s t) {e bs body} : KeepsCanon s (t.recMessage e bs body) :=
  h.setConn.foldl fun _ _ h' => h'.queueData

theorem KeepsCanon.buddyLost (h : KeepsCanon s t) {f} : KeepsCanon s (t.buddyLost f) := h.setPair.raiseErr.recDone

theorem KeepsCanon.runBuddySend (h : KeepsCanon s t) {id} : KeepsCanon s (t.runBuddySend id) := by
  unfold State.runBuddySend
  split
  · exact h
  · refine .ite h.recDone <| .ite h.buddyLost <| .ite h.recDone ?_
    refine .ite ?_ (.ite h.buddyLost (.ite h.recDone (.ite h h.setRf.bump.recDone)))
    extract_lets
    split
    · exact h.recDone
    · exact (h.foldl fun _ _ h' => h'.recMessage).recMessage.setReco

theorem KeepsCanon.buddySealed (h : KeepsCanon s t) {slot off} : KeepsCanon s (t.buddySealed slot off) :=
  .ite h h.same.showHosted

theorem KeepsCanon.sendPairing (h : KeepsCanon s t) {e answer} : KeepsCanon s (t.sendPairing e answer) :=
  .ite h h.recMessage

theorem KeepsCanon.writePair (h : KeepsCanon s t) {v} : KeepsCanon s (t.writePair v) :=
  .ite h.setReg.setPair (.ite h.setReg h.setReg.setPair.sendPairing)

theorem KeepsCanon.pairingMessage (h : KeepsCanon s t) {e domain answer} : KeepsCanon s (t.pairingMessage e domain answer) := by
  unfold State.pairingMessage
  refine .ite h <| .ite h.setRf.setPair.raiseErr <| .ite h.setRf.setPair.raiseErr.sendPairing ?_
  exact .ite (.ite h.setRf.sendPairing.sendPairing h.setRf.sendPairing) h.setRf.setPair

theorem KeepsCanon.showExtent (h : KeepsCanon s t) {i} : KeepsCanon s (t.showExtent i) :=
  .ite h.setReg.setReg (.ite h.setReg.setReg h.setReg.setReg)

theorem KeepsCanon.dropStook (h : KeepsCanon s t) : KeepsCanon s t.dropStook := h.setRf.setReg.setReg

theorem KeepsCanon.runStook (h : KeepsCanon s t) {id} : KeepsCanon s (t.runStook id) := by
  unfold State.runStook
  split
  · exact h
  · refine .ite h.recDone <| .ite (.ite h.bump.recDone h.same.storeAs.setRf.setReco) ?_
    split
    · exact h
    · extract_lets
      split
      · exact h.dropStook.recDone
      · exact h.readAs.storeAs.setReco

theorem KeepsCanon.stookStaged (h : KeepsCanon s t) {id} : KeepsCanon s (t.stookStaged id) := by
  unfold State.stookStaged
  split
  · exact h
  · exact .ite h h.storeAs.setRf.showExtent.recDone

theorem KeepsCanon.drainAck (h : KeepsCanon s t) {i} : KeepsCanon s (t.drainAck i) :=
  .ite h.showExtent h.dropStook.setRf.setRf.bump.raise

theorem KeepsCanon.fillReady (h : KeepsCanon s t) {n} : KeepsCanon s (t.fillReady n) := .ite h.same.setFill h

theorem KeepsCanon.fillFail (h : KeepsCanon s t) {f code} : KeepsCanon s (t.fillFail f code) := h.setFill.raiseErr.recDone

theorem KeepsCanon.fillSealed (h : KeepsCanon s t) {f set} : KeepsCanon s (t.fillSealed f set) :=
  h.setCommit.setFill.setRf.bump.raise.recDone

theorem KeepsCanon.fillPlace (h : KeepsCanon s t) {f p set} : KeepsCanon s (t.fillPlace f p set) :=
  .ite h.fillFail h.setFill.setReco

theorem KeepsCanon.fillAsk (h : KeepsCanon s t) {f p e user b dst len keep} :
    KeepsCanon s (t.fillAsk f p e user b dst len keep) :=
  h.setConn.queueData.setReco

theorem KeepsCanon.refillStook (h : KeepsCanon s t) {f} : KeepsCanon s (t.refillStook f) := by
  unfold State.refillStook
  refine .ite h.same.setFill.setReco ?_
  split
  · exact h
  · exact .ite h.setFill.recDone (.ite h.fillFail h.fillPlace)

theorem KeepsCanon.refillBuddy (h : KeepsCanon s t) {f} : KeepsCanon s (t.refillBuddy f) :=
  .ite h.fillFail (.ite h.fillAsk (.ite h (.ite h.refuseFlight.recNext h.fillPlace)))

theorem KeepsCanon.refillEntry (h : KeepsCanon s t) {f p source off e} : KeepsCanon s (t.refillEntry f p source off e) := by
  unfold State.refillEntry
  refine .ite (.ite h.setFill.recDone h.storeAs.setReco) ?_
  exact .ite h.fillFail (.ite (.ite h.fillAsk h.fillAsk) (.ite h h.setReco))

theorem KeepsCanon.runRefill (h : KeepsCanon s t) {id} : KeepsCanon s (t.runRefill id) := by
  unfold State.runRefill
  split
  · exact h
  · refine .ite h.setFill.recDone <| .ite (.ite h.refillStook (.ite h.refillBuddy h.fillPlace)) ?_
    split
    · exact h.refillEntry
    · exact h.fillSealed

theorem KeepsCanon.noteCapacity (h : KeepsCanon s t) {before} : KeepsCanon s (t.noteCapacity before) := .ite h.raiseErr h

theorem KeepsCanon.resetRecovery (h : KeepsCanon s t) : KeepsCanon s t.resetRecovery := h.dropStook.setFill

/-! ### Power -/

theorem KeepsCanon.idleEntry (h : KeepsCanon s t) : KeepsCanon s t.idleEntry := by
  unfold State.idleEntry
  split
  · exact .ite h.same h
  · exact h

theorem KeepsCanon.leaveIdle (h : KeepsCanon s t) : KeepsCanon s t.leaveIdle := h.same

theorem KeepsCanon.setTarget (h : KeepsCanon s t) {t'} : KeepsCanon s (t.setTarget t') := by
  unfold State.setTarget
  extract_lets s1
  have hs1 : KeepsCanon s s1 := h.setRf
  clear_value s1
  exact .ite hs1 hs1.same

theorem KeepsCanon.hitchWake (h : KeepsCanon s t) {lanes} : KeepsCanon s (t.hitchWake lanes) := .ite h.same.retrainHitch h

theorem KeepsCanon.sleepLoss (h : KeepsCanon s t) : KeepsCanon s t.sleepLoss :=
  (h.zeroRange.same.foldl fun _ _ h' => h'.setLink.bump.raiseErr).refreshService

theorem KeepsCanon.fallowLoss (h : KeepsCanon s t) : KeepsCanon s t.fallowLoss := by
  unfold State.fallowLoss
  extract_lets s1
  have hs1 : KeepsCanon s s1 := h.foldl fun _ _ h' => (h'.foldl fun _ _ h2 => h2.zeroBank).freshRegion
  clear_value s1
  exact hs1.same

theorem KeepsCanon.noteMismatch (h : KeepsCanon s t) {bad} : KeepsCanon s (t.noteMismatch bad) := by
  unfold State.noteMismatch
  extract_lets _ _ _ _ _ _ _ _ s2 s3
  have hs2 : KeepsCanon s s2 := .ite h.same.bump h.same
  have hs3 : KeepsCanon s s3 := .ite hs2.raiseErr hs2
  exact .ite (.ite hs3.setRf.raiseErr hs3) (.ite hs3.setRf hs3)

theorem KeepsCanon.setDuty (h : KeepsCanon s t) : KeepsCanon s t.setDuty := h.setRf

theorem KeepsCanon.governorWindow (h : KeepsCanon s t) {report mv estimate} :
    KeepsCanon s (t.governorWindow report mv estimate) :=
  .ite h h.noteMismatch.same.setReg.bumpBy.setRf.setDuty

theorem KeepsCanon.sensorRead (h : KeepsCanon s t) {die k t'} : KeepsCanon s (t.sensorRead die k t') := by
  unfold State.sensorRead
  extract_lets _ _ _ _ s1
  have hs1 : KeepsCanon s s1 := .ite h.bump h
  exact .ite (.ite h.same.setRf h.same) (.ite (.ite hs1.same.raiseErr hs1.same.raiseErr) hs1.same)

theorem KeepsCanon.thermalStep (h : KeepsCanon s t) : KeepsCanon s t.thermalStep := by
  unfold State.thermalStep
  refine .ite h ?_
  extract_lets _ _ _ _ _ _ _ s2
  have hs2 : KeepsCanon s s2 := h.same.setRf.setDuty
  exact .ite (.ite hs2 hs2.raiseErr) (.ite hs2.raiseErr hs2)

theorem KeepsCanon.setDroop (h : KeepsCanon s t) {f d} : KeepsCanon s (t.setDroop f d) := h.same

theorem KeepsCanon.droopTrip (h : KeepsCanon s t) {f mv} : KeepsCanon s (t.droopTrip f mv) := .ite h h.setDroop.bump

theorem KeepsCanon.stretchEnd (h : KeepsCanon s t) {f ac fc} : KeepsCanon s (t.stretchEnd f ac fc) :=
  .ite h (.ite h.setDroop.bumpBy.bumpBy.raiseErr h.setDroop.bumpBy.bumpBy)

theorem KeepsCanon.submitChange (h : KeepsCanon s t) {t'} : KeepsCanon s (t.submitChange t') := h.setReg.same

theorem KeepsCanon.voltageRamp (h : KeepsCanon s t) : KeepsCanon s t.voltageRamp := by
  unfold State.voltageRamp
  split
  · exact .ite h.same h
  · exact h

theorem KeepsCanon.acChange (h : KeepsCanon s t) {f} : KeepsCanon s (t.acChange f) := by
  unfold State.acChange
  split
  · exact h
  · exact .ite h (.ite h.same.bump.raise h.setDroop)

/-! ### Tithe -/

theorem KeepsCanon.setTithe (h : KeepsCanon s t) {t'} : KeepsCanon s (t.setTithe t') := h.same

theorem KeepsCanon.titheSample (h : KeepsCanon s t) {mv ma} : KeepsCanon s (t.titheSample mv ma) := .ite h h.setTithe

theorem KeepsCanon.titheCheck (h : KeepsCanon s t) {deviates} : KeepsCanon s (t.titheCheck deviates) :=
  .ite h (.ite h.setTithe h.setTithe)

theorem KeepsCanon.titheClose (h : KeepsCanon s t) {loss tamper mark} : KeepsCanon s (t.titheClose loss tamper mark) :=
  h.setTithe

theorem KeepsCanon.titheRollover (h : KeepsCanon s t) : KeepsCanon s t.titheRollover := .ite h.titheClose h

theorem KeepsCanon.titheTamper (h : KeepsCanon s t) {kind mark} : KeepsCanon s (t.titheTamper kind mark) :=
  .ite h (.ite h.setTithe h.setTithe.titheClose)

theorem KeepsCanon.titheLoss (h : KeepsCanon s t) {written tamper mark} : KeepsCanon s (t.titheLoss written tamper mark) := by
  unfold State.titheLoss
  refine .ite h ?_
  extract_lets _ s1
  have hs1 : KeepsCanon s s1 := by
    unfold s1
    split
    · exact h.setTithe
    · exact h
  exact KeepsCanon.setTithe (.ite hs1.titheClose hs1)

theorem KeepsCanon.titheCheckpoint (h : KeepsCanon s t) : KeepsCanon s t.titheCheckpoint := .ite h h.setTithe

theorem KeepsCanon.titheReturn (h : KeepsCanon s t) : KeepsCanon s t.titheReturn :=
  .ite h (.ite h.setTithe (.ite h.setTithe h.setTithe))

theorem KeepsCanon.uartSend (h : KeepsCanon s t) {cmd status payload} : KeepsCanon s (t.uartSend cmd status payload) :=
  h.setTithe

theorem KeepsCanon.uartIdent (h : KeepsCanon s t) {args crc} : KeepsCanon s (t.uartIdent args crc) :=
  .ite h (.ite h.uartSend h.uartSend)

theorem KeepsCanon.uartStatus (h : KeepsCanon s t) {args crc} : KeepsCanon s (t.uartStatus args crc) :=
  .ite h (.ite h.uartSend h.uartSend)

theorem KeepsCanon.uartRecord (h : KeepsCanon s t) {args crc} : KeepsCanon s (t.uartRecord args crc) :=
  .ite h (.ite h.uartSend (by split <;> exact h.uartSend))

theorem KeepsCanon.uartNow (h : KeepsCanon s t) {args crc} : KeepsCanon s (t.uartNow args crc) :=
  .ite h (.ite h.uartSend h.uartSend)

theorem KeepsCanon.uartMark (h : KeepsCanon s t) {args crc} : KeepsCanon s (t.uartMark args crc) :=
  .ite h (.ite h.uartSend h.titheClose.uartSend)

theorem KeepsCanon.uartTamper (h : KeepsCanon s t) {args crc} : KeepsCanon s (t.uartTamper args crc) :=
  .ite h (.ite h.uartSend (by split <;> exact h.uartSend))

theorem KeepsCanon.mirrorWord (h : KeepsCanon s t) {off v} : KeepsCanon s (t.mirrorWord off v) := h.setReg.same

theorem KeepsCanon.snapWord (h : KeepsCanon s t) {off v} : KeepsCanon s (t.snapWord off v) :=
  .ite h.mirrorWord.raiseErr (.ite h.mirrorWord.raiseErr h.mirrorWord)

theorem KeepsCanon.mirrorSnapshot (h : KeepsCanon s t) : KeepsCanon s t.mirrorSnapshot := by
  unfold State.mirrorSnapshot
  refine .ite h ?_
  extract_lets
  split
  · exact h.same.mirrorWord
  · exact .ite h.same.snapWord.mirrorWord h.same.snapWord

theorem KeepsCanon.mirrorRecord (h : KeepsCanon s t) : KeepsCanon s t.mirrorRecord := by
  unfold State.mirrorRecord
  refine .ite h ?_
  split
  · split
    · exact h
    · exact h.same
  · exact .ite h.same.mirrorWord.setReg.setReg.raise h.same.mirrorWord

theorem KeepsCanon.mirrorStale (h : KeepsCanon s t) : KeepsCanon s t.mirrorStale := .ite h.setRf.raiseErr h

/-! ### FieldLoss -/

theorem KeepsCanon.bankStart (h : KeepsCanon s t) {f b} : KeepsCanon s (t.bankStart f b) :=
  .ite h.plotRestore.plotLeave.same h

theorem KeepsCanon.setField (h : KeepsCanon s t) {f x} : KeepsCanon s (t.setField f x) := h.same

theorem KeepsCanon.setHedge (h : KeepsCanon s t) {l h'} : KeepsCanon s (t.setHedge l h') :=
  .ite h.setField h.setField.setField

theorem KeepsCanon.hedgeReplay (h : KeepsCanon s t) {l} : KeepsCanon s (t.hedgeReplay l) := .ite h (.ite h.bump h.bump.bump)

theorem KeepsCanon.reroute (h : KeepsCanon s t) {l} : KeepsCanon s (t.reroute l) := h.setHedge.raiseErr.raiseErr

theorem KeepsCanon.hedgeReroute (h : KeepsCanon s t) {l} : KeepsCanon s (t.hedgeReroute l) := .ite h.reroute h

theorem KeepsCanon.endTouching (h : KeepsCanon s t) {id} : KeepsCanon s (t.endTouching id) := by
  unfold State.endTouching
  split
  · exact h
  · extract_lets
    split
    · exact .ite h.setFlight h.setFlight
    · exact .ite h.setFlight h.complete
    · split
      · exact h
      · exact .ite h.bump.bump.complete (.ite h (.ite h.setColl h.withdraw))
    · exact .ite h h.endTransfer
    · split
      · exact .ite h.abortFurlong h.complete
      · exact h.complete
    · exact h.complete
    · exact .ite h (.ite h.dropStook.recDone (.ite h.setFill.recDone h))
    · exact h.setFlight

theorem KeepsCanon.failUnits (h : KeepsCanon s t) {f} : KeepsCanon s (t.failUnits f) := h.same

theorem KeepsCanon.dropField (h : KeepsCanon s t) {f} : KeepsCanon s (t.dropField f) :=
  h.zeroRange.zeroRange.freshRegion.same.setPlot.emptyInRegion

theorem KeepsCanon.tellNeighbour (h : KeepsCanon s t) {west g} : KeepsCanon s (t.tellNeighbour west g) :=
  .ite h h.setField.raiseErr

theorem KeepsCanon.endReduce (h : KeepsCanon s t) {f id} : KeepsCanon s (t.endReduce f id) := by
  unfold State.endReduce
  split
  · exact h
  · exact .ite ((h.foldl fun _ _ h' => h'.raiseErr).complete) h

theorem KeepsCanon.loseField (h : KeepsCanon s t) {f} : KeepsCanon s (t.loseField f) := by
  unfold State.loseField
  refine .ite h ?_
  extract_lets _ _ _ _ s2 _ s4
  have hs2 : KeepsCanon s s2 := .optionElim h.setField (fun _ => h.setField.tellNeighbour)
  have hs4 : KeepsCanon s s4 := by
    unfold s4
    refine KeepsCanon.foldl ?_ fun _ _ h' => h'.endReduce
    exact (KeepsCanon.failUnits (.optionElim hs2 (fun _ => hs2.tellNeighbour))).foldl fun _ _ h' => h'.complete
  exact ((hs4.foldl fun _ _ h' => h'.endTouching).restartFill.dropField.foldl fun _ _ h' => h'.rehomeEngine).recNext

theorem KeepsCanon.hedgeLost (h : KeepsCanon s t) {f} : KeepsCanon s (t.hedgeLost f) := .ite h.loseField.noteCapacity h

theorem KeepsCanon.failReeve (h : KeepsCanon s t) {place c code check work n} :
    KeepsCanon s (t.failReeve place c code check work n) := by
  unfold State.failReeve
  refine .ite h ?_
  extract_lets _ s1 page _ s2
  have hs1 : KeepsCanon s s1 := .ite h.setField h.same
  have hs2 : KeepsCanon s s2 := by
    clear_value page
    cases page with
    | none => exact hs1
    | some f => exact .ite hs1.raiseErr.bumpBy hs1.raiseErr
  exact .ite hs2 <| .ite hs2.loseField <| hs2.foldl fun _ _ h' => .ite h' h'.raiseErr

theorem KeepsCanon.reeveFault (h : KeepsCanon s t) {place c check held} : KeepsCanon s (t.reeveFault place c check held) :=
  .ite h h.failReeve.noteCapacity

/-! ### Reset -/

theorem KeepsCanon.logOpen (h : KeepsCanon s t) {info} : KeepsCanon s (t.logOpen info) := h.drawn.logAdd

theorem KeepsCanon.setStage (h : KeepsCanon s t) {stage progress} : KeepsCanon s (t.setStage stage progress) := h.same

theorem KeepsCanon.haltBoot (h : KeepsCanon s t) {code} : KeepsCanon s (t.haltBoot code) := h.same.logAdd

theorem KeepsCanon.journalFlush (h : KeepsCanon s t) : KeepsCanon s t.journalFlush := h.journalFlushN

theorem KeepsCanon.journalPage (h : KeepsCanon s t) : KeepsCanon s t.journalPage := by
  unfold State.journalPage
  split
  · exact h
  · exact .ite h.journalFlushN h

theorem KeepsCanon.putBootRec (h : KeepsCanon s t) {r} : KeepsCanon s (t.putBootRec r) := .ite h.same h.same

theorem KeepsCanon.setSlotImg (h : KeepsCanon s t) {k x} : KeepsCanon s (t.setSlotImg k x) := .ite h.same h.same

theorem KeepsCanon.takeTry (h : KeepsCanon s t) : KeepsCanon s t.takeTry := by
  unfold State.takeTry
  extract_lets
  split
  · exact h
  · exact .ite h.putBootRec.same h.putBootRec

theorem KeepsCanon.bootFirmware (h : KeepsCanon s t) : KeepsCanon s t.bootFirmware := by
  unfold State.bootFirmware
  extract_lets
  split
  · exact h.takeTry.same.setStage
  · exact h.takeTry.haltBoot

theorem KeepsCanon.enterCause (h : KeepsCanon s t) : KeepsCanon s t.enterCause := .ite h h.same.journalAdd.logOpen

theorem KeepsCanon.coldReset {cause addr src} : KeepsCanon s (t.coldReset cause addr src) := .ofEmpty rfl rfl

theorem KeepsCanon.mainInput (h : KeepsCanon s t) : KeepsCanon s t.mainInput := .ite h (.ite .coldReset h.same)

theorem KeepsCanon.standbyInput (h : KeepsCanon s t) : KeepsCanon s t.standbyInput := .ite h .coldReset

theorem KeepsCanon.resetPin (h : KeepsCanon s t) {lowUs} : KeepsCanon s (t.resetPin lowUs) := .ite .coldReset h

theorem KeepsCanon.diesOff (h : KeepsCanon s t) : KeepsCanon s t.diesOff :=
  ⟨fun _ => rfl, fun hs => State.regsOk_filter (h.regs hs) rfl⟩

theorem KeepsCanon.holdOff (h : KeepsCanon s t) : KeepsCanon s t.holdOff := h.same

theorem KeepsCanon.vinLow (h : KeepsCanon s t) : KeepsCanon s t.vinLow :=
  .ite h (.ite (KeepsCanon.diesOff (.ite h.same.logAdd h.same)) (.ite h.same.logAdd h.same))

theorem KeepsCanon.vinHigh (h : KeepsCanon s t) : KeepsCanon s t.vinHigh :=
  .ite h (KeepsCanon.holdOff (.ite h.logAdd.diesOff h.logAdd))

theorem KeepsCanon.vstbyLow (h : KeepsCanon s t) : KeepsCanon s t.vstbyLow :=
  .ite h (KeepsCanon.same (.ite h.enterCause.journalFlush.diesOff h.enterCause.journalFlush))

theorem KeepsCanon.refclkLost (h : KeepsCanon s t) : KeepsCanon s t.refclkLost := .ite h.logAdd.diesOff.holdOff h

theorem KeepsCanon.mclkLost (h : KeepsCanon s t) : KeepsCanon s t.mclkLost := .ite h.same.logAdd h

theorem KeepsCanon.mclkReturn (h : KeepsCanon s t) : KeepsCanon s t.mclkReturn := h.same

theorem KeepsCanon.junctionRead (h : KeepsCanon s t) {die k t'} : KeepsCanon s (t.junctionRead die k t') :=
  .ite h (.ite h.sensorRead.same.logAdd.diesOff.holdOff h.sensorRead)

theorem KeepsCanon.strapSample (h : KeepsCanon s t) {pwr slot boot} : KeepsCanon s (t.strapSample pwr slot boot) := by
  unfold State.strapSample
  refine .ite h <| .ite (.ite h h.same.bump.logOpen.raise) ?_
  exact .ite (.ite h.same.same.logOpen h.same.same) (.ite h.same.haltBoot h.same)

theorem KeepsCanon.hedgeTrain (h : KeepsCanon s t) {links} : KeepsCanon s (t.hedgeTrain links) :=
  (((h.foldl fun _ _ h' => .ite h'.setHedge h').foldl fun _ _ h' => h'.reroute).foldl fun _ _ h' => h'.loseField).same

theorem KeepsCanon.trainStacks (h : KeepsCanon s t) {ok} : KeepsCanon s (t.trainStacks ok) :=
  h.foldl fun _ _ h' => .ite h'.setStack h'.setStack.raiseErr

theorem KeepsCanon.selfTest (h : KeepsCanon s t) {o} : KeepsCanon s (t.selfTest o) := by
  unfold State.selfTest
  extract_lets _ _ s2 s3 s4 s5
  have hs2 : KeepsCanon s s2 := h.same.foldl fun _ _ h' => h'.failArray
  have hs3 : KeepsCanon s s3 := hs2.foldl fun _ _ h' => h'.failEngine
  have hs4 : KeepsCanon s s4 := hs3.foldl fun _ _ h' => h'.failCore
  have hs5 : KeepsCanon s s5 := hs4.foldl fun _ _ h' => h'.same.raiseErr
  exact .ite hs5.raiseErr hs5

theorem KeepsCanon.reeveTest (h : KeepsCanon s t) {ok} : KeepsCanon s (t.reeveTest ok) := h.foldl fun _ _ h' => h'.failReeve

theorem KeepsCanon.openFabric (h : KeepsCanon s t) : KeepsCanon s t.openFabric := by
  unfold State.openFabric
  extract_lets _ _ _ _ _ s2 s3
  have hs2 : KeepsCanon s s2 := .ite h.same.raiseErr h.same
  have hs3 : KeepsCanon s s3 := .ite hs2.linkError hs2
  exact .ite hs3.raiseErr hs3

theorem KeepsCanon.stageDone (h : KeepsCanon s t) {o} : KeepsCanon s (t.stageDone o) := by
  unfold State.stageDone
  extract_lets _ s1
  have hs1 : KeepsCanon s s1 := .ite h.logOpen h
  refine .ite h <| .ite h.setStage <| .ite (.ite h (.ite h.same h.setStage.enterCause)) ?_
  refine .ite (.ite hs1.setStage hs1.haltBoot) <| .ite h.bootFirmware ?_
  refine .ite (.ite h (.ite h.haltBoot (.ite h.setStage h.setStage))) <| .ite (.ite h h.same.setStage) <| .ite h ?_
  refine .ite h.hedgeTrain.setStage <| .ite h.setStage <| .ite h.setStage <| .ite h.trainStacks.setStage ?_
  exact .ite h.selfTest.setStage (.ite h.reeveTest.openFabric h)

theorem KeepsCanon.stageTimeout (h : KeepsCanon s t) {links} : KeepsCanon s (t.stageTimeout links) :=
  .ite h (.ite (.ite h.hedgeTrain.setStage h) h.haltBoot)

theorem KeepsCanon.beginWarm (h : KeepsCanon s t) {src} : KeepsCanon s (t.beginWarm src) :=
  h.journalAdd.journalFlush.logOpen.bump.same

theorem KeepsCanon.requestWarm (h : KeepsCanon s t) {src} : KeepsCanon s (t.requestWarm src) :=
  .ite h.bump.logOpen (.ite h.same h.beginWarm)

theorem KeepsCanon.answerHeld (h : KeepsCanon s t) : KeepsCanon s t.answerHeld := h.same.foldl fun _ _ h' => h'.respond

theorem KeepsCanon.flushWork (h : KeepsCanon s t) : KeepsCanon s t.flushWork := by
  unfold State.flushWork
  extract_lets _ s1
  have hs1 : KeepsCanon s s1 := h.filterRegs rfl rfl
  exact hs1.setRf.resetThresher.resetSwath.resetSample.dropRings.dropSteps.resetRecovery

theorem KeepsCanon.warmStage (h : KeepsCanon s t) : KeepsCanon s t.warmStage := by
  unfold State.warmStage
  refine .ite h <| .ite ((h.foldl fun _ _ h' => h'.plotRestore).answerHeld.setStage) ?_
  exact .ite h.flushWork.setStage (.ite h.mapOut.setStage ((h.foldl fun _ _ h' => .ite h' h'.resetGlean).openFabric))

theorem KeepsCanon.winter : KeepsCanon s t.winter := .ofEmpty rfl rfl

theorem KeepsCanon.powerReached (h : KeepsCanon s t) : KeepsCanon s t.powerReached := by
  unfold State.powerReached
  split
  · exact h
  · refine .ite .winter ?_
    extract_lets s1 _ _ s3
    have hs1 : KeepsCanon s s1 := .ite h.sleepLoss (.ite h.sleepLoss.fallowLoss h)
    have hs3 : KeepsCanon s s3 := hs1.same.bump.raise.noteCapacity
    split
    · exact .ite hs3.beginWarm hs3
    · exact hs3

theorem KeepsCanon.wake (h : KeepsCanon s t) : KeepsCanon s t.wake := .ite (.ofEmpty rfl rfl) h

/-! ### Steward -/

theorem KeepsCanon.updEnd (h : KeepsCanon s t) {u outcome} : KeepsCanon s (t.updEnd u outcome) := h.same.logAdd.raise

theorem KeepsCanon.updStage (h : KeepsCanon s t) : KeepsCanon s t.updStage := .ite h.same.setSlotImg h.same

theorem KeepsCanon.stageComplete (h : KeepsCanon s t) {flashOk} : KeepsCanon s (t.stageComplete flashOk) := by
  unfold State.stageComplete
  split
  · exact .ite h (.ite h.updEnd (.ite h.updEnd h.setSlotImg.same.updEnd))
  · exact h

theorem KeepsCanon.updActivate (h : KeepsCanon s t) : KeepsCanon s t.updActivate := h.putBootRec.updEnd

theorem KeepsCanon.updConfirm (h : KeepsCanon s t) : KeepsCanon s t.updConfirm := h.putBootRec.same.updEnd

theorem KeepsCanon.updAbandon (h : KeepsCanon s t) : KeepsCanon s t.updAbandon := h.putBootRec.same.updEnd

theorem KeepsCanon.updCommand (h : KeepsCanon s t) {src cmd} : KeepsCanon s (t.updCommand src cmd) :=
  .ite h.journalAdd.updStage (.ite h.journalAdd.updActivate (.ite h.journalAdd.updConfirm h.journalAdd.updAbandon))

theorem KeepsCanon.quoteStart (h : KeepsCanon s t) : KeepsCanon s t.quoteStart := h.same

theorem KeepsCanon.writeCerts (h : KeepsCanon s t) : KeepsCanon s t.writeCerts := h.storeAs

theorem KeepsCanon.quoteDone (h : KeepsCanon s t) : KeepsCanon s t.quoteDone :=
  .ite h ((KeepsCanon.same (.ite h.storeAs h)).raise)

/-! ### Issue -/

theorem KeepsCanon.parseWindow (h : KeepsCanon s t) {w} : KeepsCanon s (t.parseWindow w) := by
  unfold State.parseWindow
  extract_lets _ s0
  have hs0 : KeepsCanon s s0 := .ite h.bump h
  refine .ite h ?_
  split
  · exact h
  · exact .ite h.loseFraming (.ite h (.ite hs0.setWin.refuseDesc hs0.setWin))

theorem KeepsCanon.noteIssue (h : KeepsCanon s t) {d step} : KeepsCanon s (t.noteIssue d step) := by
  unfold State.noteIssue
  split
  · exact h.notePass
  · exact h.rehomeEngine
  · exact h.noteColl
  · exact h.recNext
  · exact h

theorem KeepsCanon.issueFlight (h : KeepsCanon s t) {origin step d} : KeepsCanon s (t.issueFlight origin step d) := by
  unfold State.issueFlight
  extract_lets _ _ _ s1 s2
  have hs1 : KeepsCanon s s1 := .ite h.openStep.leaveIdle h
  have hs2 : KeepsCanon s s2 := hs1.same.noteIssue
  exact .ite hs2 hs2.complete

theorem KeepsCanon.issueWindow (h : KeepsCanon s t) {w} : KeepsCanon s (t.issueWindow w) := by
  unfold State.issueWindow
  extract_lets
  split
  · exact h
  · exact .ite h (.ite h (.ite h.setWin.refuseDesc (KeepsCanon.issueFlight (.ite h.setWin.bump.bump h.setWin.bump))))

theorem KeepsCanon.runNop (h : KeepsCanon s t) {id} : KeepsCanon s (t.runNop id) := by
  unfold State.runNop
  split
  · exact h
  · exact h.setFlight.complete

theorem KeepsCanon.runSignal (h : KeepsCanon s t) {id} : KeepsCanon s (t.runSignal id) := by
  unfold State.runSignal
  split
  · exact h
  · exact .ite h.complete h

theorem KeepsCanon.setFurlong (h : KeepsCanon s t) {fu} : KeepsCanon s (t.setFurlong fu) := h.same

theorem KeepsCanon.beginStep (h : KeepsCanon s t) {fu step origin pre} : KeepsCanon s (t.beginStep fu step origin pre) :=
  KeepsCanon.setFurlong (.ite h.setRf.emptyProbes.same h.setRf)

theorem KeepsCanon.firstOf (h : KeepsCanon s t) {fu} : KeepsCanon s (t.firstOf fu) := by
  unfold State.firstOf
  refine .ite h ?_
  split
  · exact h.beginStep
  · exact h

theorem KeepsCanon.nextExpansion (h : KeepsCanon s t) {fu} : KeepsCanon s (t.nextExpansion fu) := by
  unfold State.nextExpansion
  split
  · refine .ite ?_ h.firstOf
    split
    · exact h.beginStep
    · exact h
  · exact h.firstOf

theorem KeepsCanon.issueInstance (h : KeepsCanon s t) {fu rest step pre phase t' chunk micro} :
    KeepsCanon s (t.issueInstance fu rest step pre phase t' chunk micro) :=
  .ite h (.ite h.setFurlong.refuseInstance h.setFurlong.issueFlight)

theorem KeepsCanon.expandNext (h : KeepsCanon s t) : KeepsCanon s t.expandNext := by
  unfold State.expandNext
  split
  · exact h
  · refine .ite h ?_
    extract_lets
    split
    · exact .ite h.abortFurlong h.nextExpansion
    · exact h.setFurlong.furlongCheck
    · exact h.setFurlong
    · exact .ite h.clearFlag.setFurlong h
    · exact .ite h.abortFurlong h.issueInstance

/-! ### HostWait -/

theorem KeepsCanon.refreshWaits (h : KeepsCanon s t) : KeepsCanon s t.refreshWaits := h.same

theorem KeepsCanon.hostWaitLate (h : KeepsCanon s t) {i} : KeepsCanon s (t.hostWaitLate i) := by
  unfold State.hostWaitLate
  split
  · exact h
  · refine .ite h ?_
    extract_lets _ s2 s3
    have hs2 : KeepsCanon s s2 := h.same.pauseJob.raiseErr
    have hs3 : KeepsCanon s s3 := by
      unfold s3
      split
      · exact hs2.raise
      · exact hs2
    exact hs3

theorem KeepsCanon.almanacTick (h : KeepsCanon s t) : KeepsCanon s t.almanacTick := h.refreshWaits.almAdvance.same

/-! ### RegRead -/

theorem KeepsCanon.settle (h : KeepsCanon s t) {k i off} : KeepsCanon s (t.settle k i off) := .ite h h.bumpBy.same

/-! ### RegWrite -/

theorem KeepsCanon.clearCounter (h : KeepsCanon s t) {a} : KeepsCanon s (t.clearCounter a) := h.setReg.same

theorem KeepsCanon.resetRegs (h : KeepsCanon s t) {k i} : KeepsCanon s (t.resetRegs k i) :=
  h.foldl fun _ _ h' => .ite h'.setRf (.ite h'.clearCounter h')

theorem KeepsCanon.blockReset (h : KeepsCanon s t) {k i} : KeepsCanon s (t.blockReset k i) := by
  unfold State.blockReset
  extract_lets
  split
  · exact h.resetRegs.resetWindow
  · exact h.resetRegs.resumeJob
  · exact h.resetRegs.resetArrayBlock
  · exact h.resetRegs.resetGlean
  · exact h.resetRegs.resetDrill
  · exact h.resetRegs.ttReset
  · exact h.resetRegs.resetSamplePage
  · exact h.resetRegs.resetStreams
  · exact h.resetRegs.dropSteps
  · exact h.resetRegs

theorem KeepsCanon.ctrlWrite (h : KeepsCanon s t) {k i v} : KeepsCanon s (t.ctrlWrite k i v) := by
  unfold State.ctrlWrite
  extract_lets was on s0 s1 s2
  have hs1 : KeepsCanon s s1 := KeepsCanon.setReg (.ite (.getD h h.enableChannel) h)
  have hs2 : KeepsCanon s s2 := .ite hs1.enableWinnow (.ite hs1.enablePort.noteCapacity hs1)
  exact .ite hs2.blockReset hs2

theorem KeepsCanon.forceReeve (h : KeepsCanon s t) {place c} : KeepsCanon s (t.forceReeve place c) :=
  h.drawn.drawn.failReeve

theorem KeepsCanon.resetWrite (h : KeepsCanon s t) {src v} : KeepsCanon s (t.resetWrite src v) :=
  .ite h.retrainHitch (.ite h.requestWarm .coldReset)

theorem KeepsCanon.writeEffect (h : KeepsCanon s t) {src k i off v} : KeepsCanon s (t.writeEffect src k i off v) := by
  unfold State.writeEffect
  extract_lets a old new b
  have hb : KeepsCanon s b := h.setReg
  refine .ite h.ctrlWrite <| .ite h.setReg <| .ite h.setReg.setReg.setReg.setReg <| .ite hb ?_
  split
  · exact .ite (.ite h.resumeJob (.ite h.pauseJob h)) (.ite h.refreshWaits.setReg hb)
  · split
    · exact h.resetWrite
    · exact h.updCommand
    · exact .ite (KeepsCanon.writeCerts (.ite h.quoteStart h)) (.ite h.quoteStart h)
    · exact hb
  · split
    · exact h.setReg.same
    · exact h.same
    · exact h.submitRebase
    · exact h.flagControl
    · exact hb
  · split
    · exact h.setTarget
    · exact h.submitChange
    · exact hb
  · exact .ite h.setWin hb
  · exact .ite hb.failCore.noteCapacity hb
  · exact .ite hb.forceArray.noteCapacity hb
  · exact .ite hb.forceEngine.noteCapacity hb
  · exact .ite hb.failStack.noteCapacity hb
  · exact .ite (hb.foldl fun _ _ h' => h'.forceReeve).noteCapacity hb
  · exact .ite (.ite h.emptyCrib h) (.ite hb.emptyCrib hb.emptyWindrow)
  · exact .ite (.getD h h.liveWrite) hb
  · exact .ite hb.enablePort.noteCapacity hb
  · exact .ite (.ite (KeepsCanon.noteCapacity (.getD h h.planLoad)) (.ite h.planUnload.noteCapacity h)) hb
  · split
    · exact h.writePair
    · exact h.drainAck
    · exact h.fillReady
    · exact hb
  · split
    · exact h.bankWrite
    · exact h.bankWrite
    · exact h.bankWrite
    · exact hb
  · exact .ite h.ttWrite hb
  · exact .ite hb.trimKept hb
  · split
    · exact h.foldl fun _ _ h' => h'.setReg
    · exact (h.foldl fun _ _ h' => h'.setReg).maskTag
    · exact hb
  all_goals exact hb

theorem KeepsCanon.writeJournaled (h : KeepsCanon s t) {src k i off v} : KeepsCanon s (t.writeJournaled src k i off v) :=
  KeepsCanon.writeEffect (.ite h.journalAdd h)

theorem KeepsCanon.journalRefused (h : KeepsCanon s t) : KeepsCanon s t.journalRefused := h.bump.raise

theorem KeepsCanon.regWrite (h : KeepsCanon s t) {src a v} : KeepsCanon s (t.regWrite src a v).st := by
  unfold State.regWrite
  split
  · exact h
  · exact .iteReply h <| .iteReply h <| .iteReply h.journalRefused <| .iteReply h h.writeJournaled

theorem KeepsCanon.regRead (h : KeepsCanon s t) {a} : KeepsCanon s (t.regRead a).st := by
  unfold State.regRead
  split
  · exact h
  · exact .iteReply h <| .iteReply h <| .ite h.settle.drawn h.settle

/-! ### Port -/

theorem KeepsCanon.dwRefused (h : KeepsCanon s t) {w code} : KeepsCanon s (t.dwRefused w code).st := h.bump

theorem KeepsCanon.dwMoved (h : KeepsCanon s t) {w} : KeepsCanon s (t.dwMoved w) := h.setRf.bumpBy.leaveIdle

theorem KeepsCanon.dwWrite (h : KeepsCanon s t) {w data} : KeepsCanon s (t.dwWrite w data).st :=
  .iteReply h.dwRefused h.store.writeHint.dwMoved

theorem KeepsCanon.dwRead (h : KeepsCanon s t) {w} : KeepsCanon s (t.dwRead w).st := .iteReply h.dwRefused h.readHint.dwMoved

theorem KeepsCanon.wordAccess (h : KeepsCanon s t) {a write data} : KeepsCanon s (t.wordAccess a write data).st := by
  unfold State.wordAccess
  split
  · exact h
  · exact .iteReply h <| .iteReply (.iteReply h.dwWrite h.dwRead) <| .iteReply (.iteReply h h.cmdPort) h

theorem KeepsCanon.send {r : Reply} (h : KeepsCanon s r.st) {tag a} : KeepsCanon s (r.send tag a) := .ite h.respond h.bump.respond

theorem KeepsCanon.execRequest (h : KeepsCanon s t) {kind tag a payload} : KeepsCanon s (t.execRequest kind tag a payload) :=
  .ite h.regRead.send <| .ite (.ite h.respond.regWrite h.regWrite.send) <| .ite h.wordAccess.send h.wordAccess.send

theorem KeepsCanon.holdRequest (h : KeepsCanon s t) {tag a} : KeepsCanon s (t.holdRequest tag a) :=
  KeepsCanon.same (.ite h.bump h)

theorem KeepsCanon.request (h : KeepsCanon s t) {kind tag a payload} : KeepsCanon s (t.request kind tag a payload) :=
  .ite (.ite h.holdRequest h.respond) <| .ite h.respond <| .ite (.send h) h.execRequest

theorem KeepsCanon.receiveFlit (h : KeepsCanon s t) {seq header payload} : KeepsCanon s (t.receiveFlit seq header payload) := by
  unfold State.receiveFlit
  refine .ite h.linkCtrlReceived <| .ite h <| .ite (.ite h.discardFlit h) <| .ite h.discardFlit <| .ite h ?_
  exact .ite h.same.discardFlit h.same.request

theorem KeepsCanon.wordWriteFlit (h : KeepsCanon s t) {seq tag k i data} : KeepsCanon s (t.wordWriteFlit seq tag k i data) :=
  h.receiveFlit

theorem KeepsCanon.wordReadFlit (h : KeepsCanon s t) {seq tag k i} : KeepsCanon s (t.wordReadFlit seq tag k i) :=
  h.receiveFlit

/-! ### Mgmt -/

theorem KeepsCanon.mgmtAnswer (h : KeepsCanon s t) {b} : KeepsCanon s (t.mgmtAnswer b) := h.same

theorem KeepsCanon.mgmtExec (h : KeepsCanon s t) {src write a v} : KeepsCanon s (t.mgmtExec src write a v).st := by
  unfold State.mgmtExec
  extract_lets s1 r
  have hr : KeepsCanon s r.st := .iteReply h.bump.regWrite h.bump.regRead
  exact .iteReply hr hr.bump

theorem KeepsCanon.mgmtRun (h : KeepsCanon s t) {src write a v answer answerHeld}
    (ha : ∀ u c d, KeepsCanon s u → KeepsCanon s (answer u c d)) : KeepsCanon s (t.mgmtRun src write a v answer answerHeld) := by
  unfold State.mgmtRun
  split
  · exact .ite (ha _ _ _ h).mgmtExec (ha _ _ _ h.mgmtExec)
  · exact h.same
  · exact .ite h h.mgmtAnswer

theorem KeepsCanon.etherAnswer (h : KeepsCanon s t) {write tag seq a v code data} :
    KeepsCanon s (t.etherAnswer write tag seq a v code data) :=
  (KeepsCanon.same (.ite h h.drawn)).mgmtAnswer

theorem KeepsCanon.etherRequest (h : KeepsCanon s t) {b} : KeepsCanon s (t.etherRequest b) := by
  unfold State.etherRequest
  refine .ite h <| .ite h.drawn.mgmtAnswer ?_
  split
  · exact .ite h.mgmtAnswer (h.drawn.mgmtRun fun _ _ _ h' => h'.etherAnswer)
  · exact h.drawn.mgmtRun fun _ _ _ h' => h'.etherAnswer

theorem KeepsCanon.blockAnswer (h : KeepsCanon s t) {write code data} : KeepsCanon s (t.blockAnswer write code data) :=
  .ite h (.ite h.mgmtAnswer h.drawn.mgmtAnswer)

theorem KeepsCanon.blockRequest (h : KeepsCanon s t) {src write a v} : KeepsCanon s (t.blockRequest src write a v) :=
  .ite h (h.drawn.mgmtRun fun _ _ _ h' => h'.blockAnswer)

theorem KeepsCanon.bypass (h : KeepsCanon s t) {tdi} : KeepsCanon s (t.bypass tdi) := .ite h.mgmtAnswer h

theorem KeepsCanon.scan (h : KeepsCanon s t) {tdi} : KeepsCanon s (t.scan tdi) := h.same

theorem KeepsCanon.samplePreload (h : KeepsCanon s t) {tdi} : KeepsCanon s (t.samplePreload tdi) := .ite h.scan h

theorem KeepsCanon.extest (h : KeepsCanon s t) {tdi} : KeepsCanon s (t.extest tdi) := .ite h (.ite h.same h.bypass)

theorem KeepsCanon.idcode (h : KeepsCanon s t) : KeepsCanon s t.idcode := .ite h.mgmtAnswer h

theorem KeepsCanon.writeBy (h : KeepsCanon s t) {via a v} : KeepsCanon s (t.writeBy via a v) := by
  unfold State.writeBy
  split
  · exact h.receiveFlit
  · exact h.etherRequest
  · exact h.blockRequest
  · exact h.blockRequest

/-! ### The step -/

/-- No command faults, and none leaves the canonical forms. -/
theorem KeepsCanon.exec (h : KeepsCanon s t) (c : Instr) : ∃ u, Machine.exec c t = .next u ∧ KeepsCanon s u := by
  cases c with
  | registerWrite => exact ⟨_, rfl, h.receiveFlit⟩
  | pgEventClear | pgErrCodeClear | blockReset | pgCtrlEnableWrite | jobPause | jobResume | resumeWrites | resumeIssue
  | reeveForceFail | arrayForceFail | harrowForceFail | winnowEnable | wnConfigWrite | wnSilentMaskWrite
  | tilthLayoutWrite | tilthBankStateWrite | ttControlWrite | granaryForceFail | decCoreForceFail | cribFlush
  | liveStreamEnable | planLoad | planUnload | flagSet | flagClear | ledgerRecordsWrite | rebaseSubmit | drainAck
  | fillReady | pairRequest | unpair | targetRun | targetRest | targetFallow | targetWinter | acChangeCancel
  | warmResetRequest | coldResetRequest | hitchRetrainRequest | stage | activate | confirm | abandon | quote | certs
  | thrChEnable => exact ⟨_, rfl, h.writeBy⟩
  | hitchTrainingStep => exact ⟨_, rfl, h.trainStep⟩
  | hitchTrainingTimeout => exact ⟨_, rfl, h.trainTimeout⟩
  | linkCtrlReceived => exact ⟨_, rfl, h.linkCtrlReceived⟩
  | fecCodewordUncorrectable => exact ⟨_, rfl, h.fecLost⟩
  | replayRequestRepeat => exact ⟨_, rfl, .ite h.sendLinkCtrl h⟩
  | statusWordSend => exact ⟨_, rfl, h.sendLinkCtrl⟩
  | hitchReplayLimit => exact ⟨_, rfl, .ite h.retrainHitch h⟩
  | eventRecordSend => exact ⟨_, rfl, h.sendEvents⟩
  | hostWaitLate => exact ⟨_, rfl, h.hostWaitLate⟩
  | dwPortWrite | cmdPortWrite => exact ⟨_, rfl, h.wordWriteFlit⟩
  | dwPortRead => exact ⟨_, rfl, h.wordReadFlit⟩
  | descriptorParse => exact ⟨_, rfl, h.parseWindow⟩
  | descriptorIssue => exact ⟨_, rfl, h.issueWindow⟩
  | nop => exact ⟨_, rfl, h.runNop⟩
  | signal => exact ⟨_, rfl, h.runSignal⟩
  | reeveCoreEcc | reeveWatchdog => exact ⟨_, rfl, h.reeveFault⟩
  | hedgeFlitCrcFail => exact ⟨_, rfl, h.hedgeReplay⟩
  | hedgeRerouted => exact ⟨_, rfl, h.hedgeReroute⟩
  | hedgeFieldLost => exact ⟨_, rfl, h.hedgeLost⟩
  | pass => exact ⟨_, rfl, h.takePass⟩
  | passShadowLoadStart => exact ⟨_, rfl, h.loadStart⟩
  | passShadowLoadDone => exact ⟨_, rfl, h.loadDone⟩
  | passSwap => exact ⟨_, rfl, h.swapPass⟩
  | passRowEnter => exact ⟨_, rfl, h.enterRow⟩
  | passRowAdd => exact ⟨_, rfl, h.addRow⟩
  | passComplete => exact ⟨_, rfl, h.completePass⟩
  | arrayFail =>
    refine ⟨_, rfl, KeepsCanon.noteCapacity ?_⟩
    split
    · exact h.failArray
    · exact h
  | helperReissue => exact ⟨_, rfl, h.reissueArray⟩
  | readout => exact ⟨_, rfl, h.readoutRow⟩
  | preload => exact ⟨_, rfl, h.preloadRow⟩
  | clear => exact ⟨_, rfl, h.clearRow⟩
  | saveRaw => exact ⟨_, rfl, h.saveRow⟩
  | loadRaw => exact ⟨_, rfl, h.loadRow⟩
  | reduce => exact ⟨_, rfl, h.reduceRow⟩
  | gleanEcc => exact ⟨_, rfl, h.gleanEcc⟩
  | map => exact ⟨_, rfl, h.mapChunk⟩
  | rowReduce => exact ⟨_, rfl, h.rowReduceUnit⟩
  | softmax => exact ⟨_, rfl, h.softmaxUnit⟩
  | norm => exact ⟨_, rfl, h.normUnit⟩
  | optim => exact ⟨_, rfl, h.optimUnit⟩
  | harrowUnitDeal => exact ⟨_, rfl, h.dealUnit⟩
  | harrowEngineFail => exact ⟨_, rfl, h.engineCheck.noteCapacity⟩
  | closeStep => exact ⟨_, rfl, h.runCloseStep⟩
  | setTags => exact ⟨_, rfl, h.runSetTags⟩
  | saveState => exact ⟨_, rfl, h.runSaveState⟩
  | loadState => exact ⟨_, rfl, h.runLoadState⟩
  | probe => exact ⟨_, rfl, h.runProbe⟩
  | bankTransitionStart => exact ⟨_, rfl, h.bankStart⟩
  | bankTransitionDone => exact ⟨_, rfl, h.bankDone⟩
  | tilthEccUncorrectable => exact ⟨_, rfl, h.tilthEcc⟩
  | tilthEccWriteback => exact ⟨_, rfl, h.tilthWriteback⟩
  | plotTestStart => exact ⟨_, rfl, h.plotStart⟩
  | plotTestEnd => exact ⟨_, rfl, h.plotEnd⟩
  | plotTestSteal => exact ⟨_, rfl, h.plotSteal⟩
  | fill => exact ⟨_, rfl, h.runFill⟩
  | demote => exact ⟨_, rfl, h.runDemote⟩
  | granaryEcc => exact ⟨_, rfl, h.granaryEcc.noteCapacity⟩
  | granaryScrub => exact ⟨_, rfl, h.granaryScrub.noteCapacity⟩
  | granaryRefresh | uartFrameTimeout => exact ⟨_, rfl, h⟩
  | granaryTempRead => exact ⟨_, rfl, h.granaryTemp.noteCapacity⟩
  | granaryRetrain => exact ⟨_, rfl, h.granaryRetrain.noteCapacity⟩
  | freshBlockZero => exact ⟨_, rfl, h.zeroFresh⟩
  | granaryStackFail => exact ⟨_, rfl, h.stackFails.noteCapacity⟩
  | copy => exact ⟨_, rfl, h.copyRow⟩
  | ringSetup => exact ⟨_, rfl, h.ringSetup⟩
  | ringCredit => exact ⟨_, rfl, h.ringCredit⟩
  | drillCancel => exact ⟨_, rfl, h.cancelField⟩
  | drillStart => exact ⟨_, rfl, h.drillStart⟩
  | drillComplete => exact ⟨_, rfl, h.drillComplete⟩
  | headlandGateOpen => exact ⟨_, rfl, h.openGate⟩
  | decode => exact ⟨_, rfl, h.runDecode⟩
  | coulterCancel => exact ⟨_, rfl, h.runCoulterCancel⟩
  | sampleStart => exact ⟨_, rfl, h.sampleStart⟩
  | arenaAllocate => exact ⟨_, rfl, h.arenaAllocate⟩
  | decodeSyntaxUnit => exact ⟨_, rfl, h.syntaxUnit⟩
  | decCoreHung => exact ⟨_, rfl, h.coreHung.noteCapacity⟩
  | decCoreEcc => exact ⟨_, rfl, h.failCore.noteCapacity⟩
  | batch => exact ⟨_, rfl, h.runBatch⟩
  | batchStart => exact ⟨_, rfl, h.batchStart⟩
  | batchSeal => exact ⟨_, rfl, h.sealBatch⟩
  | windrowRelease => exact ⟨_, rfl, h.releaseWindrow⟩
  | livePacket => exact ⟨_, rfl, .ite h.livePacket h⟩
  | liveTake => exact ⟨_, rfl, h.liveTake⟩
  | liveWaitExpiry => exact ⟨_, rfl, h.liveExpire⟩
  | liveStreamLost => exact ⟨_, rfl, h.liveLost⟩
  | allReduce | reduceScatter | thrReduce => exact ⟨_, rfl, h.runReduction⟩
  | verdict => exact ⟨_, rfl, h.runVerdict⟩
  | thresherCancel => exact ⟨_, rfl, h.runThrCancel⟩
  | broadcast | allGather | allToAll => exact ⟨_, rfl, h.runDelivery⟩
  | collectiveStart => exact ⟨_, rfl, h.collStart⟩
  | readyToken => exact ⟨_, rfl, h.readyToken⟩
  | deadlineExpiry => exact ⟨_, rfl, h.deadlineExpiry⟩
  | sealMade => exact ⟨_, rfl, h.sealColl⟩
  | sealReceived => exact ⟨_, rfl, h.sealReceived⟩
  | sealResendRequest => exact ⟨_, rfl, h.sealResend⟩
  | thrNoSeal => exact ⟨_, rfl, h.noSeal⟩
  | blockReceived => exact ⟨_, rfl, h.blockReceived.noteCapacity⟩
  | segmentAck => exact ⟨_, rfl, h.segmentAck⟩
  | dataLimitExpiry => exact ⟨_, rfl, h.dataLimitExpiry⟩
  | peerReport => exact ⟨_, rfl, h.peerReport⟩
  | reportDecision => exact ⟨_, rfl, h.reportDecision⟩
  | childDetach => exact ⟨_, rfl, h.childDetach⟩
  | repairRequest => exact ⟨_, rfl, h.repairRequest⟩
  | collectiveComplete => exact ⟨_, rfl, h.collComplete⟩
  | repairLimitExpiry => exact ⟨_, rfl, h.repairExpiry⟩
  | swathLinkDown => exact ⟨_, rfl, h.laneFails.noteCapacity⟩
  | swathLinkRetrain => exact ⟨_, rfl, h.retrainLink.noteCapacity⟩
  | laserLow => exact ⟨_, rfl, h.laserLow.noteCapacity⟩
  | laserRestored => exact ⟨_, rfl, h.laserRestored⟩
  | pfcPause => exact ⟨_, rfl, h.pfcPause⟩
  | dataReceived => exact ⟨_, rfl, h.dataReceived⟩
  | ackReceived => exact ⟨_, rfl, h.ackReceived⟩
  | nackReceived => exact ⟨_, rfl, h.nackReceived⟩
  | ackTimer => exact ⟨_, rfl, h.ackTimer⟩
  | rtoExpiry => exact ⟨_, rfl, h.rtoExpiry⟩
  | probeReceived => exact ⟨_, rfl, h.probeReceived⟩
  | probeReplyReceived => exact ⟨_, rfl, h.probeReply⟩
  | probeTimer => exact ⟨_, rfl, h.probeTimer⟩
  | peerUnreachable => exact ⟨_, rfl, h.peerUnreachable⟩
  | swathWrite => exact ⟨_, rfl, h.swathWrite⟩
  | swathRead => exact ⟨_, rfl, h.swathRead⟩
  | swathCancel => exact ⟨_, rfl, h.swathCancel⟩
  | lldpSend => exact ⟨_, rfl, h.lldpSend⟩
  | lldpReceived => exact ⟨_, rfl, h.lldpReceived.noteCapacity⟩
  | discoveryLimit => exact ⟨_, rfl, h.discoveryLimit.noteCapacity⟩
  | ptpMessage => exact ⟨_, rfl, h.ptpMessage⟩
  | almanacTick => exact ⟨_, rfl, h.almanacTick⟩
  | almanacMeasurement => exact ⟨_, rfl, h.ptpMeasurement⟩
  | ppsInEdge => exact ⟨_, rfl, h.ppsEdge⟩
  | almanacHoldover => exact ⟨_, rfl, h.enterHoldover⟩
  | launchGateFire => exact ⟨_, rfl, h.fireGate⟩
  | waitMet => exact ⟨_, rfl, h.examineWaits⟩
  | furlongRun => exact ⟨_, rfl, h.runFurlong⟩
  | furlongStop => exact ⟨_, rfl, h.stopFurlong⟩
  | stepExpansion => exact ⟨_, rfl, h.expandNext⟩
  | phaseComplete => exact ⟨_, rfl, h.phaseComplete⟩
  | stepComplete => exact ⟨_, rfl, h.stepComplete⟩
  | rebase => exact ⟨_, rfl, h.rebase⟩
  | commit => exact ⟨_, rfl, h.runCommit⟩
  | buddySend => exact ⟨_, rfl, h.runBuddySend⟩
  | buddySealReceived => exact ⟨_, rfl, h.buddySealed⟩
  | stookTake => exact ⟨_, rfl, h.runStook⟩
  | stookStaged => exact ⟨_, rfl, h.stookStaged⟩
  | refill => exact ⟨_, rfl, h.runRefill⟩
  | pairingMessage => exact ⟨_, rfl, h.pairingMessage⟩
  | powerStateReached => exact ⟨_, rfl, h.powerReached⟩
  | idleEntry => exact ⟨_, rfl, h.idleEntry⟩
  | fallowHitchWake => exact ⟨_, rfl, h.hitchWake⟩
  | governorWindow => exact ⟨_, rfl, h.governorWindow⟩
  | junctionSensorRead => exact ⟨_, rfl, h.junctionRead⟩
  | thermalStep => exact ⟨_, rfl, h.thermalStep⟩
  | droopTrip => exact ⟨_, rfl, h.droopTrip⟩
  | droopStretchEnd => exact ⟨_, rfl, h.stretchEnd⟩
  | acChangeSubmit => exact ⟨_, rfl, h.writeBy.writeBy⟩
  | acVoltageRamp => exact ⟨_, rfl, h.voltageRamp⟩
  | acChange => exact ⟨_, rfl, h.acChange⟩
  | titheSample => exact ⟨_, rfl, h.titheSample⟩
  | titheSelfCheck => exact ⟨_, rfl, h.titheCheck⟩
  | titheRollover => exact ⟨_, rfl, h.titheRollover⟩
  | tithePowerLoss => exact ⟨_, rfl, h.titheLoss⟩
  | tithePowerReturn => exact ⟨_, rfl, h.titheReturn⟩
  | titheCheckpoint => exact ⟨_, rfl, h.titheCheckpoint⟩
  | titheTamper => exact ⟨_, rfl, h.titheTamper⟩
  | ident => exact ⟨_, rfl, h.uartIdent⟩
  | status => exact ⟨_, rfl, h.uartStatus⟩
  | readRecord => exact ⟨_, rfl, h.uartRecord⟩
  | readNow => exact ⟨_, rfl, h.uartNow⟩
  | jobMark => exact ⟨_, rfl, h.uartMark⟩
  | tamperLog => exact ⟨_, rfl, h.uartTamper⟩
  | mirrorSnapshot => exact ⟨_, rfl, h.mirrorSnapshot⟩
  | mirrorRecordArrival => exact ⟨_, rfl, h.mirrorRecord⟩
  | titheMirrorStale => exact ⟨_, rfl, h.mirrorStale⟩
  | strapSample => exact ⟨_, rfl, h.strapSample⟩
  | bringupStageComplete => exact ⟨_, rfl, h.stageDone.noteCapacity⟩
  | stageTimeout => exact ⟨_, rfl, h.stageTimeout.noteCapacity⟩
  | warmResetStage => exact ⟨_, rfl, h.warmStage.noteCapacity⟩
  | mainInputApplied => exact ⟨_, rfl, h.mainInput⟩
  | standbyApplied => exact ⟨_, rfl, h.standbyInput⟩
  | resetN => exact ⟨_, rfl, h.resetPin⟩
  | stageComplete => exact ⟨_, rfl, h.stageComplete⟩
  | journalPageWrite => exact ⟨_, rfl, h.journalPage⟩
  | mgmtRequest => exact ⟨_, rfl, h.etherRequest⟩
  | smbusRead | smbusWrite => exact ⟨_, rfl, .ite h.blockRequest h⟩
  | wake => exact ⟨_, rfl, .ite h.wake h⟩
  | jtagRegisterAccess => exact ⟨_, rfl, h.blockRequest⟩
  | idcode => exact ⟨_, rfl, h.idcode⟩
  | extest => exact ⟨_, rfl, h.extest⟩
  | bypass => exact ⟨_, rfl, h.bypass⟩
  | samplePreload => exact ⟨_, rfl, h.samplePreload⟩
  | vinLow => exact ⟨_, rfl, h.vinLow⟩
  | vinHigh => exact ⟨_, rfl, h.vinHigh⟩
  | vstbyLow => exact ⟨_, rfl, h.vstbyLow⟩
  | refclkLost => exact ⟨_, rfl, h.refclkLost⟩
  | mclkLost => exact ⟨_, rfl, h.mclkLost⟩
  | mclkReturn => exact ⟨_, rfl, h.mclkReturn⟩
  | harrowUnitComplete => exact ⟨_, rfl, h.unitComplete⟩
  | gleanDescriptorComplete => exact ⟨_, rfl, h.completeGlean⟩
  | quoteDone => exact ⟨_, rfl, h.quoteDone⟩
  | ptpSyncSend => exact ⟨_, rfl, h.ptpSyncSend⟩

/-- No step leaves the canonical forms: an idle step changes nothing, any other executes a command. -/
theorem KeepsCanon.of_stepsTo (h : StepsTo s t) : KeepsCanon s t := by
  unfold StepsTo step at h
  split at h
  · cases h
    exact .refl s
  · next c rest _ =>
    have hq : KeepsCanon s { s with pending := rest } := (KeepsCanon.refl s).same
    obtain ⟨u, hu, hk⟩ := hq.exec c
    cases hu.symm.trans h
    exact hk

end

/-- Settles O6: a step keeps each canonical form because every operation of the model does. -/
theorem stepKeepsStoresCanonical : Obligations.StepKeepsStoresCanonical :=
  ⟨fun _ _ hs h => (KeepsCanon.of_stepsTo h).mem hs, fun _ _ hs h => (KeepsCanon.of_stepsTo h).regs hs⟩

end Sys2Proof.Machine
end

section
/-!
SET_TAGS stores outside the Winnow tables (O54).

SET_TAGS stores at the tags that its descriptor names. That the table holds them is check 4 of R239, made at parse; the checks made
when the descriptor runs, 8 to 10, do not look at the tags. In between the table may shrink, since WN_CONFIG can be written while
Winnow is disabled (R241). `tagsHeld`, `tagsOff` and `tagsLate` are the states of such a run, and in `tagsLate` the descriptor stores
beyond `State.winnowBytes`.

Whether a WN_CONFIG value fits is a question about thousands of sectors. It is answered by a lemma on populated Tilth and not by
evaluation.
-/
namespace Sys2Proof.Machine

section
variable {s : State} {f a n : Nat}

/-! ### Populated Tilth -/

/-- Every bank of a Field in service is On: its TILTH_BANK_STATE words are 0 throughout, no bank is in transition, and the module is in
neither Rest, Fallow nor Winter (R250 to R253). -/
structure State.TilthOn (s : State) (f : Nat) : Prop where
  inService : s.lost f = false
  states : ∀ set < 3, s.reg (regAddr .tilth f (0x108 + 8 * set)) = 0
  still : s.bankMoves = []
  running : s.power.state < 2

theorem areaOf_tilth (hf : f < 8) (hlo : tilthBase f ≤ a) (hhi : a < tilthBase f + tilthSize) : areaOf a = .tilth f (a - tilthBase f) := by
  simp only [tilthBase, tilthSize] at *
  have hdiv : (a - 0x100000000) / 0x40000000 = f := by omega
  have hmod : (a - 0x100000000) % 0x40000000 = a - (0x100000000 + f * 0x40000000) := by omega
  have hreg : ¬ a < 0x10000000 := by omega
  have hwin : 0x100000000 ≤ a ∧ a < 0x300000000 := by omega
  have hoff : a - (0x100000000 + f * 0x40000000) < 0xC000000 := by omega
  simp [areaOf, hdiv, hmod, hreg, hwin, hoff, tilthSize]

theorem State.bankOf_lt {o : Nat} (ho : o < tilthSize) : s.bankOf f o < 96 := by
  simp only [State.bankOf, tilthSize] at *
  split <;> omega

theorem State.TilthOn.bankOn (h : s.TilthOn f) {b : Nat} (hb : b < 96) : s.bankOn f b = true := by
  have hw : s.reg (regAddr .tilth f (0x108 + 8 * (b / 32))) = 0 := h.states _ (by omega)
  simp [State.bankOn, State.bankState, State.rf, State.bankPending, hw, bitsOf, h.still, h.running]

theorem State.TilthOn.byteOk (h : s.TilthOn f) (hf : f < 8) (hlo : tilthBase f ≤ a) (hhi : a < tilthBase f + tilthSize) :
    s.byteOk a = true := by
  have hbank : s.bankOn f (s.bankOf f (a - tilthBase f)) = true := h.bankOn (State.bankOf_lt (by omega))
  simp [State.byteOk, areaOf_tilth hf hlo hhi, h.inService, hbank]

/-- The window of a Field's Tilth begins at a sector, so the sectors of what lies in it lie in it too. -/
theorem State.TilthOn.populated (h : s.TilthOn f) (hf : f < 8) (hin : inTilth f a n = true) : s.populated a n = true := by
  simp only [inTilth, Bool.and_eq_true, decide_eq_true_eq] at hin
  refine List.all_eq_true.2 fun b hb => ?_
  obtain ⟨hlo, hhi⟩ : tilthBase f ≤ b ∧ b < tilthBase f + tilthSize := by
    simp only [sectorsOf] at hb
    split at hb
    · cases hb
    · simp only [List.mem_map, List.mem_range] at hb
      obtain ⟨i, hi, rfl⟩ := hb
      simp only [tilthBase, tilthSize] at *
      omega
  exact h.byteOk hf hlo hhi

end

/-! ### A write of WN_CONFIG by the test port -/

/-- The test port's write, once it lands, leaves the state that the page answers: no reset, nothing sent (R547). -/
theorem State.writeBy_jtag_of_lands {s : State} {a v : Nat} (h : Lands .jtag s a v) (ha : a / 8 ≠ stewReg 0x110 / 8) :
    s.writeBy .jtag a v = (Via.jtag.reply s a v).st := by
  obtain ⟨htakes, hcode⟩ := h
  obtain ⟨hopen, hawake⟩ : s.steward.fabricOpen = true ∧ s.awake = true := by simpa [Via.Takes, Via.takes] using htakes
  have hgate : s.drawn.mgmtGate true a = .open_ := by simp [State.mgmtGate, State.drawn, hopen]
  have hexec : s.drawn.mgmtExec .jtag true a v = Via.jtag.reply s a v := by
    change (if (Via.jtag.reply s a v).code = 0 then Via.jtag.reply s a v else _) = _
    rw [if_pos hcode]
  simp [State.writeBy, State.blockRequest, State.mgmtRun, State.blockAnswer, hawake, hgate, hexec, ha]

/-- The word of WN_CONFIG for a table of 2^k tags at page 2 of Tilth, with the step report at page 0. -/
def wnConfigOf (k : Nat) : Nat := (2 <<< 32) + (k <<< 8)

/-- Where every Field has its Tilth On, a WN_CONFIG value fits if its table and its report lie in the window and apart (R241). -/
theorem State.winnowConfigOk_of_tilthOn {s : State} {v : Nat} (h : ∀ f < 8, s.TilthOn f)
    (htable : ∀ f < 8, inTilth f (tilthBase f + bitsOf v 47 32 * 4096) (tableBytes (2 ^ bitsOf v 12 8)) = true)
    (hreport : ∀ f < 8, inTilth f (tilthBase f + bitsOf v 31 16 * 4096) reportBytes = true)
    (hapart : rangesOverlap [(bitsOf v 47 32 * 4096, tableBytes (2 ^ bitsOf v 12 8))] [(bitsOf v 31 16 * 4096, reportBytes)] = false) :
    s.winnowConfigOk v = true := by
  have hfield : ∀ f ∈ s.liveFields, f < 8 := fun f hf => List.mem_range.1 (List.mem_filter.1 hf).1
  simp only [State.winnowConfigOk, hapart, Bool.not_false, Bool.and_true]
  refine List.all_eq_true.2 fun f hf => ?_
  have hf8 := hfield f hf
  simp [htable f hf8, hreport f hf8, (h f hf8).populated hf8 (htable f hf8), (h f hf8).populated hf8 (hreport f hf8)]

/-- The checks of R52 on the write: the word is well formed, Winnow is disabled on every page, and the journal has room. -/
theorem State.writeCode_wnConfig_256 {s : State} {src : Source} (h : ∀ f < 8, s.TilthOn f)
    (hoff : (List.range 8).all (fun f => !s.enabled .winnow f) = true) (hroom : s.journalFullNow = false) :
    s.writeCode src .winnow 0 0x100 (wnConfigOf 8) = 0 := by
  have hmask : writableMask (regFields .winnow 0x100) ≠ 0 := by decide
  have hdef : wnConfigOf 8 &&& definedMask (regFields .winnow 0x100) = wnConfigOf 8 := by decide
  have hrange : inRanges (regFields .winnow 0x100) (wnConfigOf 8) = true := by decide
  have hwrite : s.writeOk src .winnow 0 0x100 (wnConfigOf 8) = true :=
    (Bool.and_eq_true _ _).mpr ⟨hoff, winnowConfigOk_of_tilthOn h (by decide) (by decide) (by decide)⟩
  simp [State.writeCode, hmask, hdef, hrange, hwrite, hroom]

/-! ### A table that shrinks under a descriptor -/

/-- SET_TAGS for one tag, 4,000, its configuration word at offset 0x20_0000 of Tilth 0 (R238). -/
def tagsWords : List Word512 :=
  [BitVec.ofNat 512 (1 + (2 <<< 4) + (0x0A <<< 16) + (2 <<< 24)),
   BitVec.ofNat 512 ((4000 <<< 16) + (1 <<< 32) + ((tilthBase 0 + 0x200000) <<< 128))]

/-- That descriptor in flight, its gate fired. -/
def tagsFlight : Flight where
  id := 3
  words := tagsWords
  origin := .window 0
  step := 0
  wait := none
  waitMet := true
  fired := true
  firedAt := 0
  late := false
  started := false
  unit := 0
  ending := none
  prog := .none

/-- Winnow is enabled with a table of 4,096 tags, and the descriptor is about to run. -/
def tagsHeld : State :=
  { State.reset with
    steward := { stewardReset with fabricOpen := true }
    regs := (winnowReg 0 0x020, 1) :: (List.range 8).map (fun f => (winnowReg f 0x100, wnConfigOf 12))
    mem := [(tilthBase 0 + 0x200000, 2)]
    flights := [tagsFlight]
    nextId := 4 }

/-- Software has disabled Winnow. -/
def tagsOff : State := tagsHeld.writeBy .jtag (winnowReg 0 0x020) 0

/-- The test port's next request has been counted and is about to meet its page (R548). -/
def tagsAsked : State := Via.jtag.arrived tagsOff

/-- Software has shrunk the table to 256 tags. -/
def tagsLate : State := tagsAsked.writeJournaled .jtag .winnow 0 0x100 (wnConfigOf 8)

theorem tagsAsked_tilthOn : ∀ f < 8, tagsAsked.TilthOn f := fun f hf =>
  { inService := (by decide +kernel : ∀ f < 8, tagsAsked.lost f = false) f hf
    states := (by decide +kernel : ∀ f < 8, ∀ set < 3, tagsAsked.reg (regAddr .tilth f (0x108 + 8 * set)) = 0) f hf
    still := by decide +kernel
    running := by decide +kernel }

theorem tagsOff_reply : Via.jtag.reply tagsOff (winnowReg 0 0x100) (wnConfigOf 8) = .ok tagsLate := by
  have hcode : tagsAsked.writeCode .jtag .winnow 0 0x100 (wnConfigOf 8) = 0 :=
    State.writeCode_wnConfig_256 tagsAsked_tilthOn (by decide +kernel) (by decide +kernel)
  have hpage : pageAt (winnowReg 0 0x100) 8 = some (.winnow, 0) := by decide
  have hplace : winnowReg 0 0x100 % 8 = 0 ∧ winnowReg 0 0x100 % 0x1000 = 0x100 := by decide
  change tagsAsked.regWrite .jtag _ _ = _
  simp [State.regWrite, hpage, hplace, isPort, hcode, tagsLate]

theorem exec_shrink_tagsOff : exec (.wnConfigWrite .jtag 0 (BitVec.ofNat 64 (wnConfigOf 8))) tagsOff = .next tagsLate := by
  have hlands : Lands .jtag tagsOff (winnowReg 0 0x100) (wnConfigOf 8) := ⟨by decide +kernel, by rw [tagsOff_reply]; rfl⟩
  have hwrite : tagsOff.writeBy .jtag (winnowReg 0 0x100) (wnConfigOf 8) = tagsLate := by
    rw [State.writeBy_jtag_of_lands hlands (by decide), tagsOff_reply]
    rfl
  exact congrArg Host.Outcome.next hwrite

/-- The counterexample is a state that the model's own commands lead to: the descriptor passes every check made at parse, and two
register writes, each accepted, then shrink the table below the tag that it names. -/
theorem tagsLate_follows_checks :
    tagsHeld.descCheck 0 tagsWords = 0 ∧
    exec (.pgCtrlEnableWrite .jtag 0x1018 false false) tagsHeld = .next tagsOff ∧
    exec (.wnConfigWrite .jtag 0 (BitVec.ofNat 64 (wnConfigOf 8))) tagsOff = .next tagsLate :=
  ⟨by decide +kernel, rfl, exec_shrink_tagsOff⟩

/-! ### What SET_TAGS then stores -/

theorem tagsLate_shaped : tagsLate.Shaped := by decide +kernel

/-- The first byte of the entry that tag 4,000 would have in Tilth 0. -/
def tagByte : Nat := tagsLate.tagAddr 0 4000

theorem tagByte_outside : ∀ r ∈ tagsLate.winnowBytes, ¬(r.1 ≤ tagByte ∧ tagByte < r.1 + r.2) := by decide +kernel

theorem byte_tagsLate : tagsLate.byte tagByte = 0 := by decide +kernel

theorem byte_runSetTags_tagsLate : (tagsLate.runSetTags 3).byte tagByte = 2 := by decide +kernel

/-- The clause of O54 on SET_TAGS fails. -/
theorem not_stores_setTags : ¬ ∀ id, Stores (.setTags id) (fun _ => true) (fun s => s.winnowBytes) := by
  intro h
  have hsame : (tagsLate.runSetTags 3).byte tagByte = tagsLate.byte tagByte :=
    h 3 tagsLate _ tagsLate_shaped rfl rfl tagByte tagByte_outside
  rw [byte_tagsLate, byte_runSetTags_tagsLate] at hsame
  exact absurd hsame (by decide)

/-- Refutes O54: SET_TAGS stores at the tags it names without looking again at the table's size, which a write of WN_CONFIG may have
lowered since its checks; the statement asks of it no check that would rule this out. -/
theorem not_computeStoresStayWithin : ¬ Obligations.ComputeStoresStayWithin := by
  intro h
  unfold Obligations.ComputeStoresStayWithin at h
  obtain ⟨-, -, -, -, -, -, -, -, -, -, -, -, -, -, -, -, -, -, hset, -⟩ := h
  exact not_stores_setTags hset

end Sys2Proof.Machine
end

section
/-!
What reset leaves (O5).

`State.reset` is a literal, so most clauses are read off it; the two that range over every address rest on its memory and its register
store being empty.
-/
namespace Sys2Proof.Machine

set_option Elab.async false

theorem byte_reset (a : Nat) : State.reset.byte a = 0 := rfl

theorem reg_reset (a : Nat) : State.reset.reg a = resetOf a := rfl

theorem reset_regsOk : State.reset.RegsOk := ⟨.nil, fun _ h => nomatch h⟩

theorem reset_shaped : State.reset.Shaped := by decide +kernel

/-- Every unit is untested or training. -/
theorem reset_units :
    (∀ f : Fin 8, State.reset.lost f.val = false ∧ (State.reset.array f.val).state = 0) ∧
    (∀ w : Fin 16, State.reset.win w.val = ⟨[], [], false, false, false⟩ ∧ (State.reset.engine w.val).state = 0) ∧
    (∀ n : Fin 24, (State.reset.stack n.val).state = 0) := by
  decide +kernel

/-- Settles O5: each clause is read off the literal state, the registers and bytes off its empty stores. -/
theorem resetLeaves : Obligations.ResetLeaves := by
  unfold Obligations.ResetLeaves
  obtain ⟨hfields, hwindows, hstacks⟩ := reset_units
  exact ⟨rfl, rfl, rfl, rfl, rfl, rfl, rfl, rfl, rfl, rfl, rfl, rfl, rfl, hfields, hwindows, hstacks, rfl,
    fun a => ⟨byte_reset a, reg_reset a⟩, reset_shaped, reset_regsOk⟩

end Sys2Proof.Machine
end

section
/-!
A mirror word may show a lower error code than the one captured (O9).

MIRROR_SNAPSHOT copies the words that the Tithe has queued into the mirror page, each to the offset that comes with it. Nothing in the
statement, and nothing in `State.Shaped` either, keeps such an offset away from PG_ERR_CODE, and the Tithe's own commands are not among
those that `Instr.mayClearErrors` sets aside.
-/
namespace Sys2Proof.Machine

set_option Elab.async false

/-- The Tithe page has captured error 0x0910, and the next mirror word is for the offset of PG_ERR_CODE. -/
def mirrorOverError : State :=
  { State.reset with
    regs := [(titheReg 0x040, 0x0910)]
    power := { State.reset.power with dies := true }
    tithe := { State.reset.tithe with powered := true, snapWords := [(0x040, 0x0911)] } }

theorem mirrorOverError_shaped : mirrorOverError.Shaped := by decide +kernel

theorem reg_mirrorOverError : mirrorOverError.reg (titheReg 0x040) = 0x0910 := by decide +kernel

theorem reg_mirrorSnapshot_mirrorOverError : mirrorOverError.mirrorSnapshot.reg (titheReg 0x040) = 0x0911 := by decide +kernel

/-- Refutes O9: a mirror word addressed to the Tithe page's PG_ERR_CODE replaces the captured code, by a higher one. -/
theorem not_firstErrorIsKept : ¬ Obligations.FirstErrorIsKept := by
  unfold Obligations.FirstErrorIsKept
  intro h
  have hcode : mirrorOverError.rf (titheReg 0x040) 15 0 ≠ 0 := by decide +kernel
  have hkept := h .mirrorSnapshot mirrorOverError mirrorOverError.mirrorSnapshot (titheReg 0x040) .titheRo 0 rfl (by decide) (by decide) hcode rfl
  have hbefore : mirrorOverError.rf (titheReg 0x040) 15 0 = 0x0910 := by decide +kernel
  rw [reg_mirrorSnapshot_mirrorOverError, reg_mirrorOverError, hbefore] at hkept
  obtain ⟨hsame, -⟩ | ⟨hlower, -⟩ := hkept
  · exact absurd hsame (by decide)
  · exact absurd hlower (by decide)

end Sys2Proof.Machine
end

section
/-!
A block reset of a SWATH_PORT page ends a REFILL in flight (O17).

A block reset of a port whose write also clears PG_CTRL.enable takes the port's links out of service. Where fewer links than min_links are
then left, the plan is ISOLATED and every endpoint is reported unreachable (R435); a REFILL that reads from one of them has lost its source
and gets its ending (R488). The clause on block resets allows that to the SAMPLE page only.
-/
namespace Sys2Proof.Machine

set_option Elab.async false

/-- A REFILL that has asked endpoint 1 for 64 bytes and has none of them. -/
def refillAwaiting : Flight where
  id := 3
  words := [BitVec.ofNat 512 (1 + (4 <<< 4) + (0x0D <<< 16) + (2 <<< 24)), 0]
  origin := .window 0
  step := 0
  wait := none
  waitMet := true
  fired := true
  firedAt := 0
  late := false
  started := true
  unit := 0
  ending := none
  prog := .reco ⟨0, true, false, 0, 1, some 0, tilthBase 0, 64, 0, false, []⟩

/-- A module whose plan of two endpoints is RUNNING over the one link of port 0, which is in service. -/
def oneLinkLeft : State :=
  { State.reset with
    steward := { stewardReset with fabricOpen := true }
    regs := [(swPortReg 0 0x020, 1), (tpReg 0x108, 1 + (2 <<< 16))]
    swath := { swathReset with
      links := ⟨3, true, true, [], none⟩ :: List.replicate 63 ⟨0, false, false, [], none⟩
      plan := 2
      eps := [⟨[], true, false, 0⟩, ⟨[], true, false, 1⟩] }
    flights := [refillAwaiting]
    nextId := 4 }

theorem oneLinkLeft_shaped : oneLinkLeft.Shaped := by decide +kernel

theorem lands_resetPort_oneLinkLeft : Lands .jtag oneLinkLeft (0x301 * 0x1000 + 0x020) (2 + b2n false + 4 * b2n false) := by
  unfold Lands; decide +kernel

/-- The reset gives the REFILL its ending. -/
theorem flights_resetPort_oneLinkLeft :
    (oneLinkLeft.writeBy .jtag (0x301 * 0x1000 + 0x020) (2 + b2n false + 4 * b2n false)).flights = [{ refillAwaiting with ending := some 0x0A08 }] := by
  decide +kernel

/-- Refutes O17: a block reset of a SWATH_PORT page that also disables the port changes a REFILL in flight. -/
theorem not_pageWrites : ¬ Obligations.PageWrites := by
  unfold Obligations.PageWrites
  rintro ⟨-, -, -, hreset, -⟩
  obtain ⟨t, ht, -, -, hkept, -⟩ := hreset .jtag 0x301 false false oneLinkLeft lands_resetPort_oneLinkLeft
  have hflights : t.flights = [{ refillAwaiting with ending := some 0x0A08 }] := by
    rw [← Host.Outcome.next.inj ht]
    exact flights_resetPort_oneLinkLeft
  have hsame := hkept (by decide)
  rw [hflights] at hsame
  exact absurd hsame (by decide +kernel)

end Sys2Proof.Machine
end

section
/-!
A syntax unit stores outside its sample's output (O55).

An audio frame is stored at the places that its samples have in the planes of the channels. Where a sample is limited by unit_count, the
model does not hold these places against O: the header check has made O as large as unit_count asks (R322). The statement asks of the
operands only what `State.outputFits` says, and that does not relate O to unit_count.
-/
namespace Sys2Proof.Machine

set_option Elab.async false

/-- A mono float WAV sample on core 14 with a direct destination in Tilth 0. It is to give one unit, and its O is empty. -/
def wavSample : Samp where
  id := 5
  owner := 3
  area := 0
  work := 7
  d := ⟨0x22, 0, false, false, 0, tilthBase 1, 4, 1, 0, 100, true, tilthBase 0, 64⟩
  core := some 14
  restarted := false
  stop := false
  hdr := some ⟨true, false, false, 0, 0, 0, 0, 0, 0, some 1, 1, 8, false, 0, 0, 0⟩
  order := 0
  o := 0
  s := 0
  limitP := false
  granules := none
  unit := 0
  bits := 0
  decoded := 0
  valid := 0
  padded := 0
  written := 0
  run := 0
  truncated := false
  charged := 0
  w := 0
  outcome := none
  voc := ⟨0, 0, 0, 0⟩

/-- A frame of one sample, whose float code is 1. -/
def wavFrame : SynUnit := ⟨32, 0, 0, [], [], [[1]], true⟩

/-- Core 14 works and holds the sample. -/
def wavDecoding : State :=
  { State.reset with coulter := { State.reset.coulter with cores := List.replicate 16 1, samples := [wavSample] } }

theorem wavDecoding_shaped : wavDecoding.Shaped := by decide +kernel

theorem wavDecoding_outputFits : wavDecoding.outputFits 5 = true := by decide +kernel

/-- The output of the sample is empty, so no address lies in it. -/
theorem outside_outputOfSample_wavDecoding (a : Nat) : ∀ r ∈ wavDecoding.outputOfSample 5, ¬(r.1 ≤ a ∧ a < r.1 + r.2) := by
  have hout : wavDecoding.outputOfSample 5 = [(tilthBase 0, 0)] := by decide +kernel
  intro r hr
  rw [hout, List.mem_singleton] at hr
  subst hr
  omega

theorem byte_wavDecoding : wavDecoding.byte (tilthBase 0) = 0 := by decide +kernel

theorem byte_syntaxUnit_wavDecoding : (wavDecoding.syntaxUnit 5 wavFrame).byte (tilthBase 0) = 1 := by decide +kernel

/-- The clause of O55 on DECODE_SYNTAX_UNIT fails. -/
theorem not_stores_decodeSyntaxUnit :
    ¬ ∀ (sample : Nat) (unit : SynUnit), Stores (.decodeSyntaxUnit sample unit) (fun s => s.outputFits sample) (fun s => s.outputOfSample sample) := by
  intro h
  have hsame : (wavDecoding.syntaxUnit 5 wavFrame).byte (tilthBase 0) = wavDecoding.byte (tilthBase 0) :=
    h 5 wavFrame wavDecoding _ wavDecoding_shaped wavDecoding_outputFits rfl _ (outside_outputOfSample_wavDecoding _)
  rw [byte_wavDecoding, byte_syntaxUnit_wavDecoding] at hsame
  exact absurd hsame (by decide)

/-- Refutes O55: an audio frame goes to its place in the channels' planes although O does not reach that far, and the statement's check
on a sample's output does not ask that it does. -/
theorem not_systemStoresStayWithin : ¬ Obligations.SystemStoresStayWithin := by
  intro h
  unfold Obligations.SystemStoresStayWithin at h
  obtain ⟨-, -, -, hunit, -⟩ := h
  exact not_stores_decodeSyntaxUnit hunit

end Sys2Proof.Machine
end

section
/-!
Requests on Hitch: what a request flit's header says, and what becomes of a flit that is next in order.
-/
namespace Sys2Proof.Machine

set_option Elab.async false

variable {s : State} {kind tag a payload : Nat}

/-! ### The header of a request flit (R39) -/

theorem bitsOf_reqHeader_kind (hk : kind < 16) : bitsOf (reqHeader kind tag a) 3 0 = kind := by
  simp only [bitsOf, reqHeader, Nat.shiftLeft_eq, Nat.shiftRight_zero]
  omega

theorem bitsOf_reqHeader_reserved (hk : kind < 16) : bitsOf (reqHeader kind tag a) 7 4 = 0 := by
  simp only [bitsOf, reqHeader, Nat.shiftLeft_eq, Nat.shiftRight_eq_div_pow]
  omega

theorem bitsOf_reqHeader_tag (hk : kind < 16) (ht : tag < 256) : bitsOf (reqHeader kind tag a) 15 8 = tag := by
  simp only [bitsOf, reqHeader, Nat.shiftLeft_eq, Nat.shiftRight_eq_div_pow]
  omega

theorem bitsOf_reqHeader_addr (hk : kind < 16) (ht : tag < 256) (ha : a < 2 ^ 48) : bitsOf (reqHeader kind tag a) 63 16 = a := by
  simp only [bitsOf, reqHeader, Nat.shiftLeft_eq, Nat.shiftRight_eq_div_pow]
  omega

theorem reqHeader_lt (hk : kind < 16) (ht : tag < 256) : reqHeader kind tag a < 2 ^ 64 := by
  simp only [reqHeader, Nat.shiftLeft_eq]
  omega

theorem toNat_ofNat_reqHeader (hk : kind < 16) (ht : tag < 256) : (BitVec.ofNat 64 (reqHeader kind tag a)).toNat = reqHeader kind tag a := by
  rw [BitVec.toNat_ofNat, Nat.mod_eq_of_lt (reqHeader_lt hk ht)]

/-- A request that keeps R40: a free tag, no payload with a read, and a register value of 64 bits. -/
theorem flitBad_reqHeader (hk : 1 ≤ kind ∧ kind ≤ 4) (ht : tag < 255) (hread : kind = 1 ∨ kind = 3 → payload = 0) (hwrite : kind = 2 → payload < 2 ^ 64) :
    flitBad (reqHeader kind tag a) payload = false := by
  have hkind : bitsOf (reqHeader kind tag a) 3 0 = kind := bitsOf_reqHeader_kind (by omega)
  have hreserved : bitsOf (reqHeader kind tag a) 7 4 = 0 := bitsOf_reqHeader_reserved (by omega)
  have htag : bitsOf (reqHeader kind tag a) 15 8 = tag := bitsOf_reqHeader_tag (by omega) (by omega)
  simp only [flitBad, hkind, hreserved, htag, Bool.or_eq_false_iff, Bool.and_eq_false_iff, bne_eq_false_iff_eq, beq_eq_false_iff_ne, ne_eq]
  refine ⟨⟨⟨⟨⟨trivial, by omega⟩, by omega⟩, by omega⟩, ?_⟩, ?_⟩
  · by_cases h : kind = 1 ∨ kind = 3
    · exact .inr (hread h)
    · exact .inl (by simpa using h)
  · by_cases h : kind = 2
    · exact .inr (Nat.div_eq_of_lt (hwrite h))
    · exact .inl h

/-- The tag of a request is not the one that R40 keeps free. -/
theorem tag_lt_of_ne {tag : BitVec 8} (h : tag ≠ 0xFF#8) : tag.toNat < 255 := by
  have hne : tag.toNat ≠ 255 := fun h255 => h (BitVec.eq_of_toNat_eq h255)
  omega

/-! ### A request flit that is next in order (R41) -/

/-! ### The commands that bring a flit -/

theorem exec_registerWrite {seq : BitVec 12} {header : BitVec 64} {data : Word512} :
    exec (.registerWrite seq header data) s = .next (s.receiveFlit seq.toNat header.toNat data.toNat) := rfl

theorem exec_dwPortWrite {seq : BitVec 12} {tag : BitVec 8} {w : Fin 4} {data : Word512} :
    exec (.dwPortWrite seq tag w data) s = .next (s.receiveFlit seq.toNat (reqHeader 4 tag.toNat (regAddr .datawin w.val 0x200)) data.toNat) := rfl

theorem exec_dwPortRead {seq : BitVec 12} {tag : BitVec 8} {w : Fin 4} :
    exec (.dwPortRead seq tag w) s = .next (s.receiveFlit seq.toNat (reqHeader 3 tag.toNat (regAddr .datawin w.val 0x200)) 0) := rfl

theorem exec_cmdPortWrite {seq : BitVec 12} {tag : BitVec 8} {w : Fin 16} {data : Word512} :
    exec (.cmdPortWrite seq tag w data) s = .next (s.receiveFlit seq.toNat (reqHeader 4 tag.toNat (regAddr .cmdwin w.val 0x200)) data.toNat) := rfl

theorem State.writeBy_hitch {seq : BitVec 12} {tag : BitVec 8} {v : Nat} :
    s.writeBy (.hitch seq tag) a v = s.receiveFlit seq.toNat (reqHeader 2 tag.toNat a) v := rfl

/-- A request flit that is next in order takes its number and becomes a request. -/
theorem State.receiveFlit_reqHeader (seq : BitVec 12) (tag : BitVec 8) (hup : s.linkUp = true) (hseq : seq.toNat = s.hitch.rxNext) (hk : 1 ≤ kind ∧ kind ≤ 4)
    (ha : a < 2 ^ 48) (hgood : flitBad (reqHeader kind tag.toNat a) payload = false) :
    s.receiveFlit seq.toNat (reqHeader kind tag.toNat a) payload = ((Via.hitch seq tag).arrived s).request kind tag.toNat a payload := by
  have hkind : bitsOf (reqHeader kind tag.toNat a) 3 0 = kind := bitsOf_reqHeader_kind (by omega)
  have htag : bitsOf (reqHeader kind tag.toNat a) 15 8 = tag.toNat := bitsOf_reqHeader_tag (by omega) tag.isLt
  have haddr : bitsOf (reqHeader kind tag.toNat a) 63 16 = a := bitsOf_reqHeader_addr (by omega) tag.isLt ha
  have h7 : ¬ kind = 7 := by omega
  have h0 : ¬ kind = 0 := by omega
  have h8 : ¬ 8 ≤ kind := by omega
  simp [State.receiveFlit, hkind, htag, haddr, h7, h0, h8, hup, hseq, hgood, Via.arrived]

/-- Before the fabric opens a request is answered NOT_READY (R50). -/
theorem State.request_of_fabricClosed (hwarm : s.steward.warm = false) (hclosed : s.steward.fabricOpen = false) :
    s.request kind tag a payload = s.respond tag a 1 0x0501 := by
  simp [State.request, hwarm, hclosed]

/-- With the fabric open a request whose tag is free is executed. -/
theorem State.request_of_fabricOpen (hwarm : s.steward.warm = false) (hopen : s.steward.fabricOpen = true) (hfree : s.tagBusy tag = false) :
    s.request kind tag a payload = s.execRequest kind tag a payload := by
  simp [State.request, hwarm, hopen, hfree]

end Sys2Proof.Machine
end
section
/-!
Before the register fabric opens every request is answered NOT_READY (O10).
-/
namespace Sys2Proof.Machine

set_option Elab.async false

variable {s : State}

/-- A request flit that meets a closed fabric, outside a warm reset. -/
theorem State.receiveFlit_of_fabricClosed {kind a payload : Nat} (seq : BitVec 12) (tag : BitVec 8) (hup : s.linkUp = true) (hseq : seq.toNat = s.hitch.rxNext)
    (hwarm : s.steward.warm = false) (hclosed : s.steward.fabricOpen = false) (hk : 1 ≤ kind ∧ kind ≤ 4) (ha : a < 2 ^ 48)
    (hgood : flitBad (reqHeader kind tag.toNat a) payload = false) :
    s.receiveFlit seq.toNat (reqHeader kind tag.toNat a) payload = ((Via.hitch seq tag).arrived s).respond tag.toNat a 1 0x0501 := by
  rw [State.receiveFlit_reqHeader seq tag hup hseq hk ha hgood]
  exact State.request_of_fabricClosed hwarm hclosed

theorem regAddr_datawin_port_lt (w : Fin 4) : regAddr .datawin w.val 0x200 < 2 ^ 48 := by
  simp only [regAddr, pageIdx]
  omega

theorem regAddr_cmdwin_port_lt (w : Fin 16) : regAddr .cmdwin w.val 0x200 < 2 ^ 48 := by
  simp only [regAddr, pageIdx]
  omega

/-- Settles O10: each command delivers a request flit that keeps R40, and such a flit meets the closed fabric. -/
theorem requestsWaitForTheFabric : Obligations.RequestsWaitForTheFabric := by
  unfold Obligations.RequestsWaitForTheFabric
  refine ⟨?_, ?_, ?_⟩
  · intro seq tag kind a v s hup hseq hwarm hclosed hgood hkind
    rw [exec_registerWrite, toNat_ofNat_reqHeader (by omega) tag.isLt,
      State.receiveFlit_of_fabricClosed seq tag hup hseq hwarm hclosed (by omega) a.isLt hgood]
  · intro seq tag a v s hup hseq hwarm hclosed htag
    rw [State.writeBy_hitch, State.receiveFlit_of_fabricClosed seq tag hup hseq hwarm hclosed (by omega) a.isLt
      (flitBad_reqHeader (by omega) (tag_lt_of_ne htag) (by omega) (fun _ => v.isLt))]
  · intro seq tag s hup hseq hwarm hclosed htag
    have ht := tag_lt_of_ne htag
    refine ⟨fun w d => ?_, fun w => ?_, fun w d => ?_⟩
    · rw [exec_dwPortWrite, State.receiveFlit_of_fabricClosed seq tag hup hseq hwarm hclosed (by omega) (regAddr_datawin_port_lt w)
        (flitBad_reqHeader (by omega) ht (by omega) (by omega))]
    · rw [exec_dwPortRead, State.receiveFlit_of_fabricClosed seq tag hup hseq hwarm hclosed (by omega) (regAddr_datawin_port_lt w)
        (flitBad_reqHeader (by omega) ht (by omega) (by omega))]
    · rw [exec_cmdPortWrite, State.receiveFlit_of_fabricClosed seq tag hup hseq hwarm hclosed (by omega) (regAddr_cmdwin_port_lt w)
        (flitBad_reqHeader (by omega) ht (by omega) (by omega))]

end Sys2Proof.Machine
end

section
/-!
An accepted register write takes effect once and is answered by its port (O16).
-/
namespace Sys2Proof.Machine

set_option Elab.async false

variable {s : State} {a v : Nat} {src : Source}

/-! ### A write through the register fabric -/

theorem Reply.no_code {t : State} {c : Nat} : (Reply.no t c).code = c := rfl

theorem State.outsideCode_ne_zero {w : Bool} {n : Nat} : s.outsideCode w a n ≠ 0 := by
  simp only [State.outsideCode]
  split <;> decide

/-- A write that its page accepts is that of a whole aligned register of a page, and its reply holds the page's effect. -/
theorem State.regWrite_accepted (h : (s.regWrite src a v).code = 0) :
    ∃ k i, pageAt a 8 = some (k, i) ∧ a % 8 = 0 ∧ isPort k (a % 0x1000) = false ∧ s.writeCode src k i (a % 0x1000) v = 0 ∧
      s.regWrite src a v = .ok (s.writeJournaled src k i (a % 0x1000) v) := by
  unfold State.regWrite at h ⊢
  split at h
  next hnone => exact absurd h State.outsideCode_ne_zero
  next k i hpage =>
    simp only [hpage]
    by_cases halign : a % 8 = 0
    · by_cases hport : isPort k (a % 0x1000) = true
      · simp [halign, hport, Reply.no_code] at h
      · by_cases hfull : s.writeCode src k i (a % 0x1000) v = 0x0920
        · simp [halign, hport, hfull, Reply.no_code] at h
        · by_cases hcode : s.writeCode src k i (a % 0x1000) v = 0
          · exact ⟨k, i, rfl, halign, by simpa using hport, hcode, by simp [halign, hport, hcode]⟩
          · simp [halign, hport, hfull, hcode, Reply.no_code] at h
    · simp [halign, Reply.no_code] at h

theorem pageAt_eq_some {n : Nat} {p : PageKind × Nat} (h : pageAt a n = some p) : a + n ≤ 0x10000000 ∧ pageOf (a / 0x1000) = some p := by
  unfold pageAt at h
  split at h
  next => cases h
  next hin =>
    split at h
    · cases h
    · exact ⟨by omega, h⟩

theorem State.regWrite_data (h : (s.regWrite src a v).code = 0) : (s.regWrite src a v).data = 0 := by
  obtain ⟨_, _, -, -, -, -, heq⟩ := State.regWrite_accepted h
  rw [heq]
  rfl

/-- The register address of an accepted write: aligned, and below the device areas. -/
theorem State.regWrite_addr (h : (s.regWrite src a v).code = 0) : a % 8 = 0 ∧ a + 8 ≤ 0x10000000 := by
  obtain ⟨_, _, hpage, halign, -⟩ := State.regWrite_accepted h
  exact ⟨halign, (pageAt_eq_some hpage).1⟩

/-- Registers are eight bytes apart, so an accepted write to another register than STEWARD_RESET does not reset the module. -/
theorem State.regWrite_not_reset (h : (s.regWrite src a v).code = 0) (ha : a ≠ stewReg 0x110) : a / 8 ≠ stewReg 0x110 / 8 := by
  have haddr := (State.regWrite_addr h).1
  have hreset : stewReg 0x110 = 0x2110 := rfl
  omega

/-! ### Hitch -/

/-- A request flit that its port takes is executed. -/
theorem State.receiveFlit_of_takes {kind payload : Nat} {seq : BitVec 12} {tag : BitVec 8} (h : (Via.hitch seq tag).Takes s) (hk : 1 ≤ kind ∧ kind ≤ 4)
    (ha : a < 2 ^ 48) (hread : kind = 1 ∨ kind = 3 → payload = 0) (hwrite : kind = 2 → payload < 2 ^ 64) :
    s.receiveFlit seq.toNat (reqHeader kind tag.toNat a) payload = ((Via.hitch seq tag).arrived s).execRequest kind tag.toNat a payload := by
  obtain ⟨hopen, ⟨⟨⟨hup, hwarm⟩, hseq⟩, htag⟩, hfree⟩ : s.steward.fabricOpen = true ∧
      (((s.linkUp = true ∧ s.steward.warm = false) ∧ seq.toNat = s.hitch.rxNext) ∧ tag ≠ 0xFF#8) ∧ s.tagBusy tag.toNat = false := by
    simpa [Via.Takes, Via.takes] using h
  rw [State.receiveFlit_reqHeader seq tag hup hseq hk ha (flitBad_reqHeader hk (tag_lt_of_ne htag) hread hwrite)]
  exact State.request_of_fabricOpen hwarm hopen hfree

/-- A register write is executed by its page and answered once (R48, R49); the reset that STEWARD_RESET asks for aside. -/
theorem State.execRequest_write {tag : Nat} (hv : v < 2 ^ 64) (ha : a ≠ stewReg 0x110 ∨ (s.regWrite .hitch a v).code ≠ 0) :
    s.execRequest 2 tag a v = (s.regWrite .hitch a v).send tag a := by
  have hreset : ¬(a = stewReg 0x110 ∧ (s.regWrite .hitch a v).code = 0) := by omega
  have hmod : v % 18446744073709551616 = v := Nat.mod_eq_of_lt hv
  simp [State.execRequest, hmod, hreset]

theorem Reply.send_of_ok {r : Reply} {tag : Nat} (hcode : r.code = 0) (hdata : r.data = 0) : r.send tag a = r.st.respond tag a 0 0 := by
  simp [Reply.send, hcode, hdata]

theorem Reply.send_of_refused {r : Reply} {tag : Nat} (hcode : r.code ≠ 0) :
    r.send tag a = (r.st.bump (hitchReg 0x128)).respond tag a 2 r.code := by
  simp [Reply.send, hcode]

theorem State.writeBy_hitch_of_lands {seq : BitVec 12} {tag : BitVec 8} (h : Lands (.hitch seq tag) s a v) (hv : v < 2 ^ 64) (ha : a ≠ stewReg 0x110) :
    s.writeBy (.hitch seq tag) a v = ((Via.hitch seq tag).reply s a v).st.respond tag.toNat a 0 0 := by
  obtain ⟨htakes, hcode⟩ := h
  have haddr : a + 8 ≤ 0x10000000 := (State.regWrite_addr hcode).2
  rw [State.writeBy_hitch, State.receiveFlit_of_takes htakes (by omega) (by omega) (by omega) (fun _ => hv), State.execRequest_write hv (.inl ha)]
  exact Reply.send_of_ok hcode (State.regWrite_data hcode)

/-! ### The management ports -/

/-- With the fabric open a management port's write is counted, executed and answered once. -/
theorem State.mgmtRun_write {answer : State → Nat → Nat → State} {held : Nat → List Byte} (hopen : s.steward.fabricOpen = true)
    (hcode : ((s.bump (stewReg 0x1A0)).regWrite src a v).code = 0) (ha : a ≠ stewReg 0x110) :
    s.mgmtRun src true a v answer held = answer ((s.bump (stewReg 0x1A0)).regWrite src a v).st 0 0 := by
  have hgate : s.mgmtGate true a = .open_ := by simp [State.mgmtGate, hopen]
  have hexec : s.mgmtExec src true a v = (s.bump (stewReg 0x1A0)).regWrite src a v := by simp [State.mgmtExec, hcode]
  have hnot := State.regWrite_not_reset hcode ha
  simp [State.mgmtRun, hgate, hexec, hnot, hcode, State.regWrite_data hcode]

theorem State.blockRequest_write (hopen : s.steward.fabricOpen = true) (hawake : s.awake = true)
    (hcode : ((s.drawn.bump (stewReg 0x1A0)).regWrite src a v).code = 0) (ha : a ≠ stewReg 0x110) :
    s.blockRequest src true a v = ((s.drawn.bump (stewReg 0x1A0)).regWrite src a v).st := by
  simp [State.blockRequest, hawake, State.mgmtRun_write (s := s.drawn) hopen hcode ha, State.blockAnswer]

/-! ### A datagram (R545) -/

@[simp] theorem length_leBytes (n x : Nat) : (leBytes n x).length = n := by
  induction n generalizing x with
  | zero => rfl
  | succ n ih => simp [leBytes, ih]

theorem leNat_leBytes (n x : Nat) : leNat (leBytes n x) = x % 256 ^ n := by
  induction n generalizing x with
  | zero => simp [leBytes, leNat, Nat.mod_one]
  | succ n ih =>
    have hmod : x % 256 ^ (n + 1) = x % 256 + 256 * (x / 256 % 256 ^ n) := by rw [Nat.pow_succ', Nat.mod_mul]
    simp [leBytes, leNat, ih, hmod]

section
variable {tag : BitVec 8} {seq : BitVec 32}

theorem take_datagram {op status : Nat} : (datagram op tag.toNat status seq.toNat a v).take 8 =
    leBytes 8 (op % 256 + ((tag.toNat % 256) <<< 8) + ((status % 2 ^ 16) <<< 16) + ((seq.toNat % 2 ^ 32) <<< 32)) := by
  simp [datagram]

theorem addr_datagram {op status : Nat} (ha : a < 2 ^ 48) : leNat (((datagram op tag.toNat status seq.toNat a v).drop 8).take 8) = a := by
  have htake : ((datagram op tag.toNat status seq.toNat a v).drop 8).take 8 = leBytes 8 (a % 2 ^ 48) := by
    simp [datagram]
  rw [htake, leNat_leBytes]
  omega

theorem value_datagram {op status : Nat} (hv : v < 2 ^ 64) : leNat (((datagram op tag.toNat status seq.toNat a v).drop 16).take 8) = v := by
  have htake : ((datagram op tag.toNat status seq.toNat a v).drop 16).take 8 = leBytes 8 v := by
    simp [datagram, List.drop_append, List.drop_eq_nil_of_le]
  rw [htake, leNat_leBytes]
  omega

theorem reserved_datagram {op status : Nat} : leNat ((datagram op tag.toNat status seq.toNat a v).drop 24) = 0 := by
  simp [datagram, List.drop_append, List.drop_eq_nil_of_le, List.replicate, leNat]

/-- A write's datagram that the port takes, and that is no repeat, is run. -/
theorem State.etherRequest_write (hawake : s.awake = true) (hmclk : s.steward.mclk = true)
    (hnew : s.steward.mgmtLast.all (fun (m : Nat × List Byte) => m.1 != seq.toNat) = true) (ha : a < 2 ^ 48) (hv : v < 2 ^ 64) :
    s.etherRequest (datagram 2 tag.toNat 0 seq.toNat a v) =
      s.drawn.mgmtRun .mgmtEthernet true a v (fun t c d => t.etherAnswer true tag.toNat seq.toNat a v c d)
        (fun c => datagram 3 tag.toNat c seq.toNat a (s.freeBits 64)) := by
  have hlen : (datagram 2 tag.toNat 0 seq.toNat a v).length = 32 := by simp [datagram]
  have hhead : leNat ((datagram 2 tag.toNat 0 seq.toNat a v).take 8) = 2 + tag.toNat * 256 + seq.toNat * 4294967296 := by
    rw [take_datagram, leNat_leBytes]
    simp only [Nat.shiftLeft_eq]
    omega
  have hop : bitsOf (2 + tag.toNat * 256 + seq.toNat * 4294967296) 7 0 = 2 := by simp only [bitsOf, Nat.shiftRight_eq_div_pow]; omega
  have htag : bitsOf (2 + tag.toNat * 256 + seq.toNat * 4294967296) 15 8 = tag.toNat := by simp only [bitsOf, Nat.shiftRight_eq_div_pow]; omega
  have hzero : bitsOf (2 + tag.toNat * 256 + seq.toNat * 4294967296) 31 16 = 0 := by simp only [bitsOf, Nat.shiftRight_eq_div_pow]; omega
  have hseq : bitsOf (2 + tag.toNat * 256 + seq.toNat * 4294967296) 63 32 = seq.toNat := by simp only [bitsOf, Nat.shiftRight_eq_div_pow]; omega
  have hsmall : ¬ 281474976710656 ≤ a := Nat.not_le.2 ha
  cases hlast : s.steward.mgmtLast with
  | none =>
    simp [State.etherRequest, hawake, hmclk, hlen, hhead, hop, htag, hzero, hseq, addr_datagram ha, value_datagram hv, reserved_datagram, hsmall, hlast]
  | some m =>
    have hother : m.1 ≠ seq.toNat := by simpa [hlast] using hnew
    simp [State.etherRequest, hawake, hmclk, hlen, hhead, hop, htag, hzero, hseq, addr_datagram ha, value_datagram hv, reserved_datagram, hsmall, hlast, hother]

theorem State.writeBy_ethernet_of_lands (h : Lands (.ethernet seq tag) s a v) (hv : v < 2 ^ 64) (ha : a ≠ stewReg 0x110) :
    s.writeBy (.ethernet seq tag) a v = ((Via.ethernet seq tag).reply s a v).st.etherAnswer true tag.toNat seq.toNat a v 0 0 := by
  obtain ⟨htakes, hcode⟩ := h
  obtain ⟨hopen, ⟨hawake, hmclk⟩, hnew⟩ : s.steward.fabricOpen = true ∧ (s.awake = true ∧ s.steward.mclk = true) ∧
      s.steward.mgmtLast.all (fun (m : Nat × List Byte) => m.1 != seq.toNat) = true := by
    simpa only [Via.Takes, Via.takes, Bool.and_eq_true] using htakes
  have haddr : a + 8 ≤ 0x10000000 := (State.regWrite_addr hcode).2
  change s.etherRequest (datagram 2 tag.toNat 0 seq.toNat a v) = _
  rw [State.etherRequest_write hawake hmclk hnew (by omega) hv]
  exact State.mgmtRun_write (s := s.drawn) hopen hcode ha

end

/-- The two-wire and test ports take a request whenever Steward runs. -/
theorem State.writeBy_block_of_takes (hcode : ((s.drawn.bump (stewReg 0x1A0)).regWrite src a v).code = 0) (htakes : (s.steward.fabricOpen && s.awake) = true)
    (ha : a ≠ stewReg 0x110) : s.blockRequest src true a v = ((s.drawn.bump (stewReg 0x1A0)).regWrite src a v).st := by
  obtain ⟨hopen, hawake⟩ : s.steward.fabricOpen = true ∧ s.awake = true := by simpa using htakes
  exact State.blockRequest_write hopen hawake hcode ha

/-- Whichever port a landed write comes by, its page's effect stands and the port gives its one answer. -/
theorem State.writeBy_of_lands {via : Via} (h : Lands via s a v) (hv : v < 2 ^ 64) (ha : a ≠ stewReg 0x110) :
    s.writeBy via a v = via.answer a v (via.reply s a v).st := by
  cases via with
  | hitch seq tag => exact State.writeBy_hitch_of_lands h hv ha
  | ethernet seq tag => exact State.writeBy_ethernet_of_lands h hv ha
  | twoWire => exact State.writeBy_block_of_takes h.2 h.1 ha
  | jtag => exact State.writeBy_block_of_takes h.2 h.1 ha

/-- Settles O16, port by port. -/
theorem acceptedWriteIsAnswered : Obligations.AcceptedWriteIsAnswered := by
  unfold Obligations.AcceptedWriteIsAnswered
  exact fun _ _ _ _ hlands hv ha => State.writeBy_of_lands hlands hv ha

end Sys2Proof.Machine
end

section
/-!
What a store leaves in memory: the bytes written, in whatever sectors they lie, where no stack that has failed holds one.
-/
namespace Sys2Proof.Machine

set_option Elab.async false

variable {s t : State} {a n : Nat} {bs : List Byte}

theorem State.deadAt_congr (h : t.stackList = s.stackList) (b : Nat) : t.deadAt b = s.deadAt b := by
  simp only [State.deadAt, State.stackOf, State.liveStacks, State.stack, h]

theorem State.mem_storeSector (h : s.deadAt a = false) : (s.storeSector a bs).mem = memPutAll s.mem a bs := by
  unfold State.storeSector
  split
  · simp [h, State.clearPoison, State.putBytes]
  · simp [State.clearPoison, State.putBytes]

theorem memPutAll_append (m : List Host.Cell) (a : Nat) (xs ys : List Byte) :
    memPutAll m a (xs ++ ys) = memPutAll (memPutAll m a xs) (a + xs.length) ys := by
  induction xs generalizing m a with
  | nil => rfl
  | cons x xs ih => simp [memPutAll, ih, Nat.add_assoc, Nat.add_comm 1]

/-- One sector of a store to the Granary. -/
def State.storePart (a : Nat) (bs : List Byte) (t : State) (b : Nat) : State :=
  t.storeSector (sectorPart a bs.length b).1 ((bs.drop ((sectorPart a bs.length b).1 - a)).take (sectorPart a bs.length b).2)

theorem State.storePart_stackList (t : State) (b : Nat) : (State.storePart a bs t b).stackList = t.stackList := by
  simp [State.storePart]

/-- Storing the first sectors of a range stores the bytes that lie in them. -/
theorem State.mem_storeParts (hlive : ∀ i < bs.length, s.deadAt (a + i) = false) (j : Nat)
    (hj : j ≤ (a + bs.length - 1) / 32 - a / 32 + 1) (hne : 0 < bs.length) :
    let u := ((List.range j).map (fun i => (a / 32 + i) * 32)).foldl (State.storePart a bs) s
    u.mem = memPutAll s.mem a (bs.take ((a / 32 + j) * 32 - a)) ∧ u.stackList = s.stackList := by
  induction j with
  | zero => exact ⟨by simp [show a / 32 * 32 - a = 0 by omega, memPutAll], rfl⟩
  | succ j ih =>
    obtain ⟨hmem, hstack⟩ := ih (by omega)
    simp only [List.range_succ, List.map_append, List.foldl_append, List.map_cons, List.map_nil, List.foldl_cons, List.foldl_nil]
    refine ⟨?_, by rw [State.storePart_stackList, hstack]⟩
    obtain ⟨o, ho⟩ : ∃ o, max a ((a / 32 + j) * 32) = a + o := ⟨_, (Nat.add_sub_cancel' (Nat.le_max_left _ _)).symm⟩
    have hlt : o < bs.length := by omega
    have htake : (bs.take ((a / 32 + j) * 32 - a)).length = o := by rw [List.length_take]; omega
    have hsplit : bs.take ((a / 32 + (j + 1)) * 32 - a) = bs.take o ++ (bs.drop o).take (min (a + bs.length) ((a / 32 + j) * 32 + 32) - (a + o)) := by
      rw [← List.take_add]
      by_cases hend : a + bs.length ≤ (a / 32 + j) * 32 + 32
      · rw [List.take_of_length_le (by omega), List.take_of_length_le (by omega)]
      · congr 1; omega
    have hfirst : bs.take ((a / 32 + j) * 32 - a) = bs.take o := by congr 1; omega
    simp only [State.storePart, sectorPart, ho, Nat.add_sub_cancel_left]
    rw [State.mem_storeSector (by rw [State.deadAt_congr hstack]; exact hlive o hlt), hmem, hsplit, memPutAll_append, hfirst, List.length_take,
      Nat.min_eq_left hlt.le]

/-- A store that meets no failed stack puts its bytes, one after another. -/
theorem State.mem_store (hlive : ∀ i < bs.length, s.deadAt (a + i) = false) : (s.store a bs).mem = memPutAll s.mem a bs := by
  unfold State.store
  split
  · rcases Nat.eq_zero_or_pos bs.length with h0 | hpos
    · simp [sectorsOf, List.eq_nil_of_length_eq_zero h0, memPutAll]
    · have hall := (State.mem_storeParts hlive ((a + bs.length - 1) / 32 - a / 32 + 1) (le_refl _) hpos).1
      rw [List.take_of_length_le (by omega)] at hall
      rw [sectorsOf, if_neg (by omega)]
      exact hall
  · rfl

theorem State.bytes_eq_of_byte (h : ∀ i < bs.length, s.byte (a + i) = bs.getD i 0) : s.bytes a bs.length = bs := by
  induction bs generalizing a with
  | nil => rfl
  | cons b bs ih =>
    have h0 : s.byte a = b := by simpa using h 0 (by simp)
    have hrest : s.bytes (a + 1) bs.length = bs := ih fun i hi => by
      have := h (i + 1) (by simpa using hi)
      simpa [Nat.add_assoc, Nat.add_comm 1] using this
    simp only [List.length_cons, State.bytes, h0, hrest]

/-- What is stored is read back. -/
theorem State.bytes_of_mem_memPutAll (hok : s.MemOk) (hmem : t.mem = memPutAll s.mem a bs) : t.bytes a bs.length = bs := by
  refine State.bytes_eq_of_byte fun i hi => ?_
  rw [State.byte, hmem, memGet_memPutAll hok, if_pos (by omega), Nat.add_sub_cancel_left]

theorem State.num_congr (h : t.mem = s.mem) (n : Nat) : t.num a n = s.num a n := by
  have hbytes : t.bytes a n = s.bytes a n := by
    induction n generalizing a with
    | zero => rfl
    | succ n ih => simp only [State.bytes, State.byte, h, ih]
  rw [State.num, State.num, hbytes]

/-! ### Registers of one page, by their offset -/

theorem regAddr_mod (k : PageKind) (i off : Nat) : regAddr k i off % 0x1000 = off % 0x1000 := by
  simp [regAddr]

/-- Registers at different offsets of their pages are different registers. -/
theorem ne_of_mod_ne {b c : Nat} (h : b % 0x1000 ≠ c % 0x1000) : b ≠ c := fun e => h (congrArg (· % 0x1000) e)

theorem State.reg_setReg_offset {b : Nat} (v : Nat) (h : b % 0x1000 ≠ a % 0x1000) : (s.setReg a v).reg b = s.reg b :=
  State.reg_setReg_other s v (ne_of_mod_ne h)

theorem State.reg_bumpBy_offset {b : Nat} (m : Nat) (h : b % 0x1000 ≠ a % 0x1000) : (s.bumpBy a m).reg b = s.reg b :=
  State.reg_setReg_offset _ h

end Sys2Proof.Machine
end

section
/-!
Requests on Hitch are executed and answered once (O15).
-/
namespace Sys2Proof.Machine

set_option Elab.async false

variable {s t : State} {a n : Nat}

/-! ### Cache hints -/

/-- What an access under a cache hint leaves as it was: it marks lines, and counts those given up at one offset of their page. -/
structure HintOnly (s t : State) : Prop where
  mem : t.mem = s.mem
  hitch : t.hitch = s.hitch
  reg : ∀ b, b % 0x1000 ≠ 0x130 → t.reg b = s.reg b

theorem HintOnly.refl (s : State) : HintOnly s s := ⟨rfl, rfl, fun _ _ => rfl⟩

theorem HintOnly.trans {u : State} (h : HintOnly s t) (h' : HintOnly t u) : HintOnly s u :=
  ⟨h'.mem.trans h.mem, h'.hitch.trans h.hitch, fun b hb => (h'.reg b hb).trans (h.reg b hb)⟩

theorem HintOnly.ofKept {kept : List Nat} : HintOnly s { s with kept := kept } := ⟨rfl, rfl, fun _ _ => rfl⟩

theorem HintOnly.bump {f : Nat} : HintOnly s (s.bump (cacheReg f 0x130)) where
  mem := by simp
  hitch := by simp
  reg b hb := State.reg_bumpBy_offset 1 (by rw [cacheReg, regAddr_mod]; exact hb)

theorem State.keepLine_hintOnly : HintOnly s (s.keepLine a) := by
  unfold State.keepLine
  dsimp only []
  split
  · exact .ofKept
  · split
    · exact .refl s
    · split
      · exact HintOnly.ofKept.trans .bump
      · exact .ofKept

theorem State.keepLines_hintOnly (l : List Nat) : HintOnly s (l.foldl State.keepLine s) :=
  foldl_inv (HintOnly s) State.keepLine l (fun _ _ h => h.trans State.keepLine_hintOnly) (.refl s)

theorem State.readHint_hintOnly {hint : Nat} : HintOnly s (s.readHint a n hint) := by
  unfold State.readHint State.touchLines State.demote
  split
  · exact .refl s
  · split
    · split
      · exact .ofKept
      · exact .refl s
    · split
      · exact State.keepLines_hintOnly _
      · split
        · exact .ofKept
        · exact .refl s

theorem State.writeHint_hintOnly {hint : Nat} : HintOnly s (s.writeHint a n hint) := by
  unfold State.writeHint
  split
  · exact .refl s
  · exact State.readHint_hintOnly

/-! ### A store and the registers -/

theorem State.reg_storeSector {bs : List Byte} {b : Nat} (hb : b % 0x1000 ≠ 0x158) : (s.storeSector a bs).reg b = s.reg b := by
  unfold State.storeSector
  split
  · dsimp only []
    split
    · exact State.reg_bumpBy_offset 1 (by rw [regAddr_mod]; exact hb)
    · rfl
  · rfl

theorem State.reg_store {bs : List Byte} {b : Nat} (hb : b % 0x1000 ≠ 0x158) : (s.store a bs).reg b = s.reg b := by
  unfold State.store
  split
  · exact foldl_inv (fun t => t.reg b = s.reg b) _ _ (fun t _ ht => (State.reg_storeSector hb).trans ht) rfl
  · rfl

/-! ### The data window (R61) -/

theorem bitsOf_setBits_low (w k v : Nat) : bitsOf (setBits w k 0 v) k 0 = v % 2 ^ (k + 1) := by
  have hw : w - w % 2 ^ (k + 1) = 2 ^ (k + 1) * (w / 2 ^ (k + 1)) := by
    have := Nat.div_add_mod w (2 ^ (k + 1))
    omega
  simp [bitsOf, setBits, hw]

theorem State.rf_setRf_low (a k v : Nat) : (s.setRf a k 0 v).rf a k 0 = v % 2 ^ (k + 1) := by
  simp [State.rf, State.setRf, bitsOf_setBits_low]

theorem State.dwAddr_congr {w : Nat} (h : t.reg (dwReg w 0x100) = s.reg (dwReg w 0x100)) : t.dwAddr w = s.dwAddr w := by
  simp only [State.dwAddr, State.rf, h]

theorem dwReg_mod (w off : Nat) : dwReg w off % 0x1000 = off % 0x1000 := regAddr_mod .datawin w off

theorem State.dwAddr_of_hintOnly {w : Nat} (h : HintOnly s t) : t.dwAddr w = s.dwAddr w :=
  State.dwAddr_congr (h.reg _ (by rw [dwReg_mod]; decide))

theorem State.reg_leaveIdle (b : Nat) : s.leaveIdle.reg b = s.reg b := rfl

/-- DW_ADDR advances by the 64 bytes moved, as long as it has room for the sum. -/
theorem State.dwAddr_dwMoved {w : Nat} (h : s.dwAddr w + 64 < 2 ^ 48) : (s.dwMoved w).dwAddr w = s.dwAddr w + 64 := by
  have hcount : (s.dwMoved w).reg (dwReg w 0x100) = (s.setRf (dwReg w 0x100) 47 0 (s.dwAddr w + 64)).reg (dwReg w 0x100) := by
    rw [State.dwMoved, State.reg_leaveIdle]
    exact State.reg_bumpBy_offset 64 (by simp [dwReg_mod])
  rw [State.dwAddr_congr hcount, State.dwAddr, State.rf_setRf_low, Nat.mod_eq_of_lt h]

theorem Reply.code_ok : (Reply.ok s).code = 0 := rfl

theorem Reply.st_ok : (Reply.ok s).st = s := rfl

theorem State.dwMoved_mem {w : Nat} : (s.dwMoved w).mem = s.mem := by simp [State.dwMoved, State.leaveIdle]

theorem State.dwMoved_hitch {w : Nat} : (s.dwMoved w).hitch = s.hitch := by simp [State.dwMoved, State.leaveIdle]

/-- An access that is not refused ends at or before DW_LIMIT, and DW_LIMIT has 48 bits. -/
theorem State.dwAddr_lt_of_dwCode {w : Nat} {write : Bool} (h : s.dwCode w write = 0) : s.dwAddr w + 64 < 2 ^ 48 := by
  have hlimit : s.dwLimit w < 2 ^ 48 := Nat.mod_lt _ (by decide)
  have hroom : ¬ s.dwLimit w < s.dwAddr w + 64 := by
    intro hlt
    simp only [State.dwCode] at h
    split at h <;> simp_all
  omega

/-! ### Word accesses (R52, R61, R64) -/

theorem pageAt_dwPort : ∀ w : Fin 4, pageAt (regAddr .datawin w.val 0x200) 64 = some (.datawin, w.val) := by decide

theorem pageAt_cmdPort : ∀ w : Fin 16, pageAt (regAddr .cmdwin w.val 0x200) 64 = some (.cmdwin, w.val) := by decide

theorem State.wordAccess_dwWrite (w : Fin 4) (data : Nat) : s.wordAccess (regAddr .datawin w.val 0x200) true data = s.dwWrite w.val data := by
  simp [State.wordAccess, pageAt_dwPort w, regAddr_mod, isPort]

theorem State.wordAccess_dwRead (w : Fin 4) : s.wordAccess (regAddr .datawin w.val 0x200) false 0 = s.dwRead w.val := by
  simp [State.wordAccess, pageAt_dwPort w, regAddr_mod, isPort]

theorem State.wordAccess_cmdPort (w : Fin 16) (data : Word512) (hawake : s.asleep = false) :
    s.wordAccess (regAddr .cmdwin w.val 0x200) true data.toNat = s.cmdPort w.val data := by
  simp [State.wordAccess, pageAt_cmdPort w, regAddr_mod, isPort, hawake]

theorem State.execRequest_wordWrite {tag data : Nat} : s.execRequest 4 tag a data = (s.wordAccess a true data).send tag a := rfl

theorem State.execRequest_wordRead {tag data : Nat} : s.execRequest 3 tag a data = (s.wordAccess a false 0).send tag a := rfl

theorem State.execRequest_read {tag data : Nat} : s.execRequest 1 tag a data = (s.regRead a).send tag a := rfl

/-! ### What a response leaves -/

theorem State.dwAddr_respond {w tag b status payload : Nat} : (s.respond tag b status payload).dwAddr w = s.dwAddr w :=
  State.dwAddr_congr (State.reg_congr (by simp [State.respond, State.sendNumbered_regs]) _)

theorem State.bytes_respond {b m tag c status payload : Nat} : (s.respond tag c status payload).bytes b m = s.bytes b m := by
  induction m generalizing b with
  | zero => rfl
  | succ m ih => simp [State.bytes, State.byte, ih]

/-- A response goes out at once where the link is up, the replay buffer has room and none waits. -/
theorem State.respond_sent {tag b status payload : Nat} (hup : s.linkUp = true) (hroom : s.hitch.replay.length < 256) (hnone : s.hitch.txQueue = []) :
    (s.respond tag b status payload).hitch.sent = responseFlit tag b status payload :: s.hitch.sent := by
  simp [State.respond, State.sendNumbered, hup, hroom, hnone]

/-- A DW_PORT write that is not refused stores its 64 bytes, and DW_ADDR advances. -/
theorem State.dwWrite_ok {w data : Nat} (hok : s.MemOk) (hcode : s.dwCode w true = 0) (hlive : ∀ i, i < 64 → s.deadAt (s.dwAddr w + i) = false) :
    (s.dwWrite w data).code = 0 ∧ (s.dwWrite w data).st.bytes (s.dwAddr w) 64 = leBytes 64 data ∧
      (s.dwWrite w data).st.dwAddr w = s.dwAddr w + 64 := by
  obtain ⟨u, hu⟩ : ∃ u, u = (s.store (s.dwAddr w) (leBytes 64 data)).writeHint (s.dwAddr w) 64 (s.ctrlHint (s.dwAddr w)) := ⟨_, rfl⟩
  have hwrite : s.dwWrite w data = .ok (u.dwMoved w) := by simp [State.dwWrite, hcode, hu]
  have hhint : HintOnly (s.store (s.dwAddr w) (leBytes 64 data)) u := hu ▸ State.writeHint_hintOnly
  have hmem : u.mem = memPutAll s.mem (s.dwAddr w) (leBytes 64 data) := hhint.mem.trans (State.mem_store (by simpa using hlive))
  have haddr : u.dwAddr w = s.dwAddr w :=
    (State.dwAddr_of_hintOnly hhint).trans (State.dwAddr_congr (State.reg_store (by rw [dwReg_mod]; decide)))
  have hbytes := State.bytes_of_mem_memPutAll (t := u.dwMoved w) hok (State.dwMoved_mem.trans hmem)
  have hroom := State.dwAddr_lt_of_dwCode hcode
  rw [length_leBytes] at hbytes
  rw [hwrite, Reply.st_ok, State.dwAddr_dwMoved (by omega), haddr]
  exact ⟨Reply.code_ok, hbytes, rfl⟩

/-- A DW_PORT read that is not refused reads 64 bytes, and DW_ADDR advances. -/
theorem State.dwRead_ok {w : Nat} (hcode : s.dwCode w false = 0) :
    (s.dwRead w).code = 0 ∧ (s.dwRead w).data = s.num (s.dwAddr w) 64 ∧ (s.dwRead w).st.mem = s.mem ∧ (s.dwRead w).st.hitch = s.hitch ∧
      (s.dwRead w).st.dwAddr w = s.dwAddr w + 64 := by
  obtain ⟨u, hu⟩ : ∃ u, u = s.readHint (s.dwAddr w) 64 (s.ctrlHint (s.dwAddr w)) := ⟨_, rfl⟩
  have hread : s.dwRead w = ⟨u.dwMoved w, 0, s.num (s.dwAddr w) 64⟩ := by simp [State.dwRead, hcode, hu]
  have hhint : HintOnly s u := hu ▸ State.readHint_hintOnly
  have haddr : u.dwAddr w = s.dwAddr w := State.dwAddr_of_hintOnly hhint
  have hroom := State.dwAddr_lt_of_dwCode hcode
  have hmoved : (u.dwMoved w).dwAddr w = s.dwAddr w + 64 := by rw [State.dwAddr_dwMoved (by omega), haddr]
  rw [hread]
  exact ⟨rfl, rfl, State.dwMoved_mem.trans hhint.mem, State.dwMoved_hitch.trans hhint.hitch, hmoved⟩

/-! ### The command port (R64) -/

theorem State.win_setWin_self {w : Nat} (x : Window) (hw : w < s.windows.length) : (s.setWin w x).win w = x := by
  simp [State.win, State.setWin, hw]

/-- A word offered to an enabled window with room joins the words it holds. -/
theorem State.cmdPort_ok {w : Nat} {data : Word512} (hw : w < s.windows.length) (hon : s.enabled .cmdwin w = true)
    (hframe : (s.win w).framing = false) (hlatch : (s.win w).fullLatch = false) (hroom : (s.win w).words.length < 256) :
    (s.cmdPort w data).code = 0 ∧ ((s.cmdPort w data).st.win w).words = (s.win w).words ++ [data] := by
  have hport : s.cmdPort w data = .ok (s.setWin w { s.win w with words := (s.win w).words ++ [data] }) := by
    simp [State.cmdPort, hon, hframe, hlatch, hroom]
  rw [hport]
  refine ⟨rfl, ?_⟩
  change ((s.setWin w _).win w).words = _
  rw [State.win_setWin_self _ hw]

theorem State.win_respond {w tag b status payload : Nat} : (s.respond tag b status payload).win w = s.win w := by
  simp [State.win]

/-! ### The obligation -/

theorem Completes.intro {c : Instr} {P : State → Prop} (hrun : exec c s = .next t) (ht : P t) : Completes c s P := ⟨t, hrun, ht⟩


theorem Via.takes_linkUp {seq : BitVec 12} {tag : BitVec 8} (h : (Via.hitch seq tag).Takes s) : s.linkUp = true := by
  have htakes : (Via.hitch seq tag).takes s = true := h
  simp only [Via.takes, Bool.and_eq_true] at htakes
  exact htakes.2.1.1.1.1

theorem toNat_setWidth_512 (v : Word) : (v.setWidth 512).toNat = v.toNat := BitVec.toNat_setWidth_of_le (by decide)

/-- Settles O15: the flit of each command is a request that its port takes, and each kind of request has one reply. -/
theorem hitchRequests : Obligations.HitchRequests := by
  unfold Obligations.HitchRequests
  refine ⟨?_, ?_, ?_, ?_, ?_, ?_⟩
  · intro seq tag a v s hlands ha
    rw [exec_registerWrite, toNat_ofNat_reqHeader (by omega) tag.isLt, toNat_setWidth_512, ← State.writeBy_hitch,
      State.writeBy_hitch_of_lands hlands v.isLt ha]
  · intro seq tag a v s htakes hcode
    rw [exec_registerWrite, toNat_ofNat_reqHeader (by omega) tag.isLt, toNat_setWidth_512,
      State.receiveFlit_of_takes htakes (by omega) a.isLt (by omega) (fun _ => v.isLt), State.execRequest_write v.isLt (.inr hcode)]
    exact congrArg _ (Reply.send_of_refused hcode)
  · intro seq tag w d s hok htakes hcode hlive
    obtain ⟨hacc, hbytes, haddr⟩ := State.dwWrite_ok (s := (Via.hitch seq tag).arrived s) (data := d.toNat) hok hcode hlive
    have hrun : exec (.dwPortWrite seq tag w d) s = .next ((((Via.hitch seq tag).arrived s).dwWrite w.val d.toNat).send tag.toNat (regAddr .datawin w.val 0x200)) := by
      rw [exec_dwPortWrite, State.receiveFlit_of_takes htakes (by omega) (regAddr_datawin_port_lt w) (by omega) (by omega),
        State.execRequest_wordWrite, State.wordAccess_dwWrite]
    refine Completes.intro hrun ⟨?_, ?_⟩
    · rw [Reply.send, if_pos hacc, State.bytes_respond]
      exact hbytes
    · rw [Reply.send, if_pos hacc, State.dwAddr_respond]
      exact haddr
  · intro seq tag w s htakes hcode hroom hnone
    obtain ⟨hacc, hdata, hmem, hhitch, haddr⟩ := State.dwRead_ok (s := (Via.hitch seq tag).arrived s) hcode
    have hrun : exec (.dwPortRead seq tag w) s = .next ((((Via.hitch seq tag).arrived s).dwRead w.val).send tag.toNat (regAddr .datawin w.val 0x200)) := by
      rw [exec_dwPortRead, State.receiveFlit_of_takes htakes (by omega) (regAddr_datawin_port_lt w) (by omega) (by omega),
        State.execRequest_wordRead, State.wordAccess_dwRead]
    refine Completes.intro hrun ⟨?_, ?_, ?_⟩
    · rw [Reply.send, if_pos hacc, State.respond_mem]
      exact hmem
    · rw [Reply.send, if_pos hacc, State.dwAddr_respond]
      exact haddr
    · have hup : (((Via.hitch seq tag).arrived s).dwRead w.val).st.linkUp = true := by
        have htaken := Via.takes_linkUp htakes
        rw [State.linkUp, hhitch]
        exact htaken
      rw [Reply.send, if_pos hacc, State.respond_sent hup (by rw [hhitch]; exact hroom) (by rw [hhitch]; exact hnone), hdata, hhitch]
      rfl
  · intro seq tag w d s htakes hawake hw hon hframe hlatch hroom
    obtain ⟨hacc, hwords⟩ := State.cmdPort_ok (s := (Via.hitch seq tag).arrived s) (data := d) hw hon hframe hlatch hroom
    have hrun : exec (.cmdPortWrite seq tag w d) s = .next ((((Via.hitch seq tag).arrived s).cmdPort w.val d).send tag.toNat (regAddr .cmdwin w.val 0x200)) := by
      rw [exec_cmdPortWrite, State.receiveFlit_of_takes htakes (by omega) (regAddr_cmdwin_port_lt w) (by omega) (by omega),
        State.execRequest_wordWrite, State.wordAccess_cmdPort (s := (Via.hitch seq tag).arrived s) w d hawake]
    refine Completes.intro hrun ?_
    rw [Reply.send, if_pos hacc]
    simp only [State.win_respond]
    exact hwords
  · intro seq tag a s htakes
    have hempty : (0 : Word512).toNat = 0 := BitVec.toNat_zero
    rw [exec_registerWrite, toNat_ofNat_reqHeader (by omega) tag.isLt, hempty,
      State.receiveFlit_of_takes htakes (by omega) a.isLt (fun _ => rfl) (by omega), State.execRequest_read]

end Sys2Proof.Machine
end

section
/-!
Events, errors and counters: what raising one leaves, by register and by part of the state.
-/
namespace Sys2Proof.Machine

set_option Elab.async false

variable {s t : State} {k : PageKind} {i bit info work a b : Nat}

/-! ### Bits -/

theorem bitOf_eq_testBit (w n : Nat) : bitOf w n = w.testBit n := by
  simp only [bitOf, Nat.testBit, Nat.one_and_eq_mod_two]
  rcases Nat.mod_two_eq_zero_or_one (w >>> n) with h | h <;> simp [h]

theorem bitOf_or (w v n : Nat) : bitOf (w ||| v) n = (bitOf w n || bitOf v n) := by
  simp [bitOf_eq_testBit]

theorem bitOf_shiftLeft_one (n : Nat) : bitOf (1 <<< n) n = true := by
  simp [bitOf_eq_testBit, Nat.one_shiftLeft]

/-! ### Raising an event (R75) -/

/-- A register that is neither a PG_EVENT register nor the count of records dropped keeps its value when an event is raised. -/
theorem State.reg_pushRecord (r : EventRec) (h30 : b % 0x1000 ≠ 0x030) (h140 : b % 0x1000 ≠ 0x140) : (s.pushRecord r).reg b = s.reg b := by
  have hcount : (s.bump (regAddr .hitch 0 0x140)).reg b = s.reg b := State.reg_bumpBy_offset 1 (by rw [regAddr_mod]; exact h140)
  unfold State.pushRecord
  split
  · rfl
  · dsimp only []
    split
    · exact hcount
    · split
      · exact (State.reg_setReg_offset _ (by rw [regAddr_mod]; exact h30)).trans hcount
      · exact (State.reg_setReg_offset _ (by rw [regAddr_mod]; exact h30)).trans hcount

theorem State.reg_raise (h30 : b % 0x1000 ≠ 0x030) (h140 : b % 0x1000 ≠ 0x140) : (s.raise k i bit info work).reg b = s.reg b := by
  have hset : ((s.noteSet (regAddr k i 0x030) bit).setReg (regAddr k i 0x030) (s.reg (regAddr k i 0x030) ||| (1 <<< bit))).reg b = s.reg b :=
    State.reg_setReg_offset _ (by rw [regAddr_mod]; exact h30)
  unfold State.raise
  dsimp only []
  split
  · rfl
  · split
    · exact hset
    · exact (State.reg_pushRecord _ h30 h140).trans hset

/-- A PG_EVENT bit that is set stays set when a record is queued: the queue's own overflow bit is only added. -/
theorem State.bitOf_pushRecord {n : Nat} (r : EventRec) (h140 : b % 0x1000 ≠ 0x140) (hb : bitOf (s.reg b) n = true) :
    bitOf ((s.pushRecord r).reg b) n = true := by
  have hcount : (s.bump (regAddr .hitch 0 0x140)).reg b = s.reg b := State.reg_bumpBy_offset 1 (by rw [regAddr_mod]; exact h140)
  have hover : bitOf (((s.bump (regAddr .hitch 0 0x140)).setReg (regAddr .hitch 0 0x030)
      ((s.bump (regAddr .hitch 0 0x140)).reg (regAddr .hitch 0 0x030) ||| 8)).reg b) n = true := by
    rw [State.reg_setReg]
    split
    next heq => rw [← heq, hcount, bitOf_or, hb, Bool.true_or]
    next => rw [hcount, hb]
  unfold State.pushRecord
  split
  · exact hb
  · dsimp only []
    split
    · rw [hcount, hb]
    · split
      · exact hover
      · exact hover

/-- A PG_EVENT bit that is set stays set when another event is raised. -/
theorem State.bitOf_raise_of_set {n : Nat} (h140 : b % 0x1000 ≠ 0x140) (hb : bitOf (s.reg b) n = true) :
    bitOf ((s.raise k i bit info work).reg b) n = true := by
  have hset : bitOf (((s.noteSet (regAddr k i 0x030) bit).setReg (regAddr k i 0x030) (s.reg (regAddr k i 0x030) ||| (1 <<< bit))).reg b) n = true := by
    rw [State.reg_setReg]
    split
    next heq => rw [← heq, bitOf_or, hb, Bool.true_or]
    next => exact hb
  unfold State.raise
  dsimp only []
  split
  · exact hb
  · split
    · exact hset
    · exact State.bitOf_pushRecord _ h140 hset

theorem State.raised_raise : (s.raise k i bit info work).Raised k i bit := by
  have hset : bitOf (((s.noteSet (regAddr k i 0x030) bit).setReg (regAddr k i 0x030) (s.reg (regAddr k i 0x030) ||| (1 <<< bit))).reg
      (regAddr k i 0x030)) bit = true := by
    rw [State.reg_setReg_self, bitOf_or, bitOf_shiftLeft_one, Bool.or_true]
  unfold State.Raised State.raise
  dsimp only []
  split
  next hold => exact hold
  next =>
    split
    · exact hset
    · exact State.bitOf_pushRecord _ (by rw [regAddr_mod]; decide) hset

/-- An event that is raised stays raised when another is. -/
theorem State.Raised.raise {k' : PageKind} {i' bit' info' work' : Nat} (h : s.Raised k i bit) : (s.raise k' i' bit' info' work').Raised k i bit :=
  State.bitOf_raise_of_set (by rw [regAddr_mod]; decide) h

theorem State.Raised.congr (h : s.Raised k i bit) (hreg : t.reg (regAddr k i 0x030) = s.reg (regAddr k i 0x030)) : t.Raised k i bit := by
  rw [State.Raised, hreg]
  exact h

/-! ### Capturing an error (R57) -/

theorem State.reg_capture {code info0 info1 : Nat} (h40 : b % 0x1000 ≠ 0x040) (h48 : b % 0x1000 ≠ 0x048) (h50 : b % 0x1000 ≠ 0x050)
    (h58 : b % 0x1000 ≠ 0x058) : (s.capture k i code info0 info1).reg b = s.reg b := by
  have hoff {t : State} {o v : Nat} (ho : b % 0x1000 ≠ o % 0x1000) : (t.setReg (regAddr k i o) v).reg b = t.reg b :=
    State.reg_setReg_offset v (by rw [regAddr_mod]; exact ho)
  unfold State.capture
  dsimp only []
  split
  · rw [hoff h58, hoff h50, hoff h48, hoff h40]
  · rfl

theorem State.Raised.capture {k' : PageKind} {i' code info0 info1 : Nat} (h : s.Raised k i bit) : (s.capture k' i' code info0 info1).Raised k i bit := by
  refine h.congr (State.reg_capture ?_ ?_ ?_ ?_) <;> rw [regAddr_mod] <;> decide

theorem State.raised_raiseErr {code info0 info1 : Nat} : (s.raiseErr k i bit code work info0 info1).Raised k i bit := State.raised_raise.capture

theorem State.Raised.raiseErr {k' : PageKind} {i' bit' code work' info0 info1 : Nat} (h : s.Raised k i bit) :
    (s.raiseErr k' i' bit' code work' info0 info1).Raised k i bit := h.raise.capture

/-- The registers that raising an error may change, by their offset in a page. -/
def errorOffsets : List Nat := [0x030, 0x040, 0x048, 0x050, 0x058, 0x140]

theorem State.reg_raiseErr {code info0 info1 : Nat} (h : b % 0x1000 ∉ errorOffsets) : (s.raiseErr k i bit code work info0 info1).reg b = s.reg b := by
  simp only [errorOffsets, List.mem_cons, List.not_mem_nil, or_false, not_or] at h
  obtain ⟨h30, h40, h48, h50, h58, h140⟩ := h
  exact (State.reg_capture h40 h48 h50 h58).trans (State.reg_raise h30 h140)

/-! ### Counters -/

theorem State.counted_bumpBy {n : Nat} : s.Counted (s.bumpBy a n) a n := by
  rw [State.Counted, State.reg_bumpBy, if_pos rfl]

theorem State.Counted.congr {u : State} {n : Nat} (h : s.Counted t a n) (hreg : u.reg a = t.reg a) : s.Counted u a n := hreg.trans h

end Sys2Proof.Machine
end

section
/-!
A command window parses its next descriptor (O18).
-/
namespace Sys2Proof.Machine

set_option Elab.async false

variable {s t : State} {w : Nat}

theorem exec_descriptorParse {w : Fin 16} : exec (.descriptorParse w) s = .next (s.parseWindow w.val) := rfl

/-- A window that holds a word is one that there is. -/
theorem State.win_lt_of_words {h : Word512} {ws : List Word512} (hwords : (s.win w).words = h :: ws) : w < s.windows.length := by
  by_contra hge
  simp [State.win, List.getElem?_eq_none (Nat.not_lt.1 hge)] at hwords

theorem State.win_congr (h : t.windows = s.windows) : t.win w = s.win w := by simp only [State.win, h]

theorem State.reg_setWin {x : Window} (b : Nat) : (s.setWin w x).reg b = s.reg b := rfl

theorem State.parseSeen_windows : (s.parseSeen w).windows = s.windows := by
  unfold State.parseSeen
  split
  · simp
  · rfl

theorem State.parseSeen_flights : (s.parseSeen w).flights = s.flights := by
  unfold State.parseSeen
  split
  · simp
  · rfl

/-- Counting a parsed descriptor changes no register at another offset than that of REEVE.parsed. -/
theorem State.reg_parseSeen {b : Nat} (hb : b % 0x1000 ≠ 0x118) : (s.parseSeen w).reg b = s.reg b := by
  unfold State.parseSeen
  split
  · exact State.reg_bumpBy_offset 1 (by rw [reeveReg, regAddr_mod]; exact hb)
  · rfl

/-- A window that may parse: its framing is kept, it is not halted, and cores of its consumer work. -/
structure State.MayParse (s : State) (w : Nat) : Prop where
  framing : (s.win w).framing = false
  halted : (s.win w).halted = false
  runs : s.placeRuns (s.consumer w) = true

/-- The words of the next descriptor, held in full, are taken and checked. -/
theorem State.parseWindow_whole {h : Word512} {ws : List Word512} (hmay : s.MayParse w) (hwords : (s.win w).words = h :: ws) (hpos : 1 ≤ hWords h)
    (hfour : hWords h ≤ 4) (hheld : hWords h ≤ (h :: ws).length) :
    s.parseWindow w =
      (if (s.parseSeen w).descCheck (s.consumer w) ((h :: ws).take (hWords h)) ≠ 0 then
        ((s.parseSeen w).setWin w { s.win w with words := (h :: ws).drop (hWords h) }).refuseDesc w ((h :: ws).take (hWords h))
          ((s.parseSeen w).descCheck (s.consumer w) ((h :: ws).take (hWords h)))
      else (s.parseSeen w).setWin w { s.win w with
        words := (h :: ws).drop (hWords h), parsed := (s.win w).parsed ++ [(s.consumer w, (h :: ws).take (hWords h))] }) := by
  have hcount : ¬(hWords h = 0 ∨ 5 ≤ hWords h) := by omega
  have hwhole : ¬(h :: ws).length < hWords h := by omega
  simp only [State.parseWindow, hmay.framing, hmay.halted, hmay.runs, hwords, State.parseSeen, Bool.or_false, Bool.not_true, Bool.false_eq_true,
    if_false, Bool.or_eq_true, decide_eq_true_eq, hcount, hwhole]

/-- A word 0 with no possible count loses the framing. -/
theorem State.parseWindow_badCount {h : Word512} {ws : List Word512} (hmay : s.MayParse w) (hwords : (s.win w).words = h :: ws)
    (hbad : hWords h = 0 ∨ 5 ≤ hWords h) : s.parseWindow w = s.loseFraming w [h] (headerCheck [h]) := by
  simp only [State.parseWindow, hmay.framing, hmay.halted, hmay.runs, hwords, Bool.or_false, Bool.not_true, Bool.false_eq_true,
    if_false, Bool.or_eq_true, decide_eq_true_eq, hbad, if_true]

/-- The first word of a descriptor of one word or more is the word it begins with. -/
theorem dword_take_cons {h : Word512} {ws : List Word512} {n : Nat} (hn : 1 ≤ n) : dword ((h :: ws).take n) 0 = h := by
  obtain ⟨m, rfl⟩ : ∃ m, n = m + 1 := ⟨n - 1, by omega⟩
  rfl

/-! ### Refusal (R69) and lost framing (R70) -/

/-- A refused descriptor halts its window where it asks for that, and changes the window in nothing else. -/
theorem State.win_refuseDesc {d : List Word512} {code : Nat} (hw : w < s.windows.length) :
    (s.refuseDesc w d code).win w = { s.win w with halted := (s.win w).halted || hHalt (dword d 0) } := by
  have hsame : ((s.bump (regAddr .cmdwin w 0x128)).raise .cmdwin w 1 code (hWorkId (dword d 0))).win w = s.win w := State.win_congr (by simp)
  unfold State.refuseDesc
  dsimp only []
  split
  next hhalt => rw [State.win_setWin_self _ (by simpa using hw), hsame, hhalt, Bool.or_true]
  next hhalt => rw [hsame, Bool.eq_false_iff.2 hhalt, Bool.or_false]

/-- A refusal is counted and raises REFUSED. -/
theorem State.refuseDesc_reported {d : List Word512} {code : Nat} :
    (s.refuseDesc w d code).Raised .cmdwin w 1 ∧ s.Counted (s.refuseDesc w d code) (regAddr .cmdwin w 0x128) 1 := by
  have hraised : ((s.bump (regAddr .cmdwin w 0x128)).raise .cmdwin w 1 code (hWorkId (dword d 0))).Raised .cmdwin w 1 := State.raised_raise
  have hcounted : s.Counted ((s.bump (regAddr .cmdwin w 0x128)).raise .cmdwin w 1 code (hWorkId (dword d 0))) (regAddr .cmdwin w 0x128) 1 :=
    State.counted_bumpBy.congr (State.reg_raise (by rw [regAddr_mod]; decide) (by rw [regAddr_mod]; decide))
  unfold State.refuseDesc
  dsimp only []
  split
  · exact ⟨hraised, hcounted⟩
  · exact ⟨hraised, hcounted⟩

/-- A window that loses its framing gives up its words and keeps what is parsed, and FRAMING is raised. -/
theorem State.loseFraming_facts {d : List Word512} {code : Nat} (hw : w < s.windows.length) :
    ((s.loseFraming w d code).win w).words = [] ∧ ((s.loseFraming w d code).win w).framing = true ∧
      ((s.loseFraming w d code).win w).parsed = (s.win w).parsed ∧ (s.loseFraming w d code).Raised .cmdwin w 3 := by
  obtain ⟨u, hu⟩ : ∃ u, u = (s.bump (regAddr .cmdwin w 0x128)).raise .cmdwin w 1 code (hWorkId (dword d 0)) := ⟨_, rfl⟩
  have hlose : s.loseFraming w d code =
      (u.setWin w { u.win w with words := [], parsed := (u.win w).parsed, framing := true }).raise .cmdwin w 3 code (hWorkId (dword d 0)) := by
    rw [hu]; rfl
  have hsame : u.win w = s.win w := State.win_congr (by simp [hu])
  have hlen : w < u.windows.length := by simpa [hu] using hw
  have hwin : (s.loseFraming w d code).win w = { u.win w with words := [], parsed := (u.win w).parsed, framing := true } := by
    rw [hlose, State.win_congr (State.raise_windows ..), State.win_setWin_self _ hlen]
  rw [hwin, hsame]
  exact ⟨rfl, rfl, rfl, hlose ▸ State.raised_raise⟩

/-! ### The obligation -/

/-- Settles O18: the three outcomes of a descriptor whose words are held, by the lemma of each. -/
theorem windowParses : Obligations.WindowParses := by
  unfold Obligations.WindowParses
  refine ⟨?_, ?_, ?_⟩
  · intro w s h ws hframe hhalt hruns hwords hpos hfour hheld hgood
    have hwin := State.win_lt_of_words hwords
    have hparse := State.parseWindow_whole ⟨hframe, hhalt, hruns⟩ hwords hpos hfour hheld
    rw [if_neg (not_not.2 hgood)] at hparse
    refine Completes.intro exec_descriptorParse ?_
    rw [hparse, State.win_setWin_self _ (by rw [State.parseSeen_windows]; exact hwin)]
    exact ⟨rfl, rfl, State.parseSeen_flights⟩
  · intro w s h ws hframe hhalt hruns hwords hpos hfour hheld hbad
    have hwin := State.win_lt_of_words hwords
    have hparse := State.parseWindow_whole ⟨hframe, hhalt, hruns⟩ hwords hpos hfour hheld
    rw [if_pos hbad] at hparse
    refine Completes.intro exec_descriptorParse ?_
    generalize hx : ({ s.win w with words := (h :: ws).drop (hWords h) } : Window) = x at hparse
    have hlen : w < ((s.parseSeen w).setWin w x).windows.length := by
      simpa [State.setWin, State.parseSeen_windows] using hwin
    have hself : ((s.parseSeen w).setWin w x).win w = x :=
      State.win_setWin_self _ (by rw [State.parseSeen_windows]; exact hwin)
    obtain ⟨hraised, hcounted⟩ := State.refuseDesc_reported (s := (s.parseSeen w).setWin w x) (w := w)
      (d := (h :: ws).take (hWords h)) (code := (s.parseSeen w).descCheck (s.consumer w) ((h :: ws).take (hWords h)))
    rw [hparse, State.win_refuseDesc hlen, hself, dword_take_cons hpos]
    refine ⟨by rw [← hx], by rw [← hx], by simp [← hx, hhalt], hraised, hcounted.trans ?_⟩
    rw [State.reg_setWin, State.reg_parseSeen (by rw [regAddr_mod]; decide)]
  · intro w s h ws hframe hhalt hruns hwords hbad
    refine Completes.intro exec_descriptorParse ?_
    rw [State.parseWindow_badCount ⟨hframe, hhalt, hruns⟩ hwords hbad]
    exact State.loseFraming_facts (State.win_lt_of_words hwords)

end Sys2Proof.Machine
end

section
/-!
Descriptors issue; NOP and SIGNAL complete (O19).
-/
namespace Sys2Proof.Machine

set_option Elab.async false

variable {s t u : State} {w step : Nat} {d : List Word512}

theorem exec_descriptorIssue {w : Fin 16} : exec (.descriptorIssue w) s = .next (s.issueWindow w.val) := rfl

theorem exec_nop {id : Nat} : exec (.nop id) s = .next (s.runNop id) := rfl

theorem exec_signal {id : Nat} : exec (.signal id) s = .next (s.runSignal id) := rfl

/-! ### What leaves the parsed descriptors and the next id alone -/

/-- The descriptors that every window has parsed, and the id that the next flight takes, are as before. -/
structure SameParsed (s t : State) : Prop where
  nextId : t.nextId = s.nextId
  parsed : ∀ w, (t.win w).parsed = (s.win w).parsed

theorem SameParsed.refl (s : State) : SameParsed s s := ⟨rfl, fun _ => rfl⟩

theorem SameParsed.trans (h : SameParsed s t) (h' : SameParsed t u) : SameParsed s u :=
  ⟨h'.nextId.trans h.nextId, fun w => (h'.parsed w).trans (h.parsed w)⟩

theorem SameParsed.of_eq (hid : t.nextId = s.nextId) (hwin : t.windows = s.windows) : SameParsed s t :=
  ⟨hid, fun _ => by rw [State.win_congr hwin]⟩

/-- A window replaced by one with the same parsed descriptors. -/
theorem SameParsed.setWin {x : Window} (hx : x.parsed = (s.win w).parsed) : SameParsed s (s.setWin w x) where
  nextId := rfl
  parsed v := by
    by_cases hvw : v = w
    · subst hvw
      by_cases hlt : v < s.windows.length
      · rw [State.win_setWin_self x hlt, hx]
      · simp [State.win, State.setWin, hlt]
    · simp [State.win, State.setWin, List.getElem?_set_ne (Ne.symm hvw)]

theorem State.refuseDesc_sameParsed {code : Nat} : SameParsed s (s.refuseDesc w d code) := by
  have hreport : SameParsed s ((s.bump (regAddr .cmdwin w 0x128)).raise .cmdwin w 1 code (hWorkId (dword d 0))) := .of_eq (by simp) (by simp)
  unfold State.refuseDesc
  dsimp only []
  split
  · exact hreport.trans (.setWin rfl)
  · exact hreport

theorem SameParsed.ite {c : Prop} {_ : Decidable c} (ht : SameParsed s t) (hu : SameParsed s u) : SameParsed s (if c then t else u) := by
  split <;> assumption

/-- Flights do not matter to it, nor does the furlong. -/
theorem SameParsed.dropFlight (s : State) (p : Flight → Bool) : SameParsed s { s with flights := s.flights.filter p } := ⟨rfl, fun _ => rfl⟩

theorem State.refuseFlight_sameParsed {id code : Nat} : SameParsed s (s.refuseFlight id code) := by
  unfold State.refuseFlight
  split
  · exact .refl s
  · dsimp only []
    split
    · exact (SameParsed.dropFlight s _).trans State.refuseDesc_sameParsed
    · exact ⟨rfl, fun _ => rfl⟩

theorem SameParsed.setFlight {f : Flight} : SameParsed s (s.setFlight f) := ⟨rfl, fun _ => rfl⟩

theorem SameParsed.setReg {a v : Nat} : SameParsed s (s.setReg a v) := ⟨rfl, fun _ => rfl⟩

theorem State.recAdmit_sameParsed (n : Nat) : SameParsed s (State.recAdmit n s) := by
  induction n generalizing s with
  | zero => exact .refl s
  | succ n ih =>
    unfold State.recAdmit
    split
    · exact .refl s
    · exact .ite (.refl s) <| .ite (State.refuseFlight_sameParsed.trans ih) <| .ite (SameParsed.setFlight.trans .setReg) .setFlight

theorem State.complete_sameParsed {id info : Nat} : SameParsed s (s.complete id info) := .of_eq (by simp) (by simp)

/-! ### The parts of an issue -/

/-- Flights, the next id and the windows are as before. -/
structure SameFlights (s t : State) : Prop where
  flights : t.flights = s.flights
  nextId : t.nextId = s.nextId
  windows : t.windows = s.windows

theorem SameFlights.refl (s : State) : SameFlights s s := ⟨rfl, rfl, rfl⟩

theorem SameFlights.sameParsed (h : SameFlights s t) : SameParsed s t := .of_eq h.nextId h.windows

theorem SameFlights.store (h : SameFlights s t) (a : Nat) (bs : List Byte) : SameFlights s (t.store a bs) :=
  ⟨by rw [State.store_flights, h.flights], by rw [State.store_nextId, h.nextId], by rw [State.store_windows, h.windows]⟩

theorem SameFlights.foldl {α : Type} {f : State → α → State} {l : List α} (h : SameFlights s t) (hf : ∀ u a, SameFlights s u → SameFlights s (f u a)) :
    SameFlights s (l.foldl f t) := foldl_inv (SameFlights s) f l hf h

theorem State.emptyArea_sameFlights {area : Nat} : SameFlights s (s.emptyArea area) :=
  (SameFlights.refl s).foldl fun _ _ ht => ht.foldl fun _ _ hu => hu.store _ _

/-- Opening a step leaves flights and windows. -/
theorem State.openStep_sameFlights : SameFlights s (s.openStep step) := by
  unfold State.openStep
  split
  · exact .refl s
  · exact ⟨State.emptyArea_sameFlights.flights, State.emptyArea_sameFlights.nextId, State.emptyArea_sameFlights.windows⟩

theorem State.rehomeEngine_sameFlights {e : Nat} : SameFlights s (s.rehomeEngine e) := by
  unfold State.rehomeEngine
  dsimp only []
  split
  · exact .refl s
  · split
    · exact ⟨by simp [State.setEngine], by simp [State.setEngine], by simp [State.setEngine]⟩
    · split
      · exact ⟨by simp [State.setEngine], by simp [State.setEngine], by simp [State.setEngine]⟩
      · exact .refl s

theorem State.noteColl_sameFlights : SameFlights s (s.noteColl d step) := by
  unfold State.noteColl
  dsimp only []
  split
  · exact .refl s
  · split <;> exact ⟨rfl, rfl, rfl⟩

/-- What a unit notes at issue leaves the parsed descriptors; recovery may refuse descriptors in flight, the others none. -/
theorem State.noteIssue_facts : SameParsed s (s.noteIssue d step) ∧ (hClass (dword d 0) ≠ 0x0D → (s.noteIssue d step).flights = s.flights) := by
  unfold State.noteIssue
  split
  · exact ⟨.of_eq rfl rfl, fun _ => rfl⟩
  · exact ⟨State.rehomeEngine_sameFlights.sameParsed, fun _ => State.rehomeEngine_sameFlights.flights⟩
  · exact ⟨State.noteColl_sameFlights.sameParsed, fun _ => State.noteColl_sameFlights.flights⟩
  next hrec => exact ⟨State.recAdmit_sameParsed _, fun hne => absurd hrec hne⟩
  · exact ⟨.refl s, fun _ => rfl⟩

/-- The descriptor as it flies from its issue on. -/
def State.issued (s : State) (origin : Origin) (step : Nat) (d : List Word512) : Flight :=
  ⟨s.nextId, d, origin, step, if hClass (dword d 0) == 0 && hOpcode (dword d 0) == 0 then none else s.waitCopy d, false, false, 0, false, false,
    if hClass (dword d 0) = 3 then s.assignEngine d else 0, none, s.startProg d⟩

/-- An issued descriptor takes the next id and joins the flights; its windows keep what they have parsed. -/
theorem State.issueFlight_facts {origin : Origin} :
    (s.issueFlight origin step d).nextId = s.nextId + 1 ∧ (∀ w, ((s.issueFlight origin step d).win w).parsed = (s.win w).parsed) ∧
      (hClass (dword d 0) ≠ 0x0D → s.waitStop d = 0 → (s.issueFlight origin step d).flights = s.flights ++ [s.issued origin step d]) := by
  obtain ⟨s1, hs1⟩ : ∃ s1, s1 = if reachesUnit (hClass (dword d 0)) then (s.openStep step).leaveIdle else s := ⟨_, rfl⟩
  obtain ⟨hflights, -, hwindows⟩ : SameFlights s s1 := by
    rw [hs1]
    split
    · exact ⟨State.openStep_sameFlights.flights, State.openStep_sameFlights.nextId, State.openStep_sameFlights.windows⟩
    · exact .refl s
  obtain ⟨s2, hs2⟩ : ∃ s2 : State, s2 = { s1 with flights := s1.flights ++ [s.issued origin step d], nextId := s.nextId + 1 } := ⟨_, rfl⟩
  obtain ⟨hparsed, hnote⟩ := State.noteIssue_facts (s := s2) (d := d) (step := step)
  have hissue : s.issueFlight origin step d =
      if (hClass (dword d 0) == 0 && hOpcode (dword d 0) == 0) || decide (s.waitStop d = 0) then s2.noteIssue d step
      else (s2.noteIssue d step).complete s.nextId (s.waitStop d) := by
    simp only [State.issueFlight, hs2, hs1, State.issued, Bool.or_eq_true, decide_eq_true_eq]
  have hsame : SameParsed s2 (s.issueFlight origin step d) := by
    rw [hissue]
    split
    · exact hparsed
    · exact hparsed.trans State.complete_sameParsed
  refine ⟨by rw [hsame.nextId, hs2], fun w => ?_, fun hclass hwait => ?_⟩
  · rw [hsame.parsed, State.win_congr (t := s2) (s := s) (by rw [hs2]; exact hwindows)]
  · rw [hissue, if_pos (by simp [hwait]), hnote hclass, hs2, ← hflights]

/-! ### The issue of a window's next descriptor -/

/-- The counts that an issue makes on the window's page and its Field's. -/
def State.issueCounted (s : State) (w place : Nat) (d : List Word512) : State :=
  if place < 8 ∧ hClass (dword d 0) ≠ 0 then (s.bump (regAddr .cmdwin w 0x118)).bump (reeveReg place 0x120) else s.bump (regAddr .cmdwin w 0x118)

theorem State.issueCounted_facts {place : Nat} :
    (s.issueCounted w place d).flights = s.flights ∧ (s.issueCounted w place d).nextId = s.nextId ∧ (s.issueCounted w place d).windows = s.windows ∧
      (s.issueCounted w place d).poison = s.poison ∧ (s.issueCounted w place d).stackList = s.stackList := by
  unfold State.issueCounted
  split <;> simp

theorem State.reg_issueCounted {place b : Nat} (h118 : b % 0x1000 ≠ 0x118) (h120 : b % 0x1000 ≠ 0x120) : (s.issueCounted w place d).reg b = s.reg b := by
  have hwin : (s.bump (regAddr .cmdwin w 0x118)).reg b = s.reg b := State.reg_bumpBy_offset 1 (by rw [regAddr_mod]; exact h118)
  unfold State.issueCounted
  split
  · exact (State.reg_bumpBy_offset 1 (by rw [reeveReg, regAddr_mod]; exact h120)).trans hwin
  · exact hwin

/-- What stops a descriptor's wait depends on the wait masks' place, on poison and on the stacks. -/
theorem State.waitStop_congr (hreg : t.reg (almReg 0x140) = s.reg (almReg 0x140)) (hpoison : t.poison = s.poison) (hstack : t.stackList = s.stackList) :
    t.waitStop d = s.waitStop d := by
  have haddr (i : Nat) : t.waitAddr i = s.waitAddr i := by simp only [State.waitAddr, State.rf, hreg]
  have hpoisoned (a : Nat) : t.poisonedAt a = s.poisonedAt a := by simp only [State.poisonedAt, hpoison, State.deadAt_congr hstack]
  have hin (a n : Nat) : t.poisonedIn a n = s.poisonedIn a n := by simp only [State.poisonedIn, funext hpoisoned]
  simp only [State.waitStop, haddr, hin]

/-- A descriptor that may issue now and passes its checks is issued. -/
theorem State.issueWindow_next {place : Nat} {rest : List (Nat × List Word512)} (hhalt : (s.win w).halted = false) (hruns : s.placeRuns place = true)
    (hjob : s.hitch.job = .running) (hparsed : (s.win w).parsed = (place, d) :: rest) (hfence : hFence (dword d 0) = true → s.fenceClear w = true)
    (hheld : s.issueHeld d s.stepNow = false) (hcheck : s.descCheck place d = 0) (hissue : s.issueCheck d s.stepNow = 0) :
    s.issueWindow w =
      ((s.setWin w { s.win w with parsed := rest }).issueCounted w place d).issueFlight (.window w) s.stepNow d := by
  have hclear : (hFence (dword d 0) && !s.fenceClear w) = false := by
    cases h : hFence (dword d 0) with
    | false => rfl
    | true => simp [hfence h]
  simp [State.issueWindow, hhalt, hruns, hjob, hparsed, hclear, hheld, hcheck, hissue, State.issueCounted]

theorem State.win_lt_of_parsed {p : Nat × List Word512} {rest : List (Nat × List Word512)} (h : (s.win w).parsed = p :: rest) : w < s.windows.length := by
  by_contra hge
  simp [State.win, List.getElem?_eq_none (Nat.not_lt.1 hge)] at h

/-! ### Completion (R65, R71) -/

theorem State.flight_filter_self {id : Nat} {fs : List Flight} (h : t.flights = fs.filter (fun g => g.id != id)) : t.flight id = none := by
  simp [State.flight, h, List.find?_eq_none]

theorem State.flight_id {id : Nat} {f : Flight} (h : s.flight id = some f) : f.id = id := by
  have := List.find?_some h
  simpa using this

/-- A work_id has 32 bits. -/
theorem Flight.work_lt (f : Flight) : f.work < 2 ^ 32 := Nat.mod_lt _ (by decide)

/-- The descriptor's flag, and its work_id in last_work_id: the first steps of a completion. -/
def State.completeShown (s : State) (f : Flight) : State :=
  (if selValid (hSignal f.hdr) then
      ({ s with flights := s.flights.filter (fun g => g.id != f.id) }).setFlag (selDomain (hSignal f.hdr)) (bitsOf (hSignal f.hdr) 9 0)
    else { s with flights := s.flights.filter (fun g => g.id != f.id) }).setRf (regAddr .cmdwin f.window 0x120) 31 0 f.work

theorem State.complete_of_flight {id info : Nat} {f : Flight} (h : s.flight id = some f) :
    (s.complete id info).flights = s.flights.filter (fun g => g.id != id) ∧ (s.complete id info).flags = (s.completeShown f).flags ∧
      (s.complete id info).reg (regAddr .cmdwin f.window 0x120) = (s.completeShown f).reg (regAddr .cmdwin f.window 0x120) := by
  have hid := State.flight_id h
  have hraise : ((s.completeShown f).raise .cmdwin f.window 0 info f.work).reg (regAddr .cmdwin f.window 0x120) =
      (s.completeShown f).reg (regAddr .cmdwin f.window 0x120) := State.reg_raise (by rw [regAddr_mod]; decide) (by rw [regAddr_mod]; decide)
  obtain ⟨v, hv⟩ : ∃ v, v = if hComplete f.hdr then (s.completeShown f).raise .cmdwin f.window 0 info f.work else s.completeShown f := ⟨_, rfl⟩
  have hflights : v.flights = s.flights.filter (fun g => g.id != id) := by
    have hshown : (s.completeShown f).flights = s.flights.filter (fun g => g.id != id) := by
      rw [State.completeShown, hid]
      split <;> simp
    rw [hv]
    split
    · simpa using hshown
    · exact hshown
  have hflags : v.flags = (s.completeShown f).flags := by
    rw [hv]
    split <;> simp
  have hreg : v.reg (regAddr .cmdwin f.window 0x120) = (s.completeShown f).reg (regAddr .cmdwin f.window 0x120) := by
    rw [hv]
    split
    · exact hraise
    · rfl
  have hcomplete : s.complete id info = v ∨ ∃ fu, s.complete id info = { v with furlong := fu } := by
    simp only [State.complete, h, hv, State.completeShown, hid]
    split
    · exact .inr ⟨_, rfl⟩
    · exact .inl rfl
  rcases hcomplete with heq | ⟨fu, heq⟩
  · rw [heq]
    exact ⟨hflights, hflags, hreg⟩
  · rw [heq]
    exact ⟨hflights, hflags, hreg⟩

/-- A completed descriptor is in flight no more, and its window shows its work_id. -/
theorem State.complete_ended {id info : Nat} {f : Flight} (h : s.flight id = some f) : (s.complete id info).Ended f := by
  obtain ⟨hflights, -, hreg⟩ := State.complete_of_flight (info := info) h
  refine ⟨by rw [State.flight_id h]; exact State.flight_filter_self hflights, ?_⟩
  rw [State.rf, hreg, ← State.rf, State.completeShown, State.rf_setRf_low, Nat.mod_eq_of_lt f.work_lt]

theorem mem_setInsert_self (l : List Nat) (a : Nat) : a ∈ setInsert l a := by
  induction l with
  | nil => simp [setInsert]
  | cons b l ih =>
    unfold setInsert
    split
    · simp
    · split
      · simp [*]
      · simp [ih]

/-- A completed descriptor that signals has set its flag (R32, R65). -/
theorem State.complete_flag {id info : Nat} {f : Flight} (h : s.flight id = some f) (hsel : selValid (hSignal f.hdr) = true) :
    (s.complete id info).flag (selDomain (hSignal f.hdr)) (bitsOf (hSignal f.hdr) 9 0) = true := by
  obtain ⟨-, hflags, -⟩ := State.complete_of_flight (info := info) h
  rw [State.flag, hflags, State.completeShown, if_pos hsel, List.contains_iff_mem]
  exact mem_setInsert_self _ _

/-- One that does not signal leaves every flag. -/
theorem State.complete_flags {id info : Nat} {f : Flight} (h : s.flight id = some f) (hsel : selValid (hSignal f.hdr) = false) :
    (s.complete id info).flags = s.flags := by
  obtain ⟨-, hflags, -⟩ := State.complete_of_flight (info := info) h
  rw [hflags, State.completeShown, hsel]
  simp

theorem State.flight_of_flightOf {id cls op : Nat} {f : Flight} (h : s.flightOf id cls op = some f) : s.flight id = some f := by
  unfold State.flightOf at h
  split at h
  next g hg =>
    split at h
    · rw [hg, h]
    · cases h
  next => cases h

theorem State.flight_setFlight {id : Nat} {f g : Flight} (h : s.flight id = some f) (hg : g.id = id) : (s.setFlight g).flight id = some g := by
  have hmap (l : List Flight) : l.find? (fun x => x.id == id) = some f → (l.map (fun x => if x.id == g.id then g else x)).find? (fun x => x.id == id) = some g := by
    intro hfind
    induction l with
    | nil => cases hfind
    | cons x l ih =>
      by_cases hx : x.id = id
      · simp [hx, hg]
      · have hrest : l.find? (fun x => x.id == id) = some f := by simpa [hx] using hfind
        simpa [hx, hg] using ih hrest
  exact hmap s.flights h

/-! ### NOP (R67) -/

/-- Word 0 of a NOP with its signal_event cleared. -/
def nopHead (h : Word512) : Word512 := BitVec.ofNat 512 (setBits h.toNat 191 160 0)

theorem toNat_nopHead (h : Word512) : (nopHead h).toNat = h.toNat - bitsOf h.toNat 191 160 * 2 ^ 160 := by
  have hval : setBits h.toNat 191 160 0 = h.toNat - bitsOf h.toNat 191 160 * 2 ^ 160 := by simp [setBits, Nat.shiftLeft_eq]
  rw [nopHead, BitVec.toNat_ofNat, hval, Nat.mod_eq_of_lt (lt_of_le_of_lt (Nat.sub_le _ _) h.isLt)]

/-- The NOP that completes signals nothing. -/
theorem hSignal_nopHead (h : Word512) : hSignal (nopHead h) = 0 := by
  simp only [hSignal, fld, toNat_nopHead, bitsOf, Nat.shiftRight_eq_div_pow, Nat.reduceAdd, Nat.reduceSub]
  omega

theorem hWorkId_nopHead (h : Word512) : hWorkId (nopHead h) = hWorkId h := by
  simp only [hWorkId, fld, toNat_nopHead, bitsOf, Nat.shiftRight_eq_div_pow, Nat.reduceAdd, Nat.reduceSub]
  omega

/-- A NOP completes with its signal_event cleared. -/
theorem State.runNop_of_flight {id : Nat} {f : Flight} (h : s.flightOf id 0 0 = some f) :
    s.runNop id = (s.setFlight { f with words := [nopHead f.hdr] }).complete id 0 := by
  simp only [State.runNop, h, nopHead]

/-! ### The obligation -/

/-- Settles O19: the issue by its parts, NOP and SIGNAL by what a completion leaves. -/
theorem descriptorsIssue : Obligations.DescriptorsIssue := by
  unfold Obligations.DescriptorsIssue
  refine ⟨?_, ?_, ?_⟩
  · intro w s place d rest hhalt hruns hjob hparsed hfence hheld hcheck hissue
    refine Completes.intro exec_descriptorIssue ?_
    rw [State.issueWindow_next hhalt hruns hjob hparsed hfence hheld hcheck hissue]
    obtain ⟨v, hv⟩ : ∃ v, v = (s.setWin w { s.win w with parsed := rest }).issueCounted w place d := ⟨_, rfl⟩
    rw [← hv]
    obtain ⟨hflights, hid, hwindows, hpoison, hstacks⟩ : v.flights = s.flights ∧ v.nextId = s.nextId ∧
        v.windows = (s.setWin w { s.win w with parsed := rest }).windows ∧ v.poison = s.poison ∧ v.stackList = s.stackList :=
      hv ▸ State.issueCounted_facts
    have hmask : v.reg (almReg 0x140) = s.reg (almReg 0x140) := by
      rw [hv, State.reg_issueCounted (by rw [almReg, regAddr_mod]; decide) (by rw [almReg, regAddr_mod]; decide), State.reg_setWin]
    obtain ⟨hnext, hparsed', hfly⟩ := State.issueFlight_facts (s := v) (origin := .window w.val) (step := s.stepNow) (d := d)
    refine ⟨?_, by rw [hnext, hid], fun hclass hwait => ⟨v.issued (.window w.val) s.stepNow d, ?_, hid, rfl, rfl, rfl, rfl⟩⟩
    · rw [hparsed', State.win_congr hwindows, State.win_setWin_self _ (State.win_lt_of_parsed hparsed)]
    · rw [hfly hclass (by rw [State.waitStop_congr hmask hpoison hstacks, hwait]), hflights]
  · intro id s f hf
    have hflight := State.flight_of_flightOf hf
    have hid : f.id = id := State.flight_id hflight
    have hset := State.flight_setFlight (g := { f with words := [nopHead f.hdr] }) hflight hid
    have hsel : selValid (hSignal (Flight.hdr { f with words := [nopHead f.hdr] })) = false := by
      change selValid (hSignal (nopHead f.hdr)) = false
      rw [hSignal_nopHead]
      rfl
    refine Completes.intro exec_nop ?_
    rw [State.runNop_of_flight hf]
    refine ⟨?_, State.complete_flags hset hsel⟩
    obtain ⟨hgone, hshown⟩ := State.complete_ended (info := 0) hset
    exact ⟨hgone, hshown.trans (hWorkId_nopHead f.hdr)⟩
  · intro id s f hf hfired
    have hflight := State.flight_of_flightOf hf
    have hrun : s.runSignal id = s.complete id 0 := by simp only [State.runSignal, hf, hfired, if_true]
    refine Completes.intro exec_signal ?_
    rw [hrun]
    exact ⟨State.complete_ended hflight, State.complete_flag hflight⟩

end Sys2Proof.Machine
end

section
/-!
The Hitch link: training, LINK_CTRL, replay and event flits (O14).
-/
namespace Sys2Proof.Machine

set_option Elab.async false

variable {s t u : State}

/-! ### What keeps the training of the link -/

/-- Two states whose links are trained alike: the same link state, lanes and failed attempts. -/
structure SameTraining (s t : State) : Prop where
  link : t.hitch.link = s.hitch.link
  lanes : t.hitch.lanes = s.hitch.lanes
  attempts : t.hitch.attempts = s.hitch.attempts

theorem SameTraining.refl (s : State) : SameTraining s s := ⟨rfl, rfl, rfl⟩

theorem SameTraining.trans (h : SameTraining s t) (h' : SameTraining t u) : SameTraining s u :=
  ⟨h'.link.trans h.link, h'.lanes.trans h.lanes, h'.attempts.trans h.attempts⟩

theorem SameTraining.of_hitch (h : t.hitch = s.hitch) : SameTraining s t := ⟨by rw [h], by rw [h], by rw [h]⟩

theorem SameTraining.ite {c : Prop} {_ : Decidable c} (ht : SameTraining s t) (hu : SameTraining s u) : SameTraining s (if c then t else u) := by
  split <;> assumption

theorem SameTraining.pushRecord (h : SameTraining s t) (r : EventRec) : SameTraining s (t.pushRecord r) := by
  refine h.trans ?_
  unfold State.pushRecord
  refine .ite ⟨rfl, rfl, rfl⟩ ?_
  exact .ite (.of_hitch rfl) <| .ite (.of_hitch rfl) ⟨rfl, rfl, rfl⟩

theorem State.raise_sameTraining {k : PageKind} {i bit info work : Nat} : SameTraining s (s.raise k i bit info work) := by
  unfold State.raise
  refine .ite (.of_hitch rfl) <| .ite (.of_hitch rfl) ?_
  apply SameTraining.pushRecord
  exact .of_hitch rfl

theorem State.raiseErr_sameTraining {k : PageKind} {i bit code work info0 info1 : Nat} : SameTraining s (s.raiseErr k i bit code work info0 info1) :=
  State.raise_sameTraining.trans (.of_hitch (State.capture_hitch ..))

theorem State.linkError_sameTraining {bit code : Nat} : SameTraining s (s.linkError bit code) := by
  have hcode : SameTraining s { s with hitch := { s.hitch with lastError := code } } := ⟨rfl, rfl, rfl⟩
  exact hcode.trans State.raiseErr_sameTraining

theorem State.resend_sameTraining {fs : List (Nat × Flit)} : SameTraining s (s.resend fs) := ⟨rfl, rfl, rfl⟩

/-! ### Flits sent -/

/-- What the sending of waiting flits leaves: the training, what is received and the credit; the replay buffer grows at its end. -/
structure Pumped (s t : State) : Prop where
  training : SameTraining s t
  rxNext : t.hitch.rxNext = s.hitch.rxNext
  credit : t.hitch.credit = s.hitch.credit
  replay : s.hitch.replay <+: t.hitch.replay

theorem Pumped.refl (s : State) : Pumped s s := ⟨.refl s, rfl, rfl, List.prefix_rfl⟩

theorem State.pumpTx_pumped (n : Nat) : Pumped s (State.pumpTx n s) := by
  induction n generalizing s with
  | zero => exact .refl s
  | succ n ih =>
    unfold State.pumpTx
    split
    · exact .refl s
    · split
      · next f rest _ _ =>
        obtain ⟨htraining, hnext, hcredit, hreplay⟩ := ih (s := { s with hitch := { s.hitch with
          txQueue := rest
          replay := s.hitch.replay ++ [(s.hitch.txNext, f)]
          txNext := (s.hitch.txNext + 1) % 4096
          sent := f :: s.hitch.sent } })
        exact ⟨⟨htraining.link, htraining.lanes, htraining.attempts⟩, hnext, hcredit, (List.prefix_append ..).trans hreplay⟩
      · exact .refl s

theorem State.sendLinkCtrl_sameTraining : SameTraining s s.sendLinkCtrl := by
  unfold State.sendLinkCtrl
  exact .ite ⟨rfl, rfl, rfl⟩ (.refl s)

theorem State.sendLinkCtrl_received : s.sendLinkCtrl.hitch.rxReplay = s.hitch.rxReplay ∧ s.sendLinkCtrl.hitch.rxNext = s.hitch.rxNext := by
  unfold State.sendLinkCtrl
  split <;> exact ⟨rfl, rfl⟩

theorem State.sendLinkCtrl_sent (h : s.ctrlUp = true) :
    s.sendLinkCtrl.hitch.statusSent = s.statusWord ∧ s.sendLinkCtrl.hitch.sent = ⟨7#64, BitVec.ofNat 512 s.linkCtrlPayload⟩ :: s.hitch.sent := by
  have hup : s.statusUp = true := by simp [State.statusUp, h]
  simp [State.sendLinkCtrl, hup]

/-! ### Training (R43 to R45) -/

theorem exec_hitchTrainingStep {m : BitVec 8} : exec (.hitchTrainingStep m) s = .next (s.trainStep m.toNat) := rfl
theorem exec_hitchTrainingTimeout : exec .hitchTrainingTimeout s = .next s.trainTimeout := rfl
theorem exec_linkCtrlReceived {h : BitVec 64} {p : Word512} : exec (.linkCtrlReceived h p) s = .next (s.linkCtrlReceived h.toNat p.toNat) := rfl
theorem exec_fecCodewordUncorrectable : exec .fecCodewordUncorrectable s = .next s.fecLost := rfl
theorem exec_replayRequestRepeat : exec .replayRequestRepeat s = .next (if s.hitch.rxReplay then s.sendLinkCtrl else s) := rfl
theorem exec_statusWordSend : exec .statusWordSend s = .next s.sendLinkCtrl := rfl
theorem exec_hitchReplayLimit : exec .hitchReplayLimit s = .next (if s.linkUp then s.retrainHitch true else s) := rfl
theorem exec_eventRecordSend {n : Fin 4} : exec (.eventRecordSend n) s = .next (s.sendEvents (n.val + 1)) := rfl

/-- A state of training is left for the next once its lanes are chosen. -/
theorem State.trainStep_next {m : Nat} (h : (laneChoice (s.hitch.lanes &&& m)).isSome = true) :
    (s.hitch.link = .detect → (s.trainStep m).hitch.link = .equalise) ∧ (s.hitch.link = .equalise → (s.trainStep m).hitch.link = .fecLock) ∧
    (s.hitch.link = .fecLock → (s.trainStep m).hitch.link = .deskew) ∧ (s.hitch.link = .deskew → (s.trainStep m).hitch.link = .version) := by
  refine ⟨?_, ?_, ?_, ?_⟩ <;> intro hlink <;> simp only [State.trainStep, hlink, h, if_true]
  · exact State.sendLinkCtrl_sameTraining.link
  · exact State.sendLinkCtrl_sameTraining.link
  · exact State.sendLinkCtrl_sameTraining.link

/-- The link comes up with the lanes chosen and no failed attempt. -/
theorem State.linkComesUp_up {lanes version : Nat} :
    (s.linkComesUp lanes version).hitch.link = (if lanes = 0xFF then .up else .upNarrow) ∧
    (s.linkComesUp lanes version).hitch.lanes = lanes ∧ (s.linkComesUp lanes version).hitch.attempts = 0 := by
  have herrors (v : State) (narrow re : Bool) : SameTraining v
      (let v2 := if narrow then v.linkError 1 0x0505 else v
       let v3 := if re then (v2.resend v2.hitch.replay).linkError 0 0x0504 else v2
       State.pumpTx v3.hitch.txQueue.length v3) := by
    have hnarrow : SameTraining v (if narrow then v.linkError 1 0x0505 else v) := .ite State.linkError_sameTraining (.refl v)
    exact (hnarrow.trans (.ite (State.resend_sameTraining.trans State.linkError_sameTraining) (.refl _))).trans (State.pumpTx_pumped _).training
  obtain ⟨hlink, hlanes, hattempts⟩ := herrors { s with hitch := { s.hitch with
    link := if lanes != 0xFF then .upNarrow else .up
    lanes := lanes
    version := version
    attempts := 0
    retraining := false
    narrowPending := s.hitch.narrowPending || ((lanes != 0xFF) && !s.steward.fabricOpen) } } (lanes != 0xFF && s.steward.fabricOpen) s.hitch.retraining
  refine ⟨hlink.trans ?_, hlanes, hattempts⟩
  by_cases hall : lanes = 0xFF <;> simp [hall]

/-! ### LINK_CTRL received (R569) -/

/-- The fields of the low byte of a header. -/
theorem header_low_byte {h : Nat} (hlow : bitsOf h 7 0 = 7) : bitsOf h 7 4 = 0 ∧ bitsOf h 3 0 = 7 := by
  simp only [bitsOf, Nat.shiftRight_eq_div_pow] at hlow ⊢
  omega

/-- The acknowledgement of a LINK_CTRL flit. -/
def State.linkAck (s : State) (p : Nat) : State :=
  if bitOf p 0 then
    let s0 := { s with hitch := { s.hitch with replay := ackReplay (bitsOf p 27 16) s.hitch.replay } }
    if s0.linkUp then State.pumpTx s0.hitch.txQueue.length s0 else s0
  else s

/-- The replay that a LINK_CTRL flit asks for. -/
def State.linkResend (s : State) (p : Nat) : State :=
  if bitOf p 1 then s.resend (s.hitch.replay.dropWhile (fun e => e.1 != bitsOf p 43 32)) else s

/-- The credit total of a LINK_CTRL flit. -/
def State.linkCredit (s : State) (p : Nat) : State :=
  if bitOf p 2 then { s with hitch := { s.hitch with credit := bitsOf p 159 128 } } else s

/-- The host's version of a LINK_CTRL flit. -/
def State.linkVersion (s : State) (p : Nat) : State :=
  if bitOf p 4 && s.hitch.link == .version then { s with hitch := { s.hitch with farVersion := some (bitsOf p 175 160) } } else s

theorem State.linkCtrlApply_eq (s : State) (p : Nat) :
    s.linkCtrlApply p = (((s.linkAck p).linkResend p).linkCredit p).linkVersion p := rfl

theorem State.linkAck_facts {p : Nat} :
    (s.linkAck p).hitch.link = s.hitch.link ∧ (s.linkAck p).hitch.rxNext = s.hitch.rxNext ∧ (s.linkAck p).hitch.credit = s.hitch.credit ∧
    (bitOf p 0 = true → ackReplay (bitsOf p 27 16) s.hitch.replay <+: (s.linkAck p).hitch.replay) ∧
    (bitOf p 0 = false → s.linkAck p = s) := by
  unfold State.linkAck
  by_cases h : bitOf p 0 = true
  · have hpump : Pumped { s with hitch := { s.hitch with replay := ackReplay (bitsOf p 27 16) s.hitch.replay } } (s.linkAck p) := by
      unfold State.linkAck
      rw [if_pos h]
      dsimp only []
      split
      · exact State.pumpTx_pumped _
      · exact .refl _
    unfold State.linkAck at hpump
    exact ⟨hpump.training.link, hpump.rxNext, hpump.credit, fun _ => hpump.replay, fun hno => absurd h (by simp [hno])⟩
  · rw [if_neg h]
    exact ⟨rfl, rfl, rfl, fun hyes => absurd hyes h, fun _ => rfl⟩

theorem State.linkResend_facts {p : Nat} :
    (s.linkResend p).hitch.link = s.hitch.link ∧ (s.linkResend p).hitch.rxNext = s.hitch.rxNext ∧ (s.linkResend p).hitch.credit = s.hitch.credit ∧
    (s.linkResend p).hitch.replay = s.hitch.replay ∧
    (bitOf p 1 = true → (s.linkResend p).hitch.sent =
      ((s.hitch.replay.dropWhile (fun e => e.1 != bitsOf p 43 32)).map (fun e => e.2)).reverse ++ s.hitch.sent) := by
  unfold State.linkResend
  by_cases h : bitOf p 1 = true
  · rw [if_pos h]
    exact ⟨rfl, rfl, rfl, rfl, fun _ => rfl⟩
  · rw [if_neg h]
    exact ⟨rfl, rfl, rfl, rfl, fun hyes => absurd hyes h⟩

theorem State.linkCredit_facts {p : Nat} :
    (s.linkCredit p).hitch.link = s.hitch.link ∧ (s.linkCredit p).hitch.rxNext = s.hitch.rxNext ∧ (s.linkCredit p).hitch.replay = s.hitch.replay ∧
    (s.linkCredit p).hitch.sent = s.hitch.sent ∧
    (s.linkCredit p).hitch.credit = (if bitOf p 2 then bitsOf p 159 128 else s.hitch.credit) := by
  unfold State.linkCredit
  split <;> exact ⟨rfl, rfl, rfl, rfl, rfl⟩

theorem State.linkVersion_facts {p : Nat} :
    (s.linkVersion p).hitch.rxNext = s.hitch.rxNext ∧ (s.linkVersion p).hitch.replay = s.hitch.replay ∧ (s.linkVersion p).hitch.sent = s.hitch.sent ∧
    (s.linkVersion p).hitch.credit = s.hitch.credit ∧
    (bitOf p 4 = true → s.hitch.link = .version → (s.linkVersion p).hitch.farVersion = some (bitsOf p 175 160)) := by
  unfold State.linkVersion
  split
  · exact ⟨rfl, rfl, rfl, rfl, fun _ _ => rfl⟩
  · next hno => exact ⟨rfl, rfl, rfl, rfl, fun h4 hlink => absurd (by simp [h4, hlink]) hno⟩

/-! ### Event flits (R75, R569) -/

theorem State.sendNumbered_records {f : Flit} : (s.sendNumbered f).hitch.events = s.hitch.events ∧ (s.sendNumbered f).hitch.recSent = s.hitch.recSent := by
  unfold State.sendNumbered
  split <;> exact ⟨rfl, rfl⟩

theorem State.sendEvents_records {n : Nat} (hup : s.linkUp = true) (h1 : 1 ≤ n) (h4 : n ≤ 4) (hwait : n ≤ s.hitch.events.length) (hcredit : n ≤ s.creditsLeft) :
    (s.sendEvents n).hitch.recSent = (s.hitch.recSent + n) % 2 ^ 32 ∧ s.hitch.events.drop n <+: (s.sendEvents n).hitch.events := by
  simp only [State.sendEvents, hup, h1, h4, hwait, hcredit, decide_true, Bool.and_self, if_true]
  obtain ⟨hevents, hsent⟩ := State.sendNumbered_records (s := s)
    (f := ⟨BitVec.ofNat 64 (6 + ((s.hitch.recSent % 2 ^ 48) <<< 16)), BitVec.ofNat 512 (eventPayload (s.hitch.events.take n))⟩)
  rw [State.requeueOverflow]
  dsimp only []
  rw [hevents, hsent]
  exact ⟨rfl, List.prefix_append ..⟩

/-! ### The obligation -/

/-- Settles O14: each clause by what its command does with the link's own state. -/
theorem linkRuns : Obligations.LinkRuns := by
  unfold Obligations.LinkRuns
  refine ⟨?_, ?_, ?_, ?_, ?_, ?_, ?_, ?_, ?_, ?_⟩
  · intro m s hlink hserdes hlanes
    refine Completes.intro exec_hitchTrainingStep ?_
    simp only [State.trainStep, hlink, hserdes, hlanes, decide_true, Bool.and_self, if_true]
    exact ⟨trivial, Nat.mod_eq_of_lt m.isLt⟩
  · intro m s hchoice
    exact Completes.intro exec_hitchTrainingStep (State.trainStep_next hchoice)
  · intro m s lanes v hlink hchoice hfar hv
    refine Completes.intro exec_hitchTrainingStep ?_
    have hversion : ¬ v / 256 < 1 := by omega
    have hrun : s.trainStep m.toNat = (s.linkComesUp lanes 0x10).sendLinkCtrl := by
      simp only [State.trainStep, hlink, hchoice, hfar, hversion, if_false]
    obtain ⟨hlink', hlanes, hattempts⟩ := State.sendLinkCtrl_sameTraining (s := s.linkComesUp lanes 0x10)
    obtain ⟨hup, hupLanes, hupAttempts⟩ := State.linkComesUp_up (s := s) (lanes := lanes) (version := 0x10)
    rw [hrun]
    exact ⟨hlink'.trans hup, hlanes.trans hupLanes, hattempts.trans hupAttempts⟩
  · intro s hserdes hup hnarrow hfailed
    refine Completes.intro exec_hitchTrainingTimeout ?_
    have hrun : s.trainTimeout = if 8 ≤ s.hitch.attempts + 1 then
          { s with hitch := { s.hitch with link := .failed, attempts := 8, lanes := 0 } }
        else { s with hitch := { s.hitch with link := .down, attempts := s.hitch.attempts + 1, lanes := 0 } } := by
      unfold State.trainTimeout
      rw [hserdes]
      cases hlink : s.hitch.link <;> simp_all
    rw [hrun]
    by_cases hlast : 8 ≤ s.hitch.attempts + 1
    · rw [if_pos hlast, if_neg (by omega)]
    · rw [if_neg hlast, if_pos (by omega)]
      trivial
  · intro h p s hup hlow hok
    obtain ⟨hhigh, hkind⟩ := header_low_byte hlow
    have hrun : s.linkCtrlReceived h.toNat p.toNat = s.linkCtrlApply p.toNat := by
      simp [State.linkCtrlReceived, hup, hhigh, hkind, hok]
    refine Completes.intro exec_linkCtrlReceived ?_
    rw [hrun, State.linkCtrlApply_eq]
    obtain ⟨alink, anext, acredit, areplay, asame⟩ := State.linkAck_facts (s := s) (p := p.toNat)
    obtain ⟨rlink, rnext, rcredit, rreplay, rsent⟩ := State.linkResend_facts (s := s.linkAck p.toNat) (p := p.toNat)
    obtain ⟨clink, cnext, creplay, csent, ccredit⟩ := State.linkCredit_facts (s := (s.linkAck p.toNat).linkResend p.toNat) (p := p.toNat)
    obtain ⟨vnext, vreplay, vsent, vcredit, vfar⟩ := State.linkVersion_facts (s := ((s.linkAck p.toNat).linkResend p.toNat).linkCredit p.toNat) (p := p.toNat)
    refine ⟨?_, ?_, ?_, ?_, ?_, ?_, ?_⟩
    · rw [vnext, cnext, rnext, anext]
    · intro h2
      rw [vcredit, ccredit, if_pos h2]
    · intro h2
      rw [vcredit, ccredit, if_neg (by simp [h2]), rcredit, acredit]
    · intro h0
      rw [vreplay, creplay, rreplay]
      exact areplay h0
    · intro h0
      rw [vreplay, creplay, rreplay, asame h0]
    · intro h0 h1
      rw [vsent, csent, rsent h1, asame h0]
    · intro h4 hlink
      exact vfar h4 (by rw [clink, rlink, alink, hlink])
  · intro s hup
    refine Completes.intro exec_fecCodewordUncorrectable ?_
    rw [State.fecLost, if_pos hup]
    exact State.sendLinkCtrl_received
  · intro s hup hreplay
    refine Completes.intro exec_replayRequestRepeat ?_
    rw [if_pos hreplay]
    exact (State.sendLinkCtrl_sent hup).2
  · intro s hup
    exact Completes.intro exec_statusWordSend (State.sendLinkCtrl_sent hup)
  · intro s hup
    refine Completes.intro exec_hitchReplayLimit ?_
    rw [if_pos hup]
    exact ⟨rfl, rfl, by simp [State.retrainHitch], rfl⟩
  · intro n s hup hwait hcredit
    exact Completes.intro exec_eventRecordSend (State.sendEvents_records hup (by omega) (by omega) hwait hcredit)

end Sys2Proof.Machine
end

section
/-!
Late host waits, failed Reeve cores and failed Hedgerow links (O20).
-/
namespace Sys2Proof.Machine

set_option Elab.async false

variable {s t u : State}

/-! ### What a loss leaves -/

/-- What stands of the units when a Field, a core or a link fails: nothing lost or failed comes back, and the registers of
force_fail, with every other register at that offset, stay. -/
structure LossKept (s t : State) : Prop where
  length : t.fields.length = s.fields.length
  lost : ∀ f, s.lost f = true → t.lost f = true
  cores : ∀ p c, s.coreFailed p c = true → t.coreFailed p c = true
  arrays : ∀ f, (s.array f).state = 2 → (t.array f).state = 2
  force : ∀ b, b % 0x1000 = 0x100 → t.reg b = s.reg b

theorem LossKept.refl (s : State) : LossKept s s := ⟨rfl, fun _ => id, fun _ _ => id, fun _ => id, fun _ _ => rfl⟩

theorem LossKept.trans (h : LossKept s t) (h' : LossKept t u) : LossKept s u :=
  ⟨h'.length.trans h.length, fun f hf => h'.lost f (h.lost f hf), fun p c hc => h'.cores p c (h.cores p c hc),
    fun f hf => h'.arrays f (h.arrays f hf), fun b hb => (h'.force b hb).trans (h.force b hb)⟩

theorem State.lost_congr (hf : u.fields = t.fields) (f : Nat) : u.lost f = t.lost f := by simp only [State.lost, State.field, hf]

theorem State.coreFailed_congr (hf : u.fields = t.fields) (hs : u.steadFailed = t.steadFailed) (p c : Nat) : u.coreFailed p c = t.coreFailed p c := by
  simp only [State.coreFailed, State.field, hf, hs]

theorem State.array_congr (ha : u.arrays = t.arrays) (f : Nat) : u.array f = t.array f := by simp only [State.array, ha]

theorem LossKept.keep (h : LossKept s t) (hf : u.fields = t.fields) (hs : u.steadFailed = t.steadFailed) (ha : u.arrays = t.arrays)
    (hr : ∀ b, b % 0x1000 = 0x100 → u.reg b = t.reg b) : LossKept s u :=
  h.trans ⟨by rw [hf], fun f hl => (State.lost_congr hf f).trans hl, fun p c hc => (State.coreFailed_congr hf hs p c).trans hc,
    fun f hl => by rw [State.array_congr ha, hl], hr⟩

theorem LossKept.same (h : LossKept s t) (hf : u.fields = t.fields := by rfl) (hs : u.steadFailed = t.steadFailed := by rfl)
    (ha : u.arrays = t.arrays := by rfl) (hr : u.regs = t.regs := by rfl) : LossKept s u :=
  h.keep hf hs ha fun b _ => State.reg_congr hr b

theorem LossKept.ite {c : Prop} {_ : Decidable c} (ht : LossKept s t) (hu : LossKept s u) : LossKept s (if c then t else u) := by
  split <;> assumption

theorem LossKept.optionElim {α : Type} {o : Option α} {f : α → State} (ht : LossKept s t) (hf : ∀ a, LossKept s (f a)) :
    LossKept s (o.elim t f) := by
  cases o with
  | none => exact ht
  | some a => exact hf a

theorem LossKept.foldl {α : Type} {f : State → α → State} {l : List α} (h : LossKept s t)
    (hf : ∀ u a, LossKept s u → LossKept s (f u a)) : LossKept s (l.foldl f t) :=
  foldl_inv (LossKept s) f l hf h

/-! ### The operations of a loss -/

theorem LossKept.setReg (h : LossKept s t) {a v : Nat} (ho : a % 0x1000 ≠ 0x100 := by simp [regAddr_mod, recReg, thrReg, thrChReg, reeveReg]) :
    LossKept s (t.setReg a v) :=
  h.keep rfl rfl rfl fun _ hb => State.reg_setReg_offset v (by rw [hb]; exact Ne.symm ho)

theorem LossKept.setRf (h : LossKept s t) {a hi lo v : Nat} (ho : a % 0x1000 ≠ 0x100 := by simp [regAddr_mod, recReg]) :
    LossKept s (t.setRf a hi lo v) := h.setReg ho

theorem LossKept.bumpBy (h : LossKept s t) {a n : Nat} (ho : a % 0x1000 ≠ 0x100 := by simp [regAddr_mod, recReg, thrReg, thrChReg, reeveReg]) :
    LossKept s (t.bumpBy a n) := h.setReg ho

theorem LossKept.bump (h : LossKept s t) {a : Nat} (ho : a % 0x1000 ≠ 0x100 := by simp [regAddr_mod, recReg, thrReg, thrChReg, reeveReg]) :
    LossKept s (t.bump a) := h.bumpBy ho

theorem LossKept.raise (h : LossKept s t) {k : PageKind} {i bit info work : Nat} : LossKept s (t.raise k i bit info work) :=
  h.keep (by simp) (by simp) (by simp) fun _ hb => State.reg_raise (by rw [hb]; decide) (by rw [hb]; decide)

theorem LossKept.raiseErr (h : LossKept s t) {k : PageKind} {i bit code work info0 info1 : Nat} : LossKept s (t.raiseErr k i bit code work info0 info1) :=
  h.keep (by simp) (by simp) (by simp) fun _ hb => State.reg_raiseErr (by rw [hb]; decide)

theorem LossKept.setFlight (h : LossKept s t) {f : Flight} : LossKept s (t.setFlight f) := h.same

theorem LossKept.complete (h : LossKept s t) {id info : Nat} : LossKept s (t.complete id info) := by
  unfold State.complete
  split
  · exact h
  · extract_lets _ _ s2 _ s4
    have hs2 : LossKept s s2 := .ite h.same h.same
    have hs4 : LossKept s s4 := .ite hs2.setRf.raise hs2.setRf
    split
    · exact hs4.same
    · exact hs4

theorem LossKept.refuseDesc (h : LossKept s t) {w code : Nat} {d : List Word512} : LossKept s (t.refuseDesc w d code) := by
  have hreport : LossKept s ((t.bump (regAddr .cmdwin w 0x128)).raise .cmdwin w 1 code (hWorkId (dword d 0))) := h.bump.raise
  exact .ite hreport.same hreport

theorem LossKept.refuseFlight (h : LossKept s t) {id code : Nat} : LossKept s (t.refuseFlight id code) := by
  unfold State.refuseFlight
  split
  · exact h
  · extract_lets s1
    have hs1 : LossKept s s1 := h.same
    split
    · exact hs1.refuseDesc
    · exact hs1.same

theorem LossKept.recAdmit (h : LossKept s t) {n : Nat} : LossKept s (State.recAdmit n t) := by
  induction n generalizing t with
  | zero => exact h
  | succ n ih =>
    unfold State.recAdmit
    split
    · exact h
    · exact .ite h <| .ite (ih h.refuseFlight) <| .ite h.setFlight.setReg h.setFlight

theorem LossKept.recDone (h : LossKept s t) {id info : Nat} : LossKept s (t.recDone id info) := h.complete.recAdmit

theorem LossKept.setColl (h : LossKept s t) {id : Nat} {p : CollProg} : LossKept s (t.setColl id p) := by
  unfold State.setColl
  split
  · exact h.setFlight
  · exact h

theorem LossKept.setArb (h : LossKept s t) {a : ArbRec} : LossKept s (t.setArb a) := h.same

theorem LossKept.arbToken (h : LossKept s t) {c number : Nat} {m : TokenMsg} : LossKept s (t.arbToken c number m) := by
  unfold State.arbToken
  refine .ite (.ite ?_ h.setArb) <| .ite h <| .ite h.bump.raise <| .ite h <| .ite h.setArb h.setArb
  split <;> exact h.setArb

theorem LossKept.withdraw (h : LossKept s t) {f : Flight} {p : CollProg} : LossKept s (t.withdraw f p) :=
  .ite h.setColl.arbToken (h.setColl.same)

theorem LossKept.endTransfer (h : LossKept s t) {f : Flight} {code : Nat} : LossKept s (t.endTransfer f code) :=
  LossKept.complete (.ite h.same h)

theorem LossKept.abortFurlong (h : LossKept s t) {fu : Furlong} {code : Nat} : LossKept s (t.abortFurlong fu code) :=
  LossKept.complete h.same

theorem LossKept.dropStook (h : LossKept s t) : LossKept s t.dropStook := h.setRf.setReg.setReg

theorem LossKept.setFill (h : LossKept s t) {x : Nat} : LossKept s (t.setFill x) := h.setRf

theorem LossKept.restartFill (h : LossKept s t) : LossKept s t.restartFill := .ite (LossKept.setRf h.same) h

theorem LossKept.rehomeEngine (h : LossKept s t) {e : Nat} : LossKept s (t.rehomeEngine e) := by
  unfold State.rehomeEngine
  refine .ite h ?_
  split
  · exact LossKept.raise h.same
  · split
    · exact LossKept.raiseErr h.same
    · exact h

theorem LossKept.noteCapacity (h : LossKept s t) {before : State} : LossKept s (t.noteCapacity before) := .ite h.raiseErr h

theorem LossKept.endTouching (h : LossKept s t) {id : Nat} : LossKept s (t.endTouching id) := by
  unfold State.endTouching
  split
  · exact h
  · extract_lets
    split
    · exact .ite h.setFlight h.setFlight
    · exact .ite h.setFlight h.complete
    · split
      · exact h
      · exact .ite h.bump.bump.complete (.ite h (.ite h.setColl h.withdraw))
    · exact .ite h h.endTransfer
    · split
      · exact .ite h.abortFurlong h.complete
      · exact h.complete
    · exact h.complete
    · exact .ite h (.ite h.dropStook.recDone (.ite h.setFill.recDone h))
    · exact h.setFlight

theorem LossKept.endReduce (h : LossKept s t) {f id : Nat} : LossKept s (t.endReduce f id) := by
  unfold State.endReduce
  split
  · exact h
  · exact .ite (LossKept.complete (h.foldl fun _ _ h' => h'.raiseErr)) h

theorem LossKept.dropField (h : LossKept s t) {f : Nat} : LossKept s (t.dropField f) := h.same

/-! ### A Field changed -/

theorem State.field_setField {f : Nat} {x : FieldSt} (hf : f < s.fields.length) (g : Nat) :
    (s.setField f x).field g = if g = f then x else s.field g := by
  by_cases hg : g = f
  · subst hg
    simp [State.field, State.setField, hf]
  · simp [State.field, State.setField, hg, List.getElem?_set_ne (Ne.symm hg)]

/-- A Field changed to one that is lost and whose cores have failed where they were. -/
theorem LossKept.setField (h : LossKept s t) {f : Nat} {x : FieldSt} (hlost : t.lost f = true → x.lost = true)
    (hcores : ∀ c, bitOf (t.field f).coresFailed c = true → bitOf x.coresFailed c = true) : LossKept s (t.setField f x) := by
  refine h.trans ?_
  by_cases hf : f < t.fields.length
  · refine ⟨by simp [State.setField], ?_, ?_, fun _ => id, fun _ _ => rfl⟩
    · intro g hg
      rw [State.lost, State.field_setField hf]
      split
      · next heq => exact hlost (heq ▸ hg)
      · exact hg
    · intro p c hc
      rw [State.coreFailed] at hc ⊢
      split
      · next hp =>
        rw [if_pos hp] at hc
        rw [State.field_setField hf]
        split
        · next heq => exact hcores c (heq ▸ hc)
        · exact hc
      · next hp =>
        rw [if_neg hp] at hc
        exact hc
  · have hsame : t.setField f x = t := by simp only [State.setField, List.set_eq_of_length_le (Nat.le_of_not_lt hf)]
    rw [hsame]
    exact .refl t

theorem LossKept.tellNeighbour (h : LossKept s t) {west : Bool} {g : Nat} : LossKept s (t.tellNeighbour west g) := by
  refine .ite h (LossKept.raiseErr (h.setField ?_ ?_))
  · intro hlost
    cases west <;> exact hlost
  · intro c hc
    cases west <;> exact hc

/-! ### The loss of a Field -/

/-- The arrays of a lost Field, as they are left. -/
theorem State.failUnits_array {f : Nat} (hf : f < s.arrays.length) : ((s.failUnits f).array f).state = 2 := by
  simp [State.array, State.failUnits, hf]

theorem LossKept.failUnits (h : LossKept s t) {f : Nat} : LossKept s (t.failUnits f) := by
  refine h.trans ⟨rfl, fun _ => id, fun _ _ => id, ?_, fun _ _ => rfl⟩
  intro g hg
  by_cases hgf : g = f
  · subst hgf
    by_cases hlt : g < t.arrays.length
    · exact State.failUnits_array hlt
    · simp [State.array, State.failUnits, hlt]
  · simp only [State.array, State.failUnits, List.getD_eq_getElem?_getD, List.getElem?_set_ne (Ne.symm hgf), List.getElem?_map] at hg ⊢
    cases hx : t.arrays[g]? with
    | none => rfl
    | some b =>
      simp only [hx, Option.map_some, Option.getD_some] at hg ⊢
      split <;> exact hg

/-- A Field lost and its neighbours told. -/
def State.toldLost (s : State) (f : Nat) : State :=
  let s1 := s.setField f { s.field f with lost := true, steading := .lost }
  let s2 := (westOf f).elim s1 (fun g => s1.tellNeighbour false g)
  (eastOf f).elim s2 (fun g => s2.tellNeighbour true g)

/-- What is left to do once a Field's units have failed: its own descriptors end, then those of Glean and those that touch it. -/
def State.endLost (s : State) (f : Nat) (own glean other : List Nat) : State :=
  let s4 := glean.foldl (fun t id => t.endReduce f id) (own.foldl (fun t id => t.complete id 0x0511) s)
  let s5 := (other.foldl State.endTouching s4).restartFill
  ((List.range 16).foldl State.rehomeEngine (s5.dropField f)).recNext

theorem State.loseField_eq {f : Nat} (h : s.lost f = false) : ∃ own glean other, s.loseField f = ((s.toldLost f).failUnits f).endLost f own glean other := by
  refine ⟨(s.flights.filter (fun g => g.ofField f)).map (fun g => g.id), s.gleanFlights.map (fun g => g.id),
    (s.flights.filter (fun g => !g.ofField f && s.touchesField f g.words)).map (fun g => g.id), ?_⟩
  simp only [State.loseField, h, Bool.false_eq_true, if_false]
  rfl

theorem LossKept.endLost (h : LossKept s t) {f : Nat} {own glean other : List Nat} : LossKept s (t.endLost f own glean other) := by
  have hended : LossKept s (glean.foldl (fun t id => t.endReduce f id) (own.foldl (fun t id => t.complete id 0x0511) t)) :=
    (h.foldl fun _ _ h' => h'.complete).foldl fun _ _ h' => h'.endReduce
  exact ((hended.foldl fun _ _ h' => h'.endTouching).restartFill.dropField.foldl fun _ _ h' => h'.rehomeEngine).recAdmit

theorem LossKept.told (h : LossKept s t) {f : Nat} : LossKept s
    ((eastOf f).elim ((westOf f).elim t (fun g => t.tellNeighbour false g))
      (fun g => ((westOf f).elim t (fun g => t.tellNeighbour false g)).tellNeighbour true g)) := by
  have hwest : LossKept s ((westOf f).elim t (fun g => t.tellNeighbour false g)) := .optionElim h fun _ => h.tellNeighbour
  exact .optionElim hwest fun _ => hwest.tellNeighbour

theorem LossKept.toldLost (h : LossKept s t) {f : Nat} : LossKept s (t.toldLost f) := by
  have hset : LossKept s (t.setField f { t.field f with lost := true, steading := .lost }) := h.setField (fun _ => rfl) fun _ => id
  exact hset.told

/-- A Field told lost is lost. -/
theorem State.toldLost_lost {f : Nat} (hf : f < s.fields.length) : (s.toldLost f).lost f = true := by
  have hset : (s.setField f { s.field f with lost := true, steading := .lost }).lost f = true := by
    rw [State.lost, State.field_setField hf, if_pos rfl]
  exact (LossKept.told (.refl _)).lost f hset

theorem State.tellNeighbour_arrays {west : Bool} {g : Nat} : (s.tellNeighbour west g).arrays = s.arrays := by
  unfold State.tellNeighbour
  split
  · rfl
  · simp [State.setField]

theorem State.toldLost_arrays {f : Nat} : (s.toldLost f).arrays = s.arrays := by
  unfold State.toldLost
  cases westOf f <;> cases eastOf f <;> simp [State.tellNeighbour_arrays, State.setField]

theorem LossKept.loseField (h : LossKept s t) {f : Nat} : LossKept s (t.loseField f) := by
  by_cases hlost : t.lost f = true
  · simpa [State.loseField, hlost] using h
  · obtain ⟨own, glean, other, heq⟩ := State.loseField_eq (Bool.not_eq_true _ ▸ hlost)
    rw [heq]
    exact h.toldLost.failUnits.endLost

/-- A Field declared lost is lost, and its array is FAILED. -/
theorem State.loseField_lost {f : Nat} (hlost : s.lost f = false) (hf : f < s.fields.length) (ha : f < s.arrays.length) :
    (s.loseField f).lost f = true ∧ ((s.loseField f).array f).state = 2 := by
  obtain ⟨own, glean, other, heq⟩ := State.loseField_eq hlost
  have hend : LossKept ((s.toldLost f).failUnits f) (s.loseField f) := heq ▸ (LossKept.refl _).endLost
  exact ⟨hend.lost f (State.toldLost_lost hf), hend.arrays f (State.failUnits_array (by rw [State.toldLost_arrays]; exact ha))⟩

/-! ### A Reeve core fails (R72 to R74) -/

/-- A place whose Field is lost has no working core; that of the Steading cannot be lost. -/
def State.LostSpent (s : State) (place : Nat) : Prop :=
  place < 8 → s.lost place = true → ∀ c < 8, s.coreFailed place c = true

theorem popCount_full {n w : Nat} (h : n ≤ popCount n w) : ∀ c < n, bitOf w c = true := by
  have hbound (m : Nat) : popCount m w ≤ m := by
    induction m with
    | zero => exact Nat.le_refl _
    | succ m ih => simp only [popCount]; omega
  induction n with
  | zero => exact fun c hc => absurd hc (Nat.not_lt_zero c)
  | succ n ih =>
    simp only [popCount] at h
    have hn := hbound n
    intro c hc
    by_cases hcn : c = n
    · subst hcn
      simp only [bitOf, beq_iff_eq]
      omega
    · exact ih (by omega) c (by omega)

/-- A place that is not lost and has no working core has all its cores failed. -/
theorem State.coresWorking_zero {place : Nat} (hlost : place < 8 → s.lost place = false) (h : s.coresWorking place = 0) :
    ∀ c < 8, s.coreFailed place c = true := by
  unfold State.coresWorking at h
  intro c hc
  unfold State.coreFailed
  split at h
  · next hp =>
    rw [hlost hp] at h
    rw [if_pos hp]
    exact popCount_full (by simpa [Nat.sub_eq_zero_iff_le] using h) c hc
  · next hp =>
    rw [if_neg hp]
    exact popCount_full (by simpa [Nat.sub_eq_zero_iff_le] using h) c hc

/-- A place with one more failed core. -/
def State.setCoreFailed (s : State) (place c : Nat) : State :=
  if place < 8 then s.setField place { s.field place with coresFailed := (s.field place).coresFailed ||| (1 <<< c) }
  else { s with steadFailed := s.steadFailed ||| (1 <<< c) }

theorem bitOf_or_left {w v n : Nat} (h : bitOf w n = true) : bitOf (w ||| v) n = true := by rw [bitOf_or, h, Bool.true_or]

theorem bitOf_or_one (w n : Nat) : bitOf (w ||| (1 <<< n)) n = true := by rw [bitOf_or, bitOf_shiftLeft_one, Bool.or_true]

theorem LossKept.setCoreFailed (h : LossKept s t) {place c : Nat} : LossKept s (t.setCoreFailed place c) := by
  unfold State.setCoreFailed
  refine .ite (h.setField id fun _ => bitOf_or_left) (h.trans ⟨rfl, fun _ => id, ?_, fun _ => id, fun _ _ => rfl⟩)
  intro p c' hc
  rw [State.coreFailed] at hc ⊢
  split
  · next hp => rwa [if_pos hp] at hc
  · next hp =>
    rw [if_neg hp] at hc
    exact bitOf_or_left hc

theorem State.coreFailed_setCoreFailed {place c : Nat} (hlen : s.fields.length = 8) : (s.setCoreFailed place c).coreFailed place c = true := by
  unfold State.setCoreFailed State.coreFailed
  by_cases hp : place < 8
  · rw [if_pos hp, if_pos hp, State.field_setField (by omega), if_pos rfl]
    exact bitOf_or_one ..
  · rw [if_neg hp, if_neg hp]
    exact bitOf_or_one ..

theorem State.lost_setCoreFailed {place c : Nat} (f : Nat) : (s.setCoreFailed place c).lost f = s.lost f := by
  unfold State.setCoreFailed
  split
  · by_cases hf : place < s.fields.length
    · rw [State.lost, State.field_setField hf]
      split
      · next heq => rw [heq, State.lost]
      · rfl
    · simp only [State.setField, List.set_eq_of_length_le (Nat.le_of_not_lt hf)]
  · rfl

/-- The event of a failed core, on the page that reports it. -/
def State.reportCore (s : State) (place : Nat) (page : Option Nat) (code work info check n : Nat) : State :=
  match page with
  | some f =>
    let t := s.raiseErr .reeve f 0 code work info check
    if place < 8 && 0 < t.coresWorking place then t.bumpBy (reeveReg f 0x130) n else t
  | none => s

theorem LossKept.reportCore (h : LossKept s t) {place code work info check n : Nat} {page : Option Nat} :
    LossKept s (t.reportCore place page code work info check n) := by
  cases page with
  | none => exact h
  | some f => exact .ite h.raiseErr.bumpBy h.raiseErr

theorem State.reportCore_fields {place code work info check n : Nat} {page : Option Nat} :
    (s.reportCore place page code work info check n).fields = s.fields := by
  cases page with
  | none => rfl
  | some f =>
    simp only [State.reportCore]
    split <;> simp

/-- What follows when a place has no core left. -/
def State.placeSpent (s : State) (place : Nat) : State :=
  if 0 < s.coresWorking place then s
  else if place < 8 then s.loseField place
  else (List.range 8).foldl (fun t f => if t.lost f then t else t.raiseErr .reeve f 1 0x0B44 0 0 0) s

theorem LossKept.placeSpent (h : LossKept s t) {place : Nat} : LossKept s (t.placeSpent place) :=
  .ite h <| .ite h.loseField <| h.foldl fun _ _ h' => .ite h' h'.raiseErr

theorem State.failReeve_eq {place c code check work n : Nat} (hc : s.coreFailed place c = false) (hl : place < 8 → s.lost place = false) :
    ∃ page info, s.failReeve place c code check work n =
      ((s.setCoreFailed place c).reportCore place page code work info check n).placeSpent place := by
  have hgo : (s.coreFailed place c || (decide (place < 8) && s.lost place)) = false := by
    by_cases hp : place < 8
    · simp [hc, hl hp]
    · simp [hc, hp]
  refine ⟨if place < 8 then some place else s.firstField, c + (if place < 8 then 0 else 8) + (work <<< 32), ?_⟩
  unfold State.failReeve
  rw [hgo]
  rfl

/-- A core that fails has failed, whatever its place; and a place whose Field is lost for it has no core left. -/
theorem State.failReeve_failed {place c code check work n : Nat} (hlen : s.fields.length = 8) (hc8 : c < 8) (hspent : s.LostSpent place) :
    LossKept s (s.failReeve place c code check work n) ∧ (s.failReeve place c code check work n).coreFailed place c = true ∧
    (s.failReeve place c code check work n).LostSpent place := by
  by_cases hc : s.coreFailed place c = true
  · have hsame : s.failReeve place c code check work n = s := by simp [State.failReeve, hc]
    rw [hsame]
    exact ⟨.refl s, hc, hspent⟩
  · have hl : place < 8 → s.lost place = false := fun hp => by
      rw [← Bool.not_eq_true]
      exact fun hlost => hc (hspent hp hlost c hc8)
    obtain ⟨page, info, heq⟩ := State.failReeve_eq (code := code) (check := check) (work := work) (n := n) (Bool.not_eq_true _ ▸ hc) hl
    have hset : LossKept s (s.setCoreFailed place c) := (LossKept.refl s).setCoreFailed
    have hafter : LossKept (s.setCoreFailed place c) (s.failReeve place c code check work n) := heq ▸ (LossKept.refl _).reportCore.placeSpent
    refine ⟨hset.trans hafter, hafter.cores place c (State.coreFailed_setCoreFailed hlen), ?_⟩
    intro hp hlost
    rw [heq] at hlost ⊢
    have hstill : ((s.setCoreFailed place c).reportCore place page code work info check n).lost place = false := by
      rw [State.lost_congr State.reportCore_fields, State.lost_setCoreFailed, hl hp]
    by_cases hwork : 0 < ((s.setCoreFailed place c).reportCore place page code work info check n).coresWorking place
    · rw [State.placeSpent, if_pos hwork, hstill] at hlost
      cases hlost
    · have hall := State.coresWorking_zero (fun _ => hstill) (by omega)
      exact fun c' hc' => ((LossKept.refl _).placeSpent).cores place c' (hall c' hc')

/-! ### force_fail (R72) -/

theorem State.forceReeve_failed {place c : Nat} (hlen : s.fields.length = 8) (hc8 : c < 8) (hspent : s.LostSpent place) :
    LossKept s (s.forceReeve place c) ∧ (s.forceReeve place c).coreFailed place c = true ∧ (s.forceReeve place c).LostSpent place := by
  have hdrawn : LossKept s s.drawn.drawn := (LossKept.refl s).same
  obtain ⟨hkept, hfailed, hstill⟩ := State.failReeve_failed (s := s.drawn.drawn) (code := 0x0B43) (check := 4) hlen hc8 hspent
  exact ⟨hdrawn.trans hkept, hfailed, hstill⟩

/-- Cores forced to fail one after another have all failed. -/
theorem State.forceReeve_all {place : Nat} {l : List Nat} (hlen : s.fields.length = 8) (hl : ∀ c ∈ l, c < 8) (hspent : s.LostSpent place) :
    LossKept s (l.foldl (fun t c => t.forceReeve place c) s) ∧
    ∀ c ∈ l, (l.foldl (fun t c => t.forceReeve place c) s).coreFailed place c = true := by
  induction l generalizing s with
  | nil => exact ⟨.refl s, fun c hc => absurd hc List.not_mem_nil⟩
  | cons c l ih =>
    obtain ⟨hkept, hfailed, hstill⟩ := State.forceReeve_failed hlen (hl c List.mem_cons_self) hspent
    obtain ⟨hrest, hall⟩ := ih (hkept.length.trans hlen) (fun d hd => hl d (List.mem_cons_of_mem c hd)) hstill
    refine ⟨hkept.trans hrest, fun d hd => ?_⟩
    rcases List.mem_cons.1 hd with rfl | hd
    · exact hrest.cores place d hfailed
    · exact hall d hd

theorem storeMask_reeve : storeMask (regFields .reeve 0x100) = 0xFF := by decide

/-- A written force_fail bit stands in the merged word. -/
theorem bitOf_mergeWord_reeve {old v c : Nat} (hc : c < 8) : bitOf (mergeWord (regFields .reeve 0x100) old v) c = bitOf v c := by
  have hmask (x : Nat) : x &&& 0xFF = x % 256 := Nat.and_two_pow_sub_one_eq_mod x 8
  have hlow : mergeWord (regFields .reeve 0x100) old v % 2 ^ 8 = v % 2 ^ 8 := by
    rw [mergeWord, storeMask_reeve, hmask, hmask]
    omega
  have hbit (x : Nat) : bitOf x c = (x % 2 ^ 8).testBit c := by rw [bitOf_eq_testBit, Nat.testBit_mod_two_pow, decide_eq_true hc, Bool.true_and]
  rw [hbit, hlow, ← hbit]

theorem State.writeEffect_reeve {src : Source} {f v : Nat} : s.writeEffect src .reeve f 0x100 v =
    (((List.range 8).filter (newForce (s.reg (regAddr .reeve f 0x100)) v)).foldl (fun t c => t.forceReeve f c)
      (s.setReg (regAddr .reeve f 0x100) (mergeWord (regFields .reeve 0x100) (s.reg (regAddr .reeve f 0x100)) v))).noteCapacity
      (s.setReg (regAddr .reeve f 0x100) (mergeWord (regFields .reeve 0x100) (s.reg (regAddr .reeve f 0x100)) v)) := rfl

/-- The effect of a write to force_fail: a bit newly set fails its core and reads 1. -/
theorem State.writeEffect_reeve_failed {src : Source} {f v c : Nat} (hlen : s.fields.length = 8) (hlost : s.lost f = false) (hc : c < 8)
    (hv : bitOf v c = true) (hold : bitOf (s.reg (regAddr .reeve f 0x100)) c = false) :
    (s.writeEffect src .reeve f 0x100 v).coreFailed f c = true ∧ bitOf ((s.writeEffect src .reeve f 0x100 v).reg (regAddr .reeve f 0x100)) c = true := by
  rw [State.writeEffect_reeve]
  generalize hb : s.setReg (regAddr .reeve f 0x100) (mergeWord (regFields .reeve 0x100) (s.reg (regAddr .reeve f 0x100)) v) = b
  have hlen' : b.fields.length = 8 := by rw [← hb]; exact hlen
  have hlost' : b.lost f = false := by rw [← hb]; exact hlost
  have hspent : b.LostSpent f := fun _ h => by simp [hlost'] at h
  have hbit : bitOf (b.reg (regAddr .reeve f 0x100)) c = true := by
    rw [← hb, State.reg_setReg_self, bitOf_mergeWord_reeve hc, hv]
  obtain ⟨hkept, hall⟩ := State.forceReeve_all (l := (List.range 8).filter (newForce (s.reg (regAddr .reeve f 0x100)) v)) hlen'
    (fun d hd => by simpa using (List.mem_filter.1 hd).1) hspent
  have hmem : c ∈ (List.range 8).filter (newForce (s.reg (regAddr .reeve f 0x100)) v) := by simp [newForce, hv, hold, hc]
  have hnoted := (LossKept.refl _).noteCapacity (t := ((List.range 8).filter (newForce (s.reg (regAddr .reeve f 0x100)) v)).foldl (fun t c => t.forceReeve f c) b) (before := b)
  refine ⟨hnoted.cores f c (hall c hmem), ?_⟩
  rw [(hkept.trans hnoted).force _ (by rw [regAddr_mod])]
  exact hbit

theorem LossKept.arrived (via : Via) : LossKept s (via.arrived s) := by
  cases via with
  | hitch seq tag => exact (LossKept.refl s).same
  | ethernet seq tag => exact LossKept.bump (LossKept.refl s).same (by rw [stewReg, regAddr_mod]; decide)
  | twoWire => exact LossKept.bump (LossKept.refl s).same (by rw [stewReg, regAddr_mod]; decide)
  | jtag => exact LossKept.bump (LossKept.refl s).same (by rw [stewReg, regAddr_mod]; decide)

theorem Via.arrived_fields (via : Via) : (via.arrived s).fields = s.fields := by
  cases via <;> rfl

theorem LossKept.answer (via : Via) (a v : Nat) : LossKept s (via.answer a v s) := by
  cases via with
  | hitch seq tag => exact (LossKept.refl s).same (by simp [Via.answer]) (by simp [Via.answer]) (by simp [Via.answer]) (by simp [Via.answer])
  | ethernet seq tag => exact (LossKept.refl s).same
  | twoWire => exact .refl s
  | jtag => exact .refl s

/-- A landed write of force_fail takes its page's effect on the state that the request has reached. -/
theorem Via.reply_reeve {via : Via} {f : Fin 8} {v : Nat} (h : (via.reply s (regAddr .reeve f.val 0x100) v).code = 0) :
    ∃ t : State, (via.reply s (regAddr .reeve f.val 0x100) v).st = t.writeEffect via.source .reeve f.val 0x100 v ∧
      t.fields = s.fields ∧ t.reg (regAddr .reeve f.val 0x100) = s.reg (regAddr .reeve f.val 0x100) := by
  obtain ⟨k, i, hpage, -, -, -, heq⟩ := State.regWrite_accepted h
  have hreeve : ∀ f : Fin 8, pageAt (regAddr .reeve f.val 0x100) 8 = some (.reeve, f.val) := by decide
  obtain ⟨rfl, rfl⟩ : PageKind.reeve = k ∧ f.val = i := by simpa [hreeve f] using hpage
  have hreg : (via.arrived s).reg (regAddr .reeve f.val 0x100) = s.reg (regAddr .reeve f.val 0x100) := (LossKept.arrived via).force _ (by rw [regAddr_mod])
  rw [regAddr_mod] at heq
  change ∃ t : State, ((via.arrived s).regWrite via.source (regAddr .reeve f.val 0x100) v).st = _ ∧ _
  rw [heq]
  exact ⟨_, rfl, Via.arrived_fields via, hreg⟩

/-! ### Links (R19, R20) -/

theorem hedgePair_ok : ∀ l : Fin 6, (hedgePair (8 + l.val)).1 < 8 ∧ (hedgePair (8 + l.val)).2 < 8 ∧ (hedgePair (8 + l.val)).1 ≠ (hedgePair (8 + l.val)).2 := by
  decide

theorem State.hedgeState_of_eight (l : Nat) : s.hedgeState (8 + l) =
    if (s.field (hedgePair (8 + l)).2).west == .lost then .lost else (s.field (hedgePair (8 + l)).1).east := by
  rw [State.hedgeState, if_neg (by omega)]

theorem State.hedgeState_congr (h : t.fields = s.fields) (l : Nat) : t.hedgeState l = s.hedgeState l := by
  unfold State.hedgeState State.field
  rw [h]

/-- A Field–Field link reads the state given to it. -/
theorem State.hedgeState_setHedge (l : Fin 6) (hlen : s.fields.length = 8) : (s.setHedge (8 + l.val) .rerouted).hedgeState (8 + l.val) = .rerouted := by
  obtain ⟨h1, h2, hne⟩ := hedgePair_ok l
  have heq : s.setHedge (8 + l.val) .rerouted =
      (s.setField (hedgePair (8 + l.val)).1 { s.field (hedgePair (8 + l.val)).1 with east := .rerouted }).setField (hedgePair (8 + l.val)).2
        { (s.setField (hedgePair (8 + l.val)).1 { s.field (hedgePair (8 + l.val)).1 with east := .rerouted }).field (hedgePair (8 + l.val)).2 with
          west := .rerouted } := if_neg (Nat.not_lt.2 (Nat.le_add_right 8 l.val))
  have hlen' : (hedgePair (8 + l.val)).2 < (s.setField (hedgePair (8 + l.val)).1 { s.field (hedgePair (8 + l.val)).1 with east := .rerouted }).fields.length := by
    simpa [State.setField, hlen] using h2
  rw [State.hedgeState_of_eight, heq, State.field_setField hlen', State.field_setField hlen', if_pos rfl, if_neg hne]
  change ((s.setField (hedgePair (8 + l.val)).1 { s.field (hedgePair (8 + l.val)).1 with east := .rerouted }).field (hedgePair (8 + l.val)).1).east = .rerouted
  rw [State.field_setField (by omega), if_pos rfl]

/-- A replay is counted on the pages of both ends. -/
theorem State.hedgeReplay_counted {l : Nat} (h : s.hedgeState l = .up) :
    (l < 8 → s.Counted (s.hedgeReplay l) (fieldReg l 0x120) 1) ∧
    (8 ≤ l → s.Counted (s.hedgeReplay l) (fieldReg (hedgePair l).1 0x118) 1 ∧ s.Counted (s.hedgeReplay l) (fieldReg (hedgePair l).2 0x110) 1) := by
  have hup : (s.hedgeState l != .up) = false := by rw [h]; rfl
  have hdiff : fieldReg (hedgePair l).1 0x118 % 0x1000 ≠ fieldReg (hedgePair l).2 0x110 % 0x1000 := by
    rw [fieldReg, fieldReg, regAddr_mod, regAddr_mod]
    decide
  unfold State.hedgeReplay
  rw [hup]
  refine ⟨fun hl => ?_, fun hl => ?_⟩
  · simp only [Bool.false_eq_true, if_false, if_pos hl]
    exact State.counted_bumpBy
  · simp only [Bool.false_eq_true, if_false, if_neg (Nat.not_lt.2 hl)]
    refine ⟨State.Counted.congr State.counted_bumpBy (State.reg_bumpBy_offset 1 hdiff), ?_⟩
    rw [State.Counted, State.bump, State.reg_bumpBy, if_pos rfl, State.bump, State.reg_bumpBy_offset 1 hdiff.symm]

/-! ### Late host waits (R79 to R81) -/

theorem State.pushRecord_job (r : EventRec) : (s.pushRecord r).hitch.job = s.hitch.job := by
  unfold State.pushRecord
  dsimp only []
  (repeat' split) <;> rfl

theorem State.raise_job {k : PageKind} {i bit info work : Nat} : (s.raise k i bit info work).hitch.job = s.hitch.job := by
  unfold State.raise
  dsimp only []
  split
  · rfl
  · split
    · rfl
    · rw [State.pushRecord_job]
      rfl

theorem State.raiseErr_job {k : PageKind} {i bit code work info0 info1 : Nat} : (s.raiseErr k i bit code work info0 info1).hitch.job = s.hitch.job := by
  rw [State.raiseErr, State.capture_hitch, State.raise_job]

theorem State.pauseJob_job {j : JobState} : (s.pauseJob j).hitch.job = if s.hitch.job = .running then j else s.hitch.job := by
  unfold State.pauseJob
  by_cases h : s.hitch.job = .running <;> simp [h]

theorem State.pauseJob_hostWaits {j : JobState} : (s.pauseJob j).hostWaits = s.hostWaits := by
  unfold State.pauseJob
  split <;> rfl

/-- A late wait, marked and with the job paused. -/
def State.waitPaused (s : State) (i : Nat) (h : HostWait) : State :=
  (({ s with hostWaits := s.hostWaits.set i { h with late := true } } : State).pauseJob .pausedHostWait).raiseErr .hitch 0 2 0x0503 0 0 0

theorem State.hostWaitLate_eq {i : Nat} {h : HostWait} (hi : s.hostWaits[i]? = some h) (hlate : h.late = false) (hdue : h.start + h.limit < s.now)
    (hnow : s.waitsNow.contains h.kind = true) :
    s.hostWaitLate i = match (s.waitPaused i h).waitWindow h.kind with
      | some w => (s.waitPaused i h).raise .cmdwin w 4 0x0503 0
      | none => s.waitPaused i h := by
  have hgo : (h.late || decide (s.now ≤ h.start + h.limit) || !s.waitsNow.contains h.kind) = false := by
    rw [hlate, hnow, decide_eq_false (Nat.not_le.2 hdue)]
    rfl
  unfold State.hostWaitLate
  simp only [hi, hgo, Bool.false_eq_true, if_false]
  rfl

/-! ### The obligation -/

theorem exec_hostWaitLate {i : Nat} : exec (.hostWaitLate i) s = .next (s.hostWaitLate i) := rfl
theorem exec_reeveCoreEcc {place : Fin 9} {core : Fin 8} {held : List Nat} : exec (.reeveCoreEcc place core held) s = .next (s.reeveFault place.val core.val 1 held) := rfl
theorem exec_reeveWatchdog {place : Fin 9} {core : Fin 8} {held : List Nat} : exec (.reeveWatchdog place core held) s = .next (s.reeveFault place.val core.val 2 held) := rfl
theorem exec_reeveForceFail {via : Via} {f : Fin 8} {cores : BitVec 8} :
    exec (.reeveForceFail via f cores) s = .next (s.writeBy via (regAddr .reeve f.val 0x100) cores.toNat) := rfl
theorem exec_hedgeFlitCrcFail {l : Fin 14} : exec (.hedgeFlitCrcFail l) s = .next (s.hedgeReplay l.val) := rfl
theorem exec_hedgeRerouted {l : Fin 6} : exec (.hedgeRerouted l) s = .next (s.hedgeReroute (8 + l.val)) := rfl
theorem exec_hedgeFieldLost {f : Fin 8} : exec (.hedgeFieldLost f) s = .next (s.hedgeLost f.val) := rfl

/-- A core that a check or its watchdog finds is FAILED. -/
theorem State.reeveFault_failed {place c check : Nat} {held : List Nat} (hlen : s.fields.length = 8) (hc : c < 8) (hready : s.steward.ready = true)
    (hlost : place < 8 → s.lost place = false) (hbusy : check = 2 → s.placeBusy place = true) :
    (s.reeveFault place c check held).coreFailed place c = true := by
  have hspent : s.LostSpent place := fun hp h => by simp [hlost hp] at h
  have hgo : (!s.steward.ready || decide (check = 2) && !s.placeBusy place) = false := by
    by_cases h2 : check = 2
    · simp [hready, hbusy h2]
    · simp [hready, h2]
  unfold State.reeveFault
  rw [hgo]
  exact (LossKept.refl _).noteCapacity.cores place c (State.failReeve_failed hlen hc hspent).2.1

/-- Settles O20: the wait by its parts, the cores and Fields by what a loss leaves, the links by their two ends. -/
theorem waitsAndControlLost : Obligations.WaitsAndControlLost := by
  unfold Obligations.WaitsAndControlLost
  refine ⟨?_, ?_, ?_, ?_, ?_, ?_, ?_⟩
  · intro i s h hi hlate hdue hnow
    refine Completes.intro exec_hostWaitLate ?_
    have hjob : (s.waitPaused i h).hitch.job = if s.hitch.job = .running then .pausedHostWait else s.hitch.job :=
      State.raiseErr_job.trans State.pauseJob_job
    have hraised : (s.waitPaused i h).Raised .hitch 0 2 := State.raised_raiseErr
    have hwaits : (s.waitPaused i h).hostWaits = s.hostWaits.set i { h with late := true } := by
      rw [State.waitPaused, State.raiseErr_hostWaits, State.pauseJob_hostWaits]
    rw [State.hostWaitLate_eq hi hlate hdue hnow]
    split
    · exact ⟨State.raise_job.trans hjob, hraised.raise, (State.raise_hostWaits ..).trans hwaits⟩
    · exact ⟨hjob, hraised, hwaits⟩
  · intro place core held s hlen hready hlost
    exact Completes.intro exec_reeveCoreEcc (State.reeveFault_failed hlen core.isLt hready hlost (by simp))
  · intro place core held s hlen hready hlost hbusy
    exact Completes.intro exec_reeveWatchdog (State.reeveFault_failed hlen core.isLt hready hlost fun _ => hbusy)
  · intro via f cores c s hlen hlost hlands hbit hold
    refine Completes.intro exec_reeveForceFail ?_
    rw [State.writeBy_of_lands hlands (by omega) (ne_of_mod_ne (by rw [stewReg, regAddr_mod, regAddr_mod]; decide))]
    obtain ⟨t, heq, hfields, hreg⟩ := Via.reply_reeve hlands.2
    obtain ⟨hfailed, hforced⟩ := State.writeEffect_reeve_failed (s := t) (src := via.source) (by rw [hfields, hlen]) ((State.lost_congr hfields _).trans hlost) c.isLt hbit
      (by rw [hreg, hold])
    have hanswer := LossKept.answer (s := (via.reply s (regAddr .reeve f.val 0x100) cores.toNat).st) via (regAddr .reeve f.val 0x100) cores.toNat
    rw [heq] at hanswer ⊢
    refine ⟨hanswer.cores _ _ hfailed, ?_⟩
    rw [hanswer.force _ (by rw [regAddr_mod])]
    exact hforced
  · intro l s hup
    exact Completes.intro exec_hedgeFlitCrcFail (State.hedgeReplay_counted hup)
  · intro l s hlen hup
    refine Completes.intro exec_hedgeRerouted ?_
    have hrun : s.hedgeReroute (8 + l.val) = s.reroute (8 + l.val) := by
      rw [State.hedgeReroute, hup]
      exact if_pos (by simp; omega)
    rw [hrun]
    refine ⟨?_, State.raised_raiseErr.raiseErr, State.raised_raiseErr⟩
    rw [← State.hedgeState_setHedge l hlen]
    exact State.hedgeState_congr (by simp [State.reroute]) _
  · intro f s hlen harr hup hlost
    refine Completes.intro exec_hedgeFieldLost ?_
    obtain ⟨hgone, harray⟩ := State.loseField_lost hlost (by omega) (by omega)
    have hnoted := (LossKept.refl (s.loseField f.val)).noteCapacity (before := s)
    have hrun : s.hedgeLost f.val = (s.loseField f.val).noteCapacity s := by
      rw [State.hedgeLost, hup]
      rfl
    rw [hrun]
    exact ⟨hnoted.lost _ hgone, hnoted.arrays _ harray⟩

end Sys2Proof.Machine
end

section
/-!
Every step keeps the shape of the state (O7).

The shape is one predicate, `Formed`, in six parts: the lengths of the lists, and what five parts of the state name. Few operations
touch one of these parts; each has its own argument. Every other function of the model builds its answer from such operations,
updates of other parts (`Formed.same`), choices and folds, so its lemma is the chain of the lemmas of what it calls, in the order and
under the file names of the model. `Formed.exec` gathers them, one case per command.
-/
namespace Sys2Proof.Machine

set_option Elab.async false

variable {s t u : State}

/-- A progress that names a channel names one that there is. -/
def ProgOk : Prog → Prop
  | .coll p => p.ch < 32
  | _ => True

/-- A descriptor in flight names a window and a channel that there are. -/
structure FlightOk (f : Flight) : Prop where
  window : f.window < 16
  prog : ProgOk f.prog

theorem FlightOk.withProg {f g : Flight} (h : FlightOk f) (hw : g.window = f.window := by rfl) (hp : ProgOk g.prog := by exact trivial) : FlightOk g :=
  ⟨hw ▸ h.window, hp⟩

theorem FlightOk.keep {f g : Flight} (h : FlightOk f) (hw : g.window = f.window := by rfl) (hp : g.prog = f.prog := by rfl) : FlightOk g :=
  ⟨hw ▸ h.window, hp ▸ h.prog⟩

/-- The lengths of the lists whose length the module gives. -/
def State.lengths (s : State) : List Nat :=
  [s.fields.length, s.arrays.length, s.engines.length, s.stackList.length, s.plots.length, s.windows.length, s.rings.length,
   s.thr.chans.length, s.swath.links.length, s.swath.ports.length, s.power.droop.length, s.power.sensors.length,
   s.coulter.live.length, s.coulter.cores.length, s.recov.hosted.length, s.recov.sealSeen.length]

/-- The state has its shape. -/
structure Formed (t : State) : Prop where
  lengths : t.lengths = [8, 8, 16, 24, 8, 16, 256, 32, 64, 8, 8, 72, 8, 16, 2, 2]
  areas : ∀ x ∈ t.winnow.areas, x.2 < 2
  flights : ∀ f ∈ t.flights, FlightOk f
  furlong : ∀ g ∈ t.furlong, g.window < 16
  samples : ∀ x ∈ t.coulter.samples, ∀ c ∈ x.core, c < 16
  words : ∀ w ∈ t.tithe.snapWords ++ t.tithe.recWords, w.1 < 0x1000

theorem flightOk_iff {f : Flight} : FlightOk f ↔ f.window < 16 ∧ f.coll?.all (fun p => decide (p.ch < 32)) = true := by
  have hprog : ProgOk f.prog ↔ f.coll?.all (fun p => decide (p.ch < 32)) = true := by
    unfold Flight.coll? ProgOk
    cases f.prog <;> simp
  exact ⟨fun h => ⟨h.window, hprog.1 h.prog⟩, fun ⟨hw, hp⟩ => ⟨hw, hprog.2 hp⟩⟩

theorem formed_iff : Formed t ↔ t.Shaped := by
  have hlen : t.lengths = [8, 8, 16, 24, 8, 16, 256, 32, 64, 8, 8, 72, 8, 16, 2, 2] ↔
      t.fields.length = 8 ∧ t.arrays.length = 8 ∧ t.engines.length = 16 ∧ t.stackList.length = 24 ∧ t.plots.length = 8 ∧
      t.windows.length = 16 ∧ t.rings.length = 256 ∧ t.thr.chans.length = 32 ∧ t.swath.links.length = 64 ∧ t.swath.ports.length = 8 ∧
      t.power.droop.length = 8 ∧ t.power.sensors.length = 72 ∧ t.coulter.live.length = 8 ∧ t.coulter.cores.length = 16 ∧
      t.recov.hosted.length = 2 ∧ t.recov.sealSeen.length = 2 := by
    simp [State.lengths]
  have hfurlong : (∀ g ∈ t.furlong, g.window < 16) ↔ t.furlong.all (fun g => decide (g.window < 16)) = true := by
    cases t.furlong <;> simp
  have hsamples : (∀ x ∈ t.coulter.samples, ∀ c ∈ x.core, c < 16) ↔ ∀ x ∈ t.coulter.samples, x.core.all (fun c => decide (c < 16)) = true := by
    refine forall₂_congr fun x _ => ?_
    cases x.core <;> simp
  constructor
  · intro h
    obtain ⟨h1, h2, h3, h4, h5, h6, h7, h8, h9, h10, h11, h12, h13, h14, h15, h16⟩ := hlen.1 h.lengths
    exact ⟨h1, h2, h3, h4, h5, h6, h7, h8, h9, h10, h11, h12, h13, h14, h15, h16, h.areas, fun f hf => flightOk_iff.1 (h.flights f hf),
      hfurlong.1 h.furlong, hsamples.1 h.samples, h.words⟩
  · rintro ⟨h1, h2, h3, h4, h5, h6, h7, h8, h9, h10, h11, h12, h13, h14, h15, h16, hareas, hflights, hfur, hsamp, hwords⟩
    exact ⟨hlen.2 ⟨h1, h2, h3, h4, h5, h6, h7, h8, h9, h10, h11, h12, h13, h14, h15, h16⟩, hareas, fun f hf => flightOk_iff.2 (hflights f hf),
      hfurlong.2 hfur, hsamples.2 hsamp, hwords⟩

/-! ### How states are put together -/

/-- An update of other parts. -/
theorem Formed.same (h : Formed t) (hl : u.lengths = t.lengths := by rfl) (ha : u.winnow.areas = t.winnow.areas := by rfl)
    (hf : u.flights = t.flights := by rfl) (hg : u.furlong = t.furlong := by rfl) (hs : u.coulter.samples = t.coulter.samples := by rfl)
    (hw : u.tithe.snapWords ++ u.tithe.recWords = t.tithe.snapWords ++ t.tithe.recWords := by rfl) : Formed u :=
  ⟨hl.trans h.lengths, ha ▸ h.areas, hf ▸ h.flights, hg ▸ h.furlong, hs ▸ h.samples, hw ▸ h.words⟩

theorem Formed.ite {c : Prop} {_ : Decidable c} (ht : Formed t) (hu : Formed u) : Formed (if c then t else u) := by
  split <;> assumption

theorem Formed.optionElim {α : Type} {o : Option α} {f : α → State} (ht : Formed t) (hf : ∀ a, Formed (f a)) : Formed (o.elim t f) := by
  cases o with
  | none => exact ht
  | some a => exact hf a

theorem Formed.foldl {α : Type} {f : State → α → State} {l : List α} (h : Formed t) (hf : ∀ u a, Formed u → Formed (f u a)) :
    Formed (l.foldl f t) :=
  foldl_inv Formed f l hf h

/-! ### The parts of the shape -/

theorem Formed.setReg (h : Formed t) {a v} : Formed (t.setReg a v) := h.same

theorem Formed.putBytes (h : Formed t) {a bs} : Formed (t.putBytes a bs) := h.same

theorem Formed.zeroRange (h : Formed t) {a n} : Formed (t.zeroRange a n) := h.same

/-- Descriptors in flight each of which names what there is. -/
def FlightsOk (l : List Flight) : Prop := ∀ f ∈ l, FlightOk f

theorem FlightsOk.filter {l : List Flight} (h : FlightsOk l) {p : Flight → Bool} : FlightsOk (l.filter p) :=
  fun f hf => h f (List.mem_of_mem_filter hf)

theorem FlightsOk.map {l : List Flight} (h : FlightsOk l) {g : Flight → Flight} (hg : ∀ f, FlightOk f → FlightOk (g f)) : FlightsOk (l.map g) :=
  fun _ hf => by
    obtain ⟨f', hf', rfl⟩ := List.mem_map.1 hf
    exact hg f' (h f' hf')

/-- An update of the descriptors in flight, and of other parts. -/
theorem Formed.withFlights (h : Formed t) (hf : FlightsOk u.flights) (hl : u.lengths = t.lengths := by rfl)
    (ha : u.winnow.areas = t.winnow.areas := by rfl) (hg : u.furlong = t.furlong := by rfl) (hs : u.coulter.samples = t.coulter.samples := by rfl)
    (hw : u.tithe.snapWords ++ u.tithe.recWords = t.tithe.snapWords ++ t.tithe.recWords := by rfl) : Formed u :=
  ⟨hl.trans h.lengths, ha ▸ h.areas, hf, hg ▸ h.furlong, hs ▸ h.samples, hw ▸ h.words⟩

theorem Formed.setFlight (h : Formed t) {f : Flight} (hf : FlightOk f) : Formed (t.setFlight f) :=
  h.withFlights <| FlightsOk.map h.flights fun g hg => by split <;> assumption

theorem Formed.flight (h : Formed t) {id : Nat} {f : Flight} (hf : t.flight id = some f) : FlightOk f :=
  h.flights f (List.mem_of_find?_eq_some hf)

theorem Formed.flightOf (h : Formed t) {id c o : Nat} {f : Flight} (hf : t.flightOf id c o = some f) : FlightOk f :=
  h.flight (State.flight_of_flightOf hf)

/-- An update of the furlong, and of other parts. -/
theorem Formed.withFurlong (h : Formed t) (hg : ∀ g ∈ u.furlong, g.window < 16) (hl : u.lengths = t.lengths := by rfl)
    (ha : u.winnow.areas = t.winnow.areas := by rfl) (hf : u.flights = t.flights := by rfl) (hs : u.coulter.samples = t.coulter.samples := by rfl)
    (hw : u.tithe.snapWords ++ u.tithe.recWords = t.tithe.snapWords ++ t.tithe.recWords := by rfl) : Formed u :=
  ⟨hl.trans h.lengths, ha ▸ h.areas, hf ▸ h.flights, hg, hs ▸ h.samples, hw ▸ h.words⟩

/-- The furlong changed where it stands, its window the same. -/
theorem furlong_map {o : Option Furlong} (h : ∀ g ∈ o, g.window < 16) {k : Furlong → Furlong} (hk : ∀ g, (k g).window = g.window) :
    ∀ g ∈ o.map k, g.window < 16 := by
  intro g hg
  obtain ⟨g', hg', rfl⟩ := Option.mem_map.1 hg
  exact (hk g').symm ▸ h g' hg'

/-! ### Answers that carry a state -/

theorem Formed.iteReply {c : Prop} {_ : Decidable c} {a b : Reply} (ha : Formed a.st) (hb : Formed b.st) :
    Formed (if c then a else b).st := by
  split <;> assumption

theorem Formed.iteFst {c : Prop} {_ : Decidable c} {α : Type} {a b : State × α} (ha : Formed a.1) (hb : Formed b.1) :
    Formed (if c then a else b).1 := by
  split <;> assumption

theorem Formed.ofSome (h : Formed t) : ∀ u ∈ some t, Formed u := by
  rintro u ⟨⟩
  exact h

theorem Formed.getD {o : Option State} (h : Formed t) (ho : ∀ u ∈ o, Formed u) : Formed (o.getD t) := by
  cases o with
  | none => exact h
  | some u => exact ho u rfl

/-! ### Ops -/

theorem Formed.setRf (h : Formed t) {a hi lo v} : Formed (t.setRf a hi lo v) := h.setReg

theorem Formed.bumpBy (h : Formed t) {a n} : Formed (t.bumpBy a n) := h.setReg

theorem Formed.bump (h : Formed t) {a} : Formed (t.bump a) := h.bumpBy

theorem Formed.drawn (h : Formed t) : Formed t.drawn := h.same

theorem Formed.clearPoison (h : Formed t) {a n} : Formed (t.clearPoison a n) := h.same

theorem Formed.storeSector (h : Formed t) {a bs} : Formed (t.storeSector a bs) := by
  unfold State.storeSector
  split
  · exact .ite h.bump h.same
  · exact h.putBytes.clearPoison

theorem Formed.store (h : Formed t) {a bs} : Formed (t.store a bs) :=
  .ite (h.foldl fun _ _ h' => h'.storeSector) h.putBytes.clearPoison

theorem Formed.pushRecord (h : Formed t) {r} : Formed (t.pushRecord r) :=
  .ite h.same (.ite h.bump (.ite h.bump.setReg h.same))

theorem Formed.noteSet (h : Formed t) {a bit} : Formed (t.noteSet a bit) := h.same

theorem Formed.raise (h : Formed t) {k i bit info workId} : Formed (t.raise k i bit info workId) :=
  .ite h.noteSet (.ite h.noteSet.setReg h.noteSet.setReg.pushRecord)

theorem Formed.capture (h : Formed t) {k i code info0 info1} : Formed (t.capture k i code info0 info1) :=
  .ite h.setReg.setReg.setReg.setReg h

theorem Formed.raiseErr (h : Formed t) {k i bit code workId info0 info1} :
    Formed (t.raiseErr k i bit code workId info0 info1) :=
  h.raise.capture

theorem Formed.journalAdd (h : Formed t) {addr src kind old new} : Formed (t.journalAdd addr src kind old new) :=
  h.same

theorem Formed.journalFlushN (h : Formed t) {n} : Formed (t.journalFlushN n) := h.same

theorem Formed.logAdd (h : Formed t) {code info} : Formed (t.logAdd code info) := h.same

theorem Formed.sendNumbered (h : Formed t) {f} : Formed (t.sendNumbered f) := .ite h.same h.same

theorem Formed.pumpTx (h : Formed t) {n} : Formed (State.pumpTx n t) := by
  induction n generalizing t with
  | zero => exact h
  | succ n ih =>
    unfold State.pumpTx
    split
    · exact h
    · exact .ite (ih h.same) h

theorem Formed.respond (h : Formed t) {tag addr status payload} : Formed (t.respond tag addr status payload) :=
  h.sendNumbered

theorem Formed.setFlag (h : Formed t) {domain n} : Formed (t.setFlag domain n) := h.same

theorem Formed.clearFlag (h : Formed t) {domain n} : Formed (t.clearFlag domain n) := .ite h.same h.same

/-! ### Hitch -/

theorem Formed.sendLinkCtrl (h : Formed t) : Formed t.sendLinkCtrl := .ite h.same h

theorem Formed.resend (h : Formed t) {fs} : Formed (t.resend fs) := h.same.bumpBy

theorem Formed.linkError (h : Formed t) {bit code} : Formed (t.linkError bit code) := h.same.raiseErr

theorem Formed.linkComesUp (h : Formed t) {lanes version} : Formed (t.linkComesUp lanes version) := by
  unfold State.linkComesUp
  extract_lets _ _ _ _ s2
  have hs2 : Formed s2 := .ite h.same.linkError h.same
  exact Formed.pumpTx (.ite hs2.resend.linkError hs2)

theorem Formed.trainStep (h : Formed t) {lanesOk} : Formed (t.trainStep lanesOk) := by
  unfold State.trainStep
  extract_lets
  split
  · exact .ite h.same h
  · exact .ite h.same h
  · exact .ite h.same.sendLinkCtrl h
  · exact .ite h.same.sendLinkCtrl h
  · exact .ite h.same.sendLinkCtrl h
  · split
    · exact .ite h.same.sendLinkCtrl h.linkComesUp.sendLinkCtrl
    · exact h
  · exact h

theorem Formed.trainTimeout (h : Formed t) : Formed t.trainTimeout := by
  unfold State.trainTimeout
  refine .ite h ?_
  split
  · exact h
  · exact h
  · exact h
  · exact .ite h.same h.same

theorem Formed.retrainHitch (h : Formed t) {keepBuffers} : Formed (t.retrainHitch keepBuffers) := h.same

theorem Formed.discardFlit (h : Formed t) : Formed t.discardFlit := h.bump

theorem Formed.linkCtrlApply (h : Formed t) {p} : Formed (t.linkCtrlApply p) := by
  unfold State.linkCtrlApply
  extract_lets _ _ s1 s2 _ s3
  have hs1 : Formed s1 := .ite (.ite h.same.pumpTx h.same) h
  have hs2 : Formed s2 := .ite hs1.resend hs1
  have hs3 : Formed s3 := .ite hs2.same hs2
  exact .ite hs3.same hs3

theorem Formed.linkCtrlReceived (h : Formed t) {header payload} : Formed (t.linkCtrlReceived header payload) :=
  .ite h (.ite h.discardFlit h.linkCtrlApply)

theorem Formed.fecLost (h : Formed t) : Formed t.fecLost := .ite h.same.sendLinkCtrl h

theorem Formed.requeueOverflow (h : Formed t) : Formed t.requeueOverflow := h.same

theorem Formed.sendEvents (h : Formed t) {n} : Formed (t.sendEvents n) :=
  .ite h.sendNumbered.same.requeueOverflow h

theorem Formed.pauseJob (h : Formed t) {j} : Formed (t.pauseJob j) := .ite h.same h

theorem Formed.resumeJob (h : Formed t) : Formed t.resumeJob := h.same

/-! ### Window -/

theorem Formed.setWin (h : Formed t) {w x} : Formed (t.setWin w x) := h.same (by simp [State.lengths, State.setWin])

theorem Formed.cmdPort (h : Formed t) {w data} : Formed (t.cmdPort w data).st :=
  .iteReply h <| .iteReply h <| .iteReply h <| .iteReply h.setWin.raise h.setWin

theorem Formed.refuseDesc (h : Formed t) {w d code} : Formed (t.refuseDesc w d code) :=
  .ite h.bump.raise.setWin h.bump.raise

theorem Formed.loseFraming (h : Formed t) {w d code} : Formed (t.loseFraming w d code) :=
  h.bump.raise.setWin.raise

theorem Formed.resetWindow (h : Formed t) {w} : Formed (t.resetWindow w) := h.setWin

theorem Formed.complete (h : Formed t) {id info} : Formed (t.complete id info) := by
  unfold State.complete
  split
  · exact h
  · extract_lets s1 _ s2 _ s4
    have hs1 : Formed s1 := h.withFlights (FlightsOk.filter h.flights)
    have hs2 : Formed s2 := .ite hs1.setFlag hs1
    have hs4 : Formed s4 := .ite hs2.setRf.raise hs2.setRf
    split
    · next hfur =>
      refine hs4.withFurlong fun g hg => ?_
      cases hg
      exact (hs4.furlong _ hfur : _)
    · exact hs4

theorem Formed.refuseInstance (h : Formed t) {step pre phase tmpl code} :
    Formed (t.refuseInstance step pre phase tmpl code) :=
  h.withFurlong (furlong_map h.furlong fun _ => rfl)

theorem Formed.refuseFlight (h : Formed t) {id code} : Formed (t.refuseFlight id code) := by
  unfold State.refuseFlight
  split
  · exact h
  · extract_lets s1
    have hs1 : Formed s1 := h.withFlights (FlightsOk.filter h.flights)
    split
    · exact hs1.refuseDesc
    · exact Formed.refuseInstance <| hs1.withFurlong (furlong_map hs1.furlong (by intro; rfl))

/-! ### Flags -/

theorem Formed.report (h : Formed t) {f tag step pre t'} : Formed (t.report f tag step pre t') :=
  .ite h (.ite (.ite h.putBytes h) (.ite (.ite h.bump.same h.bump) (.ite h.putBytes h)))

theorem Formed.reportFlight (h : Formed t) {f fl t'} : Formed (t.reportFlight f fl t') := h.report

/-! ### GleanBank -/

theorem Formed.setGmeta (h : Formed t) {f r m} : Formed (t.setGmeta f r m) := h.same

theorem Formed.setAcc (h : Formed t) {f r c v} : Formed (t.setAcc f r c v) := h.putBytes

theorem Formed.zeroRow (h : Formed t) {f r} : Formed (t.zeroRow f r) := h.zeroRange

theorem Formed.setPend (h : Formed t) {f r c q} : Formed (t.setPend f r c q) := h.setAcc.setAcc

theorem Formed.setAccs (h : Formed t) {f r c vs} : Formed (t.setAccs f r c vs) := by
  induction vs generalizing t c with
  | nil => exact h
  | cons v vs ih =>
    unfold State.setAccs
    exact ih h.setAcc

theorem Formed.toL96Row (h : Formed t) {f r} : Formed (t.toL96Row f r) := .ite h.zeroRow.setGmeta h

theorem Formed.rowInit (h : Formed t) {f r col e vals} : Formed (t.rowInit f r col e vals) :=
  h.toL96Row.setGmeta.setAccs

theorem Formed.rowAdd (h : Formed t) {f r col vals} : Formed (t.rowAdd f r col vals) := h.setAccs

theorem Formed.leafCols (h : Formed t) {f r leaf leaves fill c vs} :
    Formed (t.leafCols f r leaf leaves fill c vs) := by
  induction vs generalizing t c with
  | nil => exact h
  | cons v vs ih =>
    unfold State.leafCols
    exact ih h.setPend

theorem Formed.rowLeaf (h : Formed t) {f r col leaf leaves init vals} :
    Formed (t.rowLeaf f r col leaf leaves init vals) :=
  .ite h.zeroRow.setGmeta.leafCols h.leafCols.setGmeta

theorem Formed.resetGlean (h : Formed t) {f} : Formed (t.resetGlean f) := h.same

/-! ### Furrow -/

theorem Formed.setArray (h : Formed t) {f a} : Formed (t.setArray f a) :=
  h.same (by simp [State.lengths, State.setArray])

theorem Formed.giveUpLoads (h : Formed t) {helper p} : Formed (t.giveUpLoads helper p) :=
  h.withFlights <| FlightsOk.map h.flights fun g hg => by
    split
    · split
      · exact hg.withProg
      · exact hg
    · exact hg

theorem Formed.takePass (h : Formed t) {id} : Formed (t.takePass id) := by
  unfold State.takePass
  split
  · exact h
  next f hf =>
    refine .ite h ?_
    extract_lets _ _ _ _ _ _ s1
    have hs1 : Formed s1 := h.setFlight (h.flightOf hf).withProg
    exact .ite hs1 (.ite hs1.setArray hs1.setArray.giveUpLoads)

theorem Formed.loadStart (h : Formed t) {id} : Formed (t.loadStart id) := by
  unfold State.loadStart
  split
  · exact h
  next hf =>
    split
    · exact h
    · exact .ite (h.setFlight (h.flightOf hf).withProg) h

theorem Formed.swapPass (h : Formed t) {id stalls} : Formed (t.swapPass id stalls) := by
  unfold State.swapPass
  split
  · exact h
  next hf =>
    split
    · exact h
    · exact .ite (.bumpBy <| .setArray <| h.setFlight (h.flightOf hf).withProg) h

theorem Formed.enterRow (h : Formed t) {id stalls} : Formed (t.enterRow id stalls) := by
  unfold State.enterRow
  split
  · exact h
  next hf =>
    split
    · exact h
    · extract_lets
      split
      · exact .ite (.bumpBy <| .bumpBy <| .bumpBy <| .setArray <| h.setFlight (h.flightOf hf).withProg) h
      · exact .ite (h.setFlight (h.flightOf hf).withProg) h

theorem Formed.applyRow (h : Formed t) {p row vals} : Formed (t.applyRow p row vals).1 :=
  .iteFst (.iteFst h.rowLeaf h) (.iteFst h.rowInit (.iteFst h.rowAdd h))

theorem Formed.loadDone (h : Formed t) {id} : Formed (t.loadDone id) := by
  unfold State.loadDone
  split
  · exact h
  next hf =>
    split
    · exact h
    · exact .ite h (.ite (h.setFlight (h.flightOf hf).withProg) (h.setFlight (h.flightOf hf).withProg))

theorem Formed.addRow (h : Formed t) {id mismatch} : Formed (t.addRow id mismatch) := by
  unfold State.addRow
  split
  · exact h
  next hf =>
    split
    · exact h
    · extract_lets p a
      split
      · refine .ite h ?_
        extract_lets rc sums ap q1 s1 s2 s3
        clear_value rc
        split
        · exact h.setArray.bumpBy
        · have hs1 : Formed s1 := h.applyRow.setFlight (h.flightOf hf).withProg
          have hs2 : Formed s2 := .ite hs1.bump.bump hs1
          have hs3 : Formed s3 := .ite hs2.bump hs2
          exact .ite hs3.reportFlight hs3
      · exact h

theorem Formed.completePass (h : Formed t) {id} : Formed (t.completePass id) := by
  unfold State.completePass
  split
  · exact h
  · split
    · exact .ite h (Formed.complete (.ite h h.setArray))
    · exact .ite (.ite h.complete h) (.ite (.ite h.complete (.ite h.complete (.ite h.complete h))) h)

theorem Formed.failArray (h : Formed t) {f x} : Formed (t.failArray f x) := by
  unfold State.failArray
  extract_lets a s1
  have hs1 : Formed s1 := h.withFlights (FlightsOk.map h.flights fun g hg => by
    split
    · split
      · exact hg.withProg
      · exact hg
    · exact hg) (by simp [State.lengths, s1])
  exact .ite h hs1.raiseErr

theorem Formed.forceArray (h : Formed t) {f} : Formed (t.forceArray f) := h.failArray

theorem Formed.reissueArray (h : Formed t) {f} : Formed (t.reissueArray f) := by
  unfold State.reissueArray
  refine .ite h ?_
  split
  · split
    · exact h.setArray.raiseErr
    · exact h
  · extract_lets _ s1
    have hs1 : Formed s1 := h.withFlights (FlightsOk.map h.flights fun g hg => by
      split
      · split
        · exact hg.withProg
        · exact hg
      · exact hg) (by simp [State.lengths, s1])
    exact (hs1.foldl fun _ _ h' => h'.giveUpLoads).raise

theorem Formed.resetArrayBlock (h : Formed t) {f} : Formed (t.resetArrayBlock f) := h.setArray

/-! ### Glean -/

theorem Formed.setGlean (h : Formed t) {f g} (hf : FlightOk f) : Formed (t.setGlean f g) := h.setFlight hf.withProg

theorem Formed.readoutRow (h : Formed t) {id} : Formed (t.readoutRow id) := by
  unfold State.readoutRow
  split
  · exact h
  next hf =>
    refine .ite h ?_
    refine .ite (h.setGlean (h.flightOf hf)) ?_
    split
    · exact h
    · extract_lets _ _ _ _ _ _ _ s2 _ _ s4
      have hs2 : Formed s2 := .ite h.store.store h.store
      have hs4 : Formed s4 := .bumpBy <| .reportFlight (.ite hs2 hs2.store)
      exact Formed.setGlean hs4.same (h.flightOf hf)

theorem Formed.preloadRow (h : Formed t) {id} : Formed (t.preloadRow id) := by
  unfold State.preloadRow
  split
  · exact h
  next hf => exact .ite h (h.rowInit.reportFlight.bumpBy.setGlean (h.flightOf hf))

theorem Formed.clearRow (h : Formed t) {id} : Formed (t.clearRow id) := by
  unfold State.clearRow
  split
  · exact h
  next hf => exact .ite h (h.rowInit.bumpBy.setGlean (h.flightOf hf))

theorem Formed.saveRow (h : Formed t) {id} : Formed (t.saveRow id) := by
  unfold State.saveRow
  split
  · exact h
  next hf => exact .ite h (h.store.store.bumpBy.setGlean (h.flightOf hf))

theorem Formed.loadRow (h : Formed t) {id} : Formed (t.loadRow id) := by
  unfold State.loadRow
  split
  · exact h
  next hf =>
    have hf := h.flightOf hf
    exact .ite h (.ite (h.setGlean hf) (.ite h.refuseFlight (.ite (h.setGlean hf) (h.putBytes.setGmeta.bumpBy.setGlean hf))))

theorem Formed.treeBytes (h : Formed t) {g n} : Formed (t.treeBytes g n) := by
  unfold State.treeBytes
  extract_lets _ _ s1 s2
  have hs1 : Formed s1 := h.foldl fun _ _ h' => .ite h'.bumpBy.bumpBy h'
  have hs2 : Formed s2 := .ite hs1.bumpBy hs1
  exact .ite (Formed.foldl (.ite hs2.bumpBy hs2) fun _ _ h' => h'.bumpBy) hs1

theorem Formed.reduceInto (h : Formed t) {s0 : State} {g root row} : Formed (s0.reduceInto t g root row) :=
  .ite h.zeroRow.setGmeta.setAccs h.toL96Row.setGmeta.setAccs

theorem Formed.reduceRow (h : Formed t) {id} : Formed (t.reduceRow id) := by
  unfold State.reduceRow
  split
  · exact h
  next hf =>
    refine .ite h <| .ite h.refuseFlight <| .ite h.refuseFlight ?_
    exact ((h.foldl fun _ _ h' => h'.reduceInto.bumpBy).foldl fun _ _ h' => h'.bumpBy).treeBytes.setGlean (h.flightOf hf)

theorem Formed.completeGlean (h : Formed t) {id} : Formed (t.completeGlean id) := by
  unfold State.completeGlean
  split
  · exact h
  · exact .ite h (.ite h.complete (.ite h (.ite h.complete (.ite h.complete h))))

theorem Formed.gleanEcc (h : Formed t) {f row col access workId corrected} :
    Formed (t.gleanEcc f row col access workId corrected) :=
  .ite h (.ite h.bump h.setGmeta.bump.raiseErr)

/-! ### Harrow -/

theorem Formed.setEngine (h : Formed t) {e x} : Formed (t.setEngine e x) :=
  h.same (by simp [State.lengths, State.setEngine])

theorem FlightOk.optimHeader {f : Flight} (h : FlightOk f) : FlightOk (t.optimHeader f) := by
  unfold State.optimHeader
  dsimp only []
  split
  · exact h
  · split
    · exact h.keep
    · split
      · exact h.keep
      · exact h

theorem Formed.engineFlight (h : Formed t) {e : Nat} {p : Flight → Bool} {f : Flight} (hf : (t.engineFlights e).find? p = some f) : FlightOk f :=
  h.flights f (List.mem_of_mem_filter (List.mem_of_mem_filter (List.mem_of_find?_eq_some hf)))

theorem Formed.dealUnit (h : Formed t) {e thread starved} : Formed (t.dealUnit e thread starved) := by
  unfold State.dealUnit
  extract_lets _ _ s0
  have hs0 : Formed s0 := h.bumpBy
  split
  · exact h
  next hf =>
    refine .ite h ?_
    have hf' := (h.engineFlight hf).optimHeader (t := t)
    extract_lets
    split
    · exact hs0.setFlight hf'.withProg
    · exact .ite (hs0.setFlight hf'.withProg) (hs0.setFlight hf'.withProg)

theorem Formed.unitStored (h : Formed t) {f u} (hf : FlightOk f) : Formed (t.unitStored f u) := h.setFlight hf.withProg

theorem Formed.storeRun (h : Formed t) {f base len c0 cv} : Formed (t.storeRun f base len c0 cv) :=
  .ite h.store.store h.store

theorem Formed.storeElems (h : Formed t) {fl slot base len c0 idx vs} :
    Formed (t.storeElems fl slot base len c0 idx vs) :=
  h.storeRun.report

theorem Formed.storePerRow (h : Formed t) {fl slot r idx v} : Formed (t.storePerRow fl slot r idx v) :=
  Formed.report (.ite h.store h.store)

theorem Formed.storeStats (h : Formed t) {fl r a b} : Formed (t.storeStats fl r a b) := .ite h h.store

theorem Formed.countHarrow (h : Formed t) {e elems cycles} : Formed (t.countHarrow e elems cycles) :=
  h.bumpBy.bumpBy

theorem Formed.countGleanRead (h : Formed t) {d rows n} : Formed (t.countGleanRead d rows n) := h.bumpBy

theorem Formed.mapChunk (h : Formed t) {id u} : Formed (t.mapChunk id u) := by
  unfold State.mapChunk
  split
  · exact h
  next hf =>
    split
    · exact h
    · exact (Formed.countHarrow (.ite h.storeElems.store h.storeElems)).countGleanRead.unitStored (h.flightOf hf)

theorem Formed.rowReduceUnit (h : Formed t) {id u} : Formed (t.rowReduceUnit id u) := by
  unfold State.rowReduceUnit
  split
  · exact h
  next hf =>
    split
    · exact h
    · exact h.storePerRow.countHarrow.countGleanRead.unitStored (h.flightOf hf)

theorem Formed.softmaxUnit (h : Formed t) {id u} : Formed (t.softmaxUnit id u) := by
  unfold State.softmaxUnit
  split
  · exact h
  next hf =>
    split
    · exact h
    · exact h.storeElems.storeStats.countHarrow.countGleanRead.unitStored (h.flightOf hf)

theorem Formed.normUnit (h : Formed t) {id u} : Formed (t.normUnit id u) := by
  unfold State.normUnit
  split
  · exact h
  next hf =>
    split
    · exact h
    · exact h.storeElems.storeStats.countHarrow.countGleanRead.unitStored (h.flightOf hf)

theorem Formed.optimUnit (h : Formed t) {id u} : Formed (t.optimUnit id u) := by
  unfold State.optimUnit
  split
  · exact h
  next hf =>
    split
    · exact h
    · extract_lets _ _ _ _ _ _ _ _ _ _ _ s1 _ _ _ s4
      have hs1 : Formed s1 := (h.foldl fun _ _ h' => h'.storeElems).foldl fun _ _ h' => h'.storeElems
      have hs4 : Formed s4 := by
        unfold s4
        refine Formed.foldl ?_ fun _ _ h' => h'.storeElems
        exact Formed.foldl (.ite (hs1.foldl fun _ _ h' => h'.storeElems) hs1) fun _ _ h' => h'.storeElems
      exact hs4.countHarrow.countGleanRead.unitStored (h.flightOf hf)

theorem Formed.unitComplete (h : Formed t) {id u} : Formed (t.unitComplete id u) := by
  unfold State.unitComplete
  split
  · exact h
  next hf =>
    refine .ite h ?_
    extract_lets
    split
    · extract_lets _ s1
      have hs1 : Formed s1 := .bump <| h.setFlight (h.flight hf).withProg
      exact .ite hs1.complete hs1
    · exact .ite h.complete h

theorem Formed.rehomeEngine (h : Formed t) {e} : Formed (t.rehomeEngine e) := by
  unfold State.rehomeEngine
  refine .ite h ?_
  split
  · exact h.setEngine.raise
  · split
    · exact h.setEngine.raiseErr
    · exact h

theorem Formed.failEngine (h : Formed t) {e code workId info0 info1} :
    Formed (t.failEngine e code workId info0 info1) := by
  unfold State.failEngine
  extract_lets s1 s2
  have hs1 : Formed s1 := h.withFlights (FlightsOk.map h.flights fun g hg => by
    split
    · split
      · exact hg.withProg
      · exact hg
    · exact hg) (by simp [State.lengths, s1])
  exact .ite h (hs1.raiseErr.foldl fun _ _ h' => h'.rehomeEngine)

theorem Formed.engineCheck (h : Formed t) {e thread check} : Formed (t.engineCheck e thread check) := by
  refine .ite h <| .ite h.bump ?_
  dsimp only
  split
  · exact h.bump.failEngine
  · exact h.bump.failEngine

theorem Formed.forceEngine (h : Formed t) {e} : Formed (t.forceEngine e) := h.failEngine

end Sys2Proof.Machine
end

section
/-!
The shape in Winnow, Tilth, Granary and Drill (O7).
-/
namespace Sys2Proof.Machine

set_option Elab.async false

variable {s t u : State}

/-! ### Winnow -/

theorem Formed.putTag (h : Formed t) {tag e} : Formed (t.putTag tag e) := h.foldl fun _ _ h' => h'.store

theorem Formed.emptyArea (h : Formed t) {area} : Formed (t.emptyArea area) :=
  h.foldl fun _ _ h' => h'.foldl fun _ _ h2 => h2.store

/-- An update of Winnow whose counter areas are those that there are. -/
theorem Formed.withWinnow (h : Formed t) {w} (ha : ∀ x ∈ w.areas, x.2 < 2) : Formed { t with winnow := w } :=
  ⟨h.lengths, ha, h.flights, h.furlong, h.samples, h.words⟩

theorem State.freeArea_lt : t.freeArea < 2 := by
  unfold State.freeArea
  omega

theorem Formed.openStep (h : Formed t) {step} : Formed (t.openStep step) := by
  refine .ite h (h.emptyArea.withWinnow fun x hx => ?_)
  rcases List.mem_cons.1 hx with rfl | hx
  · exact State.freeArea_lt
  · exact h.emptyArea.areas x (List.mem_of_mem_filter hx)

theorem Formed.emptyProbes (h : Formed t) : Formed t.emptyProbes :=
  h.foldl fun _ _ h' => h'.foldl fun _ _ h2 => h2.store

theorem Formed.putProbeMaxima (h : Formed t) {ms} : Formed (t.putProbeMaxima ms) :=
  h.foldl fun _ _ h' => h'.foldl fun _ _ h2 => h2.store

theorem Formed.closeTag {acc : CloseSum} (h : Formed acc.st) {step skip verdict tag} :
    Formed (Machine.closeTag step skip verdict acc tag).st := by
  unfold Machine.closeTag
  extract_lets t0 _ _ _ _ _ _ _ _ _ _ _ _ _ _ s0 s1 s2 s3 s4
  have ht : Formed t0 := h
  split
  · exact ht.raiseErr
  · split
    · exact ht
    · have hs0 : Formed s0 := ht.putTag
      have hs1 : Formed s1 := .ite (hs0.foldl fun _ _ h' => h'.store) hs0
      have hs2 : Formed s2 := .ite hs1.raise hs1
      have hs3 : Formed s3 := .ite (hs2.foldl fun _ _ h' => h'.bump) hs2
      exact .ite hs3.raiseErr hs3

theorem Formed.closeTags {tags : List Nat} {acc : CloseSum} (h : Formed acc.st) {step skip verdict} :
    Formed (tags.foldl (Machine.closeTag step skip verdict) acc).st := by
  induction tags generalizing acc with
  | nil => exact h
  | cons tag tags ih =>
    rw [List.foldl_cons]
    exact ih h.closeTag

theorem Formed.decayOffsets (h : Formed t) : Formed t.decayOffsets :=
  h.foldl fun _ _ h' => .ite h' h'.putTag

/-- The last closed step and the decay count given. -/
theorem Formed.lastClosed (h : Formed t) {last decay} : Formed { t with winnow := { t.winnow with lastClosed := last, decay := decay } } :=
  h.same

/-- The bookkeeping of a step that closes. -/
theorem Formed.stepClosed (h : Formed t) {last decay openSteps nf pre} :
    Formed { t with winnow := { t.winnow with lastClosed := last, decay := decay, openSteps := openSteps, nfUntracked := nf, preSteps := pre } } :=
  h.same

theorem Formed.closeStep (h : Formed t) {step} : Formed (t.closeStep step) := by
  unfold State.closeStep
  extract_lets s0 r verdict skip pre cs s1 n due s2 flagging s3 _ s4 s5 s6
  have hs1 : Formed s1 := Formed.closeTags (.ite h.openStep h)
  have hs3 : Formed s3 := Formed.store (.ite hs1.decayOffsets hs1)
  clear_value s3
  have hs4 : Formed s4 := hs3.stepClosed
  have hs5 : Formed s5 := .ite hs4.raiseErr hs4
  have hs6 : Formed s6 := .ite hs5.raiseErr hs5
  refine hs6.foldl fun _ _ h' => ?_
  exact .ite (Formed.bump (.ite h'.bump.bump h'.bump)) (.ite h'.bump.bump h'.bump)

theorem Formed.runCloseStep (h : Formed t) {id} : Formed (t.runCloseStep id) := by
  unfold State.runCloseStep
  split
  · exact h
  · exact .ite h (.ite h.refuseFlight (.ite h (.ite h.complete h.closeStep.complete)))

theorem Formed.runSetTags (h : Formed t) {id} : Formed (t.runSetTags id) := by
  unfold State.runSetTags
  split
  · exact h
  · exact .ite h (.ite h.complete (.ite h.refuseFlight ((h.foldl fun _ _ h' => h'.putTag).complete)))

theorem Formed.runSaveState (h : Formed t) {id} : Formed (t.runSaveState id) := by
  unfold State.runSaveState
  split
  · exact h
  · exact .ite h (.ite h.complete (.ite h.complete h.store.complete))

theorem Formed.runLoadState (h : Formed t) {id} : Formed (t.runLoadState id) := by
  unfold State.runLoadState
  split
  · exact h
  · refine .ite h <| .ite h.refuseFlight <| .ite h.complete <| .ite h.complete <| .ite h.refuseFlight ?_
    refine .ite h.refuseFlight ?_
    extract_lets s1
    have hs1 : Formed s1 := h.foldl fun _ _ h' => h'.putTag
    clear_value s1
    exact .complete hs1.lastClosed

theorem Formed.runProbe (h : Formed t) {id} : Formed (t.runProbe id) := by
  unfold State.runProbe
  split
  · exact h
  · exact .ite h ((h.foldl fun _ _ h' => .ite h'.putTag h').complete)

theorem Formed.enableWinnow (h : Formed t) : Formed t.enableWinnow := by
  unfold State.enableWinnow
  extract_lets s1 s2
  have hs2 : Formed s2 := (h.foldl fun _ _ h' => h'.zeroRange).emptyArea.emptyArea.emptyProbes
  clear_value s2
  exact hs2.lastClosed

theorem Formed.maskTag (h : Formed t) {v} : Formed (t.maskTag v) := h.same

theorem Formed.dropSteps (h : Formed t) : Formed t.dropSteps :=
  h.withWinnow fun x hx => h.areas x (List.mem_of_mem_filter hx)

/-! ### Tilth -/

theorem Formed.zeroBank (h : Formed t) {f b} : Formed (t.zeroBank f b) := h.same

theorem Formed.bankWrite (h : Formed t) {f set v} : Formed (t.bankWrite f set v) := h.same

theorem Formed.bankDone (h : Formed t) {f b} : Formed (t.bankDone f b) := by
  unfold State.bankDone
  split
  · exact h
  · exact .ite h.same.zeroBank h.same

theorem Formed.tilthEcc (h : Formed t) {a requester workId} : Formed (t.tilthEcc a requester workId) := by
  unfold State.tilthEcc
  split
  · exact .ite h h.same.bump.raiseErr
  · exact h

theorem Formed.tilthWriteback (h : Formed t) {a} : Formed (t.tilthWriteback a) := by
  unfold State.tilthWriteback
  split
  · exact .ite h.bump h
  · exact h

theorem Formed.setPlot (h : Formed t) {f p} : Formed (t.setPlot f p) := h.same (by simp [State.lengths, State.setPlot])

theorem Formed.plotStart (h : Formed t) {f b} : Formed (t.plotStart f b) := by
  unfold State.plotStart
  refine .ite h ?_
  split
  · exact .ite h h.setPlot
  · exact .ite h.setPlot h

theorem Formed.plotSlots (h : Formed t) {f slots} : Formed (t.plotSlots f slots) :=
  .ite h.setPlot.setPlot.bump h.setPlot

theorem Formed.plotNext (h : Formed t) {f b} : Formed (t.plotNext f b) := h.plotSlots

theorem Formed.plotLeave (h : Formed t) {f b} : Formed (t.plotLeave f b) := .ite h.plotSlots h

theorem Formed.plotEnd (h : Formed t) {f b passed flashOk} : Formed (t.plotEnd f b passed flashOk) := by
  unfold State.plotEnd
  extract_lets
  split
  · exact h
  · refine .ite h.bump.plotNext ?_
    extract_lets s2 s3 s4
    have hs2 : Formed s2 := h.bump.bump.setPlot
    have hs3 : Formed s3 := hs2.raise.raiseErr
    have hs4 : Formed s4 := .ite hs3.raiseErr hs3
    exact Formed.plotNext (.ite hs4 hs4.raiseErr)

theorem Formed.plotSteal (h : Formed t) {f b} : Formed (t.plotSteal f b) := .ite h.bump h

theorem Formed.plotRestore (h : Formed t) {f banks} : Formed (t.plotRestore f banks) := h.setPlot

theorem Formed.ttWrite (h : Formed t) {f v} : Formed (t.ttWrite f v) := .ite h.setReg h.setReg.plotRestore

theorem Formed.ttReset (h : Formed t) {f} : Formed (t.ttReset f) := h.setPlot

/-! ### Granary -/

theorem Formed.keepLine (h : Formed t) {a} : Formed (t.keepLine a) :=
  .ite h.same (.ite h (.ite h.same.bump h.same))

theorem Formed.demote (h : Formed t) {a n} : Formed (t.demote a n) := h.same

theorem Formed.touchLines (h : Formed t) {a n} : Formed (t.touchLines a n) := .ite h.same h

theorem Formed.readHint (h : Formed t) {a n hint} : Formed (t.readHint a n hint) :=
  .ite h (.ite h.touchLines (.ite (h.foldl fun _ _ h' => h'.keepLine) (.ite h.demote h)))

theorem Formed.writeHint (h : Formed t) {a n hint} : Formed (t.writeHint a n hint) := .ite h h.readHint

theorem Formed.storeAs (h : Formed t) {cls a bs} : Formed (t.storeAs cls a bs) := h.store.writeHint

theorem Formed.readAs (h : Formed t) {cls rs} : Formed (t.readAs cls rs) :=
  h.foldl fun _ _ h' => h'.readHint

theorem Formed.trimKept (h : Formed t) {f} : Formed (t.trimKept f) := h.same

theorem Formed.granaryCorrected (h : Formed t) {a} : Formed (t.granaryCorrected a) := by
  unfold State.granaryCorrected
  split
  · exact .ite h.bump h
  · exact h

theorem Formed.setStack (h : Formed t) {n x} : Formed (t.setStack n x) := h.same (by simp [State.lengths, State.setStack])

theorem Formed.granaryTemp (h : Formed t) {n t'} : Formed (t.granaryTemp n t') := by
  unfold State.granaryTemp
  extract_lets _ _ _ _ _ _ s2 s1
  have hs2 : Formed s2 := h.setStack.setRf.setRf.setRf
  have hs1 : Formed s1 := h.setStack.bump
  exact .ite h (.ite (.ite hs2.raiseErr hs2) (.ite hs1.setRf.raiseErr hs1))

theorem Formed.granaryRetrain (h : Formed t) {n repaired} : Formed (t.granaryRetrain n repaired) :=
  .ite h (.ite h.setStack.bump.raiseErr h.setStack.bump)

theorem Formed.zeroFresh (h : Formed t) {n} : Formed (t.zeroFresh n) := by
  unfold State.zeroFresh
  refine .ite h ?_
  split
  · exact h.same
  · exact h

theorem Formed.freshRegion (h : Formed t) {f} : Formed (t.freshRegion f) := h.same

theorem Formed.emptyInRegion (h : Formed t) {f} : Formed (t.emptyInRegion f) := h.same

theorem Formed.restartFill (h : Formed t) : Formed t.restartFill := by
  refine .ite (Formed.setRf <| h.withFlights <| FlightsOk.map h.flights fun g hg => ?_) h
  split
  · exact hg.withProg
  · exact hg

theorem Formed.failStack (h : Formed t) {n code} : Formed (t.failStack n code) :=
  .ite h (Formed.raiseErr <| .restartFill <| .emptyInRegion <| Formed.same h.setStack)

theorem Formed.granaryEcc (h : Formed t) {a cls workId} : Formed (t.granaryEcc a cls workId) := by
  unfold State.granaryEcc
  split
  · refine .ite h ?_
    extract_lets base st p s0 s1 s2
    have hs0 : Formed s0 := h.setStack
    clear_value s0
    have hs2 : Formed s2 := .raiseErr <| .bump hs0.same
    exact .ite hs2.failStack hs2
  · exact h

theorem Formed.granaryScrub (h : Formed t) {a outcome} : Formed (t.granaryScrub a outcome) :=
  .ite h.granaryCorrected (.ite h.granaryEcc h)

theorem Formed.stackFails (h : Formed t) {n cause} : Formed (t.stackFails n cause) :=
  .ite h.failStack (.ite h.failStack (.ite h.failStack h))

theorem Formed.mapOut (h : Formed t) : Formed t.mapOut :=
  h.foldl fun _ _ h' => .ite h'.setStack.freshRegion h'

theorem Formed.runFill (h : Formed t) {id} : Formed (t.runFill id) := by
  unfold State.runFill
  split
  · exact h
  · exact .ite h (.ite h.complete (Formed.complete (.ite (h.foldl fun _ _ h' => h'.keepLine) h.touchLines)))

theorem Formed.runDemote (h : Formed t) {id} : Formed (t.runDemote id) := by
  unfold State.runDemote
  split
  · exact h
  · exact .ite h h.demote.complete

/-! ### Drill -/

theorem Formed.setRing (h : Formed t) {q r} : Formed (t.setRing q r) := h.same (by simp [State.lengths, State.setRing])

theorem Formed.notePass (h : Formed t) {d} : Formed (t.notePass d) := h.same

theorem Formed.openGate (h : Formed t) {id} : Formed (t.openGate id) := by
  unfold State.openGate
  split
  · exact h
  next hf => exact .ite (h.setFlight (h.flightOf hf).withProg) h

theorem Formed.drillStart (h : Formed t) {id gateWait creditWait limitWait} :
    Formed (t.drillStart id gateWait creditWait limitWait) := by
  unfold State.drillStart
  split
  · exact h
  next hf =>
    extract_lets _ _ _ _ _ s1
    have hs1 : Formed s1 := h.bumpBy.bumpBy.bumpBy
    refine .ite h <| .ite (hs1.setFlight (h.flightOf hf).keep) <| .ite hs1.refuseFlight <| .ite h <| .ite hs1.refuseFlight ?_
    exact .ite hs1.refuseFlight (hs1.setRing.setFlight (h.flightOf hf).withProg)

theorem Formed.storeParts (h : Formed t) {b hint parts} : Formed (t.storeParts b hint parts) :=
  .ite h.store.writeHint (h.foldl fun _ _ h' => h'.store.writeHint)

theorem Formed.fillSectors (h : Formed t) {dst hint held parts} : Formed (t.fillSectors dst hint held parts).1 :=
  List.foldlRecOn (motive := fun r : State × List (Nat × List Byte) => Formed r.1) _ _ h fun _ hr _ _ => .iteFst hr.storeParts hr

theorem Formed.copyRow (h : Formed t) {id} : Formed (t.copyRow id) := by
  unfold State.copyRow
  split
  · exact h
  next hf =>
    refine .ite h <| .ite (h.setFlight (h.flightOf hf).withProg) ?_
    extract_lets bs s1 r
    have hr : Formed r.1 := .iteFst (h.readHint.foldl fun _ _ h' => h'.store.writeHint) h.readHint.fillSectors
    exact hr.bumpBy.setFlight (h.flightOf hf).withProg

theorem Formed.ringSetup (h : Formed t) {id} : Formed (t.ringSetup id) := by
  unfold State.ringSetup
  split
  · exact h
  · exact .ite h (.ite h.refuseFlight h.setRing.bump.complete)

theorem Formed.ringCredit (h : Formed t) {id} : Formed (t.ringCredit id) := by
  unfold State.ringCredit
  split
  · exact h
  · exact .ite h.bump.complete (.ite h (.ite h.bump.complete (.ite h.refuseFlight h.setRing.bump.complete)))

theorem Formed.endPass (h : Formed t) {f code} (hf : FlightOk f) : Formed (t.endPass f code) := by
  refine h.setFlight ⟨hf.window, ?_⟩
  have hprog := hf.prog
  dsimp only
  split
  · trivial
  · exact hprog

theorem Formed.cancelOne (h : Formed t) {id} : Formed (t.cancelOne id) := by
  unfold State.cancelOne
  split
  · exact h
  next hf =>
    have hf' := h.flight hf
    refine .ite h ?_
    refine .ite ?_ (.ite (.ite (h.setFlight hf'.keep) h) (.ite (.ite h (h.setFlight hf'.withProg)) (h.setFlight hf'.keep)))
    extract_lets _ _ _ _ _ s2
    have hs2 : Formed s2 := by
      unfold s2
      refine Formed.foldl (h.endPass hf') fun _ _ h' => ?_
      split
      next hg => exact h'.endPass (h'.flight hg)
      next => exact h'
    exact .ite h (.ite (h.endPass hf') (.ite hs2 hs2.setArray))

theorem Formed.cancelField (h : Formed t) {id field} : Formed (t.cancelField id field) := by
  unfold State.cancelField
  split
  · exact h
  next hf =>
    extract_lets
    split
    · exact .ite h (.setFlight ((h.foldl fun _ _ h' => h'.cancelOne).foldl fun _ _ h' => h'.setReg) (h.flightOf hf).withProg)
    · exact h

theorem Formed.returnCredit (h : Formed t) {f info} : Formed (t.returnCredit f info) := .ite h.setRing h

theorem Formed.drillComplete (h : Formed t) {id discarded} : Formed (t.drillComplete id discarded) := by
  unfold State.drillComplete
  split
  · exact h
  · refine .ite h ?_
    split
    · split
      · exact .ite h.complete h
      · exact h
    · extract_lets _ _ _ _ info
      clear_value info
      split
      · exact .ite h (Formed.complete (Formed.returnCredit (.ite h.bumpBy.bump (.ite h.bumpBy.bump h.bumpBy))))
      · exact h

theorem Formed.resetDrill (h : Formed t) {f e} : Formed (t.resetDrill f e) :=
  h.foldl fun _ _ h' => h'.setRing

theorem Formed.dropRings (h : Formed t) : Formed t.dropRings := h.same (by simp [State.lengths, State.dropRings])

end Sys2Proof.Machine
end

section
/-!
The shape in Coulter, the sample pipeline and the live streams (O7).

A sample names a core only once SAMPLE_START has chosen one of the sixteen.
-/
namespace Sys2Proof.Machine

set_option Elab.async false

variable {s t u : State}

/-! ### Coulter -/

/-- A sample names a core that there is. -/
def SampOk (x : Samp) : Prop := ∀ c ∈ x.core, c < 16

theorem SampOk.keep {x y : Samp} (h : SampOk x) (hc : y.core = x.core := by rfl) : SampOk y := fun c hy => h c (hc ▸ hy)

theorem sampOk_idle {x : Samp} (hc : x.core = none := by rfl) : SampOk x := fun c hx => by simp [hc] at hx

/-- An update of the samples, and of other parts. -/
theorem Formed.withSamples (h : Formed t) (hs : ∀ x ∈ u.coulter.samples, SampOk x) (hl : u.lengths = t.lengths := by rfl)
    (ha : u.winnow.areas = t.winnow.areas := by rfl) (hf : u.flights = t.flights := by rfl) (hg : u.furlong = t.furlong := by rfl)
    (hw : u.tithe.snapWords ++ u.tithe.recWords = t.tithe.snapWords ++ t.tithe.recWords := by rfl) : Formed u :=
  ⟨hl.trans h.lengths, ha ▸ h.areas, hf ▸ h.flights, hg ▸ h.furlong, hs, hw ▸ h.words⟩

theorem Formed.sample (h : Formed t) {p : Samp → Bool} {x : Samp} (hx : t.coulter.samples.find? p = some x) : SampOk x :=
  h.samples x (List.mem_of_find?_eq_some hx)

theorem Formed.setSamp (h : Formed t) {x} (hx : SampOk x) : Formed (t.setSamp x) :=
  h.withSamples fun z hz => by
    obtain ⟨y, hy, rfl⟩ := List.mem_map.1 hz
    split
    · exact hx
    · exact h.samples y hy

theorem Formed.filterSamples (h : Formed t) {p : Samp → Bool} : ∀ x ∈ t.coulter.samples.filter p, SampOk x :=
  fun x hx => h.samples x (List.mem_of_mem_filter hx)

theorem Formed.dropSamp (h : Formed t) {id} : Formed (t.dropSamp id) := h.withSamples h.filterSamples

theorem Formed.addSamp (h : Formed t) {owner area work d} : Formed (t.addSamp owner area work d) :=
  h.withSamples fun x hx => by
    rcases List.mem_append.1 hx with hx | hx
    · exact h.samples x hx
    · obtain rfl := List.mem_singleton.1 hx
      exact sampOk_idle

theorem Formed.countOutcome (h : Formed t) {x outcome} : Formed (t.countOutcome x outcome) := by
  unfold State.countOutcome
  extract_lets s1 s2 s3 s4 s5
  have hs1 : Formed s1 := .ite h.bump h
  have hs2 : Formed s2 := .ite hs1.bump hs1
  have hs3 : Formed s3 := .ite hs2.bump hs2
  have hs4 : Formed s4 := .ite hs3.bump hs3
  have hs5 : Formed s5 := .ite hs4.bump hs4
  exact .ite hs5.bump hs5

theorem Formed.endSamp (h : Formed t) {x outcome} : Formed (t.endSamp x outcome) := by
  unfold State.endSamp
  extract_lets _ _ s1 s2
  have hs1 : Formed s1 := (h.setSamp sampOk_idle).countOutcome
  have hs2 : Formed s2 := by
    unfold s2
    split
    · exact hs1.bump
    · exact hs1
  exact .ite hs2 hs2.raise

theorem Formed.storeOut (h : Formed t) {x off bs} : Formed (t.storeOut x off bs) :=
  .ite h.bumpBy.storeAs (h.bumpBy.foldl fun _ _ h' => h'.storeAs)

theorem Formed.zeroOut (h : Formed t) {x} : Formed (t.zeroOut x) :=
  .ite (h.foldl fun _ _ h' => .ite h'.storeOut h') (.ite h.storeOut h)

theorem Formed.charge (h : Formed t) {x n} : Formed (t.charge x n) := by
  unfold State.charge
  extract_lets
  split
  · exact h.bumpBy.bumpBy
  · exact h.bumpBy

theorem coresOf_lt {k c : Nat} (h : c ∈ coresOf k) : c < 16 := by
  unfold coresOf at h
  split at h
  · have := List.mem_range.1 h
    omega
  · split at h <;> simp only [List.mem_cons, List.not_mem_nil, or_false] at h <;> omega

theorem Formed.sampleStart (h : Formed t) {id hdr} : Formed (t.sampleStart id hdr) := by
  unfold State.sampleStart
  split
  · exact h
  · extract_lets
    split
    · exact h
    next hcore =>
      refine .ite h ?_
      extract_lets host z s0 y _ _ s1
      have hhost {u} (hu : Formed u) : Formed (host u) := .ite hu.bump.raise hu
      have hz : SampOk z := fun c hc => by
        cases hc
        exact coresOf_lt (List.mem_of_find?_eq_some hcore)
      have hs0 : Formed s0 := Formed.charge h.same
      have hs1 : Formed s1 := hhost <| Formed.same (hs0.setSamp (x := y) hz)
      exact .ite (hhost (hs0.setSamp hz)) (.ite hs1 hs1.endSamp)

theorem Formed.arenaAllocate (h : Formed t) {id gs} : Formed (t.arenaAllocate id gs) := by
  unfold State.arenaAllocate
  split
  · exact h
  next hx => exact .ite (h.setSamp (h.sample hx).keep) h

theorem Formed.endTruncated (h : Formed t) {x} : Formed (t.endTruncated x) :=
  .ite h.endSamp h.zeroOut.endSamp

theorem Formed.storeAudio (h : Formed t) {x b chs} : Formed (t.storeAudio x b chs) := by
  refine h.foldl fun _ _ h' => ?_
  dsimp only
  split
  · exact h'
  · exact h'.storeOut

theorem Formed.unitOutput (h : Formed t) {x u} : Formed (t.unitOutput x u).1 := by
  refine .iteFst (.iteFst h h.storeAudio) <| .iteFst (.iteFst h h.storeOut) ?_
  exact List.foldlRecOn (motive := fun a : State × Samp × Option Nat => Formed a.1) _ _ h fun _ ha _ _ =>
    .iteFst ha <| .iteFst ha <| .iteFst ha ha.storeOut

/-- The output of a unit leaves the sample on its core. -/
theorem State.unitOutput_core {x : Samp} {w : SynUnit} : (t.unitOutput x w).2.1.core = x.core := by
  unfold State.unitOutput
  extract_lets h k n out s1 bs pb total grain step r charge
  split
  · split <;> rfl
  · split
    · split <;> rfl
    · exact List.foldlRecOn (motive := fun a : State × Samp × Option Nat => a.2.1.core = x.core) _ _ rfl fun a ha p _ => by
        unfold step
        split
        · exact ha
        · dsimp only
          split
          · exact ha
          · split <;> exact ha

theorem Formed.finishSamp (h : Formed t) {x} : Formed (t.finishSamp x) :=
  .ite h.endTruncated (.ite h.endTruncated h.endSamp)

theorem Formed.syntaxUnit (h : Formed t) {id u0} : Formed (t.syntaxUnit id u0) := by
  unfold State.syntaxUnit
  split
  · exact h
  next hx =>
    have hx' := h.sample hx
    split
    · exact h
    · refine .ite h <| .ite h.endSamp <| .ite ?_ ?_
      · split
        next hf => exact h.dropSamp.setFlight (h.flight hf).keep
        next => exact h.dropSamp
      · extract_lets _ _ y s2 r s3 _ _ z s4
        have hs2 : Formed s2 := h.charge
        refine .ite (hs2.setSamp hx'.keep).endSamp <| .ite hs2.endSamp <| .ite hs2.endSamp <| .ite hs2.endTruncated ?_
        have hr : Formed r.1 := .iteFst hs2.storeOut hs2.unitOutput
        have hz : SampOk r.2.1 := hx'.keep (by
          unfold r
          split
          · rfl
          · exact State.unitOutput_core)
        have hs4 : Formed s4 := hr.charge.setSamp hz.keep
        clear_value r
        split
        · exact hs4.endSamp
        · exact .ite hs4.endSamp <| .ite hs4.finishSamp hs4

/-- A core set to a state. -/
theorem Formed.setCore (h : Formed t) {c k} : Formed { t with coulter := { t.coulter with cores := t.coulter.cores.set c k } } :=
  h.same (by simp [State.lengths])

theorem Formed.failCore (h : Formed t) {c code check} : Formed (t.failCore c code check) := by
  unfold State.failCore
  refine .ite h ?_
  extract_lets x _ s1 s2 s3
  have hs1 : Formed s1 := h.setCore
  have hs2 : Formed s2 := by
    clear_value x
    cases x with
    | none => exact hs1
    | some y => exact hs1.setSamp sampOk_idle
  exact .ite hs2.raiseErr.raiseErr hs2.raiseErr

theorem Formed.coreHung (h : Formed t) {c} : Formed (t.coreHung c) := by
  unfold State.coreHung
  split
  · exact .ite h.failCore h
  · exact h

/-! ### Sample -/

theorem Formed.setSlot (h : Formed t) {k v} : Formed (t.setSlot k v) := h.same

theorem Formed.emptyWindrow (h : Formed t) : Formed t.emptyWindrow := h.same

theorem Formed.dropSamples (h : Formed t) {owner} : Formed (t.dropSamples owner) := h.withSamples h.filterSamples

theorem Formed.abortBatch (h : Formed t) {f code} : Formed (t.abortBatch f code) := by
  unfold State.abortBatch
  extract_lets _ s2
  have hs2 : Formed s2 := by
    unfold s2
    split
    · exact h.dropSamples.setSlot
    · exact h.dropSamples
  exact hs2.complete

theorem Formed.runDecode (h : Formed t) {id} : Formed (t.runDecode id) := by
  unfold State.runDecode
  split
  · exact h
  next hf =>
    have hf' := h.flightOf hf
    split
    · exact h.dropSamples.complete
    · refine .ite (.ite (h.addSamp.setFlight hf'.withProg) h) ?_
      split
      · exact h
      · split
        · exact h
        · exact h.storeAs.dropSamples.complete

theorem Formed.cancelCoulter (h : Formed t) {id} : Formed (t.cancelCoulter id) := by
  unfold State.cancelCoulter
  split
  · exact h
  · refine .ite h <| .ite h.bump.abortBatch ?_
    split
    · exact h.bump.complete
    next hx => exact .ite (h.setSamp ((h.sample hx).keep)).bump (.ite h.dropSamples.bump.complete (h.setSamp (h.sample hx).keep))

theorem Formed.runCoulterCancel (h : Formed t) {id} : Formed (t.runCoulterCancel id) := by
  unfold State.runCoulterCancel
  split
  · exact h
  · split
    · exact .ite h.complete h
    · refine .ite h ?_
      extract_lets _ s1
      have hs1 : Formed s1 := h.foldl fun _ _ h' => h'.cancelCoulter
      split
      next hg => exact hs1.setFlight (hs1.flight hg).withProg
      next => exact hs1

theorem Formed.putArea (h : Formed t) {f p j bytes rec} : Formed (t.putArea f p j bytes rec) :=
  h.storeAs.storeAs

theorem Formed.zeroArea (h : Formed t) {f p j outcome tried live} (hf : FlightOk f) :
    Formed (t.zeroArea f p j outcome tried live) :=
  .raiseErr <| .bump <| h.putArea.setFlight hf.withProg

theorem Formed.fillArea (h : Formed t) {f p j i m live crib what} (hf : FlightOk f) :
    Formed (t.fillArea f p j i m live crib what) := by
  unfold State.fillArea
  extract_lets _ _ _ _ s1 _ p1 s2
  have hs2 : Formed s2 := h.putArea.report.setFlight hf.withProg
  exact .ite hs2.bump hs2

theorem Formed.emptyCrib (h : Formed t) : Formed t.emptyCrib := h.same

theorem Formed.cribInsert (h : Formed t) {key x outcome gs} : ∀ u ∈ t.cribInsert key x outcome gs, Formed u := by
  unfold State.cribInsert
  split
  · exact ofSome h
  · extract_lets
    split
    · exact ofSome h.bump
    · split
      · simp
      · exact ofSome (h.foldl fun _ _ h' => h'.storeAs).same

theorem Formed.areaFail (h : Formed t) {f p j outcome} (hf : FlightOk f) : Formed (t.areaFail f p j outcome) :=
  .ite (.ite h.abortBatch (h.setFlight hf.withProg)) (h.zeroArea hf)

theorem Formed.areaLookup (h : Formed t) {f p j a} (hf : FlightOk f) : Formed (t.areaLookup f p j a) := by
  unfold State.areaLookup
  extract_lets _ _ _ decode
  have hdecode {u} (hu : Formed u) : Formed (decode u) := hu.addSamp.setFlight hf.withProg
  refine .ite (h.areaFail hf) <| .ite h.abortBatch <| .ite h.abortBatch <| .ite (h.areaFail hf) <| .ite (hdecode h) ?_
  split
  · exact hdecode h.bump
  · refine .ite (hdecode <| .bump <| .bump <| h.same) ?_
    split
    · exact h.bump.areaFail hf
    · exact h.bump.fillArea hf

theorem Formed.areaDecoded (h : Formed t) {f p j a gs} (hf : FlightOk f) : Formed (t.areaDecoded f p j a gs) := by
  unfold State.areaDecoded
  extract_lets
  split
  · exact h
  · split
    · exact h
    · split
      · exact h
      · next s1 hs1 =>
        have hs1 : Formed s1 := by
          split at hs1
          · exact h.cribInsert _ hs1
          · exact ofSome h _ hs1
        exact .ite (hs1.fillArea hf).dropSamp (hs1.areaFail hf).dropSamp

theorem Formed.runBatch (h : Formed t) {id j gs} : Formed (t.runBatch id j gs) := by
  unfold State.runBatch
  split
  · exact h
  next hf =>
    have hf' := h.flightOf hf
    split
    · exact h.abortBatch
    · refine .ite (.ite h.complete h) ?_
      split
      · exact h
      · extract_lets
        split
        · exact h
        · exact .ite h (.ite (h.areaLookup hf') (.ite (h.areaDecoded hf') h))

theorem Formed.sealBatch (h : Formed t) {id} : Formed (t.sealBatch id) := by
  unfold State.sealBatch
  split
  · exact h
  · split
    · exact h
    · refine .ite h ?_
      extract_lets s1 s2
      have hs1 : Formed s1 := h.setSlot.bump
      exact Formed.complete (.ite hs1.same hs1)

theorem Formed.releaseWindrow (h : Formed t) {id} : Formed (t.releaseWindrow id) := by
  unfold State.releaseWindrow
  split
  · exact h
  · refine .ite h ?_
    extract_lets _ _ s1
    have hs1 : Formed s1 := h.foldl fun _ _ h' => h'.setSlot
    exact Formed.complete (.ite hs1.same.bump.raiseErr hs1)

/-! ### Live -/

theorem Formed.setLive (h : Formed t) {i x} : Formed (t.setLive i x) := h.same (by simp [State.lengths, State.setLive])

theorem Formed.liveWrite (h : Formed t) {i v} : ∀ u ∈ t.liveWrite i v, Formed u := by
  unfold State.liveWrite
  extract_lets
  split
  · simp
  · split
    · split
      · simp
      · exact ofSome h.setReg.setLive
    · split
      · exact ofSome h.setReg.setLive
      · exact ofSome h.setReg

theorem Formed.frameDone (h : Formed t) {i} : Formed (t.frameDone i) :=
  (Formed.bump (.ite h.storeAs.bump h.storeAs)).setLive

theorem Formed.frameBegin (h : Formed t) {i stamp} : Formed (t.frameBegin i stamp) :=
  .ite h.setLive.raiseErr h.setLive

theorem Formed.audioTake (h : Formed t) {i stamp n chs} : Formed (t.audioTake i stamp n chs) := by
  induction n generalizing t chs with
  | zero => exact h
  | succ n ih =>
    unfold State.audioTake
    refine .ite h ?_
    extract_lets s1 c x new s2 s3
    have hs2 : Formed s2 := Formed.setLive (.ite h h.frameBegin)
    exact ih (.ite hs2.frameDone hs2)

theorem Formed.livePacket (h : Formed t) {p} : Formed (t.livePacket p) := by
  unfold State.livePacket
  extract_lets _ _ _ _ _ _ s2 _ _ _ _ old _ s3
  have hs2 : Formed s2 := h.bump.setLive.setLive
  have hold : Formed old := .ite hs2.bump hs2
  have hs3 : Formed s3 := .ite hold.frameBegin hold
  refine .ite h <| .ite h.bump.setLive <| .ite h.bump.setLive ?_
  refine .ite ((Formed.setLive (.ite hs2.bump.setLive hs2)).audioTake) <| .ite (.ite hs2.setLive hs2) ?_
  exact .ite hs3.setLive (.ite hs3.setLive.bump.setLive hs3.setLive.frameDone)

theorem Formed.liveLost (h : Formed t) {i} : Formed (t.liveLost i) := .ite h.setLive.raiseErr h

theorem Formed.takeFrames (h : Formed t) {id n} : Formed (t.takeFrames id n) := by
  induction n generalizing t with
  | zero => exact h
  | succ n ih =>
    unfold State.takeFrames
    split
    · exact h
    next hf =>
      split
      · exact h
      · extract_lets
        split
        · exact .ite (ih h.setLive.bump) <| .ite h.setLive.abortBatch (ih (h.setLive.fillArea (h.flightOf hf)))
        · exact h

theorem Formed.liveTake (h : Formed t) {id} : Formed (t.liveTake id) := by
  unfold State.liveTake
  split
  · exact h
  · exact .ite h.takeFrames h

theorem Formed.zeroRest (h : Formed t) {id n} : Formed (t.zeroRest id n) := by
  induction n generalizing t with
  | zero => exact h
  | succ n ih =>
    unfold State.zeroRest
    split
    · exact h
    next hf =>
      split
      · exact h
      · split
        · exact ih (h.zeroArea (h.flightOf hf))
        · exact h

theorem Formed.liveExpire (h : Formed t) {id} : Formed (t.liveExpire id) := by
  unfold State.liveExpire
  split
  · exact h
  · split
    · exact h
    · exact .ite h.zeroRest h

theorem Formed.batchStart (h : Formed t) {id} : Formed (t.batchStart id) := by
  unfold State.batchStart
  split
  · exact h
  next hf =>
    refine .ite h ?_
    extract_lets _ s1 _ s2
    have hs1 : Formed s1 := h.setSlot.setFlight (h.flightOf hf).withProg
    have hs2 : Formed s2 := hs1.same
    exact .ite hs2.liveTake hs2

theorem Formed.resetStreams (h : Formed t) : Formed t.resetStreams := h.same (by simp [State.lengths, State.resetStreams])

theorem Formed.resetSample (h : Formed t) : Formed t.resetSample :=
  h.resetStreams.withSamples fun x hx => absurd hx List.not_mem_nil

theorem Formed.resetSamplePage (h : Formed t) : Formed t.resetSamplePage := by
  unfold State.resetSamplePage
  extract_lets ids s1
  have hs1 : Formed s1 := h.foldl fun _ _ h' => h'.dropSamples
  exact hs1.withFlights (FlightsOk.filter hs1.flights)

end Sys2Proof.Machine
end

section
/-!
The shape in Thresher (O7).

A collective keeps from issue to completion the channel of its progress, so each progress stored needs only the channel of the one
before.
-/
namespace Sys2Proof.Machine

set_option Elab.async false

variable {s t u : State}

/-! ### Thresher -/

theorem Formed.setChan (h : Formed t) {c x} : Formed (t.setChan c x) := h.same (by simp [State.lengths, State.setChan])

theorem Formed.enableChannel (h : Formed t) {c} : ∀ u ∈ t.enableChannel c, Formed u := by
  unfold State.enableChannel
  extract_lets
  split
  · simp
  · exact ofSome h.same.setChan

/-! ### Collective -/

theorem FlightOk.coll {f : Flight} {p : CollProg} (h : FlightOk f) (hp : f.coll? = some p) : p.ch < 32 :=
  of_decide_eq_true ((Option.all_eq_true _ _).1 (flightOk_iff.1 h).2 p hp)

theorem Formed.collFlight (h : Formed t) {c number} {f : Flight} (hf : t.collFlight c number = some f) : FlightOk f :=
  h.flights f (List.mem_of_mem_filter (List.mem_of_find?_eq_some hf))

/-- A collective in flight, found and read, names a channel that there is. -/
theorem Formed.collOf (h : Formed t) {id} {p : CollProg} (hp : (t.flight id).bind Flight.coll? = some p) : p.ch < 32 := by
  obtain ⟨f, hf, hp⟩ := Option.bind_eq_some_iff.1 hp
  exact (h.flight hf).coll hp

theorem Formed.noteColl (h : Formed t) {d step} : Formed (t.noteColl d step) := by
  unfold State.noteColl
  extract_lets c x s1
  have hs1 : Formed s1 := h.setChan
  exact .ite h (.ite hs1.same hs1)

/-- A collective's progress stored, of the channel of another one that is good. -/
theorem Formed.setColl (h : Formed t) {id} {p q : CollProg} (hp : q.ch < 32) (hq : p.ch = q.ch := by rfl) : Formed (t.setColl id p) := by
  unfold State.setColl
  split
  next hf => exact h.setFlight ((h.flight hf).withProg rfl (hq ▸ hp : p.ch < 32))
  next => exact h

theorem Formed.thrSend (h : Formed t) {m} : Formed (t.thrSend m) := h.same

/-- A module detached in trees keeps its channel. -/
theorem CollProg.detach_ch {c trees} (p : CollProg) : (p.detach c trees).ch = p.ch := by
  unfold CollProg.detach
  split <;> rfl

theorem Formed.failColl (h : Formed t) {f} {p : CollProg} {outcome} {q : CollProg} (hp : q.ch < 32) (hq : p.ch = q.ch := by rfl) :
    Formed (t.failColl f p outcome) :=
  h.setColl hp hq

theorem Formed.setArb (h : Formed t) {a} : Formed (t.setArb a) := h.same

theorem Formed.arbToken (h : Formed t) {c number t'} : Formed (t.arbToken c number t') :=
  .ite (.ite (by split <;> exact h.setArb) h.setArb) (.ite h (.ite h.bump.raise (.ite h (.ite h.setArb h.setArb))))

theorem Formed.arbStart (h : Formed t) {c number deadline root t'} :
    Formed (t.arbStart c number deadline root t') :=
  .ite ((h.foldl fun _ _ h' => h'.bump.raise).setArb) ((h.foldl fun _ _ h' => h'.bump.raise).setArb)

theorem Formed.readyToken (h : Formed t) {c number t'} : Formed (t.readyToken c number t') :=
  .ite h.arbToken h

theorem Formed.deadlineExpiry (h : Formed t) {c number} : Formed (t.deadlineExpiry c number) := by
  unfold State.deadlineExpiry
  split
  · exact .ite h.setArb h
  · exact h

theorem Formed.sealReceived (h : Formed t) {c number x} : Formed (t.sealReceived c number x) := by
  unfold State.sealReceived
  split
  · exact h
  next hf =>
    split
    · exact h
    next hp =>
      have hp := (h.collFlight hf).coll hp
      exact .ite h (.ite (Formed.failColl (.ite h.bump.raise h) hp) (Formed.setColl (.ite h.bump.raise h) hp))

theorem Formed.sealColl (h : Formed t) {c number} : Formed (t.sealColl c number) := by
  unfold State.sealColl
  split
  · exact h
  · exact .ite h ((h.setArb.foldl fun _ _ h' => h'.thrSend).sealReceived)

theorem Formed.sealResend (h : Formed t) {c number pos} : Formed (t.sealResend c number pos) := by
  unfold State.sealResend
  split
  · split
    · exact h.thrSend
    · exact h
  · exact h

theorem Formed.dataLimitExpiry (h : Formed t) {c number undelivered} :
    Formed (t.dataLimitExpiry c number undelivered) := by
  unfold State.dataLimitExpiry
  split
  · exact h
  · split
    · exact h
    · exact .ite h.setArb h

theorem Formed.arbReport (h : Formed t) {c number reporter peer} :
    Formed (t.arbReport c number reporter peer) := by
  unfold State.arbReport
  split
  · exact h
  · exact .ite h.setArb h

theorem Formed.peerReport (h : Formed t) {c number reporter peer} :
    Formed (t.peerReport c number reporter peer) :=
  .ite h (.ite h.arbReport (.ite h.thrSend h))

theorem Formed.reportDecision (h : Formed t) {c number} : Formed (t.reportDecision c number) := by
  unfold State.reportDecision
  split
  · exact h
  · split
    · exact h
    · exact .ite h.setArb h

theorem Formed.collStart (h : Formed t) {id} : Formed (t.collStart id) := by
  unfold State.collStart
  split
  · exact h
  next hf =>
    split
    · exact h
    next hp =>
      have hp := (h.flight hf).coll hp
      have hs1 := h.setFlight ((h.flight hf).keep (g := { (_ : Flight) with started := true }))
      exact .ite h (.ite (hs1.setColl hp) (.ite (hs1.setColl hp).arbStart (hs1.setColl hp).thrSend))

theorem Formed.noSeal (h : Formed t) {id} : Formed (t.noSeal id) := by
  unfold State.noSeal
  split
  · exact h
  next hf =>
    split
    · exact h
    next hp =>
      have hp := (h.flight hf).coll hp
      exact .ite (h.failColl hp) h

theorem Formed.withdraw (h : Formed t) {f} {p : CollProg} {q : CollProg} (hp : q.ch < 32) (hq : p.ch = q.ch := by rfl) : Formed (t.withdraw f p) := by
  unfold State.withdraw
  extract_lets _ _ s1
  have hs1 : Formed s1 := h.setColl hp hq
  exact .ite hs1.arbToken hs1.thrSend

theorem Formed.sendBlock (h : Formed t) {c number dest b} : Formed (t.sendBlock c number dest b) :=
  h.bumpBy.thrSend

theorem Formed.sendKept (h : Formed t) {id c number dest b} : Formed (t.sendKept id c number dest b) := by
  unfold State.sendKept
  refine Formed.sendBlock ?_
  split
  next hp => exact h.setColl (h.collOf hp)
  next => exact h

theorem Formed.haveResult (h : Formed t) {id key codes} : Formed (t.haveResult id key codes) := by
  unfold State.haveResult
  split
  · exact h
  next hf =>
    split
    · exact h
    next hp =>
      have hp := (h.flight hf).coll hp
      split
      · exact h
      · refine .ite h ?_
        exact ((Formed.setColl (.ite h.storeAs h) hp).foldl fun _ _ h' => h'.sendBlock).foldl fun _ _ h' => h'.sendBlock

theorem Formed.passBlock (h : Formed t) {id b} : Formed (t.passBlock id b) := by
  unfold State.passBlock
  split
  · exact h
  next hf =>
    split
    · exact h
    next hp =>
      have hp := (h.flight hf).coll hp
      split
      · exact h
      · extract_lets
        split
        · exact h
        · refine .ite h <| .ite (h.withdraw hp) ?_
          extract_lets
          split
          · exact (h.setColl hp).sendKept
          · exact (h.setColl hp).haveResult

theorem Formed.runReduction (h : Formed t) {id op} : Formed (t.runReduction id op) := by
  unfold State.runReduction
  split
  · exact h
  next hf =>
    split
    · exact h
    next hp =>
      have hp := (h.flightOf hf).coll hp
      split
      · exact h
      · refine .ite h <| .ite (h.setColl hp) <| .ite (h.withdraw hp) ?_
        exact (Formed.setColl (.ite h h.report.bumpBy) hp).foldl fun _ _ h' => h'.passBlock

theorem Formed.sendHeld (h : Formed t) {c number dest num kind results inc keys} :
    Formed (t.sendHeld c number dest num kind results inc keys) := by
  unfold State.sendHeld
  refine Formed.foldl h fun _ _ h' => ?_
  split
  · exact h'
  · exact h'.sendBlock

theorem Formed.forwardHeld (h : Formed t) {c inc num number kids results} :
    Formed (t.forwardHeld c inc num number kids results) :=
  h.foldl fun _ _ h' => h'.sendHeld

theorem Formed.runDelivery (h : Formed t) {id op} : Formed (t.runDelivery id op) := by
  unfold State.runDelivery
  split
  · exact h
  next hf =>
    split
    · exact h
    next hp =>
      have hp := (h.flightOf hf).coll hp
      split
      · exact h
      · extract_lets _ _ _ _ _ _ _ s1' s2 _ _ s3
        have hs1' : Formed s1' := .ite (h.setColl hp).forwardHeld (h.setColl hp)
        have hs2 : Formed s2 := hs1'.foldl fun _ _ h' => h'.storeAs
        have hs3 : Formed s3 := hs2.foldl fun _ _ h' => h'.haveResult
        exact .ite h (.ite (h.withdraw hp) (.ite hs2 (.ite (hs3.foldl fun _ _ h' => h'.foldl fun _ _ h2 => h2.sendKept) hs3)))

theorem Formed.runVerdict (h : Formed t) {id others} : Formed (t.runVerdict id others) := by
  unfold State.runVerdict
  split
  · exact h
  next hf =>
    split
    · exact h
    next hp =>
      have hp := (h.flight hf).coll hp
      split
      · exact h
      · refine .ite h (h.setColl ?_)
        split <;> exact hp

theorem Formed.failLanes (h : Formed t) {f ch block ls} : Formed (t.failLanes f ch block ls).1 := by
  induction ls generalizing t with
  | nil => exact h
  | cons l ls ih =>
    unfold State.failLanes
    refine .iteFst h <| .iteFst (ih h) ?_
    extract_lets _ s1 s2 s3
    have hs1 : Formed s1 := h.same
    have hs2 : Formed s2 := hs1.bump.raiseErr
    exact ih (.ite hs2.raiseErr hs2)

theorem Formed.badBlock (h : Formed t) {f} {p : CollProg} {b} {q : CollProg} (hp : q.ch < 32) (hq : p.ch = q.ch := by rfl) :
    Formed (t.badBlock f p b) := by
  unfold State.badBlock
  extract_lets _ _ p1 s1
  have hs1 : Formed s1 := h.setColl hp hq
  exact .ite hs1.bump.thrSend (.ite hs1.peerReport (h.setColl hp ((CollProg.detach_ch _).trans hq)))

theorem Formed.blockReceived (h : Formed t) {c number b} : Formed (t.blockReceived c number b) := by
  unfold State.blockReceived
  split
  · exact h
  next hf =>
    split
    · exact h
    next hp =>
      have hp := (h.collFlight hf).coll hp
      split
      · exact h
      · refine .ite h <| .ite (h.bumpBy.badBlock hp) <| .ite ?_ ?_
        · exact .ite h.bumpBy.failLanes (h.bumpBy.failLanes.setColl hp).passBlock
        · extract_lets s1
          have hs1 : Formed s1 := (h.bumpBy.setColl hp).haveResult
          split
          · exact hs1
          · exact hs1.thrSend

theorem Formed.segmentAck (h : Formed t) {c number tree child bytes} :
    Formed (t.segmentAck c number tree child bytes) := by
  unfold State.segmentAck
  split
  · exact h
  next hf =>
    split
    · exact h
    next hp =>
      have hp := (h.collFlight hf).coll hp
      exact h.setColl hp

theorem Formed.childDetach (h : Formed t) {c number tree child offsets} :
    Formed (t.childDetach c number tree child offsets) := by
  unfold State.childDetach
  split
  · exact h
  next hf =>
    split
    next hp _ =>
      have hp := (h.collFlight hf).coll hp
      extract_lets
      split
      next => exact h
      · exact .ite h ((h.setColl hp).foldl fun _ _ h' => h'.sendHeld)
    next => exact h

theorem Formed.repairFetch (h : Formed t) {c number tree other} : Formed (t.repairFetch c number tree other) := by
  unfold State.repairFetch
  split
  · exact h
  next hf =>
    split
    next hp _ => exact .ite h (h.setColl ((h.collFlight hf).coll hp) (CollProg.detach_ch _)).thrSend
    next => exact h

theorem Formed.repairServe (h : Formed t) {c number tree other off n} :
    Formed (t.repairServe c number tree other off n) := by
  unfold State.repairServe
  split
  · exact h
  · extract_lets _ _ _ _ _ s1
    have hs1 : Formed s1 := by
      unfold s1
      split
      next hf =>
        split
        next hp => exact h.setColl ((h.collFlight hf).coll hp)
        next => exact h
      next => exact h
    exact hs1.sendHeld

theorem Formed.blockAgain (h : Formed t) {c number tree other block kind} :
    Formed (t.blockAgain c number tree other block kind) := by
  unfold State.blockAgain
  split
  · exact h
  · extract_lets
    split
    · exact h.sendBlock
    · exact .ite h h.sendHeld

theorem Formed.repairRequest (h : Formed t) {c number tree other ask} :
    Formed (t.repairRequest c number tree other ask) := by
  unfold State.repairRequest
  split
  · exact h.repairFetch
  · exact h.repairServe
  · exact h.blockAgain

theorem Formed.endColl (h : Formed t) {f p} : Formed (t.endColl f p) := by
  unfold State.endColl
  extract_lets _ _ _ _ s1 _ _ s2 s2' s3 s4 s5 s6
  have hs1 : Formed s1 := h.storeAs
  have hs2 : Formed s2 := .ite (.ite (Formed.putProbeMaxima hs1.same) hs1.same) hs1
  have hs2' : Formed s2' := .ite hs2 hs2.bump
  have hs3 : Formed s3 := .ite hs2'.raiseErr hs2'
  have hs4 : Formed s4 := .ite hs3.bump.raise hs3
  have hs5 : Formed s5 := .ite hs4.bump hs4
  have hs6 : Formed s6 := hs5.bump.bump
  clear_value s6
  exact Formed.complete (hs6.same)

theorem Formed.collComplete (h : Formed t) {id} : Formed (t.collComplete id) := by
  unfold State.collComplete
  split
  · exact h
  next hf =>
    split
    · exact h
    next hp =>
      have hp := (h.flight hf).coll hp
      exact .ite h (.ite h.endColl (.ite h.endColl h))

theorem Formed.repairExpiry (h : Formed t) {id} : Formed (t.repairExpiry id) := by
  unfold State.repairExpiry
  split
  · exact h
  next hf =>
    split
    · exact h
    next hp =>
      have hp := (h.flight hf).coll hp
      split
      · exact h
      · exact .ite (.ite h.endColl (h.failColl hp)) h

theorem Formed.cancelColl (h : Formed t) {id} : Formed (t.cancelColl id) := by
  unfold State.cancelColl
  split
  · exact h
  next hf =>
    split
    · exact h
    next hp =>
      have hp := (h.flight hf).coll hp
      exact .ite h.bump.bump.bump.complete (.ite (h.withdraw hp) h)

theorem Formed.runThrCancel (h : Formed t) {id} : Formed (t.runThrCancel id) := by
  unfold State.runThrCancel
  split
  · exact h
  · split
    · exact .ite h.complete h
    · refine .ite h ?_
      extract_lets _ s1
      have hs1 : Formed s1 := h.foldl fun _ _ h' => h'.cancelColl
      split
      next hg => exact hs1.setFlight ((hs1.flight hg).withProg)
      next => exact hs1

theorem Formed.resetThresher (h : Formed t) : Formed t.resetThresher := h.same (by simp [State.lengths, State.resetThresher])

end Sys2Proof.Machine
end

section
/-!
The shape in Swath (O7).
-/
namespace Sys2Proof.Machine

set_option Elab.async false

variable {s t u : State}

/-! ### Swath -/

theorem Formed.setLink (h : Formed t) {l x} : Formed (t.setLink l x) := h.same (by simp [State.lengths, State.setLink])

theorem Formed.setPort (h : Formed t) {p x} : Formed (t.setPort p x) := h.same (by simp [State.lengths, State.setPort])

/-- The links changed in place, and other parts. -/
theorem Formed.withLinks (h : Formed t) (hl : u.swath.links.length = t.swath.links.length)
    (hu : { u with swath := { u.swath with links := t.swath.links } }.lengths = t.lengths := by rfl)
    (ha : u.winnow.areas = t.winnow.areas := by rfl) (hf : u.flights = t.flights := by rfl) (hg : u.furlong = t.furlong := by rfl)
    (hs : u.coulter.samples = t.coulter.samples := by rfl)
    (hw : u.tithe.snapWords ++ u.tithe.recWords = t.tithe.snapWords ++ t.tithe.recWords := by rfl) : Formed u :=
  h.same (by rw [← hu]; simp [State.lengths, hl]) ha hf hg hs hw

theorem Formed.links (h : Formed t) : t.swath.links.length = 64 := by
  have := h.lengths
  simp only [State.lengths, List.cons.injEq] at this
  exact this.2.2.2.2.2.2.2.2.1

theorem Formed.setConn (h : Formed t) {e c} : Formed (t.setConn e c) := h.same

theorem Formed.swSend (h : Formed t) {x} : Formed (t.swSend x) := h.same

theorem Formed.collPeerLost (h : Formed t) {modno id} : Formed (t.collPeerLost modno id) := by
  unfold State.collPeerLost
  split
  · exact h
  next hf =>
    split
    next hp _ =>
      have hp := (h.flight hf).coll hp
      extract_lets
      split
      · exact h
      · exact .ite h (.ite h.peerReport (h.setColl hp (CollProg.detach_ch _)))
    next => exact h

theorem iteFlight {c : Prop} {_ : Decidable c} {f g : Flight} (hf : FlightOk f) (hg : FlightOk g) : FlightOk (if c then f else g) := by
  split <;> assumption

theorem Formed.recoPeerLost (h : Formed t) {e} : Formed (t.recoPeerLost e) :=
  h.withFlights <| FlightsOk.map h.flights fun f hf => by
    split
    next => exact iteFlight hf.keep (iteFlight hf.keep hf)
    next => exact hf

theorem Formed.reportLost (h : Formed t) {e} : Formed (t.reportLost e) := by
  unfold State.reportLost
  extract_lets
  split
  · exact .ite h.recoPeerLost (h.recoPeerLost.foldl fun _ _ h' => h'.collPeerLost)
  · exact h.recoPeerLost

theorem Formed.isolate (h : Formed t) : Formed t.isolate :=
  h.same.raiseErr.foldl fun _ _ h' => h'.reportLost

theorem Formed.refreshService (h : Formed t) {before} : Formed (t.refreshService before) :=
  .ite (Formed.isolate (.ite h.raiseErr h)) (.ite (Formed.same (.ite h.raiseErr h)) (.ite h.raiseErr h))

theorem Formed.dropLink (h : Formed t) {l} : Formed (t.dropLink l) :=
  .ite h h.setLink.bump.raiseErr.refreshService

theorem Formed.laneFails (h : Formed t) {p lane} : Formed (t.laneFails p lane) := h.setPort.dropLink

theorem Formed.retrainLink (h : Formed t) {l ok} : Formed (t.retrainLink l ok) :=
  .ite h (.ite h.setPort.setLink h.setLink)

theorem Formed.laserLow (h : Formed t) {p} : Formed (t.laserLow p) :=
  .ite h ((h.setPort.foldl fun _ _ h' => h'.dropLink).raiseErr)

theorem Formed.laserRestored (h : Formed t) {p} : Formed (t.laserRestored p) := h.setPort

theorem Formed.enablePort (h : Formed t) {p on} : Formed (t.enablePort p on) :=
  (h.foldl fun _ _ h' => h'.setLink).setPort.refreshService

theorem Formed.pfcPause (h : Formed t) {p prios} : Formed (t.pfcPause p prios) := h.setPort.bump

theorem Formed.transmit (h : Formed t) {e d} : ∀ u ∈ t.transmit e d, Formed u := by
  unfold State.transmit
  extract_lets
  split
  · simp
  · split
    · simp
    · exact ofSome h.putBytes.setConn.swSend

theorem Formed.pumpConn (h : Formed t) {e n} : Formed (t.pumpConn e n) := by
  induction n generalizing t with
  | zero => exact h
  | succ n ih =>
    unfold State.pumpConn
    split
    · exact h
    · split
      · exact h
      · next u hu => exact ih (h.transmit u hu).setConn

theorem Formed.queueData (h : Formed t) {e d} : Formed (t.queueData e d) := h.setConn.pumpConn

theorem Formed.resendSlot (h : Formed t) {e x timer} : Formed (t.resendSlot e x timer) := by
  unfold State.resendSlot
  split
  · exact h
  · exact h.setConn.bump.swSend

theorem Formed.probeAll (h : Formed t) {e} : Formed (t.probeAll e) :=
  h.setConn.foldl fun _ _ h' => h'.swSend

theorem Formed.sendAck (h : Formed t) {e} : Formed (t.sendAck e) := h.setConn.swSend

theorem Formed.ackTimer (h : Formed t) {e} : Formed (t.ackTimer e) := .ite h.sendAck h

theorem Formed.endTransfer (h : Formed t) {f code} : Formed (t.endTransfer f code) :=
  Formed.complete (.ite h.setConn h)

theorem Formed.startTransfer (h : Formed t) {f} (hf : FlightOk f) : Formed (t.startTransfer f) :=
  Formed.setFlight h.setConn hf.withProg

theorem Formed.swathWrite (h : Formed t) {id} : Formed (t.swathWrite id) := by
  unfold State.swathWrite
  split
  · exact h
  next hf =>
    have hf := h.flightOf hf
    refine .ite h <| .ite h.complete <| .ite (h.startTransfer hf) <| .ite (.ite h.endTransfer ?_) (.ite h h.complete)
    split
    · exact h
    · next u hu => exact (h.readHint.transmit u hu).setFlight hf.withProg

theorem Formed.swathRead (h : Formed t) {id} : Formed (t.swathRead id) := by
  unfold State.swathRead
  split
  · exact h
  next hf =>
    have hf := h.flightOf hf
    refine .ite h <| .ite h.complete <| .ite (h.startTransfer hf) <| .ite ?_ (.ite h.complete h)
    split
    · exact h
    · next u hu => exact (h.transmit u hu).setFlight hf.withProg

theorem Formed.swathCancel (h : Formed t) {id} : Formed (t.swathCancel id) := by
  unfold State.swathCancel
  split
  · exact h
  · exact .ite h ((h.foldl fun _ _ h' => h'.endTransfer).complete)

theorem Formed.swAccept (h : Formed t) {rx type} : Formed (t.swAccept rx type).1 := by
  unfold State.swAccept
  extract_lets s1
  have hs1 : Formed s1 := .ite h.bump h
  refine .iteFst h <| .iteFst h.bump ?_
  split
  · exact hs1.bump
  · exact .iteFst hs1.bump <| .iteFst hs1.bump <| .iteFst h hs1

theorem Formed.resetConn (h : Formed t) {e inc} : Formed (t.resetConn e inc) :=
  h.reportLost.setConn.foldl fun _ _ h' => h'.complete

theorem Formed.noteInc (h : Formed t) {e inc} : Formed (t.noteInc e inc) :=
  .ite h (.ite h.setConn h.resetConn)

theorem Formed.sendNack (h : Formed t) {e user} : Formed (t.sendNack e user) := h.bump.swSend

theorem Formed.refillData (h : Formed t) {e msg off payload} : Formed (t.refillData e msg off payload) := by
  unfold State.refillData
  extract_lets
  split
  · exact h
  next hf =>
    have hf := h.flights _ (List.mem_of_find?_eq_some hf)
    split
    · exact .ite h (.ite (h.setFlight hf.withProg) (h.store.setFlight hf.withProg))
    · exact h

theorem Formed.refillDenied (h : Formed t) {e msg} : Formed (t.refillDenied e msg) :=
  h.withFlights <| FlightsOk.map h.flights fun f hf => by
    split
    next => exact iteFlight hf.keep (iteFlight hf.keep hf)
    next => exact hf

theorem Formed.answerRead (h : Formed t) {e user msg a n} : Formed (t.answerRead e user msg a n) :=
  h.setConn.foldl fun _ _ h' => h'.queueData

theorem Formed.showHosted (h : Formed t) : Formed t.showHosted := h.setReg

theorem Formed.buddyUser (h : Formed t) {e h' payload b} : Formed (t.buddyUser e h' payload b) := by
  unfold State.buddyUser
  extract_lets
  split
  · exact .ite h.sendNack (Formed.same h.store (by simp [State.lengths])).showHosted
  · exact .ite h.sendNack (Formed.same h.store (by simp [State.lengths])).showHosted
  · exact .ite h.sendNack h.answerRead
  · exact h.refillData
  · exact h

theorem Formed.swathUser (h : Formed t) {e h' payload b} : Formed (t.swathUser e h' payload b) := by
  unfold State.swathUser
  split
  · exact h
  · exact .ite h.store h.sendNack
  · exact .ite h.sendNack h.answerRead
  · split
    · exact h.refillData
    next hf => exact .ite h (h.store.writeHint.setFlight (h.flights _ (List.mem_of_find?_eq_some hf)).withProg)
  · exact h

theorem Formed.dataReceived (h : Formed t) {rx} : Formed (t.dataReceived rx) := by
  have hs1 : Formed (t.swAccept rx 0).1 := h.swAccept
  unfold State.dataReceived
  generalize t.swAccept rx 0 = r at hs1 ⊢
  obtain ⟨s1, _ | ⟨hd, payload⟩⟩ := r
  · exact hs1
  · dsimp only at hs1 ⊢
    refine .ite hs1.bump <| .ite (.ite hs1.setConn.bump.sendAck hs1) ?_
    generalize advanceCum _ _ _ = r
    refine .ite (Formed.sendAck (.ite hs1.setConn.swathUser (.ite hs1.setConn.buddyUser hs1.setConn)))
      (.ite hs1.setConn.swathUser (.ite hs1.setConn.buddyUser hs1.setConn))

theorem Formed.heard (h : Formed t) {e} : Formed (t.heard e) :=
  .ite (h.setConn.foldl fun _ _ h' => h'.resendSlot) h.setConn

theorem Formed.ackReceived (h : Formed t) {rx} : Formed (t.ackReceived rx) := by
  have hs1 : Formed (t.swAccept rx 1).1 := h.swAccept
  unfold State.ackReceived
  generalize t.swAccept rx 1 = r at hs1 ⊢
  obtain ⟨s1, _ | ⟨hd, payload⟩⟩ := r
  · exact hs1
  · exact (hs1.setConn.heard.foldl fun _ _ h' => h'.resendSlot).pumpConn

theorem Formed.nackReceived (h : Formed t) {rx msg} : Formed (t.nackReceived rx msg) := by
  have hs1 : Formed (t.swAccept rx 2).1 := h.swAccept
  unfold State.nackReceived
  generalize t.swAccept rx 2 = r at hs1 ⊢
  obtain ⟨s1, _ | ⟨hd, payload⟩⟩ := r
  · exact hs1
  · dsimp only
    split
    · exact hs1.refillDenied
    · exact hs1.endTransfer

theorem Formed.rtoExpiry (h : Formed t) {e seq} : Formed (t.rtoExpiry e seq) := by
  unfold State.rtoExpiry
  split
  · exact h
  · exact .ite h h.setConn.resendSlot

theorem Formed.probeReceived (h : Formed t) {rx} : Formed (t.probeReceived rx) := by
  have hs1 : Formed (t.swAccept rx 3).1 := h.swAccept
  unfold State.probeReceived
  generalize t.swAccept rx 3 = r at hs1 ⊢
  obtain ⟨s1, _ | ⟨hd, payload⟩⟩ := r
  · exact hs1
  · exact hs1.noteInc.swSend

theorem Formed.probeReply (h : Formed t) {rx} : Formed (t.probeReply rx) := by
  have hs1 : Formed (t.swAccept rx 4).1 := h.swAccept
  unfold State.probeReply
  generalize t.swAccept rx 4 = r at hs1 ⊢
  obtain ⟨s1, _ | ⟨hd, payload⟩⟩ := r
  · exact hs1
  · exact hs1.noteInc.heard.pumpConn

theorem Formed.probeTimer (h : Formed t) {e} : Formed (t.probeTimer e) := .ite h.probeAll h

theorem Formed.memberMissing (h : Formed t) {e} : Formed (t.memberMissing e) :=
  .ite (.ite h.setConn.raiseErr h.setConn) h

theorem Formed.peerUnreachable (h : Formed t) {e} : Formed (t.peerUnreachable e) :=
  .ite h (.ite h.memberMissing h.setConn.raiseErr.reportLost.memberMissing)

theorem Formed.endConns (h : Formed t) : Formed t.endConns :=
  (h.foldl fun _ _ h' => h'.recoPeerLost).same.foldl fun _ _ h' => h'.complete

theorem Formed.planLoad (h : Formed t) : ∀ u ∈ t.planLoad, Formed u := by
  unfold State.planLoad
  extract_lets
  split
  · simp
  · have hs1 := h.endConns
    exact ofSome (Formed.refreshService (hs1.withLinks ((List.length_map _).trans (List.length_range.trans hs1.links.symm))))

theorem Formed.planUnload (h : Formed t) : Formed t.planUnload :=
  Formed.refreshService (h.endConns.withLinks (by simp))

theorem Formed.cutLink (h : Formed t) {l report} : Formed (t.cutLink l report) :=
  .ite h.setLink.refreshService.raiseErr h.setLink.refreshService

theorem Formed.extraLink (h : Formed t) {l} : Formed (t.extraLink l) := h.setLink.raiseErr

theorem Formed.serveLink (h : Formed t) {l} : Formed (t.serveLink l) :=
  h.setLink.refreshService.foldl fun _ _ h' => h'.swSend

theorem Formed.judgeLink (h : Formed t) {l limit} : Formed (t.judgeLink l limit) := by
  unfold State.judgeLink
  refine .ite h ?_
  extract_lets
  split
  · exact .ite h.extraLink h
  · exact h
  · exact .ite (.ite h.serveLink h.cutLink) (.ite h.cutLink h)
  · exact .ite h.cutLink h

theorem Formed.lldpReceived (h : Formed t) {l chassisType portType chassis port} :
    Formed (t.lldpReceived l chassisType portType chassis port) :=
  .ite h h.setLink.judgeLink

theorem Formed.lldpSend (h : Formed t) : Formed t.lldpSend :=
  .ite h (h.same.foldl fun _ _ h' => h'.swSend)

theorem Formed.discoveryLimit (h : Formed t) : Formed t.discoveryLimit := by
  unfold State.discoveryLimit
  refine .ite h ?_
  extract_lets s1
  have hs1 : Formed s1 := h.foldl fun _ _ h' => h'.judgeLink
  clear_value s1
  exact Formed.foldl (.ite hs1.same hs1.isolate) fun _ _ h' => h'.setConn.probeAll

theorem Formed.ptpMessage (h : Formed t) {m} : Formed (t.ptpMessage m) := by
  unfold State.ptpMessage
  extract_lets _ _ _ s1 s2
  have hs1 : Formed s1 := .ite h h.bump
  have hs2 : Formed s2 := .ite hs1.bump hs1
  exact .ite h (.ite hs1 (.ite hs2.setRf.setReg.setReg.setReg hs2.setRf))

theorem Formed.ptpSyncSend (h : Formed t) : Formed t.ptpSyncSend :=
  .ite h (h.foldl fun _ _ h' => h'.swSend)

theorem Formed.resetSwath (h : Formed t) : Formed t.resetSwath :=
  h.withLinks (by simp [State.resetSwath])

end Sys2Proof.Machine
end

section
/-!
The shape in the Almanac, the furlong, recovery and power (O7).

A furlong takes the window of the descriptor that runs it and keeps it.
-/
namespace Sys2Proof.Machine

set_option Elab.async false

variable {s t u : State}

/-! ### Almanac -/

theorem Formed.almAdvance (h : Formed t) : Formed t.almAdvance := .ite h h.same.same

theorem Formed.slew (h : Formed t) {ppm} : Formed (t.slew ppm) := h.same.drawn

theorem Formed.measure (h : Formed t) {offset} : Formed (t.measure offset) := by
  unfold State.measure
  extract_lets _ _ _ _ _ _ s1
  have hs1 : Formed s1 := .ite h.same.slew (.ite h.same.same h.same.same.raiseErr)
  split
  · exact h.same.same
  · exact .ite hs1.same hs1.same
  · exact .ite h.same.same.raiseErr h.same.slew
  · exact .ite h.same.same (.ite h.same.same h.same.same)

theorem Formed.ptpMeasurement (h : Formed t) {offset} : Formed (t.ptpMeasurement offset) := .ite h.measure h

theorem Formed.ppsEdge (h : Formed t) : Formed t.ppsEdge :=
  .ite h (.ite h.same.same (.ite h.same.measure h.same))

theorem Formed.enterHoldover (h : Formed t) : Formed t.enterHoldover := .ite h.same.bump.raiseErr h

theorem Formed.fireGate (h : Formed t) {id} : Formed (t.fireGate id) := by
  unfold State.fireGate
  split
  · exact h
  next hf =>
    extract_lets _ _ _ s1 s2
    have hs1 : Formed s1 := h.setFlight (h.flight hf).keep
    have hs2 : Formed s2 := by
      unfold s2
      split
      · exact hs1.withFurlong (furlong_map hs1.furlong (by intro; rfl))
      · exact hs1
    exact .ite h (.ite hs2.bump.raiseErr hs2)

theorem Formed.examineWait (h : Formed t) {id} : Formed (t.examineWait id) := by
  unfold State.examineWait
  split
  · exact h
  next hf =>
    split
    · exact h
    · refine .ite h ?_
      extract_lets s1
      have hs1 : Formed s1 := h.setFlight (h.flight hf).keep
      exact .ite (hs1.foldl fun _ _ h' => h'.clearFlag) hs1

theorem Formed.examineWaits (h : Formed t) {domain} : Formed (t.examineWaits domain) :=
  .ite h (h.foldl fun _ _ h' => h'.examineWait)

theorem Formed.flagControl (h : Formed t) {v} : Formed (t.flagControl v) := .ite h.clearFlag h.setFlag

theorem Formed.submitRebase (h : Formed t) {v} : Formed (t.submitRebase v) := h.same

theorem Formed.withAlm (h : Formed t) {x} : Formed { t with alm := x } := h.same

theorem Formed.rebase (h : Formed t) : Formed t.rebase := by
  unfold State.rebase
  split
  · exact h
  · refine .ite h ?_
    extract_lets _ s1 e
    have hs1 : Formed s1 := h.same
    clear_value s1
    exact .ite hs1.raiseErr (Formed.setReg hs1.withAlm)

/-! ### Furlong -/

theorem Formed.ledgerWrite (h : Formed t) {q0 start stop n} : Formed (t.ledgerWrite q0 start stop n) :=
  .ite h (Formed.setRf (.ite h.storeAs.bump h.storeAs.same))

/-- The furlong that runs changed, its window the same. -/
theorem Formed.putFurlong (h : Formed t) {g g' : Furlong} (hg : t.furlong = some g) (hw : g'.window = g.window := by rfl) :
    Formed { t with furlong := some g' } :=
  h.withFurlong fun x hx => by
    cases hx
    exact hw ▸ h.furlong g hg

theorem Formed.phaseComplete (h : Formed t) {step pre phase} : Formed (t.phaseComplete step pre phase) := by
  unfold State.phaseComplete
  split
  · exact h
  next hfu =>
    split
    · exact h
    · split
      · exact h
      · refine .ite h ?_
        extract_lets mark free stop s1
        have hs1 : Formed s1 := Formed.ledgerWrite (h.putFurlong hfu)
        exact .ite hs1.drawn hs1

/-- No furlong runs any more. -/
theorem Formed.noFurlong (h : Formed t) : Formed { t with furlong := none } := h.withFurlong (fun _ hg => nomatch hg)

theorem Formed.endFurlong (h : Formed t) {fu} : Formed (t.endFurlong fu) :=
  .ite h.noFurlong.complete.raiseErr h.noFurlong.complete

theorem Formed.abortFurlong (h : Formed t) {fu code} : Formed (t.abortFurlong fu code) := h.noFurlong.complete

theorem Formed.furlongCheck (h : Formed t) : Formed t.furlongCheck := by
  unfold State.furlongCheck
  split
  · exact .ite h.endFurlong h
  · exact h

theorem Formed.stepComplete (h : Formed t) {step} : Formed (t.stepComplete step) := by
  unfold State.stepComplete
  split
  · exact h
  next hfu =>
    refine .ite h ?_
    extract_lets _ _ _ _ _ s1 s2
    have hs1 : Formed s1 := .ite h.drawn h
    have hs2 : Formed s2 := hs1.ledgerWrite.bump
    exact Formed.furlongCheck (hs2.withFurlong fun g hg => by
      cases hg
      exact (h.furlong _ hfu : _))

theorem Formed.runFurlong (h : Formed t) {id} : Formed (t.runFurlong id) := by
  unfold State.runFurlong
  split
  · exact h
  next hf =>
    have hf := h.flightOf hf
    refine .ite h (.ite h.refuseFlight (.ite h.complete (.ite h.complete ?_)))
    extract_lets s1
    have hs1 : Formed s1 := h.setFlight hf.keep
    exact hs1.withFurlong fun g hg => by
      cases hg
      exact hf.window

theorem Formed.stopFurlong (h : Formed t) {id} : Formed (t.stopFurlong id) := by
  unfold State.stopFurlong
  split
  · exact h
  · refine .ite h ?_
    exact Formed.furlongCheck <| Formed.complete <| h.withFurlong <| furlong_map h.furlong fun g => by
      split <;> rfl

/-! ### Recovery -/

theorem Formed.setPair (h : Formed t) {p} : Formed (t.setPair p) := h.setRf

theorem Formed.setFill (h : Formed t) {x} : Formed (t.setFill x) := h.setRf

theorem Formed.setCommit (h : Formed t) {step set} : Formed (t.setCommit step set) := h.setReg

theorem Formed.setReco (h : Formed t) {f p} (hf : FlightOk f) : Formed (t.setReco f p) := h.setFlight hf.withProg

theorem Formed.recAdmit (h : Formed t) {n} : Formed (State.recAdmit n t) := by
  induction n generalizing t with
  | zero => exact h
  | succ n ih =>
    unfold State.recAdmit
    split
    · exact h
    next hf =>
      refine .ite h <| .ite (ih h.refuseFlight) ?_
      extract_lets s1
      have hs1 : Formed s1 := h.setFlight (h.flights _ (List.mem_of_find?_eq_some hf)).keep
      exact .ite hs1.setReg hs1

theorem Formed.recNext (h : Formed t) : Formed t.recNext := h.recAdmit

theorem Formed.recDone (h : Formed t) {id info} : Formed (t.recDone id info) := h.complete.recNext

theorem Formed.recRuns (h : Formed t) {id op} {f : Flight} (hf : t.recRuns id op = some f) : FlightOk f := by
  unfold State.recRuns at hf
  split at hf
  next hf' =>
    split at hf
    · cases hf
      exact h.flightOf hf'
    · cases hf
  · cases hf

theorem Formed.runCommit (h : Formed t) {id} : Formed (t.runCommit id) := by
  unfold State.runCommit
  split
  · exact h
  next hf =>
    have hf := h.recRuns hf
    extract_lets _ _ s1
    have hs1 : Formed s1 := .ite h.bump.raiseErr h
    refine .ite h.recDone <| .ite ?_ ?_
    · refine .ite (hs1.setReco hf) ?_
      split
      · exact hs1.recDone
      · exact hs1.setReco hf
    · split
      · extract_lets
        split
        · exact h.recDone
        · exact .ite h.recDone (Formed.setReco (.ite h h.readAs.storeAs) hf)
      · exact (Formed.setCommit (.ite h.bump h)).setRf.bump.recDone

theorem Formed.recMessage (h : Formed t) {e bs body} : Formed (t.recMessage e bs body) :=
  h.setConn.foldl fun _ _ h' => h'.queueData

theorem Formed.buddyLost (h : Formed t) {f} : Formed (t.buddyLost f) := h.setPair.raiseErr.recDone

theorem Formed.runBuddySend (h : Formed t) {id} : Formed (t.runBuddySend id) := by
  unfold State.runBuddySend
  split
  · exact h
  next hf =>
    have hf := h.recRuns hf
    refine .ite h.recDone <| .ite h.buddyLost <| .ite h.recDone ?_
    refine .ite ?_ (.ite h.buddyLost (.ite h.recDone (.ite h h.setRf.bump.recDone)))
    extract_lets
    split
    · exact h.recDone
    · exact (h.foldl fun _ _ h' => h'.recMessage).recMessage.setReco hf

theorem Formed.buddySealed (h : Formed t) {slot off} : Formed (t.buddySealed slot off) :=
  .ite h (Formed.same h (by simp [State.lengths])).showHosted

theorem Formed.sendPairing (h : Formed t) {e answer} : Formed (t.sendPairing e answer) :=
  .ite h h.recMessage

theorem Formed.writePair (h : Formed t) {v} : Formed (t.writePair v) :=
  .ite h.setReg.setPair (.ite h.setReg h.setReg.setPair.sendPairing)

theorem Formed.pairingMessage (h : Formed t) {e domain answer} : Formed (t.pairingMessage e domain answer) := by
  unfold State.pairingMessage
  refine .ite h <| .ite h.setRf.setPair.raiseErr <| .ite h.setRf.setPair.raiseErr.sendPairing ?_
  exact .ite (.ite h.setRf.sendPairing.sendPairing h.setRf.sendPairing) h.setRf.setPair

theorem Formed.showExtent (h : Formed t) {i} : Formed (t.showExtent i) :=
  .ite h.setReg.setReg (.ite h.setReg.setReg h.setReg.setReg)

theorem Formed.dropStook (h : Formed t) : Formed t.dropStook := h.setRf.setReg.setReg

theorem Formed.runStook (h : Formed t) {id} : Formed (t.runStook id) := by
  unfold State.runStook
  split
  · exact h
  next hf =>
    have hf := h.recRuns hf
    refine .ite h.recDone <| .ite (.ite h.bump.recDone (h.same.storeAs.setRf.setReco hf)) ?_
    split
    · exact h
    · extract_lets
      split
      · exact h.dropStook.recDone
      · exact h.readAs.storeAs.setReco hf

theorem Formed.stookStaged (h : Formed t) {id} : Formed (t.stookStaged id) := by
  unfold State.stookStaged
  split
  · exact h
  · exact .ite h h.storeAs.setRf.showExtent.recDone

theorem Formed.drainAck (h : Formed t) {i} : Formed (t.drainAck i) :=
  .ite h.showExtent h.dropStook.setRf.setRf.bump.raise

theorem Formed.fillReady (h : Formed t) {n} : Formed (t.fillReady n) := .ite h.same.setFill h

theorem Formed.fillFail (h : Formed t) {f code} : Formed (t.fillFail f code) := h.setFill.raiseErr.recDone

theorem Formed.fillSealed (h : Formed t) {f set} : Formed (t.fillSealed f set) :=
  h.setCommit.setFill.setRf.bump.raise.recDone

theorem Formed.fillPlace (h : Formed t) {f p set} (hf : FlightOk f) : Formed (t.fillPlace f p set) :=
  .ite h.fillFail (h.setFill.setReco hf)

theorem Formed.fillAsk (h : Formed t) {f p e user b dst len keep} (hf : FlightOk f) :
    Formed (t.fillAsk f p e user b dst len keep) :=
  h.setConn.queueData.setReco hf

theorem Formed.refillStook (h : Formed t) {f} (hf : FlightOk f) : Formed (t.refillStook f) := by
  unfold State.refillStook
  refine .ite (h.same.setFill.setReco hf) ?_
  split
  · exact h
  · exact .ite h.setFill.recDone (.ite h.fillFail (h.fillPlace hf))

theorem Formed.refillBuddy (h : Formed t) {f} (hf : FlightOk f) : Formed (t.refillBuddy f) :=
  .ite h.fillFail (.ite (h.fillAsk hf) (.ite h (.ite h.refuseFlight.recNext (h.fillPlace hf))))

theorem Formed.refillEntry (h : Formed t) {f p source off e} (hf : FlightOk f) : Formed (t.refillEntry f p source off e) := by
  unfold State.refillEntry
  refine .ite (.ite h.setFill.recDone (h.storeAs.setReco hf)) ?_
  exact .ite h.fillFail (.ite (.ite (h.fillAsk hf) (h.fillAsk hf)) (.ite h (h.setReco hf)))

theorem Formed.runRefill (h : Formed t) {id} : Formed (t.runRefill id) := by
  unfold State.runRefill
  split
  · exact h
  next hf =>
    have hf := h.recRuns hf
    refine .ite h.setFill.recDone <| .ite (.ite (h.refillStook hf) (.ite (h.refillBuddy hf) (h.fillPlace hf))) ?_
    split
    · exact h.refillEntry hf
    · exact h.fillSealed

theorem Formed.noteCapacity (h : Formed t) {before} : Formed (t.noteCapacity before) := .ite h.raiseErr h

theorem Formed.resetRecovery (h : Formed t) : Formed t.resetRecovery := h.dropStook.setFill

/-! ### Power -/

theorem Formed.idleEntry (h : Formed t) : Formed t.idleEntry := by
  unfold State.idleEntry
  split
  · exact .ite h.same h
  · exact h

theorem Formed.leaveIdle (h : Formed t) : Formed t.leaveIdle := h.same

theorem Formed.setTarget (h : Formed t) {t'} : Formed (t.setTarget t') := by
  unfold State.setTarget
  extract_lets s1
  have hs1 : Formed s1 := h.setRf
  clear_value s1
  exact .ite hs1 hs1.same

theorem Formed.hitchWake (h : Formed t) {lanes} : Formed (t.hitchWake lanes) := .ite h.same.retrainHitch h

theorem Formed.sleepLoss (h : Formed t) : Formed t.sleepLoss := by
  unfold State.sleepLoss
  extract_lets _ s0 s1
  have hs0 : Formed s0 := h.zeroRange
  have hs1 : Formed s1 := hs0.same
  exact (hs1.foldl fun _ _ h' => h'.setLink.bump.raiseErr).refreshService

theorem Formed.withHitch (h : Formed t) {x} : Formed { t with hitch := x } := h.same

theorem Formed.fallowLoss (h : Formed t) : Formed t.fallowLoss := by
  unfold State.fallowLoss
  extract_lets s1
  have hs1 : Formed s1 := h.foldl fun _ _ h' => (h'.foldl fun _ _ h2 => h2.zeroBank).freshRegion
  exact hs1.withHitch

theorem Formed.noteMismatch (h : Formed t) {bad} : Formed (t.noteMismatch bad) := by
  unfold State.noteMismatch
  extract_lets _ _ _ _ _ _ _ _ s2 s3
  have hs2 : Formed s2 := .ite h.same.bump h.same
  have hs3 : Formed s3 := .ite hs2.raiseErr hs2
  exact .ite (.ite hs3.setRf.raiseErr hs3) (.ite hs3.setRf hs3)

theorem Formed.setDuty (h : Formed t) : Formed t.setDuty := h.setRf

theorem Formed.governorWindow (h : Formed t) {report mv estimate} :
    Formed (t.governorWindow report mv estimate) :=
  .ite h h.noteMismatch.same.setReg.bumpBy.setRf.setDuty

/-- An update of the power state that keeps the numbers of its sensors and detectors. -/
theorem Formed.withPower (h : Formed t) {x : PowerSt} (hd : x.droop.length = t.power.droop.length := by rfl)
    (hs : x.sensors.length = t.power.sensors.length := by rfl) : Formed { t with power := x } :=
  h.same (by simp [State.lengths, hd, hs])

theorem Formed.sensorRead (h : Formed t) {die k t'} : Formed (t.sensorRead die k t') := by
  unfold State.sensorRead
  extract_lets _ set _ s1 s1' _ s2
  have hset {v y} (hv : Formed v) : Formed (set v y) := hv.withPower rfl List.length_set
  have hs1 : Formed s1 := hset h
  have hs1' : Formed s1' := .ite h.bump h
  have hs2 : Formed s2 := hset hs1'
  exact .ite (.ite hs1.setRf hs1) (.ite (.ite hs2.raiseErr hs2.raiseErr) hs2)

theorem Formed.thermalStep (h : Formed t) : Formed t.thermalStep := by
  unfold State.thermalStep
  refine .ite h ?_
  extract_lets _ _ _ _ _ _ _ s2
  have hs2 : Formed s2 := h.same.setRf.setDuty
  exact .ite (.ite hs2 hs2.raiseErr) (.ite hs2.raiseErr hs2)

theorem Formed.setDroop (h : Formed t) {f d} : Formed (t.setDroop f d) := h.same (by simp [State.lengths, State.setDroop])

theorem Formed.droopTrip (h : Formed t) {f mv} : Formed (t.droopTrip f mv) := .ite h h.setDroop.bump

theorem Formed.stretchEnd (h : Formed t) {f ac fc} : Formed (t.stretchEnd f ac fc) :=
  .ite h (.ite h.setDroop.bumpBy.bumpBy.raiseErr h.setDroop.bumpBy.bumpBy)

theorem Formed.submitChange (h : Formed t) {t'} : Formed (t.submitChange t') := Formed.withPower h.setReg (List.length_map _)

theorem Formed.voltageRamp (h : Formed t) : Formed t.voltageRamp := by
  unfold State.voltageRamp
  split
  · exact .ite (h.withPower (List.length_map _)) h
  · exact h

theorem Formed.acChange (h : Formed t) {f} : Formed (t.acChange f) := by
  unfold State.acChange
  split
  · exact h
  · refine .ite h ?_
    extract_lets s1
    have hs1 : Formed s1 := h.setDroop
    exact .ite (Formed.raise <| Formed.bump hs1.withPower) hs1

end Sys2Proof.Machine
end

section
/-!
The shape in the Tithe, the loss of a Field, the resets and Steward (O7).

A cold reset builds its state from `State.reset`, whose shape is O5's; only the plots and stacks come from the state before.
-/
namespace Sys2Proof.Machine

set_option Elab.async false

variable {s t u : State}

/-! ### Tithe -/

/-- An update of the mirror words in transit, and of other parts. -/
theorem Formed.withWords (h : Formed t) (hw : ∀ w ∈ u.tithe.snapWords ++ u.tithe.recWords, w.1 < 0x1000)
    (hl : u.lengths = t.lengths := by rfl) (ha : u.winnow.areas = t.winnow.areas := by rfl) (hf : u.flights = t.flights := by rfl)
    (hg : u.furlong = t.furlong := by rfl) (hs : u.coulter.samples = t.coulter.samples := by rfl) : Formed u :=
  ⟨hl.trans h.lengths, ha ▸ h.areas, hf ▸ h.flights, hg ▸ h.furlong, hs ▸ h.samples, hw⟩

theorem Formed.setTithe (h : Formed t) {t'} (hw : t'.snapWords ++ t'.recWords = t.tithe.snapWords ++ t.tithe.recWords := by rfl) :
    Formed (t.setTithe t') :=
  h.withWords (fun w hw' => h.words w (hw ▸ hw'))

theorem Formed.titheSample (h : Formed t) {mv ma} : Formed (t.titheSample mv ma) := .ite h h.setTithe

theorem Formed.titheCheck (h : Formed t) {deviates} : Formed (t.titheCheck deviates) :=
  .ite h (.ite h.setTithe h.setTithe)

theorem Formed.titheClose (h : Formed t) {loss tamper mark} : Formed (t.titheClose loss tamper mark) :=
  h.setTithe

theorem Formed.titheRollover (h : Formed t) : Formed t.titheRollover := .ite h.titheClose h

theorem Formed.titheTamper (h : Formed t) {kind mark} : Formed (t.titheTamper kind mark) :=
  .ite h (.ite h.setTithe h.setTithe.titheClose)

theorem Formed.titheLoss (h : Formed t) {written tamper mark} : Formed (t.titheLoss written tamper mark) := by
  unfold State.titheLoss
  refine .ite h ?_
  extract_lets _ s1
  have hs1 : Formed s1 := by
    unfold s1
    split
    · exact h.setTithe
    · exact h
  exact Formed.withWords (.ite hs1.titheClose hs1) fun w hw => absurd hw List.not_mem_nil

theorem Formed.titheCheckpoint (h : Formed t) : Formed t.titheCheckpoint := .ite h h.setTithe

theorem Formed.titheReturn (h : Formed t) : Formed t.titheReturn :=
  .ite h (.ite h.setTithe (.ite h.setTithe h.setTithe))

theorem Formed.uartSend (h : Formed t) {cmd status payload} : Formed (t.uartSend cmd status payload) :=
  h.setTithe

theorem Formed.uartIdent (h : Formed t) {args crc} : Formed (t.uartIdent args crc) :=
  .ite h (.ite h.uartSend h.uartSend)

theorem Formed.uartStatus (h : Formed t) {args crc} : Formed (t.uartStatus args crc) :=
  .ite h (.ite h.uartSend h.uartSend)

theorem Formed.uartRecord (h : Formed t) {args crc} : Formed (t.uartRecord args crc) :=
  .ite h (.ite h.uartSend (by split <;> exact h.uartSend))

theorem Formed.uartNow (h : Formed t) {args crc} : Formed (t.uartNow args crc) :=
  .ite h (.ite h.uartSend h.uartSend)

theorem Formed.uartMark (h : Formed t) {args crc} : Formed (t.uartMark args crc) :=
  .ite h (.ite h.uartSend h.titheClose.uartSend)

theorem Formed.uartTamper (h : Formed t) {args crc} : Formed (t.uartTamper args crc) :=
  .ite h (.ite h.uartSend (by split <;> exact h.uartSend))

theorem Formed.mirrorWord (h : Formed t) {off v} : Formed (t.mirrorWord off v) := by
  unfold State.mirrorWord
  extract_lets s1
  have hs1 : Formed s1 := h.setReg
  exact hs1.same

theorem Formed.snapWord (h : Formed t) {off v} : Formed (t.snapWord off v) :=
  .ite h.mirrorWord.raiseErr (.ite h.mirrorWord.raiseErr h.mirrorWord)

/-- A status register of the Tithe is a register of its page. -/
theorem State.titheStatus_lt {w : Nat × Nat} (h : w ∈ t.titheStatus) : w.1 < 0x1000 := by
  have hoff : w.1 ∈ [0x108, 0x110, 0x118, 0x120, 0x128, 0x130, 0x138, 0x140] := List.mem_map_of_mem (f := Prod.fst) h
  exact (by decide : ∀ n ∈ [0x108, 0x110, 0x118, 0x120, 0x128, 0x130, 0x138, 0x140], n < 0x1000) _ hoff

/-- A word of a record is a register of the Tithe's page. -/
theorem recordWords_lt {seq : Nat} {b : List Byte} {w : Nat × Nat} (h : w ∈ recordWords seq b) : w.1 < 0x1000 := by
  obtain ⟨i, hi, rfl⟩ := List.mem_map.1 h
  have := List.mem_range.1 hi
  dsimp only
  omega

theorem Formed.mirrorSnapshot (h : Formed t) : Formed t.mirrorSnapshot := by
  unfold State.mirrorSnapshot
  refine .ite h ?_
  extract_lets
  split
  · refine Formed.mirrorWord <| h.withWords fun w hw => ?_
    rcases List.mem_append.1 hw with hw | hw
    · rcases List.mem_cons.1 hw with rfl | hw
      · exact (by decide : 0x100 < 0x1000)
      · exact State.titheStatus_lt (List.mem_of_mem_filter hw)
    · exact h.words w (List.mem_append_right _ hw)
  next w0 rest hw0 =>
    extract_lets s1
    have hs1 : Formed s1 := Formed.snapWord <| h.withWords fun w hw => h.words w <| by
      rw [hw0]
      exact List.mem_cons_of_mem w0 hw
    exact .ite hs1.mirrorWord hs1

theorem Formed.mirrorRecord (h : Formed t) : Formed t.mirrorRecord := by
  unfold State.mirrorRecord
  refine .ite h ?_
  split
  · split
    · exact h
    · exact h.withWords fun w hw => by
        rcases List.mem_append.1 hw with hw | hw
        · exact h.words w (List.mem_append_left _ hw)
        · exact recordWords_lt hw
  next w0 rest hw0 =>
    extract_lets _ s1
    have hs1 : Formed s1 := Formed.mirrorWord <| h.withWords fun w hw => h.words w <| by
      rw [hw0]
      rcases List.mem_append.1 hw with hw | hw
      · exact List.mem_append_left _ hw
      · exact List.mem_append_right _ (List.mem_cons_of_mem w0 hw)
    exact .ite hs1.setReg.setReg.raise hs1

theorem Formed.mirrorStale (h : Formed t) : Formed t.mirrorStale := .ite h.setRf.raiseErr h

/-! ### FieldLoss -/

theorem Formed.bankStart (h : Formed t) {f b} : Formed (t.bankStart f b) := by
  unfold State.bankStart
  extract_lets s1
  have hs1 : Formed s1 := h.plotRestore.plotLeave
  exact .ite hs1.same h

theorem Formed.setField (h : Formed t) {f x} : Formed (t.setField f x) := h.same (by simp [State.lengths, State.setField])

theorem Formed.setHedge (h : Formed t) {l h'} : Formed (t.setHedge l h') :=
  .ite h.setField h.setField.setField

theorem Formed.hedgeReplay (h : Formed t) {l} : Formed (t.hedgeReplay l) := .ite h (.ite h.bump h.bump.bump)

theorem Formed.reroute (h : Formed t) {l} : Formed (t.reroute l) := h.setHedge.raiseErr.raiseErr

theorem Formed.hedgeReroute (h : Formed t) {l} : Formed (t.hedgeReroute l) := .ite h.reroute h

theorem Formed.endTouching (h : Formed t) {id} : Formed (t.endTouching id) := by
  unfold State.endTouching
  split
  · exact h
  next hf =>
    have hf := h.flight hf
    extract_lets mark
    have hmark : Formed mark := h.setFlight hf.keep
    split
    · exact .ite (h.setFlight hf.withProg) hmark
    · exact .ite hmark h.complete
    · split
      · exact h
      next hp => exact .ite h.bump.bump.complete (.ite h (.ite (h.setColl (hf.coll hp)) (h.withdraw (hf.coll hp))))
    · exact .ite h h.endTransfer
    · split
      · exact .ite h.abortFurlong h.complete
      · exact h.complete
    · exact h.complete
    · exact .ite h (.ite h.dropStook.recDone (.ite h.setFill.recDone h))
    · exact hmark

theorem Formed.failUnits (h : Formed t) {f} : Formed (t.failUnits f) := by
  refine h.withFlights (FlightsOk.map h.flights fun g hg => ?_) (by simp [State.lengths, State.failUnits])
  split
  · exact iteFlight hg.withProg hg
  · exact iteFlight hg.withProg hg
  · exact hg

theorem Formed.dropField (h : Formed t) {f} : Formed (t.dropField f) := by
  unfold State.dropField
  extract_lets s1
  have hs1 : Formed s1 := h.zeroRange.zeroRange.freshRegion
  have hs2 : Formed { s1 with
      gleanMeta := s1.gleanMeta.filter (fun (m : Nat × Nat) => m.1 / 2048 != f)
      bankMoves := s1.bankMoves.filter (fun (m : BankMove) => m.field != f)
      kept := s1.kept.filter (fun a => granaryField a != f) } := hs1.same
  exact hs2.setPlot.emptyInRegion

theorem Formed.tellNeighbour (h : Formed t) {west g} : Formed (t.tellNeighbour west g) :=
  .ite h h.setField.raiseErr

theorem Formed.endReduce (h : Formed t) {f id} : Formed (t.endReduce f id) := by
  unfold State.endReduce
  split
  · exact h
  · exact .ite ((h.foldl fun _ _ h' => h'.raiseErr).complete) h

theorem Formed.loseField (h : Formed t) {f} : Formed (t.loseField f) := by
  unfold State.loseField
  refine .ite h ?_
  extract_lets _ _ _ _ s2 _ s4
  have hs2 : Formed s2 := .optionElim h.setField (fun _ => h.setField.tellNeighbour)
  have hs4 : Formed s4 := by
    unfold s4
    refine Formed.foldl ?_ fun _ _ h' => h'.endReduce
    exact (Formed.failUnits (.optionElim hs2 (fun _ => hs2.tellNeighbour))).foldl fun _ _ h' => h'.complete
  exact ((hs4.foldl fun _ _ h' => h'.endTouching).restartFill.dropField.foldl fun _ _ h' => h'.rehomeEngine).recNext

theorem Formed.hedgeLost (h : Formed t) {f} : Formed (t.hedgeLost f) := .ite h.loseField.noteCapacity h

theorem Formed.failReeve (h : Formed t) {place c code check work n} :
    Formed (t.failReeve place c code check work n) := by
  unfold State.failReeve
  refine .ite h ?_
  extract_lets _ s1 page _ s2
  have hs1 : Formed s1 := .ite h.setField h.same
  have hs2 : Formed s2 := by
    clear_value page
    cases page with
    | none => exact hs1
    | some f => exact .ite hs1.raiseErr.bumpBy hs1.raiseErr
  exact .ite hs2 <| .ite hs2.loseField <| hs2.foldl fun _ _ h' => .ite h' h'.raiseErr

theorem Formed.reeveFault (h : Formed t) {place c check held} : Formed (t.reeveFault place c check held) :=
  .ite h h.failReeve.noteCapacity

/-! ### Reset -/

/-- An update of Steward's state. -/
theorem Formed.withSteward (h : Formed t) {x} : Formed { t with steward := x } := h.same

theorem Formed.logOpen (h : Formed t) {info} : Formed (t.logOpen info) := h.drawn.logAdd

theorem Formed.setStage (h : Formed t) {stage progress} : Formed (t.setStage stage progress) := h.same

theorem Formed.haltBoot (h : Formed t) {code} : Formed (t.haltBoot code) := h.same.logAdd

theorem Formed.journalFlush (h : Formed t) : Formed t.journalFlush := h.journalFlushN

theorem Formed.journalPage (h : Formed t) : Formed t.journalPage := by
  unfold State.journalPage
  split
  · exact h
  · exact .ite h.journalFlushN h

theorem Formed.putBootRec (h : Formed t) {r} : Formed (t.putBootRec r) := .ite h.same h.same

theorem Formed.setSlotImg (h : Formed t) {k x} : Formed (t.setSlotImg k x) := .ite h.same h.same

theorem Formed.takeTry (h : Formed t) : Formed t.takeTry := by
  unfold State.takeTry
  extract_lets
  split
  · exact h
  · exact .ite (Formed.withSteward h.putBootRec) h.putBootRec

theorem Formed.bootFirmware (h : Formed t) : Formed t.bootFirmware := by
  unfold State.bootFirmware
  extract_lets s1
  have hs1 : Formed s1 := h.takeTry
  split
  · exact Formed.setStage hs1.same
  · exact hs1.haltBoot

theorem Formed.enterCause (h : Formed t) : Formed t.enterCause := .ite h h.same.journalAdd.logOpen

theorem reset_formed : Formed State.reset := formed_iff.2 reset_shaped

theorem Formed.plots (h : Formed t) : t.plots.length = 8 := by
  have := h.lengths
  simp only [State.lengths, List.cons.injEq] at this
  exact this.2.2.2.2.1

theorem Formed.stacks (h : Formed t) : t.stackList.length = 24 := by
  have := h.lengths
  simp only [State.lengths, List.cons.injEq] at this
  exact this.2.2.2.1

theorem Formed.wipe (h : Formed t) : Formed t.wipe := by
  have hplots : t.wipe.plots.length = State.reset.plots.length := (List.length_map _).trans (h.plots.trans reset_formed.plots.symm)
  have hstacks : t.wipe.stackList.length = State.reset.stackList.length := by
    rw [State.wipe, List.length_zipWith, h.stacks, reset_formed.stacks, Nat.min_self]
  refine reset_formed.withWords (fun _ hw => absurd hw List.not_mem_nil) ?_
  unfold State.lengths
  rw [hplots, hstacks]
  rfl

theorem Formed.coldReset (h : Formed t) {cause addr src} : Formed (t.coldReset cause addr src) := by
  unfold State.coldReset
  extract_lets s1 early s2
  have hs1 : Formed s1 := h.enterCause
  have hs2 : Formed s2 := Formed.wipe (.ite hs1.journalAdd.journalFlush.logOpen hs1)
  exact hs2.withSteward

theorem Formed.mainInput (h : Formed t) : Formed t.mainInput := .ite h (.ite (Formed.coldReset h.withSteward) h.withSteward)

theorem Formed.standbyInput (h : Formed t) : Formed t.standbyInput := .ite h (Formed.coldReset h.withSteward)

theorem Formed.resetPin (h : Formed t) {lowUs} : Formed (t.resetPin lowUs) := .ite h.coldReset h

theorem Formed.diesOff (h : Formed t) : Formed t.diesOff := by
  unfold State.diesOff
  extract_lets w
  have hw : Formed w := h.wipe
  clear_value w
  have hp : Formed { w with power := { w.power with thermtrip := t.power.thermtrip } } := hw.withPower
  exact hp.same

theorem Formed.holdOff (h : Formed t) : Formed t.holdOff := h.same

theorem Formed.vinLow (h : Formed t) : Formed t.vinLow := by
  unfold State.vinLow
  extract_lets _ s1 s2
  have hs1 : Formed s1 := h.withSteward
  have hs2 : Formed s2 := .ite hs1.logAdd hs1
  exact .ite h (.ite hs2.diesOff hs2)

theorem Formed.vinHigh (h : Formed t) : Formed t.vinHigh :=
  .ite h (Formed.holdOff (.ite h.logAdd.diesOff h.logAdd))

theorem Formed.vstbyLow (h : Formed t) : Formed t.vstbyLow := by
  unfold State.vstbyLow
  extract_lets s1 s2
  have hs1 : Formed s1 := h.enterCause.journalFlush
  have hs2 : Formed s2 := .ite hs1.diesOff hs1
  exact .ite h hs2.withSteward

theorem Formed.refclkLost (h : Formed t) : Formed t.refclkLost := .ite h.logAdd.diesOff.holdOff h

theorem Formed.mclkLost (h : Formed t) : Formed t.mclkLost := .ite h.same.logAdd h

theorem Formed.mclkReturn (h : Formed t) : Formed t.mclkReturn := h.same

theorem Formed.junctionRead (h : Formed t) {die k t'} : Formed (t.junctionRead die k t') := by
  unfold State.junctionRead
  extract_lets s1
  have hs1 : Formed s1 := h.sensorRead
  exact .ite h (.ite (Formed.holdOff <| Formed.diesOff <| Formed.logAdd <| hs1.withPower) hs1)

theorem Formed.strapSample (h : Formed t) {pwr slot boot} : Formed (t.strapSample pwr slot boot) := by
  unfold State.strapSample
  refine .ite h <| .ite (.ite h h.same.bump.logOpen.raise) ?_
  exact .ite (.ite h.same.same.logOpen h.same.same) (.ite h.same.haltBoot h.same)

theorem Formed.hedgeTrain (h : Formed t) {links} : Formed (t.hedgeTrain links) := by
  unfold State.hedgeTrain
  extract_lets s1 s2 s3
  have hs1 : Formed s1 := h.foldl fun _ _ h' => .ite h'.setHedge h'
  have hs2 : Formed s2 := hs1.foldl fun _ _ h' => h'.reroute
  have hs3 : Formed s3 := hs2.foldl fun _ _ h' => h'.loseField
  exact hs3.withPower (List.length_map _)

theorem Formed.trainStacks (h : Formed t) {ok} : Formed (t.trainStacks ok) :=
  h.foldl fun _ _ h' => .ite h'.setStack h'.setStack.raiseErr

/-- The self-test gives every array, engine and decoder core a state. -/
theorem Formed.unitsTested (h : Formed t) {k : Nat → ArraySt} {e : Nat → EngineSt} {c : Nat} :
    Formed { t with
      arrays := (List.range 8).map k
      engines := (List.range 16).map e
      coulter := { t.coulter with cores := List.replicate 16 c } } := by
  have := h.lengths
  simp only [State.lengths, List.cons.injEq] at this
  obtain ⟨_, harrays, hengines, _, _, _, _, _, _, _, _, _, _, hcores, _⟩ := this
  exact h.same (by simp [State.lengths, harrays, hengines, hcores])

theorem Formed.selfTest (h : Formed t) {o} : Formed (t.selfTest o) := by
  unfold State.selfTest
  extract_lets _ s1 s2 s3 s4 s5
  have hs1 : Formed s1 := h.unitsTested
  have hs2 : Formed s2 := hs1.foldl fun _ _ h' => h'.failArray
  have hs3 : Formed s3 := hs2.foldl fun _ _ h' => h'.failEngine
  have hs4 : Formed s4 := hs3.foldl fun _ _ h' => h'.failCore
  have hs5 : Formed s5 := hs4.foldl fun _ _ h' => Formed.raiseErr h'.same
  exact .ite hs5.raiseErr hs5

theorem Formed.reeveTest (h : Formed t) {ok} : Formed (t.reeveTest ok) := h.foldl fun _ _ h' => h'.failReeve

theorem Formed.openFabric (h : Formed t) : Formed t.openFabric := by
  unfold State.openFabric
  extract_lets _ _ _ _ _ s2 s3
  have hs2 : Formed s2 := .ite h.same.raiseErr h.same
  have hs3 : Formed s3 := .ite hs2.linkError hs2
  exact .ite hs3.raiseErr hs3

theorem Formed.stageDone (h : Formed t) {o} : Formed (t.stageDone o) := by
  unfold State.stageDone
  extract_lets _ s1
  have hs1 : Formed s1 := .ite h.logOpen h
  refine .ite h <| .ite h.setStage <| .ite (.ite h (.ite h.same h.setStage.enterCause)) ?_
  refine .ite (.ite hs1.setStage hs1.haltBoot) <| .ite h.bootFirmware ?_
  refine .ite (.ite h (.ite h.haltBoot (.ite h.setStage h.setStage))) <| .ite (.ite h h.same.setStage) <| .ite h ?_
  refine .ite h.hedgeTrain.setStage <| .ite h.setStage <| .ite h.setStage <| .ite h.trainStacks.setStage ?_
  exact .ite h.selfTest.setStage (.ite h.reeveTest.openFabric h)

theorem Formed.stageTimeout (h : Formed t) {links} : Formed (t.stageTimeout links) :=
  .ite h (.ite (.ite h.hedgeTrain.setStage h) h.haltBoot)

theorem Formed.beginWarm (h : Formed t) {src} : Formed (t.beginWarm src) := by
  unfold State.beginWarm
  extract_lets s1
  have hs1 : Formed s1 := h.journalAdd.journalFlush.logOpen.bump.setStage
  exact hs1.withFlights (FlightsOk.filter hs1.flights)

theorem Formed.requestWarm (h : Formed t) {src} : Formed (t.requestWarm src) :=
  .ite h.bump.logOpen (.ite h.same h.beginWarm)

theorem Formed.answerHeld (h : Formed t) : Formed t.answerHeld := h.same.foldl fun _ _ h' => h'.respond

theorem Formed.flushWork (h : Formed t) : Formed t.flushWork := by
  unfold State.flushWork
  extract_lets _ s1
  have hs1 : Formed s1 := {
    lengths := (by simp [State.lengths, s1] : s1.lengths = t.lengths).trans h.lengths
    areas := h.areas
    flights := fun _ hf => absurd hf List.not_mem_nil
    furlong := fun _ hg => nomatch hg
    samples := h.samples
    words := h.words }
  exact hs1.setRf.resetThresher.resetSwath.resetSample.dropRings.dropSteps.resetRecovery

theorem Formed.warmStage (h : Formed t) : Formed t.warmStage := by
  unfold State.warmStage
  refine .ite h <| .ite ((h.foldl fun _ _ h' => h'.plotRestore).answerHeld.setStage) ?_
  exact .ite h.flushWork.setStage (.ite h.mapOut.setStage ((h.foldl fun _ _ h' => .ite h' h'.resetGlean).openFabric))

theorem Formed.winter (h : Formed t) : Formed t.winter := by
  unfold State.winter
  extract_lets w
  have hw : Formed w := h.enterCause.journalFlush.wipe
  clear_value w
  have hp : Formed { w with power := { w.power with state := 4 } } := hw.withPower
  exact hp.withSteward

theorem Formed.powerReached (h : Formed t) : Formed t.powerReached := by
  unfold State.powerReached
  split
  · exact h
  · refine .ite h.winter ?_
    extract_lets s1 _ s2 s3
    have hs1 : Formed s1 := .ite h.sleepLoss (.ite h.sleepLoss.fallowLoss h)
    have hs2 : Formed s2 := hs1.withPower
    have hs3 : Formed s3 := hs2.bump.raise.noteCapacity
    split
    · exact .ite hs3.beginWarm hs3
    · exact hs3

theorem Formed.wake (h : Formed t) : Formed t.wake := by
  unfold State.wake
  extract_lets s1
  have hs1 : Formed s1 := h.coldReset
  exact .ite hs1.withPower h

/-! ### Steward -/

theorem Formed.updEnd (h : Formed t) {u outcome} : Formed (t.updEnd u outcome) := h.same.logAdd.raise

theorem Formed.updStage (h : Formed t) : Formed t.updStage := .ite h.same.setSlotImg h.same

theorem Formed.stageComplete (h : Formed t) {flashOk} : Formed (t.stageComplete flashOk) := by
  unfold State.stageComplete
  split
  · exact .ite h (.ite h.updEnd (.ite h.updEnd h.setSlotImg.same.updEnd))
  · exact h

theorem Formed.updActivate (h : Formed t) : Formed t.updActivate := h.putBootRec.updEnd

theorem Formed.updConfirm (h : Formed t) : Formed t.updConfirm := h.putBootRec.same.updEnd

theorem Formed.updAbandon (h : Formed t) : Formed t.updAbandon := h.putBootRec.same.updEnd

theorem Formed.updCommand (h : Formed t) {src cmd} : Formed (t.updCommand src cmd) :=
  .ite h.journalAdd.updStage (.ite h.journalAdd.updActivate (.ite h.journalAdd.updConfirm h.journalAdd.updAbandon))

theorem Formed.quoteStart (h : Formed t) : Formed t.quoteStart := h.same

theorem Formed.writeCerts (h : Formed t) : Formed t.writeCerts := h.storeAs

theorem Formed.quoteDone (h : Formed t) : Formed t.quoteDone := by
  unfold State.quoteDone
  extract_lets _ _ s1
  have hs1 : Formed s1 := .ite h.storeAs h
  exact .ite h (Formed.raise hs1.withSteward)
end Sys2Proof.Machine
end

section
/-!
The shape at issue, on the ports and over a step: O7.

A descriptor's window comes from the command that issues it or from the furlong; its channel is a five-bit field.
-/
namespace Sys2Proof.Machine

set_option Elab.async false

variable {s t u : State}

/-! ### Issue -/

theorem Formed.parseWindow (h : Formed t) {w} : Formed (t.parseWindow w) := by
  unfold State.parseWindow
  extract_lets _ s0
  have hs0 : Formed s0 := .ite h.bump h
  refine .ite h ?_
  split
  · exact h
  · exact .ite h.loseFraming (.ite h (.ite hs0.setWin.refuseDesc hs0.setWin))

theorem Formed.noteIssue (h : Formed t) {d step} : Formed (t.noteIssue d step) := by
  unfold State.noteIssue
  split
  · exact h.notePass
  · exact h.rehomeEngine
  · exact h.noteColl
  · exact h.recNext
  · exact h

/-- A descriptor's origin names a window that there is. -/
def OriginOk : Origin → Prop
  | .window w => w < 16
  | .furlong w _ _ _ => w < 16

theorem fld_lt (w : Word512) (hi lo : Nat) : fld w hi lo < 2 ^ (hi + 1 - lo) := Nat.mod_lt _ (Nat.two_pow_pos _)

/-- A descriptor starts with a channel that there is, or with none. -/
theorem State.startProg_ok {d : List Word512} : ProgOk (t.startProg d) := by
  unfold State.startProg
  split
  · unfold State.drillProg
    extract_lets
    split <;> trivial
  · unfold State.collProg
    extract_lets c
    split
    · trivial
    · exact fld_lt (dword d 1) 4 0
  · trivial

theorem Formed.issueFlight (h : Formed t) {origin step d} (ho : OriginOk origin) : Formed (t.issueFlight origin step d) := by
  unfold State.issueFlight
  extract_lets _ _ f s1 s2
  have hf : FlightOk f := ⟨by cases origin <;> exact ho, State.startProg_ok⟩
  have hs1 : Formed s1 := .ite h.openStep.leaveIdle h
  have hs2 : Formed s2 := Formed.noteIssue <| hs1.withFlights fun g hg => by
    rcases List.mem_append.1 hg with hg | hg
    · exact hs1.flights g hg
    · exact List.mem_singleton.1 hg ▸ hf
  exact .ite hs2 hs2.complete

theorem Formed.issueWindow (h : Formed t) {w} (hw : w < 16) : Formed (t.issueWindow w) := by
  unfold State.issueWindow
  extract_lets
  split
  · exact h
  · exact .ite h (.ite h (.ite h.setWin.refuseDesc (Formed.issueFlight (.ite h.setWin.bump.bump h.setWin.bump) hw)))

theorem Formed.runNop (h : Formed t) {id} : Formed (t.runNop id) := by
  unfold State.runNop
  split
  · exact h
  next hf => exact (h.setFlight (h.flightOf hf).keep).complete

theorem Formed.runSignal (h : Formed t) {id} : Formed (t.runSignal id) := by
  unfold State.runSignal
  split
  · exact h
  · exact .ite h.complete h

theorem Formed.setFurlong (h : Formed t) {fu g : Furlong} (hw : g.window < 16) (hg : fu.window = g.window := by rfl) : Formed (t.setFurlong fu) :=
  h.withFurlong fun x hx => by
    cases hx
    exact hg ▸ hw

theorem Formed.beginStep (h : Formed t) {fu : Furlong} {step origin pre} (hw : fu.window < 16) : Formed (t.beginStep fu step origin pre) := by
  unfold State.beginStep
  extract_lets s1 _ _ s2
  have hs1 : Formed s1 := h.setRf
  have hs2 : Formed s2 := .ite (hs1.emptyProbes.withWinnow hs1.areas) hs1
  exact hs2.setFurlong hw

theorem Formed.firstOf (h : Formed t) {fu : Furlong} (hw : fu.window < 16) : Formed (t.firstOf fu) := by
  unfold State.firstOf
  refine .ite h ?_
  split
  · exact h.beginStep hw
  · exact h

theorem Formed.nextExpansion (h : Formed t) {fu : Furlong} (hw : fu.window < 16) : Formed (t.nextExpansion fu) := by
  unfold State.nextExpansion
  split
  · refine .ite ?_ (h.firstOf hw)
    split
    · exact h.beginStep hw
    · exact h
  · exact h.firstOf hw

theorem Formed.issueInstance (h : Formed t) {fu : Furlong} {rest step pre phase t' chunk micro} (hw : fu.window < 16) :
    Formed (t.issueInstance fu rest step pre phase t' chunk micro) :=
  .ite h (.ite (Formed.refuseInstance (h.setFurlong hw)) (Formed.issueFlight (h.setFurlong hw) (origin := .furlong _ _ _ _) hw))

theorem Formed.expandNext (h : Formed t) : Formed t.expandNext := by
  unfold State.expandNext
  split
  · exact h
  next hfu =>
    have hw := h.furlong _ hfu
    refine .ite h ?_
    extract_lets
    split
    · exact .ite h.abortFurlong (h.nextExpansion hw)
    · exact (h.setFurlong hw).furlongCheck
    · exact h.setFurlong hw
    · exact .ite (h.clearFlag.setFurlong hw) h
    · exact .ite h.abortFurlong (h.issueInstance hw)

/-! ### HostWait -/

theorem Formed.refreshWaits (h : Formed t) : Formed t.refreshWaits := h.same

theorem Formed.hostWaitLate (h : Formed t) {i} : Formed (t.hostWaitLate i) := by
  unfold State.hostWaitLate
  split
  · exact h
  · refine .ite h ?_
    extract_lets _ s2 s3
    have hs2 : Formed s2 := h.same.pauseJob.raiseErr
    have hs3 : Formed s3 := by
      unfold s3
      split
      · exact hs2.raise
      · exact hs2
    exact hs3

theorem Formed.almanacTick (h : Formed t) : Formed t.almanacTick := by
  have hs1 : Formed t.refreshWaits.almAdvance.noteIdle := Formed.withPower h.refreshWaits.almAdvance
  exact hs1.same

/-! ### RegRead -/

theorem Formed.settle (h : Formed t) {k i off} : Formed (t.settle k i off) := by
  unfold State.settle
  have hs1 : Formed (t.bumpBy (regAddr k i off) (t.freeBits 64)).drawn := h.bumpBy.drawn
  exact .ite h hs1.same

/-! ### RegWrite -/

theorem Formed.clearCounter (h : Formed t) {a} : Formed (t.clearCounter a) := by
  have hs1 : Formed (t.setReg a 0) := h.setReg
  exact hs1.same

theorem Formed.resetRegs (h : Formed t) {k i} : Formed (t.resetRegs k i) :=
  h.foldl fun _ _ h' => .ite h'.setRf (.ite h'.clearCounter h')

theorem Formed.blockReset (h : Formed t) {k i} : Formed (t.blockReset k i) := by
  unfold State.blockReset
  extract_lets
  split
  · exact h.resetRegs.resetWindow
  · exact h.resetRegs.resumeJob
  · exact h.resetRegs.resetArrayBlock
  · exact h.resetRegs.resetGlean
  · exact h.resetRegs.resetDrill
  · exact h.resetRegs.ttReset
  · exact h.resetRegs.resetSamplePage
  · exact h.resetRegs.resetStreams
  · exact h.resetRegs.dropSteps
  · exact h.resetRegs

theorem Formed.ctrlWrite (h : Formed t) {k i v} : Formed (t.ctrlWrite k i v) := by
  unfold State.ctrlWrite
  extract_lets was on s0 s1 s2
  have hs1 : Formed s1 := Formed.setReg (.ite (.getD h h.enableChannel) h)
  have hs2 : Formed s2 := .ite hs1.enableWinnow (.ite hs1.enablePort.noteCapacity hs1)
  exact .ite hs2.blockReset hs2

theorem Formed.forceReeve (h : Formed t) {place c} : Formed (t.forceReeve place c) :=
  h.drawn.drawn.failReeve

theorem Formed.resetWrite (h : Formed t) {src v} : Formed (t.resetWrite src v) :=
  .ite h.retrainHitch (.ite h.requestWarm h.coldReset)

theorem Formed.writeEffect (h : Formed t) {src k i off v} : Formed (t.writeEffect src k i off v) := by
  unfold State.writeEffect
  extract_lets a old new b
  have hb : Formed b := h.setReg
  have hf : Formed (t.setReg a (bitsOf v 31 0)) := h.setReg
  refine .ite h.ctrlWrite <| .ite h.setReg <| .ite h.setReg.setReg.setReg.setReg <| .ite hb ?_
  split
  · exact .ite (.ite h.resumeJob (.ite h.pauseJob h)) (.ite h.refreshWaits.setReg hb)
  · split
    · exact h.resetWrite
    · exact h.updCommand
    · exact .ite (Formed.writeCerts (.ite h.quoteStart h)) (.ite h.quoteStart h)
    · exact hb
  · split
    · exact hf.same
    · exact h.same
    · exact h.submitRebase
    · exact h.flagControl
    · exact hb
  · split
    · exact h.setTarget
    · exact h.submitChange
    · exact hb
  · exact .ite h.setWin hb
  · exact .ite hb.failCore.noteCapacity hb
  · exact .ite hb.forceArray.noteCapacity hb
  · exact .ite hb.forceEngine.noteCapacity hb
  · exact .ite hb.failStack.noteCapacity hb
  · exact .ite (hb.foldl fun _ _ h' => h'.forceReeve).noteCapacity hb
  · exact .ite (.ite h.emptyCrib h) (.ite hb.emptyCrib hb.emptyWindrow)
  · exact .ite (.getD h h.liveWrite) hb
  · exact .ite hb.enablePort.noteCapacity hb
  · exact .ite (.ite (Formed.noteCapacity (.getD h h.planLoad)) (.ite h.planUnload.noteCapacity h)) hb
  · split
    · exact h.writePair
    · exact h.drainAck
    · exact h.fillReady
    · exact hb
  · split
    · exact h.bankWrite
    · exact h.bankWrite
    · exact h.bankWrite
    · exact hb
  · exact .ite h.ttWrite hb
  · exact .ite hb.trimKept hb
  · split
    · exact h.foldl fun _ _ h' => h'.setReg
    · exact (h.foldl fun _ _ h' => h'.setReg).maskTag
    · exact hb
  all_goals exact hb

theorem Formed.writeJournaled (h : Formed t) {src k i off v} : Formed (t.writeJournaled src k i off v) :=
  Formed.writeEffect (.ite h.journalAdd h)

theorem Formed.journalRefused (h : Formed t) : Formed t.journalRefused := h.bump.raise

theorem Formed.regWrite (h : Formed t) {src a v} : Formed (t.regWrite src a v).st := by
  unfold State.regWrite
  split
  · exact h
  · exact .iteReply h <| .iteReply h <| .iteReply h.journalRefused <| .iteReply h h.writeJournaled

theorem Formed.regRead (h : Formed t) {a} : Formed (t.regRead a).st := by
  unfold State.regRead
  split
  · exact h
  · exact .iteReply h <| .iteReply h <| .ite h.settle.drawn h.settle

/-! ### Port -/

theorem Formed.dwRefused (h : Formed t) {w code} : Formed (t.dwRefused w code).st := h.bump

theorem Formed.dwMoved (h : Formed t) {w} : Formed (t.dwMoved w) := h.setRf.bumpBy.leaveIdle

theorem Formed.dwWrite (h : Formed t) {w data} : Formed (t.dwWrite w data).st :=
  .iteReply h.dwRefused h.store.writeHint.dwMoved

theorem Formed.dwRead (h : Formed t) {w} : Formed (t.dwRead w).st := .iteReply h.dwRefused h.readHint.dwMoved

theorem Formed.wordAccess (h : Formed t) {a write data} : Formed (t.wordAccess a write data).st := by
  unfold State.wordAccess
  split
  · exact h
  · exact .iteReply h <| .iteReply (.iteReply h.dwWrite h.dwRead) <| .iteReply (.iteReply h h.cmdPort) h

theorem Formed.send {r : Reply} (h : Formed r.st) {tag a} : Formed (r.send tag a) := .ite h.respond h.bump.respond

theorem Formed.execRequest (h : Formed t) {kind tag a payload} : Formed (t.execRequest kind tag a payload) :=
  .ite h.regRead.send <| .ite (.ite h.respond.regWrite h.regWrite.send) <| .ite h.wordAccess.send h.wordAccess.send

theorem Formed.holdRequest (h : Formed t) {tag a} : Formed (t.holdRequest tag a) :=
  Formed.same (.ite h.bump h)

theorem Formed.request (h : Formed t) {kind tag a payload} : Formed (t.request kind tag a payload) :=
  .ite (.ite h.holdRequest h.respond) <| .ite h.respond <| .ite (.send h) h.execRequest

theorem Formed.receiveFlit (h : Formed t) {seq header payload} : Formed (t.receiveFlit seq header payload) := by
  unfold State.receiveFlit
  refine .ite h.linkCtrlReceived <| .ite h <| .ite (.ite h.discardFlit h) <| .ite h.discardFlit <| .ite h ?_
  exact .ite h.same.discardFlit h.same.request

theorem Formed.wordWriteFlit (h : Formed t) {seq tag k i data} : Formed (t.wordWriteFlit seq tag k i data) :=
  h.receiveFlit

theorem Formed.wordReadFlit (h : Formed t) {seq tag k i} : Formed (t.wordReadFlit seq tag k i) :=
  h.receiveFlit

/-! ### Mgmt -/

theorem Formed.mgmtAnswer (h : Formed t) {b} : Formed (t.mgmtAnswer b) := h.same

theorem Formed.mgmtExec (h : Formed t) {src write a v} : Formed (t.mgmtExec src write a v).st := by
  unfold State.mgmtExec
  extract_lets s1 r
  have hr : Formed r.st := .iteReply h.bump.regWrite h.bump.regRead
  exact .iteReply hr hr.bump

theorem Formed.mgmtRun (h : Formed t) {src write a v answer answerHeld}
    (ha : ∀ u c d, Formed u → Formed (answer u c d)) : Formed (t.mgmtRun src write a v answer answerHeld) := by
  unfold State.mgmtRun
  split
  · exact .ite (ha _ _ _ h).mgmtExec (ha _ _ _ h.mgmtExec)
  · exact h.same
  · exact .ite h h.mgmtAnswer

theorem Formed.etherAnswer (h : Formed t) {write tag seq a v code data} :
    Formed (t.etherAnswer write tag seq a v code data) :=
  (Formed.same (.ite h h.drawn)).mgmtAnswer

theorem Formed.etherRequest (h : Formed t) {b} : Formed (t.etherRequest b) := by
  unfold State.etherRequest
  refine .ite h <| .ite h.drawn.mgmtAnswer ?_
  split
  · exact .ite h.mgmtAnswer (h.drawn.mgmtRun fun _ _ _ h' => h'.etherAnswer)
  · exact h.drawn.mgmtRun fun _ _ _ h' => h'.etherAnswer

theorem Formed.blockAnswer (h : Formed t) {write code data} : Formed (t.blockAnswer write code data) :=
  .ite h (.ite h.mgmtAnswer h.drawn.mgmtAnswer)

theorem Formed.blockRequest (h : Formed t) {src write a v} : Formed (t.blockRequest src write a v) :=
  .ite h (h.drawn.mgmtRun fun _ _ _ h' => h'.blockAnswer)

theorem Formed.bypass (h : Formed t) {tdi} : Formed (t.bypass tdi) := .ite h.mgmtAnswer h

theorem Formed.scan (h : Formed t) {tdi} : Formed (t.scan tdi) := h.same

theorem Formed.samplePreload (h : Formed t) {tdi} : Formed (t.samplePreload tdi) := .ite h.scan h

theorem Formed.extest (h : Formed t) {tdi} : Formed (t.extest tdi) := .ite h (.ite h.same h.bypass)

theorem Formed.idcode (h : Formed t) : Formed t.idcode := .ite h.mgmtAnswer h

theorem Formed.writeBy (h : Formed t) {via a v} : Formed (t.writeBy via a v) := by
  unfold State.writeBy
  split
  · exact h.receiveFlit
  · exact h.etherRequest
  · exact h.blockRequest
  · exact h.blockRequest

/-! ### The step -/

/-- No command faults, and each keeps the shape. -/
theorem Formed.exec (h : Formed t) (c : Instr) : ∃ u, Machine.exec c t = .next u ∧ Formed u := by
  cases c with
  | registerWrite => exact ⟨_, rfl, h.receiveFlit⟩
  | pgEventClear | pgErrCodeClear | blockReset | pgCtrlEnableWrite | jobPause | jobResume | resumeWrites | resumeIssue
  | reeveForceFail | arrayForceFail | harrowForceFail | winnowEnable | wnConfigWrite | wnSilentMaskWrite
  | tilthLayoutWrite | tilthBankStateWrite | ttControlWrite | granaryForceFail | decCoreForceFail | cribFlush
  | liveStreamEnable | planLoad | planUnload | flagSet | flagClear | ledgerRecordsWrite | rebaseSubmit | drainAck
  | fillReady | pairRequest | unpair | targetRun | targetRest | targetFallow | targetWinter | acChangeCancel
  | warmResetRequest | coldResetRequest | hitchRetrainRequest | stage | activate | confirm | abandon | quote | certs
  | thrChEnable => exact ⟨_, rfl, h.writeBy⟩
  | hitchTrainingStep => exact ⟨_, rfl, h.trainStep⟩
  | hitchTrainingTimeout => exact ⟨_, rfl, h.trainTimeout⟩
  | linkCtrlReceived => exact ⟨_, rfl, h.linkCtrlReceived⟩
  | fecCodewordUncorrectable => exact ⟨_, rfl, h.fecLost⟩
  | replayRequestRepeat => exact ⟨_, rfl, .ite h.sendLinkCtrl h⟩
  | statusWordSend => exact ⟨_, rfl, h.sendLinkCtrl⟩
  | hitchReplayLimit => exact ⟨_, rfl, .ite h.retrainHitch h⟩
  | eventRecordSend => exact ⟨_, rfl, h.sendEvents⟩
  | hostWaitLate => exact ⟨_, rfl, h.hostWaitLate⟩
  | dwPortWrite | cmdPortWrite => exact ⟨_, rfl, h.wordWriteFlit⟩
  | dwPortRead => exact ⟨_, rfl, h.wordReadFlit⟩
  | descriptorParse => exact ⟨_, rfl, h.parseWindow⟩
  | descriptorIssue => exact ⟨_, rfl, h.issueWindow (Fin.isLt _)⟩
  | nop => exact ⟨_, rfl, h.runNop⟩
  | signal => exact ⟨_, rfl, h.runSignal⟩
  | reeveCoreEcc | reeveWatchdog => exact ⟨_, rfl, h.reeveFault⟩
  | hedgeFlitCrcFail => exact ⟨_, rfl, h.hedgeReplay⟩
  | hedgeRerouted => exact ⟨_, rfl, h.hedgeReroute⟩
  | hedgeFieldLost => exact ⟨_, rfl, h.hedgeLost⟩
  | pass => exact ⟨_, rfl, h.takePass⟩
  | passShadowLoadStart => exact ⟨_, rfl, h.loadStart⟩
  | passShadowLoadDone => exact ⟨_, rfl, h.loadDone⟩
  | passSwap => exact ⟨_, rfl, h.swapPass⟩
  | passRowEnter => exact ⟨_, rfl, h.enterRow⟩
  | passRowAdd => exact ⟨_, rfl, h.addRow⟩
  | passComplete => exact ⟨_, rfl, h.completePass⟩
  | arrayFail =>
    refine ⟨_, rfl, Formed.noteCapacity ?_⟩
    split
    · exact h.failArray
    · exact h
  | helperReissue => exact ⟨_, rfl, h.reissueArray⟩
  | readout => exact ⟨_, rfl, h.readoutRow⟩
  | preload => exact ⟨_, rfl, h.preloadRow⟩
  | clear => exact ⟨_, rfl, h.clearRow⟩
  | saveRaw => exact ⟨_, rfl, h.saveRow⟩
  | loadRaw => exact ⟨_, rfl, h.loadRow⟩
  | reduce => exact ⟨_, rfl, h.reduceRow⟩
  | gleanEcc => exact ⟨_, rfl, h.gleanEcc⟩
  | map => exact ⟨_, rfl, h.mapChunk⟩
  | rowReduce => exact ⟨_, rfl, h.rowReduceUnit⟩
  | softmax => exact ⟨_, rfl, h.softmaxUnit⟩
  | norm => exact ⟨_, rfl, h.normUnit⟩
  | optim => exact ⟨_, rfl, h.optimUnit⟩
  | harrowUnitDeal => exact ⟨_, rfl, h.dealUnit⟩
  | harrowEngineFail => exact ⟨_, rfl, h.engineCheck.noteCapacity⟩
  | closeStep => exact ⟨_, rfl, h.runCloseStep⟩
  | setTags => exact ⟨_, rfl, h.runSetTags⟩
  | saveState => exact ⟨_, rfl, h.runSaveState⟩
  | loadState => exact ⟨_, rfl, h.runLoadState⟩
  | probe => exact ⟨_, rfl, h.runProbe⟩
  | bankTransitionStart => exact ⟨_, rfl, h.bankStart⟩
  | bankTransitionDone => exact ⟨_, rfl, h.bankDone⟩
  | tilthEccUncorrectable => exact ⟨_, rfl, h.tilthEcc⟩
  | tilthEccWriteback => exact ⟨_, rfl, h.tilthWriteback⟩
  | plotTestStart => exact ⟨_, rfl, h.plotStart⟩
  | plotTestEnd => exact ⟨_, rfl, h.plotEnd⟩
  | plotTestSteal => exact ⟨_, rfl, h.plotSteal⟩
  | fill => exact ⟨_, rfl, h.runFill⟩
  | demote => exact ⟨_, rfl, h.runDemote⟩
  | granaryEcc => exact ⟨_, rfl, h.granaryEcc.noteCapacity⟩
  | granaryScrub => exact ⟨_, rfl, h.granaryScrub.noteCapacity⟩
  | granaryRefresh | uartFrameTimeout => exact ⟨_, rfl, h⟩
  | granaryTempRead => exact ⟨_, rfl, h.granaryTemp.noteCapacity⟩
  | granaryRetrain => exact ⟨_, rfl, h.granaryRetrain.noteCapacity⟩
  | freshBlockZero => exact ⟨_, rfl, h.zeroFresh⟩
  | granaryStackFail => exact ⟨_, rfl, h.stackFails.noteCapacity⟩
  | copy => exact ⟨_, rfl, h.copyRow⟩
  | ringSetup => exact ⟨_, rfl, h.ringSetup⟩
  | ringCredit => exact ⟨_, rfl, h.ringCredit⟩
  | drillCancel => exact ⟨_, rfl, h.cancelField⟩
  | drillStart => exact ⟨_, rfl, h.drillStart⟩
  | drillComplete => exact ⟨_, rfl, h.drillComplete⟩
  | headlandGateOpen => exact ⟨_, rfl, h.openGate⟩
  | decode => exact ⟨_, rfl, h.runDecode⟩
  | coulterCancel => exact ⟨_, rfl, h.runCoulterCancel⟩
  | sampleStart => exact ⟨_, rfl, h.sampleStart⟩
  | arenaAllocate => exact ⟨_, rfl, h.arenaAllocate⟩
  | decodeSyntaxUnit => exact ⟨_, rfl, h.syntaxUnit⟩
  | decCoreHung => exact ⟨_, rfl, h.coreHung.noteCapacity⟩
  | decCoreEcc => exact ⟨_, rfl, h.failCore.noteCapacity⟩
  | batch => exact ⟨_, rfl, h.runBatch⟩
  | batchStart => exact ⟨_, rfl, h.batchStart⟩
  | batchSeal => exact ⟨_, rfl, h.sealBatch⟩
  | windrowRelease => exact ⟨_, rfl, h.releaseWindrow⟩
  | livePacket => exact ⟨_, rfl, .ite h.livePacket h⟩
  | liveTake => exact ⟨_, rfl, h.liveTake⟩
  | liveWaitExpiry => exact ⟨_, rfl, h.liveExpire⟩
  | liveStreamLost => exact ⟨_, rfl, h.liveLost⟩
  | allReduce | reduceScatter | thrReduce => exact ⟨_, rfl, h.runReduction⟩
  | verdict => exact ⟨_, rfl, h.runVerdict⟩
  | thresherCancel => exact ⟨_, rfl, h.runThrCancel⟩
  | broadcast | allGather | allToAll => exact ⟨_, rfl, h.runDelivery⟩
  | collectiveStart => exact ⟨_, rfl, h.collStart⟩
  | readyToken => exact ⟨_, rfl, h.readyToken⟩
  | deadlineExpiry => exact ⟨_, rfl, h.deadlineExpiry⟩
  | sealMade => exact ⟨_, rfl, h.sealColl⟩
  | sealReceived => exact ⟨_, rfl, h.sealReceived⟩
  | sealResendRequest => exact ⟨_, rfl, h.sealResend⟩
  | thrNoSeal => exact ⟨_, rfl, h.noSeal⟩
  | blockReceived => exact ⟨_, rfl, h.blockReceived.noteCapacity⟩
  | segmentAck => exact ⟨_, rfl, h.segmentAck⟩
  | dataLimitExpiry => exact ⟨_, rfl, h.dataLimitExpiry⟩
  | peerReport => exact ⟨_, rfl, h.peerReport⟩
  | reportDecision => exact ⟨_, rfl, h.reportDecision⟩
  | childDetach => exact ⟨_, rfl, h.childDetach⟩
  | repairRequest => exact ⟨_, rfl, h.repairRequest⟩
  | collectiveComplete => exact ⟨_, rfl, h.collComplete⟩
  | repairLimitExpiry => exact ⟨_, rfl, h.repairExpiry⟩
  | swathLinkDown => exact ⟨_, rfl, h.laneFails.noteCapacity⟩
  | swathLinkRetrain => exact ⟨_, rfl, h.retrainLink.noteCapacity⟩
  | laserLow => exact ⟨_, rfl, h.laserLow.noteCapacity⟩
  | laserRestored => exact ⟨_, rfl, h.laserRestored⟩
  | pfcPause => exact ⟨_, rfl, h.pfcPause⟩
  | dataReceived => exact ⟨_, rfl, h.dataReceived⟩
  | ackReceived => exact ⟨_, rfl, h.ackReceived⟩
  | nackReceived => exact ⟨_, rfl, h.nackReceived⟩
  | ackTimer => exact ⟨_, rfl, h.ackTimer⟩
  | rtoExpiry => exact ⟨_, rfl, h.rtoExpiry⟩
  | probeReceived => exact ⟨_, rfl, h.probeReceived⟩
  | probeReplyReceived => exact ⟨_, rfl, h.probeReply⟩
  | probeTimer => exact ⟨_, rfl, h.probeTimer⟩
  | peerUnreachable => exact ⟨_, rfl, h.peerUnreachable⟩
  | swathWrite => exact ⟨_, rfl, h.swathWrite⟩
  | swathRead => exact ⟨_, rfl, h.swathRead⟩
  | swathCancel => exact ⟨_, rfl, h.swathCancel⟩
  | lldpSend => exact ⟨_, rfl, h.lldpSend⟩
  | lldpReceived => exact ⟨_, rfl, h.lldpReceived.noteCapacity⟩
  | discoveryLimit => exact ⟨_, rfl, h.discoveryLimit.noteCapacity⟩
  | ptpMessage => exact ⟨_, rfl, h.ptpMessage⟩
  | almanacTick => exact ⟨_, rfl, h.almanacTick⟩
  | almanacMeasurement => exact ⟨_, rfl, h.ptpMeasurement⟩
  | ppsInEdge => exact ⟨_, rfl, h.ppsEdge⟩
  | almanacHoldover => exact ⟨_, rfl, h.enterHoldover⟩
  | launchGateFire => exact ⟨_, rfl, h.fireGate⟩
  | waitMet => exact ⟨_, rfl, h.examineWaits⟩
  | furlongRun => exact ⟨_, rfl, h.runFurlong⟩
  | furlongStop => exact ⟨_, rfl, h.stopFurlong⟩
  | stepExpansion => exact ⟨_, rfl, h.expandNext⟩
  | phaseComplete => exact ⟨_, rfl, h.phaseComplete⟩
  | stepComplete => exact ⟨_, rfl, h.stepComplete⟩
  | rebase => exact ⟨_, rfl, h.rebase⟩
  | commit => exact ⟨_, rfl, h.runCommit⟩
  | buddySend => exact ⟨_, rfl, h.runBuddySend⟩
  | buddySealReceived => exact ⟨_, rfl, h.buddySealed⟩
  | stookTake => exact ⟨_, rfl, h.runStook⟩
  | stookStaged => exact ⟨_, rfl, h.stookStaged⟩
  | refill => exact ⟨_, rfl, h.runRefill⟩
  | pairingMessage => exact ⟨_, rfl, h.pairingMessage⟩
  | powerStateReached => exact ⟨_, rfl, h.powerReached⟩
  | idleEntry => exact ⟨_, rfl, h.idleEntry⟩
  | fallowHitchWake => exact ⟨_, rfl, h.hitchWake⟩
  | governorWindow => exact ⟨_, rfl, h.governorWindow⟩
  | junctionSensorRead => exact ⟨_, rfl, h.junctionRead⟩
  | thermalStep => exact ⟨_, rfl, h.thermalStep⟩
  | droopTrip => exact ⟨_, rfl, h.droopTrip⟩
  | droopStretchEnd => exact ⟨_, rfl, h.stretchEnd⟩
  | acChangeSubmit => exact ⟨_, rfl, h.writeBy.writeBy⟩
  | acVoltageRamp => exact ⟨_, rfl, h.voltageRamp⟩
  | acChange => exact ⟨_, rfl, h.acChange⟩
  | titheSample => exact ⟨_, rfl, h.titheSample⟩
  | titheSelfCheck => exact ⟨_, rfl, h.titheCheck⟩
  | titheRollover => exact ⟨_, rfl, h.titheRollover⟩
  | tithePowerLoss => exact ⟨_, rfl, h.titheLoss⟩
  | tithePowerReturn => exact ⟨_, rfl, h.titheReturn⟩
  | titheCheckpoint => exact ⟨_, rfl, h.titheCheckpoint⟩
  | titheTamper => exact ⟨_, rfl, h.titheTamper⟩
  | ident => exact ⟨_, rfl, h.uartIdent⟩
  | status => exact ⟨_, rfl, h.uartStatus⟩
  | readRecord => exact ⟨_, rfl, h.uartRecord⟩
  | readNow => exact ⟨_, rfl, h.uartNow⟩
  | jobMark => exact ⟨_, rfl, h.uartMark⟩
  | tamperLog => exact ⟨_, rfl, h.uartTamper⟩
  | mirrorSnapshot => exact ⟨_, rfl, h.mirrorSnapshot⟩
  | mirrorRecordArrival => exact ⟨_, rfl, h.mirrorRecord⟩
  | titheMirrorStale => exact ⟨_, rfl, h.mirrorStale⟩
  | strapSample => exact ⟨_, rfl, h.strapSample⟩
  | bringupStageComplete => exact ⟨_, rfl, h.stageDone.noteCapacity⟩
  | stageTimeout => exact ⟨_, rfl, h.stageTimeout.noteCapacity⟩
  | warmResetStage => exact ⟨_, rfl, h.warmStage.noteCapacity⟩
  | mainInputApplied => exact ⟨_, rfl, h.mainInput⟩
  | standbyApplied => exact ⟨_, rfl, h.standbyInput⟩
  | resetN => exact ⟨_, rfl, h.resetPin⟩
  | stageComplete => exact ⟨_, rfl, h.stageComplete⟩
  | journalPageWrite => exact ⟨_, rfl, h.journalPage⟩
  | mgmtRequest => exact ⟨_, rfl, h.etherRequest⟩
  | smbusRead | smbusWrite => exact ⟨_, rfl, .ite h.blockRequest h⟩
  | wake => exact ⟨_, rfl, .ite h.wake h⟩
  | jtagRegisterAccess => exact ⟨_, rfl, h.blockRequest⟩
  | idcode => exact ⟨_, rfl, h.idcode⟩
  | extest => exact ⟨_, rfl, h.extest⟩
  | bypass => exact ⟨_, rfl, h.bypass⟩
  | samplePreload => exact ⟨_, rfl, h.samplePreload⟩
  | vinLow => exact ⟨_, rfl, h.vinLow⟩
  | vinHigh => exact ⟨_, rfl, h.vinHigh⟩
  | vstbyLow => exact ⟨_, rfl, h.vstbyLow⟩
  | refclkLost => exact ⟨_, rfl, h.refclkLost⟩
  | mclkLost => exact ⟨_, rfl, h.mclkLost⟩
  | mclkReturn => exact ⟨_, rfl, h.mclkReturn⟩
  | harrowUnitComplete => exact ⟨_, rfl, h.unitComplete⟩
  | gleanDescriptorComplete => exact ⟨_, rfl, h.completeGlean⟩
  | quoteDone => exact ⟨_, rfl, h.quoteDone⟩
  | ptpSyncSend => exact ⟨_, rfl, h.ptpSyncSend⟩

/-- Every step keeps the shape: an idle step changes nothing, any other executes a command. -/
theorem Formed.of_stepsTo (hs : Formed s) (h : StepsTo s t) : Formed t := by
  unfold StepsTo step at h
  split at h
  · cases h
    exact hs
  · next c rest _ =>
    have hrest : Formed { s with pending := rest } := hs.same
    obtain ⟨u, hu, hk⟩ := hrest.exec c
    cases hu.symm.trans h
    exact hk

/-- Settles O7: the shape is `Formed`, and every command keeps it. -/
theorem stepKeepsShape : Obligations.StepKeepsShape := by
  unfold Obligations.StepKeepsShape
  exact fun s t hs h => formed_iff.1 (Formed.of_stepsTo (formed_iff.2 hs) h)
end Sys2Proof.Machine
end

section
/-!
Furrow arrays and the passes on them: what a pass in flight holds, what a row's way to Glean leaves, and the state of an array.
-/
namespace Sys2Proof.Machine

set_option Elab.async false

variable {s t u : State} {id a : Nat} {f g : Flight} {p : PassF} {q r : PassProg}

/-! ### The program of a pass in flight -/

theorem State.passProg_congr (h : t.flights = s.flights) : t.passProg id = s.passProg id := by
  simp only [State.passProg, State.flight, h]

/-- A pass in flight holds the program that it is given. -/
theorem State.passProg_setFlight (hf : s.flightOf id 1 1 = some f) (hid : g.id = f.id) (hprog : g.pass? = some q) :
    (s.setFlight g).passProg id = some q := by
  have hflight := State.flight_of_flightOf hf
  rw [State.passProg, State.flight_setFlight hflight (hid.trans (State.flight_id hflight)), Option.bind_some, hprog]

theorem State.passProg_setProg (hf : s.flightOf id 1 1 = some f) (q : PassProg) :
    (s.setFlight { f with prog := .pass q }).passProg id = some q := State.passProg_setFlight hf rfl rfl

theorem State.passProg_bumpBy (s : State) (id a n : Nat) : (s.bumpBy a n).passProg id = s.passProg id := rfl

theorem State.passProg_setArray (s : State) (id i : Nat) (x : ArraySt) : (s.setArray i x).passProg id = s.passProg id := rfl

theorem Flight.prog_of_pass? (h : f.pass? = some q) : f.prog = .pass q := by
  unfold Flight.pass? at h
  split at h
  next hprog => rw [hprog, Option.some.inj h]
  next => cases h

/-! ### Loads given up on a helper (R570) -/

/-- A flight of which hosted work takes the plane that it was loading. -/
def Flight.giveUpLoad (helper : Nat) (p : PassF) (g : Flight) : Flight :=
  match g.prog with
  | .pass q =>
    if (passF g.words).array == helper && q.runner == helper && !q.swapped && q.load != .idle && quadsMeet (passF g.words) p then
      { g with prog := Prog.pass { q with load := .idle, tile := none } }
    else g
  | _ => g

theorem State.giveUpLoads_eq (s : State) (helper : Nat) (p : PassF) :
    s.giveUpLoads helper p = { s with flights := s.flights.map (Flight.giveUpLoad helper p) } := rfl

theorem State.giveUpLoads_arrays (s : State) (helper : Nat) (p : PassF) : (s.giveUpLoads helper p).arrays = s.arrays := rfl

theorem Flight.giveUpLoad_id (helper : Nat) (p : PassF) (g : Flight) : (g.giveUpLoad helper p).id = g.id := by
  unfold Flight.giveUpLoad
  split
  · split <;> rfl
  · rfl

/-- A pass with no load has none to give up. -/
theorem Flight.giveUpLoad_idle {helper : Nat} (hprog : g.prog = .pass q) (hidle : q.load = .idle) : g.giveUpLoad helper p = g := by
  simp [Flight.giveUpLoad, hprog, hidle]

theorem State.passProg_giveUpLoads {helper : Nat} (hprog : s.passProg id = some q) (hidle : q.load = .idle) :
    (s.giveUpLoads helper p).passProg id = some q := by
  obtain ⟨g, hg, hq⟩ : ∃ g, s.flight id = some g ∧ g.pass? = some q := Option.bind_eq_some_iff.1 hprog
  have hflight : (s.giveUpLoads helper p).flight id = some g := by
    have hids : (fun x : Flight => x.id == id) ∘ Flight.giveUpLoad helper p = fun x => x.id == id :=
      funext fun x => by rw [Function.comp_apply, Flight.giveUpLoad_id]
    rw [State.giveUpLoads_eq, State.flight, List.find?_map, hids]
    change (s.flight id).map _ = _
    rw [hg, Option.map_some, Flight.giveUpLoad_idle (Flight.prog_of_pass? hq) hidle]
  rw [State.passProg, hflight, Option.bind_some, hq]

/-! ### The row feed (R297) -/

/-- The row feed leaves a pass's tile, its swap and its pipeline alone. -/
structure FeedOnly (q r : PassProg) : Prop where
  tile : r.tile = q.tile
  swapped : r.swapped = q.swapped
  pipe : r.pipe = q.pipe
  nextEnter : r.nextEnter = q.nextEnter

theorem State.fillFifo_feedOnly (s : State) (p : PassF) (x : OpF) (n : Nat) (q : PassProg) : FeedOnly q (s.fillFifo p x n q) := by
  induction n generalizing q with
  | zero => exact ⟨rfl, rfl, rfl, rfl⟩
  | succ n ih =>
    unfold State.fillFifo
    split
    · exact ⟨rfl, rfl, rfl, rfl⟩
    · split
      · exact ⟨rfl, rfl, rfl, rfl⟩
      · obtain ⟨htile, hswapped, hpipe, henter⟩ := ih { q with fifo := q.fifo ++ [s.readXRow p x q.nextRead], nextRead := q.nextRead + 1 }
        exact ⟨htile, hswapped, hpipe, henter⟩

/-! ### A row applied to Glean -/

theorem State.setGmeta_flights (s : State) (f r m : Nat) : (s.setGmeta f r m).flights = s.flights := rfl

theorem State.zeroRow_flights (s : State) (f r : Nat) : (s.zeroRow f r).flights = s.flights := rfl

theorem State.setAcc_flights (s : State) (f r c v : Nat) : (s.setAcc f r c v).flights = s.flights := State.putBytes_flights ..

theorem State.setPend_flights (s : State) (f r c : Nat) (x : Pend) : (s.setPend f r c x).flights = s.flights :=
  (State.setAcc_flights ..).trans (State.setAcc_flights ..)

theorem State.setAccs_flights (s : State) (f r c : Nat) (vs : List Nat) : (s.setAccs f r c vs).flights = s.flights := by
  induction vs generalizing s c with
  | nil => rfl
  | cons v vs ih => rw [State.setAccs, ih, State.setAcc_flights]

theorem State.leafCols_flights (s : State) (f r leaf leaves fill c : Nat) (vs : List Nat) :
    (s.leafCols f r leaf leaves fill c vs).flights = s.flights := by
  induction vs generalizing s c with
  | nil => rfl
  | cons v vs ih => rw [State.leafCols, ih, State.setPend_flights]

theorem State.toL96Row_flights (s : State) (f r : Nat) : (s.toL96Row f r).flights = s.flights := by
  unfold State.toL96Row
  dsimp only []
  split <;> rfl

theorem State.rowInit_flights (s : State) (f r col : Nat) (e : Int) (vals : List Nat) : (s.rowInit f r col e vals).flights = s.flights :=
  (State.setAccs_flights ..).trans (State.toL96Row_flights s f r)

theorem State.rowLeaf_flights (s : State) (f r col leaf leaves : Nat) (init : Bool) (vals : List Nat) :
    (s.rowLeaf f r col leaf leaves init vals).flights = s.flights := by
  unfold State.rowLeaf
  dsimp only []
  split
  · rw [State.leafCols_flights, State.setGmeta_flights, State.zeroRow_flights]
  · rw [State.setGmeta_flights, State.leafCols_flights]

/-- Applying a row leaves every descriptor in flight. -/
theorem State.applyRow_flights (s : State) (p : PassF) (row : Nat) (vals : List Nat) : (s.applyRow p row vals).1.flights = s.flights := by
  unfold State.applyRow
  dsimp only []
  split
  · split
    · exact State.rowLeaf_flights ..
    · rfl
  · split
    · exact State.rowInit_flights ..
    · split
      · exact State.setAccs_flights ..
      · rfl

/-! ### What counting and reporting a row leaves -/

/-- Descriptors in flight and Glean's row metadata are as before. -/
structure SameRows (s t : State) : Prop where
  flights : t.flights = s.flights
  gleanMeta : t.gleanMeta = s.gleanMeta

theorem SameRows.refl (s : State) : SameRows s s := ⟨rfl, rfl⟩

theorem SameRows.ite {c : Prop} {_ : Decidable c} (ht : SameRows s t) (hu : SameRows s u) : SameRows s (if c then t else u) := by
  split <;> assumption

theorem SameRows.bump (h : SameRows s t) : SameRows s (t.bump a) := ⟨h.flights, h.gleanMeta⟩

theorem SameRows.putBytes (h : SameRows s t) {bs : List Byte} : SameRows s (t.putBytes a bs) := ⟨h.flights, h.gleanMeta⟩

theorem SameRows.reportFlight (h : SameRows s t) {field : Nat} {tally : Tally} : SameRows s (t.reportFlight field f tally) := by
  unfold State.reportFlight State.report
  exact .ite h <| .ite (.ite h.putBytes h) <| .ite (.ite ⟨h.flights, h.gleanMeta⟩ h.bump) <| .ite h.putBytes h

/-! ### The state of an array -/

theorem State.array_setArray {i : Nat} {x : ArraySt} (hi : i < s.arrays.length) : (s.setArray i x).array i = x := by
  simp [State.array, State.setArray, hi]

theorem ArraySt.exchange_shape (x : ArraySt) (p : PassF) (tile : Option Tile) : (x.exchange p tile).shape = p.shape := rfl

/-- The oldest row in the pipeline of a pass stands before its checks: its array works, and no row is to go before it (R117). -/
structure State.RowAtChecks (s : State) (id : Nat) (f : Flight) (q : PassProg) (r : RowData) (rest : List RowData) (w : Tile) : Prop where
  flight : s.flightOf id 1 1 = some f
  prog : f.pass? = some q
  pipe : q.pipe = r :: rest
  tile : q.tile = some w
  works : s.arrayWorks q.runner = true
  sound : (s.array q.runner).fault = none
  served : s.lost (passF f.words).array = false
  first : s.rowsAhead id (passF f.words) q = false

end Sys2Proof.Machine
end

section
/-!
A PASS from its take-up to its end (O21).
-/
namespace Sys2Proof.Machine

set_option Elab.async false

variable {s : State} {id stalls : Nat} {f : Flight} {q : PassProg} {r : RowData} {rest : List RowData} {w : Tile}

theorem exec_pass : exec (.pass id) s = .next (s.takePass id) := rfl
theorem exec_passShadowLoadStart : exec (.passShadowLoadStart id) s = .next (s.loadStart id) := rfl
theorem exec_passShadowLoadDone : exec (.passShadowLoadDone id) s = .next (s.loadDone id) := rfl
theorem exec_passSwap : exec (.passSwap id stalls) s = .next (s.swapPass id stalls) := rfl
theorem exec_passRowEnter : exec (.passRowEnter id stalls) s = .next (s.enterRow id stalls) := rfl
theorem exec_passRowAdd {e : Option CheckFault} : exec (.passRowAdd id e) s = .next (s.addRow id e) := rfl
theorem exec_passComplete : exec (.passComplete id) s = .next (s.completePass id) := rfl

/-- A pass that is taken up starts with no tile loaded, on its array or on the array that hosts it (R131, R146). -/
theorem State.takePass_prog (hf : s.flightOf id 1 1 = some f) (hprog : f.prog = .none) (hend : f.ending = none) (hblock : s.takeBlocked f = false)
    (hpred : (passF f.words).reuse = false ∨ ((s.array (passF f.words).array).quad (passF f.words).quadrant).predGone = false) :
    ∃ key, (s.takePass id).passProg id =
      some (PassProg.start key (((s.array (passF f.words).array).hostedBy).getD (passF f.words).array)) := by
  have hlost : ((passF f.words).reuse && ((s.array (passF f.words).array).quad (passF f.words).quadrant).predGone && (passF f.words).m != 0) = false := by
    rcases hpred with h | h <;> simp [h]
  simp only [State.takePass, hf, hprog, hend, hblock, hlost, bne_self_eq_false, Option.isSome_none, Bool.or_self, Bool.false_eq_true, if_false]
  generalize (if (passF f.words).reuse = true then _ else _ : PassKey) = key
  refine ⟨key, ?_⟩
  have htaken : (s.setFlight { f with
      prog := .pass (PassProg.start key (((s.array (passF f.words).array).hostedBy).getD (passF f.words).array))
      started := true
      ending := none }).passProg id = some (PassProg.start key (((s.array (passF f.words).array).hostedBy).getD (passF f.words).array)) :=
    State.passProg_setFlight hf rfl rfl
  split
  · exact htaken
  · split
    · exact htaken
    · exact State.passProg_giveUpLoads htaken rfl

/-- A pass whose load may begin: its wait is met, its array works and is enabled, and the passes before need no plane more (R114, R148). -/
structure State.MayLoad (s : State) (id : Nat) (f : Flight) (q : PassProg) : Prop where
  flight : s.flightOf id 1 1 = some f
  prog : f.pass? = some q
  idle : q.load = .idle
  unswapped : q.swapped = false
  kept : q.cancelled = false
  fed : q.feedStopped = false
  rows : 0 < (passF f.words).m
  wait : f.wait = none ∨ f.waitMet = true
  works : s.arrayWorks q.runner = true
  enabled : s.enabled .furrow (passF f.words).array = true
  ownTile : s.takesActive (passF f.words) q = false
  before : (s.passesBefore id (passF f.words) q.runner).all (fun g => g.2.swapped || g.2.cancelled || g.2.feedStopped ||
    s.takesActive (passF g.1.words) g.2) = true

/-- A load that may begin begins (R114, R122, R148). -/
theorem State.loadStart_prog (h : s.MayLoad id f q) : (s.loadStart id).passProg id = some { q with load := .loading, begun := true } := by
  obtain ⟨hf, hq, hidle, hswap, hcancel, hfeed, hrows, hwait, hworks, hon, hown, hbefore⟩ := h
  have hmet : (f.wait.isNone || f.waitMet) = true := by
    rcases hwait with h | h <;> simp [h]
  have hrun : s.loadStart id = s.setFlight { f with prog := .pass { q with load := .loading, begun := true } } := by
    simp [State.loadStart, hf, hq, hidle, hswap, hcancel, hfeed, hrows, hmet, hworks, State.arrayTakes, hon, hown, hbefore]
  rw [hrun, State.passProg_setProg hf]

/-- A pass as the load of its tile reads it: the masks are those of the pass that the tile belongs to. -/
def Flight.tilePass (f : Flight) (q : PassProg) : PassF := { passF f.words with reuse := false, maskW := q.key.masked }

/-- A load that ends has filled its plane, or has met poison and left it empty (R112, R257). -/
theorem State.loadDone_prog (hf : s.flightOf id 1 1 = some f) (hq : f.pass? = some q) (hload : q.load = .loading) :
    (s.loadDone id).passProg id = some
      (if s.rangesPoisoned (wRanges (f.tilePass q) (opF q.key.source)) then { q with load := .idle, feedStopped := true }
      else { q with load := .full, tile := some ((s.readTile (f.tilePass q) (opF q.key.source)).recorded (f.tilePass q)) }) := by
  have hgo : (q.load != .loading) = false := by rw [hload]; rfl
  unfold Flight.tilePass
  simp only [State.loadDone, hf, hq, hgo, Bool.false_eq_true, if_false]
  split
  · exact State.passProg_setProg hf _
  · exact State.passProg_setProg hf _

/-- A pass that may swap: its shadow plane is full, its gate has fired, and the rows before have entered (R113, R116). -/
structure State.MaySwap (s : State) (id : Nat) (f : Flight) (q : PassProg) : Prop where
  flight : s.flightOf id 1 1 = some f
  prog : f.pass? = some q
  full : q.load = .full
  unswapped : q.swapped = false
  kept : q.cancelled = false
  fired : f.fired = true
  works : s.arrayWorks q.runner = true
  clear : entryClear (passF f.words) (s.passesBefore id (passF f.words) q.runner) = true

/-- A swap that may take place: the planes exchange and the cycles lost are counted (R112, R113). -/
theorem State.swapPass_eq (h : s.MaySwap id f q) :
    s.swapPass id stalls = ((s.setFlight { f with prog := .pass (s.fillFifo (passF f.words) (opF (dword f.words 2)) 32 { q with
        swapped := true
        turn := s.nextTurn q.runner
        gating := bitOf (s.reg (furrowReg q.runner 0x100)) 0 }) }).setArray q.runner
          ((s.array q.runner).exchange (passF f.words) q.tile)).bumpBy (furrowReg q.runner 0x138) stalls := by
  obtain ⟨hf, hq, hload, hswap, hcancel, hfired, hworks, hclear⟩ := h
  simp [State.swapPass, hf, hq, hload, hswap, hcancel, hfired, hworks, hclear]

/-- The oldest row that the feed has read stands before an array that may latch it: the pass has swapped and its gate has fired (R115, R117). -/
structure State.RowAtEntry (s : State) (id : Nat) (f : Flight) (q : PassProg) (r : RowData) (rest : List RowData) (w : Tile) : Prop where
  flight : s.flightOf id 1 1 = some f
  prog : f.pass? = some q
  swapped : q.swapped = true
  fifo : q.fifo = r :: rest
  tile : q.tile = some w
  fired : f.fired = true
  kept : q.cancelled = false
  works : s.arrayWorks q.runner = true
  sound : (s.array q.runner).fault = none

/-- A row enters the pipeline of a pass that has swapped (R115, R117). -/
theorem State.enterRow_entered (h : s.RowAtEntry id f q r rest w) :
    ∃ x, (s.enterRow id stalls).passProg id = some x ∧ x.pipe = q.pipe ++ [r] ∧ x.nextEnter = q.nextEnter + 1 := by
  obtain ⟨hf, hq, hswap, hfifo, htile, hfired, hcancel, hworks, hsound⟩ := h
  simp only [State.enterRow, hf, hq, hswap, hfifo, htile, hfired, hcancel, hworks, hsound, Bool.not_true, Bool.not_false, Bool.false_and,
    Bool.false_eq_true, if_false, Bool.and_self, Option.isNone_none, if_true, State.passProg_bumpBy, State.passProg_setArray]
  exact ⟨_, State.passProg_setFlight hf rfl rfl, (State.fillFifo_feedOnly ..).pipe, (State.fillFifo_feedOnly ..).nextEnter⟩

/-- A row that passes its checks leaves the pipeline for Glean; what it counts and reports changes nothing else of the passes (R117). -/
theorem State.addRow_added (h : s.RowAtChecks id f q r rest w) :
    (∃ x, (s.addRow id none).passProg id = some x ∧ x.pipe = rest ∧ x.nextAdd = r.index + 1) ∧
    (s.addRow id none).gleanMeta =
      (s.applyRow (passF f.words) ((passF f.words).gleanRow + r.index) (rowSums (passF f.words) w r).vals).1.gleanMeta := by
  obtain ⟨hf, hq, hpipe, htile, hworks, hsound, hserved, hfirst⟩ := h
  have hgo : (!s.arrayWorks q.runner || (s.array q.runner).fault.isSome || s.lost (passF f.words).array || s.rowsAhead id (passF f.words) q) = false := by
    simp [hworks, hsound, hserved, hfirst]
  obtain ⟨x, hx, hadd, hlast⟩ : ∃ x : PassProg, SameRows
      ((s.applyRow (passF f.words) ((passF f.words).gleanRow + r.index) (rowSums (passF f.words) w r).vals).1.setFlight { f with prog := .pass x })
      (s.addRow id none) ∧ x.pipe = rest ∧ x.nextAdd = r.index + 1 := by
    simp -zeta only [State.addRow, hf, hq, hpipe, htile]
    extract_lets p a rc sums ap code q1 s1 s2 s3
    rw [if_neg (Bool.eq_false_iff.1 hgo)]
    have hs2 : SameRows s1 s2 := .ite (SameRows.refl s1).bump.bump (.refl s1)
    have hs3 : SameRows s1 s3 := .ite hs2.bump hs2
    have hdone : SameRows s1 (if ap.2 then s3.reportFlight p.array f (rowTally p w (!q.tileCounted) r sums) else s3) := .ite hs3.reportFlight hs3
    exact ⟨q1, hdone, rfl, rfl⟩
  refine ⟨⟨x, ?_, hadd, hlast⟩, hx.gleanMeta⟩
  have hset : (s.setFlight { f with prog := .pass x }).passProg id = some x := State.passProg_setProg hf x
  rw [State.passProg_congr hx.flights, ← hset]
  exact State.passProg_congr (by simp only [State.setFlight, State.applyRow_flights])

/-- A pass completes once its last row has been added (R148, R149). -/
theorem State.completePass_eq (hf : s.flightOf id 1 1 = some f) (hq : f.pass? = some q) (hpipe : q.pipe = []) (hend : f.ending = none)
    (hrows : 0 < (passF f.words).m) (hlast : (passF f.words).m ≤ q.nextAdd) : s.completePass id = s.complete id (q.skipped.getD 0) := by
  have hm : (passF f.words).m ≠ 0 := by omega
  simp [State.completePass, hf, hq, hpipe, hend, hm, hlast]

/-- Settles O21: each command by what it leaves of the pass's program, the end by what a completion leaves. -/
theorem passRuns : Obligations.PassRuns := by
  unfold Obligations.PassRuns
  refine ⟨?_, ?_, ?_, ?_, ?_, ?_, ?_⟩
  · intro id s f hf hprog hend hblock hpred
    obtain ⟨key, htaken⟩ := State.takePass_prog hf hprog hend hblock hpred
    exact Completes.intro exec_pass ⟨_, htaken, rfl, rfl, rfl, rfl⟩
  · intro id s f q hf hq hidle hswap hcancel hfeed hrows hwait hworks hon hown hbefore
    exact Completes.intro exec_passShadowLoadStart
      (State.loadStart_prog ⟨hf, hq, hidle, hswap, hcancel, hfeed, hrows, hwait, hworks, hon, hown, hbefore⟩)
  · intro id s f q hf hq hload
    exact Completes.intro exec_passShadowLoadDone (State.loadDone_prog hf hq hload)
  · intro id stalls s f q hf hq hload hswap hcancel hfired hworks hclear
    refine Completes.intro exec_passSwap ?_
    rw [State.swapPass_eq ⟨hf, hq, hload, hswap, hcancel, hfired, hworks, hclear⟩]
    generalize hr : s.fillFifo (passF f.words) (opF (dword f.words 2)) 32 _ = r
    obtain ⟨htile, hswapped, -, -⟩ := hr ▸ State.fillFifo_feedOnly s (passF f.words) (opF (dword f.words 2)) 32 _
    refine ⟨?_, fun hlt => ?_, State.counted_bumpBy⟩
    · rw [State.passProg_bumpBy, State.passProg_setArray, State.passProg_setProg hf]
      simp [htile, hswapped]
    · rw [State.array_congr (State.bumpBy_arrays ..), State.array_setArray (by simpa using hlt), ArraySt.exchange_shape]
  · intro id stalls s f q r rest w hf hq hswap hfifo htile hfired hcancel hworks hsound
    refine Completes.intro exec_passRowEnter ?_
    obtain ⟨x, hx, hpipe, henter⟩ := State.enterRow_entered (stalls := stalls)
      ⟨hf, hq, hswap, hfifo, htile, hfired, hcancel, hworks, hsound⟩
    simp [hx, hpipe, henter]
  · intro id s f q r rest w hf hq hpipe htile hworks hsound hserved hfirst
    obtain ⟨⟨x, hx, hadd, hlast⟩, hmeta⟩ := State.addRow_added ⟨hf, hq, hpipe, htile, hworks, hsound, hserved, hfirst⟩
    refine Completes.intro exec_passRowAdd ⟨?_, hmeta⟩
    simp [hx, hadd, hlast]
  · intro id s f q hf hq hpipe hend hrows hlast
    refine Completes.intro exec_passComplete ?_
    rw [State.completePass_eq hf hq hpipe hend hrows hlast]
    exact State.complete_ended (State.flight_of_flightOf hf)

end Sys2Proof.Machine
end

section
/-!
Arrays fail and helpers take their work (O22).
-/
namespace Sys2Proof.Machine

set_option Elab.async false

variable {s t u : State} {k : PageKind} {i bit code work info0 info1 b : Nat}

theorem exec_arrayFail {f : Fin 8} {x : ArrayFault} (h : (s.array f.val).fault = some x) :
    exec (.arrayFail f) s = .next ((s.failArray f.val x).noteCapacity s) := by
  change execArrayFail f s = _
  simp only [execArrayFail, h]

theorem exec_arrayForceFail {via : Via} {f : Fin 8} {v : Word} :
    exec (.arrayForceFail via f v) s = .next (s.writeBy via (regAddr .furrow f.val 0x100) (v.toNat ||| 2)) := rfl
theorem exec_helperReissue {f : Fin 8} : exec (.helperReissue f) s = .next (s.reissueArray f.val) := rfl

/-! ### An error captured, and what leaves it alone (R57) -/

/-- An error that finds no other held is captured with its detail. -/
theorem State.captured_raiseErr : s.Captured (s.raiseErr k i bit code work info0 info1) k i code info0 info1 := by
  intro hfree
  have hheld : (s.raise k i bit code work).rf (regAddr k i 0x040) 15 0 = 0 := by
    rw [State.rf, State.reg_raise (by rw [regAddr_mod]; decide) (by rw [regAddr_mod]; decide)]
    exact hfree
  simp only [State.raiseErr, State.capture, hheld, decide_true, Bool.true_or, if_true]
  simp [State.reg_setReg, regAddr]

theorem State.Captured.congr (h : s.Captured t k i code info0 info1) (hreg : ∀ o ∈ [0x040, 0x048, 0x050], u.reg (regAddr k i o) = t.reg (regAddr k i o)) :
    s.Captured u k i code info0 info1 := by
  intro hfree
  rw [hreg 0x040 (by simp), hreg 0x048 (by simp), hreg 0x050 (by simp)]
  exact h hfree

/-- Capturing an error on one page changes no register of another. -/
theorem State.reg_capture_page (hpage : ∀ o ∈ [0x040, 0x048, 0x050, 0x058], b ≠ regAddr k i o) : (s.capture k i code info0 info1).reg b = s.reg b := by
  simp only [List.mem_cons, List.not_mem_nil, or_false, forall_eq_or_imp, forall_eq] at hpage
  obtain ⟨h40, h48, h50, h58⟩ := hpage
  unfold State.capture
  dsimp only []
  split
  · rw [State.reg_setReg_other _ _ h58, State.reg_setReg_other _ _ h50, State.reg_setReg_other _ _ h48, State.reg_setReg_other _ _ h40]
  · rfl

/-- A fall of capacity is captured on RECOVERY: what the page of an array has captured stands. -/
theorem State.reg_noteCapacity_furrow {f o : Nat} (ho : o ∈ [0x040, 0x048, 0x050]) :
    (t.noteCapacity s).reg (regAddr .furrow f o) = t.reg (regAddr .furrow f o) := by
  simp only [List.mem_cons, List.not_mem_nil, or_false] at ho
  unfold State.noteCapacity
  split
  · refine (State.reg_capture_page fun o' ho' => ?_).trans (State.reg_raise ?_ ?_)
    · simp only [List.mem_cons, List.not_mem_nil, or_false] at ho'
      simp only [regAddr, pageIdx]
      omega
    · rw [regAddr_mod]; omega
    · rw [regAddr_mod]; omega
  · rfl

theorem State.Raised.noteCapacity {before : State} (h : t.Raised k i bit) : (t.noteCapacity before).Raised k i bit := by
  unfold State.noteCapacity
  split
  · exact h.raiseErr
  · exact h

/-! ### A mismatch (R128 to R130) -/

/-- What a failed check leaves noted of its row (R138). -/
def Flight.faultOf (f : Flight) (r : RowData) (c : CheckHit) : ArrayFault :=
  ⟨checkCode c.check, c.check, c.expected, c.found, c.column, r.index, if (passF f.words).shape = 4 then (passF f.words).quadrant else 0,
    (passF f.words).shape, f.work⟩

/-- A row that fails a check goes no further: its array notes the first check that failed, and the failed checks are counted. -/
theorem State.addRow_mismatch {id : Nat} {f : Flight} {q : PassProg} {r : RowData} {rest : List RowData} {w : Tile} {e : CheckFault} {c : CheckHit}
    {more : List CheckHit} (h : s.RowAtChecks id f q r rest w) (hfail : (rowChecked (passF f.words) w r (some e)).2 = c :: more) :
    s.addRow id (some e) = (s.setArray q.runner { s.array q.runner with fault := some (f.faultOf r c) }).bumpBy (furrowReg q.runner 0x148)
      (c :: more).length := by
  obtain ⟨hf, hq, hpipe, htile, hworks, hsound, hserved, hfirst⟩ := h
  simp only [State.addRow, hf, hq, hpipe, htile, hworks, hsound, hserved, hfirst, hfail, Bool.not_true, Option.isSome_none, Bool.or_self,
    Bool.false_eq_true, if_false, Flight.faultOf]

/-! ### The failure takes effect (R130, R138) -/

/-- A failed array, its passes set back and its hosting given up. -/
def State.arrayFailed (s : State) (f : Nat) : State :=
  { s with
    flights := s.flights.map (fun (g : Flight) =>
      match g.prog with
      | .pass q => if q.runner == f then { g with prog := .pass q.setBack } else g
      | _ => g)
    arrays := (s.arrays.map (fun (b : ArraySt) => if b.hostedBy == some f then { b with hostedBy := none } else b)).set f
      { s.array f with state := 2, fault := none, quads := (s.array f).quads.map (fun (y : QuadSt) => { y with tile := none }) } }

theorem State.failArray_eq {f : Nat} {x : ArrayFault} (h : (s.array f).state ≠ 2) :
    s.failArray f x = (s.arrayFailed f).raiseErr .furrow f 0 x.code x.workId x.info0 x.info1 := by
  simp only [State.failArray, beq_eq_false_iff_ne.2 h, Bool.false_eq_true, if_false]
  rfl

theorem State.array_failArray {f : Nat} {x : ArrayFault} (hf : f < s.arrays.length) (h : (s.array f).state ≠ 2) :
    ((s.failArray f x).array f).state = 2 ∧ ((s.failArray f x).array f).fault = none := by
  rw [State.failArray_eq h, State.array_congr (State.raiseErr_arrays ..)]
  simp [State.array, State.arrayFailed, hf]

/-- An array that fails is FAILED, whether or not it was before. -/
theorem State.failArray_failed {f : Nat} {x : ArrayFault} (hf : f < s.arrays.length) : ((s.failArray f x).array f).state = 2 := by
  by_cases h : (s.array f).state = 2
  · simp [State.failArray, h]
  · exact (State.array_failArray hf h).1

/-! ### force_fail (R130, R137) -/

theorem State.writeJournaled_eq {src : Source} {off v : Nat} :
    ∃ j, s.writeJournaled src k i off v = ({ s with journal := j } : State).writeEffect src k i off v := by
  unfold State.writeJournaled
  dsimp only []
  split
  · exact ⟨_, rfl⟩
  · exact ⟨s.journal, rfl⟩

/-- A landed write takes its page's effect on the state that the request has reached. -/
theorem Via.reply_effect {via : Via} {off v : Nat} (hpage : pageAt (regAddr k i off) 8 = some (k, i)) (hoff : off < 0x1000)
    (h : (via.reply s (regAddr k i off) v).code = 0) :
    ∃ t : State, (via.reply s (regAddr k i off) v).st = t.writeEffect via.source k i off v ∧ t.arrays = s.arrays ∧
      (off = 0x100 → t.reg (regAddr k i off) = s.reg (regAddr k i off)) := by
  obtain ⟨k', i', hpage', -, -, -, heq⟩ := State.regWrite_accepted h
  obtain ⟨rfl, rfl⟩ : k = k' ∧ i = i' := by simpa [hpage] using hpage'
  obtain ⟨j, hj⟩ := State.writeJournaled_eq (s := via.arrived s) (k := k) (i := i) (src := via.source) (off := off) (v := v)
  rw [regAddr_mod, Nat.mod_eq_of_lt hoff, hj] at heq
  refine ⟨{ via.arrived s with journal := j }, congrArg Reply.st heq, by cases via <;> rfl, fun hreg => ?_⟩
  exact (LossKept.arrived via).force _ (by rw [regAddr_mod, hreg])

theorem pageAt_furrow : ∀ f : Fin 8, pageAt (regAddr .furrow f.val 0x100) 8 = some (.furrow, f.val) := by decide

/-- The effect of a force_fail bit newly set: the array fails. -/
theorem State.writeEffect_furrow_failed {src : Source} {f v : Nat} (hf : f < s.arrays.length) (hv : bitOf v 1 = true)
    (hold : bitOf (s.reg (regAddr .furrow f 0x100)) 1 = false) : ((s.writeEffect src .furrow f 0x100 v).array f).state = 2 := by
  have hnew : newForce (s.reg (regAddr .furrow f 0x100)) v 1 = true := by simp [newForce, hv, hold]
  have heffect : s.writeEffect src .furrow f 0x100 v = if newForce (s.reg (regAddr .furrow f 0x100)) v 1 then
        ((s.setReg (regAddr .furrow f 0x100) (mergeWord (regFields .furrow 0x100) (s.reg (regAddr .furrow f 0x100)) v)).forceArray f).noteCapacity
          (s.setReg (regAddr .furrow f 0x100) (mergeWord (regFields .furrow 0x100) (s.reg (regAddr .furrow f 0x100)) v))
      else s.setReg (regAddr .furrow f 0x100) (mergeWord (regFields .furrow 0x100) (s.reg (regAddr .furrow f 0x100)) v) := rfl
  rw [heffect, if_pos hnew]
  exact (LossKept.refl _).noteCapacity.arrays f (State.failArray_failed hf)

/-! ### Helpers (R131 to R133) -/

/-- A failed array with a helper left for it is hosted there, and the helper's page says so. -/
theorem State.reissueArray_hosted {f h : Nat} (hstate : (s.array f).state = 2) (hnone : (s.array f).hostedBy = none) (hlost : s.lost f = false)
    (hcores : s.coresWorking 8 ≠ 0) (hfind : (helperOrder f).find? (fun h => h != f && s.arrayWorks h) = some h) :
    ∃ t : State, s.reissueArray f = t.raise .furrow h 1 0 0 ∧ t.arrays = s.arrays.set f { s.array f with hostedBy := some h } := by
  simp only [State.reissueArray, hstate, hnone, hlost, hcores, hfind, bne_self_eq_false, Option.isSome_none, Bool.or_self, decide_false,
    Bool.false_eq_true, if_false]
  exact ⟨_, rfl, foldl_keeps State.arrays _ _ (fun _ _ => State.giveUpLoads_arrays ..) _⟩

/-- Settles O22: the mismatch and the hosting by what they do to the array, the failures by the array that has failed. -/
theorem arraysFail : Obligations.ArraysFail := by
  unfold Obligations.ArraysFail
  refine ⟨?_, ?_, ?_, ?_⟩
  · intro id e c more s f q r rest w hf hq hpipe htile hworks hsound hserved hlt hfirst hfail
    refine Completes.intro exec_passRowAdd ?_
    rw [State.addRow_mismatch ⟨hf, hq, hpipe, htile, hworks, hsound, hserved, hfirst⟩ hfail, State.array_congr (State.bumpBy_arrays ..),
      State.array_setArray hlt]
    exact ⟨rfl, rfl, rfl, by simp [Flight.faultOf]⟩
  · intro f s x hlen hfault hstate
    obtain ⟨hfailed, hclear⟩ := State.array_failArray (x := x) (by omega : f.val < s.arrays.length) hstate
    refine Completes.intro (exec_arrayFail hfault) ?_
    rw [State.array_congr (State.noteCapacity_arrays ..), State.failArray_eq hstate]
    rw [State.failArray_eq hstate] at hfailed hclear
    exact ⟨hfailed, hclear, State.raised_raiseErr.noteCapacity,
      State.Captured.congr (State.captured_raiseErr (s := s.arrayFailed f.val)) fun _ => State.reg_noteCapacity_furrow⟩
  · intro via f v s hlen hlands hold
    have hword : v.toNat ||| 2 < 2 ^ 64 := Nat.or_lt_two_pow v.isLt (by decide)
    have hbit : bitOf (v.toNat ||| 2) 1 = true := by rw [bitOf_or, Bool.or_eq_true]; exact .inr rfl
    obtain ⟨t, heq, harrays, hreg⟩ := Via.reply_effect (pageAt_furrow f) (by decide) hlands.2
    refine Completes.intro exec_arrayForceFail ?_
    rw [State.writeBy_of_lands hlands hword (ne_of_mod_ne (by rw [stewReg, regAddr_mod, regAddr_mod]; decide)), heq]
    exact (LossKept.answer via _ _).arrays _ (State.writeEffect_furrow_failed (by rw [harrays]; omega) hbit (by rw [hreg rfl, hold]))
  · intro f h s hlen hstate hnone hlost hcores hfind
    obtain ⟨t, heq, harrays⟩ := State.reissueArray_hosted hstate hnone hlost hcores hfind
    refine Completes.intro exec_helperReissue ?_
    rw [heq]
    refine ⟨?_, State.raised_raise⟩
    rw [State.array_congr (t := s.setArray f.val { s.array f.val with hostedBy := some h }) ((State.raise_arrays ..).trans harrays),
      State.array_setArray (by omega)]

end Sys2Proof.Machine
end

section
/-!
Glean's rows: an accumulator read after a write, a row's metadata after it is set, and what the work on a row leaves alone.
-/
namespace Sys2Proof.Machine

set_option Elab.async false

variable {s t : State} {a f r c : Nat}

/-! ### Accumulators (R160) -/

theorem State.bytes_putBytes_outside (hok : s.MemOk) {bs : List Byte} {b n : Nat} (h : b + n ≤ a ∨ a + bs.length ≤ b) :
    (s.putBytes a bs).bytes b n = s.bytes b n := by
  induction n generalizing b with
  | zero => rfl
  | succ n ih => rw [State.bytes, State.bytes, State.byte_putBytes_outside hok bs (by omega), ih (by omega)]

theorem State.memOk_setAcc (hok : s.MemOk) (f r c v : Nat) : (s.setAcc f r c v).MemOk := State.memOk_putBytes hok _ _

theorem State.acc_setAcc_self (hok : s.MemOk) (f r c v : Nat) : (s.setAcc f r c v).acc f r c = v % 2 ^ 96 := by
  have hread := State.bytes_of_mem_memPutAll (t := s.setAcc f r c v) (a := accAddr f r c) (bs := leBytes 12 (v % 2 ^ 96)) hok rfl
  rw [length_leBytes] at hread
  have hsize : 256 ^ 12 = 2 ^ 96 := by norm_num
  rw [State.acc, State.num, hread, leNat_leBytes, hsize, Nat.mod_mod]

theorem State.acc_setAcc_other (hok : s.MemOk) {d v : Nat} (h : d ≠ c) : (s.setAcc f r c v).acc f r d = s.acc f r d := by
  have hbytes : (s.setAcc f r c v).bytes (accAddr f r d) 12 = s.bytes (accAddr f r d) 12 :=
    State.bytes_putBytes_outside hok (by simp only [accAddr, length_leBytes]; omega)
  rw [State.acc, State.num, hbytes, ← State.num, ← State.acc]

/-- Accumulators before those written read as before. -/
theorem State.acc_setAccs_before (hok : s.MemOk) {d : Nat} {vs : List Nat} (h : d < c) : (s.setAccs f r c vs).acc f r d = s.acc f r d := by
  induction vs generalizing s c with
  | nil => rfl
  | cons v vs ih => rw [State.setAccs, ih (State.memOk_setAcc hok ..) (by omega), State.acc_setAcc_other hok (by omega)]

/-- Each accumulator of a run that is written reads its value. -/
theorem State.acc_setAccs (hok : s.MemOk) {i : Nat} {vs : List Nat} (hi : i < vs.length) :
    (s.setAccs f r c vs).acc f r (c + i) = vs.getD i 0 % 2 ^ 96 := by
  induction vs generalizing s c i with
  | nil => cases hi
  | cons v vs ih =>
    have hok' := State.memOk_setAcc hok f r c v
    rw [State.setAccs]
    cases i with
    | zero => exact (State.acc_setAccs_before hok' (Nat.lt_succ_self c)).trans (State.acc_setAcc_self hok f r c v)
    | succ i =>
      rw [Nat.add_comm i 1, ← Nat.add_assoc, ih hok' (Nat.lt_of_succ_lt_succ hi), Nat.add_comm 1 i, List.getD_cons_succ]

theorem State.memOk_toL96Row (hok : s.MemOk) (f r : Nat) : (s.toL96Row f r).MemOk := by
  unfold State.toL96Row
  dsimp only []
  split
  · exact State.memOk_zeroRange hok _ _
  · exact hok

/-- A row written with init = 1 reads the values written (R165, R182). -/
theorem State.acc_rowInit (hok : s.MemOk) {e : Int} {i : Nat} {vs : List Nat} (hi : i < vs.length) :
    (s.rowInit f r c e vs).acc f r (c + i) = vs.getD i 0 % 2 ^ 96 := by
  unfold State.rowInit
  extract_lets s1 m m'
  have hok' : (s1.setGmeta f r m').MemOk := State.memOk_toL96Row hok f r
  exact State.acc_setAccs hok' hi

/-! ### Row metadata (R163) -/

theorem State.gmeta_setGmeta_self (s : State) (f r m : Nat) : (s.setGmeta f r m).gmeta f r = m := by
  by_cases hm : m = 0
  · simp [State.gmeta, State.setGmeta, hm, storeGet_storeDel]
  · simp [State.gmeta, State.setGmeta, hm, storeGet_storePut]

theorem State.gmeta_congr (h : t.gleanMeta = s.gleanMeta) : t.gmeta f r = s.gmeta f r := by rw [State.gmeta, State.gmeta, h]

theorem bit_one_setBits {m v : Nat} (hv : v < 2) : (setBits m 1 1 v >>> 1) % 2 = v := by
  simp only [setBits, bitsOf, Nat.shiftRight_eq_div_pow, Nat.shiftLeft_eq]
  omega

theorem mPoison_mSetPoison (m : Nat) (b : Bool) : mPoison (mSetPoison m b) = b := by
  have hbit : (setBits m 1 1 (b2n b) >>> 1) % 2 = b2n b := bit_one_setBits (by cases b <;> decide)
  rw [mPoison, mSetPoison, bitOf, hbit]
  cases b <;> rfl

/-! ### What the work on a region row leaves alone -/

/-- Descriptors in flight and the counters of accumulators read and written (R186) are as before. -/
structure RowWork (s t : State) : Prop where
  flights : t.flights = s.flights
  counters : ∀ b, b % 0x1000 = 0x118 ∨ b % 0x1000 = 0x120 → t.reg b = s.reg b

theorem RowWork.refl (s : State) : RowWork s s := ⟨rfl, fun _ _ => rfl⟩

theorem RowWork.ite {cond : Prop} {_ : Decidable cond} {u : State} (ht : RowWork s t) (hu : RowWork s u) : RowWork s (if cond then t else u) := by
  split <;> assumption

/-- Work that writes no register and no flight. -/
theorem RowWork.keep {u : State} (h : RowWork s t) (hflights : u.flights = t.flights) (hregs : u.regs = t.regs) : RowWork s u where
  flights := hflights.trans h.flights
  counters b hb := (State.reg_congr hregs b).trans (h.counters b hb)

theorem RowWork.putBytes (h : RowWork s t) {bs : List Byte} : RowWork s (t.putBytes a bs) := h.keep rfl rfl

theorem RowWork.setGmeta (h : RowWork s t) {m : Nat} : RowWork s (t.setGmeta f r m) := h.keep rfl rfl

theorem RowWork.setAccs (h : RowWork s t) {vs : List Nat} : RowWork s (t.setAccs f r c vs) := by
  induction vs generalizing t c with
  | nil => exact h
  | cons v vs ih => exact ih h.putBytes

theorem RowWork.toL96Row (h : RowWork s t) : RowWork s (t.toL96Row f r) := .ite (h.keep rfl rfl) h

theorem RowWork.rowInit (h : RowWork s t) {e : Int} {vs : List Nat} : RowWork s (t.rowInit f r c e vs) := h.toL96Row.setGmeta.setAccs

theorem RowWork.store (h : RowWork s t) {bs : List Byte} : RowWork s (t.store a bs) where
  flights := (State.store_flights ..).trans h.flights
  counters b hb := (State.reg_store (by omega)).trans (h.counters b hb)

/-- A report that Winnow does not track is counted, on Winnow's page (R222). -/
theorem RowWork.untracked (h : RowWork s t) {i : Nat} : RowWork s (t.bump (winnowReg i 0x130)) where
  flights := h.flights
  counters b hb := (State.reg_bumpBy_offset 1 (by rw [winnowReg, regAddr_mod]; omega)).trans (h.counters b hb)

theorem RowWork.reportFlight (h : RowWork s t) {field : Nat} {fl : Flight} {tally : Tally} : RowWork s (t.reportFlight field fl tally) := by
  unfold State.reportFlight State.report
  exact .ite h <| .ite (.ite h.putBytes h) <| .ite (.ite (h.untracked.keep rfl rfl) h.untracked) <| .ite h.putBytes h

end Sys2Proof.Machine
end

section
/-!
Glean descriptors run row by row, and Glean's ECC errors (O23).
-/
namespace Sys2Proof.Machine

set_option Elab.async false

variable {s t : State} {id op : Nat} {f : Flight}

theorem exec_readout : exec (.readout id) s = .next (s.readoutRow id) := rfl
theorem exec_preload : exec (.preload id) s = .next (s.preloadRow id) := rfl
theorem exec_clear : exec (.clear id) s = .next (s.clearRow id) := rfl
theorem exec_saveRaw : exec (.saveRaw id) s = .next (s.saveRow id) := rfl
theorem exec_loadRaw : exec (.loadRaw id) s = .next (s.loadRow id) := rfl
theorem exec_reduce : exec (.reduce id) s = .next (s.reduceRow id) := rfl
theorem exec_gleanDescriptorComplete : exec (.gleanDescriptorComplete id) s = .next (s.completeGlean id) := rfl
theorem exec_gleanEcc {field : Fin 8} {row : Fin 2048} {col : Fin 1024} {access : BitVec 8} {work : BitVec 32} {corrected : Bool} :
    exec (.gleanEcc field row col access work corrected) s =
      .next (s.gleanEcc field.val row.val col.val access.toNat work.toNat corrected) := rfl

/-! ### A row that is done -/

/-- The progress of a Glean descriptor is the one stored last. -/
theorem State.gleanRow_setGlean (hf : s.flight id = some f) (hflights : t.flights = s.flights) (g : GleanProg) :
    (t.setGlean f g).gleanRow id = some g.row := by
  have hflight : t.flight id = some f := by rw [State.flight, hflights, ← State.flight, hf]
  have hid : f.id = id := State.flight_id hf
  rw [State.gleanRow, State.setGlean, State.flight_setFlight (g := { f with started := true, prog := .glean g }) hflight hid]
  rfl

theorem State.counted_setGlean {n a : Nat} (h : s.Counted t a n) (f : Flight) (g : GleanProg) : s.Counted (t.setGlean f g) a n := h.congr rfl

/-- Counting a row and storing its descriptor's progress leave the row as its work has left it. -/
theorem State.counted_row_kept (t : State) (a n : Nat) (f : Flight) (g : GleanProg) : let u := (t.bumpBy a n).setGlean f g
    u.gleanMeta = t.gleanMeta ∧ u.mem = t.mem := ⟨rfl, rfl⟩

/-- Once its work is done, a row is counted and the descriptor goes on to the next. -/
theorem RowWork.done (h : RowWork s t) (hf : s.flight id = some f) {field off n : Nat} {g : GleanProg} (hoff : off = 0x118 ∨ off = 0x120)
    (hrow : g.row = f.glean?.row + 1) : let u := (t.bumpBy (gleanReg field off) n).setGlean f g
    u.gleanRow id = some (f.glean?.row + 1) ∧ s.Counted u (gleanReg field off) n := by
  have hreg : t.reg (gleanReg field off) = s.reg (gleanReg field off) := h.counters _ (by rw [gleanReg, regAddr_mod]; omega)
  refine ⟨hrow ▸ State.gleanRow_setGlean hf h.flights g, State.counted_setGlean ?_ f g⟩
  rw [State.Counted, ← hreg]
  exact State.counted_bumpBy

/-- A Glean descriptor of an opcode whose next region row is due (R174, R178). -/
structure State.RowDue (s : State) (id op : Nat) (f : Flight) : Prop where
  flight : s.flightOf id 2 op = some f
  ready : s.gleanReady f = true
  region : regionEmpty (gleanF f.words) = false
  more : f.glean?.row < (gleanF f.words).rows

/-- The guard that each command on a region row begins with lets a due row pass. -/
theorem State.RowDue.passes (h : s.RowDue id op f) :
    (!s.gleanReady f || regionEmpty (gleanF f.words) || decide ((gleanF f.words).rows ≤ f.glean?.row)) = false := by
  simp [h.ready, h.region, h.more]

/-! ### READOUT, PRELOAD and CLEAR (R179 to R182) -/

/-- READOUT stores a row's codes, exponents and mask, reports its elements and counts its accumulators. -/
theorem State.readoutRow_eq (h : s.RowDue id 1 f) {sp : Spec} (hclean : f.glean?.memPoison = false)
    (hread : s.rangesPoisoned (epiRowRanges (gleanF f.words) (opF (f.w 3)) f.glean?.row) = false)
    (hspec : Spec.ofBits (gleanF f.words).spec (gleanF f.words).s 0 = some sp) :
    ∃ t g, s.readoutRow id = (t.bumpBy (gleanReg (gleanF f.words).field 0x118) (gleanF f.words).cols).setGlean f g ∧
      RowWork s t ∧ t.gleanMeta = s.gleanMeta ∧ g.row = f.glean?.row + 1 := by
  simp -zeta only [State.readoutRow, h.flight]
  extract_lets g o e pg r row bad y ys draws
  rw [if_neg (by rw [h.passes, hclean]; decide), if_neg (by rw [hread]; decide)]
  simp -zeta only [show Spec.ofBits g.spec g.s 0 = some sp from hspec]
  extract_lets cv s1 s2 s3 tally s4 s5
  have hwork2 : RowWork s s2 := .ite (RowWork.refl s).store.store (RowWork.refl s).store
  have hwork3 : RowWork s s3 := .ite hwork2 hwork2.store
  have hrows2 : SameRows s s2 := .ite ⟨by simp [s1], by simp [s1]⟩ ⟨by simp [s1], by simp [s1]⟩
  have hrows3 : SameRows s s3 := .ite hrows2 ⟨by simp [hrows2.flights], by simp [hrows2.gleanMeta]⟩
  exact ⟨{ s3.reportFlight g.field f tally with freeCtr := s4.freeCtr + g.cols }, _, rfl, hwork3.reportFlight.keep rfl rfl,
    hrows3.reportFlight.gleanMeta, rfl⟩

/-- PRELOAD writes a row of codes, reports its elements and counts its accumulators. -/
theorem State.preloadRow_eq (h : s.RowDue id 2 f) :
    ∃ t g, s.preloadRow id = (t.bumpBy (gleanReg (gleanF f.words).field 0x120) (gleanF f.words).cols).setGlean f g ∧
      RowWork s t ∧ g.row = f.glean?.row + 1 := by
  simp -zeta only [State.preloadRow, h.flight]
  extract_lets g o pg
  rw [if_neg (by rw [h.passes]; decide)]
  exact ⟨_, _, rfl, (RowWork.refl s).rowInit.reportFlight, rfl⟩

/-- CLEAR writes a row of zeros and counts its accumulators. -/
theorem State.clearRow_eq (hok : s.MemOk) (h : s.RowDue id 3 f) :
    ∃ t g, s.clearRow id = (t.bumpBy (gleanReg (gleanF f.words).field 0x120) (gleanF f.words).cols).setGlean f g ∧
      RowWork s t ∧ g.row = f.glean?.row + 1 ∧
      ∀ c, c < (gleanF f.words).cols → t.acc (gleanF f.words).field ((gleanF f.words).row0 + f.glean?.row) ((gleanF f.words).col0 + c) = 0 := by
  simp only [State.clearRow, h.flight, h.passes, Bool.false_eq_true, if_false]
  refine ⟨_, _, rfl, (RowWork.refl s).rowInit, rfl, fun c hc => ?_⟩
  rw [State.acc_rowInit hok (by simpa using hc)]
  simp

/-! ### Raw copies (R183) -/

/-- SAVE_RAW stores a row and its metadata and counts its accumulators. -/
theorem State.saveRow_eq (h : s.RowDue id 4 f) :
    ∃ t g, s.saveRow id = (t.bumpBy (gleanReg (gleanF f.words).field 0x118) 1024).setGlean f g ∧
      RowWork s t ∧ t.gleanMeta = s.gleanMeta ∧ g.row = f.glean?.row + 1 := by
  simp only [State.saveRow, h.flight, h.passes, Bool.false_eq_true, if_false]
  exact ⟨_, _, rfl, (RowWork.refl s).store.store, (State.store_gleanMeta ..).trans (State.store_gleanMeta ..), rfl⟩

/-- LOAD_RAW, once it has checked the metadata and meets no poison, writes a row and its metadata and counts its accumulators. -/
theorem State.loadRow_eq (h : s.RowDue id 5 f) (hclean : f.glean?.memPoison = false) (hchecked : f.glean?.checked = true)
    (hread : s.rangesPoisoned [((gleanF f.words).dataAddr + f.glean?.row * (gleanF f.words).dataStride, 12288),
      ((gleanF f.words).metaAddr + f.glean?.row * 32, 32)] = false) :
    ∃ t g, s.loadRow id = (t.bumpBy (gleanReg (gleanF f.words).field 0x120) 1024).setGlean f g ∧ RowWork s t ∧ g.row = f.glean?.row + 1 ∧
      t.gmeta (gleanF f.words).field ((gleanF f.words).row0 + f.glean?.row) = s.num ((gleanF f.words).metaAddr + f.glean?.row * 32) 32 := by
  simp only [State.loadRow, h.flight, h.passes, hclean, hchecked, hread, Bool.or_self, Bool.not_true, Bool.false_and, Bool.false_eq_true, if_false]
  exact ⟨_, _, rfl, (RowWork.refl s).putBytes.setGmeta, rfl, State.gmeta_setGmeta_self ..⟩

/-! ### REDUCE (R171 to R175) -/

theorem State.reduceInto_flights (s0 s : State) (g : GleanF) (root row : Nat) : (s0.reduceInto s g root row).flights = s.flights := by
  unfold State.reduceInto
  dsimp only []
  split
  · rw [State.setAccs_flights, State.setGmeta_flights, State.zeroRow_flights]
  · rw [State.setAccs_flights, State.setGmeta_flights, State.toL96Row_flights]

theorem State.treeBytes_flights (s : State) (g : GleanF) (n : Nat) : (s.treeBytes g n).flights = s.flights := by
  unfold State.treeBytes
  extract_lets tree has s1 s2 s3
  have h1 : s1.flights = s.flights := foldl_keeps State.flights _ _ (fun _ _ => by split <;> rfl) s
  clear_value s1
  have h2 : s2.flights = s.flights := by
    unfold s2
    split <;> exact h1
  clear_value s2
  have h3 : s3.flights = s.flights := by
    unfold s3
    split <;> exact h2
  split
  · rw [foldl_keeps State.flights _ _ (fun _ _ => State.bumpBy_flights ..) s3, h3]
  · exact h1

/-- REDUCE writes a row of every root and counts it; once checked, nothing refuses it. -/
theorem State.reduceRow_eq (h : s.RowDue id 6 f) (hchecked : f.glean?.checked = true) :
    ∃ (t : State) (g : GleanProg), s.reduceRow id = t.setGlean f g ∧ t.flights = s.flights ∧ g.row = f.glean?.row + 1 := by
  simp -zeta only [State.reduceRow, h.flight]
  extract_lets g pg row m0 bad n cols s1 s2
  rw [if_neg (by rw [h.passes]; decide), if_neg (by simp [pg, hchecked]), if_neg (by simp [pg, hchecked])]
  have h1 : s1.flights = s.flights := foldl_keeps State.flights (fun u x => (s.reduceInto u g x row).bumpBy (gleanReg x 0x120) cols) _
    (fun u x => State.reduceInto_flights s u g x row) s
  have h2 : s2.flights = s1.flights := foldl_keeps State.flights _ _ (fun _ _ => State.bumpBy_flights ..) s1
  exact ⟨_, _, rfl, (State.treeBytes_flights ..).trans (h2.trans h1), rfl⟩

/-! ### The end of a descriptor (R174, R180) -/

theorem State.ending_of_gleanReady (h : s.gleanReady f = true) : f.ending = none := by
  simp only [State.gleanReady, Bool.and_eq_true, Option.isNone_iff_eq_none] at h
  exact h.1.1.2

/-- A Glean descriptor completes once every row is done; it is flagged if a row was poisoned. -/
theorem State.completeGlean_eq (hf : s.flight id = some f) (hcls : f.cls = 2) (hready : s.gleanReady f = true)
    (hclean : f.glean?.memPoison = false) (hrows : (gleanF f.words).rows ≤ f.glean?.row) :
    s.completeGlean id = s.complete id (if f.glean?.poisonRow then 0x0B28 else 0) := by
  simp [State.completeGlean, hf, hcls, State.ending_of_gleanReady hready, hready, hclean, hrows]

/-! ### ECC errors (R162, R187) -/

theorem State.gleanEcc_corrected {field row col access work : Nat} (hlost : s.lost field = false) :
    s.gleanEcc field row col access work true = s.bump (gleanReg field 0x140) := by
  simp [State.gleanEcc, hlost]

/-- An uncorrectable error poisons its row, is counted and is raised. -/
theorem State.gleanEcc_uncorrectable {field row col access work : Nat} (hlost : s.lost field = false) :
    ∃ info0, s.gleanEcc field row col access work false =
      ((s.setGmeta field row (mSetPoison (s.gmeta field row) true)).bump (gleanReg field 0x148)).raiseErr .glean field 0 0x0B27 work info0 access := by
  simp only [State.gleanEcc, hlost, Bool.false_eq_true, if_false]
  exact ⟨_, rfl⟩

/-- Settles O23: each row by the work done on it, the end by what a completion leaves, an error by what is raised. -/
theorem gleanRuns : Obligations.GleanRuns := by
  unfold Obligations.GleanRuns
  refine ⟨?_, ?_, ?_, ?_, ?_, ?_, ?_, ?_, ?_⟩
  · intro id s f sp hf hready hregion hmore hclean hread hspec
    obtain ⟨t, g, hrun, hwork, hmeta, hrow⟩ := State.readoutRow_eq ⟨hf, hready, hregion, hmore⟩ hclean hread hspec
    obtain ⟨hnext, hcount⟩ := hwork.done (State.flight_of_flightOf hf) (.inl rfl) hrow
    exact Completes.intro (exec_readout.trans (congrArg _ hrun)) ⟨hnext, (State.counted_row_kept ..).1.trans hmeta, hcount⟩
  · intro id s f hf hready hregion hmore
    obtain ⟨t, g, hrun, hwork, hrow⟩ := State.preloadRow_eq ⟨hf, hready, hregion, hmore⟩
    exact Completes.intro (exec_preload.trans (congrArg _ hrun)) (hwork.done (State.flight_of_flightOf hf) (.inr rfl) hrow)
  · intro id s f hok hf hready hregion hmore
    obtain ⟨t, g, hrun, hwork, hrow, hzero⟩ := State.clearRow_eq hok ⟨hf, hready, hregion, hmore⟩
    obtain ⟨hnext, hcount⟩ := hwork.done (State.flight_of_flightOf hf) (.inr rfl) hrow
    exact Completes.intro (exec_clear.trans (congrArg _ hrun))
      ⟨hnext, hcount, fun c hc => (State.num_congr (State.counted_row_kept ..).2 12).trans (hzero c hc)⟩
  · intro id s f hf hready hregion hmore
    obtain ⟨t, g, hrun, hwork, hmeta, hrow⟩ := State.saveRow_eq ⟨hf, hready, hregion, hmore⟩
    obtain ⟨hnext, hcount⟩ := hwork.done (State.flight_of_flightOf hf) (.inl rfl) hrow
    exact Completes.intro (exec_saveRaw.trans (congrArg _ hrun)) ⟨hnext, (State.counted_row_kept ..).1.trans hmeta, hcount⟩
  · intro id s f hf hready hregion hmore hclean hchecked hread
    obtain ⟨t, g, hrun, hwork, hrow, hloaded⟩ := State.loadRow_eq ⟨hf, hready, hregion, hmore⟩ hclean hchecked hread
    obtain ⟨hnext, hcount⟩ := hwork.done (State.flight_of_flightOf hf) (.inr rfl) hrow
    exact Completes.intro (exec_loadRaw.trans (congrArg _ hrun)) ⟨hnext, (State.gmeta_congr (State.counted_row_kept ..).1).trans hloaded, hcount⟩
  · intro id s f hf hready hregion hmore hchecked
    obtain ⟨t, g, hrun, hflights, hrow⟩ := State.reduceRow_eq ⟨hf, hready, hregion, hmore⟩ hchecked
    exact Completes.intro (exec_reduce.trans (congrArg _ hrun)) (hrow ▸ State.gleanRow_setGlean (State.flight_of_flightOf hf) hflights g)
  · intro id s f hf hcls hready hclean hrows
    exact Completes.intro (exec_gleanDescriptorComplete.trans (congrArg _ (State.completeGlean_eq hf hcls hready hclean hrows)))
      (State.complete_ended hf)
  · intro f row col access work s hlost
    obtain ⟨info0, hrun⟩ := State.gleanEcc_uncorrectable (s := s) (row := row.val) (col := col.val) (access := access.toNat)
      (work := work.toNat) hlost
    refine Completes.intro (exec_gleanEcc.trans (congrArg _ hrun)) ⟨?_, ?_, State.raised_raiseErr, by simp [State.setGmeta]⟩
    · rw [State.gmeta_congr (State.raiseErr_gleanMeta ..), State.gmeta_congr (State.bump_gleanMeta ..), State.gmeta_setGmeta_self,
        mPoison_mSetPoison]
    · exact State.Counted.congr (State.counted_bumpBy (s := s.setGmeta _ _ _)) (State.reg_raiseErr (by rw [gleanReg, regAddr_mod]; decide))
  · intro f row col access work s hlost
    exact Completes.intro (exec_gleanEcc.trans (congrArg _ (State.gleanEcc_corrected hlost))) ⟨rfl, rfl, State.counted_bumpBy⟩

end Sys2Proof.Machine
end

section
/-!
What a write to a page of Tilth or of its plot tester meets and leaves: the port that brings it changes nothing of Tilth.
-/
namespace Sys2Proof.Machine

set_option Elab.async false

variable {s t u : State} {k : PageKind} {i a off v : Nat}

/-! ### The word that a write leaves (R58) -/

/-- Where a register stores its lowest bits, they are those of the word written. -/
theorem mergeWord_mod {fs : List RegField} {n old : Nat} (hmask : storeMask fs % 2 ^ n = 2 ^ n - 1) :
    mergeWord fs old v % 2 ^ n = v % 2 ^ n := by
  have hlow (x : Nat) : (x &&& storeMask fs) % 2 ^ n = x % 2 ^ n := by
    rw [Nat.and_mod_two_pow, hmask, Nat.and_two_pow_sub_one_eq_mod, Nat.mod_mod]
  have hkept : (old - (old &&& storeMask fs)) % 2 ^ n = 0 := Nat.sub_mod_eq_zero_of_mod_eq (hlow old).symm
  rw [mergeWord, Nat.add_mod, hkept, hlow, Nat.zero_add, Nat.mod_mod]

theorem bitOf_mergeWord {fs : List RegField} {n j old : Nat} (hmask : storeMask fs % 2 ^ n = 2 ^ n - 1) (hj : j < n) :
    bitOf (mergeWord fs old v) j = bitOf v j := by
  have hbit (x : Nat) : bitOf x j = (x % 2 ^ n).testBit j := by
    rw [bitOf_eq_testBit, Nat.testBit_mod_two_pow, decide_eq_true hj, Bool.true_and]
  rw [hbit, mergeWord_mod hmask, ← hbit]

/-! ### What the ports leave alone -/

/-- Memory, the banks in transition, the plot tester and every register but those at the offset of STEWARD's count of requests stand. -/
structure SameTilth (s t : State) : Prop where
  mem : t.mem = s.mem
  bankMoves : t.bankMoves = s.bankMoves
  plots : t.plots = s.plots
  reg : ∀ b, b % 0x1000 ≠ 0x1A0 → t.reg b = s.reg b

theorem SameTilth.arrived (via : Via) : SameTilth s (via.arrived s) := by
  have hcounted : SameTilth s (s.drawn.bump (stewReg 0x1A0)) :=
    ⟨rfl, rfl, rfl, fun _ hb => State.reg_bumpBy_offset 1 (by rw [stewReg, regAddr_mod]; exact hb)⟩
  cases via with
  | hitch seq tag => exact ⟨rfl, rfl, rfl, fun _ _ => rfl⟩
  | ethernet seq tag => exact hcounted
  | twoWire => exact hcounted
  | jtag => exact hcounted

theorem SameTilth.answer (via : Via) : SameTilth s (via.answer a v s) := by
  cases via with
  | hitch seq tag => exact ⟨State.respond_mem .., State.respond_bankMoves .., State.respond_plots .., fun b _ => State.reg_congr (State.respond_regs ..) b⟩
  | ethernet seq tag => exact ⟨rfl, rfl, rfl, fun _ _ => rfl⟩
  | twoWire => exact ⟨rfl, rfl, rfl, fun _ _ => rfl⟩
  | jtag => exact ⟨rfl, rfl, rfl, fun _ _ => rfl⟩

theorem SameTilth.setLinear (h : SameTilth s t) (f j : Nat) : t.setLinear f j = s.setLinear f j := by
  rw [State.setLinear, State.setLinear, h.reg _ (by rw [regAddr_mod]; decide)]

theorem SameTilth.ttRun (h : SameTilth s t) (f : Nat) : t.ttRun f = s.ttRun f := by
  rw [State.ttRun, State.ttRun, h.reg _ (by rw [plotReg, regAddr_mod]; decide)]

theorem SameTilth.bankPending (h : SameTilth s t) (f b : Nat) : t.bankPending f b = s.bankPending f b := by
  rw [State.bankPending, State.bankPending, h.bankMoves]

theorem State.plot_congr (h : t.plots = s.plots) (g : Nat) : t.plot g = s.plot g := by rw [State.plot, State.plot, h]

theorem SameTilth.plot (h : SameTilth s t) (f : Nat) : t.plot f = s.plot f := State.plot_congr h.plots f

/-- The words of TILTH_BANK_STATE are not where requests are counted. -/
theorem SameTilth.bankState (h : SameTilth s t) {f b : Nat} (hb : b < 96) : t.bankState f b = s.bankState f b := by
  simp only [State.bankState, State.rf]
  rw [h.reg _ (by rw [regAddr_mod]; omega)]

/-- A landed write takes its page's effect, before and after which its port leaves Tilth alone. -/
theorem State.writeBy_effect {via : Via} (hlands : Lands via s (regAddr k i off) v) (hv : v < 2 ^ 64)
    (hpage : pageAt (regAddr k i off) 8 = some (k, i)) (hoff : off < 0x1000) (hk : k ≠ .steward) :
    ∃ t, SameTilth s t ∧ SameTilth (t.writeEffect via.source k i off v) (s.writeBy via (regAddr k i off) v) := by
  obtain ⟨k', i', hpage', -, -, -, heq⟩ := State.regWrite_accepted hlands.2
  obtain ⟨rfl, rfl⟩ : k = k' ∧ i = i' := by simpa [hpage] using hpage'
  obtain ⟨j, hj⟩ := State.writeJournaled_eq (s := via.arrived s) (k := k) (i := i) (src := via.source) (off := off) (v := v)
  rw [regAddr_mod, Nat.mod_eq_of_lt hoff, hj] at heq
  have hnot : regAddr k i off ≠ stewReg 0x110 := fun h => by
    have hsteward : pageAt (stewReg 0x110) 8 = some (.steward, 0) := by decide
    rw [h, hsteward] at hpage
    exact hk (congrArg Prod.fst (Option.some.inj hpage)).symm
  have harrived : SameTilth s (via.arrived s) := .arrived via
  refine ⟨{ via.arrived s with journal := j }, ⟨harrived.mem, harrived.bankMoves, harrived.plots, harrived.reg⟩, ?_⟩
  rw [State.writeBy_of_lands hlands hv hnot, show (via.reply s (regAddr k i off) v).st = _ from congrArg Reply.st heq]
  exact .answer via

end Sys2Proof.Machine
end

section
/-!
What the plot tester's operations leave: they move its slots, and count the passes that end.
-/
namespace Sys2Proof.Machine

set_option Elab.async false

variable {s t u : State} {f b : Nat} {p : PlotSt}

theorem State.plot_setPlot_self (hf : f < s.plots.length) : (s.setPlot f p).plot f = p := by simp [State.plot, State.setPlot, hf]

/-- Only the tester's slots and banks left, and its count of passes, have moved. -/
structure TesterOnly (s t : State) : Prop where
  mem : t.mem = s.mem
  bankMoves : t.bankMoves = s.bankMoves
  map : ∀ g, (t.plot g).map = (s.plot g).map
  reg : ∀ a, a % 0x1000 ≠ 0x110 → t.reg a = s.reg a

theorem TesterOnly.refl (s : State) : TesterOnly s s := ⟨rfl, rfl, fun _ => rfl, fun _ _ => rfl⟩

theorem TesterOnly.ite {c : Prop} {_ : Decidable c} (ht : TesterOnly s t) (hu : TesterOnly s u) : TesterOnly s (if c then t else u) := by
  split <;> assumption

theorem TesterOnly.setPlot (h : TesterOnly s t) (hmap : p.map = (s.plot f).map) : TesterOnly s (t.setPlot f p) where
  mem := h.mem
  bankMoves := h.bankMoves
  map g := by
    by_cases hset : g = f ∧ f < t.plots.length
    · obtain ⟨rfl, hlt⟩ := hset
      rw [State.plot_setPlot_self hlt, hmap]
    · rw [← h.map g]
      simp only [State.plot, State.setPlot, List.getD_eq_getElem?_getD, List.getElem?_set]
      split
      next hfg =>
        have hlen : ¬ f < t.plots.length := fun hlt => hset ⟨hfg.symm, hlt⟩
        simp [← hfg, hlen]
      next => rfl
  reg := h.reg

theorem TesterOnly.countPass (h : TesterOnly s t) : TesterOnly s (t.bump (plotReg f 0x110)) :=
  ⟨h.mem, h.bankMoves, h.map, fun a ha => (State.reg_bumpBy_offset 1 (by rw [plotReg, regAddr_mod]; exact ha)).trans (h.reg a ha)⟩

theorem State.plotSlots_testerOnly {slots : List PlotSlot} : TesterOnly s (s.plotSlots f slots) :=
  have hslots := (TesterOnly.refl s).setPlot (f := f) (p := { s.plot f with slots := slots }) rfl
  .ite (hslots.setPlot (p := { s.plot f with slots := [], left := [] }) rfl).countPass hslots

theorem State.plotNext_testerOnly : TesterOnly s (s.plotNext f b) := State.plotSlots_testerOnly

theorem State.plotRestore_testerOnly {banks : Nat → Bool} : TesterOnly s (s.plotRestore f banks) := (TesterOnly.refl s).setPlot rfl

theorem TesterOnly.trans (h : TesterOnly s t) (h' : TesterOnly t u) : TesterOnly s u :=
  ⟨h'.mem.trans h.mem, h'.bankMoves.trans h.bankMoves, fun g => (h'.map g).trans (h.map g), fun a ha => (h'.reg a ha).trans (h.reg a ha)⟩

theorem State.plotLeave_testerOnly : TesterOnly s (s.plotLeave f b) := .ite State.plotSlots_testerOnly (.refl s)

end Sys2Proof.Machine
end

section
/-!
Tilth banks change state (O26).
-/
namespace Sys2Proof.Machine

set_option Elab.async false

variable {s t : State} {f b j v : Nat}

theorem exec_tilthLayoutWrite {via : Via} {f : Fin 8} {v : Word} :
    exec (.tilthLayoutWrite via f v) s = .next (s.writeBy via (regAddr .tilth f.val 0x100) v.toNat) := rfl
theorem exec_tilthBankStateWrite {via : Via} {f : Fin 8} {set : Fin 3} {v : Word} :
    exec (.tilthBankStateWrite via f set v) s = .next (s.writeBy via (regAddr .tilth f.val (0x108 + 8 * set.val)) v.toNat) := rfl
theorem exec_bankTransitionStart {f : Fin 8} {b : Fin 96} : exec (.bankTransitionStart f b) s = .next (s.bankStart f.val b.val) := rfl
theorem exec_bankTransitionDone {f : Fin 8} {b : Fin 96} : exec (.bankTransitionDone f b) s = .next (s.bankDone f.val b.val) := rfl

/-! ### The writes of the TILTH page -/

theorem pageAt_tilthLayout : ∀ f : Fin 8, pageAt (regAddr .tilth f.val 0x100) 8 = some (.tilth, f.val) := by decide

theorem pageAt_tilthBankState : ∀ (f : Fin 8) (set : Fin 3),
    pageAt (regAddr .tilth f.val (0x108 + 8 * set.val)) 8 = some (.tilth, f.val) := by decide

theorem storeMask_tilthLayout : storeMask (regFields .tilth 0x100) = 2 ^ 3 - 1 := by decide

theorem State.writeEffect_tilthLayout {src : Source} : s.writeEffect src .tilth f 0x100 v =
    s.setReg (regAddr .tilth f 0x100) (mergeWord (regFields .tilth 0x100) (s.reg (regAddr .tilth f 0x100)) v) := rfl

theorem State.writeEffect_tilthBankState {src : Source} (set : Fin 3) :
    s.writeEffect src .tilth f (0x108 + 8 * set.val) v = s.bankWrite f set.val v := by
  match set with
  | 0 => rfl
  | 1 => rfl
  | 2 => rfl

/-- An accepted mode of a set is shown at once (R247). -/
theorem State.setLinear_writeEffect {src : Source} (hj : j < 3) : (s.writeEffect src .tilth f 0x100 v).setLinear f j = bitOf v j := by
  rw [State.writeEffect_tilthLayout, State.setLinear, State.reg_setReg_self, bitOf_mergeWord (by rw [storeMask_tilthLayout]; rfl) hj]

/-- The bank state written is shown at once (R252, R264). -/
theorem State.bankState_bankWrite {set : Nat} (hj : j < 32) : (s.bankWrite f set v).bankState f (32 * set + j) = bankCode v j := by
  have hbank : (32 * set + j) % 32 = j := by omega
  have hset : (32 * set + j) / 32 = set := by omega
  have hreg : (s.bankWrite f set v).reg (regAddr .tilth f (0x108 + 8 * set)) = v := State.reg_setReg_self ..
  simp only [State.bankState, State.rf, hbank, hset, hreg, bankCode]

/-- A bank whose state a write changes is pending (R252). -/
theorem State.bankPending_bankWrite {set : Nat} (hj : j < 32) (hnew : bankCode v j ≠ s.bankState f (32 * set + j)) :
    (s.bankWrite f set v).bankPending f (32 * set + j) = true := by
  refine List.any_eq_true.2 ⟨⟨f, 32 * set + j, s.bankState f (32 * set + j), s.bankState f (32 * set + j) != 0⟩, ?_, by simp⟩
  exact List.mem_append_right _ (List.mem_filterMap.2 ⟨j, List.mem_range.2 hj, if_neg hnew⟩)

/-! ### A transition begins (R252) -/

/-- The moves of a Field, those of one bank begun. -/
def beginMoves (f b : Nat) (moves : List BankMove) : List BankMove :=
  moves.map (fun m => if m.field == f && m.bank == b then { m with begun := true } else m)

theorem beginMoves_begun (moves : List BankMove) : (beginMoves f b moves).all (fun m => !(m.field == f && m.bank == b) || m.begun) = true := by
  refine List.all_eq_true.2 fun m hm => ?_
  obtain ⟨m', -, rfl⟩ := List.mem_map.1 hm
  by_cases h : (m'.field == f && m'.bank == b) = true
  · simp [h]
  · simp [h]

/-- A bank whose transition begins stays pending. -/
theorem beginMoves_pending {moves : List BankMove} (h : moves.any (fun m => m.field == f && m.bank == b) = true) :
    (beginMoves f b moves).any (fun m => m.field == f && m.bank == b) = true := by
  obtain ⟨m, hm, hbank⟩ := List.any_eq_true.1 h
  refine List.any_eq_true.2 ⟨_, List.mem_map_of_mem hm, ?_⟩
  rw [if_pos hbank]
  exact hbank

/-- A pending bank that no descriptor in flight touches begins its transition. -/
theorem State.bankStart_begins (hmove : s.bankMoves.any (fun m => m.field == f && m.bank == b && !m.begun) = true)
    (hidle : s.flights.any (fun g => s.touchesBank f b g.words) = false) :
    (s.bankStart f b).bankMoves = beginMoves f b s.bankMoves ∧ (s.bankStart f b).mem = s.mem := by
  have htester : TesterOnly s ((s.plotRestore f (fun x => x == b)).plotLeave f b) := State.plotRestore_testerOnly.trans State.plotLeave_testerOnly
  rw [State.bankStart, hmove, hidle, Bool.not_false, Bool.and_self, if_pos rfl]
  exact ⟨congrArg (beginMoves f b) htester.bankMoves, htester.mem⟩

/-! ### A transition ends (R251) -/

theorem memGet_filter (p : Nat → Bool) (m : List Host.Cell) (a : Nat) :
    memGet (m.filter (fun c => p c.1)) a = if p a then memGet m a else 0 := by
  induction m with
  | nil => simp [memGet]
  | cons c m ih =>
    obtain ⟨key, w⟩ := c
    by_cases hp : p key = true
    · rw [List.filter_cons_of_pos (p := fun c : Host.Cell => p c.1) hp, memGet, memGet, ih]
      by_cases hkey : key = a
      · simp [hkey, hkey ▸ hp]
      · simp [hkey]
    · rw [List.filter_cons_of_neg (p := fun c : Host.Cell => p c.1) hp, ih, memGet]
      by_cases hkey : key = a
      · simp [hkey ▸ hp]
      · simp [hkey]

/-- A bank written as zero reads zero, and every byte outside it as before. -/
theorem State.byte_zeroBank (a : Nat) : (s.zeroBank f b).byte a = if s.inBank f b a then 0 else s.byte a := by
  rw [State.byte, State.zeroBank, memGet_filter (fun x => !s.inBank f b x)]
  cases s.inBank f b a <;> rfl

/-- The state in which a bank's transition has ended. -/
def State.moveEnded (s : State) (f b : Nat) : State :=
  { s with bankMoves := s.bankMoves.filter (fun x => !(x.field == f && x.bank == b)) }

theorem State.bankPending_moveEnded : (s.moveEnded f b).bankPending f b = false := by
  refine List.any_eq_false.2 fun m hm => ?_
  simpa only [Bool.not_eq_true', Bool.not_eq_true] using (List.mem_filter.1 hm).2

/-- A transition that has begun ends once its time has passed; into or out of Off it leaves the bank zero. -/
theorem State.bankDone_eq {m : BankMove} (h : s.bankMoves.find? (fun m => m.field == f && m.bank == b && m.begun) = some m) :
    s.bankDone f b = if s.bankState f b = 2 ∨ m.source = 2 then (s.moveEnded f b).zeroBank f b else s.moveEnded f b := by
  simp only [State.bankDone, h, Bool.or_eq_true, decide_eq_true_eq]
  rfl

theorem State.byte_bankDone {m : BankMove} (h : s.bankMoves.find? (fun m => m.field == f && m.bank == b && m.begun) = some m) (a : Nat) :
    (s.bankDone f b).byte a = if (s.bankState f b = 2 ∨ m.source = 2) ∧ s.inBank f b a = true then 0 else s.byte a := by
  rw [State.bankDone_eq h]
  by_cases hoff : s.bankState f b = 2 ∨ m.source = 2
  · rw [if_pos hoff, State.byte_zeroBank]
    simp only [hoff, true_and]
    rfl
  · rw [if_neg hoff, if_neg fun hzero => hoff hzero.1]
    rfl

theorem State.bankPending_bankDone {m : BankMove} (h : s.bankMoves.find? (fun m => m.field == f && m.bank == b && m.begun) = some m) :
    (s.bankDone f b).bankPending f b = false := by
  rw [State.bankDone_eq h]
  split
  · exact State.bankPending_moveEnded
  · exact State.bankPending_moveEnded

/-- Settles O26: the writes by their page's effect, a transition by its bank's entry among the moves and the bytes it leaves. -/
theorem tilthBanksChange : Obligations.TilthBanksChange := by
  unfold Obligations.TilthBanksChange
  refine ⟨?_, ?_, ?_, ?_⟩
  · intro via f v i s hlands
    obtain ⟨t, hbefore, hafter⟩ := State.writeBy_effect hlands v.isLt (pageAt_tilthLayout f) (by decide) (by decide)
    exact Completes.intro exec_tilthLayoutWrite
      ⟨(hafter.setLinear _ _).trans (State.setLinear_writeEffect i.isLt), hafter.mem.trans hbefore.mem⟩
  · intro via f set v j s hlands
    obtain ⟨t, hbefore, hafter⟩ := State.writeBy_effect hlands v.isLt (pageAt_tilthBankState f set) (by omega) (by decide)
    rw [State.writeEffect_tilthBankState] at hafter
    have hbank : 32 * set.val + j.val < 96 := by omega
    refine Completes.intro exec_tilthBankStateWrite ⟨?_, fun hnew => ?_, hafter.mem.trans hbefore.mem⟩
    · rw [hafter.bankState hbank, State.bankState_bankWrite j.isLt]
    · rw [hafter.bankPending, State.bankPending_bankWrite j.isLt]
      rwa [hbefore.bankState hbank]
  · intro f b s hmove hidle
    obtain ⟨hmoves, hmem⟩ := State.bankStart_begins hmove hidle
    have hpending : s.bankMoves.any (fun m => m.field == f.val && m.bank == b.val) = true := by
      obtain ⟨m, hm, hbank⟩ := List.any_eq_true.1 hmove
      exact List.any_eq_true.2 ⟨m, hm, (Bool.and_eq_true_iff.1 hbank).1⟩
    refine Completes.intro exec_bankTransitionStart ⟨?_, ?_, hmem⟩
    · rw [hmoves]
      exact beginMoves_begun _
    · rw [State.bankPending, hmoves]
      exact beginMoves_pending hpending
  · intro f b s m hmove
    refine Completes.intro exec_bankTransitionDone ⟨State.bankPending_bankDone hmove, fun hoff a ha => ?_, fun a ha => ?_⟩
    · rw [State.byte_bankDone hmove, if_pos ⟨hoff, ha⟩]
    · rw [State.byte_bankDone hmove, if_neg (by simp [ha])]

end Sys2Proof.Machine
end

section
/-!
Tilth's ECC errors and the plot tester (O27).
-/
namespace Sys2Proof.Machine

set_option Elab.async false

variable {s t : State} {f b a v : Nat}

theorem exec_tilthEccUncorrectable {a : Addr} {r : Fin 8} {w : BitVec 32} :
    exec (.tilthEccUncorrectable a r w) s = .next (s.tilthEcc a.toNat r.val w.toNat) := rfl
theorem exec_tilthEccWriteback {a : Addr} : exec (.tilthEccWriteback a) s = .next (s.tilthWriteback a.toNat) := rfl
theorem exec_ttControlWrite {via : Via} {f : Fin 8} {v : Word} :
    exec (.ttControlWrite via f v) s = .next (s.writeBy via (regAddr .tilthTest f.val 0x100) v.toNat) := rfl
theorem exec_plotTestStart {f : Fin 8} {b : Fin 96} : exec (.plotTestStart f b) s = .next (s.plotStart f.val b.val) := rfl
theorem exec_plotTestEnd {f : Fin 8} {b : Fin 96} {passed flash : Bool} :
    exec (.plotTestEnd f b passed flash) s = .next (s.plotEnd f.val b.val passed flash) := rfl
theorem exec_plotTestSteal {f : Fin 8} {b : Fin 96} : exec (.plotTestSteal f b) s = .next (s.plotSteal f.val b.val) := rfl

/-! ### ECC (R255, R256) -/

/-- An uncorrectable error in a populated sector poisons it, is counted and is raised. -/
theorem State.tilthEcc_eq {requester work o : Nat} (harea : areaOf a = .tilth f o) (hok : s.byteOk a = true) :
    ∃ info0, s.tilthEcc a requester work =
      (({ s with poison := setInsert s.poison (a / 32 * 32) } : State).bump (tilthReg f 0x130)).raiseErr .tilth f 0 0x0401 work info0 requester := by
  simp only [State.tilthEcc, harea, hok, Bool.not_true, Bool.false_eq_true, if_false]
  exact ⟨_, rfl⟩

theorem State.poisonedAt_of_poison (h : t.poison = setInsert s.poison (a / 32 * 32)) : t.poisonedAt a = true := by
  rw [State.poisonedAt, h, List.contains_iff_mem.2 (mem_setInsert_self ..), Bool.true_or]

/-- A corrected error in a populated sector is counted. -/
theorem State.tilthWriteback_eq {o : Nat} (harea : areaOf a = .tilth f o) (hok : s.byteOk a = true) :
    s.tilthWriteback a = s.bump (tilthReg f 0x128) := by
  simp only [State.tilthWriteback, harea, hok, if_true]

/-! ### TT_CONTROL (R263) -/

theorem pageAt_ttControl : ∀ f : Fin 8, pageAt (regAddr .tilthTest f.val 0x100) 8 = some (.tilthTest, f.val) := by decide

theorem storeMask_ttControl : storeMask (regFields .tilthTest 0x100) % 2 ^ 1 = 2 ^ 1 - 1 := by decide

theorem State.writeEffect_ttControl {src : Source} : s.writeEffect src .tilthTest f 0x100 v =
    s.ttWrite f (mergeWord (regFields .tilthTest 0x100) (s.reg (regAddr .tilthTest f 0x100)) v) := rfl

theorem State.ttRun_ttWrite : (s.ttWrite f v).ttRun f = bitOf v 0 := by
  have hset : (s.setReg (plotReg f 0x100) v).ttRun f = bitOf v 0 := by rw [State.ttRun, State.reg_setReg_self]
  unfold State.ttWrite
  dsimp only []
  split
  · exact hset
  · exact hset

/-- Every plot under test in a Field restored, none is under test: a Field that there is not has no tester. -/
theorem State.slots_plotRestore : ((s.plotRestore f (fun _ => true)).plot f).slots.all (fun x => !x.testing) = true := by
  by_cases hf : f < s.plots.length
  · rw [State.plotRestore, State.plot_setPlot_self hf]
    simp
  · simp [State.plotRestore, State.plot, State.setPlot, Nat.not_lt.1 hf]

/-- run = 0 stops every test. -/
theorem State.slots_ttWrite (hstop : bitOf v 0 = false) : ((s.ttWrite f v).plot f).slots.all (fun x => !x.testing) = true := by
  rw [State.ttWrite, hstop, if_neg Bool.false_ne_true]
  exact State.slots_plotRestore

/-! ### A test starts (R258) -/

/-- The tester, with no bank under test, starts with plot 0 of the first bank left. -/
theorem State.plotStart_first (hrun : s.ttRun f = true) (hlost : s.lost f = false) (htest : s.testable f b = true)
    (hnone : (s.plot f).slots = []) (hleft : (s.plot f).left = b :: (s.plot f).left.drop 1) (hroom : 0 < s.ttConcurrency f) :
    s.plotStart f b = s.setPlot f { s.plot f with left := (s.plot f).left.drop 1, slots := [⟨b, 0, some s.now, true⟩] } := by
  have hmore : (s.plot f).left.isEmpty = false := by rw [hleft]; rfl
  have hnext : (s.plot f).left.dropWhile (fun c => !s.testable f c) = (s.plot f).left := by
    rw [hleft, List.dropWhile_cons_of_neg (by simp [htest])]
  have hhead : (s.plot f).left.headD 96 = b := by rw [hleft]; rfl
  simp only [State.plotStart, hrun, hlost, htest, hnone, hmore, List.find?_nil, hnext, hhead, List.filter_nil, List.length_nil, hroom,
    Bool.not_true, Bool.or_self, Bool.false_and, Bool.false_eq_true, if_false, decide_true, Bool.and_self, if_true, List.nil_append]

/-! ### A test ends (R258, R261, R262) -/

/-- A plot that passes is counted, and the tester goes on. -/
theorem State.plotEnd_passed {flash : Bool} {x : PlotSlot} (h : (s.plot f).slots.find? (fun x => x.bank == b && x.testing) = some x) :
    s.plotEnd f b true flash = (s.bump (plotReg f 0x118)).plotNext f b := by
  simp only [State.plotEnd, h, if_true]

/-- A plot that fails is counted as tested and as failed, and joins the repair map. -/
def State.plotFailed (s : State) (f b : Nat) (flash : Bool) (x : PlotSlot) : State :=
  ((s.bump (plotReg f 0x118)).bump (plotReg f 0x120)).setPlot f
    { s.plot f with map := (s.plot f).map ++ [⟨b, x.plot, (s.plot f).savePlot b, flash⟩] }

/-- Only events and errors have been reported: every plot tester and every register but those of errors stand, and
what was raised is still. -/
structure Reported (s t : State) : Prop where
  plots : t.plots = s.plots
  reg : ∀ a, a % 0x1000 ∉ errorOffsets → t.reg a = s.reg a
  raised : ∀ k i bit, s.Raised k i bit → t.Raised k i bit

theorem Reported.refl (s : State) : Reported s s := ⟨rfl, fun _ _ => rfl, fun _ _ _ h => h⟩

theorem Reported.raiseErr (h : Reported s t) {k : PageKind} {i bit code work info0 info1 : Nat} :
    Reported s (t.raiseErr k i bit code work info0 info1) :=
  ⟨(State.raiseErr_plots ..).trans h.plots, fun a ha => (State.reg_raiseErr ha).trans (h.reg a ha), fun k' i' bit' h' => (h.raised k' i' bit' h').raiseErr⟩

theorem Reported.raise (h : Reported s t) {k : PageKind} {i bit info work : Nat} : Reported s (t.raise k i bit info work) where
  plots := (State.raise_plots ..).trans h.plots
  reg a ha := (State.reg_raise (fun h30 => ha (by simp [errorOffsets, h30])) (fun h140 => ha (by simp [errorOffsets, h140]))).trans (h.reg a ha)
  raised k' i' bit' h' := (h.raised k' i' bit' h').raise

theorem Reported.ite {c : Prop} {_ : Decidable c} {u : State} (ht : Reported s t) (hu : Reported s u) : Reported s (if c then t else u) := by
  split <;> assumption

/-- After a failed plot has joined the map its events are reported, and the tester goes on. -/
theorem State.plotEnd_failed {flash : Bool} {x : PlotSlot} (h : (s.plot f).slots.find? (fun x => x.bank == b && x.testing) = some x) :
    ∃ t, s.plotEnd f b false flash = t.plotNext f b ∧ Reported (s.plotFailed f b flash x) t ∧ t.Raised .tilthTest f 1 := by
  obtain ⟨u, hu⟩ : ∃ u, u = ((s.plotFailed f b flash x).raise .tilthTest f 0 0x0403 0).raiseErr .tilthTest f 1 0x0403 0 0 0 := ⟨_, rfl⟩
  obtain ⟨w, hw⟩ : ∃ w, w = if (u.plot f).repairs b = 7 then u.raiseErr .tilthTest f 2 0x0404 0 0 0 else u := ⟨_, rfl⟩
  have hrun : s.plotEnd f b false flash = (if flash then w else w.raiseErr .tilthTest f 3 0x0405 0 0 0).plotNext f b := by
    simp only [State.plotEnd, h, Bool.false_eq_true, if_false, hw, hu]
    rfl
  have hfailed : Reported (s.plotFailed f b flash x) u := hu ▸ (Reported.refl _).raise.raiseErr
  have hlast : Reported u (if flash then w else w.raiseErr .tilthTest f 3 0x0405 0 0 0) := by
    have huw : Reported u w := hw ▸ .ite (Reported.refl u).raiseErr (.refl u)
    exact .ite huw huw.raiseErr
  have hraised : u.Raised .tilthTest f 1 := hu ▸ State.raised_raiseErr
  exact ⟨_, hrun, ⟨hlast.plots.trans hfailed.plots, fun a ha => (hlast.reg a ha).trans (hfailed.reg a ha),
    fun k i bit h' => hlast.raised k i bit (hfailed.raised k i bit h')⟩, hlast.raised _ _ _ hraised⟩

theorem State.plotFailed_map {flash : Bool} {x : PlotSlot} (hf : f < s.plots.length) :
    ((s.plotFailed f b flash x).plot f).map = (s.plot f).map ++ [⟨b, x.plot, (s.plot f).savePlot b, flash⟩] := by
  rw [State.plotFailed, State.plot_setPlot_self (by simpa using hf)]

theorem State.plotFailed_counted {flash : Bool} {x : PlotSlot} : s.Counted (s.plotFailed f b flash x) (plotReg f 0x118) 1 ∧
    s.Counted (s.plotFailed f b flash x) (plotReg f 0x120) 1 := by
  have htested : (s.bump (plotReg f 0x118)).reg (plotReg f 0x120) = s.reg (plotReg f 0x120) :=
    State.reg_bumpBy_offset 1 (by simp only [plotReg, regAddr_mod]; decide)
  constructor
  · exact State.counted_bumpBy.congr (State.reg_bumpBy_offset 1 (by simp only [plotReg, regAddr_mod]; decide))
  · exact (State.counted_bumpBy (s := s.bump (plotReg f 0x118))).trans (by rw [htested])

/-! ### The obligation -/

/-- Settles O27: errors and stolen cycles by what is counted, a write by the tester's own, a plot by how its test starts and ends. -/
theorem tilthErrorsAndPlots : Obligations.TilthErrorsAndPlots := by
  unfold Obligations.TilthErrorsAndPlots
  refine ⟨?_, ?_, ?_, ?_, ?_, ?_, ?_⟩
  · intro a r w s f o harea hok
    obtain ⟨info0, hrun⟩ := State.tilthEcc_eq (requester := r.val) (work := w.toNat) harea hok
    refine Completes.intro (exec_tilthEccUncorrectable.trans (congrArg _ hrun))
      ⟨State.poisonedAt_of_poison (State.raiseErr_poison ..), State.raiseErr_mem .., ?_, State.raised_raiseErr⟩
    exact State.Counted.congr (State.counted_bumpBy (s := { s with poison := setInsert s.poison (a.toNat / 32 * 32) }))
      (State.reg_raiseErr (by rw [tilthReg, regAddr_mod]; decide))
  · intro a s f o harea hok
    exact Completes.intro (exec_tilthEccWriteback.trans (congrArg _ (State.tilthWriteback_eq harea hok))) ⟨rfl, rfl, State.counted_bumpBy⟩
  · intro via f v s hlands
    obtain ⟨t, -, hafter⟩ := State.writeBy_effect hlands v.isLt (pageAt_ttControl f) (by decide) (by decide)
    rw [State.writeEffect_ttControl] at hafter
    have hbit {old : Nat} : bitOf (mergeWord (regFields .tilthTest 0x100) old v.toNat) 0 = bitOf v.toNat 0 :=
      bitOf_mergeWord storeMask_ttControl (by decide)
    refine Completes.intro exec_ttControlWrite ⟨?_, fun hstop => ?_⟩
    · rw [hafter.ttRun, State.ttRun_ttWrite, hbit]
    · rw [hafter.plot]
      exact State.slots_ttWrite (hbit.trans hstop)
  · intro f b s hlen hrun hlost htest hnone hleft hroom
    have hstart := State.plotStart_first hrun hlost htest hnone hleft hroom
    refine Completes.intro (exec_plotTestStart.trans (congrArg _ hstart)) ?_
    rw [State.plot_setPlot_self (by omega)]
  · intro f b flash s x hlen hx
    obtain ⟨t, hrun, hreported, hraised⟩ := State.plotEnd_failed (flash := flash) hx
    obtain ⟨htested, hfailed⟩ := State.plotFailed_counted (s := s) (f := f.val) (b := b.val) (flash := flash) (x := x)
    have hnext : TesterOnly t (t.plotNext f.val b.val) := State.plotNext_testerOnly
    have hreg {o : Nat} (ho : o % 0x1000 ≠ 0x110 ∧ o % 0x1000 ∉ errorOffsets) :
        (t.plotNext f.val b.val).reg (plotReg f.val o) = (s.plotFailed f.val b.val flash x).reg (plotReg f.val o) :=
      (hnext.reg _ (by rw [plotReg, regAddr_mod]; exact ho.1)).trans (hreported.reg _ (by rw [plotReg, regAddr_mod]; exact ho.2))
    refine Completes.intro (exec_plotTestEnd.trans (congrArg _ hrun))
      ⟨htested.congr (hreg (by decide)), hfailed.congr (hreg (by decide)), ?_, ?_⟩
    · rw [hnext.map, State.plot_congr hreported.plots, State.plotFailed_map (by omega)]
    · exact hraised.congr (hnext.reg _ (by rw [regAddr_mod]; decide))
  · intro f b flash s x hlen hx
    have hnext : TesterOnly (s.bump (plotReg f.val 0x118)) ((s.bump (plotReg f.val 0x118)).plotNext f.val b.val) := State.plotNext_testerOnly
    exact Completes.intro (exec_plotTestEnd.trans (congrArg _ (State.plotEnd_passed hx)))
      ⟨State.counted_bumpBy.congr (hnext.reg _ (by rw [plotReg, regAddr_mod]; decide)), hnext.map _⟩
  · intro f b s hlate
    exact Completes.intro (exec_plotTestSteal.trans (congrArg _ (if_pos hlate))) ⟨rfl, State.counted_bumpBy⟩

end Sys2Proof.Machine
end

section
/-!
Fields of a register beside the one written, a landed write as its page and its port leave it, and what the failure of a Granary
stack leaves alone.
-/
namespace Sys2Proof.Machine

set_option Elab.async false

variable {s t u : State}

/-! ### Fields of a register (R10) -/

/-- Setting a field leaves the bits below it. -/
theorem mod_setBits (w hi lo v : Nat) : setBits w hi lo v % 2 ^ lo = w % 2 ^ lo := by
  have hfield : 2 ^ lo * bitsOf w hi lo ≤ w :=
    (Nat.mul_le_mul_left _ ((Nat.mod_le _ _).trans (Nat.shiftRight_eq_div_pow w lo).le)).trans (Nat.mul_div_le w _)
  rw [setBits, Nat.shiftLeft_eq, Nat.shiftLeft_eq, Nat.add_mul_mod_self_right, Nat.mul_comm, Nat.sub_mul_mod hfield]

theorem State.rf_setRf_above {a k hi lo v : Nat} (hk : k < lo) : (s.setRf a hi lo v).rf a k 0 = s.rf a k 0 := by
  have hdvd : 2 ^ (k + 1) ∣ 2 ^ lo := Nat.pow_dvd_pow 2 hk
  simp only [State.rf, State.reg_setRf, if_true, bitsOf, Nat.shiftRight_zero, Nat.sub_zero]
  rw [← Nat.mod_mod_of_dvd _ hdvd, mod_setBits, Nat.mod_mod_of_dvd _ hdvd]

theorem State.reg_setRf_offset {a b hi lo v : Nat} (h : b % 0x1000 ≠ a % 0x1000) : (s.setRf a hi lo v).reg b = s.reg b :=
  State.reg_setReg_offset _ h

/-! ### A write that lands -/

/-- A landed write takes its page's effect on the state that its port has reached, and its port answers. -/
theorem State.writeBy_landed {via : Via} {k : PageKind} {i off v : Nat} (hlands : Lands via s (regAddr k i off) v) (hv : v < 2 ^ 64)
    (hpage : pageAt (regAddr k i off) 8 = some (k, i)) (hoff : off < 0x1000) (hnot : off ≠ 0x110) :
    ∃ j, s.writeBy via (regAddr k i off) v =
      via.answer (regAddr k i off) v (({ via.arrived s with journal := j } : State).writeEffect via.source k i off v) := by
  obtain ⟨k', i', hpage', -, -, -, heq⟩ := State.regWrite_accepted hlands.2
  obtain ⟨rfl, rfl⟩ : k = k' ∧ i = i' := by simpa [hpage] using hpage'
  obtain ⟨j, hj⟩ := State.writeJournaled_eq (s := via.arrived s) (k := k) (i := i) (src := via.source) (off := off) (v := v)
  have hmod : regAddr k i off % 0x1000 = off := by rw [regAddr_mod, Nat.mod_eq_of_lt hoff]
  rw [hmod, hj] at heq
  have hreset : regAddr k i off ≠ stewReg 0x110 := ne_of_mod_ne (by rw [hmod, stewReg, regAddr_mod]; exact hnot)
  exact ⟨j, (State.writeBy_of_lands hlands hv hreset).trans (congrArg (via.answer _ _) (congrArg Reply.st heq))⟩

/-! ### Stacks -/

theorem State.stack_congr (h : t.stackList = s.stackList) (n : Nat) : t.stack n = s.stack n := by rw [State.stack, State.stack, h]

theorem State.stack_setStack_self {n : Nat} {x : StackSt} (hn : n < s.stackList.length) : (s.setStack n x).stack n = x := by
  simp [State.stack, State.setStack, hn]

theorem Via.arrived_stackList (via : Via) : (via.arrived s).stackList = s.stackList := by cases via <;> rfl

theorem Via.answer_stackList (via : Via) {a v : Nat} : (via.answer a v s).stackList = s.stackList := by
  cases via with
  | hitch seq tag => exact State.respond_stackList ..
  | ethernet seq tag => rfl
  | twoWire => rfl
  | jtag => rfl

/-- No count has fallen since the same state. -/
theorem State.noteCapacity_self : s.noteCapacity s = s := by
  refine if_neg fun h => ?_
  obtain ⟨p, hp, hlt⟩ := List.any_eq_true.1 h
  rw [List.zip_eq_zipWith, List.zipWith_self] at hp
  obtain ⟨x, -, rfl⟩ := List.mem_map.1 hp
  exact absurd (of_decide_eq_true hlt) (lt_irrefl x)

/-! ### What a failure leaves alone (R75, R487, R489) -/

/-- The bytes, the poison and what has been raised stand, with every register but those of errors and that of fill_state. -/
structure FailureKept (s t : State) : Prop where
  mem : t.mem = s.mem
  poison : t.poison = s.poison
  reg : ∀ b, b % 0x1000 ∉ 0x178 :: errorOffsets → t.reg b = s.reg b
  raised : ∀ k i bit, s.Raised k i bit → t.Raised k i bit

theorem FailureKept.refl (s : State) : FailureKept s s := ⟨rfl, rfl, fun _ _ => rfl, fun _ _ _ => id⟩

/-- An update of other parts. -/
theorem FailureKept.same (h : FailureKept s t) (hm : u.mem = t.mem := by rfl) (hp : u.poison = t.poison := by rfl)
    (hr : u.regs = t.regs := by rfl) : FailureKept s u :=
  ⟨hm.trans h.mem, hp.trans h.poison, fun b hb => (State.reg_congr hr b).trans (h.reg b hb),
    fun k i bit h' => (h.raised k i bit h').congr (State.reg_congr hr _)⟩

theorem FailureKept.ite {c : Prop} {_ : Decidable c} (ht : FailureKept s t) (hu : FailureKept s u) : FailureKept s (if c then t else u) := by
  split <;> assumption

theorem FailureKept.raiseErr (h : FailureKept s t) {k : PageKind} {i bit code work info0 info1 : Nat} :
    FailureKept s (t.raiseErr k i bit code work info0 info1) :=
  ⟨(State.raiseErr_mem ..).trans h.mem, (State.raiseErr_poison ..).trans h.poison,
    fun b hb => (State.reg_raiseErr (List.not_mem_of_not_mem_cons hb)).trans (h.reg b hb),
    fun k' i' bit' h' => (h.raised k' i' bit' h').raiseErr⟩

theorem FailureKept.noteCapacity (h : FailureKept s t) {before : State} : FailureKept s (t.noteCapacity before) := .ite h.raiseErr h

theorem FailureKept.setFillState (h : FailureKept s t) {v : Nat} : FailureKept s (t.setRf (regAddr .recovery 0 0x178) 55 48 v) where
  mem := (State.setRf_mem ..).trans h.mem
  poison := (State.setRf_poison ..).trans h.poison
  reg b hb := (State.reg_setRf_offset (by rw [regAddr_mod]; exact List.ne_of_not_mem_cons hb)).trans (h.reg b hb)
  raised k i bit h' := (h.raised k i bit h').congr (State.reg_setRf_offset (by rw [regAddr_mod, regAddr_mod]; decide))

theorem FailureKept.restartFill (h : FailureKept s t) : FailureKept s t.restartFill := .ite (FailureKept.setFillState h.same) h

theorem FailureKept.failStack (h : FailureKept s t) {n code : Nat} : FailureKept s (t.failStack n code) :=
  .ite h (FailureKept.raiseErr <| .restartFill h.same)

theorem FailureKept.counted (h : FailureKept t u) {a n : Nat} (hcount : s.Counted t a n) (ha : a % 0x1000 ∉ 0x178 :: errorOffsets) :
    s.Counted u a n := hcount.congr (h.reg a ha)

end Sys2Proof.Machine
end

section
/-!
Granary caching, errors, scrubbing and stacks (O28).
-/
namespace Sys2Proof.Machine

set_option Elab.async false

variable {s t : State} {id n a f o : Nat}

theorem exec_fill : exec (.fill id) s = .next (s.runFill id) := rfl
theorem exec_demote : exec (.demote id) s = .next (s.runDemote id) := rfl
theorem exec_granaryRefresh {n : Fin 24} {pc : Fin 32} : exec (.granaryRefresh n pc) s = .next s := rfl
theorem exec_freshBlockZero {n : Fin 24} : exec (.freshBlockZero n) s = .next (s.zeroFresh n.val) := rfl
theorem exec_granaryEcc {a : Addr} {c : Fin 5} {w : BitVec 32} : exec (.granaryEcc a c w) s =
    .next ((s.granaryEcc a.toNat (s.accessClass c.val w.toNat) w.toNat).noteCapacity s) := rfl
theorem exec_granaryScrub {a : Addr} {c : Fin 3} : exec (.granaryScrub a c) s = .next ((s.granaryScrub a.toNat c.val).noteCapacity s) := rfl
theorem exec_granaryStackFail {n : Fin 24} {c : Fin 3} : exec (.granaryStackFail n c) s =
    .next ((s.stackFails n.val c.val).noteCapacity s) := rfl
theorem exec_granaryForceFail {via : Via} {n : Fin 24} {v : Word} : exec (.granaryForceFail via n v) s =
    .next (s.writeBy via (regAddr .granary n.val 0x100) (v.toNat ||| 1)) := rfl
theorem exec_granaryTempRead {n : Fin 24} {c : Int} : exec (.granaryTempRead n c) s = .next ((s.granaryTemp n.val c).noteCapacity s) := rfl
theorem exec_granaryRetrain {n : Fin 24} {pc : Fin 32} {repaired : Bool} : exec (.granaryRetrain n pc repaired) s =
    .next ((s.granaryRetrain n.val repaired).noteCapacity s) := rfl

theorem granaryReg_mod (n off : Nat) : granaryReg n off % 0x1000 = off % 0x1000 := regAddr_mod .granary n off

/-! ### FILL and DEMOTE (R276, R290) -/

theorem State.keepLine_flights : (s.keepLine a).flights = s.flights := by
  unfold State.keepLine
  dsimp only []
  split
  · rfl
  · split
    · rfl
    · split
      · rfl
      · rfl

theorem State.keepLines_kept (l : List Nat) : (l.foldl State.keepLine s).flights = s.flights ∧ (l.foldl State.keepLine s).mem = s.mem :=
  ⟨foldl_keeps State.flights _ _ (fun _ _ => State.keepLine_flights) _, (State.keepLines_hintOnly l).mem⟩

theorem State.touchLines_kept : (s.touchLines a n).flights = s.flights ∧ (s.touchLines a n).mem = s.mem := by
  unfold State.touchLines
  split
  · exact ⟨rfl, rfl⟩
  · exact ⟨rfl, rfl⟩

/-- A FILL that has not ended marks lines, which changes neither descriptors nor bytes, and completes. -/
theorem State.runFill_eq {f : Flight} (hf : s.flightOf id 0x0C 1 = some f) (hfired : f.fired = true) (hend : f.ending = none) :
    ∃ (t : State) (info : Nat), s.runFill id = t.complete id info ∧ t.flights = s.flights ∧ t.mem = s.mem := by
  simp only [State.runFill, hf, hfired, hend, Bool.not_true, Option.isSome_none, Bool.false_eq_true, if_false]
  refine ⟨_, _, rfl, ?_⟩
  split
  · exact State.keepLines_kept _
  · exact State.touchLines_kept

theorem State.runDemote_eq {f : Flight} (hf : s.flightOf id 0x0C 2 = some f) (hfired : f.fired = true) :
    s.runDemote id = (s.demote (granaryAddrOf f.words) (granaryLenOf f.words)).complete id (f.ending.getD 0) := by
  simp only [State.runDemote, hf, hfired, Bool.not_true, Bool.false_eq_true, if_false]

/-! ### Fresh blocks (R286) -/

theorem State.zeroFresh_eq {b : Nat} (hstate : (s.stack n).state = 1) (hfresh : lowestFresh s.written n 36864 0 = some b) :
    s.zeroFresh n = { s with written := setInsert s.written (n * 36864 + b) } := by
  simp only [State.zeroFresh, hstate, hfresh, bne_self_eq_false, Bool.false_eq_true, if_false]

/-- A fresh block holds no error. -/
theorem State.granaryEcc_fresh {cls work : Nat} (hfresh : s.freshAt a = true) : s.granaryEcc a cls work = s := by
  unfold State.granaryEcc
  split
  · dsimp only []
    rw [hfresh, Bool.or_true, if_pos rfl]
  · rfl

/-! ### A stack fails (R287, R288) -/

/-- A stack in service that fails is FAILED and to be mapped out, which is raised. -/
theorem State.failStack_failed {code : Nat} (hn : n < s.stackList.length) (hfailed : (s.stack n).state ≠ 2) (hmapped : (s.stack n).state ≠ 3) :
    ((s.failStack n code).stack n).state = 2 ∧ ((s.failStack n code).stack n).mapoutPending = true ∧ (s.failStack n code).Raised .granary n 4 := by
  obtain ⟨t, heq, hstacks⟩ : ∃ t : State, s.failStack n code = t.raiseErr .granary n 4 code 0 0 0 ∧
      t.stackList = (s.setStack n { s.stack n with state := 2, mapoutPending := true }).stackList := by
    refine ⟨_, if_neg (by simp [hfailed, hmapped]), ?_⟩
    unfold State.restartFill
    dsimp only []
    split
    · rfl
    · rfl
  rw [heq, State.stack_congr ((State.raiseErr_stackList ..).trans hstacks), State.stack_setStack_self hn]
  exact ⟨rfl, rfl, State.raised_raiseErr⟩

/-- Each cause of a failure, where it stands, fails the stack with a code of its own. -/
theorem State.stackFails_eq {cause : Nat} (hcause : cause < 3) (hmany : cause = 2 → s.manyChannels n = true) :
    ∃ code, s.stackFails n cause = s.failStack n code := by
  match cause, hcause with
  | 0, _ => exact ⟨0x0416, rfl⟩
  | 1, _ => exact ⟨0x0417, rfl⟩
  | 2, _ => exact ⟨0x0412, if_pos (hmany rfl)⟩

theorem pageAt_granary : ∀ n : Fin 24, pageAt (regAddr .granary n.val 0x100) 8 = some (.granary, n.val) := by decide

/-- The effect of a force_fail bit newly set: the stack fails, and the fall of capacity is noted. -/
theorem State.writeEffect_granary_forced {src : Source} {v : Nat} (hnew : newForce (s.reg (regAddr .granary n 0x100)) v 0 = true) :
    ∃ t : State, s.writeEffect src .granary n 0x100 v = (t.failStack n 0x0418).noteCapacity t ∧ t.stackList = s.stackList := by
  refine ⟨s.setReg (regAddr .granary n 0x100) (mergeWord (regFields .granary 0x100) (s.reg (regAddr .granary n 0x100)) v), ?_, rfl⟩
  exact if_pos (by rw [hnew, Bool.and_true]; rfl)

/-! ### ECC and scrubbing (R280, R281, R293) -/

/-- The state in which an uncorrectable error of a stack's pseudo-channel is noted, its sector poisoned and counted. -/
def State.eccNoted (s : State) (a n channel : Nat) : State :=
  ({ s.setStack n { s.stack n with errs := s.recentErrs n ++ [(channel, s.now)] } with
      poison := setInsert s.poison (a / 32 * 32) } : State).bump (granaryReg n 0x128)

/-- An uncorrectable error outside fresh blocks is noted and raised; the stack may then fail. -/
theorem State.granaryEcc_eq {cls work : Nat} (harea : areaOf a = .granary f o) (hok : s.byteOk a = true) (hfresh : s.freshAt a = false) :
    ∃ channel info0, let t := (s.eccNoted a (s.stackOf f o).1 channel).raiseErr .granary (s.stackOf f o).1 0 0x0410 work info0 cls
      s.granaryEcc a cls work = if t.manyChannels (s.stackOf f o).1 then t.failStack (s.stackOf f o).1 0x0412 else t := by
  simp only [State.granaryEcc, harea, hok, hfresh, Bool.not_true, Bool.or_self, Bool.false_eq_true, if_false]
  exact ⟨_, _, rfl⟩

/-- Whichever access finds it, an uncorrectable error leaves its sector poisoned, is counted and is raised: each command is a new error,
even in a sector already poisoned (log entry 45). -/
theorem State.granaryEcc_uncorrectable {cls work : Nat} (harea : areaOf a = .granary f o) (hok : s.byteOk a = true)
    (hfresh : s.freshAt a = false) : let t := (s.granaryEcc a cls work).noteCapacity s
    t.poison.contains (a / 32 * 32) = true ∧ t.mem = s.mem ∧ s.Counted t (granaryReg (s.stackOf f o).1 0x128) 1 ∧
      t.Raised .granary (s.stackOf f o).1 0 := by
  obtain ⟨channel, info0, heq⟩ := State.granaryEcc_eq (cls := cls) (work := work) harea hok hfresh
  have hraised : FailureKept ((s.eccNoted a (s.stackOf f o).1 channel).raiseErr .granary (s.stackOf f o).1 0 0x0410 work info0 cls)
      ((s.granaryEcc a cls work).noteCapacity s) := heq ▸ .noteCapacity (.ite (FailureKept.refl _).failStack (.refl _))
  have hnoted := (FailureKept.refl (s.eccNoted a (s.stackOf f o).1 channel)).raiseErr (k := .granary) (i := (s.stackOf f o).1) (bit := 0)
    (code := 0x0410) (work := work) (info0 := info0) (info1 := cls)
  refine ⟨?_, hraised.mem.trans hnoted.mem, hraised.counted (hnoted.counted ?_ ?_) ?_, hraised.raised _ _ _ State.raised_raiseErr⟩
  · rw [hraised.poison, hnoted.poison]
    exact List.contains_iff_mem.2 (mem_setInsert_self ..)
  · exact State.counted_bumpBy
  · rw [granaryReg_mod]; decide
  · rw [granaryReg_mod]; decide

/-- A corrected error outside fresh blocks is counted. -/
theorem State.granaryCorrected_eq (harea : areaOf a = .granary f o) (hok : s.byteOk a = true) (hfresh : s.freshAt a = false) :
    s.granaryCorrected a = s.bump (granaryReg (s.stackOf f o).1 0x120) := by
  simp only [State.granaryCorrected, harea, hok, hfresh, Bool.not_false, Bool.and_self, if_true]

/-! ### Temperature (R283, R284) -/

/-- A reading is plausible: in range, and within 10 °C of the last one taken. -/
def plausibleTemp (last : Option Int) (c : Int) : Bool :=
  decide (-20 ≤ c) && decide (c ≤ 130) && last.all (fun l => decide (c - l ≤ 10) && decide (l - c ≤ 10))

theorem plausibleTemp_iff {last : Option Int} {c : Int} :
    plausibleTemp last c = true ↔ -20 ≤ c ∧ c ≤ 130 ∧ ∀ l, last = some l → c - l ≤ 10 ∧ l - c ≤ 10 := by
  cases last <;> simp [plausibleTemp, and_assoc]

theorem plausibleTemp_false {last : Option Int} {c : Int} (h : c < -20 ∨ 130 < c ∨ ∃ l, last = some l ∧ (10 < c - l ∨ 10 < l - c)) :
    plausibleTemp last c = false := by
  refine Bool.eq_false_iff.2 fun htrue => ?_
  obtain ⟨hlow, hhigh, hnear⟩ := plausibleTemp_iff.1 htrue
  rcases h with h | h | ⟨l, hl, h⟩
  · omega
  · omega
  · have := hnear l hl
    omega

theorem toTwos_lt (k : Nat) (c : Int) : toTwos k c < 2 ^ k := by
  have hpos : (0 : Int) < 2 ^ k := by positivity
  have hlt := Int.emod_lt_of_pos c hpos
  have hnonneg := Int.emod_nonneg c hpos.ne'
  rw [toTwos, Int.toNat_lt hnonneg]
  exact_mod_cast hlt

/-- A plausible reading is the stack's last and ends a run of implausible ones, and its page shows it. -/
theorem State.granaryTemp_plausible {c : Int} (hn : n < s.stackList.length) (hstate : (s.stack n).state ≠ 3)
    (hok : plausibleTemp (s.stack n).lastTemp c = true) : ((s.granaryTemp n c).stack n).lastTemp = some c ∧
      ((s.granaryTemp n c).stack n).badRun = 0 ∧ (s.granaryTemp n c).rf (granaryReg n 0x110) 7 0 = toTwos 8 c := by
  obtain ⟨t, x, m, hstacks, hkept, hlast, hrun⟩ : ∃ (t : State) (x : StackSt) (m : Nat), (s.granaryTemp n c).stackList = (s.setStack n x).stackList ∧
      FailureKept (((t.setRf (granaryReg n 0x110) 7 0 (toTwos 8 c)).setRf (granaryReg n 0x110) 8 8 0).setRf (granaryReg n 0x110) 23 16 m)
        (s.granaryTemp n c) ∧ x.lastTemp = some c ∧ x.badRun = 0 := by
    unfold State.granaryTemp
    extract_lets x a ok hold mx s1 s2
    rw [if_neg hstate, if_pos (show ok = true from hok)]
    have hkept : FailureKept s2 (if (s.rf a 39 32 : Int) ≤ c then s2.raiseErr .granary n 2 0x0413 0 0 0 else s2) :=
      .ite (FailureKept.refl s2).raiseErr (.refl s2)
    refine ⟨s1, { x with lastTemp := some c, badRun := 0, hold := hold, maxTemp := some mx }, _, ?_, hkept, rfl, rfl⟩
    split
    · exact State.raiseErr_stackList ..
    · rfl
  have hstack : (s.granaryTemp n c).stack n = x := (State.stack_congr hstacks n).trans (State.stack_setStack_self hn)
  refine ⟨hstack ▸ hlast, hstack ▸ hrun, ?_⟩
  rw [State.rf, hkept.reg _ (by rw [granaryReg_mod]; decide), ← State.rf, State.rf_setRf_above (by decide),
    State.rf_setRf_above (by decide), State.rf_setRf_low, Nat.mod_eq_of_lt (toTwos_lt 8 c)]

/-- An implausible reading leaves the last one taken, and is counted. -/
theorem State.granaryTemp_implausible {c : Int} (hn : n < s.stackList.length) (hstate : (s.stack n).state ≠ 3)
    (hbad : plausibleTemp (s.stack n).lastTemp c = false) : ((s.granaryTemp n c).stack n).lastTemp = (s.stack n).lastTemp ∧
      s.Counted (s.granaryTemp n c) (granaryReg n 0x150) 1 := by
  obtain ⟨t, heq, hstacks, hcount⟩ : ∃ t : State, (s.granaryTemp n c = t ∨ s.granaryTemp n c = t.raiseErr .granary n 3 0x0414 0 0 0) ∧
      t.stackList = (s.setStack n { s.stack n with badRun := (s.stack n).badRun + 1 }).stackList ∧ s.Counted t (granaryReg n 0x150) 1 := by
    unfold State.granaryTemp
    extract_lets x a ok hold mx s1 s2 s3
    rw [if_neg hstate, if_neg (by rw [show ok = false from hbad]; decide)]
    have hcount : s.Counted s3 (granaryReg n 0x150) 1 := State.counted_bumpBy
    split
    · exact ⟨s3.setRf a 8 8 1, .inr rfl, rfl, hcount.congr (State.reg_setReg_offset _ (by rw [granaryReg_mod, granaryReg_mod]; decide))⟩
    · exact ⟨s3, .inl rfl, rfl, hcount⟩
  have hstack : (t.stack n).lastTemp = (s.stack n).lastTemp := by rw [State.stack_congr hstacks, State.stack_setStack_self hn]
  rcases heq with heq | heq
  · rw [heq]
    exact ⟨hstack, hcount⟩
  · rw [heq, State.stack_congr (State.raiseErr_stackList ..)]
    exact ⟨hstack, hcount.congr (State.reg_raiseErr (by rw [granaryReg_mod]; decide))⟩

/-! ### Training (R285) -/

/-- The state in which a retraining is counted and its results and repair are kept. -/
def State.retrained (s : State) (n : Nat) (repaired : Bool) : State :=
  (s.setStack n { s.stack n with trained := some s.now, lanes := (s.stack n).lanes + b2n repaired }).bump (granaryReg n 0x148)

theorem State.granaryRetrain_eq {repaired : Bool} (hstate : (s.stack n).state = 1) : s.granaryRetrain n repaired =
    if repaired then (s.retrained n repaired).raiseErr .granary n 1 0x0415 0 0 0 else s.retrained n repaired := by
  exact if_neg (by simp [hstate])

theorem State.granaryRetrain_stack {repaired : Bool} (hn : n < s.stackList.length) (hstate : (s.stack n).state = 1) :
    (s.granaryRetrain n repaired).stack n =
      { s.stack n with trained := some s.now, lanes := (s.stack n).lanes + b2n repaired } := by
  have hstacks : (s.granaryRetrain n repaired).stackList = (s.retrained n repaired).stackList := by
    rw [State.granaryRetrain_eq hstate]
    split
    · exact State.raiseErr_stackList ..
    · rfl
  rw [State.stack_congr hstacks, State.retrained, State.stack_congr (State.bump_stackList ..), State.stack_setStack_self hn]

/-! ### The obligation -/

/-- Settles O28: descriptors by what a completion leaves, errors by what a failure leaves alone, readings and training by the stack. -/
theorem granaryRuns : Obligations.GranaryRuns := by
  unfold Obligations.GranaryRuns
  refine ⟨?_, ?_, ?_, ?_, ?_, ?_, ?_, ?_, ?_, ?_, ?_, ?_, ?_⟩
  · intro id s f hf hfired hend
    obtain ⟨t, info, hrun, hflights, hmem⟩ := State.runFill_eq hf hfired hend
    have hflight : t.flight id = some f := by rw [State.flight, hflights, ← State.flight, State.flight_of_flightOf hf]
    exact Completes.intro (exec_fill.trans (congrArg _ hrun)) ⟨State.complete_ended hflight, (State.complete_mem ..).trans hmem⟩
  · intro id s f hf hfired
    exact Completes.intro (exec_demote.trans (congrArg _ (State.runDemote_eq hf hfired)))
      ⟨State.complete_ended (State.flight_of_flightOf hf), State.complete_mem .., State.complete_kept ..⟩
  · intro n pc s
    exact exec_granaryRefresh
  · intro n s b hstate hfresh
    exact Completes.intro (exec_freshBlockZero.trans (congrArg _ (State.zeroFresh_eq hstate hfresh)))
      ⟨rfl, List.contains_iff_mem.2 (mem_setInsert_self ..)⟩
  · intro a c w s f o harea hok hfresh
    exact Completes.intro exec_granaryEcc (State.granaryEcc_uncorrectable harea hok hfresh)
  · intro a s f o harea hok hfresh
    obtain ⟨hpoison, -, hcount, -⟩ := State.granaryEcc_uncorrectable (cls := 5) (work := 0) harea hok hfresh
    exact Completes.intro exec_granaryScrub ⟨hpoison, hcount⟩
  · intro a s f o harea hok hfresh
    have hkept := (FailureKept.refl (s.bump (granaryReg (s.stackOf f o).1 0x120))).noteCapacity (before := s)
    refine Completes.intro (exec_granaryScrub.trans (congrArg (fun t => Host.Outcome.next (State.noteCapacity t s))
      (State.granaryCorrected_eq harea hok hfresh))) ⟨hkept.poison, hkept.counted State.counted_bumpBy ?_⟩
    rw [granaryReg_mod]; decide
  · intro a c w s hfresh
    rw [exec_granaryEcc, State.granaryEcc_fresh hfresh, State.noteCapacity_self]
  · intro n c s hlen hfailed hmapped hmany
    obtain ⟨code, hrun⟩ := State.stackFails_eq c.isLt hmany
    obtain ⟨hstate, hpending, hraised⟩ := State.failStack_failed (code := code) (by omega : n.val < s.stackList.length) hfailed hmapped
    refine Completes.intro exec_granaryStackFail ?_
    rw [hrun, State.stack_congr (State.noteCapacity_stackList ..)]
    exact ⟨hstate, hpending, hraised.noteCapacity⟩
  · intro via n v s hlen hfailed hmapped hlands hold
    obtain ⟨j, hwrite⟩ := State.writeBy_landed hlands (Nat.or_lt_two_pow v.isLt (by decide)) (pageAt_granary n) (by decide) (by decide)
    have hreg : (via.arrived s).reg (regAddr .granary n.val 0x100) = s.reg (regAddr .granary n.val 0x100) :=
      (SameTilth.arrived via).reg _ (by rw [regAddr_mod]; decide)
    have hnew : newForce ((via.arrived s).reg (regAddr .granary n.val 0x100)) (v.toNat ||| 1) 0 = true := by
      rw [newForce, bitOf_or, hreg, hold, show bitOf 1 0 = true from rfl, Bool.or_true]
      rfl
    obtain ⟨t, heffect, harrived⟩ := State.writeEffect_granary_forced (s := { via.arrived s with journal := j }) (src := via.source) hnew
    have hstacks : t.stackList = s.stackList := harrived.trans (Via.arrived_stackList via)
    have hstack := State.stack_congr hstacks n.val
    obtain ⟨hstate, hpending, -⟩ := State.failStack_failed (s := t) (code := 0x0418) (by rw [hstacks]; omega)
      (hstack ▸ hfailed) (hstack ▸ hmapped)
    refine Completes.intro (exec_granaryForceFail.trans (congrArg _ hwrite)) ?_
    rw [State.stack_congr (Via.answer_stackList via), heffect, State.stack_congr (State.noteCapacity_stackList ..)]
    exact ⟨hstate, hpending⟩
  · intro n c s hlen hstate hlow hhigh hnear
    obtain ⟨hlast, hrun, hshown⟩ := State.granaryTemp_plausible (by omega : n.val < s.stackList.length) hstate
      (plausibleTemp_iff.2 ⟨hlow, hhigh, hnear⟩)
    refine Completes.intro exec_granaryTempRead ?_
    rw [State.stack_congr (State.noteCapacity_stackList ..), State.rf,
      (FailureKept.refl _).noteCapacity.reg _ (by rw [granaryReg_mod]; decide)]
    exact ⟨hlast, hrun, hshown⟩
  · intro n c s hlen hstate hbad
    obtain ⟨hlast, hcount⟩ := State.granaryTemp_implausible (by omega : n.val < s.stackList.length) hstate (plausibleTemp_false hbad)
    refine Completes.intro exec_granaryTempRead ?_
    rw [State.stack_congr (State.noteCapacity_stackList ..)]
    exact ⟨hlast, (FailureKept.refl _).noteCapacity.counted hcount (by rw [granaryReg_mod]; decide)⟩
  · intro n pc repaired s hlen hstate
    have hkept : FailureKept (s.retrained n.val repaired) (s.granaryRetrain n.val repaired) :=
      State.granaryRetrain_eq hstate ▸ .ite (FailureKept.refl _).raiseErr (.refl _)
    refine Completes.intro exec_granaryRetrain ⟨?_, ?_⟩
    · exact hkept.noteCapacity.counted State.counted_bumpBy (by rw [granaryReg_mod]; decide)
    · rw [State.stack_congr (State.noteCapacity_stackList ..), State.granaryRetrain_stack (by omega) hstate]
      refine ⟨rfl, rfl, fun hrepaired => State.Raised.noteCapacity ?_⟩
      rw [State.granaryRetrain_eq hstate, if_pos hrepaired]
      exact State.raised_raiseErr

end Sys2Proof.Machine
end

section
/-!
Drill's own reasoning rules: rings, what moving a COPY's bytes leaves alone, what a completion and a cancellation leave alone.
-/
namespace Sys2Proof.Machine

set_option Elab.async false

variable {s t : State} {a n id : Nat}

theorem drillReg_mod (f e off : Nat) : drillReg f e off % 0x1000 = off % 0x1000 := regAddr_mod .drill (4 * f + e) off

/-! ### Rings (R305) -/

theorem State.ring_congr (h : t.rings = s.rings) (q : Nat) : t.ring q = s.ring q := by rw [State.ring, State.ring, h]

theorem State.ring_setRing_self {q : Nat} {r : Ring} (hq : q < s.rings.length) : (s.setRing q r).ring q = r := by
  simp [State.ring, State.setRing, hq]

/-! ### What a completion leaves alone (R65, R71) -/

/-- A completion writes last_work_id of its window and may raise an event: registers at other offsets stand. -/
theorem State.reg_complete {info b : Nat} (h120 : b % 0x1000 ≠ 0x120) (h30 : b % 0x1000 ≠ 0x030) (h140 : b % 0x1000 ≠ 0x140) :
    (s.complete id info).reg b = s.reg b := by
  unfold State.complete
  split
  · rfl
  · extract_lets s1 sg s2 s3 s4
    have h2 : s2.reg b = s.reg b := by
      unfold s2
      split <;> rfl
    have h3 : s3.reg b = s.reg b := (State.reg_setRf_offset (by rw [regAddr_mod]; exact h120)).trans h2
    have h4 : s4.reg b = s.reg b := by
      unfold s4
      split
      · exact (State.reg_raise h30 h140).trans h3
      · exact h3
    split
    · exact h4
    · exact h4

/-- A Drill counter keeps its count when the descriptor completes. -/
theorem State.Counted.complete {f e off info : Nat} (h : s.Counted t (drillReg f e off) n)
    (hoff : off % 0x1000 ≠ 0x120 ∧ off % 0x1000 ≠ 0x030 ∧ off % 0x1000 ≠ 0x140) :
    s.Counted (t.complete id info) (drillReg f e off) n := by
  rw [← drillReg_mod f e off] at hoff
  exact h.congr (State.reg_complete hoff.1 hoff.2.1 hoff.2.2)

/-! ### What moving bytes leaves alone (R303, R304) -/

/-- A line marked KEEP changes the marks, and the count of marks given up. -/
theorem State.keepLine_eq : ∃ kept regs, s.keepLine a = { s with kept := kept, regs := regs } := by
  unfold State.keepLine
  dsimp only []
  split
  · exact ⟨_, _, rfl⟩
  · split
    · exact ⟨_, _, rfl⟩
    · split
      · exact ⟨_, _, rfl⟩
      · exact ⟨_, _, rfl⟩

/-- A read under a cache hint changes the marks, and the count of marks given up. -/
theorem State.readHint_eq {hint : Nat} : ∃ kept regs, s.readHint a n hint = { s with kept := kept, regs := regs } := by
  have hkeep (t : State) (b : Nat) : (∃ kept regs, t = { s with kept := kept, regs := regs }) →
      ∃ kept regs, t.keepLine b = { s with kept := kept, regs := regs } := by
    rintro ⟨kept, regs, rfl⟩
    obtain ⟨kept', regs', heq⟩ := State.keepLine_eq (s := { s with kept := kept, regs := regs }) (a := b)
    exact ⟨kept', regs', heq⟩
  unfold State.readHint State.touchLines State.demote
  split
  · exact ⟨_, _, rfl⟩
  · split
    · split
      · exact ⟨_, _, rfl⟩
      · exact ⟨_, _, rfl⟩
    · split
      · exact foldl_inv (fun t => ∃ kept regs, t = { s with kept := kept, regs := regs }) State.keepLine _ hkeep ⟨_, _, rfl⟩
      · split
        · exact ⟨_, _, rfl⟩
        · exact ⟨_, _, rfl⟩

/-- Descriptors and stacks stand, and every register but the Granary's counts of marks given up and of writes dropped. -/
structure MoveOnly (s t : State) : Prop where
  flights : t.flights = s.flights
  stackList : t.stackList = s.stackList
  reg : ∀ b, b % 0x1000 ≠ 0x130 → b % 0x1000 ≠ 0x158 → t.reg b = s.reg b

theorem MoveOnly.refl (s : State) : MoveOnly s s := ⟨rfl, rfl, fun _ _ _ => rfl⟩

theorem MoveOnly.store (h : MoveOnly s t) {bs : List Byte} : MoveOnly s (t.store a bs) where
  flights := (State.store_flights ..).trans h.flights
  stackList := (State.store_stackList ..).trans h.stackList
  reg b h130 h158 := (State.reg_store h158).trans (h.reg b h130 h158)

theorem MoveOnly.readHint (h : MoveOnly s t) {hint : Nat} : MoveOnly s (t.readHint a n hint) := by
  obtain ⟨kept, regs, heq⟩ := State.readHint_eq (s := t) (a := a) (n := n) (hint := hint)
  refine ⟨?_, ?_, fun b h130 h158 => (State.readHint_hintOnly.reg b h130).trans (h.reg b h130 h158)⟩
  · rw [heq]; exact h.flights
  · rw [heq]; exact h.stackList

theorem MoveOnly.writeHint (h : MoveOnly s t) {hint : Nat} : MoveOnly s (t.writeHint a n hint) := by
  unfold State.writeHint
  split
  · exact h
  · exact h.readHint

theorem MoveOnly.foldl {α : Type} {g : State → α → State} {l : List α} (h : MoveOnly s t) (hg : ∀ u x, MoveOnly s u → MoveOnly s (g u x)) :
    MoveOnly s (l.foldl g t) := foldl_inv (MoveOnly s) g l hg h

theorem MoveOnly.storeParts (h : MoveOnly s t) {b hint : Nat} {parts : List (Nat × List Byte)} : MoveOnly s (t.storeParts b hint parts) := by
  unfold State.storeParts
  split
  · exact h.store.writeHint
  · exact h.foldl fun _ _ h' => h'.store.writeHint

theorem MoveOnly.fillSectors (h : MoveOnly s t) {dst : List (Nat × Nat)} {hint : Nat} {held parts : List (Nat × List Byte)} :
    MoveOnly s (t.fillSectors dst hint held parts).1 := by
  refine List.foldlRecOn (motive := fun r : State × List (Nat × List Byte) => MoveOnly s r.1) _ _ h fun r hr x _ => ?_
  dsimp only []
  split
  · exact hr.storeParts
  · exact hr

/-! ### Bytes read -/

theorem State.length_bytes (s : State) (a n : Nat) : (s.bytes a n).length = n := by
  induction n generalizing a with
  | zero => rfl
  | succ n ih => rw [State.bytes, List.length_cons, ih]

theorem State.getD_bytes {i : Nat} (hi : i < n) : (s.bytes a n).getD i 0 = s.byte (a + i) := by
  induction n generalizing a i with
  | zero => cases hi
  | succ n ih =>
    cases i with
    | zero => rfl
    | succ i =>
      rw [State.bytes, List.getD_cons_succ, ih (Nat.lt_of_succ_lt_succ hi)]
      congr 1
      omega

/-! ### What a cancellation leaves alone (R312) -/

theorem State.flight_isSome_iff : (s.flight id).isSome = true ↔ id ∈ s.flights.map Flight.id := by
  simp [State.flight]

/-- Memory stands, and so do the identifiers of the descriptors in flight: a cancelled one is still to complete. -/
structure CancelKept (s t : State) : Prop where
  mem : t.mem = s.mem
  ids : t.flights.map Flight.id = s.flights.map Flight.id

theorem CancelKept.refl (s : State) : CancelKept s s := ⟨rfl, rfl⟩

theorem CancelKept.setFlight (h : CancelKept s t) {f : Flight} : CancelKept s (t.setFlight f) where
  mem := h.mem
  ids := by
    rw [← h.ids, State.setFlight, List.map_map]
    refine List.map_congr_left fun g _ => ?_
    by_cases hid : g.id = f.id
    · simp [hid]
    · simp [hid]

theorem CancelKept.endPass (h : CancelKept s t) {f : Flight} {code : Nat} : CancelKept s (t.endPass f code) := h.setFlight

theorem CancelKept.setArray (h : CancelKept s t) {i : Nat} {x : ArraySt} : CancelKept s (t.setArray i x) := ⟨h.mem, h.ids⟩

theorem CancelKept.ite {c : Prop} {_ : Decidable c} {u : State} (ht : CancelKept s t) (hu : CancelKept s u) :
    CancelKept s (if c then t else u) := by
  split <;> assumption

theorem CancelKept.cancelOne (h : CancelKept s t) : CancelKept s (t.cancelOne id) := by
  unfold State.cancelOne
  split
  · exact h
  · extract_lets p begun allIn s1 later s2 c q
    have hs1 : CancelKept s s1 := h.endPass
    have hs2 : CancelKept s s2 := by
      refine foldl_inv (CancelKept s) _ _ (fun u i hu => ?_) hs1
      split
      · exact hu.endPass
      · exact hu
    refine .ite h (.ite ?_ (.ite (.ite h.setFlight h) (.ite (.ite h h.setFlight) h.setFlight)))
    exact .ite h (.ite hs1 (.ite hs2 hs2.setArray))

theorem CancelKept.flight {f : Flight} (h : CancelKept s t) (hf : s.flight id = some f) : ∃ g, t.flight id = some g := by
  rw [← Option.isSome_iff_exists, State.flight_isSome_iff, h.ids, ← State.flight_isSome_iff, hf]
  rfl

/-- Registers that are all given one value hold it, whichever is written last. -/
theorem State.reg_foldl_setReg {g : Nat → Nat} {v e : Nat} {l : List Nat} (he : e ∈ l) :
    (l.foldl (fun t e => t.setReg (g e) v) s).reg (g e) = v := by
  induction l generalizing s with
  | nil => cases he
  | cons x l ih =>
    rcases List.mem_cons.1 he with rfl | hrest
    · refine foldl_inv (fun t => t.reg (g e) = v) _ l (fun t y ht => ?_) (State.reg_setReg_self s _ v)
      rw [State.reg_setReg, ht, ite_self]
    · exact ih hrest

end Sys2Proof.Machine
end

section
/-!
Drill descriptors run (O29).
-/
namespace Sys2Proof.Machine

set_option Elab.async false

variable {s : State} {id gw cw lw : Nat} {f : Flight}

theorem exec_headlandGateOpen : exec (.headlandGateOpen id) s = .next (s.openGate id) := rfl
theorem exec_drillStart : exec (.drillStart id gw cw lw) s = .next (s.drillStart id gw cw lw) := rfl
theorem exec_copy : exec (.copy id) s = .next (s.copyRow id) := rfl
theorem exec_drillComplete {discarded : Nat} : exec (.drillComplete id discarded) s = .next (s.drillComplete id discarded) := rfl
theorem exec_ringSetup : exec (.ringSetup id) s = .next (s.ringSetup id) := rfl
theorem exec_ringCredit : exec (.ringCredit id) s = .next (s.ringCredit id) := rfl
theorem exec_drillCancel {x : Fin 8} : exec (.drillCancel id x) s = .next (s.cancelField id x.val) := rfl

/-- A descriptor that has been given a program is found in flight with it. -/
theorem State.flight_any_setFlight {t : State} {g : Flight} {p : Flight → Bool} (hf : t.flight id = some f) (hid : g.id = id) (hp : p g = true) :
    ((t.setFlight g).flight id).any p = true := by
  rw [State.flight_setFlight hf hid, Option.any_some, hp]

/-! ### Gates (R309) -/

theorem State.openGate_eq (hf : s.flightOf id 4 1 = some f) (hready : s.gateReady f = true) :
    s.openGate id = s.setFlight { f with prog := .copy { f.copy? with gateOpen := true } } := by
  simp only [State.openGate, hf, hready, if_true]

/-! ### Starts (R298, R299, R306) -/

/-- A COPY that nothing in its queue holds: its launch condition is met, its gate is open, all before it have started, and the outstanding
count is below the limit (R298). -/
structure State.MayStart (s : State) (id : Nat) (f : Flight) : Prop where
  flight : s.flightOf id 4 1 = some f
  unstarted : f.started = false
  unended : f.ending = none
  fired : f.fired = true
  gate : f.copy?.gateOpen = true
  oldest : ((s.queueFlights f.dq).takeWhile (fun g => g.id != id)).any (fun g => !g.started && g.ending.isNone) = false
  room : s.queueOutstanding f.dq < s.queueLimit f.dq
  enabled : s.enabled .drill (f.dq / 32 * 4 + f.dq % 4) = true

/-- The state in which the cycles that a queue's head has waited are counted (R316). -/
def State.waited (s : State) (q gw cw lw : Nat) : State :=
  ((s.bumpBy (drillReg (q / 32) (q % 4) 0x220) gw).bumpBy (drillReg (q / 32) (q % 4) 0x228) cw).bumpBy (drillReg (q / 32) (q % 4) 0x230) lw

theorem State.waited_counted {q : Nat} : s.Counted (s.waited q gw cw lw) (drillReg (q / 32) (q % 4) 0x220) gw ∧
    s.Counted (s.waited q gw cw lw) (drillReg (q / 32) (q % 4) 0x228) cw := by
  constructor
  · refine State.counted_bumpBy.congr ((State.reg_bumpBy_offset lw ?_).trans (State.reg_bumpBy_offset cw ?_))
    · simp [drillReg_mod]
    · simp [drillReg_mod]
  · rw [State.Counted, State.waited, State.reg_bumpBy_offset lw (by simp [drillReg_mod]), State.reg_bumpBy, if_pos rfl,
      State.reg_bumpBy_offset gw (by simp [drillReg_mod])]

/-- A COPY that writes no ring, or moves nothing, starts. -/
theorem State.drillStart_plain (h : s.MayStart id f) (hplain : (copyF f.words).ringDst = false ∨ copyEmpty (copyF f.words) = true) :
    s.drillStart id gw cw lw = (s.waited f.dq gw cw lw).setFlight { f with started := true } := by
  obtain ⟨hf, hstarted, hend, hfired, hgate, hbefore, hroom, hon⟩ := h
  have hno : (!(copyF f.words).ringDst || copyEmpty (copyF f.words)) = true := by
    rcases hplain with h | h <;> simp [h]
  simp [State.drillStart, State.waited, hf, hstarted, hend, hfired, hgate, hbefore, hroom, hon, hno]

/-- The slot that a ring's next COPY writes (R306). -/
def Ring.nextSlot (r : Ring) : Nat := r.base + r.seq % r.slots * r.slotBytes

/-- A COPY that writes its queue's ring: its destination fits a slot, a credit is there, and the next slot is populated and does not meet
the source (R28, R304, R306). -/
structure State.SlotReady (s : State) (f : Flight) : Prop where
  ringDst : (copyF f.words).ringDst = true
  moves : copyEmpty (copyF f.words) = false
  slots : (s.ring f.dq).slots ≠ 0
  fits : ringFits (copyF f.words) (s.ring f.dq) = true
  credits : (s.ring f.dq).credits ≠ 0
  populated : s.rangesPopulated (copyDst (copyF f.words) (s.ring f.dq).nextSlot) = true
  apart : rangesOverlap (copyDst (copyF f.words) (s.ring f.dq).nextSlot) (copySrc (copyF f.words)) = false

/-- A ring COPY whose slot is ready starts on it and takes a credit (R306). -/
theorem State.drillStart_ring (h : s.MayStart id f) (hslot : s.SlotReady f) :
    s.drillStart id gw cw lw = ((s.waited f.dq gw cw lw).setRing f.dq
        { s.ring f.dq with credits := (s.ring f.dq).credits - 1, seq := ((s.ring f.dq).seq + 1) % 2 ^ 32 }).setFlight
      { f with started := true, prog := .copy { f.copy? with dst := (s.ring f.dq).nextSlot, credit := true } } := by
  obtain ⟨hf, hstarted, hend, hfired, hgate, hbefore, hroom, hon⟩ := h
  obtain ⟨hring, hsome, hslots, hfits, hcredit, hpop, hapart⟩ := hslot
  unfold Ring.nextSlot at hpop hapart ⊢
  simp [State.drillStart, State.waited, hf, hstarted, hend, hfired, hgate, hbefore, hroom, hon, hring, hsome, hslots, hfits, hcredit, hpop, hapart]

/-! ### Rows (R303) -/

/-- Where the next row of a COPY without transpose goes. -/
def copyDstRow (c : CopyF) (p : CopyProg) : Nat := p.dst + p.row / c.y * c.dz + p.row % c.y * c.dy

theorem copyAlone_flat {c : CopyF} {base : Nat} (h : copyAlone c base = true) : c.transpose = 0 := by
  simp only [copyAlone, Bool.and_eq_true, beq_iff_eq] at h
  exact h.1

/-- A row stored as it stands, read under a hint and written under it, puts its source's bytes at its destination. -/
theorem State.mem_rowMoved {src dst x hint : Nat} (hlive : ∀ i, i < x → s.deadAt (dst + i) = false) :
    (((s.readHint src x hint).store dst (s.bytes src x)).writeHint dst x hint).mem = memPutAll s.mem dst (s.bytes src x) := by
  have hread : MoveOnly s (s.readHint src x hint) := (MoveOnly.refl s).readHint
  rw [State.writeHint_hintOnly.mem, State.mem_store, State.readHint_hintOnly.mem]
  intro i hi
  rw [State.deadAt_congr hread.stackList, hlive i (State.length_bytes s src x ▸ hi)]

/-- A started COPY that meets no poison moves its next source row and counts its bytes. -/
theorem State.copyRow_eq (hf : s.flightOf id 4 1 = some f) (hstarted : f.started = true) (hgoes : f.copy?.stopped = none)
    (hmore : f.copy?.row < copyRows (copyF f.words))
    (hclean : s.readsPoison (copySrcRow (copyF f.words) f.copy?.row) (copyF f.words).x = false) :
    ∃ t held, s.copyRow id = (t.bumpBy (drillReg (f.dq / 32) (f.dq % 4) 0x200) (copyF f.words).x).setFlight
        { f with prog := .copy { f.copy? with row := f.copy?.row + 1, held := held } } ∧ MoveOnly s t ∧
      (copyAlone (copyF f.words) f.copy?.dst = true → (∀ i, i < (copyF f.words).x → s.deadAt (copyDstRow (copyF f.words) f.copy? + i) = false) →
        t.mem = memPutAll s.mem (copyDstRow (copyF f.words) f.copy?) (s.bytes (copySrcRow (copyF f.words) f.copy?.row) (copyF f.words).x)) := by
  simp -zeta only [State.copyRow, hf]
  extract_lets c p i src e dsts n bs s1 r
  rw [if_neg (by simp [p, hstarted, hgoes, c, hmore]), if_neg (by rw [hclean]; decide)]
  have hread : MoveOnly s s1 := (MoveOnly.refl s).readHint
  have hmoved : MoveOnly s r.1 := by
    unfold r
    split
    · exact hread.foldl fun _ _ h => h.store.writeHint
    · exact hread.fillSectors
  refine ⟨r.1, r.2, rfl, hmoved, fun (halone : copyAlone c p.dst = true) hlive => ?_⟩
  have hflat : c.transpose = 0 := copyAlone_flat halone
  have hbytes : (bs.drop 0).take c.x = bs := by rw [List.drop_zero, List.take_of_length_le (State.length_bytes ..).le]
  simp only [r, if_pos halone, dsts, n, if_pos hflat, List.foldl_cons, List.foldl_nil]
  rw [hbytes]
  exact State.mem_rowMoved hlive

/-! ### Completion (R300) -/

/-- A COPY whose rows have all moved completes when none of its queue is before it, the bytes discarded and the descriptor counted. -/
theorem State.drillComplete_eq {discarded : Nat} (hf : s.flight id = some f) (hcls : f.cls = 4) (hop : f.op = 1) (hstarted : f.started = true)
    (hend : f.ending = none) (hgoes : f.copy?.stopped = none) (hrows : copyRows (copyF f.words) ≤ f.copy?.row)
    (hfirst : ((s.queueFlights f.dq).takeWhile (fun g => g.id != id)).isEmpty = true) :
    s.drillComplete id discarded = ((s.bumpBy (drillReg (f.dq / 32) (f.dq % 4) 0x218) discarded).bump
      (drillReg (f.dq / 32) (f.dq % 4) 0x208)).complete id 0 := by
  simp [State.drillComplete, State.returnCredit, hf, hcls, hop, hstarted, hend, hgoes, hrows, hfirst]

/-! ### RING_SETUP and RING_CREDIT (R305, R307) -/

theorem State.ringSetup_eq (hf : s.flightOf id 4 2 = some f) (hfired : f.fired = true) (hend : f.ending = none)
    (hfirst : ((s.queueFlights f.dq).takeWhile (fun g => g.id != id)).isEmpty = true)
    (hon : s.enabled .drill (f.dq / 32 * 4 + f.dq % 4) = true) (hbytes : (ringF f.words).slotBytes % 64 = 0) (hslots : (ringF f.words).slots ≠ 0) :
    s.ringSetup id = ((s.setRing f.dq ⟨(ringF f.words).base, (ringF f.words).slots, (ringF f.words).slotBytes, (ringF f.words).slots, 0⟩).bump
      (drillReg (f.dq / 32) (f.dq % 4) 0x208)).complete id 0 := by
  simp [State.ringSetup, hf, hfired, hend, hfirst, hon, hbytes, hslots]

theorem State.ringCredit_eq (hf : s.flightOf id 4 3 = some f) (hfired : f.fired = true) (hend : f.ending = none)
    (hslots : (ringF f.words).slots ≠ 0) (hroom : (s.ring f.dq).credits + (ringF f.words).slots ≤ (s.ring f.dq).slots) :
    s.ringCredit id = ((s.setRing f.dq { s.ring f.dq with credits := (s.ring f.dq).credits + (ringF f.words).slots }).bump
      (drillReg (f.dq / 32) (f.dq % 4) 0x208)).complete id 0 := by
  simp [State.ringCredit, hf, hfired, hend, hslots, Nat.not_lt.2 hroom]

/-- A ring that has been set is as set when its descriptor has completed. -/
theorem State.ring_complete_setRing {q a info : Nat} {r : Ring} (hq : q < s.rings.length) :
    (((s.setRing q r).bump a).complete id info).ring q = r := by
  rw [State.ring_congr ((State.complete_rings ..).trans (State.bump_rings ..)), State.ring_setRing_self hq]

/-! ### The decision cycle of a CANCEL (R311) -/

/-- The number of matches shown on the four DRILL pages of a Field (R316). -/
def State.lastCancel (s : State) (x n : Nat) : State := (List.range 4).foldl (fun t e => t.setReg (drillReg x e 0x238) n) s

theorem State.flight_lastCancel (s : State) (x n : Nat) : (s.lastCancel x n).flight id = s.flight id :=
  foldl_keeps (fun t => t.flight id) (fun t e => t.setReg (drillReg x e 0x238) n) _ (fun _ _ => rfl) s

theorem State.lastCancel_mem (s : State) (x n : Nat) : (s.lastCancel x n).mem = s.mem :=
  foldl_keeps State.mem (fun t e => t.setReg (drillReg x e 0x238) n) _ (fun _ _ => rfl) s

theorem State.reg_lastCancel {x n e : Nat} (he : e < 4) : (s.lastCancel x n).reg (drillReg x e 0x238) = n :=
  State.reg_foldl_setReg (g := fun e => drillReg x e 0x238) (List.mem_range.2 he)

/-- The decision on a Field ends the matches one by one, shows their number on the four pages and marks the Field decided. -/
theorem State.cancelField_eq {x : Nat} {p : CancelProg} (hf : s.flightOf id 4 4 = some f) (hprog : f.prog = .cancel p) (hfired : f.fired = true)
    (hfield : bitOf (cancelF f.words).fields x = true) (hnew : bitOf p.decided x = false)
    (hclass : ((cancelF f.words).drill || (cancelF f.words).furrow || (cancelF f.words).harrow) = true) :
    ∃ (t : State) (matched : List Nat), s.cancelField id x =
        (t.lastCancel x ((s.flights.filter (cancelMatches (cancelF f.words) x)).length % 2 ^ 32)).setFlight
          { f with started := true, prog := .cancel ⟨p.decided ||| (1 <<< x), matched⟩ } ∧ CancelKept s t := by
  have hgo : (!f.fired || !bitOf (cancelF f.words).fields x || bitOf p.decided x ||
      (!(cancelF f.words).drill && !(cancelF f.words).furrow && !(cancelF f.words).harrow)) = false := by
    rw [hfired, hfield, hnew, ← Bool.not_or, ← Bool.not_or, hclass]
    rfl
  simp only [State.cancelField, hf, hprog, hgo, Bool.false_eq_true, if_false, List.length_map]
  exact ⟨_, _, rfl, foldl_inv (CancelKept s) State.cancelOne _ (fun _ _ h => h.cancelOne) (.refl s)⟩

/-! ### The obligation -/

/-- Settles O29: each command by the state it answers, in which the descriptor, its counters, its ring and its bytes are read off. -/
theorem drillRuns : Obligations.DrillRuns := by
  unfold Obligations.DrillRuns
  refine ⟨?_, ?_, ?_, ?_, ?_, ?_, ?_, ?_⟩
  · intro id s f hf hready
    have hflight := State.flight_of_flightOf hf
    have hid : f.id = id := State.flight_id hflight
    exact Completes.intro (exec_headlandGateOpen.trans (congrArg _ (State.openGate_eq hf hready)))
      (State.flight_any_setFlight hflight hid rfl)
  · intro id gw cw lw s f hf hstarted hend hfired hgate hbefore hroom hon hplain
    have hflight := State.flight_of_flightOf hf
    have hid : f.id = id := State.flight_id hflight
    obtain ⟨hgates, hcredits⟩ := State.waited_counted (s := s) (q := f.dq) (gw := gw) (cw := cw) (lw := lw)
    exact Completes.intro (exec_drillStart.trans (congrArg _
        (State.drillStart_plain ⟨hf, hstarted, hend, hfired, hgate, hbefore, hroom, hon⟩ hplain)))
      ⟨State.flight_any_setFlight (t := s.waited ..) hflight hid rfl, hgates.congr rfl, hcredits.congr rfl⟩
  · intro id gw cw lw s f hf hstarted hend hfired hgate hbefore hroom hon hring hsome hslots hfits hcredit hq ⟨hpop, hapart⟩
    have hflight := State.flight_of_flightOf hf
    have hid : f.id = id := State.flight_id hflight
    refine Completes.intro (exec_drillStart.trans (congrArg _ (State.drillStart_ring ⟨hf, hstarted, hend, hfired, hgate, hbefore, hroom, hon⟩
      ⟨hring, hsome, hslots, hfits, hcredit, hpop, hapart⟩))) ⟨?_, ?_⟩
    · exact State.flight_any_setFlight (t := (s.waited ..).setRing ..) hflight hid (beq_self_eq_true _)
    · exact congrArg Ring.credits (State.ring_setRing_self (s := s.waited f.dq gw cw lw) hq)
  · intro id s f hok hf hstarted hgoes hmore hclean
    have hflight := State.flight_of_flightOf hf
    have hid : f.id = id := State.flight_id hflight
    obtain ⟨t, held, hrun, hmoved, hmem⟩ := State.copyRow_eq hf hstarted hgoes hmore hclean
    have hthere : t.flight id = some f := by rw [State.flight, hmoved.flights, ← State.flight, hflight]
    refine Completes.intro (exec_copy.trans (congrArg _ hrun)) ⟨?_, ?_, fun halone hlive i hi => ?_⟩
    · exact State.flight_any_setFlight (t := t.bumpBy ..) hthere hid (beq_self_eq_true _)
    · have hreg : t.reg (drillReg (f.dq / 32) (f.dq % 4) 0x200) = s.reg (drillReg (f.dq / 32) (f.dq % 4) 0x200) :=
        hmoved.reg _ (by rw [drillReg_mod]; decide) (by rw [drillReg_mod]; decide)
      rw [State.Counted, ← hreg]
      exact State.counted_bumpBy
    · have hlen := State.length_bytes s (copySrcRow (copyF f.words) f.copy?.row) (copyF f.words).x
      change memGet t.mem (copyDstRow (copyF f.words) f.copy? + i) = _
      rw [hmem halone hlive, memGet_memPutAll hok, if_pos (by omega), Nat.add_sub_cancel_left, State.getD_bytes hi]
  · intro id discarded s f hf hcls hop hstarted hend hgoes hrows hfirst
    refine Completes.intro (exec_drillComplete.trans (congrArg _
      (State.drillComplete_eq hf hcls hop hstarted hend hgoes hrows hfirst))) ⟨State.complete_ended hf, .complete ?_ (by decide), .complete ?_ (by decide)⟩
    · rw [State.Counted, State.bump, State.reg_bumpBy, if_pos rfl, State.reg_bumpBy_offset discarded (by simp [drillReg_mod])]
    · exact State.counted_bumpBy.congr (State.reg_bumpBy_offset 1 (by simp [drillReg_mod]))
  · intro id s f hf hfired hend hq hfirst hon hbytes hslots
    exact Completes.intro (exec_ringSetup.trans (congrArg _ (State.ringSetup_eq hf hfired hend hfirst hon hbytes hslots)))
      ⟨State.complete_ended (State.flight_of_flightOf hf), State.ring_complete_setRing hq⟩
  · intro id s f hf hfired hend hq hslots hroom
    exact Completes.intro (exec_ringCredit.trans (congrArg _ (State.ringCredit_eq hf hfired hend hslots hroom)))
      ⟨State.complete_ended (State.flight_of_flightOf hf), congrArg Ring.credits (State.ring_complete_setRing hq)⟩
  · intro id x s f p hf hprog hfired hfield hnew hclass
    have hflight := State.flight_of_flightOf hf
    have hid : f.id = id := State.flight_id hflight
    obtain ⟨t, matched, hrun, hkept⟩ := State.cancelField_eq hf hprog hfired hfield hnew hclass
    obtain ⟨g, hg⟩ := hkept.flight hflight
    refine Completes.intro (exec_drillCancel.trans (congrArg _ hrun)) ⟨?_, fun e => ?_, ?_⟩
    · exact State.flight_any_setFlight ((State.flight_lastCancel ..).trans hg) hid (bitOf_or_one _ _)
    · exact (State.reg_congr (State.setFlight_regs ..) _).trans (State.reg_lastCancel e.isLt)
    · exact (State.setFlight_mem ..).trans ((State.lastCancel_mem ..).trans hkept.mem)

end Sys2Proof.Machine
end

section
/-!
Coulter's own reasoning rules: a sample read after it is set, what charging and counting leave alone, how a sample ends, and what the
failure of a core does with the sample that the core held.
-/
namespace Sys2Proof.Machine

variable {s t : State} {x y : Samp} {a b c n outcome : Nat}

theorem coulterReg_mod (off : Nat) : coulterReg off % 0x1000 = off % 0x1000 := regAddr_mod .coulter 0 off

theorem decReg_mod (c off : Nat) : decReg c off % 0x1000 = off % 0x1000 := regAddr_mod .coulterDec c off

/-! ### Samples by their numbers -/

theorem State.samp_id (h : s.samp n = some x) : x.id = n := by simpa using List.find?_some h

theorem State.samp_congr (h : t.coulter.samples = s.coulter.samples) (n : Nat) : t.samp n = s.samp n := by rw [State.samp, State.samp, h]

/-- A sample that has been set is found by its number. -/
theorem State.samp_setSamp (h : s.samp n = some x) (hy : y.id = n) : (s.setSamp y).samp n = some y := by
  have hsame : (fun z : Samp => z.id == n) ∘ (fun z : Samp => if z.id == y.id then y else z) = fun z => z.id == n := by
    funext z
    by_cases hz : z.id = n
    · simp [hz, hy]
    · simp [hz, hy]
  have hfound : s.coulter.samples.find? (fun z => z.id == n) = some x := h
  rw [State.samp, State.setSamp, List.find?_map, hsame, hfound, Option.map_some, if_pos (by simp [State.samp_id h, hy])]

/-! ### Work charged and outcomes counted (R325, R339) -/

/-- The offsets of the work and outcome counters of COULTER and COULTER_DEC, that of the samples ended on a core aside. -/
def workOffsets : List Nat := [0x128, 0x180, 0x188, 0x190, 0x198, 0x1A0, 0x1A8, 0x1B0, 0x1B8]

/-- Coulter, the bytes and the stacks stand, and every register but those counters. -/
structure WorkOnly (s t : State) : Prop where
  coulter : t.coulter = s.coulter
  mem : t.mem = s.mem
  stackList : t.stackList = s.stackList
  reg : ∀ b, b % 0x1000 ∉ workOffsets → t.reg b = s.reg b

theorem WorkOnly.refl (s : State) : WorkOnly s s := ⟨rfl, rfl, rfl, fun _ _ => rfl⟩

theorem WorkOnly.bumpBy (h : WorkOnly s t) (ha : a % 0x1000 ∈ workOffsets) : WorkOnly s (t.bumpBy a n) where
  coulter := h.coulter
  mem := h.mem
  stackList := h.stackList
  reg b hb := (State.reg_bumpBy_offset n (ne_of_mem_of_not_mem ha hb).symm).trans (h.reg b hb)

/-- A counter of COULTER is raised, or is not. -/
theorem WorkOnly.iteBump (h : WorkOnly s t) {p : Prop} {_ : Decidable p} {off : Nat} (hoff : off % 0x1000 ∈ workOffsets) :
    WorkOnly s (if p then t.bump (coulterReg off) else t) := by
  split
  · exact h.bumpBy (by rwa [coulterReg_mod])
  · exact h

theorem WorkOnly.charge (h : WorkOnly s t) : WorkOnly s (t.charge x n) := by
  have hmodule : WorkOnly s (t.bumpBy (coulterReg 0x1B0) n) := h.bumpBy (by rw [coulterReg_mod]; decide)
  unfold State.charge
  split
  · exact hmodule.bumpBy (by rw [decReg_mod]; decide)
  · exact hmodule

theorem WorkOnly.countOutcome (h : WorkOnly s t) : WorkOnly s (t.countOutcome x outcome) :=
  (((((h.iteBump (by decide)).iteBump (by decide)).iteBump (by decide)).iteBump (by decide)).iteBump (by decide)).iteBump (by decide)

/-! ### A sample ends (R329, R339) -/

/-- A sample that has ended: off its core, and without its granules where it is dropped. -/
def Samp.ended (x : Samp) (outcome : Nat) : Samp :=
  { x with core := none, outcome := some outcome, granules := if outcome = 0 || outcome = 0x0706 then x.granules else none }

/-- The end of a sample on a core is counted, on the core's page too, and a drop is raised. -/
theorem State.endSamp_eq (hcore : x.core = some c) : ∃ u, WorkOnly (s.setSamp (x.ended outcome)) u ∧ s.endSamp x outcome =
    if outcome = 0 || outcome = 0x0706 then u.bump (decReg c 0x120) else (u.bump (decReg c 0x120)).raise .coulter 0 0 outcome x.work := by
  refine ⟨_, (WorkOnly.refl _).countOutcome (x := x) (outcome := outcome), ?_⟩
  simp only [State.endSamp, hcore]
  rfl

theorem State.endSamp_coulter (hcore : x.core = some c) : (s.endSamp x outcome).coulter = (s.setSamp (x.ended outcome)).coulter := by
  obtain ⟨u, hu, heq⟩ := State.endSamp_eq (s := s) (outcome := outcome) hcore
  rw [heq]
  split
  · exact hu.coulter
  · exact (State.raise_coulter ..).trans hu.coulter

/-- A sample that ends is found ended. -/
theorem State.samp_endSamp (hcore : x.core = some c) (hy : s.samp n = some y) (hid : x.id = n) :
    (s.endSamp x outcome).samp n = some (x.ended outcome) :=
  (State.samp_congr (congrArg CoulterSt.samples (State.endSamp_coulter hcore)) n).trans (State.samp_setSamp hy hid)

theorem State.endSamp_mem (hcore : x.core = some c) : (s.endSamp x outcome).mem = s.mem := by
  obtain ⟨u, hu, heq⟩ := State.endSamp_eq (s := s) (outcome := outcome) hcore
  rw [heq]
  split
  · exact hu.mem
  · exact (State.raise_mem ..).trans hu.mem

theorem State.counted_endSamp (hcore : x.core = some c) : s.Counted (s.endSamp x outcome) (decReg c 0x120) 1 := by
  obtain ⟨u, hu, heq⟩ := State.endSamp_eq (s := s) (outcome := outcome) hcore
  have hreg : u.reg (decReg c 0x120) = s.reg (decReg c 0x120) := hu.reg _ (by rw [decReg_mod]; decide)
  have hcount : s.Counted (u.bump (decReg c 0x120)) (decReg c 0x120) 1 := by
    rw [State.Counted, ← hreg]
    exact State.counted_bumpBy
  rw [heq]
  split
  · exact hcount
  · exact hcount.congr (State.reg_raise (by rw [decReg_mod]; decide) (by rw [decReg_mod]; decide))

/-- A sample that is neither decoded nor padded is dropped, which is raised. -/
theorem State.raised_endSamp (hcore : x.core = some c) (hdrop : outcome ≠ 0 ∧ outcome ≠ 0x0706) : (s.endSamp x outcome).Raised .coulter 0 0 := by
  obtain ⟨u, -, heq⟩ := State.endSamp_eq (s := s) (outcome := outcome) hcore
  rw [heq, if_neg (by simp [hdrop])]
  exact State.raised_raise

/-! ### A core fails (R333, R334) -/

/-- A sample set back to its first byte, off its core. -/
def Samp.restart (x : Samp) : Samp :=
  { x with core := none, restarted := true, unit := 0, bits := 0, decoded := 0, valid := 0, padded := 0, written := 0, run := 0,
           truncated := false, w := 0 }

/-- A core FAILED. -/
def State.coreDown (s : State) (c : Nat) : State := { s with coulter := { s.coulter with cores := s.coulter.cores.set c 2 } }

/-- A core FAILED, and the sample that it held set back. -/
def State.coreVacated (s : State) (c : Nat) : State :=
  match s.coreSample c with
  | some x => (s.coreDown c).setSamp x.restart
  | none => s.coreDown c

theorem FailureKept.coreVacated : FailureKept s (s.coreVacated c) := by
  unfold State.coreVacated
  split
  · exact (FailureKept.refl s).same
  · exact (FailureKept.refl s).same

/-- A core that the list of cores does not hold counts as FAILED, so that one set to FAILED is. -/
theorem State.core_coreVacated : (s.coreVacated c).core c = 2 := by
  have hdown : (s.coreDown c).core c = 2 := by
    by_cases hc : c < s.coulter.cores.length <;> simp [State.core, State.coreDown, hc]
  unfold State.coreVacated
  split
  · exact hdown
  · exact hdown

theorem State.samp_coreVacated (hheld : s.coreSample c = some x) (hx : s.samp x.id = some y) : (s.coreVacated c).samp x.id = some x.restart := by
  have hvacated : s.coreVacated c = (s.coreDown c).setSamp x.restart := by simp only [State.coreVacated, hheld]
  rw [hvacated]
  exact State.samp_setSamp (s := s.coreDown c) hx rfl

/-- A working core that fails is vacated and raises its error, and another where it was the last of its kind. -/
theorem State.failCore_eq {code check : Nat} (hwork : s.core c = 1) : ∃ work info0,
    let t := (s.coreVacated c).raiseErr .coulterDec c 0 code work info0 check
    s.failCore c code check = t ∨ s.failCore c code check = t.raiseErr .coulter 0 1 0x070A 0 0 0 := by
  have hgo : ¬ (s.core c != 1) = true := by simp [hwork]
  refine ⟨((s.coreSample c).map (fun y => y.work)).getD 0, (((s.coreSample c).map (fun y => y.work)).getD 0) <<< 32, ?_⟩
  simp only [State.failCore, if_neg hgo]
  exact (ite_eq_or_eq ..).symm

theorem State.failCore_coulter {code check : Nat} (hwork : s.core c = 1) : (s.failCore c code check).coulter = (s.coreVacated c).coulter := by
  obtain ⟨work, info0, heq | heq⟩ := State.failCore_eq (code := code) (check := check) hwork
  · rw [heq, State.raiseErr_coulter]
  · rw [heq, State.raiseErr_coulter, State.raiseErr_coulter]

theorem State.core_failCore {code check : Nat} (hwork : s.core c = 1) : (s.failCore c code check).core c = 2 := by
  rw [State.core, State.failCore_coulter hwork]
  exact State.core_coreVacated

/-- The failure of a core changes no byte, and raises its error. -/
theorem State.failCore_raised {code check : Nat} (hwork : s.core c = 1) :
    (s.failCore c code check).mem = s.mem ∧ (s.failCore c code check).Raised .coulterDec c 0 := by
  obtain ⟨work, info0, heq | heq⟩ := State.failCore_eq (code := code) (check := check) hwork
  · rw [heq]
    exact ⟨FailureKept.coreVacated.raiseErr.mem, State.raised_raiseErr⟩
  · rw [heq]
    exact ⟨FailureKept.coreVacated.raiseErr.raiseErr.mem, State.raised_raiseErr.raiseErr⟩

end Sys2Proof.Machine
end

section
/-!
Samples are decoded; decoder cores fail (O30).
-/
namespace Sys2Proof.Machine

variable {s t : State} {f : Flight} {x : Samp} {id n c : Nat} {u : SynUnit}

theorem exec_decode : exec (.decode id) s = .next (s.runDecode id) := rfl
theorem exec_coulterCancel : exec (.coulterCancel id) s = .next (s.runCoulterCancel id) := rfl
theorem exec_sampleStart {h : HdrInfo} : exec (.sampleStart n h) s = .next (s.sampleStart n h) := rfl
theorem exec_arenaAllocate {gs : List Nat} : exec (.arenaAllocate n gs) s = .next (s.arenaAllocate n gs) := rfl
theorem exec_decodeSyntaxUnit : exec (.decodeSyntaxUnit n u) s = .next (s.syntaxUnit n u) := rfl
theorem exec_decCoreHung {c : Fin 16} : exec (.decCoreHung c) s = .next ((s.coreHung c.val).noteCapacity s) := rfl
theorem exec_decCoreEcc {c : Fin 16} : exec (.decCoreEcc c) s = .next ((s.failCore c.val 0x070D 2).noteCapacity s) := rfl
theorem exec_decCoreForceFail {via : Via} {c : Fin 16} {v : Word} : exec (.decCoreForceFail via c v) s =
    .next (s.writeBy via (decReg c.val 0x100) (v.toNat ||| 2)) := rfl

/-! ### DECODE (R335, R336) -/

theorem State.runDecode_received (hf : s.flightOf id 5 1 = some f) (hend : f.ending = none) (hstarted : f.started = false)
    (hfired : f.fired = true) (hon : s.enabled .coulter 0 = true) :
    s.runDecode id = (s.addSamp id 0 f.work (decodeDesc f.words)).setFlight { f with started := true, prog := .decode } := by
  simp [State.runDecode, hf, hend, hstarted, hfired, hon]

theorem State.runDecode_ended {o : Nat} (hf : s.flightOf id 5 1 = some f) (hend : f.ending = none) (hstarted : f.started = true)
    (hx : s.coulter.samples.find? (fun x => x.owner == id) = some x) (hout : x.outcome = some o) :
    s.runDecode id = ((s.storeAs 3 (decodeResult f.words) (s.resultRecord x)).dropSamples id).complete id o := by
  simp [State.runDecode, hf, hend, hstarted, hx, hout]

theorem State.storeAs_mem {cls a : Nat} {bs : List Byte} : (s.storeAs cls a bs).mem = (s.store a bs).mem := State.writeHint_hintOnly.mem

theorem State.readHint_coulter {a m hint : Nat} : (s.readHint a m hint).coulter = s.coulter := by
  obtain ⟨_, _, heq⟩ := State.readHint_eq (s := s) (a := a) (n := m) (hint := hint)
  rw [heq]

theorem State.storeAs_coulter {cls a : Nat} {bs : List Byte} : (s.storeAs cls a bs).coulter = s.coulter := by
  rw [State.storeAs, State.writeHint]
  split
  · exact State.store_coulter ..
  · exact State.readHint_coulter.trans (State.store_coulter ..)

theorem State.storeAs_flights {cls a : Nat} {bs : List Byte} : (s.storeAs cls a bs).flights = s.flights :=
  (MoveOnly.refl s).store.writeHint.flights

/-! ### SAMPLE_START (R318, R321, R325) -/

/-- The header bits charged to a sample that starts (R325). -/
def Samp.startBits (x : Samp) (h : HdrInfo) : Nat := if isText x.d.kind then 0 else min h.bits (8 * x.d.len)

/-- What a sample that starts has come to when its header has been charged and checked. -/
def State.startCode (s : State) (x : Samp) (h : HdrInfo) : Nat :=
  if x.budgetOf s < x.startBits h then 0x0707 else (s.headerCheckOf x.d h).1

/-- A sample on its core, its header's bits charged. -/
def State.coredSamp (s : State) (x : Samp) (c : Nat) (h : HdrInfo) : Samp :=
  { x with core := some c, charged := s.now, bits := x.startBits h, unit := h.units, w := x.startBits h }

/-- A sample on its core with its header read. -/
def State.startedSamp (s : State) (x : Samp) (c : Nat) (h : HdrInfo) : Samp :=
  { s.coredSamp x c h with
    hdr := some h, o := (s.headerCheckOf x.d h).2.1, s := (s.headerCheckOf x.d h).2.2.1, limitP := (s.headerCheckOf x.d h).2.2.2,
    order := s.coulter.nextOrder, truncated := s.startCode x h == 0x0705, voc := s.vocab x.d.vocab }

/-- The state in which a sample's header has been charged and read. -/
def State.headerRead (s : State) (x : Samp) (c : Nat) (h : HdrInfo) : State :=
  let t := (({ s with settled := storePut s.settled (decReg c 0x130 + 1) 1 } : State).charge (s.coredSamp x c h) (x.startBits h)).setSamp
    (s.startedSamp x c h)
  { t with coulter := { t.coulter with nextOrder := s.coulter.nextOrder + 1 } }

/-- The sample that waits first for a core of its kind, on the lowest idle one. -/
structure State.StartsOn (s : State) (n : Nat) (x : Samp) (c : Nat) : Prop where
  samp : s.samp n = some x
  unread : x.hdr = none
  fresh : x.restarted = false
  first : s.waitingSamps.find? (fun y => if y.restarted then coresOf y.d.kind == coresOf x.d.kind else y.d.kind == x.d.kind) = some x
  core : (coresOf x.d.kind).find? (fun c => s.core c == 1 && s.enabled .coulterDec c && (s.coreSample c).isNone) = some c

theorem State.sampleStart_eq {h : HdrInfo} (hstart : s.StartsOn n x c) : s.sampleStart n h =
    if s.startCode x h = 0 then s.headerRead x c h else (s.headerRead x c h).endSamp (s.startedSamp x c h) (s.startCode x h) := by
  obtain ⟨hx, hnew, hfresh, hfirst, hcore⟩ := hstart
  have hid : (x.id == n) = true := beq_iff_eq.2 (State.samp_id hx)
  simp only [State.sampleStart, hx, hcore, hfirst, hnew, hfresh, hid, Option.any_some, Option.getD_none, Option.isSome_none, Bool.not_true,
    Bool.false_eq_true, if_false, State.headerRead, State.startedSamp, State.coredSamp, State.startCode, Samp.startBits]
  rfl

theorem State.samp_headerRead {h : HdrInfo} (hx : s.samp n = some x) : (s.headerRead x c h).samp n = some (s.startedSamp x c h) := by
  have hid : x.id = n := State.samp_id hx
  have hcharged : (({ s with settled := storePut s.settled (decReg c 0x130 + 1) 1 } : State).charge (s.coredSamp x c h)
      (x.startBits h)).coulter = s.coulter := (WorkOnly.refl _).charge.coulter
  exact State.samp_setSamp ((State.samp_congr (congrArg _ hcharged) n).trans hx) hid

/-- A sample whose header passes is on its core. -/
theorem State.sampleStart_passed {h : HdrInfo} (hstart : s.StartsOn n x c) (hcode : s.startCode x h = 0) :
    (s.sampleStart n h).samp n = some (s.startedSamp x c h) := by
  rw [State.sampleStart_eq hstart, if_pos hcode]
  exact State.samp_headerRead hstart.samp

/-- A sample whose header fails, or passes its budget, has ended with that outcome, which its core counts. -/
theorem State.sampleStart_failed {h : HdrInfo} (hstart : s.StartsOn n x c) (hcode : s.startCode x h ≠ 0) :
    (s.sampleStart n h).samp n = some ((s.startedSamp x c h).ended (s.startCode x h)) ∧ s.Counted (s.sampleStart n h) (decReg c 0x120) 1 := by
  have hid : x.id = n := State.samp_id hstart.samp
  have hreg : (s.headerRead x c h).reg (decReg c 0x120) = s.reg (decReg c 0x120) :=
    (WorkOnly.refl ({ s with settled := storePut s.settled (decReg c 0x130 + 1) 1 } : State)).charge.reg _ (by rw [decReg_mod]; decide)
  rw [State.sampleStart_eq hstart, if_neg hcode, State.Counted, ← hreg]
  exact ⟨State.samp_endSamp rfl (State.samp_headerRead hstart.samp) hid, State.counted_endSamp rfl⟩

theorem State.waitingSamp_outcome (h : x ∈ s.waitingSamps) : x.outcome = none := by
  simp only [State.waitingSamps, List.mem_append, List.mem_filter, Bool.and_eq_true, Option.isNone_iff_eq_none] at h
  rcases h with ⟨⟨-, -, hout⟩, -⟩ | ⟨⟨-, -, hout⟩, -⟩
  · exact hout
  · exact hout

/-! ### ARENA_ALLOCATE (R324) -/

theorem State.arenaAllocate_eq {gs : List Nat} (hx : s.samp n = some x) (hcore : x.core.isSome = true) (hout : x.outcome = none)
    (hwaits : x.allocated = false)
    (hfirst : s.coulter.samples.any (fun y => (y.core.isSome && y.outcome.isNone && !y.allocated) && decide (y.order < x.order)) = false)
    (hlen : gs.length = x.need) (hfree : ∀ g ∈ gs, g < s.arenaGranules ∧ g ∉ s.granulesUsed) (hapart : gs.eraseDups.length = gs.length) :
    s.arenaAllocate n gs = s.setSamp { x with granules := some gs } := by
  have hall : gs.all (fun g => decide (g < s.arenaGranules) && !s.granulesUsed.contains g) = true := by
    simpa [List.all_eq_true] using hfree
  simp only [State.arenaAllocate, hx, hcore, hout, hwaits, hfirst, hlen, hall, hapart, Option.isNone_none, Bool.not_false, Bool.and_self,
    beq_self_eq_true, if_true]

/-! ### DECODE_SYNTAX_UNIT (R325 to R327, R337) -/

/-- A sample on a working core with the granules it needs, not ended. -/
structure State.Decoding (s : State) (n : Nat) (x : Samp) (c : Nat) : Prop where
  samp : s.samp n = some x
  core : x.core = some c
  working : s.core c = 1
  allocated : x.allocated = true
  goes : x.outcome = none

/-- A cancelled sample ends before its next unit (R337). -/
theorem State.syntaxUnit_stopped (h : s.Decoding n x c) (hstop : x.stop = true) : s.syntaxUnit n u = s.endSamp x 0x0708 := by
  simp [State.syntaxUnit, h.samp, h.core, h.working, h.allocated, h.goes, hstop]

/-- The next unit of a sample that is no text: the source holds it whole and unpoisoned. -/
structure State.UnitWhole (s : State) (n : Nat) (x : Samp) (c : Nat) (u : SynUnit) : Prop extends s.Decoding n x c where
  unstopped : x.stop = false
  untokenised : isText x.d.kind = false
  held : x.bits + u.bits ≤ 8 * x.d.len
  clean : s.readsPoison (x.d.src + x.bits / 8) (ceilDiv u.bits 8) = false

/-- A sample with its next unit's bits charged (R325). -/
def State.unitTaken (s : State) (x : Samp) (bits : Nat) : Samp :=
  { x with bits := x.bits + bits, unit := x.unit + 1, charged := s.now, w := x.w + bits }

theorem State.syntaxUnit_overBudget (h : s.UnitWhole n x c u) (hover : x.budgetOf s < x.w + u.bits) :
    s.syntaxUnit n u = ((s.charge x u.bits).setSamp (s.unitTaken x u.bits)).endSamp (s.unitTaken x u.bits) 0x0707 := by
  simp [State.syntaxUnit, State.unitTaken, h.samp, h.core, h.working, h.allocated, h.goes, h.unstopped, h.untokenised, h.clean,
    Nat.not_lt.2 h.held, hover]

theorem State.samp_charge {m : Nat} (h : s.samp n = some x) : (s.charge x m).samp n = some x :=
  (State.samp_congr (congrArg _ (WorkOnly.refl s).charge.coulter) n).trans h

/-- A unit whose bits pass the budget ends its sample, and stores nothing (R327). -/
theorem State.syntaxUnit_exhausted (h : s.UnitWhole n x c u) (hover : x.budgetOf s < x.w + u.bits) :
    (s.syntaxUnit n u).samp n = some ((s.unitTaken x u.bits).ended 0x0707) ∧ (s.syntaxUnit n u).mem = s.mem := by
  have hid : x.id = n := State.samp_id h.samp
  have htaken : ((s.charge x u.bits).setSamp (s.unitTaken x u.bits)).samp n = some (s.unitTaken x u.bits) :=
    State.samp_setSamp (State.samp_charge h.samp) hid
  rw [State.syntaxUnit_overBudget h hover]
  exact ⟨State.samp_endSamp (x := s.unitTaken x u.bits) h.core htaken hid,
    (State.endSamp_mem (x := s.unitTaken x u.bits) h.core).trans (WorkOnly.refl s).charge.mem⟩

/-- A sample with a unit inflated: its blocks are written, each byte of them one of work (R325). -/
def State.unitInflated (s : State) (x : Samp) (u : SynUnit) : Samp :=
  { s.unitTaken x u.bits with written := x.written + u.blocks.flatten.length, valid := x.valid + u.blocks.length,
                              w := x.w + u.bits + u.blocks.flatten.length }

theorem isInflate_other {k : Nat} (h : isInflate k = true) : isText k = false ∧ isAudio k = false ∧ isVideo k = false := by
  simp only [isInflate, Bool.or_eq_true, beq_iff_eq] at h
  rcases h with rfl | rfl
  · decide
  · decide

/-- Blocks that fit the output are stored behind what is written, each byte one of work. -/
theorem State.unitOutput_inflate (hkind : isInflate x.d.kind = true) (hroom : x.written + u.blocks.flatten.length ≤ x.o) :
    s.unitOutput x u = (s.storeOut x x.written u.blocks.flatten,
      { x with written := x.written + u.blocks.flatten.length, valid := x.valid + u.blocks.length }, u.blocks.flatten.length, none) := by
  obtain ⟨-, haudio, -⟩ := isInflate_other hkind
  simp only [State.unitOutput, haudio, hkind, Nat.not_lt.2 hroom, Bool.false_eq_true, if_false, if_true]

/-- A unit of DEFLATE blocks, well formed and within its sample's output and budget, is stored and charged, and more are to come. -/
theorem State.syntaxUnit_inflate (h : s.UnitWhole n x c u) (hkind : isInflate x.d.kind = true) (hstate : u.state = 0) (hlast : u.last = false)
    (hroom : x.written + u.blocks.flatten.length ≤ x.o) (hbudget : x.w + u.bits + u.blocks.flatten.length ≤ x.budgetOf s) :
    s.syntaxUnit n u = (((s.charge x u.bits).storeOut (s.unitTaken x u.bits) x.written u.blocks.flatten).charge x
      u.blocks.flatten.length).setSamp (s.unitInflated x u) := by
  obtain ⟨-, haudio, hvideo⟩ := isInflate_other hkind
  have hbits : ¬ x.budgetOf s < x.w + u.bits := Nat.not_lt.2 ((Nat.le_add_right ..).trans hbudget)
  have houtput := State.unitOutput_inflate (s := s.charge x u.bits) (x := s.unitTaken x u.bits) (u := u) hkind hroom
  have hbudget' : ¬ x.budgetOf s < x.w + u.bits + u.blocks.flatten.length := Nat.not_lt.2 hbudget
  simp only [State.unitTaken, h.core, h.goes, h.unstopped] at houtput
  simp only [State.unitInflated, State.unitTaken, State.syntaxUnit, h.samp, h.core, h.working, h.allocated, h.goes, h.unstopped,
    h.untokenised, h.clean, Nat.not_lt.2 h.held, hbits, hstate, hlast, haudio, hvideo, houtput, hbudget', bne_self_eq_false,
    Bool.not_true, Option.isSome_none, Bool.or_self, Bool.not_false, Bool.false_eq_true, if_false, Bool.true_and, Bool.false_and,
    decide_false, Nat.zero_ne_one, OfNat.zero_ne_ofNat]

/-- Direct output goes to the destination's bytes where no failed stack holds one. -/
theorem State.storeOut_direct {off : Nat} {bs : List Byte} (hdirect : x.d.direct = true)
    (hlive : ∀ i < bs.length, s.deadAt (x.d.dst + off + i) = false) :
    (s.storeOut x off bs).mem = memPutAll s.mem (x.d.dst + off) bs ∧ (s.storeOut x off bs).coulter = s.coulter := by
  have heq : s.storeOut x off bs = (s.bumpBy (coulterReg 0x1B8) bs.length).storeAs 3 (x.d.dst + off) bs := if_pos hdirect
  rw [heq]
  exact ⟨State.storeAs_mem.trans (State.mem_store (s := s.bumpBy (coulterReg 0x1B8) bs.length) hlive), State.storeAs_coulter⟩

/-- What a unit inflates to is in the destination's bytes, and the sample goes on. -/
theorem State.syntaxUnit_inflated (hok : s.MemOk) (h : s.UnitWhole n x c u) (hkind : isInflate x.d.kind = true) (hstate : u.state = 0)
    (hlast : u.last = false) (hroom : x.written + u.blocks.flatten.length ≤ x.o)
    (hbudget : x.w + u.bits + u.blocks.flatten.length ≤ x.budgetOf s) (hdirect : x.d.direct = true)
    (hlive : ∀ i, i < u.blocks.flatten.length → s.deadAt (x.d.dst + x.written + i) = false) :
    (s.syntaxUnit n u).samp n = some (s.unitInflated x u) ∧
      (s.syntaxUnit n u).bytes (x.d.dst + x.written) u.blocks.flatten.length = u.blocks.flatten := by
  have hcharged : WorkOnly s (s.charge x u.bits) := (WorkOnly.refl s).charge
  obtain ⟨hmem, hcoulter⟩ := State.storeOut_direct (s := s.charge x u.bits) (x := s.unitTaken x u.bits) (off := x.written)
    (bs := u.blocks.flatten) hdirect fun i hi => (State.deadAt_congr hcharged.stackList _).trans (hlive i hi)
  rw [State.syntaxUnit_inflate h hkind hstate hlast hroom hbudget]
  constructor
  · have hstored : ((s.charge x u.bits).storeOut (s.unitTaken x u.bits) x.written u.blocks.flatten).samp n = some x :=
      (State.samp_congr (congrArg _ (hcoulter.trans hcharged.coulter)) n).trans h.samp
    have hid : x.id = n := State.samp_id h.samp
    exact State.samp_setSamp (State.samp_charge hstored) hid
  · refine State.bytes_of_mem_memPutAll hok ?_
    rw [← hcharged.mem]
    exact (WorkOnly.refl _).charge.mem.trans hmem

/-! ### COULTER_CANCEL (R337) -/

theorem State.flight_complete_ne {i info : Nat} (h : i ≠ id) : (s.complete i info).flight id = s.flight id := by
  cases hf : s.flight i with
  | none => simp only [State.complete, hf]
  | some f =>
    have hother : (fun g : Flight => decide ((g.id != i) = true ∧ (g.id == id) = true)) = fun g => g.id == id := by
      funext g
      by_cases hg : g.id = id
      · simp [hg, h.symm]
      · simp [hg]
    rw [State.flight, (State.complete_of_flight hf).1, List.find?_filter, hother, State.flight]

/-- The cancellation of a match leaves every other descriptor in flight. -/
theorem State.flight_cancelCoulter {i : Nat} (h : i ≠ id) : (s.cancelCoulter i).flight id = s.flight id := by
  unfold State.cancelCoulter
  split
  next => rfl
  next f hf =>
    have habort : ((s.bump (coulterReg 0x1A8)).abortBatch f 0x0708).flight id = s.flight id := by
      rw [State.abortBatch, State.flight_complete_ne (State.flight_id hf ▸ h)]
      split <;> rfl
    have hdone (t : State) (ht : t.flights = s.flights) : (t.complete i 0x0708).flight id = s.flight id := by
      rw [State.flight_complete_ne h, State.flight, State.flight, ht]
    split
    · rfl
    · split
      · exact habort
      · split
        · exact hdone _ rfl
        · split
          · rfl
          · split
            · exact hdone _ rfl
            · rfl

/-- A CANCEL that meets its launch condition deals with each match and holds their numbers. -/
theorem State.runCoulterCancel_matches (hf : s.flightOf id 5 2 = some f) (hprog : f.prog = .none) (hfired : f.fired = true)
    (hothers : ∀ g ∈ s.flights, coulterMatches f.words g = true → g.id ≠ id) :
    ∃ t : State, t.flight id = some f ∧ s.runCoulterCancel id = t.setFlight
      { f with started := true, prog := .cancel ⟨1, (s.flights.filter (coulterMatches f.words)).map (fun g => g.id)⟩ } := by
  obtain ⟨t, ht⟩ : ∃ t, t = ((s.flights.filter (coulterMatches f.words)).map (fun g => g.id)).foldl State.cancelCoulter s := ⟨_, rfl⟩
  have hkept : t.flight id = some f := by
    rw [ht]
    refine List.foldlRecOn (motive := fun t : State => t.flight id = some f) _ _ (State.flight_of_flightOf hf) fun t hflight i hi => ?_
    obtain ⟨g, hg, rfl⟩ := List.mem_map.1 hi
    obtain ⟨hin, hmatch⟩ := List.mem_filter.1 hg
    exact (State.flight_cancelCoulter (hothers g hin hmatch)).trans hflight
  refine ⟨t, hkept, ?_⟩
  simp only [State.runCoulterCancel, hf, hprog, hfired, Bool.not_true, Bool.false_eq_true, if_false, ← ht, hkept]

theorem State.runCoulterCancel_done {p : CancelProg} (hf : s.flightOf id 5 2 = some f) (hprog : f.prog = .cancel p)
    (hgone : p.matched.all (fun i => (s.flight i).isNone) = true) : s.runCoulterCancel id = s.complete id 0 := by
  simp only [State.runCoulterCancel, hf, hprog, hgone, if_true]

/-! ### COULTER_WATCHDOG and force_fail (R333, R334) -/

theorem State.coreHung_late (hheld : s.coreSample c = some x) (hlate : x.charged + almUs (s.rf (coulterReg 0x130) 31 0) ≤ s.now) :
    s.coreHung c = s.failCore c 0x0709 1 := by
  simp only [State.coreHung, hheld, hlate, if_true]

theorem State.coreHung_early (hheld : s.coreSample c = some x) (hearly : s.now < x.charged + almUs (s.rf (coulterReg 0x130) 31 0)) :
    s.coreHung c = s := by
  simp only [State.coreHung, hheld, Nat.not_le.2 hearly, if_false]

theorem pageAt_coulterDec : ∀ c : Fin 16, pageAt (regAddr .coulterDec c.val 0x100) 8 = some (.coulterDec, c.val) := by decide

/-- The effect of a force_fail bit newly set: the core fails, and the fall of capacity is noted. -/
theorem State.writeEffect_coulterDec_forced {src : Source} {v : Nat} (hnew : newForce (s.reg (regAddr .coulterDec c 0x100)) v 1 = true) :
    ∃ t : State, s.writeEffect src .coulterDec c 0x100 v = (t.failCore c 0x070F 4).noteCapacity t ∧ t.coulter = s.coulter ∧ t.mem = s.mem := by
  refine ⟨s.setReg (regAddr .coulterDec c 0x100) (mergeWord (regFields .coulterDec 0x100) (s.reg (regAddr .coulterDec c 0x100)) v), ?_, rfl, rfl⟩
  exact if_pos (by rw [hnew, Bool.and_true]; rfl)

theorem State.core_congr (h : t.coulter = s.coulter) (c : Nat) : t.core c = s.core c := by rw [State.core, State.core, h]

theorem Via.arrived_coulter (via : Via) : (via.arrived s).coulter = s.coulter := by cases via <;> rfl

theorem Via.answer_coulter (via : Via) {a v : Nat} : (via.answer a v s).coulter = s.coulter := by
  cases via with
  | hitch seq tag => exact State.respond_coulter ..
  | ethernet seq tag => rfl
  | twoWire => rfl
  | jtag => rfl

/-! ### The obligation -/

/-- Settles O30: descriptors and samples by the state that each command answers, cores by what their failure leaves. -/
theorem samplesDecode : Obligations.SamplesDecode := by
  unfold Obligations.SamplesDecode
  refine ⟨?_, ?_, ?_, ?_, ?_, ?_, ?_, ?_, ?_, ?_, ?_, ?_, ?_⟩
  · intro id s f hf hend hstarted hfired hon
    exact Completes.intro (exec_decode.trans (congrArg _ (State.runDecode_received hf hend hstarted hfired hon)))
      ⟨_, rfl, rfl, rfl, rfl, rfl, rfl⟩
  · intro id o s f x hf hend hstarted hx hout
    have hflight : ((s.storeAs 3 (decodeResult f.words) (s.resultRecord x)).dropSamples id).flight id = some f :=
      (congrArg (List.find? _) State.storeAs_flights).trans (State.flight_of_flightOf hf)
    refine Completes.intro (exec_decode.trans (congrArg _ (State.runDecode_ended hf hend hstarted hx hout)))
      ⟨State.complete_ended hflight, ?_, (State.complete_mem ..).trans State.storeAs_mem⟩
    rw [State.complete_coulter]
    exact congrArg (fun k : CoulterSt => k.samples.filter (fun y => y.owner != id)) State.storeAs_coulter
  · intro n h s x c hx hnew hfresh hfirst hcore bits code
    have hstart : s.StartsOn n x c := ⟨hx, hnew, hfresh, hfirst, hcore⟩
    have hout : x.outcome = none := State.waitingSamp_outcome (List.mem_of_find?_eq_some hfirst)
    have hbits : x.startBits h = bits := rfl
    have hcoded : s.startCode x h = code := rfl
    refine Completes.intro exec_sampleStart ⟨fun hcode => ?_, fun hcode => ?_⟩
    · rw [State.sampleStart_passed hstart (hcoded.trans hcode)]
      simp [State.startedSamp, State.coredSamp, hbits, hout]
    · obtain ⟨hended, hcount⟩ := State.sampleStart_failed hstart (hcoded.trans_ne hcode)
      rw [hended]
      exact ⟨by simp [Samp.ended, State.startedSamp, State.coredSamp, hbits, hcoded], hcount⟩
  · intro n gs s x hx hcore hout hwaits hfirst hlen hfree hapart
    have hid : x.id = n := State.samp_id hx
    exact Completes.intro (exec_arenaAllocate.trans (congrArg _ (State.arenaAllocate_eq hx hcore hout hwaits hfirst hlen hfree hapart)))
      ⟨State.samp_setSamp hx hid, rfl⟩
  · intro n c u s x hx hcore hwork halloc hout hstop
    refine Completes.intro (exec_decodeSyntaxUnit.trans (congrArg _ (State.syntaxUnit_stopped ⟨hx, hcore, hwork, halloc, hout⟩ hstop)))
      ⟨?_, State.raised_endSamp hcore (by decide), State.endSamp_mem hcore⟩
    rw [State.samp_endSamp hcore hx (State.samp_id hx)]
    rfl
  · intro n c u s x hx hcore hwork halloc hout hstop htext hheld hclean hover
    obtain ⟨hended, hmem⟩ := State.syntaxUnit_exhausted ⟨⟨hx, hcore, hwork, halloc, hout⟩, hstop, htext, hheld, hclean⟩ hover
    refine Completes.intro exec_decodeSyntaxUnit ⟨?_, hmem⟩
    rw [hended]
    simp [Samp.ended, State.unitTaken]
  · intro n c u s x hok hx hcore hwork halloc hout hstop hkind hheld hstate hlast hclean hroom hbudget hdirect hlive
    obtain ⟨hsamp, hbytes⟩ := State.syntaxUnit_inflated hok
      ⟨⟨hx, hcore, hwork, halloc, hout⟩, hstop, (isInflate_other hkind).1, hheld, hclean⟩ hkind hstate hlast hroom hbudget hdirect hlive
    refine Completes.intro exec_decodeSyntaxUnit ⟨?_, hbytes⟩
    rw [hsamp]
    simp [State.unitInflated, State.unitTaken, hout]
  · intro id s f hf hprog hfired hothers
    obtain ⟨t, hflight, hrun⟩ := State.runCoulterCancel_matches hf hprog hfired hothers
    have hid : f.id = id := State.flight_id hflight
    exact Completes.intro (exec_coulterCancel.trans (congrArg _ hrun)) (State.flight_any_setFlight hflight hid (decide_eq_true rfl))
  · intro id s f p hf hprog hgone
    exact Completes.intro (exec_coulterCancel.trans (congrArg _ (State.runCoulterCancel_done hf hprog hgone)))
      ⟨State.complete_ended (State.flight_of_flightOf hf), State.complete_mem ..⟩
  · intro c s hwork
    obtain ⟨hmem, hraised⟩ := State.failCore_raised (code := 0x070D) (check := 2) hwork
    refine Completes.intro exec_decCoreEcc ⟨?_, hraised.noteCapacity, ?_, fun x hheld hx => ?_⟩
    · exact (State.core_congr (State.noteCapacity_coulter ..) _).trans (State.core_failCore hwork)
    · exact (FailureKept.refl _).noteCapacity.mem.trans hmem
    · rw [State.samp_congr (congrArg _ ((State.noteCapacity_coulter ..).trans (State.failCore_coulter hwork))), State.samp_coreVacated hheld hx]
      rfl
  · intro c s x hwork hheld hlate
    refine Completes.intro exec_decCoreHung ?_
    rw [State.coreHung_late hheld hlate, State.core_congr (State.noteCapacity_coulter ..)]
    exact ⟨State.core_failCore hwork, (FailureKept.refl _).noteCapacity.mem.trans (State.failCore_raised hwork).1⟩
  · intro c s x hheld hearly
    refine Completes.intro exec_decCoreHung ?_
    rw [State.coreHung_early hheld hearly, State.noteCapacity_self]
    exact ⟨rfl, rfl⟩
  · intro via c v s hwork hlands hold
    obtain ⟨j, hwrite⟩ := State.writeBy_landed hlands (Nat.or_lt_two_pow v.isLt (by decide)) (pageAt_coulterDec c) (by decide) (by decide)
    have hreg : (via.arrived s).reg (decReg c.val 0x100) = s.reg (decReg c.val 0x100) :=
      (SameTilth.arrived via).reg _ (by rw [decReg_mod]; decide)
    have hnew : newForce ((via.arrived s).reg (decReg c.val 0x100)) (v.toNat ||| 2) 1 = true := by
      rw [newForce, bitOf_or, hreg, hold, show bitOf 2 1 = true from rfl, Bool.or_true]
      rfl
    obtain ⟨t, heffect, hcoulter, hmem⟩ := State.writeEffect_coulterDec_forced (s := { via.arrived s with journal := j }) (src := via.source) hnew
    have hcore : t.core c.val = 1 := (State.core_congr (hcoulter.trans (Via.arrived_coulter via)) _).trans hwork
    refine Completes.intro (exec_decCoreForceFail.trans (congrArg _ hwrite)) ⟨?_, ?_⟩
    · rw [State.core_congr (Via.answer_coulter via), heffect, State.core_congr (State.noteCapacity_coulter ..)]
      exact State.core_failCore hcore
    · rw [(SameTilth.answer via).mem, heffect, (FailureKept.refl _).noteCapacity.mem, (State.failCore_raised hcore).1]
      exact hmem.trans (SameTilth.arrived via).mem

end Sys2Proof.Machine
end

section
/-!
Rules for the windrow queue, for the areas of a BATCH and for live streams.
-/
namespace Sys2Proof.Machine

variable {s t : State} {id b : Nat} {f : Flight}

theorem sampleReg_mod (off : Nat) : sampleReg off % 0x1000 = off % 0x1000 := regAddr_mod .sample 0 off

/-- The registers of stream i lie 64 bytes apart from those of the next. -/
theorem liveReg_mod {i off : Nat} (hi : i < 8) (hoff : off < 0x40) : liveReg i off % 0x1000 = 0x200 + 0x40 * i + off := by
  rw [liveReg, regAddr_mod, Nat.mod_eq_of_lt (by omega)]

theorem liveReg_inj {i m n : Nat} : liveReg i m = liveReg i n ↔ m = n := by simp [liveReg, regAddr]

theorem State.flightOf_eq_some {c o : Nat} : s.flightOf id c o = some f ↔ s.flight id = some f ∧ f.cls = c ∧ f.op = o := by
  unfold State.flightOf
  split
  next g hg =>
    rw [hg, Option.some_inj]
    split
    next hmatch =>
      rw [Option.some_inj]
      constructor
      · rintro rfl
        simpa using hmatch
      · exact fun h => h.1
    next hmatch =>
      constructor
      · rintro ⟨⟩
      · rintro ⟨rfl, h⟩
        exact absurd (by simpa using h) hmatch
  next hnone => simp [hnone]

/-! ### The windrow queue (R345 to R348) -/

/-- A slot that has been set holds its new state, and every other slot its own. -/
theorem State.slotState_setSlot (s : State) (k v j : Nat) : (s.setSlot k v).slotState j = if j = k then v else s.slotState j := by
  have hpad (l : List Nat) (n : Nat) : (l ++ List.replicate n 0).getD j 0 = l.getD j 0 := by
    by_cases hj : j < l.length
    · rw [List.getD_append _ _ _ _ hj]
    · simp only [List.getD_eq_getElem?_getD, List.getElem?_append_right (Nat.not_lt.1 hj), List.getElem?_replicate,
        List.getElem?_eq_none (Nat.not_lt.1 hj)]
      split <;> rfl
  have hset (l : List Nat) (hk : k < l.length) : (l.set k v).getD j 0 = if j = k then v else l.getD j 0 := by
    by_cases hj : j = k
    · simp [hj, hk]
    · simp [hj, Ne.symm hj]
  simp only [State.slotState, State.setSlot]
  split
  next hk => exact hset _ hk
  next hk => rw [hset _ (by simp; omega), hpad]

theorem State.slotState_congr (h : t.coulter.slots = s.coulter.slots) (k : Nat) : t.slotState k = s.slotState k := by
  rw [State.slotState, State.slotState, h]

/-- Slots released one after another are free, whichever is released last. -/
theorem State.slotState_released {l : List Nat} {k : Nat} (hk : k ∈ l) : (l.foldl (fun t k => t.setSlot k 0) s).slotState k = 0 := by
  induction l generalizing s with
  | nil => cases hk
  | cons x l ih =>
    rcases List.mem_cons.1 hk with rfl | hrest
    · refine foldl_inv (fun t => t.slotState k = 0) _ l (fun t y ht => ?_) ((State.slotState_setSlot s k 0 k).trans (if_pos rfl))
      rw [State.slotState_setSlot, ht, ite_self]
    · exact ih hrest

/-! ### A completion and the registers (R65, R71) -/

/-- An event raised changes PG_EVENT registers and Hitch's count of records dropped, at the offset of which other pages keep counts
of their own. -/
theorem State.reg_raise_of_ne {k : PageKind} {i bit info work : Nat} (h30 : b % 0x1000 ≠ 0x030) (hdrop : b ≠ regAddr .hitch 0 0x140) :
    (s.raise k i bit info work).reg b = s.reg b := by
  have hevent (t : State) (k : PageKind) (i v : Nat) : (t.setReg (regAddr k i 0x030) v).reg b = t.reg b :=
    State.reg_setReg_offset v (by rw [regAddr_mod]; exact h30)
  have hcount (t : State) : (t.bump (regAddr .hitch 0 0x140)).reg b = t.reg b := State.reg_setReg_other t _ hdrop
  have hpush (t : State) (r : EventRec) : (t.pushRecord r).reg b = t.reg b := by
    unfold State.pushRecord
    dsimp only []
    split
    · rfl
    · split
      · exact hcount t
      · split
        · exact (hevent ..).trans (hcount t)
        · exact (hevent ..).trans (hcount t)
  unfold State.raise
  dsimp only []
  split
  · rfl
  · split
    · exact hevent ..
    · exact (hpush ..).trans (hevent ..)

/-- A completion changes last_work_id of its window, PG_EVENT registers and Hitch's count of records dropped. -/
theorem State.reg_complete_of_ne {info : Nat} (h120 : b % 0x1000 ≠ 0x120) (h30 : b % 0x1000 ≠ 0x030) (hdrop : b ≠ regAddr .hitch 0 0x140) :
    (s.complete id info).reg b = s.reg b := by
  cases hf : s.flight id with
  | none => simp only [State.complete, hf]
  | some f =>
    have hshown : (s.completeShown f).reg b = s.reg b := by
      rw [State.completeShown, State.reg_setRf_offset (by rw [regAddr_mod]; exact h120)]
      split <;> rfl
    have hraised : (if hComplete f.hdr then (s.completeShown f).raise .cmdwin f.window 0 info f.work else s.completeShown f).reg b = s.reg b := by
      split
      · exact (State.reg_raise_of_ne h30 hdrop).trans hshown
      · exact hshown
    rw [← hraised]
    simp only [State.complete, hf, State.completeShown, State.flight_id hf]
    split <;> rfl

/-! ### The program of a BATCH in flight -/

theorem State.batchProg_of_flight (hf : s.flight id = some f) : s.batchProg id = f.batch? := by rw [State.batchProg, hf, Option.bind_some]

/-- A BATCH in flight holds the program that it is given. -/
theorem State.batchProg_setFlight {g : Flight} (hf : s.flight id = some f) (hid : g.id = f.id) : (s.setFlight g).batchProg id = g.batch? :=
  State.batchProg_of_flight (State.flight_setFlight hf (hid.trans (State.flight_id hf)))

theorem State.batchProg_setProg (hf : s.flight id = some f) (p : BatchProg) : (s.setFlight { f with prog := .batch p }).batchProg id = some p :=
  State.batchProg_setFlight hf rfl

/-! ### What writing an area leaves alone (R346) -/

/-- Coulter and the descriptors in flight stand, and every register but the Granary's and Winnow's counts. -/
structure AreaWork (s t : State) : Prop where
  coulter : t.coulter = s.coulter
  flights : t.flights = s.flights
  reg : ∀ b, b % 0x1000 ≠ 0x130 → b % 0x1000 ≠ 0x158 → t.reg b = s.reg b

theorem AreaWork.refl (s : State) : AreaWork s s := ⟨rfl, rfl, fun _ _ _ => rfl⟩

theorem AreaWork.ite {c : Prop} {_ : Decidable c} {u : State} (ht : AreaWork s t) (hu : AreaWork s u) : AreaWork s (if c then t else u) := by
  split <;> assumption

theorem AreaWork.storeAs (h : AreaWork s t) {cls a : Nat} {bs : List Byte} : AreaWork s (t.storeAs cls a bs) where
  coulter := State.storeAs_coulter.trans h.coulter
  flights := State.storeAs_flights.trans h.flights
  reg b h130 h158 := ((MoveOnly.refl t).store.writeHint.reg b h130 h158).trans (h.reg b h130 h158)

theorem AreaWork.putArea (h : AreaWork s t) {p : BatchProg} {j : Nat} {bytes rec : List Byte} : AreaWork s (t.putArea f p j bytes rec) :=
  h.storeAs.storeAs

theorem AreaWork.putBytes (h : AreaWork s t) {a : Nat} {bs : List Byte} : AreaWork s (t.putBytes a bs) := ⟨h.coulter, h.flights, h.reg⟩

theorem AreaWork.untracked (h : AreaWork s t) {i : Nat} : AreaWork s (t.bump (winnowReg i 0x130)) where
  coulter := h.coulter
  flights := h.flights
  reg b h130 h158 := (State.reg_bumpBy_offset 1 (by rw [winnowReg, regAddr_mod]; exact h130)).trans (h.reg b h130 h158)

theorem AreaWork.setWinnow (h : AreaWork s t) {w : Winnow} : AreaWork s { t with winnow := w } := ⟨h.coulter, h.flights, h.reg⟩

theorem AreaWork.report (h : AreaWork s t) {i tag step : Nat} {pre : Bool} {r : Tally} : AreaWork s (t.report i tag step pre r) :=
  .ite h <| .ite (.ite h.putBytes h) <| .ite (.ite h.untracked.setWinnow h.untracked) <| .ite h.putBytes h

/-! ### Areas filled (R346, R352, R358) -/

/-- Area j filled, with what it adds to the counts of spoiled and of live areas. -/
def BatchProg.filled (p : BatchProg) (j spoiled live : Nat) : BatchProg :=
  { p.setArea j { p.areas.getD j ⟨0, 0, 0, 0, []⟩ with phase := 2 } with spoiled := p.spoiled + spoiled, live := p.live + live }

theorem BatchProg.phase_filled {p : BatchProg} {j m n : Nat} (hj : j < p.areas.length) :
    ((p.filled j m n).areas[j]?.any fun a => a.phase == 2) = true := by
  simp [BatchProg.filled, BatchProg.setArea, hj]

/-- An area written as zero: what is written, the program's count, the register's count and the event. -/
theorem State.zeroArea_eq {p : BatchProg} {j outcome tried : Nat} {live : Bool} : ∃ u, AreaWork s u ∧ s.zeroArea f p j outcome tried live =
    ((u.setFlight { f with prog := .batch (p.filled j 1 0) }).bump (sampleReg 0x150)).raiseErr .sample 0 1 0x0725 f.work 0 0 :=
  ⟨_, (AreaWork.refl s).putArea, rfl⟩

theorem State.flight_zeroArea {p : BatchProg} {j outcome tried : Nat} {live : Bool} (hf : s.flight id = some f) :
    (s.zeroArea f p j outcome tried live).flight id = some { f with prog := .batch (p.filled j 1 0) } := by
  obtain ⟨u, hu, heq⟩ := State.zeroArea_eq (s := s) (f := f) (p := p) (j := j) (outcome := outcome) (tried := tried) (live := live)
  have hflight : u.flight id = some f := (congrArg (List.find? _) hu.flights).trans hf
  have hid : f.id = id := State.flight_id hf
  rw [heq]
  exact (congrArg (List.find? _) (State.raiseErr_flights ..)).trans (State.flight_setFlight hflight hid)

theorem State.batchProg_zeroArea {p : BatchProg} {j outcome tried : Nat} {live : Bool} (hf : s.flight id = some f) :
    (s.zeroArea f p j outcome tried live).batchProg id = some (p.filled j 1 0) := State.batchProg_of_flight (State.flight_zeroArea hf)

/-- A zero area is counted and raised. -/
theorem State.zeroArea_counted {p : BatchProg} {j outcome tried : Nat} {live : Bool} :
    s.Counted (s.zeroArea f p j outcome tried live) (sampleReg 0x150) 1 ∧ (s.zeroArea f p j outcome tried live).Raised .sample 0 1 := by
  obtain ⟨u, hu, heq⟩ := State.zeroArea_eq (s := s) (f := f) (p := p) (j := j) (outcome := outcome) (tried := tried) (live := live)
  have hreg : u.reg (sampleReg 0x150) = s.reg (sampleReg 0x150) := hu.reg _ (by rw [sampleReg_mod]; decide) (by rw [sampleReg_mod]; decide)
  rw [heq]
  refine ⟨?_, State.raised_raiseErr⟩
  rw [State.Counted, State.reg_raiseErr (by rw [sampleReg_mod]; decide), ← hreg]
  exact State.counted_bumpBy

/-- An area filled from a medium: a substitute is counted, a live frame too. -/
theorem State.fillArea_filled {p : BatchProg} {j i what : Nat} {m : Media} {live crib : Bool} (hf : s.flight id = some f) :
    (s.fillArea f p j i m live crib what).coulter = s.coulter ∧
      ∃ n, (s.fillArea f p j i m live crib what).batchProg id = some (p.filled j n (b2n live)) := by
  obtain ⟨u, n, hu, heq⟩ : ∃ u n, AreaWork s u ∧
      (let v := u.setFlight { f with prog := .batch (p.filled j n (b2n live)) }
       s.fillArea f p j i m live crib what = v.bump (sampleReg 0x148) ∨ s.fillArea f p j i m live crib what = v) :=
    ⟨_, _, (AreaWork.refl s).putArea.report, ite_eq_or_eq ..⟩
  have hprog : (u.setFlight { f with prog := .batch (p.filled j n (b2n live)) }).batchProg id = some (p.filled j n (b2n live)) :=
    State.batchProg_setProg ((congrArg (List.find? _) hu.flights).trans hf) _
  rcases heq with heq | heq
  · exact heq ▸ ⟨hu.coulter, n, hprog⟩
  · exact heq ▸ ⟨hu.coulter, n, hprog⟩

/-! ### Live streams (R356 to R361) -/

theorem State.live_congr (h : t.coulter = s.coulter) (i : Nat) : t.live i = s.live i := by rw [State.live, State.live, h]

/-- What is no stream is disabled and holds no frame. -/
theorem State.live_of_le {i : Nat} (hi : s.coulter.live.length ≤ i) : (s.live i).on = false ∧ (s.live i).frames = [] := by
  simp [State.live, List.getElem?_eq_none hi]

theorem State.live_lt_of_on {i : Nat} (h : (s.live i).on = true) : i < s.coulter.live.length := by
  by_contra hge
  simp [(State.live_of_le (Nat.not_lt.1 hge)).1] at h

theorem State.live_lt_of_frames {i : Nat} (h : (s.live i).frames ≠ []) : i < s.coulter.live.length := by
  by_contra hge
  exact h (State.live_of_le (Nat.not_lt.1 hge)).2

theorem State.live_setLive {i : Nat} {x : LiveSt} (hi : i < s.coulter.live.length) : (s.setLive i x).live i = x := by
  simp [State.live, State.setLive, hi]

theorem State.setLive_setLive {i : Nat} {x y : LiveSt} : (s.setLive i x).setLive i y = s.setLive i y := by
  simp [State.setLive]

end Sys2Proof.Machine
end

section
/-!
BATCHes fill, seal and are released (O31).
-/
namespace Sys2Proof.Machine

variable {s t : State} {id j : Nat} {gs : List Nat} {f : Flight} {p : BatchProg} {a : AreaSt}

theorem exec_batchStart : exec (.batchStart id) s = .next (s.batchStart id) := rfl
theorem exec_batch : exec (.batch id j gs) s = .next (s.runBatch id j gs) := rfl
theorem exec_batchSeal : exec (.batchSeal id) s = .next (s.sealBatch id) := rfl
theorem exec_windrowRelease : exec (.windrowRelease id) s = .next (s.releaseWindrow id) := rfl
theorem exec_cribFlush {via : Via} : exec (.cribFlush via) s = .next (s.writeBy via (sampleReg 0x120) 1) := rfl

/-! ### BATCH_START (R345) -/

/-- The program that a BATCH starts with: an empty area for each sample from its first position on. -/
def State.freshBatch (s : State) (b : BatchF) : BatchProg :=
  ⟨s.coulter.batches, (List.range b.count).map (fun j => ⟨0, b.firstPos + j, 0, 0, []⟩), s.now, 0, 0⟩

/-- The state in which a BATCH has started: its slot fills, and it is counted. -/
def State.batchBegun (s : State) (f : Flight) : State :=
  let t := (s.setSlot (s.slotOf s.coulter.batches) 1).setFlight { f with started := true, prog := .batch (s.freshBatch (batchF f.words)) }
  { t with coulter := { t.coulter with batches := s.coulter.batches + 1 } }

/-- A BATCH that may start: it is the oldest, its slot is free, and fewer than four fill. -/
structure State.MayBegin (s : State) (id : Nat) (f : Flight) : Prop where
  flight : s.flightOf id 5 3 = some f
  waits : f.started = false
  fired : f.fired = true
  going : f.ending = none
  asks : (batchF f.words).count ≠ 0
  oldest : s.nextBatch = some id
  sampleOn : s.enabled .sample 0 = true
  coulterOn : s.enabled .coulter 0 = true
  free : s.slotState (s.slotOf s.coulter.batches) = 0
  room : s.slotsFilling < 4

theorem State.batchStart_manifest (h : s.MayBegin id f) (hsource : (batchF f.words).source = 0) : s.batchStart id = s.batchBegun f := by
  simp [State.batchStart, h.flight, h.waits, h.fired, h.going, h.asks, h.oldest, h.sampleOn, h.coulterOn, h.free, h.room, hsource,
    State.batchBegun, State.freshBatch]

theorem State.batchProg_batchBegun (hf : s.flightOf id 5 3 = some f) : (s.batchBegun f).batchProg id = some (s.freshBatch (batchF f.words)) :=
  State.batchProg_setFlight (s := s.setSlot _ 1) (State.flight_of_flightOf hf) rfl

/-! ### BATCH (R342, R343, R352) -/

/-- A manifest BATCH under way, with an area that asks for its entry. -/
structure State.AreaWaits (s : State) (id j : Nat) (f : Flight) (p : BatchProg) (a : AreaSt) : Prop where
  flight : s.flightOf id 5 3 = some f
  going : f.ending = none
  prog : f.batch? = some p
  area : p.areas[j]? = some a
  asks : (batchF f.words).count ≠ 0
  manifest : (batchF f.words).source = 0
  empty : a.phase = 0

theorem State.runBatch_lookup (h : s.AreaWaits id j f p a) : s.runBatch id j gs = s.areaLookup f p j a := by
  simp [State.runBatch, h.flight, h.going, h.prog, h.area, h.asks, h.manifest, h.empty]

/-- The bytes of the manifest entry with an index. -/
def State.entryAt (s : State) (b : BatchF) (i : Nat) : List Byte := s.bytes (b.manifest + 32 * i) 32

/-- A sound entry that asks for no crib joins the decoders as a sample. -/
theorem State.areaLookup_decode (hindex : a.index < (batchF f.words).entries)
    (hclean : s.readsPoison ((batchF f.words).manifest + 32 * a.index) 32 = false) (hops : s.opsPoisoned (batchF f.words) = false)
    (hgood : s.entryBad (batchF f.words).modality (s.entryAt (batchF f.words) a.index) = false)
    (hcrib : entryCrib (s.entryAt (batchF f.words) a.index) = false) :
    s.areaLookup f p j a = (s.addSamp f.id j f.work (entryDesc (s.entryAt (batchF f.words) a.index))).setFlight
      { f with prog := .batch (p.setArea j { a with phase := 1, entry := s.entryAt (batchF f.words) a.index }) } := by
  simp only [State.entryAt] at hgood hcrib ⊢
  simp [State.areaLookup, Nat.not_le.2 hindex, hclean, hops, hgood, hcrib]

/-- An area of which the entry has failed: the outcome is its own where no fallback entry was tried. -/
def AreaSt.failed (a : AreaSt) (outcome : Nat) : AreaSt := { a with own := if a.tried = 0 then outcome else a.own }

/-- An index past the manifest, with no fallback entry left to try, gives a zero area. -/
theorem State.areaLookup_past (harea : p.areas[j]? = some a) (hindex : (batchF f.words).entries ≤ a.index)
    (htried : (batchF f.words).fallbackCount ≤ a.tried) :
    s.areaLookup f p j a = s.zeroArea f (p.setArea j (a.failed 0x0726)) j (a.failed 0x0726).own a.tried false := by
  have hget : p.areas.getD j ⟨0, 0, 0, 0, []⟩ = a := by rw [List.getD_eq_getElem?_getD, harea, Option.getD_some]
  simp only [State.areaLookup, State.areaFail, hindex, hget, Nat.not_lt.2 htried, if_true, if_false, AreaSt.failed]

/-! ### BATCH_SEAL (R346) -/

/-- A BATCH whose areas are all filled: its slot is ready and counted, and it completes. -/
theorem State.sealBatch_eq (hf : s.flightOf id 5 3 = some f) (hp : f.batch? = some p) (hend : f.ending = none)
    (hall : p.areas.all (fun a => a.phase == 2) = true) : ∃ low,
      let t := (s.setSlot (s.slotOf p.seq) 2).bump (sampleReg 0x140)
      s.sealBatch id = ({ t with coulter := { t.coulter with lowArmed := low } }).complete id (min p.spoiled 0xFFFE) := by
  have hnone : p.areas.any (fun a => a.phase != 2) = false := by
    rw [List.any_eq_false]
    intro a ha
    simpa using List.all_eq_true.1 hall a ha
  simp only [State.sealBatch, hf, hp, hend, hnone, Option.isSome_none, Bool.or_self, Bool.false_eq_true, if_false]
  split
  · exact ⟨true, rfl⟩
  · exact ⟨_, rfl⟩

/-! ### WINDROW_RELEASE (R347, R348) -/

/-- The oldest ready slots are freed, whether or not the queue then runs low, and the descriptor completes. -/
theorem State.releaseWindrow_eq (hf : s.flightOf id 5 4 = some f) (hfired : f.fired = true) : ∃ (u : State) (code : Nat),
    u.coulter.slots = ((s.readyOrder.take (fld (f.w 1) 8 0)).foldl (fun t k => t.setSlot k 0) s).coulter.slots ∧ u.mem = s.mem ∧
      u.flights = s.flights ∧ s.releaseWindrow id = u.complete id code := by
  obtain ⟨hmem, hflights⟩ := foldl_inv (fun t => t.mem = s.mem ∧ t.flights = s.flights) (fun t k => t.setSlot k 0)
    (s.readyOrder.take (fld (f.w 1) 8 0)) (fun _ _ h => h) ⟨rfl, rfl⟩
  simp only [State.releaseWindrow, hf, hfired, Bool.not_true, Bool.false_eq_true, if_false]
  refine ⟨_, _, ?_, ?_, ?_, rfl⟩
  · split
    · rw [State.raiseErr_coulter]; rfl
    · rfl
  · split
    · exact (State.raiseErr_mem ..).trans hmem
    · exact hmem
  · split
    · exact (State.raiseErr_flights ..).trans hflights
    · exact hflights

/-! ### The obligation -/

/-- Settles O31: each command by the state it answers, in which the slot, the area and the sample are read off. -/
theorem batchesFill : Obligations.BatchesFill := by
  unfold Obligations.BatchesFill
  refine ⟨?_, ?_, ?_, ?_, ?_, ?_⟩
  · intro id s f hf hwaits hfired hend hcount hsource holdest hsample hcoulter hfree hroom
    have hbegin : s.MayBegin id f := ⟨hf, hwaits, hfired, hend, hcount, holdest, hsample, hcoulter, hfree, hroom⟩
    refine Completes.intro (exec_batchStart.trans (congrArg _ (State.batchStart_manifest hbegin hsource))) ⟨?_, rfl, ?_, rfl⟩
    · exact (State.slotState_setSlot s _ 1 _).trans (if_pos rfl)
    · rw [State.batchProg_batchBegun hf]
      simp [State.freshBatch]
  · intro id j gs s f p a hf hend hp harea hcount hsource hphase hindex hclean hops hgood hcrib
    have hflight : s.flight id = some f := State.flight_of_flightOf hf
    have hlen : j < p.areas.length := (List.getElem?_eq_some_iff.1 harea).1
    have hwaits : s.AreaWaits id j f p a := ⟨hf, hend, hp, harea, hcount, hsource, hphase⟩
    refine Completes.intro (exec_batch.trans (congrArg _ ((State.runBatch_lookup hwaits).trans
      (State.areaLookup_decode hindex hclean hops hgood hcrib)))) ⟨_, rfl, State.flight_id hflight, rfl, rfl, rfl, ?_⟩
    rw [State.batchProg_setProg (s := s.addSamp _ _ _ _) hflight]
    simp [BatchProg.setArea, hlen]
  · intro id j gs s f p a hf hend hp harea hcount hsource hphase hindex htried
    have hlen : j < p.areas.length := (List.getElem?_eq_some_iff.1 harea).1
    have hwaits : s.AreaWaits id j f p a := ⟨hf, hend, hp, harea, hcount, hsource, hphase⟩
    refine Completes.intro (exec_batch.trans (congrArg _ ((State.runBatch_lookup hwaits).trans (State.areaLookup_past harea hindex htried))))
      ⟨?_, State.zeroArea_counted⟩
    rw [State.batchProg_zeroArea (State.flight_of_flightOf hf), Option.any_some, BatchProg.phase_filled (by simpa [BatchProg.setArea] using hlen)]
    simp [BatchProg.filled, BatchProg.setArea]
  · intro id s f p hf hp hend hall
    obtain ⟨low, heq⟩ := State.sealBatch_eq hf hp hend hall
    have hflight : s.flight id = some f := State.flight_of_flightOf hf
    refine Completes.intro (exec_batchSeal.trans (congrArg _ heq)) ⟨State.complete_ended hflight, ?_, ?_, State.complete_mem ..⟩
    · rw [State.slotState_congr (congrArg CoulterSt.slots (State.complete_coulter ..))]
      exact (State.slotState_setSlot s _ 2 _).trans (if_pos rfl)
    · exact State.counted_bumpBy (s := s.setSlot (s.slotOf p.seq) 2).congr
        (State.reg_complete_of_ne (by rw [sampleReg_mod]; decide) (by rw [sampleReg_mod]; decide) (by decide))
  · intro id s f hf hfired
    obtain ⟨u, code, hslots, hmem, hflights, heq⟩ := State.releaseWindrow_eq hf hfired
    have hflight : u.flight id = some f := (congrArg (List.find? _) hflights).trans (State.flight_of_flightOf hf)
    refine Completes.intro (exec_windrowRelease.trans (congrArg _ heq))
      ⟨State.complete_ended hflight, (State.complete_mem ..).trans hmem, List.all_eq_true.2 fun k hk => ?_⟩
    rw [State.slotState_congr ((congrArg CoulterSt.slots (State.complete_coulter ..)).trans hslots), State.slotState_released hk, beq_self_eq_true]
  · intro via s hlands
    obtain ⟨j, hwrite⟩ := State.writeBy_landed hlands (by decide) (by decide) (by decide) (by decide)
    refine Completes.intro (exec_cribFlush.trans (congrArg _ hwrite)) ⟨?_, ?_⟩
    · rw [Via.answer_coulter via]
      rfl
    · exact (SameTilth.answer via).mem.trans (SameTilth.arrived via).mem

end Sys2Proof.Machine
end

section
/-!
Live streams assemble and give frames (O32).
-/
namespace Sys2Proof.Machine

variable {s t : State} {id i j n v : Nat} {f : Flight} {p : BatchProg} {fr : LiveFrame} {k : LivePkt}

theorem exec_liveStreamEnable {via : Via} {i : Fin 8} {v : Word} : exec (.liveStreamEnable via i v) s =
    .next (s.writeBy via (liveReg i.val 0) (v.toNat ||| 1)) := rfl
theorem exec_livePacket : exec (.livePacket k) s = .next (if s.flowTakes k then s.livePacket k else s) := rfl
theorem exec_liveTake : exec (.liveTake id) s = .next (s.liveTake id) := rfl
theorem exec_liveWaitExpiry : exec (.liveWaitExpiry id) s = .next (s.liveExpire id) := rfl
theorem exec_liveStreamLost {i : Fin 8} : exec (.liveStreamLost i) s = .next (s.liveLost i.val) := rfl

/-! ### LIVE_STREAM_ENABLE (R361) -/

/-- A stream that is enabled, with its ring at b: it holds no frame and waits for synchronisation. -/
def State.openStream (s : State) (b : Nat) : LiveSt := ⟨true, b, [], none, false, false, 0, (0, 0, 0, 0), [], 0, 0, s.now, true, false, 0⟩

/-- Enabling a stream is accepted where its configuration is sound and the live area has room for its ring. -/
theorem State.liveWrite_enable (hoff : bitOf (s.reg (liveReg i 0)) 0 = false) (hon : bitOf v 0 = true) :
    s.liveWrite i v = if liveCfgOk v then (s.liveRoom i ((liveCfgOf v).ring * (liveCfgOf v).frameBytes)).map
      (fun b => (s.setReg (liveReg i 0) v).setLive i (s.openStream b)) else none := by
  simp only [State.liveWrite, hoff, hon, Bool.false_and, Bool.or_false, Bool.not_false, Bool.and_self, if_true]
  cases liveCfgOk v with
  | false => rfl
  | true =>
    simp only [Bool.not_true, Bool.false_eq_true, if_false, if_true]
    cases s.liveRoom i ((liveCfgOf v).ring * (liveCfgOf v).frameBytes) <;> rfl

theorem pageAt_live : ∀ i : Fin 8, pageAt (liveReg i.val 0) 8 = some (.live, 0) := by decide

/-- A write that is not refused meets its register's own condition. -/
theorem State.writeOk_of_writeCode {src : Source} {page : PageKind} {off : Nat} (h : s.writeCode src page i off v = 0) :
    s.writeOk src page i off v = true := by
  by_contra hbad
  have hcode : s.writeCode src page i off v ≠ 0 := by
    simp only [State.writeCode, Bool.eq_false_of_not_eq_true hbad, Bool.not_false, Bool.or_true, if_true]
    split
    · decide
    · split <;> decide
  exact hcode h

theorem State.writeOk_liveCfg {src : Source} : s.writeOk src .live 0 (0x200 + 0x40 * i) v = (s.liveWrite i v).isSome := by
  have hmod : (0x200 + 0x40 * i) % 0x40 = 0 := by omega
  have hdiv : (0x200 + 0x40 * i - 0x200) / 0x40 = i := by omega
  have hoff {c : Nat} (hc : c < 0x200) : 0x200 + 0x40 * i ≠ c := by omega
  have hbig : ¬ 0x200 + 0x40 * i < 0x100 := by omega
  simp only [State.writeOk, hoff (c := 0x020) (by decide), hoff (c := 0x040) (by decide), hoff (c := 0x100) (by decide),
    hoff (c := 0x108) (by decide), hbig, hmod, hdiv, if_true, if_false]

theorem State.writeEffect_live {src : Source} {off : Nat} (hhigh : 0x200 ≤ off) (hmod : off % 0x40 = 0) :
    s.writeEffect src .live 0 off v = (s.liveWrite ((off - 0x200) / 0x40) v).getD s := by
  have hoff {c : Nat} (hc : c < 0x200) : ¬ off = c := by omega
  unfold State.writeEffect
  rw [if_neg (hoff (by decide)), if_neg (hoff (by decide)), if_neg (hoff (by decide)), if_neg (by omega)]
  exact if_pos (by simp [hhigh, hmod])

theorem State.writeEffect_liveCfg {src : Source} :
    s.writeEffect src .live 0 (0x200 + 0x40 * i) v = (s.liveWrite i v).getD s := by
  rw [State.writeEffect_live (by omega) (by omega), Nat.add_sub_cancel_left, Nat.mul_div_cancel_left _ (by decide)]

/-- The configuration that a landed write leaves: the stream is enabled, and its register holds what was written. -/
theorem State.liveWrite_landed {via : Via} {i : Fin 8} (hlands : Lands via s (liveReg i.val 0) v) (hv : v < 2 ^ 64)
    (hoff : bitOf (s.reg (liveReg i.val 0)) 0 = false) (hon : bitOf v 0 = true) : ∃ u b, SameTilth s u ∧ u.coulter = s.coulter ∧
      s.writeBy via (liveReg i.val 0) v = via.answer (liveReg i.val 0) v ((u.setReg (liveReg i.val 0) v).setLive i.val (u.openStream b)) := by
  obtain ⟨page, k, hpage, -, -, hcode, -⟩ := State.regWrite_accepted hlands.2
  obtain ⟨rfl, rfl⟩ : PageKind.live = page ∧ 0 = k := by simpa [pageAt_live] using hpage
  have hmod : liveReg i.val 0 % 0x1000 = 0x200 + 0x40 * i.val := liveReg_mod i.isLt (by decide)
  have hold : bitOf ((via.arrived s).reg (liveReg i.val 0)) 0 = false := by
    rw [(SameTilth.arrived via).reg _ (by rw [hmod]; omega), hoff]
  have hroom := State.writeOk_of_writeCode hcode
  rw [hmod, State.writeOk_liveCfg, State.liveWrite_enable hold hon] at hroom
  obtain ⟨j, hwrite⟩ := State.writeBy_landed (off := 0x200 + 0x40 * i.val) hlands hv (pageAt_live i) (by omega) (by omega)
  have hold' : bitOf (({ via.arrived s with journal := j } : State).reg (liveReg i.val 0)) 0 = false := hold
  cases hok : liveCfgOk v with
  | false => simp [hok] at hroom
  | true =>
    cases hb : (via.arrived s).liveRoom i.val ((liveCfgOf v).ring * (liveCfgOf v).frameBytes) with
    | none => simp [hok, hb] at hroom
    | some b =>
      have hb' : ({ via.arrived s with journal := j } : State).liveRoom i.val ((liveCfgOf v).ring * (liveCfgOf v).frameBytes) = some b := hb
      rw [State.writeEffect_liveCfg, State.liveWrite_enable hold' hon, hok, if_pos rfl, hb'] at hwrite
      have harrived : SameTilth s (via.arrived s) := .arrived via
      exact ⟨{ via.arrived s with journal := j }, b, ⟨harrived.mem, harrived.bankMoves, harrived.plots, harrived.reg⟩,
        Via.arrived_coulter via, hwrite⟩

/-! ### LIVE_PACKET (R356, R437) -/

/-- A packet of an enabled stream is counted and times the stream, whatever it brings. -/
def State.packetSeen (s : State) (i : Nat) : State := (s.bump (liveReg i 0x38)).setLive i { s.live i with lastPacket := s.now, lost := false }

theorem State.livePacket_foreign (hon : (s.live k.stream.val).on = true) (hformat : k.formatOk = false) :
    s.livePacket k = s.packetSeen k.stream.val := by
  simp only [State.livePacket, hon, hformat, Bool.not_true, Bool.not_false, Bool.false_eq_true, if_false, if_true, State.packetSeen]

theorem State.live_packetSeen (hon : (s.live i).on = true) : (s.packetSeen i).live i = { s.live i with lastPacket := s.now, lost := false } :=
  State.live_setLive (s := s.bump _) (State.live_lt_of_on hon)

/-- The marker of a video frame that lacks no packet. -/
structure State.EndsFrame (s : State) (k : LivePkt) : Prop where
  on : (s.live k.stream.val).on = true
  format : k.formatOk = true
  marker : k.marker = true
  video : (s.liveCfg k.stream.val).audio = false
  synced : (s.live k.stream.val).sync = false
  begun : (s.live k.stream.val).begun = true
  stamp : (s.live k.stream.val).stamp = k.stamp.toNat
  whole : (s.live k.stream.val).gap = false
  next : (s.live k.stream.val).nextSeq = some k.seq

/-- A stream with a packet's samples added to the frame that it assembles. -/
def State.pieced (s : State) (k : LivePkt) : LiveSt :=
  { s.live k.stream.val with
    lastPacket := s.now, lost := false, nextSeq := some (k.seq + 1), pieces := k.video.reverse ++ (s.live k.stream.val).pieces, gap := false }

/-- The state in which a packet has been counted and its samples added. -/
def State.framePieced (s : State) (k : LivePkt) : State := (s.bump (liveReg k.stream.val 0x38)).setLive k.stream.val (s.pieced k)

/-- Counting packets changes no other register of a stream. -/
theorem State.reg_countPacket {off : Nat} (hoff : off ≠ 0x38) : (s.bump (liveReg i 0x38)).reg (liveReg i off) = s.reg (liveReg i off) :=
  State.reg_setReg_other _ _ (mt liveReg_inj.1 hoff)

theorem State.liveCfg_countPacket (x : LiveSt) : ((s.bump (liveReg i 0x38)).setLive i x).liveCfg i = s.liveCfg i :=
  congrArg liveCfgOf (State.reg_countPacket (by decide))

theorem State.livePacket_marker (h : s.EndsFrame k) : s.livePacket k = (s.framePieced k).frameDone k.stream.val := by
  obtain ⟨hon, hformat, hmarker, hvideo, hsync, hbegun, hstamp, hwhole, hnext⟩ := h
  have hlive (x : LiveSt) : ((s.bump (liveReg k.stream.val 0x38)).setLive k.stream.val x).live k.stream.val = x :=
    State.live_setLive (s := s.bump _) (State.live_lt_of_on hon)
  simp [State.livePacket, State.framePieced, State.pieced, State.setLive_setLive, State.liveCfg_countPacket, hlive, hon, hformat, hmarker,
    hvideo, hsync, hbegun, hstamp, hwhole, hnext]

/-- A stream with its video frame complete: numbered, held as the newest of the frames, with none being assembled. -/
def LiveSt.ended (x : LiveSt) (held : List LiveFrame) : LiveSt :=
  { x with frames := held ++ [⟨x.count, x.capture, x.roi.2.2.1, x.roi.2.2.2⟩], count := x.count + 1, begun := false, gap := false,
           pieces := [], fill := 0 }

/-- A complete video frame goes to the ring, and is counted. -/
theorem State.frameDone_video (hi : i < 8) (hvideo : (s.liveCfg i).audio = false) : ∃ (u : State) (held : List LiveFrame), u.coulter = s.coulter ∧
    u.reg (liveReg i 0x28) = s.reg (liveReg i 0x28) ∧
      s.frameDone i = (u.bump (liveReg i 0x28)).setLive i ((s.live i).ended held) := by
  have hmod : liveReg i 0x28 % 0x1000 = 0x200 + 0x40 * i + 0x28 := liveReg_mod hi (by decide)
  have hwork (a : Nat) (bs : List Byte) : AreaWork s (s.storeAs 3 a bs) := (AreaWork.refl s).storeAs
  have hreg (a : Nat) (bs : List Byte) : (s.storeAs 3 a bs).reg (liveReg i 0x28) = s.reg (liveReg i 0x28) :=
    (hwork a bs).reg _ (by rw [hmod]; omega) (by rw [hmod]; omega)
  simp only [State.frameDone, hvideo, Bool.false_eq_true, if_false]
  refine ⟨_, _, ?_, ?_, rfl⟩
  · split
    · exact (hwork ..).coulter
    · exact (hwork ..).coulter
  · split
    · exact (State.reg_setReg_other _ _ (by rw [Ne, liveReg_inj]; decide)).trans (hreg ..)
    · exact hreg ..

/-- The marker of a whole video frame ends the frame, which is counted. -/
theorem State.livePacket_whole (h : s.EndsFrame k) : (∃ held, (s.livePacket k).live k.stream.val = (s.pieced k).ended held) ∧
    s.Counted (s.livePacket k) (liveReg k.stream.val 0x28) 1 := by
  have hlen : k.stream.val < s.coulter.live.length := State.live_lt_of_on h.on
  have hpieced : (s.framePieced k).live k.stream.val = s.pieced k := State.live_setLive (s := s.bump _) hlen
  have hvideo : ((s.framePieced k).liveCfg k.stream.val).audio = false := (congrArg _ (State.liveCfg_countPacket _)).trans h.video
  obtain ⟨u, held, hcoulter, hreg, heq⟩ := State.frameDone_video k.stream.isLt hvideo
  have hlen' : k.stream.val < u.coulter.live.length := by
    rw [hcoulter]
    simpa [State.framePieced, State.setLive] using hlen
  have hreg' : u.reg (liveReg k.stream.val 0x28) = s.reg (liveReg k.stream.val 0x28) := hreg.trans (State.reg_countPacket (by decide))
  rw [State.livePacket_marker h, heq, hpieced]
  refine ⟨⟨held, State.live_setLive (s := u.bump _) hlen'⟩, ?_⟩
  rw [State.Counted, ← hreg']
  exact State.counted_bumpBy

/-! ### LIVE_TAKE (R358) -/

/-- A live BATCH under way, with one frame held by its stream and an area to fill. -/
structure State.TakesOne (s : State) (id : Nat) (f : Flight) (p : BatchProg) (fr : LiveFrame) (j : Nat) : Prop where
  flight : s.flightOf id 5 3 = some f
  going : f.ending = none
  prog : f.batch? = some p
  live : (batchF f.words).source = 1
  frames : (s.live (batchF f.words).stream).frames = [fr]
  next : findIdx? (fun (a : AreaSt) => a.phase != 2) p.areas = some j

/-- The state in which a stream's one frame has been taken. -/
def State.frameTaken (s : State) (i : Nat) : State := s.setLive i { s.live i with frames := [] }

theorem State.liveTake_stale (h : s.TakesOne id f p fr j)
    (hstale : fr.capture + almUs (s.rf (liveReg (batchF f.words).stream 0x18) 31 0) < s.now) :
    s.liveTake id = (s.frameTaken (batchF f.words).stream).bump (liveReg (batchF f.words).stream 0x30) := by
  obtain ⟨hflight, hgoing, hprog, hlive, hframes, hnext⟩ := h
  simp [State.liveTake, hflight, hgoing, hlive, hframes, State.takeFrames, hprog, hnext, hstale, State.frameTaken]

/-- The medium of a frame that lies in its stream's ring. -/
def State.frameMedia (s : State) (i : Nat) (fr : LiveFrame) : Media :=
  readMedia (fun o => s.byte ((s.live i).base + fr.num % max 1 (s.liveCfg i).ring * (s.liveCfg i).frameBytes + o))
    ((s.liveCfg i).form fr.width fr.height)

theorem State.liveTake_fresh (h : s.TakesOne id f p fr j) (hops : s.opsPoisoned (batchF f.words) = false)
    (hfresh : s.now ≤ fr.capture + almUs (s.rf (liveReg (batchF f.words).stream 0x18) 31 0)) :
    s.liveTake id = (s.frameTaken (batchF f.words).stream).fillArea f p j fr.num (s.frameMedia (batchF f.words).stream fr) true false
      fr.capture := by
  obtain ⟨hflight, hgoing, hprog, hlive, hframes, hnext⟩ := h
  have hops' : ∀ x, (s.setLive (batchF f.words).stream x).opsPoisoned (batchF f.words) = false := fun _ => hops
  simp only [State.liveTake, hflight, hgoing, hlive, hframes, State.takeFrames, hprog, hnext, Nat.not_lt.2 hfresh, hops', State.frameTaken,
    Option.isNone_none, decide_true, Bool.and_self, if_true, if_false, List.length_singleton, Bool.false_eq_true]
  rfl

theorem State.live_frameTaken (h : (s.live i).frames ≠ []) : ((s.frameTaken i).live i).frames = [] := by
  rw [State.frameTaken, State.live_setLive (State.live_lt_of_frames h)]

/-! ### LIVE_WAIT_EXPIRY (R358) -/

theorem findIdx?_eq {α : Type} (q : α → Bool) (l : List α) : findIdx? q l = l.findIdx? q := by
  induction l with
  | nil => rfl
  | cons a l ih => rw [findIdx?, ih, List.findIdx?_cons]

/-- The areas of a program not yet filled. -/
def BatchProg.unfilled (p : BatchProg) : Nat := p.areas.countP fun a => a.phase != 2

theorem BatchProg.unfilled_filled {m n : Nat} (hj : findIdx? (fun (a : AreaSt) => a.phase != 2) p.areas = some j) :
    (p.filled j m n).unfilled + 1 = p.unfilled := by
  rw [findIdx?_eq, List.findIdx?_eq_some_iff_getElem] at hj
  obtain ⟨hlen, hempty, -⟩ := hj
  have hpos : 0 < p.unfilled := List.countP_pos_iff.2 ⟨_, List.getElem_mem hlen, hempty⟩
  simp only [BatchProg.unfilled] at hpos ⊢
  simp only [BatchProg.filled, BatchProg.setArea, List.countP_set hlen, hempty, if_true, bne_self_eq_false, Bool.false_eq_true, if_false]
  omega

theorem BatchProg.all_filled (hnone : findIdx? (fun (a : AreaSt) => a.phase != 2) p.areas = none) :
    (p.areas.all fun a => a.phase == 2) = true := by
  rw [findIdx?_eq, List.findIdx?_eq_none_iff] at hnone
  exact List.all_eq_true.2 fun a ha => by simpa using hnone a ha

/-- As many zero areas as a live BATCH lacks leave none unfilled. -/
theorem State.zeroRest_filled (hf : s.flightOf id 5 3 = some f) (hp : f.batch? = some p) (hn : p.unfilled ≤ n) :
    ((s.zeroRest id n).batchProg id).any (fun q => q.areas.all fun a => a.phase == 2) = true := by
  have hdone (hnone : findIdx? (fun (a : AreaSt) => a.phase != 2) p.areas = none) :
      (s.batchProg id).any (fun q => q.areas.all fun a => a.phase == 2) = true := by
    rw [State.batchProg_of_flight (State.flight_of_flightOf hf), hp, Option.any_some, BatchProg.all_filled hnone]
  induction n generalizing s f p with
  | zero =>
    cases hnext : findIdx? (fun (a : AreaSt) => a.phase != 2) p.areas with
    | none => exact hdone hnext
    | some j => exact absurd (BatchProg.unfilled_filled (m := 1) (n := 0) hnext) (by omega)
  | succ n ih =>
    simp only [State.zeroRest, hf, hp]
    cases hnext : findIdx? (fun (a : AreaSt) => a.phase != 2) p.areas with
    | none => exact hdone hnext
    | some j =>
      obtain ⟨hflight, hcls, hop⟩ := State.flightOf_eq_some.1 hf
      have hflight' := State.flight_zeroArea (p := p) (j := j) (outcome := 0x0728) (tried := 0) (live := false) hflight
      have hfewer := BatchProg.unfilled_filled (m := 1) (n := 0) hnext
      refine ih (State.flightOf_eq_some.2 ⟨hflight', hcls, hop⟩) rfl (by omega) fun hnone => ?_
      rw [State.batchProg_of_flight hflight']
      exact BatchProg.all_filled hnone

theorem State.liveExpire_late (hf : s.flightOf id 5 3 = some f) (hp : f.batch? = some p) (hend : f.ending = none)
    (hlive : (batchF f.words).source = 1) (hlate : p.start + almUs (batchF f.words).liveWait ≤ s.now) :
    s.liveExpire id = s.zeroRest id p.areas.length := by
  simp [State.liveExpire, hf, hp, hend, hlive, hlate]

/-! ### LIVE_STREAM_LOST (R361) -/

theorem State.liveLost_silent (hon : (s.live i).on = true) (hheard : (s.live i).lost = false)
    (hsilent : (s.live i).lastPacket + almMs 100 ≤ s.now) :
    s.liveLost i = (s.setLive i { s.live i with lost := true }).raiseErr .live 0 0 0x072A 0 0 0 := by
  simp [State.liveLost, hon, hheard, hsilent]

/-! ### The obligation -/

/-- Settles O32: each command by the state it answers, in which the stream, its frames and the areas are read off. -/
theorem liveStreamsRun : Obligations.LiveStreamsRun := by
  unfold Obligations.LiveStreamsRun
  refine ⟨?_, ?_, ?_, ?_, ?_, ?_, ?_⟩
  · intro via i v s hlen hlands hoff
    have hon : bitOf (v.toNat ||| 1) 0 = true := by rw [bitOf_or, show bitOf 1 0 = true from rfl, Bool.or_true]
    obtain ⟨u, b, hu, hcoulter, hwrite⟩ := State.liveWrite_landed hlands (Nat.or_lt_two_pow v.isLt (by decide)) hoff hon
    have hstream : ((u.setReg (liveReg i.val 0) (v.toNat ||| 1)).setLive i.val (u.openStream b)).live i.val = u.openStream b :=
      State.live_setLive (by rw [State.setReg_coulter, hcoulter, hlen]; exact i.isLt)
    refine Completes.intro (exec_liveStreamEnable.trans (congrArg _ hwrite)) ?_
    rw [State.live_congr (Via.answer_coulter via), hstream, (SameTilth.answer via).mem,
      (SameTilth.answer via).reg _ (by rw [liveReg_mod i.isLt (by decide)]; omega)]
    exact ⟨rfl, rfl, rfl, State.reg_setReg_self .., hu.mem⟩
  · intro k s htakes hon hformat
    refine Completes.intro (exec_livePacket.trans (congrArg _ ((if_pos htakes).trans (State.livePacket_foreign hon hformat)))) ?_
    rw [State.live_packetSeen hon]
    exact ⟨State.counted_bumpBy, rfl, rfl, rfl, rfl⟩
  · intro k s htakes hon hformat hmarker hvideo hsync hbegun hstamp hgap hnext
    have hends : s.EndsFrame k := ⟨hon, hformat, hmarker, hvideo, hsync, hbegun, hstamp, hgap, hnext⟩
    obtain ⟨⟨held, hended⟩, hcount⟩ := State.livePacket_whole hends
    refine Completes.intro (exec_livePacket.trans (congrArg _ (if_pos htakes))) ?_
    rw [hended]
    exact ⟨rfl, rfl, hcount, List.getLast?_concat ..⟩
  · intro id j s f p fr hf hend hp hlive hframes hnext hops hfresh
    have htakes : s.TakesOne id f p fr j := ⟨hf, hend, hp, hlive, hframes, hnext⟩
    have hflight : (s.frameTaken (batchF f.words).stream).flight id = some f := State.flight_of_flightOf hf
    obtain ⟨hcoulter, m, hprog⟩ := State.fillArea_filled (p := p) (j := j) (i := fr.num) (what := fr.capture)
      (m := s.frameMedia (batchF f.words).stream fr) (live := true) (crib := false) hflight
    refine Completes.intro (exec_liveTake.trans (congrArg _ (State.liveTake_fresh htakes hops hfresh))) ⟨?_, ?_⟩
    · rw [State.live_congr hcoulter, State.live_frameTaken (by simp [hframes])]
    · have hlen : j < p.areas.length := by
        rw [findIdx?_eq, List.findIdx?_eq_some_iff_getElem] at hnext
        exact hnext.1
      rw [hprog, Option.any_some, BatchProg.phase_filled hlen]
      simp [BatchProg.filled, b2n]
  · intro id j s f p fr hf hend hp hlive hframes hnext hstale
    have htakes : s.TakesOne id f p fr j := ⟨hf, hend, hp, hlive, hframes, hnext⟩
    refine Completes.intro (exec_liveTake.trans (congrArg _ (State.liveTake_stale htakes hstale))) ⟨?_, rfl, ?_, rfl⟩
    · exact State.live_frameTaken (by simp [hframes])
    · exact State.counted_bumpBy (s := s.frameTaken _)
  · intro id s f p hf hend hp hlive hlate
    exact Completes.intro (exec_liveWaitExpiry.trans (congrArg _ (State.liveExpire_late hf hp hend hlive hlate)))
      (State.zeroRest_filled hf hp List.countP_le_length)
  · intro i s hon hheard hsilent
    refine Completes.intro (exec_liveStreamLost.trans (congrArg _ (State.liveLost_silent hon hheard hsilent)))
      ⟨?_, State.raised_raiseErr, State.raiseErr_mem ..⟩
    rw [State.live_congr (State.raiseErr_coulter ..), State.live_setLive (State.live_lt_of_on hon)]

end Sys2Proof.Machine
end

section
/-!
The operations of Thresher on the state: what they give and what they leave alone.
-/
namespace Sys2Proof.Machine

variable {s t u : State} {id c n : Nat} {f : Flight} {p q : CollProg} {a : ArbRec} {m : ThrMsg} {k : TokenMsg}

theorem thrReg_mod (off : Nat) : thrReg off % 0x1000 = off % 0x1000 := regAddr_mod .thresher 0 off

theorem thrChReg_mod (c off : Nat) : thrChReg c off % 0x1000 = off % 0x1000 := regAddr_mod .thrCh c off

/-! ### Collectives in flight -/

theorem State.flight_congr (h : t.flights = s.flights) (id : Nat) : t.flight id = s.flight id := by rw [State.flight, State.flight, h]

theorem State.collOf_congr (h : t.flights = s.flights) (id : Nat) : t.collOf id = s.collOf id := by
  rw [State.collOf, State.collOf, State.flight_congr h]

theorem State.collOf_of_flight (hf : s.flight id = some f) : s.collOf id = f.coll? := by rw [State.collOf, hf, Option.bind_some]

/-- A collective found by its channel and number is in flight. -/
theorem State.flight_of_collFlight (h : s.collFlight c n = some f) : ∃ g, s.flight f.id = some g := by
  have hin : f ∈ s.flights := List.mem_of_mem_filter (List.mem_of_find?_eq_some h)
  exact Option.isSome_iff_exists.1 (State.flight_isSome_iff.2 (List.mem_map_of_mem hin))

/-- Another descriptor replaced leaves this one. -/
theorem State.flight_setFlight_ne (h : f.id ≠ id) : (s.setFlight f).flight id = s.flight id := by
  rw [State.flight, State.setFlight, List.find?_map]
  have hsame : ((fun g : Flight => g.id == id) ∘ fun g => if g.id == f.id then f else g) = fun g => g.id == id := by
    funext g
    by_cases hg : g.id = f.id
    · simp [hg]
    · simp [hg]
  rw [hsame]
  cases hfind : s.flights.find? (fun g => g.id == id) with
  | none => simp [State.flight, hfind]
  | some g =>
    have hid : g.id = id := by simpa using List.find?_some hfind
    simp [State.flight, hfind, hid, Ne.symm h]

/-! ### A collective's progress stored -/

theorem State.setColl_of_flight (hf : s.flight id = some f) : s.setColl id p = s.setFlight { f with prog := .coll p } := by
  simp only [State.setColl, hf]

/-- Storing progress changes the descriptors in flight alone. -/
theorem State.setColl_eq : ∃ fs, s.setColl id p = { s with flights := fs } := by
  unfold State.setColl
  split
  · exact ⟨_, rfl⟩
  · exact ⟨_, rfl⟩

@[simp] theorem State.setColl_mem : (s.setColl id p).mem = s.mem := by
  obtain ⟨fs, heq⟩ := State.setColl_eq (s := s) (id := id) (p := p)
  rw [heq]

@[simp] theorem State.setColl_thr : (s.setColl id p).thr = s.thr := by
  obtain ⟨fs, heq⟩ := State.setColl_eq (s := s) (id := id) (p := p)
  rw [heq]

@[simp] theorem State.setColl_regs : (s.setColl id p).regs = s.regs := by
  obtain ⟨fs, heq⟩ := State.setColl_eq (s := s) (id := id) (p := p)
  rw [heq]

@[simp] theorem State.setColl_stackList : (s.setColl id p).stackList = s.stackList := by
  obtain ⟨fs, heq⟩ := State.setColl_eq (s := s) (id := id) (p := p)
  rw [heq]

theorem State.flight_setColl (hf : s.flight id = some f) : (s.setColl id p).flight id = some { f with prog := .coll p } := by
  have hid : f.id = id := State.flight_id hf
  rw [State.setColl_of_flight hf]
  exact State.flight_setFlight hf hid

/-- A descriptor in flight that is given a collective's progress holds it. -/
theorem State.collOf_setColl (hf : s.flight id = some f) : (s.setColl id p).collOf id = some p :=
  State.collOf_of_flight (State.flight_setColl hf)

theorem State.flight_setColl_ne {i : Nat} (h : i ≠ id) : (s.setColl i p).flight id = s.flight id := by
  unfold State.setColl
  split
  next g hg => exact State.flight_setFlight_ne (State.flight_id hg ▸ h)
  next => rfl

/-! ### What is sent -/

@[simp] theorem State.thrSend_mem : (s.thrSend m).mem = s.mem := rfl
@[simp] theorem State.thrSend_flights : (s.thrSend m).flights = s.flights := rfl
@[simp] theorem State.thrSend_sent : (s.thrSend m).thr.sent = m :: s.thr.sent := rfl

/-- Messages sent one after another join what has been sent, and nothing else changes. -/
theorem State.foldl_thrSend {α : Type} (g : α → ThrMsg) (l : List α) :
    l.foldl (fun t x => t.thrSend (g x)) s = { s with thr := { s.thr with sent := (l.map g).reverse ++ s.thr.sent } } := by
  induction l generalizing s with
  | nil => rfl
  | cons x l ih =>
    rw [List.foldl_cons, ih, List.map_cons, List.reverse_cons, List.append_assoc]
    rfl

/-! ### The arbiter's records -/

theorem State.arb_key (h : s.arb c n = some a) : a.ch = c ∧ a.number = n := by
  have hkey := List.find?_some h
  simpa using hkey

theorem State.arb_congr (h : t.thr.arbs = s.thr.arbs) : t.arb c n = s.arb c n := by rw [State.arb, State.arb, h]

theorem State.arb_setArb (hch : a.ch = c) (hnumber : a.number = n) : (s.setArb a).arb c n = some a := by
  simp [State.arb, State.setArb, hch, hnumber]

/-- A record replaced by one of the same collective. -/
theorem State.arb_replaced {b : ArbRec} (h : s.arb c n = some a) (hch : b.ch = a.ch := by rfl) (hnumber : b.number = a.number := by rfl) :
    (t.setArb b).arb c n = some b :=
  State.arb_setArb (hch.trans (State.arb_key h).1) (hnumber.trans (State.arb_key h).2)

/-- The record of a collective, or a new one, is that collective's. -/
theorem State.arb_getD_key : ((s.arb c n).getD (newArb c n)).ch = c ∧ ((s.arb c n).getD (newArb c n)).number = n := by
  cases h : s.arb c n with
  | none => exact ⟨rfl, rfl⟩
  | some a => exact State.arb_key h

/-- Before its collective starts on the arbiter no record is decided by a token that comes in. -/
theorem State.arbAllIn_waiting (h : a.started = false) : s.arbAllIn a = a := by
  simp [State.arbAllIn, h]

theorem State.arbAllIn_kept : (s.arbAllIn a).ch = a.ch ∧ (s.arbAllIn a).number = a.number ∧ (s.arbAllIn a).started = a.started := by
  unfold State.arbAllIn
  split
  · exact ⟨rfl, rfl, rfl⟩
  · exact ⟨rfl, rfl, rfl⟩

/-- Of positions that the seal in force includes, one is judged undelivered, and the seal is to be made again (R380). -/
theorem ArbRec.judge_included {x : SealRec} {pos now : Nat} (hlast : a.last = some x) (hout : x.outcome = 0) (hin : x.included.contains pos = true) :
    a.judge [pos] now = { a with undelivered := a.undelivered ++ [pos], due := true, decided := some now } := by
  simp only [ArbRec.judge, hlast, hout, Option.any_some, beq_self_eq_true, Bool.and_true, List.filter_cons, hin, if_true, List.filter_nil,
    List.isEmpty_cons, Bool.false_eq_true, if_false]

theorem ArbRec.judge_kept {l : List Nat} {now : Nat} : (a.judge l now).ch = a.ch ∧ (a.judge l now).number = a.number := by
  unfold ArbRec.judge
  dsimp only []
  split
  · exact ⟨rfl, rfl⟩
  · exact ⟨rfl, rfl⟩

/-! ### What the arbiter's own work leaves alone (R376 to R381) -/

/-- The bytes, the descriptors in flight and what has been sent stand, and every register but a channel's count of late tokens, PG_EVENT
and Hitch's count of records dropped. -/
structure ArbOnly (s t : State) : Prop where
  mem : t.mem = s.mem
  flights : t.flights = s.flights
  sent : t.thr.sent = s.thr.sent
  reg : ∀ b, b % 0x1000 ∉ [0x030, 0x140, 0x150] → t.reg b = s.reg b

theorem ArbOnly.refl (s : State) : ArbOnly s s := ⟨rfl, rfl, rfl, fun _ _ => rfl⟩

theorem ArbOnly.ite {x : Prop} {_ : Decidable x} (ht : ArbOnly s t) (hu : ArbOnly s u) : ArbOnly s (if x then t else u) := by
  split <;> assumption

theorem ArbOnly.setArb (h : ArbOnly s t) : ArbOnly s (t.setArb a) := ⟨h.mem, h.flights, h.sent, h.reg⟩

/-- A token that comes late is counted and raised (R377). -/
theorem ArbOnly.late (h : ArbOnly s t) : ArbOnly s ((t.bump (thrChReg c 0x150)).raise .thrCh c 2 0 0) where
  mem := (State.raise_mem ..).trans h.mem
  flights := (State.raise_flights ..).trans h.flights
  sent := (congrArg ThrSt.sent (State.raise_thr ..)).trans h.sent
  reg b hb := by
    simp only [List.mem_cons, List.not_mem_nil, or_false, not_or] at hb
    obtain ⟨h30, h140, h150⟩ := hb
    rw [State.reg_raise h30 h140, ← h.reg b (by simp [h30, h140, h150])]
    exact State.reg_bumpBy_offset 1 (by rw [thrChReg_mod]; exact h150)

theorem State.arbToken_only : ArbOnly s (s.arbToken c n k) := by
  have hs : ArbOnly s s := .refl s
  unfold State.arbToken
  refine .ite (.ite ?_ hs.setArb) <| .ite hs <| .ite hs.late <| .ite hs <| .ite hs.setArb hs.setArb
  split
  · exact hs.setArb
  · exact hs.setArb

/-- The arbiter's own start leaves its record started. -/
theorem State.arbStart_started {deadline : Nat} {root : Option Nat} : ArbOnly s (s.arbStart c n deadline root k) ∧
    ∃ a, (s.arbStart c n deadline root k).arb c n = some a ∧ a.started = true := by
  have hlate (l : List ArbTok) : ArbOnly s (l.foldl (fun u _ => (u.bump (thrChReg c 0x150)).raise .thrCh c 2 0 0) s) :=
    foldl_inv (ArbOnly s) _ l (fun _ _ h => h.late) (.refl s)
  obtain ⟨hch, hnumber⟩ := State.arb_getD_key (s := s) (c := c) (n := n)
  unfold State.arbStart
  extract_lets a late a1 s1
  split
  · exact ⟨(hlate _).setArb, _, State.arb_setArb hch hnumber, rfl⟩
  · obtain ⟨hch', hnumber', hstarted⟩ := State.arbAllIn_kept (s := s1) (a := a1)
    exact ⟨(hlate _).setArb, _, State.arb_setArb (hch'.trans hch) (hnumber'.trans hnumber), hstarted⟩

end Sys2Proof.Machine
end

section
/-!
The arbiter decides and seals (O34).
-/
namespace Sys2Proof.Machine

variable {s : State} {c n pos q r : Nat} {a : ArbRec} {x : SealRec} {k : TokenMsg}

theorem exec_readyToken {c : Fin 32} : exec (.readyToken c n k) s = .next (s.readyToken c.val n k) := rfl
theorem exec_deadlineExpiry {c : Fin 32} : exec (.deadlineExpiry c n) s = .next (s.deadlineExpiry c.val n) := rfl
theorem exec_sealMade {c : Fin 32} : exec (.sealMade c n) s = .next (s.sealColl c.val n) := rfl
theorem exec_sealResendRequest {c : Fin 32} : exec (.sealResendRequest c n pos) s = .next (s.sealResend c.val n pos) := rfl
theorem exec_dataLimitExpiry {c : Fin 32} {l : List Nat} : exec (.dataLimitExpiry c n l) s = .next (s.dataLimitExpiry c.val n l) := rfl
theorem exec_peerReport {c : Fin 32} : exec (.peerReport c n r q) s = .next (s.peerReport c.val n r q) := rfl
theorem exec_reportDecision {c : Fin 32} : exec (.reportDecision c n) s = .next (s.reportDecision c.val n) := rfl

/-! ### READY_TOKEN (R376) -/

/-- The first token of a collective is stamped, and held in a new record. -/
theorem State.readyToken_first (hon : s.enabled .thrCh c = true) (hown : s.arbPos c = s.ownPos c) (hother : k.pos ≠ s.ownPos c)
    (hpos : k.pos < (s.chan c).n) (hnone : s.arb c n = none) (hready : k.withdraw = false) :
    s.readyToken c n k = s.setArb { newArb c n with tokens := [⟨k.pos, s.now, k.digest, k.nf⟩] } := by
  have hsome : 0 < (s.chan c).n := Nat.zero_lt_of_lt hpos
  simp [State.readyToken, hon, hown, hother, hpos, hsome, State.arbToken, hnone, hready, newArb, State.arbAllIn_waiting]

/-! ### DEADLINE_EXPIRY (R376) -/

theorem State.deadlineExpiry_passed (ha : s.arb c n = some a) (hstarted : a.started = true) (hopen : a.decided = none) (hlate : a.deadline < s.now) :
    s.deadlineExpiry c n = s.setArb { a with decided := some s.now, due := true } := by
  simp [State.deadlineExpiry, ha, hstarted, hopen, hlate]

/-! ### SEAL (R378, R381) -/

/-- A member acts on a seal in its own part: no byte, record or message changes. -/
theorem State.sealReceived_kept : (s.sealReceived c n x).mem = s.mem ∧ (s.sealReceived c n x).thr = s.thr := by
  have hrestart (w : Nat) : (if 0 < x.num then (s.bump (thrChReg c 0x158)).raise .thrCh c 3 0 w else s).mem = s.mem ∧
      (if 0 < x.num then (s.bump (thrChReg c 0x158)).raise .thrCh c 3 0 w else s).thr = s.thr := by
    split
    · exact ⟨State.raise_mem .., State.raise_thr ..⟩
    · exact ⟨rfl, rfl⟩
  unfold State.sealReceived
  split
  · exact ⟨rfl, rfl⟩
  next f _ =>
    split
    · exact ⟨rfl, rfl⟩
    · split
      · exact ⟨rfl, rfl⟩
      · extract_lets p1 s1
        obtain ⟨hmem, hthr⟩ : s1.mem = s.mem ∧ s1.thr = s.thr := hrestart f.work
        split
        · exact ⟨State.setColl_mem.trans hmem, State.setColl_thr.trans hthr⟩
        · exact ⟨State.setColl_mem.trans hmem, State.setColl_thr.trans hthr⟩

/-- The record that a seal leaves: of a first seal, those who withdrew before it are judged at once (R388). -/
def ArbRec.sealedBy (a : ArbRec) (x : SealRec) (now : Nat) : ArbRec :=
  if a.last.isNone then { a with last := some x, due := false, reports := [], undelivered := [] }.judge a.undelivered now
  else { a with last := some x, due := false, reports := [] }

theorem ArbRec.sealedBy_key {now : Nat} : (a.sealedBy x now).ch = a.ch ∧ (a.sealedBy x now).number = a.number := by
  unfold ArbRec.sealedBy
  split
  · exact ArbRec.judge_kept
  · exact ⟨rfl, rfl⟩

/-- With none withdrawn, or after a first seal, the record holds the seal and nothing more is due. -/
theorem ArbRec.sealedBy_plain {now : Nat} (h : a.last.isSome = true ∨ a.undelivered = []) :
    a.sealedBy x now = { a with last := some x, due := false, reports := [] } := by
  unfold ArbRec.sealedBy
  split
  next hnone =>
    have hund : a.undelivered = [] := h.resolve_left (by simpa using hnone)
    simp [ArbRec.judge, hund]
  next => rfl

/-- A member that withdrew before the first seal and is included in it is judged undelivered, and a reseal is due. -/
theorem ArbRec.sealedBy_withdrawn {now : Nat} (hfirst : a.last = none) (hout : x.outcome = 0) (hund : q ∈ a.undelivered)
    (hin : x.included.contains q = true) : (a.sealedBy x now).due = true ∧ (a.sealedBy x now).undelivered.contains q = true := by
  have hq : q ∈ a.undelivered.filter (fun y => x.included.contains y && x.outcome == 0) :=
    List.mem_filter.2 ⟨hund, by rw [hin, hout]; rfl⟩
  have hne : (a.undelivered.filter (fun y => x.included.contains y && x.outcome == 0)).isEmpty = false :=
    List.isEmpty_eq_false_iff.2 (List.ne_nil_of_mem hq)
  simp only [ArbRec.sealedBy, hfirst, Option.isNone_none, if_true, ArbRec.judge, Option.any_some, hne, Bool.false_eq_true, if_false, List.nil_append,
    true_and]
  exact List.contains_iff_mem.2 hq

/-- The seal is recorded, sent to every other position, and taken by this module's own collective. -/
theorem State.sealColl_due (ha : s.arb c n = some a) (hdue : a.due = true) (hdecided : a.decided.isSome = true) :
    s.sealColl c n = (((List.range (s.chan c).n).filter (fun q => q != s.ownPos c)).foldl (fun t q => t.thrSend (.sealMsg c n q (s.makeSeal a)))
      (s.setArb (a.sealedBy (s.makeSeal a) s.now))).sealReceived c n (s.makeSeal a) := by
  have hnone : a.decided.isNone = false := by rw [← Option.not_isSome, hdecided]; rfl
  simp only [State.sealColl, ha, hdue, hnone, Bool.not_true, Bool.or_self, Bool.false_eq_true, if_false, ArbRec.sealedBy]

/-- What the making of a seal leaves of memory, of the record and of what is sent. -/
theorem State.sealColl_facts (ha : s.arb c n = some a) (hdue : a.due = true) (hdecided : a.decided.isSome = true) :
    (s.sealColl c n).mem = s.mem ∧ (s.sealColl c n).arb c n = some (a.sealedBy (s.makeSeal a) s.now) ∧
      ∀ q, q < (s.chan c).n → q ≠ s.ownPos c → ThrMsg.sealMsg c n q (s.makeSeal a) ∈ (s.sealColl c n).thr.sent := by
  obtain ⟨hch, hnumber⟩ := ArbRec.sealedBy_key (a := a) (x := s.makeSeal a) (now := s.now)
  rw [State.sealColl_due ha hdue hdecided, State.foldl_thrSend (fun q => ThrMsg.sealMsg c n q (s.makeSeal a))]
  refine ⟨State.sealReceived_kept.1, ?_, fun q hq hother => ?_⟩
  · rw [State.arb_congr (congrArg ThrSt.arbs State.sealReceived_kept.2)]
    exact State.arb_replaced ha hch hnumber
  · rw [State.sealReceived_kept.2]
    refine List.mem_append_left _ (List.mem_reverse.2 (List.mem_map_of_mem (List.mem_filter.2 ⟨List.mem_range.2 hq, ?_⟩)))
    exact bne_iff_ne.2 hother

theorem State.sealResend_kept (ha : s.arb c n = some a) (hlast : a.last = some x) : s.sealResend c n pos = s.thrSend (.sealMsg c n pos x) := by
  simp only [State.sealResend, ha, hlast]

/-! ### Judgement (R380, R410) -/

theorem State.dataLimitExpiry_passed (ha : s.arb c n = some a) (hlast : a.last = some x) (hidle : a.due = false) (hout : x.outcome = 0)
    (hlate : x.issued + s.dataLimit c ≤ s.now) (hin : x.included.contains q = true) :
    s.dataLimitExpiry c n [q] = s.setArb { a with undelivered := a.undelivered ++ [q], due := true, decided := some s.now } := by
  simp only [State.dataLimitExpiry, ha, hlast, hidle, hout, hlate, decide_true, Bool.not_false, Bool.and_self, if_true,
    ArbRec.judge_included hlast hout hin]

theorem State.peerReport_arbiter (hon : s.enabled .thrCh c = true) (hsome : (s.chan c).n ≠ 0) (hown : s.arbPos c = s.ownPos c)
    (ha : s.arb c n = some a) (hsealed : a.last.isSome = true) (hidle : a.due = false) :
    s.peerReport c n r q = s.setArb { a with reports := a.reports ++ [(r, q, s.now)] } := by
  simp [State.peerReport, hon, hsome, hown, State.arbReport, ha, hsealed, hidle]

theorem State.peerReport_member (hon : s.enabled .thrCh c = true) (hsome : (s.chan c).n ≠ 0) (hother : s.arbPos c ≠ s.ownPos c)
    (hhere : (s.collFlight c n).isSome = true) :
    s.peerReport c n (s.ownPos c) q = s.thrSend (.report c n (s.arbPos c) q) := by
  simp [State.peerReport, hon, hsome, hother, hhere]

/-- A report alone condemns the position that it names. -/
theorem judged_single {t0 : Nat} : judged [(r, q, t0)] = [q] := by
  have hkept : ((r == q && q == r) && decide (q < r)) = false := by
    by_cases hrq : r = q
    · simp [hrq]
    · simp [hrq]
  simp only [judged, List.filter_cons, List.any_cons, List.any_nil, Bool.or_false, hkept, Bool.not_false, if_true, List.filter_nil, List.map_cons,
    List.map_nil]

theorem State.reportDecision_single {t0 : Nat} (ha : s.arb c n = some a) (hreports : a.reports = [(r, q, t0)]) (hlate : t0 + almUs 20 ≤ s.now)
    (hlast : a.last = some x) (hout : x.outcome = 0) (hin : x.included.contains q = true) :
    s.reportDecision c n = s.setArb { a with reports := [], undelivered := a.undelivered ++ [q], due := true, decided := some s.now } := by
  have hjudge := ArbRec.judge_included (a := { a with reports := [] }) (now := s.now) hlast hout hin
  have honce : [q].eraseDups = [q] := rfl
  simp only [State.reportDecision, ha, hreports, hlate, if_true, List.filter_cons, Nat.le_add_right, decide_true, List.filter_nil, judged_single,
    honce, hjudge]

/-! ### The obligation -/

/-- Settles O34: the record of the collective that each command leaves, and what it sends. -/
theorem arbiterSeals : Obligations.ArbiterSeals := by
  unfold Obligations.ArbiterSeals
  refine ⟨?_, ?_, ?_, ?_, ?_, ?_, ?_, ?_⟩
  · intro c n k s hon hown hother hpos hnone hready
    refine Completes.intro (exec_readyToken.trans (congrArg _ (State.readyToken_first hon hown hother hpos hnone hready))) ⟨?_, rfl, rfl⟩
    exact congrArg (Option.map _) (State.arb_setArb rfl rfl)
  · intro c n s a ha hstarted hopen hlate
    exact Completes.intro (exec_deadlineExpiry.trans (congrArg _ (State.deadlineExpiry_passed ha hstarted hopen hlate)))
      ⟨State.arb_replaced ha, rfl⟩
  · intro c n s a ha hdue hdecided
    obtain ⟨hmem, harb, hsent⟩ := State.sealColl_facts ha hdue hdecided
    refine Completes.intro exec_sealMade ⟨fun hplain => ?_, fun q hfirst hout hund hin => ?_, hmem, hsent⟩
    · rw [harb, ArbRec.sealedBy_plain hplain]
    · obtain ⟨hdue', hund'⟩ := ArbRec.sealedBy_withdrawn (now := s.now) hfirst hout hund hin
      rw [harb, Option.any_some, hdue', hund', Bool.and_self]
  · intro c n pos s a x ha hlast
    exact Completes.intro (exec_sealResendRequest.trans (congrArg _ (State.sealResend_kept ha hlast))) ⟨rfl, rfl, rfl⟩
  · intro c n q s a x ha hlast hidle hout hlate hin
    exact Completes.intro (exec_dataLimitExpiry.trans (congrArg _ (State.dataLimitExpiry_passed ha hlast hidle hout hlate hin)))
      (State.arb_replaced ha)
  · intro c n r q s a hon hsome hown ha hsealed hidle
    exact Completes.intro (exec_peerReport.trans (congrArg _ (State.peerReport_arbiter hon hsome hown ha hsealed hidle)))
      (State.arb_replaced ha)
  · intro c n q s hon hsome hother hhere
    exact Completes.intro (exec_peerReport.trans (congrArg _ (State.peerReport_member hon hsome hother hhere))) rfl
  · intro c n r q t0 s a x ha hreports hlate hlast hout hin
    exact Completes.intro (exec_reportDecision.trans (congrArg _ (State.reportDecision_single ha hreports hlate hlast hout hin)))
      (State.arb_replaced ha)

end Sys2Proof.Machine
end

section
/-!
Collectives start and end (O33).
-/
namespace Sys2Proof.Machine

variable {s t u : State} {id c n a v : Nat} {via : Via} {f : Flight} {p q : CollProg} {x : SealRec}

theorem exec_thrChEnable {c : Fin 32} {gate : Bool} : exec (.thrChEnable via c gate) s =
    .next (s.writeBy via (thrChReg c.val 0x020) (1 + 4 * b2n gate)) := rfl
theorem exec_collectiveStart : exec (.collectiveStart id) s = .next (s.collStart id) := rfl
theorem exec_thrNoSeal : exec (.thrNoSeal id) s = .next (s.noSeal id) := rfl
theorem exec_collectiveComplete : exec (.collectiveComplete id) s = .next (s.collComplete id) := rfl
theorem exec_repairLimitExpiry : exec (.repairLimitExpiry id) s = .next (s.repairExpiry id) := rfl
theorem exec_thresherCancel : exec (.thresherCancel id) s = .next (s.runThrCancel id) := rfl

/-! ### THR_CH_ENABLE (R363, R374) -/

theorem pageAt_thrCh : ∀ c : Fin 32, pageAt (thrChReg c.val 0x020) 8 = some (.thrCh, c.val) := by decide

theorem State.bytes_congr (h : t.mem = s.mem) (a n : Nat) : t.bytes a n = s.bytes a n := by
  induction n generalizing a with
  | zero => rfl
  | succ n ih => simp only [State.bytes, State.byte, h, ih]

/-- The channel that an enable makes of the member table: its members, its digest, and numbering from 0. -/
def State.channelOf (s : State) (c : Nat) : ThrChan :=
  ⟨(s.memberTable c).map (fun e => (bitsOf e 14 0, bitOf e 32)),
    crc32 (s.bytes (s.rf (thrChReg c 0x100) 47 0) (8 * (s.memberTable c).length)), 0⟩

/-- The ports that bring a write leave the member table. -/
theorem SameTilth.channelOf (h : SameTilth s t) : t.channelOf c = s.channelOf c := by
  have hreg (off : Nat) (hoff : off % 0x1000 ≠ 0x1A0) (hi lo : Nat) : t.rf (thrChReg c off) hi lo = s.rf (thrChReg c off) hi lo := by
    rw [State.rf, State.rf, h.reg _ (by rwa [thrChReg_mod])]
  have htable : t.memberTable c = s.memberTable c := by
    simp only [State.memberTable, hreg 0x100 (by decide), hreg 0x108 (by decide), State.num_congr h.mem]
  rw [State.channelOf, State.channelOf, htable, hreg 0x100 (by decide), State.bytes_congr h.mem]

/-- The member table of a channel, or its length, is not one that an enable accepts (R374). -/
def State.tableBad (s : State) (c : Nat) : Bool :=
  let t := s.memberTable c
  t.isEmpty || !s.populated (s.rf (thrChReg c 0x100) 47 0) (8 * t.length) || t.any (fun e => bitsOf e 31 15 != 0 || bitsOf e 63 33 != 0) ||
    !rising (t.map (fun e => bitsOf e 14 0)) || !(t.map (fun e => bitsOf e 14 0)).contains (s.rf (thrReg 0x100) 14 0) ||
    !t.any (fun e => bitOf e 32) || decide (t.length < s.rf (thrChReg c 0x118) 15 0)

/-- An enable that is accepted gives the channel, and forgets its collectives on the arbiter. -/
theorem State.enableChannel_eq : s.enableChannel c = if s.tableBad c then none else
    some (({ s with thr := { s.thr with arbs := s.thr.arbs.filter (fun b => b.ch != c) } } : State).setChan c (s.channelOf c)) := rfl

theorem State.enableChannel_isSome : (s.enableChannel c).isSome = !s.tableBad c := by
  rw [State.enableChannel_eq]
  cases s.tableBad c <;> rfl

theorem State.ctrlOk_thrCh (h : s.ctrlOk .thrCh c v = true) (hon : bitOf v 0 = true) (hoff : s.enabled .thrCh c = false) :
    (s.enableChannel c).isSome = true := by
  simp only [State.ctrlOk, Bool.and_eq_true] at h
  simpa [hon, hoff] using h.2

theorem State.ctrlWrite_thrCh (hon : bitOf v 0 = true) (hplain : bitOf v 1 = false) (hoff : s.enabled .thrCh c = false) :
    s.ctrlWrite .thrCh c v = ((s.enableChannel c).getD s).setReg (thrChReg c 0x020) (v &&& 5) := by
  simp [State.ctrlWrite, hon, hplain, hoff, thrChReg]

theorem State.chan_setChan {y : ThrChan} (hc : c < s.thr.chans.length) : (s.setChan c y).chan c = y := by
  simp [State.chan, State.setChan, hc]

theorem Via.arrived_thr (via : Via) : (via.arrived s).thr = s.thr ∧ (via.arrived s).flights = s.flights := by cases via <;> exact ⟨rfl, rfl⟩

theorem Via.answer_thr (via : Via) : (via.answer a v s).thr = s.thr ∧ (via.answer a v s).flights = s.flights := by
  cases via with
  | hitch seq tag => exact ⟨State.respond_thr .., State.respond_flights ..⟩
  | ethernet seq tag => exact ⟨rfl, rfl⟩
  | twoWire => exact ⟨rfl, rfl⟩
  | jtag => exact ⟨rfl, rfl⟩

theorem State.writeOk_ctrl {src : Source} {k : PageKind} {i : Nat} : s.writeOk src k i 0x020 v = s.ctrlOk k i v := by
  unfold State.writeOk
  exact if_pos rfl

theorem State.writeEffect_ctrl {src : Source} {k : PageKind} {i : Nat} : s.writeEffect src k i 0x020 v = s.ctrlWrite k i v := by
  unfold State.writeEffect
  exact if_pos rfl

/-- An enable that lands: its port reaches a state in which the channel is made and the register written. -/
theorem State.writeBy_thrChEnable {c : Fin 32} (hlands : Lands via s (thrChReg c.val 0x020) v) (hv : v < 2 ^ 64) (hon : bitOf v 0 = true)
    (hplain : bitOf v 1 = false) (hoff : s.enabled .thrCh c.val = false) : ∃ u arbs, SameTilth s u ∧ u.thr = s.thr ∧ u.flights = s.flights ∧
      s.writeBy via (thrChReg c.val 0x020) v = via.answer (thrChReg c.val 0x020) v
        ((({ u with thr := { u.thr with arbs := arbs } } : State).setChan c.val (s.channelOf c.val)).setReg (thrChReg c.val 0x020) (v &&& 5)) := by
  have harrived : SameTilth s (via.arrived s) := .arrived via
  have hclosed {t : State} (h : SameTilth s t) : t.enabled .thrCh c.val = false := by
    rw [State.enabled, h.reg _ (by rw [regAddr_mod]; decide)]
    exact hoff
  obtain ⟨page, i, hpage, -, -, hcode, -⟩ := State.regWrite_accepted hlands.2
  obtain ⟨rfl, rfl⟩ : PageKind.thrCh = page ∧ c.val = i := by simpa [pageAt_thrCh] using hpage
  have hoffset : thrChReg c.val 0x020 % 0x1000 = 0x020 := thrChReg_mod c.val 0x020
  have hok := State.writeOk_of_writeCode hcode
  rw [hoffset, State.writeOk_ctrl] at hok
  obtain ⟨j, hwrite⟩ := State.writeBy_landed (off := 0x020) hlands hv (pageAt_thrCh c) (by decide) (by decide)
  have hu : SameTilth s { via.arrived s with journal := j } := ⟨harrived.mem, harrived.bankMoves, harrived.plots, harrived.reg⟩
  have hgood : ({ via.arrived s with journal := j } : State).tableBad c.val = false := by
    have hsome := State.ctrlOk_thrCh hok hon (hclosed harrived)
    rwa [State.enableChannel_isSome, Bool.not_eq_true'] at hsome
  refine ⟨_, (via.arrived s).thr.arbs.filter (fun b => b.ch != c.val), hu, (Via.arrived_thr via).1, (Via.arrived_thr via).2,
    hwrite.trans (congrArg _ ?_)⟩
  rw [State.writeEffect_ctrl, State.ctrlWrite_thrCh hon hplain (hclosed hu), State.enableChannel_eq, hgood, if_neg Bool.false_ne_true,
    Option.getD_some, hu.channelOf]

/-! ### COLLECTIVE_START (R363, R375) -/

/-- A collective whose turn it is to start: every earlier one of its channel has, and at most four of them are in or before their data
phase. -/
structure State.CollTurn (s : State) (id : Nat) (f : Flight) (p : CollProg) : Prop where
  flight : s.flight id = some f
  coll : f.coll? = some p
  idle : p.phase = 0
  waits : f.started = false
  fired : f.fired = true
  going : f.ending = none
  order : ((s.chFlights (collF f.words).ch).takeWhile (fun g => g.id != id)).any (fun g => !g.started) = false
  ahead : (((s.chFlights (collF f.words).ch).takeWhile (fun g => g.id != id)).filter
    (fun g => (g.coll?).any (fun q => !s.dataEnded g q))).length ≤ 4
  on : s.enabled .thrCh (collF f.words).ch = true

/-- The scale of a collective's wire format cannot be written (R105, R369). -/
def State.ScaleUnfit (s : State) (f : Flight) : Prop :=
  (collF f.words).delivery = false ∧ (collF f.words).op ≠ 4 ∧ (s.collWin f (collF f.words) < -512 ∨ 511 < s.collWin f (collF f.words))

/-- The state in which a collective has started with some progress. -/
def State.collBegun (s : State) (id : Nat) (f : Flight) (q : CollProg) : State := (s.setFlight { f with started := true }).setColl id q

theorem State.flight_collBegun (hf : s.flight id = some f) : (s.collBegun id f q).flight id = some { f with started := true, prog := .coll q } := by
  have hid : f.id = id := State.flight_id hf
  exact State.flight_setColl (f := { f with started := true }) (State.flight_setFlight hf hid)

/-- A collective that has started is found started, in its first phase, since now. -/
theorem State.collBegun_found (hf : s.flight id = some f) (hphase : q.phase = 1) (hstart : q.start = s.now)
    (hflights : t.flights = (s.collBegun id f q).flights) :
    (t.collOf id).any (fun q => q.phase == 1 && q.start == s.now) = true ∧ (t.flight id).any (fun g => g.started) = true := by
  have hflight := (State.flight_congr hflights id).trans (State.flight_collBegun hf)
  rw [State.collOf_of_flight hflight, hflight]
  simp [Flight.coll?, hphase, hstart]

theorem State.collStart_unfit (h : s.CollTurn id f p) (hunfit : s.ScaleUnfit f) : s.collStart id =
    s.collBegun id f { p with phase := 1, start := s.now, eWin := s.collWin f (collF f.words), outcome := 0x0303 } := by
  obtain ⟨hflight, hcoll, hidle, hwaits, hfired, hgoing, horder, hahead, hon⟩ := h
  obtain ⟨hreduces, hop, hscale⟩ := hunfit
  simp [State.collStart, hflight, hcoll, hidle, hwaits, hfired, hgoing, horder, Nat.not_lt.2 hahead, hon, hreduces, hop, hscale, State.collBegun]

/-- e_win of a collective that starts; a delivery has none. -/
def State.tokenWin (s : State) (f : Flight) : Int := if (collF f.words).delivery then 0 else s.collWin f (collF f.words)

/-- The token of a collective that starts (R375). -/
def State.tokenOf (s : State) (f : Flight) : TokenMsg :=
  ⟨s.ownPos (collF f.words).ch, s.collDigest f (collF f.words) (s.tokenWin f), (collF f.words).isVerdict && s.nonFinite f.step, false, f.work⟩

/-- The progress of a collective that has sent its token. -/
def State.tokenProg (s : State) (f : Flight) (p : CollProg) : CollProg :=
  { p with phase := 1, start := s.now, eWin := s.tokenWin f, digest := (s.tokenOf f).digest, nf := (s.tokenOf f).nf }

/-- The deadline by which tokens are to come: that of the descriptor, or the channel's window from now (R376). -/
def State.startDeadline (s : State) (cf : CollF) : Nat := if cf.deadline = 0 then s.now + s.defaultWindow cf.ch else cf.deadline

/-- The root that a broadcast requires among its members. -/
def CollF.broadcastRoot (cf : CollF) : Option Nat := if cf.op = 0x10 then some cf.root else none

/-- A collective that starts gives its token to the arbiter, here or at another position. -/
theorem State.collStart_fit (h : s.CollTurn id f p) (hfit : ¬ s.ScaleUnfit f) : s.collStart id =
    if s.arbPos (collF f.words).ch = s.ownPos (collF f.words).ch then
      (s.collBegun id f (s.tokenProg f p)).arbStart (collF f.words).ch p.number (s.startDeadline (collF f.words)) (collF f.words).broadcastRoot
        (s.tokenOf f)
    else (s.collBegun id f (s.tokenProg f p)).thrSend (.token (collF f.words).ch p.number (s.arbPos (collF f.words).ch) (s.tokenOf f)) := by
  obtain ⟨hflight, hcoll, hidle, hwaits, hfired, hgoing, horder, hahead, hon⟩ := h
  have hscale : (!(collF f.words).delivery && decide ((collF f.words).op ≠ 4) &&
      (decide (s.tokenWin f < -512) || decide (511 < s.tokenWin f))) = false := by
    by_contra hbad
    simp only [Bool.not_eq_false, Bool.and_eq_true, Bool.or_eq_true, Bool.not_eq_true', decide_eq_true_eq] at hbad
    obtain ⟨⟨hreduces, hop⟩, hout⟩ := hbad
    rw [State.tokenWin, hreduces, if_neg Bool.false_ne_true] at hout
    exact hfit ⟨hreduces, hop, hout⟩
  have hahead' : ¬ 4 < _ := Nat.not_lt.2 hahead
  rw [State.tokenWin] at hscale
  simp only [State.collStart, hflight, hcoll, hidle, hwaits, hfired, hgoing, horder, hahead', hon, State.collBegun, State.tokenProg, State.tokenOf,
    State.tokenWin, State.startDeadline, CollF.broadcastRoot, Option.isSome_none, ne_eq, not_true_eq_false, decide_false, Bool.or_self,
    Bool.not_true, Bool.false_eq_true, if_false]
  rw [if_neg (by rw [← Bool.not_eq_true] at hscale; simpa using hscale)]

/-! ### THR_NO_SEAL (R381) -/

theorem State.noSeal_late (hf : s.flight id = some f) (hp : f.coll? = some p) (hphase : p.phase = 1) (hout : p.outcome = 0) (hheld : p.held = none)
    (hlate : (if (collF f.words).deadline = 0 then p.start + s.defaultWindow (collF f.words).ch else (collF f.words).deadline) +
      s.sealLimit (collF f.words).ch ≤ s.now) : s.noSeal id = s.setColl f.id { p with outcome := 0x0613 } := by
  simp [State.noSeal, hf, hp, hphase, hout, hheld, hlate, State.failColl]

/-! ### Completion (R379, R382, R406) -/

/-- An event that is raised stays raised when a descriptor completes. -/
theorem State.Raised.complete {k : PageKind} {i bit info : Nat} (h : t.Raised k i bit) : (t.complete id info).Raised k i bit := by
  unfold State.complete
  split
  · exact h
  · extract_lets s1 sg s2 s3 s4
    have h2 : s2.Raised k i bit := by
      unfold s2
      split
      · exact h
      · exact h
    have h3 : s3.Raised k i bit := h2.congr (State.reg_setRf_offset (by rw [regAddr_mod, regAddr_mod]; decide))
    have h4 : s4.Raised k i bit := by
      unfold s4
      split
      · exact h3.raise
      · exact h3
    split
    · exact h4
    · exact h4

/-- The offsets of the registers that the end of a collective changes before it is counted on THRESHER's page: those of errors and the
channel's counts. -/
def endOffsets : List Nat := [0x138, 0x148, 0x160] ++ errorOffsets

/-- The bytes and the descriptors in flight stand, with what has been raised, and every register but those. -/
structure EndOnly (s t : State) : Prop where
  mem : t.mem = s.mem
  flights : t.flights = s.flights
  raised : ∀ k i bit, s.Raised k i bit → t.Raised k i bit
  reg : ∀ b, b % 0x1000 ∉ endOffsets → t.reg b = s.reg b

theorem EndOnly.refl (s : State) : EndOnly s s := ⟨rfl, rfl, fun _ _ _ => id, fun _ _ => rfl⟩

theorem EndOnly.trans (h : EndOnly s t) (h' : EndOnly t u) : EndOnly s u :=
  ⟨h'.mem.trans h.mem, h'.flights.trans h.flights, fun k i bit hr => h'.raised k i bit (h.raised k i bit hr),
    fun b hb => (h'.reg b hb).trans (h.reg b hb)⟩

theorem EndOnly.ite {y : Prop} {_ : Decidable y} (ht : EndOnly s t) (hu : EndOnly s u) : EndOnly s (if y then t else u) := by
  split <;> assumption

/-- A count of the channel is raised. -/
theorem EndOnly.bump {off : Nat} (hoff : off % 0x1000 ∈ [0x138, 0x140, 0x148, 0x160]) : EndOnly s (s.bump (thrChReg c off)) := by
  have hend : off % 0x1000 ∈ endOffsets := by
    revert hoff
    generalize off % 0x1000 = o
    simp only [endOffsets, errorOffsets, List.cons_append, List.nil_append, List.mem_cons, List.not_mem_nil, or_false]
    tauto
  have hreg (b : Nat) (hb : b % 0x1000 ≠ off % 0x1000) : (s.bump (thrChReg c off)).reg b = s.reg b :=
    State.reg_bumpBy_offset 1 (by rwa [thrChReg_mod])
  refine ⟨State.bump_mem .., State.bump_flights .., fun k i bit h => h.congr (hreg _ ?_), fun b hb => hreg b (ne_of_mem_of_not_mem hend hb).symm⟩
  rw [regAddr_mod]
  exact (ne_of_mem_of_not_mem hoff (by decide)).symm

theorem EndOnly.raiseErr {k : PageKind} {i bit code work info0 info1 : Nat} : EndOnly s (s.raiseErr k i bit code work info0 info1) :=
  ⟨State.raiseErr_mem .., State.raiseErr_flights .., fun _ _ _ h => h.raiseErr,
    fun _ hb => State.reg_raiseErr fun hin => hb (List.mem_append_right _ hin)⟩

theorem EndOnly.raise {k : PageKind} {i bit info work : Nat} : EndOnly s (s.raise k i bit info work) :=
  ⟨State.raise_mem .., State.raise_flights .., fun _ _ _ h => h.raise,
    fun _ hb => State.reg_raise (fun h30 => hb (by rw [h30]; decide)) (fun h140 => hb (by rw [h140]; decide))⟩

/-- The job's probe maxima stored in Winnow's tables leave all but bytes and the Granary's counts. -/
theorem MoveOnly.putProbeMaxima (h : MoveOnly s t) {ms : List (Nat × Int)} : MoveOnly s (t.putProbeMaxima ms) :=
  h.foldl fun _ _ h' => h'.foldl fun _ _ h'' => h''.store

/-- A collective ends: it is stored, a verdict noted; then it is counted and what went wrong raised; last it is counted on THRESHER's
page, kept for repair and completed. -/
theorem State.endColl_eq : ∃ (v u : State) (kept : List Retained) (info : Nat), MoveOnly s v ∧
    ((collF f.words).isVerdict = false ∨ (collF f.words).probe = false →
      v.mem = (s.store (collF f.words).hdr (s.headerImage f p p.outcome)).mem) ∧
    EndOnly v u ∧ (p.outcome ≠ 0 → u.Raised .thrCh (collF f.words).ch 1) ∧ s.endColl f p =
      ({ u.bump (thrReg 0x110) with thr := { (u.bump (thrReg 0x110)).thr with kept := kept } } : State).complete f.id info := by
  unfold State.endColl
  extract_lets c x excl info s1 verdict noted s2 s2' s3 s4 s5 s6 keep
  have hs1 : MoveOnly s s1 := (MoveOnly.refl s).store.writeHint
  have hnoted : MoveOnly s noted := ⟨hs1.flights, hs1.stackList, hs1.reg⟩
  have hs2 : MoveOnly s s2 := by
    unfold s2
    split
    · split
      · exact hnoted.putProbeMaxima
      · exact hnoted
    · exact hs1
  have hmem : c.isVerdict = false ∨ c.probe = false → s2.mem = s1.mem := by
    intro hplain
    unfold s2
    split
    next hverdict => rw [if_neg (by simpa [hverdict] using hplain)]
    next => rfl
  have hs2' : EndOnly s2 s2' := .ite (.refl s2) (.bump (by decide))
  have hs3 : EndOnly s2' s3 := .ite .raiseErr (.refl s2')
  have hs4 : EndOnly s3 s4 := .ite ((EndOnly.bump (by decide)).trans .raise) (.refl s3)
  have hs5 : EndOnly s4 s5 := .ite (.bump (by decide)) (.refl s4)
  have hlast : EndOnly s3 (s5.bump (thrChReg c.ch 0x138)) := hs4.trans (hs5.trans (.bump (by decide)))
  refine ⟨s2, s5.bump (thrChReg c.ch 0x138), _, info, hs2, fun hplain => (hmem hplain).trans State.storeAs_mem, hs2'.trans (hs3.trans hlast),
    fun hfailed => hlast.raised _ _ _ ?_, rfl⟩
  unfold s3
  rw [if_pos hfailed]
  exact State.raised_raiseErr

/-- What the end of a collective leaves: it has ended and is counted, its header is stored, and a failure is raised. -/
theorem State.endColl_facts (hf : s.flight id = some f) : (s.endColl f p).Ended f ∧ s.Counted (s.endColl f p) (thrReg 0x110) 1 ∧
    ((collF f.words).isVerdict = false ∨ (collF f.words).probe = false →
      (s.endColl f p).mem = (s.store (collF f.words).hdr (s.headerImage f p p.outcome)).mem) ∧
    (p.outcome ≠ 0 → (s.endColl f p).Raised .thrCh (collF f.words).ch 1) := by
  obtain ⟨v, u, kept, info, hstored, hmem, hreported, hraised, heq⟩ := State.endColl_eq (s := s) (f := f) (p := p)
  have hid : f.id = id := State.flight_id hf
  have hflight : u.flight f.id = some f := by rw [State.flight_congr (hreported.flights.trans hstored.flights), hid, hf]
  have hreg : u.reg (thrReg 0x110) = s.reg (thrReg 0x110) :=
    (hreported.reg _ (by rw [thrReg_mod]; decide)).trans (hstored.reg _ (by rw [thrReg_mod]; decide) (by rw [thrReg_mod]; decide))
  rw [heq]
  refine ⟨State.complete_ended hflight, ?_, fun hplain => (State.complete_mem ..).trans (hreported.mem.trans (hmem hplain)),
    fun hfailed => State.Raised.complete ((hraised hfailed).congr (State.reg_bumpBy_offset 1 (by rw [regAddr_mod, thrReg_mod]; decide)))⟩
  have hcount : s.Counted (u.bump (thrReg 0x110)) (thrReg 0x110) 1 := by
    rw [State.Counted, ← hreg]
    exact State.counted_bumpBy
  exact hcount.congr (State.reg_complete (by rw [thrReg_mod]; decide) (by rw [thrReg_mod]; decide) (by rw [thrReg_mod]; decide))

theorem State.collComplete_done (hf : s.flight id = some f) (hp : f.coll? = some p)
    (hfirst : ((s.chFlights p.ch).takeWhile (fun g => g.id != id)).isEmpty = true) (hphase : p.phase ≠ 0)
    (hdone : p.outcome ≠ 0 ∨ s.collDone f p = true) : s.collComplete id = s.endColl f p := by
  simp only [State.collComplete, hf, hp, hfirst, hphase, Bool.not_true, decide_false, Bool.or_self, Bool.false_eq_true, if_false]
  by_cases hout : p.outcome = 0
  · rw [if_neg (not_not.2 hout), if_pos (hdone.resolve_left (not_not.2 hout))]
  · rw [if_pos hout]

theorem State.repairExpiry_late (hf : s.flight id = some f) (hp : f.coll? = some p) (hx : p.held = some x) (hout : p.outcome = 0)
    (hpart : s.wholeResult f p = false) (hlate : s.repairLimit p.ch x ≤ s.now)
    (hfirst : ((s.chFlights p.ch).takeWhile (fun g => g.id != id)).isEmpty = true) :
    s.repairExpiry id = s.endColl f { p with outcome := 0x0616 } := by
  simp only [State.repairExpiry, hf, hp, hx, hout, hpart, hlate, hfirst, decide_true, Bool.not_false, Bool.and_self, if_true]

/-! ### THRESHER_CANCEL (R388) -/

/-- A withdrawal leaves every other descriptor in flight. -/
theorem State.flight_withdraw_ne (h : f.id ≠ id) : (s.withdraw f p).flight id = s.flight id := by
  unfold State.withdraw
  extract_lets c k s1
  have hs1 : s1.flight id = s.flight id := State.flight_setColl_ne h
  split
  · exact (State.flight_congr State.arbToken_only.flights id).trans hs1
  · exact hs1

theorem State.flight_cancelColl {i : Nat} (h : i ≠ id) : (s.cancelColl i).flight id = s.flight id := by
  unfold State.cancelColl
  split
  · rfl
  next f hf =>
    split
    · rfl
    · split
      · exact State.flight_complete_ne h
      · split
        · exact State.flight_withdraw_ne (State.flight_id hf ▸ h)
        · rfl

/-- A CANCEL that meets its launch condition deals with each match and holds their numbers. -/
theorem State.runThrCancel_matches (hf : s.flightOf id 6 5 = some f) (hprog : f.prog = .none) (hfired : f.fired = true)
    (hothers : ∀ g ∈ s.flights, thrMatches f.words g = true → g.id ≠ id) :
    ∃ t : State, t.flight id = some f ∧ s.runThrCancel id = t.setFlight
      { f with started := true, prog := .cancel ⟨1, (s.flights.filter (thrMatches f.words)).map (fun g => g.id)⟩ } := by
  obtain ⟨t, ht⟩ : ∃ t, t = ((s.flights.filter (thrMatches f.words)).map (fun g => g.id)).foldl State.cancelColl s := ⟨_, rfl⟩
  have hkept : t.flight id = some f := by
    rw [ht]
    refine List.foldlRecOn (motive := fun t : State => t.flight id = some f) _ _ (State.flight_of_flightOf hf) fun t hflight i hi => ?_
    obtain ⟨g, hg, rfl⟩ := List.mem_map.1 hi
    obtain ⟨hin, hmatch⟩ := List.mem_filter.1 hg
    exact (State.flight_cancelColl (hothers g hin hmatch)).trans hflight
  refine ⟨t, hkept, ?_⟩
  simp only [State.runThrCancel, hf, hprog, hfired, Bool.not_true, Bool.false_eq_true, if_false, ← ht, hkept]

theorem State.runThrCancel_done {p : CancelProg} (hf : s.flightOf id 6 5 = some f) (hprog : f.prog = .cancel p)
    (hgone : p.matched.all (fun i => (s.flight i).isNone) = true) : s.runThrCancel id = s.complete id 0 := by
  simp only [State.runThrCancel, hf, hprog, hgone, if_true]

/-! ### The obligation -/

/-- Settles O33: the channel that an enable leaves, the start, and for each way to end the state in which the collective has ended. -/
theorem collectivesStartAndEnd : Obligations.CollectivesStartAndEnd := by
  unfold Obligations.CollectivesStartAndEnd
  refine ⟨?_, ?_, ?_, ?_, ?_, ?_, ?_⟩
  · intro via c gate s hlen hlands hoff
    obtain ⟨u, arbs, hu, hthr, hflights, hwrite⟩ := State.writeBy_thrChEnable hlands (by cases gate <;> decide) (by cases gate <;> rfl)
      (by cases gate <;> rfl) hoff
    have hanswer {t : State} : SameTilth t (via.answer (thrChReg c.val 0x020) (1 + 4 * b2n gate) t) := .answer via
    refine Completes.intro (exec_thrChEnable.trans (congrArg _ hwrite)) ⟨?_, hanswer.mem.trans hu.mem, (Via.answer_thr via).2.trans hflights, ?_⟩
    · rw [State.enabled, hanswer.reg _ (by rw [regAddr_mod]; decide), ← thrChReg, State.reg_setReg_self]
      cases gate <;> rfl
    · rw [State.chan, (Via.answer_thr via).1]
      exact State.chan_setChan (s := { u with thr := { u.thr with arbs := arbs } }) (by rw [hthr, hlen]; exact c.isLt)
  · intro id s f p hf hp hphase hstarted hfired hend horder hahead hon bad
    have hturn : s.CollTurn id f p := ⟨hf, hp, hphase, hstarted, hfired, hend, horder, hahead, hon⟩
    by_cases hbad : s.ScaleUnfit f
    · obtain ⟨hcoll, hflight⟩ := State.collBegun_found
        (q := { p with phase := 1, start := s.now, eWin := s.collWin f (collF f.words), outcome := 0x0303 }) hf rfl rfl rfl
      refine Completes.intro (exec_collectiveStart.trans (congrArg _ (State.collStart_unfit hturn hbad)))
        ⟨hcoll, hflight, State.setColl_mem, fun _ => ⟨State.setColl_thr, ?_⟩, fun hfit => absurd hbad hfit, fun hfit => absurd hbad hfit⟩
      rw [State.collOf_of_flight (State.flight_collBegun hf)]
      rfl
    · refine Completes.intro (exec_collectiveStart.trans (congrArg _ (State.collStart_fit hturn hbad))) ?_
      by_cases harbiter : s.arbPos (collF f.words).ch = s.ownPos (collF f.words).ch
      · rw [if_pos harbiter]
        obtain ⟨honly, a, ha, hstart⟩ := State.arbStart_started (s := s.collBegun id f (s.tokenProg f p)) (c := (collF f.words).ch)
          (n := p.number) (k := s.tokenOf f) (deadline := s.startDeadline (collF f.words)) (root := (collF f.words).broadcastRoot)
        obtain ⟨hcoll, hflight⟩ := State.collBegun_found hf rfl rfl honly.flights
        refine ⟨hcoll, hflight, honly.mem.trans State.setColl_mem, fun h => absurd h hbad, fun _ h => absurd harbiter h, fun _ _ => ⟨?_, ?_⟩⟩
        · exact honly.sent.trans (congrArg ThrSt.sent State.setColl_thr)
        · rw [ha]
          exact hstart
      · rw [if_neg harbiter]
        obtain ⟨hcoll, hflight⟩ := State.collBegun_found (q := s.tokenProg f p) hf rfl rfl rfl
        refine ⟨hcoll, hflight, State.setColl_mem, fun h => absurd h hbad, fun _ _ => ⟨s.tokenOf f, rfl, rfl, rfl, ?_⟩,
          fun _ h => absurd h harbiter⟩
        exact congrArg (List.cons _) (congrArg ThrSt.sent State.setColl_thr)
  · intro id s f p hf hp hphase hout hheld hlate
    have hid : f.id = id := State.flight_id hf
    refine Completes.intro (exec_thrNoSeal.trans (congrArg _ (State.noSeal_late hf hp hphase hout hheld hlate))) ⟨?_, State.setColl_mem⟩
    rw [hid, State.collOf_setColl hf]
    rfl
  · intro id s f p hf hp hfirst hphase hdone
    exact Completes.intro (exec_collectiveComplete.trans (congrArg _ (State.collComplete_done hf hp hfirst hphase hdone))) (State.endColl_facts hf)
  · intro id s f p x hf hp hx hout hpart hlate hfirst
    obtain ⟨hended, hcount, -, hraised⟩ := State.endColl_facts (p := { p with outcome := 0x0616 }) hf
    exact Completes.intro (exec_repairLimitExpiry.trans (congrArg _ (State.repairExpiry_late hf hp hx hout hpart hlate hfirst)))
      ⟨hended, hcount, hraised (show 0x0616 ≠ 0 by decide)⟩
  · intro id s f hf hprog hfired hothers
    have hid : f.id = id := State.flight_id (State.flight_of_flightOf hf)
    obtain ⟨t, hthere, hrun⟩ := State.runThrCancel_matches hf hprog hfired hothers
    exact Completes.intro (exec_thresherCancel.trans (congrArg _ hrun)) (State.flight_any_setFlight hthere hid (decide_eq_true rfl))
  · intro id s f p hf hprog hgone
    exact Completes.intro (exec_thresherCancel.trans (congrArg _ (State.runThrCancel_done hf hprog hgone)))
      ⟨State.complete_ended (State.flight_of_flightOf hf), State.complete_mem ..⟩

end Sys2Proof.Machine
end

section
/-!
What the data phase of a collective leaves alone, on the way from one block to the next.
-/
namespace Sys2Proof.Machine

variable {s t u : State} {id c n dest num kind key b : Nat} {cf : CollF} {f : Flight} {p q : CollProg} {m : ThrMsg} {msg : BlockMsg}

/-! ### Sending blocks (R372, R397, R402) -/

/-- Blocks are only sent: the bytes, the descriptors in flight and the channels stand, every register but the count of bytes sent,
and what has been sent already. -/
structure SendOnly (s t : State) : Prop where
  mem : t.mem = s.mem
  flights : t.flights = s.flights
  chans : t.thr.chans = s.thr.chans
  sent : ∀ m ∈ s.thr.sent, m ∈ t.thr.sent
  reg : ∀ b, b % 0x1000 ≠ 0x118 → t.reg b = s.reg b

theorem SendOnly.refl (s : State) : SendOnly s s := ⟨rfl, rfl, rfl, fun _ => id, fun _ _ => rfl⟩

theorem SendOnly.trans (h : SendOnly s t) (h' : SendOnly t u) : SendOnly s u :=
  ⟨h'.mem.trans h.mem, h'.flights.trans h.flights, h'.chans.trans h.chans, fun m hm => h'.sent m (h.sent m hm),
    fun b hb => (h'.reg b hb).trans (h.reg b hb)⟩

theorem SendOnly.foldl {α : Type} {g : State → α → State} (l : List α) (hg : ∀ u x, SendOnly u (g u x)) : SendOnly s (l.foldl g s) :=
  foldl_inv (SendOnly s) g l (fun u x h => h.trans (hg u x)) (.refl s)

/-- This module's position is read from its channel and its module number. -/
theorem SendOnly.ownPos (h : SendOnly s t) (c : Nat) : t.ownPos c = s.ownPos c := by
  rw [State.ownPos, State.ownPos, State.chan, State.chan, h.chans, State.rf, State.rf, h.reg _ (by rw [thrReg_mod]; decide)]

theorem State.sendBlock_only : SendOnly s (s.sendBlock cf n dest msg) where
  mem := rfl
  flights := rfl
  chans := rfl
  sent _ hm := List.mem_cons_of_mem _ hm
  reg _ hb := State.reg_bumpBy_offset _ (by rwa [thrReg_mod])

theorem State.sendBlock_sent : (s.sendBlock cf n dest msg).thr.sent = .block cf.ch n dest msg :: s.thr.sent := rfl

/-- One key of a list of keys that are sent: its block goes out where the result is held. -/
def State.sendKey (cf : CollF) (number dest num kind : Nat) (results : List (Nat × List Nat)) (inc : Nat) (t : State) (k : Nat) : State :=
  match results.find? (fun r => r.1 == k) with
  | none => t
  | some r => t.sendBlock cf number dest ⟨t.ownPos cf.ch, num, keyTree cf inc k, k, kind, residueOf r.2, r.2, []⟩

theorem State.sendHeld_eq {results : List (Nat × List Nat)} {inc : Nat} {keys : List Nat} :
    s.sendHeld cf n dest num kind results inc keys = keys.foldl (State.sendKey cf n dest num kind results inc) s := rfl

theorem State.sendKey_only {results : List (Nat × List Nat)} {inc k : Nat} : SendOnly s (State.sendKey cf n dest num kind results inc s k) := by
  unfold State.sendKey
  split
  · exact .refl s
  · exact State.sendBlock_only

theorem State.sendHeld_only {results : List (Nat × List Nat)} {inc : Nat} {keys : List Nat} :
    SendOnly s (s.sendHeld cf n dest num kind results inc keys) :=
  .foldl keys fun _ _ => State.sendKey_only

/-- Of the keys that are sent, each that is held goes out. -/
theorem State.sendHeld_sent {results : List (Nat × List Nat)} {inc k : Nat} {codes : List Nat} {keys : List Nat} (hk : k ∈ keys)
    (hheld : results.find? (fun r => r.1 == k) = some (k, codes)) :
    ThrMsg.block cf.ch n dest ⟨s.ownPos cf.ch, num, keyTree cf inc k, k, kind, residueOf codes, codes, []⟩ ∈
      (s.sendHeld cf n dest num kind results inc keys).thr.sent := by
  rw [State.sendHeld_eq]
  induction keys generalizing s with
  | nil => cases hk
  | cons y keys ih =>
    rcases List.mem_cons.1 hk with rfl | hrest
    · refine (SendOnly.foldl keys fun _ _ => State.sendKey_only).sent _ ?_
      simp only [State.sendKey, hheld, State.sendBlock_sent, List.mem_cons, true_or]
    · rw [← State.sendKey_only.ownPos]
      exact ih hrest

/-! ### The module's own part (R368, R380, R387) -/

/-- The offsets of the registers that the data phase changes on the way: those of events raised, of bytes sent, of late tokens and of the
Granary's counts. -/
def dataOffsets : List Nat := [0x030, 0x118, 0x130, 0x140, 0x150, 0x158]

/-- A collective's progress moves on: its phase, the sums it has received and the keys it has accepted stand, and every register
but those. -/
structure DataStep (id : Nat) (s t : State) : Prop where
  prog : ∀ p, s.collOf id = some p → ∃ q, t.collOf id = some q ∧ q.phase = p.phase ∧ q.parts = p.parts ∧ q.keys = p.keys
  reg : ∀ b, b % 0x1000 ∉ dataOffsets → t.reg b = s.reg b

theorem DataStep.ofKept (hflights : t.flights = s.flights) (hreg : ∀ b, b % 0x1000 ∉ dataOffsets → t.reg b = s.reg b) : DataStep id s t :=
  ⟨fun p hp => ⟨p, (State.collOf_congr hflights id).trans hp, rfl, rfl, rfl⟩, hreg⟩

theorem DataStep.refl (id : Nat) (s : State) : DataStep id s s := .ofKept rfl fun _ _ => rfl

theorem DataStep.trans (h : DataStep id s t) (h' : DataStep id t u) : DataStep id s u where
  prog p hp := by
    obtain ⟨q, hq, hphase, hparts, hkeys⟩ := h.prog p hp
    obtain ⟨r, hr, hphase', hparts', hkeys'⟩ := h'.prog q hq
    exact ⟨r, hr, hphase'.trans hphase, hparts'.trans hparts, hkeys'.trans hkeys⟩
  reg b hb := (h'.reg b hb).trans (h.reg b hb)

theorem DataStep.foldl {α : Type} {g : State → α → State} (l : List α) (hg : ∀ u x, DataStep id u (g u x)) : DataStep id s (l.foldl g s) :=
  foldl_inv (DataStep id s) g l (fun u x h => h.trans (hg u x)) (.refl id s)

theorem DataStep.found {r : CollProg → Bool} (h : DataStep id s t) (hp : s.collOf id = some p)
    (hr : ∀ q : CollProg, q.phase = p.phase → q.parts = p.parts → q.keys = p.keys → r q = true) : (t.collOf id).any r = true := by
  obtain ⟨q, hq, hphase, hparts, hkeys⟩ := h.prog p hp
  rw [hq, Option.any_some, hr q hphase hparts hkeys]

theorem SendOnly.dataStep (h : SendOnly s t) : DataStep id s t :=
  .ofKept h.flights fun b hb => h.reg b fun h118 => hb (by rw [h118]; decide)

theorem ArbOnly.dataStep (h : ArbOnly s t) : DataStep id s t :=
  .ofKept h.flights fun b hb => h.reg b fun hin => hb (by
    simp only [dataOffsets, List.mem_cons, List.not_mem_nil, or_false] at hin ⊢
    tauto)

theorem State.storeAs_dataStep {cls a : Nat} {bs : List Byte} : DataStep id s (s.storeAs cls a bs) :=
  .ofKept State.storeAs_flights fun b hb =>
    (MoveOnly.refl s).store.writeHint.reg b (fun h130 => hb (by rw [h130]; decide)) fun h158 => hb (by rw [h158]; decide)

/-- Progress stored that keeps the phase, the sums and the keys. -/
theorem State.setColl_dataStep (hp : s.collOf id = some p) (hphase : q.phase = p.phase := by rfl) (hparts : q.parts = p.parts := by rfl)
    (hkeys : q.keys = p.keys := by rfl) : DataStep id s (s.setColl id q) where
  prog p' hp' := by
    obtain ⟨f, hf, -⟩ := Option.bind_eq_some_iff.1 hp
    obtain rfl : p = p' := Option.some.inj (hp.symm.trans hp')
    exact ⟨q, State.collOf_setColl hf, hphase, hparts, hkeys⟩
  reg b _ := State.reg_congr State.setColl_regs b

theorem State.withdraw_dataStep (hp : s.collOf f.id = some p) : DataStep f.id s (s.withdraw f p) := by
  have hset : DataStep f.id s (s.setColl f.id { p with withdrawn := true }) := State.setColl_dataStep hp
  unfold State.withdraw
  extract_lets c k s1
  split
  · exact hset.trans State.arbToken_only.dataStep
  · exact hset.trans (.ofKept rfl fun _ _ => rfl)

theorem State.sendKept_dataStep : DataStep id s (s.sendKept id cf n dest msg) := by
  have hkept : DataStep id s (match (s.flight id).bind Flight.coll? with
      | some p => s.setColl id { p with sent := p.sent ++ [(dest, msg)] }
      | none => s) := by
    split
    next p hp => exact State.setColl_dataStep hp
    next => exact .refl id s
  exact hkept.trans State.sendBlock_only.dataStep

theorem State.haveResult_dataStep {codes : List Nat} : DataStep id s (s.haveResult id key codes) := by
  unfold State.haveResult
  split
  · exact .refl id s
  next f hf =>
    split
    · exact .refl id s
    next p hp =>
      split
      · exact .refl id s
      · split
        · exact .refl id s
        · extract_lets cf all own s1 s2 tree dests msg s3
          have hcoll : s.collOf id = some p := (State.collOf_of_flight hf).trans hp
          have hs1 : DataStep id s s1 ∧ s1.flights = s.flights := by
            unfold s1
            split
            · exact ⟨State.storeAs_dataStep, State.storeAs_flights⟩
            · exact ⟨.refl id s, rfl⟩
          have hs2 : DataStep id s1 s2 := State.setColl_dataStep ((State.collOf_congr hs1.2 id).trans hcoll)
          have hs3 : DataStep id s2 s3 := .foldl dests fun _ _ => State.sendBlock_only.dataStep
          exact hs1.1.trans (hs2.trans (hs3.trans (.foldl _ fun _ _ => State.sendBlock_only.dataStep)))

theorem State.passBlock_dataStep : DataStep id s (s.passBlock id b) := by
  unfold State.passBlock
  split
  · exact .refl id s
  next f hf =>
    split
    · exact .refl id s
    next p hp =>
      have hcoll : s.collOf id = some p := (State.collOf_of_flight hf).trans hp
      split
      · exact .refl id s
      · extract_lets cf n own s1
        have hs1 : DataStep id s s1 := State.setColl_dataStep hcoll
        split
        · exact .refl id s
        · extract_lets
          split
          · exact .refl id s
          · split
            · obtain rfl : f.id = id := State.flight_id hf
              exact State.withdraw_dataStep hcoll
            · split
              · exact hs1.trans State.sendKept_dataStep
              · exact hs1.trans State.haveResult_dataStep

end Sys2Proof.Machine
end

section
/-!
The data phase of collectives (O35).
-/
namespace Sys2Proof.Machine

variable {s t u : State} {id op c n r tree child other off len kind key a i b : Nat} {f : Flight} {p q : CollProg} {x : SealRec} {msg : BlockMsg}

theorem exec_sealReceived {c : Fin 32} : exec (.sealReceived c n x) s = .next (s.sealReceived c.val n x) := rfl
theorem exec_allReduce : exec (.allReduce id) s = .next (s.runReduction id 1) := rfl
theorem exec_reduceScatter : exec (.reduceScatter id) s = .next (s.runReduction id 2) := rfl
theorem exec_thrReduce : exec (.thrReduce id) s = .next (s.runReduction id 3) := rfl
theorem exec_verdict {l : List (Nat × Int)} : exec (.verdict id l) s = .next (s.runVerdict id l) := rfl
theorem exec_broadcast : exec (.broadcast id) s = .next (s.runDelivery id 0x10) := rfl
theorem exec_allGather : exec (.allGather id) s = .next (s.runDelivery id 0x11) := rfl
theorem exec_allToAll : exec (.allToAll id) s = .next (s.runDelivery id 0x12) := rfl
theorem exec_blockReceived {c : Fin 32} : exec (.blockReceived c n msg) s = .next ((s.blockReceived c.val n msg).noteCapacity s) := rfl
theorem exec_segmentAck {c : Fin 32} {m : Nat} : exec (.segmentAck c n tree child m) s = .next (s.segmentAck c.val n tree child m) := rfl
theorem exec_childDetach {c : Fin 32} {l : List Nat} : exec (.childDetach c n tree child l) s = .next (s.childDetach c.val n tree child l) := rfl
theorem exec_repairRequest {c : Fin 32} {ask : RepairAsk} : exec (.repairRequest c n tree other ask) s =
    .next (s.repairRequest c.val n tree other ask) := rfl

/-! ### SEAL_RECEIVED (R378) -/

/-- A collective that acts on a seal: its data phase is to be begun anew. -/
def CollProg.sealedBy (p : CollProg) (x : SealRec) : CollProg :=
  { p with held := some x, phase := 2, parts := [], passed := [], results := [], keys := [], retries := [], kids := [], detachedTrees := [],
           repaired := false, sent := [], asks := [], outcome := x.outcome }

theorem State.sealReceived_new (hf : s.collFlight c n = some f) (hp : f.coll? = some p) (hphase : p.phase ≠ 0) (hout : p.outcome = 0)
    (hnew : p.held.any (fun l => decide (x.num ≤ l.num)) = false) :
    ∃ u : State, u.flights = s.flights ∧ s.sealReceived c n x = u.setColl f.id (p.sealedBy x) := by
  have hgo : (decide (p.phase = 0) || decide (p.outcome ≠ 0) || p.held.any (fun l => decide (x.num ≤ l.num))) = false := by
    simp [hphase, hout, hnew]
  have hkept : (if 0 < x.num then (s.bump (thrChReg c 0x158)).raise .thrCh c 3 0 f.work else s).flights = s.flights := by
    split
    · exact State.raise_flights ..
    · rfl
  refine ⟨_, hkept, ?_⟩
  simp only [State.sealReceived, hf, hp, hgo, Bool.false_eq_true, if_false]
  by_cases hfails : x.outcome = 0
  · rw [if_neg (not_not.2 hfails), CollProg.sealedBy, hfails, ← hout]
  · rw [if_pos hfails]
    rfl

/-! ### The turn of a collective (R363, R373) -/

/-- A sealed collective of an opcode whose turn it is to begin its data phase. -/
structure State.Enters (s : State) (id op : Nat) (f : Flight) (p : CollProg) (x : SealRec) : Prop where
  flight : s.flightOf id 6 op = some f
  coll : f.coll? = some p
  held : p.held = some x
  turn : s.dataTurn f p = true

theorem State.Enters.there (h : s.Enters id op f p x) : s.flight id = some f := State.flight_of_flightOf h.flight

theorem State.Enters.op_eq (h : s.Enters id op f p x) : (collF f.words).op = op := (State.flightOf_eq_some.1 h.flight).2.2

/-- A collective is found in its data phase after whatever its part does from there. -/
theorem DataStep.inData (h : DataStep id u t) (hq : u.collOf id = some q) (hphase : q.phase = 3) :
    (t.collOf id).any (fun q => q.phase == 3) = true :=
  h.found hq fun q' hphase' _ _ => by rw [hphase', hphase]; rfl

/-! ### ALLREDUCE, REDUCE_SCATTER, REDUCE (R365, R368) -/

/-- The state in which a collective's entry conversion has been reported, once (R220, R375). -/
def State.entryReported (s : State) (f : Flight) (p : CollProg) : State :=
  if p.reported then s
  else (s.report s.reporter (hTag f.hdr) f.step f.inPrePass (s.entryTally f (collF f.words) p.eWin)).bumpBy (thrReg 0x138)
    ((collF f.words).count * (collF f.words).srcCount)

theorem State.entryReported_flights : (s.entryReported f p).flights = s.flights := by
  unfold State.entryReported
  split
  · rfl
  · exact (AreaWork.refl s).report.flights

theorem State.runReduction_excluded (h : s.Enters id op f p x) (hin : x.included.contains (s.ownPos (collF f.words).ch) = false) :
    s.runReduction id op = s.setColl id { p with phase := 3 } := by
  simp only [State.runReduction, h.flight, h.coll, h.held, h.turn, hin, Bool.not_true, Bool.not_false, Bool.false_eq_true, if_false, if_true]

/-- An included member with clean sources reports its entry conversion, and passes on what waits for no other sum. -/
theorem State.runReduction_included (h : s.Enters id op f p x) (hin : x.included.contains (s.ownPos (collF f.words).ch) = true)
    (hclean : (((collF f.words).src, 16 * (collF f.words).srcCount) :: s.collIns (collF f.words)).any (fun r => s.poisonedIn r.1 r.2) = false) :
    s.runReduction id op = (List.range (collF f.words).blocks).foldl (fun t b => t.passBlock id b) ((s.entryReported f p).setColl id
      { p with phase := 3, reported := true, kids := (s.entryReported f p).collKids (collF f.words) x.included }) := by
  simp only [State.runReduction, h.flight, h.coll, h.held, h.turn, hin, hclean, Bool.not_true, Bool.false_eq_true, if_false]
  rfl

/-- A member that a seal includes and whose sources are clean, or that it excludes, is in its data phase. -/
theorem State.runReduction_inData (h : s.Enters id op f p x) (hclean : x.included.contains (s.ownPos (collF f.words).ch) = true →
      (((collF f.words).src, 16 * (collF f.words).srcCount) :: s.collIns (collF f.words)).any (fun r => s.poisonedIn r.1 r.2) = false) :
    ((s.runReduction id op).collOf id).any (fun q => q.phase == 3) = true := by
  cases hin : x.included.contains (s.ownPos (collF f.words).ch) with
  | false =>
    rw [State.runReduction_excluded h hin, State.collOf_setColl h.there]
    rfl
  | true =>
    rw [State.runReduction_included h hin (hclean hin)]
    exact (DataStep.foldl _ fun _ _ => State.passBlock_dataStep).inData
      (State.collOf_setColl ((State.flight_congr State.entryReported_flights id).trans h.there)) rfl

/-! ### VERDICT (R385) -/

/-- A member that the seal excludes combines what the others report, here of one of them. -/
theorem State.runVerdict_excluded {tag : Nat} {e : Int} (hf : s.flight id = some f) (hp : f.coll? = some p) (hx : p.held = some x)
    (hverdict : (collF f.words).isVerdict = true) (hphase : p.phase = 3) (hopen : p.maxima = none) (hout : p.outcome = 0)
    (hexcluded : x.included.contains (s.ownPos (collF f.words).ch) = false) :
    s.runVerdict id [(tag, e)] = s.setColl id { p with maxima := some [(tag, e)] } := by
  have hbegun : s.dataTurn f p = false := by simp [State.dataTurn, hphase]
  have hother : s.ownPos (collF f.words).ch ∉ x.included := by simpa using hexcluded
  simp [State.runVerdict, hf, hp, hx, hverdict, hphase, hopen, hout, hother, hbegun, setInsert, maxExpOf]

/-! ### BROADCAST, ALLGATHER, ALLTOALL (R393, R394, R396) -/

/-- The parts that no member brings: a broadcast has one part, its root's. -/
def State.absentParts (s : State) (cf : CollF) (inc : List Nat) : List Nat :=
  if cf.op = 0x10 then [] else (List.range (s.chan cf.ch).n).filter (fun r => !inc.contains r)

/-- The part of a position written as zero. -/
def CollF.zeroPart (cf : CollF) (t : State) (r : Nat) : State := t.storeAs 2 (cf.dst + r * cf.part) (List.replicate cf.part 0)

/-- A module that the seal excludes writes the absent parts as zero and has no children. -/
theorem State.runDelivery_excluded (h : s.Enters id op f p x) (hexcluded : x.included.contains (s.ownPos (collF f.words).ch) = false) :
    s.runDelivery id op =
      (s.absentParts (collF f.words) x.included).foldl (collF f.words).zeroPart (s.setColl id { p with phase := 3, kids := [] }) := by
  simp only [State.runDelivery, h.flight, h.coll, h.held, h.turn, hexcluded, Bool.not_true, Bool.not_false, Bool.false_and, Bool.false_eq_true,
    if_false, if_true, State.absentParts]
  rfl

theorem CollF.zeroPart_dataStep {cf : CollF} : DataStep id s (cf.zeroPart s r) := State.storeAs_dataStep

/-- A member with clean sources, or one that the seal excludes, is in its data phase. -/
theorem State.runDelivery_inData (h : s.Enters id op f p x) (hclean : x.included.contains (s.ownPos (collF f.words).ch) = true →
      (s.collIns (collF f.words)).any (fun r => s.poisonedIn r.1 r.2) = false) :
    ((s.runDelivery id op).collOf id).any (fun q => q.phase == 3) = true := by
  have hthere := h.there
  cases hin : x.included.contains (s.ownPos (collF f.words).ch) with
  | false =>
    rw [State.runDelivery_excluded h hin]
    exact (DataStep.foldl _ fun _ _ => CollF.zeroPart_dataStep).inData (State.collOf_setColl hthere) rfl
  | true =>
    have hsent (u : State) (l : List Kid) : DataStep id u (u.forwardHeld (collF f.words) x.included x.num p.number l p.results) :=
      .foldl _ fun _ _ => State.sendHeld_only.dataStep
    have hzeros (u : State) (l : List Nat) : DataStep id u (l.foldl (collF f.words).zeroPart u) := .foldl _ fun _ _ => CollF.zeroPart_dataStep
    have hown (u : State) (key : Nat → Nat) (codes : Nat → List Nat) (l : List Nat) :
        DataStep id u (l.foldl (fun t b => t.haveResult id (key b) (codes b)) u) := .foldl _ fun _ _ => State.haveResult_dataStep
    have hparts (u : State) (msg : Nat → Nat → BlockMsg) (l l' : List Nat) : DataStep id u
        (l.foldl (fun t q => l'.foldl (fun u b => u.sendKept id (collF f.words) p.number q (msg q b)) t) u) :=
      .foldl _ fun _ _ => .foldl _ fun _ _ => State.sendKept_dataStep
    have hstep : DataStep id (s.setColl id { p with held := some x, phase := 3, kids := s.collKids (collF f.words) x.included })
        (s.runDelivery id op) := by
      simp only [State.runDelivery, h.flight, h.coll, h.held, h.turn, hin, hclean hin, Bool.not_true, Bool.true_and, Bool.and_false,
        Bool.false_eq_true, if_false, if_true]
      split
      · exact (hsent _ _).trans (hzeros _ _)
      · split
        · exact ((hsent _ _).trans (hzeros _ _)).trans ((hown _ _ _ _).trans (hparts _ _ _ _))
        · exact ((hsent _ _).trans (hzeros _ _)).trans (hown _ _ _ _)
    exact hstep.inData (State.collOf_setColl hthere) rfl

/-! ### Parts written as zero (R396) -/

theorem getD_zero_of_forall {bs : List Byte} (hz : ∀ y ∈ bs, y = 0) (i : Nat) : bs.getD i 0 = 0 := by
  rw [List.getD_eq_getElem?_getD]
  cases hget : bs[i]? with
  | none => rfl
  | some y => exact hz y (List.mem_of_getElem? hget)

/-- Zeros put anywhere leave a byte that is 0. -/
theorem memGet_memPutAll_zero {m : List Host.Cell} {bs : List Byte} (hok : Memory.wf m = true) (hb : memGet m b = 0) (hz : ∀ y ∈ bs, y = 0) :
    memGet (memPutAll m a bs) b = 0 := by
  rw [memGet_memPutAll hok]
  split
  · exact getD_zero_of_forall hz _
  · exact hb

theorem State.byte_storeSector_zero {bs : List Byte} (hok : s.MemOk) (hb : s.byte b = 0) (hz : ∀ y ∈ bs, y = 0) :
    (s.storeSector a bs).byte b = 0 := by
  have hput : ((s.putBytes a bs).clearPoison a bs.length).byte b = 0 := memGet_memPutAll_zero hok hb hz
  unfold State.storeSector
  split
  · dsimp only []
    split
    · exact hb
    · exact hput
  · exact hput

/-- A store of zeros leaves a byte that is 0, whichever of the bytes a failed stack drops. -/
theorem State.byte_store_zero {bs : List Byte} (hok : s.MemOk) (hb : s.byte b = 0) (hz : ∀ y ∈ bs, y = 0) : (s.store a bs).byte b = 0 := by
  unfold State.store
  split
  · refine (foldl_inv (fun t : State => t.MemOk ∧ t.byte b = 0) _ _ (fun t y ht => ?_) ⟨hok, hb⟩).2
    obtain ⟨hok', hb'⟩ := ht
    exact ⟨State.memOk_storeSector hok' _ _,
      State.byte_storeSector_zero hok' hb' fun z hpart => hz z (List.mem_of_mem_drop (List.mem_of_mem_take hpart))⟩
  · exact memGet_memPutAll_zero hok hb hz

theorem CollF.zeroPart_memOk {cf : CollF} (hok : s.MemOk) : (cf.zeroPart s r).MemOk :=
  State.memOk_of_mem (State.memOk_store hok _ _) State.storeAs_mem

/-- Each of the parts that are written as zero reads as zero, as far as no failed stack holds it. -/
theorem State.byte_zeroParts {cf : CollF} {l : List Nat} (hok : s.MemOk) (hr : r ∈ l) (hi : i < cf.part)
    (hlive : ∀ i, i < cf.part → s.deadAt (cf.dst + r * cf.part + i) = false) :
    (l.foldl cf.zeroPart s).byte (cf.dst + r * cf.part + i) = 0 := by
  have hzeros : ∀ y ∈ List.replicate cf.part (0 : Byte), y = 0 := fun y hy => List.eq_of_mem_replicate hy
  induction l generalizing s with
  | nil => cases hr
  | cons y l ih =>
    rcases List.mem_cons.1 hr with rfl | hrest
    · refine (foldl_inv (fun t : State => t.MemOk ∧ t.byte (cf.dst + r * cf.part + i) = 0) cf.zeroPart l (fun t y ht => ?_)
        ⟨CollF.zeroPart_memOk hok, ?_⟩).2
      · refine ⟨CollF.zeroPart_memOk ht.1, ?_⟩
        rw [CollF.zeroPart, State.byte_congr State.storeAs_mem]
        exact State.byte_store_zero ht.1 ht.2 hzeros
      · rw [CollF.zeroPart, State.byte_congr State.storeAs_mem, State.byte, State.mem_store (by simpa using hlive),
          memGet_memPutAll hok, if_pos (by simpa using hi)]
        exact getD_zero_of_forall hzeros _
    · have hstacks : (cf.zeroPart s y).stackList = s.stackList := (MoveOnly.refl s).store.writeHint.stackList
      exact ih (CollF.zeroPart_memOk hok) hrest fun j hj => (State.deadAt_congr hstacks _).trans (hlive j hj)

/-! ### BLOCK_RECEIVED (R372, R373) -/

/-- A sum of a block that a sealed reduction of this module waits for. -/
structure State.TakesSum (s : State) (c n : Nat) (msg : BlockMsg) (f : Flight) (p : CollProg) (x : SealRec) : Prop where
  flight : s.collFlight c n = some f
  coll : f.coll? = some p
  held : p.held = some x
  going : p.outcome = 0
  sealed : msg.sealNo = x.num
  sum : msg.kind = 0
  new : p.keys.contains (msg.sender, msg.tree, msg.block, 0) = false
  reduces : (collF f.words).delivery = false
  block : msg.block < (collF f.words).blocks
  whole : msg.elems.length = 64

/-- A collective with a sum accepted, by its key. -/
def CollProg.taken (p : CollProg) (msg : BlockMsg) : CollProg :=
  { p with keys := (msg.sender, msg.tree, msg.block, 0) :: p.keys, parts := (msg.block, msg.sender, msg.elems) :: p.parts }

/-- A sum whose residue agrees, with no adder lane at fault, is added to those held, and its block goes on where it can. -/
theorem State.blockReceived_sum (h : s.TakesSum c n msg f p x) (hresidue : residueOf msg.elems = msg.residue) (hfaults : msg.faults = [])
    (hlanes : s.thr.lanes ≠ 0xFF) : s.blockReceived c n msg =
      ((s.bumpBy (thrReg 0x120) (64 * (wireFmt (collF f.words).wire).bytes)).setColl f.id (p.taken msg)).passBlock f.id msg.block := by
  obtain ⟨hflight, hcoll, hheld, hgoing, hsealed, hsum, hnew, hreduces, hblock, hwhole⟩ := h
  have hlane : ((s.bumpBy (thrReg 0x120) (64 * (wireFmt (collF f.words).wire).bytes)).thr.lanes != 0xFF) = true := bne_iff_ne.2 hlanes
  simp only [State.blockReceived, hflight, hcoll, hheld, hgoing, hsealed, hsum, hnew, hreduces, hblock, hwhole, hresidue, hfaults, hlane,
    State.failLanes, CollProg.taken, Nat.min_zero, ne_eq, not_true_eq_false, decide_false, decide_true, Bool.not_false, Bool.not_true,
    beq_self_eq_true, Bool.and_self, Bool.or_self, Bool.false_eq_true, if_true, if_false, Nat.reduceBEq, Bool.false_and, Bool.or_false]

/-- A sum whose residue differs is asked for again, and counted. -/
theorem State.blockReceived_retry (h : s.TakesSum c n msg f p x) (hresidue : residueOf msg.elems ≠ msg.residue) (hfirst : p.retries = []) :
    s.blockReceived c n msg = (((s.bumpBy (thrReg 0x120) (64 * (wireFmt (collF f.words).wire).bytes)).setColl f.id
      { p with retries := [(msg.sender, msg.tree, msg.block, 1)] }).bump (thrReg 0x128)).thrSend
        (.retry p.ch p.number msg.sender msg.tree msg.block 0) := by
  obtain ⟨hflight, hcoll, hheld, hgoing, hsealed, hsum, hnew, hreduces, hblock, hwhole⟩ := h
  simp only [State.blockReceived, State.badBlock, hflight, hcoll, hheld, hgoing, hsealed, hsum, hnew, hreduces, hblock, hwhole, hresidue, hfirst,
    Nat.min_zero, ne_eq, not_true_eq_false, not_false_eq_true, decide_false, decide_true, Bool.not_false, Bool.not_true,
    beq_self_eq_true, Bool.and_self, Bool.or_self, Bool.false_eq_true, if_true, if_false, List.find?_nil, Option.map_none,
    Option.getD_none, List.filter_nil, Nat.zero_lt_succ, Nat.zero_add]

/-! ### SEGMENT_ACK and CHILD_DETACH (R400, R401) -/

/-- A child whose lag is found anew is the same child, as far acknowledged and as much attached. -/
theorem mem_noteLag {window now : Nat} {kids : List Kid} {k : Kid} (h : k ∈ kids) :
    ∃ k' ∈ noteLag window now kids, k'.tree = k.tree ∧ k'.pos = k.pos ∧ k'.acked = k.acked ∧ k'.detached = k.detached := by
  refine ⟨_, List.mem_map_of_mem h, ?_⟩
  dsimp only []
  split
  · exact ⟨rfl, rfl, rfl, rfl⟩
  · exact ⟨rfl, rfl, rfl, rfl⟩

/-- A child with the bytes that one child of a tree acknowledges. -/
def Kid.ackedTo (tree child bytes : Nat) (k : Kid) : Kid := if k.tree == tree && k.pos == child then { k with acked := max k.acked bytes } else k

theorem State.segmentAck_eq {bytes : Nat} (hf : s.collFlight c n = some f) (hp : f.coll? = some p) : s.segmentAck c n tree child bytes =
    s.setColl f.id { p with kids := noteLag (collF f.words).window s.now (p.kids.map (Kid.ackedTo tree child bytes)) } := by
  simp only [State.segmentAck, hf, hp]
  rfl

/-- Every child of that tree and position is now acknowledged so far. -/
theorem noteLag_acked {window now bytes : Nat} {kids : List Kid} : kids.all (fun k => !(k.tree == tree && k.pos == child) ||
    (noteLag window now (kids.map (Kid.ackedTo tree child bytes))).any
      (fun r => r.tree == tree && r.pos == child && r.acked == max k.acked bytes)) = true := by
  refine List.all_eq_true.2 fun k hk => ?_
  cases hthat : (k.tree == tree && k.pos == child) with
  | false => rfl
  | true =>
    obtain ⟨k', hk', htree, hpos, hacked, -⟩ := mem_noteLag (window := window) (now := now)
      (List.mem_map_of_mem (f := Kid.ackedTo tree child bytes) hk)
    have hmoved : Kid.ackedTo tree child bytes k = { k with acked := max k.acked bytes } := if_pos hthat
    rw [hmoved] at htree hpos hacked
    refine List.any_eq_true.2 ⟨k', hk', ?_⟩
    rw [htree, hpos, hacked, hthat, beq_self_eq_true, Bool.and_self]

/-- A child that one child of a tree is, detached. -/
def Kid.detachedAt (tree child : Nat) (k : Kid) : Kid := if k.tree == tree && k.pos == child then { k with detached := true, lagSince := none } else k

/-- A child that lags too long is detached, its children are adopted, and what they miss is sent to them. -/
theorem State.childDetach_late {t0 : Nat} {offs : List Nat} {k : Kid} (hf : s.collFlight c n = some f) (hp : f.coll? = some p) (hx : p.held = some x)
    (hkid : p.kids.find? (fun k => k.tree == tree && k.pos == child && !k.detached) = some k) (hlag : k.lagSince = some t0)
    (hlate : t0 + (collF f.words).straggleUnits < s.now) : ∃ adopted, SendOnly
      (s.setColl f.id { p with kids := noteLag (collF f.words).window s.now (p.kids.map (Kid.detachedAt tree child) ++ adopted) })
      (s.childDetach c n tree child offs) := by
  have hgo : k.lagSince.any (fun t => decide (t + (collF f.words).straggleUnits < s.now)) = true := by
    rw [hlag, Option.any_some, decide_eq_true hlate]
  simp only [State.childDetach, hf, hp, Option.bind_some, hx, hkid, hgo, Bool.not_true, Bool.false_eq_true, if_false]
  exact ⟨_, .foldl _ fun _ _ => State.sendHeld_only⟩

theorem noteLag_detached {window now : Nat} {kids adopted : List Kid} {k : Kid}
    (hkid : kids.find? (fun k => k.tree == tree && k.pos == child && !k.detached) = some k) :
    (noteLag window now (kids.map (Kid.detachedAt tree child) ++ adopted)).any
      (fun r => r.tree == tree && r.pos == child && r.detached) = true := by
  have hthat : (k.tree == tree && k.pos == child) = true := by
    have hfound := List.find?_some hkid
    rw [Bool.and_eq_true] at hfound
    exact hfound.1
  have hmoved : Kid.detachedAt tree child k = { k with detached := true, lagSince := none } := if_pos hthat
  obtain ⟨k', hk', htree, hpos, -, hdetached⟩ := mem_noteLag (window := window) (now := now)
    (List.mem_append_left adopted (List.mem_map_of_mem (f := Kid.detachedAt tree child) (List.mem_of_find?_eq_some hkid)))
  rw [hmoved] at htree hpos hdetached
  refine List.any_eq_true.2 ⟨k', hk', ?_⟩
  rw [htree, hpos, hthat, hdetached, Bool.and_self]

/-! ### REPAIR_REQUEST (R402, R403, R405) -/

theorem State.repairFetch_missing (hf : s.collFlight c n = some f) (hp : f.coll? = some p) (hx : p.held = some x) (hphase : p.phase = 3)
    (hout : p.outcome = 0) (hpart : s.wholeResult f p = false) : ∃ got, s.repairFetch c n tree other =
      (s.setColl f.id (p.detach (collF f.words) [tree])).thrSend (.repair c n other tree got 0x100000) := by
  simp only [State.repairFetch, hf, hp, Option.bind_some, hx, hphase, hout, hpart, ne_eq, not_true_eq_false, decide_false, Bool.or_self,
    Bool.false_eq_true, if_false]
  exact ⟨_, rfl⟩

/-- A module that relays is detached in the trees named. -/
theorem CollProg.detach_tree {cf : CollF} (hrelays : cf.unicast = false) : (p.detach cf [tree]).detachedTrees.contains tree = true := by
  rw [CollProg.detach, hrelays, if_neg Bool.false_ne_true]
  exact List.contains_iff_mem.2 (mem_setInsert_self _ _)

/-- The result blocks of a collective that are here for a position: of an ALLTOALL, what has been sent there (R402). -/
def heldFor (cf : CollF) (other : Nat) (results : List (Nat × List Nat)) (sent : List (Nat × BlockMsg)) : List (Nat × List Nat) :=
  if cf.op = 0x12 then (sent.filter (fun e => e.1 == other)).map (fun e => (e.2.block, e.2.elems)) else results

/-- The keys of a range of a tree that a position asks for. -/
def State.askedKeys (s : State) (c : Nat) (cf : CollF) (x : SealRec) (tree other off len : Nat) : List Nat :=
  let rest := keysAfter cf off ((wantKeys cf (s.chan c).n x.included other).filter (fun k => keyTree cf x.included.length k == tree))
  rest.take (rest.length - (keysAfter cf len rest).length)

/-- What is asked for and is here is sent; the rest is noted. -/
theorem State.repairServe_eq {words : List Word512} {results : List (Nat × List Nat)} {sent : List (Nat × BlockMsg)}
    (hkept : s.collKept c n = some (words, x, results, sent)) : ∃ u : State, u.mem = s.mem ∧ u.thr = s.thr ∧ u.regs = s.regs ∧
      s.repairServe c n tree other off len = u.sendHeld (collF words) n other x.num 2 (heldFor (collF words) other results sent) x.included.length
        (s.askedKeys c (collF words) x tree other off len) := by
  simp only [State.repairServe, hkept]
  refine ⟨_, ?_, ?_, ?_, rfl⟩
  · split
    · split
      · exact State.setColl_mem
      · rfl
    · rfl
  · split
    · split
      · exact State.setColl_thr
      · rfl
    · rfl
  · split
    · split
      · exact State.setColl_regs
      · rfl
    · rfl

theorem State.ownPos_congr (hthr : t.thr = s.thr) (hregs : t.regs = s.regs) (c : Nat) : t.ownPos c = s.ownPos c := by
  simp only [State.ownPos, State.chan, State.rf, State.reg, hthr, hregs]

theorem State.blockAgain_sent {words : List Word512} {results : List (Nat × List Nat)} {sent : List (Nat × BlockMsg)} {e : Nat × BlockMsg}
    (hkept : s.collKept c n = some (words, x, results, sent))
    (hsent : sent.find? (fun e => e.1 == other && e.2.tree == tree && e.2.block == b && e.2.kind == kind) = some e) :
    s.blockAgain c n tree other b kind = s.sendBlock (collF words) n other e.2 := by
  simp only [State.blockAgain, hkept, hsent]

/-! ### The obligation -/

/-- Settles O35: each command by the state it answers, in which the collective, its children, its blocks and what is sent are read off. -/
theorem collectivesExchange : Obligations.CollectivesExchange := by
  unfold Obligations.CollectivesExchange
  refine ⟨?_, ?_, ?_, ?_, ?_, ?_, ?_, ?_, ?_, ?_, ?_, ?_, ?_, ?_, ?_⟩
  · intro c n x s f p hf hp hphase hout hnew
    obtain ⟨u, hflights, heq⟩ := State.sealReceived_new hf hp hphase hout hnew
    obtain ⟨g, hg⟩ := State.flight_of_collFlight hf
    refine Completes.intro exec_sealReceived ⟨?_, State.sealReceived_kept.1⟩
    rw [heq, State.collOf_setColl ((State.flight_congr hflights f.id).trans hg), Option.any_some]
    simp [CollProg.sealedBy]
  · intro id s f p x hf hp hx hturn hclean
    exact Completes.intro exec_allReduce (State.runReduction_inData ⟨hf, hp, hx, hturn⟩ hclean)
  · intro id s f p x hf hp hx hturn hclean
    exact Completes.intro exec_reduceScatter (State.runReduction_inData ⟨hf, hp, hx, hturn⟩ hclean)
  · intro id s f p x hf hp hx hturn hclean
    exact Completes.intro exec_thrReduce (State.runReduction_inData ⟨hf, hp, hx, hturn⟩ hclean)
  · intro id tag e s f p x hf hp hx hverdict hphase hopen hout hexcluded
    refine Completes.intro (exec_verdict.trans (congrArg _ (State.runVerdict_excluded hf hp hx hverdict hphase hopen hout hexcluded)))
      ⟨?_, State.setColl_mem⟩
    rw [State.collOf_setColl hf, Option.map_some]
  · intro id s f p x hf hp hx hturn hexcluded
    have henters : s.Enters id 0x10 f p x := ⟨hf, hp, hx, hturn⟩
    have hone : s.absentParts (collF f.words) x.included = [] := if_pos henters.op_eq
    refine Completes.intro (exec_broadcast.trans (congrArg _ (State.runDelivery_excluded henters hexcluded))) ?_
    rw [hone, List.foldl_nil, State.collOf_setColl henters.there]
    exact ⟨rfl, State.setColl_mem⟩
  · intro id r s f p x hok hf hp hx hturn hexcluded hr habsent hlive
    have henters : s.Enters id 0x11 f p x := ⟨hf, hp, hx, hturn⟩
    have hclean (hin : x.included.contains (s.ownPos (collF f.words).ch) = true) :
        (s.collIns (collF f.words)).any (fun r => s.poisonedIn r.1 r.2) = false :=
      absurd (hexcluded.symm.trans hin) Bool.false_ne_true
    have hpart : r ∈ s.absentParts (collF f.words) x.included := by
      rw [State.absentParts, henters.op_eq, if_neg (by decide), List.mem_filter, List.mem_range, habsent]
      exact ⟨hr, rfl⟩
    refine Completes.intro exec_allGather ⟨State.runDelivery_inData henters hclean, fun i hi => ?_⟩
    rw [State.runDelivery_excluded henters hexcluded]
    exact State.byte_zeroParts (State.memOk_of_mem hok State.setColl_mem) hpart hi fun j hj =>
      (State.deadAt_congr State.setColl_stackList _).trans (hlive j hj)
  · intro id s f p x hf hp hx hturn hclean
    exact Completes.intro exec_allToAll (State.runDelivery_inData ⟨hf, hp, hx, hturn⟩ hclean)
  · intro c n msg s f p x hf hp hx hout hsealed hkind hnew hreduces hblock hwhole hresidue hfaults hlanes
    have hsum : s.TakesSum c.val n msg f p x := ⟨hf, hp, hx, hout, hsealed, hkind, hnew, hreduces, hblock, hwhole⟩
    obtain ⟨g, hg⟩ := State.flight_of_collFlight hf
    obtain ⟨u, hu⟩ : ∃ u, u = (s.bumpBy (thrReg 0x120) (64 * (wireFmt (collF f.words).wire).bytes)).setColl f.id (p.taken msg) := ⟨_, rfl⟩
    have hcoll : u.collOf f.id = some (p.taken msg) := hu ▸ State.collOf_setColl (s := s.bumpBy _ _) hg
    have hcount : s.Counted u (thrReg 0x120) (64 * (wireFmt (collF f.words).wire).bytes) :=
      State.counted_bumpBy.congr (hu ▸ State.reg_congr State.setColl_regs _)
    have hstep : DataStep f.id u (s.blockReceived c.val n msg) := by
      rw [State.blockReceived_sum hsum hresidue hfaults hlanes, ← hu]
      exact State.passBlock_dataStep
    refine Completes.intro exec_blockReceived ⟨?_, ?_⟩
    · rw [State.collOf_congr (State.noteCapacity_flights ..)]
      exact hstep.found hcoll fun q _ hparts hkeys => by simp [hparts, hkeys, CollProg.taken]
    · exact (FailureKept.refl _).noteCapacity.counted (hcount.congr (hstep.reg _ (by rw [thrReg_mod]; decide))) (by rw [thrReg_mod]; decide)
  · intro c n msg s f p x hf hp hx hout hsealed hkind hnew hfirst hreduces hblock hwhole hresidue
    have hsum : s.TakesSum c.val n msg f p x := ⟨hf, hp, hx, hout, hsealed, hkind, hnew, hreduces, hblock, hwhole⟩
    have heq := State.blockReceived_retry hsum hresidue hfirst
    refine Completes.intro exec_blockReceived ⟨?_, ?_, ?_⟩
    · rw [State.noteCapacity_thr, heq, State.thrSend_sent, State.bump_thr, State.setColl_thr, State.bumpBy_thr]
    · refine (FailureKept.refl _).noteCapacity.counted ?_ (by rw [thrReg_mod]; decide)
      have hreg (p' : CollProg) : ((s.bumpBy (thrReg 0x120) (64 * (wireFmt (collF f.words).wire).bytes)).setColl f.id p').reg (thrReg 0x128) =
          s.reg (thrReg 0x128) :=
        (State.reg_congr State.setColl_regs _).trans (State.reg_bumpBy_offset _ (by rw [thrReg_mod, thrReg_mod]; decide))
      rw [heq, State.Counted, ← hreg]
      exact State.counted_bumpBy
    · rw [State.noteCapacity_mem, heq, State.thrSend_mem, State.bump_mem, State.setColl_mem, State.bumpBy_mem]
  · intro c n tree child bytes s f p hf hp
    obtain ⟨g, hg⟩ := State.flight_of_collFlight hf
    refine Completes.intro (exec_segmentAck.trans (congrArg _ (State.segmentAck_eq hf hp))) ⟨State.setColl_mem, ?_⟩
    rw [State.collOf_setColl hg]
    exact noteLag_acked
  · intro c n tree child t0 offs s f p x k hf hp hx hkid hlag hlate
    obtain ⟨g, hg⟩ := State.flight_of_collFlight hf
    obtain ⟨adopted, hsent⟩ := State.childDetach_late (offs := offs) hf hp hx hkid hlag hlate
    refine Completes.intro exec_childDetach ⟨hsent.mem.trans State.setColl_mem, ?_⟩
    rw [State.collOf_congr hsent.flights, State.collOf_setColl hg]
    exact noteLag_detached hkid
  · intro c n tree other s f p x hf hp hx hphase hout hpart
    obtain ⟨g, hg⟩ := State.flight_of_collFlight hf
    obtain ⟨got, heq⟩ := State.repairFetch_missing (tree := tree) (other := other) hf hp hx hphase hout hpart
    refine Completes.intro (exec_repairRequest.trans (congrArg _ heq)) ⟨State.setColl_mem, ⟨got, ?_⟩, fun hrelays => ?_⟩
    · rw [State.thrSend_sent, State.setColl_thr]
    · rw [State.collOf_congr State.thrSend_flights, State.collOf_setColl hg]
      exact CollProg.detach_tree hrelays
  · intro c n tree other off len k codes s words x results sent hkept hheld hasked
    obtain ⟨u, hmem, hthr, hregs, heq⟩ := State.repairServe_eq (tree := tree) (other := other) (off := off) (len := len) hkept
    refine Completes.intro (exec_repairRequest.trans (congrArg _ heq)) ⟨State.sendHeld_only.mem.trans hmem, ?_⟩
    rw [← State.ownPos_congr hthr hregs]
    exact State.sendHeld_sent hasked hheld
  · intro c n tree other b kind e s words x results sent hkept hsent
    exact Completes.intro (exec_repairRequest.trans (congrArg _ (State.blockAgain_sent hkept hsent))) ⟨rfl, rfl, State.sendBlock_sent⟩

end Sys2Proof.Machine
end

section
/-!
What each operation touches.

`Touches G F s t` says that `t` differs from `s` in the parts of the state that the footprint `F` names, and in registers on pages of the
kinds that it names, only. A page number that an operation computes names a page of its kind only where the state has its shape; so what
is said of registers, and that the shape is kept, stands under a condition `G`: the shape of the first state where frames are proved,
`False` where only parts of the state matter. The lemmas run in the order of the model, each the chain of the lemmas of what its
operation calls.
-/
namespace Sys2Proof.Machine

/-- The parts of the state; of the Tithe, the words that its mirror is about to show are a part of their own. -/
inductive Part where
  | regs | mem | poison | hitch | windows | flights | nextId | flags | hostWaits | alm | furlong | ledgerHeld | journal | steward | fields
  | steadFailed | bankMoves | plots | stackList | written | kept | arrays | engines | gleanMeta | coulter | thr | swath | recov | power
  | tithe | titheWords | winnow | rings | passIds | verdicts | freeCtr | settled | setNow | flagsNow | pending
  deriving DecidableEq

/-- Parts of the state, and kinds of pages. -/
structure Footprint where
  parts : List Part
  kinds : List PageKind

/-- Everything the one names, the other names. -/
def Footprint.fits (E F : Footprint) : Bool := E.parts.all F.parts.contains && E.kinds.all F.kinds.contains

/-- The Tithe with other words that its mirror is about to show. -/
def TitheSt.withWords (x : TitheSt) (snap rcd : List (Nat × Nat)) : TitheSt := { x with snapWords := snap, recWords := rcd }

/-- A part is in the second state what it is in the first. -/
def Part.Same : Part → State → State → Prop
  | .regs, s, t => t.regs = s.regs
  | .mem, s, t => t.mem = s.mem
  | .poison, s, t => t.poison = s.poison
  | .hitch, s, t => t.hitch = s.hitch
  | .windows, s, t => t.windows = s.windows
  | .flights, s, t => t.flights = s.flights
  | .nextId, s, t => t.nextId = s.nextId
  | .flags, s, t => t.flags = s.flags
  | .hostWaits, s, t => t.hostWaits = s.hostWaits
  | .alm, s, t => t.alm = s.alm
  | .furlong, s, t => t.furlong = s.furlong
  | .ledgerHeld, s, t => t.ledgerHeld = s.ledgerHeld
  | .journal, s, t => t.journal = s.journal
  | .steward, s, t => t.steward = s.steward
  | .fields, s, t => t.fields = s.fields
  | .steadFailed, s, t => t.steadFailed = s.steadFailed
  | .bankMoves, s, t => t.bankMoves = s.bankMoves
  | .plots, s, t => t.plots = s.plots
  | .stackList, s, t => t.stackList = s.stackList
  | .written, s, t => t.written = s.written
  | .kept, s, t => t.kept = s.kept
  | .arrays, s, t => t.arrays = s.arrays
  | .engines, s, t => t.engines = s.engines
  | .gleanMeta, s, t => t.gleanMeta = s.gleanMeta
  | .coulter, s, t => t.coulter = s.coulter
  | .thr, s, t => t.thr = s.thr
  | .swath, s, t => t.swath = s.swath
  | .recov, s, t => t.recov = s.recov
  | .power, s, t => t.power = s.power
  | .winnow, s, t => t.winnow = s.winnow
  | .rings, s, t => t.rings = s.rings
  | .passIds, s, t => t.passIds = s.passIds
  | .verdicts, s, t => t.verdicts = s.verdicts
  | .freeCtr, s, t => t.freeCtr = s.freeCtr
  | .settled, s, t => t.settled = s.settled
  | .setNow, s, t => t.setNow = s.setNow
  | .flagsNow, s, t => t.flagsNow = s.flagsNow
  | .pending, s, t => t.pending = s.pending
  | .tithe, s, t => t.tithe.withWords [] [] = s.tithe.withWords [] []
  | .titheWords, s, t => (t.tithe.snapWords, t.tithe.recWords) = (s.tithe.snapWords, s.tithe.recWords)

/-- The first state with the named parts taken from the second. -/
def State.take (s : State) (ps : List Part) (t : State) : State where
  regs := bif ps.contains .regs then t.regs else s.regs
  mem := bif ps.contains .mem then t.mem else s.mem
  poison := bif ps.contains .poison then t.poison else s.poison
  hitch := bif ps.contains .hitch then t.hitch else s.hitch
  windows := bif ps.contains .windows then t.windows else s.windows
  flights := bif ps.contains .flights then t.flights else s.flights
  nextId := bif ps.contains .nextId then t.nextId else s.nextId
  flags := bif ps.contains .flags then t.flags else s.flags
  hostWaits := bif ps.contains .hostWaits then t.hostWaits else s.hostWaits
  alm := bif ps.contains .alm then t.alm else s.alm
  furlong := bif ps.contains .furlong then t.furlong else s.furlong
  ledgerHeld := bif ps.contains .ledgerHeld then t.ledgerHeld else s.ledgerHeld
  journal := bif ps.contains .journal then t.journal else s.journal
  steward := bif ps.contains .steward then t.steward else s.steward
  fields := bif ps.contains .fields then t.fields else s.fields
  steadFailed := bif ps.contains .steadFailed then t.steadFailed else s.steadFailed
  bankMoves := bif ps.contains .bankMoves then t.bankMoves else s.bankMoves
  plots := bif ps.contains .plots then t.plots else s.plots
  stackList := bif ps.contains .stackList then t.stackList else s.stackList
  written := bif ps.contains .written then t.written else s.written
  kept := bif ps.contains .kept then t.kept else s.kept
  arrays := bif ps.contains .arrays then t.arrays else s.arrays
  engines := bif ps.contains .engines then t.engines else s.engines
  gleanMeta := bif ps.contains .gleanMeta then t.gleanMeta else s.gleanMeta
  coulter := bif ps.contains .coulter then t.coulter else s.coulter
  thr := bif ps.contains .thr then t.thr else s.thr
  swath := bif ps.contains .swath then t.swath else s.swath
  recov := bif ps.contains .recov then t.recov else s.recov
  power := bif ps.contains .power then t.power else s.power
  tithe := (bif ps.contains .tithe then t.tithe else s.tithe).withWords
    (bif ps.contains .titheWords then t.tithe.snapWords else s.tithe.snapWords)
    (bif ps.contains .titheWords then t.tithe.recWords else s.tithe.recWords)
  winnow := bif ps.contains .winnow then t.winnow else s.winnow
  rings := bif ps.contains .rings then t.rings else s.rings
  passIds := bif ps.contains .passIds then t.passIds else s.passIds
  verdicts := bif ps.contains .verdicts then t.verdicts else s.verdicts
  freeCtr := bif ps.contains .freeCtr then t.freeCtr else s.freeCtr
  settled := bif ps.contains .settled then t.settled else s.settled
  setNow := bif ps.contains .setNow then t.setNow else s.setNow
  flagsNow := bif ps.contains .flagsNow then t.flagsNow else s.flagsNow
  pending := bif ps.contains .pending then t.pending else s.pending

theorem Part.Same.refl (p : Part) (s : State) : p.Same s s := by
  cases p <;> exact Eq.refl _

theorem Part.Same.trans {p : Part} {s t u : State} (h : p.Same s t) (h' : p.Same t u) : p.Same s u := by
  cases p <;> exact Eq.trans h' h

/-- A part that is not taken is as it was. -/
theorem Part.same_take {p : Part} {s t : State} {ps : List Part} (h : t = s.take ps t) (hp : ps.contains p = false) : p.Same s t := by
  rw [h]
  cases p <;> simp only [Part.Same, State.take, TitheSt.withWords, hp, cond_false]

theorem cond_eq_self {α : Type} {b : Bool} {x y : α} (h : b = false → y = x) : y = bif b then y else x := by
  cases b with
  | true => rfl
  | false => exact h rfl

/-- Where the parts that are not named are the same, the second state is the first with the named ones taken from it. -/
theorem State.eq_take {s t : State} {ps : List Part} (h : ∀ p, ps.contains p = false → p.Same s t) : t = s.take ps t := by
  have hcore : t.tithe.withWords [] [] = (bif ps.contains .tithe then t.tithe else s.tithe).withWords [] [] := by
    cases ht : ps.contains .tithe with
    | true => rfl
    | false => exact h .tithe ht
  have hsnap : t.tithe.snapWords = _ := cond_eq_self fun hw => (Prod.ext_iff.1 (h .titheWords hw)).1
  have hrec : t.tithe.recWords = _ := cond_eq_self fun hw => (Prod.ext_iff.1 (h .titheWords hw)).2
  have htithe : t.tithe = (s.take ps t).tithe :=
    (congrArg (fun x : TitheSt => x.withWords t.tithe.snapWords t.tithe.recWords) hcore).trans (congrArg₂ (TitheSt.withWords _) hsnap hrec)
  exact (State.mk.injEq ..).mpr
    ⟨cond_eq_self (h .regs), cond_eq_self (h .mem), cond_eq_self (h .poison), cond_eq_self (h .hitch), cond_eq_self (h .windows),
    cond_eq_self (h .flights), cond_eq_self (h .nextId), cond_eq_self (h .flags), cond_eq_self (h .hostWaits), cond_eq_self (h .alm),
    cond_eq_self (h .furlong), cond_eq_self (h .ledgerHeld), cond_eq_self (h .journal), cond_eq_self (h .steward),
    cond_eq_self (h .fields), cond_eq_self (h .steadFailed), cond_eq_self (h .bankMoves), cond_eq_self (h .plots),
    cond_eq_self (h .stackList), cond_eq_self (h .written), cond_eq_self (h .kept), cond_eq_self (h .arrays),
    cond_eq_self (h .engines), cond_eq_self (h .gleanMeta), cond_eq_self (h .coulter), cond_eq_self (h .thr), cond_eq_self (h .swath),
    cond_eq_self (h .recov), cond_eq_self (h .power), htithe, cond_eq_self (h .winnow), cond_eq_self (h .rings),
    cond_eq_self (h .passIds), cond_eq_self (h .verdicts), cond_eq_self (h .freeCtr), cond_eq_self (h .settled),
    cond_eq_self (h .setNow), cond_eq_self (h .flagsNow), cond_eq_self (h .pending)⟩

set_option Elab.async false

variable {G : Prop} {F : Footprint} {s t u : State}

/-- What a run of operations from `s` to `t` touches. -/
structure Touches (G : Prop) (F : Footprint) (s t : State) : Prop where
  parts : ∀ p, F.parts.contains p = false → p.Same s t
  regs : G → s.RegsWithin t F.kinds
  formed : G → Formed t

/-! ### How states are put together -/

theorem Touches.refl (hs : G → Formed s) : Touches G F s s := ⟨fun p _ => .refl p s, fun _ _ _ _ _ _ => rfl, hs⟩

theorem Touches.trans (h : Touches G F s t) (h' : Touches G F t u) : Touches G F s u :=
  ⟨fun p hp => (h.parts p hp).trans (h'.parts p hp), fun g a k i hk hn => (h'.regs g a k i hk hn).trans (h.regs g a k i hk hn), h'.formed⟩

theorem Touches.mono {E : Footprint} (h : Touches G E s t) (hEF : E.fits F = true) : Touches G F s t := by
  simp only [Footprint.fits, Bool.and_eq_true, List.all_eq_true, List.contains_iff_mem] at hEF
  obtain ⟨hparts, hkinds⟩ := hEF
  refine ⟨fun p hp => h.parts p ?_, fun g a k i hk hn => h.regs g a k i hk fun hm => hn (hkinds k hm), h.formed⟩
  simp only [← Bool.not_eq_true, List.contains_iff_mem] at hp ⊢
  exact fun hm => hp (hparts p hm)

/-- An operation whose own footprint `E` lies in `F`. -/
theorem Touches.via {E : Footprint} (h : Touches G F s t) (hEF : E.fits F = true) (hop : Touches G E t t → Touches G E t u) : Touches G F s u :=
  h.trans ((hop (.refl h.formed)).mono hEF)

/-- An update of parts that are no registers. -/
theorem Touches.upd (h : Touches G F s t) (hf : G → Formed t → Formed u) (hr : u.regs = t.regs := by rfl)
    (hp : u = t.take F.parts u := by rfl) : Touches G F s u :=
  h.trans ⟨fun _ => Part.same_take hp, fun _ a _ _ _ _ => State.reg_congr hr a, fun g => hf g (h.formed g)⟩

/-- An update of parts that the shape does not speak of. -/
theorem Touches.same (hr : u.regs = t.regs := by rfl) (h : Touches G F s t) (hp : u = t.take F.parts u := by rfl)
    (hf : Formed t → Formed u := by exact fun h => h.same) : Touches G F s u :=
  h.upd (fun _ => hf) hr hp

theorem Touches.ite {c : Prop} {_ : Decidable c} (ht : Touches G F s t) (hu : Touches G F s u) : Touches G F s (if c then t else u) := by
  split <;> assumption

theorem Touches.optionElim {α : Type} {o : Option α} {f : α → State} (ht : Touches G F s t) (hf : ∀ a, Touches G F s (f a)) :
    Touches G F s (o.elim t f) := by
  cases o with
  | none => exact ht
  | some a => exact hf a

theorem Touches.foldl {α : Type} {f : State → α → State} {l : List α} (h : Touches G F s t)
    (hf : ∀ u a, Touches G F s u → Touches G F s (f u a)) : Touches G F s (l.foldl f t) :=
  foldl_inv (Touches G F s) f l hf h

/-- A function by recursion on a number of rounds. -/
theorem Touches.iter {f : Nat → State → State} (h : Touches G F s t) (h0 : ∀ u, f 0 u = u)
    (hs : ∀ n u, Touches G F s u → (∀ v, Touches G F s v → Touches G F s (f n v)) → Touches G F s (f (n + 1) u)) (n : Nat) :
    Touches G F s (f n t) := by
  induction n generalizing t with
  | zero => exact (h0 t).symm ▸ h
  | succ n ih => exact hs n t h fun v hv => ih hv

/-- A function by recursion on a number of rounds that change a further argument. -/
theorem Touches.iterFor {α : Type} {f : Nat → State → α → State} (h : Touches G F s t) (h0 : ∀ u a, f 0 u a = u)
    (hs : ∀ n u a, Touches G F s u → (∀ v b, Touches G F s v → Touches G F s (f n v b)) → Touches G F s (f (n + 1) u a)) (n : Nat) (a : α) :
    Touches G F s (f n t a) := by
  induction n generalizing t a with
  | zero => exact (h0 t a).symm ▸ h
  | succ n ih => exact hs n t a h fun v b hv => ih hv b

/-! ### Answers that carry a state -/

theorem Touches.iteReply {c : Prop} {_ : Decidable c} {a b : Reply} (ha : Touches G F s a.st) (hb : Touches G F s b.st) :
    Touches G F s (if c then a else b).st := by
  split <;> assumption

theorem Touches.iteFst {c : Prop} {_ : Decidable c} {α : Type} {a b : State × α} (ha : Touches G F s a.1) (hb : Touches G F s b.1) :
    Touches G F s (if c then a else b).1 := by
  split <;> assumption

theorem Touches.ofSome (h : Touches G F s t) : ∀ u ∈ some t, Touches G F s u := by
  rintro u ⟨⟩
  exact h

theorem Touches.getD {o : Option State} (h : Touches G F s t) (ho : ∀ u ∈ o, Touches G F s u) : Touches G F s (o.getD t) := by
  cases o with
  | none => exact h
  | some u => exact ho u rfl

/-! ### Registers -/

/-- An instance number from which the page number of a kind is computed names no page of another kind. -/
def PageKind.Admits : PageKind → Nat → Prop
  | .cmdwin, i => i < 16
  | .datawin, i => i < 4
  | .coulterDec, i => i < 16
  | .thrCh, i => i < 32
  | .swathPort, i => i < 8
  | _, _ => True

/-- How many pages of a kind there are (R54). -/
def PageKind.count : PageKind → Nat
  | .cmdwin | .coulterDec | .harrow => 16
  | .datawin => 4
  | .thrCh | .drill => 32
  | .granary => 24
  | .swathPort | .field | .furrow | .glean | .tilth | .tilthTest | .granaryCache | .winnow | .reeve | .droop => 8
  | _ => 1

theorem pageOf_pageIdx_lt (k : PageKind) : ∀ i : Fin k.count, pageOf (pageIdx k i.val) = some (k, i.val) := by
  cases k <;> decide

theorem pageOf_of_le {p : Nat} (h : 0x1800 ≤ p) : pageOf p = none := by
  simp only [pageOf, Bool.and_eq_true, decide_eq_true_eq]
  repeat rw [if_neg (by omega)]

theorem pageIdx_of_count {k : PageKind} {i : Nat} (hi : k.Admits i) (h : k.count ≤ i) : pageIdx k i = pageIdx k 0 ∨ 0x1800 ≤ pageIdx k i := by
  cases k
  case cmdwin | datawin | coulterDec | thrCh | swathPort => exact absurd (show i < _ from hi) (not_lt.2 h)
  case field | furrow | glean | harrow | tilth | tilthTest | granary | granaryCache | drill | winnow | reeve | droop =>
    simp only [pageIdx, PageKind.count] at h ⊢
    omega
  all_goals exact .inl rfl

/-- A number that a kind admits names a page of that kind or of none. -/
theorem pageOf_pageIdx {k k' : PageKind} {i i' : Nat} (hi : k.Admits i) (h : pageOf (pageIdx k i) = some (k', i')) : k' = k := by
  have hcount : 0 < k.count := by cases k <;> decide
  by_cases hlt : i < k.count
  · rw [pageOf_pageIdx_lt k ⟨i, hlt⟩] at h
    cases h
    rfl
  · rcases pageIdx_of_count hi (not_lt.1 hlt) with heq | hle
    · rw [heq, pageOf_pageIdx_lt k ⟨0, hcount⟩] at h
      cases h
      rfl
    · rw [pageOf_of_le hle] at h
      cases h

theorem Touches.setReg (h : Touches G F s t) {k i off v} (hEF : Footprint.fits ⟨[.regs], [k]⟩ F = true := by rfl)
    (hk : G → k.Admits i := by exact fun _ => trivial) (ho : G → off < 0x1000 := by exact fun _ => by omega) : Touches G F s (t.setReg (regAddr k i off) v) := by
  refine h.via hEF fun h => h.trans ⟨fun p hp => ?_, fun g a k' i' hpg hn => ?_, fun g => (h.formed g).setReg⟩
  · cases p <;> first | exact Eq.refl _ | cases hp
  · refine State.reg_setReg_other _ _ ?_
    rintro rfl
    have hpage : regAddr k i off / 0x1000 = pageIdx k i := by
      have := ho g
      unfold regAddr
      omega
    rw [hpage] at hpg
    exact hn (by simp [pageOf_pageIdx (hk g) hpg])



/-! ### Footprints -/

/-- What an event touches. -/
def eventParts : List Part := [.regs, .hitch, .setNow]

/-- What a store touches. -/
def memParts : List Part := [.regs, .mem, .poison, .written]

/-- What the completion of a descriptor touches. -/
def doneParts : List Part := [.regs, .hitch, .flights, .flags, .furlong, .setNow, .flagsNow]

/-- What a register write touches, whatever it writes. -/
def portParts : List Part := [.regs, .hitch, .journal, .steward, .freeCtr, .setNow]

/-- All that a command which is not the Tithe's may touch: a reset spares the Tithe and the commands that wait. -/
def everything : Footprint where
  parts := [.regs, .mem, .poison, .hitch, .windows, .flights, .nextId, .flags, .hostWaits, .alm, .furlong, .ledgerHeld, .journal, .steward,
    .fields, .steadFailed, .bankMoves, .plots, .stackList, .written, .kept, .arrays, .engines, .gleanMeta, .coulter, .thr, .swath, .recov,
    .power, .titheWords, .winnow, .rings, .passIds, .verdicts, .freeCtr, .settled, .setNow, .flagsNow]
  kinds := [.dir, .hitch, .steward, .almanac, .power, .titheRo, .journal, .cmdwin, .datawin, .coulter, .coulterDec, .sample, .live, .thresher,
    .thrCh, .swath, .swathPort, .transport, .ptp, .recovery, .field, .furrow, .glean, .harrow, .tilth, .tilthTest, .granary, .granaryCache,
    .drill, .winnow, .reeve, .droop]

/-! ### Descriptors in flight -/

/-- A descriptor in flight is sound where the condition holds. -/
def FlightFits (G : Prop) (f : Flight) : Prop := G → FlightOk f

theorem FlightFits.withProg {f g : Flight} (h : FlightFits G f) (hw : g.window = f.window := by rfl) (hp : ProgOk g.prog := by exact trivial) :
    FlightFits G g := fun hg => (h hg).withProg hw hp

theorem FlightFits.keep {f g : Flight} (h : FlightFits G f) (hw : g.window = f.window := by rfl) (hp : g.prog = f.prog := by rfl) :
    FlightFits G g := fun hg => (h hg).keep hw hp

theorem Touches.setFlight (h : Touches G F s t) {f : Flight} (hf : FlightFits G f) (hE : Footprint.fits ⟨[.flights], []⟩ F = true := by rfl) :
    Touches G F s (t.setFlight f) :=
  h.via hE fun h => h.upd fun g h => h.setFlight (hf g)

theorem Touches.flight (h : Touches G F s t) {id : Nat} {f : Flight} (hf : t.flight id = some f) : FlightFits G f :=
  fun g => (h.formed g).flight hf

theorem Touches.flightOf (h : Touches G F s t) {id c o : Nat} {f : Flight} (hf : t.flightOf id c o = some f) : FlightFits G f :=
  fun g => (h.formed g).flightOf hf

end Sys2Proof.Machine
end

section
/-!
What the operations of the state, and Hitch, touch.
-/
namespace Sys2Proof.Machine

set_option Elab.async false

variable {G : Prop} {F : Footprint} {s t u : State}

/-! ### Ops -/

theorem Touches.setRf (h : Touches G F s t) {k i off hi lo v} (hE : Footprint.fits ⟨[.regs], [k]⟩ F = true := by rfl)
    (hk : G → k.Admits i := by exact fun _ => trivial) (ho : G → off < 0x1000 := by exact fun _ => by omega) : Touches G F s (t.setRf (regAddr k i off) hi lo v) :=
  h.setReg hE hk ho

theorem Touches.bumpBy (h : Touches G F s t) {k i off n} (hE : Footprint.fits ⟨[.regs], [k]⟩ F = true := by rfl)
    (hk : G → k.Admits i := by exact fun _ => trivial) (ho : G → off < 0x1000 := by exact fun _ => by omega) : Touches G F s (t.bumpBy (regAddr k i off) n) :=
  h.setReg hE hk ho

theorem Touches.bump (h : Touches G F s t) {k i off} (hE : Footprint.fits ⟨[.regs], [k]⟩ F = true := by rfl)
    (hk : G → k.Admits i := by exact fun _ => trivial) (ho : G → off < 0x1000 := by exact fun _ => by omega) : Touches G F s (t.bump (regAddr k i off)) :=
  h.bumpBy hE hk ho

theorem Touches.putBytes (h : Touches G F s t) {a bs} (hE : Footprint.fits ⟨[.mem], []⟩ F = true := by rfl) :
    Touches G F s (t.putBytes a bs) := h.via hE fun h => h.same

theorem Touches.zeroRange (h : Touches G F s t) {a n} (hE : Footprint.fits ⟨[.mem, .poison], []⟩ F = true := by rfl) :
    Touches G F s (t.zeroRange a n) := h.via hE fun h => h.same

theorem Footprint.fits_kinds {ps : List Part} {k : PageKind} {l : List PageKind} (h : k ∈ l) (hps : Part.regs ∈ ps) :
    Footprint.fits ⟨[.regs], [k]⟩ ⟨ps, l⟩ = true := by
  simp [Footprint.fits, h, hps]

theorem Touches.drawn (h : Touches G F s t) (hE : Footprint.fits ⟨[.freeCtr], []⟩ F = true := by rfl) :
    Touches G F s t.drawn := h.via hE fun h => h.same

theorem Touches.clearPoison (h : Touches G F s t) {a n} (hE : Footprint.fits ⟨[.poison], []⟩ F = true := by rfl) :
    Touches G F s (t.clearPoison a n) := h.via hE fun h =>
    h.same

theorem Touches.storeSector (h : Touches G F s t) {a bs} (hE : Footprint.fits ⟨memParts, [.granary]⟩ F = true := by rfl) :
    Touches G F s (t.storeSector a bs) := h.via hE fun h => by
  unfold State.storeSector
  split
  · exact .ite h.bump h.same
  · exact h.putBytes.clearPoison

theorem Touches.store (h : Touches G F s t) {a bs} (hE : Footprint.fits ⟨memParts, [.granary]⟩ F = true := by rfl) :
    Touches G F s (t.store a bs) := h.via hE fun h =>
    .ite (h.foldl fun _ _ h' => h'.storeSector) h.putBytes.clearPoison

theorem Touches.pushRecord (h : Touches G F s t) {r} (hE : Footprint.fits ⟨[.regs, .hitch], [.hitch]⟩ F = true := by rfl) :
    Touches G F s (t.pushRecord r) := h.via hE fun h => by
  unfold State.pushRecord
  extract_lets _ s1 ev s2
  have hs1 : Touches G _ _ s1 := h.bump
  have hs2 : Touches G _ _ s2 := hs1.setReg
  exact .ite h.same (.ite hs1 (.ite hs2 hs2.same))

theorem Touches.noteSet (h : Touches G F s t) {a bit} (hE : Footprint.fits ⟨[.setNow], []⟩ F = true := by rfl) :
    Touches G F s (t.noteSet a bit) := h.via hE fun h =>
    h.same

theorem Touches.raise (h : Touches G F s t) {k i bit info workId} (hE : Footprint.fits ⟨eventParts, [k, .hitch]⟩ F = true := by rfl)
    (hk : G → k.Admits i := by exact fun _ => trivial) : Touches G F s (t.raise k i bit info workId) := h.via hE fun h =>
    have hset : Touches G _ t ((t.noteSet (regAddr k i 0x030) bit).setReg (regAddr k i 0x030) _) :=
      h.noteSet.setReg (Footprint.fits_kinds (by simp) (by decide)) hk
    .ite h.noteSet (.ite hset (hset.pushRecord (by simp [Footprint.fits, eventParts])))

theorem Touches.capture (h : Touches G F s t) {k i code info0 info1} (hE : Footprint.fits ⟨[.regs], [k]⟩ F = true := by rfl)
    (hk : G → k.Admits i := by exact fun _ => trivial) : Touches G F s (t.capture k i code info0 info1) :=
  .ite ((((h.setReg hE hk).setReg hE hk).setReg hE hk).setReg hE hk) h

theorem Touches.raiseErr (h : Touches G F s t) {k i bit code workId info0 info1}
    (hE : Footprint.fits ⟨eventParts, [k, .hitch]⟩ F = true := by rfl) (hk : G → k.Admits i := by exact fun _ => trivial) :
    Touches G F s (t.raiseErr k i bit code workId info0 info1) :=
  h.via hE fun h => (h.raise (by simp [Footprint.fits, eventParts]) hk).capture (Footprint.fits_kinds (by simp) (by decide)) hk

theorem Touches.journalAdd (h : Touches G F s t) {addr src kind old new} (hE : Footprint.fits ⟨[.journal], []⟩ F = true := by rfl) :
    Touches G F s (t.journalAdd addr src kind old new) := h.via hE fun h =>
    h.same

theorem Touches.journalFlushN (h : Touches G F s t) {n} (hE : Footprint.fits ⟨[.journal], []⟩ F = true := by rfl) :
    Touches G F s (t.journalFlushN n) := h.via hE fun h =>
    h.same

theorem Touches.logAdd (h : Touches G F s t) {code info} (hE : Footprint.fits ⟨[.steward, .freeCtr], []⟩ F = true := by rfl) :
    Touches G F s (t.logAdd code info) := h.via hE fun h =>
    h.same

theorem Touches.sendNumbered (h : Touches G F s t) {f} (hE : Footprint.fits ⟨[.hitch], []⟩ F = true := by rfl) :
    Touches G F s (t.sendNumbered f) := h.via hE fun h =>
    .ite h.same h.same

theorem Touches.pumpTx (h : Touches G F s t) {n} (hE : Footprint.fits ⟨[.hitch], []⟩ F = true := by rfl) :
    Touches G F s (State.pumpTx n t) := h.via hE fun h => by
  refine h.iter (f := State.pumpTx) (fun u => rfl) (fun n u h ih => ?_) n
  unfold State.pumpTx
  split
  · exact h
  · exact .ite (ih _ h.same) h

theorem Touches.respond (h : Touches G F s t) {tag addr status payload} (hE : Footprint.fits ⟨[.hitch], []⟩ F = true := by rfl) :
    Touches G F s (t.respond tag addr status payload) := h.via hE fun h =>
    h.sendNumbered

theorem Touches.setFlag (h : Touches G F s t) {domain n} (hE : Footprint.fits ⟨[.flags, .flagsNow], []⟩ F = true := by rfl) :
    Touches G F s (t.setFlag domain n) := h.via hE fun h =>
    h.same

theorem Touches.clearFlag (h : Touches G F s t) {domain n} (hE : Footprint.fits ⟨[.flags, .flagsNow], []⟩ F = true := by rfl) :
    Touches G F s (t.clearFlag domain n) := h.via hE fun h =>
    .ite h.same h.same

/-! ### Hitch -/

theorem Touches.sendLinkCtrl (h : Touches G F s t) (hE : Footprint.fits ⟨[.hitch], []⟩ F = true := by rfl) :
    Touches G F s t.sendLinkCtrl := h.via hE fun h =>
    .ite h.same h

theorem Touches.resend (h : Touches G F s t) {fs} (hE : Footprint.fits ⟨[.regs, .hitch], [.hitch]⟩ F = true := by rfl) :
    Touches G F s (t.resend fs) := h.via hE fun h =>
    h.same.bumpBy

theorem Touches.linkError (h : Touches G F s t) {bit code} (hE : Footprint.fits ⟨eventParts, [.hitch]⟩ F = true := by rfl) :
    Touches G F s (t.linkError bit code) := h.via hE fun h =>
    h.same.raiseErr

theorem Touches.linkComesUp (h : Touches G F s t) {lanes version} (hE : Footprint.fits ⟨eventParts, [.hitch]⟩ F = true := by rfl) :
    Touches G F s (t.linkComesUp lanes version) := h.via hE fun h => by
  unfold State.linkComesUp
  extract_lets _ _ _ _ s2
  have hs2 : Touches G _ _ s2 := .ite h.same.linkError h.same
  exact Touches.pumpTx (.ite hs2.resend.linkError hs2)

theorem Touches.trainStep (h : Touches G F s t) {lanesOk} (hE : Footprint.fits ⟨eventParts, [.hitch]⟩ F = true := by rfl) :
    Touches G F s (t.trainStep lanesOk) := h.via hE fun h => by
  unfold State.trainStep
  extract_lets
  split
  · exact .ite h.same h
  · exact .ite h.same h
  · exact .ite h.same.sendLinkCtrl h
  · exact .ite h.same.sendLinkCtrl h
  · exact .ite h.same.sendLinkCtrl h
  · split
    · exact .ite h.same.sendLinkCtrl h.linkComesUp.sendLinkCtrl
    · exact h
  · exact h

theorem Touches.trainTimeout (h : Touches G F s t) (hE : Footprint.fits ⟨[.hitch], []⟩ F = true := by rfl) :
    Touches G F s t.trainTimeout := h.via hE fun h => by
  unfold State.trainTimeout
  refine .ite h ?_
  split
  · exact h
  · exact h
  · exact h
  · exact .ite h.same h.same

theorem Touches.retrainHitch (h : Touches G F s t) {keepBuffers} (hE : Footprint.fits ⟨[.hitch], []⟩ F = true := by rfl) :
    Touches G F s (t.retrainHitch keepBuffers) := h.via hE fun h =>
    h.same

theorem Touches.discardFlit (h : Touches G F s t) (hE : Footprint.fits ⟨[.regs], [.hitch]⟩ F = true := by rfl) :
    Touches G F s t.discardFlit := h.via hE fun h =>
    h.bump

theorem Touches.linkCtrlApply (h : Touches G F s t) {p} (hE : Footprint.fits ⟨[.regs, .hitch], [.hitch]⟩ F = true := by rfl) :
    Touches G F s (t.linkCtrlApply p) := h.via hE fun h => by
  unfold State.linkCtrlApply
  extract_lets _ _ s1 s2 _ s3
  have hs1 : Touches G _ _ s1 := .ite (.ite h.same.pumpTx h.same) h
  have hs2 : Touches G _ _ s2 := .ite hs1.resend hs1
  have hs3 : Touches G _ _ s3 := .ite hs2.same hs2
  exact .ite hs3.same hs3

theorem Touches.linkCtrlReceived (h : Touches G F s t) {header payload} (hE : Footprint.fits ⟨[.regs, .hitch], [.hitch]⟩ F = true := by rfl) :
    Touches G F s (t.linkCtrlReceived header payload) := h.via hE fun h =>
    .ite h (.ite h.discardFlit h.linkCtrlApply)

theorem Touches.fecLost (h : Touches G F s t) (hE : Footprint.fits ⟨[.hitch], []⟩ F = true := by rfl) :
    Touches G F s t.fecLost := h.via hE fun h =>
    .ite h.same.sendLinkCtrl h

theorem Touches.requeueOverflow (h : Touches G F s t) (hE : Footprint.fits ⟨[.hitch], []⟩ F = true := by rfl) :
    Touches G F s t.requeueOverflow := h.via hE fun h =>
    h.same

theorem Touches.sendEvents (h : Touches G F s t) {n} (hE : Footprint.fits ⟨[.hitch], []⟩ F = true := by rfl) :
    Touches G F s (t.sendEvents n) := h.via hE fun h =>
    .ite h.sendNumbered.same.requeueOverflow h

theorem Touches.pauseJob (h : Touches G F s t) {j} (hE : Footprint.fits ⟨[.hitch], []⟩ F = true := by rfl) :
    Touches G F s (t.pauseJob j) := h.via hE fun h =>
    .ite h.same h

theorem Touches.resumeJob (h : Touches G F s t) (hE : Footprint.fits ⟨[.hitch], []⟩ F = true := by rfl) :
    Touches G F s t.resumeJob := h.via hE fun h =>
    h.same

end Sys2Proof.Machine
end

section
/-!
What the command windows, the flags and the accumulator banks touch.
-/
namespace Sys2Proof.Machine

set_option Elab.async false

variable {G : Prop} {F : Footprint} {s t u : State}

/-! ### Window -/

theorem Touches.setWin (h : Touches G F s t) {w x} (hE : Footprint.fits ⟨[.windows], []⟩ F = true := by rfl) :
    Touches G F s (t.setWin w x) := h.via hE fun h =>
    h.same (hf := fun h => h.same (by simp [State.lengths, State.setWin]))

theorem Touches.cmdPort (h : Touches G F s t) {w data} (hw : G → PageKind.cmdwin.Admits w) (hE : Footprint.fits ⟨eventParts ++ [.windows], [.hitch, .cmdwin]⟩ F = true := by rfl) :
    Touches G F s (t.cmdPort w data).st := h.via hE fun h =>
  .iteReply h <| .iteReply h <| .iteReply h <| .iteReply (h.setWin.raise (hk := hw)) h.setWin


theorem Touches.refuseDesc (h : Touches G F s t) {w d code} (hw : G → PageKind.cmdwin.Admits w) (hE : Footprint.fits ⟨eventParts ++ [.windows], [.hitch, .cmdwin]⟩ F = true := by rfl) :
    Touches G F s (t.refuseDesc w d code) := h.via hE fun h =>
    have hraise : Touches G _ t ((t.bump (regAddr .cmdwin w 0x128)).raise .cmdwin w 1 code (hWorkId (dword d 0))) :=
      (h.bump (hk := hw)).raise (hk := hw)
    .ite hraise.setWin hraise

theorem Touches.loseFraming (h : Touches G F s t) {w d code} (hw : G → PageKind.cmdwin.Admits w) (hE : Footprint.fits ⟨eventParts ++ [.windows], [.hitch, .cmdwin]⟩ F = true := by rfl) :
    Touches G F s (t.loseFraming w d code) := h.via hE fun h =>
    (((h.bump (hk := hw)).raise (hk := hw)).setWin).raise (hk := hw)

theorem Touches.resetWindow (h : Touches G F s t) {w} (hE : Footprint.fits ⟨[.windows], []⟩ F = true := by rfl) :
    Touches G F s (t.resetWindow w) := h.via hE fun h =>
    h.setWin

theorem Touches.complete (h : Touches G F s t) {id info} (hE : Footprint.fits ⟨doneParts, [.hitch, .cmdwin]⟩ F = true := by rfl) :
    Touches G F s (t.complete id info) := h.via hE fun h => by
  unfold State.complete
  split
  · exact h
  · next hf =>
    have hw : G → PageKind.cmdwin.Admits _ := fun g => (h.flight hf g).window
    extract_lets s1 _ s2 _ s4
    have hs1 : Touches G _ _ s1 := h.upd fun _ h => h.withFlights (FlightsOk.filter h.flights)
    have hs2 : Touches G _ _ s2 := .ite hs1.setFlag hs1
    have hs4 : Touches G _ _ s4 := 
      .ite ((hs2.setRf (hk := hw)).raise (hk := hw)) (hs2.setRf (hk := hw))
    split
    · next hfur =>
      refine hs4.upd fun _ h => h.withFurlong ?_
      rintro g ⟨⟩
      exact (h.furlong _ hfur :)
    · exact hs4

theorem Touches.refuseInstance (h : Touches G F s t) {step pre phase tmpl code} (hE : Footprint.fits ⟨[.furlong], []⟩ F = true := by rfl) :
    Touches G F s (t.refuseInstance step pre phase tmpl code) := h.via hE fun h =>
    h.upd fun _ h => h.withFurlong (furlong_map h.furlong fun _ => rfl)

theorem Touches.refuseFlight (h : Touches G F s t) {id code} (hE : Footprint.fits ⟨eventParts ++ [.windows, .flights, .furlong], [.hitch, .cmdwin]⟩ F = true := by rfl) :
    Touches G F s (t.refuseFlight id code) := h.via hE fun h => by
  unfold State.refuseFlight
  split
  · exact h
  · next hf =>
    extract_lets s1
    have hs1 : Touches G _ _ s1 := h.upd fun _ h => h.withFlights (FlightsOk.filter h.flights)
    split
    · next horigin => exact hs1.refuseDesc fun g =>
        show _ < 16 by simpa only [Flight.window, horigin] using (h.flight hf g).window
    · exact Touches.refuseInstance <| hs1.upd fun _ h => h.withFurlong (furlong_map h.furlong (by intro; rfl))

/-! ### Flags -/

theorem Touches.report (h : Touches G F s t) {f tag step pre t'} (hE : Footprint.fits ⟨[.regs, .mem, .winnow], [.winnow]⟩ F = true := by rfl) :
    Touches G F s (t.report f tag step pre t') := h.via hE fun h =>
    have hlost : Touches G _ t (t.bump (winnowReg f 0x130)) := h.bump
    .ite h (.ite (.ite h.putBytes h) (.ite (.ite hlost.same hlost) (.ite h.putBytes h)))

theorem Touches.reportFlight (h : Touches G F s t) {f fl t'} (hE : Footprint.fits ⟨[.regs, .mem, .winnow], [.winnow]⟩ F = true := by rfl) :
    Touches G F s (t.reportFlight f fl t') := h.via hE fun h =>
    h.report
/-! ### GleanBank -/

theorem Touches.setGmeta (h : Touches G F s t) {f r m} (hE : Footprint.fits ⟨[.gleanMeta], []⟩ F = true := by rfl) :
    Touches G F s (t.setGmeta f r m) := h.via hE fun h =>
    h.same

theorem Touches.setAcc (h : Touches G F s t) {f r c v} (hE : Footprint.fits ⟨[.mem], []⟩ F = true := by rfl) :
    Touches G F s (t.setAcc f r c v) := h.via hE fun h =>
    h.putBytes

theorem Touches.zeroRow (h : Touches G F s t) {f r} (hE : Footprint.fits ⟨[.mem, .poison], []⟩ F = true := by rfl) :
    Touches G F s (t.zeroRow f r) := h.via hE fun h =>
    h.zeroRange

theorem Touches.setPend (h : Touches G F s t) {f r c q} (hE : Footprint.fits ⟨[.mem], []⟩ F = true := by rfl) :
    Touches G F s (t.setPend f r c q) := h.via hE fun h =>
    h.setAcc.setAcc

theorem Touches.setAccs (h : Touches G F s t) {f r c vs} (hE : Footprint.fits ⟨[.mem], []⟩ F = true := by rfl) :
    Touches G F s (t.setAccs f r c vs) := by
  induction vs generalizing t c with
  | nil => exact h
  | cons v vs ih => exact ih (h.setAcc hE)

theorem Touches.toL96Row (h : Touches G F s t) {f r} (hE : Footprint.fits ⟨[.mem, .poison, .gleanMeta], []⟩ F = true := by rfl) :
    Touches G F s (t.toL96Row f r) := h.via hE fun h =>
    .ite h.zeroRow.setGmeta h

theorem Touches.rowInit (h : Touches G F s t) {f r col e vals} (hE : Footprint.fits ⟨[.mem, .poison, .gleanMeta], []⟩ F = true := by rfl) :
    Touches G F s (t.rowInit f r col e vals) := h.via hE fun h =>
    h.toL96Row.setGmeta.setAccs

theorem Touches.rowAdd (h : Touches G F s t) {f r col vals} (hE : Footprint.fits ⟨[.mem], []⟩ F = true := by rfl) :
    Touches G F s (t.rowAdd f r col vals) := h.via hE fun h =>
    h.setAccs

theorem Touches.leafCols (h : Touches G F s t) {f r leaf leaves fill c vs} (hE : Footprint.fits ⟨[.mem], []⟩ F = true := by rfl) :
    Touches G F s (t.leafCols f r leaf leaves fill c vs) := by
  induction vs generalizing t c with
  | nil => exact h
  | cons v vs ih =>
    unfold State.leafCols
    exact ih (h.setPend hE)

theorem Touches.rowLeaf (h : Touches G F s t) {f r col leaf leaves init vals} (hE : Footprint.fits ⟨[.mem, .poison, .gleanMeta], []⟩ F = true := by rfl) :
    Touches G F s (t.rowLeaf f r col leaf leaves init vals) := h.via hE fun h =>
    .ite h.zeroRow.setGmeta.leafCols h.leafCols.setGmeta

theorem Touches.resetGlean (h : Touches G F s t) {f} (hE : Footprint.fits ⟨[.mem, .poison, .gleanMeta], []⟩ F = true := by rfl) :
    Touches G F s (t.resetGlean f) := h.via hE fun h =>
    h.same

end Sys2Proof.Machine
end

section
/-!
What Furrow, Glean, Harrow and Winnow touch.
-/
namespace Sys2Proof.Machine

set_option Elab.async false

variable {G : Prop} {F : Footprint} {s t u : State}

/-! ### Furrow -/

theorem Touches.setArray (h : Touches G F s t) {f a} (hE : Footprint.fits ⟨[.arrays], []⟩ F = true := by rfl) :
    Touches G F s (t.setArray f a) := h.via hE fun h =>
    h.same (hf := fun h => h.same (by simp [State.lengths, State.setArray]))

theorem Touches.giveUpLoads (h : Touches G F s t) {helper p} (hE : Footprint.fits ⟨[.flights], []⟩ F = true := by rfl) :
    Touches G F s (t.giveUpLoads helper p) := h.via hE fun h =>
    h.upd fun _ h => h.withFlights <| FlightsOk.map h.flights fun g hg => by
    split
    · split
      · exact hg.withProg
      · exact hg
    · exact hg

theorem Touches.takePass (h : Touches G F s t) {id} (hE : Footprint.fits ⟨[.flights, .arrays], []⟩ F = true := by rfl) :
    Touches G F s (t.takePass id) := h.via hE fun h => by
  unfold State.takePass
  split
  · exact h
  next f hf =>
    refine .ite h ?_
    extract_lets _ _ _ _ _ _ s1
    have hs1 : Touches G _ _ s1 := h.setFlight (h.flightOf hf).withProg
    exact .ite hs1 (.ite hs1.setArray hs1.setArray.giveUpLoads)

theorem Touches.loadStart (h : Touches G F s t) {id} (hE : Footprint.fits ⟨[.flights], []⟩ F = true := by rfl) :
    Touches G F s (t.loadStart id) := h.via hE fun h => by
  unfold State.loadStart
  split
  · exact h
  next hf =>
    split
    · exact h
    · exact .ite (h.setFlight (h.flightOf hf).withProg) h

theorem Touches.swapPass (h : Touches G F s t) {id stalls} (hE : Footprint.fits ⟨[.regs, .flights, .arrays], [.furrow]⟩ F = true := by rfl) :
    Touches G F s (t.swapPass id stalls) := h.via hE fun h => by
  unfold State.swapPass
  split
  · exact h
  next hf =>
    split
    · exact h
    · exact .ite (.bumpBy <| .setArray <| h.setFlight (h.flightOf hf).withProg) h

theorem Touches.enterRow (h : Touches G F s t) {id stalls} (hE : Footprint.fits ⟨[.regs, .flights, .arrays], [.furrow]⟩ F = true := by rfl) :
    Touches G F s (t.enterRow id stalls) := h.via hE fun h => by
  unfold State.enterRow
  split
  · exact h
  next hf =>
    split
    · exact h
    · extract_lets
      split
      · exact .ite (.bumpBy <| .bumpBy <| .bumpBy <| .setArray <| h.setFlight (h.flightOf hf).withProg) h
      · exact .ite (h.setFlight (h.flightOf hf).withProg) h

theorem Touches.applyRow (h : Touches G F s t) {p row vals} (hE : Footprint.fits ⟨[.mem, .poison, .gleanMeta], []⟩ F = true := by rfl) :
    Touches G F s (t.applyRow p row vals).1 := h.via hE fun h =>
    .iteFst (.iteFst h.rowLeaf h) (.iteFst h.rowInit (.iteFst h.rowAdd h))

theorem Touches.loadDone (h : Touches G F s t) {id} (hE : Footprint.fits ⟨[.flights], []⟩ F = true := by rfl) :
    Touches G F s (t.loadDone id) := h.via hE fun h => by
  unfold State.loadDone
  split
  · exact h
  next hf =>
    split
    · exact h
    · exact .ite h (.ite (h.setFlight (h.flightOf hf).withProg) (h.setFlight (h.flightOf hf).withProg))

theorem Touches.addRow (h : Touches G F s t) {id mismatch} (hE : Footprint.fits ⟨[.regs, .mem, .poison, .flights, .arrays, .gleanMeta, .winnow], [.furrow, .glean, .winnow]⟩ F = true := by rfl) :
    Touches G F s (t.addRow id mismatch) := h.via hE fun h => by
  unfold State.addRow
  split
  · exact h
  next hf =>
    split
    · exact h
    · extract_lets p a
      split
      · refine .ite h ?_
        extract_lets rc sums ap q1 s1 s2 s3
        clear_value rc
        split
        · exact h.setArray.bumpBy
        · have hs1 : Touches G _ _ s1 := h.applyRow.setFlight (h.flightOf hf).withProg
          have hs2 : Touches G _ _ s2 := .ite hs1.bump.bump hs1
          have hs3 : Touches G _ _ s3 := .ite hs2.bump hs2
          exact .ite hs3.reportFlight hs3
      · exact h

theorem Touches.completePass (h : Touches G F s t) {id} (hE : Footprint.fits ⟨doneParts ++ [.arrays], [.hitch, .cmdwin]⟩ F = true := by rfl) :
    Touches G F s (t.completePass id) := h.via hE fun h => by
  unfold State.completePass
  split
  · exact h
  · split
    · exact .ite h (Touches.complete (.ite h h.setArray))
    · exact .ite (.ite h.complete h) (.ite (.ite h.complete (.ite h.complete (.ite h.complete h))) h)

theorem Touches.failArray (h : Touches G F s t) {f x} (hE : Footprint.fits ⟨eventParts ++ [.flights, .arrays], [.hitch, .furrow]⟩ F = true := by rfl) :
    Touches G F s (t.failArray f x) := h.via hE fun h => by
  unfold State.failArray
  extract_lets a s1
  have hs1 : Touches G _ _ s1 := h.upd fun _ h => h.withFlights (FlightsOk.map h.flights fun g hg => by
    split
    · split
      · exact hg.withProg
      · exact hg
    · exact hg) (by simp [State.lengths, s1])
  exact .ite h hs1.raiseErr

theorem Touches.forceArray (h : Touches G F s t) {f} (hE : Footprint.fits ⟨eventParts ++ [.flights, .arrays], [.hitch, .furrow]⟩ F = true := by rfl) :
    Touches G F s (t.forceArray f) := h.via hE fun h =>
    h.failArray

theorem Touches.reissueArray (h : Touches G F s t) {f} (hE : Footprint.fits ⟨eventParts ++ [.flights, .arrays], [.hitch, .furrow]⟩ F = true := by rfl) :
    Touches G F s (t.reissueArray f) := h.via hE fun h => by
  unfold State.reissueArray
  refine .ite h ?_
  split
  · split
    · exact h.setArray.raiseErr
    · exact h
  · extract_lets _ s1
    have hs1 : Touches G _ _ s1 := h.upd fun _ h => h.withFlights (FlightsOk.map h.flights fun g hg => by
      split
      · split
        · exact hg.withProg
        · exact hg
      · exact hg) (by simp [State.lengths, s1])
    exact (hs1.foldl fun _ _ h' => h'.giveUpLoads).raise

theorem Touches.resetArrayBlock (h : Touches G F s t) {f} (hE : Footprint.fits ⟨[.arrays], []⟩ F = true := by rfl) :
    Touches G F s (t.resetArrayBlock f) := h.via hE fun h =>
    h.setArray
/-! ### Glean -/

theorem Touches.setGlean (h : Touches G F s t) {f g} (hf : FlightFits G f) (hE : Footprint.fits ⟨[.flights], []⟩ F = true := by rfl) :
    Touches G F s (t.setGlean f g) := h.via hE fun h =>
    h.setFlight hf.withProg

theorem Touches.readoutRow (h : Touches G F s t) {id} (hE : Footprint.fits ⟨memParts ++ [.flights, .winnow, .freeCtr], [.glean, .granary, .winnow]⟩ F = true := by rfl) :
    Touches G F s (t.readoutRow id) := h.via hE fun h => by
  unfold State.readoutRow
  split
  · exact h
  next hf =>
    refine .ite h ?_
    refine .ite (h.setGlean (h.flightOf hf)) ?_
    split
    · exact h
    · extract_lets _ _ _ _ _ _ _ s2 _ _ s4
      have hs2 : Touches G _ _ s2 := .ite h.store.store h.store
      have hs4 : Touches G _ _ s4 := .bumpBy <| .reportFlight (.ite hs2 hs2.store)
      exact Touches.setGlean hs4.same (h.flightOf hf)

theorem Touches.preloadRow (h : Touches G F s t) {id} (hE : Footprint.fits ⟨[.regs, .mem, .poison, .flights, .gleanMeta, .winnow], [.glean, .winnow]⟩ F = true := by rfl) :
    Touches G F s (t.preloadRow id) := h.via hE fun h => by
  unfold State.preloadRow
  split
  · exact h
  next hf => exact .ite h (h.rowInit.reportFlight.bumpBy.setGlean (h.flightOf hf))

theorem Touches.clearRow (h : Touches G F s t) {id} (hE : Footprint.fits ⟨[.regs, .mem, .poison, .flights, .gleanMeta], [.glean]⟩ F = true := by rfl) :
    Touches G F s (t.clearRow id) := h.via hE fun h => by
  unfold State.clearRow
  split
  · exact h
  next hf => exact .ite h (h.rowInit.bumpBy.setGlean (h.flightOf hf))

theorem Touches.saveRow (h : Touches G F s t) {id} (hE : Footprint.fits ⟨memParts ++ [.flights], [.glean, .granary]⟩ F = true := by rfl) :
    Touches G F s (t.saveRow id) := h.via hE fun h => by
  unfold State.saveRow
  split
  · exact h
  next hf => exact .ite h (h.store.store.bumpBy.setGlean (h.flightOf hf))

theorem Touches.loadRow (h : Touches G F s t) {id} (hE : Footprint.fits ⟨eventParts ++ [.mem, .windows, .flights, .furlong, .gleanMeta], [.hitch, .cmdwin, .glean]⟩ F = true := by rfl) :
    Touches G F s (t.loadRow id) := h.via hE fun h => by
  unfold State.loadRow
  split
  · exact h
  next hf =>
    have hf := h.flightOf hf
    exact .ite h (.ite (h.setGlean hf) (.ite h.refuseFlight (.ite (h.setGlean hf) (h.putBytes.setGmeta.bumpBy.setGlean hf))))

theorem Touches.treeBytes (h : Touches G F s t) {g n} (hE : Footprint.fits ⟨[.regs], [.glean]⟩ F = true := by rfl) :
    Touches G F s (t.treeBytes g n) := h.via hE fun h => by
  unfold State.treeBytes
  extract_lets _ _ s1 s2
  have hs1 : Touches G _ _ s1 := h.foldl fun _ _ h' => .ite h'.bumpBy.bumpBy h'
  have hs2 : Touches G _ _ s2 := .ite hs1.bumpBy hs1
  exact .ite (Touches.foldl (.ite hs2.bumpBy hs2) fun _ _ h' => h'.bumpBy) hs1

theorem Touches.reduceInto (h : Touches G F s t) {s0 : State} {g root row} (hE : Footprint.fits ⟨[.mem, .poison, .gleanMeta], []⟩ F = true := by rfl) :
    Touches G F s (s0.reduceInto t g root row) := h.via hE fun h =>
    .ite h.zeroRow.setGmeta.setAccs h.toL96Row.setGmeta.setAccs

theorem Touches.reduceRow (h : Touches G F s t) {id} (hE : Footprint.fits ⟨eventParts ++ [.mem, .poison, .windows, .flights, .furlong, .gleanMeta], [.hitch, .cmdwin, .glean]⟩ F = true := by rfl) :
    Touches G F s (t.reduceRow id) := h.via hE fun h => by
  unfold State.reduceRow
  split
  · exact h
  next hf =>
    refine .ite h <| .ite h.refuseFlight <| .ite h.refuseFlight ?_
    exact ((h.foldl fun _ _ h' => h'.reduceInto.bumpBy).foldl fun _ _ h' => h'.bumpBy).treeBytes.setGlean (h.flightOf hf)

theorem Touches.completeGlean (h : Touches G F s t) {id} (hE : Footprint.fits ⟨doneParts, [.hitch, .cmdwin]⟩ F = true := by rfl) :
    Touches G F s (t.completeGlean id) := h.via hE fun h => by
  unfold State.completeGlean
  split
  · exact h
  · exact .ite h (.ite h.complete (.ite h (.ite h.complete (.ite h.complete h))))

theorem Touches.gleanEcc (h : Touches G F s t) {f row col access workId corrected} (hE : Footprint.fits ⟨eventParts ++ [.gleanMeta], [.hitch, .glean]⟩ F = true := by rfl) :
    Touches G F s (t.gleanEcc f row col access workId corrected) := h.via hE fun h =>
    .ite h (.ite h.bump h.setGmeta.bump.raiseErr)
/-! ### Harrow -/

theorem Touches.setEngine (h : Touches G F s t) {e x} (hE : Footprint.fits ⟨[.engines], []⟩ F = true := by rfl) :
    Touches G F s (t.setEngine e x) := h.via hE fun h =>
    h.same (hf := fun h => h.same (by simp [State.lengths, State.setEngine]))

theorem Touches.engineFlight (h : Touches G F s t) {e : Nat} {p : Flight → Bool} {f : Flight} (hf : (t.engineFlights e).find? p = some f) :
    FlightFits G f :=
  fun g => (h.formed g).engineFlight hf

theorem Touches.dealUnit (h : Touches G F s t) {e thread starved} (hE : Footprint.fits ⟨[.regs, .flights], [.harrow]⟩ F = true := by rfl) :
    Touches G F s (t.dealUnit e thread starved) := h.via hE fun h => by
  unfold State.dealUnit
  extract_lets _ _ s0
  have hs0 : Touches G _ _ s0 := h.bumpBy
  split
  · exact h
  next hf =>
    refine .ite h ?_
    have hf' : FlightFits G _ := fun g => (h.engineFlight hf g).optimHeader (t := t)
    extract_lets
    split
    · exact hs0.setFlight hf'.withProg
    · exact .ite (hs0.setFlight hf'.withProg) (hs0.setFlight hf'.withProg)

theorem Touches.unitStored (h : Touches G F s t) {f u} (hf : FlightFits G f) (hE : Footprint.fits ⟨[.flights], []⟩ F = true := by rfl) :
    Touches G F s (t.unitStored f u) := h.via hE fun h =>
    h.setFlight hf.withProg

theorem Touches.storeRun (h : Touches G F s t) {f base len c0 cv} (hE : Footprint.fits ⟨memParts, [.granary]⟩ F = true := by rfl) :
    Touches G F s (t.storeRun f base len c0 cv) := h.via hE fun h =>
    .ite h.store.store h.store

theorem Touches.storeElems (h : Touches G F s t) {fl slot base len c0 idx vs} (hE : Footprint.fits ⟨memParts ++ [.winnow], [.granary, .winnow]⟩ F = true := by rfl) :
    Touches G F s (t.storeElems fl slot base len c0 idx vs) := h.via hE fun h =>
    h.storeRun.report

theorem Touches.storePerRow (h : Touches G F s t) {fl slot r idx v} (hE : Footprint.fits ⟨memParts ++ [.winnow], [.granary, .winnow]⟩ F = true := by rfl) :
    Touches G F s (t.storePerRow fl slot r idx v) := h.via hE fun h =>
    Touches.report (.ite h.store h.store)

theorem Touches.storeStats (h : Touches G F s t) {fl r a b} (hE : Footprint.fits ⟨memParts, [.granary]⟩ F = true := by rfl) :
    Touches G F s (t.storeStats fl r a b) := h.via hE fun h =>
    .ite h h.store

theorem Touches.countHarrow (h : Touches G F s t) {e elems cycles} (hE : Footprint.fits ⟨[.regs], [.harrow]⟩ F = true := by rfl) :
    Touches G F s (t.countHarrow e elems cycles) := h.via hE fun h =>
    h.bumpBy.bumpBy

theorem Touches.countGleanRead (h : Touches G F s t) {d rows n} (hE : Footprint.fits ⟨[.regs], [.glean]⟩ F = true := by rfl) :
    Touches G F s (t.countGleanRead d rows n) := h.via hE fun h =>
    h.bumpBy

theorem Touches.mapChunk (h : Touches G F s t) {id u} (hE : Footprint.fits ⟨memParts ++ [.flights, .winnow], [.glean, .harrow, .granary, .winnow]⟩ F = true := by rfl) :
    Touches G F s (t.mapChunk id u) := h.via hE fun h => by
  unfold State.mapChunk
  split
  · exact h
  next hf =>
    split
    · exact h
    · exact (Touches.countHarrow (.ite h.storeElems.store h.storeElems)).countGleanRead.unitStored (h.flightOf hf)

theorem Touches.rowReduceUnit (h : Touches G F s t) {id u} (hE : Footprint.fits ⟨memParts ++ [.flights, .winnow], [.glean, .harrow, .granary, .winnow]⟩ F = true := by rfl) :
    Touches G F s (t.rowReduceUnit id u) := h.via hE fun h => by
  unfold State.rowReduceUnit
  split
  · exact h
  next hf =>
    split
    · exact h
    · exact h.storePerRow.countHarrow.countGleanRead.unitStored (h.flightOf hf)

theorem Touches.softmaxUnit (h : Touches G F s t) {id u} (hE : Footprint.fits ⟨memParts ++ [.flights, .winnow], [.glean, .harrow, .granary, .winnow]⟩ F = true := by rfl) :
    Touches G F s (t.softmaxUnit id u) := h.via hE fun h => by
  unfold State.softmaxUnit
  split
  · exact h
  next hf =>
    split
    · exact h
    · exact h.storeElems.storeStats.countHarrow.countGleanRead.unitStored (h.flightOf hf)

theorem Touches.normUnit (h : Touches G F s t) {id u} (hE : Footprint.fits ⟨memParts ++ [.flights, .winnow], [.glean, .harrow, .granary, .winnow]⟩ F = true := by rfl) :
    Touches G F s (t.normUnit id u) := h.via hE fun h => by
  unfold State.normUnit
  split
  · exact h
  next hf =>
    split
    · exact h
    · exact h.storeElems.storeStats.countHarrow.countGleanRead.unitStored (h.flightOf hf)

theorem Touches.optimUnit (h : Touches G F s t) {id u} (hE : Footprint.fits ⟨memParts ++ [.flights, .winnow], [.glean, .harrow, .granary, .winnow]⟩ F = true := by rfl) :
    Touches G F s (t.optimUnit id u) := h.via hE fun h => by
  unfold State.optimUnit
  split
  · exact h
  next hf =>
    split
    · exact h
    · extract_lets _ _ _ _ _ _ _ _ _ _ _ s1 _ _ _ s4
      have hs1 : Touches G _ t s1 := (h.foldl fun _ _ h' => h'.storeElems).foldl fun _ _ h' => h'.storeElems
      have hs4 : Touches G ⟨memParts ++ [.flights, .winnow], [.glean, .harrow, .granary, .winnow]⟩ t s4 := by
        unfold s4
        refine Touches.foldl ?_ fun _ _ h' => h'.storeElems
        exact Touches.foldl (.ite (hs1.foldl fun _ _ h' => h'.storeElems) hs1) fun _ _ h' => h'.storeElems
      exact hs4.countHarrow.countGleanRead.unitStored (h.flightOf hf)

theorem Touches.unitComplete (h : Touches G F s t) {id u} (hE : Footprint.fits ⟨doneParts, [.hitch, .cmdwin, .harrow]⟩ F = true := by rfl) :
    Touches G F s (t.unitComplete id u) := h.via hE fun h => by
  unfold State.unitComplete
  split
  · exact h
  next hf =>
    refine .ite h ?_
    extract_lets
    split
    · extract_lets _ s1
      have hs1 : Touches G _ _ s1 := .bump <| h.setFlight (h.flight hf).withProg
      exact .ite hs1.complete hs1
    · exact .ite h.complete h

theorem Touches.rehomeEngine (h : Touches G F s t) {e} (hE : Footprint.fits ⟨eventParts ++ [.engines], [.hitch, .harrow]⟩ F = true := by rfl) :
    Touches G F s (t.rehomeEngine e) := h.via hE fun h => by
  unfold State.rehomeEngine
  refine .ite h ?_
  split
  · exact h.setEngine.raise
  · split
    · exact h.setEngine.raiseErr
    · exact h

theorem Touches.failEngine (h : Touches G F s t) {e code workId info0 info1} (hE : Footprint.fits ⟨eventParts ++ [.flights, .engines], [.hitch, .harrow]⟩ F = true := by rfl) :
    Touches G F s (t.failEngine e code workId info0 info1) := h.via hE fun h => by
  unfold State.failEngine
  extract_lets s1 s2
  have hs1 : Touches G _ _ s1 := h.upd fun _ h => h.withFlights (FlightsOk.map h.flights fun g hg => by
    split
    · split
      · exact hg.withProg
      · exact hg
    · exact hg) (by simp [State.lengths, s1])
  exact .ite h (hs1.raiseErr.foldl fun _ _ h' => h'.rehomeEngine)

theorem Touches.engineCheck (h : Touches G F s t) {e thread check} (hE : Footprint.fits ⟨eventParts ++ [.flights, .engines], [.hitch, .harrow]⟩ F = true := by rfl) :
    Touches G F s (t.engineCheck e thread check) := h.via hE fun h => by
  refine .ite h <| .ite h.bump ?_
  dsimp only
  split
  · exact h.bump.failEngine
  · exact h.bump.failEngine

theorem Touches.forceEngine (h : Touches G F s t) {e} (hE : Footprint.fits ⟨eventParts ++ [.flights, .engines], [.hitch, .harrow]⟩ F = true := by rfl) :
    Touches G F s (t.forceEngine e) := h.via hE fun h =>
    h.failEngine
/-! ### Winnow -/

theorem Touches.putTag (h : Touches G F s t) {tag e} (hE : Footprint.fits ⟨memParts, [.granary]⟩ F = true := by rfl) :
    Touches G F s (t.putTag tag e) := h.via hE fun h =>
    h.foldl fun _ _ h' => h'.store

theorem Touches.emptyArea (h : Touches G F s t) {area} (hE : Footprint.fits ⟨memParts, [.granary]⟩ F = true := by rfl) :
    Touches G F s (t.emptyArea area) := h.via hE fun h =>
    h.foldl fun _ _ h' => h'.foldl fun _ _ h2 => h2.store

theorem Touches.openStep (h : Touches G F s t) {step} (hE : Footprint.fits ⟨memParts ++ [.winnow], [.granary]⟩ F = true := by rfl) :
    Touches G F s (t.openStep step) := h.via hE fun h => by
  refine .ite h (h.emptyArea.upd fun _ h => h.withWinnow fun x hx => ?_)
  rcases List.mem_cons.1 hx with rfl | hx
  · exact State.freeArea_lt
  · exact h.areas x (List.mem_of_mem_filter hx)

theorem Touches.emptyProbes (h : Touches G F s t) (hE : Footprint.fits ⟨memParts, [.granary]⟩ F = true := by rfl) :
    Touches G F s t.emptyProbes := h.via hE fun h =>
    h.foldl fun _ _ h' => h'.foldl fun _ _ h2 => h2.store

theorem Touches.putProbeMaxima (h : Touches G F s t) {ms} (hE : Footprint.fits ⟨memParts, [.granary]⟩ F = true := by rfl) :
    Touches G F s (t.putProbeMaxima ms) := h.via hE fun h =>
    h.foldl fun _ _ h' => h'.foldl fun _ _ h2 => h2.store

theorem Touches.closeTag {acc : CloseSum} (h : Touches G F s acc.st) {step skip verdict tag}
    (hE : Footprint.fits ⟨eventParts ++ memParts, [.hitch, .granary, .winnow]⟩ F = true := by rfl) :
    Touches G F s (Machine.closeTag step skip verdict acc tag).st := h.via hE fun h => by
  unfold Machine.closeTag
  extract_lets t0 _ _ _ _ _ _ _ _ _ _ _ _ _ _ s0 s1 s2 s3 s4
  have ht : Touches G _ _ t0 := h
  split
  · exact ht.raiseErr
  · split
    · exact ht
    · have hs0 : Touches G _ _ s0 := ht.putTag
      have hs1 : Touches G _ _ s1 := .ite (hs0.foldl fun _ _ h' => h'.store) hs0
      have hs2 : Touches G _ _ s2 := .ite hs1.raise hs1
      have hs3 : Touches G _ _ s3 := .ite (hs2.foldl fun _ _ h' => h'.bump) hs2
      exact .ite hs3.raiseErr hs3

theorem Touches.closeTags {tags : List Nat} {acc : CloseSum} (h : Touches G F s acc.st) {step skip verdict}
    (hE : Footprint.fits ⟨eventParts ++ memParts, [.hitch, .granary, .winnow]⟩ F = true := by rfl) :
    Touches G F s (tags.foldl (Machine.closeTag step skip verdict) acc).st := by
  induction tags generalizing acc with
  | nil => exact h
  | cons tag tags ih =>
    rw [List.foldl_cons]
    exact ih (h.closeTag hE)

theorem Touches.decayOffsets (h : Touches G F s t) (hE : Footprint.fits ⟨memParts, [.granary]⟩ F = true := by rfl) :
    Touches G F s t.decayOffsets := h.via hE fun h =>
    h.foldl fun _ _ h' => .ite h' h'.putTag

/-- The bookkeeping of a step that closes. -/
theorem Touches.stepClosed (h : Touches G F s t) {last decay openSteps nf pre} (hE : Footprint.fits ⟨[.winnow], []⟩ F = true := by rfl) :
    Touches G F s { t with winnow :=
      { t.winnow with lastClosed := last, decay := decay, openSteps := openSteps, nfUntracked := nf, preSteps := pre } } :=
  h.via hE fun h => h.same

theorem Touches.closeStep (h : Touches G F s t) {step} (hE : Footprint.fits ⟨eventParts ++ memParts ++ [.winnow], [.hitch, .granary, .winnow]⟩ F = true := by rfl) :
    Touches G F s (t.closeStep step) := h.via hE fun h => by
  unfold State.closeStep
  extract_lets s0 r verdict skip pre cs s1 n due s2 flagging s3 _ s4 s5 s6
  have hs1 : Touches G _ _ s1 := Touches.closeTags (.ite h.openStep h)
  have hs3 : Touches G _ _ s3 := Touches.store (.ite hs1.decayOffsets hs1)
  clear_value s3
  have hs4 : Touches G _ _ s4 := hs3.stepClosed
  have hs5 : Touches G _ _ s5 := .ite hs4.raiseErr hs4
  have hs6 : Touches G _ _ s6 := .ite hs5.raiseErr hs5
  refine hs6.foldl fun _ _ h' => ?_
  exact .ite (Touches.bump (.ite h'.bump.bump h'.bump)) (.ite h'.bump.bump h'.bump)

theorem Touches.runCloseStep (h : Touches G F s t) {id} (hE : Footprint.fits ⟨doneParts ++ memParts ++ [.windows, .winnow], [.hitch, .cmdwin, .granary, .winnow]⟩ F = true := by rfl) :
    Touches G F s (t.runCloseStep id) := h.via hE fun h => by
  unfold State.runCloseStep
  split
  · exact h
  · exact .ite h (.ite h.refuseFlight (.ite h (.ite h.complete h.closeStep.complete)))

theorem Touches.runSetTags (h : Touches G F s t) {id} (hE : Footprint.fits ⟨doneParts ++ memParts ++ [.windows], [.hitch, .cmdwin, .granary]⟩ F = true := by rfl) :
    Touches G F s (t.runSetTags id) := h.via hE fun h => by
  unfold State.runSetTags
  split
  · exact h
  · exact .ite h (.ite h.complete (.ite h.refuseFlight ((h.foldl fun _ _ h' => h'.putTag).complete)))

theorem Touches.runSaveState (h : Touches G F s t) {id} (hE : Footprint.fits ⟨doneParts ++ memParts, [.hitch, .cmdwin, .granary]⟩ F = true := by rfl) :
    Touches G F s (t.runSaveState id) := h.via hE fun h => by
  unfold State.runSaveState
  split
  · exact h
  · exact .ite h (.ite h.complete (.ite h.complete h.store.complete))

theorem Touches.runLoadState (h : Touches G F s t) {id} (hE : Footprint.fits ⟨doneParts ++ memParts ++ [.windows, .winnow], [.hitch, .cmdwin, .granary]⟩ F = true := by rfl) :
    Touches G F s (t.runLoadState id) := h.via hE fun h => by
  unfold State.runLoadState
  split
  · exact h
  · refine .ite h <| .ite h.refuseFlight <| .ite h.complete <| .ite h.complete <| .ite h.refuseFlight ?_
    refine .ite h.refuseFlight ?_
    extract_lets s1
    have hs1 : Touches G _ _ s1 := h.foldl fun _ _ h' => h'.putTag
    clear_value s1
    exact .complete hs1.same

theorem Touches.runProbe (h : Touches G F s t) {id} (hE : Footprint.fits ⟨doneParts ++ memParts, [.hitch, .cmdwin, .granary]⟩ F = true := by rfl) :
    Touches G F s (t.runProbe id) := h.via hE fun h => by
  unfold State.runProbe
  split
  · exact h
  · exact .ite h ((h.foldl fun _ _ h' => .ite h'.putTag h').complete)

theorem Touches.enableWinnow (h : Touches G F s t) (hE : Footprint.fits ⟨memParts ++ [.winnow], [.granary]⟩ F = true := by rfl) :
    Touches G F s t.enableWinnow := h.via hE fun h => by
  unfold State.enableWinnow
  extract_lets s1 s2
  have hs2 : Touches G _ _ s2 := (h.foldl fun _ _ h' => h'.zeroRange).emptyArea.emptyArea.emptyProbes
  clear_value s2
  exact hs2.same

theorem Touches.maskTag (h : Touches G F s t) {v} (hE : Footprint.fits ⟨[.winnow], []⟩ F = true := by rfl) :
    Touches G F s (t.maskTag v) := h.via hE fun h =>
    h.same

theorem Touches.dropSteps (h : Touches G F s t) (hE : Footprint.fits ⟨[.winnow], []⟩ F = true := by rfl) :
    Touches G F s t.dropSteps := h.via hE fun h =>
    h.upd fun _ h => h.withWinnow fun x hx => h.areas x (List.mem_of_mem_filter hx)

end Sys2Proof.Machine
end

section
/-!
What Tilth, the Granary, Drill and Coulter touch.
-/
namespace Sys2Proof.Machine

set_option Elab.async false

variable {G : Prop} {F : Footprint} {s t u : State}

/-! ### Tilth -/

theorem Touches.zeroBank (h : Touches G F s t) {f b} (hE : Footprint.fits ⟨[.mem, .poison], []⟩ F = true := by rfl) :
    Touches G F s (t.zeroBank f b) := h.via hE fun h =>
    h.same

theorem Touches.bankWrite (h : Touches G F s t) {f set v} (hs : G → set < 3) (hE : Footprint.fits ⟨[.regs, .bankMoves], [.tilth]⟩ F = true := by rfl) :
    Touches G F s (t.bankWrite f set v) := h.via hE fun h =>
    have hset : Touches G _ t (t.setReg (tilthReg f (0x108 + 8 * set)) v) := h.setReg (ho := fun g => by have := hs g; omega)
    hset.same

theorem Touches.bankDone (h : Touches G F s t) {f b} (hE : Footprint.fits ⟨[.mem, .poison, .bankMoves], []⟩ F = true := by rfl) :
    Touches G F s (t.bankDone f b) := h.via hE fun h => by
  unfold State.bankDone
  split
  · exact h
  · exact .ite h.same.zeroBank h.same

theorem Touches.tilthEcc (h : Touches G F s t) {a requester workId} (hE : Footprint.fits ⟨eventParts ++ [.poison], [.hitch, .tilth]⟩ F = true := by rfl) :
    Touches G F s (t.tilthEcc a requester workId) := h.via hE fun h => by
  unfold State.tilthEcc
  split
  · exact .ite h h.same.bump.raiseErr
  · exact h

theorem Touches.tilthWriteback (h : Touches G F s t) {a} (hE : Footprint.fits ⟨[.regs], [.tilth]⟩ F = true := by rfl) :
    Touches G F s (t.tilthWriteback a) := h.via hE fun h => by
  unfold State.tilthWriteback
  split
  · exact .ite h.bump h
  · exact h

theorem Touches.setPlot (h : Touches G F s t) {f p} (hE : Footprint.fits ⟨[.plots], []⟩ F = true := by rfl) :
    Touches G F s (t.setPlot f p) := h.via hE fun h =>
    h.same (hf := fun h => h.same (by simp [State.lengths, State.setPlot]))

theorem Touches.plotStart (h : Touches G F s t) {f b} (hE : Footprint.fits ⟨[.plots], []⟩ F = true := by rfl) :
    Touches G F s (t.plotStart f b) := h.via hE fun h => by
  unfold State.plotStart
  refine .ite h ?_
  split
  · exact .ite h h.setPlot
  · exact .ite h.setPlot h

theorem Touches.plotSlots (h : Touches G F s t) {f slots} (hE : Footprint.fits ⟨[.regs, .plots], [.tilthTest]⟩ F = true := by rfl) :
    Touches G F s (t.plotSlots f slots) := h.via hE fun h =>
    .ite h.setPlot.setPlot.bump h.setPlot

theorem Touches.plotNext (h : Touches G F s t) {f b} (hE : Footprint.fits ⟨[.regs, .plots], [.tilthTest]⟩ F = true := by rfl) :
    Touches G F s (t.plotNext f b) := h.via hE fun h =>
    h.plotSlots

theorem Touches.plotLeave (h : Touches G F s t) {f b} (hE : Footprint.fits ⟨[.regs, .plots], [.tilthTest]⟩ F = true := by rfl) :
    Touches G F s (t.plotLeave f b) := h.via hE fun h =>
    .ite h.plotSlots h

theorem Touches.plotEnd (h : Touches G F s t) {f b passed flashOk} (hE : Footprint.fits ⟨eventParts ++ [.plots], [.hitch, .tilthTest]⟩ F = true := by rfl) :
    Touches G F s (t.plotEnd f b passed flashOk) := h.via hE fun h => by
  unfold State.plotEnd
  extract_lets
  split
  · exact h
  · refine .ite h.bump.plotNext ?_
    extract_lets s2 s3 s4
    have hs2 : Touches G _ _ s2 := h.bump.bump.setPlot
    have hs3 : Touches G _ _ s3 := hs2.raise.raiseErr
    have hs4 : Touches G _ _ s4 := .ite hs3.raiseErr hs3
    exact Touches.plotNext (.ite hs4 hs4.raiseErr)

theorem Touches.plotSteal (h : Touches G F s t) {f b} (hE : Footprint.fits ⟨[.regs], [.tilthTest]⟩ F = true := by rfl) :
    Touches G F s (t.plotSteal f b) := h.via hE fun h =>
    .ite h.bump h

theorem Touches.plotRestore (h : Touches G F s t) {f banks} (hE : Footprint.fits ⟨[.plots], []⟩ F = true := by rfl) :
    Touches G F s (t.plotRestore f banks) := h.via hE fun h =>
    h.setPlot

theorem Touches.ttWrite (h : Touches G F s t) {f v} (hE : Footprint.fits ⟨[.regs, .plots], [.tilthTest]⟩ F = true := by rfl) :
    Touches G F s (t.ttWrite f v) := h.via hE fun h =>
    .ite h.setReg h.setReg.plotRestore

theorem Touches.ttReset (h : Touches G F s t) {f} (hE : Footprint.fits ⟨[.plots], []⟩ F = true := by rfl) :
    Touches G F s (t.ttReset f) := h.via hE fun h =>
    h.setPlot
/-! ### Granary -/

theorem Touches.keepLine (h : Touches G F s t) {a} (hE : Footprint.fits ⟨[.regs, .kept], [.granaryCache]⟩ F = true := by rfl) :
    Touches G F s (t.keepLine a) := h.via hE fun h =>
    .ite h.same (.ite h (.ite h.same.bump h.same))

theorem Touches.demote (h : Touches G F s t) {a n} (hE : Footprint.fits ⟨[.kept], []⟩ F = true := by rfl) :
    Touches G F s (t.demote a n) := h.via hE fun h =>
    h.same

theorem Touches.touchLines (h : Touches G F s t) {a n} (hE : Footprint.fits ⟨[.kept], []⟩ F = true := by rfl) :
    Touches G F s (t.touchLines a n) := h.via hE fun h =>
    .ite h.same h

theorem Touches.readHint (h : Touches G F s t) {a n hint} (hE : Footprint.fits ⟨[.regs, .kept], [.granaryCache]⟩ F = true := by rfl) :
    Touches G F s (t.readHint a n hint) := h.via hE fun h =>
    .ite h (.ite h.touchLines (.ite (h.foldl fun _ _ h' => h'.keepLine) (.ite h.demote h)))

theorem Touches.writeHint (h : Touches G F s t) {a n hint} (hE : Footprint.fits ⟨[.regs, .kept], [.granaryCache]⟩ F = true := by rfl) :
    Touches G F s (t.writeHint a n hint) := h.via hE fun h =>
    .ite h h.readHint

theorem Touches.storeAs (h : Touches G F s t) {cls a bs} (hE : Footprint.fits ⟨memParts ++ [.kept], [.granary, .granaryCache]⟩ F = true := by rfl) :
    Touches G F s (t.storeAs cls a bs) := h.via hE fun h =>
    h.store.writeHint

theorem Touches.readAs (h : Touches G F s t) {cls rs} (hE : Footprint.fits ⟨[.regs, .kept], [.granaryCache]⟩ F = true := by rfl) :
    Touches G F s (t.readAs cls rs) := h.via hE fun h =>
    h.foldl fun _ _ h' => h'.readHint

theorem Touches.trimKept (h : Touches G F s t) {f} (hE : Footprint.fits ⟨[.kept], []⟩ F = true := by rfl) :
    Touches G F s (t.trimKept f) := h.via hE fun h =>
    h.same

theorem Touches.granaryCorrected (h : Touches G F s t) {a} (hE : Footprint.fits ⟨[.regs], [.granary]⟩ F = true := by rfl) :
    Touches G F s (t.granaryCorrected a) := h.via hE fun h => by
  unfold State.granaryCorrected
  split
  · exact .ite h.bump h
  · exact h

theorem Touches.setStack (h : Touches G F s t) {n x} (hE : Footprint.fits ⟨[.stackList], []⟩ F = true := by rfl) :
    Touches G F s (t.setStack n x) := h.via hE fun h =>
    h.same (hf := fun h => h.same (by simp [State.lengths, State.setStack]))

theorem Touches.granaryTemp (h : Touches G F s t) {n t'} (hE : Footprint.fits ⟨eventParts ++ [.stackList], [.hitch, .granary]⟩ F = true := by rfl) :
    Touches G F s (t.granaryTemp n t') := h.via hE fun h => by
  unfold State.granaryTemp
  extract_lets _ _ _ _ _ _ s2 s1
  have hs2 : Touches G _ _ s2 := h.setStack.setRf.setRf.setRf
  have hs1 : Touches G _ _ s1 := h.setStack.bump
  exact .ite h (.ite (.ite hs2.raiseErr hs2) (.ite hs1.setRf.raiseErr hs1))

theorem Touches.granaryRetrain (h : Touches G F s t) {n repaired} (hE : Footprint.fits ⟨eventParts ++ [.stackList], [.hitch, .granary]⟩ F = true := by rfl) :
    Touches G F s (t.granaryRetrain n repaired) := h.via hE fun h =>
    .ite h (.ite h.setStack.bump.raiseErr h.setStack.bump)

theorem Touches.zeroFresh (h : Touches G F s t) {n} (hE : Footprint.fits ⟨[.written], []⟩ F = true := by rfl) :
    Touches G F s (t.zeroFresh n) := h.via hE fun h => by
  unfold State.zeroFresh
  refine .ite h ?_
  split
  · exact h.same
  · exact h

theorem Touches.freshRegion (h : Touches G F s t) {f} (hE : Footprint.fits ⟨[.mem, .poison, .written, .kept], []⟩ F = true := by rfl) :
    Touches G F s (t.freshRegion f) := h.via hE fun h =>
    h.same

theorem Touches.emptyInRegion (h : Touches G F s t) {f} (hE : Footprint.fits ⟨[.coulter], []⟩ F = true := by rfl) :
    Touches G F s (t.emptyInRegion f) := h.via hE fun h =>
    h.same

theorem Touches.restartFill (h : Touches G F s t) (hE : Footprint.fits ⟨[.regs, .flights], [.recovery]⟩ F = true := by rfl) :
    Touches G F s t.restartFill := h.via hE fun h => by
  refine .ite (Touches.setRf <| h.upd fun _ h => h.withFlights <| FlightsOk.map h.flights fun g hg => ?_) h
  split
  · exact hg.withProg
  · exact hg

theorem Touches.failStack (h : Touches G F s t) {n code} (hE : Footprint.fits ⟨eventParts ++ [.flights, .stackList, .kept, .coulter], [.hitch, .recovery, .granary]⟩ F = true := by rfl) :
    Touches G F s (t.failStack n code) := h.via hE fun h =>
    .ite h (Touches.raiseErr <| .restartFill <| .emptyInRegion <| Touches.same (h := h.setStack))

theorem Touches.granaryEcc (h : Touches G F s t) {a cls workId} (hE : Footprint.fits ⟨eventParts ++ [.poison, .flights, .stackList, .kept, .coulter], [.hitch, .recovery, .granary]⟩ F = true := by rfl) :
    Touches G F s (t.granaryEcc a cls workId) := h.via hE fun h => by
  unfold State.granaryEcc
  split
  · refine .ite h ?_
    extract_lets base st p s0 s1 s2
    have hs0 : Touches G _ _ s0 := h.setStack
    clear_value s0
    have hs2 : Touches G _ _ s2 := .raiseErr <| .bump hs0.same
    exact .ite hs2.failStack hs2
  · exact h

theorem Touches.granaryScrub (h : Touches G F s t) {a outcome} (hE : Footprint.fits ⟨eventParts ++ [.poison, .flights, .stackList, .kept, .coulter], [.hitch, .recovery, .granary]⟩ F = true := by rfl) :
    Touches G F s (t.granaryScrub a outcome) := h.via hE fun h =>
    .ite h.granaryCorrected (.ite h.granaryEcc h)

theorem Touches.stackFails (h : Touches G F s t) {n cause} (hE : Footprint.fits ⟨eventParts ++ [.flights, .stackList, .kept, .coulter], [.hitch, .recovery, .granary]⟩ F = true := by rfl) :
    Touches G F s (t.stackFails n cause) := h.via hE fun h =>
    .ite h.failStack (.ite h.failStack (.ite h.failStack h))

theorem Touches.mapOut (h : Touches G F s t) (hE : Footprint.fits ⟨[.mem, .poison, .stackList, .written, .kept], []⟩ F = true := by rfl) :
    Touches G F s t.mapOut := h.via hE fun h =>
    h.foldl fun _ _ h' => .ite h'.setStack.freshRegion h'

theorem Touches.runFill (h : Touches G F s t) {id} (hE : Footprint.fits ⟨doneParts ++ [.kept], [.hitch, .cmdwin, .granaryCache]⟩ F = true := by rfl) :
    Touches G F s (t.runFill id) := h.via hE fun h => by
  unfold State.runFill
  split
  · exact h
  · exact .ite h (.ite h.complete (Touches.complete (.ite (h.foldl fun _ _ h' => h'.keepLine) h.touchLines)))

theorem Touches.runDemote (h : Touches G F s t) {id} (hE : Footprint.fits ⟨doneParts ++ [.kept], [.hitch, .cmdwin]⟩ F = true := by rfl) :
    Touches G F s (t.runDemote id) := h.via hE fun h => by
  unfold State.runDemote
  split
  · exact h
  · exact .ite h h.demote.complete
/-! ### Drill -/

theorem Touches.setRing (h : Touches G F s t) {q r} (hE : Footprint.fits ⟨[.rings], []⟩ F = true := by rfl) :
    Touches G F s (t.setRing q r) := h.via hE fun h =>
    h.same (hf := fun h => h.same (by simp [State.lengths, State.setRing]))

theorem Touches.notePass (h : Touches G F s t) {d} (hE : Footprint.fits ⟨[.passIds], []⟩ F = true := by rfl) :
    Touches G F s (t.notePass d) := h.via hE fun h =>
    h.same

theorem Touches.openGate (h : Touches G F s t) {id} (hE : Footprint.fits ⟨[.flights], []⟩ F = true := by rfl) :
    Touches G F s (t.openGate id) := h.via hE fun h => by
  unfold State.openGate
  split
  · exact h
  next hf => exact .ite (h.setFlight (h.flightOf hf).withProg) h

theorem Touches.drillStart (h : Touches G F s t) {id gateWait creditWait limitWait} (hE : Footprint.fits ⟨eventParts ++ [.windows, .flights, .furlong, .rings], [.hitch, .cmdwin, .drill]⟩ F = true := by rfl) :
    Touches G F s (t.drillStart id gateWait creditWait limitWait) := h.via hE fun h => by
  unfold State.drillStart
  split
  · exact h
  next hf =>
    extract_lets _ _ _ _ _ s1
    have hs1 : Touches G _ _ s1 := h.bumpBy.bumpBy.bumpBy
    refine .ite h <| .ite (hs1.setFlight (h.flightOf hf).keep) <| .ite hs1.refuseFlight <| .ite h <| .ite hs1.refuseFlight ?_
    exact .ite hs1.refuseFlight (hs1.setRing.setFlight (h.flightOf hf).withProg)

theorem Touches.storeParts (h : Touches G F s t) {b hint parts} (hE : Footprint.fits ⟨memParts ++ [.kept], [.granary, .granaryCache]⟩ F = true := by rfl) :
    Touches G F s (t.storeParts b hint parts) := h.via hE fun h =>
    .ite h.store.writeHint (h.foldl fun _ _ h' => h'.store.writeHint)

theorem Touches.fillSectors (h : Touches G F s t) {dst hint held parts} (hE : Footprint.fits ⟨memParts ++ [.kept], [.granary, .granaryCache]⟩ F = true := by rfl) :
    Touches G F s (t.fillSectors dst hint held parts).1 := h.via hE fun h =>
    List.foldlRecOn (motive := fun r : State × List (Nat × List Byte) => Touches G _ _ r.1) _ _ h fun _ hr _ _ => .iteFst hr.storeParts hr

theorem Touches.copyRow (h : Touches G F s t) {id} (hE : Footprint.fits ⟨memParts ++ [.flights, .kept], [.granary, .granaryCache, .drill]⟩ F = true := by rfl) :
    Touches G F s (t.copyRow id) := h.via hE fun h => by
  unfold State.copyRow
  split
  · exact h
  next hf =>
    refine .ite h <| .ite (h.setFlight (h.flightOf hf).withProg) ?_
    extract_lets bs s1 r
    have hr : Touches G _ t r.1 := .iteFst (h.readHint.foldl fun _ _ h' => h'.store.writeHint) h.readHint.fillSectors
    exact hr.bumpBy.setFlight (h.flightOf hf).withProg

theorem Touches.ringSetup (h : Touches G F s t) {id} (hE : Footprint.fits ⟨doneParts ++ [.windows, .rings], [.hitch, .cmdwin, .drill]⟩ F = true := by rfl) :
    Touches G F s (t.ringSetup id) := h.via hE fun h => by
  unfold State.ringSetup
  split
  · exact h
  · exact .ite h (.ite h.refuseFlight h.setRing.bump.complete)

theorem Touches.ringCredit (h : Touches G F s t) {id} (hE : Footprint.fits ⟨doneParts ++ [.windows, .rings], [.hitch, .cmdwin, .drill]⟩ F = true := by rfl) :
    Touches G F s (t.ringCredit id) := h.via hE fun h => by
  unfold State.ringCredit
  split
  · exact h
  · extract_lets q r n done
    have hdone {u info} (hu : Touches G ⟨doneParts ++ [.windows, .rings], [.hitch, .cmdwin, .drill]⟩ t u) :
        Touches G ⟨doneParts ++ [.windows, .rings], [.hitch, .cmdwin, .drill]⟩ t (done u info) :=
      (hu.bump (ho := fun _ => by split <;> omega)).complete
    exact .ite (hdone h) (.ite h (.ite (hdone h) (.ite h.refuseFlight (hdone h.setRing))))

theorem Touches.endPass (h : Touches G F s t) {f code} (hf : FlightFits G f) (hE : Footprint.fits ⟨[.flights], []⟩ F = true := by rfl) :
    Touches G F s (t.endPass f code) := h.via hE fun h => by
  refine h.setFlight fun g => ⟨(hf g).window, ?_⟩
  have hprog := (hf g).prog
  dsimp only
  split
  · trivial
  · exact hprog

theorem Touches.cancelOne (h : Touches G F s t) {id} (hE : Footprint.fits ⟨[.flights, .arrays], []⟩ F = true := by rfl) :
    Touches G F s (t.cancelOne id) := h.via hE fun h => by
  unfold State.cancelOne
  split
  · exact h
  next hf =>
    have hf' := h.flight hf
    refine .ite h ?_
    refine .ite ?_ (.ite (.ite (h.setFlight hf'.keep) h) (.ite (.ite h (h.setFlight hf'.withProg)) (h.setFlight hf'.keep)))
    extract_lets _ _ _ _ _ s2
    have hs2 : Touches G ⟨[.flights, .arrays], []⟩ t s2 := by
      unfold s2
      refine Touches.foldl (h.endPass hf') fun _ _ h' => ?_
      split
      next hg => exact h'.endPass (h'.flight hg)
      next => exact h'
    exact .ite h (.ite (h.endPass hf') (.ite hs2 hs2.setArray))

theorem Touches.cancelField (h : Touches G F s t) {id field} (hE : Footprint.fits ⟨[.regs, .flights, .arrays], [.drill]⟩ F = true := by rfl) :
    Touches G F s (t.cancelField id field) := h.via hE fun h => by
  unfold State.cancelField
  split
  · exact h
  next hf =>
    extract_lets
    split
    · exact .ite h (.setFlight ((h.foldl fun _ _ h' => h'.cancelOne).foldl fun _ _ h' => h'.setReg) (h.flightOf hf).withProg)
    · exact h

theorem Touches.returnCredit (h : Touches G F s t) {f info} (hE : Footprint.fits ⟨[.rings], []⟩ F = true := by rfl) :
    Touches G F s (t.returnCredit f info) := h.via hE fun h =>
    .ite h.setRing h

theorem Touches.drillComplete (h : Touches G F s t) {id discarded} (hE : Footprint.fits ⟨doneParts ++ [.rings], [.hitch, .cmdwin, .drill]⟩ F = true := by rfl) :
    Touches G F s (t.drillComplete id discarded) := h.via hE fun h => by
  unfold State.drillComplete
  split
  · exact h
  · refine .ite h ?_
    split
    · split
      · exact .ite h.complete h
      · exact h
    · extract_lets _ _ _ _ info
      clear_value info
      split
      · exact .ite h (Touches.complete (Touches.returnCredit (.ite h.bumpBy.bump (.ite h.bumpBy.bump h.bumpBy))))
      · exact h

theorem Touches.resetDrill (h : Touches G F s t) {f e} (hE : Footprint.fits ⟨[.rings], []⟩ F = true := by rfl) :
    Touches G F s (t.resetDrill f e) := h.via hE fun h =>
    h.foldl fun _ _ h' => h'.setRing

theorem Touches.dropRings (h : Touches G F s t) (hE : Footprint.fits ⟨[.rings], []⟩ F = true := by rfl) :
    Touches G F s t.dropRings := h.via hE fun h =>
    h.same (hf := fun h => h.same (by simp [State.lengths, State.dropRings]))

/-! ### Coulter -/




/-- A sample is on a core that there is where the condition holds. -/
def SampFits (G : Prop) (x : Samp) : Prop := G → SampOk x

theorem SampFits.keep {x y : Samp} (h : SampFits G x) (hc : y.core = x.core := by rfl) : SampFits G y := fun g => (h g).keep hc

theorem sampFits_idle {x : Samp} (hc : x.core = none := by rfl) : SampFits G x := fun _ => sampOk_idle hc

theorem Touches.sample (h : Touches G F s t) {p : Samp → Bool} {x : Samp} (hx : t.coulter.samples.find? p = some x) : SampFits G x :=
  fun g => (h.formed g).sample hx

theorem Touches.setSamp (h : Touches G F s t) {x} (hx : SampFits G x) (hE : Footprint.fits ⟨[.coulter], []⟩ F = true := by rfl) :
    Touches G F s (t.setSamp x) := h.via hE fun h =>
    h.upd fun g h => h.withSamples fun z hz => by
    obtain ⟨y, hy, rfl⟩ := List.mem_map.1 hz
    split
    · exact hx g
    · exact h.samples y hy


theorem Touches.dropSamp (h : Touches G F s t) {id} (hE : Footprint.fits ⟨[.coulter], []⟩ F = true := by rfl) :
    Touches G F s (t.dropSamp id) := h.via hE fun h =>
    h.upd fun _ h => h.withSamples h.filterSamples

theorem Touches.addSamp (h : Touches G F s t) {owner area work d} (hE : Footprint.fits ⟨[.coulter], []⟩ F = true := by rfl) :
    Touches G F s (t.addSamp owner area work d) := h.via hE fun h =>
    h.upd fun _ h => h.withSamples fun x hx => by
    rcases List.mem_append.1 hx with hx | hx
    · exact h.samples x hx
    · obtain rfl := List.mem_singleton.1 hx
      exact sampOk_idle

theorem Touches.countOutcome (h : Touches G F s t) {x outcome} (hE : Footprint.fits ⟨[.regs], [.coulter]⟩ F = true := by rfl) :
    Touches G F s (t.countOutcome x outcome) := h.via hE fun h => by
  unfold State.countOutcome
  extract_lets s1 s2 s3 s4 s5
  have hs1 : Touches G _ _ s1 := .ite h.bump h
  have hs2 : Touches G _ _ s2 := .ite hs1.bump hs1
  have hs3 : Touches G _ _ s3 := .ite hs2.bump hs2
  have hs4 : Touches G _ _ s4 := .ite hs3.bump hs3
  have hs5 : Touches G _ _ s5 := .ite hs4.bump hs4
  exact .ite hs5.bump hs5

theorem Touches.endSamp (h : Touches G F s t) {x outcome} (hx : SampFits G x) (hE : Footprint.fits ⟨eventParts ++ [.coulter], [.hitch, .coulter, .coulterDec]⟩ F = true := by rfl) :
    Touches G F s (t.endSamp x outcome) := h.via hE fun h => by
  unfold State.endSamp
  extract_lets _ _ s1 s2
  have hs1 : Touches G _ _ s1 := (h.setSamp sampFits_idle).countOutcome
  have hs2 : Touches G ⟨eventParts ++ [.coulter], [.hitch, .coulter, .coulterDec]⟩ t s2 := by
    unfold s2
    split
    next hc => exact hs1.bump (hk := fun g => hx g _ hc)
    · exact hs1
  exact .ite hs2 hs2.raise

theorem Touches.storeOut (h : Touches G F s t) {x off bs} (hE : Footprint.fits ⟨memParts ++ [.kept], [.coulter, .granary, .granaryCache]⟩ F = true := by rfl) :
    Touches G F s (t.storeOut x off bs) := h.via hE fun h =>
    .ite h.bumpBy.storeAs (h.bumpBy.foldl fun _ _ h' => h'.storeAs)

theorem Touches.zeroOut (h : Touches G F s t) {x} (hE : Footprint.fits ⟨memParts ++ [.kept], [.coulter, .granary, .granaryCache]⟩ F = true := by rfl) :
    Touches G F s (t.zeroOut x) := h.via hE fun h =>
    .ite (h.foldl fun _ _ h' => .ite h'.storeOut h') (.ite h.storeOut h)

theorem Touches.charge (h : Touches G F s t) {x n} (hx : SampFits G x) (hE : Footprint.fits ⟨[.regs], [.coulter, .coulterDec]⟩ F = true := by rfl) :
    Touches G F s (t.charge x n) := h.via hE fun h => by
  unfold State.charge
  extract_lets
  split
  next hc => exact h.bumpBy.bumpBy (hk := fun g => hx g _ hc)
  next => exact h.bumpBy


theorem Touches.sampleStart (h : Touches G F s t) {id hdr} (hE : Footprint.fits ⟨eventParts ++ [.coulter, .settled], [.hitch, .coulter, .coulterDec]⟩ F = true := by rfl) :
    Touches G F s (t.sampleStart id hdr) := h.via hE fun h => by
  unfold State.sampleStart
  split
  · exact h
  · extract_lets
    split
    · exact h
    next hcore =>
      refine .ite h ?_
      extract_lets host z s0 y _ _ s1
      have hc : G → PageKind.coulterDec.Admits _ := fun _ => coresOf_lt (List.mem_of_find?_eq_some hcore)
      have hhost {u} (hu : Touches G ⟨eventParts ++ [.coulter, .settled], [.hitch, .coulter, .coulterDec]⟩ t u) :
          Touches G ⟨eventParts ++ [.coulter, .settled], [.hitch, .coulter, .coulterDec]⟩ t (host u) :=
        .ite ((hu.bump (hk := hc)).raise (hk := hc)) hu
      have hz : SampFits G z := fun g c hz => by
        cases hz
        exact hc g
      have hs0 : Touches G _ t s0 := Touches.charge h.same hz
      have hs1 : Touches G _ t s1 := hhost <| Touches.same (h := hs0.setSamp (x := y) hz)
      exact .ite (hhost (hs0.setSamp hz)) (.ite hs1 (hs1.endSamp hz))

theorem Touches.arenaAllocate (h : Touches G F s t) {id gs} (hE : Footprint.fits ⟨[.coulter], []⟩ F = true := by rfl) :
    Touches G F s (t.arenaAllocate id gs) := h.via hE fun h => by
  unfold State.arenaAllocate
  split
  · exact h
  next hx => exact .ite (h.setSamp (h.sample hx).keep) h

theorem Touches.endTruncated (h : Touches G F s t) {x} (hx : SampFits G x) (hE : Footprint.fits ⟨eventParts ++ memParts ++ [.kept, .coulter], [.hitch, .coulter, .coulterDec, .granary, .granaryCache]⟩ F = true := by rfl) :
    Touches G F s (t.endTruncated x) := h.via hE fun h =>
    .ite (h.endSamp hx) (h.zeroOut.endSamp hx)

theorem Touches.storeAudio (h : Touches G F s t) {x b chs} (hE : Footprint.fits ⟨memParts ++ [.kept], [.coulter, .granary, .granaryCache]⟩ F = true := by rfl) :
    Touches G F s (t.storeAudio x b chs) := h.via hE fun h => by
  refine h.foldl fun _ _ h' => ?_
  dsimp only
  split
  · exact h'
  · exact h'.storeOut

theorem Touches.unitOutput (h : Touches G F s t) {x u} (hE : Footprint.fits ⟨memParts ++ [.kept], [.coulter, .granary, .granaryCache]⟩ F = true := by rfl) :
    Touches G F s (t.unitOutput x u).1 := h.via hE fun h => by
  refine .iteFst (.iteFst h h.storeAudio) <| .iteFst (.iteFst h h.storeOut) ?_
  exact List.foldlRecOn (motive := fun a : State × Samp × Option Nat => Touches G _ _ a.1) _ _ h fun _ ha _ _ =>
    .iteFst ha <| .iteFst ha <| .iteFst ha ha.storeOut


theorem Touches.finishSamp (h : Touches G F s t) {x} (hx : SampFits G x) (hE : Footprint.fits ⟨eventParts ++ memParts ++ [.kept, .coulter], [.hitch, .coulter, .coulterDec, .granary, .granaryCache]⟩ F = true := by rfl) :
    Touches G F s (t.finishSamp x) := h.via hE fun h =>
    .ite (h.endTruncated hx) (.ite (h.endTruncated hx) (h.endSamp hx))

theorem Touches.syntaxUnit (h : Touches G F s t) {id u0} (hE : Footprint.fits ⟨eventParts ++ memParts ++ [.flights, .kept, .coulter], [.hitch, .coulter, .coulterDec, .granary, .granaryCache]⟩ F = true := by rfl) :
    Touches G F s (t.syntaxUnit id u0) := h.via hE fun h => by
  unfold State.syntaxUnit
  split
  · exact h
  next hx =>
    have hx' := h.sample hx
    split
    · exact h
    · refine .ite h <| .ite (h.endSamp hx') <| .ite ?_ ?_
      · split
        next hf => exact h.dropSamp.setFlight (h.flight hf).keep
        next => exact h.dropSamp
      · extract_lets _ _ y s2 r s3 _ _ z s4
        have hs2 : Touches G _ t s2 := h.charge hx'.keep
        refine .ite ((hs2.setSamp hx'.keep).endSamp hx'.keep) <| .ite (hs2.endSamp hx'.keep) <| .ite (hs2.endSamp hx'.keep) <|
          .ite (hs2.endTruncated hx'.keep) ?_
        have hr : Touches G _ t r.1 := .iteFst hs2.storeOut hs2.unitOutput
        have hz : SampFits G r.2.1 := hx'.keep (by
          unfold r
          split
          · rfl
          · exact State.unitOutput_core)
        have hs4 : Touches G _ t s4 := (hr.charge hx').setSamp hz.keep
        clear_value r
        split
        · exact hs4.endSamp hz.keep
        · exact .ite (hs4.endSamp hz.keep) <| .ite (hs4.finishSamp hz.keep) hs4

/-- A core set to a state. -/
theorem Touches.setCore (h : Touches G F s t) {c k} (hE : Footprint.fits ⟨[.coulter], []⟩ F = true := by rfl) :
    Touches G F s { t with coulter := { t.coulter with cores := t.coulter.cores.set c k } } :=
  h.via hE fun h => h.same (hf := fun h => h.setCore)

theorem Touches.failCore (h : Touches G F s t) {c code check} (hc : G → PageKind.coulterDec.Admits c) (hE : Footprint.fits ⟨eventParts ++ [.coulter], [.hitch, .coulter, .coulterDec]⟩ F = true := by rfl) :
    Touches G F s (t.failCore c code check) := h.via hE fun h => by
  unfold State.failCore
  refine .ite h ?_
  extract_lets x _ s1 s2 s3
  have hs1 : Touches G _ _ s1 := h.setCore
  have hs2 : Touches G ⟨eventParts ++ [.coulter], [.hitch, .coulter, .coulterDec]⟩ t s2 := by
    clear_value x
    cases x with
    | none => exact hs1
    | some y => exact hs1.setSamp sampFits_idle
  have hs3 : Touches G _ t s3 := hs2.raiseErr (hk := hc)
  exact .ite hs3.raiseErr hs3

theorem Touches.coreHung (h : Touches G F s t) {c} (hc : G → PageKind.coulterDec.Admits c) (hE : Footprint.fits ⟨eventParts ++ [.coulter], [.hitch, .coulter, .coulterDec]⟩ F = true := by rfl) :
    Touches G F s (t.coreHung c) := h.via hE fun h => by
  unfold State.coreHung
  split
  · exact .ite (h.failCore hc) h
  · exact h

end Sys2Proof.Machine
end

section
/-!
What the sample pipeline and the live streams touch.
-/
namespace Sys2Proof.Machine

set_option Elab.async false

variable {G : Prop} {F : Footprint} {s t u : State}

/-! ### Sample -/

theorem Touches.setSlot (h : Touches G F s t) {k v} (hE : Footprint.fits ⟨[.coulter], []⟩ F = true := by rfl) :
    Touches G F s (t.setSlot k v) := h.via hE fun h =>
    h.same

theorem Touches.emptyWindrow (h : Touches G F s t) (hE : Footprint.fits ⟨[.coulter], []⟩ F = true := by rfl) :
    Touches G F s t.emptyWindrow := h.via hE fun h =>
    h.same

theorem Touches.dropSamples (h : Touches G F s t) {owner} (hE : Footprint.fits ⟨[.coulter], []⟩ F = true := by rfl) :
    Touches G F s (t.dropSamples owner) := h.via hE fun h =>
    h.upd fun _ h => h.withSamples h.filterSamples

theorem Touches.abortBatch (h : Touches G F s t) {f code} (hE : Footprint.fits ⟨doneParts ++ [.coulter], [.hitch, .cmdwin]⟩ F = true := by rfl) :
    Touches G F s (t.abortBatch f code) := h.via hE fun h => by
  unfold State.abortBatch
  extract_lets _ s2
  have hs2 : Touches G ⟨doneParts ++ [.coulter], [.hitch, .cmdwin]⟩ t s2 := by
    unfold s2
    split
    · exact h.dropSamples.setSlot
    · exact h.dropSamples
  exact hs2.complete

theorem Touches.runDecode (h : Touches G F s t) {id} (hE : Footprint.fits ⟨doneParts ++ memParts ++ [.kept, .coulter], [.hitch, .cmdwin, .granary, .granaryCache]⟩ F = true := by rfl) :
    Touches G F s (t.runDecode id) := h.via hE fun h => by
  unfold State.runDecode
  split
  · exact h
  next hf =>
    have hf' := h.flightOf hf
    split
    · exact h.dropSamples.complete
    · refine .ite (.ite (h.addSamp.setFlight hf'.withProg) h) ?_
      split
      · exact h
      · split
        · exact h
        · exact h.storeAs.dropSamples.complete

theorem Touches.cancelCoulter (h : Touches G F s t) {id} (hE : Footprint.fits ⟨doneParts ++ [.coulter], [.hitch, .cmdwin, .coulter]⟩ F = true := by rfl) :
    Touches G F s (t.cancelCoulter id) := h.via hE fun h => by
  unfold State.cancelCoulter
  split
  · exact h
  · refine .ite h <| .ite h.bump.abortBatch ?_
    split
    · exact h.bump.complete
    next hx => exact .ite (h.setSamp ((h.sample hx).keep)).bump (.ite h.dropSamples.bump.complete (h.setSamp (h.sample hx).keep))

theorem Touches.runCoulterCancel (h : Touches G F s t) {id} (hE : Footprint.fits ⟨doneParts ++ [.coulter], [.hitch, .cmdwin, .coulter]⟩ F = true := by rfl) :
    Touches G F s (t.runCoulterCancel id) := h.via hE fun h => by
  unfold State.runCoulterCancel
  split
  · exact h
  · split
    · exact .ite h.complete h
    · refine .ite h ?_
      extract_lets _ s1
      have hs1 : Touches G _ _ s1 := h.foldl fun _ _ h' => h'.cancelCoulter
      split
      next hg => exact hs1.setFlight (hs1.flight hg).withProg
      next => exact hs1

theorem Touches.putArea (h : Touches G F s t) {f p j bytes rec} (hE : Footprint.fits ⟨memParts ++ [.kept], [.granary, .granaryCache]⟩ F = true := by rfl) :
    Touches G F s (t.putArea f p j bytes rec) := h.via hE fun h =>
    h.storeAs.storeAs

theorem Touches.zeroArea (h : Touches G F s t) {f p j outcome tried live} (hf : FlightFits G f) (hE : Footprint.fits ⟨eventParts ++ memParts ++ [.flights, .kept], [.hitch, .sample, .granary, .granaryCache]⟩ F = true := by rfl) :
    Touches G F s (t.zeroArea f p j outcome tried live) := h.via hE fun h =>
    .raiseErr <| .bump <| h.putArea.setFlight hf.withProg

theorem Touches.fillArea (h : Touches G F s t) {f p j i m live crib what} (hf : FlightFits G f) (hE : Footprint.fits ⟨memParts ++ [.flights, .kept, .winnow], [.sample, .granary, .granaryCache, .winnow]⟩ F = true := by rfl) :
    Touches G F s (t.fillArea f p j i m live crib what) := h.via hE fun h => by
  unfold State.fillArea
  extract_lets _ _ _ _ s1 _ p1 s2
  have hs2 : Touches G _ _ s2 := h.putArea.report.setFlight hf.withProg
  exact .ite hs2.bump hs2

theorem Touches.emptyCrib (h : Touches G F s t) (hE : Footprint.fits ⟨[.coulter], []⟩ F = true := by rfl) :
    Touches G F s t.emptyCrib := h.via hE fun h =>
    h.same

theorem Touches.cribInsert (h : Touches G F s t) {key x outcome gs}
    (hE : Footprint.fits ⟨memParts ++ [.kept, .coulter], [.sample, .granary, .granaryCache]⟩ F = true := by rfl) :
    ∀ u ∈ t.cribInsert key x outcome gs, Touches G F s u := fun u hu => h.via hE fun h => by
  revert u
  unfold State.cribInsert
  split
  · exact ofSome h
  · extract_lets
    split
    · exact ofSome h.bump
    · split
      · simp
      · exact ofSome (Touches.same (h := h.foldl fun _ _ h' => h'.storeAs))

theorem Touches.areaFail (h : Touches G F s t) {f p j outcome} (hf : FlightFits G f) (hE : Footprint.fits ⟨doneParts ++ memParts ++ [.kept, .coulter], [.hitch, .cmdwin, .sample, .granary, .granaryCache]⟩ F = true := by rfl) :
    Touches G F s (t.areaFail f p j outcome) := h.via hE fun h =>
    .ite (.ite h.abortBatch (h.setFlight hf.withProg)) (h.zeroArea hf)

theorem Touches.areaLookup (h : Touches G F s t) {f p j a} (hf : FlightFits G f) (hE : Footprint.fits ⟨doneParts ++ memParts ++ [.kept, .coulter, .winnow], [.hitch, .cmdwin, .sample, .granary, .granaryCache, .winnow]⟩ F = true := by rfl) :
    Touches G F s (t.areaLookup f p j a) := h.via hE fun h => by
  unfold State.areaLookup
  extract_lets _ _ _ decode
  have hdecode {E u} (hu : Touches G E t u) (hE : Footprint.fits ⟨[.flights, .coulter], []⟩ E = true := by rfl) : Touches G E t (decode u) :=
    hu.via hE fun hu => hu.addSamp.setFlight hf.withProg
  refine .ite (h.areaFail hf) <| .ite h.abortBatch <| .ite h.abortBatch <| .ite (h.areaFail hf) <| .ite (hdecode h) ?_
  split
  · exact hdecode h.bump
  · refine .ite (hdecode <| .bump <| .bump <| h.same) ?_
    split
    · exact h.bump.areaFail hf
    · exact h.bump.fillArea hf

theorem Touches.areaDecoded (h : Touches G F s t) {f p j a gs} (hf : FlightFits G f) (hE : Footprint.fits ⟨doneParts ++ memParts ++ [.kept, .coulter, .winnow], [.hitch, .cmdwin, .sample, .granary, .granaryCache, .winnow]⟩ F = true := by rfl) :
    Touches G F s (t.areaDecoded f p j a gs) := h.via hE fun h => by
  unfold State.areaDecoded
  extract_lets
  split
  · exact h
  · split
    · exact h
    · split
      · exact h
      · next s1 hs1 =>
        have hs1 : Touches G ⟨doneParts ++ memParts ++ [.kept, .coulter, .winnow], [.hitch, .cmdwin, .sample, .granary, .granaryCache, .winnow]⟩ t s1 := by
          split at hs1
          · exact (h.cribInsert) _ hs1
          · exact ofSome h _ hs1
        exact .ite (hs1.fillArea hf).dropSamp (hs1.areaFail hf).dropSamp

theorem Touches.runBatch (h : Touches G F s t) {id j gs} (hE : Footprint.fits ⟨doneParts ++ memParts ++ [.kept, .coulter, .winnow], [.hitch, .cmdwin, .sample, .granary, .granaryCache, .winnow]⟩ F = true := by rfl) :
    Touches G F s (t.runBatch id j gs) := h.via hE fun h => by
  unfold State.runBatch
  split
  · exact h
  next hf =>
    have hf' := h.flightOf hf
    split
    · exact h.abortBatch
    · refine .ite (.ite h.complete h) ?_
      split
      · exact h
      · extract_lets
        split
        · exact h
        · exact .ite h (.ite (h.areaLookup hf') (.ite (h.areaDecoded hf') h))

theorem Touches.sealBatch (h : Touches G F s t) {id} (hE : Footprint.fits ⟨doneParts ++ [.coulter], [.hitch, .cmdwin, .sample]⟩ F = true := by rfl) :
    Touches G F s (t.sealBatch id) := h.via hE fun h => by
  unfold State.sealBatch
  split
  · exact h
  · split
    · exact h
    · refine .ite h ?_
      extract_lets s1 s2
      have hs1 : Touches G _ _ s1 := h.setSlot.bump
      exact Touches.complete (.ite hs1.same hs1)

theorem Touches.releaseWindrow (h : Touches G F s t) {id} (hE : Footprint.fits ⟨doneParts ++ [.coulter], [.hitch, .cmdwin, .sample]⟩ F = true := by rfl) :
    Touches G F s (t.releaseWindrow id) := h.via hE fun h => by
  unfold State.releaseWindrow
  split
  · exact h
  · refine .ite h ?_
    extract_lets _ _ s1
    have hs1 : Touches G _ _ s1 := h.foldl fun _ _ h' => h'.setSlot
    exact Touches.complete (.ite hs1.same.bump.raiseErr hs1)
/-! ### Live -/

theorem Touches.setLive (h : Touches G F s t) {i x} (hE : Footprint.fits ⟨[.coulter], []⟩ F = true := by rfl) :
    Touches G F s (t.setLive i x) := h.via hE fun h =>
    h.same (hf := fun h => h.same (by simp [State.lengths, State.setLive]))

theorem Touches.liveWrite (h : Touches G F s t) {i v} (hi : G → i < 8) (hE : Footprint.fits ⟨[.regs, .coulter], [.live]⟩ F = true := by rfl) :
    ∀ u ∈ t.liveWrite i v, Touches G F s u := fun u hu => h.via hE fun h => by
  revert u
  have hset : Touches G ⟨[.regs, .coulter], [.live]⟩ t (t.setReg (liveReg i 0) v) := h.setReg (ho := fun g => by have := hi g; omega)
  unfold State.liveWrite
  extract_lets
  split
  · simp
  · split
    · split
      · simp
      · exact ofSome hset.setLive
    · split
      · exact ofSome hset.setLive
      · exact ofSome hset

theorem Touches.frameDone (h : Touches G F s t) {i} (hi : G → i < 8) (hE : Footprint.fits ⟨memParts ++ [.kept, .coulter], [.live, .granary, .granaryCache]⟩ F = true := by rfl) :
    Touches G F s (t.frameDone i) := h.via hE fun h =>
    (Touches.bump (.ite (h.storeAs.bump (ho := fun g => by have := hi g; omega)) h.storeAs) (ho := fun g => by have := hi g; omega)).setLive

theorem Touches.frameBegin (h : Touches G F s t) {i stamp} (hE : Footprint.fits ⟨eventParts ++ [.coulter], [.hitch, .live]⟩ F = true := by rfl) :
    Touches G F s (t.frameBegin i stamp) := h.via hE fun h =>
    .ite h.setLive.raiseErr h.setLive

theorem Touches.audioTake (h : Touches G F s t) {i stamp n chs} (hi : G → i < 8)
    (hE : Footprint.fits ⟨eventParts ++ memParts ++ [.kept, .coulter], [.hitch, .live, .granary, .granaryCache]⟩ F = true := by rfl) :
    Touches G F s (t.audioTake i stamp n chs) := h.via hE fun h => by
  refine h.iterFor (f := fun n u chs => u.audioTake i stamp n chs) (fun u chs => rfl) (fun n u chs h ih => ?_) n chs
  unfold State.audioTake
  refine .ite h ?_
  extract_lets s1 c x new s2 s3
  have hs2 : Touches G _ _ s2 := Touches.setLive (.ite h h.frameBegin)
  exact ih _ _ (.ite (hs2.frameDone hi) hs2)

theorem Touches.livePacket (h : Touches G F s t) {p} (hE : Footprint.fits ⟨eventParts ++ memParts ++ [.kept, .coulter], [.hitch, .live, .granary, .granaryCache]⟩ F = true := by rfl) :
    Touches G F s (t.livePacket p) := h.via hE fun h => by
  unfold State.livePacket
  extract_lets _ _ _ _ _ _ s2 _ _ _ _ old _ s3
  have hs2 : Touches G _ _ s2 := h.bump.setLive.setLive
  have hold : Touches G _ _ old := .ite hs2.bump hs2
  have hs3 : Touches G _ _ s3 := .ite hold.frameBegin hold
  refine .ite h <| .ite h.bump.setLive <| .ite h.bump.setLive ?_
  have hi := p.stream.isLt
  have hgap : Touches G _ t (s2.bump (liveReg p.stream.val 0x30)) := hs2.bump
  refine .ite ((Touches.setLive (.ite hgap.setLive hs2)).audioTake fun _ => hi) <| .ite (.ite hs2.setLive hs2) ?_
  exact .ite hs3.setLive (.ite hs3.setLive.bump.setLive (hs3.setLive.frameDone fun _ => hi))

theorem Touches.liveLost (h : Touches G F s t) {i} (hE : Footprint.fits ⟨eventParts ++ [.coulter], [.hitch, .live]⟩ F = true := by rfl) :
    Touches G F s (t.liveLost i) := h.via hE fun h =>
    .ite h.setLive.raiseErr h

theorem Touches.takeFrames (h : Touches G F s t) {id n}
    (hE : Footprint.fits ⟨doneParts ++ memParts ++ [.kept, .coulter, .winnow], [.hitch, .cmdwin, .sample, .live, .granary, .granaryCache, .winnow]⟩ F = true := by rfl) :
    Touches G F s (t.takeFrames id n) := h.via hE fun h => by
  refine h.iter (f := fun n u => u.takeFrames id n) (fun u => rfl) (fun n u h ih => ?_) n
  unfold State.takeFrames
  split
  · exact h
  next hf =>
    split
    · exact h
    · extract_lets i x _
      have hi : i < 8 := fld_lt _ 18 16
      split
      · exact .ite (ih _ (h.setLive.bump (ho := fun _ => by omega))) <| .ite h.setLive.abortBatch (ih _ (h.setLive.fillArea (h.flightOf hf)))
      · exact h

theorem Touches.liveTake (h : Touches G F s t) {id} (hE : Footprint.fits ⟨doneParts ++ memParts ++ [.kept, .coulter, .winnow], [.hitch, .cmdwin, .sample, .live, .granary, .granaryCache, .winnow]⟩ F = true := by rfl) :
    Touches G F s (t.liveTake id) := h.via hE fun h => by
  unfold State.liveTake
  split
  · exact h
  · exact .ite h.takeFrames h

theorem Touches.zeroRest (h : Touches G F s t) {id n}
    (hE : Footprint.fits ⟨eventParts ++ memParts ++ [.flights, .kept], [.hitch, .sample, .granary, .granaryCache]⟩ F = true := by rfl) :
    Touches G F s (t.zeroRest id n) := h.via hE fun h => by
  refine h.iter (f := fun n u => u.zeroRest id n) (fun u => rfl) (fun n u h ih => ?_) n
  unfold State.zeroRest
  split
  · exact h
  next hf =>
    split
    · exact h
    · split
      · exact ih _ (h.zeroArea (h.flightOf hf))
      · exact h

theorem Touches.liveExpire (h : Touches G F s t) {id} (hE : Footprint.fits ⟨eventParts ++ memParts ++ [.flights, .kept], [.hitch, .sample, .granary, .granaryCache]⟩ F = true := by rfl) :
    Touches G F s (t.liveExpire id) := h.via hE fun h => by
  unfold State.liveExpire
  split
  · exact h
  · split
    · exact h
    · exact .ite h.zeroRest h

theorem Touches.batchStart (h : Touches G F s t) {id} (hE : Footprint.fits ⟨doneParts ++ memParts ++ [.kept, .coulter, .winnow], [.hitch, .cmdwin, .sample, .live, .granary, .granaryCache, .winnow]⟩ F = true := by rfl) :
    Touches G F s (t.batchStart id) := h.via hE fun h => by
  unfold State.batchStart
  split
  · exact h
  next hf =>
    refine .ite h ?_
    extract_lets _ s1 _ s2
    have hs1 : Touches G _ _ s1 := h.setSlot.setFlight (h.flightOf hf).withProg
    have hs2 : Touches G _ _ s2 := hs1.same
    exact .ite hs2.liveTake hs2

theorem Touches.resetStreams (h : Touches G F s t) (hE : Footprint.fits ⟨[.coulter], []⟩ F = true := by rfl) :
    Touches G F s t.resetStreams := h.via hE fun h =>
    h.same (hf := fun h => h.same (by simp [State.lengths, State.resetStreams]))

theorem Touches.resetSample (h : Touches G F s t) (hE : Footprint.fits ⟨[.coulter], []⟩ F = true := by rfl) :
    Touches G F s t.resetSample := h.via hE fun h =>
    h.resetStreams.upd fun _ h => h.withSamples fun x hx => absurd hx List.not_mem_nil

theorem Touches.resetSamplePage (h : Touches G F s t) (hE : Footprint.fits ⟨[.flights, .coulter], []⟩ F = true := by rfl) :
    Touches G F s t.resetSamplePage := h.via hE fun h => by
  unfold State.resetSamplePage
  extract_lets ids s1
  have hs1 : Touches G _ _ s1 := h.foldl fun _ _ h' => h'.dropSamples
  exact hs1.upd fun _ h => h.withFlights (FlightsOk.filter h.flights)

end Sys2Proof.Machine
end

section
/-!
What Thresher touches.
-/
namespace Sys2Proof.Machine

set_option Elab.async false

variable {G : Prop} {F : Footprint} {s t u : State}

/-! ### Thresher -/

theorem Touches.setChan (h : Touches G F s t) {c x} (hE : Footprint.fits ⟨[.thr], []⟩ F = true := by rfl) :
    Touches G F s (t.setChan c x) := h.via hE fun h =>
    h.same (hf := fun h => h.same (by simp [State.lengths, State.setChan]))

theorem Touches.enableChannel (h : Touches G F s t) {c} (hE : Footprint.fits ⟨[.thr], []⟩ F = true := by rfl) :
    ∀ u ∈ t.enableChannel c, Touches G F s u := fun u hu => h.via hE fun h => by
  revert u
  unfold State.enableChannel
  extract_lets
  split
  · simp
  · exact ofSome (Touches.setChan (Touches.same (h := h)))
/-! ### Collective -/


theorem collF_ch_lt {d : List Word512} : (collF d).ch < 32 := fld_lt _ _ _

theorem FlightFits.coll {f : Flight} {p : CollProg} (h : FlightFits G f) (hp : f.coll? = some p) : G → PageKind.thrCh.Admits p.ch :=
  fun g => (h g).coll hp

theorem Touches.collFlight (h : Touches G F s t) {c number} {f : Flight} (hf : t.collFlight c number = some f) : FlightFits G f :=
  fun g => (h.formed g).collFlight hf

/-- A collective in flight, found and read, names a channel that there is. -/
theorem Touches.collOf (h : Touches G F s t) {id} {p : CollProg} (hp : (t.flight id).bind Flight.coll? = some p) :
    G → PageKind.thrCh.Admits p.ch :=
  fun g => (h.formed g).collOf hp

theorem Touches.noteColl (h : Touches G F s t) {d step} (hE : Footprint.fits ⟨[.thr], []⟩ F = true := by rfl) :
    Touches G F s (t.noteColl d step) := h.via hE fun h => by
  unfold State.noteColl
  extract_lets c x s1
  have hs1 : Touches G _ _ s1 := h.setChan
  exact .ite h (.ite hs1.same hs1)

/-- A collective's progress stored, of the channel of another one that is good. -/
theorem Touches.setColl (h : Touches G F s t) {id} {p q : CollProg} (hp : G → PageKind.thrCh.Admits q.ch) (hq : p.ch = q.ch := by rfl) (hE : Footprint.fits ⟨[.flights], []⟩ F = true := by rfl) :
    Touches G F s (t.setColl id p) := h.via hE fun h => by
  unfold State.setColl
  split
  next hf => exact h.setFlight fun g => (h.flight hf g).withProg rfl (hq ▸ hp g : p.ch < 32)
  next => exact h

theorem Touches.thrSend (h : Touches G F s t) {m} (hE : Footprint.fits ⟨[.thr], []⟩ F = true := by rfl) :
    Touches G F s (t.thrSend m) := h.via hE fun h =>
    h.same


theorem Touches.failColl (h : Touches G F s t) {f} {p : CollProg} {outcome} {q : CollProg} (hp : G → PageKind.thrCh.Admits q.ch) (hq : p.ch = q.ch := by rfl) (hE : Footprint.fits ⟨[.flights], []⟩ F = true := by rfl) :
    Touches G F s (t.failColl f p outcome) := h.via hE fun h =>
    h.setColl hp hq

theorem Touches.setArb (h : Touches G F s t) {a} (hE : Footprint.fits ⟨[.thr], []⟩ F = true := by rfl) :
    Touches G F s (t.setArb a) := h.via hE fun h =>
    h.same

theorem Touches.arbToken (h : Touches G F s t) {c number t'} (hc : G → PageKind.thrCh.Admits c) (hE : Footprint.fits ⟨eventParts ++ [.thr], [.hitch, .thrCh]⟩ F = true := by rfl) :
    Touches G F s (t.arbToken c number t') := h.via hE fun h =>
    .ite (.ite (by split <;> exact h.setArb) h.setArb) (.ite h (.ite ((h.bump (hk := hc)).raise (hk := hc)) (.ite h (.ite h.setArb h.setArb))))

theorem Touches.arbStart (h : Touches G F s t) {c number deadline root t'} (hc : G → PageKind.thrCh.Admits c) (hE : Footprint.fits ⟨eventParts ++ [.thr], [.hitch, .thrCh]⟩ F = true := by rfl) :
    Touches G F s (t.arbStart c number deadline root t') := h.via hE fun h =>
    have hundelivered {l : List ArbTok} {u} (hu : Touches G ⟨eventParts ++ [.thr], [.hitch, .thrCh]⟩ t u) :
        Touches G ⟨eventParts ++ [.thr], [.hitch, .thrCh]⟩ t
          (l.foldl (fun t _ => (t.bump (thrChReg c 0x150)).raise .thrCh c 2 0 0) u) :=
      hu.foldl fun _ _ h' => (h'.bump (hk := hc)).raise (hk := hc)
    .ite (hundelivered h).setArb (hundelivered h).setArb

theorem Touches.readyToken (h : Touches G F s t) {c number t'} (hc : G → PageKind.thrCh.Admits c) (hE : Footprint.fits ⟨eventParts ++ [.thr], [.hitch, .thrCh]⟩ F = true := by rfl) :
    Touches G F s (t.readyToken c number t') := h.via hE fun h =>
    .ite (h.arbToken hc) h

theorem Touches.deadlineExpiry (h : Touches G F s t) {c number} (hE : Footprint.fits ⟨[.thr], []⟩ F = true := by rfl) :
    Touches G F s (t.deadlineExpiry c number) := h.via hE fun h => by
  unfold State.deadlineExpiry
  split
  · exact .ite h.setArb h
  · exact h

theorem Touches.sealReceived (h : Touches G F s t) {c number x} (hc : G → PageKind.thrCh.Admits c) (hE : Footprint.fits ⟨eventParts ++ [.flights], [.hitch, .thrCh]⟩ F = true := by rfl) :
    Touches G F s (t.sealReceived c number x) := h.via hE fun h => by
  unfold State.sealReceived
  split
  · exact h
  next f hf =>
    split
    · exact h
    next hp =>
      have hp := (h.collFlight hf).coll hp
      have hlate := (h.bump (off := 0x158) (hk := hc)).raise (bit := 3) (info := 0) (workId := f.work) (hk := hc)
      exact .ite h (.ite (Touches.failColl (.ite hlate h) hp) (Touches.setColl (.ite hlate h) hp))

theorem Touches.sealColl (h : Touches G F s t) {c number} (hc : G → PageKind.thrCh.Admits c) (hE : Footprint.fits ⟨eventParts ++ [.flights, .thr], [.hitch, .thrCh]⟩ F = true := by rfl) :
    Touches G F s (t.sealColl c number) := h.via hE fun h => by
  unfold State.sealColl
  split
  · exact h
  · exact .ite h ((h.setArb.foldl fun _ _ h' => h'.thrSend).sealReceived hc)

theorem Touches.sealResend (h : Touches G F s t) {c number pos} (hE : Footprint.fits ⟨[.thr], []⟩ F = true := by rfl) :
    Touches G F s (t.sealResend c number pos) := h.via hE fun h => by
  unfold State.sealResend
  split
  · split
    · exact h.thrSend
    · exact h
  · exact h

theorem Touches.dataLimitExpiry (h : Touches G F s t) {c number undelivered} (hE : Footprint.fits ⟨[.thr], []⟩ F = true := by rfl) :
    Touches G F s (t.dataLimitExpiry c number undelivered) := h.via hE fun h => by
  unfold State.dataLimitExpiry
  split
  · exact h
  · split
    · exact h
    · exact .ite h.setArb h

theorem Touches.arbReport (h : Touches G F s t) {c number reporter peer} (hE : Footprint.fits ⟨[.thr], []⟩ F = true := by rfl) :
    Touches G F s (t.arbReport c number reporter peer) := h.via hE fun h => by
  unfold State.arbReport
  split
  · exact h
  · exact .ite h.setArb h

theorem Touches.peerReport (h : Touches G F s t) {c number reporter peer} (hE : Footprint.fits ⟨[.thr], []⟩ F = true := by rfl) :
    Touches G F s (t.peerReport c number reporter peer) := h.via hE fun h =>
    .ite h (.ite h.arbReport (.ite h.thrSend h))

theorem Touches.reportDecision (h : Touches G F s t) {c number} (hE : Footprint.fits ⟨[.thr], []⟩ F = true := by rfl) :
    Touches G F s (t.reportDecision c number) := h.via hE fun h => by
  unfold State.reportDecision
  split
  · exact h
  · split
    · exact h
    · exact .ite h.setArb h

theorem Touches.collStart (h : Touches G F s t) {id} (hE : Footprint.fits ⟨eventParts ++ [.flights, .thr], [.hitch, .thrCh]⟩ F = true := by rfl) :
    Touches G F s (t.collStart id) := h.via hE fun h => by
  unfold State.collStart
  split
  · exact h
  next hf =>
    split
    · exact h
    next hp =>
      have hp := (h.flight hf).coll hp
      have hs1 := h.setFlight ((h.flight hf).keep (g := { (_ : Flight) with started := true }))
      exact .ite h (.ite (hs1.setColl hp) (.ite ((hs1.setColl hp).arbStart fun _ => collF_ch_lt) (hs1.setColl hp).thrSend))

theorem Touches.noSeal (h : Touches G F s t) {id} (hE : Footprint.fits ⟨[.flights], []⟩ F = true := by rfl) :
    Touches G F s (t.noSeal id) := h.via hE fun h => by
  unfold State.noSeal
  split
  · exact h
  next hf =>
    split
    · exact h
    next hp =>
      have hp := (h.flight hf).coll hp
      exact .ite (h.failColl hp) h

theorem Touches.withdraw (h : Touches G F s t) {f} {p : CollProg} {q : CollProg} (hp : G → PageKind.thrCh.Admits q.ch) (hq : p.ch = q.ch := by rfl) (hE : Footprint.fits ⟨eventParts ++ [.flights, .thr], [.hitch, .thrCh]⟩ F = true := by rfl) :
    Touches G F s (t.withdraw f p) := h.via hE fun h => by
  unfold State.withdraw
  extract_lets _ _ s1
  have hs1 : Touches G _ _ s1 := h.setColl hp hq
  exact .ite (hs1.arbToken fun g => (hq ▸ hp g : p.ch < 32)) hs1.thrSend

theorem Touches.sendBlock (h : Touches G F s t) {c number dest b} (hE : Footprint.fits ⟨[.regs, .thr], [.thresher]⟩ F = true := by rfl) :
    Touches G F s (t.sendBlock c number dest b) := h.via hE fun h =>
    h.bumpBy.thrSend

theorem Touches.sendKept (h : Touches G F s t) {id c number dest b} (hE : Footprint.fits ⟨[.regs, .flights, .thr], [.thresher]⟩ F = true := by rfl) :
    Touches G F s (t.sendKept id c number dest b) := h.via hE fun h => by
  unfold State.sendKept
  refine Touches.sendBlock ?_
  split
  next hp => exact h.setColl (h.collOf hp)
  next => exact h

theorem Touches.haveResult (h : Touches G F s t) {id key codes} (hE : Footprint.fits ⟨memParts ++ [.flights, .kept, .thr], [.thresher, .granary, .granaryCache]⟩ F = true := by rfl) :
    Touches G F s (t.haveResult id key codes) := h.via hE fun h => by
  unfold State.haveResult
  split
  · exact h
  next hf =>
    split
    · exact h
    next hp =>
      have hp := (h.flight hf).coll hp
      split
      · exact h
      · refine .ite h ?_
        exact ((Touches.setColl (.ite h.storeAs h) hp).foldl fun _ _ h' => h'.sendBlock).foldl fun _ _ h' => h'.sendBlock

theorem Touches.passBlock (h : Touches G F s t) {id b} (hE : Footprint.fits ⟨eventParts ++ memParts ++ [.flights, .kept, .thr], [.hitch, .thresher, .thrCh, .granary, .granaryCache]⟩ F = true := by rfl) :
    Touches G F s (t.passBlock id b) := h.via hE fun h => by
  unfold State.passBlock
  split
  · exact h
  next hf =>
    split
    · exact h
    next hp =>
      have hp := (h.flight hf).coll hp
      split
      · exact h
      · extract_lets
        split
        · exact h
        · refine .ite h <| .ite (h.withdraw hp) ?_
          extract_lets
          split
          · exact (h.setColl hp).sendKept
          · exact (h.setColl hp).haveResult

theorem Touches.runReduction (h : Touches G F s t) {id op} (hE : Footprint.fits ⟨eventParts ++ memParts ++ [.flights, .kept, .thr, .winnow], [.hitch, .thresher, .thrCh, .granary, .granaryCache, .winnow]⟩ F = true := by rfl) :
    Touches G F s (t.runReduction id op) := h.via hE fun h => by
  unfold State.runReduction
  split
  · exact h
  next hf =>
    split
    · exact h
    next hp =>
      have hp := (h.flightOf hf).coll hp
      split
      · exact h
      · refine .ite h <| .ite (h.setColl hp) <| .ite (h.withdraw hp) ?_
        exact (Touches.setColl (.ite h h.report.bumpBy) hp).foldl fun _ _ h' => h'.passBlock

theorem Touches.sendHeld (h : Touches G F s t) {c number dest num kind results inc keys} (hE : Footprint.fits ⟨[.regs, .thr], [.thresher]⟩ F = true := by rfl) :
    Touches G F s (t.sendHeld c number dest num kind results inc keys) := h.via hE fun h => by
  unfold State.sendHeld
  refine Touches.foldl h fun _ _ h' => ?_
  split
  · exact h'
  · exact h'.sendBlock

theorem Touches.forwardHeld (h : Touches G F s t) {c inc num number kids results} (hE : Footprint.fits ⟨[.regs, .thr], [.thresher]⟩ F = true := by rfl) :
    Touches G F s (t.forwardHeld c inc num number kids results) := h.via hE fun h =>
    h.foldl fun _ _ h' => h'.sendHeld

theorem Touches.runDelivery (h : Touches G F s t) {id op} (hE : Footprint.fits ⟨eventParts ++ memParts ++ [.flights, .kept, .thr], [.hitch, .thresher, .thrCh, .granary, .granaryCache]⟩ F = true := by rfl) :
    Touches G F s (t.runDelivery id op) := h.via hE fun h => by
  unfold State.runDelivery
  split
  · exact h
  next hf =>
    split
    · exact h
    next hp =>
      have hp := (h.flightOf hf).coll hp
      split
      · exact h
      · extract_lets _ _ _ _ _ _ _ s1' s2 _ _ s3
        have hs1' : Touches G _ _ s1' := .ite (h.setColl hp).forwardHeld (h.setColl hp)
        have hs2 : Touches G _ _ s2 := hs1'.foldl fun _ _ h' => h'.storeAs
        have hs3 : Touches G _ _ s3 := hs2.foldl fun _ _ h' => h'.haveResult
        exact .ite h (.ite (h.withdraw hp) (.ite hs2 (.ite (hs3.foldl fun _ _ h' => h'.foldl fun _ _ h2 => h2.sendKept) hs3)))

theorem Touches.runVerdict (h : Touches G F s t) {id others} (hE : Footprint.fits ⟨[.flights], []⟩ F = true := by rfl) :
    Touches G F s (t.runVerdict id others) := h.via hE fun h => by
  unfold State.runVerdict
  split
  · exact h
  next hf =>
    split
    · exact h
    next hp =>
      have hp := (h.flight hf).coll hp
      split
      · exact h
      · refine .ite h (h.setColl ?_)
        split <;> exact hp

theorem Touches.failLanes (h : Touches G F s t) {f ch block ls}
    (hE : Footprint.fits ⟨eventParts ++ [.thr], [.hitch, .thresher]⟩ F = true := by rfl) : Touches G F s (t.failLanes f ch block ls).1 := by
  induction ls generalizing t with
  | nil => exact h
  | cons l ls ih =>
    unfold State.failLanes
    refine .iteFst h <| .iteFst (ih h) (ih (h.via hE fun h => ?_))
    have hs1 : Touches G _ t { t with thr := { t.thr with lanes := t.thr.lanes ||| (1 <<< l.val) } } := h.same
    exact .ite hs1.bump.raiseErr.raiseErr hs1.bump.raiseErr

theorem Touches.badBlock (h : Touches G F s t) {f} {p : CollProg} {b} {q : CollProg} (hp : G → PageKind.thrCh.Admits q.ch) (hq : p.ch = q.ch := by rfl) (hE : Footprint.fits ⟨[.regs, .flights, .thr], [.thresher]⟩ F = true := by rfl) :
    Touches G F s (t.badBlock f p b) := h.via hE fun h => by
  unfold State.badBlock
  extract_lets _ _ p1 s1
  have hs1 : Touches G _ _ s1 := h.setColl hp hq
  exact .ite hs1.bump.thrSend (.ite hs1.peerReport (h.setColl hp ((CollProg.detach_ch _).trans hq)))

theorem Touches.blockReceived (h : Touches G F s t) {c number b} (hE : Footprint.fits ⟨eventParts ++ memParts ++ [.flights, .kept, .thr], [.hitch, .thresher, .thrCh, .granary, .granaryCache]⟩ F = true := by rfl) :
    Touches G F s (t.blockReceived c number b) := h.via hE fun h => by
  unfold State.blockReceived
  split
  · exact h
  next hf =>
    split
    · exact h
    next hp =>
      have hp := (h.collFlight hf).coll hp
      split
      · exact h
      · refine .ite h <| .ite (h.bumpBy.badBlock hp) <| .ite ?_ ?_
        · exact .ite h.bumpBy.failLanes (h.bumpBy.failLanes.setColl hp).passBlock
        · extract_lets s1
          have hs1 : Touches G _ _ s1 := (h.bumpBy.setColl hp).haveResult
          split
          · exact hs1
          · exact hs1.thrSend

theorem Touches.segmentAck (h : Touches G F s t) {c number tree child bytes} (hE : Footprint.fits ⟨[.flights], []⟩ F = true := by rfl) :
    Touches G F s (t.segmentAck c number tree child bytes) := h.via hE fun h => by
  unfold State.segmentAck
  split
  · exact h
  next hf =>
    split
    · exact h
    next hp =>
      have hp := (h.collFlight hf).coll hp
      exact h.setColl hp

theorem Touches.childDetach (h : Touches G F s t) {c number tree child offsets} (hE : Footprint.fits ⟨[.regs, .flights, .thr], [.thresher]⟩ F = true := by rfl) :
    Touches G F s (t.childDetach c number tree child offsets) := h.via hE fun h => by
  unfold State.childDetach
  split
  · exact h
  next hf =>
    split
    next hp _ =>
      have hp := (h.collFlight hf).coll hp
      extract_lets
      split
      next => exact h
      · exact .ite h ((h.setColl hp).foldl fun _ _ h' => h'.sendHeld)
    next => exact h

theorem Touches.repairFetch (h : Touches G F s t) {c number tree other} (hE : Footprint.fits ⟨[.flights, .thr], []⟩ F = true := by rfl) :
    Touches G F s (t.repairFetch c number tree other) := h.via hE fun h => by
  unfold State.repairFetch
  split
  · exact h
  next hf =>
    split
    next hp _ => exact .ite h (h.setColl ((h.collFlight hf).coll hp) (CollProg.detach_ch _)).thrSend
    next => exact h

theorem Touches.repairServe (h : Touches G F s t) {c number tree other off n} (hE : Footprint.fits ⟨[.regs, .flights, .thr], [.thresher]⟩ F = true := by rfl) :
    Touches G F s (t.repairServe c number tree other off n) := h.via hE fun h => by
  unfold State.repairServe
  split
  · exact h
  · extract_lets _ _ _ _ _ s1
    have hs1 : Touches G ⟨[.regs, .flights, .thr], [.thresher]⟩ t s1 := by
      unfold s1
      split
      next hf =>
        split
        next hp => exact h.setColl ((h.collFlight hf).coll hp)
        next => exact h
      next => exact h
    exact hs1.sendHeld

theorem Touches.blockAgain (h : Touches G F s t) {c number tree other block kind} (hE : Footprint.fits ⟨[.regs, .thr], [.thresher]⟩ F = true := by rfl) :
    Touches G F s (t.blockAgain c number tree other block kind) := h.via hE fun h => by
  unfold State.blockAgain
  split
  · exact h
  · extract_lets
    split
    · exact h.sendBlock
    · exact .ite h h.sendHeld

theorem Touches.repairRequest (h : Touches G F s t) {c number tree other ask} (hE : Footprint.fits ⟨[.regs, .flights, .thr], [.thresher]⟩ F = true := by rfl) :
    Touches G F s (t.repairRequest c number tree other ask) := h.via hE fun h => by
  unfold State.repairRequest
  split
  · exact h.repairFetch
  · exact h.repairServe
  · exact h.blockAgain

theorem Touches.endColl (h : Touches G F s t) {f p} (hE : Footprint.fits ⟨doneParts ++ memParts ++ [.kept, .thr, .verdicts], [.hitch, .cmdwin, .thresher, .thrCh, .granary, .granaryCache]⟩ F = true := by rfl) :
    Touches G F s (t.endColl f p) := h.via hE fun h => by
  unfold State.endColl
  extract_lets _ _ _ _ s1 _ _ s2 s2' s3 s4 s5 s6
  have hs1 : Touches G _ _ s1 := h.storeAs
  have hs2 : Touches G _ _ s2 := .ite (.ite (Touches.putProbeMaxima hs1.same) hs1.same) hs1
  have hc : G → PageKind.thrCh.Admits (collF f.words).ch := fun _ => collF_ch_lt
  have hs2' : Touches G _ _ s2' := .ite hs2 (hs2.bump (hk := hc))
  have hs3 : Touches G _ _ s3 := .ite (hs2'.raiseErr (hk := hc)) hs2'
  have hs4 : Touches G _ _ s4 := .ite ((hs3.bump (hk := hc)).raise (hk := hc)) hs3
  have hs5 : Touches G _ _ s5 := .ite (hs4.bump (hk := hc)) hs4
  have hs6 : Touches G _ _ s6 := (hs5.bump (hk := hc)).bump
  clear_value s6
  exact Touches.complete (hs6.same)

theorem Touches.collComplete (h : Touches G F s t) {id} (hE : Footprint.fits ⟨doneParts ++ memParts ++ [.kept, .thr, .verdicts], [.hitch, .cmdwin, .thresher, .thrCh, .granary, .granaryCache]⟩ F = true := by rfl) :
    Touches G F s (t.collComplete id) := h.via hE fun h => by
  unfold State.collComplete
  split
  · exact h
  next hf =>
    split
    · exact h
    next hp =>
      have hp := (h.flight hf).coll hp
      exact .ite h (.ite h.endColl (.ite h.endColl h))

theorem Touches.repairExpiry (h : Touches G F s t) {id} (hE : Footprint.fits ⟨doneParts ++ memParts ++ [.kept, .thr, .verdicts], [.hitch, .cmdwin, .thresher, .thrCh, .granary, .granaryCache]⟩ F = true := by rfl) :
    Touches G F s (t.repairExpiry id) := h.via hE fun h => by
  unfold State.repairExpiry
  split
  · exact h
  next hf =>
    split
    · exact h
    next hp =>
      have hp := (h.flight hf).coll hp
      split
      · exact h
      · exact .ite (.ite h.endColl (h.failColl hp)) h

theorem Touches.cancelColl (h : Touches G F s t) {id} (hE : Footprint.fits ⟨doneParts ++ [.thr], [.hitch, .cmdwin, .thresher, .thrCh]⟩ F = true := by rfl) :
    Touches G F s (t.cancelColl id) := h.via hE fun h => by
  unfold State.cancelColl
  split
  · exact h
  next hf =>
    split
    · exact h
    next hp =>
      have hp := (h.flight hf).coll hp
      exact .ite (((h.bump (hk := hp)).bump).bump (hk := hp)).complete (.ite (h.withdraw hp) h)

theorem Touches.runThrCancel (h : Touches G F s t) {id} (hE : Footprint.fits ⟨doneParts ++ [.thr], [.hitch, .cmdwin, .thresher, .thrCh]⟩ F = true := by rfl) :
    Touches G F s (t.runThrCancel id) := h.via hE fun h => by
  unfold State.runThrCancel
  split
  · exact h
  · split
    · exact .ite h.complete h
    · refine .ite h ?_
      extract_lets _ s1
      have hs1 : Touches G _ _ s1 := h.foldl fun _ _ h' => h'.cancelColl
      split
      next hg => exact hs1.setFlight ((hs1.flight hg).withProg)
      next => exact hs1

theorem Touches.resetThresher (h : Touches G F s t) (hE : Footprint.fits ⟨[.thr], []⟩ F = true := by rfl) :
    Touches G F s t.resetThresher := h.via hE fun h =>
    h.same (hf := fun h => h.same (by simp [State.lengths, State.resetThresher]))

end Sys2Proof.Machine
end

section
/-!
What Swath touches.
-/
namespace Sys2Proof.Machine

set_option Elab.async false

variable {G : Prop} {F : Footprint} {s t u : State}

theorem Touches.setLink (h : Touches G F s t) {l x} (hE : Footprint.fits ⟨[.swath], []⟩ F = true := by rfl) :
    Touches G F s (t.setLink l x) := h.via hE fun h =>
    h.same (hf := fun h => h.same (by simp [State.lengths, State.setLink]))

theorem Touches.setPort (h : Touches G F s t) {p x} (hE : Footprint.fits ⟨[.swath], []⟩ F = true := by rfl) :
    Touches G F s (t.setPort p x) := h.via hE fun h =>
    h.same (hf := fun h => h.same (by simp [State.lengths, State.setPort]))




theorem Touches.setConn (h : Touches G F s t) {e c} (hE : Footprint.fits ⟨[.swath], []⟩ F = true := by rfl) :
    Touches G F s (t.setConn e c) := h.via hE fun h =>
    h.same

theorem Touches.swSend (h : Touches G F s t) {x} (hE : Footprint.fits ⟨[.swath], []⟩ F = true := by rfl) :
    Touches G F s (t.swSend x) := h.via hE fun h =>
    h.same

theorem Touches.collPeerLost (h : Touches G F s t) {modno id} (hE : Footprint.fits ⟨[.flights, .thr], []⟩ F = true := by rfl) :
    Touches G F s (t.collPeerLost modno id) := h.via hE fun h => by
  unfold State.collPeerLost
  split
  · exact h
  next hf =>
    split
    next hp _ =>
      have hp := (h.flight hf).coll hp
      extract_lets
      split
      · exact h
      · exact .ite h (.ite h.peerReport (h.setColl hp (CollProg.detach_ch _)))
    next => exact h


theorem Touches.recoPeerLost (h : Touches G F s t) {e} (hE : Footprint.fits ⟨[.flights], []⟩ F = true := by rfl) :
    Touches G F s (t.recoPeerLost e) := h.via hE fun h =>
    h.upd fun _ h => h.withFlights <| FlightsOk.map h.flights fun f hf => by
    split
    next => exact iteFlight hf.keep (iteFlight hf.keep hf)
    next => exact hf

theorem Touches.reportLost (h : Touches G F s t) {e} (hE : Footprint.fits ⟨[.flights, .thr], []⟩ F = true := by rfl) :
    Touches G F s (t.reportLost e) := h.via hE fun h => by
  unfold State.reportLost
  extract_lets
  split
  · exact .ite h.recoPeerLost (h.recoPeerLost.foldl fun _ _ h' => h'.collPeerLost)
  · exact h.recoPeerLost

theorem Touches.isolate (h : Touches G F s t) (hE : Footprint.fits ⟨eventParts ++ [.flights, .thr, .swath], [.hitch, .transport]⟩ F = true := by rfl) :
    Touches G F s t.isolate := h.via hE fun h =>
    h.same.raiseErr.foldl fun _ _ h' => h'.reportLost

theorem Touches.refreshService (h : Touches G F s t) {before} (hE : Footprint.fits ⟨eventParts ++ [.flights, .thr, .swath], [.hitch, .transport, .ptp]⟩ F = true := by rfl) :
    Touches G F s (t.refreshService before) := h.via hE fun h =>
    .ite (Touches.isolate (.ite h.raiseErr h)) (.ite (Touches.same (h := .ite h.raiseErr h)) (.ite h.raiseErr h))

theorem swathPort_admits {l : Nat} (hl : l < 64) : PageKind.swathPort.Admits (l / 8) := show l / 8 < 8 by omega

theorem State.lt_of_linkExists {l : Nat} (h : t.linkExists l = true) : l < 64 := by
  simp only [State.linkExists, Bool.and_eq_true, decide_eq_true_eq] at h
  exact h.1

theorem Touches.dropLink (h : Touches G F s t) {l} (hE : Footprint.fits ⟨eventParts ++ [.flights, .thr, .swath], [.hitch, .swath, .swathPort, .transport, .ptp]⟩ F = true := by rfl) :
    Touches G F s (t.dropLink l) := h.via hE fun h => by
  unfold State.dropLink
  extract_lets
  split
  · exact h
  next hl =>
    have hl : l < 64 := State.lt_of_linkExists (t := t) (by simp_all)
    exact (h.setLink.bump (hk := fun _ => swathPort_admits hl)).raiseErr.refreshService

theorem Touches.laneFails (h : Touches G F s t) {p lane} (hE : Footprint.fits ⟨eventParts ++ [.flights, .thr, .swath], [.hitch, .swath, .swathPort, .transport, .ptp]⟩ F = true := by rfl) :
    Touches G F s (t.laneFails p lane) := h.via hE fun h =>
    h.setPort.dropLink

theorem Touches.retrainLink (h : Touches G F s t) {l ok} (hE : Footprint.fits ⟨[.swath], []⟩ F = true := by rfl) :
    Touches G F s (t.retrainLink l ok) := h.via hE fun h =>
    .ite h (.ite h.setPort.setLink h.setLink)

theorem Touches.laserLow (h : Touches G F s t) {p} (hE : Footprint.fits ⟨eventParts ++ [.flights, .thr, .swath], [.hitch, .swath, .swathPort, .transport, .ptp]⟩ F = true := by rfl) :
    Touches G F s (t.laserLow p) := h.via hE fun h =>
    .ite h ((h.setPort.foldl fun _ _ h' => h'.dropLink).raiseErr)

theorem Touches.laserRestored (h : Touches G F s t) {p} (hE : Footprint.fits ⟨[.swath], []⟩ F = true := by rfl) :
    Touches G F s (t.laserRestored p) := h.via hE fun h =>
    h.setPort

theorem Touches.enablePort (h : Touches G F s t) {p on} (hE : Footprint.fits ⟨eventParts ++ [.flights, .thr, .swath], [.hitch, .transport, .ptp]⟩ F = true := by rfl) :
    Touches G F s (t.enablePort p on) := h.via hE fun h =>
    (h.foldl fun _ _ h' => h'.setLink).setPort.refreshService

theorem Touches.pfcPause (h : Touches G F s t) {p prios} (hp : G → PageKind.swathPort.Admits p) (hE : Footprint.fits ⟨[.regs, .swath], [.swathPort]⟩ F = true := by rfl) :
    Touches G F s (t.pfcPause p prios) := h.via hE fun h =>
    h.setPort.bump (hk := hp)

theorem Touches.transmit (h : Touches G F s t) {e d} (hE : Footprint.fits ⟨[.mem, .swath], []⟩ F = true := by rfl) :
    ∀ u ∈ t.transmit e d, Touches G F s u := fun u hu => h.via hE fun h => by
  revert u
  unfold State.transmit
  extract_lets
  split
  · simp
  · split
    · simp
    · exact ofSome h.putBytes.setConn.swSend

theorem Touches.pumpConn (h : Touches G F s t) {e n} (hE : Footprint.fits ⟨[.mem, .swath], []⟩ F = true := by rfl) :
    Touches G F s (t.pumpConn e n) := h.via hE fun h => by
  refine h.iter (f := fun n u => u.pumpConn e n) (fun u => rfl) (fun n u h ih => ?_) n
  unfold State.pumpConn
  split
  · exact h
  · split
    · exact h
    · next u hu => exact ih _ ((h.transmit) u hu).setConn

theorem Touches.queueData (h : Touches G F s t) {e d} (hE : Footprint.fits ⟨[.mem, .swath], []⟩ F = true := by rfl) :
    Touches G F s (t.queueData e d) := h.via hE fun h =>
    h.setConn.pumpConn

theorem Touches.resendSlot (h : Touches G F s t) {e x timer} (hE : Footprint.fits ⟨[.regs, .swath], [.transport]⟩ F = true := by rfl) :
    Touches G F s (t.resendSlot e x timer) := h.via hE fun h => by
  unfold State.resendSlot
  split
  · exact h
  · exact h.setConn.bump.swSend

theorem Touches.probeAll (h : Touches G F s t) {e} (hE : Footprint.fits ⟨[.swath], []⟩ F = true := by rfl) :
    Touches G F s (t.probeAll e) := h.via hE fun h =>
    h.setConn.foldl fun _ _ h' => h'.swSend

theorem Touches.sendAck (h : Touches G F s t) {e} (hE : Footprint.fits ⟨[.swath], []⟩ F = true := by rfl) :
    Touches G F s (t.sendAck e) := h.via hE fun h =>
    h.setConn.swSend

theorem Touches.ackTimer (h : Touches G F s t) {e} (hE : Footprint.fits ⟨[.swath], []⟩ F = true := by rfl) :
    Touches G F s (t.ackTimer e) := h.via hE fun h =>
    .ite h.sendAck h

theorem Touches.endTransfer (h : Touches G F s t) {f code} (hE : Footprint.fits ⟨doneParts ++ [.swath], [.hitch, .cmdwin]⟩ F = true := by rfl) :
    Touches G F s (t.endTransfer f code) := h.via hE fun h =>
    Touches.complete (.ite h.setConn h)

theorem Touches.startTransfer (h : Touches G F s t) {f} (hf : FlightFits G f) (hE : Footprint.fits ⟨[.flights, .swath], []⟩ F = true := by rfl) :
    Touches G F s (t.startTransfer f) := h.via hE fun h =>
    Touches.setFlight h.setConn hf.withProg

theorem Touches.swathWrite (h : Touches G F s t) {id} (hE : Footprint.fits ⟨doneParts ++ [.mem, .kept, .swath], [.hitch, .cmdwin, .granaryCache]⟩ F = true := by rfl) :
    Touches G F s (t.swathWrite id) := h.via hE fun h => by
  unfold State.swathWrite
  split
  · exact h
  next hf =>
    have hf := h.flightOf hf
    refine .ite h <| .ite h.complete <| .ite (h.startTransfer hf) <| .ite (.ite h.endTransfer ?_) (.ite h h.complete)
    split
    · exact h
    · next u hu => exact ((h.readHint.transmit) u hu).setFlight hf.withProg

theorem Touches.swathRead (h : Touches G F s t) {id} (hE : Footprint.fits ⟨doneParts ++ [.mem, .swath], [.hitch, .cmdwin]⟩ F = true := by rfl) :
    Touches G F s (t.swathRead id) := h.via hE fun h => by
  unfold State.swathRead
  split
  · exact h
  next hf =>
    have hf := h.flightOf hf
    refine .ite h <| .ite h.complete <| .ite (h.startTransfer hf) <| .ite ?_ (.ite h.complete h)
    split
    · exact h
    · next u hu => exact ((h.transmit) u hu).setFlight hf.withProg

theorem Touches.swathCancel (h : Touches G F s t) {id} (hE : Footprint.fits ⟨doneParts ++ [.swath], [.hitch, .cmdwin]⟩ F = true := by rfl) :
    Touches G F s (t.swathCancel id) := h.via hE fun h => by
  unfold State.swathCancel
  split
  · exact h
  · exact .ite h ((h.foldl fun _ _ h' => h'.endTransfer).complete)

theorem Touches.swAccept (h : Touches G F s t) {rx type} (hE : Footprint.fits ⟨[.regs], [.swath, .transport]⟩ F = true := by rfl) :
    Touches G F s (t.swAccept rx type).1 := h.via hE fun h => by
  unfold State.swAccept
  extract_lets s1
  have hs1 : Touches G ⟨[.regs], [.swath, .transport]⟩ t s1 := .ite h.bump h
  refine .iteFst h <| .iteFst h.bump ?_
  split
  · exact hs1.bump
  · exact .iteFst hs1.bump <| .iteFst hs1.bump <| .iteFst h hs1

theorem Touches.resetConn (h : Touches G F s t) {e inc} (hE : Footprint.fits ⟨doneParts ++ [.thr, .swath], [.hitch, .cmdwin]⟩ F = true := by rfl) :
    Touches G F s (t.resetConn e inc) := h.via hE fun h =>
    h.reportLost.setConn.foldl fun _ _ h' => h'.complete

theorem Touches.noteInc (h : Touches G F s t) {e inc} (hE : Footprint.fits ⟨doneParts ++ [.thr, .swath], [.hitch, .cmdwin]⟩ F = true := by rfl) :
    Touches G F s (t.noteInc e inc) := h.via hE fun h =>
    .ite h (.ite h.setConn h.resetConn)

theorem Touches.sendNack (h : Touches G F s t) {e user} (hE : Footprint.fits ⟨[.regs, .swath], [.transport]⟩ F = true := by rfl) :
    Touches G F s (t.sendNack e user) := h.via hE fun h =>
    h.bump.swSend

theorem Touches.refillData (h : Touches G F s t) {e msg off payload} (hE : Footprint.fits ⟨memParts ++ [.flights], [.granary]⟩ F = true := by rfl) :
    Touches G F s (t.refillData e msg off payload) := h.via hE fun h => by
  unfold State.refillData
  extract_lets
  split
  · exact h
  next hf =>
    have hf : FlightFits G _ := fun g => (h.formed g).flights _ (List.mem_of_find?_eq_some hf)
    split
    · exact .ite h (.ite (h.setFlight hf.withProg) (h.store.setFlight hf.withProg))
    · exact h

theorem Touches.refillDenied (h : Touches G F s t) {e msg} (hE : Footprint.fits ⟨[.flights], []⟩ F = true := by rfl) :
    Touches G F s (t.refillDenied e msg) := h.via hE fun h =>
    h.upd fun _ h => h.withFlights <| FlightsOk.map h.flights fun f hf => by
    split
    next => exact iteFlight hf.keep (iteFlight hf.keep hf)
    next => exact hf

theorem Touches.answerRead (h : Touches G F s t) {e user msg a n} (hE : Footprint.fits ⟨[.mem, .swath], []⟩ F = true := by rfl) :
    Touches G F s (t.answerRead e user msg a n) := h.via hE fun h =>
    h.setConn.foldl fun _ _ h' => h'.queueData

theorem Touches.showHosted (h : Touches G F s t) (hE : Footprint.fits ⟨[.regs], [.recovery]⟩ F = true := by rfl) :
    Touches G F s t.showHosted := h.via hE fun h =>
    h.setReg

theorem Touches.buddyUser (h : Touches G F s t) {e h' payload b} (hE : Footprint.fits ⟨memParts ++ [.flights, .swath, .recov], [.transport, .recovery, .granary]⟩ F = true := by rfl) :
    Touches G F s (t.buddyUser e h' payload b) := h.via hE fun h => by
  unfold State.buddyUser
  extract_lets
  split
  · exact .ite h.sendNack (Touches.same (h := h.store) (hf := fun h => h.same (by simp [State.lengths]))).showHosted
  · exact .ite h.sendNack (Touches.same (h := h.store) (hf := fun h => h.same (by simp [State.lengths]))).showHosted
  · exact .ite h.sendNack h.answerRead
  · exact h.refillData
  · exact h

theorem Touches.swathUser (h : Touches G F s t) {e h' payload b} (hE : Footprint.fits ⟨memParts ++ [.flights, .kept, .swath], [.transport, .granary, .granaryCache]⟩ F = true := by rfl) :
    Touches G F s (t.swathUser e h' payload b) := h.via hE fun h => by
  unfold State.swathUser
  split
  · exact h
  · exact .ite h.store h.sendNack
  · exact .ite h.sendNack h.answerRead
  · split
    · exact h.refillData
    next hf =>
      have hf : FlightFits G _ := fun g => (h.formed g).flights _ (List.mem_of_find?_eq_some hf)
      exact .ite h (h.store.writeHint.setFlight hf.withProg)
  · exact h

theorem Touches.dataReceived (h : Touches G F s t) {rx} (hE : Footprint.fits ⟨memParts ++ [.flights, .kept, .swath, .recov], [.swath, .transport, .recovery, .granary, .granaryCache]⟩ F = true := by rfl) :
    Touches G F s (t.dataReceived rx) := h.via hE fun h => by
  have hs1 : Touches G _ t (t.swAccept rx 0).1 := h.swAccept
  unfold State.dataReceived
  generalize t.swAccept rx 0 = r at hs1 ⊢
  obtain ⟨s1, _ | ⟨hd, payload⟩⟩ := r
  · exact hs1
  · dsimp only at hs1 ⊢
    refine .ite hs1.bump <| .ite (.ite hs1.setConn.bump.sendAck hs1) ?_
    generalize advanceCum _ _ _ = r
    refine .ite (Touches.sendAck (.ite hs1.setConn.swathUser (.ite hs1.setConn.buddyUser hs1.setConn)))
      (.ite hs1.setConn.swathUser (.ite hs1.setConn.buddyUser hs1.setConn))

theorem Touches.heard (h : Touches G F s t) {e} (hE : Footprint.fits ⟨[.regs, .swath], [.transport]⟩ F = true := by rfl) :
    Touches G F s (t.heard e) := h.via hE fun h =>
    .ite (h.setConn.foldl fun _ _ h' => h'.resendSlot) h.setConn

theorem Touches.ackReceived (h : Touches G F s t) {rx} (hE : Footprint.fits ⟨[.regs, .mem, .swath], [.swath, .transport]⟩ F = true := by rfl) :
    Touches G F s (t.ackReceived rx) := h.via hE fun h => by
  have hs1 : Touches G _ t (t.swAccept rx 1).1 := h.swAccept
  unfold State.ackReceived
  generalize t.swAccept rx 1 = r at hs1 ⊢
  obtain ⟨s1, _ | ⟨hd, payload⟩⟩ := r
  · exact hs1
  · exact (hs1.setConn.heard.foldl fun _ _ h' => h'.resendSlot).pumpConn

theorem Touches.nackReceived (h : Touches G F s t) {rx msg} (hE : Footprint.fits ⟨doneParts ++ [.swath], [.hitch, .cmdwin, .swath, .transport]⟩ F = true := by rfl) :
    Touches G F s (t.nackReceived rx msg) := h.via hE fun h => by
  have hs1 : Touches G _ t (t.swAccept rx 2).1 := h.swAccept
  unfold State.nackReceived
  generalize t.swAccept rx 2 = r at hs1 ⊢
  obtain ⟨s1, _ | ⟨hd, payload⟩⟩ := r
  · exact hs1
  · dsimp only
    split
    · exact hs1.refillDenied
    · exact hs1.endTransfer

theorem Touches.rtoExpiry (h : Touches G F s t) {e seq} (hE : Footprint.fits ⟨[.regs, .swath], [.transport]⟩ F = true := by rfl) :
    Touches G F s (t.rtoExpiry e seq) := h.via hE fun h => by
  unfold State.rtoExpiry
  split
  · exact h
  · exact .ite h h.setConn.resendSlot

theorem Touches.probeReceived (h : Touches G F s t) {rx} (hE : Footprint.fits ⟨doneParts ++ [.thr, .swath], [.hitch, .cmdwin, .swath, .transport]⟩ F = true := by rfl) :
    Touches G F s (t.probeReceived rx) := h.via hE fun h => by
  have hs1 : Touches G _ t (t.swAccept rx 3).1 := h.swAccept
  unfold State.probeReceived
  generalize t.swAccept rx 3 = r at hs1 ⊢
  obtain ⟨s1, _ | ⟨hd, payload⟩⟩ := r
  · exact hs1
  · exact hs1.noteInc.swSend

theorem Touches.probeReply (h : Touches G F s t) {rx} (hE : Footprint.fits ⟨doneParts ++ [.mem, .thr, .swath], [.hitch, .cmdwin, .swath, .transport]⟩ F = true := by rfl) :
    Touches G F s (t.probeReply rx) := h.via hE fun h => by
  have hs1 : Touches G _ t (t.swAccept rx 4).1 := h.swAccept
  unfold State.probeReply
  generalize t.swAccept rx 4 = r at hs1 ⊢
  obtain ⟨s1, _ | ⟨hd, payload⟩⟩ := r
  · exact hs1
  · exact hs1.noteInc.heard.pumpConn

theorem Touches.probeTimer (h : Touches G F s t) {e} (hE : Footprint.fits ⟨[.swath], []⟩ F = true := by rfl) :
    Touches G F s (t.probeTimer e) := h.via hE fun h =>
    .ite h.probeAll h

theorem Touches.memberMissing (h : Touches G F s t) {e} (hE : Footprint.fits ⟨eventParts ++ [.swath], [.hitch, .transport]⟩ F = true := by rfl) :
    Touches G F s (t.memberMissing e) := h.via hE fun h =>
    .ite (.ite h.setConn.raiseErr h.setConn) h

theorem Touches.peerUnreachable (h : Touches G F s t) {e} (hE : Footprint.fits ⟨eventParts ++ [.flights, .thr, .swath], [.hitch, .transport]⟩ F = true := by rfl) :
    Touches G F s (t.peerUnreachable e) := h.via hE fun h =>
    .ite h (.ite h.memberMissing h.setConn.raiseErr.reportLost.memberMissing)

theorem Touches.endConns (h : Touches G F s t) (hE : Footprint.fits ⟨doneParts ++ [.swath], [.hitch, .cmdwin]⟩ F = true := by rfl) :
    Touches G F s t.endConns := h.via hE fun h =>
    (h.foldl fun _ _ h' => h'.recoPeerLost).same.foldl fun _ _ h' => h'.complete

theorem Touches.planLoad (h : Touches G F s t) (hE : Footprint.fits ⟨doneParts ++ [.thr, .swath], [.hitch, .cmdwin, .transport, .ptp]⟩ F = true := by rfl) :
    ∀ u ∈ t.planLoad, Touches G F s u := fun u hu => h.via hE fun h => by
  revert u
  unfold State.planLoad
  extract_lets
  split
  · simp
  · have hs1 : Touches G _ t t.endConns := h.endConns
    exact ofSome (Touches.refreshService (hs1.upd fun _ h => h.withLinks ((List.length_map _).trans (List.length_range.trans h.links.symm))))

theorem Touches.planUnload (h : Touches G F s t) (hE : Footprint.fits ⟨doneParts ++ [.thr, .swath], [.hitch, .cmdwin, .transport, .ptp]⟩ F = true := by rfl) :
    Touches G F s t.planUnload := h.via hE fun h =>
    Touches.refreshService (h.endConns.upd fun _ h => h.withLinks (by simp))

theorem Touches.cutLink (h : Touches G F s t) {l report} (hl : l < 64) (hE : Footprint.fits ⟨eventParts ++ [.flights, .thr, .swath], [.hitch, .swathPort, .transport, .ptp]⟩ F = true := by rfl) :
    Touches G F s (t.cutLink l report) := h.via hE fun h =>
    .ite (h.setLink.refreshService.raiseErr (hk := fun _ => swathPort_admits hl)) h.setLink.refreshService

theorem Touches.extraLink (h : Touches G F s t) {l} (hl : l < 64) (hE : Footprint.fits ⟨eventParts ++ [.swath], [.hitch, .swathPort]⟩ F = true := by rfl) :
    Touches G F s (t.extraLink l) := h.via hE fun h =>
    h.setLink.raiseErr (hk := fun _ => swathPort_admits hl)

theorem Touches.serveLink (h : Touches G F s t) {l} (hE : Footprint.fits ⟨eventParts ++ [.flights, .thr, .swath], [.hitch, .transport, .ptp]⟩ F = true := by rfl) :
    Touches G F s (t.serveLink l) := h.via hE fun h =>
    h.setLink.refreshService.foldl fun _ _ h' => h'.swSend

theorem Touches.judgeLink (h : Touches G F s t) {l limit} (hE : Footprint.fits ⟨eventParts ++ [.flights, .thr, .swath], [.hitch, .swathPort, .transport, .ptp]⟩ F = true := by rfl) :
    Touches G F s (t.judgeLink l limit) := h.via hE fun h => by
  unfold State.judgeLink
  extract_lets
  split
  · exact h
  next hl =>
    have hl : l < 64 := State.lt_of_linkExists (t := t) (by simp_all)
    split
    · exact .ite (h.extraLink hl) h
    · exact h
    · exact .ite (.ite h.serveLink (h.cutLink hl)) (.ite (h.cutLink hl) h)
    · exact .ite (h.cutLink hl) h

theorem Touches.lldpReceived (h : Touches G F s t) {l chassisType portType chassis port} (hE : Footprint.fits ⟨eventParts ++ [.flights, .thr, .swath], [.hitch, .swathPort, .transport, .ptp]⟩ F = true := by rfl) :
    Touches G F s (t.lldpReceived l chassisType portType chassis port) := h.via hE fun h =>
    .ite h h.setLink.judgeLink

theorem Touches.lldpSend (h : Touches G F s t) (hE : Footprint.fits ⟨[.swath], []⟩ F = true := by rfl) :
    Touches G F s t.lldpSend := h.via hE fun h =>
    .ite h (h.same.foldl fun _ _ h' => h'.swSend)

theorem Touches.discoveryLimit (h : Touches G F s t) (hE : Footprint.fits ⟨eventParts ++ [.flights, .thr, .swath], [.hitch, .swathPort, .transport, .ptp]⟩ F = true := by rfl) :
    Touches G F s t.discoveryLimit := h.via hE fun h => by
  unfold State.discoveryLimit
  refine .ite h ?_
  extract_lets s1
  have hs1 : Touches G _ t s1 := h.foldl fun _ _ h' => h'.judgeLink
  clear_value s1
  exact Touches.foldl (.ite hs1.same hs1.isolate) fun _ _ h' => h'.setConn.probeAll

theorem Touches.ptpMessage (h : Touches G F s t) {m} (hE : Footprint.fits ⟨[.regs], [.ptp]⟩ F = true := by rfl) :
    Touches G F s (t.ptpMessage m) := h.via hE fun h => by
  unfold State.ptpMessage
  extract_lets _ _ _ s1 s2
  have hs1 : Touches G ⟨[.regs], [.ptp]⟩ t s1 := .ite h h.bump
  have hs2 : Touches G ⟨[.regs], [.ptp]⟩ t s2 := .ite hs1.bump hs1
  exact .ite h (.ite hs1 (.ite hs2.setRf.setReg.setReg.setReg hs2.setRf))

theorem Touches.ptpSyncSend (h : Touches G F s t) (hE : Footprint.fits ⟨[.swath], []⟩ F = true := by rfl) :
    Touches G F s t.ptpSyncSend := h.via hE fun h =>
    .ite h (h.foldl fun _ _ h' => h'.swSend)

theorem Touches.resetSwath (h : Touches G F s t) (hE : Footprint.fits ⟨[.swath], []⟩ F = true := by rfl) :
    Touches G F s t.resetSwath := h.via hE fun h =>
    h.upd fun _ h => h.withLinks (by simp [State.resetSwath])

end Sys2Proof.Machine
end

section
/-!
What the Almanac, a furlong and recovery touch.
-/
namespace Sys2Proof.Machine

set_option Elab.async false

variable {G : Prop} {F : Footprint} {s t u : State}

/-! ### Almanac -/

theorem Touches.almAdvance (h : Touches G F s t) (hE : Footprint.fits ⟨[.alm], []⟩ F = true := by rfl) :
    Touches G F s t.almAdvance := h.via hE fun h =>
    .ite h h.same.same

theorem Touches.slew (h : Touches G F s t) {ppm} (hE : Footprint.fits ⟨[.alm, .freeCtr], []⟩ F = true := by rfl) :
    Touches G F s (t.slew ppm) := h.via hE fun h =>
    h.same.drawn

theorem Touches.measure (h : Touches G F s t) {offset} (hE : Footprint.fits ⟨eventParts ++ [.alm, .freeCtr], [.hitch, .almanac]⟩ F = true := by rfl) :
    Touches G F s (t.measure offset) := h.via hE fun h => by
  unfold State.measure
  extract_lets _ _ _ _ _ _ s1
  have hs1 : Touches G ⟨eventParts ++ [.alm, .freeCtr], [.hitch, .almanac]⟩ t s1 := .ite h.same.slew (.ite h.same.same h.same.same.raiseErr)
  split
  · exact h.same.same
  · exact .ite hs1.same hs1.same
  · exact .ite h.same.same.raiseErr h.same.slew
  · exact .ite h.same.same (.ite h.same.same h.same.same)

theorem Touches.ptpMeasurement (h : Touches G F s t) {offset} (hE : Footprint.fits ⟨eventParts ++ [.alm, .freeCtr], [.hitch, .almanac]⟩ F = true := by rfl) :
    Touches G F s (t.ptpMeasurement offset) := h.via hE fun h =>
    .ite h.measure h

theorem Touches.ppsEdge (h : Touches G F s t) (hE : Footprint.fits ⟨eventParts ++ [.alm, .freeCtr], [.hitch, .almanac]⟩ F = true := by rfl) :
    Touches G F s t.ppsEdge := h.via hE fun h =>
    .ite h (.ite h.same.same (.ite h.same.measure h.same))

theorem Touches.enterHoldover (h : Touches G F s t) (hE : Footprint.fits ⟨eventParts ++ [.alm], [.hitch, .almanac]⟩ F = true := by rfl) :
    Touches G F s t.enterHoldover := h.via hE fun h =>
    .ite h.same.bump.raiseErr h

theorem Touches.fireGate (h : Touches G F s t) {id} (hE : Footprint.fits ⟨eventParts ++ [.flights, .furlong], [.hitch, .almanac]⟩ F = true := by rfl) :
    Touches G F s (t.fireGate id) := h.via hE fun h => by
  unfold State.fireGate
  split
  · exact h
  next hf =>
    extract_lets _ _ _ s1 s2
    have hs1 : Touches G ⟨eventParts ++ [.flights, .furlong], [.hitch, .almanac]⟩ t s1 := h.setFlight (h.flight hf).keep
    have hs2 : Touches G ⟨eventParts ++ [.flights, .furlong], [.hitch, .almanac]⟩ t s2 := by
      unfold s2
      split
      · exact hs1.upd fun _ h => h.withFurlong (furlong_map h.furlong (by intro; rfl))
      · exact hs1
    exact .ite h (.ite hs2.bump.raiseErr hs2)

theorem Touches.examineWait (h : Touches G F s t) {id} (hE : Footprint.fits ⟨[.flights, .flags, .flagsNow], []⟩ F = true := by rfl) :
    Touches G F s (t.examineWait id) := h.via hE fun h => by
  unfold State.examineWait
  split
  · exact h
  next hf =>
    split
    · exact h
    · refine .ite h ?_
      extract_lets s1
      have hs1 : Touches G ⟨[.flights, .flags, .flagsNow], []⟩ t s1 := h.setFlight (h.flight hf).keep
      exact .ite (hs1.foldl fun _ _ h' => h'.clearFlag) hs1

theorem Touches.examineWaits (h : Touches G F s t) {domain} (hE : Footprint.fits ⟨[.flights, .flags, .flagsNow], []⟩ F = true := by rfl) :
    Touches G F s (t.examineWaits domain) := h.via hE fun h =>
    .ite h (h.foldl fun _ _ h' => h'.examineWait)

theorem Touches.flagControl (h : Touches G F s t) {v} (hE : Footprint.fits ⟨[.flags, .flagsNow], []⟩ F = true := by rfl) :
    Touches G F s (t.flagControl v) := h.via hE fun h =>
    .ite h.clearFlag h.setFlag

theorem Touches.submitRebase (h : Touches G F s t) {v} (hE : Footprint.fits ⟨[.alm], []⟩ F = true := by rfl) :
    Touches G F s (t.submitRebase v) := h.via hE fun h =>
    h.same

theorem Touches.withAlm (h : Touches G F s t) {x} (hE : Footprint.fits ⟨[.alm], []⟩ F = true := by rfl) : Touches G F s { t with alm := x } :=
  h.via hE fun h => h.same

theorem Touches.rebase (h : Touches G F s t) (hE : Footprint.fits ⟨eventParts ++ [.alm], [.hitch, .almanac]⟩ F = true := by rfl) :
    Touches G F s t.rebase := h.via hE fun h => by
  unfold State.rebase
  split
  · exact h
  · refine .ite h ?_
    extract_lets _ s1 e
    have hs1 : Touches G ⟨eventParts ++ [.alm], [.hitch, .almanac]⟩ t s1 := h.same
    clear_value s1
    exact .ite hs1.raiseErr (Touches.setReg hs1.withAlm)


/-! ### Furlong -/

theorem Touches.ledgerWrite (h : Touches G F s t) {q0 start stop n} (hE : Footprint.fits ⟨memParts ++ [.ledgerHeld, .kept], [.almanac, .granary, .granaryCache]⟩ F = true := by rfl) :
    Touches G F s (t.ledgerWrite q0 start stop n) := h.via hE fun h =>
    .ite h (Touches.setRf (.ite h.storeAs.bump (Touches.same (h := h.storeAs))))

/-- The furlong that runs changed, its window the same. -/
theorem Touches.putFurlong (h : Touches G F s t) {g g' : Furlong} (hg : t.furlong = some g) (hw : g'.window = g.window := by rfl)
    (hE : Footprint.fits ⟨[.furlong], []⟩ F = true := by rfl) : Touches G F s { t with furlong := some g' } :=
  h.via hE fun h => h.upd fun _ h => h.putFurlong hg hw

theorem Touches.phaseComplete (h : Touches G F s t) {step pre phase} (hE : Footprint.fits ⟨memParts ++ [.furlong, .ledgerHeld, .kept, .freeCtr], [.almanac, .granary, .granaryCache]⟩ F = true := by rfl) :
    Touches G F s (t.phaseComplete step pre phase) := h.via hE fun h => by
  unfold State.phaseComplete
  split
  · exact h
  next hfu =>
    split
    · exact h
    · split
      · exact h
      · refine .ite h ?_
        extract_lets mark free stop s1
        have hs1 : Touches G ⟨memParts ++ [.furlong, .ledgerHeld, .kept, .freeCtr], [.almanac, .granary, .granaryCache]⟩ t s1 :=
          Touches.ledgerWrite (h.putFurlong hfu)
        exact .ite hs1.drawn hs1

/-- No furlong runs any more. -/
theorem Touches.noFurlong (h : Touches G F s t) (hE : Footprint.fits ⟨[.furlong], []⟩ F = true := by rfl) :
    Touches G F s { t with furlong := none } :=
  h.via hE fun h => h.upd fun _ h => h.noFurlong

theorem Touches.endFurlong (h : Touches G F s t) {fu} (hE : Footprint.fits ⟨doneParts, [.hitch, .almanac, .cmdwin]⟩ F = true := by rfl) :
    Touches G F s (t.endFurlong fu) := h.via hE fun h =>
    .ite h.noFurlong.complete.raiseErr h.noFurlong.complete

theorem Touches.abortFurlong (h : Touches G F s t) {fu code} (hE : Footprint.fits ⟨doneParts, [.hitch, .cmdwin]⟩ F = true := by rfl) :
    Touches G F s (t.abortFurlong fu code) := h.via hE fun h =>
    h.noFurlong.complete

theorem Touches.furlongCheck (h : Touches G F s t) (hE : Footprint.fits ⟨doneParts, [.hitch, .almanac, .cmdwin]⟩ F = true := by rfl) :
    Touches G F s t.furlongCheck := h.via hE fun h => by
  unfold State.furlongCheck
  split
  · exact .ite h.endFurlong h
  · exact h

theorem Touches.stepComplete (h : Touches G F s t) {step} (hE : Footprint.fits ⟨doneParts ++ memParts ++ [.ledgerHeld, .kept, .freeCtr], [.hitch, .almanac, .cmdwin, .granary, .granaryCache]⟩ F = true := by rfl) :
    Touches G F s (t.stepComplete step) := h.via hE fun h => by
  unfold State.stepComplete
  split
  · exact h
  next hfu =>
    refine .ite h ?_
    extract_lets _ _ _ _ _ s1 s2
    have hs1 : Touches G ⟨doneParts ++ memParts ++ [.ledgerHeld, .kept, .freeCtr], [.hitch, .almanac, .cmdwin, .granary, .granaryCache]⟩ t s1 := .ite h.drawn h
    have hs2 : Touches G ⟨doneParts ++ memParts ++ [.ledgerHeld, .kept, .freeCtr], [.hitch, .almanac, .cmdwin, .granary, .granaryCache]⟩ t s2 := hs1.ledgerWrite.bump
    exact Touches.furlongCheck (hs2.upd fun hG hs2 => hs2.withFurlong fun g hg => by
      cases hg
      exact ((h.formed hG).furlong _ hfu : _))

theorem Touches.runFurlong (h : Touches G F s t) {id} (hE : Footprint.fits ⟨doneParts ++ [.windows], [.hitch, .cmdwin]⟩ F = true := by rfl) :
    Touches G F s (t.runFurlong id) := h.via hE fun h => by
  unfold State.runFurlong
  split
  · exact h
  next hf =>
    have hf := h.flightOf hf
    refine .ite h (.ite h.refuseFlight (.ite h.complete (.ite h.complete ?_)))
    extract_lets s1
    have hs1 : Touches G ⟨doneParts ++ [.windows], [.hitch, .cmdwin]⟩ t s1 := h.setFlight hf.keep
    exact hs1.upd fun hG h => h.withFurlong fun g hg => by
      cases hg
      exact (hf hG).window

theorem Touches.stopFurlong (h : Touches G F s t) {id} (hE : Footprint.fits ⟨doneParts, [.hitch, .almanac, .cmdwin]⟩ F = true := by rfl) :
    Touches G F s (t.stopFurlong id) := h.via hE fun h => by
  unfold State.stopFurlong
  split
  · exact h
  · refine .ite h ?_
    exact Touches.furlongCheck <| Touches.complete <| h.upd fun _ h => h.withFurlong <| furlong_map h.furlong fun g => by
      split <;> rfl


/-! ### Recovery -/

theorem Touches.setPair (h : Touches G F s t) {p} (hE : Footprint.fits ⟨[.regs], [.recovery]⟩ F = true := by rfl) :
    Touches G F s (t.setPair p) := h.via hE fun h =>
    h.setRf

theorem Touches.setFill (h : Touches G F s t) {x} (hE : Footprint.fits ⟨[.regs], [.recovery]⟩ F = true := by rfl) :
    Touches G F s (t.setFill x) := h.via hE fun h =>
    h.setRf

theorem Touches.setCommit (h : Touches G F s t) {step set} (hE : Footprint.fits ⟨[.regs], [.recovery]⟩ F = true := by rfl) :
    Touches G F s (t.setCommit step set) := h.via hE fun h =>
    h.setReg

theorem Touches.setReco (h : Touches G F s t) {f p} (hf : FlightFits G f) (hE : Footprint.fits ⟨[.flights], []⟩ F = true := by rfl) :
    Touches G F s (t.setReco f p) := h.via hE fun h =>
    h.setFlight hf.withProg

theorem Touches.recAdmit (h : Touches G F s t) {n}
    (hE : Footprint.fits ⟨eventParts ++ [.windows, .flights, .furlong], [.hitch, .cmdwin, .recovery]⟩ F = true := by rfl) :
    Touches G F s (State.recAdmit n t) := h.via hE fun h => by
  refine h.iter (f := State.recAdmit) (fun u => rfl) (fun n u h ih => ?_) n
  unfold State.recAdmit
  split
  · exact h
  next hf =>
    have hf : FlightFits G _ := fun g => (h.formed g).flights _ (List.mem_of_find?_eq_some hf)
    refine .ite h <| .ite (ih _ h.refuseFlight) ?_
    extract_lets s1
    have hs1 : Touches G ⟨eventParts ++ [.windows, .flights, .furlong], [.hitch, .cmdwin, .recovery]⟩ t s1 := h.setFlight hf.keep
    exact .ite hs1.setReg hs1

theorem Touches.recNext (h : Touches G F s t) (hE : Footprint.fits ⟨eventParts ++ [.windows, .flights, .furlong], [.hitch, .cmdwin, .recovery]⟩ F = true := by rfl) :
    Touches G F s t.recNext := h.via hE fun h =>
    h.recAdmit

theorem Touches.recDone (h : Touches G F s t) {id info} (hE : Footprint.fits ⟨doneParts ++ [.windows], [.hitch, .cmdwin, .recovery]⟩ F = true := by rfl) :
    Touches G F s (t.recDone id info) := h.via hE fun h =>
    h.complete.recNext

theorem Touches.recRuns (h : Touches G F s t) {id op} {f : Flight} (hf : t.recRuns id op = some f) : FlightFits G f :=
  fun g => (h.formed g).recRuns hf

theorem Touches.runCommit (h : Touches G F s t) {id} (hE : Footprint.fits ⟨doneParts ++ memParts ++ [.windows, .kept], [.hitch, .cmdwin, .recovery, .granary, .granaryCache]⟩ F = true := by rfl) :
    Touches G F s (t.runCommit id) := h.via hE fun h => by
  unfold State.runCommit
  split
  · exact h
  next hf =>
    have hf := h.recRuns hf
    extract_lets _ _ s1
    have hs1 : Touches G ⟨doneParts ++ memParts ++ [.windows, .kept], [.hitch, .cmdwin, .recovery, .granary, .granaryCache]⟩ t s1 := .ite h.bump.raiseErr h
    refine .ite h.recDone <| .ite ?_ ?_
    · refine .ite (hs1.setReco hf) ?_
      split
      · exact hs1.recDone
      · exact hs1.setReco hf
    · split
      · extract_lets
        split
        · exact h.recDone
        · exact .ite h.recDone (Touches.setReco (.ite h h.readAs.storeAs) hf)
      · exact (Touches.setCommit (.ite h.bump h)).setRf.bump.recDone

theorem Touches.recMessage (h : Touches G F s t) {e bs body} (hE : Footprint.fits ⟨[.mem, .swath], []⟩ F = true := by rfl) :
    Touches G F s (t.recMessage e bs body) := h.via hE fun h =>
    h.setConn.foldl fun _ _ h' => h'.queueData

theorem Touches.buddyLost (h : Touches G F s t) {f} (hE : Footprint.fits ⟨doneParts ++ [.windows], [.hitch, .cmdwin, .recovery]⟩ F = true := by rfl) :
    Touches G F s (t.buddyLost f) := h.via hE fun h =>
    h.setPair.raiseErr.recDone

theorem Touches.runBuddySend (h : Touches G F s t) {id} (hE : Footprint.fits ⟨doneParts ++ [.mem, .windows, .swath], [.hitch, .cmdwin, .recovery]⟩ F = true := by rfl) :
    Touches G F s (t.runBuddySend id) := h.via hE fun h => by
  unfold State.runBuddySend
  split
  · exact h
  next hf =>
    have hf := h.recRuns hf
    refine .ite h.recDone <| .ite h.buddyLost <| .ite h.recDone ?_
    refine .ite ?_ (.ite h.buddyLost (.ite h.recDone (.ite h h.setRf.bump.recDone)))
    extract_lets
    split
    · exact h.recDone
    · exact (h.foldl fun _ _ h' => h'.recMessage).recMessage.setReco hf

theorem Touches.buddySealed (h : Touches G F s t) {slot off} (hE : Footprint.fits ⟨[.regs, .recov], [.recovery]⟩ F = true := by rfl) :
    Touches G F s (t.buddySealed slot off) := h.via hE fun h =>
    .ite h (Touches.same (h := h) (hf := fun h => h.same (by simp [State.lengths]))).showHosted

theorem Touches.sendPairing (h : Touches G F s t) {e answer} (hE : Footprint.fits ⟨[.mem, .swath], []⟩ F = true := by rfl) :
    Touches G F s (t.sendPairing e answer) := h.via hE fun h =>
    .ite h h.recMessage

theorem Touches.writePair (h : Touches G F s t) {v} (hE : Footprint.fits ⟨[.regs, .mem, .swath], [.recovery]⟩ F = true := by rfl) :
    Touches G F s (t.writePair v) := h.via hE fun h =>
    .ite h.setReg.setPair (.ite h.setReg h.setReg.setPair.sendPairing)

theorem Touches.pairingMessage (h : Touches G F s t) {e domain answer} (hE : Footprint.fits ⟨eventParts ++ [.mem, .swath], [.hitch, .recovery]⟩ F = true := by rfl) :
    Touches G F s (t.pairingMessage e domain answer) := h.via hE fun h => by
  unfold State.pairingMessage
  refine .ite h <| .ite h.setRf.setPair.raiseErr <| .ite h.setRf.setPair.raiseErr.sendPairing ?_
  exact .ite (.ite h.setRf.sendPairing.sendPairing h.setRf.sendPairing) h.setRf.setPair

theorem Touches.showExtent (h : Touches G F s t) {i} (hE : Footprint.fits ⟨[.regs], [.recovery]⟩ F = true := by rfl) :
    Touches G F s (t.showExtent i) := h.via hE fun h =>
    .ite h.setReg.setReg (.ite h.setReg.setReg h.setReg.setReg)

theorem Touches.dropStook (h : Touches G F s t) (hE : Footprint.fits ⟨[.regs], [.recovery]⟩ F = true := by rfl) :
    Touches G F s t.dropStook := h.via hE fun h =>
    h.setRf.setReg.setReg

theorem Touches.runStook (h : Touches G F s t) {id} (hE : Footprint.fits ⟨doneParts ++ memParts ++ [.windows, .kept, .recov], [.hitch, .cmdwin, .recovery, .granary, .granaryCache]⟩ F = true := by rfl) :
    Touches G F s (t.runStook id) := h.via hE fun h => by
  unfold State.runStook
  split
  · exact h
  next hf =>
    have hf := h.recRuns hf
    refine .ite h.recDone <| .ite (.ite h.bump.recDone (h.same.storeAs.setRf.setReco hf)) ?_
    split
    · exact h
    · extract_lets
      split
      · exact h.dropStook.recDone
      · exact h.readAs.storeAs.setReco hf

theorem Touches.stookStaged (h : Touches G F s t) {id} (hE : Footprint.fits ⟨doneParts ++ memParts ++ [.windows, .kept], [.hitch, .cmdwin, .recovery, .granary, .granaryCache]⟩ F = true := by rfl) :
    Touches G F s (t.stookStaged id) := h.via hE fun h => by
  unfold State.stookStaged
  split
  · exact h
  · exact .ite h h.storeAs.setRf.showExtent.recDone

theorem Touches.drainAck (h : Touches G F s t) {i} (hE : Footprint.fits ⟨eventParts, [.hitch, .recovery]⟩ F = true := by rfl) :
    Touches G F s (t.drainAck i) := h.via hE fun h =>
    .ite h.showExtent h.dropStook.setRf.setRf.bump.raise

theorem Touches.fillReady (h : Touches G F s t) {n} (hE : Footprint.fits ⟨[.regs, .recov], [.recovery]⟩ F = true := by rfl) :
    Touches G F s (t.fillReady n) := h.via hE fun h =>
    .ite h.same.setFill h

theorem Touches.fillFail (h : Touches G F s t) {f code} (hE : Footprint.fits ⟨doneParts ++ [.windows], [.hitch, .cmdwin, .recovery]⟩ F = true := by rfl) :
    Touches G F s (t.fillFail f code) := h.via hE fun h =>
    h.setFill.raiseErr.recDone

theorem Touches.fillSealed (h : Touches G F s t) {f set} (hE : Footprint.fits ⟨doneParts ++ [.windows], [.hitch, .cmdwin, .recovery]⟩ F = true := by rfl) :
    Touches G F s (t.fillSealed f set) := h.via hE fun h =>
    h.setCommit.setFill.setRf.bump.raise.recDone

theorem Touches.fillPlace (h : Touches G F s t) {f p set} (hf : FlightFits G f) (hE : Footprint.fits ⟨doneParts ++ [.windows], [.hitch, .cmdwin, .recovery]⟩ F = true := by rfl) :
    Touches G F s (t.fillPlace f p set) := h.via hE fun h =>
    .ite h.fillFail (h.setFill.setReco hf)

theorem Touches.fillAsk (h : Touches G F s t) {f p e user b dst len keep} (hf : FlightFits G f) (hE : Footprint.fits ⟨[.mem, .flights, .swath], []⟩ F = true := by rfl) :
    Touches G F s (t.fillAsk f p e user b dst len keep) := h.via hE fun h =>
    h.setConn.queueData.setReco hf

theorem Touches.refillStook (h : Touches G F s t) {f} (hf : FlightFits G f) (hE : Footprint.fits ⟨doneParts ++ [.windows, .recov], [.hitch, .cmdwin, .recovery]⟩ F = true := by rfl) :
    Touches G F s (t.refillStook f) := h.via hE fun h => by
  unfold State.refillStook
  refine .ite (h.same.setFill.setReco hf) ?_
  split
  · exact h
  · exact .ite h.setFill.recDone (.ite h.fillFail (h.fillPlace hf))

theorem Touches.refillBuddy (h : Touches G F s t) {f} (hf : FlightFits G f) (hE : Footprint.fits ⟨doneParts ++ [.mem, .windows, .swath], [.hitch, .cmdwin, .recovery]⟩ F = true := by rfl) :
    Touches G F s (t.refillBuddy f) := h.via hE fun h =>
    .ite h.fillFail (.ite (h.fillAsk hf) (.ite h (.ite h.refuseFlight.recNext (h.fillPlace hf))))

theorem Touches.refillEntry (h : Touches G F s t) {f p source off e} (hf : FlightFits G f) (hE : Footprint.fits ⟨doneParts ++ memParts ++ [.windows, .kept, .swath], [.hitch, .cmdwin, .recovery, .granary, .granaryCache]⟩ F = true := by rfl) :
    Touches G F s (t.refillEntry f p source off e) := h.via hE fun h => by
  unfold State.refillEntry
  refine .ite (.ite h.setFill.recDone (h.storeAs.setReco hf)) ?_
  exact .ite h.fillFail (.ite (.ite (h.fillAsk hf) (h.fillAsk hf)) (.ite h (h.setReco hf)))

theorem Touches.runRefill (h : Touches G F s t) {id} (hE : Footprint.fits ⟨doneParts ++ memParts ++ [.windows, .kept, .swath, .recov], [.hitch, .cmdwin, .recovery, .granary, .granaryCache]⟩ F = true := by rfl) :
    Touches G F s (t.runRefill id) := h.via hE fun h => by
  unfold State.runRefill
  split
  · exact h
  next hf =>
    have hf := h.recRuns hf
    refine .ite h.setFill.recDone <| .ite (.ite (h.refillStook hf) (.ite (h.refillBuddy hf) (h.fillPlace hf))) ?_
    split
    · exact h.refillEntry hf
    · exact h.fillSealed

theorem Touches.noteCapacity (h : Touches G F s t) {before} (hE : Footprint.fits ⟨eventParts, [.hitch, .recovery]⟩ F = true := by rfl) :
    Touches G F s (t.noteCapacity before) := h.via hE fun h =>
    .ite h.raiseErr h

theorem Touches.resetRecovery (h : Touches G F s t) (hE : Footprint.fits ⟨[.regs], [.recovery]⟩ F = true := by rfl) :
    Touches G F s t.resetRecovery := h.via hE fun h =>
    h.dropStook.setFill

end Sys2Proof.Machine
end

section
/-!
What the power states, the governor and the sensors touch.
-/
namespace Sys2Proof.Machine

set_option Elab.async false

variable {G : Prop} {F : Footprint} {s t u : State}

/-- Rounds over a list, of each of which it is known that its number is in the list. -/
theorem Touches.foldlMem {α : Type} {f : State → α → State} {l : List α} (h : Touches G F s t)
    (hf : ∀ u, ∀ a ∈ l, Touches G F s u → Touches G F s (f u a)) : Touches G F s (l.foldl f t) := by
  induction l generalizing t with
  | nil => exact h
  | cons a l ih => exact ih (hf t a List.mem_cons_self h) fun u b hb => hf u b (List.mem_cons_of_mem a hb)

/-! ### Power -/

theorem Touches.idleEntry (h : Touches G F s t) (hE : Footprint.fits ⟨[.power], []⟩ F = true := by rfl) :
    Touches G F s t.idleEntry := h.via hE fun h => by
  unfold State.idleEntry
  split
  · exact .ite h.same h
  · exact h

theorem Touches.leaveIdle (h : Touches G F s t) (hE : Footprint.fits ⟨[.power], []⟩ F = true := by rfl) :
    Touches G F s t.leaveIdle := h.via hE fun h =>
    h.same

theorem Touches.setTarget (h : Touches G F s t) {t'} (hE : Footprint.fits ⟨[.regs, .power], [.power]⟩ F = true := by rfl) :
    Touches G F s (t.setTarget t') := h.via hE fun h => by
  unfold State.setTarget
  extract_lets s1
  have hs1 : Touches G ⟨[.regs, .power], [.power]⟩ t s1 := h.setRf
  clear_value s1
  exact .ite hs1 hs1.same

theorem Touches.hitchWake (h : Touches G F s t) {lanes} (hE : Footprint.fits ⟨[.hitch, .power], []⟩ F = true := by rfl) :
    Touches G F s (t.hitchWake lanes) := h.via hE fun h =>
    .ite h.same.retrainHitch h

theorem Touches.sleepLoss (h : Touches G F s t) (hE : Footprint.fits ⟨eventParts ++ [.mem, .poison, .flights, .kept, .gleanMeta, .thr, .swath], [.hitch, .swath, .swathPort, .transport, .ptp]⟩ F = true := by rfl) :
    Touches G F s t.sleepLoss := h.via hE fun h => by
  unfold State.sleepLoss
  extract_lets _ s0 s1
  have hs0 : Touches G ⟨eventParts ++ [.mem, .poison, .flights, .kept, .gleanMeta, .thr, .swath], [.hitch, .swath, .swathPort, .transport, .ptp]⟩ t s0 := h.zeroRange
  have hs1 : Touches G ⟨eventParts ++ [.mem, .poison, .flights, .kept, .gleanMeta, .thr, .swath], [.hitch, .swath, .swathPort, .transport, .ptp]⟩ t s1 := hs0.same
  exact (hs1.foldlMem fun _ l hl h' => (h'.setLink.bump (hk := fun _ => swathPort_admits
    (List.mem_range.1 (List.mem_of_mem_filter hl)))).raiseErr).refreshService

theorem Touches.withHitch (h : Touches G F s t) {x} (hE : Footprint.fits ⟨[.hitch], []⟩ F = true := by rfl) : Touches G F s { t with hitch := x } :=
  h.via hE fun h => h.same

theorem Touches.fallowLoss (h : Touches G F s t) (hE : Footprint.fits ⟨[.mem, .poison, .hitch, .written, .kept], []⟩ F = true := by rfl) :
    Touches G F s t.fallowLoss := h.via hE fun h => by
  unfold State.fallowLoss
  extract_lets s1
  have hs1 : Touches G ⟨[.mem, .poison, .hitch, .written, .kept], []⟩ t s1 := h.foldl fun _ _ h' => (h'.foldl fun _ _ h2 => h2.zeroBank).freshRegion
  exact hs1.withHitch

theorem Touches.noteMismatch (h : Touches G F s t) {bad} (hE : Footprint.fits ⟨eventParts ++ [.power], [.hitch, .power]⟩ F = true := by rfl) :
    Touches G F s (t.noteMismatch bad) := h.via hE fun h => by
  unfold State.noteMismatch
  extract_lets _ _ _ _ _ _ _ _ s2 s3
  have hs2 : Touches G ⟨eventParts ++ [.power], [.hitch, .power]⟩ t s2 := .ite h.same.bump h.same
  have hs3 : Touches G ⟨eventParts ++ [.power], [.hitch, .power]⟩ t s3 := .ite hs2.raiseErr hs2
  exact .ite (.ite hs3.setRf.raiseErr hs3) (.ite hs3.setRf hs3)

theorem Touches.setDuty (h : Touches G F s t) (hE : Footprint.fits ⟨[.regs], [.power]⟩ F = true := by rfl) :
    Touches G F s t.setDuty := h.via hE fun h =>
    h.setRf

theorem Touches.governorWindow (h : Touches G F s t) {report mv estimate} (hE : Footprint.fits ⟨eventParts ++ [.power], [.hitch, .power]⟩ F = true := by rfl) :
    Touches G F s (t.governorWindow report mv estimate) := h.via hE fun h =>
    .ite h h.noteMismatch.same.setReg.bumpBy.setRf.setDuty

/-- An update of the power state that keeps the numbers of its sensors and detectors. -/
theorem Touches.withPower (h : Touches G F s t) {x : PowerSt} (hd : x.droop.length = t.power.droop.length := by rfl)
    (hs : x.sensors.length = t.power.sensors.length := by rfl) (hE : Footprint.fits ⟨[.power], []⟩ F = true := by rfl) :
    Touches G F s { t with power := x } :=
  h.via hE fun h => h.upd fun _ h => h.withPower hd hs

theorem Touches.sensorRead (h : Touches G F s t) {die k t'} (hE : Footprint.fits ⟨eventParts ++ [.power], [.hitch, .power, .droop]⟩ F = true := by rfl) :
    Touches G F s (t.sensorRead die k t') := h.via hE fun h => by
  unfold State.sensorRead
  extract_lets _ set _ s1 s1' _ s2
  have hset {v y} (hv : Touches G ⟨eventParts ++ [.power], [.hitch, .power, .droop]⟩ t v) : Touches G ⟨eventParts ++ [.power], [.hitch, .power, .droop]⟩ t (set v y) := hv.withPower (x := { v.power with sensors := v.power.sensors.set (die * 8 + k) y }) rfl List.length_set
  have hs1 : Touches G ⟨eventParts ++ [.power], [.hitch, .power, .droop]⟩ t s1 := hset h
  have hs1' : Touches G ⟨eventParts ++ [.power], [.hitch, .power, .droop]⟩ t s1' := .ite h.bump h
  have hs2 : Touches G ⟨eventParts ++ [.power], [.hitch, .power, .droop]⟩ t s2 := hset hs1'
  exact .ite (.ite hs1.setRf hs1) (.ite (.ite hs2.raiseErr hs2.raiseErr) hs2)

theorem Touches.thermalStep (h : Touches G F s t) (hE : Footprint.fits ⟨eventParts ++ [.power], [.hitch, .power]⟩ F = true := by rfl) :
    Touches G F s t.thermalStep := h.via hE fun h => by
  unfold State.thermalStep
  refine .ite h ?_
  extract_lets _ _ _ _ _ _ _ s2
  have hs2 : Touches G ⟨eventParts ++ [.power], [.hitch, .power]⟩ t s2 := h.same.setRf.setDuty
  exact .ite (.ite hs2 hs2.raiseErr) (.ite hs2.raiseErr hs2)

theorem Touches.setDroop (h : Touches G F s t) {f d} (hE : Footprint.fits ⟨[.power], []⟩ F = true := by rfl) :
    Touches G F s (t.setDroop f d) := h.via hE fun h =>
    h.same (hf := fun h => h.same (by simp [State.lengths, State.setDroop]))

theorem Touches.droopTrip (h : Touches G F s t) {f mv} (hE : Footprint.fits ⟨[.regs, .power], [.droop]⟩ F = true := by rfl) :
    Touches G F s (t.droopTrip f mv) := h.via hE fun h =>
    .ite h h.setDroop.bump

theorem Touches.stretchEnd (h : Touches G F s t) {f ac fc} (hE : Footprint.fits ⟨eventParts ++ [.power], [.hitch, .droop]⟩ F = true := by rfl) :
    Touches G F s (t.stretchEnd f ac fc) := h.via hE fun h =>
    .ite h (.ite h.setDroop.bumpBy.bumpBy.raiseErr h.setDroop.bumpBy.bumpBy)

theorem Touches.submitChange (h : Touches G F s t) {t'} (hE : Footprint.fits ⟨[.regs, .power], [.power]⟩ F = true := by rfl) :
    Touches G F s (t.submitChange t') := h.via hE fun h =>
    Touches.withPower h.setReg (List.length_map _)

theorem Touches.voltageRamp (h : Touches G F s t) (hE : Footprint.fits ⟨[.power], []⟩ F = true := by rfl) :
    Touches G F s t.voltageRamp := h.via hE fun h => by
  unfold State.voltageRamp
  split
  · exact .ite (h.withPower (List.length_map _)) h
  · exact h

theorem Touches.acChange (h : Touches G F s t) {f} (hE : Footprint.fits ⟨eventParts ++ [.power], [.hitch, .power]⟩ F = true := by rfl) :
    Touches G F s (t.acChange f) := h.via hE fun h => by
  unfold State.acChange
  split
  · exact h
  · refine .ite h ?_
    extract_lets s1
    have hs1 : Touches G ⟨eventParts ++ [.power], [.hitch, .power]⟩ t s1 := h.setDroop
    exact .ite (Touches.raise <| Touches.bump hs1.withPower) hs1

end Sys2Proof.Machine
end

section
/-!
What the Tithe and the loss of a Field touch.
-/
namespace Sys2Proof.Machine

set_option Elab.async false

variable {G : Prop} {F : Footprint} {s t u : State}

/-! ### Tithe -/

theorem Touches.setTithe (h : Touches G F s t) {t'} (hw : t'.snapWords ++ t'.recWords = t.tithe.snapWords ++ t.tithe.recWords := by rfl) (hE : Footprint.fits ⟨[.tithe, .titheWords], []⟩ F = true := by rfl) :
    Touches G F s (t.setTithe t') := h.via hE fun h =>
    h.upd fun _ h => h.withWords (fun w hw' => h.words w (hw ▸ hw'))

theorem Touches.titheSample (h : Touches G F s t) {mv ma} (hE : Footprint.fits ⟨[.tithe, .titheWords], []⟩ F = true := by rfl) :
    Touches G F s (t.titheSample mv ma) := h.via hE fun h =>
    .ite h h.setTithe

theorem Touches.titheCheck (h : Touches G F s t) {deviates} (hE : Footprint.fits ⟨[.tithe, .titheWords], []⟩ F = true := by rfl) :
    Touches G F s (t.titheCheck deviates) := h.via hE fun h =>
    .ite h (.ite h.setTithe h.setTithe)

theorem Touches.titheClose (h : Touches G F s t) {loss tamper mark} (hE : Footprint.fits ⟨[.tithe, .titheWords], []⟩ F = true := by rfl) :
    Touches G F s (t.titheClose loss tamper mark) := h.via hE fun h =>
    h.setTithe

theorem Touches.titheRollover (h : Touches G F s t) (hE : Footprint.fits ⟨[.tithe, .titheWords], []⟩ F = true := by rfl) :
    Touches G F s t.titheRollover := h.via hE fun h =>
    .ite h.titheClose h

theorem Touches.titheTamper (h : Touches G F s t) {kind mark} (hE : Footprint.fits ⟨[.tithe, .titheWords], []⟩ F = true := by rfl) :
    Touches G F s (t.titheTamper kind mark) := h.via hE fun h =>
    .ite h (.ite h.setTithe h.setTithe.titheClose)

theorem Touches.titheLoss (h : Touches G F s t) {written tamper mark} (hE : Footprint.fits ⟨[.tithe, .titheWords], []⟩ F = true := by rfl) :
    Touches G F s (t.titheLoss written tamper mark) := h.via hE fun h => by
  unfold State.titheLoss
  refine .ite h ?_
  extract_lets _ s1
  have hs1 : Touches G ⟨[.tithe, .titheWords], []⟩ t s1 := by
    unfold s1
    split
    · exact h.setTithe
    · exact h
  exact (Touches.ite hs1.titheClose hs1).upd fun _ h => h.withWords fun w hw => absurd hw List.not_mem_nil

theorem Touches.titheCheckpoint (h : Touches G F s t) (hE : Footprint.fits ⟨[.tithe, .titheWords], []⟩ F = true := by rfl) :
    Touches G F s t.titheCheckpoint := h.via hE fun h =>
    .ite h h.setTithe

theorem Touches.titheReturn (h : Touches G F s t) (hE : Footprint.fits ⟨[.tithe, .titheWords], []⟩ F = true := by rfl) :
    Touches G F s t.titheReturn := h.via hE fun h =>
    .ite h (.ite h.setTithe (.ite h.setTithe h.setTithe))

theorem Touches.uartSend (h : Touches G F s t) {cmd status payload} (hE : Footprint.fits ⟨[.tithe, .titheWords], []⟩ F = true := by rfl) :
    Touches G F s (t.uartSend cmd status payload) := h.via hE fun h =>
    h.setTithe

theorem Touches.uartIdent (h : Touches G F s t) {args crc} (hE : Footprint.fits ⟨[.tithe, .titheWords], []⟩ F = true := by rfl) :
    Touches G F s (t.uartIdent args crc) := h.via hE fun h =>
    .ite h (.ite h.uartSend h.uartSend)

theorem Touches.uartStatus (h : Touches G F s t) {args crc} (hE : Footprint.fits ⟨[.tithe, .titheWords], []⟩ F = true := by rfl) :
    Touches G F s (t.uartStatus args crc) := h.via hE fun h =>
    .ite h (.ite h.uartSend h.uartSend)

theorem Touches.uartRecord (h : Touches G F s t) {args crc} (hE : Footprint.fits ⟨[.tithe, .titheWords], []⟩ F = true := by rfl) :
    Touches G F s (t.uartRecord args crc) := h.via hE fun h =>
    .ite h (.ite h.uartSend (by split <;> exact h.uartSend))

theorem Touches.uartNow (h : Touches G F s t) {args crc} (hE : Footprint.fits ⟨[.tithe, .titheWords], []⟩ F = true := by rfl) :
    Touches G F s (t.uartNow args crc) := h.via hE fun h =>
    .ite h (.ite h.uartSend h.uartSend)

theorem Touches.uartMark (h : Touches G F s t) {args crc} (hE : Footprint.fits ⟨[.tithe, .titheWords], []⟩ F = true := by rfl) :
    Touches G F s (t.uartMark args crc) := h.via hE fun h =>
    .ite h (.ite h.uartSend h.titheClose.uartSend)

theorem Touches.uartTamper (h : Touches G F s t) {args crc} (hE : Footprint.fits ⟨[.tithe, .titheWords], []⟩ F = true := by rfl) :
    Touches G F s (t.uartTamper args crc) := h.via hE fun h =>
    .ite h (.ite h.uartSend (by split <;> exact h.uartSend))

theorem Touches.mirrorWord (h : Touches G F s t) {off v} (ho : G → off < 0x1000) (hE : Footprint.fits ⟨[.regs, .tithe, .titheWords], [.titheRo]⟩ F = true := by rfl) :
    Touches G F s (t.mirrorWord off v) := h.via hE fun h => by
  unfold State.mirrorWord
  extract_lets s1
  have hs1 : Touches G ⟨[.regs, .tithe, .titheWords], [.titheRo]⟩ t s1 := h.setReg (ho := ho)
  exact hs1.same

theorem Touches.snapWord (h : Touches G F s t) {off v} (ho : G → off < 0x1000) (hE : Footprint.fits ⟨eventParts ++ [.tithe, .titheWords], [.hitch, .titheRo]⟩ F = true := by rfl) :
    Touches G F s (t.snapWord off v) := h.via hE fun h =>
    .ite (h.mirrorWord ho).raiseErr (.ite (h.mirrorWord ho).raiseErr (h.mirrorWord ho))

theorem Touches.mirrorSnapshot (h : Touches G F s t) (hE : Footprint.fits ⟨eventParts ++ [.tithe, .titheWords], [.hitch, .titheRo]⟩ F = true := by rfl) :
    Touches G F s t.mirrorSnapshot := h.via hE fun h => by
  unfold State.mirrorSnapshot
  refine .ite h ?_
  extract_lets
  split
  · refine Touches.mirrorWord (h.upd fun _ h => h.withWords fun w hw => ?_) fun _ => by decide
    rcases List.mem_append.1 hw with hw | hw
    · rcases List.mem_cons.1 hw with rfl | hw
      · exact (by decide : 0x100 < 0x1000)
      · exact State.titheStatus_lt (List.mem_of_mem_filter hw)
    · exact h.words w (List.mem_append_right _ hw)
  next w0 rest hw0 =>
    extract_lets s1
    have hs1 : Touches G ⟨eventParts ++ [.tithe, .titheWords], [.hitch, .titheRo]⟩ t s1 := by
      refine Touches.snapWord (h.upd fun _ h => h.withWords fun w hw => h.words w ?_) fun g => (h.formed g).words w0 ?_
      · rw [hw0]
        exact List.mem_cons_of_mem w0 hw
      · rw [hw0]
        exact List.mem_cons_self
    exact .ite (hs1.mirrorWord fun _ => by decide) hs1

theorem Touches.mirrorRecord (h : Touches G F s t) (hE : Footprint.fits ⟨eventParts ++ [.tithe, .titheWords], [.hitch, .titheRo]⟩ F = true := by rfl) :
    Touches G F s t.mirrorRecord := h.via hE fun h => by
  unfold State.mirrorRecord
  refine .ite h ?_
  split
  · split
    · exact h
    · exact h.upd fun _ h => h.withWords fun w hw => by
        rcases List.mem_append.1 hw with hw | hw
        · exact h.words w (List.mem_append_left _ hw)
        · exact recordWords_lt hw
  next w0 rest hw0 =>
    extract_lets _ s1
    have hs1 : Touches G ⟨eventParts ++ [.tithe, .titheWords], [.hitch, .titheRo]⟩ t s1 := by
      refine Touches.mirrorWord (h.upd fun _ h => h.withWords fun w hw => h.words w ?_) fun g => (h.formed g).words w0 ?_
      · rw [hw0]
        rcases List.mem_append.1 hw with hw | hw
        · exact List.mem_append_left _ hw
        · exact List.mem_append_right _ (List.mem_cons_of_mem w0 hw)
      · rw [hw0]
        exact List.mem_append_right _ List.mem_cons_self
    exact .ite hs1.setReg.setReg.raise hs1

theorem Touches.mirrorStale (h : Touches G F s t) (hE : Footprint.fits ⟨eventParts, [.hitch, .titheRo]⟩ F = true := by rfl) :
    Touches G F s t.mirrorStale := h.via hE fun h =>
    .ite h.setRf.raiseErr h

/-! ### FieldLoss -/

theorem Touches.bankStart (h : Touches G F s t) {f b} (hE : Footprint.fits ⟨[.regs, .bankMoves, .plots], [.tilthTest]⟩ F = true := by rfl) :
    Touches G F s (t.bankStart f b) := h.via hE fun h => by
  unfold State.bankStart
  extract_lets s1
  have hs1 : Touches G ⟨[.regs, .bankMoves, .plots], [.tilthTest]⟩ t s1 := h.plotRestore.plotLeave
  exact .ite hs1.same h

theorem Touches.setField (h : Touches G F s t) {f x} (hE : Footprint.fits ⟨[.fields], []⟩ F = true := by rfl) :
    Touches G F s (t.setField f x) := h.via hE fun h =>
    h.same (hf := fun h => h.same (by simp [State.lengths, State.setField]))

theorem Touches.setHedge (h : Touches G F s t) {l h'} (hE : Footprint.fits ⟨[.fields], []⟩ F = true := by rfl) :
    Touches G F s (t.setHedge l h') := h.via hE fun h =>
    .ite h.setField h.setField.setField

theorem Touches.hedgeReplay (h : Touches G F s t) {l} (hE : Footprint.fits ⟨[.regs], [.field]⟩ F = true := by rfl) :
    Touches G F s (t.hedgeReplay l) := h.via hE fun h =>
    .ite h (.ite h.bump h.bump.bump)

theorem Touches.reroute (h : Touches G F s t) {l} (hE : Footprint.fits ⟨eventParts ++ [.fields], [.hitch, .field]⟩ F = true := by rfl) :
    Touches G F s (t.reroute l) := h.via hE fun h =>
    h.setHedge.raiseErr.raiseErr

theorem Touches.hedgeReroute (h : Touches G F s t) {l} (hE : Footprint.fits ⟨eventParts ++ [.fields], [.hitch, .field]⟩ F = true := by rfl) :
    Touches G F s (t.hedgeReroute l) := h.via hE fun h =>
    .ite h.reroute h

theorem Touches.endTouching (h : Touches G F s t) {id} (hE : Footprint.fits ⟨doneParts ++ [.windows, .thr, .swath], [.hitch, .cmdwin, .thresher, .thrCh, .recovery]⟩ F = true := by rfl) :
    Touches G F s (t.endTouching id) := h.via hE fun h => by
  unfold State.endTouching
  split
  · exact h
  next hf =>
    have hf := h.flight hf
    extract_lets mark
    have hmark : Touches G ⟨doneParts ++ [.windows, .thr, .swath], [.hitch, .cmdwin, .thresher, .thrCh, .recovery]⟩ t mark := h.setFlight hf.keep
    split
    · exact .ite (h.setFlight hf.withProg) hmark
    · exact .ite hmark h.complete
    · split
      · exact h
      next hp => exact .ite (h.bump (hk := hf.coll hp)).bump.complete (.ite h (.ite (h.setColl (hf.coll hp)) (h.withdraw (hf.coll hp))))
    · exact .ite h h.endTransfer
    · split
      · exact .ite h.abortFurlong h.complete
      · exact h.complete
    · exact h.complete
    · exact .ite h (.ite h.dropStook.recDone (.ite h.setFill.recDone h))
    · exact hmark

theorem Touches.failUnits (h : Touches G F s t) {f} (hE : Footprint.fits ⟨[.flights, .arrays, .engines], []⟩ F = true := by rfl) :
    Touches G F s (t.failUnits f) := h.via hE fun h => by
  refine h.upd fun _ h => h.withFlights (FlightsOk.map h.flights fun g hg => ?_) (by simp [State.lengths, State.failUnits])
  split
  · exact iteFlight hg.withProg hg
  · exact iteFlight hg.withProg hg
  · exact hg

theorem Touches.dropField (h : Touches G F s t) {f} (hE : Footprint.fits ⟨[.mem, .poison, .bankMoves, .plots, .written, .kept, .gleanMeta, .coulter], []⟩ F = true := by rfl) :
    Touches G F s (t.dropField f) := h.via hE fun h => by
  unfold State.dropField
  extract_lets s1
  have hs1 : Touches G ⟨[.mem, .poison, .bankMoves, .plots, .written, .kept, .gleanMeta, .coulter], []⟩ t s1 := h.zeroRange.zeroRange.freshRegion
  have hs2 : Touches G ⟨[.mem, .poison, .bankMoves, .plots, .written, .kept, .gleanMeta, .coulter], []⟩ t { s1 with
      gleanMeta := s1.gleanMeta.filter (fun (m : Nat × Nat) => m.1 / 2048 != f)
      bankMoves := s1.bankMoves.filter (fun (m : BankMove) => m.field != f)
      kept := s1.kept.filter (fun a => granaryField a != f) } := hs1.same
  exact hs2.setPlot.emptyInRegion

theorem Touches.tellNeighbour (h : Touches G F s t) {west g} (hE : Footprint.fits ⟨eventParts ++ [.fields], [.hitch, .field]⟩ F = true := by rfl) :
    Touches G F s (t.tellNeighbour west g) := h.via hE fun h =>
    .ite h h.setField.raiseErr

theorem Touches.endReduce (h : Touches G F s t) {f id} (hE : Footprint.fits ⟨doneParts, [.hitch, .cmdwin, .glean]⟩ F = true := by rfl) :
    Touches G F s (t.endReduce f id) := h.via hE fun h => by
  unfold State.endReduce
  split
  · exact h
  · exact .ite ((h.foldl fun _ _ h' => h'.raiseErr).complete) h

theorem Touches.loseField (h : Touches G F s t) {f} (hE : Footprint.fits ⟨doneParts ++ memParts ++ [.windows, .fields, .bankMoves, .plots, .kept, .arrays, .engines, .gleanMeta, .coulter, .thr, .swath], [.hitch, .cmdwin, .thresher, .thrCh, .recovery, .field, .glean, .harrow]⟩ F = true := by rfl) :
    Touches G F s (t.loseField f) := h.via hE fun h => by
  unfold State.loseField
  refine .ite h ?_
  extract_lets _ _ _ _ s2 _ s4
  have hs2 : Touches G ⟨doneParts ++ memParts ++ [.windows, .fields, .bankMoves, .plots, .kept, .arrays, .engines, .gleanMeta, .coulter, .thr, .swath], [.hitch, .cmdwin, .thresher, .thrCh, .recovery, .field, .glean, .harrow]⟩ t s2 := .optionElim h.setField (fun _ => h.setField.tellNeighbour)
  have hs4 : Touches G ⟨doneParts ++ memParts ++ [.windows, .fields, .bankMoves, .plots, .kept, .arrays, .engines, .gleanMeta, .coulter, .thr, .swath], [.hitch, .cmdwin, .thresher, .thrCh, .recovery, .field, .glean, .harrow]⟩ t s4 := by
    unfold s4
    refine Touches.foldl ?_ fun _ _ h' => h'.endReduce
    exact (Touches.failUnits (.optionElim hs2 (fun _ => hs2.tellNeighbour))).foldl fun _ _ h' => h'.complete
  exact ((hs4.foldl fun _ _ h' => h'.endTouching).restartFill.dropField.foldl fun _ _ h' => h'.rehomeEngine).recNext

theorem Touches.hedgeLost (h : Touches G F s t) {f} (hE : Footprint.fits ⟨doneParts ++ memParts ++ [.windows, .fields, .bankMoves, .plots, .kept, .arrays, .engines, .gleanMeta, .coulter, .thr, .swath], [.hitch, .cmdwin, .thresher, .thrCh, .recovery, .field, .glean, .harrow]⟩ F = true := by rfl) :
    Touches G F s (t.hedgeLost f) := h.via hE fun h =>
    .ite h.loseField.noteCapacity h

theorem Touches.failReeve (h : Touches G F s t) {place c code check work n} (hE : Footprint.fits ⟨doneParts ++ memParts ++ [.windows, .fields, .steadFailed, .bankMoves, .plots, .kept, .arrays, .engines, .gleanMeta, .coulter, .thr, .swath], [.hitch, .cmdwin, .thresher, .thrCh, .recovery, .field, .glean, .harrow, .reeve]⟩ F = true := by rfl) :
    Touches G F s (t.failReeve place c code check work n) := h.via hE fun h => by
  unfold State.failReeve
  refine .ite h ?_
  extract_lets _ s1 page _ s2
  have hs1 : Touches G ⟨doneParts ++ memParts ++ [.windows, .fields, .steadFailed, .bankMoves, .plots, .kept, .arrays, .engines, .gleanMeta, .coulter, .thr, .swath], [.hitch, .cmdwin, .thresher, .thrCh, .recovery, .field, .glean, .harrow, .reeve]⟩ t s1 := .ite h.setField h.same
  have hs2 : Touches G ⟨doneParts ++ memParts ++ [.windows, .fields, .steadFailed, .bankMoves, .plots, .kept, .arrays, .engines, .gleanMeta, .coulter, .thr, .swath], [.hitch, .cmdwin, .thresher, .thrCh, .recovery, .field, .glean, .harrow, .reeve]⟩ t s2 := by
    clear_value page
    cases page with
    | none => exact hs1
    | some f => exact .ite hs1.raiseErr.bumpBy hs1.raiseErr
  exact .ite hs2 <| .ite hs2.loseField <| hs2.foldl fun _ _ h' => .ite h' h'.raiseErr

theorem Touches.reeveFault (h : Touches G F s t) {place c check held} (hE : Footprint.fits ⟨doneParts ++ memParts ++ [.windows, .fields, .steadFailed, .bankMoves, .plots, .kept, .arrays, .engines, .gleanMeta, .coulter, .thr, .swath], [.hitch, .cmdwin, .thresher, .thrCh, .recovery, .field, .glean, .harrow, .reeve]⟩ F = true := by rfl) :
    Touches G F s (t.reeveFault place c check held) := h.via hE fun h =>
    .ite h h.failReeve.noteCapacity

end Sys2Proof.Machine
end

section
/-!
What the resets and the update touch.
-/
namespace Sys2Proof.Machine

set_option Elab.async false

variable {G : Prop} {F : Footprint} {s t u : State}

/-! ### Reset -/

/-- An update of Steward's state. -/
theorem Touches.withSteward (h : Touches G F s t) {x} (hE : Footprint.fits ⟨[.steward], []⟩ F = true := by rfl) :
    Touches G F s { t with steward := x } :=
  h.via hE fun h => h.same

theorem Touches.logOpen (h : Touches G F s t) {info} (hE : Footprint.fits ⟨[.steward, .freeCtr], []⟩ F = true := by rfl) :
    Touches G F s (t.logOpen info) := h.via hE fun h =>
    h.drawn.logAdd

theorem Touches.setStage (h : Touches G F s t) {stage progress} (hE : Footprint.fits ⟨[.steward], []⟩ F = true := by rfl) :
    Touches G F s (t.setStage stage progress) := h.via hE fun h =>
    h.same

theorem Touches.haltBoot (h : Touches G F s t) {code} (hE : Footprint.fits ⟨[.hitch, .steward, .freeCtr], []⟩ F = true := by rfl) :
    Touches G F s (t.haltBoot code) := h.via hE fun h =>
    h.same.logAdd

theorem Touches.journalFlush (h : Touches G F s t) (hE : Footprint.fits ⟨[.journal], []⟩ F = true := by rfl) :
    Touches G F s t.journalFlush := h.via hE fun h =>
    h.journalFlushN

theorem Touches.journalPage (h : Touches G F s t) (hE : Footprint.fits ⟨[.journal], []⟩ F = true := by rfl) :
    Touches G F s t.journalPage := h.via hE fun h => by
  unfold State.journalPage
  split
  · exact h
  · exact .ite h.journalFlushN h

theorem Touches.putBootRec (h : Touches G F s t) {r} (hE : Footprint.fits ⟨[.steward], []⟩ F = true := by rfl) :
    Touches G F s (t.putBootRec r) := h.via hE fun h =>
    .ite h.same h.same

theorem Touches.setSlotImg (h : Touches G F s t) {k x} (hE : Footprint.fits ⟨[.steward], []⟩ F = true := by rfl) :
    Touches G F s (t.setSlotImg k x) := h.via hE fun h =>
    .ite h.same h.same

theorem Touches.takeTry (h : Touches G F s t) (hE : Footprint.fits ⟨[.steward], []⟩ F = true := by rfl) :
    Touches G F s t.takeTry := h.via hE fun h => by
  unfold State.takeTry
  extract_lets
  split
  · exact h
  · exact .ite (Touches.withSteward h.putBootRec) h.putBootRec

theorem Touches.bootFirmware (h : Touches G F s t) (hE : Footprint.fits ⟨[.hitch, .steward, .freeCtr], []⟩ F = true := by rfl) :
    Touches G F s t.bootFirmware := h.via hE fun h => by
  unfold State.bootFirmware
  extract_lets s1
  have hs1 : Touches G ⟨[.hitch, .steward, .freeCtr], []⟩ t s1 := h.takeTry
  split
  · exact Touches.setStage hs1.same
  · exact hs1.haltBoot

theorem Touches.enterCause (h : Touches G F s t) (hE : Footprint.fits ⟨[.journal, .steward, .freeCtr], []⟩ F = true := by rfl) :
    Touches G F s t.enterCause := h.via hE fun h =>
    .ite h h.same.journalAdd.logOpen

theorem mem_everything_kinds : ∀ k : PageKind, k ∈ everything.kinds := by
  intro k
  cases k <;> decide

/-- An operation that may change registers of every page. -/
theorem Touches.allRegs (h : Touches G everything s t) (hf : G → Formed t → Formed u) (hp : u = t.take everything.parts u := by rfl) :
    Touches G everything s u :=
  h.trans ⟨fun _ => Part.same_take hp, fun _ _ k _ _ hn => absurd (mem_everything_kinds k) hn, fun g => hf g (h.formed g)⟩

theorem Touches.wipe (h : Touches G F s t) (hE : everything.fits F = true := by rfl) : Touches G F s t.wipe := by
  refine h.via hE fun h => h.trans ⟨fun p hp => ?_, fun _ _ k _ _ hn => absurd (mem_everything_kinds k) hn, fun g => (h.formed g).wipe⟩
  cases p
  case tithe | pending => rfl
  all_goals cases hp

theorem Touches.coldReset (h : Touches G F s t) {cause addr src} (hE : everything.fits F = true := by rfl) :
    Touches G F s (t.coldReset cause addr src) := h.via hE fun h => by
  unfold State.coldReset
  extract_lets s1 early s2
  have hs1 : Touches G everything t s1 := h.enterCause
  have hs2 : Touches G everything t s2 := Touches.wipe (.ite hs1.journalAdd.journalFlush.logOpen hs1)
  exact hs2.withSteward

theorem Touches.mainInput (h : Touches G F s t) (hE : everything.fits F = true := by rfl) :
    Touches G F s t.mainInput := h.via hE fun h =>
    .ite h (.ite (Touches.coldReset h.withSteward) h.withSteward)

theorem Touches.standbyInput (h : Touches G F s t) (hE : everything.fits F = true := by rfl) :
    Touches G F s t.standbyInput := h.via hE fun h =>
    .ite h (Touches.coldReset h.withSteward)

theorem Touches.resetPin (h : Touches G F s t) {lowUs} (hE : everything.fits F = true := by rfl) :
    Touches G F s (t.resetPin lowUs) := h.via hE fun h =>
    .ite h.coldReset h

theorem Touches.diesOff (h : Touches G F s t) (hE : everything.fits F = true := by rfl) :
    Touches G F s t.diesOff := h.via hE fun h => by
  unfold State.diesOff
  extract_lets w
  have hw : Touches G everything t w := h.wipe
  clear_value w
  have hp : Touches G everything t { w with power := { w.power with thermtrip := t.power.thermtrip } } := hw.withPower
  exact hp.allRegs fun _ h => h.same

theorem Touches.holdOff (h : Touches G F s t) (hE : Footprint.fits ⟨[.steward], []⟩ F = true := by rfl) :
    Touches G F s t.holdOff := h.via hE fun h =>
    h.same

theorem Touches.vinLow (h : Touches G F s t) (hE : everything.fits F = true := by rfl) :
    Touches G F s t.vinLow := h.via hE fun h => by
  unfold State.vinLow
  extract_lets _ s1 s2
  have hs1 : Touches G everything t s1 := h.withSteward
  have hs2 : Touches G everything t s2 := .ite hs1.logAdd hs1
  exact .ite h (.ite hs2.diesOff hs2)

theorem Touches.vinHigh (h : Touches G F s t) (hE : everything.fits F = true := by rfl) :
    Touches G F s t.vinHigh := h.via hE fun h =>
    .ite h (Touches.holdOff (.ite h.logAdd.diesOff h.logAdd))

theorem Touches.vstbyLow (h : Touches G F s t) (hE : everything.fits F = true := by rfl) :
    Touches G F s t.vstbyLow := h.via hE fun h => by
  unfold State.vstbyLow
  extract_lets s1 s2
  have hs1 : Touches G everything t s1 := h.enterCause.journalFlush
  have hs2 : Touches G everything t s2 := .ite hs1.diesOff hs1
  exact .ite h hs2.withSteward

theorem Touches.refclkLost (h : Touches G F s t) (hE : everything.fits F = true := by rfl) :
    Touches G F s t.refclkLost := h.via hE fun h =>
    .ite h.logAdd.diesOff.holdOff h

theorem Touches.mclkLost (h : Touches G F s t) (hE : Footprint.fits ⟨[.steward, .freeCtr], []⟩ F = true := by rfl) :
    Touches G F s t.mclkLost := h.via hE fun h =>
    .ite h.same.logAdd h

theorem Touches.mclkReturn (h : Touches G F s t) (hE : Footprint.fits ⟨[.steward], []⟩ F = true := by rfl) :
    Touches G F s t.mclkReturn := h.via hE fun h =>
    h.same

theorem Touches.junctionRead (h : Touches G F s t) {die k t'} (hE : everything.fits F = true := by rfl) :
    Touches G F s (t.junctionRead die k t') := h.via hE fun h => by
  unfold State.junctionRead
  extract_lets s1
  have hs1 : Touches G everything t s1 := h.sensorRead
  exact .ite h (.ite (Touches.holdOff <| Touches.diesOff <| Touches.logAdd <| hs1.withPower) hs1)

theorem Touches.strapSample (h : Touches G F s t) {pwr slot boot} (hE : Footprint.fits ⟨eventParts ++ [.steward, .freeCtr], [.hitch, .steward]⟩ F = true := by rfl) :
    Touches G F s (t.strapSample pwr slot boot) := h.via hE fun h => by
  unfold State.strapSample
  refine .ite h <| .ite (.ite h h.same.bump.logOpen.raise) ?_
  exact .ite (.ite h.same.same.logOpen h.same.same) (.ite h.same.haltBoot h.same)

theorem Touches.hedgeTrain (h : Touches G F s t) {links} (hE : Footprint.fits ⟨doneParts ++ memParts ++ [.windows, .fields, .bankMoves, .plots, .kept, .arrays, .engines, .gleanMeta, .coulter, .thr, .swath, .power], [.hitch, .cmdwin, .thresher, .thrCh, .recovery, .field, .glean, .harrow]⟩ F = true := by rfl) :
    Touches G F s (t.hedgeTrain links) := h.via hE fun h => by
  unfold State.hedgeTrain
  extract_lets s1 s2 s3
  have hs1 : Touches G ⟨doneParts ++ memParts ++ [.windows, .fields, .bankMoves, .plots, .kept, .arrays, .engines, .gleanMeta, .coulter, .thr, .swath, .power], [.hitch, .cmdwin, .thresher, .thrCh, .recovery, .field, .glean, .harrow]⟩ t s1 := h.foldl fun _ _ h' => .ite h'.setHedge h'
  have hs2 : Touches G ⟨doneParts ++ memParts ++ [.windows, .fields, .bankMoves, .plots, .kept, .arrays, .engines, .gleanMeta, .coulter, .thr, .swath, .power], [.hitch, .cmdwin, .thresher, .thrCh, .recovery, .field, .glean, .harrow]⟩ t s2 := hs1.foldl fun _ _ h' => h'.reroute
  have hs3 : Touches G ⟨doneParts ++ memParts ++ [.windows, .fields, .bankMoves, .plots, .kept, .arrays, .engines, .gleanMeta, .coulter, .thr, .swath, .power], [.hitch, .cmdwin, .thresher, .thrCh, .recovery, .field, .glean, .harrow]⟩ t s3 := hs2.foldl fun _ _ h' => h'.loseField
  exact hs3.withPower (List.length_map _)

theorem Touches.trainStacks (h : Touches G F s t) {ok} (hE : Footprint.fits ⟨eventParts ++ [.stackList], [.hitch, .granary]⟩ F = true := by rfl) :
    Touches G F s (t.trainStacks ok) := h.via hE fun h =>
    h.foldl fun _ _ h' => .ite h'.setStack h'.setStack.raiseErr

/-- The self-test gives every array, engine and decoder core a state. -/
theorem Touches.unitsTested (h : Touches G F s t) {k : Nat → ArraySt} {e : Nat → EngineSt} {c : Nat}
    (hE : Footprint.fits ⟨[.arrays, .engines, .coulter], []⟩ F = true := by rfl) :
    Touches G F s { t with
      arrays := (List.range 8).map k
      engines := (List.range 16).map e
      coulter := { t.coulter with cores := List.replicate 16 c } } :=
  h.via hE fun h => h.upd fun _ h => h.unitsTested

theorem Touches.selfTest (h : Touches G F s t) {o} (hE : Footprint.fits ⟨eventParts ++ [.flights, .arrays, .engines, .coulter, .thr], [.hitch, .coulter, .coulterDec, .thresher, .furrow, .harrow]⟩ F = true := by rfl) :
    Touches G F s (t.selfTest o) := h.via hE fun h => by
  unfold State.selfTest
  extract_lets _ s1 s2 s3 s4 s5
  have hs1 : Touches G ⟨eventParts ++ [.flights, .arrays, .engines, .coulter, .thr], [.hitch, .coulter, .coulterDec, .thresher, .furrow, .harrow]⟩ t s1 := h.unitsTested
  have hs2 : Touches G ⟨eventParts ++ [.flights, .arrays, .engines, .coulter, .thr], [.hitch, .coulter, .coulterDec, .thresher, .furrow, .harrow]⟩ t s2 := hs1.foldl fun _ _ h' => h'.failArray
  have hs3 : Touches G ⟨eventParts ++ [.flights, .arrays, .engines, .coulter, .thr], [.hitch, .coulter, .coulterDec, .thresher, .furrow, .harrow]⟩ t s3 := hs2.foldl fun _ _ h' => h'.failEngine
  have hs4 : Touches G ⟨eventParts ++ [.flights, .arrays, .engines, .coulter, .thr], [.hitch, .coulter, .coulterDec, .thresher, .furrow, .harrow]⟩ t s4 := hs3.foldlMem fun _ _ hc h' => h'.failCore fun _ => List.mem_range.1 (List.mem_of_mem_filter hc)
  have hs5 : Touches G ⟨eventParts ++ [.flights, .arrays, .engines, .coulter, .thr], [.hitch, .coulter, .coulterDec, .thresher, .furrow, .harrow]⟩ t s5 := hs4.foldl fun _ _ h' => Touches.raiseErr h'.same
  exact .ite hs5.raiseErr hs5

theorem Touches.reeveTest (h : Touches G F s t) {ok} (hE : Footprint.fits ⟨doneParts ++ memParts ++ [.windows, .fields, .steadFailed, .bankMoves, .plots, .kept, .arrays, .engines, .gleanMeta, .coulter, .thr, .swath], [.hitch, .cmdwin, .thresher, .thrCh, .recovery, .field, .glean, .harrow, .reeve]⟩ F = true := by rfl) :
    Touches G F s (t.reeveTest ok) := h.via hE fun h =>
    h.foldl fun _ _ h' => h'.failReeve

theorem Touches.openFabric (h : Touches G F s t) (hE : Footprint.fits ⟨eventParts ++ [.steward, .freeCtr], [.hitch, .steward, .recovery]⟩ F = true := by rfl) :
    Touches G F s t.openFabric := h.via hE fun h => by
  unfold State.openFabric
  extract_lets _ _ _ _ _ s2 s3
  have hs2 : Touches G ⟨eventParts ++ [.steward, .freeCtr], [.hitch, .steward, .recovery]⟩ t s2 := .ite h.same.raiseErr h.same
  have hs3 : Touches G ⟨eventParts ++ [.steward, .freeCtr], [.hitch, .steward, .recovery]⟩ t s3 := .ite hs2.linkError hs2
  exact .ite hs3.raiseErr hs3

theorem Touches.stageDone (h : Touches G F s t) {o} (hE : everything.fits F = true := by rfl) :
    Touches G F s (t.stageDone o) := h.via hE fun h => by
  unfold State.stageDone
  extract_lets _ s1
  have hs1 : Touches G everything t s1 := .ite h.logOpen h
  refine .ite h <| .ite h.setStage <| .ite (.ite h (.ite h.same h.setStage.enterCause)) ?_
  refine .ite (.ite hs1.setStage hs1.haltBoot) <| .ite h.bootFirmware ?_
  refine .ite (.ite h (.ite h.haltBoot (.ite h.setStage h.setStage))) <| .ite (.ite h h.same.setStage) <| .ite h ?_
  refine .ite h.hedgeTrain.setStage <| .ite h.setStage <| .ite h.setStage <| .ite h.trainStacks.setStage ?_
  exact .ite h.selfTest.setStage (.ite h.reeveTest.openFabric h)

theorem Touches.stageTimeout (h : Touches G F s t) {links} (hE : Footprint.fits ⟨doneParts ++ memParts ++ [.windows, .steward, .fields, .bankMoves, .plots, .kept, .arrays, .engines, .gleanMeta, .coulter, .thr, .swath, .power, .freeCtr], [.hitch, .cmdwin, .thresher, .thrCh, .recovery, .field, .glean, .harrow]⟩ F = true := by rfl) :
    Touches G F s (t.stageTimeout links) := h.via hE fun h =>
    .ite h (.ite (.ite h.hedgeTrain.setStage h) h.haltBoot)

theorem Touches.beginWarm (h : Touches G F s t) {src} (hE : Footprint.fits ⟨[.regs, .flights, .journal, .steward, .freeCtr], [.steward]⟩ F = true := by rfl) :
    Touches G F s (t.beginWarm src) := h.via hE fun h => by
  unfold State.beginWarm
  extract_lets s1
  have hs1 : Touches G ⟨[.regs, .flights, .journal, .steward, .freeCtr], [.steward]⟩ t s1 := h.journalAdd.journalFlush.logOpen.bump.setStage
  exact hs1.upd fun _ h => h.withFlights (FlightsOk.filter h.flights)

theorem Touches.requestWarm (h : Touches G F s t) {src} (hE : Footprint.fits ⟨[.regs, .flights, .journal, .steward, .power, .freeCtr], [.steward]⟩ F = true := by rfl) :
    Touches G F s (t.requestWarm src) := h.via hE fun h =>
    .ite h.bump.logOpen (.ite h.same h.beginWarm)

theorem Touches.answerHeld (h : Touches G F s t) (hE : Footprint.fits ⟨[.hitch, .steward], []⟩ F = true := by rfl) :
    Touches G F s t.answerHeld := h.via hE fun h =>
    h.same.foldl fun _ _ h' => h'.respond

theorem Touches.flushWork (h : Touches G F s t) (hE : everything.fits F = true := by rfl) :
    Touches G F s t.flushWork := h.via hE fun h => by
  unfold State.flushWork
  extract_lets _ s1
  have hs1 : Touches G everything t s1 := h.allRegs fun _ h => {
    lengths := (by simp [State.lengths, s1] : s1.lengths = t.lengths).trans h.lengths
    areas := h.areas
    flights := fun _ hf => absurd hf List.not_mem_nil
    furlong := fun _ hg => nomatch hg
    samples := h.samples
    words := h.words }
  exact hs1.setRf.resetThresher.resetSwath.resetSample.dropRings.dropSteps.resetRecovery

theorem Touches.warmStage (h : Touches G F s t) (hE : everything.fits F = true := by rfl) :
    Touches G F s t.warmStage := h.via hE fun h => by
  unfold State.warmStage
  refine .ite h <| .ite ((h.foldl fun _ _ h' => h'.plotRestore).answerHeld.setStage) ?_
  exact .ite h.flushWork.setStage (.ite h.mapOut.setStage ((h.foldl fun _ _ h' => .ite h' h'.resetGlean).openFabric))

theorem Touches.winter (h : Touches G F s t) (hE : everything.fits F = true := by rfl) :
    Touches G F s t.winter := h.via hE fun h => by
  unfold State.winter
  extract_lets w
  have hw : Touches G everything t w := h.enterCause.journalFlush.wipe
  clear_value w
  have hp : Touches G everything t { w with power := { w.power with state := 4 } } := hw.withPower
  exact hp.withSteward

theorem Touches.powerReached (h : Touches G F s t) (hE : everything.fits F = true := by rfl) :
    Touches G F s t.powerReached := h.via hE fun h => by
  unfold State.powerReached
  split
  · exact h
  · refine .ite h.winter ?_
    extract_lets s1 _ s2 s3
    have hs1 : Touches G everything t s1 := .ite h.sleepLoss (.ite h.sleepLoss.fallowLoss h)
    have hs2 : Touches G everything t s2 := hs1.withPower
    have hs3 : Touches G everything t s3 := hs2.bump.raise.noteCapacity
    split
    · exact .ite hs3.beginWarm hs3
    · exact hs3

theorem Touches.wake (h : Touches G F s t) (hE : everything.fits F = true := by rfl) :
    Touches G F s t.wake := h.via hE fun h => by
  unfold State.wake
  extract_lets s1
  have hs1 : Touches G everything t s1 := h.coldReset
  exact .ite hs1.withPower h

/-! ### Steward -/

theorem Touches.updEnd (h : Touches G F s t) {u outcome} (hE : Footprint.fits ⟨eventParts ++ [.steward, .freeCtr], [.hitch, .steward]⟩ F = true := by rfl) :
    Touches G F s (t.updEnd u outcome) := h.via hE fun h =>
    h.same.logAdd.raise

theorem Touches.updStage (h : Touches G F s t) (hE : Footprint.fits ⟨[.steward], []⟩ F = true := by rfl) :
    Touches G F s t.updStage := h.via hE fun h =>
    .ite h.same.setSlotImg h.same

theorem Touches.stageComplete (h : Touches G F s t) {flashOk} (hE : Footprint.fits ⟨eventParts ++ [.steward, .freeCtr], [.hitch, .steward]⟩ F = true := by rfl) :
    Touches G F s (t.stageComplete flashOk) := h.via hE fun h => by
  unfold State.stageComplete
  split
  · exact .ite h (.ite h.updEnd (.ite h.updEnd h.setSlotImg.same.updEnd))
  · exact h

theorem Touches.updActivate (h : Touches G F s t) (hE : Footprint.fits ⟨eventParts ++ [.steward, .freeCtr], [.hitch, .steward]⟩ F = true := by rfl) :
    Touches G F s t.updActivate := h.via hE fun h =>
    h.putBootRec.updEnd

theorem Touches.updConfirm (h : Touches G F s t) (hE : Footprint.fits ⟨eventParts ++ [.steward, .freeCtr], [.hitch, .steward]⟩ F = true := by rfl) :
    Touches G F s t.updConfirm := h.via hE fun h =>
    h.putBootRec.same.updEnd

theorem Touches.updAbandon (h : Touches G F s t) (hE : Footprint.fits ⟨eventParts ++ [.steward, .freeCtr], [.hitch, .steward]⟩ F = true := by rfl) :
    Touches G F s t.updAbandon := h.via hE fun h =>
    h.putBootRec.same.updEnd

theorem Touches.updCommand (h : Touches G F s t) {src cmd} (hE : Footprint.fits ⟨eventParts ++ [.journal, .steward, .freeCtr], [.hitch, .steward]⟩ F = true := by rfl) :
    Touches G F s (t.updCommand src cmd) := h.via hE fun h =>
    .ite h.journalAdd.updStage (.ite h.journalAdd.updActivate (.ite h.journalAdd.updConfirm h.journalAdd.updAbandon))

theorem Touches.quoteStart (h : Touches G F s t) (hE : Footprint.fits ⟨[.steward], []⟩ F = true := by rfl) :
    Touches G F s t.quoteStart := h.via hE fun h =>
    h.same

theorem Touches.writeCerts (h : Touches G F s t) (hE : Footprint.fits ⟨memParts ++ [.kept], [.granary, .granaryCache]⟩ F = true := by rfl) :
    Touches G F s t.writeCerts := h.via hE fun h =>
    h.storeAs

theorem Touches.quoteDone (h : Touches G F s t) (hE : Footprint.fits ⟨eventParts ++ memParts ++ [.steward, .kept], [.hitch, .steward, .granary, .granaryCache]⟩ F = true := by rfl) :
    Touches G F s t.quoteDone := h.via hE fun h => by
  unfold State.quoteDone
  extract_lets _ _ s1
  have hs1 : Touches G ⟨eventParts ++ memParts ++ [.steward, .kept], [.hitch, .steward, .granary, .granaryCache]⟩ t s1 := .ite h.storeAs h
  exact .ite h (Touches.raise hs1.withSteward)

end Sys2Proof.Machine
end

section
/-!
What the parsing and issue of descriptors, and the host waits, touch.
-/
namespace Sys2Proof.Machine

set_option Elab.async false

variable {G : Prop} {F : Footprint} {s t u : State}

/-! ### Issue -/

theorem Touches.parseWindow (h : Touches G F s t) {w} (hw : G → PageKind.cmdwin.Admits w) (hE : Footprint.fits ⟨eventParts ++ [.windows], [.hitch, .cmdwin, .reeve]⟩ F = true := by rfl) :
    Touches G F s (t.parseWindow w) := h.via hE fun h => by
  unfold State.parseWindow
  extract_lets _ s0
  have hs0 : Touches G ⟨eventParts ++ [.windows], [.hitch, .cmdwin, .reeve]⟩ t s0 := .ite h.bump h
  refine .ite h ?_
  split
  · exact h
  · exact .ite (h.loseFraming hw) (.ite h (.ite (hs0.setWin.refuseDesc hw) hs0.setWin))

theorem Touches.noteIssue (h : Touches G F s t) {d step} (hE : Footprint.fits ⟨eventParts ++ [.windows, .flights, .furlong, .engines, .thr, .passIds], [.hitch, .cmdwin, .recovery, .harrow]⟩ F = true := by rfl) :
    Touches G F s (t.noteIssue d step) := h.via hE fun h => by
  unfold State.noteIssue
  split
  · exact h.notePass
  · exact h.rehomeEngine
  · exact h.noteColl
  · exact h.recNext
  · exact h

theorem Touches.issueFlight (h : Touches G F s t) {origin step d} (ho : G → OriginOk origin) (hE : Footprint.fits ⟨doneParts ++ memParts ++ [.windows, .nextId, .engines, .thr, .power, .winnow, .passIds], [.hitch, .cmdwin, .recovery, .harrow, .granary]⟩ F = true := by rfl) :
    Touches G F s (t.issueFlight origin step d) := h.via hE fun h => by
  unfold State.issueFlight
  extract_lets _ _ f s1 s2
  have hf : FlightFits G f := fun g => ⟨by cases origin <;> exact ho g, State.startProg_ok⟩
  have hs1 : Touches G ⟨doneParts ++ memParts ++ [.windows, .nextId, .engines, .thr, .power, .winnow, .passIds], [.hitch, .cmdwin, .recovery, .harrow, .granary]⟩ t s1 := .ite h.openStep.leaveIdle h
  have hs2 : Touches G ⟨doneParts ++ memParts ++ [.windows, .nextId, .engines, .thr, .power, .winnow, .passIds], [.hitch, .cmdwin, .recovery, .harrow, .granary]⟩ t s2 := Touches.noteIssue <| hs1.upd fun hG h => h.withFlights fun g hg => by
    rcases List.mem_append.1 hg with hg | hg
    · exact h.flights g hg
    · exact List.mem_singleton.1 hg ▸ hf hG
  exact .ite hs2 hs2.complete

theorem Touches.issueWindow (h : Touches G F s t) {w} (hw : G → PageKind.cmdwin.Admits w) (hE : Footprint.fits ⟨doneParts ++ memParts ++ [.windows, .nextId, .engines, .thr, .power, .winnow, .passIds], [.hitch, .cmdwin, .recovery, .harrow, .granary, .reeve]⟩ F = true := by rfl) :
    Touches G F s (t.issueWindow w) := h.via hE fun h => by
  unfold State.issueWindow
  extract_lets
  split
  · exact h
  · exact .ite h (.ite h (.ite (h.setWin.refuseDesc hw) (Touches.issueFlight (.ite (h.setWin.bump (hk := hw)).bump (h.setWin.bump (hk := hw))) hw)))

theorem Touches.runNop (h : Touches G F s t) {id} (hE : Footprint.fits ⟨doneParts, [.hitch, .cmdwin]⟩ F = true := by rfl) :
    Touches G F s (t.runNop id) := h.via hE fun h => by
  unfold State.runNop
  split
  · exact h
  next hf => exact (h.setFlight (h.flightOf hf).keep).complete

theorem Touches.runSignal (h : Touches G F s t) {id} (hE : Footprint.fits ⟨doneParts, [.hitch, .cmdwin]⟩ F = true := by rfl) :
    Touches G F s (t.runSignal id) := h.via hE fun h => by
  unfold State.runSignal
  split
  · exact h
  · exact .ite h.complete h

theorem Touches.setFurlong (h : Touches G F s t) {fu g : Furlong} (hw : G → PageKind.cmdwin.Admits g.window) (hg : fu.window = g.window := by rfl) (hE : Footprint.fits ⟨[.furlong], []⟩ F = true := by rfl) :
    Touches G F s (t.setFurlong fu) := h.via hE fun h =>
    h.upd fun g h => h.withFurlong fun x hx => by
    cases hx
    exact hg ▸ hw g

theorem Touches.beginStep (h : Touches G F s t) {fu : Furlong} {step origin pre} (hw : G → PageKind.cmdwin.Admits fu.window) (hE : Footprint.fits ⟨memParts ++ [.furlong, .winnow], [.almanac, .granary]⟩ F = true := by rfl) :
    Touches G F s (t.beginStep fu step origin pre) := h.via hE fun h => by
  unfold State.beginStep
  extract_lets s1 _ _ s2
  have hs1 : Touches G ⟨memParts ++ [.furlong, .winnow], [.almanac, .granary]⟩ t s1 := h.setRf
  have hs2 : Touches G ⟨memParts ++ [.furlong, .winnow], [.almanac, .granary]⟩ t s2 := .ite (hs1.emptyProbes.upd fun g h => h.withWinnow (hs1.formed g).areas) hs1
  exact hs2.setFurlong hw

theorem Touches.firstOf (h : Touches G F s t) {fu : Furlong} (hw : G → PageKind.cmdwin.Admits fu.window) (hE : Footprint.fits ⟨memParts ++ [.furlong, .winnow], [.almanac, .granary]⟩ F = true := by rfl) :
    Touches G F s (t.firstOf fu) := h.via hE fun h => by
  unfold State.firstOf
  refine .ite h ?_
  split
  · exact h.beginStep hw
  · exact h

theorem Touches.nextExpansion (h : Touches G F s t) {fu : Furlong} (hw : G → PageKind.cmdwin.Admits fu.window) (hE : Footprint.fits ⟨memParts ++ [.furlong, .winnow], [.almanac, .granary]⟩ F = true := by rfl) :
    Touches G F s (t.nextExpansion fu) := h.via hE fun h => by
  unfold State.nextExpansion
  split
  · refine .ite ?_ (h.firstOf hw)
    split
    · exact h.beginStep hw
    · exact h
  · exact h.firstOf hw

theorem Touches.issueInstance (h : Touches G F s t) {fu : Furlong} {rest step pre phase t' chunk micro} (hw : G → PageKind.cmdwin.Admits fu.window) (hE : Footprint.fits ⟨doneParts ++ memParts ++ [.windows, .nextId, .engines, .thr, .power, .winnow, .passIds], [.hitch, .cmdwin, .recovery, .harrow, .granary]⟩ F = true := by rfl) :
    Touches G F s (t.issueInstance fu rest step pre phase t' chunk micro) := h.via hE fun h =>
    .ite h (.ite (Touches.refuseInstance (h.setFurlong hw)) (Touches.issueFlight (h.setFurlong hw) (origin := .furlong _ _ _ _) hw))

theorem Touches.expandNext (h : Touches G F s t) (hE : Footprint.fits ⟨doneParts ++ memParts ++ [.windows, .nextId, .engines, .thr, .power, .winnow, .passIds], [.hitch, .almanac, .cmdwin, .recovery, .harrow, .granary]⟩ F = true := by rfl) :
    Touches G F s t.expandNext := h.via hE fun h => by
  unfold State.expandNext
  split
  · exact h
  next hfu =>
    have hw : G → PageKind.cmdwin.Admits _ := fun g => (h.formed g).furlong _ hfu
    refine .ite h ?_
    extract_lets
    split
    · exact .ite h.abortFurlong (h.nextExpansion hw)
    · exact (h.setFurlong hw).furlongCheck
    · exact h.setFurlong hw
    · exact .ite (h.clearFlag.setFurlong hw) h
    · exact .ite h.abortFurlong (h.issueInstance hw)

/-! ### HostWait -/

theorem Touches.refreshWaits (h : Touches G F s t) (hE : Footprint.fits ⟨[.hostWaits], []⟩ F = true := by rfl) :
    Touches G F s t.refreshWaits := h.via hE fun h =>
    h.same

/-- A wait that holds now belongs to a window that there is, or to none. -/
theorem State.waitWindow_lt {k : WaitKind} {w : Nat} (hu : Formed u) (hnow : t.waitsNow.contains k = true) (hw : u.waitWindow k = some w) : w < 16 := by
  cases k
  case flight id =>
    simp only [State.waitWindow] at hw
    split at hw
    next hf =>
      split at hw
      · cases hw
      · cases hw
        exact (hu.flight hf).window
    next => cases hw
  case partialWords v =>
    cases hw
    simp only [State.waitsNow, List.contains_iff_mem, List.mem_append, List.mem_map, List.mem_filter, List.mem_range, WaitKind.partialWords.injEq,
      reduceCtorEq, and_false, exists_false, false_or, exists_eq_right] at hnow
    rcases hnow with ((((h | h) | h) | h) | h) | h
    · exact h.1
    all_goals
      repeat' split at h
      all_goals simp at h
  all_goals cases hw

theorem Touches.hostWaitLate (h : Touches G F s t) {i} (hE : Footprint.fits ⟨eventParts ++ [.hostWaits], [.hitch, .cmdwin]⟩ F = true := by rfl) :
    Touches G F s (t.hostWaitLate i) := h.via hE fun h => by
  unfold State.hostWaitLate
  split
  · exact h
  · split
    · exact h
    next hgo =>
      extract_lets _ s2 s3
      have hs2 : Touches G ⟨eventParts ++ [.hostWaits], [.hitch, .cmdwin]⟩ t s2 := h.same.pauseJob.raiseErr
      have hs3 : Touches G ⟨eventParts ++ [.hostWaits], [.hitch, .cmdwin]⟩ t s3 := by
        unfold s3
        split
        next hw => exact hs2.raise (hk := fun g => State.waitWindow_lt (t := t) (hs2.formed g) (by simp_all) hw)
        next => exact hs2
      exact hs3

theorem Touches.almanacTick (h : Touches G F s t) (hE : Footprint.fits ⟨[.hostWaits, .alm, .power, .setNow, .flagsNow], []⟩ F = true := by rfl) :
    Touches G F s t.almanacTick := h.via hE fun h => by
  have hs1 : Touches G ⟨[.hostWaits, .alm, .power, .setNow, .flagsNow], []⟩ t t.refreshWaits.almAdvance.noteIdle := Touches.withPower h.refreshWaits.almAdvance
  exact hs1.same

end Sys2Proof.Machine
end

section
/-!
What the ports touch: each access what the register does, and what the port itself does of a request.
-/
namespace Sys2Proof.Machine

set_option Elab.async false

variable {G : Prop} {F : Footprint} {s t u : State}

/-! ### Requests at the ports -/

theorem Touches.dwRefused (h : Touches G F s t) {w code} (hw : G → PageKind.datawin.Admits w)
    (hE : Footprint.fits ⟨[.regs], [.datawin]⟩ F = true := by rfl) : Touches G F s (t.dwRefused w code).st :=
  h.via hE fun h => h.bump (hk := hw)

theorem Touches.dwMoved (h : Touches G F s t) {w} (hw : G → PageKind.datawin.Admits w)
    (hE : Footprint.fits ⟨[.regs, .power], [.datawin]⟩ F = true := by rfl) : Touches G F s (t.dwMoved w) :=
  h.via hE fun h => ((h.setRf (hk := hw)).bumpBy (hk := hw)).leaveIdle

theorem Touches.dwWrite (h : Touches G F s t) {w data} (hw : G → PageKind.datawin.Admits w)
    (hE : Footprint.fits ⟨memParts ++ [.kept, .power], [.datawin, .granary, .granaryCache]⟩ F = true := by rfl) :
    Touches G F s (t.dwWrite w data).st :=
  h.via hE fun h => .iteReply (h.dwRefused hw) (h.store.writeHint.dwMoved hw)

theorem Touches.dwRead (h : Touches G F s t) {w} (hw : G → PageKind.datawin.Admits w)
    (hE : Footprint.fits ⟨[.regs, .kept, .power], [.datawin, .granaryCache]⟩ F = true := by rfl) : Touches G F s (t.dwRead w).st :=
  h.via hE fun h => .iteReply (h.dwRefused hw) (h.readHint.dwMoved hw)

theorem Touches.send {r : Reply} (h : Touches G F s r.st) {tag a} (hE : Footprint.fits ⟨[.regs, .hitch], [.hitch]⟩ F = true := by rfl) :
    Touches G F s (r.send tag a) :=
  h.via hE fun h => .ite h.respond h.bump.respond

theorem Touches.holdRequest (h : Touches G F s t) {tag a} (hE : Footprint.fits ⟨[.regs, .hitch], [.hitch]⟩ F = true := by rfl) :
    Touches G F s (t.holdRequest tag a) :=
  h.via hE fun h => Touches.same (h := .ite h.bump h)

/-- What is touched besides what Hitch does of a request. -/
def Footprint.withHitch (E : Footprint) : Footprint := ⟨eventParts ++ E.parts, .hitch :: E.kinds⟩

/-- What is touched besides what the ports do of a register write. -/
def Footprint.withPort (E : Footprint) : Footprint :=
  Footprint.withHitch ⟨[.journal, .steward, .freeCtr] ++ E.parts, [.steward, .journal] ++ E.kinds⟩

section
variable {E : Footprint}

theorem Touches.request (h : Touches G E.withHitch s t) {kind tag a payload}
    (hx : ∀ u, Touches G E.withHitch s u → Touches G E.withHitch s (u.execRequest kind tag a payload)) :
    Touches G E.withHitch s (t.request kind tag a payload) :=
  .ite (.ite h.holdRequest h.respond) <| .ite h.respond <| .ite (Touches.send (r := .no t 0x0209) h) (hx t h)

theorem Touches.receiveFlit (h : Touches G E.withHitch s t) {seq header payload}
    (hx : ∀ u, Touches G E.withHitch s u →
      Touches G E.withHitch s (u.execRequest (bitsOf header 3 0) (bitsOf header 15 8) (bitsOf header 63 16) payload)) :
    Touches G E.withHitch s (t.receiveFlit seq header payload) := by
  unfold State.receiveFlit
  refine .ite h.linkCtrlReceived <| .ite h <| .ite (.ite h.discardFlit h) <| .ite h.discardFlit <| .ite h ?_
  have htaken {x : Hitch} : Touches G E.withHitch s { t with hitch := x } := h.via (E := ⟨[.hitch], []⟩) (by rfl) fun h => h.same
  exact .ite htaken.discardFlit (htaken.request hx)

/-- A flit that carries the one request. -/
theorem Touches.receiveRequest (h : Touches G E.withHitch s t) {seq kind a payload} {tag : BitVec 8} (hk : kind < 16) (ha : a < 2 ^ 48)
    (hx : ∀ u, Touches G E.withHitch s u → Touches G E.withHitch s (u.execRequest kind tag.toNat a payload)) :
    Touches G E.withHitch s (t.receiveFlit seq (reqHeader kind tag.toNat a) payload) :=
  h.receiveFlit fun u hu => by
    rw [bitsOf_reqHeader_kind hk, bitsOf_reqHeader_tag hk tag.isLt, bitsOf_reqHeader_addr hk tag.isLt ha]
    exact hx u hu

/-- An access to a register, by whatever source, touches no more. -/
def Accesses (G : Prop) (F : Footprint) (write : Bool) (a v : Nat) : Prop :=
  ∀ s t, Touches G F s t → ∀ src, Touches G F s (if write then t.regWrite src a v else t.regRead a).st

theorem Touches.execWrite (h : Touches G E.withHitch s t) {tag a v} (hv : v < 2 ^ 64) (ho : Accesses G E.withHitch true a v) :
    Touches G E.withHitch s (t.execRequest 2 tag a v) := by
  have hw : ∀ u, Touches G E.withHitch s u → Touches G E.withHitch s (u.regWrite .hitch a v).st := fun u hu => ho s u hu .hitch
  unfold State.execRequest
  simp only [if_neg (show (2 : Nat) ≠ 1 by decide), if_true, Nat.mod_eq_of_lt hv]
  exact .ite (hw _ h.respond) (hw _ h).send

theorem Touches.mgmtAnswer (h : Touches G F s t) {b} (hE : Footprint.fits ⟨[.steward], []⟩ F = true := by rfl) : Touches G F s (t.mgmtAnswer b) :=
  h.via hE fun h => h.same

theorem Touches.mgmtExec (h : Touches G E.withPort s t) {src write a v} (ho : Accesses G E.withPort write a v) :
    Touches G E.withPort s (t.mgmtExec src write a v).st := by
  unfold State.mgmtExec
  extract_lets s1 r
  have hr : Touches G E.withPort s r.st := ho s _ h.bump src
  exact .iteReply hr hr.bump

theorem Touches.mgmtRun (h : Touches G E.withPort s t) {src write a v answer answerHeld} (ho : Accesses G E.withPort write a v)
    (ha : ∀ u c d, Touches G E.withPort s u → Touches G E.withPort s (answer u c d)) :
    Touches G E.withPort s (t.mgmtRun src write a v answer answerHeld) := by
  unfold State.mgmtRun
  split
  · exact .ite ((ha _ _ _ h).mgmtExec ho) (ha _ _ _ (h.mgmtExec ho))
  · exact h.via (E := ⟨[.steward], []⟩) (by rfl) fun h => h.same
  · exact .ite h h.mgmtAnswer

theorem Touches.etherAnswer (h : Touches G F s t) {write tag seq a v code data}
    (hE : Footprint.fits ⟨[.steward, .freeCtr], []⟩ F = true := by rfl) : Touches G F s (t.etherAnswer write tag seq a v code data) :=
  h.via hE fun h => (Touches.same (h := .ite h h.drawn)).mgmtAnswer

theorem Touches.etherRequest (h : Touches G E.withPort s t) {b}
    (ho : Accesses G E.withPort (bitsOf (leNat (b.take 8)) 7 0 == 2) (leNat ((b.drop 8).take 8)) (leNat ((b.drop 16).take 8))) :
    Touches G E.withPort s (t.etherRequest b) := by
  unfold State.etherRequest
  refine .ite h <| .ite h.drawn.mgmtAnswer ?_
  split
  · exact .ite h.mgmtAnswer (h.drawn.mgmtRun ho fun _ _ _ h' => h'.etherAnswer)
  · exact h.drawn.mgmtRun ho fun _ _ _ h' => h'.etherAnswer

theorem op_datagram {tag : BitVec 8} {seq : BitVec 32} {a v : Nat} :
    bitsOf (leNat ((datagram 2 tag.toNat 0 seq.toNat a v).take 8)) 7 0 = 2 := by
  rw [take_datagram, leNat_leBytes]
  simp only [bitsOf, Nat.shiftLeft_eq, Nat.shiftRight_zero]
  omega

theorem Touches.blockAnswer (h : Touches G F s t) {write code data} (hE : Footprint.fits ⟨[.steward, .freeCtr], []⟩ F = true := by rfl) :
    Touches G F s (t.blockAnswer write code data) :=
  h.via hE fun h => .ite h (.ite h.mgmtAnswer h.drawn.mgmtAnswer)

theorem Touches.blockRequest (h : Touches G E.withPort s t) {src write a v} (ho : Accesses G E.withPort write a v) :
    Touches G E.withPort s (t.blockRequest src write a v) :=
  .ite h (h.drawn.mgmtRun ho fun _ _ _ h' => h'.blockAnswer)

/-- Whatever port a register write comes by, it touches what the write does and what the port does. -/
theorem Touches.writeBy (h : Touches G E.withPort s t) {via a v} (ha : a < 2 ^ 48) (hv : v < 2 ^ 64) (ho : Accesses G E.withPort true a v) :
    Touches G E.withPort s (t.writeBy via a v) := by
  cases via with
  | hitch seq tag =>
    change Touches G E.withPort s (t.receiveFlit seq.toNat (reqHeader 2 tag.toNat a) v)
    exact Touches.receiveRequest (E := ⟨[.journal, .steward, .freeCtr] ++ E.parts, [.steward, .journal] ++ E.kinds⟩) h (by decide) ha
      fun u hu => hu.execWrite hv ho
  | ethernet seq tag =>
    change Touches G E.withPort s (t.etherRequest (datagram 2 tag.toNat 0 seq.toNat a v))
    refine Touches.etherRequest h ?_
    rw [op_datagram, addr_datagram ha, value_datagram hv]
    exact ho
  | twoWire | jtag => exact h.blockRequest ho

end

/-! ### The test port -/

theorem Touches.bypass (h : Touches G F s t) {tdi} (hE : Footprint.fits ⟨[.steward], []⟩ F = true := by rfl) : Touches G F s (t.bypass tdi) :=
  h.via hE fun h => .ite h.mgmtAnswer h

theorem Touches.scan (h : Touches G F s t) {tdi} (hE : Footprint.fits ⟨[.steward, .freeCtr], []⟩ F = true := by rfl) : Touches G F s (t.scan tdi) :=
  h.via hE fun h => h.same

theorem Touches.samplePreload (h : Touches G F s t) {tdi} (hE : Footprint.fits ⟨[.steward, .freeCtr], []⟩ F = true := by rfl) :
    Touches G F s (t.samplePreload tdi) :=
  h.via hE fun h => .ite h.scan h

theorem Touches.extest (h : Touches G F s t) {tdi} (hE : Footprint.fits ⟨[.steward, .freeCtr], []⟩ F = true := by rfl) : Touches G F s (t.extest tdi) :=
  h.via hE fun h => .ite h (.ite h.same h.bypass)

theorem Touches.idcode (h : Touches G F s t) (hE : Footprint.fits ⟨[.steward], []⟩ F = true := by rfl) : Touches G F s t.idcode :=
  h.via hE fun h => .ite h.mgmtAnswer h

end Sys2Proof.Machine
end

section
/-!
What a register access touches, whatever its address.
-/
namespace Sys2Proof.Machine

set_option Elab.async false

variable {G : Prop} {F : Footprint} {s t u : State}

/-! ### Whatever is written -/

theorem Touches.putReg (h : Touches False F s t) {k i off v} (hE : Footprint.fits ⟨[.regs], [k]⟩ F = true) :
    Touches False F s (t.setReg (regAddr k i off) v) :=
  h.setReg hE (hk := False.elim) (ho := False.elim)

theorem mem_everything_of_kind (k : PageKind) : Footprint.fits ⟨[.regs], [k]⟩ everything = true := by
  cases k <;> rfl

theorem Touches.clearCounter (h : Touches False everything s t) {k i off} : Touches False everything s (t.clearCounter (regAddr k i off)) := by
  have hs1 : Touches False everything s (t.setReg (regAddr k i off) 0) := h.putReg (mem_everything_of_kind k)
  exact hs1.same

theorem Touches.resetRegs (h : Touches False everything s t) {k i} : Touches False everything s (t.resetRegs k i) :=
  h.foldl fun _ _ h' => .ite (h'.putReg (mem_everything_of_kind k)) (.ite h'.clearCounter h')

theorem Touches.blockReset (h : Touches False everything s t) {k i} : Touches False everything s (t.blockReset k i) := by
  unfold State.blockReset
  extract_lets
  split
  · exact h.resetRegs.resetWindow
  · exact h.resetRegs.resumeJob
  · exact h.resetRegs.resetArrayBlock
  · exact h.resetRegs.resetGlean
  · exact h.resetRegs.resetDrill
  · exact h.resetRegs.ttReset
  · exact h.resetRegs.resetSamplePage
  · exact h.resetRegs.resetStreams
  · exact h.resetRegs.dropSteps
  · exact h.resetRegs

theorem Touches.ctrlWrite (h : Touches False everything s t) {k i v} : Touches False everything s (t.ctrlWrite k i v) := by
  unfold State.ctrlWrite
  extract_lets was on s0 s1 s2
  have hs1 : Touches False everything s s1 := Touches.putReg (.ite (.getD h h.enableChannel) h) (mem_everything_of_kind k)
  have hs2 : Touches False everything s s2 := .ite hs1.enableWinnow (.ite hs1.enablePort.noteCapacity hs1)
  exact .ite hs2.blockReset hs2

theorem Touches.forceReeve (h : Touches G F s t) {place c} (hE : Footprint.fits ⟨doneParts ++ memParts ++ [.windows, .fields, .steadFailed, .bankMoves, .plots, .kept, .arrays, .engines, .gleanMeta, .coulter, .thr, .swath, .freeCtr], [.hitch, .cmdwin, .thresher, .thrCh, .recovery, .field, .glean, .harrow, .reeve]⟩ F = true := by rfl) :
    Touches G F s (t.forceReeve place c) :=
  h.via hE fun h => h.drawn.drawn.failReeve

theorem Touches.resetWrite (h : Touches G F s t) {src v} (hE : everything.fits F = true := by rfl) : Touches G F s (t.resetWrite src v) :=
  h.via hE fun h => .ite h.retrainHitch (.ite h.requestWarm h.coldReset)

theorem Touches.writeEffect (h : Touches False everything s t) {src k i off v} : Touches False everything s (t.writeEffect src k i off v) := by
  have hput {u : State} {k' i' off' x} (hu : Touches False everything s u) : Touches False everything s (u.setReg (regAddr k' i' off') x) :=
    hu.putReg (mem_everything_of_kind k')
  unfold State.writeEffect
  extract_lets a old new b
  have hb : Touches False everything s b := hput h
  have hf : Touches False everything s (t.setReg a (bitsOf v 31 0)) := hput h
  refine .ite h.ctrlWrite <| .ite (hput h) <| .ite (hput (hput (hput (hput h)))) <| .ite hb ?_
  split
  · exact .ite (.ite h.resumeJob (.ite h.pauseJob h)) (.ite (hput h.refreshWaits) hb)
  · split
    · exact h.resetWrite
    · exact h.updCommand
    · exact .ite (Touches.writeCerts (.ite h.quoteStart h)) (.ite h.quoteStart h)
    · exact hb
  · split
    · exact hf.same
    · exact h.same
    · exact h.submitRebase
    · exact h.flagControl
    · exact hb
  · split
    · exact h.setTarget
    · exact h.submitChange
    · exact hb
  · exact .ite h.setWin hb
  · exact .ite (hb.failCore False.elim).noteCapacity hb
  · exact .ite hb.forceArray.noteCapacity hb
  · exact .ite hb.forceEngine.noteCapacity hb
  · exact .ite hb.failStack.noteCapacity hb
  · exact .ite (hb.foldl fun _ _ h' => h'.forceReeve).noteCapacity hb
  · exact .ite (.ite h.emptyCrib h) (.ite hb.emptyCrib hb.emptyWindrow)
  · exact .ite (.getD h (h.liveWrite False.elim)) hb
  · exact .ite hb.enablePort.noteCapacity hb
  · exact .ite (.ite (Touches.noteCapacity (.getD h h.planLoad)) (.ite h.planUnload.noteCapacity h)) hb
  · split
    · exact h.writePair
    · exact h.drainAck
    · exact h.fillReady
    · exact hb
  · split
    · exact h.bankWrite False.elim
    · exact h.bankWrite False.elim
    · exact h.bankWrite False.elim
    · exact hb
  · exact .ite h.ttWrite hb
  · exact .ite hb.trimKept hb
  · split
    · exact h.foldl fun _ _ h' => hput h'
    · exact (h.foldl fun _ _ h' => hput h').maskTag
    · exact hb
  all_goals exact hb

/-! ### Register accesses -/

theorem Touches.journalRefused (h : Touches G F s t) (hE : Footprint.fits ⟨eventParts, [.hitch, .journal]⟩ F = true := by rfl) :
    Touches G F s t.journalRefused :=
  h.via hE fun h => h.bump.raise

theorem Touches.writeJournaled (h : Touches G F s t) {src k i off v} (hE : Footprint.fits ⟨[.journal], []⟩ F = true)
    (hw : ∀ u, Touches G F s u → Touches G F s (u.writeEffect src k i off v)) : Touches G F s (t.writeJournaled src k i off v) :=
  hw _ (.ite (h.journalAdd hE) h)

theorem Touches.regWrite (h : Touches G F s t) {src a v} (hE : Footprint.fits ⟨.journal :: eventParts, [.hitch, .journal]⟩ F = true)
    (hw : ∀ k i, pageAt a 8 = some (k, i) → ∀ u, Touches G F s u → Touches G F s (u.writeEffect src k i (a % 0x1000) v)) :
    Touches G F s (t.regWrite src a v).st := by
  have hrefused : Touches G F s t.journalRefused := h.via hE fun h => h.journalRefused
  have hj : Footprint.fits ⟨[.journal], []⟩ F = true := by
    simp only [Footprint.fits, List.all_cons, Bool.and_eq_true] at hE ⊢
    exact ⟨⟨hE.1.1, rfl⟩, rfl⟩
  unfold State.regWrite
  split
  · exact h
  next hpage => exact .iteReply h <| .iteReply h <| .iteReply hrefused <| .iteReply h <| h.writeJournaled hj (hw _ _ hpage)

theorem Touches.settle (h : Touches False everything s t) {k i off} : Touches False everything s (t.settle k i off) := by
  unfold State.settle
  have hs1 : Touches False everything s (t.bumpBy (regAddr k i off) (t.freeBits 64)).drawn := Touches.drawn (h.putReg (mem_everything_of_kind k))
  exact .ite h hs1.same

theorem Touches.regRead (h : Touches False everything s t) {a} : Touches False everything s (t.regRead a).st := by
  unfold State.regRead
  split
  · exact h
  · exact .iteReply h <| .iteReply h <| .ite h.settle.drawn h.settle

theorem accesses_everything {write a v} : Accesses False everything.withPort write a v := by
  intro s t h src
  have hall : Touches False everything s t := h.mono (by rfl)
  refine Touches.mono (E := everything) ?_ (by rfl)
  cases write with
  | true => exact hall.regWrite (by rfl) fun _ _ _ _ hu => hu.writeEffect
  | false => exact hall.regRead

theorem Touches.wordAccess (h : Touches False everything s t) {a write data} : Touches False everything s (t.wordAccess a write data).st := by
  unfold State.wordAccess
  split
  · exact h
  · exact .iteReply h <| .iteReply (.iteReply (h.dwWrite False.elim) (h.dwRead False.elim)) <| .iteReply (.iteReply h (h.cmdPort False.elim)) h

theorem Touches.execRequest (h : Touches False everything s t) {kind tag a payload} :
    Touches False everything s (t.execRequest kind tag a payload) := by
  have hw {u : State} {src v} (hu : Touches False everything s u) : Touches False everything s (u.regWrite src a v).st :=
    hu.regWrite (by rfl) fun _ _ _ _ hu => hu.writeEffect
  exact .ite h.regRead.send <| .ite (.ite (hw h.respond) (hw h).send) <| .ite h.wordAccess.send h.wordAccess.send

theorem Touches.anyFlit (h : Touches False everything s t) {seq header payload} : Touches False everything s (t.receiveFlit seq header payload) :=
  (Touches.receiveFlit (E := everything) (h.mono (by rfl)) fun _ hu => Touches.mono (Touches.execRequest (hu.mono (by rfl))) (by rfl)).mono (by rfl)

theorem Touches.anyDatagram (h : Touches False everything s t) {b} : Touches False everything s (t.etherRequest b) :=
  (Touches.etherRequest (E := everything) (h.mono (by rfl)) accesses_everything).mono (by rfl)

theorem Touches.anyBlock (h : Touches False everything s t) {src write a v} : Touches False everything s (t.blockRequest src write a v) :=
  (Touches.blockRequest (E := everything) (h.mono (by rfl)) accesses_everything).mono (by rfl)

theorem Touches.anyWrite (h : Touches False everything s t) {via a v} : Touches False everything s (t.writeBy via a v) := by
  cases via with
  | hitch seq tag =>
    change Touches False everything s (t.receiveFlit seq.toNat (reqHeader 2 tag.toNat a) v)
    exact h.anyFlit
  | ethernet seq tag =>
    change Touches False everything s (t.etherRequest (datagram 2 tag.toNat 0 seq.toNat a v))
    exact h.anyDatagram
  | twoWire | jtag => exact h.anyBlock

end Sys2Proof.Machine
end

section
/-!
What any command touches (O1 to O4, O8).
-/
namespace Sys2Proof.Machine

set_option Elab.async false

variable {G : Prop} {F : Footprint} {s t u : State}

/-! ### Every command -/

/-- Every command but the Tithe's own leaves the Tithe, and the commands that wait, alone. -/
theorem Touches.exec (h : Touches False everything s t) {c : Instr} (hc : c.ofTithe = false) :
    ∃ u, Machine.exec c t = .next u ∧ Touches False everything s u := by
  cases c with
  | registerWrite => exact ⟨_, rfl, h.anyFlit⟩
  | pgEventClear | pgErrCodeClear | blockReset | pgCtrlEnableWrite | jobPause | jobResume | resumeWrites | resumeIssue
  | reeveForceFail | arrayForceFail | harrowForceFail | winnowEnable | wnConfigWrite | wnSilentMaskWrite
  | tilthLayoutWrite | tilthBankStateWrite | ttControlWrite | granaryForceFail | decCoreForceFail | cribFlush
  | liveStreamEnable | planLoad | planUnload | flagSet | flagClear | ledgerRecordsWrite | rebaseSubmit | drainAck
  | fillReady | pairRequest | unpair | targetRun | targetRest | targetFallow | targetWinter | acChangeCancel
  | warmResetRequest | coldResetRequest | hitchRetrainRequest | stage | activate | confirm | abandon | quote | certs
  | thrChEnable => exact ⟨_, rfl, h.anyWrite⟩
  | hitchTrainingStep => exact ⟨_, rfl, h.trainStep⟩
  | hitchTrainingTimeout => exact ⟨_, rfl, h.trainTimeout⟩
  | linkCtrlReceived => exact ⟨_, rfl, h.linkCtrlReceived⟩
  | fecCodewordUncorrectable => exact ⟨_, rfl, h.fecLost⟩
  | replayRequestRepeat => exact ⟨_, rfl, .ite h.sendLinkCtrl h⟩
  | statusWordSend => exact ⟨_, rfl, h.sendLinkCtrl⟩
  | hitchReplayLimit => exact ⟨_, rfl, .ite h.retrainHitch h⟩
  | eventRecordSend => exact ⟨_, rfl, h.sendEvents⟩
  | hostWaitLate => exact ⟨_, rfl, h.hostWaitLate⟩
  | dwPortWrite | cmdPortWrite => exact ⟨_, rfl, h.anyFlit⟩
  | dwPortRead => exact ⟨_, rfl, h.anyFlit⟩
  | descriptorParse => exact ⟨_, rfl, h.parseWindow False.elim⟩
  | descriptorIssue => exact ⟨_, rfl, h.issueWindow False.elim⟩
  | nop => exact ⟨_, rfl, h.runNop⟩
  | signal => exact ⟨_, rfl, h.runSignal⟩
  | reeveCoreEcc | reeveWatchdog => exact ⟨_, rfl, h.reeveFault⟩
  | hedgeFlitCrcFail => exact ⟨_, rfl, h.hedgeReplay⟩
  | hedgeRerouted => exact ⟨_, rfl, h.hedgeReroute⟩
  | hedgeFieldLost => exact ⟨_, rfl, h.hedgeLost⟩
  | pass => exact ⟨_, rfl, h.takePass⟩
  | passShadowLoadStart => exact ⟨_, rfl, h.loadStart⟩
  | passShadowLoadDone => exact ⟨_, rfl, h.loadDone⟩
  | passSwap => exact ⟨_, rfl, h.swapPass⟩
  | passRowEnter => exact ⟨_, rfl, h.enterRow⟩
  | passRowAdd => exact ⟨_, rfl, h.addRow⟩
  | passComplete => exact ⟨_, rfl, h.completePass⟩
  | arrayFail =>
    refine ⟨_, rfl, Touches.noteCapacity ?_⟩
    split
    · exact h.failArray
    · exact h
  | helperReissue => exact ⟨_, rfl, h.reissueArray⟩
  | readout => exact ⟨_, rfl, h.readoutRow⟩
  | preload => exact ⟨_, rfl, h.preloadRow⟩
  | clear => exact ⟨_, rfl, h.clearRow⟩
  | saveRaw => exact ⟨_, rfl, h.saveRow⟩
  | loadRaw => exact ⟨_, rfl, h.loadRow⟩
  | reduce => exact ⟨_, rfl, h.reduceRow⟩
  | gleanEcc => exact ⟨_, rfl, h.gleanEcc⟩
  | map => exact ⟨_, rfl, h.mapChunk⟩
  | rowReduce => exact ⟨_, rfl, h.rowReduceUnit⟩
  | softmax => exact ⟨_, rfl, h.softmaxUnit⟩
  | norm => exact ⟨_, rfl, h.normUnit⟩
  | optim => exact ⟨_, rfl, h.optimUnit⟩
  | harrowUnitDeal => exact ⟨_, rfl, h.dealUnit⟩
  | harrowEngineFail => exact ⟨_, rfl, h.engineCheck.noteCapacity⟩
  | closeStep => exact ⟨_, rfl, h.runCloseStep⟩
  | setTags => exact ⟨_, rfl, h.runSetTags⟩
  | saveState => exact ⟨_, rfl, h.runSaveState⟩
  | loadState => exact ⟨_, rfl, h.runLoadState⟩
  | probe => exact ⟨_, rfl, h.runProbe⟩
  | bankTransitionStart => exact ⟨_, rfl, h.bankStart⟩
  | bankTransitionDone => exact ⟨_, rfl, h.bankDone⟩
  | tilthEccUncorrectable => exact ⟨_, rfl, h.tilthEcc⟩
  | tilthEccWriteback => exact ⟨_, rfl, h.tilthWriteback⟩
  | plotTestStart => exact ⟨_, rfl, h.plotStart⟩
  | plotTestEnd => exact ⟨_, rfl, h.plotEnd⟩
  | plotTestSteal => exact ⟨_, rfl, h.plotSteal⟩
  | fill => exact ⟨_, rfl, h.runFill⟩
  | demote => exact ⟨_, rfl, h.runDemote⟩
  | granaryEcc => exact ⟨_, rfl, h.granaryEcc.noteCapacity⟩
  | granaryScrub => exact ⟨_, rfl, h.granaryScrub.noteCapacity⟩
  | granaryRefresh | uartFrameTimeout => exact ⟨_, rfl, h⟩
  | granaryTempRead => exact ⟨_, rfl, h.granaryTemp.noteCapacity⟩
  | granaryRetrain => exact ⟨_, rfl, h.granaryRetrain.noteCapacity⟩
  | freshBlockZero => exact ⟨_, rfl, h.zeroFresh⟩
  | granaryStackFail => exact ⟨_, rfl, h.stackFails.noteCapacity⟩
  | copy => exact ⟨_, rfl, h.copyRow⟩
  | ringSetup => exact ⟨_, rfl, h.ringSetup⟩
  | ringCredit => exact ⟨_, rfl, h.ringCredit⟩
  | drillCancel => exact ⟨_, rfl, h.cancelField⟩
  | drillStart => exact ⟨_, rfl, h.drillStart⟩
  | drillComplete => exact ⟨_, rfl, h.drillComplete⟩
  | headlandGateOpen => exact ⟨_, rfl, h.openGate⟩
  | decode => exact ⟨_, rfl, h.runDecode⟩
  | coulterCancel => exact ⟨_, rfl, h.runCoulterCancel⟩
  | sampleStart => exact ⟨_, rfl, h.sampleStart⟩
  | arenaAllocate => exact ⟨_, rfl, h.arenaAllocate⟩
  | decodeSyntaxUnit => exact ⟨_, rfl, h.syntaxUnit⟩
  | decCoreHung => exact ⟨_, rfl, (h.coreHung False.elim).noteCapacity⟩
  | decCoreEcc => exact ⟨_, rfl, (h.failCore False.elim).noteCapacity⟩
  | batch => exact ⟨_, rfl, h.runBatch⟩
  | batchStart => exact ⟨_, rfl, h.batchStart⟩
  | batchSeal => exact ⟨_, rfl, h.sealBatch⟩
  | windrowRelease => exact ⟨_, rfl, h.releaseWindrow⟩
  | livePacket => exact ⟨_, rfl, .ite h.livePacket h⟩
  | liveTake => exact ⟨_, rfl, h.liveTake⟩
  | liveWaitExpiry => exact ⟨_, rfl, h.liveExpire⟩
  | liveStreamLost => exact ⟨_, rfl, h.liveLost⟩
  | allReduce | reduceScatter | thrReduce => exact ⟨_, rfl, h.runReduction⟩
  | verdict => exact ⟨_, rfl, h.runVerdict⟩
  | thresherCancel => exact ⟨_, rfl, h.runThrCancel⟩
  | broadcast | allGather | allToAll => exact ⟨_, rfl, h.runDelivery⟩
  | collectiveStart => exact ⟨_, rfl, h.collStart⟩
  | readyToken => exact ⟨_, rfl, h.readyToken False.elim⟩
  | deadlineExpiry => exact ⟨_, rfl, h.deadlineExpiry⟩
  | sealMade => exact ⟨_, rfl, h.sealColl False.elim⟩
  | sealReceived => exact ⟨_, rfl, h.sealReceived False.elim⟩
  | sealResendRequest => exact ⟨_, rfl, h.sealResend⟩
  | thrNoSeal => exact ⟨_, rfl, h.noSeal⟩
  | blockReceived => exact ⟨_, rfl, h.blockReceived.noteCapacity⟩
  | segmentAck => exact ⟨_, rfl, h.segmentAck⟩
  | dataLimitExpiry => exact ⟨_, rfl, h.dataLimitExpiry⟩
  | peerReport => exact ⟨_, rfl, h.peerReport⟩
  | reportDecision => exact ⟨_, rfl, h.reportDecision⟩
  | childDetach => exact ⟨_, rfl, h.childDetach⟩
  | repairRequest => exact ⟨_, rfl, h.repairRequest⟩
  | collectiveComplete => exact ⟨_, rfl, h.collComplete⟩
  | repairLimitExpiry => exact ⟨_, rfl, h.repairExpiry⟩
  | swathLinkDown => exact ⟨_, rfl, h.laneFails.noteCapacity⟩
  | swathLinkRetrain => exact ⟨_, rfl, h.retrainLink.noteCapacity⟩
  | laserLow => exact ⟨_, rfl, h.laserLow.noteCapacity⟩
  | laserRestored => exact ⟨_, rfl, h.laserRestored⟩
  | pfcPause => exact ⟨_, rfl, h.pfcPause False.elim⟩
  | dataReceived => exact ⟨_, rfl, h.dataReceived⟩
  | ackReceived => exact ⟨_, rfl, h.ackReceived⟩
  | nackReceived => exact ⟨_, rfl, h.nackReceived⟩
  | ackTimer => exact ⟨_, rfl, h.ackTimer⟩
  | rtoExpiry => exact ⟨_, rfl, h.rtoExpiry⟩
  | probeReceived => exact ⟨_, rfl, h.probeReceived⟩
  | probeReplyReceived => exact ⟨_, rfl, h.probeReply⟩
  | probeTimer => exact ⟨_, rfl, h.probeTimer⟩
  | peerUnreachable => exact ⟨_, rfl, h.peerUnreachable⟩
  | swathWrite => exact ⟨_, rfl, h.swathWrite⟩
  | swathRead => exact ⟨_, rfl, h.swathRead⟩
  | swathCancel => exact ⟨_, rfl, h.swathCancel⟩
  | lldpSend => exact ⟨_, rfl, h.lldpSend⟩
  | lldpReceived => exact ⟨_, rfl, h.lldpReceived.noteCapacity⟩
  | discoveryLimit => exact ⟨_, rfl, h.discoveryLimit.noteCapacity⟩
  | ptpMessage => exact ⟨_, rfl, h.ptpMessage⟩
  | almanacTick => exact ⟨_, rfl, h.almanacTick⟩
  | almanacMeasurement => exact ⟨_, rfl, h.ptpMeasurement⟩
  | ppsInEdge => exact ⟨_, rfl, h.ppsEdge⟩
  | almanacHoldover => exact ⟨_, rfl, h.enterHoldover⟩
  | launchGateFire => exact ⟨_, rfl, h.fireGate⟩
  | waitMet => exact ⟨_, rfl, h.examineWaits⟩
  | furlongRun => exact ⟨_, rfl, h.runFurlong⟩
  | furlongStop => exact ⟨_, rfl, h.stopFurlong⟩
  | stepExpansion => exact ⟨_, rfl, h.expandNext⟩
  | phaseComplete => exact ⟨_, rfl, h.phaseComplete⟩
  | stepComplete => exact ⟨_, rfl, h.stepComplete⟩
  | rebase => exact ⟨_, rfl, h.rebase⟩
  | commit => exact ⟨_, rfl, h.runCommit⟩
  | buddySend => exact ⟨_, rfl, h.runBuddySend⟩
  | buddySealReceived => exact ⟨_, rfl, h.buddySealed⟩
  | stookTake => exact ⟨_, rfl, h.runStook⟩
  | stookStaged => exact ⟨_, rfl, h.stookStaged⟩
  | refill => exact ⟨_, rfl, h.runRefill⟩
  | pairingMessage => exact ⟨_, rfl, h.pairingMessage⟩
  | powerStateReached => exact ⟨_, rfl, h.powerReached⟩
  | idleEntry => exact ⟨_, rfl, h.idleEntry⟩
  | fallowHitchWake => exact ⟨_, rfl, h.hitchWake⟩
  | governorWindow => exact ⟨_, rfl, h.governorWindow⟩
  | junctionSensorRead => exact ⟨_, rfl, h.junctionRead⟩
  | thermalStep => exact ⟨_, rfl, h.thermalStep⟩
  | droopTrip => exact ⟨_, rfl, h.droopTrip⟩
  | droopStretchEnd => exact ⟨_, rfl, h.stretchEnd⟩
  | acChangeSubmit => exact ⟨_, rfl, h.anyWrite.anyWrite⟩
  | acVoltageRamp => exact ⟨_, rfl, h.voltageRamp⟩
  | acChange => exact ⟨_, rfl, h.acChange⟩
  | titheMirrorStale => exact ⟨_, rfl, h.mirrorStale⟩
  | strapSample => exact ⟨_, rfl, h.strapSample⟩
  | bringupStageComplete => exact ⟨_, rfl, h.stageDone.noteCapacity⟩
  | stageTimeout => exact ⟨_, rfl, h.stageTimeout.noteCapacity⟩
  | warmResetStage => exact ⟨_, rfl, h.warmStage.noteCapacity⟩
  | mainInputApplied => exact ⟨_, rfl, h.mainInput⟩
  | standbyApplied => exact ⟨_, rfl, h.standbyInput⟩
  | resetN => exact ⟨_, rfl, h.resetPin⟩
  | stageComplete => exact ⟨_, rfl, h.stageComplete⟩
  | journalPageWrite => exact ⟨_, rfl, h.journalPage⟩
  | mgmtRequest => exact ⟨_, rfl, h.anyDatagram⟩
  | smbusRead | smbusWrite => exact ⟨_, rfl, .ite h.anyBlock h⟩
  | wake => exact ⟨_, rfl, .ite h.wake h⟩
  | jtagRegisterAccess => exact ⟨_, rfl, h.anyBlock⟩
  | idcode => exact ⟨_, rfl, h.idcode⟩
  | extest => exact ⟨_, rfl, h.extest⟩
  | bypass => exact ⟨_, rfl, h.bypass⟩
  | samplePreload => exact ⟨_, rfl, h.samplePreload⟩
  | vinLow => exact ⟨_, rfl, h.vinLow⟩
  | vinHigh => exact ⟨_, rfl, h.vinHigh⟩
  | vstbyLow => exact ⟨_, rfl, h.vstbyLow⟩
  | refclkLost => exact ⟨_, rfl, h.refclkLost⟩
  | mclkLost => exact ⟨_, rfl, h.mclkLost⟩
  | mclkReturn => exact ⟨_, rfl, h.mclkReturn⟩
  | harrowUnitComplete => exact ⟨_, rfl, h.unitComplete⟩
  | gleanDescriptorComplete => exact ⟨_, rfl, h.completeGlean⟩
  | quoteDone => exact ⟨_, rfl, h.quoteDone⟩
  | ptpSyncSend => exact ⟨_, rfl, h.ptpSyncSend⟩
  | titheSample | titheSelfCheck | titheRollover | tithePowerLoss | tithePowerReturn | titheCheckpoint | titheTamper | ident
  | status | readRecord | readNow | jobMark | tamperLog | mirrorSnapshot | mirrorRecordArrival => cases hc

/-- What the Tithe's own commands touch. -/
def titheReach : Footprint := ⟨eventParts ++ [.tithe, .titheWords], [.hitch, .titheRo]⟩

theorem Touches.execTithe (h : Touches G titheReach s t) {c : Instr} (hc : c.ofTithe = true) :
    ∃ u, Machine.exec c t = .next u ∧ Touches G titheReach s u := by
  cases c with
  | titheSample => exact ⟨_, rfl, h.titheSample⟩
  | titheSelfCheck => exact ⟨_, rfl, h.titheCheck⟩
  | titheRollover => exact ⟨_, rfl, h.titheRollover⟩
  | tithePowerLoss => exact ⟨_, rfl, h.titheLoss⟩
  | tithePowerReturn => exact ⟨_, rfl, h.titheReturn⟩
  | titheCheckpoint => exact ⟨_, rfl, h.titheCheckpoint⟩
  | titheTamper => exact ⟨_, rfl, h.titheTamper⟩
  | ident => exact ⟨_, rfl, h.uartIdent⟩
  | status => exact ⟨_, rfl, h.uartStatus⟩
  | readRecord => exact ⟨_, rfl, h.uartRecord⟩
  | readNow => exact ⟨_, rfl, h.uartNow⟩
  | jobMark => exact ⟨_, rfl, h.uartMark⟩
  | tamperLog => exact ⟨_, rfl, h.uartTamper⟩
  | mirrorSnapshot => exact ⟨_, rfl, h.mirrorSnapshot⟩
  | mirrorRecordArrival => exact ⟨_, rfl, h.mirrorRecord⟩
  | _ => cases hc

theorem exec_untouched_of_not_ofTithe {c : Instr} (hc : c.ofTithe = false) (h : exec c s = .next t) : Touches False everything s t := by
  obtain ⟨u, hu, ht⟩ := Touches.exec (.refl False.elim) hc
  cases hu.symm.trans h
  exact ht

theorem exec_untouched_of_ofTithe {c : Instr} (hc : c.ofTithe = true) (h : exec c s = .next t) : Touches False titheReach s t := by
  obtain ⟨u, hu, ht⟩ := Touches.execTithe (.refl False.elim) hc
  cases hu.symm.trans h
  exact ht

/-- Settles O2: every command, the Tithe's own and the rest, answers a next state. -/
theorem everyCommandCompletes : Obligations.EveryCommandCompletes := by
  unfold Obligations.EveryCommandCompletes
  intro c s
  cases hc : c.ofTithe with
  | true =>
    obtain ⟨u, hu, -⟩ := Touches.execTithe (G := False) (s := s) (.refl False.elim) hc
    exact ⟨u, hu⟩
  | false =>
    obtain ⟨u, hu, -⟩ := Touches.exec (s := s) (.refl False.elim) hc
    exact ⟨u, hu⟩

/-- Settles O4: the queue is in no command's reach. -/
theorem queueUntouchedByCommands : Obligations.QueueUntouchedByCommands := by
  unfold Obligations.QueueUntouchedByCommands
  intro c s t h
  cases hc : c.ofTithe with
  | true => exact (exec_untouched_of_ofTithe hc h).parts .pending rfl
  | false => exact (exec_untouched_of_not_ofTithe hc h).parts .pending rfl

/-- Settles O8: of the Tithe, the others reach the words of the mirror only. -/
theorem onlyTitheCommandsReachTheTithe : Obligations.OnlyTitheCommandsReachTheTithe := by
  unfold Obligations.OnlyTitheCommandsReachTheTithe
  intro c s t hc h
  have hcore : t.tithe.withWords [] [] = s.tithe.withWords [] [] := (exec_untouched_of_not_ofTithe hc h).parts .tithe rfl
  have hwords := congrArg (fun x : TitheSt => x.withWords t.tithe.snapWords t.tithe.recWords) hcore
  exact hwords

/-- Settles O1. -/
theorem stepRunsFrontCommand : Obligations.StepRunsFrontCommand := by
  unfold Obligations.StepRunsFrontCommand
  exact fun _ _ => rfl

/-- Settles O3: the table has no rows to read a word by. -/
theorem idleAndNoWords : Obligations.IdleAndNoWords := by
  unfold Obligations.IdleAndNoWords
  refine ⟨fun s h => ?_, fun s n w => ⟨rfl, rfl⟩⟩
  simp only [step, h]

end Sys2Proof.Machine
end

section
/-!
The seal counter (O11).
-/
namespace Sys2Proof.Machine

set_option Elab.async false

variable {G : Prop} {F : Footprint} {s t u : State}

/-! ### The seal counter (R522) -/

/-- The seal counter is as it was. -/
def SealKept (s t : State) : Prop := t.tithe.sealCount = s.tithe.sealCount

theorem SealKept.refl (s : State) : SealKept s s := rfl

theorem SealKept.ite {c : Prop} {_ : Decidable c} (ht : SealKept s t) (hu : SealKept s u) : SealKept s (if c then t else u) := by
  split <;> assumption

theorem SealKept.of_tithe (h : SealKept s t) (hu : u.tithe.sealCount = t.tithe.sealCount) : SealKept s u := Eq.trans hu h

theorem SealKept.setTithe (h : SealKept s t) {x : TitheSt} (hx : x.sealCount = t.tithe.sealCount) : SealKept s (t.setTithe x) :=
  hx.trans h

theorem SealKept.titheClose (h : SealKept s t) {loss tamper mark} : SealKept s (t.titheClose loss tamper mark) :=
  h.of_tithe (by simp only [State.titheClose, State.setTithe, TitheSt.reopen, TitheSt.checkpoint])

theorem SealKept.uartSend (h : SealKept s t) {cmd status payload} : SealKept s (t.uartSend cmd status payload) := by
  unfold State.uartSend
  extract_lets body frame
  exact h.setTithe rfl

theorem SealKept.raiseErr (h : SealKept s t) {k i bit code work a b} : SealKept s (t.raiseErr k i bit code work a b) :=
  h.of_tithe (by simp)

theorem SealKept.raise (h : SealKept s t) {k i bit info work} : SealKept s (t.raise k i bit info work) := h.of_tithe (by simp)

theorem SealKept.mirrorWord (h : SealKept s t) {off v} : SealKept s (t.mirrorWord off v) := h.of_tithe (by simp [State.mirrorWord])

theorem SealKept.snapWord (h : SealKept s t) {off v} : SealKept s (t.snapWord off v) := by
  have hs1 : SealKept s (t.mirrorWord off v) := h.mirrorWord
  unfold State.snapWord
  exact .ite hs1.raiseErr (.ite hs1.raiseErr hs1)

theorem SealKept.mirrorSnapshot : SealKept s s.mirrorSnapshot := by
  unfold State.mirrorSnapshot
  refine .ite (.refl s) ?_
  extract_lets
  split
  next => exact SealKept.mirrorWord rfl
  next w rest hw =>
    have hs1 : SealKept s (({ s with tithe := { s.tithe with snapWords := rest } } : State).snapWord w.1 w.2) := SealKept.snapWord rfl
    exact .ite hs1.mirrorWord hs1

theorem SealKept.mirrorRecord : SealKept s s.mirrorRecord := by
  unfold State.mirrorRecord
  refine .ite (.refl s) ?_
  split
  next => split <;> exact Eq.refl _
  next w rest hw =>
    extract_lets _ s1
    have hs1 : SealKept s s1 := SealKept.mirrorWord rfl
    exact .ite (SealKept.raise (hs1.of_tithe (by simp))) hs1

/-- Of the Tithe's commands, only the tamper event and the loss of power change the seal counter. -/
theorem SealKept.exec {c : Instr} (hc : c.ofTithe = true) (htamper : ∀ k m, c ≠ .titheTamper k m) (hloss : ∀ w k m, c ≠ .tithePowerLoss w k m)
    (h : exec c s = .next t) : SealKept s t := by
  have hs : SealKept s s := .refl s
  cases c with
  | titheSample => cases h; exact .ite hs hs
  | titheSelfCheck => cases h; exact .ite hs (.ite hs hs)
  | titheRollover => cases h; exact .ite hs.titheClose hs
  | tithePowerReturn => cases h; exact .ite hs (.ite hs (.ite hs hs))
  | titheCheckpoint => cases h; exact .ite hs hs
  | ident | status | readNow => cases h; exact .ite hs (.ite hs.uartSend hs.uartSend)
  | readRecord | tamperLog => cases h; exact .ite hs (.ite hs.uartSend (by split <;> exact hs.uartSend))
  | jobMark => cases h; exact .ite hs (.ite hs.uartSend hs.titheClose.uartSend)
  | mirrorSnapshot => cases h; exact mirrorSnapshot
  | mirrorRecordArrival => cases h; exact mirrorRecord
  | titheTamper k m => exact absurd rfl (htamper k m)
  | tithePowerLoss w k m => exact absurd rfl (hloss w k m)
  | _ => cases hc

theorem State.titheTamper_sealCount {kind : Nat} {m : Option (Nat × Nat)} (h : s.tithe.powered = true) :
    (s.titheTamper kind m).tithe.sealCount = if kind = 1 then s.tithe.sealCount + 1 else s.tithe.sealCount := by
  unfold State.titheTamper
  simp only [h, Bool.not_true, Bool.false_eq_true, if_false]
  split <;> rfl

theorem State.titheLoss_sealCount {w : Bool} {k : Option Nat} {m : Option (Nat × Nat)} (h : s.tithe.powered = true) :
    (s.titheLoss w k m).tithe.sealCount = if k = some 1 then s.tithe.sealCount + 1 else s.tithe.sealCount := by
  unfold State.titheLoss
  simp only [h, Bool.not_true, Bool.false_eq_true, if_false]
  cases w <;> cases k <;> simp [State.titheClose, State.setTithe, TitheSt.log, TitheSt.reopen, TitheSt.checkpoint]

theorem State.titheTamper_unpowered {kind : Nat} {m : Option (Nat × Nat)} (h : s.tithe.powered = false) : s.titheTamper kind m = s := by
  simp [State.titheTamper, h]

theorem State.titheLoss_unpowered {w : Bool} {k : Option Nat} {m : Option (Nat × Nat)} (h : s.tithe.powered = false) : s.titheLoss w k m = s := by
  simp [State.titheLoss, h]

theorem exec_titheTamper {k : Fin 5} {m : Option (BitVec 64 × BitVec 64)} :
    exec (.titheTamper k m) s = .next (s.titheTamper (k.val + 1) (m.map fun x => (x.1.toNat, x.2.toNat))) := rfl

theorem exec_tithePowerLoss {w : Bool} {k : Option (Fin 4)} {m : Option (BitVec 64 × BitVec 64)} :
    exec (.tithePowerLoss w k m) s = .next (s.titheLoss w (k.map (·.val + 1)) (m.map fun x => (x.1.toNat, x.2.toNat))) := rfl

/-- A tamper event moves the counter by one where it is an opening, and leaves it otherwise. -/
theorem sealCount_of_titheTamper {k : Fin 5} {m : Option (BitVec 64 × BitVec 64)} (h : exec (.titheTamper k m) s = .next t) :
    SealKept s t ∨ (t.tithe.sealCount = s.tithe.sealCount + 1 ∧ k = 0) := by
  cases h
  cases hp : s.tithe.powered with
  | false => exact .inl (by rw [State.titheTamper_unpowered hp]; exact .refl s)
  | true =>
    by_cases hk : k = 0
    · exact .inr ⟨(State.titheTamper_sealCount hp).trans (if_pos (by simp [hk])), hk⟩
    · exact .inl ((State.titheTamper_sealCount hp).trans (if_neg (by omega)))

/-- A loss of power moves the counter by one where an opening comes with it, and leaves it otherwise. -/
theorem sealCount_of_tithePowerLoss {w : Bool} {k : Option (Fin 4)} {m : Option (BitVec 64 × BitVec 64)}
    (h : exec (.tithePowerLoss w k m) s = .next t) : SealKept s t ∨ (t.tithe.sealCount = s.tithe.sealCount + 1 ∧ k = some 0) := by
  cases h
  cases hp : s.tithe.powered with
  | false => exact .inl (by rw [State.titheLoss_unpowered hp]; exact .refl s)
  | true =>
    by_cases hk : k = some 0
    · exact .inr ⟨(State.titheLoss_sealCount hp).trans (if_pos (by simp [hk])), hk⟩
    · refine .inl ((State.titheLoss_sealCount hp).trans (if_neg ?_))
      cases k with
      | none => simp
      | some j => simpa using hk

/-- Settles O11: the two commands that see an opening count it, and no other moves the counter. -/
theorem sealCounterCountsOpenings : Obligations.SealCounterCountsOpenings := by
  unfold Obligations.SealCounterCountsOpenings
  refine ⟨fun m s hp => ?_, fun w m s hp => ?_, fun c s t h => ?_⟩
  · exact Completes.intro exec_titheTamper (State.titheTamper_sealCount hp)
  · exact Completes.intro exec_tithePowerLoss (State.titheLoss_sealCount hp)
  · cases hc : c.ofTithe with
    | false =>
      have hcore : t.tithe.withWords [] [] = s.tithe.withWords [] [] := (exec_untouched_of_not_ofTithe hc h).parts .tithe rfl
      have hseal := congrArg TitheSt.sealCount hcore
      exact .inl hseal
    | true =>
      by_cases htamper : ∃ k m, c = .titheTamper k m
      · obtain ⟨k, m, rfl⟩ := htamper
        exact (sealCount_of_titheTamper h).imp_right fun ⟨hcount, hk⟩ => ⟨hcount, .inl ⟨m, hk ▸ rfl⟩⟩
      · by_cases hloss : ∃ w k m, c = .tithePowerLoss w k m
        · obtain ⟨w, k, m, rfl⟩ := hloss
          exact (sealCount_of_tithePowerLoss h).imp_right fun ⟨hcount, hk⟩ => ⟨hcount, .inr ⟨w, m, hk ▸ rfl⟩⟩
        · exact .inl (SealKept.exec hc (fun k m e => htamper ⟨k, m, e⟩) (fun w k m e => hloss ⟨w, k, m, e⟩) h)

end Sys2Proof.Machine
end

section
/-!
What a write of one register touches.
-/
namespace Sys2Proof.Machine

set_option Elab.async false

variable {G : Prop} {F : Footprint} {s t u : State}

/-! ### Writes of one register -/

section
variable {via : Via} {v : Nat}

theorem pageIdx_lt (k : PageKind) : ∀ i : Fin k.count, pageIdx k i.val < 0x10000 := by
  cases k <;> decide

/-- An aligned register of a page that there is lies on that page. -/
theorem pageAt_regAddr {k : PageKind} {i off : Nat} (hi : i < k.count) (hoff : off + 8 ≤ 0x1000) : pageAt (regAddr k i off) 8 = some (k, i) := by
  have hlt : pageIdx k i < 0x10000 := pageIdx_lt k ⟨i, hi⟩
  have hpage : pageOf (pageIdx k i) = some (k, i) := pageOf_pageIdx_lt k ⟨i, hi⟩
  have hfirst : regAddr k i off / 0x1000 = pageIdx k i := by unfold regAddr; omega
  have hlast : (regAddr k i off + 8 - 1) / 0x1000 = pageIdx k i := by unfold regAddr; omega
  have hin : ¬ 0x10000000 < regAddr k i off + 8 := by unfold regAddr; omega
  simp only [pageAt, if_neg hin, hfirst, hlast, hpage]

/-- A write of one register touches what the register does and what the ports do. -/
theorem Touches.writeAt (h : Touches G F s t) (E : Footprint) (k : PageKind) {i off : Nat} (hi : i < k.count) (hoff : off + 8 ≤ 0x1000)
    (hv : v < 2 ^ 64) (hw : ∀ src x u, Touches G E.withPort x u → Touches G E.withPort x (u.writeEffect src k i off v))
    (hE : E.withPort.fits F = true := by rfl) : Touches G F s (t.writeBy via (regAddr k i off) v) := by
  have hpage := pageAt_regAddr hi hoff
  have haddr : regAddr k i off + 8 ≤ 0x10000000 := (pageAt_eq_some hpage).1
  refine h.via hE fun h => h.writeBy (by omega) hv fun s' u hu src => ?_
  have hj : Footprint.fits ⟨.journal :: eventParts, [.hitch, .journal]⟩ E.withPort = true := rfl
  refine hu.regWrite (src := src) hj fun k' i' hpage' u hu => ?_
  obtain ⟨rfl, rfl⟩ : k = k' ∧ i = i' := by simpa [hpage] using hpage'
  rw [regAddr_mod, Nat.mod_eq_of_lt (by omega)]
  exact hw src s' u hu

theorem Touches.writeJobCtl (h : Touches G F s t) (hv : v < 2 ^ 64) (hE : (Footprint.withPort ⟨[], []⟩).fits F = true := by rfl) :
    Touches G F s (t.writeBy via (regAddr .hitch 0 0x118) v) :=
  h.via hE fun h => h.writeAt ⟨[], []⟩ .hitch (by decide) (by decide) hv fun _ _ _ hu => .ite hu.resumeJob (.ite hu.pauseJob hu)

theorem Touches.writeResume (h : Touches G F s t) {w} (hw : w < 16) (hv : v < 2 ^ 64)
    (hE : (Footprint.withPort ⟨[.windows], [.cmdwin]⟩).fits F = true := by rfl) : Touches G F s (t.writeBy via (regAddr .cmdwin w 0x108) v) :=
  h.via hE fun h => h.writeAt ⟨[.windows], [.cmdwin]⟩ .cmdwin hw (by decide) hv fun _ _ _ hu => hu.setWin

/-- A force_fail bit, or an enable, that is set by a write brings its unit's own effect. -/
theorem Touches.writeForceArray (h : Touches G F s t) {f} (hf : f < 8) (hv : v < 2 ^ 64)
    (hE : (Footprint.withPort ⟨[.flights, .arrays], [.recovery, .furrow]⟩).fits F = true := by rfl) :
    Touches G F s (t.writeBy via (regAddr .furrow f 0x100) v) :=
  h.via hE fun h => h.writeAt ⟨[.flights, .arrays], [.recovery, .furrow]⟩ .furrow hf (by decide) hv fun _ _ _ hu =>
    .ite hu.setReg.forceArray.noteCapacity hu.setReg

theorem Touches.writeForceEngine (h : Touches G F s t) {e} (he : e < 16) (hv : v < 2 ^ 64)
    (hE : (Footprint.withPort ⟨[.flights, .engines], [.recovery, .harrow]⟩).fits F = true := by rfl) :
    Touches G F s (t.writeBy via (regAddr .harrow e 0x100) v) :=
  h.via hE fun h => h.writeAt ⟨[.flights, .engines], [.recovery, .harrow]⟩ .harrow he (by decide) hv fun _ _ _ hu =>
    .ite hu.setReg.forceEngine.noteCapacity hu.setReg

theorem Touches.writeForceStack (h : Touches G F s t) {n} (hn : n < 24) (hv : v < 2 ^ 64)
    (hE : (Footprint.withPort ⟨[.flights, .stackList, .kept, .coulter], [.recovery, .granary]⟩).fits F = true := by rfl) :
    Touches G F s (t.writeBy via (regAddr .granary n 0x100) v) :=
  h.via hE fun h => h.writeAt ⟨[.flights, .stackList, .kept, .coulter], [.recovery, .granary]⟩ .granary hn (by decide) hv fun _ _ _ hu =>
    .ite hu.setReg.failStack.noteCapacity hu.setReg

theorem Touches.writeForceCore (h : Touches G F s t) {c} (hc : c < 16) (hv : v < 2 ^ 64)
    (hE : (Footprint.withPort ⟨[.coulter], [.coulter, .coulterDec, .recovery]⟩).fits F = true := by rfl) :
    Touches G F s (t.writeBy via (regAddr .coulterDec c 0x100) v) :=
  h.via hE fun h => h.writeAt ⟨[.coulter], [.coulter, .coulterDec, .recovery]⟩ .coulterDec hc (by decide) hv fun _ _ _ hu =>
    have hk : G → PageKind.coulterDec.Admits c := fun _ => hc
    .ite ((hu.setReg (hk := hk)).failCore hk).noteCapacity (hu.setReg (hk := hk))

theorem Touches.writeForceReeve (h : Touches G F s t) {f} (hf : f < 8) (hv : v < 2 ^ 64)
    (hE : (Footprint.withPort ⟨doneParts ++ memParts ++ [.windows, .fields, .steadFailed, .bankMoves, .plots, .kept, .arrays, .engines, .gleanMeta, .coulter, .thr, .swath], [.cmdwin, .thresher, .thrCh, .recovery, .field, .glean, .harrow, .reeve]⟩).fits F = true := by rfl) :
    Touches G F s (t.writeBy via (regAddr .reeve f 0x100) v) :=
  h.via hE fun h => h.writeAt ⟨doneParts ++ memParts ++ [.windows, .fields, .steadFailed, .bankMoves, .plots, .kept, .arrays, .engines, .gleanMeta, .coulter, .thr, .swath], [.cmdwin, .thresher, .thrCh, .recovery, .field, .glean, .harrow, .reeve]⟩ .reeve hf (by decide) hv fun _ _ _ hu =>
    (hu.setReg.foldl fun _ _ h' => h'.forceReeve).noteCapacity

theorem Touches.writeWnConfig (h : Touches G F s t) {f} (hf : f < 8) (hv : v < 2 ^ 64) (hE : (Footprint.withPort ⟨[], [.winnow]⟩).fits F = true := by rfl) :
    Touches G F s (t.writeBy via (regAddr .winnow f 0x100) v) :=
  h.via hE fun h => h.writeAt ⟨[], [.winnow]⟩ .winnow hf (by decide) hv fun _ _ _ hu => hu.foldl fun _ _ h' => h'.setReg

theorem Touches.writeWnSilent (h : Touches G F s t) {f} (hf : f < 8) (hv : v < 2 ^ 64)
    (hE : (Footprint.withPort ⟨[.winnow], [.winnow]⟩).fits F = true := by rfl) : Touches G F s (t.writeBy via (regAddr .winnow f 0x110) v) :=
  h.via hE fun h => h.writeAt ⟨[.winnow], [.winnow]⟩ .winnow hf (by decide) hv fun _ _ _ hu =>
    Touches.maskTag (hu.foldl fun _ _ h' => h'.setReg)

theorem Touches.writeWnEnable (h : Touches G F s t) {f} (hf : f < 8) (hv : v < 2 ^ 64) (hreset : bitOf v 1 = false)
    (hE : (Footprint.withPort ⟨memParts ++ [.winnow], [.granary, .winnow]⟩).fits F = true := by rfl) :
    Touches G F s (t.writeBy via (regAddr .winnow f 0x020) v) := by
  refine h.via hE fun h => h.writeAt ⟨memParts ++ [.winnow], [.granary, .winnow]⟩ .winnow hf (by decide) hv fun src x u hu => ?_
  have hb : Touches G _ x (u.setReg (regAddr .winnow f 0x020) (v &&& 5)) := hu.setReg (off := 0x020)
  change Touches G _ x (u.ctrlWrite .winnow f v)
  simp only [State.ctrlWrite, hreset, Bool.false_eq_true, if_false, reduceCtorEq, decide_false, Bool.false_and]
  exact .ite hb.enableWinnow hb

theorem Touches.writeThrEnable (h : Touches G F s t) {c} (hc : c < 32) (hv : v < 2 ^ 64) (hreset : bitOf v 1 = false)
    (hE : (Footprint.withPort ⟨[.thr], [.thrCh]⟩).fits F = true := by rfl) : Touches G F s (t.writeBy via (regAddr .thrCh c 0x020) v) := by
  refine h.via hE fun h => h.writeAt ⟨[.thr], [.thrCh]⟩ .thrCh hc (by decide) hv fun src x u hu => ?_
  change Touches G _ x (u.ctrlWrite .thrCh c v)
  simp only [State.ctrlWrite, hreset, Bool.false_eq_true, if_false, reduceCtorEq, decide_false, Bool.false_and]
  exact Touches.setReg (.ite (.getD hu hu.enableChannel) hu) (hk := fun _ => hc)

theorem Touches.writeTilthLayout (h : Touches G F s t) {f} (hf : f < 8) (hv : v < 2 ^ 64) (hE : (Footprint.withPort ⟨[], [.tilth]⟩).fits F = true := by rfl) :
    Touches G F s (t.writeBy via (regAddr .tilth f 0x100) v) :=
  h.via hE fun h => h.writeAt ⟨[], [.tilth]⟩ .tilth hf (by decide) hv fun _ _ _ hu => hu.setReg

theorem Touches.writeBankState (h : Touches G F s t) {f} (hf : f < 8) (set : Fin 3) (hv : v < 2 ^ 64)
    (hE : (Footprint.withPort ⟨[.bankMoves], [.tilth]⟩).fits F = true := by rfl) :
    Touches G F s (t.writeBy via (regAddr .tilth f (0x108 + 8 * set.val)) v) := by
  refine h.via hE fun h => h.writeAt ⟨[.bankMoves], [.tilth]⟩ .tilth hf (by omega) hv fun src x u hu => ?_
  rw [State.writeEffect_tilthBankState]
  exact hu.bankWrite fun _ => set.isLt

theorem Touches.writeTester (h : Touches G F s t) {f} (hf : f < 8) (hv : v < 2 ^ 64)
    (hE : (Footprint.withPort ⟨[.plots], [.tilthTest]⟩).fits F = true := by rfl) : Touches G F s (t.writeBy via (regAddr .tilthTest f 0x100) v) :=
  h.via hE fun h => h.writeAt ⟨[.plots], [.tilthTest]⟩ .tilthTest hf (by decide) hv fun _ _ _ hu => hu.ttWrite

theorem Touches.writeCribFlush (h : Touches G F s t) (hv : v < 2 ^ 64) (hE : (Footprint.withPort ⟨[.coulter], [.sample]⟩).fits F = true := by rfl) :
    Touches G F s (t.writeBy via (regAddr .sample 0 0x120) v) :=
  h.via hE fun h => h.writeAt ⟨[.coulter], [.sample]⟩ .sample (by decide) (by decide) hv fun _ _ _ hu => .ite hu.emptyCrib hu

theorem Touches.writeStream (h : Touches G F s t) (i : Fin 8) (hv : v < 2 ^ 64)
    (hE : (Footprint.withPort ⟨[.coulter], [.live]⟩).fits F = true := by rfl) :
    Touches G F s (t.writeBy via (regAddr .live 0 (0x200 + 0x40 * i.val)) v) := by
  refine h.via hE fun h => h.writeAt ⟨[.coulter], [.live]⟩ .live (by decide) (by omega) hv fun src x u hu => ?_
  rw [State.writeEffect_liveCfg]
  exact .getD hu (hu.liveWrite fun _ => i.isLt)

theorem Touches.writePlanCtl (h : Touches G F s t) (hv : v < 2 ^ 64)
    (hE : (Footprint.withPort ⟨doneParts ++ [.thr, .swath], [.cmdwin, .transport, .ptp, .recovery]⟩).fits F = true := by rfl) :
    Touches G F s (t.writeBy via (regAddr .transport 0 0x110) v) :=
  h.via hE fun h => h.writeAt ⟨doneParts ++ [.thr, .swath], [.cmdwin, .transport, .ptp, .recovery]⟩ .transport (by decide) (by decide) hv
    fun _ _ _ hu => .ite (Touches.noteCapacity (.getD hu hu.planLoad)) (.ite hu.planUnload.noteCapacity hu)

theorem Touches.writeFlag (h : Touches G F s t) (hv : v < 2 ^ 64) (hE : (Footprint.withPort ⟨[.flags, .flagsNow], []⟩).fits F = true := by rfl) :
    Touches G F s (t.writeBy via (regAddr .almanac 0 0x168) v) :=
  h.via hE fun h => h.writeAt ⟨[.flags, .flagsNow], []⟩ .almanac (by decide) (by decide) hv fun _ _ _ hu => hu.flagControl

theorem Touches.writeLedger (h : Touches G F s t) (hv : v < 2 ^ 64) (hE : (Footprint.withPort ⟨[.ledgerHeld], [.almanac]⟩).fits F = true := by rfl) :
    Touches G F s (t.writeBy via (regAddr .almanac 0 0x150) v) :=
  h.via hE fun h => h.writeAt ⟨[.ledgerHeld], [.almanac]⟩ .almanac (by decide) (by decide) hv fun _ x u hu =>
    have hs : Touches G _ x (u.setReg (regAddr .almanac 0 0x150) (bitsOf v 31 0)) := hu.setReg
    hs.via (E := ⟨[.ledgerHeld], []⟩) (by rfl) fun hs => hs.same

theorem Touches.writeRebase (h : Touches G F s t) (hv : v < 2 ^ 64) (hE : (Footprint.withPort ⟨[.alm], []⟩).fits F = true := by rfl) :
    Touches G F s (t.writeBy via (regAddr .almanac 0 0x160) v) :=
  h.via hE fun h => h.writeAt ⟨[.alm], []⟩ .almanac (by decide) (by decide) hv fun _ _ _ hu => hu.submitRebase

theorem State.writeEffect_drainAck {src : Source} : s.writeEffect src .recovery 0 0x170 v = s.drainAck v := by
  unfold State.writeEffect
  simp only []
  rw [if_neg (by decide), if_neg (by decide), if_neg (by decide), if_neg (by decide)]

theorem Touches.writeDrainAck (h : Touches G F s t) (hv : v < 2 ^ 64) (hE : (Footprint.withPort ⟨[], [.recovery]⟩).fits F = true := by rfl) :
    Touches G F s (t.writeBy via (regAddr .recovery 0 0x170) v) :=
  h.via hE fun h => h.writeAt ⟨[], [.recovery]⟩ .recovery (by decide) (by decide) hv fun src x u hu => by
    rw [State.writeEffect_drainAck]
    exact hu.drainAck

theorem Touches.writeFillReady (h : Touches G F s t) (hv : v < 2 ^ 64) (hE : (Footprint.withPort ⟨[.recov], [.recovery]⟩).fits F = true := by rfl) :
    Touches G F s (t.writeBy via (regAddr .recovery 0 0x180) v) :=
  h.via hE fun h => h.writeAt ⟨[.recov], [.recovery]⟩ .recovery (by decide) (by decide) hv fun _ _ _ hu => hu.fillReady

theorem Touches.writeBuddy (h : Touches G F s t) (hv : v < 2 ^ 64) (hE : (Footprint.withPort ⟨[.mem, .swath], [.recovery]⟩).fits F = true := by rfl) :
    Touches G F s (t.writeBy via (regAddr .recovery 0 0x120) v) :=
  h.via hE fun h => h.writeAt ⟨[.mem, .swath], [.recovery]⟩ .recovery (by decide) (by decide) hv fun _ _ _ hu => hu.writePair

theorem Touches.writeTarget (h : Touches G F s t) (hv : v < 2 ^ 64) (hE : (Footprint.withPort ⟨[.power], [.power]⟩).fits F = true := by rfl) :
    Touches G F s (t.writeBy via (regAddr .power 0 0x100) v) :=
  h.via hE fun h => h.writeAt ⟨[.power], [.power]⟩ .power (by decide) (by decide) hv fun _ _ _ hu => hu.setTarget

theorem Touches.writeFreq (h : Touches G F s t) (hv : v < 2 ^ 64) (hE : (Footprint.withPort ⟨[], [.power]⟩).fits F = true := by rfl) :
    Touches G F s (t.writeBy via (regAddr .power 0 0x120) v) :=
  h.via hE fun h => h.writeAt ⟨[], [.power]⟩ .power (by decide) (by decide) hv fun _ _ _ hu => hu.setReg

theorem Touches.writeChange (h : Touches G F s t) (hv : v < 2 ^ 64) (hE : (Footprint.withPort ⟨[.power], [.power]⟩).fits F = true := by rfl) :
    Touches G F s (t.writeBy via (regAddr .power 0 0x128) v) :=
  h.via hE fun h => h.writeAt ⟨[.power], [.power]⟩ .power (by decide) (by decide) hv fun _ _ _ hu => hu.submitChange

theorem Touches.writeWarm (h : Touches G F s t) (hE : (Footprint.withPort ⟨[.flights, .power], []⟩).fits F = true := by rfl) :
    Touches G F s (t.writeBy via (regAddr .steward 0 0x110) 1) :=
  h.via hE fun h => h.writeAt ⟨[.flights, .power], []⟩ .steward (by decide) (by decide) (by decide) fun _ _ _ hu => hu.requestWarm

theorem Touches.writeRetrain (h : Touches G F s t) (hE : (Footprint.withPort ⟨[], []⟩).fits F = true := by rfl) :
    Touches G F s (t.writeBy via (regAddr .steward 0 0x110) 4) :=
  h.via hE fun h => h.writeAt ⟨[], []⟩ .steward (by decide) (by decide) (by decide) fun _ _ _ hu => hu.retrainHitch

theorem Touches.writeUpdate (h : Touches G F s t) (hv : v < 2 ^ 64) (hE : (Footprint.withPort ⟨[], []⟩).fits F = true := by rfl) :
    Touches G F s (t.writeBy via (regAddr .steward 0 0x138) v) :=
  h.via hE fun h => h.writeAt ⟨[], []⟩ .steward (by decide) (by decide) hv fun _ _ _ hu => hu.updCommand

theorem Touches.writeQuote (h : Touches G F s t) (hE : (Footprint.withPort ⟨[], []⟩).fits F = true := by rfl) :
    Touches G F s (t.writeBy via (regAddr .steward 0 0x150) 1) :=
  h.via hE fun h => h.writeAt ⟨[], []⟩ .steward (by decide) (by decide) (by decide) fun _ _ _ hu => hu.quoteStart

theorem Touches.writeCertsAsked (h : Touches G F s t) (hE : (Footprint.withPort ⟨memParts ++ [.kept], [.granary, .granaryCache]⟩).fits F = true := by rfl) :
    Touches G F s (t.writeBy via (regAddr .steward 0 0x150) 2) :=
  h.via hE fun h => h.writeAt ⟨memParts ++ [.kept], [.granary, .granaryCache]⟩ .steward (by decide) (by decide) (by decide) fun _ _ _ hu => hu.writeCerts

end

end Sys2Proof.Machine
end

section
/-!
The frames (O56 to O59).
-/
namespace Sys2Proof.Machine

set_option Elab.async false

variable {G : Prop} {F : Footprint} {s t u : State}

/-! ### Frames -/

/-- A frame is read off what the command's operation touches. -/
theorem frame_of_touches {c : Instr} {put : State → State → State} {ks : List PageKind} (ps : List Part)
    (h : ∀ {s : State}, Touches s.Shaped ⟨ps, ks⟩ s s → ∃ u, exec c s = .next u ∧ Touches s.Shaped ⟨ps, ks⟩ s u)
    (hput : ∀ s t, s.take ps t = put s t := by exact fun _ _ => rfl) : Frame c put ks := by
  intro s t hs ht
  obtain ⟨u, hu, htouched⟩ := h (.refl formed_iff.2)
  cases hu.symm.trans ht
  exact ⟨(State.eq_take htouched.parts).trans (hput s _), htouched.regs hs⟩

theorem forced_lt (v : Word) {n : Nat} (hn : n < 2 ^ 64) : v.toNat ||| n < 2 ^ 64 := Nat.or_lt_two_pow v.isLt hn

theorem enable_lt (gate : Bool) : 1 + 4 * b2n gate < 2 ^ 64 := by
  cases gate <;> decide

theorem enable_no_reset (gate : Bool) : bitOf (1 + 4 * b2n gate) 1 = false := by
  cases gate <;> decide

theorem pair_lt (e : BitVec 16) (override : Bool) {n : Nat} (hn : n ≤ 0x100) : n + (b2n override <<< 16) + (e.toNat <<< 32) < 2 ^ 64 := by
  have he := e.isLt
  have hb : b2n override ≤ 1 := by cases override <;> decide
  simp only [Nat.shiftLeft_eq]
  omega

theorem unpair_lt (e : BitVec 16) (override : Bool) : (b2n override <<< 16) + (e.toNat <<< 32) < 2 ^ 64 := by
  simpa using pair_lt e override (n := 0) (by decide)

section
variable {seq : BitVec 12} {tag : BitVec 8} {data : Word512}

theorem Touches.dwPortWrite (h : Touches G F s t) {w : Fin 4}
    (hE : (Footprint.withHitch ⟨memParts ++ [.kept, .power], [.datawin, .granary, .granaryCache]⟩).fits F = true := by rfl) :
    Touches G F s (t.wordWriteFlit seq tag .datawin w.val data) := by
  have ha := (pageAt_eq_some (pageAt_dwPort w)).1
  refine h.via hE fun h => h.receiveRequest (by decide) (by omega) fun u hu => ?_
  rw [State.execRequest_wordWrite, State.wordAccess_dwWrite]
  exact (hu.dwWrite fun _ => w.isLt).send

theorem Touches.dwPortRead (h : Touches G F s t) {w : Fin 4}
    (hE : (Footprint.withHitch ⟨[.kept, .power], [.datawin, .granaryCache]⟩).fits F = true := by rfl) :
    Touches G F s (t.wordReadFlit seq tag .datawin w.val) := by
  have ha := (pageAt_eq_some (pageAt_dwPort w)).1
  refine h.via hE fun h => h.receiveRequest (by decide) (by omega) fun u hu => ?_
  rw [State.execRequest_wordRead, State.wordAccess_dwRead]
  exact (hu.dwRead fun _ => w.isLt).send

theorem Touches.cmdPortWrite (h : Touches G F s t) {w : Fin 16}
    (hE : (Footprint.withHitch ⟨[.windows], [.cmdwin]⟩).fits F = true := by rfl) :
    Touches G F s (t.wordWriteFlit seq tag .cmdwin w.val data) := by
  have ha := (pageAt_eq_some (pageAt_cmdPort w)).1
  refine h.via hE fun h => h.receiveRequest (by decide) (by omega) fun u hu => ?_
  rw [State.execRequest_wordWrite]
  refine Touches.send ?_
  simp only [State.wordAccess, pageAt_cmdPort w, reduceCtorEq, if_false]
  exact .iteReply hu <| .iteReply (.iteReply hu (hu.cmdPort fun _ => w.isLt)) hu

end


/-- Settles O56: the command's operation touches no more. -/
theorem framesOfHitchToWinnow : Obligations.FramesOfHitchToWinnow := by
  unfold Obligations.FramesOfHitchToWinnow
  and_intros
  exacts [
    fun _ => frame_of_touches [.regs, .hitch, .setNow] fun h => ⟨_, rfl, h.trainStep⟩,
    frame_of_touches [.hitch] fun h => ⟨_, rfl, h.trainTimeout⟩,
    fun _ _ => frame_of_touches [.regs, .hitch] fun h => ⟨_, rfl, h.linkCtrlReceived⟩,
    frame_of_touches [.hitch] fun h => ⟨_, rfl, h.fecLost⟩,
    frame_of_touches [.hitch] fun h => ⟨_, rfl, .ite h.sendLinkCtrl h⟩,
    frame_of_touches [.hitch] fun h => ⟨_, rfl, h.sendLinkCtrl⟩,
    frame_of_touches [.hitch] fun h => ⟨_, rfl, .ite h.retrainHitch h⟩,
    fun _ => frame_of_touches [.hitch] fun h => ⟨_, rfl, h.sendEvents⟩,
    fun _ => frame_of_touches [.regs, .hitch, .hostWaits, .setNow] fun h => ⟨_, rfl, h.hostWaitLate⟩,
    fun _ => frame_of_touches portParts fun h => ⟨_, rfl, h.writeJobCtl (by decide)⟩,
    fun _ => frame_of_touches portParts fun h => ⟨_, rfl, h.writeJobCtl (by decide)⟩,
    fun _ _ _ _ => frame_of_touches (memParts ++ [.hitch, .kept, .power, .setNow]) fun h => ⟨_, rfl, h.dwPortWrite⟩,
    fun _ _ _ => frame_of_touches [.regs, .hitch, .kept, .power, .setNow] fun h => ⟨_, rfl, h.dwPortRead⟩,
    fun _ _ _ _ => frame_of_touches [.regs, .hitch, .windows, .setNow] fun h => ⟨_, rfl, h.cmdPortWrite⟩,
    fun _ window => frame_of_touches (portParts ++ [.windows]) fun h => ⟨_, rfl, h.writeResume window.isLt (by decide)⟩,
    fun _ window => frame_of_touches (portParts ++ [.windows]) fun h => ⟨_, rfl, h.writeResume window.isLt (by decide)⟩,
    fun window => frame_of_touches [.regs, .hitch, .windows, .setNow] fun h => ⟨_, rfl, h.parseWindow fun _ => window.isLt⟩,
    fun window => frame_of_touches (doneParts ++ memParts ++ [.windows, .nextId, .engines, .thr, .power, .winnow, .passIds]) fun h => ⟨_, rfl, h.issueWindow fun _ => window.isLt⟩,
    fun _ => frame_of_touches doneParts fun h => ⟨_, rfl, h.runNop⟩,
    fun _ => frame_of_touches doneParts fun h => ⟨_, rfl, h.runSignal⟩,
    fun _ _ _ => frame_of_touches (doneParts ++ memParts ++ [.windows, .fields, .steadFailed, .bankMoves, .plots, .kept, .arrays, .engines, .gleanMeta, .coulter, .thr, .swath]) fun h => ⟨_, rfl, h.reeveFault⟩,
    fun _ _ _ => frame_of_touches (doneParts ++ memParts ++ [.windows, .fields, .steadFailed, .bankMoves, .plots, .kept, .arrays, .engines, .gleanMeta, .coulter, .thr, .swath]) fun h => ⟨_, rfl, h.reeveFault⟩,
    fun _ field cores => frame_of_touches (portParts ++ [.mem, .poison, .windows, .flights, .flags, .furlong, .fields, .steadFailed, .bankMoves, .plots, .written, .kept, .arrays, .engines, .gleanMeta, .coulter, .thr, .swath, .flagsNow]) fun h => ⟨_, rfl, h.writeForceReeve field.isLt (cores.isLt.trans (by decide))⟩,
    fun _ => frame_of_touches [.regs] fun h => ⟨_, rfl, h.hedgeReplay⟩,
    fun _ => frame_of_touches [.regs, .hitch, .fields, .setNow] fun h => ⟨_, rfl, h.hedgeReroute⟩,
    fun _ => frame_of_touches (doneParts ++ memParts ++ [.windows, .fields, .bankMoves, .plots, .kept, .arrays, .engines, .gleanMeta, .coulter, .thr, .swath]) fun h => ⟨_, rfl, h.hedgeLost⟩,
    fun _ => frame_of_touches [.flights, .arrays] fun h => ⟨_, rfl, h.takePass⟩,
    fun _ => frame_of_touches [.flights] fun h => ⟨_, rfl, h.loadStart⟩,
    fun _ => frame_of_touches [.flights] fun h => ⟨_, rfl, h.loadDone⟩,
    fun _ _ => frame_of_touches [.regs, .flights, .arrays] fun h => ⟨_, rfl, h.swapPass⟩,
    fun _ _ => frame_of_touches [.regs, .flights, .arrays] fun h => ⟨_, rfl, h.enterRow⟩,
    fun _ _ => frame_of_touches [.regs, .mem, .poison, .flights, .arrays, .gleanMeta, .winnow] fun h => ⟨_, rfl, h.addRow⟩,
    fun _ => frame_of_touches (doneParts ++ [.arrays]) fun h => ⟨_, rfl, h.completePass⟩,
    fun _ => frame_of_touches [.regs, .hitch, .flights, .arrays, .setNow] fun h => ⟨_, rfl, Touches.noteCapacity (by split <;> [exact h.failArray; exact h])⟩,
    fun _ field value => frame_of_touches (portParts ++ [.flights, .arrays]) fun h => ⟨_, rfl, h.writeForceArray field.isLt (forced_lt value (by decide))⟩,
    fun _ => frame_of_touches [.regs, .hitch, .flights, .arrays, .setNow] fun h => ⟨_, rfl, h.reissueArray⟩,
    fun _ => frame_of_touches (memParts ++ [.flights, .winnow, .freeCtr]) fun h => ⟨_, rfl, h.readoutRow⟩,
    fun _ => frame_of_touches [.regs, .mem, .poison, .flights, .gleanMeta, .winnow] fun h => ⟨_, rfl, h.preloadRow⟩,
    fun _ => frame_of_touches [.regs, .mem, .poison, .flights, .gleanMeta] fun h => ⟨_, rfl, h.clearRow⟩,
    fun _ => frame_of_touches (memParts ++ [.flights]) fun h => ⟨_, rfl, h.saveRow⟩,
    fun _ => frame_of_touches [.regs, .mem, .hitch, .windows, .flights, .furlong, .gleanMeta, .setNow] fun h => ⟨_, rfl, h.loadRow⟩,
    fun _ => frame_of_touches [.regs, .mem, .poison, .hitch, .windows, .flights, .furlong, .gleanMeta, .setNow] fun h => ⟨_, rfl, h.reduceRow⟩,
    fun _ _ _ _ _ _ => frame_of_touches [.regs, .hitch, .gleanMeta, .setNow] fun h => ⟨_, rfl, h.gleanEcc⟩,
    fun _ _ => frame_of_touches (memParts ++ [.flights, .winnow]) fun h => ⟨_, rfl, h.mapChunk⟩,
    fun _ _ => frame_of_touches (memParts ++ [.flights, .winnow]) fun h => ⟨_, rfl, h.rowReduceUnit⟩,
    fun _ _ => frame_of_touches (memParts ++ [.flights, .winnow]) fun h => ⟨_, rfl, h.softmaxUnit⟩,
    fun _ _ => frame_of_touches (memParts ++ [.flights, .winnow]) fun h => ⟨_, rfl, h.normUnit⟩,
    fun _ _ => frame_of_touches (memParts ++ [.flights, .winnow]) fun h => ⟨_, rfl, h.optimUnit⟩,
    fun _ _ _ => frame_of_touches [.regs, .flights] fun h => ⟨_, rfl, h.dealUnit⟩,
    fun _ _ _ => frame_of_touches [.regs, .hitch, .flights, .engines, .setNow] fun h => ⟨_, rfl, h.engineCheck.noteCapacity⟩,
    fun _ engine value => frame_of_touches (portParts ++ [.flights, .engines]) fun h => ⟨_, rfl, h.writeForceEngine engine.isLt (forced_lt value (by decide))⟩,
    fun _ => frame_of_touches (doneParts ++ memParts ++ [.windows, .winnow]) fun h => ⟨_, rfl, h.runCloseStep⟩,
    fun _ => frame_of_touches (doneParts ++ memParts ++ [.windows]) fun h => ⟨_, rfl, h.runSetTags⟩,
    fun _ => frame_of_touches (doneParts ++ memParts) fun h => ⟨_, rfl, h.runSaveState⟩,
    fun _ => frame_of_touches (doneParts ++ memParts ++ [.windows, .winnow]) fun h => ⟨_, rfl, h.runLoadState⟩,
    fun _ => frame_of_touches (doneParts ++ memParts) fun h => ⟨_, rfl, h.runProbe⟩,
    fun _ field gate => frame_of_touches (portParts ++ [.mem, .poison, .written, .winnow]) fun h => ⟨_, rfl, h.writeWnEnable field.isLt (enable_lt gate) (enable_no_reset gate)⟩,
    fun _ field value => frame_of_touches portParts fun h => ⟨_, rfl, h.writeWnConfig field.isLt value.isLt⟩,
    fun _ field value => frame_of_touches (portParts ++ [.winnow]) fun h => ⟨_, rfl, h.writeWnSilent field.isLt value.isLt⟩]

/-- Settles O57 in the same way. -/
theorem framesOfTilthToSamples : Obligations.FramesOfTilthToSamples := by
  unfold Obligations.FramesOfTilthToSamples
  and_intros
  exacts [
    fun _ field value => frame_of_touches portParts fun h => ⟨_, rfl, h.writeTilthLayout field.isLt value.isLt⟩,
    fun _ field set value => frame_of_touches (portParts ++ [.bankMoves]) fun h => ⟨_, rfl, h.writeBankState field.isLt set value.isLt⟩,
    fun _ _ => frame_of_touches [.regs, .bankMoves, .plots] fun h => ⟨_, rfl, h.bankStart⟩,
    fun _ _ => frame_of_touches [.mem, .poison, .bankMoves] fun h => ⟨_, rfl, h.bankDone⟩,
    fun _ _ _ => frame_of_touches [.regs, .poison, .hitch, .setNow] fun h => ⟨_, rfl, h.tilthEcc⟩,
    fun _ => frame_of_touches [.regs] fun h => ⟨_, rfl, h.tilthWriteback⟩,
    fun _ _ => frame_of_touches [.plots] fun h => ⟨_, rfl, h.plotStart⟩,
    fun _ _ _ _ => frame_of_touches [.regs, .hitch, .plots, .setNow] fun h => ⟨_, rfl, h.plotEnd⟩,
    fun _ _ => frame_of_touches [.regs] fun h => ⟨_, rfl, h.plotSteal⟩,
    fun _ field value => frame_of_touches (portParts ++ [.plots]) fun h => ⟨_, rfl, h.writeTester field.isLt value.isLt⟩,
    fun _ => frame_of_touches (doneParts ++ [.kept]) fun h => ⟨_, rfl, h.runFill⟩,
    fun _ => frame_of_touches (doneParts ++ [.kept]) fun h => ⟨_, rfl, h.runDemote⟩,
    fun _ _ _ => frame_of_touches [.regs, .poison, .hitch, .flights, .stackList, .kept, .coulter, .setNow] fun h => ⟨_, rfl, h.granaryEcc.noteCapacity⟩,
    fun _ _ => frame_of_touches [.regs, .poison, .hitch, .flights, .stackList, .kept, .coulter, .setNow] fun h => ⟨_, rfl, h.granaryScrub.noteCapacity⟩,
    fun _ _ => frame_of_touches [] fun h => ⟨_, rfl, h⟩,
    fun _ _ => frame_of_touches [.regs, .hitch, .stackList, .setNow] fun h => ⟨_, rfl, h.granaryTemp.noteCapacity⟩,
    fun _ _ _ => frame_of_touches [.regs, .hitch, .stackList, .setNow] fun h => ⟨_, rfl, h.granaryRetrain.noteCapacity⟩,
    fun _ => frame_of_touches [.written] fun h => ⟨_, rfl, h.zeroFresh⟩,
    fun _ _ => frame_of_touches [.regs, .hitch, .flights, .stackList, .kept, .coulter, .setNow] fun h => ⟨_, rfl, h.stackFails.noteCapacity⟩,
    fun _ stack value => frame_of_touches (portParts ++ [.flights, .stackList, .kept, .coulter]) fun h => ⟨_, rfl, h.writeForceStack stack.isLt (forced_lt value (by decide))⟩,
    fun _ => frame_of_touches (memParts ++ [.flights, .kept]) fun h => ⟨_, rfl, h.copyRow⟩,
    fun _ => frame_of_touches (doneParts ++ [.windows, .rings]) fun h => ⟨_, rfl, h.ringSetup⟩,
    fun _ => frame_of_touches (doneParts ++ [.windows, .rings]) fun h => ⟨_, rfl, h.ringCredit⟩,
    fun _ _ => frame_of_touches [.regs, .flights, .arrays] fun h => ⟨_, rfl, h.cancelField⟩,
    fun _ _ _ _ => frame_of_touches [.regs, .hitch, .windows, .flights, .furlong, .rings, .setNow] fun h => ⟨_, rfl, h.drillStart⟩,
    fun _ _ => frame_of_touches (doneParts ++ [.rings]) fun h => ⟨_, rfl, h.drillComplete⟩,
    fun _ => frame_of_touches [.flights] fun h => ⟨_, rfl, h.openGate⟩,
    fun _ => frame_of_touches (doneParts ++ memParts ++ [.kept, .coulter]) fun h => ⟨_, rfl, h.runDecode⟩,
    fun _ => frame_of_touches (doneParts ++ [.coulter]) fun h => ⟨_, rfl, h.runCoulterCancel⟩,
    fun _ _ => frame_of_touches [.regs, .hitch, .coulter, .settled, .setNow] fun h => ⟨_, rfl, h.sampleStart⟩,
    fun _ _ => frame_of_touches [.coulter] fun h => ⟨_, rfl, h.arenaAllocate⟩,
    fun _ _ => frame_of_touches (memParts ++ [.hitch, .flights, .kept, .coulter, .setNow]) fun h => ⟨_, rfl, h.syntaxUnit⟩,
    fun core => frame_of_touches [.regs, .hitch, .coulter, .setNow] fun h => ⟨_, rfl, (h.coreHung fun _ => core.isLt).noteCapacity⟩,
    fun core => frame_of_touches [.regs, .hitch, .coulter, .setNow] fun h => ⟨_, rfl, (h.failCore fun _ => core.isLt).noteCapacity⟩,
    fun _ core value => frame_of_touches (portParts ++ [.coulter]) fun h => ⟨_, rfl, h.writeForceCore core.isLt (forced_lt value (by decide))⟩,
    fun _ _ _ => frame_of_touches (doneParts ++ memParts ++ [.kept, .coulter, .winnow]) fun h => ⟨_, rfl, h.runBatch⟩,
    fun _ => frame_of_touches (doneParts ++ memParts ++ [.kept, .coulter, .winnow]) fun h => ⟨_, rfl, h.batchStart⟩,
    fun _ => frame_of_touches (doneParts ++ [.coulter]) fun h => ⟨_, rfl, h.sealBatch⟩,
    fun _ => frame_of_touches (doneParts ++ [.coulter]) fun h => ⟨_, rfl, h.releaseWindrow⟩,
    fun _ => frame_of_touches (portParts ++ [.coulter]) fun h => ⟨_, rfl, h.writeCribFlush (by decide)⟩,
    fun _ stream value => frame_of_touches (portParts ++ [.coulter]) fun h => ⟨_, rfl, h.writeStream stream (forced_lt value (by decide))⟩,
    fun _ => frame_of_touches (memParts ++ [.hitch, .kept, .coulter, .setNow]) fun h => ⟨_, rfl, .ite h.livePacket h⟩,
    fun _ => frame_of_touches (doneParts ++ memParts ++ [.kept, .coulter, .winnow]) fun h => ⟨_, rfl, h.liveTake⟩,
    fun _ => frame_of_touches (memParts ++ [.hitch, .flights, .kept, .setNow]) fun h => ⟨_, rfl, h.liveExpire⟩,
    fun _ => frame_of_touches [.regs, .hitch, .coulter, .setNow] fun h => ⟨_, rfl, h.liveLost⟩]

/-- Settles O58 in the same way. -/
theorem framesOfThresherToRecovery : Obligations.FramesOfThresherToRecovery := by
  unfold Obligations.FramesOfThresherToRecovery
  and_intros
  exacts [
    fun _ => frame_of_touches (memParts ++ [.hitch, .flights, .kept, .thr, .winnow, .setNow]) fun h => ⟨_, rfl, h.runReduction⟩,
    fun _ => frame_of_touches (memParts ++ [.hitch, .flights, .kept, .thr, .winnow, .setNow]) fun h => ⟨_, rfl, h.runReduction⟩,
    fun _ => frame_of_touches (memParts ++ [.hitch, .flights, .kept, .thr, .winnow, .setNow]) fun h => ⟨_, rfl, h.runReduction⟩,
    fun _ _ => frame_of_touches [.flights] fun h => ⟨_, rfl, h.runVerdict⟩,
    fun _ => frame_of_touches (doneParts ++ [.thr]) fun h => ⟨_, rfl, h.runThrCancel⟩,
    fun _ => frame_of_touches (memParts ++ [.hitch, .flights, .kept, .thr, .setNow]) fun h => ⟨_, rfl, h.runDelivery⟩,
    fun _ => frame_of_touches (memParts ++ [.hitch, .flights, .kept, .thr, .setNow]) fun h => ⟨_, rfl, h.runDelivery⟩,
    fun _ => frame_of_touches (memParts ++ [.hitch, .flights, .kept, .thr, .setNow]) fun h => ⟨_, rfl, h.runDelivery⟩,
    fun _ => frame_of_touches [.regs, .hitch, .flights, .thr, .setNow] fun h => ⟨_, rfl, h.collStart⟩,
    fun channel _ _ => frame_of_touches [.regs, .hitch, .thr, .setNow] fun h => ⟨_, rfl, h.readyToken fun _ => channel.isLt⟩,
    fun _ _ => frame_of_touches [.thr] fun h => ⟨_, rfl, h.deadlineExpiry⟩,
    fun channel _ => frame_of_touches [.regs, .hitch, .flights, .thr, .setNow] fun h => ⟨_, rfl, h.sealColl fun _ => channel.isLt⟩,
    fun channel _ _ => frame_of_touches [.regs, .hitch, .flights, .setNow] fun h => ⟨_, rfl, h.sealReceived fun _ => channel.isLt⟩,
    fun _ _ _ => frame_of_touches [.thr] fun h => ⟨_, rfl, h.sealResend⟩,
    fun _ => frame_of_touches [.flights] fun h => ⟨_, rfl, h.noSeal⟩,
    fun _ _ _ => frame_of_touches (memParts ++ [.hitch, .flights, .kept, .thr, .setNow]) fun h => ⟨_, rfl, h.blockReceived.noteCapacity⟩,
    fun _ _ _ _ _ => frame_of_touches [.flights] fun h => ⟨_, rfl, h.segmentAck⟩,
    fun _ _ _ => frame_of_touches [.thr] fun h => ⟨_, rfl, h.dataLimitExpiry⟩,
    fun _ _ _ _ => frame_of_touches [.thr] fun h => ⟨_, rfl, h.peerReport⟩,
    fun _ _ => frame_of_touches [.thr] fun h => ⟨_, rfl, h.reportDecision⟩,
    fun _ _ _ _ _ => frame_of_touches [.regs, .flights, .thr] fun h => ⟨_, rfl, h.childDetach⟩,
    fun _ _ _ _ _ => frame_of_touches [.regs, .flights, .thr] fun h => ⟨_, rfl, h.repairRequest⟩,
    fun _ => frame_of_touches (doneParts ++ memParts ++ [.kept, .thr, .verdicts]) fun h => ⟨_, rfl, h.collComplete⟩,
    fun _ => frame_of_touches (doneParts ++ memParts ++ [.kept, .thr, .verdicts]) fun h => ⟨_, rfl, h.repairExpiry⟩,
    fun _ _ => frame_of_touches [.regs, .hitch, .flights, .thr, .swath, .setNow] fun h => ⟨_, rfl, h.laneFails.noteCapacity⟩,
    fun _ _ => frame_of_touches [.regs, .hitch, .swath, .setNow] fun h => ⟨_, rfl, h.retrainLink.noteCapacity⟩,
    fun _ => frame_of_touches [.regs, .hitch, .flights, .thr, .swath, .setNow] fun h => ⟨_, rfl, h.laserLow.noteCapacity⟩,
    fun _ => frame_of_touches [.swath] fun h => ⟨_, rfl, h.laserRestored⟩,
    fun port _ => frame_of_touches [.regs, .swath] fun h => ⟨_, rfl, h.pfcPause fun _ => port.isLt⟩,
    fun _ => frame_of_touches (memParts ++ [.flights, .kept, .swath, .recov]) fun h => ⟨_, rfl, h.dataReceived⟩,
    fun _ => frame_of_touches [.regs, .mem, .swath] fun h => ⟨_, rfl, h.ackReceived⟩,
    fun _ _ => frame_of_touches (doneParts ++ [.swath]) fun h => ⟨_, rfl, h.nackReceived⟩,
    fun _ => frame_of_touches [.swath] fun h => ⟨_, rfl, h.ackTimer⟩,
    fun _ _ => frame_of_touches [.regs, .swath] fun h => ⟨_, rfl, h.rtoExpiry⟩,
    fun _ => frame_of_touches (doneParts ++ [.thr, .swath]) fun h => ⟨_, rfl, h.probeReceived⟩,
    fun _ => frame_of_touches (doneParts ++ [.mem, .thr, .swath]) fun h => ⟨_, rfl, h.probeReply⟩,
    fun _ => frame_of_touches [.swath] fun h => ⟨_, rfl, h.probeTimer⟩,
    fun _ => frame_of_touches [.regs, .hitch, .flights, .thr, .swath, .setNow] fun h => ⟨_, rfl, h.peerUnreachable⟩,
    fun _ => frame_of_touches (doneParts ++ [.mem, .kept, .swath]) fun h => ⟨_, rfl, h.swathWrite⟩,
    fun _ => frame_of_touches (doneParts ++ [.mem, .swath]) fun h => ⟨_, rfl, h.swathRead⟩,
    fun _ => frame_of_touches (doneParts ++ [.swath]) fun h => ⟨_, rfl, h.swathCancel⟩,
    fun _ => frame_of_touches (portParts ++ [.flights, .flags, .furlong, .thr, .swath, .flagsNow]) fun h => ⟨_, rfl, h.writePlanCtl (by decide)⟩,
    fun _ => frame_of_touches (portParts ++ [.flights, .flags, .furlong, .thr, .swath, .flagsNow]) fun h => ⟨_, rfl, h.writePlanCtl (by decide)⟩,
    frame_of_touches [.swath] fun h => ⟨_, rfl, h.lldpSend⟩,
    fun _ _ _ _ _ => frame_of_touches [.regs, .hitch, .flights, .thr, .swath, .setNow] fun h => ⟨_, rfl, h.lldpReceived.noteCapacity⟩,
    frame_of_touches [.regs, .hitch, .flights, .thr, .swath, .setNow] fun h => ⟨_, rfl, h.discoveryLimit.noteCapacity⟩,
    fun _ => frame_of_touches [.regs] fun h => ⟨_, rfl, h.ptpMessage⟩,
    frame_of_touches [.hostWaits, .alm, .power, .setNow, .flagsNow] fun h => ⟨_, rfl, h.almanacTick⟩,
    fun _ => frame_of_touches [.regs, .hitch, .alm, .setNow, .freeCtr] fun h => ⟨_, rfl, h.ptpMeasurement⟩,
    frame_of_touches [.regs, .hitch, .alm, .setNow, .freeCtr] fun h => ⟨_, rfl, h.ppsEdge⟩,
    frame_of_touches [.regs, .hitch, .alm, .setNow] fun h => ⟨_, rfl, h.enterHoldover⟩,
    fun _ => frame_of_touches [.regs, .hitch, .flights, .furlong, .setNow] fun h => ⟨_, rfl, h.fireGate⟩,
    fun _ => frame_of_touches [.flights, .flags, .flagsNow] fun h => ⟨_, rfl, h.examineWaits⟩,
    fun _ _ _ => frame_of_touches (portParts ++ [.flags, .flagsNow]) fun h => ⟨_, rfl, h.writeFlag (by omega)⟩,
    fun _ _ _ => frame_of_touches (portParts ++ [.flags, .flagsNow]) fun h => ⟨_, rfl, h.writeFlag (by omega)⟩,
    fun _ => frame_of_touches (doneParts ++ [.windows]) fun h => ⟨_, rfl, h.runFurlong⟩,
    fun _ => frame_of_touches doneParts fun h => ⟨_, rfl, h.stopFurlong⟩,
    frame_of_touches (doneParts ++ memParts ++ [.windows, .nextId, .engines, .thr, .power, .winnow, .passIds]) fun h => ⟨_, rfl, h.expandNext⟩,
    fun _ _ _ => frame_of_touches (memParts ++ [.furlong, .ledgerHeld, .kept, .freeCtr]) fun h => ⟨_, rfl, h.phaseComplete⟩,
    fun _ => frame_of_touches (doneParts ++ memParts ++ [.ledgerHeld, .kept, .freeCtr]) fun h => ⟨_, rfl, h.stepComplete⟩,
    fun _ value => frame_of_touches (portParts ++ [.ledgerHeld]) fun h => ⟨_, rfl, h.writeLedger value.isLt⟩,
    fun _ value => frame_of_touches (portParts ++ [.alm]) fun h => ⟨_, rfl, h.writeRebase value.isLt⟩,
    frame_of_touches [.regs, .hitch, .alm, .setNow] fun h => ⟨_, rfl, h.rebase⟩,
    fun _ => frame_of_touches (doneParts ++ memParts ++ [.windows, .kept]) fun h => ⟨_, rfl, h.runCommit⟩,
    fun _ => frame_of_touches (doneParts ++ [.mem, .windows, .swath]) fun h => ⟨_, rfl, h.runBuddySend⟩,
    fun _ _ => frame_of_touches [.regs, .recov] fun h => ⟨_, rfl, h.buddySealed⟩,
    fun _ => frame_of_touches (doneParts ++ memParts ++ [.windows, .kept, .recov]) fun h => ⟨_, rfl, h.runStook⟩,
    fun _ => frame_of_touches (doneParts ++ memParts ++ [.windows, .kept]) fun h => ⟨_, rfl, h.stookStaged⟩,
    fun _ value => frame_of_touches portParts fun h => ⟨_, rfl, h.writeDrainAck value.isLt⟩,
    fun _ => frame_of_touches (doneParts ++ memParts ++ [.windows, .kept, .swath, .recov]) fun h => ⟨_, rfl, h.runRefill⟩,
    fun _ value => frame_of_touches (portParts ++ [.recov]) fun h => ⟨_, rfl, h.writeFillReady value.isLt⟩,
    fun _ endpoint override => frame_of_touches (portParts ++ [.mem, .swath]) fun h => ⟨_, rfl, h.writeBuddy (pair_lt endpoint override (by decide))⟩,
    fun _ endpoint override => frame_of_touches (portParts ++ [.mem, .swath]) fun h => ⟨_, rfl, h.writeBuddy (unpair_lt endpoint override)⟩,
    fun _ _ _ => frame_of_touches [.regs, .mem, .hitch, .swath, .setNow] fun h => ⟨_, rfl, h.pairingMessage⟩]

/-- Settles O59 in the same way. -/
theorem framesOfPowerTitheSteward : Obligations.FramesOfPowerTitheSteward := by
  unfold Obligations.FramesOfPowerTitheSteward
  and_intros
  exacts [
    fun _ => frame_of_touches (portParts ++ [.power]) fun h => ⟨_, rfl, h.writeTarget (by decide)⟩,
    fun _ => frame_of_touches (portParts ++ [.power]) fun h => ⟨_, rfl, h.writeTarget (by decide)⟩,
    fun _ => frame_of_touches (portParts ++ [.power]) fun h => ⟨_, rfl, h.writeTarget (by decide)⟩,
    fun _ => frame_of_touches (portParts ++ [.power]) fun h => ⟨_, rfl, h.writeTarget (by decide)⟩,
    frame_of_touches [.power] fun h => ⟨_, rfl, h.idleEntry⟩,
    fun _ => frame_of_touches [.hitch, .power] fun h => ⟨_, rfl, h.hitchWake⟩,
    fun _ _ _ => frame_of_touches [.regs, .hitch, .power, .setNow] fun h => ⟨_, rfl, h.governorWindow⟩,
    frame_of_touches [.regs, .hitch, .power, .setNow] fun h => ⟨_, rfl, h.thermalStep⟩,
    fun _ _ => frame_of_touches [.regs, .power] fun h => ⟨_, rfl, h.droopTrip⟩,
    fun _ _ _ => frame_of_touches [.regs, .hitch, .power, .setNow] fun h => ⟨_, rfl, h.stretchEnd⟩,
    fun _ mhz changeAt => frame_of_touches (portParts ++ [.power]) fun h => ⟨_, rfl, (h.writeFreq (mhz.isLt.trans (by decide))).writeChange changeAt.isLt⟩,
    fun _ => frame_of_touches (portParts ++ [.power]) fun h => ⟨_, rfl, h.writeChange (by decide)⟩,
    frame_of_touches [.power] fun h => ⟨_, rfl, h.voltageRamp⟩,
    fun _ => frame_of_touches [.regs, .hitch, .power, .setNow] fun h => ⟨_, rfl, h.acChange⟩,
    fun _ _ => frame_of_touches [.tithe, .titheWords] fun h => ⟨_, rfl, h.titheSample⟩,
    fun _ => frame_of_touches [.tithe, .titheWords] fun h => ⟨_, rfl, h.titheCheck⟩,
    frame_of_touches [.tithe, .titheWords] fun h => ⟨_, rfl, h.titheRollover⟩,
    fun _ _ _ => frame_of_touches [.tithe, .titheWords] fun h => ⟨_, rfl, h.titheLoss⟩,
    frame_of_touches [.tithe, .titheWords] fun h => ⟨_, rfl, h.titheReturn⟩,
    frame_of_touches [.tithe, .titheWords] fun h => ⟨_, rfl, h.titheCheckpoint⟩,
    fun _ _ => frame_of_touches [.tithe, .titheWords] fun h => ⟨_, rfl, h.titheTamper⟩,
    fun _ _ => frame_of_touches [.tithe, .titheWords] fun h => ⟨_, rfl, h.uartIdent⟩,
    fun _ _ => frame_of_touches [.tithe, .titheWords] fun h => ⟨_, rfl, h.uartStatus⟩,
    fun _ _ => frame_of_touches [.tithe, .titheWords] fun h => ⟨_, rfl, h.uartRecord⟩,
    fun _ _ => frame_of_touches [.tithe, .titheWords] fun h => ⟨_, rfl, h.uartNow⟩,
    fun _ _ => frame_of_touches [.tithe, .titheWords] fun h => ⟨_, rfl, h.uartMark⟩,
    fun _ _ => frame_of_touches [.tithe, .titheWords] fun h => ⟨_, rfl, h.uartTamper⟩,
    frame_of_touches [] fun h => ⟨_, rfl, h⟩,
    frame_of_touches [.regs, .hitch, .tithe, .setNow, .titheWords] fun h => ⟨_, rfl, h.mirrorSnapshot⟩,
    frame_of_touches [.regs, .hitch, .tithe, .setNow, .titheWords] fun h => ⟨_, rfl, h.mirrorRecord⟩,
    frame_of_touches [.regs, .hitch, .setNow] fun h => ⟨_, rfl, h.mirrorStale⟩,
    fun _ _ _ => frame_of_touches [.regs, .hitch, .steward, .setNow, .freeCtr] fun h => ⟨_, rfl, h.strapSample⟩,
    fun _ => frame_of_touches (portParts ++ [.flights, .power]) fun h => ⟨_, rfl, h.writeWarm⟩,
    fun _ => frame_of_touches portParts fun h => ⟨_, rfl, h.writeRetrain⟩,
    fun _ => frame_of_touches portParts fun h => ⟨_, rfl, h.writeUpdate (by decide)⟩,
    fun _ => frame_of_touches [.regs, .hitch, .steward, .setNow, .freeCtr] fun h => ⟨_, rfl, h.stageComplete⟩,
    fun _ => frame_of_touches portParts fun h => ⟨_, rfl, h.writeUpdate (by decide)⟩,
    fun _ => frame_of_touches portParts fun h => ⟨_, rfl, h.writeUpdate (by decide)⟩,
    fun _ => frame_of_touches portParts fun h => ⟨_, rfl, h.writeUpdate (by decide)⟩,
    fun _ => frame_of_touches portParts fun h => ⟨_, rfl, h.writeQuote⟩,
    fun _ => frame_of_touches (portParts ++ [.mem, .poison, .written, .kept]) fun h => ⟨_, rfl, h.writeCertsAsked⟩,
    frame_of_touches [.journal] fun h => ⟨_, rfl, h.journalPage⟩,
    frame_of_touches [.steward] fun h => ⟨_, rfl, h.idcode⟩,
    fun _ => frame_of_touches [.steward, .freeCtr] fun h => ⟨_, rfl, h.extest⟩,
    fun _ => frame_of_touches [.steward] fun h => ⟨_, rfl, h.bypass⟩,
    fun _ => frame_of_touches [.steward, .freeCtr] fun h => ⟨_, rfl, h.samplePreload⟩,
    fun _ channel gate => frame_of_touches (portParts ++ [.thr]) fun h => ⟨_, rfl, h.writeThrEnable channel.isLt (enable_lt gate) (enable_no_reset gate)⟩,
    frame_of_touches [.steward, .freeCtr] fun h => ⟨_, rfl, h.mclkLost⟩,
    frame_of_touches [.steward] fun h => ⟨_, rfl, h.mclkReturn⟩,
    fun _ _ => frame_of_touches doneParts fun h => ⟨_, rfl, h.unitComplete⟩,
    fun _ => frame_of_touches doneParts fun h => ⟨_, rfl, h.completeGlean⟩,
    frame_of_touches (memParts ++ [.hitch, .steward, .kept, .setNow]) fun h => ⟨_, rfl, h.quoteDone⟩,
    frame_of_touches [.swath] fun h => ⟨_, rfl, h.ptpSyncSend⟩]

end Sys2Proof.Machine
end

section
/-!
What an operation leaves: parts, registers, and a write that lands.
-/
namespace Sys2Proof.Machine

set_option Elab.async false

variable {G : Prop} {F : Footprint} {s t u : State}

/-! ### Parts that an operation leaves -/

/-- Everything but one part. -/
def Footprint.without (p : Part) : Footprint := ⟨everything.parts.filter (· ≠ p), everything.kinds⟩

theorem Footprint.without_contains (p : Part) : (Footprint.without p).parts.contains p = false := by
  simp [Footprint.without]

/-- A part that an operation does not touch stays, whatever the shape of the state. -/
theorem part_kept (p : Part) (h : Touches False (.without p) s s → Touches False (.without p) s t) : p.Same s t :=
  (h (.refl False.elim)).parts p (Footprint.without_contains p)

theorem mem_kept (h : Touches False (.without .mem) s s → Touches False (.without .mem) s t) : t.mem = s.mem := part_kept .mem h

theorem regs_kept (h : Touches False (.without .regs) s s → Touches False (.without .regs) s t) : t.regs = s.regs := part_kept .regs h

theorem swath_kept (h : Touches False (.without .swath) s s → Touches False (.without .swath) s t) : t.swath = s.swath := part_kept .swath h

theorem flights_kept (h : Touches False (.without .flights) s s → Touches False (.without .flights) s t) : t.flights = s.flights := part_kept .flights h

/-! ### Registers that an operation leaves -/

/-- Registers at offsets that are not named stand, and so does every event raised. -/
structure KeepsRegs (os : List Nat) (s t : State) : Prop where
  reg : ∀ b, b % 0x1000 ∉ os → t.reg b = s.reg b
  raised : ∀ k i bit, s.Raised k i bit → t.Raised k i bit

section
variable {os : List Nat} {k : PageKind} {i off : Nat}

theorem KeepsRegs.refl (os : List Nat) (s : State) : KeepsRegs os s s := ⟨fun _ _ => rfl, fun _ _ _ => id⟩

theorem KeepsRegs.trans (h : KeepsRegs os s t) (h' : KeepsRegs os t u) : KeepsRegs os s u :=
  ⟨fun b hb => (h'.reg b hb).trans (h.reg b hb), fun k i bit hr => h'.raised k i bit (h.raised k i bit hr)⟩

theorem KeepsRegs.mono {os' : List Nat} (h : KeepsRegs os s t) (hos : os ⊆ os') : KeepsRegs os' s t :=
  ⟨fun b hb => h.reg b fun hm => hb (hos hm), h.raised⟩

theorem KeepsRegs.same (h : KeepsRegs os s t) (hr : u.regs = t.regs := by rfl) : KeepsRegs os s u :=
  ⟨fun b hb => (State.reg_congr hr b).trans (h.reg b hb), fun k i bit h' => (h.raised k i bit h').congr (State.reg_congr hr _)⟩

theorem KeepsRegs.ite {c : Prop} {_ : Decidable c} (ht : KeepsRegs os s t) (hu : KeepsRegs os s u) : KeepsRegs os s (if c then t else u) := by
  split <;> assumption

theorem KeepsRegs.foldl {α : Type} {f : State → α → State} {l : List α} (h : KeepsRegs os s t)
    (hf : ∀ u a, KeepsRegs os s u → KeepsRegs os s (f u a)) : KeepsRegs os s (l.foldl f t) :=
  foldl_inv (KeepsRegs os s) f l hf h

theorem KeepsRegs.setReg {v : Nat} (h : KeepsRegs os s t) (ho : off % 0x1000 ∈ os := by decide) (hev : off % 0x1000 ≠ 0x030 := by decide) :
    KeepsRegs os s (t.setReg (regAddr k i off) v) where
  reg b hb := (State.reg_setReg_offset v (by rw [regAddr_mod]; exact fun e => hb (e ▸ ho))).trans (h.reg b hb)
  raised k' i' bit hr := (h.raised k' i' bit hr).congr (State.reg_setReg_offset v (by rw [regAddr_mod, regAddr_mod]; exact hev.symm))

theorem KeepsRegs.setRf {hi lo v : Nat} (h : KeepsRegs os s t) (ho : off % 0x1000 ∈ os := by decide) (hev : off % 0x1000 ≠ 0x030 := by decide) :
    KeepsRegs os s (t.setRf (regAddr k i off) hi lo v) := h.setReg ho hev

theorem KeepsRegs.bump (h : KeepsRegs os s t) (ho : off % 0x1000 ∈ os := by decide) (hev : off % 0x1000 ≠ 0x030 := by decide) :
    KeepsRegs os s (t.bump (regAddr k i off)) := h.setReg ho hev

theorem KeepsRegs.bumpBy {n : Nat} (h : KeepsRegs os s t) (ho : off % 0x1000 ∈ os := by decide) (hev : off % 0x1000 ≠ 0x030 := by decide) :
    KeepsRegs os s (t.bumpBy (regAddr k i off) n) := h.setReg ho hev

theorem KeepsRegs.raise {bit info work : Nat} (h : KeepsRegs os s t) (h30 : 0x030 ∈ os := by decide) (h140 : 0x140 ∈ os := by decide) :
    KeepsRegs os s (t.raise k i bit info work) where
  reg b hb := (State.reg_raise (fun e => hb (e ▸ h30)) (fun e => hb (e ▸ h140))).trans (h.reg b hb)
  raised k' i' bit' hr := (h.raised k' i' bit' hr).raise

theorem KeepsRegs.raiseErr {bit code work info0 info1 : Nat} (h : KeepsRegs os s t) (hos : errorOffsets ⊆ os := by decide) :
    KeepsRegs os s (t.raiseErr k i bit code work info0 info1) where
  reg b hb := (State.reg_raiseErr fun hm => hb (hos hm)).trans (h.reg b hb)
  raised k' i' bit' hr := (h.raised k' i' bit' hr).raiseErr

theorem KeepsRegs.noteCapacity {before : State} (h : KeepsRegs os s t) (hos : errorOffsets ⊆ os := by decide) :
    KeepsRegs os s (t.noteCapacity before) := .ite (h.raiseErr hos) h

theorem KeepsRegs.complete {id info : Nat} (h : KeepsRegs os s t) (h120 : 0x120 ∈ os := by decide) (h30 : 0x030 ∈ os := by decide)
    (h140 : 0x140 ∈ os := by decide) : KeepsRegs os s (t.complete id info) where
  reg b hb := (State.reg_complete (fun e => hb (e ▸ h120)) (fun e => hb (e ▸ h30)) (fun e => hb (e ▸ h140))).trans (h.reg b hb)
  raised k i bit hr := (h.raised k i bit hr).complete

theorem KeepsRegs.store {a : Nat} {bs : List Byte} (h : KeepsRegs os s t) (ho : 0x158 ∈ os := by decide) : KeepsRegs os s (t.store a bs) where
  reg b hb := (State.reg_store fun e => hb (e ▸ ho)).trans (h.reg b hb)
  raised k i bit hr := (h.raised k i bit hr).congr (State.reg_store (by rw [regAddr_mod]; decide))

/-- A run that touches no register. -/
theorem KeepsRegs.of_regs_kept (h : KeepsRegs os s t) (hu : Touches False (.without .regs) t t → Touches False (.without .regs) t u) :
    KeepsRegs os s u := h.same (regs_kept hu)

theorem KeepsRegs.counted {a n : Nat} (h : KeepsRegs os t u) (hcount : s.Counted t a n) (ha : a % 0x1000 ∉ os) : s.Counted u a n :=
  hcount.congr (h.reg a ha)

/-- A count of a state that the counter's register is the same in. -/
theorem State.Counted.of_reg {a n : Nat} (h : t.Counted u a n) (hreg : t.reg a = s.reg a) : s.Counted u a n := by
  rw [State.Counted, ← hreg]
  exact h

theorem State.rf_congr {a hi lo : Nat} (h : t.reg a = s.reg a) : t.rf a hi lo = s.rf a hi lo := by
  rw [State.rf, State.rf, h]

end

/-! ### Writes that land -/

section
variable {via : Via} {k : PageKind} {i off a v : Nat}

/-- A state as a port's write meets it. -/
structure Reached (s t : State) : Prop where
  touches : Touches False ⟨[.regs, .hitch, .journal, .freeCtr], [.steward]⟩ s t
  regs : KeepsRegs [0x1A0] s t

theorem Reached.reg (h : Reached s t) (ha : a % 0x1000 ≠ 0x1A0) : t.reg a = s.reg a := h.regs.reg a (by simpa using ha)

theorem Reached.ofMgmt (j : Journal) : Reached s { s.drawn.bump (stewReg 0x1A0) with journal := j } where
  touches := .same (h := Touches.bump (.same (h := .refl False.elim)) (hk := False.elim))
  regs := .same (KeepsRegs.bump (k := .steward) (i := 0) (off := 0x1A0) (.same (.refl _ s)))

theorem Reached.arrived (via : Via) (j : Journal) : Reached s { via.arrived s with journal := j } := by
  cases via with
  | hitch => exact ⟨.same (h := .refl False.elim), .same (.refl _ s)⟩
  | ethernet => exact .ofMgmt j
  | twoWire => exact .ofMgmt j
  | jtag => exact .ofMgmt j

/-- A write that lands has passed its page's checks, takes its effect in a state that its port has reached, and is answered. -/
theorem State.writeBy_checked (hlands : Lands via s (regAddr k i off) v) (hv : v < 2 ^ 64) (hi : i < k.count) (hoff : off + 8 ≤ 0x1000)
    (hnot : regAddr k i off ≠ stewReg 0x110) :
    ∃ j, (via.arrived s).writeCode via.source k i off v = 0 ∧ s.writeBy via (regAddr k i off) v =
      via.answer (regAddr k i off) v (({ via.arrived s with journal := j } : State).writeEffect via.source k i off v) := by
  obtain ⟨k', i', hpage', -, -, hcode, heq⟩ := State.regWrite_accepted hlands.2
  obtain ⟨rfl, rfl⟩ : k = k' ∧ i = i' := by simpa [pageAt_regAddr hi hoff] using hpage'
  obtain ⟨j, hj⟩ := State.writeJournaled_eq (s := via.arrived s) (k := k) (i := i) (src := via.source) (off := off) (v := v)
  rw [regAddr_mod, Nat.mod_eq_of_lt (by omega)] at hcode
  rw [regAddr_mod, Nat.mod_eq_of_lt (by omega), hj] at heq
  exact ⟨j, hcode, (State.writeBy_of_lands hlands hv hnot).trans (congrArg (via.answer _ _) (congrArg Reply.st heq))⟩

theorem State.writeBy_accepted (hlands : Lands via s (regAddr k i off) v) (hv : v < 2 ^ 64) (hi : i < k.count) (hoff : off + 8 ≤ 0x1000)
    (hnot : regAddr k i off ≠ stewReg 0x110) :
    ∃ u, Reached s u ∧ s.writeBy via (regAddr k i off) v = via.answer (regAddr k i off) v (u.writeEffect via.source k i off v) := by
  obtain ⟨j, -, heq⟩ := State.writeBy_checked hlands hv hi hoff hnot
  exact ⟨_, .arrived via j, heq⟩

theorem Touches.answer (h : Touches G F s t) (hE : Footprint.fits ⟨[.hitch, .steward, .freeCtr], []⟩ F = true := by rfl) :
    Touches G F s (via.answer a v t) := h.via hE fun h => by
  cases via with
  | hitch => exact h.respond
  | ethernet => exact h.etherAnswer
  | twoWire => exact h
  | jtag => exact h

/-- An answer writes no register. -/
theorem Via.answer_regs (via : Via) : (via.answer a v s).regs = s.regs := regs_kept fun h => h.answer

end

/-! ### What is populated (R27, R250, R271) -/

theorem lt_tilthSize_of_areaOf {a f o : Nat} (h : areaOf a = .tilth f o) : o < tilthSize := by
  unfold areaOf at h
  dsimp only at h
  split_ifs at h
  · cases h
    assumption

/-- The parts and registers that settle which bytes of the map are populated. -/
structure SameMap (s t : State) : Prop where
  fields : t.fields = s.fields
  power : t.power = s.power
  stackList : t.stackList = s.stackList
  bankMoves : t.bankMoves = s.bankMoves
  reg : ∀ f, ∀ o ∈ [0x100, 0x108, 0x110, 0x118], t.reg (regAddr .tilth f o) = s.reg (regAddr .tilth f o)

theorem SameMap.bankOf (h : SameMap s t) (f o : Nat) : t.bankOf f o = s.bankOf f o := by
  have hlinear (j : Nat) : t.setLinear f j = s.setLinear f j := by rw [State.setLinear, State.setLinear, h.reg f 0x100 (by simp)]
  rw [State.bankOf, State.bankOf, hlinear]

theorem SameMap.liveStacks (h : SameMap s t) (f : Nat) : t.liveStacks f = s.liveStacks f := by
  have hstack : t.stack = s.stack := by
    funext n
    rw [State.stack, State.stack, h.stackList]
  rw [State.liveStacks, State.liveStacks, hstack]

theorem SameMap.bankOn (h : SameMap s t) {f b : Nat} (hb : b < 96) : t.bankOn f b = s.bankOn f b := by
  have hset : 0x108 + 8 * (b / 32) ∈ [0x100, 0x108, 0x110, 0x118] := by
    have : b / 32 = 0 ∨ b / 32 = 1 ∨ b / 32 = 2 := by omega
    rcases this with e | e | e <;> simp [e]
  simp only [State.bankOn, State.bankState, State.bankPending, State.rf, h.reg f _ hset, h.bankMoves, h.power]

theorem SameMap.byteOk (h : SameMap s t) (a : Nat) : t.byteOk a = s.byteOk a := by
  have hlost (f : Nat) : t.lost f = s.lost f := State.lost_congr h.fields f
  unfold State.byteOk
  split
  next => rfl
  next f o harea => rw [hlost, h.bankOf, h.bankOn (State.bankOf_lt (lt_tilthSize_of_areaOf harea))]
  next => rw [hlost]
  next => rfl
  next => rfl
  next => rfl
  next f o _ => rw [hlost, h.liveStacks]
  next => rfl

theorem SameMap.populated (h : SameMap s t) (a n : Nat) : t.populated a n = s.populated a n := by
  rw [State.populated, State.populated, funext h.byteOk]

theorem SameMap.asleep (h : SameMap s t) : t.asleep = s.asleep := by rw [State.asleep, State.asleep, h.power]

end Sys2Proof.Machine
end

section
/-!
Swath links, the plan, discovery and PTP (O36).
-/
namespace Sys2Proof.Machine

set_option Elab.async false

variable {G : Prop} {F : Footprint} {s t u : State}

/-! ### Links, ports and connections -/

section
variable {l l' p e : Nat} {x : SwLink} {y : SwPort} {c : SwConn}

theorem State.link_congr (h : t.swath.links = s.swath.links) (l : Nat) : t.link l = s.link l := by rw [State.link, State.link, h]

theorem State.port_congr (h : t.swath.ports = s.swath.ports) (p : Nat) : t.port p = s.port p := by rw [State.port, State.port, h]

theorem State.link_setLink_self (hl : l < s.swath.links.length) : (s.setLink l x).link l = x := by
  simp [State.link, State.setLink, hl]

theorem State.link_setLink_other (h : l' ≠ l) : (s.setLink l x).link l' = s.link l' := by
  simp [State.link, State.setLink, List.getElem?_set_ne h.symm]

theorem State.port_setPort_self (hp : p < s.swath.ports.length) : (s.setPort p y).port p = y := by
  simp [State.port, State.setPort, hp]

theorem State.linkExists_congr (h : t.reg (swPortReg (l / 8) 0x100) = s.reg (swPortReg (l / 8) 0x100)) : t.linkExists l = s.linkExists l := by
  rw [State.linkExists, State.linkExists, State.portMode, State.portMode, State.rf_congr h]

theorem swPortReg_mod : swPortReg p e % 0x1000 = e % 0x1000 := regAddr_mod ..

/-- The links that exist are settled by an offset that most runs leave. -/
theorem KeepsRegs.linkExists {os : List Nat} (h : KeepsRegs os s t) (ho : 0x100 ∉ os := by decide) : t.linkExists l = s.linkExists l :=
  State.linkExists_congr (h.reg _ (by rw [swPortReg_mod]; exact ho))

end

/-! ### The plan follows the links in service (R435) -/

section
variable {before : List Nat} {l : Nat}

theorem State.isolate_swath : s.isolate.swath =
    { s.swath with plan := 3, conns := s.swath.conns.map (fun (c : SwConn) => { c with unreachable := true }) } := by
  refine (swath_kept fun h => h.foldl fun _ _ h' => h'.reportLost).trans ?_
  rw [State.raiseErr_swath]

theorem KeepsRegs.isolate (h : KeepsRegs errorOffsets s t) : KeepsRegs errorOffsets s t.isolate := by
  unfold State.isolate
  exact (KeepsRegs.raiseErr h.same).foldl fun _ _ h' => h'.of_regs_kept fun h => h.reportLost

/-- The module's service looked at again changes the plan's state and what the connections reach, between RUNNING and ISOLATED only. -/
theorem State.refreshService_swath : ∃ plan conns, (s.refreshService before).swath = { s.swath with plan := plan, conns := conns } ∧
    (s.swath.plan ≠ 2 → s.swath.plan ≠ 3 → plan = s.swath.plan ∧ conns = s.swath.conns) := by
  unfold State.refreshService
  extract_lets now slave s1 enough
  have h1 : s1.swath = s.swath := by
    unfold s1
    split
    · exact State.raiseErr_swath ..
    · rfl
  split
  next hrun =>
    rw [State.isolate_swath, h1]
    rw [h1] at hrun
    exact ⟨_, _, rfl, fun hne => absurd (by simp_all) hne⟩
  next =>
    split
    next hback =>
      rw [h1] at hback
      exact ⟨2, s.swath.conns, congrArg (fun x : SwathSt => { x with plan := 2 }) h1, fun _ hne => absurd (by simp_all) hne⟩
    next => exact ⟨s.swath.plan, s.swath.conns, h1, fun _ _ => ⟨rfl, rfl⟩⟩

theorem State.refreshService_links : (s.refreshService before).swath.links = s.swath.links := by
  obtain ⟨_, _, h, -⟩ := State.refreshService_swath (s := s) (before := before)
  rw [h]

theorem State.refreshService_ports : (s.refreshService before).swath.ports = s.swath.ports := by
  obtain ⟨_, _, h, -⟩ := State.refreshService_swath (s := s) (before := before)
  rw [h]

theorem State.refreshService_of_planless (h2 : s.swath.plan ≠ 2) (h3 : s.swath.plan ≠ 3) : (s.refreshService before).swath = s.swath := by
  obtain ⟨_, _, h, hplan⟩ := State.refreshService_swath (s := s) (before := before)
  obtain ⟨rfl, rfl⟩ := hplan h2 h3
  exact h

theorem KeepsRegs.refreshService (h : KeepsRegs errorOffsets s t) : KeepsRegs errorOffsets s (t.refreshService before) :=
  .ite (.isolate (.ite h.raiseErr h)) (.ite (.same (.ite h.raiseErr h)) (.ite h.raiseErr h))

end

/-! ### A link goes down (R415) -/

section
variable {l l' p : Nat}

/-- When a link has gone down in the last 60 s, this time included. -/
def State.recentDowns (s : State) (l : Nat) : List Nat := (s.now :: (s.link l).downs).filter (fun u => decide (s.now ≤ u + almMs 60000))

/-- A link as it goes down. -/
def State.droppedLink (s : State) (l : Nat) : SwLink :=
  { s.link l with
    state := if 4 ≤ (s.recentDowns l).length then 5 else 4
    inService := false
    judged := decide (4 ≤ (s.recentDowns l).length)
    downs := s.recentDowns l }

/-- The link has gone down in a module that counts it, before its service is looked at again. -/
def State.linkDropped (s : State) (l : Nat) : State :=
  ((s.setLink l (s.droppedLink l)).bump (swPortReg (l / 8) 0x188)).raiseErr .swath 0 0 0x0520 0 0 0

/-- A link that goes down, or one that was not up in any way. -/
theorem State.dropLink_cases : s.dropLink l = (s.linkDropped l).refreshService s.service ∨
    s.dropLink l = s ∧ (s.linkExists l = false ∨ (s.link l).state = 0 ∨ (s.link l).state = 1 ∨ 4 ≤ (s.link l).state) := by
  unfold State.dropLink
  extract_lets x recent before s1
  split
  next hnot =>
    refine .inr ⟨rfl, ?_⟩
    simp only [Bool.or_eq_true, Bool.not_eq_true', decide_eq_true_eq] at hnot
    have hx : x.state = (s.link l).state := rfl
    rcases hnot with (((h | h) | h) | h) | h
    · exact .inl h
    · exact .inr (.inl h)
    · exact .inr (.inr (.inl h))
    · exact .inr (.inr (.inr h.ge))
    · exact .inr (.inr (.inr (h.ge.trans' (by decide))))
  next => exact .inl rfl


theorem State.dropLink_of_up (hl : s.linkExists l = true) (hup : (s.link l).state = 3) :
    s.dropLink l = (s.linkDropped l).refreshService s.service := by
  rcases State.dropLink_cases (s := s) (l := l) with h | ⟨-, h⟩
  · exact h
  · simp [hl, hup] at h

theorem State.linkDropped_swath : (s.linkDropped l).swath = { s.swath with links := s.swath.links.set l (s.droppedLink l) } := State.raiseErr_swath ..

theorem State.dropLink_links : (s.dropLink l).swath.links = s.swath.links.set l (s.droppedLink l) ∨ (s.dropLink l).swath.links = s.swath.links := by
  rcases State.dropLink_cases (s := s) (l := l) with h | ⟨h, -⟩
  · rw [h, State.refreshService_links, State.linkDropped_swath]
    exact .inl rfl
  · rw [h]
    exact .inr rfl

theorem State.dropLink_ports : (s.dropLink l).swath.ports = s.swath.ports := by
  rcases State.dropLink_cases (s := s) (l := l) with h | ⟨h, -⟩
  · rw [h, State.refreshService_ports, State.linkDropped_swath]
  · rw [h]

theorem State.length_dropLink_links : (s.dropLink l).swath.links.length = s.swath.links.length := by
  rcases State.dropLink_links (s := s) (l := l) with h | h <;> simp [h]

theorem State.link_dropLink_other (h : l' ≠ l) : (s.dropLink l).link l' = s.link l' := by
  rcases State.dropLink_links (s := s) (l := l) with hlinks | hlinks
  · exact (State.link_congr (s := s.setLink l (s.droppedLink l)) hlinks l').trans (State.link_setLink_other h)
  · exact State.link_congr hlinks l'

theorem State.link_dropLink_self (hlen : l < s.swath.links.length) (hl : s.linkExists l = true) (hup : (s.link l).state = 3) :
    (s.dropLink l).link l = s.droppedLink l := by
  have hlinks : (s.dropLink l).swath.links = (s.setLink l (s.droppedLink l)).swath.links := by
    rw [State.dropLink_of_up hl hup, State.refreshService_links, State.linkDropped_swath]
    rfl
  exact (State.link_congr hlinks l).trans (State.link_setLink_self hlen)

/-- What a link that goes down changes of the registers: its port's count and an error. -/
theorem KeepsRegs.dropLink (h : KeepsRegs (0x188 :: errorOffsets) s t) : KeepsRegs (0x188 :: errorOffsets) s (t.dropLink l) := by
  rcases State.dropLink_cases (s := t) (l := l) with heq | ⟨heq, -⟩
  · have hdropped : KeepsRegs (0x188 :: errorOffsets) s (t.linkDropped l) :=
      KeepsRegs.raiseErr (KeepsRegs.bump (k := .swathPort) (off := 0x188) h.same)
    rw [heq]
    exact hdropped.trans (.mono (.refreshService (.refl _ _)) (List.subset_cons_self ..))
  · rw [heq]
    exact h

theorem KeepsRegs.laneFails {lane : Nat} (h : KeepsRegs (0x188 :: errorOffsets) s t) : KeepsRegs (0x188 :: errorOffsets) s (t.laneFails p lane) :=
  .dropLink h.same

theorem State.counted_dropLink (hl : s.linkExists l = true) (hup : (s.link l).state = 3) :
    s.Counted (s.dropLink l) (swPortReg (l / 8) 0x188) 1 := by
  have hbump : (s.setLink l (s.droppedLink l)).Counted ((s.setLink l (s.droppedLink l)).bump (swPortReg (l / 8) 0x188)) (swPortReg (l / 8) 0x188) 1 :=
    State.counted_bumpBy
  rw [State.dropLink_of_up hl hup]
  exact (KeepsRegs.refreshService (.raiseErr (.refl _ _))).counted (hbump.of_reg (s := s) rfl) (by rw [swPortReg_mod]; decide)

theorem State.raised_dropLink (hl : s.linkExists l = true) (hup : (s.link l).state = 3) : (s.dropLink l).Raised .swath 0 0 := by
  rw [State.dropLink_of_up hl hup]
  exact (KeepsRegs.refreshService (.refl _ _)).raised _ _ _ State.raised_raiseErr

/-- Taken out of service, and down. -/
def SwLink.Out (x : SwLink) : Prop := x.inService = false ∧ 4 ≤ x.state

theorem State.droppedLink_out : (s.droppedLink l).Out := by
  refine ⟨rfl, ?_⟩
  unfold State.droppedLink
  dsimp only
  split <;> decide

/-- A link that is out stays out when links go down. -/
theorem State.link_dropLink_out (hlen : l' < s.swath.links.length) (h : (s.link l').Out) : ((s.dropLink l).link l').Out := by
  by_cases hne : l' = l
  · subst hne
    rcases State.dropLink_links (s := s) (l := l') with hlinks | hlinks
    · rw [State.link_congr (s := s.setLink l' (s.droppedLink l')) hlinks l', State.link_setLink_self hlen]
      exact State.droppedLink_out
    · rw [State.link_congr hlinks l']
      exact h
  · rw [State.link_dropLink_other hne]
    exact h

/-- Of several links that go down, one that was up is out; and one that was out stays so. -/
theorem State.link_dropLinks_out {ls : List Nat} (hlen : l < s.swath.links.length) (hl : s.linkExists l = true)
    (h : (s.link l).Out ∨ l ∈ ls ∧ (s.link l).state = 3) : ((ls.foldl State.dropLink s).link l).Out := by
  induction ls generalizing s with
  | nil => simpa using h
  | cons a ls ih =>
    refine ih (by rw [State.length_dropLink_links]; exact hlen) ((KeepsRegs.linkExists (.dropLink (.refl _ s))).trans hl) ?_
    rcases h with hout | ⟨hmem, hup⟩
    · exact .inl (State.link_dropLink_out hlen hout)
    · by_cases hne : l = a
      · subst hne
        rw [State.link_dropLink_self hlen hl hup]
        exact .inl State.droppedLink_out
      · rw [State.link_dropLink_other hne]
        exact .inr ⟨(List.mem_cons.1 hmem).resolve_left hne, hup⟩

end

/-! ### O36: links, lasers and pauses -/

section
variable {p lane k : Fin 8} {l : Nat}

theorem completes_swathLinkDown (hlen : s.swath.links.length = 64) (hlane : l = p.val * 8 + lane.val / modeLanes (s.portMode p.val))
    (hl : s.linkExists l = true) (hup : (s.link l).state = 3) :
    Completes (.swathLinkDown p lane) s (fun t => (t.link l).inService = false ∧
      (t.link l).state = (if 4 ≤ ((s.now :: (s.link l).downs).filter (fun u => decide (s.now ≤ u + almMs 60000))).length then 5 else 4) ∧
      s.Counted t (swPortReg p.val 0x188) 1 ∧ t.Raised .swath 0 0 ∧ t.mem = s.mem) := by
  obtain ⟨b, hb⟩ : ∃ b, b = s.setPort p.val { s.port p.val with lanes := (s.port p.val).lanes - (if bitOf (s.port p.val).lanes lane.val then 2 ^ lane.val else 0) } :=
    ⟨_, rfl⟩
  have hrun : exec (.swathLinkDown p lane) s = .next ((b.dropLink l).noteCapacity s) := by rw [hb, hlane]; rfl
  have hregs : b.regs = s.regs := by rw [hb]; rfl
  have hlinks : b.swath.links = s.swath.links := by rw [hb]; rfl
  have hnow : b.now = s.now := by rw [hb]; rfl
  have hlt : l < b.swath.links.length := by rw [hlinks, hlen]; exact State.lt_of_linkExists hl
  have hbl : b.linkExists l = true := (State.linkExists_congr (State.reg_congr hregs _)).trans hl
  have hbup : (b.link l).state = 3 := by rw [State.link_congr hlinks]; exact hup
  have hport : l / 8 = p.val := by
    have hin := Nat.div_le_self lane.val (modeLanes (s.portMode p.val))
    have hlt := lane.isLt
    generalize lane.val / modeLanes (s.portMode p.val) = q at hlane hin
    omega
  have hdropped : ((b.dropLink l).noteCapacity s).link l = b.droppedLink l :=
    (State.link_congr (congrArg SwathSt.links (State.noteCapacity_swath ..)) l).trans (State.link_dropLink_self hlt hbl hbup)
  have hkeep : KeepsRegs errorOffsets (b.dropLink l) ((b.dropLink l).noteCapacity s) := .noteCapacity (.refl _ _)
  refine Completes.intro hrun ⟨?_, ?_, ?_, ?_, ?_⟩
  · rw [hdropped]
    rfl
  · rw [hdropped, State.droppedLink, State.recentDowns, hnow, State.link_congr hlinks]
  · rw [← hport]
    exact hkeep.counted ((State.counted_dropLink hbl hbup).of_reg (State.reg_congr hregs _)) (by rw [swPortReg_mod]; decide)
  · exact hkeep.raised _ _ _ (State.raised_dropLink hbl hbup)
  · rw [hb]
    exact mem_kept fun h => h.setPort.dropLink.noteCapacity


theorem completes_swathLinkRetrain {l : Fin 64} {ok : Bool} (hlen : s.swath.links.length = 64) (hl : s.linkExists l.val = true)
    (hon : s.enabled .swathPort (l.val / 8) = true) (hlit : (s.port (l.val / 8)).laserOk = true) (hdown : (s.link l.val).state = 4) :
    Completes (.swathLinkRetrain l ok) s (fun t => (t.link l.val).state = (if ok then 3 else 4) ∧ t.mem = s.mem) := by
  have hlt : l.val < s.swath.links.length := by omega
  refine Completes.intro (t := (s.retrainLink l.val ok).noteCapacity s) rfl ⟨?_, mem_kept fun h => h.retrainLink.noteCapacity⟩
  rw [State.link_congr (congrArg SwathSt.links (State.noteCapacity_swath ..))]
  cases ok with
  | true =>
    have hup : s.retrainLink l.val true = (s.setPort (l.val / 8) { s.port (l.val / 8) with lanes := (s.port (l.val / 8)).lanes ||| s.linkLanes l.val }).setLink
        l.val { s.link l.val with state := 3, inService := false, judged := false } := by
      simp [State.retrainLink, hl, hon, hlit, hdown]
    rw [hup]
    exact congrArg SwLink.state (State.link_setLink_self hlt)
  | false =>
    have hstays : s.retrainLink l.val false = s.setLink l.val { s.link l.val with state := 4 } := by
      simp [State.retrainLink, hl, hon, hlit, hdown]
    rw [hstays, State.link_setLink_self hlt]
    rfl

/-- A port that is not the default of one out of range is a port of the module. -/
theorem State.lt_of_laserOk {p : Nat} (h : (s.port p).laserOk = true) : p < s.swath.ports.length := by
  by_contra hge
  rw [State.port, List.getD_eq_default _ _ (Nat.le_of_not_lt hge)] at h
  cases h

theorem State.dropLinks_ports {ls : List Nat} : (ls.foldl State.dropLink s).swath.ports = s.swath.ports :=
  foldl_inv (fun t => t.swath.ports = s.swath.ports) _ ls (fun _ _ h => State.dropLink_ports.trans h) rfl

theorem completes_laserLow (hlen : s.swath.links.length = 64) (hlit : (s.port p.val).laserOk = true) :
    Completes (.laserLow p) s (fun t => (t.port p.val).laserOk = false ∧ (t.port p.val).lanes = 0 ∧ t.Raised .swath 0 1 ∧ t.mem = s.mem ∧
      (s.linkExists (p.val * 8 + k.val) = true → (s.link (p.val * 8 + k.val)).state = 3 →
        (t.link (p.val * 8 + k.val)).inService = false ∧ 4 ≤ (t.link (p.val * 8 + k.val)).state)) := by
  obtain ⟨b, hb⟩ : ∃ b, b = s.setPort p.val { s.port p.val with laserOk := false, lanes := 0 } := ⟨_, rfl⟩
  obtain ⟨d, hd⟩ : ∃ d, d = ((List.range 8).map (fun k => p.val * 8 + k)).foldl State.dropLink b := ⟨_, rfl⟩
  have hlow : s.laserLow p.val = d.raiseErr .swath 0 1 0x0523 0 0 0 := by
    rw [hd, hb, List.foldl_map]
    simp [State.laserLow, hlit]
  have hrun : exec (.laserLow p) s = .next ((s.laserLow p.val).noteCapacity s) := rfl
  have hswath : ((s.laserLow p.val).noteCapacity s).swath = d.swath := by
    rw [State.noteCapacity_swath, hlow, State.raiseErr_swath]
  have hport : ((s.laserLow p.val).noteCapacity s).port p.val = { s.port p.val with laserOk := false, lanes := 0 } := by
    rw [State.port_congr (congrArg SwathSt.ports hswath), hd, State.port_congr State.dropLinks_ports, hb, State.port_setPort_self (State.lt_of_laserOk hlit)]
  refine Completes.intro hrun ⟨?_, ?_, ?_, mem_kept fun h => h.laserLow.noteCapacity, fun hl hup => ?_⟩
  · rw [hport]
  · rw [hport]
  · rw [hlow]
    exact State.raised_raiseErr.noteCapacity
  · have hlinks : b.link (p.val * 8 + k.val) = s.link (p.val * 8 + k.val) := State.link_congr (by rw [hb]; rfl) _
    have hbl : b.linkExists (p.val * 8 + k.val) = true := by rw [hb]; exact hl
    rw [State.link_congr (congrArg SwathSt.links hswath), hd]
    refine State.link_dropLinks_out (by rw [hb]; exact hlen.symm ▸ State.lt_of_linkExists hl) hbl (.inr ⟨?_, by rw [hlinks]; exact hup⟩)
    exact List.mem_map.2 ⟨k.val, List.mem_range.2 k.isLt, rfl⟩

theorem completes_laserRestored (hlen : s.swath.ports.length = 8) :
    Completes (.laserRestored p) s (fun t => (t.port p.val).laserOk = true ∧ t.regs = s.regs ∧ t.swath.links = s.swath.links) := by
  refine Completes.intro (t := s.laserRestored p.val) rfl ⟨?_, rfl, rfl⟩
  rw [State.laserRestored, State.port_setPort_self (by omega)]

theorem completes_pfcPause {m : BitVec 8} (hlen : s.swath.ports.length = 8) :
    Completes (.pfcPause p m) s (fun t => (t.port p.val).paused = m.toNat &&& s.rf (swPortReg p.val 0x100) 15 8 ∧
      s.Counted t (swPortReg p.val 0x180) 1 ∧ t.swath.links = s.swath.links) := by
  refine Completes.intro (t := s.pfcPause p.val m.toNat) rfl ⟨?_, State.counted_bumpBy, rfl⟩
  have hport : (s.pfcPause p.val m.toNat).port p.val = { s.port p.val with paused := m.toNat &&& s.rf (swPortReg p.val 0x100) 15 8 } :=
    State.port_setPort_self (by omega)
  rw [hport]

end

/-! ### O36: the plan -/

/-- What PLAN_LOAD reads of the endpoints. -/
def State.planEntries (s : State) : List (PlanEp × Bool) := (List.range (s.rf (tpReg 0x108) 31 16)).map (fun i => s.planEp i)

/-- What R433 refuses. -/
def State.planBad (s : State) : Bool :=
  let n := s.rf (tpReg 0x108) 31 16
  let links := (List.range 64).map (fun l => s.planBytes (64 * l) 64)
  let mods : List Nat := (s.planEntries.filter (fun (e : PlanEp × Bool) => !e.1.storage)).map (fun (e : PlanEp × Bool) => e.1.modno)
  n = 0 || !s.populated (s.rf (tpReg 0x100) 47 0) (4096 + 32 * n) ||
    (List.range 64).any (fun l =>
      let b := links.getD l []
      let e := (b.getD 0 0).toNat
      decide (3 ≤ e) || b.getD 3 0 != 0 || (e != 0 && !s.linkExists l)) ||
    s.planEntries.any (fun e => e.2) || !distinct (s.planEntries.map (fun e => e.1.addr)) || !distinct mods ||
    n ≤ s.ownEp || (s.planEntries.getD s.ownEp (⟨[], false, true, 0⟩, false)).1.storage || (List.range 32).any (fun c => s.enabled .thrCh c)

theorem State.planBad_journal (j : Journal) : ({ s with journal := j } : State).planBad = s.planBad := rfl

theorem State.planLoad_none (h : s.planBad = true) : s.planLoad = none := if_pos h

theorem State.planLoad_some (h : s.planBad = false) : ∃ (t : State) (before : List Nat), s.planLoad = some (t.refreshService before) ∧ t.swath.plan = 1 ∧
    t.swath.eps = s.planEntries.map (fun e => e.1) ∧ t.swath.loads = s.swath.loads + 1 :=
  ⟨_, _, if_neg (Bool.eq_false_iff.1 h), rfl, rfl, rfl⟩

section
variable {via : Via}

theorem State.writeEffect_planLoad {src : Source} : s.writeEffect src .transport 0 0x110 1 = (s.planLoad.getD s).noteCapacity s := rfl

theorem State.writeEffect_planUnload {src : Source} : s.writeEffect src .transport 0 0x110 2 = s.planUnload.noteCapacity s := rfl

theorem State.writeOk_planLoad {src : Source} (h : s.writeOk src .transport 0 0x110 1 = true) : s.planBad = false := by
  have hsome : s.planLoad.isSome = true := by simpa [State.writeOk, bitOf] using h
  by_contra hbad
  rw [State.planLoad_none (by simpa using hbad)] at hsome
  cases hsome

theorem Via.answer_swath {a v : Nat} : (via.answer a v s).swath = s.swath := swath_kept fun h => h.answer

theorem completes_planLoad (hlands : Lands via s (tpReg 0x110) 1) :
    Completes (.planLoad via) s (fun t => t.swath.plan = 1 ∧ t.swath.eps.length = s.rf (tpReg 0x108) 31 16 ∧ t.swath.loads = s.swath.loads + 1 ∧
      t.mem = s.mem) := by
  obtain ⟨j, hcode, heq⟩ := State.writeBy_checked (k := .transport) (i := 0) (off := 0x110) hlands (by decide) (by decide) (by decide) (by decide)
  obtain ⟨u, hu⟩ : ∃ u, u = ({ via.arrived s with journal := j } : State) := ⟨_, rfl⟩
  have hreached : Reached s u := hu ▸ .arrived via j
  have hgood : u.planBad = false := by
    rw [hu, State.planBad_journal]
    exact State.writeOk_planLoad (State.writeOk_of_writeCode hcode)
  obtain ⟨p, before, hload, hplan, heps, hloads⟩ := State.planLoad_some hgood
  rw [← hu, State.writeEffect_planLoad, hload, Option.getD_some] at heq
  have hswath : (s.writeBy via (tpReg 0x110) 1).swath = p.swath := by
    refine (congrArg State.swath heq).trans ?_
    rw [Via.answer_swath, State.noteCapacity_swath, State.refreshService_of_planless (by omega) (by omega)]
  refine Completes.intro (t := s.writeBy via (tpReg 0x110) 1) rfl ⟨?_, ?_, ?_, mem_kept fun h => h.writePlanCtl (by decide)⟩
  · rw [hswath, hplan]
  · rw [hswath, heps, State.planEntries, List.length_map, List.length_map, List.length_range]
    exact State.rf_congr (hreached.reg (by decide))
  · rw [hswath, hloads]
    exact congrArg (· + 1) (congrArg SwathSt.loads (hreached.touches.parts .swath rfl))

theorem State.planUnload_swath : s.planUnload.swath.plan = 0 ∧ s.planUnload.swath.eps = [] ∧ s.planUnload.swath.conns = [] := by
  obtain ⟨b, hb⟩ : ∃ b, b = s.endConns := ⟨_, rfl⟩
  have hconns : b.swath.conns = [] := by
    rw [hb, State.endConns]
    exact congrArg SwathSt.conns (swath_kept fun h => h.foldl fun _ _ h' => h'.complete)
  have hunloaded : s.planUnload.swath = ({ b with swath := { b.swath with plan := 0, planLinks := [], eps := [], links := b.swath.links.map (fun (x : SwLink) => { x with inService := false, judged := false }) } } : State).swath := by
    rw [State.planUnload, State.refreshService_of_planless (show 0 ≠ 2 by decide) (show 0 ≠ 3 by decide), hb]
  rw [hunloaded]
  exact ⟨rfl, rfl, hconns⟩

theorem completes_planUnload (hlands : Lands via s (tpReg 0x110) 2) :
    Completes (.planUnload via) s (fun t => t.swath.plan = 0 ∧ t.swath.eps = [] ∧ t.swath.conns = [] ∧ t.mem = s.mem) := by
  obtain ⟨u, -, heq⟩ := State.writeBy_accepted (k := .transport) (i := 0) (off := 0x110) hlands (by decide) (by decide) (by decide) (by decide)
  have hswath : (s.writeBy via (tpReg 0x110) 2).swath = u.planUnload.swath := by
    refine (congrArg State.swath heq).trans ?_
    rw [Via.answer_swath, State.writeEffect_planUnload, State.noteCapacity_swath]
  obtain ⟨hplan, heps, hconns⟩ := State.planUnload_swath (s := u)
  refine Completes.intro (t := s.writeBy via (tpReg 0x110) 2) rfl ⟨?_, ?_, ?_, mem_kept fun h => h.writePlanCtl (by decide)⟩ <;> rw [hswath]
  · exact hplan
  · exact heps
  · exact hconns

end

/-! ### O36: what is sent, discovery and PTP -/

/-- Messages sent one after another. -/
theorem State.swSends {α : Type} (g : α → SwathOut) (ls : List α) (s : State) :
    ls.foldl (fun t a => t.swSend (g a)) s = { s with swath := { s.swath with sent := (ls.map g).reverse ++ s.swath.sent } } := by
  induction ls generalizing s with
  | nil => rfl
  | cons a ls ih =>
    rw [List.foldl_cons, ih]
    simp [State.swSend]

theorem completes_lldpSend {l : Fin 64} (hl : s.linkExists l.val = true) (hup : (s.link l.val).state = 3)
    (hdue : s.swath.lldpAt + almMs (1000 * s.rf (swathReg 0x108) 15 0) ≤ s.now) :
    Completes .lldpSend s (fun t => SwathOut.lldp l.val (s.rf (swathReg 0x100) 47 0) ∈ t.swath.sent ∧ t.mem = s.mem ∧ t.regs = s.regs) := by
  have hsend : s.lldpSend = ((List.range 64).filter (fun l => s.linkExists l && ((s.link l).state == 3 || (s.link l).state == 6))).foldl
      (fun t l => t.swSend (SwathOut.lldp l (s.rf (swathReg 0x100) 47 0))) { s with swath := { s.swath with lldpAt := s.now } } :=
    if_neg (Nat.not_lt.2 hdue)
  refine Completes.intro (t := s.lldpSend) rfl ?_
  rw [hsend, State.swSends]
  refine ⟨List.mem_append_left _ (List.mem_reverse.2 (List.mem_map.2 ⟨l.val, ?_, rfl⟩)), rfl, rfl⟩
  simp [hl, hup]

/-- A link whose neighbour the plan expects enters service. -/
theorem State.judgeLink_matched {l : Nat} {r : List Byte} (hplan : s.swath.plan ≠ 0) (hopen : (s.link l).judged = false) (hl : s.linkExists l = true)
    (hup : (s.link l).state = 3) (hexp : (s.swath.planLinks.getD l []).getD 0 0 ≠ 0#8) (hnbr : (s.link l).nbr = some r)
    (hmatch : nbrMatches (s.swath.planLinks.getD l []) r = true) : s.judgeLink l false = s.serveLink l := by
  have hne : ((s.swath.planLinks.getD l []).getD 0 0).toNat ≠ 0 := fun h => hexp (BitVec.eq_of_toNat_eq h)
  unfold State.judgeLink
  extract_lets x entry expect up
  have hstop : ¬ ((decide (s.swath.plan = 0) || x.judged || !s.linkExists l || decide (x.state = 1) && !false) = true) := by
    simp [x, hplan, hopen, hl, hup]
  have hisup : up = true := by simp [up, x, hup]
  have hx : x.nbr = some r := hnbr
  rw [if_neg hstop, hx]
  split
  next heq _ => exact absurd heq hne
  next heq _ => exact absurd heq hne
  next => simp_all [entry]
  next heq _ => cases heq

theorem State.serveLink_links {l : Nat} :
    (s.serveLink l).swath.links = (s.setLink l { s.link l with inService := true, judged := true }).swath.links := by
  rw [State.serveLink, State.swSends]
  exact State.refreshService_links

theorem completes_lldpReceived {l : Fin 64} {ct pt : BitVec 8} {ch po : List Byte} (hlen : s.swath.links.length = 64) (hl : s.linkExists l.val = true)
    (hup : (s.link l.val).state = 3) (hplan : s.swath.plan ≠ 0) (hopen : (s.link l.val).judged = false)
    (hexp : (s.swath.planLinks.getD l.val []).getD 0 0 ≠ 0#8)
    (hmatch : nbrMatches (s.swath.planLinks.getD l.val []) (lldpRecord ct pt ch po) = true) :
    Completes (.lldpReceived l ct pt ch po) s (fun t => (t.link l.val).inService = true ∧ (t.link l.val).judged = true ∧
      (t.link l.val).nbr = some (lldpRecord ct pt ch po) ∧ t.mem = s.mem) := by
  have hlt : l.val < s.swath.links.length := by omega
  obtain ⟨b, hb⟩ : ∃ b, b = s.setLink l.val { s.link l.val with nbr := some (lldpRecord ct pt ch po) } := ⟨_, rfl⟩
  have hbl : b.link l.val = { s.link l.val with nbr := some (lldpRecord ct pt ch po) } := hb ▸ State.link_setLink_self hlt
  have hnoted : s.lldpReceived l.val ct.toNat pt.toNat ch po = b.judgeLink l.val false := by
    rw [hb]
    simp [State.lldpReceived, hl, hup, lldpRecord]
  have hserved : b.judgeLink l.val false = b.serveLink l.val := by
    refine State.judgeLink_matched (r := lldpRecord ct pt ch po) ?_ ?_ ?_ ?_ ?_ ?_ ?_ <;> first | rw [hbl] | rw [hb]
    all_goals assumption
  have hlink : ((s.lldpReceived l.val ct.toNat pt.toNat ch po).noteCapacity s).link l.val = { b.link l.val with inService := true, judged := true } := by
    rw [State.link_congr (congrArg SwathSt.links (State.noteCapacity_swath ..)), hnoted, hserved, State.link_congr State.serveLink_links,
      State.link_setLink_self (by rw [hb]; simpa [State.setLink] using hlt)]
  refine Completes.intro (t := (s.lldpReceived l.val ct.toNat pt.toNat ch po).noteCapacity s) rfl ⟨?_, ?_, ?_, mem_kept fun h => h.lldpReceived.noteCapacity⟩
  · rw [hlink]
  · rw [hlink]
  · rw [hlink, hbl]

section
variable {l : Nat} {limit : Bool}

/-- Before the plan is in force, a link that is judged leaves the plan's state as it is. -/
theorem State.judgeLink_plan (h : s.swath.plan = 1) : (s.judgeLink l limit).swath.plan = 1 := by
  have hrefresh {x : SwLink} {before : List Nat} : (((s.setLink l x).refreshService before).swath).plan = 1 := by
    rw [State.refreshService_of_planless (by rw [State.setLink, h]; decide) (by rw [State.setLink, h]; decide)]
    exact h
  have hcut {report : Bool} : (s.cutLink l report).swath.plan = 1 := by
    unfold State.cutLink
    extract_lets before s1
    split
    · rw [State.raiseErr_swath]
      exact hrefresh
    · exact hrefresh
  have hserve : (s.serveLink l).swath.plan = 1 := by
    rw [State.serveLink, State.swSends]
    exact hrefresh
  have hextra : (s.extraLink l).swath.plan = 1 := by
    rw [State.extraLink, State.raiseErr_swath]
    exact h
  unfold State.judgeLink
  extract_lets x entry expect up
  repeat' split
  all_goals first | exact h | exact hcut | exact hserve | exact hextra

theorem KeepsRegs.judgeLink (h : KeepsRegs errorOffsets s t) : KeepsRegs errorOffsets s (t.judgeLink l limit) := by
  have hcut {report : Bool} : KeepsRegs errorOffsets s (t.cutLink l report) := by
    unfold State.cutLink
    exact .ite (.raiseErr (h.same.trans (.refreshService (.refl _ _)))) (h.same.trans (.refreshService (.refl _ _)))
  have hserve : KeepsRegs errorOffsets s (t.serveLink l) := by
    have hin : KeepsRegs errorOffsets s (t.setLink l { t.link l with inService := true, judged := true }) := h.same
    rw [State.serveLink, State.swSends]
    exact (hin.trans (.refreshService (before := t.service) (.refl _ _))).same
  have hextra : KeepsRegs errorOffsets s (t.extraLink l) := .raiseErr h.same
  unfold State.judgeLink
  extract_lets x entry expect up
  repeat' split
  all_goals first | exact h | exact hcut | exact hserve | exact hextra

end

theorem State.service_congr (hlinks : t.swath.links = s.swath.links) (hregs : KeepsRegs errorOffsets s t) : t.service = s.service := by
  have hmem : (fun l => t.linkExists l && (t.link l).inService) = fun l => s.linkExists l && (s.link l).inService := by
    funext l
    rw [hregs.linkExists, State.link_congr hlinks]
  rw [State.service, State.service, hmem]

/-- A module that probes: only what its connections await, and what is sent. -/
theorem State.probes_swath {ls : List Nat} {f : State → Nat → SwConn} :
    ∃ conns sent, (ls.foldl (fun t e => (t.setConn e (f t e)).probeAll e) s).swath = { s.swath with conns := conns, sent := sent } := by
  induction ls generalizing s with
  | nil => exact ⟨_, _, rfl⟩
  | cons e ls ih =>
    obtain ⟨conns, sent, heq⟩ := ih (s := (s.setConn e (f s e)).probeAll e)
    refine ⟨conns, sent, heq.trans ?_⟩
    rw [State.probeAll, State.swSends]
    rfl

theorem completes_discoveryLimit (hplan : s.swath.plan = 1) (hdue : s.swath.loadTime + almMs (s.rf (tpReg 0x128) 15 0) ≤ s.now) :
    Completes .discoveryLimit s (fun t => t.swath.plan = (if s.rf (tpReg 0x108) 6 0 ≤ t.service.length then 2 else 3) ∧ t.mem = s.mem) := by
  obtain ⟨j, hj⟩ : ∃ j, j = (List.range 64).foldl (fun t l => t.judgeLink l true) s := ⟨_, rfl⟩
  obtain ⟨d, hd⟩ : ∃ d, d = if j.rf (tpReg 0x108) 6 0 ≤ j.service.length then ({ j with swath := { j.swath with plan := 2 } } : State) else j.isolate := ⟨_, rfl⟩
  have hjregs : KeepsRegs errorOffsets s j := hj ▸ (KeepsRegs.refl _ s).foldl fun _ _ h => h.judgeLink
  have hmin : j.rf (tpReg 0x108) 6 0 = s.rf (tpReg 0x108) 6 0 := State.rf_congr (hjregs.reg _ (by decide))
  have hdlinks : d.swath.links = j.swath.links := by
    rw [hd]
    split
    · rfl
    · rw [State.isolate_swath]
  have hdregs : KeepsRegs errorOffsets j d := hd ▸ .ite (.same (.refl _ j)) (.isolate (.refl _ j))
  have hlimit : s.discoveryLimit = ((List.range d.swath.eps.length).filter (fun e => e != d.ownEp)).foldl (fun t e =>
      (t.setConn e { t.conn e with watch := some t.now }).probeAll e) d := by
    have hgo : ¬ ((decide (s.swath.plan ≠ 1) || decide (s.now < s.swath.loadTime + almMs (s.rf (tpReg 0x128) 15 0))) = true) := by
      simp [hplan, hdue]
    rw [State.discoveryLimit, if_neg hgo, hd, hj]
    simp only [decide_eq_true_eq]
  obtain ⟨conns, sent, hswath⟩ := State.probes_swath (s := d) (ls := (List.range d.swath.eps.length).filter (fun e => e != d.ownEp))
    (f := fun t e => { t.conn e with watch := some t.now })
  rw [← hlimit] at hswath
  have hregs : KeepsRegs errorOffsets d ((s.discoveryLimit).noteCapacity s) := by
    refine .noteCapacity (.same (.refl _ d) ?_)
    rw [hlimit]
    exact regs_kept fun h => h.foldl fun _ _ h' => h'.setConn.probeAll
  have hfinal : (s.discoveryLimit.noteCapacity s).swath = { d.swath with conns := conns, sent := sent } := (State.noteCapacity_swath ..).trans hswath
  have hservice : (s.discoveryLimit.noteCapacity s).service = j.service := by
    refine State.service_congr ?_ (hdregs.trans hregs)
    rw [hfinal]
    exact hdlinks
  refine Completes.intro (t := s.discoveryLimit.noteCapacity s) rfl ⟨?_, mem_kept fun h => h.discoveryLimit.noteCapacity⟩
  rw [hservice, hfinal, ← hmin, hd]
  split
  · rfl
  · rw [State.isolate_swath]

theorem ptpReg_mod {off : Nat} : ptpReg off % 0x1000 = off % 0x1000 := regAddr_mod ..

theorem completes_ptpMessage {m : PtpMsg} (hmode : s.rf (ptpReg 0x100) 1 0 ≠ 0) (hserved : (s.link m.link.val).inService = true)
    (hslave : m.link.val = s.rf (ptpReg 0x100) 37 32) (hstamped : m.stamped = true) :
    Completes (.ptpMessage m) s (fun t => t.reg (ptpReg 0x118) = m.offset.toNat ∧ t.reg (ptpReg 0x120) = m.pathDelay.toNat ∧
      t.reg (ptpReg 0x128) = m.grandmaster.toNat ∧ (m.sync = true → s.Counted t (ptpReg 0x130) 1) ∧ t.swath = s.swath) := by
  obtain ⟨b, hb⟩ : ∃ b, b = if m.sync then s.bump (ptpReg 0x130) else s := ⟨_, rfl⟩
  have hmsg : s.ptpMessage m = (((b.setRf (ptpReg 0x110) 7 0 (max 1 m.portState.val)).setReg (ptpReg 0x118) m.offset.toNat).setReg (ptpReg 0x120)
      m.pathDelay.toNat).setReg (ptpReg 0x128) m.grandmaster.toNat := by
    rw [hb]
    have hin : (s.link (s.rf (ptpReg 0x100) 37 32)).inService = true := by rw [← hslave]; exact hserved
    simp [State.ptpMessage, hmode, hin, hslave, hstamped]
  have hother {a v o : Nat} {u : State} (h : a % 0x1000 ≠ o % 0x1000) : (u.setReg (ptpReg o) v).reg (ptpReg a) = u.reg (ptpReg a) :=
    State.reg_setReg_offset v (by rw [ptpReg_mod, ptpReg_mod]; exact h)
  refine Completes.intro (t := s.ptpMessage m) rfl ?_
  rw [hmsg]
  refine ⟨?_, ?_, ?_, fun hsync => ?_, ?_⟩
  · rw [hother (by decide), hother (by decide), State.reg_setReg_self]
  · rw [hother (by decide), State.reg_setReg_self]
  · rw [State.reg_setReg_self]
  · have hcount : s.Counted b (ptpReg 0x130) 1 := by
      rw [hb, if_pos hsync]
      exact State.counted_bumpBy
    refine hcount.congr ?_
    rw [hother (by decide), hother (by decide), hother (by decide), State.setRf, hother (by decide)]
  · rw [hb]
    split <;> rfl

theorem completes_ptpSyncSend {l : Nat} (hmode : s.rf (ptpReg 0x100) 1 0 = 2) (hserved : l ∈ s.service) (hmaster : bitOf (s.reg (ptpReg 0x108)) l = true) :
    Completes .ptpSyncSend s (fun t => SwathOut.sync l ∈ t.swath.sent ∧ t.mem = s.mem ∧ t.regs = s.regs) := by
  have hsend : s.ptpSyncSend = (s.service.filter (fun l => bitOf (s.reg (ptpReg 0x108)) l)).foldl (fun t l => t.swSend (.sync l)) s :=
    if_neg (not_not.2 hmode)
  refine Completes.intro (t := s.ptpSyncSend) rfl ?_
  rw [hsend, State.swSends]
  exact ⟨List.mem_append_left _ (List.mem_reverse.2 (List.mem_map.2 ⟨l, List.mem_filter.2 ⟨hserved, hmaster⟩, rfl⟩)), rfl, rfl⟩

/-- Settles O36, clause by clause. -/
theorem swathLinksAndPlan : Obligations.SwathLinksAndPlan := by
  unfold Obligations.SwathLinksAndPlan
  exact ⟨fun _ _ _ _ hlen hlane hl hup => completes_swathLinkDown hlen hlane hl hup,
    fun _ _ _ hlen hl hon hlit hdown => completes_swathLinkRetrain hlen hl hon hlit hdown,
    fun _ _ _ hlen hlit => completes_laserLow hlen hlit,
    fun _ _ hlen => completes_laserRestored hlen,
    fun _ _ _ hlen => completes_pfcPause hlen,
    fun _ _ hlands => completes_planLoad hlands,
    fun _ _ hlands => completes_planUnload hlands,
    fun _ _ hl hup hdue => completes_lldpSend hl hup hdue,
    fun _ _ _ _ _ _ hlen hl hup hplan hopen hexp hmatch => completes_lldpReceived hlen hl hup hplan hopen hexp hmatch,
    fun _ hplan hdue => completes_discoveryLimit hplan hdue,
    fun _ _ hmode hserved hslave hstamped => completes_ptpMessage hmode hserved hslave hstamped,
    fun _ _ hmode hserved hmaster => completes_ptpSyncSend hmode hserved hmaster⟩

end Sys2Proof.Machine
end

section
/-!
Swath transport packets and timers (O37).
-/
namespace Sys2Proof.Machine

set_option Elab.async false

variable {G : Prop} {F : Footprint} {s t u : State}

/-! ### Connections -/

section
variable {e i : Nat} {c : SwConn}

theorem State.conn_congr (h : t.swath.conns = s.swath.conns) (e : Nat) : t.conn e = s.conn e := by rw [State.conn, State.conn, h]

theorem State.conn_setConn_self (he : e < s.swath.conns.length) : (s.setConn e c).conn e = c := by
  simp [State.conn, State.setConn, he]

theorem State.conn_setConn_other (h : i ≠ e) : (s.setConn e c).conn i = s.conn i := by
  simp [State.conn, State.setConn, List.getElem?_set_ne h.symm]

/-- A connection that is no fresh one is one of the plan's. -/
theorem State.lt_of_conn (h : s.conn e ≠ SwConn.fresh []) : e < s.swath.conns.length := by
  by_contra hge
  exact h (List.getD_eq_default _ _ (Nat.le_of_not_lt hge))

theorem State.length_setConn : (s.setConn e c).swath.conns.length = s.swath.conns.length := List.length_set

end

/-! ### A packet that is heard (R416, R420) -/

section
variable {rx : SwathRx} {type : Nat} {h : SwHdr} {d : List Byte}

/-- A packet that the fabric has marked is counted. -/
def State.ceCounted (s : State) (rx : SwathRx) : State := if rx.ce then s.bump (tpReg 0x210) else s

theorem State.swAccept_hears (hears : s.Hears rx type h d) : s.swAccept rx type = (s.ceCounted rx, some (h, d)) := by
  obtain ⟨hserved, hok, hparse, htag, hsrc, hnot, hdst, htype⟩ := hears
  have hends : ¬ ((decide (s.swath.eps.length ≤ h.src) || decide (h.src = s.ownEp) || decide (h.dst ≠ s.ownEp)) = true) := by
    simp [hdst, hnot, hsrc]
  unfold State.swAccept
  simp only [hserved, hok, hparse, Bool.not_true, Bool.false_eq_true, if_false]
  rw [if_neg (not_not.2 htag), if_neg hends, if_neg (not_not.2 htype)]
  rfl

theorem State.ceCounted_swath : (s.ceCounted rx).swath = s.swath := by
  unfold State.ceCounted
  split <;> rfl

theorem State.ceCounted_mem : (s.ceCounted rx).mem = s.mem := by
  unfold State.ceCounted
  split <;> rfl

theorem State.ceCounted_flights : (s.ceCounted rx).flights = s.flights := by
  unfold State.ceCounted
  split <;> rfl

theorem State.ceCounted_conn (e : Nat) : (s.ceCounted rx).conn e = s.conn e := State.conn_congr (by rw [State.ceCounted_swath]) e

theorem KeepsRegs.ceCounted : KeepsRegs [0x210] s (s.ceCounted rx) :=
  .ite (KeepsRegs.bump (k := .transport) (i := 0) (off := 0x210) (.refl _ s)) (.refl _ s)

theorem Touches.ceCounted (h : Touches False F s t) (hE : Footprint.fits ⟨[.regs], [.transport]⟩ F = true := by rfl) :
    Touches False F s (t.ceCounted rx) := h.via hE fun h => .ite h.bump h

theorem tpReg_mod {off : Nat} : tpReg off % 0x1000 = off % 0x1000 := regAddr_mod ..

end

/-! ### What is sent -/

section
variable {e l p : Nat} {b : List Byte} {body : SwathBody}

/-- What a packet's UDP port and priority are read from stands. -/
theorem State.outPacket_congr (h120 : t.reg (tpReg 0x120) = s.reg (tpReg 0x120)) (h108 : t.reg (swathReg 0x108) = s.reg (swathReg 0x108)) :
    t.outPacket l p b body = s.outPacket l p b body := by
  simp only [State.outPacket, State.rf, h120, h108]

theorem KeepsRegs.outPacket {os : List Nat} (h : KeepsRegs os s t) (ho120 : 0x120 ∉ os := by decide) (ho108 : 0x108 ∉ os := by decide) :
    t.outPacket l p b body = s.outPacket l p b body :=
  State.outPacket_congr (h.reg _ (by rw [tpReg_mod]; exact ho120)) (h.reg _ (by rw [swathReg, regAddr_mod]; exact ho108))

theorem State.sendAck_conn (he : e < s.swath.conns.length) : (s.sendAck e).conn e = { s.conn e with ackDue := 0, ceSeen := false } :=
  (State.conn_congr rfl e).trans (State.conn_setConn_self he)

theorem State.sendAck_sent : ∃ b, (s.sendAck e).swath.sent = s.outPacket (s.conn e).rxLink (s.conn e).rxPath b .other :: s.swath.sent := ⟨_, rfl⟩

end

/-! ### DATA (R421, R423) -/

section
variable {rx : SwathRx} {h : SwHdr} {d : List Byte} {c : SwConn}

/-- Messages settled in their order leave what a connection has accepted and owes. -/
theorem SwConn.settleMsgs_eq (c : SwConn) (n : Nat) : ∃ msgs done, c.settleMsgs n = { c with rxMsgs := msgs, rxDone := done } := by
  induction n generalizing c with
  | zero => exact ⟨_, _, rfl⟩
  | succ n ih =>
    unfold SwConn.settleMsgs
    split
    · obtain ⟨msgs, done, heq⟩ := ih { c with rxMsgs := c.rxMsgs.filter (fun m => m.1 != c.rxDone), rxDone := (c.rxDone + 1) % 2 ^ 32 }
      exact ⟨msgs, done, heq⟩
    · exact ⟨_, _, rfl⟩

/-- A connection that has accepted a packet. -/
def SwConn.accepted (c : SwConn) (rx : SwathRx) (h : SwHdr) (now n : Nat) : SwConn :=
  let r := advanceCum (c.rxAhead.length + 1) c.rxCum (setInsert c.rxAhead h.seq)
  let msgs := noteMsg c.rxMsgs h.msg n (if h.last then some (h.q + n) else none)
  let k : SwConn := { c with
    rxLink := rx.link.val, rxPath := h.path, ceSeen := c.ceSeen || rx.ce, rxCum := r.1, rxAhead := r.2, ackDue := c.ackDue + 1
    ackFrom := if c.ackDue = 0 then now else c.ackFrom
    rxMsgs := msgs }
  k.settleMsgs msgs.length

/-- The state in which an accepted packet reaches its user. -/
def State.dataTaken (s : State) (rx : SwathRx) (h : SwHdr) (d : List Byte) : State :=
  (s.ceCounted rx).setConn h.src ((s.conn h.src).accepted rx h s.now d.length)

/-- A packet in the window that is new is handed to its user, and acknowledged when it is time. -/
theorem State.dataReceived_taken (hears : s.Hears rx 0 h d) (huser : h.user < 4) (hq : h.q < 2 ^ 48) (htakes : (s.conn h.src).takes h.seq = true)
    {u : State} (hu : u = if h.user = 1 then (s.dataTaken rx h d).swathUser h.src h d rx.body
      else if h.user = 2 then (s.dataTaken rx h d).buddyUser h.src h d rx.body else s.dataTaken rx h d) :
    s.dataReceived rx = if h.ackNow || 16 ≤ (u.conn h.src).ackDue then u.sendAck h.src else u := by
  have hbad : ¬ ((decide (4 ≤ h.user) || decide (h.q / 2 ^ 48 ≠ 0)) = true) := by
    have hlow : h.q / 2 ^ 48 = 0 := Nat.div_eq_of_lt hq
    rw [hlow]
    simp [huser]
  have hnew : ¬ ((!(s.conn h.src).takes h.seq) = true) := by simp [htakes]
  unfold State.dataReceived
  rw [State.swAccept_hears hears]
  dsimp only
  rw [State.ceCounted_conn, if_neg hbad, if_neg hnew, hu]
  rfl

theorem completes_dataReceived_inOrder (hears : s.Hears rx 0 h d) (hin : h.src < s.swath.conns.length) (huser : h.user = 0 ∨ h.user = 3) (hq : h.q < 2 ^ 48)
    (hnext : h.seq = (s.conn h.src).rxCum) (hahead : (s.conn h.src).rxAhead = []) (hack : h.ackNow = false)
    (hdue : (s.conn h.src).ackDue < 15) :
    Completes (.dataReceived rx) s (fun t => (t.conn h.src).rxCum = (h.seq + 1) % 2 ^ 32 ∧ (t.conn h.src).rxAhead = [] ∧
      (t.conn h.src).ackDue = (s.conn h.src).ackDue + 1 ∧ t.mem = s.mem ∧ t.swath.sent = s.swath.sent) := by
  have htakes : (s.conn h.src).takes h.seq = true := by
    simp [SwConn.takes, hnext, hahead]
  have hconn : (s.dataTaken rx h d).conn h.src = (s.conn h.src).accepted rx h s.now d.length :=
    State.conn_setConn_self (by rw [State.ceCounted_swath]; exact hin)
  obtain ⟨msgs, done, hsettled⟩ : ∃ msgs done, (s.conn h.src).accepted rx h s.now d.length = { s.conn h.src with
      rxLink := rx.link.val, rxPath := h.path, ceSeen := (s.conn h.src).ceSeen || rx.ce, rxCum := (h.seq + 1) % 2 ^ 32, rxAhead := []
      ackDue := (s.conn h.src).ackDue + 1, ackFrom := if (s.conn h.src).ackDue = 0 then s.now else (s.conn h.src).ackFrom
      rxMsgs := msgs, rxDone := done } := by
    obtain ⟨msgs, done, heq⟩ := SwConn.settleMsgs_eq _ _
    refine ⟨msgs, done, heq.trans ?_⟩
    simp [hahead, ← hnext, setInsert, advanceCum, setErase]
  have hrun : s.dataReceived rx = s.dataTaken rx h d := by
    have huser1 : h.user ≠ 1 := by omega
    have huser2 : h.user ≠ 2 := by omega
    rw [State.dataReceived_taken (u := s.dataTaken rx h d) hears (by omega) hq htakes (by rw [if_neg huser1, if_neg huser2]), hconn, hsettled]
    exact if_neg (by simp [hack]; omega)
  refine Completes.intro (t := s.dataReceived rx) rfl ?_
  rw [hrun, hconn, hsettled]
  refine ⟨rfl, rfl, rfl, State.ceCounted_mem, ?_⟩
  change (s.ceCounted rx).swath.sent = s.swath.sent
  rw [State.ceCounted_swath]

theorem State.inbound_congr {a n : Nat} {write : Bool} (hmap : SameMap s t)
    (hwin : ∀ w < 4, t.reg (tpReg (0x130 + 16 * w)) = s.reg (tpReg (0x130 + 16 * w)) ∧ t.reg (tpReg (0x138 + 16 * w)) = s.reg (tpReg (0x138 + 16 * w))) :
    t.inbound a n write = s.inbound a n write := by
  have hany : ∀ w ∈ List.range 4, t.rf (tpReg (0x130 + 16 * w)) 47 0 = s.rf (tpReg (0x130 + 16 * w)) 47 0 ∧
      t.rf (tpReg (0x138 + 16 * w)) 31 0 = s.rf (tpReg (0x138 + 16 * w)) 31 0 := fun w hw =>
    ⟨State.rf_congr (hwin w (List.mem_range.1 hw)).1, State.rf_congr (hwin w (List.mem_range.1 hw)).2⟩
  unfold State.inbound
  rw [hmap.populated, hmap.asleep]
  congr 4
  rw [Bool.eq_iff_iff, List.any_eq_true, List.any_eq_true]
  exact exists_congr fun w => and_congr_right fun hw => by rw [(hany w hw).1, (hany w hw).2]

theorem State.dataTaken_sameMap : SameMap s (s.dataTaken rx h d) where
  fields := (part_kept .fields fun h => h.ceCounted.setConn :)
  power := (part_kept .power fun h => h.ceCounted.setConn :)
  stackList := (part_kept .stackList fun h => h.ceCounted.setConn :)
  bankMoves := (part_kept .bankMoves fun h => h.ceCounted.setConn :)
  reg f o ho := by
    refine (KeepsRegs.ceCounted (s := s) (rx := rx)).reg _ ?_
    rw [regAddr_mod]
    simp only [List.mem_cons, List.not_mem_nil, or_false] at ho ⊢
    omega

theorem completes_dataReceived_write {a : Nat} (hok : s.MemOk) (hears : s.Hears rx 0 h d) (huser : h.user = 1) (hq : h.q < 2 ^ 48)
    (htakes : (s.conn h.src).takes h.seq = true) (hbody : rx.body = .write a) (hin : s.inbound a d.length true = true)
    (hlive : ∀ i, i < d.length → s.deadAt (a + i) = false) :
    Completes (.dataReceived rx) s (fun t => t.bytes a d.length = d ∧ t.flights = s.flights) := by
  obtain ⟨b, hb⟩ : ∃ b, b = s.dataTaken rx h d := ⟨_, rfl⟩
  have hmap : SameMap s b := hb ▸ State.dataTaken_sameMap
  have hmem : b.mem = s.mem := by rw [hb]; exact State.ceCounted_mem
  have hbin : b.inbound a d.length true = true := by
    refine (State.inbound_congr hmap fun w hw => ?_).trans hin
    have hreg {o : Nat} (ho : o % 0x1000 ≠ 0x210) : b.reg (tpReg o) = s.reg (tpReg o) := by
      rw [hb]
      exact (KeepsRegs.ceCounted (s := s) (rx := rx)).reg _ (by rw [tpReg_mod]; simpa using ho)
    exact ⟨hreg (by omega), hreg (by omega)⟩
  have hstored : b.swathUser h.src h d rx.body = b.store a d := by
    rw [hbody]
    exact if_pos hbin
  have hrun := State.dataReceived_taken (u := b.store a d) hears (by omega) hq htakes (by rw [if_pos huser, ← hb, hstored])
  obtain ⟨v, hv, hvmem, hvflights⟩ : ∃ v, s.dataReceived rx = v ∧ v.mem = (b.store a d).mem ∧ v.flights = (b.store a d).flights := by
    refine ⟨_, hrun, ?_, ?_⟩ <;> split <;> rfl
  refine Completes.intro (t := v) (congrArg Host.Outcome.next hv) ⟨?_, ?_⟩
  · refine State.bytes_of_mem_memPutAll hok (hvmem.trans ?_)
    rw [State.mem_store fun i hi => (State.deadAt_congr hmap.stackList _).trans (hlive i hi), hmem]
  · rw [hvflights, hb]
    exact flights_kept fun h => h.ceCounted.setConn.store

theorem completes_dataReceived_duplicate (hears : s.Hears rx 0 h d) (huser : h.user < 4) (hq : h.q < 2 ^ 48) (hdup : h.seq ∈ (s.conn h.src).rxAhead)
    (hwin : (h.seq + 2 ^ 32 - (s.conn h.src).rxCum) % 2 ^ 32 ≤ 65535) :
    Completes (.dataReceived rx) s (fun t => t.mem = s.mem ∧ t.flights = s.flights ∧ s.Counted t (tpReg 0x1F8) 1) := by
  have hrun : ∃ k, s.dataReceived rx = (((s.ceCounted rx).setConn h.src k).bump (tpReg 0x1F8)).sendAck h.src := by
    have hbad : ¬ ((decide (4 ≤ h.user) || decide (h.q / 2 ^ 48 ≠ 0)) = true) := by
      have hlow : h.q / 2 ^ 48 = 0 := Nat.div_eq_of_lt hq
      rw [hlow]
      simp [huser]
    have hold : (!(s.conn h.src).takes h.seq) = true := by simp [SwConn.takes, hdup]
    unfold State.dataReceived
    rw [State.swAccept_hears hears]
    dsimp only
    rw [State.ceCounted_conn, if_neg hbad, if_pos hold, if_pos (by simpa using Or.inl hwin)]
    exact ⟨_, rfl⟩
  obtain ⟨k, hrun⟩ := hrun
  refine Completes.intro (t := s.dataReceived rx) rfl ?_
  rw [hrun]
  refine ⟨mem_kept fun h => h.ceCounted.setConn.bump.sendAck, flights_kept fun h => h.ceCounted.setConn.bump.sendAck, ?_⟩
  have hcount : (s.ceCounted rx).Counted ((s.ceCounted rx).bump (tpReg 0x1F8)) (tpReg 0x1F8) 1 := State.counted_bumpBy
  exact hcount.of_reg (KeepsRegs.ceCounted.reg _ (by rw [tpReg_mod]; decide))

end

/-! ### ACK, NACK and the timers (R423 to R425, R427, R430) -/

section
variable {rx : SwathRx} {h : SwHdr} {d : List Byte} {e : Nat} {c : SwConn}

/-- What holds of a connection put in its place and of the one there before holds after, in or out of range. -/
theorem State.conn_setConn_of {P : SwConn → Prop} (hc : P c) (hs : P (s.conn e)) : P ((s.setConn e c).conn e) := by
  by_cases he : e < s.swath.conns.length
  · rw [State.conn_setConn_self he]
    exact hc
  · have hsame : (s.setConn e c).conn e = s.conn e := by
      rw [State.conn, State.conn, List.getD_eq_default _ _ (by rw [State.length_setConn]; omega), List.getD_eq_default _ _ (by omega)]
    rw [hsame]
    exact hs

/-- The packets that a connection has out and the ones that wait are those of another. -/
structure SwConn.SameData (c k : SwConn) : Prop where
  slots : k.slots.map (fun x => x.seq) = c.slots.map (fun x => x.seq)
  queue : k.queue = c.queue

theorem SwConn.SameData.refl (c : SwConn) : c.SameData c := ⟨rfl, rfl⟩

theorem SwConn.SameData.trans {k m : SwConn} (h : c.SameData k) (h' : k.SameData m) : c.SameData m :=
  ⟨h'.slots.trans h.slots, h'.queue.trans h.queue⟩

/-- A packet sent again keeps its sequence number. -/
theorem State.resendSlot_sameData {x : TxSlot} {timer : Nat} : (s.conn e).SameData ((s.resendSlot e x timer).conn e) := by
  unfold State.resendSlot
  split
  · exact .refl _
  · refine State.conn_setConn_of (s := s) ⟨?_, rfl⟩ (.refl _)
    rw [List.map_map]
    refine List.map_congr_left fun z _ => ?_
    dsimp only [Function.comp]
    split
    next heq => exact (beq_iff_eq.1 heq).symm
    next => rfl

theorem State.resends_sameData {xs : List TxSlot} {timer : TxSlot → Nat} :
    (s.conn e).SameData ((xs.foldl (fun t x => t.resendSlot e x (timer x)) s).conn e) :=
  foldl_inv (fun t => (s.conn e).SameData (t.conn e)) _ xs (fun _ _ hs => hs.trans State.resendSlot_sameData) (.refl _)

theorem State.heard_sameData : (s.conn e).SameData ((s.heard e).conn e) := by
  unfold State.heard
  extract_lets k was s1
  have h1 : (s.conn e).SameData (s1.conn e) := State.conn_setConn_of ⟨rfl, rfl⟩ (.refl _)
  split
  · exact h1.trans State.resends_sameData
  · exact h1

/-- A connection with nothing waiting sends nothing. -/
theorem State.pumpConn_nil {n : Nat} (hq : (s.conn e).queue = []) : s.pumpConn e n = s := by
  cases n with
  | zero => rfl
  | succ n => simp only [State.pumpConn, hq]

theorem SwConn.ackPath_sameData {l p : Nat} : c.SameData (c.ackPath l p) := by
  unfold SwConn.ackPath
  dsimp only
  split <;> exact ⟨rfl, rfl⟩

/-- A connection whose acknowledged packets are gone. -/
def SwConn.acked (c : SwConn) (rx : SwathRx) (h : SwHdr) : SwConn :=
  let gone := c.slots.filter (fun x => ackCovers h x.seq)
  let left := (c.slots.filter (fun x => !ackCovers h x.seq)).map (fun (x : TxSlot) => { x with newer := x.newer + gone.countP (fun y => decide (x.sentAt < y.sentAt) || (y.sentAt == x.sentAt && y.seq != x.seq && decide ((y.seq + 2 ^ 32 - x.seq) % 2 ^ 32 < 2 ^ 31))) })
  let moved := gone.foldl (fun (k : SwConn) x => k.ackPath x.link x.path) { c with slots := left }
  if h.ceEcho then moved.halve rx.link.val h.path else moved

/-- The packets that an ACK leaves unacknowledged. -/
def SwConn.unacked (c : SwConn) (h : SwHdr) : SwConn := { c with slots := c.slots.filter (fun x => !ackCovers h x.seq) }

theorem SwConn.acked_sameData : (c.unacked h).SameData (c.acked rx h) := by
  have hfold (l : List TxSlot) (k k' : SwConn) (hk : k.SameData k') : k.SameData (l.foldl (fun (k : SwConn) x => k.ackPath x.link x.path) k') := by
    induction l generalizing k' with
    | nil => exact hk
    | cons a l ih => exact ih _ (hk.trans SwConn.ackPath_sameData)
  unfold SwConn.acked
  extract_lets gone left moved
  have hmoved : (c.unacked h).SameData moved := hfold gone _ _ ⟨List.map_map, rfl⟩
  split
  · exact hmoved.trans ⟨rfl, rfl⟩
  · exact hmoved

/-- The state in which an ACK has freed its slots and its endpoint has been heard. -/
def State.ackHeard (s : State) (rx : SwathRx) (h : SwHdr) : State :=
  ((s.ceCounted rx).setConn h.src ((s.conn h.src).acked rx h)).heard h.src

theorem State.ackReceived_eq (hears : s.Hears rx 1 h d) : s.ackReceived rx =
    ((((s.ackHeard rx h).conn h.src).slots.filter (fun x => decide (3 ≤ x.newer))).foldl (fun t x => t.resendSlot h.src x (min 32 (2 * x.timer)))
      (s.ackHeard rx h)).pumpConn h.src ((s.conn h.src).queue.length + 1) := by
  unfold State.ackReceived
  rw [State.swAccept_hears hears]
  dsimp only
  rw [State.ceCounted_conn]
  rfl

theorem State.ackHeard_sameData : ((s.conn h.src).unacked h).SameData ((s.ackHeard rx h).conn h.src) := by
  refine SwConn.SameData.trans ?_ State.heard_sameData
  by_cases hin : h.src < (s.ceCounted rx).swath.conns.length
  · rw [State.conn_setConn_self hin]
    exact SwConn.acked_sameData
  · refine State.conn_setConn_of SwConn.acked_sameData ?_
    have hfresh : s.conn h.src = SwConn.fresh [] := List.getD_eq_default _ _ (Nat.le_of_not_lt (State.ceCounted_swath (s := s) ▸ hin))
    rw [State.ceCounted_conn, hfresh]
    exact ⟨rfl, rfl⟩

theorem completes_ackReceived (hears : s.Hears rx 1 h d) (hq : (s.conn h.src).queue = []) :
    Completes (.ackReceived rx) s (fun t => (t.conn h.src).slots.map (fun x => x.seq) =
      ((s.conn h.src).slots.filter (fun x => !ackCovers h x.seq)).map (fun x => x.seq) ∧ t.mem = s.mem) := by
  obtain ⟨u, hu⟩ : ∃ u, u = (((s.ackHeard rx h).conn h.src).slots.filter (fun x => decide (3 ≤ x.newer))).foldl
      (fun t x => t.resendSlot h.src x (min 32 (2 * x.timer))) (s.ackHeard rx h) := ⟨_, rfl⟩
  have hdata : ((s.conn h.src).unacked h).SameData (u.conn h.src) := by
    rw [hu]
    exact State.ackHeard_sameData.trans State.resends_sameData
  have hrun : s.ackReceived rx = u := by
    rw [State.ackReceived_eq hears, ← hu]
    exact State.pumpConn_nil (hdata.queue.trans hq)
  refine Completes.intro (t := s.ackReceived rx) rfl ?_
  rw [hrun]
  refine ⟨hdata.slots, ?_⟩
  rw [hu]
  exact mem_kept fun h => h.ceCounted.setConn.heard.foldl fun _ _ h' => h'.resendSlot

theorem completes_nackReceived {m : BitVec 32} {f : Flight} (hears : s.Hears rx 2 h d) (hf : s.transferOf h.src m.toNat = some f)
    (hid : s.flight f.id = some f) : Completes (.nackReceived rx m) s (fun t => t.Ended f ∧ t.mem = s.mem) := by
  have hrun : s.nackReceived rx m.toNat = (s.ceCounted rx).endTransfer f 0x0527 := by
    have hcounted : (s.ceCounted rx).transferOf h.src m.toNat = some f := by
      rw [State.transferOf, State.ceCounted_flights]
      exact hf
    unfold State.nackReceived
    rw [State.swAccept_hears hears]
    dsimp only
    rw [hcounted]
  refine Completes.intro (t := s.nackReceived rx m.toNat) rfl ?_
  rw [hrun]
  refine ⟨State.complete_ended ?_, mem_kept fun h => h.ceCounted.endTransfer⟩
  have hflights : (if f.started then (s.ceCounted rx).setConn (swathF f.words).ep { (s.ceCounted rx).conn (swathF f.words).ep with
      queue := ((s.ceCounted rx).conn (swathF f.words).ep).queue.filter (fun d => !(d.user == 1 && d.msg == f.sw.msg)) } else s.ceCounted rx).flights = s.flights := by
    split <;> exact State.ceCounted_flights
  exact (State.flight_congr hflights f.id).trans hid

theorem completes_ackTimer (hdue : 0 < (s.conn e).ackDue) (htime : (s.conn e).ackFrom + almUs 2 ≤ s.now) :
    Completes (.ackTimer e) s (fun t => (t.conn e).ackDue = 0 ∧ t.mem = s.mem ∧
      ∃ b, t.swath.sent = s.outPacket (s.conn e).rxLink (s.conn e).rxPath b .other :: s.swath.sent) := by
  have hrun : s.ackTimer e = s.sendAck e := if_pos (by simp [hdue, htime])
  have hin : e < s.swath.conns.length := State.lt_of_conn fun hfresh => by simp [hfresh, SwConn.fresh] at hdue
  refine Completes.intro (t := s.ackTimer e) rfl ?_
  rw [hrun]
  exact ⟨congrArg SwConn.ackDue (State.sendAck_conn hin), rfl, State.sendAck_sent⟩

theorem State.retryPath_setConn {k : SwConn} {x : TxSlot} : (s.setConn e k).retryPath x = s.retryPath x := rfl

theorem completes_rtoExpiry {l p : Nat} {q : BitVec 32} {x : TxSlot} (hx : (s.conn e).slots.find? (fun x => x.seq == q.toNat) = some x)
    (hreach : (s.conn e).unreachable = false) (htime : x.sentAt + almUs (x.timer * s.rf (tpReg 0x120) 15 0) ≤ s.now)
    (hpath : s.retryPath x = some (l, p)) :
    Completes (.rtoExpiry e q) s (fun t => (t.conn e).slots.any (fun y => y.seq == x.seq && y.link == l && y.path == p && y.sentAt == s.now &&
        y.timer == min 32 (2 * x.timer)) = true ∧ s.Counted t (tpReg 0x1F0) 1 ∧ t.mem = s.mem) := by
  have hmem : x ∈ (s.conn e).slots := List.mem_of_find?_eq_some hx
  have hin : e < s.swath.conns.length := State.lt_of_conn fun hfresh => by rw [hfresh] at hmem; cases hmem
  obtain ⟨b, hb⟩ : ∃ b, b = s.setConn e ((s.conn e).halve x.link x.path) := ⟨_, rfl⟩
  have hrun : s.rtoExpiry e q.toNat = b.resendSlot e x (min 32 (2 * x.timer)) := by
    have hgo : ¬ (((s.conn e).unreachable || decide (s.now < x.sentAt + almUs (x.timer * s.rf (tpReg 0x120) 15 0))) = true) := by
      simp [hreach, htime]
    rw [State.rtoExpiry, hx, hb]
    exact if_neg hgo
  have hbpath : b.retryPath x = some (l, p) := by rw [hb, State.retryPath_setConn, hpath]
  have hbconn : b.conn e = (s.conn e).halve x.link x.path := hb ▸ State.conn_setConn_self hin
  have hblen : e < b.swath.conns.length := by rw [hb, State.length_setConn]; exact hin
  obtain ⟨y, hy⟩ : ∃ y : TxSlot, y = { x with link := l, path := p, sentAt := b.now, timer := min 32 (2 * x.timer), newer := 0 } := ⟨_, rfl⟩
  have hsent : b.resendSlot e x (min 32 (2 * x.timer)) = ((b.setConn e { b.conn e with
      slots := (b.conn e).slots.map (fun z => if z.seq == x.seq then y else z) }).bump (tpReg 0x1F0)).swSend
      (b.outPacket l p (b.dataBytes e p x.seq x.data true) x.data.body) := by
    rw [State.resendSlot, hbpath, hy]
  refine Completes.intro (t := s.rtoExpiry e q.toNat) rfl ⟨?_, ?_, mem_kept fun h => h.rtoExpiry⟩
  · rw [hrun, hsent]
    change (((b.setConn e _).conn e).slots.any _) = true
    rw [State.conn_setConn_self hblen, List.any_eq_true]
    refine ⟨y, List.mem_map.2 ⟨x, ?_, by simp⟩, ?_⟩
    · rw [hbconn]
      exact hmem
    · rw [hy, hb]
      simp
      rfl
  · rw [hrun, hsent, hb]
    exact State.counted_bumpBy

end

/-! ### PROBE and reachability (R422, R427) -/

section
variable {rx : SwathRx} {h : SwHdr} {d : List Byte} {e : Nat}

theorem State.resetConn_swath {inc : Option Nat} :
    (s.resetConn e inc).swath = (s.setConn e { SwConn.fresh [] with peerInc := inc, watch := (s.conn e).watch }).swath := by
  have hlost : (s.reportLost e).swath = s.swath := swath_kept fun h => h.reportLost
  rw [State.resetConn]
  refine (swath_kept fun h => h.foldl fun _ _ h' => h'.complete).trans ?_
  rw [State.setConn, State.setConn, State.conn_congr (congrArg SwathSt.conns hlost), hlost]

/-- A sign of an endpoint's incarnation: the connection knows it, and what waited goes on waiting or is gone; nothing is sent. -/
theorem State.noteInc_swath {inc : Nat} (he : e < s.swath.conns.length) : ∃ k : SwConn, k.peerInc = some inc ∧
    ((s.conn e).queue = [] → k.queue = []) ∧ (s.noteInc e inc).conn e = k ∧ (s.noteInc e inc).swath = (s.setConn e k).swath := by
  unfold State.noteInc
  extract_lets c
  split
  next hinc =>
    refine ⟨c, hinc, id, rfl, ?_⟩
    have hset : s.swath.conns.set e c = s.swath.conns := by
      have hget : c = s.swath.conns[e] := by simp [c, State.conn, he]
      rw [hget, List.set_getElem_self]
    rw [State.setConn, hset]
  next =>
    split
    · exact ⟨{ c with peerInc := some inc, txSeq := 0, rxCum := 0, rxAhead := [], slots := [] }, rfl, id, State.conn_setConn_self he, rfl⟩
    · exact ⟨{ SwConn.fresh [] with peerInc := some inc, watch := (s.conn e).watch }, rfl, fun _ => rfl,
        (State.conn_congr (congrArg SwathSt.conns State.resetConn_swath) e).trans (State.conn_setConn_self he), State.resetConn_swath⟩

theorem completes_probeReceived (hears : s.Hears rx 3 h d) (hin : h.src < s.swath.conns.length) :
    Completes (.probeReceived rx) s (fun t => (t.conn h.src).peerInc = some h.q ∧ t.mem = s.mem ∧ t.swath.sent =
      s.outPacket rx.link.val h.path ((s.swHdr h.src 4 h.path 0 0 0 s.incarnation 0).toBytes []) .other :: s.swath.sent) := by
  obtain ⟨b, hb⟩ : ∃ b, b = s.ceCounted rx := ⟨_, rfl⟩
  have hbswath : b.swath = s.swath := hb ▸ State.ceCounted_swath
  have hbregs : KeepsRegs [0x210] s b := hb ▸ KeepsRegs.ceCounted
  have hrun : s.probeReceived rx = (b.noteInc h.src h.q).swSend (b.outPacket rx.link.val h.path ((b.swHdr h.src 4 h.path 0 0 0 b.incarnation 0).toBytes []) .other) := by
    rw [State.probeReceived, State.swAccept_hears hears, hb]
  obtain ⟨k, hpeer, -, hconn, hswath⟩ := State.noteInc_swath (s := b) (e := h.src) (inc := h.q) (by rw [hbswath]; exact hin)
  have hinc : b.incarnation = s.incarnation := by
    have hsteward : b.steward = s.steward := by rw [hb]; exact part_kept .steward fun h => h.ceCounted
    rw [State.incarnation, State.incarnation, hbswath, hsteward]
  have hhdr : b.swHdr h.src 4 h.path 0 0 0 b.incarnation 0 = s.swHdr h.src 4 h.path 0 0 0 s.incarnation 0 := by
    have hreg : b.reg (tpReg 0x108) = s.reg (tpReg 0x108) := hbregs.reg _ (by rw [tpReg_mod]; decide)
    rw [hinc, State.swHdr, State.swHdr, State.ownEp, State.ownEp, State.planTag, State.planTag, State.rf_congr hreg, State.rf_congr hreg]
  refine Completes.intro (t := s.probeReceived rx) rfl ⟨?_, mem_kept fun h => h.probeReceived, ?_⟩
  · rw [hrun]
    change ((b.noteInc h.src h.q).conn h.src).peerInc = _
    rw [hconn, hpeer]
  · rw [hrun, hbregs.outPacket, hhdr]
    change _ :: (b.noteInc h.src h.q).swath.sent = _
    rw [hswath, ← hbswath]
    rfl

/-- An endpoint that is heard is reachable again, unless the module is isolated. -/
theorem State.heard_conn (he : e < s.swath.conns.length) (hplan : s.swath.plan ≠ 3) :
    ((s.heard e).conn e).peerInc = (s.conn e).peerInc ∧ ((s.heard e).conn e).unreachable = false := by
  have hresend {t : State} {x : TxSlot} {timer : Nat} : ((t.resendSlot e x timer).conn e).peerInc = (t.conn e).peerInc ∧
      ((t.resendSlot e x timer).conn e).unreachable = (t.conn e).unreachable := by
    unfold State.resendSlot
    split
    · exact ⟨rfl, rfl⟩
    · exact State.conn_setConn_of (s := t) (P := fun k => k.peerInc = (t.conn e).peerInc ∧ k.unreachable = (t.conn e).unreachable) ⟨rfl, rfl⟩ ⟨rfl, rfl⟩
  unfold State.heard
  extract_lets k was s1
  have h1 : (s1.conn e).peerInc = (s.conn e).peerInc ∧ (s1.conn e).unreachable = false := by
    unfold s1
    rw [State.conn_setConn_self he]
    exact ⟨rfl, by simpa using hplan⟩
  split
  · exact foldl_inv (fun t => (t.conn e).peerInc = (s.conn e).peerInc ∧ (t.conn e).unreachable = false) _ _
      (fun t x ht => ⟨hresend.1.trans ht.1, hresend.2.trans ht.2⟩) h1
  · exact h1

theorem completes_probeReplyReceived (hears : s.Hears rx 4 h d) (hin : h.src < s.swath.conns.length) (hplan : s.swath.plan ≠ 3)
    (hq : (s.conn h.src).queue = []) :
    Completes (.probeReplyReceived rx) s (fun t => (t.conn h.src).peerInc = some h.q ∧ (t.conn h.src).unreachable = false ∧ t.mem = s.mem) := by
  obtain ⟨b, hb⟩ : ∃ b, b = s.ceCounted rx := ⟨_, rfl⟩
  have hbswath : b.swath = s.swath := hb ▸ State.ceCounted_swath
  obtain ⟨k, hpeer, hempty, hconn, hswath⟩ := State.noteInc_swath (s := b) (e := h.src) (inc := h.q) (by rw [hbswath]; exact hin)
  obtain ⟨v, hv⟩ : ∃ v, v = b.noteInc h.src h.q := ⟨_, rfl⟩
  rw [← hv] at hconn hswath
  have hvplan : v.swath.plan ≠ 3 := by
    rw [hswath]
    change b.swath.plan ≠ 3
    rw [hbswath]
    exact hplan
  have hvlen : h.src < v.swath.conns.length := by rw [hswath, State.length_setConn, hbswath]; exact hin
  have hvq : (v.conn h.src).queue = [] := by
    rw [hconn]
    exact hempty (by rw [State.conn_congr (congrArg SwathSt.conns hbswath)]; exact hq)
  have hrun : s.probeReply rx = v.heard h.src := by
    rw [State.probeReply, State.swAccept_hears hears]
    dsimp only
    rw [← hb, ← hv]
    exact State.pumpConn_nil (State.heard_sameData.queue.trans hvq)
  obtain ⟨hinc, hreach⟩ := State.heard_conn hvlen hvplan
  refine Completes.intro (t := s.probeReply rx) rfl ?_
  rw [hrun]
  refine ⟨?_, hreach, ?_⟩
  · rw [hinc, hconn, hpeer]
  · rw [hv, hb]
    exact mem_kept fun h => h.ceCounted.noteInc.heard

theorem completes_probeTimer {q : Nat × Nat} (he : e < s.swath.eps.length) (hplan : s.swath.plan ≠ 0) (hlost : (s.conn e).unreachable = true)
    (htime : (s.conn e).probed + almUs 100 ≤ s.now) (hq : q ∈ s.allPaths) :
    Completes (.probeTimer e) s (fun t => t.mem = s.mem ∧
      s.outPacket q.1 q.2 ((s.swHdr e 3 q.2 0 0 0 s.incarnation 0).toBytes []) .other ∈ t.swath.sent) := by
  have hrun : s.probeTimer e = s.probeAll e := if_pos (by simp [he, hplan, hlost, htime])
  refine Completes.intro (t := s.probeTimer e) rfl ⟨mem_kept fun h => h.probeTimer, ?_⟩
  rw [hrun, State.probeAll, State.swSends]
  exact List.mem_append_left _ (List.mem_reverse.2 (List.mem_map.2 ⟨q, hq, rfl⟩))

/-- A missing member noted: only what the connection watches for, and an error. -/
theorem State.memberMissing_conn : ((s.memberMissing e).conn e).unreachable = (s.conn e).unreachable := by
  have hset {k : SwConn} (hk : k.unreachable = (s.conn e).unreachable) : ((s.setConn e k).conn e).unreachable = (s.conn e).unreachable :=
    State.conn_setConn_of (P := fun k => k.unreachable = (s.conn e).unreachable) hk rfl
  unfold State.memberMissing
  extract_lets c ep s1
  split
  · split
    · rw [State.conn_congr (congrArg SwathSt.conns (State.raiseErr_swath ..))]
      exact hset rfl
    · exact hset rfl
  · rfl

theorem KeepsRegs.memberMissing (h : KeepsRegs errorOffsets s t) : KeepsRegs errorOffsets s (t.memberMissing e) :=
  .ite (.ite (.raiseErr h.same) h.same) h

theorem completes_peerUnreachable {u : Nat} (he : e < s.swath.eps.length) (hreach : (s.conn e).unreachable = false) (hsince : (s.conn e).since = some u)
    (htime : u + almUs (s.rf (tpReg 0x120) 47 16) ≤ s.now) :
    Completes (.peerUnreachable e) s (fun t => (t.conn e).unreachable = true ∧ t.Raised .transport 0 2 ∧ t.mem = s.mem) := by
  have hin : e < s.swath.conns.length := State.lt_of_conn fun hfresh => by rw [hfresh] at hsince; cases hsince
  obtain ⟨b, hb⟩ : ∃ b, b = (s.setConn e { s.conn e with unreachable := true }).raiseErr .transport 0 2 0x0525 0 0 0 := ⟨_, rfl⟩
  have hrun : s.peerUnreachable e = (b.reportLost e).memberMissing e := by
    have hdue : ¬ (((s.conn e).unreachable || !((s.conn e).since.any (fun t => decide (t + almUs (s.rf (tpReg 0x120) 47 16) ≤ s.now)))) = true) := by
      simp [hreach, hsince, htime]
    rw [State.peerUnreachable, if_neg (Nat.not_le.2 he), if_neg hdue, hb]
  have hlost : (b.reportLost e).swath = b.swath := swath_kept fun h => h.reportLost
  refine Completes.intro (t := s.peerUnreachable e) rfl ⟨?_, ?_, mem_kept fun h => h.peerUnreachable⟩
  · rw [hrun, State.memberMissing_conn, State.conn_congr (congrArg SwathSt.conns hlost), hb, State.conn_congr (congrArg SwathSt.conns (State.raiseErr_swath ..)),
      State.conn_setConn_self hin]
  · rw [hrun]
    refine (KeepsRegs.memberMissing (.of_regs_kept (.refl _ b) fun h => h.reportLost)).raised _ _ _ ?_
    rw [hb]
    exact State.raised_raiseErr

/-- Settles O37, clause by clause. -/
theorem swathTransportRuns : Obligations.SwathTransportRuns := by
  unfold Obligations.SwathTransportRuns
  exact ⟨fun _ _ _ _ hears hin huser hq _ hnext hahead hack hdue => completes_dataReceived_inOrder hears hin huser hq hnext hahead hack hdue,
    fun _ _ _ _ _ hok hears huser hq htakes hbody hin hlive => completes_dataReceived_write hok hears huser hq htakes hbody hin hlive,
    fun _ _ _ _ hears huser hq hdup hwin => completes_dataReceived_duplicate hears huser hq hdup hwin,
    fun _ _ _ _ hears hq => completes_ackReceived hears hq,
    fun _ _ _ _ _ _ hears hf hid => completes_nackReceived hears hf hid,
    fun _ _ hdue htime => completes_ackTimer hdue htime,
    fun _ _ _ _ _ _ hx hreach htime hpath => completes_rtoExpiry hx hreach htime hpath,
    fun _ _ _ _ hears hin => completes_probeReceived hears hin,
    fun _ _ _ _ hears hin hplan hq => completes_probeReplyReceived hears hin hplan hq,
    fun _ _ _ he hplan hlost htime hq => completes_probeTimer he hplan hlost htime hq,
    fun _ _ _ he hreach hsince htime => completes_peerUnreachable he hreach hsince htime⟩

end

end Sys2Proof.Machine
end

section
/-!
Swath transfers (O38).
-/
namespace Sys2Proof.Machine

set_option Elab.async false

variable {G : Prop} {F : Footprint} {s t u : State}

/-! ### Packets sent (R424, R428) -/

section
variable {e i l p : Nat} {d : TxData}

/-- The slot that a packet sent for the first time takes. -/
def State.newSlot (s : State) (e : Nat) (d : TxData) (l p : Nat) : TxSlot := ⟨s.freeSlot, (s.conn e).txSeq, d, l, p, s.now, 1, 0⟩

theorem State.transmit_some (hmay : s.maySend (s.conn e) = true) (hpath : s.pickPath (s.conn e) = some (i, l, p)) :
    ∃ k x, s.transmit e d = some (((s.putBytes (swathBufBase + 4096 * s.freeSlot) (d.payload.take 4096)).setConn e k).swSend x) ∧
      k.slots = (s.conn e).slots ++ [s.newSlot e d l p] := by
  refine ⟨{ s.conn e with
      txSeq := ((s.conn e).txSeq + 1) % 2 ^ 32, slots := (s.conn e).slots ++ [s.newSlot e d l p], rr := i + 1
      since := some ((s.conn e).since.getD s.now) },
    s.outPacket l p (s.dataBytes e p (s.conn e).txSeq d false) d.body, ?_, rfl⟩
  unfold State.transmit
  dsimp only
  rw [hmay, hpath]
  rfl

/-- A connection that may send is one of the plan's. -/
theorem State.lt_of_maySend (hmay : s.maySend (s.conn e) = true) : e < s.swath.conns.length :=
  State.lt_of_conn fun hfresh => by simp [State.maySend, hfresh, SwConn.fresh] at hmay

end

/-! ### O38: transfers -/

section
variable {id : Nat} {f : Flight}

theorem State.readHint_swath {a n hint : Nat} : (s.readHint a n hint).swath = s.swath := swath_kept fun h => h.readHint

theorem KeepsRegs.readHint {a n hint : Nat} : KeepsRegs [0x130] s (s.readHint a n hint) where
  reg b hb := State.readHint_hintOnly.reg b (by simpa using hb)
  raised k i bit h := h.congr (State.readHint_hintOnly.reg _ (by rw [regAddr_mod]; decide))

theorem State.allPaths_congr {os : List Nat} (hregs : KeepsRegs os s t) (hlinks : t.swath.links = s.swath.links) (ho128 : 0x128 ∉ os := by decide)
    (ho100 : 0x100 ∉ os := by decide) : t.allPaths = s.allPaths := by
  have hservice : t.service = s.service := by
    have hmem : (fun l => t.linkExists l && (t.link l).inService) = fun l => s.linkExists l && (s.link l).inService := by
      funext l
      rw [hregs.linkExists ho100, State.link_congr hlinks]
    rw [State.service, State.service, hmem]
  have hpaths : t.reg (tpReg 0x128) = s.reg (tpReg 0x128) := hregs.reg _ (by rw [tpReg_mod]; exact ho128)
  rw [State.allPaths, State.allPaths, hservice, State.rf_congr hpaths]

/-- What a connection may send, and on which path, is settled by the fabric and few registers. -/
theorem State.maySend_congr {os : List Nat} (hregs : KeepsRegs os s t) (hswath : t.swath = s.swath) (c : SwConn) (ho128 : 0x128 ∉ os := by decide) :
    t.maySend c = s.maySend c := by
  have hslots : t.reg (tpReg 0x128) = s.reg (tpReg 0x128) := hregs.reg _ (by rw [tpReg_mod]; exact ho128)
  rw [State.maySend, State.maySend, State.rf_congr hslots, State.slotsUsed, State.slotsUsed, hswath]

theorem State.pickPath_congr {os : List Nat} (hregs : KeepsRegs os s t) (hswath : t.swath = s.swath) (c : SwConn) (ho128 : 0x128 ∉ os := by decide)
    (ho100 : 0x100 ∉ os := by decide) (ho108 : 0x108 ∉ os := by decide) : t.pickPath c = s.pickPath c := by
  have hprio : t.reg (swathReg 0x108) = s.reg (swathReg 0x108) := hregs.reg _ (by rw [swathReg, regAddr_mod]; exact ho108)
  have hport : t.port = s.port := funext fun p => State.port_congr (congrArg SwathSt.ports hswath) p
  rw [State.pickPath, State.pickPath, State.allPaths_congr hregs (congrArg SwathSt.links hswath) ho128 ho100, State.rf_congr hprio, hport]

theorem completes_swathWrite_starts (hf : s.flightOf id 7 1 = some f) (hfired : f.fired = true) (hlen : (swathF f.words).len ≠ 0)
    (hnew : f.started = false) :
    Completes (.swathWrite id) s (fun t => (t.flight id).any (fun g => g.started && g.sw.msg == (s.conn (swathF f.words).ep).txMsg && g.sw.sent == 0) = true ∧
      t.mem = s.mem) := by
  have hflight := State.flight_of_flightOf hf
  have hrun : s.swathWrite id = s.startTransfer f := by
    rw [State.swathWrite, hf]
    simp [hfired, hlen, hnew]
  refine Completes.intro (t := s.swathWrite id) rfl ?_
  rw [hrun]
  refine ⟨State.flight_any_setFlight (f := f) hflight (show f.id = id from State.flight_id hflight) ?_, rfl⟩
  simp [Flight.sw]

theorem completes_swathWrite_sends {n : Nat} {r : Nat × Nat × Nat} (hok : s.MemOk) (hf : s.flightOf id 7 1 = some f) (hfired : f.fired = true)
    (hstarted : f.started = true) (hmore : f.sw.sent < (swathF f.words).len) (hn : n = min 4096 ((swathF f.words).len - f.sw.sent))
    (hsound : s.readsPoison ((swathF f.words).localAddr + f.sw.sent) n = false) (hmay : s.maySend (s.conn (swathF f.words).ep) = true)
    (hpath : s.pickPath (s.conn (swathF f.words).ep) = some r) :
    Completes (.swathWrite id) s (fun t => (t.flight id).any (fun g => g.sw.sent == f.sw.sent + n) = true ∧
      (t.conn (swathF f.words).ep).slots.length = (s.conn (swathF f.words).ep).slots.length + 1 ∧
      t.bytes (swathBufBase + 4096 * s.freeSlot) n = s.bytes ((swathF f.words).localAddr + f.sw.sent) n ∧
      ∀ a, (a < swathBufBase + 4096 * s.freeSlot ∨ swathBufBase + 4096 * s.freeSlot + n ≤ a) → t.byte a = s.byte a) := by
  have hflight := State.flight_of_flightOf hf
  obtain ⟨e, he⟩ : ∃ e, e = (swathF f.words).ep := ⟨_, rfl⟩
  obtain ⟨a, ha⟩ : ∃ a, a = (swathF f.words).localAddr + f.sw.sent := ⟨_, rfl⟩
  rw [← he] at hmay hpath ⊢
  rw [← ha] at hsound ⊢
  obtain ⟨b, hb⟩ : ∃ b, b = s.readHint a n (swathF f.words).hint := ⟨_, rfl⟩
  have hswath : b.swath = s.swath := hb ▸ State.readHint_swath
  have hbconn : b.conn e = s.conn e := State.conn_congr (congrArg SwathSt.conns hswath) e
  have hbregs : KeepsRegs [0x130] s b := hb ▸ KeepsRegs.readHint
  have hbmay : b.maySend (b.conn e) = true := by rw [hbconn, State.maySend_congr hbregs hswath]; exact hmay
  have hbpath : b.pickPath (b.conn e) = some r := by rw [hbconn, State.pickPath_congr hbregs hswath]; exact hpath
  have hslot : b.freeSlot = s.freeSlot := by rw [State.freeSlot, State.freeSlot, hswath]
  obtain ⟨i, l, p⟩ := r
  obtain ⟨d, hd⟩ : ∃ d : TxData, d = ⟨1, f.sw.msg, f.sw.sent, decide (f.sw.sent + n = (swathF f.words).len), s.bytes a n, .write ((swathF f.words).remote + f.sw.sent)⟩ :=
    ⟨_, rfl⟩
  obtain ⟨k, x, hsent, hslots⟩ := State.transmit_some (d := d) hbmay hbpath
  rw [hslot] at hsent
  have hpayload : d.payload.take 4096 = s.bytes a n := by
    rw [hd]
    exact List.take_of_length_le (by rw [State.length_bytes]; omega)
  rw [hpayload] at hsent
  obtain ⟨u, hu⟩ : ∃ u, u = ((b.putBytes (swathBufBase + 4096 * s.freeSlot) (s.bytes a n)).setConn e k).swSend x := ⟨_, rfl⟩
  have hrun : s.swathWrite id = u.setFlight { f with prog := Prog.swath { f.sw with sent := f.sw.sent + n } } := by
    rw [State.swathWrite, hf]
    simp only [hfired, hstarted, Bool.not_true, Bool.false_eq_true, if_false, hmore, if_true, ← hn, ← ha, ← he, hsound, ← hb]
    rw [if_neg (by omega), ← hd, hsent, ← hu]
  have humem : u.mem = memPutAll s.mem (swathBufBase + 4096 * s.freeSlot) (s.bytes a n) := by
    have hbmem : b.mem = s.mem := by rw [hb]; exact State.readHint_hintOnly.mem
    rw [hu, ← hbmem]
    rfl
  have huflight : u.flight id = some f := by
    refine (State.flight_congr ?_ id).trans hflight
    rw [hu, hb]
    exact flights_kept fun h => h.readHint.putBytes.setConn.swSend
  refine Completes.intro (t := s.swathWrite id) rfl ?_
  rw [hrun]
  refine ⟨State.flight_any_setFlight huflight (show f.id = id from State.flight_id hflight) (by simp [Flight.sw]), ?_, ?_, fun c hc => ?_⟩
  · change (u.conn e).slots.length = _
    have huconn : u.conn e = k := by
      rw [hu]
      exact State.conn_setConn_self (by
        change e < b.swath.conns.length
        rw [hswath]
        exact State.lt_of_maySend hmay)
    rw [huconn, hslots, hbconn, List.length_append, List.length_singleton]
  · have hbytes := State.bytes_of_mem_memPutAll (t := u) hok humem
    rw [State.length_bytes] at hbytes
    exact (State.bytes_congr (State.setFlight_mem ..) _ _).trans hbytes
  · change memGet u.mem c = memGet s.mem c
    rw [humem, memGet_memPutAll hok, if_neg (by rw [State.length_bytes]; omega)]

theorem completes_swathWrite_ends (hf : s.flightOf id 7 1 = some f) (hfired : f.fired = true) (hstarted : f.started = true)
    (hall : (swathF f.words).len ≤ f.sw.sent)
    (hslots : (s.conn (swathF f.words).ep).slots.any (fun y => y.data.user == 1 && y.data.msg == f.sw.msg) = false)
    (hqueue : (s.conn (swathF f.words).ep).queue.any (fun y => y.user == 1 && y.msg == f.sw.msg) = false) :
    Completes (.swathWrite id) s (fun t => t.Ended f ∧ t.mem = s.mem) := by
  have hrun : s.swathWrite id = s.complete id 0 := by
    rw [State.swathWrite, hf]
    simp [hfired, hstarted, Nat.not_lt.2 hall, hslots, hqueue]
  refine Completes.intro (t := s.swathWrite id) rfl ?_
  rw [hrun]
  exact ⟨State.complete_ended (State.flight_of_flightOf hf), State.complete_mem ..⟩

theorem completes_swathRead_sends {r : Nat × Nat × Nat} (hf : s.flightOf id 7 2 = some f) (hfired : f.fired = true) (hstarted : f.started = true)
    (hlen : (swathF f.words).len ≠ 0) (hsent : f.sw.sent = 0) (hmay : s.maySend (s.conn (swathF f.words).ep) = true)
    (hpath : s.pickPath (s.conn (swathF f.words).ep) = some r) :
    Completes (.swathRead id) s (fun t => (t.flight id).any (fun g => g.sw.sent == 1) = true ∧ t.mem = s.mem ∧
      (t.conn (swathF f.words).ep).slots.length = (s.conn (swathF f.words).ep).slots.length + 1) := by
  have hflight := State.flight_of_flightOf hf
  obtain ⟨i, l, p⟩ := r
  obtain ⟨k, x, htx, hslots⟩ := State.transmit_some (e := (swathF f.words).ep)
    (d := ⟨1, f.sw.msg, 0, true, [], .readReq (swathF f.words).remote (swathF f.words).len⟩) hmay hpath
  obtain ⟨u, hu⟩ : ∃ u, u = ((s.putBytes (swathBufBase + 4096 * s.freeSlot) []).setConn (swathF f.words).ep k).swSend x := ⟨_, rfl⟩
  have hrun : s.swathRead id = u.setFlight { f with prog := Prog.swath { f.sw with sent := 1 } } := by
    rw [State.swathRead, hf]
    simp only [hfired, hstarted, Bool.not_true, Bool.false_eq_true, if_false, hsent, if_true, hlen]
    rw [htx, hu]
    rfl
  refine Completes.intro (t := s.swathRead id) rfl ?_
  rw [hrun]
  refine ⟨State.flight_any_setFlight (f := f) (by rw [hu]; exact hflight) (show f.id = id from State.flight_id hflight) (by simp [Flight.sw]), ?_, ?_⟩
  · rw [hu]
    rfl
  · have huconn : u.conn (swathF f.words).ep = k := by
      rw [hu]
      exact State.conn_setConn_self (State.lt_of_maySend hmay)
    change (u.conn (swathF f.words).ep).slots.length = _
    rw [huconn, hslots, List.length_append, List.length_singleton]

theorem completes_swathRead_ends (hf : s.flightOf id 7 2 = some f) (hfired : f.fired = true) (hstarted : f.started = true) (hsent : f.sw.sent ≠ 0)
    (hall : (swathF f.words).len ≤ f.sw.got) (hdone : f.sw.data.any (s.conn (swathF f.words).ep).completed = true) :
    Completes (.swathRead id) s (fun t => t.Ended f ∧ t.mem = s.mem) := by
  have hrun : s.swathRead id = s.complete id 0 := by
    rw [State.swathRead, hf]
    simp [hfired, hstarted, hsent, hall, hdone]
  refine Completes.intro (t := s.swathRead id) rfl ?_
  rw [hrun]
  exact ⟨State.complete_ended (State.flight_of_flightOf hf), State.complete_mem ..⟩

/-! ### CANCEL -/

theorem State.flight_endTransfer_ne {g : Flight} {code : Nat} (h : g.id ≠ id) : (s.endTransfer g code).flight id = s.flight id := by
  rw [State.endTransfer, State.flight_complete_ne h]
  exact State.flight_congr (by split <;> rfl) id

theorem State.flight_complete_none {i info : Nat} (h : s.flight id = none) : (s.complete i info).flight id = none := by
  by_cases hi : i = id
  · subst hi
    simp only [State.complete, h]
  · rw [State.flight_complete_ne hi, h]

theorem State.flight_complete_self {info : Nat} : (s.complete id info).flight id = none := by
  cases hf : s.flight id with
  | none => exact State.flight_complete_none hf
  | some f => exact State.flight_filter_self (State.complete_of_flight hf).1

/-- Transfers that end are in flight no more; the rest stand. -/
theorem State.flight_endTransfers {gs : List Flight} {code : Nat} :
    ((gs.foldl (fun t g => t.endTransfer g code) s).flight id = none ∨ id ∉ gs.map Flight.id) ∧
      (s.flight id = none → (gs.foldl (fun t g => t.endTransfer g code) s).flight id = none) ∧
      (id ∉ gs.map Flight.id → (gs.foldl (fun t g => t.endTransfer g code) s).flight id = s.flight id) := by
  induction gs generalizing s with
  | nil => simp
  | cons g gs ih =>
    obtain ⟨hgone, hnone, hstays⟩ := ih (s := s.endTransfer g code)
    have hself : g.id = id → (s.endTransfer g code).flight id = none := by
      rintro rfl
      exact State.flight_complete_self
    have hkeep : s.flight id = none → (s.endTransfer g code).flight id = none := fun h => by
      by_cases hg : g.id = id
      · exact hself hg
      · rw [State.flight_endTransfer_ne hg, h]
    refine ⟨?_, fun h => hnone (hkeep h), fun h => ?_⟩
    · by_cases hg : g.id = id
      · exact .inl (hnone (hself hg))
      · exact hgone.imp_right fun h => by simp [Ne.symm hg, h]
    · simp only [List.map_cons, List.mem_cons, not_or] at h
      exact (hstays h.2).trans (State.flight_endTransfer_ne (Ne.symm h.1))

theorem completes_swathCancel (hf : s.flightOf id 7 3 = some f) (hfired : f.fired = true)
    (hother : ∀ g ∈ s.flights, swathMatches f.words g = true → g.id ≠ id) :
    Completes (.swathCancel id) s (fun t => t.Ended f ∧ t.mem = s.mem ∧ ∀ g ∈ s.flights, swathMatches f.words g = true → t.flight g.id = none) := by
  obtain ⟨u, hu⟩ : ∃ u, u = (s.flights.filter (swathMatches f.words)).foldl (fun t g => t.endTransfer g 0x0528) s := ⟨_, rfl⟩
  have hrun : s.swathCancel id = u.complete id 0 := by
    rw [State.swathCancel, hf, hu]
    simp [hfired]
  have hstays : u.flight id = some f := by
    rw [hu]
    refine (State.flight_endTransfers.2.2 ?_).trans (State.flight_of_flightOf hf)
    simp only [List.mem_map, List.mem_filter, not_exists, not_and, and_imp]
    exact hother
  refine Completes.intro (t := s.swathCancel id) rfl ⟨?_, mem_kept fun h => h.swathCancel, fun g hg hmatch => ?_⟩
  · rw [hrun]
    exact State.complete_ended hstays
  · rw [hrun]
    refine State.flight_complete_none ?_
    rw [hu]
    refine State.flight_endTransfers.1.resolve_right (not_not.2 ?_)
    exact List.mem_map_of_mem (List.mem_filter.2 ⟨hg, hmatch⟩)

/-- Settles O38, clause by clause. -/
theorem swathTransfersRun : Obligations.SwathTransfersRun := by
  unfold Obligations.SwathTransfersRun
  exact ⟨fun _ _ _ hf hfired hlen hnew => completes_swathWrite_starts hf hfired hlen hnew,
    fun _ _ _ _ _ hok hf hfired hstarted hmore hn hsound hmay hpath => completes_swathWrite_sends hok hf hfired hstarted hmore hn hsound hmay hpath,
    fun _ _ _ hf hfired hstarted hall hslots hqueue => completes_swathWrite_ends hf hfired hstarted hall hslots hqueue,
    fun _ _ _ _ hf hfired hstarted hlen hsent hmay hpath => completes_swathRead_sends hf hfired hstarted hlen hsent hmay hpath,
    fun _ _ _ hf hfired hstarted hsent hall hdone => completes_swathRead_ends hf hfired hstarted hsent hall hdone,
    fun _ _ _ hf hfired hother => completes_swathCancel hf hfired hother⟩

end

end Sys2Proof.Machine
end

section
/-!
The Almanac and its discipline (O39).
-/
namespace Sys2Proof.Machine

set_option Elab.async false

variable {G : Prop} {F : Footprint} {s t u : State}

/-! ### O39: the Almanac and its discipline -/

theorem State.almAdvance_alm : ∃ pin, s.almAdvance.alm = { s.alm with
    acc := if s.alm.running then s.alm.acc + BitVec.ofNat 96 s.alm.inc else s.alm.acc, ppsUntil := pin } := by
  unfold State.almAdvance
  cases hrun : s.alm.running with
  | false => exact ⟨s.alm.ppsUntil, rfl⟩
  | true => exact ⟨_, rfl⟩

theorem State.noteIdle_alm : s.noteIdle.alm = s.alm := rfl

theorem completes_almanacTick : Completes .almanacTick s (fun t =>
    t.alm.acc = (if s.alm.running then s.alm.acc + BitVec.ofNat 96 s.alm.inc else s.alm.acc) ∧ t.alm.state = s.alm.state ∧ t.mem = s.mem) := by
  have hwaits : s.refreshWaits.alm = s.alm := part_kept .alm fun h => h.refreshWaits
  have hidle : s.almanacTick.alm = s.refreshWaits.almAdvance.alm := State.noteIdle_alm
  obtain ⟨pin, hpin⟩ := State.almAdvance_alm (s := s.refreshWaits)
  rw [hwaits] at hpin
  refine Completes.intro (t := s.almanacTick) rfl ⟨?_, ?_, mem_kept fun h => h.almanacTick⟩
  · rw [hidle, hpin]
  · rw [hidle, hpin]

section
variable {d : Int}

/-- A measurement noted. -/
def State.measured (s : State) : State := { s with alm := { s.alm with lastMeasure := s.now } }

/-- The Almanac in another state of its discipline. -/
def State.almGoto (s : State) (x : AlmState) : State := { s with alm := { s.alm with state := x, good := 0 } }

theorem State.measure_free (h : s.alm.state = .free) : s.measure d = s.measured.almGoto .acquire := by
  unfold State.measure
  rw [h]
  rfl

theorem State.measure_steps (h : s.alm.state = .acquire) (hfar : almNs (s.rf (almReg 0x120) 63 32) < d.natAbs) (hopen : s.stepBlocked = false) :
    (s.measure d).alm.acc = (s.alm.shift d).acc := by
  unfold State.measure
  simp only [h, hfar, hopen, decide_true, Bool.not_true, Bool.not_false, Bool.false_eq_true, if_false, if_true]
  split <;> split <;> rfl

theorem State.measure_locks (h : s.alm.state = .acquire) (hclose : d.natAbs ≤ almNs (s.rf (almReg 0x120) 31 0))
    (hnear : d.natAbs ≤ almNs (s.rf (almReg 0x120) 63 32)) (hgood : s.alm.good = 15) : (s.measure d).alm.state = .locked := by
  have hfar : ¬ almNs (s.rf (almReg 0x120) 63 32) < d.natAbs := Nat.not_lt.2 hnear
  unfold State.measure
  simp only [h, hfar, hclose, hgood, decide_true, decide_false, Bool.not_false, if_true]
  rfl

theorem State.measure_unlocks (h : s.alm.state = .locked) (hfar : almNs (s.rf (almReg 0x120) 63 32) < d.natAbs) :
    s.measure d = ((s.measured.slew 100).almGoto .acquire).raiseErr .almanac 0 0 0x0531 0 0 0 := by
  unfold State.measure
  simp only [h, hfar, decide_true, if_true]
  rfl

theorem completes_almanacMeasurement (hrun : s.alm.running = true) (hptp : s.rf (almReg 0x108) 1 0 = 1) :
    Completes (.almanacMeasurement d) s (fun t => t.mem = s.mem ∧ t.flights = s.flights ∧
      (s.alm.state = .free → t.alm.state = .acquire ∧ t.alm.acc = s.alm.acc) ∧
      (s.alm.state = .acquire → almNs (s.rf (almReg 0x120) 63 32) < d.natAbs → s.stepBlocked = false → t.alm.acc = (s.alm.shift d).acc) ∧
      (s.alm.state = .acquire → d.natAbs ≤ almNs (s.rf (almReg 0x120) 31 0) → d.natAbs ≤ almNs (s.rf (almReg 0x120) 63 32) → s.alm.good = 15 →
        t.alm.state = .locked) ∧
      (s.alm.state = .locked → almNs (s.rf (almReg 0x120) 63 32) < d.natAbs → t.alm.state = .acquire ∧ t.Raised .almanac 0 0)) := by
  have htaken : s.ptpMeasurement d = s.measure d := if_pos (by simp [hrun, hptp])
  refine Completes.intro (t := s.ptpMeasurement d) rfl ⟨mem_kept fun h => h.ptpMeasurement, flights_kept fun h => h.ptpMeasurement, ?_⟩
  rw [htaken]
  refine ⟨fun h => ?_, State.measure_steps, State.measure_locks, fun h hfar => ?_⟩
  · rw [State.measure_free h]
    exact ⟨rfl, rfl⟩
  · rw [State.measure_unlocks h hfar]
    exact ⟨congrArg Almanac.state (State.raiseErr_alm ..), State.raised_raiseErr⟩

end

theorem completes_ppsInEdge_first (hrun : s.alm.running = true) (hlast : s.alm.lastPps = none) (hpps : s.rf (almReg 0x108) 1 0 = 2)
    (hfree : s.alm.state = .free) :
    Completes .ppsInEdge s (fun t => t.alm.state = .acquire ∧ t.alm.lastPps = some s.now ∧ t.alm.ppsDiscarded = s.alm.ppsDiscarded) := by
  obtain ⟨b, hb⟩ : ∃ b : State, b = { s with alm := { s.alm with lastPps := some s.now } } := ⟨_, rfl⟩
  have hedge : s.ppsEdge = b.measure (nearestSecond s.now) := by
    rw [hb]
    simp [State.ppsEdge, hrun, hlast, hpps]
  refine Completes.intro (t := s.ppsEdge) rfl ?_
  rw [hedge, State.measure_free (by rw [hb]; exact hfree), hb]
  exact ⟨rfl, rfl, rfl⟩

theorem completes_ppsInEdge_soon {u : Nat} (hrun : s.alm.running = true) (hlast : s.alm.lastPps = some u) (hsoon : 2 * (s.now - u) < almSecond) :
    Completes .ppsInEdge s (fun t => t.alm.state = s.alm.state ∧ t.alm.acc = s.alm.acc ∧ t.alm.ppsDiscarded = s.alm.ppsDiscarded + 1) := by
  have hedge : s.ppsEdge = { s with alm := { s.alm with lastPps := some s.now, ppsDiscarded := s.alm.ppsDiscarded + 1 } } := by
    simp [State.ppsEdge, hrun, hlast, hsoon]
  refine Completes.intro (t := s.ppsEdge) rfl ?_
  rw [hedge]
  exact ⟨rfl, rfl, rfl⟩

theorem almReg_mod {off : Nat} : almReg off % 0x1000 = off % 0x1000 := regAddr_mod ..

theorem completes_almanacHoldover (hrun : s.alm.running = true) (hlocked : s.alm.state = .locked)
    (hlong : 8 * s.syncInterval ≤ s.now - s.alm.lastMeasure) :
    Completes .almanacHoldover s (fun t => t.alm.state = .holdover ∧ t.alm.acc = s.alm.acc ∧ t.Raised .almanac 0 0 ∧
      s.Counted t (almReg 0x188) 1) := by
  obtain ⟨b, hb⟩ : ∃ b : State, b = { s with alm := { (s.alm.setInc s.now (s.alm.meanInc s.now)) with state := .holdover, good := 0 } } := ⟨_, rfl⟩
  have hheld : s.enterHoldover = (b.bump (almReg 0x188)).raiseErr .almanac 0 0 0x0530 0 0 0 := by
    rw [hb]
    exact if_pos (by simp [hrun, hlocked, hlong])
  have halm : ((b.bump (almReg 0x188)).raiseErr .almanac 0 0 0x0530 0 0 0).alm = b.alm := State.raiseErr_alm ..
  have hcount : b.Counted (b.bump (almReg 0x188)) (almReg 0x188) 1 := State.counted_bumpBy
  refine Completes.intro (t := s.enterHoldover) rfl ?_
  rw [hheld, halm]
  refine ⟨by rw [hb], by rw [hb]; rfl, State.raised_raiseErr, ?_⟩
  exact (KeepsRegs.raiseErr (os := errorOffsets) (.refl _ _)).counted (hcount.of_reg (by rw [hb]; rfl)) (by rw [almReg_mod]; decide)

/-- Settles O39, clause by clause. -/
theorem almanacKeepsTime : Obligations.AlmanacKeepsTime := by
  unfold Obligations.AlmanacKeepsTime
  exact ⟨fun _ => completes_almanacTick,
    fun _ _ hrun hptp => completes_almanacMeasurement hrun hptp,
    fun _ hrun hlast hpps hfree => completes_ppsInEdge_first hrun hlast hpps hfree,
    fun _ _ hrun hlast hsoon => completes_ppsInEdge_soon hrun hlast hsoon,
    fun _ hrun hlocked hlong => completes_almanacHoldover hrun hlocked hlong⟩

end Sys2Proof.Machine
end

section
/-!
Launch gates, waits, flags, the ledger and rebasing (O40).
-/
namespace Sys2Proof.Machine

set_option Elab.async false

variable {G : Prop} {F : Footprint} {s t u : State}

/-! ### O40: launch gates (R449 to R451) -/

section
variable {id : Nat} {f : Flight}

/-- A descriptor whose gate has fired. -/
def State.firedNow (s : State) (f : Flight) : Flight :=
  { f with
    fired := true
    firedAt := s.now
    late := hLaunch f.hdr != 0 && decide (almNs (s.rf (almReg 0x128) 31 0) < s.now - hLaunch f.hdr) }

theorem State.fireGate_eq (hf : s.flight id = some f) (hheld : f.fired = false) (hrunning : f.ending = none) (hhead : s.gateHead f = true)
    (htime : hLaunch f.hdr ≤ s.now) (hwait : f.wait = none ∨ f.waitMet = true)
    (hopen : hLaunch f.hdr ≠ 0 → (gatePages f).all (fun p => s.gateOn p.1 p.2) = true) (hwarm : s.steward.warm = false) :
    ∃ fu, s.fireGate id = if (s.firedNow f).late then
      (({ s.setFlight (s.firedNow f) with furlong := fu } : State).bump (almReg 0x170)).raiseErr .almanac 0 1 0x0533 f.work 0 0
      else { s.setFlight (s.firedNow f) with furlong := fu } := by
  have hgo : ¬ ((f.fired || f.ending.isSome || !s.gateHead f || (hLaunch f.hdr != 0 && decide (s.now < hLaunch f.hdr)) ||
      !(f.wait.isNone || f.waitMet) || !(hLaunch f.hdr == 0 || (gatePages f).all (fun p => s.gateOn p.1 p.2)) || s.steward.warm) = true) := by
    have hwaited : (f.wait.isNone || f.waitMet) = true := by
      rcases hwait with h | h <;> simp [h]
    have hgate : (hLaunch f.hdr == 0 || (gatePages f).all (fun p => s.gateOn p.1 p.2)) = true := by
      by_cases h : hLaunch f.hdr = 0
      · rw [h]
        rfl
      · rw [hopen h, Bool.or_true]
    rw [hheld, hrunning, hhead, hwaited, hgate, hwarm]
    simp [htime]
  unfold State.fireGate
  rw [hf]
  dsimp only
  rw [if_neg hgo]
  unfold State.firedNow
  cases f.origin with
  | window w => exact ⟨s.furlong, rfl⟩
  | furlong w phase template pre => exact ⟨_, rfl⟩

theorem completes_launchGateFire (hf : s.flight id = some f) (hheld : f.fired = false) (hrunning : f.ending = none) (hhead : s.gateHead f = true)
    (htime : hLaunch f.hdr ≤ s.now) (hwait : f.wait = none ∨ f.waitMet = true)
    (hopen : hLaunch f.hdr ≠ 0 → (gatePages f).all (fun p => s.gateOn p.1 p.2) = true) (hwarm : s.steward.warm = false) :
    Completes (.launchGateFire id) s (fun t => (t.flight id).any (fun g => g.fired && g.firedAt == s.now) = true ∧ t.mem = s.mem ∧
      (hLaunch f.hdr ≠ 0 → almNs (s.rf (almReg 0x128) 31 0) < s.now - hLaunch f.hdr → s.Counted t (almReg 0x170) 1 ∧ t.Raised .almanac 0 1)) := by
  obtain ⟨fu, hrun⟩ := State.fireGate_eq hf hheld hrunning hhead htime hwait hopen hwarm
  obtain ⟨b, hb⟩ : ∃ b : State, b = { s.setFlight (s.firedNow f) with furlong := fu } := ⟨_, rfl⟩
  rw [← hb] at hrun
  have hflights : (s.fireGate id).flights = (s.setFlight (s.firedNow f)).flights := by
    rw [hrun, hb]
    split
    · exact State.raiseErr_flights ..
    · rfl
  refine Completes.intro (t := s.fireGate id) rfl ⟨?_, mem_kept fun h => h.fireGate, fun hlaunch hlate => ?_⟩
  · rw [State.flight_congr hflights]
    exact State.flight_any_setFlight hf (show f.id = id from State.flight_id hf) (by simp [State.firedNow])
  · have hislate : (s.firedNow f).late = true := by simp [State.firedNow, hlaunch, hlate]
    have hcount : b.Counted (b.bump (almReg 0x170)) (almReg 0x170) 1 := State.counted_bumpBy
    rw [hrun, if_pos hislate]
    exact ⟨(KeepsRegs.raiseErr (os := errorOffsets) (.refl _ _)).counted (hcount.of_reg (by rw [hb]; rfl)) (by rw [almReg_mod]; decide),
      State.raised_raiseErr⟩

end

/-! ### Flags (R452, R454) -/

section
variable {d e n m : Nat}

theorem mem_setInsert {l : List Nat} {a b : Nat} : b ∈ setInsert l a ↔ b = a ∨ b ∈ l := by
  induction l with
  | nil => simp [setInsert]
  | cons c l ih =>
    unfold setInsert
    split
    · simp
    · split
      next heq => simp [heq]
      next => simp [ih, or_left_comm]

theorem mem_setErase {l : List Nat} {a b : Nat} : b ∈ setErase l a ↔ b ∈ l ∧ b ≠ a := by
  simp [setErase]

theorem flagKey_inj (hn : n < 1024) (hm : m < 1024) (h : flagKey e m = flagKey d n) : (e, m) = (d, n) := by
  unfold flagKey at h
  have he : e = d := by omega
  have hmn : m = n := by omega
  rw [he, hmn]

theorem flagKey_ne (h : m ≠ n) : flagKey d m ≠ flagKey d n := by
  unfold flagKey
  omega

theorem State.flag_iff : s.flag d n = true ↔ flagKey d n ∈ s.flags := by
  rw [State.flag, List.contains_iff_mem]

theorem State.flag_setFlag : (s.setFlag d n).flag e m = true ↔ flagKey e m = flagKey d n ∨ s.flag e m = true := by
  rw [State.flag_iff, State.flag_iff]
  exact mem_setInsert

theorem State.flag_congr (h : t.flags = s.flags) : t.flag d n = s.flag d n := by rw [State.flag, State.flag, h]

theorem State.flagNow_congr (halm : t.alm.running = s.alm.running) (hnow : t.flagsNow = s.flagsNow) : t.flagNow d n = s.flagNow d n := by
  rw [State.flagNow, State.flagNow, halm, hnow]

/-- A flag that was set in this FC cycle stays set through a clear, and its waits find it 0; another is 0. -/
theorem State.clearFlag_cases :
    (s.flagNow d n).isSome = true ∧ (s.clearFlag d n).flags = s.flags ∧ (s.clearFlag d n).flagNow d n = some false ∨
    s.flagNow d n = none ∧ (s.clearFlag d n).flags = setErase s.flags (flagKey d n) ∧ (s.clearFlag d n).flagsNow = s.flagsNow := by
  unfold State.clearFlag
  split
  next h =>
    refine .inl ⟨h, rfl, ?_⟩
    have hrun : s.alm.running = true := by
      by_contra hstill
      simp [State.flagNow, hstill] at h
    simp [State.flagNow, hrun]
  next h => exact .inr ⟨by simpa using h, rfl, rfl⟩

theorem State.flag_clearFlag_of_ne (h : flagKey e m ≠ flagKey d n) : (s.clearFlag d n).flag e m = s.flag e m := by
  rcases State.clearFlag_cases (s := s) (d := d) (n := n) with ⟨-, hflags, -⟩ | ⟨-, hflags, -⟩
  · exact State.flag_congr hflags
  · rw [Bool.eq_iff_iff, State.flag_iff, State.flag_iff, hflags, mem_setErase]
    exact and_iff_left h

theorem State.flagNow_clearFlag_of_ne (h : m ≠ n) : (s.clearFlag d n).flagNow d m = s.flagNow d m := by
  unfold State.clearFlag
  split
  next =>
    have hkey : flagKey d n ≠ flagKey d m := flagKey_ne h.symm
    have hother : (fun x : Nat × Bool => decide ((x.1 != flagKey d n) = true ∧ (x.1 == flagKey d m) = true)) = fun x => x.1 == flagKey d m := by
      funext x
      by_cases hx : x.1 = flagKey d m
      · simp [hx, hkey.symm]
      · simp [hx]
    simp only [State.flagNow]
    rw [List.find?_cons_of_neg (by simpa using hkey), List.find?_filter, hother]
  next => rfl

theorem State.flag_clearFlag_self : (s.clearFlag d n).flag d n = ((s.flagNow d n).isSome && s.flag d n) := by
  rcases State.clearFlag_cases (s := s) (d := d) (n := n) with ⟨hnow, hflags, -⟩ | ⟨hnow, hflags, -⟩
  · rw [State.flag_congr hflags, hnow, Bool.true_and]
  · rw [hnow, Option.isSome_none, Bool.false_and, Bool.eq_false_iff, ne_eq, State.flag_iff, hflags, mem_setErase]
    exact fun h => h.2 rfl

theorem State.flagSeen_clearFlag_self : (s.clearFlag d n).flagSeen d n = false := by
  rcases State.clearFlag_cases (s := s) (d := d) (n := n) with ⟨-, -, hseen⟩ | ⟨hnow, -, -⟩
  · simp [State.flagSeen, hseen]
  · simp [State.flagSeen, State.flag_clearFlag_self, hnow]

/-- What a flag that has been cleared reads: 0 to the waits of this cycle, and 0 for good if it was not set in it. -/
def State.Cleared (s t : State) (d n : Nat) : Prop := t.flagSeen d n = false ∧ (s.flagNow d n = none → t.flag d n = false)

/-- A flag cleared stays so when flags of its domain are cleared. -/
theorem State.Cleared.clearFlag (h : s.Cleared t d n) : s.Cleared (t.clearFlag d m) d n := by
  by_cases hm : n = m
  · subst hm
    refine ⟨State.flagSeen_clearFlag_self, fun hnone => ?_⟩
    rw [State.flag_clearFlag_self, h.2 hnone, Bool.and_false]
  · obtain ⟨hseen, hflag⟩ := h
    refine ⟨?_, fun hnone => (State.flag_clearFlag_of_ne (flagKey_ne hm)).trans (hflag hnone)⟩
    rw [State.flagSeen, State.flag_clearFlag_of_ne (flagKey_ne hm), State.flagNow_clearFlag_of_ne hm]
    exact hseen

theorem State.Cleared.of_flagNow (h : t.flagNow d n = s.flagNow d n) : s.Cleared (t.clearFlag d n) d n := by
  refine ⟨State.flagSeen_clearFlag_self, fun hnone => ?_⟩
  rw [State.flag_clearFlag_self, h, hnone]
  rfl

/-- Of several flags cleared, each is. -/
theorem State.cleared_clearFlags {ns : List Nat} (h : s.Cleared t d n ∨ n ∈ ns ∧ t.flagNow d n = s.flagNow d n) :
    s.Cleared (ns.foldl (fun u m => u.clearFlag d m) t) d n := by
  induction ns generalizing t with
  | nil => exact h.resolve_right fun h => List.not_mem_nil h.1
  | cons a ns ih =>
    refine ih ?_
    rcases h with hclear | ⟨hmem, hnow⟩
    · exact .inl hclear.clearFlag
    · by_cases ha : n = a
      · subst ha
        exact .inl (.of_flagNow hnow)
      · exact .inr ⟨(List.mem_cons.1 hmem).resolve_left ha, (State.flagNow_clearFlag_of_ne ha).trans hnow⟩

end

/-! ### O40: waits, flags, the ledger and rebasing -/

section
variable {d : Fin 9} {f : Flight} {w : WaitCopy} {via : Via}

theorem State.clearFlags_keeps {ns : List Nat} {e : Nat} : ∃ flags flagsNow,
    ns.foldl (fun u m => u.clearFlag e m) s = { s with flags := flags, flagsNow := flagsNow } := by
  induction ns generalizing s with
  | nil => exact ⟨_, _, rfl⟩
  | cons a ns ih =>
    obtain ⟨flags, flagsNow, heq⟩ := ih (s := s.clearFlag e a)
    refine ⟨flags, flagsNow, heq.trans ?_⟩
    unfold State.clearFlag
    split <;> rfl

theorem State.examineWaits_one (hwarm : s.steward.warm = false)
    (hone : s.flights.filter (fun f => match f.wait with | some w => w.domain == d.val && !f.waitMet | none => false) = [f])
    (hf : s.flight f.id = some f) (hw : f.wait = some w) (hmet : s.waitHolds w = true) :
    s.examineWaits d.val = if w.consume then w.flags.foldl (fun t n => t.clearFlag w.domain n) (s.setFlight { f with waitMet := true })
      else s.setFlight { f with waitMet := true } := by
  have hheld : f.waitMet = false := by
    have hmem : f ∈ s.flights.filter (fun f => match f.wait with | some w => w.domain == d.val && !f.waitMet | none => false) := by
      rw [hone]
      exact List.mem_singleton_self f
    have hcond := (List.mem_filter.1 hmem).2
    simp only [hw, Bool.and_eq_true, Bool.not_eq_true'] at hcond
    exact hcond.2
  unfold State.examineWaits
  rw [hwarm, if_neg Bool.false_ne_true]
  refine Eq.trans (b := s.examineWait f.id) ?_ ?_
  · exact congrArg (fun l : List Flight => (l.map (fun g => g.id)).foldl (fun t id => t.examineWait id) s) hone
  · unfold State.examineWait
    rw [hf]
    dsimp only
    rw [hw]
    dsimp only
    rw [if_neg (by simp [hheld, hmet])]

theorem completes_waitMet (hwarm : s.steward.warm = false)
    (hone : s.flights.filter (fun f => match f.wait with | some w => w.domain == d.val && !f.waitMet | none => false) = [f])
    (hf : s.flight f.id = some f) (hw : f.wait = some w) (hmet : s.waitHolds w = true) :
    Completes (.waitMet d) s (fun t => (t.flight f.id).any (fun g => g.waitMet) = true ∧ t.mem = s.mem ∧ t.regs = s.regs ∧
      (w.consume = true → ∀ n ∈ w.flags, t.flagSeen w.domain n = false ∧ (s.flagNow w.domain n = none → t.flag w.domain n = false)) ∧
      (w.consume = false → t.flags = s.flags)) := by
  have hrun := State.examineWaits_one hwarm hone hf hw hmet
  refine Completes.intro (t := s.examineWaits d.val) rfl ⟨?_, mem_kept fun h => h.examineWaits, regs_kept fun h => h.examineWaits, fun hc n hn => ?_, fun hc => ?_⟩
  · have hflights : (s.examineWaits d.val).flights = (s.setFlight { f with waitMet := true }).flights := by
      rw [hrun]
      split
      · obtain ⟨flags, flagsNow, heq⟩ := State.clearFlags_keeps (s := s.setFlight { f with waitMet := true }) (ns := w.flags) (e := w.domain)
        rw [heq]
      · rfl
    rw [State.flight_congr hflights]
    exact State.flight_any_setFlight hf rfl rfl
  · rw [hrun, if_pos hc]
    exact State.cleared_clearFlags (.inr ⟨hn, rfl⟩)
  · rw [hrun, if_neg (by simp [hc])]
    rfl

theorem Via.answer_kept (via : Via) {a v : Nat} (p : Part) (hp : Part.hitch ≠ p ∧ Part.steward ≠ p ∧ Part.freeCtr ≠ p := by decide) :
    p.Same s (via.answer a v s) := by
  refine ((Touches.refl False.elim : Touches False ⟨[.hitch, .steward, .freeCtr], []⟩ s s).answer (via := via) (a := a) (v := v)).parts p ?_
  obtain ⟨h1, h2, h3⟩ := hp
  simp [h1.symm, h2.symm, h3.symm]

theorem State.writeEffect_flagControl {src : Source} {v : Nat} : s.writeEffect src .almanac 0 0x168 v = s.flagControl v := rfl

theorem bitsOf_flagControl {n e c : Nat} (hn : n < 1024) (he : e < 16) :
    bitsOf (n + 1024 * e + 0x4000 * c) 9 0 = n ∧ bitsOf (n + 1024 * e + 0x4000 * c) 13 10 = e ∧ bitOf (n + 1024 * e + 0x4000 * c) 14 = decide (c % 2 = 1) := by
  refine ⟨?_, ?_, ?_⟩
  · simp only [bitsOf, Nat.shiftRight_zero]
    omega
  · simp only [bitsOf, Nat.shiftRight_eq_div_pow]
    omega
  · simp only [bitOf, Nat.shiftRight_eq_div_pow]
    have hdiv : (n + 1024 * e + 0x4000 * c) / 2 ^ 14 = c := by omega
    rw [hdiv]
    rcases Nat.mod_two_eq_zero_or_one c with h | h <;> simp [h]

/-- A write of FLAG_CONTROL that lands: its port reaches a state whose flags are those of the state, and the flag is set or cleared there. -/
theorem State.writeBy_flagControl {v : Nat} (hlands : Lands via s (almReg 0x168) v) (hv : v < 2 ^ 64) :
    ∃ u : State, u.flags = s.flags ∧ (∀ e n, u.flagNow e n = s.flagNow e n) ∧
      (s.writeBy via (almReg 0x168) v).flags = (u.flagControl v).flags ∧ (s.writeBy via (almReg 0x168) v).flagsNow = (u.flagControl v).flagsNow ∧
      (s.writeBy via (almReg 0x168) v).alm = (u.flagControl v).alm := by
  obtain ⟨u, hreached, heq⟩ := State.writeBy_accepted (k := .almanac) (i := 0) (off := 0x168) hlands hv (by decide) (by decide) (by decide)
  rw [State.writeEffect_flagControl] at heq
  have halm : u.alm = s.alm := hreached.touches.parts .alm rfl
  refine ⟨u, hreached.touches.parts .flags rfl, fun e n => State.flagNow_congr (congrArg Almanac.running halm) (hreached.touches.parts .flagsNow rfl), ?_, ?_, ?_⟩
  · exact (congrArg State.flags heq).trans (Via.answer_kept via .flags)
  · exact (congrArg State.flagsNow heq).trans (Via.answer_kept via .flagsNow)
  · exact (congrArg State.alm heq).trans (Via.answer_kept via .alm)

theorem completes_flagSet {n : Fin 1024} (hlands : Lands via s (almReg 0x168) (n.val + 1024 * d.val)) :
    Completes (.flagSet via d n) s (fun t => t.flag d.val n.val = true ∧
      ∀ (e m : Nat), m < 1024 → (e, m) ≠ (d.val, n.val) → t.flag e m = s.flag e m) := by
  obtain ⟨u, hflags, -, heq, -, -⟩ := State.writeBy_flagControl hlands (by omega)
  obtain ⟨h9, h13, h14⟩ := bitsOf_flagControl (c := 0) n.isLt (show d.val < 16 by omega)
  simp only [Nat.mul_zero, Nat.add_zero] at h9 h13 h14
  have hset : u.flagControl (n.val + 1024 * d.val) = u.setFlag d.val n.val := by
    rw [State.flagControl, h9, h13, h14]
    rfl
  rw [hset] at heq
  refine Completes.intro (t := s.writeBy via (almReg 0x168) (n.val + 1024 * d.val)) rfl ⟨?_, fun e m hm hne => ?_⟩
  · rw [State.flag_congr heq, State.flag_setFlag]
    exact .inl rfl
  · rw [State.flag_congr heq, Bool.eq_iff_iff, State.flag_setFlag, State.flag_congr hflags]
    exact or_iff_right fun hkey => hne (flagKey_inj n.isLt hm hkey)

theorem completes_flagClear {n : Fin 1024} (hlands : Lands via s (almReg 0x168) (n.val + 1024 * d.val + 0x4000)) :
    Completes (.flagClear via d n) s (fun t => t.flagSeen d.val n.val = false ∧
      t.flag d.val n.val = ((s.flagNow d.val n.val).isSome && s.flag d.val n.val) ∧
      ∀ (e m : Nat), m < 1024 → (e, m) ≠ (d.val, n.val) → t.flag e m = s.flag e m) := by
  obtain ⟨u, hflags, hnow, heq, hnoweq, halm⟩ := State.writeBy_flagControl hlands (by omega)
  obtain ⟨h9, h13, h14⟩ := bitsOf_flagControl (c := 1) n.isLt (show d.val < 16 by omega)
  simp only [Nat.mul_one] at h9 h13 h14
  have hclear : u.flagControl (n.val + 1024 * d.val + 0x4000) = u.clearFlag d.val n.val := by
    rw [State.flagControl, h9, h13, h14]
    rfl
  rw [hclear] at heq hnoweq halm
  refine Completes.intro (t := s.writeBy via (almReg 0x168) (n.val + 1024 * d.val + 0x4000)) rfl ⟨?_, ?_, fun e m hm hne => ?_⟩
  · rw [State.flagSeen, State.flag_congr heq, State.flagNow_congr (congrArg Almanac.running halm) hnoweq]
    exact State.flagSeen_clearFlag_self
  · rw [State.flag_congr heq, State.flag_clearFlag_self, hnow, State.flag_congr hflags]
  · rw [State.flag_congr heq, State.flag_clearFlag_of_ne fun hkey => hne (flagKey_inj n.isLt hm hkey), State.flag_congr hflags]

theorem completes_ledgerRecordsWrite {v : Word} (hlands : Lands via s (almReg 0x150) v.toNat) :
    Completes (.ledgerRecordsWrite via v) s (fun t => t.reg (almReg 0x150) = bitsOf v.toNat 31 0 ∧ t.ledgerHeld = 0 ∧ t.mem = s.mem) := by
  obtain ⟨u, -, heq⟩ := State.writeBy_accepted (k := .almanac) (i := 0) (off := 0x150) hlands v.isLt (by decide) (by decide) (by decide)
  have heffect : u.writeEffect via.source .almanac 0 0x150 v.toNat = { u.setReg (almReg 0x150) (bitsOf v.toNat 31 0) with ledgerHeld := 0 } := rfl
  rw [heffect] at heq
  have hregs := (congrArg State.regs heq).trans (Via.answer_regs via)
  refine Completes.intro (t := s.writeBy via (almReg 0x150) v.toNat) rfl ⟨?_, ?_, mem_kept fun h => h.writeLedger v.isLt⟩
  · exact (State.reg_congr hregs _).trans (State.reg_setReg_self ..)
  · exact (congrArg State.ledgerHeld heq).trans (Via.answer_kept via .ledgerHeld)

theorem completes_rebaseSubmit {v : Word} (hlands : Lands via s (almReg 0x160) v.toNat) :
    Completes (.rebaseSubmit via v) s (fun t => t.alm.rebase = (if v.toNat = 0 then none else some (v.toNat, s.alm.rebaseSec))) := by
  obtain ⟨u, hreached, heq⟩ := State.writeBy_accepted (k := .almanac) (i := 0) (off := 0x160) hlands v.isLt (by decide) (by decide) (by decide)
  have heffect : u.writeEffect via.source .almanac 0 0x160 v.toNat = u.submitRebase v.toNat := rfl
  have halm : u.alm = s.alm := hreached.touches.parts .alm rfl
  rw [heffect] at heq
  refine Completes.intro (t := s.writeBy via (almReg 0x160) v.toNat) rfl ?_
  have hres : (s.writeBy via (almReg 0x160) v.toNat).alm = (u.submitRebase v.toNat).alm := (congrArg State.alm heq).trans (Via.answer_kept via .alm)
  rw [hres, State.submitRebase, halm]

/-- What holds a rebase up. -/
def State.rebaseHeld (s : State) : Bool :=
  s.flights.any (fun f => !f.fired && hLaunch f.hdr != 0) || s.windows.any (fun w => w.parsed.any (fun d => hLaunch (dword d.2 0) != 0)) || s.collectiveHolds

theorem State.rebase_eq {u n : Nat} (hreb : s.alm.rebase = some (u, n)) (hrun : s.alm.running = true) (hdue : u ≤ s.now) :
    s.rebase = if s.rebaseHeld then ({ s with alm := { s.alm with rebase := none } } : State).raiseErr .almanac 0 3 0x0534 0 0 0
      else ({ s with alm := ({ s.alm with rebase := none } : Almanac).shift (-((n * almSecond : Nat) : Int)) } : State).setReg (almReg 0x118)
        ((s.rf (almReg 0x118) 47 0 + n) % 2 ^ 48) := by
  unfold State.rebase
  rw [hreb]
  dsimp only
  rw [hrun, if_neg (by simpa using hdue)]
  rfl

theorem completes_rebase {u n : Nat} (hreb : s.alm.rebase = some (u, n)) (hrun : s.alm.running = true) (hdue : u ≤ s.now)
    (hopen : s.rebaseHeld = false) :
    Completes .rebase s (fun t => t.alm.rebase = none ∧ t.rf (almReg 0x118) 47 0 = (s.rf (almReg 0x118) 47 0 + n) % 2 ^ 48 ∧
      t.alm.acc = (s.alm.shift (-((n * almSecond : Nat) : Int))).acc ∧ t.flights = s.flights ∧ t.mem = s.mem) := by
  refine Completes.intro (t := s.rebase) rfl ?_
  rw [State.rebase_eq hreb hrun hdue, hopen, if_neg Bool.false_ne_true]
  refine ⟨rfl, ?_, rfl, rfl, rfl⟩
  rw [State.rf, State.reg_setReg_self]
  simp [bitsOf]

theorem completes_rebase_held {u n : Nat} (hreb : s.alm.rebase = some (u, n)) (hrun : s.alm.running = true) (hdue : u ≤ s.now)
    (hheld : s.rebaseHeld = true) :
    Completes .rebase s (fun t => t.alm.rebase = none ∧ t.alm.acc = s.alm.acc ∧ t.Raised .almanac 0 3 ∧ t.flights = s.flights) := by
  refine Completes.intro (t := s.rebase) rfl ?_
  rw [State.rebase_eq hreb hrun hdue, hheld, if_pos rfl, State.raiseErr_alm, State.raiseErr_flights]
  exact ⟨rfl, rfl, State.raised_raiseErr, rfl⟩

/-- Settles O40, clause by clause. -/
theorem gatesWaitsAndFlags : Obligations.GatesWaitsAndFlags := by
  unfold Obligations.GatesWaitsAndFlags
  refine ⟨fun _ _ _ hf hheld hrunning hhead htime hwait hopen hwarm => completes_launchGateFire hf hheld hrunning hhead htime hwait hopen hwarm,
    fun _ _ _ _ hwarm hone hf hw hmet => completes_waitMet hwarm hone hf hw hmet,
    fun _ _ _ _ hlands => completes_flagSet hlands,
    fun _ _ _ _ hlands => completes_flagClear hlands,
    fun _ _ _ hlands => completes_ledgerRecordsWrite hlands,
    fun _ _ _ hlands => completes_rebaseSubmit hlands,
    fun _ _ _ hreb hrun hdue hflights hwindows hcoll => completes_rebase hreb hrun hdue ?_,
    fun _ _ _ hreb hrun hdue hheld => completes_rebase_held hreb hrun hdue ?_⟩
  · rw [State.rebaseHeld, hflights, hwindows, hcoll]
    rfl
  · simpa [State.rebaseHeld, or_assoc] using hheld

end

end Sys2Proof.Machine
end

section
/-!
Furlongs (O41).
-/
namespace Sys2Proof.Machine

set_option Elab.async false

variable {G : Prop} {F : Footprint} {s t u : State}

/-! ### Bytes and fields -/

/-- A word with a field set: what lies above the field, the field, and what lies below it. -/
theorem setBits_digits {hi lo B L : Nat} (w v : Nat) (hB : B = 2 ^ (hi + 1 - lo)) (hL : L = 2 ^ lo) :
    setBits w hi lo v = (B * (w / L / B) + v % B) * L + w % L := by
  have hq : w / L = B * (w / L / B) + w / L % B := (Nat.div_add_mod _ _).symm
  have hw : w = (B * (w / L / B)) * L + (w / L % B) * L + w % L := by
    rw [← Nat.add_mul, ← hq, Nat.mul_comm]
    exact (Nat.div_add_mod w L).symm
  simp only [setBits, bitsOf, Nat.shiftLeft_eq, Nat.shiftRight_eq_div_pow, ← hB, ← hL]
  rw [Nat.add_mul]
  omega

theorem bitsOf_setBits_self {hi lo : Nat} (w v : Nat) : bitsOf (setBits w hi lo v) hi lo = v % 2 ^ (hi + 1 - lo) := by
  have hpos : 0 < 2 ^ lo := Nat.two_pow_pos lo
  rw [setBits_digits w v rfl rfl, bitsOf, Nat.shiftRight_eq_div_pow, Nat.add_comm _ (w % _), Nat.add_mul_div_right _ _ hpos,
    Nat.div_eq_of_lt (Nat.mod_lt _ hpos), Nat.zero_add, Nat.mul_add_mod, Nat.mod_mod]

theorem State.rf_setRf_self {a hi lo v : Nat} : (s.setRf a hi lo v).rf a hi lo = v % 2 ^ (hi + 1 - lo) := by
  rw [State.rf, State.setRf, State.reg_setReg_self, bitsOf_setBits_self]

/-- The bytes in the middle of what has been written are read back. -/
theorem State.bytes_of_memPutAll_mid {a : Nat} {xs ys zs : List Byte} (hok : s.MemOk) (hmem : t.mem = memPutAll s.mem a (xs ++ (ys ++ zs))) :
    t.bytes (a + xs.length) ys.length = ys := by
  refine State.bytes_eq_of_byte fun i hi => ?_
  have hin : a ≤ a + xs.length + i ∧ a + xs.length + i < a + (xs ++ (ys ++ zs)).length := by
    simp only [List.length_append]
    omega
  rw [State.byte, hmem, memGet_memPutAll hok, if_pos hin]
  have hoff : a + xs.length + i - a = xs.length + i := by omega
  rw [hoff, List.getD_append_right _ _ _ _ (by omega), Nat.add_sub_cancel_left, List.getD_append _ _ _ _ hi]


/-! ### O41: a furlong starts and stops (R460, R463) -/

section
variable {id : Nat} {f : Flight} {fu : Furlong}

theorem completes_furlongRun (hf : s.flightOf id 8 1 = some f) (hfired : f.fired = true) (hnew : f.started = false) (hidle : s.furlong = none)
    (hsteps : (runF f.words).steps ≠ 0) (hsound : s.rangesPoisoned (s.imageReads (runF f.words).image true none) = false) :
    Completes (.furlongRun id) s (fun t => t.furlong.any (fun g => g.runId == id && g.first == (runF f.words).first && g.steps == (runF f.words).steps &&
      g.nextStep == (runF f.words).first && g.image == (runF f.words).image && g.running.isEmpty && !g.stopping) = true ∧ t.mem = s.mem) := by
  have hrun : s.runFurlong id = { (s.setFlight { f with started := true }) with
      furlong := some ⟨id, f.window, (runF f.words).image, (runF f.words).t0, (runF f.words).paced, (runF f.words).first, (runF f.words).steps,
        (runF f.words).first, none, [], [], s.verdicts.length, false, 0, 0⟩ } := by
    rw [State.runFurlong, hf]
    simp [hfired, hnew, hidle, hsteps, hsound]
  refine Completes.intro (t := s.runFurlong id) rfl ?_
  rw [hrun]
  exact ⟨by simp, rfl⟩

/-- A run that ends as it starts. -/
theorem completes_furlongRun_ends (hf : s.flightOf id 8 1 = some f) (hfired : f.fired = true) (hnew : f.started = false) (hidle : s.furlong = none)
    (hend : (runF f.words).steps = 0 ∨ (runF f.words).steps ≠ 0 ∧ s.rangesPoisoned (s.imageReads (runF f.words).image true none) = true) :
    Completes (.furlongRun id) s (fun t => t.Ended f ∧ t.mem = s.mem) := by
  have hrun : ∃ code, s.runFurlong id = s.complete id code := by
    rw [State.runFurlong, hf]
    rcases hend with hsteps | ⟨hsteps, hpoison⟩
    · exact ⟨0, by simp [hfired, hnew, hidle, hsteps]⟩
    · exact ⟨poisonCode (runF f.words).image, by simp [hfired, hnew, hidle, hsteps, hpoison]⟩
  obtain ⟨code, hrun⟩ := hrun
  refine Completes.intro (t := s.runFurlong id) rfl ?_
  rw [hrun]
  exact ⟨State.complete_ended (State.flight_of_flightOf hf), State.complete_mem ..⟩

/-- A completion changes what a furlong counts, not which step it expands or whether it stops. -/
theorem State.complete_furlong {info : Nat} (h : s.furlong = some fu) :
    ∃ fu', (s.complete id info).furlong = some fu' ∧ fu'.current = fu.current ∧ fu'.stopping = fu.stopping := by
  unfold State.complete
  split
  · exact ⟨fu, h, rfl, rfl⟩
  · extract_lets s1 sg s2 s3 s4
    have h2 : s2.furlong = some fu := by
      unfold s2
      split <;> exact h
    have h4 : s4.furlong = some fu := by
      unfold s4
      split
      · exact (State.raise_furlong ..).trans h2
      · exact h2
    split
    next heq =>
      cases h4.symm.trans heq
      exact ⟨_, rfl, rfl, rfl⟩
    next => exact ⟨fu, h4, rfl, rfl⟩

theorem completes_furlongStop (hf : s.flightOf id 8 2 = some f) (hfired : f.fired = true) (hfu : s.furlong = some fu) (hcur : fu.current.isSome = true) :
    Completes (.furlongStop id) s (fun t => t.Ended f ∧ t.furlong.any (fun g => g.stopping) = true ∧ t.mem = s.mem) := by
  obtain ⟨fs, hfs, hscur, hstop⟩ : ∃ fs, fs = (if fu.stopping then fu else { fu with stopping := true, stopCode := 0, stopTemplate := 0 }) ∧
      fs.current = fu.current ∧ fs.stopping = true := by
    refine ⟨_, rfl, ?_⟩
    split
    next h => exact ⟨rfl, h⟩
    next => exact ⟨rfl, rfl⟩
  obtain ⟨b, hb⟩ : ∃ b : State, b = { s with furlong := some fs } := ⟨_, rfl⟩
  have hstopped : s.stopFurlong id = (b.complete id 0).furlongCheck := by
    rw [State.stopFurlong, hf, hb, hfs]
    simp [hfired, hfu]
  obtain ⟨fe, hfe, hecur, hestop⟩ := State.complete_furlong (s := b) (id := id) (info := 0) (fu := fs) (by rw [hb])
  have hover : fe.over = false := by
    have hcurrent : fe.current.isNone = false := by
      rw [hecur, hscur]
      simpa using hcur
    simp [Furlong.over, hcurrent]
  have hrun : s.stopFurlong id = b.complete id 0 := by
    rw [hstopped, State.furlongCheck, hfe]
    simp [hover]
  have hflight : b.flight id = some f := by
    rw [hb]
    exact State.flight_of_flightOf hf
  refine Completes.intro (t := s.stopFurlong id) rfl ?_
  rw [hrun]
  refine ⟨State.complete_ended hflight, ?_, ?_⟩
  · rw [hfe, Option.any_some, hestop, hstop]
  · rw [State.complete_mem, hb]

end

/-! ### O41: expansion (R461, R462, R464) -/

section
variable {fu : Furlong} {o n ph tm ch mi : Nat} {pre : Bool} {rest : List ExpandItem} {r : StepRun}

theorem completes_stepExpansion_begins (hfu : s.furlong = some fu) (hplace : s.placeRuns 8 = true) (hjob : s.hitch.job = .running)
    (hcur : fu.current = none) (hnone : fu.running = []) (hgo : fu.stopping = false) (hmore : fu.nextStep < fu.first + fu.steps)
    (hadmits : s.stepAdmits fu.nextStep = true) (horigin : s.stepOrigin fu fu.nextStep = some o)
    (hsound : s.rangesPoisoned (s.imageReads fu.image true none) = false) :
    Completes .stepExpansion s (fun t => t.furlong.any (fun g => g.current == some (fu.nextStep, decide (0 < s.probingTags)) &&
      g.nextStep == fu.nextStep + 1 && g.running.any (fun r => r.step == fu.nextStep && r.origin == o)) = true) := by
  have hfirst : s.nextExpansion fu = s.beginStep fu fu.nextStep o (0 < s.probingTags) := by
    rw [State.nextExpansion, hnone]
    simp only [List.getLast?_nil]
    rw [State.firstOf, horigin, if_neg (by simp [hgo, hadmits, hmore])]
  have hrun : s.expandNext = s.beginStep fu fu.nextStep o (0 < s.probingTags) := by
    rw [State.expandNext, hfu]
    simp only [hplace, hjob, hcur, hsound, hfirst]
    rfl
  refine Completes.intro (t := s.expandNext) rfl ?_
  rw [hrun, State.beginStep]
  simp [State.setFurlong, hnone, State.newRun]

theorem State.noteIssue_kept {d : List Word512} {step : Nat} (hrec : hClass (dword d 0) ≠ 0x0D) :
    (s.noteIssue d step).flights = s.flights ∧ (s.noteIssue d step).furlong = s.furlong := by
  unfold State.noteIssue
  split
  · exact ⟨rfl, rfl⟩
  · exact ⟨flights_kept fun h => h.rehomeEngine, part_kept .furlong fun h => h.rehomeEngine⟩
  · exact ⟨flights_kept fun h => h.noteColl, part_kept .furlong fun h => h.noteColl⟩
  next h => exact absurd h hrec
  · exact ⟨rfl, rfl⟩

/-- A descriptor issued to a unit that is not recovery, its wait-mask entry sound, joins the descriptors in flight and does no more to them. -/
theorem State.issueFlight_joins {origin : Origin} {d : List Word512} {step : Nat} (hrec : hClass (dword d 0) ≠ 0x0D) (hwait : s.waitStop d = 0) :
    (s.issueFlight origin step d).furlong = s.furlong ∧
      ∃ f, (s.issueFlight origin step d).flights = s.flights ++ [f] ∧ f.words = d ∧ f.step = step ∧ f.origin = origin ∧ f.fired = false := by
  unfold State.issueFlight
  extract_lets h nop f s1 s2
  have h1 : s1.flights = s.flights ∧ s1.furlong = s.furlong := by
    unfold s1
    split
    · exact ⟨flights_kept fun h => h.openStep.leaveIdle, part_kept .furlong fun h => h.openStep.leaveIdle⟩
    · exact ⟨rfl, rfl⟩
  obtain ⟨hflights, hfurlong⟩ := State.noteIssue_kept (s := { s1 with flights := s1.flights ++ [f], nextId := s.nextId + 1 }) (step := step) hrec
  rw [if_pos (by simp [hwait])]
  exact ⟨hfurlong.trans h1.2, f, hflights.trans (congrArg (· ++ [f]) h1.1), rfl, rfl, rfl, rfl⟩

theorem completes_stepExpansion_issues (hfu : s.furlong = some fu) (hplace : s.placeRuns 8 = true) (hjob : s.hitch.job = .running)
    (hcur : fu.current = some (n, pre)) (hitems : fu.items = .inst ph tm ch mi :: rest) (hr : fu.run? n pre = some r)
    (hscale : s.scaleHeld fu.image tm n = false) (hsound : s.rangesPoisoned (s.imageReads fu.image false (some tm)) = false)
    {d : List Word512} (hd : d = s.instanceOf fu.image tm n r.origin ch mi pre)
    (hfence : hFence (dword d 0) = true → s.instancesClear = true) (hheld : s.issueHeld d n = false) (hdesc : s.descCheck 8 d = 0)
    (hissue : s.issueCheck d n = 0) (hrec : hClass (dword d 0) ≠ 0x0D) (hwait : s.waitStop d = 0) :
    Completes .stepExpansion s (fun t => t.furlong.any (fun g => decide (g.items = rest)) = true ∧
      ∃ f, t.flights = s.flights ++ [f] ∧ f.words = d ∧ f.step = n ∧ f.origin = .furlong fu.window ph tm pre ∧ f.fired = false) := by
  have hexpand : s.expandNext = s.issueInstance fu rest n pre ph tm ch mi := by
    rw [State.expandNext, hfu]
    simp only [hplace, hjob, hcur, hitems, hsound]
    rfl
  obtain ⟨g, hg, hgitems⟩ : ∃ g, g = ({ fu with items := rest }.onPhase n pre ph (fun p => { p with count := p.count + 1, outstanding := p.outstanding + 1 })) ∧
      g.items = rest := ⟨_, rfl, rfl⟩
  have hrun : s.expandNext = (s.setFurlong g).issueFlight (.furlong fu.window ph tm pre) n d := by
    have horigin : (fu.run? n pre).elim 0 (fun r => r.origin) = r.origin := by rw [hr]; rfl
    have hopen : ¬ ((s.scaleHeld fu.image tm n || (hFence (dword d 0) && !s.instancesClear) || s.issueHeld d n) = true) := by
      rw [hscale, hheld]
      cases hf : hFence (dword d 0) with
      | true => simp [hfence hf]
      | false => simp
    rw [hexpand, State.issueInstance, horigin, ← hd, if_neg hopen, hdesc, hissue, hg]
    rfl
  obtain ⟨hfurlong, f, hflights, hwords, hstep, horigin, hfired⟩ := State.issueFlight_joins (s := s.setFurlong g) (origin := .furlong fu.window ph tm pre)
    (step := n) hrec (show (s.setFurlong g).waitStop d = 0 from hwait)
  refine Completes.intro (t := s.expandNext) rfl ?_
  rw [hrun]
  refine ⟨?_, f, hflights, hwords, hstep, horigin, hfired⟩
  rw [hfurlong]
  simp [State.setFurlong, hgitems]

end

/-! ### O41: records (R468) -/

section
variable {n ph q0 start stop count : Nat} {pre : Bool} {fu : Furlong}

/-- The bytes of a ledger record. -/
def State.ledgerRecord (s : State) (q0 start stop n : Nat) : List Byte :=
  leBytes 8 q0 ++ leBytes 8 start ++ leBytes 8 stop ++ leBytes 8 (((s.acMhz % 65536) <<< 48) + n % 2 ^ 32)

theorem State.length_ledgerRecord : (s.ledgerRecord q0 start stop n).length = 32 := by
  simp [State.ledgerRecord]

/-- Where the next record goes. -/
def State.ledgerNext (s : State) : Nat := s.rf (almReg 0x148) 47 0 + 32 * s.rf (almReg 0x150) 63 32

theorem State.ledgerWrite_eq (hring : s.rf (almReg 0x150) 31 0 ≠ 0) : ∃ u : State, u.mem = (s.store s.ledgerNext (s.ledgerRecord q0 start stop n)).mem ∧
    u.furlong = s.furlong ∧
    s.ledgerWrite q0 start stop n = u.setRf (almReg 0x150) 63 32 ((s.rf (almReg 0x150) 63 32 + 1) % s.rf (almReg 0x150) 31 0) := by
  have hstored : (s.storeAs 0 s.ledgerNext (s.ledgerRecord q0 start stop n)).mem = (s.store s.ledgerNext (s.ledgerRecord q0 start stop n)).mem := State.storeAs_mem
  have hkept : (s.storeAs 0 s.ledgerNext (s.ledgerRecord q0 start stop n)).furlong = s.furlong := part_kept .furlong fun h => h.storeAs
  unfold State.ledgerWrite
  dsimp only
  rw [if_neg hring]
  refine ⟨_, ?_, ?_, rfl⟩
  · split
    · exact hstored
    · exact hstored
  · split
    · exact hkept
    · exact hkept

theorem State.ledgerWrite_furlong : (s.ledgerWrite q0 start stop n).furlong = s.furlong := part_kept .furlong fun h => h.ledgerWrite

theorem KeepsRegs.storeAs {cls a : Nat} {bs : List Byte} {os : List Nat} (h : KeepsRegs os s t) (h158 : 0x158 ∈ os := by decide)
    (h130 : 0x130 ∈ os := by decide) : KeepsRegs os s (t.storeAs cls a bs) := by
  refine KeepsRegs.trans (t := t.store a bs) (h.store h158) ⟨fun b hb => ?_, fun k i bit hr => hr.congr ?_⟩
  · exact State.writeHint_hintOnly.reg b fun e => hb (e ▸ h130)
  · exact State.writeHint_hintOnly.reg _ (by rw [regAddr_mod]; decide)

/-- The registers that a record written changes, by their offset. -/
theorem KeepsRegs.ledgerWrite (h : KeepsRegs [0x130, 0x150, 0x158, 0x180] s t) :
    KeepsRegs [0x130, 0x150, 0x158, 0x180] s (t.ledgerWrite q0 start stop n) := by
  unfold State.ledgerWrite
  refine .ite h (KeepsRegs.setRf (k := .almanac) (off := 0x150) (.ite (KeepsRegs.bump (k := .almanac) (off := 0x180) h.storeAs)
    (KeepsRegs.same (t := t.storeAs 0 _ _) h.storeAs)))

/-- A phase's record written: it is marked so. -/
def Furlong.recordPhase (fu : Furlong) (n : Nat) (pre : Bool) (ph : Nat) : Furlong :=
  { fu with running := fu.running.map (fun (x : StepRun) =>
    if x.step == n && x.pre == pre then
      { x with phases := x.phases.map (fun (y : PhaseRun) => if y.index == ph then { y with recorded := true } else y) }
    else x) }

theorem find?_map_of_pred {α : Type} {l : List α} {p : α → Bool} {g : α → α} (hg : ∀ x, p (g x) = p x) : (l.map g).find? p = (l.find? p).map g := by
  rw [List.find?_map]
  congr 2
  funext x
  exact hg x

theorem Furlong.run?_recordPhase {r : StepRun} (hr : fu.run? n pre = some r) : (fu.recordPhase n pre ph).run? n pre =
    some { r with phases := r.phases.map (fun (y : PhaseRun) => if y.index == ph then { y with recorded := true } else y) } := by
  have hmatch : (r.step == n && r.pre == pre) = true := List.find?_some (p := fun r : StepRun => r.step == n && r.pre == pre) hr
  unfold Furlong.run? Furlong.recordPhase
  dsimp only
  rw [find?_map_of_pred fun x => by split <;> rfl, show fu.running.find? _ = some r from hr, Option.map_some, if_pos hmatch]

theorem completes_phaseComplete {r : StepRun} {p : PhaseRun} {u : Nat} (hok : s.MemOk) (hfu : s.furlong = some fu) (hr : fu.run? n pre = some r)
    (hp : r.phases.find? (fun p => p.index == ph) = some p) (hexpanded : p.expanded = true) (hdone : p.outstanding = 0) (hopen : p.recorded = false)
    (hstart : p.start = some u) (hcount : p.count ≠ 0) (hring : s.rf (almReg 0x150) 31 0 ≠ 0)
    (hlive : ∀ i, i < 32 → s.deadAt (s.rf (almReg 0x148) 47 0 + 32 * s.rf (almReg 0x150) 63 32 + i) = false) :
    Completes (.phaseComplete n pre ph) s (fun t =>
      (t.furlong.bind (fun g => g.run? n pre)).any (fun r => r.phases.any (fun p => p.index == ph && p.recorded)) = true ∧
      t.rf (almReg 0x150) 63 32 = (s.rf (almReg 0x150) 63 32 + 1) % s.rf (almReg 0x150) 31 0 ∧
      t.num (s.rf (almReg 0x148) 47 0 + 32 * s.rf (almReg 0x150) 63 32 + 8) 8 = u % 2 ^ 64 ∧
      t.num (s.rf (almReg 0x148) 47 0 + 32 * s.rf (almReg 0x150) 63 32 + 16) 8 = p.lastEnd % 2 ^ 64) := by
  obtain ⟨b, hb⟩ : ∃ b : State, b = { s with furlong := some (fu.recordPhase n pre ph) } := ⟨_, rfl⟩
  obtain ⟨q0, hrun⟩ : ∃ q0, s.phaseComplete n pre ph = b.ledgerWrite q0 u p.lastEnd p.count := by
    refine ⟨ledgerWord n p.ledgerId p.kind pre p.late (fu.stoppedIn n) p.refused, ?_⟩
    unfold State.phaseComplete
    simp only [hfu, hr, hp, hexpanded, hdone, hopen, hstart, hcount, hb]
    rfl
  have hbring : b.rf (almReg 0x150) 31 0 ≠ 0 := by rw [hb]; exact hring
  obtain ⟨v, hvmem, hvfurlong, heq⟩ := State.ledgerWrite_eq (s := b) (q0 := q0) (start := u) (stop := p.lastEnd) (n := p.count) hbring
  have hmem : (b.ledgerWrite q0 u p.lastEnd p.count).mem = memPutAll s.mem s.ledgerNext (b.ledgerRecord q0 u p.lastEnd p.count) := by
    have hblive : ∀ i < (b.ledgerRecord q0 u p.lastEnd p.count).length, b.deadAt (b.ledgerNext + i) = false := by
      rw [State.length_ledgerRecord, hb]
      exact hlive
    rw [heq, State.setRf_mem, hvmem, State.mem_store hblive, hb]
    rfl
  refine Completes.intro (t := s.phaseComplete n pre ph) rfl ?_
  rw [hrun]
  refine ⟨?_, ?_, ?_, ?_⟩
  · rw [State.ledgerWrite_furlong, hb, Option.bind_some, Furlong.run?_recordPhase hr, Option.any_some, List.any_eq_true]
    have hpindex : (p.index == ph) = true := List.find?_some (p := fun p : PhaseRun => p.index == ph) hp
    refine ⟨{ p with recorded := true }, List.mem_map.2 ⟨p, List.mem_of_find?_eq_some hp, if_pos hpindex⟩, ?_⟩
    simpa using hpindex
  · have hlen : s.rf (almReg 0x150) 31 0 < 2 ^ 32 := Nat.mod_lt _ (by decide)
    have hnext : (s.rf (almReg 0x150) 63 32 + 1) % s.rf (almReg 0x150) 31 0 < s.rf (almReg 0x150) 31 0 := Nat.mod_lt _ (Nat.pos_of_ne_zero hring)
    rw [heq, State.rf_setRf_self, hb]
    exact Nat.mod_eq_of_lt (hnext.trans hlen)
  · have hbytes := State.bytes_of_memPutAll_mid (a := s.ledgerNext) (xs := leBytes 8 q0) (ys := leBytes 8 u)
      (zs := leBytes 8 p.lastEnd ++ leBytes 8 (((b.acMhz % 65536) <<< 48) + p.count % 2 ^ 32)) hok
      (hmem.trans (by simp only [State.ledgerRecord, List.append_assoc]))
    rw [length_leBytes, length_leBytes] at hbytes
    change leNat (State.bytes _ (s.ledgerNext + 8) 8) = _
    rw [hbytes, leNat_leBytes]
    norm_num
  · have hbytes := State.bytes_of_memPutAll_mid (a := s.ledgerNext) (xs := leBytes 8 q0 ++ leBytes 8 u) (ys := leBytes 8 p.lastEnd)
      (zs := leBytes 8 (((b.acMhz % 65536) <<< 48) + p.count % 2 ^ 32)) hok
      (hmem.trans (by simp only [State.ledgerRecord, List.append_assoc]))
    rw [List.length_append, length_leBytes, length_leBytes, length_leBytes] at hbytes
    change leNat (State.bytes _ (s.ledgerNext + 16) 8) = _
    rw [hbytes, leNat_leBytes]
    norm_num

/-- A furlong that ends is no more. -/
theorem State.complete_furlong_none {id info : Nat} (h : s.furlong = none) : (s.complete id info).furlong = none := by
  unfold State.complete
  split
  · exact h
  · extract_lets s1 sg s2 s3 s4
    have h2 : s2.furlong = none := by
      unfold s2
      split <;> exact h
    have h4 : s4.furlong = none := by
      unfold s4
      split
      · exact (State.raise_furlong ..).trans h2
      · exact h2
    split
    next heq => cases h4.symm.trans heq
    next => exact h4

theorem State.furlongCheck_furlong : s.furlongCheck.furlong = s.furlong ∨ s.furlongCheck.furlong = none := by
  unfold State.furlongCheck
  split
  next fu hfu =>
    split
    · refine .inr ?_
      unfold State.endFurlong
      extract_lets w s1
      split
      · exact (State.raiseErr_furlong ..).trans (State.complete_furlong_none rfl)
      · exact State.complete_furlong_none rfl
    · exact .inl rfl
  next => exact .inl rfl

theorem KeepsRegs.furlongCheck (h : KeepsRegs (0x120 :: errorOffsets) s t) : KeepsRegs (0x120 :: errorOffsets) s t.furlongCheck := by
  unfold State.furlongCheck
  split
  next fu hfu =>
    refine .ite ?_ h
    unfold State.endFurlong
    exact .ite (.raiseErr (.complete h.same)) (.complete h.same)
  next => exact h

theorem completes_stepComplete (hfu : s.furlong = some fu) (hdone : fu.stepDone n = true) :
    Completes (.stepComplete n) s (fun t => s.Counted t (almReg 0x178) 1 ∧ t.furlong.all (fun g => g.running.all (fun r => r.step != n)) = true) := by
  obtain ⟨t0, q0, start, stop, m, ht0, hrun⟩ : ∃ (t0 : State) (q0 start stop m : Nat), t0.regs = s.regs ∧
      s.stepComplete n = State.furlongCheck { (t0.ledgerWrite q0 start stop m).bump (almReg 0x178) with
        furlong := some { fu with running := fu.running.filter (fun r => r.step != n) } } := by
    unfold State.stepComplete
    simp only [hfu, hdone]
    refine ⟨_, _, _, _, _, ?_, rfl⟩
    split <;> rfl
  obtain ⟨v, hv⟩ : ∃ v : State, v = { (t0.ledgerWrite q0 start stop m).bump (almReg 0x178) with
        furlong := some { fu with running := fu.running.filter (fun r => r.step != n) } } := ⟨_, rfl⟩
  rw [← hv] at hrun
  refine Completes.intro (t := s.stepComplete n) rfl ?_
  rw [hrun]
  constructor
  · have hcount : (t0.ledgerWrite q0 start stop m).Counted ((t0.ledgerWrite q0 start stop m).bump (almReg 0x178)) (almReg 0x178) 1 := State.counted_bumpBy
    have hbefore : (t0.ledgerWrite q0 start stop m).reg (almReg 0x178) = s.reg (almReg 0x178) :=
      ((KeepsRegs.ledgerWrite (.refl _ t0)).reg _ (by rw [almReg_mod]; decide)).trans (State.reg_congr ht0 _)
    have hv178 : s.Counted v (almReg 0x178) 1 := by
      rw [hv]
      exact hcount.of_reg hbefore
    exact (KeepsRegs.furlongCheck (.refl _ v)).counted hv178 (by rw [almReg_mod]; decide)
  · rcases State.furlongCheck_furlong (s := v) with h | h
    · rw [h, hv]
      simp
    · rw [h]
      rfl

/-- Settles O41, clause by clause. -/
theorem furlongsRun : Obligations.FurlongsRun := by
  unfold Obligations.FurlongsRun
  exact ⟨fun _ _ _ hf hfired hnew hidle hsteps hsound => completes_furlongRun hf hfired hnew hidle hsteps hsound,
    fun _ _ _ hf hfired hnew hidle hsteps => completes_furlongRun_ends hf hfired hnew hidle (.inl hsteps),
    fun _ _ _ hf hfired hnew hidle hsteps hpoison => completes_furlongRun_ends hf hfired hnew hidle (.inr ⟨hsteps, hpoison⟩),
    fun _ _ _ _ hf hfired hfu hcur => completes_furlongStop hf hfired hfu hcur,
    fun _ _ _ hfu hplace hjob hcur hnone hgo hmore hadmits horigin hsound =>
      completes_stepExpansion_begins hfu hplace hjob hcur hnone hgo hmore hadmits horigin hsound,
    fun _ _ _ _ _ _ _ _ _ _ hfu hplace hjob hcur hitems hr hscale hsound hfence hheld hdesc hissue hrec hwait =>
      completes_stepExpansion_issues hfu hplace hjob hcur hitems hr hscale hsound rfl hfence hheld hdesc hissue hrec hwait,
    fun _ _ _ _ _ _ _ _ hok hfu hr hp hexpanded hdone hopen hstart hcount hring hlive =>
      completes_phaseComplete hok hfu hr hp hexpanded hdone hopen hstart hcount hring hlive,
    fun _ _ _ hfu hdone => completes_stepComplete hfu hdone⟩

end

end Sys2Proof.Machine
end

section
/-!
The end of FLUSH (O13).
-/
namespace Sys2Proof.Machine

set_option Elab.async false

variable {G : Prop} {F : Footprint} {s t u : State}

/-! ### O13: FLUSH empties the queues and unloads the plan (R472) -/

theorem State.setStage_coulter {a b : Nat} : (s.setStage a b).coulter = s.coulter := rfl

theorem State.setStage_swath {a b : Nat} : (s.setStage a b).swath = s.swath := rfl

/-- Rings, steps and recovery are emptied after the queue, and are no part of it. -/
theorem State.flushWork_coulter : s.flushWork.coulter = { s.resetStreams.coulter with samples := [], noCore := [], slots := [], lowArmed := true, crib := [] } := rfl

theorem State.flushWork_swath : s.flushWork.swath.conns = [] ∧ s.flushWork.swath.plan = 0 := ⟨rfl, rfl⟩

theorem State.live_resetStreams (i : Nat) : (s.resetStreams.live i).frames = [] := by
  rw [State.live, State.resetStreams, List.getD_eq_getElem?_getD, List.getElem?_map]
  cases s.coulter.live[i]? <;> rfl

/-- SAMPLE.ready with no slot in the queue and nothing in the crib (R472). -/
theorem State.sampleReady_of_empty (hslots : s.coulter.slots = []) (hcrib : s.coulter.crib = []) : bitsOf (s.word .sample 0 0x128) 40 32 = 0 := by
  have hview : s.word .sample 0 0x128 = s.cribUsed.length + (s.slotsFilling <<< 24) + (s.slotsReady <<< 32) := rfl
  rw [hview, State.cribUsed, State.slotsFilling, State.slotsReady, hslots, hcrib]
  rfl

/-- TRANSPORT.state with no plan in force (R441). -/
theorem State.transportState_of_planless (hplan : s.swath.plan = 0) : bitsOf (s.word .transport 0 0x118) 7 0 = 0 := by
  have hview : s.word .transport 0 0x118 = s.swath.plan + (s.service.length <<< 8) + (s.swath.conns.countP (fun c => c.unreachable) <<< 32) := rfl
  rw [hview, hplan, bitsOf, Nat.shiftLeft_eq, Nat.shiftLeft_eq, Nat.shiftRight_zero]
  omega

/-- Settles O13: FLUSH empties the queue, the rings and the connections, and takes the plan out of force; every view that shows them follows. -/
theorem warmResetEmptiesQueuesAndPlan : Obligations.WarmResetEmptiesQueuesAndPlan := by
  intro s hwarm hstage
  have hstep : s.warmStage = s.flushWork.setStage 0x22 0 := by
    rw [State.warmStage, if_neg (by simp [hwarm]), if_neg (by rw [hstage]; decide), if_pos hstage]
  have hcoulter : (s.warmStage.noteCapacity s).coulter = s.flushWork.coulter := by rw [State.noteCapacity_coulter, hstep, State.setStage_coulter]
  have hswath : (s.warmStage.noteCapacity s).swath = s.flushWork.swath := by rw [State.noteCapacity_swath, hstep, State.setStage_swath]
  obtain ⟨hconns, hplan⟩ := State.flushWork_swath (s := s)
  have hslots : (s.warmStage.noteCapacity s).coulter.slots = [] := by rw [hcoulter, State.flushWork_coulter]
  have hcrib : (s.warmStage.noteCapacity s).coulter.crib = [] := by rw [hcoulter, State.flushWork_coulter]
  refine Completes.intro (t := s.warmStage.noteCapacity s) rfl ⟨hslots, State.sampleReady_of_empty hslots hcrib, fun i => ?_, by rw [hswath, hconns],
    by rw [hswath, hplan], State.transportState_of_planless (by rw [hswath, hplan])⟩
  rw [State.live, hcoulter, State.flushWork_coulter]
  exact State.live_resetStreams i

end Sys2Proof.Machine
end

section
/-!
Fields of a register, and how a recovery descriptor completes.
-/
namespace Sys2Proof.Machine

set_option Elab.async false

variable {G : Prop} {F : Footprint} {s t u : State}

/-! ### Other fields of a register (R10) -/

/-- Setting a field leaves a field that lies above it. -/
theorem bitsOf_setBits_above {hi lo h l : Nat} (w v : Nat) (hlt : hi < l) (hle : lo ≤ hi) : bitsOf (setBits w hi lo v) h l = bitsOf w h l := by
  have hpow : 2 ^ l = 2 ^ lo * 2 ^ (hi + 1 - lo) * 2 ^ (l - (hi + 1)) := by
    rw [← Nat.pow_add, ← Nat.pow_add]
    congr 1
    omega
  have hL : 0 < 2 ^ lo := Nat.two_pow_pos lo
  have hB : 0 < 2 ^ (hi + 1 - lo) := Nat.two_pow_pos _
  have hdiv : setBits w hi lo v / 2 ^ lo / 2 ^ (hi + 1 - lo) = w / 2 ^ lo / 2 ^ (hi + 1 - lo) := by
    rw [setBits_digits w v rfl rfl, Nat.add_comm _ (w % _), Nat.add_mul_div_right _ _ hL, Nat.div_eq_of_lt (Nat.mod_lt _ hL), Nat.zero_add,
      Nat.mul_add_div hB, Nat.div_eq_of_lt (Nat.mod_lt _ hB), Nat.add_zero]
  rw [bitsOf, bitsOf, Nat.shiftRight_eq_div_pow, Nat.shiftRight_eq_div_pow, hpow, ← Nat.div_div_eq_div_mul, ← Nat.div_div_eq_div_mul,
    ← Nat.div_div_eq_div_mul, ← Nat.div_div_eq_div_mul, hdiv]

/-- Setting a field leaves a field that lies below it. -/
theorem bitsOf_setBits_below {hi lo h l : Nat} (w v : Nat) (hlt : h < lo) : bitsOf (setBits w hi lo v) h l = bitsOf w h l := by
  have hlow (x : Nat) : bitsOf x h l = bitsOf (x % 2 ^ lo) h l := by
    refine Nat.eq_of_testBit_eq fun j => ?_
    rw [bitsOf, bitsOf, Nat.testBit_mod_two_pow, Nat.testBit_mod_two_pow, Nat.testBit_shiftRight, Nat.testBit_shiftRight, Nat.testBit_mod_two_pow]
    by_cases hj : j < h + 1 - l
    · simp [hj, show l + j < lo by omega]
    · simp [hj]
  rw [hlow, mod_setBits, ← hlow]

theorem State.rf_setRf_of_gt {a hi lo h l v : Nat} (hlt : hi < l := by decide) (hle : lo ≤ hi := by decide) : (s.setRf a hi lo v).rf a h l = s.rf a h l := by
  rw [State.rf, State.setRf, State.reg_setReg_self, bitsOf_setBits_above _ _ hlt hle]
  rfl

theorem State.rf_setRf_of_lt {a hi lo h l v : Nat} (hlt : h < lo := by decide) : (s.setRf a hi lo v).rf a h l = s.rf a h l := by
  rw [State.rf, State.setRf, State.reg_setReg_self, bitsOf_setBits_below _ _ hlt]
  rfl

theorem and_mod_two (x m : Nat) : (x &&& m) % 2 = if m % 2 = 1 then x % 2 else 0 := by
  have h := Nat.and_mod_two_pow (a := x) (b := m) (n := 1)
  rw [Nat.pow_one] at h
  rw [h]
  rcases Nat.mod_two_eq_zero_or_one m with hm | hm <;> rcases Nat.mod_two_eq_zero_or_one x with hx | hx <;> simp [hm, hx]

/-- Bits replaced under a mask: those of the new word in it, those of the old word outside it. -/
theorem testBit_replaced (old v m j : Nat) : (old - (old &&& m) + (v &&& m)).testBit j = if m.testBit j then v.testBit j else old.testBit j := by
  induction j generalizing old v m with
  | zero =>
    have hle : old &&& m ≤ old := Nat.and_le_left
    have hold := and_mod_two old m
    have hnew := and_mod_two v m
    have hsum : (old - (old &&& m) + (v &&& m)) % 2 = if m % 2 = 1 then v % 2 else old % 2 := by
      by_cases hm : m % 2 = 1
      · rw [if_pos hm] at hold hnew ⊢
        omega
      · rw [if_neg hm] at hold hnew ⊢
        omega
    rw [Nat.testBit_zero, hsum, Nat.testBit_zero, Nat.testBit_zero, Nat.testBit_zero]
    by_cases hm : m % 2 = 1 <;> simp [hm]
  | succ j ih =>
    have hle : old &&& m ≤ old := Nat.and_le_left
    have hold := and_mod_two old m
    have hnew := and_mod_two v m
    have hhalf : (old - (old &&& m) + (v &&& m)) / 2 = old / 2 - (old / 2 &&& m / 2) + (v / 2 &&& m / 2) := by
      rw [← Nat.and_div_two, ← Nat.and_div_two]
      by_cases hm : m % 2 = 1
      · rw [if_pos hm] at hold hnew
        omega
      · rw [if_neg hm] at hold hnew
        omega
    rw [Nat.testBit_succ, hhalf, Nat.testBit_succ, Nat.testBit_succ, Nat.testBit_succ]
    exact ih (old / 2) (v / 2) (m / 2)

/-- A field that a register stores reads, once written, what was written (R58). -/
theorem bitsOf_mergeWord {fs : List RegField} {old v hi lo : Nat} (h : ∀ j < hi + 1 - lo, (storeMask fs).testBit (lo + j) = true) :
    bitsOf (mergeWord fs old v) hi lo = bitsOf v hi lo := by
  refine Nat.eq_of_testBit_eq fun j => ?_
  rw [bitsOf, bitsOf, Nat.testBit_mod_two_pow, Nat.testBit_mod_two_pow, Nat.testBit_shiftRight, Nat.testBit_shiftRight, mergeWord, testBit_replaced]
  by_cases hj : j < hi + 1 - lo
  · rw [h j hj, if_pos rfl]
  · simp [hj]

theorem bitOf_mergeWord_stored {fs : List RegField} {old v j : Nat} (h : (storeMask fs).testBit j = true) :
    bitOf (mergeWord fs old v) j = bitOf v j := by
  rw [bitOf_eq_testBit, bitOf_eq_testBit, mergeWord, testBit_replaced, h, if_pos rfl]

/-! ### Recovery descriptors run and complete (R475, R486) -/

theorem recReg_mod : recReg off % 0x1000 = off % 0x1000 := regAddr_mod ..

/-- The registers that the completion of one recovery descriptor and the taking up of the next may write. -/
def doneOffsets : List Nat := [0x030, 0x120, 0x128, 0x140, 0x150]

section
variable {id op : Nat} {f : Flight}

theorem State.flight_of_recRuns (h : s.recRuns id op = some f) : s.flight id = some f := by
  unfold State.recRuns at h
  split at h
  next g hg =>
    split_ifs at h
    cases h
    exact State.flight_of_flightOf hg
  next => cases h

theorem State.flight_none_of_filter {p : Flight → Bool} (h : s.flight id = none) (ht : t.flights = s.flights.filter p) : t.flight id = none := by
  rw [State.flight, ht, List.find?_eq_none]
  intro g hg
  exact (List.find?_eq_none.1 h) g (List.mem_of_mem_filter hg)

theorem State.flight_setFlight_none {g : Flight} (h : s.flight id = none) (hg : g.id ≠ id) : (s.setFlight g).flight id = none := by
  rw [State.flight_setFlight_ne hg, h]

theorem State.refuseFlight_flights {c code : Nat} : ∃ p, (s.refuseFlight c code).flights = s.flights.filter p := by
  unfold State.refuseFlight
  split
  · exact ⟨fun _ => true, by simp⟩
  · refine ⟨fun g => g.id != c, ?_⟩
    dsimp only
    split
    · exact flights_kept fun h => h.refuseDesc False.elim
    · rfl

theorem KeepsRegs.refuseDesc {os : List Nat} {w code : Nat} {d : List Word512} (h : KeepsRegs os s t) (h128 : 0x128 ∈ os := by decide)
    (h30 : 0x030 ∈ os := by decide) (h140 : 0x140 ∈ os := by decide) : KeepsRegs os s (t.refuseDesc w d code) :=
  have hraised : KeepsRegs os s ((t.bump (regAddr .cmdwin w 0x128)).raise .cmdwin w 1 code (hWorkId (dword d 0))) := (h.bump h128).raise h30 h140
  .ite hraised.same hraised

theorem KeepsRegs.refuseFlight {c code : Nat} (h : KeepsRegs doneOffsets s t) : KeepsRegs doneOffsets s (t.refuseFlight c code) := by
  unfold State.refuseFlight
  split
  · exact h
  · dsimp only
    split
    · exact KeepsRegs.refuseDesc h.same
    · exact h.same

/-- The next recovery descriptors taken up: none that has gone comes back, and few registers are written. -/
theorem State.recAdmit_kept {n : Nat} (hid : s.flight id = none) : KeepsRegs doneOffsets s (State.recAdmit n s) ∧ (State.recAdmit n s).flight id = none := by
  induction n generalizing s with
  | zero => exact ⟨.refl _ s, hid⟩
  | succ n ih =>
    unfold State.recAdmit
    split
    · exact ⟨.refl _ s, hid⟩
    next g hg =>
      have hgid : g.id ≠ id := by
        have := (List.find?_eq_none.1 hid) g (List.mem_of_find?_eq_some hg)
        simpa using this
      dsimp only
      split_ifs
      · exact ⟨.refl _ s, hid⟩
      · obtain ⟨p, hp⟩ := State.refuseFlight_flights (s := s) (c := g.id) (code := s.recCheck g)
        obtain ⟨hregs, hgone⟩ := ih (State.flight_none_of_filter hid hp)
        exact ⟨(KeepsRegs.refuseFlight (.refl _ s)).trans hregs, hgone⟩
      · have hset {u : State} {v : Nat} : KeepsRegs doneOffsets u (u.setReg (recReg 0x150) v) := KeepsRegs.setReg (.refl _ u)
        refine ⟨KeepsRegs.trans (.same (.refl _ s)) hset, ?_⟩
        rw [State.flight_congr (State.setReg_flights ..)]
        exact State.flight_setFlight_none hid hgid
      · exact ⟨.same (.refl _ s), State.flight_setFlight_none hid hgid⟩

theorem State.flight_recDone {info : Nat} : (s.recDone id info).flight id = none := (State.recAdmit_kept State.flight_complete_self).2

theorem KeepsRegs.recDone {info : Nat} : KeepsRegs doneOffsets s (s.recDone id info) :=
  (KeepsRegs.complete (.refl _ s)).trans (State.recAdmit_kept State.flight_complete_self).1

theorem State.recDone_mem {info : Nat} : (s.recDone id info).mem = s.mem := mem_kept fun h => h.recDone

end

end Sys2Proof.Machine
end

section
/-!
COMMIT and the buddy (O42).
-/
namespace Sys2Proof.Machine

set_option Elab.async false

variable {G : Prop} {F : Footprint} {s t u : State}

/-! ### O42: COMMIT (R475, R476) -/

section
variable {id : Nat} {f : Flight}

theorem recF_lt (d : List Word512) : (recF d).step < 2 ^ 32 ∧ (recF d).set < 2 := ⟨Nat.mod_lt _ (by decide), Nat.mod_lt _ (by decide)⟩

theorem State.commit_setCommit {step set : Nat} (hstep : step < 2 ^ 32) (hset : set < 2) :
    (s.setCommit step set).committedStep = step ∧ (s.setCommit step set).committedSet = set := by
  rw [State.committedStep, State.committedSet, State.rf, State.rf, State.setCommit, State.reg_setReg_self, bitsOf, bitsOf, Nat.shiftLeft_eq,
    Nat.shiftRight_eq_div_pow, Nat.shiftRight_eq_div_pow]
  omega

theorem State.commit_congr (h : t.reg (recReg 0x148) = s.reg (recReg 0x148)) : t.committedStep = s.committedStep ∧ t.committedSet = s.committedSet :=
  ⟨State.rf_congr h, State.rf_congr h⟩

/-- The commit cycle (R475). -/
theorem completes_commit (hf : s.recRuns id 1 = some f) (hbegun : f.reco?.begun = true) (hcarry : f.reco?.carry = false) :
    Completes (.commit id) s (fun t => t.flight id = none ∧ t.committedStep = (recF f.words).step ∧ t.committedSet = (recF f.words).set ∧
      s.Counted t (recReg 0x190) 1 ∧ t.mem = s.mem) := by
  obtain ⟨u, hu⟩ : ∃ u, u = (s.setCommit (recF f.words).step (recF f.words).set).setRf (recReg 0x150) 32 32 0 := ⟨_, rfl⟩
  have hrun : s.runCommit id = (u.bump (recReg 0x190)).recDone id 0 := by
    rw [State.runCommit, hf]
    simp only [hbegun, hcarry, Bool.not_true, Bool.false_and, Bool.false_eq_true, if_false]
    rw [hu]
  have hregs : KeepsRegs doneOffsets (u.bump (recReg 0x190)) (s.runCommit id) := hrun ▸ .recDone
  have hcommit : (s.runCommit id).reg (recReg 0x148) = (s.setCommit (recF f.words).step (recF f.words).set).reg (recReg 0x148) := by
    rw [hregs.reg _ (by rw [recReg_mod]; decide), hu]
    exact (State.reg_setReg_offset _ (by decide)).trans (State.reg_setReg_offset _ (by decide))
  obtain ⟨hstep, hset⟩ := State.commit_setCommit (s := s) (recF_lt f.words).1 (recF_lt f.words).2
  have hcount : u.Counted (u.bump (recReg 0x190)) (recReg 0x190) 1 := State.counted_bumpBy
  have hkept : u.reg (recReg 0x190) = s.reg (recReg 0x190) := by
    rw [hu]
    exact (State.reg_setReg_offset _ (by decide)).trans (State.reg_setReg_offset _ (by decide))
  refine Completes.intro (t := s.runCommit id) rfl ⟨by rw [hrun]; exact State.flight_recDone, ?_, ?_, ?_, ?_⟩
  · rw [(State.commit_congr hcommit).1, hstep]
  · rw [(State.commit_congr hcommit).2, hset]
  · exact hregs.counted (hcount.of_reg hkept) (by rw [recReg_mod]; decide)
  · rw [hrun, State.recDone_mem, hu]
    exact mem_kept fun h => h.setCommit.setRf.bump

/-- The verdict's header read: a set flag asks for the carry (R476). -/
theorem completes_commit_begins (hf : s.recRuns id 1 = some f) (hbegun : f.reco?.begun = false) (hhdr : (recF f.words).hdr ≠ 0)
    (htable : s.recTableStop = none) (hread : s.recReadStop (recF f.words).hdr 64 = none) :
    Completes (.commit id) s (fun t => (t.flight id).any (fun g => g.reco?.begun &&
      g.reco?.carry == bitOf (s.num ((recF f.words).hdr + 16) 8) 0) = true ∧ t.committedStep = s.committedStep ∧ t.mem = s.mem) := by
  have hflight := State.flight_of_recRuns hf
  obtain ⟨u, hu⟩ : ∃ u, u = if f.late then (s.bump (recReg 0x198)).raiseErr .recovery 0 6 0x0A04 f.work 0 0 else s := ⟨_, rfl⟩
  have hrun : s.runCommit id = u.setReco f { f.reco? with begun := true, carry := bitOf (s.num ((recF f.words).hdr + 16) 8) 0 } := by
    rw [State.runCommit, hf]
    simp only [hbegun, htable, hhdr, hread, Bool.not_false, Option.isSome_none, Bool.and_false, Bool.false_eq_true, if_false, if_true]
    rw [hu]
  have hregs : KeepsRegs (0x198 :: errorOffsets) s u := by
    rw [hu]
    exact .ite (KeepsRegs.raiseErr (KeepsRegs.bump (k := .recovery) (i := 0) (off := 0x198) (.refl _ s))) (.refl _ s)
  have hmem : u.mem = s.mem := by
    rw [hu]
    exact mem_kept fun h => .ite h.bump.raiseErr h
  have hflights : u.flights = s.flights := by
    rw [hu]
    exact flights_kept fun h => .ite h.bump.raiseErr h
  refine Completes.intro (t := s.runCommit id) rfl ?_
  rw [hrun]
  refine ⟨State.flight_any_setFlight (f := f) (by rw [State.flight_congr hflights]; exact hflight) (show f.id = id from State.flight_id hflight) (by simp [Flight.reco?]), ?_, hmem⟩
  exact (State.commit_congr (hregs.reg _ (by rw [recReg_mod]; decide))).1

/-- A copy in memory: what is read goes to its place, and of the registers only those of the Granary and its cache change. -/
theorem State.copied {cls a n d : Nat} {rs : List (Nat × Nat)} (hok : s.MemOk) (hlive : ∀ i, i < n → s.deadAt (d + i) = false) :
    ((s.readAs cls rs).storeAs cls d (s.bytes a n)).bytes d n = s.bytes a n ∧
    KeepsRegs [0x130, 0x158] s ((s.readAs cls rs).storeAs cls d (s.bytes a n)) ∧ ((s.readAs cls rs).storeAs cls d (s.bytes a n)).flights = s.flights := by
  have hmem : (s.readAs cls rs).mem = s.mem := mem_kept fun h => h.readAs
  have hstacks : (s.readAs cls rs).stackList = s.stackList := part_kept .stackList fun h => h.readAs
  have hput : ((s.readAs cls rs).storeAs cls d (s.bytes a n)).mem = memPutAll s.mem d (s.bytes a n) := by
    rw [State.storeAs_mem, State.mem_store fun i hi => (State.deadAt_congr hstacks _).trans (hlive i (by rwa [State.length_bytes] at hi)), hmem]
  have hread : KeepsRegs [0x130, 0x158] s (s.readAs cls rs) :=
    KeepsRegs.foldl (.refl _ s) fun u _ h => h.trans (KeepsRegs.readHint.mono (by decide))
  refine ⟨?_, hread.storeAs, flights_kept fun h => h.readAs.storeAs⟩
  have hbytes := State.bytes_of_mem_memPutAll hok hput
  rwa [State.length_bytes] at hbytes

theorem completes_commit_carries {e : RecEnt} (hok : s.MemOk) (hf : s.recRuns id 1 = some f) (hbegun : f.reco?.begun = true)
    (hcarry : f.reco?.carry = true) (he : (s.recEnts.filter (fun e => e.a1 != 0))[f.reco?.idx]? = some e)
    (hread : s.recReadStop (e.copy s.committedSet) e.len = none) (hthere : s.populated (e.copy (recF f.words).set) e.len = true)
    (hne : e.copy s.committedSet ≠ e.copy (recF f.words).set) (hlive : ∀ i, i < e.len → s.deadAt (e.copy (recF f.words).set + i) = false) :
    Completes (.commit id) s (fun t => (t.flight id).any (fun g => g.reco?.idx == f.reco?.idx + 1) = true ∧
      t.committedStep = s.committedStep ∧ t.bytes (e.copy (recF f.words).set) e.len = s.bytes (e.copy s.committedSet) e.len) := by
  have hflight := State.flight_of_recRuns hf
  obtain ⟨u, hu⟩ : ∃ u, u = (s.readAs 4 [(e.copy s.committedSet, e.len)]).storeAs 4 (e.copy (recF f.words).set) (s.bytes (e.copy s.committedSet) e.len) :=
    ⟨_, rfl⟩
  obtain ⟨hbytes, hregs, hflights⟩ := State.copied (cls := 4) (a := e.copy s.committedSet) (rs := [(e.copy s.committedSet, e.len)]) hok hlive
  rw [← hu] at hbytes hregs hflights
  have hrun : s.runCommit id = u.setReco f { f.reco? with idx := f.reco?.idx + 1 } := by
    rw [State.runCommit, hf]
    simp only [hbegun, hcarry, Bool.not_true, Bool.false_and, Bool.false_eq_true, if_false, if_true, he, hread, hthere, hne]
    rw [hu]
  refine Completes.intro (t := s.runCommit id) rfl ?_
  rw [hrun]
  refine ⟨State.flight_any_setFlight (f := f) (by rw [State.flight_congr hflights]; exact hflight) (show f.id = id from State.flight_id hflight)
    (by simp [Flight.reco?]), ?_,
    (State.bytes_congr (State.setFlight_mem ..) _ _).trans hbytes⟩
  exact (State.commit_congr (hregs.reg _ (by rw [recReg_mod]; decide))).1

end

/-! ### Messages of the recovery user: what they store (R424, R480) -/

/-- Memory outside Swath's retransmit buffer stands, and the memory stays well formed. -/
structure SlotsOnly (s t : State) : Prop where
  ok : t.MemOk
  only : s.OnlySlots t

theorem SlotsOnly.refl (hok : s.MemOk) : SlotsOnly s s := ⟨hok, fun _ _ => rfl⟩

theorem SlotsOnly.same (h : SlotsOnly s t) (hmem : u.mem = t.mem) : SlotsOnly s u :=
  ⟨State.memOk_of_mem h.ok hmem, fun a ha => (State.byte_congr hmem a).trans (h.only a ha)⟩

theorem State.freeSlot_lt : s.freeSlot < 16384 := by
  unfold State.freeSlot
  dsimp only
  cases hfind : (List.range 16384).find? (fun n => !(s.swath.conns.flatMap (fun c => c.slots.map (fun x => x.place))).contains n) with
  | none => rw [Option.getD_none]; decide
  | some n => exact List.mem_range.1 (List.mem_of_find?_eq_some hfind)

/-- A packet's payload lies in the slot it takes. -/
theorem SlotsOnly.putSlot {bs : List Byte} {n : Nat} (h : SlotsOnly s t) (hn : n < 16384) (hlen : bs.length ≤ 4096) :
    SlotsOnly s (t.putBytes (swathBufBase + 4096 * n) bs) := by
  refine ⟨State.memOk_putBytes h.ok _ _, fun a ha => ?_⟩
  have hout : ¬(swathBufBase + 4096 * n ≤ a ∧ a < swathBufBase + 4096 * n + bs.length) := by
    simp only [swathBufBase, swathBufEnd] at ha ⊢
    omega
  refine Eq.trans ?_ (h.only a ha)
  change memGet (memPutAll t.mem _ bs) a = memGet t.mem a
  rw [memGet_memPutAll h.ok, if_neg hout]

theorem SlotsOnly.transmit {e : Nat} {d : TxData} (h : SlotsOnly s t) (hsent : t.transmit e d = some u) : SlotsOnly s u := by
  unfold State.transmit at hsent
  dsimp only at hsent
  split at hsent
  · cases hsent
  · split at hsent
    · cases hsent
    · cases hsent
      exact (h.putSlot State.freeSlot_lt ((List.length_take_le _ _))).same rfl

theorem SlotsOnly.pumpConn {e n : Nat} (h : SlotsOnly s t) : SlotsOnly s (t.pumpConn e n) := by
  induction n generalizing t with
  | zero => exact h
  | succ n ih =>
    unfold State.pumpConn
    split
    · exact h
    · split
      · exact h
      next hsent => exact ih ((h.transmit hsent).same rfl)

theorem SlotsOnly.queueData {e : Nat} {d : TxData} (h : SlotsOnly s t) : SlotsOnly s (t.queueData e d) := SlotsOnly.pumpConn (h.same rfl)

theorem SlotsOnly.recMessage {e : Nat} {bs : List Byte} {body : Nat → SwathBody} (h : SlotsOnly s t) : SlotsOnly s (t.recMessage e bs body) :=
  foldl_inv (SlotsOnly s) _ _ (fun _ _ h' => h'.queueData) (h.same rfl)

theorem SlotsOnly.sendPairing {e answer : Nat} (h : SlotsOnly s t) : SlotsOnly s (t.sendPairing e answer) := by
  unfold State.sendPairing
  split
  · exact h
  · exact h.recMessage

theorem State.sendPairing_regs {e answer : Nat} : (s.sendPairing e answer).regs = s.regs := regs_kept fun h => h.sendPairing

/-! ### Buddy copies (R480, R481) -/

section
variable {id : Nat} {f : Flight}

theorem completes_buddySend_begins (hok : s.MemOk) (hf : s.recRuns id 2 = some f) (hpair : s.pairState ≠ 4) (hthere : s.epGone s.buddyEp = false)
    (hbegun : f.reco?.begun = false) (htable : s.recTableStop = none)
    (hread : (packOffsets 0 (s.recOf [2])).findSome? (fun e => s.recReadStop (e.2.copy s.committedSet) e.2.len) = none) :
    Completes (.buddySend id) s (fun t => (t.flight id).any (fun g => g.reco?.begun && g.reco?.ep == s.buddyEp && g.reco?.msg.isSome) = true ∧
      s.OnlySlots t ∧ t.regs = s.regs) := by
  have hflight := State.flight_of_recRuns hf
  obtain ⟨b, hb⟩ : ∃ b, b = (packOffsets 0 (s.recOf [2])).foldl (fun t e => t.recMessage s.buddyEp (s.bytes (e.2.copy s.committedSet) e.2.len)
    (fun _ => .slotWrite ((recF f.words).step % 2) e.1)) s := ⟨_, rfl⟩
  obtain ⟨u, hu⟩ : ∃ u, u = b.recMessage s.buddyEp (s.buddySeal (recF f.words).step)
    (fun _ => .slotSeal ((recF f.words).step % 2) (entBytes (s.recOf [2]))) := ⟨_, rfl⟩
  have hrun : s.runBuddySend id = u.setReco f
      { f.reco? with begun := true, ep := s.buddyEp, msg := some (b.conn s.buddyEp).txMsg, dst := (s.conn s.buddyEp).txMsg } := by
    rw [State.runBuddySend, hf]
    simp only [hpair, hthere, hbegun, htable, hread, Option.isSome_none, Bool.and_false, Bool.not_false, Bool.false_eq_true, if_false, if_true]
    rw [hu, hb]
  have hslots : SlotsOnly s u := by
    rw [hu, hb]
    exact (foldl_inv (SlotsOnly s) _ _ (fun _ _ h => h.recMessage) (.refl hok)).recMessage
  have hflights : u.flights = s.flights := by
    rw [hu, hb]
    exact flights_kept fun h => (h.foldl fun _ _ h' => h'.recMessage).recMessage
  have hregs : u.regs = s.regs := by
    rw [hu, hb]
    exact regs_kept fun h => (h.foldl fun _ _ h' => h'.recMessage).recMessage
  refine Completes.intro (t := s.runBuddySend id) rfl ?_
  rw [hrun]
  exact ⟨State.flight_any_setFlight (f := f) (by rw [State.flight_congr hflights]; exact hflight) (show f.id = id from State.flight_id hflight)
    (by simp [Flight.reco?]), (hslots.same rfl).only, hregs⟩

theorem completes_buddySend_sealed (hf : s.recRuns id 2 = some f) (hpair : s.pairState ≠ 4) (hthere : s.epGone s.buddyEp = false)
    (hbegun : f.reco?.begun = true) (hgoing : f.ending = none) (hacked : f.reco?.msg.any (s.msgOpen f.reco?.ep) = false) :
    Completes (.buddySend id) s (fun t => t.flight id = none ∧ t.rf (recReg 0x138) 31 0 = (recF f.words).step ∧ s.Counted t (recReg 0x1B8) 1 ∧
      t.mem = s.mem) := by
  obtain ⟨u, hu⟩ : ∃ u, u = s.setRf (recReg 0x138) 31 0 (recF f.words).step := ⟨_, rfl⟩
  have hrun : s.runBuddySend id = (u.bump (recReg 0x1B8)).recDone id 0 := by
    rw [State.runBuddySend, hf]
    simp only [hpair, hthere, hbegun, hgoing, hacked, Bool.not_true, Bool.false_and, Bool.false_eq_true, Option.isSome_none, reduceCtorEq, if_false]
    rw [hu]
  have hregs : KeepsRegs doneOffsets (u.bump (recReg 0x1B8)) (s.runBuddySend id) := hrun ▸ .recDone
  have hcount : u.Counted (u.bump (recReg 0x1B8)) (recReg 0x1B8) 1 := State.counted_bumpBy
  have hstep : (s.runBuddySend id).reg (recReg 0x138) = u.reg (recReg 0x138) := by
    rw [hregs.reg _ (by rw [recReg_mod]; decide)]
    exact State.reg_setReg_offset _ (by decide)
  refine Completes.intro (t := s.runBuddySend id) rfl ⟨by rw [hrun]; exact State.flight_recDone, ?_, ?_, ?_⟩
  · rw [State.rf_congr hstep, hu, State.rf_setRf_self, Nat.mod_eq_of_lt (recF_lt f.words).1]
  · refine hregs.counted (hcount.of_reg ?_) (by rw [recReg_mod]; decide)
    rw [hu]
    exact State.reg_setRf_offset (by decide)
  · rw [hrun, State.recDone_mem, hu]
    exact mem_kept fun h => h.setRf.bump

theorem State.pairState_congr (h : t.reg (recReg 0x138) = s.reg (recReg 0x138)) : t.pairState = s.pairState := State.rf_congr h

theorem State.pairState_setPair {p : Nat} (hp : p < 256) : (s.setPair p).pairState = p := by
  rw [State.pairState, State.setPair, State.rf_setRf_self]
  exact Nat.mod_eq_of_lt hp

theorem completes_buddySend_lost (hf : s.recRuns id 2 = some f) (hpair : s.pairState ≠ 4) (hgone : s.epGone s.buddyEp = true) :
    Completes (.buddySend id) s (fun t => t.flight id = none ∧ t.pairState = 4 ∧ t.Raised .recovery 0 2 ∧ t.mem = s.mem) := by
  have hid : f.id = id := State.flight_id (State.flight_of_recRuns hf)
  have hrun : s.runBuddySend id = ((s.setPair 4).raiseErr .recovery 0 2 0x0A0A f.work 0 0).recDone id 0x0A0A := by
    rw [State.runBuddySend, hf]
    simp only [hpair, hgone, if_true, if_false, State.buddyLost, hid]
  have hregs : KeepsRegs (errorOffsets ++ doneOffsets) (s.setPair 4) (s.runBuddySend id) := by
    rw [hrun]
    exact (KeepsRegs.raiseErr (.refl _ _)).trans (KeepsRegs.recDone.mono (by decide))
  refine Completes.intro (t := s.runBuddySend id) rfl ⟨by rw [hrun]; exact State.flight_recDone, ?_, ?_, ?_⟩
  · rw [State.pairState_congr (hregs.reg _ (by rw [recReg_mod]; decide)), State.pairState_setPair (by decide)]
  · rw [hrun]
    exact KeepsRegs.recDone.raised _ _ _ State.raised_raiseErr
  · rw [hrun]
    exact mem_kept fun h => h.setPair.raiseErr.recDone

end

theorem completes_buddySealReceived {k : Fin 2} {off : Nat} (hhosted : s.recov.hosted.length = 2) (hpair : s.pairState = 2)
    (hseen : s.recov.sealSeen.getD k.val false = true) (hahead : (s.conn s.buddyEp).rxAhead = []) :
    Completes (.buddySealReceived k off) s (fun t => t.recov.hosted.getD k.val none = some (s.num (s.slotAddr k.val off) 8 % 2 ^ 32) ∧
      t.recov.sealSeen.getD k.val false = false ∧ t.mem = s.mem) := by
  have hk : k.val % 2 = k.val := Nat.mod_eq_of_lt k.isLt
  have hrun : (s.buddySealed k.val off).recov = { s.recov with
      hosted := s.recov.hosted.set k.val (some (s.num (s.slotAddr k.val off) 8 % 2 ^ 32)), sealSeen := s.recov.sealSeen.set k.val false } := by
    rw [State.buddySealed]
    simp only [hpair, hk, hseen, hahead, Bool.not_true, List.isEmpty_nil, Bool.or_false, ne_eq, not_true_eq_false, decide_false, Bool.false_eq_true, if_false]
    rfl
  refine Completes.intro (t := s.buddySealed k.val off) rfl ⟨?_, ?_, mem_kept fun h => h.buddySealed⟩
  · rw [hrun]
    simp [List.getD_eq_getElem?_getD, hhosted, show k.val ≤ 1 by omega]
  · rw [hrun]
    simp [List.getD_eq_getElem?_getD, List.getElem?_set]
    split <;> rfl

/-! ### Pairing (R479) -/

section
variable {via : Via} {e : BitVec 16} {o : Bool} {d : Fin 64} {v : Nat}

/-- The fields of a word written to BUDDY. -/
theorem buddyWord_fields {p : Nat} (hp : p < 2) :
    bitsOf (p * 0x100 + (b2n o <<< 16) + (e.toNat <<< 32)) 47 32 = e.toNat ∧ bitOf (p * 0x100 + (b2n o <<< 16) + (e.toNat <<< 32)) 8 = decide (p = 1) ∧
    p * 0x100 + (b2n o <<< 16) + (e.toNat <<< 32) < 2 ^ 64 := by
  have he : e.toNat < 65536 := e.isLt
  have ho : b2n o < 2 := by cases o <;> decide
  simp only [bitsOf, bitOf, Nat.shiftLeft_eq, Nat.shiftRight_eq_div_pow]
  refine ⟨by omega, ?_, by omega⟩
  have hbit : (p * 0x100 + b2n o * 2 ^ 16 + e.toNat * 2 ^ 32) / 2 ^ 8 % 2 = p := by omega
  rw [hbit]
  rfl

theorem State.writeEffect_buddy {src : Source} : s.writeEffect src .recovery 0 0x120 v =
    s.writePair (mergeWord (regFields .recovery 0x120) (s.reg (recReg 0x120)) v) := rfl

/-- What a write of BUDDY leaves of the page: the partner named, and the pairing asked for or ended. -/
theorem State.writePair_kept {w : Nat} : (s.writePair w).buddyEp = bitsOf w 47 32 ∧
    (s.writePair w).pairState = if bitOf w 8 = false then 0 else if s.pairState = 1 ∨ s.pairState = 2 then s.pairState else 1 := by
  have hnamed : (s.setReg (recReg 0x120) w).reg (recReg 0x120) = w := State.reg_setReg_self _ _ _
  have hkept (p : Nat) : ((s.setReg (recReg 0x120) w).setPair p).reg (recReg 0x120) = w := (State.reg_setRf_offset (by decide)).trans hnamed
  have hstood : (s.setReg (recReg 0x120) w).pairState = s.pairState := State.pairState_congr (State.reg_setReg_offset _ (by decide))
  have hset (p : Nat) (hp : p < 256) : ((s.setReg (recReg 0x120) w).setPair p).pairState = p := State.pairState_setPair hp
  cases hw : bitOf w 8 with
  | false =>
    have hrun : s.writePair w = (s.setReg (recReg 0x120) w).setPair 0 := by simp [State.writePair, hw]
    rw [hrun, if_pos rfl]
    exact ⟨by rw [State.buddyEp, State.rf, hkept], hset 0 (by decide)⟩
  | true =>
    rw [if_neg Bool.noConfusion]
    by_cases hp : s.pairState = 1 ∨ s.pairState = 2
    · have hrun : s.writePair w = s.setReg (recReg 0x120) w := by simp [State.writePair, hw, hp]
      rw [hrun, if_pos hp]
      exact ⟨by rw [State.buddyEp, State.rf, hnamed], hstood⟩
    · have hrun : s.writePair w = ((s.setReg (recReg 0x120) w).setPair 1).sendPairing (s.setReg (recReg 0x120) w).buddyEp 0 := by
        rw [State.writePair, hw, if_neg Bool.noConfusion, if_neg (by simpa using hp)]
      rw [hrun, if_neg hp]
      refine ⟨?_, ?_⟩
      · rw [State.buddyEp, State.rf, State.reg_congr State.sendPairing_regs, hkept]
      · rw [State.pairState_congr (State.reg_congr State.sendPairing_regs _), hset 1 (by decide)]

theorem SlotsOnly.writePair {w : Nat} (h : SlotsOnly s t) : SlotsOnly s (t.writePair w) := by
  unfold State.writePair
  dsimp only
  have hset : SlotsOnly s (t.setReg (recReg 0x120) w) := h.same (State.setReg_mem ..)
  have hpair (p : Nat) : SlotsOnly s ((t.setReg (recReg 0x120) w).setPair p) := hset.same (State.setRf_mem ..)
  split
  · exact hpair 0
  · split
    · exact hset
    · exact (hpair 1).sendPairing

theorem State.writePair_mem {w : Nat} (hw : bitOf w 8 = false) : (s.writePair w).mem = s.mem := by
  have hrun : s.writePair w = (s.setReg (recReg 0x120) w).setPair 0 := by simp [State.writePair, hw]
  rw [hrun]
  exact (State.setRf_mem ..).trans (State.setReg_mem ..)

/-- A landed write of BUDDY. -/
theorem State.writeBy_buddy (hlands : Lands via s (recReg 0x120) v) (hv : v < 2 ^ 64) :
    (s.writeBy via (recReg 0x120) v).buddyEp = bitsOf v 47 32 ∧ (s.writeBy via (recReg 0x120) v).pairState =
      (if bitOf v 8 = false then 0 else if s.pairState = 1 ∨ s.pairState = 2 then s.pairState else 1) ∧
    (s.MemOk → s.OnlySlots (s.writeBy via (recReg 0x120) v)) ∧ (bitOf v 8 = false → (s.writeBy via (recReg 0x120) v).mem = s.mem) := by
  obtain ⟨u, hreached, heq⟩ := State.writeBy_accepted (k := .recovery) (i := 0) (off := 0x120) hlands hv (by decide) (by decide) (by decide)
  rw [State.writeEffect_buddy] at heq
  obtain ⟨w, hw⟩ : ∃ w, w = mergeWord (regFields .recovery 0x120) (u.reg (recReg 0x120)) v := ⟨_, rfl⟩
  rw [← hw] at heq
  have hep : bitsOf w 47 32 = bitsOf v 47 32 := hw ▸ bitsOf_mergeWord (by decide)
  have hpair : bitOf w 8 = bitOf v 8 := hw ▸ bitOf_mergeWord_stored (by decide)
  have hregs : (s.writeBy via (recReg 0x120) v).regs = (u.writePair w).regs := (congrArg State.regs heq).trans (Via.answer_regs via)
  obtain ⟨hbuddy, hstate⟩ := State.writePair_kept (s := u) (w := w)
  have hstood : u.pairState = s.pairState := State.pairState_congr (hreached.reg (by decide))
  have hu : u.mem = s.mem := hreached.touches.parts .mem rfl
  have hmem : (s.writeBy via (recReg 0x120) v).mem = (u.writePair w).mem := (congrArg State.mem heq).trans (Via.answer_kept via .mem)
  refine ⟨?_, ?_, fun hok => ?_, fun hend => hmem.trans ((State.writePair_mem (hpair.trans hend)).trans hu)⟩
  · rw [State.buddyEp, State.rf_congr (State.reg_congr hregs _), ← State.buddyEp, hbuddy, hep]
  · rw [State.pairState_congr (State.reg_congr hregs _), hstate, hpair, hstood]
  · have hslots : SlotsOnly s (u.writePair w) := SlotsOnly.writePair ((SlotsOnly.refl hok).same hu)
    exact (hslots.same hmem).only

theorem completes_pairRequest (hlands : Lands via s (recReg 0x120) (0x100 + (b2n o <<< 16) + (e.toNat <<< 32))) (hok : s.MemOk) :
    Completes (.pairRequest via e o) s (fun t => t.pairState = (if s.pairState = 2 then 2 else 1) ∧ t.buddyEp = e.toNat ∧ s.OnlySlots t) := by
  obtain ⟨hep, hpair, hv⟩ := buddyWord_fields (e := e) (o := o) (p := 1) (by decide)
  rw [Nat.one_mul] at hep hpair hv
  obtain ⟨hbuddy, hstate, hslots, -⟩ := State.writeBy_buddy hlands hv
  refine Completes.intro (t := s.writeBy via (recReg 0x120) _) rfl ⟨?_, hbuddy.trans hep, hslots hok⟩
  rw [hstate, hpair]
  split_ifs <;> simp_all

theorem completes_unpair (hlands : Lands via s (recReg 0x120) ((b2n o <<< 16) + (e.toNat <<< 32))) :
    Completes (.unpair via e o) s (fun t => t.pairState = 0 ∧ t.buddyEp = e.toNat ∧ t.mem = s.mem) := by
  obtain ⟨hep, hpair, hv⟩ := buddyWord_fields (e := e) (o := o) (p := 0) (by decide)
  rw [Nat.zero_mul, Nat.zero_add] at hep hpair hv
  obtain ⟨hbuddy, hstate, -, hmem⟩ := State.writeBy_buddy hlands hv
  refine Completes.intro (t := s.writeBy via (recReg 0x120) _) rfl ⟨?_, hbuddy.trans hep, hmem hpair⟩
  rw [hstate, hpair]
  rfl

/-! What a pairing message from the partner leaves. -/

/-- A message that counts: its power domain is shown, and pairing goes on as it says. -/
theorem State.domainShown {u : State} (h : u.reg (recReg 0x138) = (s.setRf (recReg 0x138) 39 34 d.val).reg (recReg 0x138)) :
    u.rf (recReg 0x138) 39 34 = d.val ∧ u.pairState = s.pairState := by
  refine ⟨?_, ?_⟩
  · rw [State.rf_congr h, State.rf_setRf_self]
    exact Nat.mod_eq_of_lt d.isLt
  · rw [State.pairState_congr h]
    exact State.rf_setRf_of_gt

theorem completes_pairingMessage_accepted (hpair : s.pairState = 1) (hthere : s.epGone s.buddyEp = false)
    (hdomain : d.val ≠ s.steward.pwrDomain ∨ bitOf (s.reg (recReg 0x120)) 16 = true) :
    Completes (.pairingMessage s.buddyEp d 1) s (fun t => t.pairState = 2 ∧ t.rf (recReg 0x138) 39 34 = d.val ∧ t.mem = s.mem) := by
  have hrun : s.pairingMessage s.buddyEp d.val 1 = (s.setRf (recReg 0x138) 39 34 d.val).setPair 2 := by
    have hapart : (d.val = s.steward.pwrDomain && !bitOf (s.reg (recReg 0x120)) 16) = false := by rcases hdomain with h | h <;> simp [h]
    simp [State.pairingMessage, hpair, hthere, hapart]
  refine Completes.intro (t := s.pairingMessage s.buddyEp d.val 1) rfl ?_
  rw [hrun]
  refine ⟨State.pairState_setPair (by decide), ?_, (State.setRf_mem ..).trans (State.setRf_mem ..)⟩
  rw [State.setPair, State.rf_setRf_of_lt, State.rf_setRf_self]
  exact Nat.mod_eq_of_lt d.isLt

theorem completes_pairingMessage_asked (hok : s.MemOk) (hpair : s.pairState = 1 ∨ s.pairState = 2) (hthere : s.epGone s.buddyEp = false)
    (hdomain : d.val ≠ s.steward.pwrDomain ∨ bitOf (s.reg (recReg 0x120)) 16 = true) :
    Completes (.pairingMessage s.buddyEp d 0) s (fun t => t.pairState = s.pairState ∧ t.rf (recReg 0x138) 39 34 = d.val ∧ s.OnlySlots t) := by
  obtain ⟨u, hu⟩ : ∃ u, u = s.setRf (recReg 0x138) 39 34 d.val := ⟨_, rfl⟩
  have hrun : s.pairingMessage s.buddyEp d.val 0 =
      if s.pairState = 1 then (u.sendPairing s.buddyEp 1).sendPairing s.buddyEp 0 else u.sendPairing s.buddyEp 1 := by
    have hapart : (d.val = s.steward.pwrDomain && !bitOf (s.reg (recReg 0x120)) 16) = false := by rcases hdomain with h | h <;> simp [h]
    rcases hpair with h | h <;> simp [State.pairingMessage, h, hthere, hapart, hu]
  have hslots : SlotsOnly s u := (SlotsOnly.refl hok).same (by rw [hu, State.setRf_mem])
  have hregs : (s.pairingMessage s.buddyEp d.val 0).regs = u.regs := by
    rw [hrun]
    split
    · exact State.sendPairing_regs.trans State.sendPairing_regs
    · exact State.sendPairing_regs
  obtain ⟨hshown, hstate⟩ := State.domainShown (hu ▸ State.reg_congr hregs _)
  refine Completes.intro (t := s.pairingMessage s.buddyEp d.val 0) rfl ⟨hstate, hshown, ?_⟩
  rw [hrun]
  split
  · exact hslots.sendPairing.sendPairing.only
  · exact hslots.sendPairing.only

theorem completes_pairingMessage_refused {a : Fin 3} (hok : s.MemOk) (hpair : s.pairState = 1) (hthere : s.epGone s.buddyEp = false)
    (hsame : d.val = s.steward.pwrDomain) (hno : bitOf (s.reg (recReg 0x120)) 16 = false) :
    Completes (.pairingMessage s.buddyEp d a) s (fun t => t.pairState = 3 ∧ t.Raised .recovery 0 1 ∧ s.OnlySlots t) := by
  obtain ⟨u, hu⟩ : ∃ u, u = ((s.setRf (recReg 0x138) 39 34 d.val).setPair 3).raiseErr .recovery 0 1 0x0A03 0 0 0 := ⟨_, rfl⟩
  have hrun : s.pairingMessage s.buddyEp d.val a.val = if a.val = 2 then u else u.sendPairing s.buddyEp 2 := by
    rw [hu]
    simp [State.pairingMessage, hpair, hthere, hsame, hno]
  have hslots : SlotsOnly s u := (SlotsOnly.refl hok).same (by
    rw [hu]
    exact mem_kept fun h => h.setRf.setPair.raiseErr)
  have hregs : (s.pairingMessage s.buddyEp d.val a.val).regs = u.regs := by
    rw [hrun]
    split
    · rfl
    · exact State.sendPairing_regs
  have hrefused : u.pairState = 3 := by
    have hkept : KeepsRegs errorOffsets ((s.setRf (recReg 0x138) 39 34 d.val).setPair 3) u := hu ▸ .raiseErr (.refl _ _)
    rw [State.pairState_congr (hkept.reg _ (by rw [recReg_mod]; decide)), State.pairState_setPair (by decide)]
  refine Completes.intro (t := s.pairingMessage s.buddyEp d.val a.val) rfl ⟨?_, ?_, ?_⟩
  · rw [State.pairState_congr (State.reg_congr hregs _), hrefused]
  · have hraised : u.Raised .recovery 0 1 := hu ▸ State.raised_raiseErr
    exact hraised.congr (State.reg_congr hregs _)
  · rw [hrun]
    split
    · exact hslots.only
    · exact hslots.sendPairing.only

end

/-- Settles O42, clause by clause. -/
theorem commitsAndBuddies : Obligations.CommitsAndBuddies :=
  ⟨fun _ _ _ hf hbegun hcarry => completes_commit hf hbegun hcarry,
    fun _ _ _ hf hbegun hhdr htable hread => completes_commit_begins hf hbegun hhdr htable hread,
    fun _ _ _ _ hok hf hbegun hcarry he hread hthere hne hlive => completes_commit_carries hok hf hbegun hcarry he hread hthere hne hlive,
    fun _ _ _ hok hf hpair hthere hbegun htable hread => completes_buddySend_begins hok hf hpair hthere hbegun htable hread,
    fun _ _ _ hf hpair hthere hbegun hgoing hacked => completes_buddySend_sealed hf hpair hthere hbegun hgoing hacked,
    fun _ _ _ hf hpair hgone => completes_buddySend_lost hf hpair hgone,
    fun _ _ _ hhosted hpair hseen hahead => completes_buddySealReceived hhosted hpair hseen hahead,
    fun _ _ _ _ hlands hok => completes_pairRequest hlands hok, fun _ _ _ _ hlands => completes_unpair hlands,
    fun _ _ hpair hthere hdomain => completes_pairingMessage_accepted hpair hthere hdomain,
    fun _ _ hok hpair hthere hdomain => completes_pairingMessage_asked hok hpair hthere hdomain,
    fun _ _ _ hok hpair hthere hsame hno => completes_pairingMessage_refused hok hpair hthere hsame hno⟩

end Sys2Proof.Machine
end

section
/-!
Stooks and refills (O43).
-/
namespace Sys2Proof.Machine

set_option Elab.async false

variable {G : Prop} {F : Footprint} {s t u : State}

/-! ### O43: a stook is staged (R482, R483) -/

section
variable {id o : Nat} {f : Flight} {e : RecEnt}

theorem State.stookState_congr (h : t.reg (recReg 0x158) = s.reg (recReg 0x158)) : t.stookState = s.stookState := State.rf_congr h

theorem State.stookState_set {p : Nat} (hp : p < 256) : (s.setRf (recReg 0x158) 55 48 p).stookState = p := by
  rw [State.stookState, State.rf_setRf_self]
  exact Nat.mod_eq_of_lt hp

theorem completes_stookTake_begins (hf : s.recRuns id 3 = some f) (hbegun : f.reco?.begun = false) (htable : s.recTableStop = none) (hidle : s.stookState = 0) :
    Completes (.stookTake id) s (fun t => t.stookState = 1 ∧ t.recov.generation = (s.recov.generation + 1) % 2 ^ 32 ∧
      t.recov.stookStep = (recF f.words).step ∧ (t.flight id).any (fun g => g.reco?.begun) = true) := by
  have hflight := State.flight_of_recRuns hf
  obtain ⟨r, hr⟩ : ∃ r, r = { s.recov with
    generation := (s.recov.generation + 1) % 2 ^ 32, stookStep := (recF f.words).step, stookBytes := s.stookTotal } := ⟨_, rfl⟩
  obtain ⟨b, hb⟩ : ∃ b : State, b = { s with recov := r } := ⟨_, rfl⟩
  obtain ⟨u, hu⟩ : ∃ u, u = b.storeAs 4 b.stagingBase (b.stookHead (recF f.words).step) := ⟨_, rfl⟩
  have hrun : s.runStook id = (u.setRf (recReg 0x158) 55 48 1).setReco f { f.reco? with begun := true } := by
    rw [State.runStook, hf]
    simp only [hbegun, htable, hidle, Option.isSome_none, Bool.and_false, Bool.not_false, Bool.false_eq_true, if_false, if_true, ne_eq, not_true_eq_false]
    rw [hu, hb, hr]
  obtain ⟨w, hw⟩ : ∃ w, w = u.setRf (recReg 0x158) 55 48 1 := ⟨_, rfl⟩
  rw [← hw] at hrun
  have hkept : w.flights = b.flights ∧ w.recov = b.recov := by
    rw [hw, hu]
    exact ⟨flights_kept fun h => h.storeAs.setRf, part_kept .recov fun h => h.storeAs.setRf⟩
  have hflights : w.flights = s.flights := by rw [hkept.1, hb]
  have hrecov : (s.runStook id).recov = r := by
    rw [hrun, State.setReco, State.setFlight_recov, hkept.2, hb]
  have hstate : (s.runStook id).stookState = w.stookState := by
    rw [hrun]
    exact State.stookState_congr (State.reg_congr (State.setFlight_regs ..) _)
  refine Completes.intro (t := s.runStook id) rfl ⟨?_, by rw [hrecov, hr], by rw [hrecov, hr], ?_⟩
  · rw [hstate, hw, State.stookState_set (by decide)]
  · rw [hrun]
    exact State.flight_any_setFlight (f := f) (by rw [State.flight_congr hflights]; exact hflight) (show f.id = id from State.flight_id hflight)
      (by simp [Flight.reco?])

theorem completes_stookTake_busy (hf : s.recRuns id 3 = some f) (hbegun : f.reco?.begun = false) (htable : s.recTableStop = none) (hbusy : s.stookState ≠ 0) :
    Completes (.stookTake id) s (fun t => t.flight id = none ∧ t.stookState = s.stookState ∧ s.Counted t (recReg 0x1B0) 1 ∧ t.mem = s.mem) := by
  have hrun : s.runStook id = (s.bump (recReg 0x1B0)).recDone id 0x0A06 := by
    rw [State.runStook, hf]
    simp only [hbegun, htable, hbusy, Option.isSome_none, Bool.and_false, Bool.not_false, Bool.false_eq_true, if_false, if_true, ne_eq, not_false_eq_true]
  have hregs : KeepsRegs doneOffsets (s.bump (recReg 0x1B0)) (s.runStook id) := hrun ▸ .recDone
  have hcount : s.Counted (s.bump (recReg 0x1B0)) (recReg 0x1B0) 1 := State.counted_bumpBy
  refine Completes.intro (t := s.runStook id) rfl ⟨by rw [hrun]; exact State.flight_recDone, ?_, hregs.counted hcount (by rw [recReg_mod]; decide), ?_⟩
  · exact State.stookState_congr ((hregs.reg _ (by rw [recReg_mod]; decide)).trans (State.reg_setReg_offset _ (by decide)))
  · rw [hrun]
    exact mem_kept fun h => h.bump.recDone

theorem completes_stookTake_stages (hok : s.MemOk) (hf : s.recRuns id 3 = some f) (hbegun : f.reco?.begun = true)
    (he : (packOffsets s.stookData (s.recOf [2, 3]))[f.reco?.idx]? = some (o, e)) (hread : s.recReadStop (e.copy s.committedSet) e.len = none)
    (hlive : ∀ i, i < e.len → s.deadAt (s.stagingBase + o + i) = false) :
    Completes (.stookTake id) s (fun t => (t.flight id).any (fun g => g.reco?.idx == f.reco?.idx + 1) = true ∧
      t.bytes (s.stagingBase + o) e.len = s.bytes (e.copy s.committedSet) e.len) := by
  have hflight := State.flight_of_recRuns hf
  obtain ⟨u, hu⟩ : ∃ u, u = (s.readAs 4 [(e.copy s.committedSet, e.len)]).storeAs 4 (s.stagingBase + o) (s.bytes (e.copy s.committedSet) e.len) := ⟨_, rfl⟩
  obtain ⟨hbytes, -, hflights⟩ := State.copied (cls := 4) (a := e.copy s.committedSet) (rs := [(e.copy s.committedSet, e.len)]) hok hlive
  rw [← hu] at hbytes hflights
  have hrun : s.runStook id = u.setReco f { f.reco? with idx := f.reco?.idx + 1 } := by
    rw [State.runStook, hf]
    simp only [hbegun, Bool.not_true, Bool.false_and, Bool.false_eq_true, if_false, he, hread]
    rw [hu]
  refine Completes.intro (t := s.runStook id) rfl ?_
  rw [hrun]
  exact ⟨State.flight_any_setFlight (f := f) (by rw [State.flight_congr hflights]; exact hflight) (show f.id = id from State.flight_id hflight)
    (by simp [Flight.reco?]), (State.bytes_congr (State.setFlight_mem ..) _ _).trans hbytes⟩

theorem KeepsRegs.showExtent {i : Nat} : KeepsRegs [0x160, 0x168] s (s.showExtent i) := by
  have hshow (b d : Nat) : KeepsRegs [0x160, 0x168] s ((s.setReg (recReg 0x160) b).setReg (recReg 0x168) d) :=
    KeepsRegs.setReg (k := .recovery) (i := 0) (off := 0x168) (KeepsRegs.setReg (k := .recovery) (i := 0) (off := 0x160) (.refl _ s))
  exact .ite (hshow _ _) (.ite (hshow _ _) (hshow _ _))

theorem completes_stookStaged (hf : s.recRuns id 3 = some f) (hbegun : f.reco?.begun = true) (hall : (s.recOf [2, 3]).length ≤ f.reco?.idx) :
    Completes (.stookStaged id) s (fun t => t.flight id = none ∧ t.stookState = 2 ∧
      t.mem = (s.store (s.stagingBase + s.recov.stookBytes - 128) (s.stookSeal s.recov.stookStep)).mem) := by
  obtain ⟨u, hu⟩ : ∃ u, u = s.storeAs 4 (s.stagingBase + s.recov.stookBytes - 128) (s.stookSeal s.recov.stookStep) := ⟨_, rfl⟩
  have hrun : s.stookStaged id = ((u.setRf (recReg 0x158) 55 48 2).showExtent 0).recDone id 0 := by
    rw [State.stookStaged, hf]
    simp only [hbegun, Bool.not_true, Bool.false_or, decide_eq_true_eq]
    rw [if_neg (by omega), hu]
  have hregs : KeepsRegs (0x160 :: 0x168 :: doneOffsets) (u.setRf (recReg 0x158) 55 48 2) (s.stookStaged id) := by
    rw [hrun]
    exact (KeepsRegs.showExtent.mono (by decide)).trans (KeepsRegs.recDone.mono (by decide))
  refine Completes.intro (t := s.stookStaged id) rfl ⟨by rw [hrun]; exact State.flight_recDone, ?_, ?_⟩
  · rw [State.stookState_congr (hregs.reg _ (by rw [recReg_mod]; decide)), State.stookState_set (by decide)]
  · have hkept : (s.stookStaged id).mem = u.mem := by
      rw [hrun]
      exact mem_kept fun h => h.setRf.showExtent.recDone
    rw [hkept, hu, State.storeAs_mem]

end

/-! ### A stook is drained (R484, R485) -/

section
variable {via : Via} {v : Word}

theorem State.writeOk_drainAck {src : Source} {v : Nat} (h : s.writeOk src .recovery 0 0x170 v = true) : s.drainOk v = true := h

theorem State.rf_showExtent {i : Nat} (hmore : i < stookExtents s.recov.stookBytes) (hi : i < 2 ^ 32) : (s.showExtent i).rf (recReg 0x168) 63 32 = i := by
  have hword (n : Nat) (hn : n < 2 ^ 32) : bitsOf (n + (i <<< 32)) 63 32 = i := by
    rw [bitsOf, Nat.shiftLeft_eq, Nat.shiftRight_eq_div_pow]
    omega
  unfold State.showExtent
  dsimp only
  rw [if_neg (by omega)]
  split
  · rw [State.rf, State.reg_setReg_self, hword _ (by decide)]
  · rw [State.rf, State.reg_setReg_self, hword _ (by omega)]

theorem completes_drainAck_next (hlands : Lands via s (recReg 0x170) v.toNat) (hmore : v.toNat + 1 < stookExtents s.recov.stookBytes)
    (hv : v.toNat + 1 < 2 ^ 32) :
    Completes (.drainAck via v) s (fun t => t.stookState = 2 ∧ t.rf (recReg 0x168) 63 32 = v.toNat + 1 ∧ t.mem = s.mem) := by
  obtain ⟨j, hcode, heq⟩ := State.writeBy_checked (k := .recovery) (i := 0) (off := 0x170) hlands v.isLt (by decide) (by decide) (by decide)
  obtain ⟨u, hu⟩ : ∃ u, u = ({ via.arrived s with journal := j } : State) := ⟨_, rfl⟩
  have hreached : Reached s u := hu ▸ .arrived via j
  have hrecov : u.recov = s.recov := hreached.touches.parts .recov rfl
  have hdrains : u.stookState = 2 := by
    have h := State.writeOk_drainAck (State.writeOk_of_writeCode hcode)
    rw [State.drainOk, Bool.and_eq_true, beq_iff_eq] at h
    rw [hu]
    exact h.1
  have hrun : u.drainAck v.toNat = u.showExtent (v.toNat + 1) := by rw [State.drainAck, hrecov, if_pos hmore]
  rw [← hu, State.writeEffect_drainAck, hrun] at heq
  have hregs : (s.writeBy via (recReg 0x170) v.toNat).regs = (u.showExtent (v.toNat + 1)).regs := (congrArg State.regs heq).trans (Via.answer_regs via)
  refine Completes.intro (t := s.writeBy via (recReg 0x170) v.toNat) rfl ⟨?_, ?_, mem_kept fun h => h.writeDrainAck v.isLt⟩
  · rw [State.stookState_congr ((State.reg_congr hregs _).trans (KeepsRegs.showExtent.reg _ (by rw [recReg_mod]; decide))), hdrains]
  · rw [State.rf_congr (State.reg_congr hregs _), State.rf_showExtent (by rw [hrecov]; exact hmore) hv]

theorem completes_drainAck_seals (hlands : Lands via s (recReg 0x170) v.toNat) (hlast : stookExtents s.recov.stookBytes ≤ v.toNat + 1) :
    Completes (.drainAck via v) s (fun t => t.stookState = 0 ∧ t.rf (recReg 0x158) 31 0 = s.recov.stookStep % 2 ^ 32 ∧
      t.rf (recReg 0x158) 47 32 = s.recov.generation % 65536 ∧ s.Counted t (recReg 0x1A8) 1 ∧ t.Raised .recovery 0 3 ∧ t.mem = s.mem) := by
  obtain ⟨u, hreached, heq⟩ := State.writeBy_accepted (k := .recovery) (i := 0) (off := 0x170) hlands v.isLt (by decide) (by decide) (by decide)
  have hrecov : u.recov = s.recov := hreached.touches.parts .recov rfl
  obtain ⟨b, hb⟩ : ∃ b, b = (u.dropStook.setRf (recReg 0x158) 47 32 (s.recov.generation % 65536)).setRf (recReg 0x158) 31 0 s.recov.stookStep := ⟨_, rfl⟩
  have hrun : u.drainAck v.toNat = (b.bump (recReg 0x1A8)).raise .recovery 0 3 0x0A0E 0 := by
    rw [State.drainAck, hrecov, if_neg (by omega), hb]
  rw [State.writeEffect_drainAck, hrun] at heq
  have hregs : (s.writeBy via (recReg 0x170) v.toNat).regs = ((b.bump (recReg 0x1A8)).raise .recovery 0 3 0x0A0E 0).regs :=
    (congrArg State.regs heq).trans (Via.answer_regs via)
  have hraise : KeepsRegs errorOffsets (b.bump (recReg 0x1A8)) ((b.bump (recReg 0x1A8)).raise .recovery 0 3 0x0A0E 0) := .raise (.refl _ _)
  have hshown : (s.writeBy via (recReg 0x170) v.toNat).reg (recReg 0x158) = b.reg (recReg 0x158) :=
    (State.reg_congr hregs _).trans ((hraise.reg _ (by rw [recReg_mod]; decide)).trans (State.reg_setReg_offset _ (by decide)))
  have hdropped : u.dropStook.stookState = 0 := by
    have hkept : u.dropStook.reg (recReg 0x158) = (u.setRf (recReg 0x158) 55 48 0).reg (recReg 0x158) :=
      (State.reg_setReg_offset _ (by decide)).trans (State.reg_setReg_offset _ (by decide))
    rw [State.stookState_congr hkept, State.stookState_set (by decide)]
  have hcounter : b.reg (recReg 0x1A8) = s.reg (recReg 0x1A8) := by
    have hkept : KeepsRegs [0x158, 0x160, 0x168] u b := by
      rw [hb]
      exact KeepsRegs.setRf (k := .recovery) (i := 0) (off := 0x158) (KeepsRegs.setRf (k := .recovery) (i := 0) (off := 0x158)
        (KeepsRegs.setReg (k := .recovery) (i := 0) (off := 0x168) (KeepsRegs.setReg (k := .recovery) (i := 0) (off := 0x160)
          (KeepsRegs.setRf (k := .recovery) (i := 0) (off := 0x158) (.refl _ u)))))
    exact (hkept.reg _ (by rw [recReg_mod]; decide)).trans (hreached.reg (by decide))
  have hcount : s.Counted (b.bump (recReg 0x1A8)) (recReg 0x1A8) 1 := State.Counted.of_reg State.counted_bumpBy hcounter
  refine Completes.intro (t := s.writeBy via (recReg 0x170) v.toNat) rfl ⟨?_, ?_, ?_, ?_, ?_, mem_kept fun h => h.writeDrainAck v.isLt⟩
  · rw [State.stookState_congr hshown, State.stookState, hb, State.rf_setRf_of_gt, State.rf_setRf_of_gt, ← State.stookState, hdropped]
  · rw [State.rf_congr hshown, hb, State.rf_setRf_self]
  · rw [State.rf_congr hshown, hb, State.rf_setRf_of_gt, State.rf_setRf_self]
    exact Nat.mod_mod_of_dvd _ (by decide)
  · exact (hraise.counted hcount (by rw [recReg_mod]; decide)).congr (State.reg_congr hregs _)
  · exact State.Raised.congr State.raised_raise (State.reg_congr hregs _)

end

/-! ### O43: a REFILL (R488, R489) -/

section
variable {id o : Nat} {f : Flight} {e : RecEnt}

theorem State.fillState_congr (h : t.reg (recReg 0x178) = s.reg (recReg 0x178)) : t.fillState = s.fillState := State.rf_congr h

theorem State.fillState_setFill {x : Nat} (hx : x < 256) : (s.setFill x).fillState = x := by
  rw [State.fillState, State.setFill, State.rf_setRf_self]
  exact Nat.mod_eq_of_lt hx

/-- A REFILL that has taken a step of its own: the state shown and its descriptor. -/
theorem State.fillStep {x : Nat} {p : RecProg} {q : Flight → Bool} (hflight : s.flight id = some f) (hx : x < 256) (ht : t.flights = s.flights ∧ t.mem = s.mem)
    (hq : q { f with prog := Prog.reco p } = true) :
    ((t.setFill x).setReco f p).fillState = x ∧ (((t.setFill x).setReco f p).flight id).any q = true ∧ ((t.setFill x).setReco f p).mem = s.mem := by
  obtain ⟨hflights, hmem⟩ := ht
  obtain ⟨w, hw⟩ : ∃ w, w = t.setFill x := ⟨_, rfl⟩
  have hkept : w.flights = t.flights ∧ w.mem = t.mem := by
    rw [hw]
    exact ⟨State.setRf_flights .., State.setRf_mem ..⟩
  have hstate : (w.setReco f p).fillState = w.fillState := State.fillState_congr (State.reg_congr (State.setFlight_regs ..) _)
  rw [← hw]
  refine ⟨?_, State.flight_any_setFlight (by rw [State.flight_congr (hkept.1.trans hflights)]; exact hflight) (show f.id = id from State.flight_id hflight) hq, ?_⟩
  · rw [hstate, hw, State.fillState_setFill hx]
  · exact (State.setFlight_mem ..).trans (hkept.2.trans hmem)

theorem completes_refill_waits (hf : s.recRuns id 4 = some f) (hcarry : f.reco?.carry = false) (hbegun : f.reco?.begun = false)
    (htable : s.recTableStop = none) (hsource : (recF f.words).source = 0) :
    Completes (.refill id) s (fun t => t.fillState = 1 ∧ (t.flight id).any (fun g => g.reco?.begun) = true ∧ t.mem = s.mem) := by
  obtain ⟨b, hb⟩ : ∃ b : State, b = { s with recov := { s.recov with fillReady := none } } := ⟨_, rfl⟩
  have hrun : s.runRefill id = (b.setFill 1).setReco f { f.reco? with begun := true } := by
    rw [State.runRefill, hf]
    simp only [hbegun, hcarry, htable, hsource, Option.isSome_none, Bool.and_false, Bool.not_false, Bool.false_eq_true, if_false, if_true, State.refillStook]
    rw [hb]
  refine Completes.intro (t := s.runRefill id) rfl ?_
  rw [hrun]
  exact State.fillStep (State.flight_of_recRuns hf) (by decide) (by rw [hb]; exact ⟨rfl, rfl⟩) (by simp [Flight.reco?])

theorem completes_refill_local (hf : s.recRuns id 4 = some f) (hcarry : f.reco?.carry = false) (htable : s.recTableStop = none)
    (hsource : (recF f.words).source = 2) (hother : s.committedStep ≠ (recF f.words).step) :
    Completes (.refill id) s (fun t => t.fillState = 3 ∧ t.mem = s.mem ∧
      (t.flight id).any (fun g => g.reco?.carry && g.reco?.set == (recF f.words).rset && g.reco?.idx == 0) = true) := by
  obtain ⟨p, hp⟩ : ∃ p, p = { f.reco? with
    begun := true, carry := true, set := (recF f.words).rset, idx := 0, msg := none, keep := false, held := [] } := ⟨_, rfl⟩
  have hrun : s.runRefill id = (s.setFill 3).setReco f p := by
    rw [State.runRefill, hf]
    simp only [hcarry, htable, hsource, hother, Option.isSome_none, Bool.and_false, Bool.not_false, Bool.false_eq_true, if_false, if_true,
      State.fillPlace, decide_false, Bool.false_and, OfNat.ofNat_ne_zero, OfNat.ofNat_ne_one]
    rw [hp]
  obtain ⟨hstate, hany, hmem⟩ := State.fillStep (q := fun g => g.reco?.carry && g.reco?.set == (recF f.words).rset && g.reco?.idx == 0)
    (State.flight_of_recRuns hf) (x := 3) (p := p) (by decide) ⟨rfl, rfl⟩ (by simp [Flight.reco?, hp])
  refine Completes.intro (t := s.runRefill id) rfl ?_
  rw [hrun]
  exact ⟨hstate, hmem, hany⟩

theorem completes_refill_places (hok : s.MemOk) (hf : s.recRuns id 4 = some f) (hbegun : f.reco?.begun = true) (hcarry : f.reco?.carry = true)
    (hsource : (recF f.words).source = 0) (he : (packOffsets 0 (s.fillEnts 0))[f.reco?.idx]? = some (o, e))
    (hlive : ∀ i, i < e.len → s.deadAt (e.copy f.reco?.set + i) = false)
    (hsound : s.readsPoison (s.stagingBase + s.stookData + o) e.len = false) :
    Completes (.refill id) s (fun t => (t.flight id).any (fun g => g.reco?.idx == f.reco?.idx + 1) = true ∧
      t.bytes (e.copy f.reco?.set) e.len = s.bytes (s.stagingBase + s.stookData + o) e.len) := by
  have hflight := State.flight_of_recRuns hf
  obtain ⟨u, hu⟩ : ∃ u, u = s.storeAs 4 (e.copy f.reco?.set) (s.bytes (s.stagingBase + s.stookData + o) e.len) := ⟨_, rfl⟩
  obtain ⟨hbytes, -, hflights⟩ := State.copied (cls := 4) (a := s.stagingBase + s.stookData + o) (rs := []) hok hlive
  have hnone : s.readAs 4 [] = s := rfl
  rw [hnone, ← hu] at hbytes hflights
  have hrun : s.runRefill id = u.setReco f { f.reco? with idx := f.reco?.idx + 1, msg := none } := by
    rw [State.runRefill, hf]
    simp only [hbegun, hcarry, hsource, he, hsound, Bool.not_true, Bool.false_and, Bool.false_eq_true, if_false, if_true, State.refillEntry]
    rw [hu]
  refine Completes.intro (t := s.runRefill id) rfl ?_
  rw [hrun]
  exact ⟨State.flight_any_setFlight (f := f) (by rw [State.flight_congr hflights]; exact hflight) (show f.id = id from State.flight_id hflight)
    (by simp [Flight.reco?]), (State.bytes_congr (State.setFlight_mem ..) _ _).trans hbytes⟩

/-- A REFILL that has placed everything sets the commit record and its own state, and raises its event. -/
theorem completes_refill_seals (hf : s.recRuns id 4 = some f) (hbegun : f.reco?.begun = true) (hcarry : f.reco?.carry = true) (hset : f.reco?.set < 2)
    (hall : (packOffsets 0 (s.fillEnts (recF f.words).source)).length ≤ f.reco?.idx) :
    Completes (.refill id) s (fun t => t.flight id = none ∧ t.fillState = 4 ∧ t.committedStep = (recF f.words).step ∧ t.committedSet = f.reco?.set ∧
      s.Counted t (recReg 0x1C0) 1 ∧ t.Raised .recovery 0 4 ∧ t.mem = s.mem) := by
  have hid : f.id = id := State.flight_id (State.flight_of_recRuns hf)
  obtain ⟨c, hc⟩ : ∃ c, c = s.setCommit (recF f.words).step f.reco?.set := ⟨_, rfl⟩
  obtain ⟨b, hb⟩ : ∃ b, b = (c.setFill 4).setRf (recReg 0x178) 31 0 (recF f.words).step := ⟨_, rfl⟩
  obtain ⟨w, hw⟩ : ∃ w, w = (b.bump (recReg 0x1C0)).raise .recovery 0 4 0x0A0F f.work := ⟨_, rfl⟩
  have hrun : s.runRefill id = w.recDone id 0 := by
    rw [State.runRefill, hf]
    simp only [hbegun, hcarry, Bool.not_true, Bool.false_and, Bool.false_eq_true, if_false, List.getElem?_eq_none hall, State.fillSealed, hid]
    rw [hw, hb, hc]
  have hbump : KeepsRegs (0x1C0 :: doneOffsets) b (b.bump (recReg 0x1C0)) := KeepsRegs.bump (k := .recovery) (i := 0) (off := 0x1C0) (.refl _ b)
  have hraise : KeepsRegs doneOffsets (b.bump (recReg 0x1C0)) w := hw ▸ .raise (.refl _ _)
  have hdone : KeepsRegs doneOffsets w (s.runRefill id) := hrun ▸ .recDone
  have hlate : KeepsRegs (0x1C0 :: doneOffsets) b (s.runRefill id) := hbump.trans ((hraise.trans hdone).mono (by decide))
  have hfill : KeepsRegs [0x178] c b := by
    rw [hb]
    exact KeepsRegs.setRf (k := .recovery) (i := 0) (off := 0x178) (KeepsRegs.setRf (k := .recovery) (i := 0) (off := 0x178) (.refl _ c))
  have hcommit : (s.runRefill id).reg (recReg 0x148) = c.reg (recReg 0x148) :=
    (hlate.reg _ (by rw [recReg_mod]; decide)).trans (hfill.reg _ (by rw [recReg_mod]; decide))
  obtain ⟨hstep, hcset⟩ := State.commit_setCommit (s := s) (recF_lt f.words).1 hset
  have hcount : s.Counted (b.bump (recReg 0x1C0)) (recReg 0x1C0) 1 := by
    refine State.Counted.of_reg State.counted_bumpBy ((hfill.reg _ (by rw [recReg_mod]; decide)).trans ?_)
    rw [hc]
    exact State.reg_setReg_offset _ (by decide)
  refine Completes.intro (t := s.runRefill id) rfl ⟨by rw [hrun]; exact State.flight_recDone, ?_, ?_, ?_, ?_, ?_, ?_⟩
  · rw [State.fillState_congr (hlate.reg _ (by rw [recReg_mod]; decide)), State.fillState, hb, State.rf_setRf_of_gt, ← State.fillState,
      State.fillState_setFill (by decide)]
  · rw [(State.commit_congr hcommit).1, hc, hstep]
  · rw [(State.commit_congr hcommit).2, hc, hcset]
  · exact (hraise.trans hdone).counted hcount (by rw [recReg_mod]; decide)
  · exact hdone.raised _ _ _ (hw ▸ State.raised_raise)
  · rw [hrun, hw, hb, hc]
    exact mem_kept fun h => h.setCommit.setFill.setRf.bump.raise.recDone

end

section
variable {via : Via} {v : Word}

theorem State.writeEffect_fillReady {src : Source} {v : Nat} : s.writeEffect src .recovery 0 0x180 v = s.fillReady v := rfl

theorem completes_fillReady (hlands : Lands via s (recReg 0x180) v.toNat) :
    Completes (.fillReady via v) s (fun t => t.mem = s.mem ∧
      (s.fillState = 1 → t.fillState = 2 ∧ t.recov.fillReady = some v.toNat) ∧ (s.fillState ≠ 1 → t.fillState = s.fillState ∧ t.recov = s.recov)) := by
  obtain ⟨u, hreached, heq⟩ := State.writeBy_accepted (k := .recovery) (i := 0) (off := 0x180) hlands v.isLt (by decide) (by decide) (by decide)
  rw [State.writeEffect_fillReady] at heq
  have hstood : u.fillState = s.fillState := State.fillState_congr (hreached.reg (by decide))
  have hrecov : (s.writeBy via (recReg 0x180) v.toNat).recov = (u.fillReady v.toNat).recov := (congrArg State.recov heq).trans (Via.answer_kept via .recov)
  have hregs : (s.writeBy via (recReg 0x180) v.toNat).regs = (u.fillReady v.toNat).regs := (congrArg State.regs heq).trans (Via.answer_regs via)
  have hshown := State.fillState_congr (State.reg_congr hregs (recReg 0x178))
  refine Completes.intro (t := s.writeBy via (recReg 0x180) v.toNat) rfl ⟨mem_kept fun h => h.writeFillReady v.isLt, fun hwaits => ?_, fun hnot => ?_⟩
  · have hrun : u.fillReady v.toNat = ({ u with recov := { u.recov with fillReady := some v.toNat } } : State).setFill 2 := by
      rw [State.fillReady, if_pos (hstood.trans hwaits)]
    rw [hrun] at hshown hrecov
    rw [hshown, State.fillState_setFill (by decide), hrecov, State.setFill, State.setRf_recov]
    exact ⟨rfl, rfl⟩
  · have hrun : u.fillReady v.toNat = u := by rw [State.fillReady, if_neg (by rw [hstood]; exact hnot)]
    rw [hrun] at hshown hrecov
    exact ⟨hshown.trans hstood, hrecov.trans (hreached.touches.parts .recov rfl)⟩

end

/-- Settles O43, clause by clause. -/
theorem stooksAndRefills : Obligations.StooksAndRefills :=
  ⟨fun _ _ _ hf hbegun htable hidle => completes_stookTake_begins hf hbegun htable hidle,
    fun _ _ _ hf hbegun htable hbusy => completes_stookTake_busy hf hbegun htable hbusy,
    fun _ _ _ _ _ hok hf hbegun he hread hlive => completes_stookTake_stages hok hf hbegun he hread hlive,
    fun _ _ _ hf hbegun hall => completes_stookStaged hf hbegun hall,
    fun _ _ _ hlands hmore hv => completes_drainAck_next hlands hmore hv,
    fun _ _ _ hlands hlast => completes_drainAck_seals hlands hlast,
    fun _ _ _ hf hcarry hbegun htable hsource => completes_refill_waits hf hcarry hbegun htable hsource,
    fun _ _ _ hf hcarry htable hsource hother => completes_refill_local hf hcarry htable hsource hother,
    fun _ _ _ _ _ hok hf hbegun hcarry hsource he hlive hsound => completes_refill_places hok hf hbegun hcarry hsource he hlive hsound,
    fun _ _ _ hf hbegun hcarry hset hall => completes_refill_seals hf hbegun hcarry hset hall,
    fun _ _ _ hlands => completes_fillReady hlands⟩

end Sys2Proof.Machine
end

section
/-!
Cold and warm resets (O50).
-/
namespace Sys2Proof.Machine

set_option Elab.async false

variable {G : Prop} {F : Footprint} {s t u : State}

/-! ### A write of STEWARD_RESET (R531, R532) -/

section
variable {via : Via} {src : Source} {v : Nat}

/-- What a port leaves that answers a reset's request before the reset: of Steward, all but the answers kept and sent. -/
structure Answered (s t : State) : Prop where
  steward : t.steward = { s.steward with mgmtLast := t.steward.mgmtLast, mgmtOut := t.steward.mgmtOut }
  touches : Touches False ⟨[.regs, .hitch, .steward, .freeCtr], [.steward]⟩ s t

theorem Answered.refl (s : State) : Answered s s := ⟨rfl, .refl False.elim⟩

theorem Answered.of_kept (h : Answered s t) (hu : Touches False ⟨[.regs, .hitch, .freeCtr], [.steward]⟩ t u) : Answered s u where
  steward := by
    have hkept : u.steward = t.steward := hu.parts .steward rfl
    rw [hkept]
    exact h.steward
  touches := h.touches.trans (hu.mono rfl)

theorem Answered.mgmtAnswer {b : List Byte} (h : Answered s t) : Answered s (t.mgmtAnswer b) where
  steward := by
    rw [State.mgmtAnswer, h.steward]
  touches := h.touches.mgmtAnswer

theorem Answered.etherAnswer {write : Bool} {tag seq a v data : Nat} (h : Answered s t) : Answered s (t.etherAnswer write tag seq a v 0 data) where
  steward := by
    simp only [State.etherAnswer, State.mgmtAnswer, if_true]
    rw [h.steward]
  touches := h.touches.etherAnswer

theorem State.writeCode_reset {src' : Source} : t.writeCode src .steward 0 0x110 v = s.writeCode src' .steward 0 0x110 v := by
  have hjournals : journals .steward 0x110 = false := by decide
  have hok (u : State) (from_ : Source) : u.writeOk from_ .steward 0 0x110 v = resetWordOk v := rfl
  simp only [State.writeCode, hjournals, hok, Bool.false_and, Bool.false_eq_true, if_false]

/-- A write of STEWARD_RESET that a page accepts is accepted whenever it comes, and is the reset. -/
theorem State.regWrite_reset (h : (s.regWrite src (stewReg 0x110) v).code = 0) (t : State) : t.regWrite src (stewReg 0x110) v = .ok (t.resetWrite src v) := by
  obtain ⟨k, i, hpage, -, -, hcode, -⟩ := State.regWrite_accepted h
  obtain ⟨rfl, rfl⟩ : PageKind.steward = k ∧ 0 = i := by
    have hat : pageAt (stewReg 0x110) 8 = some (.steward, 0) := by decide
    simpa [hat] using hpage
  have hat : pageAt (stewReg 0x110) 8 = some (.steward, 0) := by decide
  have hoff : stewReg 0x110 % 0x1000 = 0x110 := by decide
  rw [hoff] at hcode
  have haccepted : t.writeCode src .steward 0 0x110 v = 0 := State.writeCode_reset.trans hcode
  have hplain : ((regFields .steward 0x110).any fun f => f.acc == .rwj) = false := by decide
  have hrun : t.writeJournaled src .steward 0 0x110 v = t.resetWrite src v := by
    simp only [State.writeJournaled, hplain, Bool.false_eq_true, if_false]
    rfl
  unfold State.regWrite
  rw [hat]
  dsimp only
  rw [if_neg (by decide), hoff, if_neg (by decide), haccepted, if_neg (by decide), if_neg (by decide), hrun]

/-- A management port with the fabric open answers, counts the request and resets. -/
theorem State.mgmtRun_reset {answer : State → Nat → Nat → State} {held : Nat → List Byte} (hopen : s.steward.fabricOpen = true)
    (hreply : ∀ t : State, t.regWrite src (stewReg 0x110) v = .ok (t.resetWrite src v)) :
    s.mgmtRun src true (stewReg 0x110) v answer held = ((answer s 0 0).bump (stewReg 0x1A0)).resetWrite src v := by
  have hgate : s.mgmtGate true (stewReg 0x110) = .open_ := by simp [State.mgmtGate, hopen]
  have hexec (w : State) : w.mgmtExec src true (stewReg 0x110) v = .ok ((w.bump (stewReg 0x1A0)).resetWrite src v) := by
    simp only [State.mgmtExec, if_true, hreply]
    rfl
  simp only [State.mgmtRun, hgate, hexec, Reply.ok, decide_true, Bool.and_true, if_true]

/-- The two-wire and test ports answer a write with nothing. -/
theorem State.blockRequest_reset (hopen : s.steward.fabricOpen = true) (hawake : s.awake = true)
    (hreply : ∀ t : State, t.regWrite src (stewReg 0x110) v = .ok (t.resetWrite src v)) :
    s.blockRequest src true (stewReg 0x110) v = (s.drawn.bump (stewReg 0x1A0)).resetWrite src v := by
  rw [State.blockRequest, hawake, Bool.not_true, if_neg Bool.noConfusion, State.mgmtRun_reset (s := s.drawn) hopen hreply, State.blockAnswer, if_pos rfl]

/-- Each port answers first, and the reset begins in the state that the answer leaves. -/
theorem State.writeBy_reset (hlands : Lands via s (stewReg 0x110) v) (hv : v < 2 ^ 64) :
    ∃ u, Answered s u ∧ s.writeBy via (stewReg 0x110) v = u.resetWrite via.source v := by
  obtain ⟨htakes, hcode⟩ := hlands
  have hreply (t : State) : t.regWrite via.source (stewReg 0x110) v = .ok (t.resetWrite via.source v) := State.regWrite_reset hcode t
  have hmgmt {t : State} (h : Answered s t) : Answered s (t.bump (stewReg 0x1A0)) := h.of_kept (Touches.bump (.refl False.elim))
  have hdrawn : Answered s s.drawn := (Answered.refl s).of_kept (Touches.drawn (.refl False.elim))
  cases via with
  | hitch seq tag =>
    refine ⟨((Via.hitch seq tag).arrived s).respond tag.toNat (stewReg 0x110) 0 0, ?_, ?_⟩
    · exact (Answered.refl s).of_kept (Touches.respond (.same (h := .refl False.elim)))
    · rw [State.writeBy_hitch, State.receiveFlit_of_takes htakes (by omega) (by decide) (by omega) (fun _ => hv)]
      have hword : v % 2 ^ 64 = v := Nat.mod_eq_of_lt hv
      have hhitch (t : State) : t.regWrite .hitch (stewReg 0x110) v = .ok (t.resetWrite .hitch v) := hreply t
      rw [State.execRequest, if_neg (by decide), if_pos rfl]
      simp only [hword, hhitch, Reply.ok, decide_true, Bool.and_true, if_true]
      rfl
  | ethernet seq tag =>
    obtain ⟨hopen, ⟨hawake, hmclk⟩, hnew⟩ : s.steward.fabricOpen = true ∧ (s.awake = true ∧ s.steward.mclk = true) ∧
        s.steward.mgmtLast.all (fun (m : Nat × List Byte) => m.1 != seq.toNat) = true := by
      simpa only [Via.Takes, Via.takes, Bool.and_eq_true] using htakes
    refine ⟨(s.drawn.etherAnswer true tag.toNat seq.toNat (stewReg 0x110) v 0 0).bump (stewReg 0x1A0), hmgmt hdrawn.etherAnswer, ?_⟩
    change s.etherRequest (datagram 2 tag.toNat 0 seq.toNat (stewReg 0x110) v) = _
    rw [State.etherRequest_write hawake hmclk hnew (by decide) hv]
    exact State.mgmtRun_reset (s := s.drawn) hopen hreply
  | twoWire =>
    obtain ⟨hopen, hawake⟩ : s.steward.fabricOpen = true ∧ s.awake = true := by simpa [Via.Takes, Via.takes] using htakes
    refine ⟨s.drawn.bump (stewReg 0x1A0), hmgmt hdrawn, ?_⟩
    exact State.blockRequest_reset hopen hawake hreply
  | jtag =>
    obtain ⟨hopen, hawake⟩ : s.steward.fabricOpen = true ∧ s.awake = true := by simpa [Via.Takes, Via.takes] using htakes
    refine ⟨s.drawn.bump (stewReg 0x1A0), hmgmt hdrawn, ?_⟩
    exact State.blockRequest_reset hopen hawake hreply

end

/-! ### O50: a cold reset (R471, R532, R533) -/

section
variable {via : Via} {cause addr src n : Nat}

/-- What a reset's entries in the journal and the log leave: the Tithe and, of Steward, what a cold reset keeps. -/
structure Entered (s t : State) : Prop where
  tithe : t.tithe = s.tithe
  resetsCold : t.steward.resetsCold = s.steward.resetsCold
  vin : t.steward.vin = s.steward.vin
  vstby : t.steward.vstby = s.steward.vstby

theorem Entered.trans (h : Entered s t) (h' : Entered t u) : Entered s u :=
  ⟨h'.tithe.trans h.tithe, h'.resetsCold.trans h.resetsCold, h'.vin.trans h.vin, h'.vstby.trans h.vstby⟩

theorem Entered.journalAdd {kind old new : Nat} (h : Entered s t) : Entered s (t.journalAdd addr src kind old new) := h.trans ⟨rfl, rfl, rfl, rfl⟩

theorem Entered.journalFlush (h : Entered s t) : Entered s t.journalFlush := h.trans ⟨rfl, rfl, rfl, rfl⟩

theorem Entered.logOpen {info : Nat} (h : Entered s t) : Entered s (t.logOpen info) := h.trans ⟨rfl, rfl, rfl, rfl⟩

theorem State.logOpen_journal {info : Nat} : (s.logOpen info).journal = s.journal := part_kept .journal fun h => h.logOpen

theorem State.enterCause_entered : Entered s s.enterCause := by
  unfold State.enterCause
  dsimp only
  split <;> exact ⟨rfl, rfl, rfl, rfl⟩

theorem State.journalFlush_pending : s.journalFlush.journal.pending = [] := List.drop_length

/-- A cold reset: work and memory are gone, bring-up starts again, and the Tithe's measurement and Steward's inputs stand. -/
structure ColdReset (cause : Nat) (s t : State) : Prop where
  mem : t.mem = []
  flights : t.flights = []
  stage : t.steward.stage = 0
  closed : t.steward.fabricOpen = false
  seq : t.tithe.seq = s.tithe.seq
  energy : t.tithe.energy = s.tithe.energy
  counted : t.steward.resetsCold = min counterStop (s.steward.resetsCold + 1)
  vin : t.steward.vin = s.steward.vin
  vstby : t.steward.vstby = s.steward.vstby
  written : cause = 3 ∨ cause = 5 → t.journal.pending = []
  waiting : ¬(cause = 3 ∨ cause = 5) → t.steward.causePending = cause

theorem State.coldReset_of_entered {w : State} {c : Nat} (hw : Entered s w) (hpending : cause = 3 ∨ cause = 5 → w.journal.pending = [])
    (hc : ¬(cause = 3 ∨ cause = 5) → c = cause) :
    ColdReset cause s { w.wipe with steward := { w.wipe.steward with causePending := c, resetsCold := min counterStop (w.wipe.steward.resetsCold + 1) } } where
  mem := rfl
  flights := rfl
  stage := rfl
  closed := rfl
  seq := by
    change w.tithe.seq = s.tithe.seq
    rw [hw.tithe]
  energy := by
    change w.tithe.energy = s.tithe.energy
    rw [hw.tithe]
  counted := congrArg (fun n => min counterStop (n + 1)) hw.resetsCold
  vin := hw.vin
  vstby := hw.vstby
  written := hpending
  waiting := hc

theorem State.coldReset_done : ColdReset cause s (s.coldReset cause addr src) := by
  by_cases hearly : cause = 3 ∨ cause = 5
  · have htest : (cause == 3 || cause == 5) = true := by simpa using hearly
    simp only [State.coldReset, htest, if_true]
    refine State.coldReset_of_entered State.enterCause_entered.journalAdd.journalFlush.logOpen (fun _ => ?_) (fun h => absurd hearly h)
    rw [State.logOpen_journal]
    exact State.journalFlush_pending
  · have htest : (cause == 3 || cause == 5) = false := by simpa using hearly
    simp only [State.coldReset, htest, Bool.false_eq_true, if_false]
    exact State.coldReset_of_entered State.enterCause_entered (fun h => absurd h hearly) (fun _ => rfl)

theorem completes_coldResetRequest (hlands : Lands via s (stewReg 0x110) 2) :
    Completes (.coldResetRequest via) s (fun t => t.steward.stage = 0 ∧ t.steward.fabricOpen = false ∧ t.mem = [] ∧ t.flights = [] ∧
      t.journal.pending = [] ∧ t.tithe.seq = s.tithe.seq ∧ t.steward.resetsCold = min counterStop (s.steward.resetsCold + 1)) := by
  obtain ⟨u, hu, heq⟩ := State.writeBy_reset hlands (by decide)
  have hreset : ColdReset 5 u (s.writeBy via (stewReg 0x110) 2) := by
    rw [heq, State.resetWrite, if_neg (by decide), if_neg (by decide)]
    exact State.coldReset_done
  have hmeasured : u.tithe.withWords [] [] = s.tithe.withWords [] [] := hu.touches.parts .tithe rfl
  have htithe : u.tithe.seq = s.tithe.seq := by
    have h := congrArg TitheSt.seq hmeasured
    exact h
  have hcount : u.steward.resetsCold = s.steward.resetsCold := by rw [hu.steward]
  refine Completes.intro (t := s.writeBy via (stewReg 0x110) 2) rfl ⟨hreset.stage, hreset.closed, hreset.mem, hreset.flights, hreset.written (.inr rfl), ?_, ?_⟩
  · rw [hreset.seq, htithe]
  · rw [hreset.counted, hcount]

theorem completes_resetN {n : Nat} (hpower : s.steward.vstby = true) (hlong : 10 ≤ n) :
    Completes (.resetN n) s (fun t => t.steward.stage = 0 ∧ t.steward.fabricOpen = false ∧ t.mem = [] ∧ t.flights = [] ∧ t.journal.pending = [] ∧
      t.tithe.energy = s.tithe.energy ∧ t.steward.resetsCold = min counterStop (s.steward.resetsCold + 1)) := by
  have hrun : s.resetPin n = s.coldReset 3 0 4 := by simp [State.resetPin, hpower, hlong]
  have hreset : ColdReset 3 s (s.resetPin n) := hrun ▸ State.coldReset_done
  exact Completes.intro (t := s.resetPin n) rfl
    ⟨hreset.stage, hreset.closed, hreset.mem, hreset.flights, hreset.written (.inl rfl), hreset.energy, hreset.counted⟩

theorem exec_resetN_short {n : Nat} (hshort : n < 10) : exec (.resetN n) s = .next s := by
  have hrun : s.resetPin n = s := by simp [State.resetPin, hshort]
  exact congrArg Host.Outcome.next hrun

theorem completes_mainInputApplied (hoff : s.steward.vin = false) (hpower : s.steward.vstby = true) :
    Completes .mainInputApplied s (fun t => t.steward.vin = true ∧ t.steward.stage = 0 ∧ t.mem = [] ∧ t.flights = [] ∧ t.steward.causePending = 1) := by
  obtain ⟨b, hb⟩ : ∃ b : State, b = { s with steward := { s.steward with vin := true } } := ⟨_, rfl⟩
  have hrun : s.mainInput = b.coldReset 1 0 4 := by simp [State.mainInput, hoff, hpower, hb]
  have hreset : ColdReset 1 b s.mainInput := hrun ▸ State.coldReset_done
  refine Completes.intro (t := s.mainInput) rfl ⟨?_, hreset.stage, hreset.mem, hreset.flights, hreset.waiting (by decide)⟩
  rw [hreset.vin, hb]

theorem completes_standbyApplied (hoff : s.steward.vstby = false) :
    Completes .standbyApplied s (fun t => t.steward.vstby = true ∧ t.steward.stage = 0 ∧ t.mem = [] ∧ t.steward.causePending = 2) := by
  obtain ⟨b, hb⟩ : ∃ b : State, b = { s with steward := { s.steward with vstby := true } } := ⟨_, rfl⟩
  have hrun : s.standbyInput = b.coldReset 2 0 4 := by simp [State.standbyInput, hoff, hb]
  have hreset : ColdReset 2 b s.standbyInput := hrun ▸ State.coldReset_done
  refine Completes.intro (t := s.standbyInput) rfl ⟨?_, hreset.stage, hreset.mem, hreset.waiting (by decide)⟩
  rw [hreset.vstby, hb]

/-! ### O50: a warm reset (R530, R531, R533) -/

theorem completes_warmResetRequest (hlands : Lands via s (stewReg 0x110) 1) (hwarm : s.steward.warm = false) (hready : s.steward.ready = true)
    (hnone : s.steward.warmPending = none) (hstate : s.power.state < 2) (hgoal : s.power.goal = none) :
    Completes (.warmResetRequest via) s (fun t => t.steward.warm = true ∧ t.steward.stage = 0x20 ∧ t.steward.fabricOpen = false ∧ t.mem = s.mem ∧
      t.journal.pending = [] ∧ ∀ f ∈ t.flights, f.fired = true ∧ f.started = true) := by
  obtain ⟨u, hu, heq⟩ := State.writeBy_reset hlands (by decide)
  have hsteward := hu.steward
  have hpower : u.power = s.power := hu.touches.parts .power rfl
  have hfree : (u.steward.warm || !u.steward.ready || u.steward.warmPending.isSome) = false := by
    rw [hsteward]
    simp [hwarm, hready, hnone]
  have hrun : s.writeBy via (stewReg 0x110) 1 = u.beginWarm via.source.code := by
    rw [heq, State.resetWrite, if_neg (by decide), if_pos rfl, State.requestWarm, hfree, if_neg Bool.noConfusion, hpower, hgoal]
    rw [if_neg (by simpa using hstate)]
  refine Completes.intro (t := s.writeBy via (stewReg 0x110) 1) rfl ?_
  rw [hrun]
  refine ⟨rfl, rfl, rfl, ?_, State.journalFlush_pending (s := u.journalAdd 0x2110 via.source.code 1 0 4), fun f hf => ?_⟩
  · exact (mem_kept fun h => h.beginWarm).trans (hu.touches.parts .mem rfl)
  · simpa using List.of_mem_filter hf

theorem completes_hitchRetrainRequest (hlands : Lands via s (stewReg 0x110) 4) :
    Completes (.hitchRetrainRequest via) s (fun t => t.hitch.link = .down ∧ t.hitch.attempts = 0 ∧ t.mem = s.mem ∧ t.flights = s.flights) := by
  obtain ⟨u, hu, heq⟩ := State.writeBy_reset hlands (by decide)
  have hrun : s.writeBy via (stewReg 0x110) 4 = u.retrainHitch false := by rw [heq, State.resetWrite, if_pos rfl]
  refine Completes.intro (t := s.writeBy via (stewReg 0x110) 4) rfl ?_
  rw [hrun]
  exact ⟨rfl, rfl, hu.touches.parts .mem rfl, hu.touches.parts .flights rfl⟩

end

/-! The stages of a warm reset. -/

/-- Of Hitch, an event queues a record or is lost to the queue, and changes nothing else. -/
def State.SameLink (s t : State) : Prop := ∃ events overflow, t.hitch = { s.hitch with events := events, overflow := overflow }

theorem State.SameLink.refl (s : State) : s.SameLink s := ⟨_, _, rfl⟩

theorem State.SameLink.of_hitch (h : s.SameLink t) (hu : u.hitch = t.hitch) : s.SameLink u := by
  obtain ⟨events, overflow, h⟩ := h
  exact ⟨events, overflow, hu.trans h⟩

theorem State.pushRecord_sameLink {r : EventRec} : s.SameLink (s.pushRecord r) := by
  unfold State.pushRecord
  dsimp only
  split_ifs <;> exact ⟨_, _, rfl⟩

theorem State.raise_sameLink {k : PageKind} {i bit info work : Nat} : s.SameLink (s.raise k i bit info work) := by
  unfold State.raise
  dsimp only
  split_ifs
  · exact ⟨_, _, rfl⟩
  · exact ⟨_, _, rfl⟩
  · exact State.pushRecord_sameLink (s := (s.noteSet (regAddr k i 0x030) bit).setReg (regAddr k i 0x030) (s.reg (regAddr k i 0x030) ||| (1 <<< bit)))

theorem State.noteCapacity_sameLink {before : State} : s.SameLink (s.noteCapacity before) := by
  unfold State.noteCapacity
  split
  · exact State.raise_sameLink.of_hitch (State.capture_hitch ..)
  · exact .refl s

theorem State.SameLink.held (h : s.SameLink t) : t.hitch.held = s.hitch.held := by
  obtain ⟨_, _, h⟩ := h
  rw [h]

theorem State.SameLink.link (h : s.SameLink t) : t.hitch.link = s.hitch.link := by
  obtain ⟨_, _, h⟩ := h
  rw [h]

theorem State.SameLink.lastError (h : s.SameLink t) : t.hitch.lastError = s.hitch.lastError := by
  obtain ⟨_, _, h⟩ := h
  rw [h]

theorem State.respond_held {tag a status payload : Nat} : (s.respond tag a status payload).hitch.held = s.hitch.held := by
  unfold State.respond State.sendNumbered
  split <;> rfl

theorem State.answerHeld_held : s.answerHeld.hitch.held = [] :=
  foldl_inv (fun t : State => t.hitch.held = []) _ _ (fun _ _ h => State.respond_held.trans h) rfl

/-- The fabric opens, whatever the link and the boot left to report. -/
theorem State.openFabric_opened : s.openFabric.steward.warm = false ∧ s.openFabric.steward.fabricOpen = true ∧ s.openFabric.steward.ready = true ∧
    s.openFabric.steward.stage = 0x0E := by
  have hlink {t : State} {bit code : Nat} : (t.linkError bit code).steward = t.steward := part_kept .steward fun h => h.linkError
  unfold State.openFabric
  dsimp only
  split_ifs <;> simp [hlink]

theorem completes_warmResetStage (hwarm : s.steward.warm = true) :
    Completes .warmResetStage s (fun t =>
      (s.steward.stage = 0x20 → t.steward.stage = 0x21 ∧ t.hitch.held = []) ∧
      (s.steward.stage = 0x21 → t.steward.stage = 0x22 ∧ t.flights = [] ∧ t.flags = [] ∧ t.furlong = none ∧
        t.windows = s.windows.map (fun _ => ⟨[], [], false, false, false⟩)) ∧
      (s.steward.stage = 0x22 → t.steward.stage = 0x23) ∧
      (s.steward.stage = 0x23 → t.steward.warm = false ∧ t.steward.fabricOpen = true ∧ t.steward.ready = true ∧ t.steward.stage = 0x0E)) := by
  have hstep : (!s.steward.warm) = false := by simp [hwarm]
  have hnoted {w : State} (h : s.warmStage = w) : (s.warmStage.noteCapacity s).steward = w.steward := by rw [State.noteCapacity_steward, h]
  refine Completes.intro (t := s.warmStage.noteCapacity s) rfl ⟨fun hstage => ?_, fun hstage => ?_, fun hstage => ?_, fun hstage => ?_⟩
  · have hrun : s.warmStage = (((List.range 8).foldl (fun t f => t.plotRestore f (fun _ => true)) s).answerHeld).setStage 0x21 0 := by
      rw [State.warmStage, hstep, if_neg Bool.noConfusion, if_pos hstage]
    refine ⟨by rw [hnoted hrun]; rfl, ?_⟩
    rw [State.noteCapacity_sameLink.held, hrun]
    exact State.answerHeld_held
  · have hrun : s.warmStage = s.flushWork.setStage 0x22 0 := by
      rw [State.warmStage, hstep, if_neg Bool.noConfusion, hstage, if_neg (by decide), if_pos rfl]
    refine ⟨by rw [hnoted hrun]; rfl, ?_, ?_, ?_, ?_⟩
    · rw [State.noteCapacity_flights, hrun]; rfl
    · rw [State.noteCapacity_flags, hrun]; rfl
    · rw [State.noteCapacity_furlong, hrun]; rfl
    · rw [State.noteCapacity_windows, hrun]; rfl
  · have hrun : s.warmStage = s.mapOut.setStage 0x23 0 := by
      rw [State.warmStage, hstep, if_neg Bool.noConfusion, hstage, if_neg (by decide), if_neg (by decide), if_pos rfl]
    rw [hnoted hrun]
    rfl
  · have hrun : s.warmStage = ((List.range 8).foldl (fun t f => if t.lost f then t else t.resetGlean f) s).openFabric := by
      rw [State.warmStage, hstep, if_neg Bool.noConfusion, hstage, if_neg (by decide), if_neg (by decide), if_neg (by decide)]
    rw [hnoted hrun]
    exact State.openFabric_opened

/-- Settles O50, clause by clause. -/
theorem resetsRun : Obligations.ResetsRun :=
  ⟨fun _ _ hlands => completes_coldResetRequest hlands, fun _ _ hpower hlong => completes_resetN hpower hlong, fun _ _ hshort => exec_resetN_short hshort,
    fun _ hoff hpower => completes_mainInputApplied hoff hpower, fun _ hoff => completes_standbyApplied hoff,
    fun _ _ hlands hwarm hready hnone hstate hgoal => completes_warmResetRequest hlands hwarm hready hnone hstate hgoal,
    fun _ _ hlands => completes_hitchRetrainRequest hlands, fun _ hwarm => completes_warmResetStage hwarm⟩

end Sys2Proof.Machine
end

section
/-!
Power states (O44).
-/
namespace Sys2Proof.Machine

set_option Elab.async false

variable {G : Prop} {F : Footprint} {s t u : State}

/-! ### O44: a power state is asked for (R494, R495) -/

theorem powReg_mod : powReg off % 0x1000 = off % 0x1000 := regAddr_mod ..

section
variable {via : Via} {g : Nat}

theorem State.writeEffect_target {src : Source} {v : Nat} : s.writeEffect src .power 0 0x100 v = s.setTarget (bitsOf v 23 16) := rfl

theorem State.setTarget_kept : (s.setTarget g).regs = (s.setRf (powReg 0x100) 23 16 g).regs ∧ (s.setTarget g).power.state = s.power.state ∧
    (s.setTarget g).power.goal = if g = 0 ∧ s.power.state ≤ 1 ∧ s.power.goal = none then none else some g := by
  obtain ⟨b, hb⟩ : ∃ b, b = s.setRf (powReg 0x100) 23 16 g := ⟨_, rfl⟩
  have hpower : b.power = s.power := by rw [hb, State.setRf_power]
  by_cases h : g = 0 ∧ s.power.state ≤ 1 ∧ s.power.goal = none
  · have hrun : s.setTarget g = b := by
      obtain ⟨hg, hstate, hgoal⟩ := h
      simp [State.setTarget, hg, hstate, hgoal, hb]
    rw [hrun, if_pos h, hpower]
    exact ⟨by rw [hb], rfl, h.2.2⟩
  · have hrun : s.setTarget g = { b with power := { b.power with goal := some g } } := by
      have htest : ¬(decide (g = 0) && decide (s.power.state ≤ 1) && s.power.goal.isNone) = true := by simpa [and_assoc] using h
      rw [State.setTarget]
      dsimp only
      rw [if_neg htest, hb]
    rw [hrun, if_neg h]
    refine ⟨by rw [hb], ?_, rfl⟩
    change b.power.state = s.power.state
    rw [hpower]

/-- A landed target: shown, and asked for unless the module runs already. -/
theorem State.writeBy_target (hlands : Lands via s (powReg 0x100) (g <<< 16)) (hg : g < 256) :
    (s.writeBy via (powReg 0x100) (g <<< 16)).rf (powReg 0x100) 23 16 = g ∧
    (s.writeBy via (powReg 0x100) (g <<< 16)).power.state = s.power.state ∧ (s.writeBy via (powReg 0x100) (g <<< 16)).power.goal =
      (if g = 0 ∧ s.power.state ≤ 1 ∧ s.power.goal = none then none else some g) ∧
    (s.writeBy via (powReg 0x100) (g <<< 16)).mem = s.mem := by
  have hv : g <<< 16 < 2 ^ 64 := by
    rw [Nat.shiftLeft_eq]
    omega
  obtain ⟨u, hreached, heq⟩ := State.writeBy_accepted (k := .power) (i := 0) (off := 0x100) hlands hv (by decide) (by decide) (by decide)
  have hfield : bitsOf (g <<< 16) 23 16 = g := by
    rw [bitsOf, Nat.shiftLeft_eq, Nat.shiftRight_eq_div_pow]
    omega
  rw [State.writeEffect_target, hfield] at heq
  have hpower : u.power = s.power := hreached.touches.parts .power rfl
  obtain ⟨hset, hstate, hgoal⟩ := State.setTarget_kept (s := u) (g := g)
  rw [hpower] at hstate hgoal
  have hkept : (s.writeBy via (powReg 0x100) (g <<< 16)).power = (u.setTarget g).power := (congrArg State.power heq).trans (Via.answer_kept via .power)
  refine ⟨?_, by rw [hkept, hstate], by rw [hkept, hgoal], mem_kept fun h => h.writeTarget hv⟩
  · have hregs : (s.writeBy via (powReg 0x100) (g <<< 16)).regs = (u.setRf (powReg 0x100) 23 16 g).regs :=
      (congrArg State.regs heq).trans ((Via.answer_regs via).trans hset)
    rw [State.rf_congr (State.reg_congr hregs _), State.rf_setRf_self]
    exact Nat.mod_eq_of_lt hg

theorem completes_targetRun (hlands : Lands via s (powReg 0x100) (0 <<< 16)) :
    Completes (.targetRun via) s (fun t => t.rf (powReg 0x100) 23 16 = 0 ∧ t.power.state = s.power.state ∧
      t.power.goal = (if s.power.state ≤ 1 ∧ s.power.goal = none then none else some 0) ∧ t.mem = s.mem) := by
  obtain ⟨hshown, hstate, hgoal, hmem⟩ := State.writeBy_target hlands (by decide)
  exact Completes.intro (t := s.writeBy via (powReg 0x100) (0 <<< 16)) rfl ⟨hshown, hstate, by simpa using hgoal, hmem⟩

/-- A sleep asked for. -/
theorem State.writeBy_sleepTarget (hlands : Lands via s (powReg 0x100) (g <<< 16)) (hg : g < 256) (hne : g ≠ 0) :
    (s.writeBy via (powReg 0x100) (g <<< 16)).rf (powReg 0x100) 23 16 = g ∧ (s.writeBy via (powReg 0x100) (g <<< 16)).power.goal = some g ∧
    (s.writeBy via (powReg 0x100) (g <<< 16)).power.state = s.power.state ∧ (s.writeBy via (powReg 0x100) (g <<< 16)).mem = s.mem := by
  obtain ⟨hshown, hstate, hgoal, hmem⟩ := State.writeBy_target hlands hg
  exact ⟨hshown, hgoal.trans (if_neg fun h => hne h.1), hstate, hmem⟩

end

/-! ### O44: a power state is reached, left and found idle (R492 to R495) -/

section
variable {g : Nat}

/-- What Rest and Fallow lose of Swath leaves the lost Glean and cache as they are. -/
theorem State.sleepLoss_lost : s.sleepLoss.gleanMeta = [] ∧ s.sleepLoss.kept = [] ∧ KeepsRegs (0x188 :: errorOffsets) s s.sleepLoss := by
  unfold State.sleepLoss
  extract_lets before src s1 up
  obtain ⟨u, hu⟩ : ∃ u, u = up.foldl (fun t l => ((t.setLink l { t.link l with state := 4, inService := false, judged := false }).bump
    (swPortReg (l / 8) 0x188)).raiseErr .swath 0 0 0x0520 0 0 0) s1 := ⟨_, rfl⟩
  rw [← hu]
  have hglean : (u.refreshService before).gleanMeta = s1.gleanMeta := by
    rw [hu]
    exact part_kept .gleanMeta fun h => (h.foldl fun _ _ h' => (h'.setLink.bump (hk := False.elim)).raiseErr).refreshService
  have hkept : (u.refreshService before).kept = s1.kept := by
    rw [hu]
    exact part_kept .kept fun h => (h.foldl fun _ _ h' => (h'.setLink.bump (hk := False.elim)).raiseErr).refreshService
  have hlinks : KeepsRegs (0x188 :: errorOffsets) s u := by
    rw [hu]
    exact KeepsRegs.foldl (.same (.refl _ s)) fun w l h =>
      KeepsRegs.raiseErr (KeepsRegs.bump (k := .swathPort) (i := l / 8) (off := 0x188) (KeepsRegs.same h))
  have hservice : KeepsRegs errorOffsets u (u.refreshService before) := .refreshService (.refl _ u)
  exact ⟨hglean, hkept, hlinks.trans (hservice.mono (by decide))⟩

/-- Fields emptied in turn leave an empty cache empty. -/
theorem State.emptied_kept {l : List Nat} (hnone : s.kept = []) :
    (l.foldl (fun t f => ((List.range 95).foldl (fun u b => u.zeroBank f b) t).freshRegion f) s).kept = [] := by
  induction l generalizing s with
  | nil => exact hnone
  | cons f l ih =>
    rw [List.foldl_cons]
    apply ih
    have hbanks : ((List.range 95).foldl (fun u b => u.zeroBank f b) s).kept = s.kept := part_kept .kept fun h => h.foldl fun _ _ h' => h'.zeroBank
    rw [State.freshRegion, hbanks, hnone, List.filter_nil]

theorem State.fallowLoss_lost : s.fallowLoss.gleanMeta = s.gleanMeta ∧ (s.kept = [] → s.fallowLoss.kept = []) ∧ s.fallowLoss.hitch.link = .down ∧
    s.fallowLoss.regs = s.regs := by
  have hempty (hnone : s.kept = []) : s.fallowLoss.kept = [] := by
    unfold State.fallowLoss
    dsimp only
    exact State.emptied_kept hnone
  exact ⟨part_kept .gleanMeta fun h => h.fallowLoss, hempty, rfl, regs_kept fun h => h.fallowLoss⟩

/-! A power state reached: shown, counted and raised. -/

/-- What a state loses as it is reached. -/
def State.lossAt (s : State) (g : Nat) : State := if g = 2 then s.sleepLoss else if g = 3 then s.sleepLoss.fallowLoss else s

theorem State.lossAt_kept : KeepsRegs (0x188 :: errorOffsets) s (s.lossAt g) ∧ (s.lossAt g).steward = s.steward := by
  obtain ⟨-, -, hsleep⟩ := State.sleepLoss_lost (s := s)
  unfold State.lossAt
  split_ifs
  · exact ⟨hsleep, part_kept .steward fun h => h.sleepLoss⟩
  · exact ⟨KeepsRegs.of_regs_kept hsleep fun h => h.fallowLoss, part_kept .steward fun h => h.sleepLoss.fallowLoss⟩
  · exact ⟨.refl _ s, rfl⟩

/-- The state shown, counted and raised. -/
def State.reachState (s before : State) (g : Nat) : State :=
  ((({ s with power := { s.power with state := g, goal := none, idleSince := none } } : State).bump (powReg 0x168)).raise .power 0 5 0x0808 0).noteCapacity before

theorem State.powerReached_eq (hgoal : s.power.goal = some g) (hg : g < 4) (hnone : s.steward.warmPending = none) :
    s.powerReached = (s.lossAt g).reachState s g := by
  have hsteward : ((s.lossAt g).reachState s g).steward = s.steward := by
    have hkept : ((s.lossAt g).reachState s g).steward = (s.lossAt g).steward := part_kept .steward fun h => Touches.noteCapacity (.raise (.bump (.same (h := h))))
    rw [hkept, State.lossAt_kept.2]
  unfold State.powerReached
  rw [hgoal]
  dsimp only
  rw [if_neg (by omega)]
  change (match ((s.lossAt g).reachState s g).steward.warmPending with
    | some src => if g = 0 then ((s.lossAt g).reachState s g).beginWarm src else (s.lossAt g).reachState s g
    | none => (s.lossAt g).reachState s g) = _
  rw [hsteward, hnone]

theorem State.reachState_kept {before : State} : KeepsRegs (0x168 :: errorOffsets) s (s.reachState before g) ∧
    s.Counted (s.reachState before g) (powReg 0x168) 1 ∧ (s.reachState before g).Raised .power 0 5 ∧ (s.reachState before g).mem = s.mem ∧
    (s.reachState before g).power.state = g ∧ (s.reachState before g).power.goal = none ∧ (s.reachState before g).hitch.link = s.hitch.link ∧
    (s.reachState before g).gleanMeta = s.gleanMeta ∧ (s.reachState before g).kept = s.kept := by
  obtain ⟨b, hb⟩ : ∃ b : State, b = { s with power := { s.power with state := g, goal := none, idleSince := none } } := ⟨_, rfl⟩
  have hrun : s.reachState before g = ((b.bump (powReg 0x168)).raise .power 0 5 0x0808 0).noteCapacity before := by rw [hb]; rfl
  have hraise : KeepsRegs errorOffsets (b.bump (powReg 0x168)) (s.reachState before g) := by
    rw [hrun]
    exact (KeepsRegs.raise (.refl _ _)).noteCapacity
  have hbump : KeepsRegs (0x168 :: errorOffsets) s (b.bump (powReg 0x168)) := KeepsRegs.bump (k := .power) (i := 0) (off := 0x168) (.same (.refl _ s) (by rw [hb]))
  have hcount : s.Counted (b.bump (powReg 0x168)) (powReg 0x168) 1 := State.Counted.of_reg State.counted_bumpBy (by rw [hb]; rfl)
  have hpower : (s.reachState before g).power = b.power := by
    rw [hrun, State.noteCapacity_power, State.raise_power, State.bump_power]
  refine ⟨hbump.trans (hraise.mono (by decide)), hraise.counted hcount (by rw [powReg_mod]; decide), ?_, ?_, ?_, ?_, ?_, ?_, ?_⟩
  · rw [hrun]
    exact State.Raised.noteCapacity State.raised_raise
  · rw [hrun, State.noteCapacity_mem, State.raise_mem, State.bump_mem, hb]
  · rw [hpower, hb]
  · rw [hpower, hb]
  · rw [hrun, State.noteCapacity_sameLink.link, State.raise_sameLink.link, State.bump_hitch, hb]
  · rw [hrun, State.noteCapacity_gleanMeta, State.raise_gleanMeta, State.bump_gleanMeta, hb]
  · rw [hrun, State.noteCapacity_kept, State.raise_kept, State.bump_kept, hb]

theorem completes_powerStateReached (hgoal : s.power.goal = some g) (hg : g < 4) (hnone : s.steward.warmPending = none) :
    Completes .powerStateReached s (fun t => t.power.state = g ∧ t.power.goal = none ∧ s.Counted t (powReg 0x168) 1 ∧ t.Raised .power 0 5 ∧
      (g < 2 → t.mem = s.mem) ∧ (g = 2 ∨ g = 3 → t.gleanMeta = [] ∧ t.kept = []) ∧ (g = 3 → t.hitch.link = .down)) := by
  have hrun := State.powerReached_eq hgoal hg hnone
  obtain ⟨-, hcount, hraised, hmem, hstate, hover, hlink, hglean, hkept⟩ := State.reachState_kept (s := s.lossAt g) (before := s) (g := g)
  obtain ⟨hsglean, hskept, -⟩ := State.sleepLoss_lost (s := s)
  obtain ⟨hfglean, hfkept, hflink, -⟩ := State.fallowLoss_lost (s := s.sleepLoss)
  refine Completes.intro (t := s.powerReached) rfl ?_
  rw [hrun]
  refine ⟨hstate, hover, hcount.of_reg (State.lossAt_kept.1.reg _ (by rw [powReg_mod]; decide)), hraised, fun hlow => ?_, fun hsleep => ?_, fun hfallow => ?_⟩
  · rw [hmem, State.lossAt, if_neg (by omega), if_neg (by omega)]
  · rw [hglean, hkept]
    rcases hsleep with rfl | rfl
    · exact ⟨hsglean, hskept⟩
    · exact ⟨hfglean.trans hsglean, hfkept hskept⟩
  · rw [hlink, hfallow]
    exact hflink

theorem completes_powerStateReached_winter (hgoal : s.power.goal = some 4) :
    Completes .powerStateReached s (fun t => t.power.state = 4 ∧ t.mem = [] ∧ t.flights = [] ∧ t.steward.fabricOpen = false) := by
  have hrun : s.powerReached = s.winter := by
    rw [State.powerReached, hgoal]
    rfl
  refine Completes.intro (t := s.powerReached) rfl ?_
  rw [hrun]
  exact ⟨rfl, rfl, rfl, rfl⟩

theorem completes_idleEntry {u : Nat} (hsince : s.power.idleSince = some u) (hstate : s.power.state = 0) (hgoal : s.power.goal = none)
    (hdies : s.power.dies = true) (hready : s.steward.ready = true) (hidle : s.computeBusy = false)
    (hheld : almUs (s.rf (powReg 0x108) 15 0) ≤ s.now - u) :
    Completes .idleEntry s (fun t => t.power.state = 1 ∧ t.mem = s.mem ∧ t.regs = s.regs) := by
  have hrun : s.idleEntry = { s with power := { s.power with state := 1 } } := by
    rw [State.idleEntry, hsince]
    dsimp only
    exact if_pos (by simp [hstate, hgoal, hdies, hready, hidle, hheld])
  refine Completes.intro (t := s.idleEntry) rfl ?_
  rw [hrun]
  exact ⟨rfl, rfl, rfl⟩

theorem completes_fallowHitchWake {m : BitVec 8} (hstate : s.power.state = 3) (hgoal : s.power.goal = none) (hlanes : 4 ≤ popCount 8 m.toNat) :
    Completes (.fallowHitchWake m) s (fun t => t.power.goal = some 0 ∧ t.power.state = 3 ∧ t.hitch.link = .down ∧ t.mem = s.mem) := by
  have hrun : s.hitchWake m.toNat = ({ s with power := { s.power with goal := some 0 } } : State).retrainHitch false :=
    if_pos (by simp [hstate, hgoal, hlanes])
  refine Completes.intro (t := s.hitchWake m.toNat) rfl ?_
  rw [hrun]
  exact ⟨rfl, hstate, rfl, rfl⟩

end

/-- Settles O44, clause by clause. -/
theorem powerStatesChange : Obligations.PowerStatesChange :=
  ⟨fun _ _ hlands => completes_targetRun hlands,
    fun via s hlands => Completes.intro (t := s.writeBy via (powReg 0x100) (2 <<< 16)) rfl (State.writeBy_sleepTarget hlands (by decide) (by decide)),
    fun via s hlands => Completes.intro (t := s.writeBy via (powReg 0x100) (3 <<< 16)) rfl (State.writeBy_sleepTarget hlands (by decide) (by decide)),
    fun via s hlands => Completes.intro (t := s.writeBy via (powReg 0x100) (4 <<< 16)) rfl (State.writeBy_sleepTarget hlands (by decide) (by decide)),
    fun _ _ hgoal hg hnone => completes_powerStateReached hgoal hg hnone, fun _ hgoal => completes_powerStateReached_winter hgoal,
    fun _ _ hsince hstate hgoal hdies hready hidle hheld => completes_idleEntry hsince hstate hgoal hdies hready hidle hheld,
    fun _ _ hstate hgoal hlanes => completes_fallowHitchWake hstate hgoal hlanes⟩

end Sys2Proof.Machine
end

section
/-!
The governor, the sensors and droop (O45).
-/
namespace Sys2Proof.Machine

set_option Elab.async false

variable {G : Prop} {F : Footprint} {s t u : State}

/-! ### O45: the governor (R496 to R501) -/

theorem State.rf_lt {a hi lo : Nat} : s.rf a hi lo < 2 ^ (hi + 1 - lo) := Nat.mod_lt _ (Nat.two_pow_pos _)

/-- duty is the smaller of its limits, which it leaves. -/
theorem State.setDuty_kept : s.setDuty.rf (powReg 0x130) 31 24 = min (s.rf (powReg 0x130) 39 32) (s.rf (powReg 0x130) 47 40) ∧
    s.setDuty.rf (powReg 0x130) 39 32 = s.rf (powReg 0x130) 39 32 ∧ s.setDuty.rf (powReg 0x130) 47 40 = s.rf (powReg 0x130) 47 40 := by
  refine ⟨?_, State.rf_setRf_of_gt, State.rf_setRf_of_gt⟩
  rw [State.setDuty, State.rf_setRf_self]
  exact Nat.mod_eq_of_lt (Nat.lt_of_le_of_lt (Nat.min_le_left _ _) State.rf_lt)

theorem KeepsRegs.setDuty {os : List Nat} (h : KeepsRegs os s t) (ho : 0x130 ∈ os := by decide) : KeepsRegs os s t.setDuty :=
  KeepsRegs.setRf (k := .power) (i := 0) (off := 0x130) h ho

section
variable {m : Int} {mv e : Nat}

/-- A window counted as a mismatch or not, before what follows from it (R497). -/
def State.windowNoted (s : State) (bad : Bool) : State :=
  let noted : State := { s with power := { s.power with
    badRun := if bad then s.power.badRun + 1 else 0
    cleanRun := if bad then 0 else s.power.cleanRun + 1
    msBad := (s.power.msBad || bad) && !(s.power.tick + 1 == 100)
    badMs := if s.power.tick + 1 == 100 then (if s.power.msBad || bad then s.power.badMs + 1 else 0) else s.power.badMs } }
  if bad then noted.bump (powReg 0x160) else noted

/-- What follows from the bookkeeping writes the governor's state and raises events only. -/
theorem State.noteMismatch_noted {bad : Bool} : KeepsRegs (0x130 :: errorOffsets) (s.windowNoted bad) (s.noteMismatch bad) ∧
    (s.noteMismatch bad).power = (s.windowNoted bad).power := by
  unfold State.noteMismatch
  extract_lets p persist run clean msEnd msBad badMs s1 s2 s3
  change KeepsRegs (0x130 :: errorOffsets) s2 _ ∧ _ = s2.power
  have hregs : KeepsRegs (0x130 :: errorOffsets) s2 s3 := .ite (.raiseErr (.refl _ _)) (.refl _ _)
  have hset (x : Nat) : KeepsRegs (0x130 :: errorOffsets) s2 (s3.setRf (powReg 0x130) 0 0 x) := KeepsRegs.setRf (k := .power) (i := 0) (off := 0x130) hregs
  refine ⟨.ite (.ite (hset 1).raiseErr hregs) (.ite (hset 0) hregs), part_kept .power (s := s2) fun h => ?_⟩
  have hs3 : Touches False (.without .power) s2 s3 := .ite h.raiseErr h
  exact .ite (.ite hs3.setRf.raiseErr hs3) (.ite hs3.setRf hs3)

theorem State.noteMismatch_kept {bad : Bool} : (s.noteMismatch bad).power.tick = s.power.tick ∧
    (bad = true → (s.noteMismatch bad).power.badRun = s.power.badRun + 1 ∧ s.Counted (s.noteMismatch bad) (powReg 0x160) 1) := by
  obtain ⟨hregs, hpower⟩ := State.noteMismatch_noted (s := s) (bad := bad)
  rw [hpower]
  refine ⟨by cases bad <;> rfl, fun hbad => ?_⟩
  subst hbad
  refine ⟨rfl, hregs.counted ?_ (by rw [powReg_mod]; decide)⟩
  rw [State.windowNoted, if_pos rfl]
  exact State.Counted.of_reg State.counted_bumpBy rfl

theorem completes_governorWindow (hdies : s.power.dies = true) (hstate : s.power.state < 4) :
    Completes (.governorWindow m mv e) s (fun t =>
      t.rf (powReg 0x130) 31 24 = min (t.rf (powReg 0x130) 39 32) (t.rf (powReg 0x130) 47 40) ∧
      t.power.tick = (if s.power.tick + 1 = 100 then 0 else s.power.tick + 1) ∧ t.mem = s.mem ∧ t.flights = s.flights ∧
      (reportOk m mv = false → s.Counted t (powReg 0x160) 1 ∧ t.power.badRun = s.power.badRun + 1)) := by
  have hon : ¬(!s.power.dies || decide (4 ≤ s.power.state)) = true := by simp [hdies, hstate]
  obtain ⟨b, hb⟩ : ∃ b, b = s.noteMismatch (!reportOk m mv || s.mismatch (if reportOk m mv then m.toNat else e) e) := ⟨_, rfl⟩
  obtain ⟨htick, hbad⟩ := State.noteMismatch_kept (s := s) (bad := !reportOk m mv || s.mismatch (if reportOk m mv then m.toNat else e) e)
  rw [← hb] at htick hbad
  obtain ⟨w, hrun, hregs, hpower⟩ : ∃ w, s.governorWindow m mv e = w.setDuty ∧ KeepsRegs [0x130, 0x138, 0x150] b w ∧
      w.power.tick = (if b.power.tick + 1 == 100 then 0 else b.power.tick + 1) ∧ w.power.badRun = b.power.badRun := by
    unfold State.governorWindow
    rw [if_neg hon]
    extract_lets ok x s1 p ps sum1 sum2 msEnd d r s2 s3
    have hs1 : s1 = b := hb.symm
    refine ⟨_, rfl, ?_, ?_⟩
    · rw [← hs1]
      exact KeepsRegs.setRf (k := .power) (i := 0) (off := 0x130) (KeepsRegs.bumpBy (k := .power) (i := 0) (off := 0x150)
        (KeepsRegs.setReg (k := .power) (i := 0) (off := 0x138) (.same (.refl _ s1))))
    · rw [← hs1]
      exact ⟨rfl, rfl⟩
  obtain ⟨hduty, hpduty, htduty⟩ := State.setDuty_kept (s := w)
  have hlast : (s.governorWindow m mv e).power = w.power := by rw [hrun, State.setDuty, State.setRf_power]
  refine Completes.intro (t := s.governorWindow m mv e) rfl ⟨?_, ?_, mem_kept fun h => h.governorWindow, flights_kept fun h => h.governorWindow, fun hrep => ?_⟩
  · rw [hrun, hduty, hpduty, htduty]
  · rw [hlast, hpower.1, htick]
    simp
  · obtain ⟨hrunlen, hcount⟩ := hbad (by simp [hrep])
    refine ⟨?_, by rw [hlast, hpower.2, hrunlen]⟩
    rw [hrun]
    exact (hregs.setDuty).counted hcount (by rw [powReg_mod]; decide)

end

/-! ### O45: junction sensors (R502, R504) -/

theorem droopReg_mod {f : Nat} : droopReg f off % 0x1000 = off % 0x1000 := regAddr_mod ..

/-- A sensor's new record. -/
def State.setJunction (s : State) (die k : Nat) (j : Junction) : State :=
  { s with power := { s.power with sensors := s.power.sensors.set (die * 8 + k) j } }

section
variable {die k : Nat} {j : Junction} {c : Int}

theorem State.junction_setJunction (hlen : s.power.sensors.length = 72) (hdie : die < 9) (hk : k < 8) : (s.setJunction die k j).junction die k = j := by
  rw [State.junction, State.setJunction, List.getD_eq_getElem?_getD, List.getElem?_set_self (by omega), Option.getD_some]

theorem State.junction_congr (h : t.power = s.power) : t.junction die k = s.junction die k := by rw [State.junction, State.junction, h]

/-- A plausible reading is taken, and shown where it is a Field's highest. -/
theorem State.sensorRead_taken (hlow : -40 ≤ c) (hhigh : c ≤ 150) (hnear : ∀ l, (s.junction die k).last = some l → c - l ≤ 15 ∧ l - c ≤ 15) :
    (s.sensorRead die k c).power = (s.setJunction die k ⟨some c, 0, false, if 120 ≤ c then (s.junction die k).trips + 1 else 0⟩).power ∧
    (s.sensorRead die k c).mem = s.mem := by
  have hok : (decide (-40 ≤ c) && decide (c ≤ 150) && (s.junction die k).last.all (fun l => decide (c - l ≤ 15) && decide (l - c ≤ 15))) = true := by
    cases hl : (s.junction die k).last with
    | none => simp [hlow, hhigh]
    | some l =>
      have hclose := hnear l hl
      simp only [Option.all_some, hlow, hhigh, hclose.1, hclose.2, decide_true, Bool.and_true]
  obtain ⟨b, hb⟩ : ∃ b, b = s.setJunction die k ⟨some c, 0, false, if 120 ≤ c then (s.junction die k).trips + 1 else 0⟩ := ⟨_, rfl⟩
  have hrun : s.sensorRead die k c =
      if die < 8 then b.setRf (droopReg die 0x108) 55 48 (max (s.rf (droopReg die 0x108) 55 48) c.toNat) else b := by
    rw [State.sensorRead]
    dsimp only
    rw [if_pos hok, hb]
    rfl
  refine ⟨?_, mem_kept fun h => h.sensorRead⟩
  rw [hrun, ← hb]
  split
  · exact State.setRf_power ..
  · rfl

theorem completes_junctionSensorRead_taken {d : Fin 9} {k : Fin 8} (hlen : s.power.sensors.length = 72) (hdies : s.power.dies = true) (hlow : -40 ≤ c)
    (hhigh : c < 120) (hnear : ∀ l, (s.junction d.val k.val).last = some l → c - l ≤ 15 ∧ l - c ≤ 15) :
    Completes (.junctionSensorRead d k c) s (fun t => t.junction d.val k.val = ⟨some c, 0, false, 0⟩ ∧ t.mem = s.mem ∧ t.power.dies = true) := by
  obtain ⟨hpower, hmem⟩ := State.sensorRead_taken hlow (by omega) hnear
  have hread : (s.sensorRead d.val k.val c).junction d.val k.val = ⟨some c, 0, false, 0⟩ := by
    rw [State.junction_congr hpower, if_neg (by omega), State.junction_setJunction hlen d.isLt k.isLt]
  have hrun : s.junctionRead d.val k.val c = s.sensorRead d.val k.val c := by
    rw [State.junctionRead, hdies]
    simp [hread]
  refine Completes.intro (t := s.junctionRead d.val k.val c) rfl ?_
  rw [hrun]
  exact ⟨hread, hmem, by rw [hpower]; exact hdies⟩

theorem completes_junctionSensorRead_trips {d : Fin 9} {k : Fin 8} {l : Int} (hlen : s.power.sensors.length = 72) (hdies : s.power.dies = true)
    (hlow : 120 ≤ c) (hhigh : c ≤ 150) (hlast : (s.junction d.val k.val).last = some l) (hup : c - l ≤ 15) (hdown : l - c ≤ 15)
    (htrips : (s.junction d.val k.val).trips = 1) :
    Completes (.junctionSensorRead d k c) s (fun t => t.power.thermtrip = true ∧ t.power.dies = false ∧ t.steward.heldOff = true ∧
      t.steward.fabricOpen = false ∧ t.mem = []) := by
  obtain ⟨hpower, -⟩ := State.sensorRead_taken (s := s) (die := d.val) (k := k.val) (c := c) (by omega) hhigh
    (fun l' h => by rw [hlast] at h; cases h; exact ⟨hup, hdown⟩)
  have hread : ((s.sensorRead d.val k.val c).junction d.val k.val).trips = 2 := by
    rw [State.junction_congr hpower, if_pos hlow, State.junction_setJunction hlen d.isLt k.isLt, htrips]
  obtain ⟨b, hb⟩ : ∃ b, b = s.sensorRead d.val k.val c := ⟨_, rfl⟩
  have hrun : s.junctionRead d.val k.val c = ((({ b with power := { b.power with thermtrip := true } } : State).logAdd 0x080A 0).diesOff).holdOff := by
    rw [State.junctionRead, hdies]
    simp [hread, hb]
  refine Completes.intro (t := s.junctionRead d.val k.val c) rfl ?_
  rw [hrun]
  exact ⟨rfl, rfl, rfl, rfl, rfl⟩

/-- The counter that a discarded reading of a Field's sensor bumps. -/
theorem State.reg_raiseErr_droop {f f' bit code work info0 info1 : Nat} (hf : f < 8) :
    (s.raiseErr .droop f' bit code work info0 info1).reg (droopReg f 0x140) = s.reg (droopReg f 0x140) := by
  rw [State.raiseErr, State.reg_capture (by rw [droopReg_mod]; decide) (by rw [droopReg_mod]; decide) (by rw [droopReg_mod]; decide)
    (by rw [droopReg_mod]; decide)]
  refine State.reg_raise_of_ne (by rw [droopReg_mod]; decide) ?_
  simp only [droopReg, regAddr, pageIdx]
  omega

theorem completes_junctionSensorRead_discarded {d k : Fin 8} (hlen : s.power.sensors.length = 72) (hdies : s.power.dies = true) (hout : c < -40 ∨ 150 < c)
    (htrips : (s.junction d.val k.val).trips < 2) :
    Completes (.junctionSensorRead d.castSucc k c) s (fun t => (t.junction d.val k.val).last = (s.junction d.val k.val).last ∧
      (t.junction d.val k.val).bad = (s.junction d.val k.val).bad + 1 ∧ s.Counted t (droopReg d.val 0x140) 1 ∧ t.mem = s.mem) := by
  have hbad : (decide (-40 ≤ c) && decide (c ≤ 150) && (s.junction d.val k.val).last.all (fun l => decide (c - l ≤ 15) && decide (l - c ≤ 15))) = false := by
    rcases hout with h | h <;> simp [h]
  obtain ⟨j, hj⟩ : ∃ j, j = { s.junction d.val k.val with
    bad := (s.junction d.val k.val).bad + 1, suspect := (s.junction d.val k.val).suspect || decide (3 ≤ (s.junction d.val k.val).bad + 1) } := ⟨_, rfl⟩
  obtain ⟨b, hb⟩ : ∃ b, b = (s.bump (droopReg d.val 0x140)).setJunction d.val k.val j := ⟨_, rfl⟩
  have hread : s.sensorRead d.val k.val c =
      if 3 ≤ (s.junction d.val k.val).bad + 1 && !(s.junction d.val k.val).suspect then b.raiseErr .droop d.val 1 0x0805 0 0 0 else b := by
    rw [State.sensorRead]
    dsimp only
    rw [hbad, if_neg Bool.noConfusion, if_pos d.isLt, if_pos d.isLt, hb, hj]
    rfl
  have hpower : (s.sensorRead d.val k.val c).power = b.power := by
    rw [hread]
    split
    · exact State.raiseErr_power ..
    · rfl
  have hjunction : (s.sensorRead d.val k.val c).junction d.val k.val = j := by
    rw [State.junction_congr hpower, hb]
    exact State.junction_setJunction hlen (by omega) k.isLt
  have hrun : s.junctionRead d.val k.val c = s.sensorRead d.val k.val c := by
    rw [State.junctionRead, hdies]
    simp only [Bool.not_true, Bool.false_eq_true, if_false]
    rw [if_neg (by rw [hjunction, hj]; exact Nat.not_le.2 htrips)]
  have hcount : s.Counted b (droopReg d.val 0x140) 1 := by
    rw [hb]
    exact State.Counted.congr (State.counted_bumpBy (n := 1)) rfl
  refine Completes.intro (t := s.junctionRead d.val k.val c) rfl ?_
  rw [hrun, hjunction, hj]
  refine ⟨rfl, rfl, ?_, mem_kept fun h => h.sensorRead⟩
  rw [hread]
  split
  · exact hcount.congr (State.reg_raiseErr_droop d.isLt)
  · exact hcount

end

/-! ### O45: thermal steps (R503) -/

/-- A thermal step that comes once its millisecond is over: tduty set, duty taken again, and perhaps an event. -/
theorem State.thermalStep_set {new : Nat} (hdue : s.power.thermDue = true) (hnew : new < 256)
    (hstep : new = if s.isHot then 8 else if 0 ≤ s.thermalOver.getD (-3) then max 8 (s.rf (powReg 0x130) 47 40 - 1)
      else if s.thermalOver.getD (-3) ≤ -3 then min 64 (s.rf (powReg 0x130) 47 40 + 1) else s.rf (powReg 0x130) 47 40) :
    s.thermalStep.rf (powReg 0x130) 47 40 = new ∧ s.thermalStep.power.thermDue = false ∧
    s.thermalStep.rf (powReg 0x130) 31 24 = min (s.thermalStep.rf (powReg 0x130) 39 32) new ∧
    (s.isHot = true → s.power.hotSeen = false → s.thermalStep.Raised .power 0 3) := by
  obtain ⟨b, hb, hdone⟩ : ∃ b : State, b.regs = s.regs ∧ b.power.thermDue = false ∧ s.thermalStep =
      (if s.isHot then (if s.power.hotSeen then ((b.setRf (powReg 0x130) 47 40 new).setDuty)
        else ((b.setRf (powReg 0x130) 47 40 new).setDuty).raiseErr .power 0 3 0x0804 0 0 0)
      else if decide (0 ≤ s.thermalOver.getD (-3)) && !s.power.throttleSeen then ((b.setRf (powReg 0x130) 47 40 new).setDuty).raiseErr .power 0 2 0x0803 0 0 0
      else (b.setRf (powReg 0x130) 47 40 new).setDuty) := by
    refine ⟨{ s with power := { s.power with
      thermDue := false, hotSeen := s.isHot, throttleSeen := decide (0 ≤ s.thermalOver.getD (-3)) && (s.power.throttleSeen || !s.isHot) } }, rfl, rfl, ?_⟩
    rw [State.thermalStep, hdue, hstep]
    simp only [Bool.not_true, Bool.false_eq_true, if_false, decide_eq_true_eq]
  obtain ⟨hthermal, hrun⟩ := hdone
  obtain ⟨w, hw⟩ : ∃ w, w = (b.setRf (powReg 0x130) 47 40 new).setDuty := ⟨_, rfl⟩
  rw [← hw] at hrun
  have hkept : KeepsRegs errorOffsets w s.thermalStep := by
    rw [hrun]
    exact .ite (.ite (.refl _ w) (.raiseErr (.refl _ w))) (.ite (.raiseErr (.refl _ w)) (.refl _ w))
  have hpower : s.thermalStep.power = w.power := by
    rw [hrun]
    exact part_kept .power fun h => .ite (.ite h h.raiseErr) (.ite h.raiseErr h)
  obtain ⟨hduty, hpduty, htduty⟩ := State.setDuty_kept (s := b.setRf (powReg 0x130) 47 40 new)
  rw [← hw] at hduty hpduty htduty
  have hset : (b.setRf (powReg 0x130) 47 40 new).rf (powReg 0x130) 47 40 = new := by
    rw [State.rf_setRf_self]
    exact Nat.mod_eq_of_lt hnew
  have hreg : s.thermalStep.reg (powReg 0x130) = w.reg (powReg 0x130) := hkept.reg _ (by rw [powReg_mod]; decide)
  refine ⟨by rw [State.rf_congr hreg, htduty, hset], ?_, by rw [State.rf_congr hreg, State.rf_congr hreg, hduty, hpduty, hset], fun hhot hseen => ?_⟩
  · rw [hpower, hw, State.setDuty, State.setRf_power, State.setRf_power]
    exact hthermal
  · rw [hrun, if_pos hhot, hseen, if_neg Bool.noConfusion]
    exact State.raised_raiseErr

theorem completes_thermalStep_hot (hdue : s.power.thermDue = true) (hhot : s.isHot = true) :
    Completes .thermalStep s (fun t => t.rf (powReg 0x130) 47 40 = 8 ∧ t.power.thermDue = false ∧
      t.rf (powReg 0x130) 31 24 = min (t.rf (powReg 0x130) 39 32) 8 ∧ (s.power.hotSeen = false → t.Raised .power 0 3)) := by
  obtain ⟨htduty, hdone, hduty, hraised⟩ := State.thermalStep_set hdue (new := 8) (by decide) (by rw [if_pos hhot])
  exact Completes.intro (t := s.thermalStep) rfl ⟨htduty, hdone, hduty, hraised hhot⟩

theorem completes_thermalStep_cool (hdue : s.power.thermDue = true) (hhot : s.isHot = false) (hcool : s.thermalOver.getD (-3) ≤ -3)
    (htd : s.rf (powReg 0x130) 47 40 < 64) :
    Completes .thermalStep s (fun t => t.rf (powReg 0x130) 47 40 = s.rf (powReg 0x130) 47 40 + 1 ∧ t.power.thermDue = false) := by
  obtain ⟨htduty, hdone, -⟩ := State.thermalStep_set hdue (new := s.rf (powReg 0x130) 47 40 + 1) (by omega) (by
    rw [hhot, if_neg Bool.noConfusion, if_neg (by omega), if_pos hcool]
    omega)
  exact Completes.intro (t := s.thermalStep) rfl ⟨htduty, hdone⟩

/-! ### O45: droop (R505) -/

section
variable {f : Fin 8} {mv ac fc : Nat} {d : DroopSt}

theorem State.droopSt_setDroop {f : Nat} (hf : f < s.power.droop.length) : (s.setDroop f d).droopSt f = d := by
  rw [State.droopSt, State.setDroop, List.getD_eq_getElem?_getD, List.getElem?_set_self hf, Option.getD_some]

theorem State.droopSt_congr {f : Nat} (h : t.power = s.power) : t.droopSt f = s.droopSt f := by rw [State.droopSt, State.droopSt, h]

theorem completes_droopTrip (hlen : s.power.droop.length = 8) (hdies : s.power.dies = true) (hthere : s.lost f.val = false)
    (hlow : mv + s.rf (droopReg f.val 0x100) 7 0 < s.fieldMv f.val) :
    Completes (.droopTrip f mv) s (fun t => (t.droopSt f.val).stretching = true ∧ s.Counted t (droopReg f.val 0x120) 1 ∧ t.mem = s.mem) := by
  obtain ⟨b, hb⟩ : ∃ b, b = s.setDroop f.val { s.droopSt f.val with stretching := true } := ⟨_, rfl⟩
  have hrun : s.droopTrip f.val mv = b.bump (droopReg f.val 0x120) := by
    rw [State.droopTrip, if_neg (by simp [hdies, hthere, hlow]), hb]
  refine Completes.intro (t := s.droopTrip f.val mv) rfl ?_
  rw [hrun]
  refine ⟨?_, State.Counted.of_reg State.counted_bumpBy (by rw [hb]; rfl), by rw [State.bump_mem, hb]; rfl⟩
  rw [State.droopSt_congr (State.bump_power ..), hb, State.droopSt_setDroop (by omega)]

theorem completes_droopStretchEnd (hstretch : (s.droopSt f.val).stretching = true) (hlong : s.rf (droopReg f.val 0x100) 23 16 ≤ ac) :
    Completes (.droopStretchEnd f ac fc) s (fun t => (t.droopSt f.val).stretching = false ∧ s.Counted t (droopReg f.val 0x128) ac ∧
      s.Counted t (droopReg f.val 0x130) fc ∧ t.mem = s.mem) := by
  have hf : f.val < s.power.droop.length := by
    by_contra hout
    rw [State.droopSt, List.getD_eq_getElem?_getD, List.getElem?_eq_none (by omega)] at hstretch
    cases hstretch
  obtain ⟨recent, hrecent⟩ : ∃ recent, recent = ((s.now, ac) :: (s.droopSt f.val).recent).filter (fun (x : Nat × Nat) => decide (s.now < x.1 + almSecond)) :=
    ⟨_, rfl⟩
  obtain ⟨b, hb⟩ : ∃ b, b = s.setDroop f.val { s.droopSt f.val with stretching := false, recent := recent } := ⟨_, rfl⟩
  obtain ⟨w, hw⟩ : ∃ w, w = (b.bumpBy (droopReg f.val 0x128) ac).bumpBy (droopReg f.val 0x130) fc := ⟨_, rfl⟩
  have hrun : s.stretchEnd f.val ac fc = if (s.droopSt f.val).mhz * 10000 < listSum (recent.map (fun (x : Nat × Nat) => x.2)) then
      w.raiseErr .droop f.val 0 0x0809 0 0 0 else w := by
    rw [State.stretchEnd]
    dsimp only
    rw [if_neg (by simp [hstretch, hlong]), hw, hb, hrecent]
  have hkept : KeepsRegs errorOffsets w (s.stretchEnd f.val ac fc) := by
    rw [hrun]
    exact .ite (.raiseErr (.refl _ w)) (.refl _ w)
  have hpower : (s.stretchEnd f.val ac fc).power = b.power := by
    rw [hrun, hw]
    split
    · rw [State.raiseErr_power, State.bumpBy_power, State.bumpBy_power]
    · rw [State.bumpBy_power, State.bumpBy_power]
  have hac : s.Counted w (droopReg f.val 0x128) ac := by
    have hbumped : s.Counted (b.bumpBy (droopReg f.val 0x128) ac) (droopReg f.val 0x128) ac := State.Counted.of_reg State.counted_bumpBy (by rw [hb]; rfl)
    rw [hw]
    exact hbumped.congr (State.reg_setReg_offset _ (by rw [droopReg_mod, droopReg_mod]; decide))
  have hfc : s.Counted w (droopReg f.val 0x130) fc := by
    rw [hw]
    refine State.Counted.of_reg State.counted_bumpBy ((State.reg_setReg_offset _ (by rw [droopReg_mod, droopReg_mod]; decide)).trans ?_)
    rw [hb]
    rfl
  refine Completes.intro (t := s.stretchEnd f.val ac fc) rfl
    ⟨?_, hkept.counted hac (by rw [droopReg_mod]; decide), hkept.counted hfc (by rw [droopReg_mod]; decide), mem_kept fun h => h.stretchEnd⟩
  rw [State.droopSt_congr hpower, hb, State.droopSt_setDroop hf]

end

/-- Settles O45, clause by clause. -/
theorem governorAndSensors : Obligations.GovernorAndSensors :=
  ⟨fun _ _ _ _ hdies hstate => completes_governorWindow hdies hstate,
    fun _ _ _ _ hlen hdies hlow hhigh hnear => completes_junctionSensorRead_taken hlen hdies hlow hhigh hnear,
    fun _ _ _ _ hlen hdies hout htrips => completes_junctionSensorRead_discarded hlen hdies hout htrips,
    fun _ _ _ _ _ hlen hdies hlow hhigh hlast hup hdown htrips => completes_junctionSensorRead_trips hlen hdies hlow hhigh hlast hup hdown htrips,
    fun _ hdue hhot => completes_thermalStep_hot hdue hhot, fun _ hdue hhot hcool htd => completes_thermalStep_cool hdue hhot hcool htd,
    fun _ _ _ hlen hdies hthere hlow => completes_droopTrip hlen hdies hthere hlow,
    fun _ _ _ _ hstretch hlong => completes_droopStretchEnd hstretch hlong⟩

end Sys2Proof.Machine
end

section
/-!
The array frequency (O46).
-/
namespace Sys2Proof.Machine

set_option Elab.async false

variable {G : Prop} {F : Footprint} {s t u : State}

/-! ### O46: the array frequency (R507 to R509) -/

section
variable {via : Via} {v : Nat}

theorem State.writeEffect_nextMhz {src : Source} : s.writeEffect src .power 0 0x120 v =
    s.setReg (powReg 0x120) (mergeWord (regFields .power 0x120) (s.reg (powReg 0x120)) v) := rfl

theorem State.writeEffect_changeAt {src : Source} : s.writeEffect src .power 0 0x128 v = s.submitChange v := rfl

theorem State.writeOk_nextMhz {src : Source} (h : s.writeOk src .power 0 0x120 v = true) : 300 ≤ bitsOf v 15 0 := by
  have hok : (s.changeOpen && s.mhzOk (bitsOf v 15 0)) = true := h
  simp only [State.mhzOk, Bool.and_eq_true, decide_eq_true_eq] at hok
  exact hok.2.1.2

/-- A landed write of next_mhz shows what was written. -/
theorem State.writeBy_nextMhz {m : BitVec 16} (hlands : Lands via s (powReg 0x120) m.toNat) :
    (s.writeBy via (powReg 0x120) m.toNat).nextMhz = m.toNat ∧ (s.writeBy via (powReg 0x120) m.toNat).power = s.power ∧
    (s.writeBy via (powReg 0x120) m.toNat).mem = s.mem := by
  have hm : m.toNat < 65536 := m.isLt
  have hv : m.toNat < 2 ^ 64 := by omega
  obtain ⟨j, hcode, heq⟩ := State.writeBy_checked (k := .power) (i := 0) (off := 0x120) hlands hv (by decide) (by decide) (by decide)
  obtain ⟨u, hu⟩ : ∃ u, u = ({ via.arrived s with journal := j } : State) := ⟨_, rfl⟩
  have hreached : Reached s u := hu ▸ .arrived via j
  have hfield : bitsOf m.toNat 15 0 = m.toNat := by
    rw [bitsOf, Nat.shiftRight_zero]
    exact Nat.mod_eq_of_lt hm
  have hbig : 300 ≤ m.toNat := hfield ▸ State.writeOk_nextMhz (State.writeOk_of_writeCode hcode)
  rw [← hu, State.writeEffect_nextMhz] at heq
  obtain ⟨w, hw⟩ : ∃ w, w = mergeWord (regFields .power 0x120) (u.reg (powReg 0x120)) m.toNat := ⟨_, rfl⟩
  rw [← hw] at heq
  have hstored : bitsOf w 15 0 = m.toNat := hw ▸ (bitsOf_mergeWord (by decide)).trans hfield
  have hregs : (s.writeBy via (powReg 0x120) m.toNat).regs = (u.setReg (powReg 0x120) w).regs := (congrArg State.regs heq).trans (Via.answer_regs via)
  have hanswered : (s.writeBy via (powReg 0x120) m.toNat).power = (u.setReg (powReg 0x120) w).power := (congrArg State.power heq).trans (Via.answer_kept via .power)
  have hpower : (s.writeBy via (powReg 0x120) m.toNat).power = s.power := by
    rw [hanswered, State.setReg_power]
    exact hreached.touches.parts .power rfl
  refine ⟨?_, hpower, mem_kept fun h => h.writeFreq hv⟩
  have hshown : (s.writeBy via (powReg 0x120) m.toNat).rf (powReg 0x120) 15 0 = m.toNat := by
    rw [State.rf, State.reg_congr hregs, State.reg_setReg_self, hstored]
  rw [State.nextMhz, hshown]
  exact if_neg (by omega)

/-- A landed write of change_at leaves a change pending, or none. -/
theorem State.writeBy_changeAt (hlands : Lands via s (powReg 0x128) v) (hv : v < 2 ^ 64) :
    (s.writeBy via (powReg 0x128) v).power.change = (if v = 0 then none else some (v, s.nextMhz)) ∧
    (s.writeBy via (powReg 0x128) v).power.acMhz = s.power.acMhz ∧ (s.writeBy via (powReg 0x128) v).mem = s.mem := by
  obtain ⟨u, hreached, heq⟩ := State.writeBy_accepted (k := .power) (i := 0) (off := 0x128) hlands hv (by decide) (by decide) (by decide)
  rw [State.writeEffect_changeAt] at heq
  have hpower : u.power = s.power := hreached.touches.parts .power rfl
  have hnext : u.nextMhz = s.nextMhz := by rw [State.nextMhz, State.nextMhz, State.rf_congr (hreached.reg (by decide)), hpower]
  have hkept : (s.writeBy via (powReg 0x128) v).power = (u.submitChange v).power := (congrArg State.power heq).trans (Via.answer_kept via .power)
  have hsubmitted : (u.submitChange v).power.change = (if v = 0 then none else some (v, u.nextMhz)) ∧ (u.submitChange v).power.acMhz = u.power.acMhz :=
    ⟨rfl, rfl⟩
  exact ⟨by rw [hkept, hsubmitted.1, hnext], by rw [hkept, hsubmitted.2, hpower], mem_kept fun h => h.writeChange hv⟩

theorem completes_acChangeSubmit {m : BitVec 16} {v : Word} (hlands : Lands via s (powReg 0x120) m.toNat)
    (hthen : Lands (nextVia via) (s.writeBy via (powReg 0x120) m.toNat) (powReg 0x128) v.toNat) (hv : v.toNat ≠ 0) :
    Completes (.acChangeSubmit via m v) s (fun t => t.power.change = some (v.toNat, m.toNat) ∧ t.power.acMhz = s.power.acMhz ∧ t.mem = s.mem) := by
  obtain ⟨hnext, hpower, hmem⟩ := State.writeBy_nextMhz hlands
  obtain ⟨hchange, hmhz, hkept⟩ := State.writeBy_changeAt hthen v.isLt
  rw [if_neg hv, hnext] at hchange
  exact Completes.intro (t := (s.writeBy via (powReg 0x120) m.toNat).writeBy (nextVia via) (powReg 0x128) v.toNat) rfl
    ⟨hchange, by rw [hmhz, hpower], hkept.trans hmem⟩

theorem completes_acChangeCancel (hlands : Lands via s (powReg 0x128) 0) :
    Completes (.acChangeCancel via) s (fun t => t.power.change = none ∧ t.power.acMhz = s.power.acMhz ∧ t.mem = s.mem) := by
  obtain ⟨hchange, hmhz, hmem⟩ := State.writeBy_changeAt hlands (by decide)
  exact Completes.intro (t := s.writeBy via (powReg 0x128) 0) rfl ⟨hchange, hmhz, hmem⟩

end

section
variable {u m : Nat} {f : Fin 8}

theorem completes_acVoltageRamp (hchange : s.power.change = some (u, m)) (hsoon : u ≤ s.now + almUs 80) :
    Completes .acVoltageRamp s (fun t => t.regs = s.regs ∧ t.power.change = s.power.change ∧
      t.power.droop = s.power.droop.map (fun d => { d with raised := d.raised || decide (d.mhz < m) })) := by
  have hrun : s.voltageRamp = { s with power := { s.power with droop := s.power.droop.map (fun d => { d with raised := d.raised || decide (d.mhz < m) }) } } := by
    rw [State.voltageRamp, hchange]
    dsimp only
    rw [if_pos hsoon]
  refine Completes.intro (t := s.voltageRamp) rfl ?_
  rw [hrun]
  exact ⟨rfl, rfl, rfl⟩

theorem State.lost_setDroop {f g : Nat} {d : DroopSt} : (s.setDroop f d).lost g = s.lost g := rfl

theorem State.droopSt_setDroop_ne {f g : Nat} {d : DroopSt} (h : g ≠ f) : (s.setDroop f d).droopSt g = s.droopSt g := by
  rw [State.droopSt, State.droopSt, State.setDroop, List.getD_eq_getElem?_getD, List.getD_eq_getElem?_getD, List.getElem?_set_ne h.symm]

theorem completes_acChange (hlen : s.power.droop.length = 8) (hchange : s.power.change = some (u, m)) (hdue : u ≤ s.now)
    (hstill : (s.droopSt f.val).stretching = false) (hthere : s.lost f.val = false) :
    Completes (.acChange f) s (fun t => (t.droopSt f.val).mhz = m ∧ t.mem = s.mem ∧
      ((∀ g, g < 8 → g ≠ f.val → s.lost g = true ∨ (s.droopSt g).mhz = m) → t.power.change = none ∧ t.power.acMhz = m ∧
        s.Counted t (powReg 0x170) 1 ∧ t.Raised .power 0 4) ∧
      (∀ g, g < 8 → g ≠ f.val → s.lost g = false → (s.droopSt g).mhz ≠ m → t.power.change = s.power.change)) := by
  obtain ⟨b, hb⟩ : ∃ b, b = s.setDroop f.val { s.droopSt f.val with mhz := m, raised := false } := ⟨_, rfl⟩
  obtain ⟨w, hw⟩ : ∃ w : State, w = { b with power := { b.power with change := none, acMhz := m } } := ⟨_, rfl⟩
  have hmoved : (b.droopSt f.val).mhz = m := by rw [hb, State.droopSt_setDroop (by omega)]
  have hrun : s.acChange f.val = if (List.range 8).all (fun g => b.lost g || (b.droopSt g).mhz == m) then
      (w.bump (powReg 0x170)).raise .power 0 4 0x0806 m else b := by
    rw [State.acChange, hchange]
    dsimp only
    rw [if_neg (by simp [hstill, hthere, hdue]), ← hb, hw]
  have hlast : ((List.range 8).all (fun g => b.lost g || (b.droopSt g).mhz == m) = true) ↔
      ∀ g, g < 8 → g ≠ f.val → s.lost g = true ∨ (s.droopSt g).mhz = m := by
    simp only [List.all_eq_true, List.mem_range, Bool.or_eq_true, beq_iff_eq]
    refine ⟨fun h g hg hne => ?_, fun h g hg => ?_⟩
    · have := h g hg
      rwa [hb, State.lost_setDroop, State.droopSt_setDroop_ne hne] at this
    · by_cases hne : g = f.val
      · exact .inr (hne ▸ hmoved)
      · rw [hb, State.lost_setDroop, State.droopSt_setDroop_ne hne]
        exact h g hg hne
  refine Completes.intro (t := s.acChange f.val) rfl ⟨?_, mem_kept fun h => h.acChange, fun hall => ?_, fun g hg hne hthere hother => ?_⟩
  · rw [hrun]
    split
    · rw [State.droopSt_congr ((State.raise_power ..).trans (State.bump_power ..)), hw]
      exact hmoved
    · exact hmoved
  · rw [hrun, if_pos (hlast.2 hall), State.raise_power, State.bump_power]
    refine ⟨by rw [hw], by rw [hw], ?_, State.raised_raise⟩
    have hcount : s.Counted (w.bump (powReg 0x170)) (powReg 0x170) 1 := State.Counted.of_reg State.counted_bumpBy (by rw [hw, hb]; rfl)
    exact hcount.congr (State.reg_raise (by rw [powReg_mod]; decide) (by rw [powReg_mod]; decide))
  · have hnot : ¬(List.range 8).all (fun g => b.lost g || (b.droopSt g).mhz == m) = true := fun hall => by
      rcases hlast.1 hall g hg hne with h | h
      · rw [hthere] at h
        cases h
      · exact hother h
    rw [hrun, if_neg hnot, hb]
    rfl

end

/-- Settles O46, clause by clause. -/
theorem arrayFrequencyChanges : Obligations.ArrayFrequencyChanges :=
  ⟨fun _ _ _ _ hlands hthen hv => completes_acChangeSubmit hlands hthen hv, fun _ _ hlands => completes_acChangeCancel hlands,
    fun _ _ _ hchange hsoon => completes_acVoltageRamp hchange hsoon,
    fun _ _ _ _ hlen hchange hdue hstill hthere => completes_acChange hlen hchange hdue hstill hthere⟩

end Sys2Proof.Machine
end

section
/-!
What the Tithe measures, and its mirror (O47).
-/
namespace Sys2Proof.Machine

set_option Elab.async false

variable {G : Prop} {F : Footprint} {s t u : State}

/-! ### O47: the Tithe meters and closes its intervals (R515 to R523) -/

theorem completes_titheSample {mv ma : Nat} (hon : s.tithe.powered = true) :
    Completes (.titheSample mv ma) s (fun t => t.tithe.time = s.tithe.time + 10 ∧
      t.tithe.energy = s.tithe.energy + (s.tithe.rest + mv * ma) / 100000 ∧ t.tithe.odometer = s.tithe.odometer + (s.tithe.rest + mv * ma) / 100000 ∧
      t.tithe.rest = (s.tithe.rest + mv * ma) % 100000 ∧ t.tithe.vMax = max s.tithe.vMax mv ∧ t.tithe.seq = s.tithe.seq) := by
  refine Completes.intro (t := s.titheSample mv ma) rfl ?_
  rw [State.titheSample, hon, Bool.not_true, if_neg Bool.noConfusion]
  exact ⟨rfl, rfl, rfl, rfl, rfl, rfl⟩

theorem completes_titheSelfCheck_deviates (hon : s.tithe.powered = true) :
    Completes (.titheSelfCheck true) s (fun t => t.tithe.senseFault = true ∧ t.tithe.senseFlag = true ∧ t.tithe.tamperCount = s.tithe.tamperCount + 1 ∧
      t.tithe.seq = s.tithe.seq) := by
  refine Completes.intro (t := s.titheCheck true) rfl ?_
  rw [State.titheCheck, hon, Bool.not_true, if_neg Bool.noConfusion, if_pos rfl]
  exact ⟨rfl, rfl, rfl, rfl⟩

theorem completes_titheSelfCheck_holds (hon : s.tithe.powered = true) :
    Completes (.titheSelfCheck false) s (fun t => t.tithe.senseFault = false ∧ t.tithe.tamperCount = s.tithe.tamperCount) := by
  refine Completes.intro (t := s.titheCheck false) rfl ?_
  rw [State.titheCheck, hon, Bool.not_true, if_neg Bool.noConfusion, if_neg Bool.noConfusion]
  exact ⟨rfl, rfl⟩

/-- The causes of a closure as the record's flag bits [11:8], and the reason that stands for them (R520). -/
def closeFlags (t : TitheSt) (loss tamper : Bool) (mark : Option (Nat × Nat)) : Nat :=
  b2n loss + (b2n tamper <<< 1) + (b2n mark.isSome <<< 2) + (b2n t.rolls <<< 3)

def closeReason (loss tamper : Bool) (mark : Option (Nat × Nat)) : Nat := if loss then 4 else if tamper then 3 else if mark.isSome then 2 else 1

/-- A closure writes the record of the open interval, and opens the next. -/
theorem State.titheClose_kept {loss tamper : Bool} {mark : Option (Nat × Nat)} :
    (s.titheClose loss tamper mark).tithe.seq = s.tithe.seq + 1 ∧ (s.titheClose loss tamper mark).tithe.tag = mark.elim s.tithe.tag (fun m => m.1) ∧
    (s.titheClose loss tamper mark).tithe.openAt = s.tithe.time ∧ (s.titheClose loss tamper mark).tithe.energy = 0 ∧
    (s.titheClose loss tamper mark).tithe.odometer = s.tithe.odometer ∧
    (s.titheClose loss tamper mark).tithe.records.head? = some (s.tithe.seq,
      s.titheRecord (closeReason loss tamper mark) (closeFlags s.tithe loss tamper mark) 1 (mark.elim 0 (fun m => m.2))) ∧
    (s.titheClose loss tamper mark).tithe.tamperCount = s.tithe.tamperCount ∧ (s.titheClose loss tamper mark).tithe.sealCount = s.tithe.sealCount ∧
    (s.titheClose loss tamper mark).tithe.tamperLog = s.tithe.tamperLog ∧ (s.titheClose loss tamper mark).tithe.out = s.tithe.out :=
  ⟨rfl, rfl, rfl, rfl, rfl, rfl, rfl, rfl, rfl, rfl⟩

theorem completes_titheRollover (hon : s.tithe.powered = true) (hlong : s.tithe.openAt + 3600000000 ≤ s.tithe.time) :
    Completes .titheRollover s (fun t => t.tithe.seq = s.tithe.seq + 1 ∧ t.tithe.tag = s.tithe.tag ∧ t.tithe.openAt = s.tithe.time ∧
      t.tithe.energy = 0 ∧ t.tithe.odometer = s.tithe.odometer ∧ t.tithe.records.head? = some (s.tithe.seq, s.titheRecord 1 8 1 0)) := by
  have hrolls : s.tithe.rolls = true := decide_eq_true hlong
  obtain ⟨hseq, htag, hopen, henergy, hodo, hrec, -⟩ := State.titheClose_kept (s := s) (loss := false) (tamper := false) (mark := none)
  have hflags : closeFlags s.tithe false false none = 8 := by
    rw [closeFlags, hrolls]
    rfl
  refine Completes.intro (t := s.titheRollover) rfl ?_
  rw [State.titheRollover, hon, hrolls, if_pos (by decide)]
  rw [hflags] at hrec
  exact ⟨hseq, htag, hopen, henergy, hodo, hrec⟩

theorem exec_titheRollover_early (hshort : s.tithe.time < s.tithe.openAt + 3600000000) : exec .titheRollover s = .next s := by
  have hrolls : s.tithe.rolls = false := decide_eq_false (Nat.not_le.2 hshort)
  have hrun : s.titheRollover = s := by
    rw [State.titheRollover, hrolls, Bool.and_false, if_neg Bool.noConfusion]
  exact congrArg Host.Outcome.next hrun

theorem completes_tithePowerLoss {written : Bool} {k : Option (Fin 4)} {m : Option (BitVec 64 × BitVec 64)} (hon : s.tithe.powered = true) :
    Completes (.tithePowerLoss written k m) s (fun t => t.tithe.powered = false ∧ t.tithe.lossWritten = written ∧
      t.tithe.seq = (if written then s.tithe.seq + 1 else s.tithe.seq) ∧ t.tithe.odometer = s.tithe.odometer) := by
  refine Completes.intro (t := s.titheLoss written (k.map (fun k => k.val + 1)) (m.map (fun m => (m.1.toNat, m.2.toNat)))) rfl ?_
  unfold State.titheLoss
  rw [hon, Bool.not_true, if_neg Bool.noConfusion]
  cases written <;> cases k <;> exact ⟨rfl, rfl, rfl, rfl⟩

theorem completes_tithePowerReturn_closed (hoff : s.tithe.powered = false) (hwritten : s.tithe.lossWritten = true) :
    Completes .tithePowerReturn s (fun t => t.tithe.powered = true ∧ t.tithe.tag = s.tithe.tag ∧ t.tithe.openAt = s.tithe.time ∧
      t.tithe.energy = 0 ∧ t.tithe.ckptFlag = false) := by
  refine Completes.intro (t := s.titheReturn) rfl ?_
  rw [State.titheReturn, hoff, if_neg Bool.noConfusion, hwritten, if_pos rfl]
  exact ⟨rfl, rfl, rfl, rfl, rfl⟩

theorem completes_tithePowerReturn_open {u o e d p x n k : Nat} (hoff : s.tithe.powered = false) (hlost : s.tithe.lossWritten = false)
    (hckpt : s.tithe.ckpt = [u, o, e, d, p, x, n, k]) :
    Completes .tithePowerReturn s (fun t => t.tithe.powered = true ∧ t.tithe.tag = s.tithe.tag ∧
      t.tithe.time = max u (s.tithe.tamperLog.head?.elim 0 (fun e => e.1)) ∧ t.tithe.openAt = o ∧
      t.tithe.energy = e ∧ t.tithe.odometer = d ∧ t.tithe.ckptFlag = true) := by
  refine Completes.intro (t := s.titheReturn) rfl ?_
  rw [State.titheReturn, hoff, if_neg Bool.noConfusion, hlost, if_neg Bool.noConfusion]
  dsimp only
  rw [hckpt, List.isEmpty_cons, if_neg Bool.noConfusion]
  exact ⟨rfl, rfl, rfl, rfl, rfl, rfl, rfl⟩

theorem completes_titheCheckpoint (hon : s.tithe.powered = true) :
    Completes .titheCheckpoint s (fun t => t.tithe = { s.tithe with ckpt := [s.tithe.time, s.tithe.openAt, s.tithe.energy, s.tithe.odometer,
      s.tithe.peak, s.tithe.vMax, s.tithe.vMin, s.tithe.taken] }) := by
  refine Completes.intro (t := s.titheCheckpoint) rfl ?_
  rw [State.titheCheckpoint, hon, Bool.not_true, if_neg Bool.noConfusion]
  rfl

theorem completes_titheTamper {k : Fin 5} {m : Option (BitVec 64 × BitVec 64)} (hon : s.tithe.powered = true) :
    Completes (.titheTamper k m) s (fun t => t.tithe.tamperCount = s.tithe.tamperCount + 1 ∧
      t.tithe.sealCount = (if k.val = 0 then s.tithe.sealCount + 1 else s.tithe.sealCount) ∧
      t.tithe.tamperLog.head? = some (s.tithe.time, k.val + 1, s.tithe.seq % 2 ^ 32) ∧
      t.tithe.seq = (if k.val = 4 then s.tithe.seq else s.tithe.seq + 1)) := by
  obtain ⟨b, hb⟩ : ∃ b, b = s.setTithe (({ s.tithe with
    sealCount := if k.val + 1 = 1 then s.tithe.sealCount + 1 else s.tithe.sealCount } : TitheSt).log (k.val + 1)) := ⟨_, rfl⟩
  have hlogged : b.tithe.tamperCount = s.tithe.tamperCount + 1 ∧
      b.tithe.sealCount = (if k.val = 0 then s.tithe.sealCount + 1 else s.tithe.sealCount) ∧
      b.tithe.tamperLog.head? = some (s.tithe.time, k.val + 1, s.tithe.seq % 2 ^ 32) ∧ b.tithe.seq = s.tithe.seq := by
    rw [hb]
    refine ⟨rfl, ?_, rfl, rfl⟩
    change (if k.val + 1 = 1 then s.tithe.sealCount + 1 else s.tithe.sealCount) = _
    simp
  obtain ⟨hcount, hseal, hhead, hseq⟩ := hlogged
  obtain ⟨mark, hmark⟩ : ∃ mark, mark = m.map (fun m => (m.1.toNat, m.2.toNat)) := ⟨_, rfl⟩
  have hrun : s.titheTamper (k.val + 1) mark = if k.val = 4 then b else b.titheClose false true mark := by
    rw [State.titheTamper, if_neg (by simp [hon])]
    dsimp only
    rw [← hb]
    by_cases hlast : k.val = 4
    · rw [if_pos hlast, if_pos (by omega)]
    · rw [if_neg hlast, if_neg (by omega)]
  obtain ⟨hcseq, -, -, -, -, -, hccount, hcseal, hclog, -⟩ := State.titheClose_kept (s := b) (loss := false) (tamper := true) (mark := mark)
  refine Completes.intro (t := s.titheTamper (k.val + 1) mark) (by rw [hmark]; rfl) ?_
  rw [hrun]
  split
  · exact ⟨hcount, hseal, hhead, hseq⟩
  · exact ⟨hccount.trans hcount, hcseal.trans hseal, by rw [hclog, hhead], by rw [hcseq, hseq]⟩

/-! ### O47: the mirror (R525, R526) -/

section
variable {w : Nat × Nat} {rest : List (Nat × Nat)}

theorem State.mirrorWord_kept {off v : Nat} : (s.mirrorWord off v).reg (titheReg off) = v ∧ (s.mirrorWord off v).tithe = { s.tithe with lastWord := s.now } :=
  ⟨State.reg_setReg_self s (titheReg off) v, rfl⟩

theorem completes_mirrorSnapshot_begins (hon : s.tithe.powered = true) (hdies : s.power.dies = true) (hnone : s.tithe.snapWords = [])
    (heven : s.reg (titheReg 0x148) % 2 = 0) :
    Completes .mirrorSnapshot s (fun t => t.reg (titheReg 0x148) = s.reg (titheReg 0x148) + 1 ∧ t.tithe.snapWords ≠ [] ∧ t.tithe.lastWord = s.now) := by
  refine Completes.intro (t := s.mirrorSnapshot) rfl ?_
  rw [State.mirrorSnapshot, hon, hdies, if_neg (by decide)]
  dsimp only
  rw [hnone]
  dsimp only
  rw [if_pos heven]
  exact ⟨State.mirrorWord_kept.1, List.cons_ne_nil _ _, rfl⟩

theorem titheReg_mod : titheReg off % 0x1000 = off % 0x1000 := regAddr_mod ..

/-- A snapshot's word is shown, whatever event it raises. -/
theorem State.snapWord_kept {off v : Nat} : (s.snapWord off v).reg (titheReg off) = v ∧ (s.snapWord off v).tithe = { s.tithe with lastWord := s.now } ∧
    (s.snapWord off v).alm = s.alm := by
  obtain ⟨hreg, htithe⟩ := State.mirrorWord_kept (s := s) (off := off) (v := v)
  unfold State.snapWord
  dsimp only
  split_ifs with hsense htamper
  · have hoff : off = 0x100 := by
      simp only [Bool.and_eq_true, decide_eq_true_eq] at hsense
      exact hsense.1.1
    refine ⟨(State.reg_raiseErr (by rw [titheReg_mod, hoff]; decide)).trans hreg, by rw [State.raiseErr_tithe, htithe], State.raiseErr_alm ..⟩
  · have hoff : off = 0x130 := by
      simp only [Bool.and_eq_true, decide_eq_true_eq] at htamper
      exact htamper.1
    refine ⟨(State.reg_raiseErr (by rw [titheReg_mod, hoff]; decide)).trans hreg, by rw [State.raiseErr_tithe, htithe], State.raiseErr_alm ..⟩
  · exact ⟨hreg, htithe, rfl⟩

theorem completes_mirrorSnapshot_arrives (hon : s.tithe.powered = true) (hdies : s.power.dies = true) (hwords : s.tithe.snapWords = w :: rest) :
    Completes .mirrorSnapshot s (fun t => t.tithe.snapWords = rest ∧ t.tithe.lastWord = s.now ∧
      (rest = [] → t.reg (titheReg 0x148) = s.reg (titheReg 0x148) + 1) ∧
      (rest ≠ [] → 0x100 ≤ w.1 → t.reg (titheReg w.1) = w.2)) := by
  obtain ⟨b, hb⟩ : ∃ b, b = ({ s with tithe := { s.tithe with snapWords := rest } } : State).snapWord w.1 w.2 := ⟨_, rfl⟩
  obtain ⟨hreg, htithe, halm⟩ := State.snapWord_kept (s := { s with tithe := { s.tithe with snapWords := rest } }) (off := w.1) (v := w.2)
  rw [← hb] at hreg htithe halm
  have hrun : s.mirrorSnapshot = if rest.isEmpty then b.mirrorWord 0x148 (s.reg (titheReg 0x148) + 1) else b := by
    rw [State.mirrorSnapshot, hon, hdies, if_neg (by decide)]
    dsimp only
    rw [hwords, hb]
  refine Completes.intro (t := s.mirrorSnapshot) rfl ?_
  rw [hrun]
  cases rest with
  | nil =>
    have hnow : b.now = s.now := by rw [State.now, State.now, halm]
    obtain ⟨hgen, hlast⟩ := State.mirrorWord_kept (s := b) (off := 0x148) (v := s.reg (titheReg 0x148) + 1)
    rw [List.isEmpty_nil, if_pos rfl]
    exact ⟨by rw [hlast, htithe], by rw [hlast]; exact hnow, fun _ => hgen, fun h => absurd rfl h⟩
  | cons x xs =>
    rw [List.isEmpty_cons, if_neg Bool.noConfusion]
    exact ⟨by rw [htithe], by rw [htithe]; rfl, fun h => absurd h (List.cons_ne_nil _ _), fun _ _ => hreg⟩

theorem completes_mirrorRecordArrival_begins {q : Nat} {b : List Byte} {more : List (Nat × List Byte)} (hon : s.tithe.powered = true)
    (hdies : s.power.dies = true) (hnone : s.tithe.recWords = []) (hqueue : s.tithe.recQueue = (q, b) :: more) :
    Completes .mirrorRecordArrival s (fun t => t.tithe.recQueue = more ∧ t.tithe.recSeq = q ∧ t.tithe.recWords = recordWords q b ∧ t.regs = s.regs) := by
  refine Completes.intro (t := s.mirrorRecord) rfl ?_
  rw [State.mirrorRecord, hon, hdies, if_neg (by decide), hnone]
  dsimp only
  rw [hqueue]
  exact ⟨rfl, rfl, rfl, rfl⟩

theorem completes_mirrorRecordArrival_ends (hon : s.tithe.powered = true) (hdies : s.power.dies = true) (hlast : s.tithe.recWords = [w]) :
    Completes .mirrorRecordArrival s (fun t => t.tithe.recWords = [] ∧ t.reg (titheReg 0x128) = s.tithe.recSeq ∧
      t.reg (titheReg 0x138) = s.now ∧ t.Raised .titheRo 0 0) := by
  obtain ⟨b, hb⟩ : ∃ b, b = ({ s with tithe := { s.tithe with recWords := [] } } : State).mirrorWord w.1 w.2 := ⟨_, rfl⟩
  have hrun : s.mirrorRecord = ((b.setReg (titheReg 0x128) s.tithe.recSeq).setReg (titheReg 0x138) b.now).raise .titheRo 0 0 0x0913 0 := by
    rw [State.mirrorRecord, hon, hdies, if_neg (by decide), hlast]
    dsimp only
    rw [List.isEmpty_nil, if_pos rfl, hb]
  refine Completes.intro (t := s.mirrorRecord) rfl ?_
  rw [hrun]
  refine ⟨?_, ?_, ?_, State.raised_raise⟩
  · rw [State.raise_tithe, State.setReg_tithe, State.setReg_tithe, hb]
    rfl
  · rw [State.reg_raise (by rw [titheReg_mod]; decide) (by rw [titheReg_mod]; decide), State.reg_setReg_offset _ (by rw [titheReg_mod, titheReg_mod]; decide),
      State.reg_setReg_self]
  · rw [State.reg_raise (by rw [titheReg_mod]; decide) (by rw [titheReg_mod]; decide), State.reg_setReg_self, hb]
    rfl

theorem completes_titheMirrorStale (hrun : s.alm.running = true) (hfresh : bitOf (s.reg (titheReg 0x100)) 1 = false)
    (hsilent : s.tithe.lastWord + almMs 100 ≤ s.now) :
    Completes .titheMirrorStale s (fun t => bitOf (t.reg (titheReg 0x100)) 1 = true ∧ t.Raised .titheRo 0 3 ∧ t.tithe = s.tithe) := by
  have heq : s.mirrorStale = (s.setRf (titheReg 0x100) 1 1 1).raiseErr .titheRo 0 3 0x0912 0 0 0 := by
    rw [State.mirrorStale, if_pos (by simp [hrun, hfresh, hsilent])]
  have hset : bitsOf ((s.setRf (titheReg 0x100) 1 1 1).reg (titheReg 0x100)) 1 1 = 1 := State.rf_setRf_self
  refine Completes.intro (t := s.mirrorStale) rfl ?_
  rw [heq]
  refine ⟨?_, State.raised_raiseErr, by rw [State.raiseErr_tithe, State.setRf_tithe]⟩
  rw [State.reg_raiseErr (by rw [titheReg_mod]; decide)]
  exact beq_iff_eq.2 hset

end

/-- Settles O47, clause by clause. -/
theorem titheMeters : Obligations.TitheMeters :=
  ⟨fun _ _ _ hon => completes_titheSample hon, fun _ hon => ⟨completes_titheSelfCheck_deviates hon, completes_titheSelfCheck_holds hon⟩,
    fun _ hon hlong => completes_titheRollover hon hlong, fun _ _ hshort => exec_titheRollover_early hshort,
    fun _ _ _ _ hon => completes_tithePowerLoss hon, fun _ hoff hwritten => completes_tithePowerReturn_closed hoff hwritten,
    fun _ _ _ _ _ _ _ _ _ hoff hlost hckpt => completes_tithePowerReturn_open hoff hlost hckpt, fun _ hon => completes_titheCheckpoint hon,
    fun _ _ _ hon => completes_titheTamper hon, fun _ hon hdies hnone heven => completes_mirrorSnapshot_begins hon hdies hnone heven,
    fun _ _ _ hon hdies hwords => completes_mirrorSnapshot_arrives hon hdies hwords,
    fun _ _ _ _ hon hdies hnone hqueue => completes_mirrorRecordArrival_begins hon hdies hnone hqueue,
    fun _ _ hon hdies hlast => completes_mirrorRecordArrival_ends hon hdies hlast,
    fun _ hrun hfresh hsilent => completes_titheMirrorStale hrun hfresh hsilent⟩

end Sys2Proof.Machine
end

section
/-!
What the Tithe answers (O48).
-/
namespace Sys2Proof.Machine

set_option Elab.async false

variable {G : Prop} {F : Footprint} {s t u : State}

/-! ### O48: the Tithe's UART (R524) -/

section
variable {args : List Byte} {crc : BitVec 16}

/-- A response joins what has been sent, and nothing that is measured changes. -/
theorem State.uartSend_kept {cmd status : Nat} {payload : List Byte} : (s.uartSend cmd status payload).tithe.out = titheFrame cmd status payload :: s.tithe.out ∧
    (s.uartSend cmd status payload).tithe.seq = s.tithe.seq ∧ (s.uartSend cmd status payload).tithe.tag = s.tithe.tag ∧
    (s.uartSend cmd status payload).tithe.energy = s.tithe.energy ∧ (s.uartSend cmd status payload).tithe.openAt = s.tithe.openAt ∧
    (s.uartSend cmd status payload).tithe.records = s.tithe.records := by
  have hsent : ∃ n, s.uartSend cmd status payload = s.setTithe { s.tithe with out := titheFrame cmd status payload :: s.tithe.out, sendUntil := n } :=
    ⟨_, rfl⟩
  obtain ⟨n, hsent⟩ := hsent
  rw [hsent]
  exact ⟨rfl, rfl, rfl, rfl, rfl, rfl⟩

/-! A frame that is not taken is as if it had not come. -/

theorem exec_ident_notTaken (h : s.uartTakes 1 args crc.toNat = false) : exec (.ident args crc) s = .next s := by
  have hrun : s.uartIdent args crc.toNat = s := by simp [State.uartIdent, h]
  exact congrArg Host.Outcome.next hrun

theorem exec_status_notTaken (h : s.uartTakes 2 args crc.toNat = false) : exec (.status args crc) s = .next s := by
  have hrun : s.uartStatus args crc.toNat = s := by simp [State.uartStatus, h]
  exact congrArg Host.Outcome.next hrun

theorem exec_readRecord_notTaken (h : s.uartTakes 3 args crc.toNat = false) : exec (.readRecord args crc) s = .next s := by
  have hrun : s.uartRecord args crc.toNat = s := by simp [State.uartRecord, h]
  exact congrArg Host.Outcome.next hrun

theorem exec_readNow_notTaken (h : s.uartTakes 4 args crc.toNat = false) : exec (.readNow args crc) s = .next s := by
  have hrun : s.uartNow args crc.toNat = s := by simp [State.uartNow, h]
  exact congrArg Host.Outcome.next hrun

theorem exec_jobMark_notTaken (h : s.uartTakes 5 args crc.toNat = false) : exec (.jobMark args crc) s = .next s := by
  have hrun : s.uartMark args crc.toNat = s := by simp [State.uartMark, h]
  exact congrArg Host.Outcome.next hrun

theorem exec_tamperLog_notTaken (h : s.uartTakes 6 args crc.toNat = false) : exec (.tamperLog args crc) s = .next s := by
  have hrun : s.uartTamper args crc.toNat = s := by simp [State.uartTamper, h]
  exact congrArg Host.Outcome.next hrun

theorem completes_ident (htakes : s.uartTakes 1 [] crc.toNat = true) :
    Completes (.ident [] crc) s (fun t => t.tithe.out = titheFrame 1 0 (Config.titheCert.take 1024) :: s.tithe.out ∧ t.tithe.seq = s.tithe.seq) := by
  refine Completes.intro (t := s.uartIdent [] crc.toNat) rfl ?_
  rw [State.uartIdent, htakes, Bool.not_true, if_neg Bool.noConfusion, List.isEmpty_nil, Bool.not_true, if_neg Bool.noConfusion]
  exact ⟨State.uartSend_kept.1, State.uartSend_kept.2.1⟩

theorem completes_ident_refused (hargs : args ≠ []) (htakes : s.uartTakes 1 args crc.toNat = true) :
    Completes (.ident args crc) s (fun t => t.tithe.out = titheFrame 1 3 [] :: s.tithe.out) := by
  refine Completes.intro (t := s.uartIdent args crc.toNat) rfl ?_
  rw [State.uartIdent, htakes, Bool.not_true, if_neg Bool.noConfusion, if_pos (by simpa using hargs)]
  exact State.uartSend_kept.1

theorem completes_status (htakes : s.uartTakes 2 [] crc.toNat = true) :
    Completes (.status [] crc) s (fun t => t.tithe.out = titheFrame 2 0 (s.titheStatus.flatMap (fun x => leBytes 8 x.2)) :: s.tithe.out) := by
  refine Completes.intro (t := s.uartStatus [] crc.toNat) rfl ?_
  rw [State.uartStatus, htakes, Bool.not_true, if_neg Bool.noConfusion, List.isEmpty_nil, Bool.not_true, if_neg Bool.noConfusion]
  exact State.uartSend_kept.1

theorem completes_readRecord (htakes : s.uartTakes 3 args crc.toNat = true) (hlen : args.length = 8) :
    Completes (.readRecord args crc) s (fun t => t.tithe.out =
      (match s.tithe.records.find? (fun r => r.1 == leNat args) with | some r => titheFrame 3 0 r.2 | none => titheFrame 3 4 []) :: s.tithe.out) := by
  refine Completes.intro (t := s.uartRecord args crc.toNat) rfl ?_
  rw [State.uartRecord, htakes, Bool.not_true, if_neg Bool.noConfusion, if_neg (by simp [hlen])]
  cases s.tithe.records.find? (fun r => r.1 == leNat args) with
  | none => exact State.uartSend_kept.1
  | some r => exact State.uartSend_kept.1

theorem completes_readNow (htakes : s.uartTakes 4 args crc.toNat = true) (hlen : args.length = 8) :
    Completes (.readNow args crc) s (fun t => t.tithe.out = titheFrame 4 0 (s.titheRecord 0 0 2 (leNat args)) :: s.tithe.out ∧
      t.tithe.seq = s.tithe.seq) := by
  refine Completes.intro (t := s.uartNow args crc.toNat) rfl ?_
  rw [State.uartNow, htakes, Bool.not_true, if_neg Bool.noConfusion, if_neg (by simp [hlen])]
  exact ⟨State.uartSend_kept.1, State.uartSend_kept.2.1⟩

theorem completes_jobMark (htakes : s.uartTakes 5 args crc.toNat = true) (hlen : args.length = 16) :
    Completes (.jobMark args crc) s (fun t => t.tithe.seq = s.tithe.seq + 1 ∧ t.tithe.tag = leNat (args.take 8) ∧ t.tithe.energy = 0 ∧
      t.tithe.openAt = s.tithe.time ∧ ∃ r, t.tithe.records.head? = some (s.tithe.seq, r) ∧ t.tithe.out = titheFrame 5 0 r :: s.tithe.out) := by
  obtain ⟨b, hb⟩ : ∃ b, b = s.titheClose false false (some (leNat (args.take 8), leNat (args.drop 8))) := ⟨_, rfl⟩
  obtain ⟨hseq, htag, hopen, henergy, -, hrec, -, -, -, hout⟩ := State.titheClose_kept (s := s) (loss := false) (tamper := false)
    (mark := some (leNat (args.take 8), leNat (args.drop 8)))
  rw [← hb] at hseq htag hopen henergy hrec hout
  have hrun : s.uartMark args crc.toNat = b.uartSend 5 0 ((b.tithe.records.head?).elim [] (fun r => r.2)) := by
    rw [State.uartMark, htakes, Bool.not_true, if_neg Bool.noConfusion, if_neg (by simp [hlen]), hb]
  obtain ⟨r, hr⟩ : ∃ r, b.tithe.records.head? = some (s.tithe.seq, r) := ⟨_, hrec⟩
  rw [hr, Option.elim_some] at hrun
  refine Completes.intro (t := s.uartMark args crc.toNat) rfl ?_
  rw [hrun]
  obtain ⟨hsent, hsseq, hstag, hsenergy, hsopen, hsrec⟩ := State.uartSend_kept (s := b) (cmd := 5) (status := 0) (payload := r)
  exact ⟨hsseq.trans hseq, hstag.trans htag, hsenergy.trans henergy, hsopen.trans hopen, r, by rw [hsrec, hr], by rw [hsent, hout]⟩

theorem completes_tamperLog {e : Nat × Nat × Nat} (htakes : s.uartTakes 6 args crc.toNat = true) (hlen : args.length = 1) (hindex : leNat args < 64)
    (hentry : s.tithe.tamperLog[leNat args]? = some e) :
    Completes (.tamperLog args crc) s (fun t => t.tithe.out =
      titheFrame 6 0 (leBytes 8 e.1 ++ leBytes 4 (e.2.1 % 256) ++ leBytes 4 e.2.2) :: s.tithe.out) := by
  refine Completes.intro (t := s.uartTamper args crc.toNat) rfl ?_
  rw [State.uartTamper, htakes, Bool.not_true, if_neg Bool.noConfusion, if_neg (by simp [hlen, hindex])]
  rw [hentry]
  exact State.uartSend_kept.1

end

/-- Settles O48, clause by clause. -/
theorem titheAnswers : Obligations.TitheAnswers :=
  ⟨fun _ _ _ =>
      ⟨exec_ident_notTaken, exec_status_notTaken, exec_readRecord_notTaken, exec_readNow_notTaken, exec_jobMark_notTaken, exec_tamperLog_notTaken⟩, fun _ _ htakes => completes_ident htakes, fun _ _ htakes => completes_status htakes,
    fun _ _ _ htakes hlen => completes_readRecord htakes hlen, fun _ _ _ htakes hlen => completes_readNow htakes hlen,
    fun _ _ _ htakes hlen => completes_jobMark htakes hlen,
    fun _ _ _ _ htakes hlen hindex hentry => completes_tamperLog htakes hlen hindex hentry,
    fun _ _ _ hargs htakes => completes_ident_refused hargs htakes, fun _ => rfl⟩

end Sys2Proof.Machine
end

section
/-!
Straps and cold bring-up (O49).
-/
namespace Sys2Proof.Machine

set_option Elab.async false

variable {G : Prop} {F : Footprint} {s t u : State}

/-! ### O49: straps (R528) -/

theorem stewReg_mod : stewReg off % 0x1000 = off % 0x1000 := regAddr_mod ..

section
variable {p : BitVec 6} {sl : BitVec 8} {b : BitVec 2}

theorem State.logOpen_mem {info : Nat} : (s.logOpen info).mem = s.mem := rfl

/-- The sixteenth equal sample takes the straps. -/
theorem completes_strapSample_takes (hawake : s.awake = true) (hgoing : s.steward.halted = false) (hopen : s.steward.strapsTaken = false)
    (hrun : s.steward.strapRun = 15) (hlast : s.steward.strapLast = (p.toNat, sl.toNat, b.toNat)) :
    Completes (.strapSample p sl b) s (fun t => t.steward.strapsTaken = true ∧ t.steward.pwrDomain = p.toNat ∧ t.steward.slotId = sl.toNat ∧
      t.steward.bootSel = b.toNat ∧ t.mem = s.mem) := by
  refine Completes.intro (t := s.strapSample p.toNat sl.toNat b.toNat) rfl ?_
  unfold State.strapSample
  extract_lets v st run s1 s2
  have hsixteen : 16 ≤ run := by simp [run, st, v, hrun, hlast]
  have hclosed : ¬(!s.awake || st.halted) = true := by simp [st, hawake, hgoing]
  have hfree : ¬st.strapsTaken = true := by simp [st, hopen]
  rw [if_neg hclosed, if_neg hfree, if_pos hsixteen]
  split <;> exact ⟨rfl, rfl, rfl, rfl, rfl⟩

theorem completes_strapSample_changed (hawake : s.awake = true) (hgoing : s.steward.halted = false) (htaken : s.steward.strapsTaken = true)
    (hother : s.steward.strapLast ≠ (p.toNat, sl.toNat, b.toNat)) :
    Completes (.strapSample p sl b) s (fun t => t.steward.slotId = s.steward.slotId ∧ t.steward.pwrDomain = s.steward.pwrDomain ∧
      t.steward.bootSel = s.steward.bootSel ∧ s.Counted t (stewReg 0x1A8) 1 ∧ t.Raised .steward 0 3) := by
  obtain ⟨w, hw⟩ : ∃ w : State, w = { s with steward := { s.steward with strapLast := (p.toNat, sl.toNat, b.toNat) } } := ⟨_, rfl⟩
  have heq : s.strapSample p.toNat sl.toNat b.toNat = ((w.bump (stewReg 0x1A8)).logOpen 0).raise .steward 0 3 0 0 := by
    have hne : ((p.toNat, sl.toNat, b.toNat) == s.steward.strapLast) = false := beq_false_of_ne hother.symm
    rw [State.strapSample]
    dsimp only
    rw [if_neg (by simp [hawake, hgoing]), if_pos htaken, hne, if_neg Bool.noConfusion, hw]
  have hcount : s.Counted (w.bump (stewReg 0x1A8)) (stewReg 0x1A8) 1 := State.Counted.of_reg State.counted_bumpBy (by rw [hw]; rfl)
  have hlogged : ((w.bump (stewReg 0x1A8)).logOpen 0).regs = (w.bump (stewReg 0x1A8)).regs := rfl
  refine Completes.intro (t := s.strapSample p.toNat sl.toNat b.toNat) rfl ?_
  rw [heq]
  refine ⟨?_, ?_, ?_, ?_, State.raised_raise⟩
  · rw [State.raise_steward, hw]
    rfl
  · rw [State.raise_steward, hw]
    rfl
  · rw [State.raise_steward, hw]
    rfl
  · exact hcount.congr ((State.reg_raise (by rw [stewReg_mod]; decide) (by rw [stewReg_mod]; decide)).trans (State.reg_congr hlogged _))

end

/-! ### O49: the stages of bring-up (R529, R534) -/

section
variable {o : BringUp}

/-- The stages' end, with nothing that stops bring-up. -/
theorem State.stageDone_of_bringsUp (h : s.BringsUp) :
    (!s.awake || s.steward.halted || s.steward.scanHold || s.steward.ready || s.steward.warm) = false := by
  obtain ⟨hawake, hgoing, hhold, hready, hwarm⟩ := h
  simp [hawake, hgoing, hhold, hready, hwarm]

theorem State.enterCause_kept : s.enterCause.steward.stage = s.steward.stage ∧ s.enterCause.steward.causePending = 0 := by
  unfold State.enterCause
  dsimp only
  split
  next h => exact ⟨rfl, h⟩
  · exact ⟨rfl, rfl⟩

theorem State.haltBoot_kept {code : Nat} : (s.haltBoot code).steward.halted = true ∧ (s.haltBoot code).hitch.lastError = code ∧ (s.haltBoot code).mem = s.mem :=
  ⟨rfl, rfl, rfl⟩

/-- What bring-up finds at the end of a stage that goes on. -/
theorem State.stageDone_stages (h : s.BringsUp) :
    (s.steward.stage = 0 → s.stageDone o = s.setStage 1 0) ∧
    (s.steward.stage = 1 → s.steward.strapsTaken = true → s.steward.bootSel ≠ 3 → s.stageDone o = (s.setStage 2 0).enterCause) ∧
    (s.steward.stage = 1 → s.steward.strapsTaken = true → s.steward.bootSel = 3 →
      s.stageDone o = { s with steward := { s.steward with scanHold := true, progress := 100 } }) ∧
    (s.steward.stage = 2 → ∃ w : State, s.stageDone o = if o.seedOk then w.setStage 3 0 else w.haltBoot 0x0904) ∧
    (s.steward.stage = 3 → s.stageDone o = s.bootFirmware) ∧
    (s.steward.stage = 4 → s.steward.progress ≠ 100 → o.factoryOk = true → s.steward.vin = true → s.steward.heldOff = false →
      s.stageDone o = s.setStage 5 0) ∧
    (s.steward.stage = 5 → s.steward.vin = true → s.steward.heldOff = false → o.pllsLocked = true →
      s.stageDone o = ({ s with power := { s.power with dies := true }, alm := { s.alm with running := true } } : State).setStage 6 0) ∧
    (s.power.dies = true → 6 ≤ s.steward.stage → s.steward.stage ≤ 0x0A → ∃ w : State, s.stageDone o = w.setStage (s.steward.stage + 1) 0) ∧
    (s.power.dies = true → s.steward.stage = 0x0B → ∃ w : State, s.stageDone o = w.openFabric) := by
  have hgo := State.stageDone_of_bringsUp h
  unfold State.stageDone
  dsimp only
  rw [hgo, if_neg Bool.noConfusion]
  refine ⟨fun hs => ?_, fun hs ht hb => ?_, fun hs ht hb => ?_, fun hs => ?_, fun hs => ?_, fun hs hp ho hv hh => ?_, fun hs hv hh ho => ?_,
    fun hd hlo hhi => ?_, fun hd hs => ?_⟩
  · rw [if_pos hs]
  · simp [hs, ht, hb]
  · simp [hs, ht, hb]
  · exact ⟨if o.manyCorrections then s.logOpen 0 else s, by simp only [hs, OfNat.ofNat_ne_zero, OfNat.ofNat_ne_one, if_false, if_true]⟩
  · simp [hs]
  · simp [hs, hp, ho, hv, hh]
  · simp [hs, hv, hh, ho]
  · have hstages : s.steward.stage = 6 ∨ s.steward.stage = 7 ∨ s.steward.stage = 8 ∨ s.steward.stage = 9 ∨ s.steward.stage = 0x0A := by omega
    rcases hstages with hs | hs | hs | hs | hs <;> exact ⟨_, by simp [hs, hd]; rfl⟩
  · exact ⟨_, by simp [hs, hd]; rfl⟩

theorem State.noteCapacity_halted {before : State} {code : Nat} : ((s.haltBoot code).noteCapacity before).steward.halted = true ∧
    ((s.haltBoot code).noteCapacity before).hitch.lastError = code ∧ ((s.haltBoot code).noteCapacity before).mem = s.mem := by
  rw [State.noteCapacity_steward, State.noteCapacity_sameLink.lastError, State.noteCapacity_mem]
  exact State.haltBoot_kept

theorem completes_bringupStageComplete (h : s.BringsUp) :
    Completes (.bringupStageComplete o) s (fun t =>
      (s.steward.stage = 0 → t.steward.stage = 1) ∧
      (s.steward.stage = 1 → s.steward.strapsTaken = true → s.steward.bootSel ≠ 3 → t.steward.stage = 2 ∧ t.steward.causePending = 0) ∧
      (s.steward.stage = 1 → s.steward.strapsTaken = true → s.steward.bootSel = 3 → t.steward.stage = 1 ∧ t.steward.scanHold = true) ∧
      (s.steward.stage = 2 → o.seedOk = true → t.steward.stage = 3) ∧
      (s.steward.stage = 2 → o.seedOk = false → t.steward.halted = true ∧ t.hitch.lastError = 0x0904) ∧
      (s.steward.stage = 3 → ∀ k, s.takeTry.bootSlot = some k → t.steward.stage = 4 ∧ t.steward.booted = k) ∧
      (s.steward.stage = 3 → s.takeTry.bootSlot = none → t.steward.halted = true) ∧
      (s.steward.stage = 4 → s.steward.progress ≠ 100 → o.factoryOk = true → s.steward.vin = true → s.steward.heldOff = false → t.steward.stage = 5) ∧
      (s.steward.stage = 5 → s.steward.vin = true → s.steward.heldOff = false → o.pllsLocked = true →
        t.steward.stage = 6 ∧ t.power.dies = true ∧ t.alm.running = true) ∧
      (s.power.dies = true → 6 ≤ s.steward.stage → s.steward.stage ≤ 0x0A → t.steward.stage = s.steward.stage + 1) ∧
      (s.power.dies = true → s.steward.stage = 0x0B → t.steward.stage = 0x0E ∧ t.steward.fabricOpen = true ∧ t.steward.ready = true)) := by
  obtain ⟨hstandby, hstraps, hscan, hidentity, hfirmware, hfactory, hclocks, hdies, hreeve⟩ := State.stageDone_stages (o := o) h
  have hnoted : ((s.stageDone o).noteCapacity s).steward = (s.stageDone o).steward := State.noteCapacity_steward ..
  refine Completes.intro (t := (s.stageDone o).noteCapacity s) rfl ⟨fun hs => ?_, fun hs ht hb => ?_, fun hs ht hb => ?_, fun hs ho => ?_, fun hs ho => ?_,
    fun hs k hk => ?_, fun hs hk => ?_, fun hs hp ho hv hh => ?_, fun hs hv hh ho => ?_, fun hd hlo hhi => ?_, fun hd hs => ?_⟩
  · rw [hnoted, hstandby hs]
    rfl
  · rw [hnoted, hstraps hs ht hb]
    exact State.enterCause_kept
  · rw [hnoted, hscan hs ht hb]
    exact ⟨hs, rfl⟩
  · obtain ⟨w, hw⟩ := hidentity hs
    rw [hnoted, hw, if_pos ho]
    rfl
  · obtain ⟨w, hw⟩ := hidentity hs
    rw [hw, if_neg (by simp [ho])]
    exact ⟨State.noteCapacity_halted.1, State.noteCapacity_halted.2.1⟩
  · rw [hnoted, hfirmware hs, State.bootFirmware, hk]
    exact ⟨rfl, rfl⟩
  · rw [hnoted, hfirmware hs, State.bootFirmware, hk]
    exact State.haltBoot_kept.1
  · rw [hnoted, hfactory hs hp ho hv hh]
    rfl
  · rw [hnoted, State.noteCapacity_power, State.noteCapacity_alm, hclocks hs hv hh ho]
    exact ⟨rfl, rfl, rfl⟩
  · obtain ⟨w, hw⟩ := hdies hd hlo hhi
    rw [hnoted, hw]
    rfl
  · obtain ⟨w, hw⟩ := hreeve hd hs
    obtain ⟨-, hopen, hready, hstage⟩ := State.openFabric_opened (s := w)
    rw [hnoted, hw]
    exact ⟨hstage, hopen, hready⟩

variable {l : BitVec 14}

theorem completes_stageTimeout_halts (h : s.BringsUp) (hstage : 2 ≤ s.steward.stage) (hnot : s.steward.stage ≠ 6)
    (hfactory : s.steward.stage = 4 → s.steward.progress ≠ 100) :
    Completes (.stageTimeout l) s (fun t => t.steward.halted = true ∧ t.hitch.lastError = 0x0906 ∧ t.mem = s.mem) := by
  obtain ⟨hawake, hgoing, hhold, hready, hwarm⟩ := h
  have hwaits : ¬(s.steward.stage = 4 ∧ s.steward.progress = 100) := fun hw => hfactory hw.1 hw.2
  have hrun : s.stageTimeout l.toNat = s.haltBoot 0x0906 := by
    unfold State.stageTimeout
    extract_lets st
    rw [if_neg (by simp [st, hawake, hgoing, hhold, hready, hwarm]; omega), if_neg hnot]
  refine Completes.intro (t := (s.stageTimeout l.toNat).noteCapacity s) rfl ?_
  rw [hrun]
  exact State.noteCapacity_halted

theorem completes_stageTimeout_hedgerow (h : s.BringsUp) (hstage : s.steward.stage = 6) (hdies : s.power.dies = true) :
    Completes (.stageTimeout l) s (fun t => t.steward.stage = 7) := by
  obtain ⟨hawake, hgoing, hhold, hready, hwarm⟩ := h
  have hrun : s.stageTimeout l.toNat = (s.hedgeTrain l.toNat).setStage 7 0 := by
    unfold State.stageTimeout
    extract_lets st
    rw [if_neg (by simp [st, hawake, hgoing, hhold, hready, hwarm, hstage]), if_pos hstage, if_pos hdies]
  refine Completes.intro (t := (s.stageTimeout l.toNat).noteCapacity s) rfl ?_
  rw [hrun, State.noteCapacity_steward]
  rfl

end

/-- Settles O49, clause by clause. -/
theorem bringUpProceeds : Obligations.BringUpProceeds :=
  ⟨fun _ _ _ _ hawake hgoing hopen hrun hlast => completes_strapSample_takes hawake hgoing hopen hrun hlast,
    fun _ _ _ _ hawake hgoing htaken hother => completes_strapSample_changed hawake hgoing htaken hother,
    fun _ _ h => completes_bringupStageComplete h, fun _ _ h hstage hnot hfactory => completes_stageTimeout_halts h hstage hnot hfactory,
    fun _ _ h hstage hdies => completes_stageTimeout_hedgerow h hstage hdies⟩

end Sys2Proof.Machine
end

section
/-!
Supplies and clocks (O53).
-/
namespace Sys2Proof.Machine

set_option Elab.async false

variable {G : Prop} {F : Footprint} {s t u : State}

/-! ### O53: supplies and clocks (R542, R555, R559) -/

theorem State.journalFlush_power : s.journalFlush.power = s.power := rfl

/-- What the dies lose with their supply, whatever stood before. -/
structure Unpowered (s t : State) : Prop where
  dark : t.power.dies = false
  lost : s.power.dies = true → t.mem = []
  closed : s.power.dies = true → t.steward.fabricOpen = false

/-- The dies lose their supply where they had it. -/
theorem State.unpowered_diesOff {u : State} (h : u.power = s.power) : Unpowered s (if s.power.dies then u.diesOff else u) := by
  rcases hdies : s.power.dies with _ | _
  · exact ⟨by rw [if_neg Bool.noConfusion, h, hdies], fun hd => Bool.noConfusion (hd.symm.trans hdies), fun hd => Bool.noConfusion (hd.symm.trans hdies)⟩
  · rw [if_pos rfl]
    exact ⟨rfl, fun _ => rfl, fun _ => rfl⟩

theorem Unpowered.holdOff (h : Unpowered s t) : Unpowered s t.holdOff := ⟨h.dark, h.lost, h.closed⟩

theorem completes_vinLow (hvin : s.steward.vin = true) :
    Completes .vinLow s (fun t => t.steward.vin = false ∧ t.power.dies = false ∧
      (s.power.dies = true → t.mem = [] ∧ t.steward.fabricOpen = false)) := by
  obtain ⟨w, hw, hvinLow, hpower⟩ : ∃ w : State, (s.vinLow = if s.power.dies then w.diesOff else w) ∧ w.steward.vin = false ∧ w.power = s.power := by
    obtain ⟨w, hw⟩ : ∃ w : State, w = { s with steward := { s.steward with vin := false } } := ⟨_, rfl⟩
    refine ⟨if w.awake then w.logAdd 0x080E 0 else w, ?_, ?_, ?_⟩
    · subst hw
      rw [State.vinLow, hvin, if_neg Bool.noConfusion]
      rfl
    · subst hw
      split <;> rfl
    · subst hw
      split <;> rfl
  have hoff := State.unpowered_diesOff hpower
  refine Completes.intro (t := s.vinLow) rfl ?_
  rw [hw]
  refine ⟨?_, hoff.dark, fun hd => ⟨hoff.lost hd, hoff.closed hd⟩⟩
  split
  · exact hvinLow
  · exact hvinLow

theorem completes_vinHigh (hvin : s.steward.vin = true) (hawake : s.awake = true) :
    Completes .vinHigh s (fun t => t.steward.heldOff = true ∧ t.power.dies = false ∧ (s.power.dies = true → t.mem = [])) := by
  have hhigh : s.vinHigh = (if s.power.dies then (s.logAdd 0x080D 0).diesOff else s.logAdd 0x080D 0).holdOff := by
    simp [State.vinHigh, hvin, hawake]
  have hoff : Unpowered s s.vinHigh := by
    rw [hhigh]
    exact Unpowered.holdOff (State.unpowered_diesOff (s := s) (u := s.logAdd 0x080D 0) rfl)
  refine Completes.intro (t := s.vinHigh) rfl ⟨?_, hoff.dark, hoff.lost⟩
  rw [hhigh]
  rfl

theorem completes_vstbyLow (hvstby : s.steward.vstby = true) :
    Completes .vstbyLow s (fun t => t.steward.vstby = false ∧ t.power.dies = false ∧ t.journal.pending = [] ∧ (s.power.dies = true → t.mem = [])) := by
  obtain ⟨w, hw⟩ : ∃ w, w = s.enterCause.journalFlush := ⟨_, rfl⟩
  obtain ⟨b, hb⟩ : ∃ b, b = if s.power.dies then w.diesOff else w := ⟨_, rfl⟩
  have hlow : s.vstbyLow = { b with steward := { b.steward with vstby := false } } := by
    rw [State.vstbyLow, hvstby, if_neg Bool.noConfusion, hb, hw]
  have hpower : w.power = s.power := by
    rw [hw]
    exact part_kept .power fun h => h.enterCause.journalFlush
  have hflushed : w.journal.pending = [] := by
    rw [hw]
    exact State.journalFlush_pending
  have hoff : Unpowered s b := by
    rw [hb]
    exact State.unpowered_diesOff hpower
  have hempty : b.journal.pending = [] := by
    rw [hb]
    split
    · exact hflushed
    · exact hflushed
  refine Completes.intro (t := s.vstbyLow) rfl ?_
  rw [hlow]
  exact ⟨rfl, hoff.dark, hempty, hoff.lost⟩

theorem completes_refclkLost (hdies : s.power.dies = true) (hawake : s.awake = true) :
    Completes .refclkLost s (fun t => t.power.dies = false ∧ t.steward.heldOff = true ∧ t.steward.fabricOpen = false ∧ t.mem = []) := by
  refine Completes.intro (t := s.refclkLost) rfl ?_
  rw [State.refclkLost, if_pos (by rw [hdies, hawake]; rfl)]
  exact ⟨rfl, rfl, rfl, rfl⟩

theorem completes_mclkLost (hmclk : s.steward.mclk = true) (hawake : s.awake = true) :
    Completes .mclkLost s (fun t => t.steward.mclk = false ∧ t.regs = s.regs ∧ t.mem = s.mem) := by
  refine Completes.intro (t := s.mclkLost) rfl ?_
  rw [State.mclkLost, if_pos (by rw [hmclk, hawake]; rfl)]
  exact ⟨rfl, rfl, rfl⟩

/-- Settles O53, clause by clause: whatever takes the dies down leaves them unpowered, whether or not they were powered before. -/
theorem suppliesAndClocks : Obligations.SuppliesAndClocks :=
  ⟨fun _ => completes_vinLow, fun _ => completes_vinHigh, fun _ => completes_vstbyLow, fun _ => completes_refclkLost, fun _ => completes_mclkLost,
    fun _ => Completes.intro rfl rfl⟩

end Sys2Proof.Machine
end

section
/-!
The A/B update, quotes and the journal (O51).
-/
namespace Sys2Proof.Machine

set_option Elab.async false

variable {G : Prop} {F : Footprint} {s t u : State}

/-! ### O51: what a store and an image's check depend on -/

theorem State.storeSector_mem_congr {a : Nat} {bs : List Byte} (hmem : t.mem = s.mem) (hstack : t.stackList = s.stackList) :
    (t.storeSector a bs).mem = (s.storeSector a bs).mem := by
  unfold State.storeSector
  split
  · simp only [State.deadAt_congr hstack]
    split
    · exact hmem
    · simp [State.clearPoison, State.putBytes, hmem]
  · simp [State.clearPoison, State.putBytes, hmem]

/-- A store leaves in memory what the memory and the stacks that have failed settle. -/
theorem State.store_mem_congr {a : Nat} {bs : List Byte} (hmem : t.mem = s.mem) (hstack : t.stackList = s.stackList) :
    (t.store a bs).mem = (s.store a bs).mem := by
  unfold State.store
  split
  · refine (List.foldl_rel (r := fun x y : State => x.mem = y.mem ∧ x.stackList = y.stackList) ⟨hmem, hstack⟩ fun b _ x y h => ⟨?_, ?_⟩).1
    · exact State.storeSector_mem_congr h.1 h.2
    · exact (State.storePart_stackList (a := a) (bs := bs) x b).trans (h.2.trans (State.storePart_stackList (a := a) (bs := bs) y b).symm)
  · simp [State.clearPoison, State.putBytes, hmem]

theorem State.poisonedIn_congr {a n : Nat} (hpoison : t.poison = s.poison) (hstack : t.stackList = s.stackList) :
    t.poisonedIn a n = s.poisonedIn a n := by
  have hat : t.poisonedAt = s.poisonedAt := by
    funext b
    rw [State.poisonedAt, State.poisonedAt, hpoison, State.deadAt_congr hstack]
  rw [State.poisonedIn, State.poisonedIn, hat]

theorem State.gleanPoisonIn_congr {a n : Nat} (h : t.gleanMeta = s.gleanMeta) : t.gleanPoisonIn a n = s.gleanPoisonIn a n := by
  unfold State.gleanPoisonIn
  split
  · simp only [State.gmeta_congr h]
  · rfl

theorem State.slotImg_congr {k : Nat} (ha : t.steward.slotA = s.steward.slotA) (hb : t.steward.slotB = s.steward.slotB) : t.slotImg k = s.slotImg k := by
  rw [State.slotImg, State.slotImg, ha, hb]

theorem State.bootRec_congr (h0 : t.steward.rec0 = s.steward.rec0) (h1 : t.steward.rec1 = s.steward.rec1) : t.bootRec = s.bootRec := by
  rw [State.bootRec, State.bootRec, h0, h1]

theorem Reached.journalAdd {a src kind old new : Nat} (h : Reached s t) : Reached s (t.journalAdd a src kind old new) where
  touches := h.touches.journalAdd
  regs := h.regs.same

theorem Reached.steward (h : Reached s t) : t.steward = s.steward := h.touches.parts .steward rfl

theorem Reached.mem (h : Reached s t) : t.mem = s.mem := h.touches.parts .mem rfl

theorem Reached.stackList (h : Reached s t) : t.stackList = s.stackList := h.touches.parts .stackList rfl

theorem Reached.bootRec (h : Reached s t) : t.bootRec = s.bootRec := State.bootRec_congr (by rw [h.steward]) (by rw [h.steward])

theorem Reached.slotImg {k : Nat} (h : Reached s t) : t.slotImg k = s.slotImg k := State.slotImg_congr (by rw [h.steward]) (by rw [h.steward])

theorem Reached.stewRf {off hi lo : Nat} (h : Reached s t) (hoff : off % 0x1000 ≠ 0x1A0) : t.rf (stewReg off) hi lo = s.rf (stewReg off) hi lo :=
  State.rf_congr (h.reg (by rwa [stewReg_mod]))

theorem Reached.sameMap (h : Reached s t) : SameMap s t where
  fields := h.touches.parts .fields rfl
  power := h.touches.parts .power rfl
  stackList := h.stackList
  bankMoves := h.touches.parts .bankMoves rfl
  reg := fun f o ho => h.reg (by
    rw [regAddr_mod]
    fin_cases ho <;> decide)

/-- The check of an image comes out the same in the state that its write reaches. -/
theorem Reached.checkImage (h : Reached s t) : t.updAddr = s.updAddr ∧ t.updLen = s.updLen ∧ t.checkImage = s.checkImage := by
  have haddr : t.updAddr = s.updAddr := h.stewRf (by decide)
  have hlen : t.updLen = s.updLen := h.stewRf (by decide)
  have hpoison (a n : Nat) : t.readsPoison a n = s.readsPoison a n := by
    rw [State.readsPoison, State.readsPoison, State.poisonedIn_congr (h.touches.parts .poison rfl) h.stackList,
      State.gleanPoisonIn_congr (h.touches.parts .gleanMeta rfl)]
  refine ⟨haddr, hlen, ?_⟩
  simp only [State.checkImage, haddr, hlen, h.sameMap.populated, hpoison, State.bytes_congr h.mem, h.bootRec]

/-! ### O51: the two slots and the boot record (R534, R536) -/

theorem State.slotImg_setSlotImg {k : Nat} {x : ImageSlot} : (s.setSlotImg k x).slotImg k = x := by
  unfold State.setSlotImg State.slotImg
  split <;> rfl

theorem State.setSlotImg_steward {k : Nat} {x : ImageSlot} : ∃ a b, (s.setSlotImg k x).steward = { s.steward with slotA := a, slotB := b } := by
  unfold State.setSlotImg
  split
  · exact ⟨x, s.steward.slotB, rfl⟩
  · exact ⟨s.steward.slotA, x, rfl⟩

/-- The copy in force, or, with no copy sound, what stands for one. -/
theorem State.bootRec_cases :
    (s.steward.rec0.ok = true ∧ (s.steward.rec1.ok = true → s.steward.rec1.gen ≤ s.steward.rec0.gen) ∧ s.bootRec = s.steward.rec0) ∨
    (s.steward.rec1.ok = true ∧ (s.steward.rec0.ok = true → s.steward.rec0.gen < s.steward.rec1.gen) ∧ s.bootRec = s.steward.rec1) ∨
    (s.steward.rec0.ok = false ∧ s.steward.rec1.ok = false ∧ s.bootRec.ok = false) := by
  unfold State.bootRec
  dsimp only
  rcases h0 : s.steward.rec0.ok with _ | _ <;> rcases h1 : s.steward.rec1.ok with _ | _
  · exact .inr (.inr (by simp))
  · exact .inr (.inl (by simp))
  · exact .inl (by simp)
  · rcases Nat.lt_or_ge s.steward.rec0.gen s.steward.rec1.gen with hgen | hgen
    · exact .inr (.inl (by simp [hgen]))
    · exact .inl (by simp [hgen])

/-- A record written goes to the copy that is not in force, and is in force from then on: its generation is the greater one. -/
theorem State.bootRec_putBootRec {r : BootRec} : (s.putBootRec r).bootRec = { r with ok := true, gen := s.bootRec.gen + 1 } := by
  unfold State.putBootRec
  dsimp only
  split
  next hold =>
    have hold : s.bootRec = s.steward.rec0 := by simpa using hold
    rcases h0 : s.steward.rec0.ok with _ | _
    · simp [State.bootRec, h0]
    · rw [hold]
      simp [State.bootRec]
  next hold =>
    have hold : s.bootRec ≠ s.steward.rec0 := by simpa using hold
    rcases s.bootRec_cases with ⟨-, -, hfirst⟩ | ⟨-, -, hsecond⟩ | ⟨-, hnone, -⟩
    · exact absurd hfirst hold
    · rw [hsecond]
      simp [State.bootRec]
    · simp [State.bootRec, hnone]

theorem State.putBootRec_steward {r : BootRec} : ∃ a b, (s.putBootRec r).steward = { s.steward with rec0 := a, rec1 := b } := by
  unfold State.putBootRec
  dsimp only
  split
  · exact ⟨s.steward.rec0, _, rfl⟩
  · exact ⟨_, s.steward.rec1, rfl⟩

/-! ### O51: the update's commands (R536, R537) -/

/-- Of Steward, the end of an update's command leaves all but its state, its outcome and the log. -/
theorem State.updEnd_steward {x : UpdState} {code : Nat} : ∃ l n, (s.updEnd x code).steward =
    { s.steward with upd := x, updOutcome := code, staging := none, log := l, logCount := n } := by
  obtain ⟨w, hw⟩ : ∃ w : State, w = { s with steward := { s.steward with upd := x, updOutcome := code, staging := none } } := ⟨_, rfl⟩
  refine ⟨(w.logAdd code 0).steward.log, (w.logAdd code 0).steward.logCount, ?_⟩
  rw [State.updEnd, State.raise_steward, ← hw]
  subst hw
  rfl

section
variable {via : Via} {a v : Nat}

theorem Via.answered (via : Via) : Answered s (via.answer a v s) := by
  cases via with
  | hitch => exact (Answered.refl s).of_kept ((Touches.refl False.elim).respond)
  | ethernet => exact (Answered.refl s).etherAnswer
  | twoWire => exact .refl s
  | jtag => exact .refl s

theorem State.updEnd_answered {x : UpdState} {code : Nat} : ∃ l n m o, (via.answer a v (s.updEnd x code)).steward =
    { s.steward with upd := x, updOutcome := code, staging := none, log := l, logCount := n, mgmtLast := m, mgmtOut := o } := by
  obtain ⟨l, n, hend⟩ := s.updEnd_steward (x := x) (code := code)
  obtain ⟨b, hb⟩ : ∃ b, b = via.answer a v (s.updEnd x code) := ⟨_, rfl⟩
  have hanswered : Answered (s.updEnd x code) b := hb ▸ Via.answered via
  refine ⟨l, n, b.steward.mgmtLast, b.steward.mgmtOut, ?_⟩
  rw [← hb, hanswered.steward, hend]

theorem State.writeEffect_update {src : Source} : s.writeEffect src .steward 0 0x138 v = s.updCommand src.code (bitsOf v 2 0) := rfl

/-- A write of UPD_CMD runs its command in the state that it reaches. -/
theorem State.writeBy_update (hlands : Lands via s (stewReg 0x138) v) (hv : v < 8) : ∃ w, Reached s w ∧ s.writeBy via (stewReg 0x138) v =
    via.answer (stewReg 0x138) v (if v = 1 then w.updStage else if v = 2 then w.updActivate else if v = 3 then w.updConfirm else w.updAbandon) := by
  obtain ⟨u, hu, heq⟩ := State.writeBy_accepted (k := .steward) (i := 0) (off := 0x138) hlands (by omega) (by decide) (by decide) (by decide)
  have hcmd : bitsOf v 2 0 = v := by
    simp only [bitsOf]
    omega
  exact ⟨_, hu.journalAdd, by rw [stewReg, heq, State.writeEffect_update, State.updCommand, hcmd]⟩

theorem completes_stage (hlands : Lands via s (stewReg 0x138) 1) :
    Completes (.stage via) s (fun t => t.steward.upd = .staging ∧ t.steward.staging = some (s.bytes s.updAddr s.updLen, s.checkImage) ∧ t.mem = s.mem ∧
      (s.checkImage = 0 → (t.slotImg (1 - s.bootRec.active)).valid = false)) := by
  obtain ⟨w, hw, heq⟩ := State.writeBy_update hlands (by decide)
  rw [if_pos rfl] at heq
  obtain ⟨haddr, hlen, hcheck⟩ := hw.checkImage
  have hanswered := Via.answered via (s := w.updStage) (a := stewReg 0x138) (v := 1)
  have hstaged : w.updStage.steward.upd = .staging ∧ w.updStage.steward.staging = some (s.bytes s.updAddr s.updLen, s.checkImage) := by
    unfold State.updStage
    dsimp only
    rw [haddr, hlen, hcheck, State.bytes_congr hw.mem]
    split
    · obtain ⟨a, b, hset⟩ := State.setSlotImg_steward (k := 1 - w.bootRec.active) (x := { w.slotImg (1 - w.bootRec.active) with valid := false })
        (s := { w with steward := { w.steward with upd := .staging, updOutcome := 0, staging := some (s.bytes s.updAddr s.updLen, s.checkImage) } })
      rw [hset]
      exact ⟨rfl, rfl⟩
    · exact ⟨rfl, rfl⟩
  refine Completes.intro (t := s.writeBy via (stewReg 0x138) 1) rfl ⟨?_, ?_, mem_kept fun h => h.writeUpdate (by decide), fun hsound => ?_⟩
  · rw [heq, hanswered.steward]
    exact hstaged.1
  · rw [heq, hanswered.steward]
    exact hstaged.2
  · have hinvalid : (w.updStage.slotImg (1 - s.bootRec.active)).valid = false := by
      unfold State.updStage
      dsimp only
      rw [hcheck, if_pos hsound, hw.bootRec, State.slotImg_setSlotImg]
    rw [heq, State.slotImg_congr (s := w.updStage) (by rw [hanswered.steward]) (by rw [hanswered.steward])]
    exact hinvalid

theorem completes_activate (hlands : Lands via s (stewReg 0x138) 2) :
    Completes (.activate via) s (fun t => t.steward.upd = .activated ∧ t.bootRec.trial = some s.steward.stagedSlot ∧ t.bootRec.tries = 3 ∧
      t.bootRec.active = s.bootRec.active ∧ t.bootRec.gen = s.bootRec.gen + 1) := by
  obtain ⟨w, hw, heq⟩ := State.writeBy_update hlands (by decide)
  rw [if_neg (by decide), if_pos rfl, State.updActivate] at heq
  obtain ⟨b, hb⟩ : ∃ b, b = w.putBootRec { w.bootRec with trial := some w.steward.stagedSlot, tries := 3 } := ⟨_, rfl⟩
  have hrec : b.bootRec = { s.bootRec with ok := true, trial := some s.steward.stagedSlot, tries := 3, gen := s.bootRec.gen + 1 } := by
    rw [hb, State.bootRec_putBootRec, hw.bootRec, hw.steward]
  rw [← hb] at heq
  obtain ⟨l, n, m, o, hend⟩ := b.updEnd_answered (via := via) (a := stewReg 0x138) (v := 2) (x := .activated) (code := 0)
  refine Completes.intro (t := s.writeBy via (stewReg 0x138) 2) rfl ?_
  rw [heq, State.bootRec_congr (s := b) (by rw [hend]) (by rw [hend]), hrec, hend]
  exact ⟨rfl, rfl, rfl, rfl, rfl⟩

theorem completes_confirm (hlands : Lands via s (stewReg 0x138) 3) :
    Completes (.confirm via) s (fun t => t.bootRec.active = s.steward.booted ∧ t.bootRec.trial = none ∧ t.steward.bootedTrial = false ∧
      t.bootRec.floor = max s.bootRec.floor (s.slotImg s.steward.booted).security) := by
  obtain ⟨w, hw, heq⟩ := State.writeBy_update hlands (by decide)
  rw [if_neg (by decide), if_neg (by decide), if_pos rfl] at heq
  obtain ⟨p, hp⟩ : ∃ p, p = w.putBootRec { w.bootRec with
    active := w.steward.booted, trial := none, tries := 0, floor := max w.bootRec.floor (w.slotImg w.steward.booted).security } := ⟨_, rfl⟩
  obtain ⟨b, hb⟩ : ∃ b : State, b = { p with steward := { p.steward with bootedTrial := false } } := ⟨_, rfl⟩
  have hconfirm : w.updConfirm = b.updEnd .idle 0 := by rw [hb, hp, State.updConfirm]
  have hrec : b.bootRec = { s.bootRec with
    ok := true, active := s.steward.booted, trial := none, tries := 0, gen := s.bootRec.gen + 1, floor := max s.bootRec.floor (s.slotImg s.steward.booted).security } := by
    rw [State.bootRec_congr (s := p) (by rw [hb]) (by rw [hb]), hp, State.bootRec_putBootRec, hw.bootRec, hw.slotImg, hw.steward]
  obtain ⟨l, n, m, o, hend⟩ := b.updEnd_answered (via := via) (a := stewReg 0x138) (v := 3) (x := .idle) (code := 0)
  refine Completes.intro (t := s.writeBy via (stewReg 0x138) 3) rfl ?_
  rw [heq, hconfirm, State.bootRec_congr (s := b) (by rw [hend]) (by rw [hend]), hrec, hend, hb]
  exact ⟨rfl, rfl, rfl, rfl⟩

theorem completes_abandon (hlands : Lands via s (stewReg 0x138) 4) :
    Completes (.abandon via) s (fun t => t.bootRec.trial = none ∧ t.bootRec.active = s.bootRec.active ∧ t.steward.upd = .idle) := by
  obtain ⟨w, hw, heq⟩ := State.writeBy_update hlands (by decide)
  rw [if_neg (by decide), if_neg (by decide), if_neg (by decide)] at heq
  obtain ⟨p, hp⟩ : ∃ p, p = w.putBootRec { w.bootRec with trial := none, tries := 0 } := ⟨_, rfl⟩
  obtain ⟨b, hb⟩ : ∃ b : State, b = { p with steward := { p.steward with bootedTrial := false } } := ⟨_, rfl⟩
  have habandon : w.updAbandon = b.updEnd .idle 0 := by rw [hb, hp, State.updAbandon]
  have hrec : b.bootRec = { s.bootRec with ok := true, trial := none, tries := 0, gen := s.bootRec.gen + 1 } := by
    rw [State.bootRec_congr (s := p) (by rw [hb]) (by rw [hb]), hp, State.bootRec_putBootRec, hw.bootRec]
  obtain ⟨l, n, m, o, hend⟩ := b.updEnd_answered (via := via) (a := stewReg 0x138) (v := 4) (x := .idle) (code := 0)
  refine Completes.intro (t := s.writeBy via (stewReg 0x138) 4) rfl ?_
  rw [heq, habandon, State.bootRec_congr (s := b) (by rw [hend]) (by rw [hend]), hrec, hend]
  exact ⟨rfl, rfl, rfl⟩

/-! ### O51: quotes and certificates (R540) -/

theorem State.writeEffect_quote {src : Source} : s.writeEffect src .steward 0 0x150 1 = s.quoteStart := rfl

theorem State.writeEffect_certs {src : Source} : s.writeEffect src .steward 0 0x150 2 = s.writeCerts := rfl

theorem Reached.quoteAddr (h : Reached s t) : t.quoteAddr = s.quoteAddr := h.stewRf (by decide)

theorem completes_quote (hlands : Lands via s (stewReg 0x150) 1) :
    Completes (.quote via) s (fun t => t.steward.quote = .busy ∧ t.steward.quoteNonce = s.bytes (s.quoteAddr + 16) 64 ∧ t.mem = s.mem) := by
  obtain ⟨u, hu, heq⟩ := State.writeBy_accepted (k := .steward) (i := 0) (off := 0x150) hlands (by decide) (by decide) (by decide) (by decide)
  rw [State.writeEffect_quote] at heq
  refine Completes.intro (t := s.writeBy via (stewReg 0x150) 1) rfl ⟨?_, ?_, mem_kept fun h => h.writeQuote⟩
  · rw [stewReg, heq, (Via.answered via).steward]
    rfl
  · rw [stewReg, heq, (Via.answered via).steward]
    exact (State.bytes_congr hu.mem _ _).trans (by rw [hu.quoteAddr])

theorem completes_certs (hlands : Lands via s (stewReg 0x150) 2) :
    Completes (.certs via) s (fun t => t.mem = (s.store s.certAddr ((Config.certChain s.bootDigest).take 4096)).mem ∧
      t.steward.quote = s.steward.quote) := by
  obtain ⟨u, hu, heq⟩ := State.writeBy_accepted (k := .steward) (i := 0) (off := 0x150) hlands (by decide) (by decide) (by decide) (by decide)
  rw [State.writeEffect_certs] at heq
  have haddr : u.certAddr = s.certAddr := hu.stewRf (by decide)
  have hdigest : u.bootDigest = s.bootDigest := by rw [State.bootDigest, State.bootDigest, hu.steward, hu.slotImg]
  have hwritten : u.writeCerts.mem = (s.store s.certAddr ((Config.certChain s.bootDigest).take 4096)).mem := by
    rw [State.writeCerts, State.storeAs_mem, haddr, hdigest]
    exact State.store_mem_congr hu.mem hu.stackList
  have hcerts : u.writeCerts.steward = u.steward := part_kept .steward fun h => h.writeCerts
  refine Completes.intro (t := s.writeBy via (stewReg 0x150) 2) rfl ⟨?_, ?_⟩
  · rw [stewReg, heq]
    exact (show (via.answer _ _ u.writeCerts).mem = u.writeCerts.mem from Via.answer_kept via .mem).trans hwritten
  · rw [stewReg, heq, (Via.answered via).steward, hcerts, hu.steward]

end

theorem completes_quoteDone (hbusy : s.steward.quote = .busy) (hawake : s.awake = true) (hmap : s.populated s.quoteAddr 512 = true) :
    Completes .quoteDone s (fun t => t.steward.quote = .done ∧ t.steward.quoteCounter = (s.steward.quoteCounter + 1) % 2 ^ 32 ∧
      t.Raised .steward 0 2 ∧ t.mem = (s.store s.quoteAddr s.quoteBytes).mem) := by
  obtain ⟨w, hw⟩ : ∃ w, w = s.storeAs 0 s.quoteAddr s.quoteBytes := ⟨_, rfl⟩
  obtain ⟨b, hb⟩ : ∃ b : State, b = { w with steward := { w.steward with quote := .done, quoteCounter := (w.steward.quoteCounter + 1) % 2 ^ 32 } } := ⟨_, rfl⟩
  have hdone : s.quoteDone = b.raise .steward 0 2 0 0 := by
    have hopen : (s.steward.quote != .busy || !s.awake) = false := by simp [hbusy, hawake]
    rw [hb, hw, State.quoteDone, hopen, if_neg Bool.noConfusion]
    dsimp only
    rw [if_pos hmap]
    rfl
  have hsteward : w.steward = s.steward := by
    rw [hw]
    exact part_kept .steward fun h => h.storeAs
  refine Completes.intro (t := s.quoteDone) rfl ?_
  rw [hdone]
  refine ⟨?_, ?_, State.raised_raise, ?_⟩
  · rw [State.raise_steward, hb]
  · rw [State.raise_steward, hb, hsteward]
  · rw [State.raise_mem, hb, hw]
    exact State.storeAs_mem

/-! ### O51: a slot written, and the journal's flash (R537, R542) -/

theorem completes_stageComplete_staged {bs : List Byte} (hstaging : s.steward.upd = .staging) (himage : s.steward.staging = some (bs, 0)) (hawake : s.awake = true) :
    Completes (.stageComplete true) s (fun t => t.steward.upd = .staged ∧ t.slotImg (1 - s.bootRec.active) = slotOfImage bs ∧
      t.steward.stagedSlot = 1 - s.bootRec.active ∧ t.Raised .steward 0 0) := by
  obtain ⟨w, hw⟩ : ∃ w, w = s.setSlotImg (1 - s.bootRec.active) (slotOfImage bs) := ⟨_, rfl⟩
  obtain ⟨b, hb⟩ : ∃ b : State, b = { w with steward := { w.steward with stagedSlot := 1 - s.bootRec.active } } := ⟨_, rfl⟩
  have hrun : s.stageComplete true = b.updEnd .staged 0 := by
    rw [hb, hw, State.stageComplete, hstaging, himage]
    simp [hawake]
  obtain ⟨l, n, hend⟩ := b.updEnd_steward (x := .staged) (code := 0)
  refine Completes.intro (t := s.stageComplete true) rfl ?_
  rw [hrun]
  refine ⟨?_, ?_, ?_, State.raised_raise⟩
  · rw [hend]
  · rw [State.slotImg_congr (s := w) (by rw [hend, hb]) (by rw [hend, hb]), hw, State.slotImg_setSlotImg]
  · rw [hend, hb]

theorem completes_stageComplete_failed {ok : Bool} {bs : List Byte} {code : Nat} (hstaging : s.steward.upd = .staging)
    (himage : s.steward.staging = some (bs, code)) (hawake : s.awake = true) (hcode : code ≠ 0) :
    Completes (.stageComplete ok) s (fun t => t.steward.upd = .failed ∧ t.steward.updOutcome = code ∧ t.Raised .steward 0 0) := by
  have hrun : s.stageComplete ok = s.updEnd .failed code := by
    rw [State.stageComplete, hstaging, himage]
    simp [hawake, hcode]
  obtain ⟨l, n, hend⟩ := s.updEnd_steward (x := .failed) (code := code)
  refine Completes.intro (t := s.stageComplete ok) rfl ?_
  rw [hrun]
  refine ⟨?_, ?_, State.raised_raise⟩
  · rw [hend]
  · rw [hend]

theorem completes_journalPageWrite (hawake : s.awake = true) (hfull : 64 ≤ s.journal.pending.length) :
    Completes .journalPageWrite s (fun t => t.journal.pending = s.journal.pending.drop 64 ∧ t.journal.count = s.journal.count ∧
      t.journal.chain = s.journal.chain ∧ t.journal.flash = ((s.journal.pending.take 64).reverse ++ s.journal.flash).take journalFlash) := by
  have hrun : s.journalPage = s.journalFlushN 64 := by
    unfold State.journalPage
    split
    next hnone =>
      rw [hnone] at hfull
      exact absurd hfull (by decide)
    next => rw [if_pos (by simp [hawake, hfull])]
  refine Completes.intro (t := s.journalPage) rfl ?_
  rw [hrun]
  exact ⟨rfl, rfl, rfl, rfl⟩

/-- Settles O51, clause by clause: each command of the update runs in the state that its write reaches, and a boot record written is the one in force
from then on. -/
theorem updatesAndQuotes : Obligations.UpdatesAndQuotes :=
  ⟨fun _ _ => completes_stage, fun _ _ => completes_stageComplete_staged, fun _ _ _ _ => completes_stageComplete_failed, fun _ _ => completes_activate,
    fun _ _ => completes_confirm, fun _ _ => completes_abandon, fun _ _ => completes_quote, fun _ _ => completes_certs, fun _ => completes_quoteDone,
    fun _ => completes_journalPageWrite⟩

end Sys2Proof.Machine
end

section
/-!
The management ports and the test port (O52).
-/
namespace Sys2Proof.Machine

set_option Elab.async false

variable {G : Prop} {F : Footprint} {s t u : State}

/-! ### O52: a register's read through a management port (R544 to R546) -/

/-- A read may settle what its word counts; memory, the flights and Steward stand. -/
theorem State.regRead_kept {a : Nat} : (s.regRead a).st.mem = s.mem ∧ (s.regRead a).st.flights = s.flights ∧ (s.regRead a).st.steward = s.steward := by
  have hsettle (k : PageKind) (i off : Nat) :
      (s.settle k i off).mem = s.mem ∧ (s.settle k i off).flights = s.flights ∧ (s.settle k i off).steward = s.steward := by
    unfold State.settle
    dsimp only
    split <;> exact ⟨rfl, rfl, rfl⟩
  unfold State.regRead
  split
  · exact ⟨rfl, rfl, rfl⟩
  · dsimp only
    split
    · exact ⟨rfl, rfl, rfl⟩
    · split
      · exact ⟨rfl, rfl, rfl⟩
      · dsimp only
        split
        · exact hsettle ..
        · exact hsettle ..

/-- With the fabric open, a read that its page answers is answered once, with what the page read. -/
theorem State.mgmtRun_read {src : Source} {a v : Nat} {answer : State → Nat → Nat → State} {held : Nat → List Byte} (hopen : s.steward.fabricOpen = true)
    (hcode : ((s.bump (stewReg 0x1A0)).regRead a).code = 0) : s.mgmtRun src false a v answer held =
      answer ((s.bump (stewReg 0x1A0)).regRead a).st 0 ((s.bump (stewReg 0x1A0)).regRead a).data := by
  have hgate : s.mgmtGate false a = .open_ := by simp [State.mgmtGate, hopen]
  have hexec : s.mgmtExec src false a v = (s.bump (stewReg 0x1A0)).regRead a := by simp [State.mgmtExec, hcode]
  simp [State.mgmtRun, hgate, hexec, hcode]

section
variable {tag : BitVec 8} {seq : BitVec 32} {op a v : Nat}

/-- What a port finds in the first word of a request's datagram. -/
theorem datagram_head (hop : op = 1 ∨ op = 2) : ∃ w, leNat ((datagram op tag.toNat 0 seq.toNat a v).take 8) = w ∧ bitsOf w 7 0 = op ∧
    bitsOf w 15 8 = tag.toNat ∧ bitsOf w 31 16 = 0 ∧ bitsOf w 63 32 = seq.toNat := by
  refine ⟨op + tag.toNat * 256 + seq.toNat * 4294967296, ?_, ?_, ?_, ?_, ?_⟩
  · rw [take_datagram, leNat_leBytes]
    simp only [Nat.shiftLeft_eq]
    omega
  all_goals
    simp only [bitsOf, Nat.shiftRight_eq_div_pow]
    omega

/-- A datagram that the port takes and whose sequence number was answered last is answered again with what was answered. -/
theorem State.etherRequest_repeated {last : List Byte} (hop : op = 1 ∨ op = 2) (hawake : s.awake = true) (hmclk : s.steward.mclk = true)
    (ha : a < 2 ^ 48) (hlast : s.steward.mgmtLast = some (seq.toNat, last)) :
    s.etherRequest (datagram op tag.toNat 0 seq.toNat a v) = s.mgmtAnswer last := by
  have hlen : (datagram op tag.toNat 0 seq.toNat a v).length = 32 := by simp [datagram]
  obtain ⟨w, hw, hwop, -, hzero, hseq⟩ := datagram_head (tag := tag) (seq := seq) (a := a) (v := v) hop
  have hkind : (op ≠ 1 && op ≠ 2) = false := by rcases hop with rfl | rfl <;> rfl
  have hsmall : a / 2 ^ 48 = 0 := Nat.div_eq_of_lt ha
  unfold State.etherRequest
  dsimp only
  rw [if_neg (by simp [hawake, hmclk, hlen]), hw, hwop, hzero, hseq, addr_datagram ha, reserved_datagram, hsmall, hkind, if_neg (by decide), hlast]
  exact if_pos rfl

/-- A read's datagram that the port takes, and that is no repeat, is run. -/
theorem State.etherRequest_read (hawake : s.awake = true) (hmclk : s.steward.mclk = true)
    (hnew : s.steward.mgmtLast.all (fun (m : Nat × List Byte) => m.1 != seq.toNat) = true) (ha : a < 2 ^ 48) :
    ∃ w held, s.etherRequest (datagram 1 tag.toNat 0 seq.toNat a v) =
      s.drawn.mgmtRun .mgmtEthernet false a w (fun t c d => t.etherAnswer false tag.toNat seq.toNat a w c d) held := by
  have hlen : (datagram 1 tag.toNat 0 seq.toNat a v).length = 32 := by simp [datagram]
  obtain ⟨w, hw, hwop, hwtag, hzero, hseq⟩ := datagram_head (tag := tag) (seq := seq) (op := 1) (a := a) (v := v) (.inl rfl)
  have hsmall : a / 2 ^ 48 = 0 := Nat.div_eq_of_lt ha
  refine ⟨leNat (((datagram 1 tag.toNat 0 seq.toNat a v).drop 16).take 8), fun c => datagram 3 tag.toNat c seq.toNat a (s.freeBits 64), ?_⟩
  unfold State.etherRequest
  dsimp only
  rw [if_neg (by simp [hawake, hmclk, hlen]), hw, hwop, hwtag, hzero, hseq, addr_datagram ha, reserved_datagram, hsmall, if_neg (by decide)]
  rcases hlast : s.steward.mgmtLast with _ | ⟨n, last⟩
  · rfl
  · have hother : n ≠ seq.toNat := by simpa [hlast] using hnew
    exact if_neg hother

end

section
variable {tag : BitVec 8} {seq : BitVec 32} {a : BitVec 48} {target : BitVec 7} {address value : Word}

theorem completes_mgmtRequest_read (hawake : s.awake = true) (hmclk : s.steward.mclk = true) (hopen : s.steward.fabricOpen = true)
    (hnew : s.steward.mgmtLast.all (fun m => m.1 != seq.toNat) = true) (hcode : ((s.drawn.bump (stewReg 0x1A0)).regRead a.toNat).code = 0) :
    Completes (.mgmtRequest (datagram 1 tag.toNat 0 seq.toNat a.toNat 0)) s (fun t =>
      t.steward.mgmtOut = datagram 3 tag.toNat 0 seq.toNat a.toNat ((s.drawn.bump (stewReg 0x1A0)).regRead a.toNat).data :: s.steward.mgmtOut ∧
      t.mem = s.mem ∧ t.flights = s.flights) := by
  obtain ⟨w, held, hread⟩ := State.etherRequest_read (tag := tag) (v := 0) hawake hmclk hnew a.isLt
  rw [State.mgmtRun_read (s := s.drawn) hopen hcode] at hread
  obtain ⟨hmem, hflights, hsteward⟩ := (s.drawn.bump (stewReg 0x1A0)).regRead_kept (a := a.toNat)
  refine Completes.intro (t := s.etherRequest (datagram 1 tag.toNat 0 seq.toNat a.toNat 0)) rfl ?_
  rw [hread]
  refine ⟨?_, hmem, hflights⟩
  change datagram 3 tag.toNat 0 seq.toNat a.toNat _ :: ((s.drawn.bump (stewReg 0x1A0)).regRead a.toNat).st.steward.mgmtOut = _
  rw [hsteward]
  rfl

theorem exec_mgmtRequest_repeated {last : List Byte} (hawake : s.awake = true) (hmclk : s.steward.mclk = true)
    (hlast : s.steward.mgmtLast = some (seq.toNat, last)) :
    exec (.mgmtRequest (datagram 2 tag.toNat 0 seq.toNat a.toNat value.toNat)) s = .next (s.mgmtAnswer last) :=
  congrArg Host.Outcome.next (State.etherRequest_repeated (.inr rfl) hawake hmclk a.isLt hlast)

/-! ### O52: the two-wire port and the test port (R546, R547) -/

theorem completes_smbusRead (hframe : s.frameOk target true = true) (hawake : s.awake = true) (hopen : s.steward.fabricOpen = true)
    (hcode : ((s.drawn.bump (stewReg 0x1A0)).regRead address.toNat).code = 0) :
    Completes (.smbusRead target true address) s (fun t =>
      t.steward.mgmtOut = leBytes 8 ((s.drawn.bump (stewReg 0x1A0)).regRead address.toNat).data :: s.steward.mgmtOut ∧ t.mem = s.mem) := by
  obtain ⟨hmem, -, hsteward⟩ := (s.drawn.bump (stewReg 0x1A0)).regRead_kept (a := address.toNat)
  have hread : s.blockRequest .twoWire false address.toNat 0 =
      ((s.drawn.bump (stewReg 0x1A0)).regRead address.toNat).st.mgmtAnswer (leBytes 8 ((s.drawn.bump (stewReg 0x1A0)).regRead address.toNat).data) := by
    rw [State.blockRequest, if_neg (by simp [hawake]), State.mgmtRun_read (s := s.drawn) hopen hcode]
    rfl
  refine Completes.intro (t := if s.frameOk target true then s.blockRequest .twoWire false address.toNat 0 else s) rfl ?_
  rw [if_pos hframe, hread]
  refine ⟨?_, hmem⟩
  rw [State.mgmtAnswer, hsteward]
  rfl

theorem exec_smbusWrite_lands (hframe : s.frameOk target true = true) (hlands : Lands .twoWire s address.toNat value.toNat)
    (hnot : address.toNat / 8 ≠ stewReg 0x110 / 8) :
    exec (.smbusWrite target true address value) s = .next (Via.twoWire.reply s address.toNat value.toNat).st := by
  have hwrite : s.writeBy .twoWire address.toNat value.toNat = _ := State.writeBy_of_lands hlands value.isLt fun h => hnot (by rw [h])
  exact congrArg Host.Outcome.next ((if_pos hframe).trans hwrite)

theorem exec_jtagRegisterAccess_lands (hlands : Lands .jtag s address.toNat value.toNat) (hnot : address.toNat / 8 ≠ stewReg 0x110 / 8) :
    exec (.jtagRegisterAccess true address value) s = .next (Via.jtag.reply s address.toNat value.toNat).st :=
  congrArg Host.Outcome.next (State.writeBy_of_lands (via := .jtag) hlands value.isLt fun h => hnot (by rw [h]))

theorem completes_wake (hframe : s.frameOk target true = true) (hwinter : s.power.state = 4) :
    Completes (.wake target true) s (fun t => t.power.state = 3 ∧ t.steward.stage = 0 ∧ t.mem = [] ∧ t.steward.causePending = 6) := by
  have hstandby : s.steward.vstby = true := by
    simp only [State.frameOk, Bool.and_eq_true] at hframe
    exact hframe.2
  have hreset : ColdReset 6 s (s.coldReset 6 0 4) := State.coldReset_done
  refine Completes.intro (t := if s.frameOk target true then s.wake else s) rfl ?_
  rw [if_pos hframe, State.wake, if_pos (by simp [hstandby, hwinter])]
  exact ⟨rfl, hreset.stage, hreset.mem, hreset.waiting (by decide)⟩

end

theorem completes_idcode (hawake : s.awake = true) :
    Completes .idcode s (fun t => t.steward.mgmtOut =
      leBytes 4 (1 + (0x6B1 <<< 1) + (0xA808 <<< 12) + (s.rf (regAddr .dir 0 0x110) 19 16 <<< 28)) :: s.steward.mgmtOut) := by
  refine Completes.intro (t := s.idcode) rfl ?_
  rw [State.idcode, if_pos hawake]
  rfl

section
variable {tdi : List Bool}

theorem completes_extest_holding (hawake : s.awake = true) (hhold : s.steward.scanHold = true) :
    Completes (.extest tdi) s (fun t => t.steward.scanDrive = some (bitsNat tdi) ∧ t.steward.scanReg = bitsNat tdi) := by
  refine Completes.intro (t := s.extest tdi) rfl ?_
  rw [State.extest, if_neg (by simp [hawake]), if_pos hhold]
  exact ⟨rfl, rfl⟩

theorem exec_extest_free (hawake : s.awake = true) (hfree : s.steward.scanHold = false) : exec (.extest tdi) s = exec (.bypass tdi) s := by
  have hbypass : s.extest tdi = s.bypass tdi := by simp [State.extest, hawake, hfree]
  exact congrArg Host.Outcome.next hbypass

theorem completes_bypass (hawake : s.awake = true) :
    Completes (.bypass tdi) s (fun t => t.steward.mgmtOut = bypassed tdi :: s.steward.mgmtOut ∧ t.steward.scanDrive = s.steward.scanDrive) := by
  refine Completes.intro (t := s.bypass tdi) rfl ?_
  rw [State.bypass, if_pos hawake]
  exact ⟨rfl, rfl⟩

theorem completes_samplePreload (hawake : s.awake = true) :
    Completes (.samplePreload tdi) s (fun t => t.steward.scanReg = bitsNat tdi ∧ t.steward.scanDrive = s.steward.scanDrive) := by
  refine Completes.intro (t := s.samplePreload tdi) rfl ?_
  rw [State.samplePreload, if_pos hawake]
  exact ⟨rfl, rfl⟩

end

/-- Settles O52, clause by clause: a port that takes a request answers it with what the page answers, and a repeat with what it answered. -/
theorem managementPortsAnswer : Obligations.ManagementPortsAnswer :=
  ⟨fun _ _ _ _ => completes_mgmtRequest_read, fun _ _ _ _ _ _ => exec_mgmtRequest_repeated, fun _ _ _ => completes_smbusRead,
    fun _ _ _ _ => exec_smbusWrite_lands, fun _ _ => completes_wake, fun _ _ _ => exec_jtagRegisterAccess_lands, fun _ => completes_idcode,
    fun _ _ => completes_extest_holding, fun _ _ => exec_extest_free, fun _ _ => completes_bypass, fun _ _ => completes_samplePreload⟩

end Sys2Proof.Machine
end
